-- ==== Sys2Proof/Word.lean ====
section
/-!
DEFINITION. Word.lean: the plain words and containers of the module.
Widths follow 00_scope.md (conventions) and 10_letters.md R328.
-/

namespace Sys2Proof

/-- One byte of module or host memory. -/
abbrev Byte := BitVec 8
/-- A 4-byte parameter or 32-bit register. -/
abbrev W32 := BitVec 32
/-- An 8-byte parameter or 64-bit register. -/
abbrev W64 := BitVec 64
/-- A 16-byte Time parameter (R328): the 96-bit station time in bytes 0-11, bytes 12-15 RSV. -/
abbrev TimeParam := BitVec 128
/-- A MAC address. -/
abbrev Mac := BitVec 48
/-- An IP address, an IPv4 address in the low 32 bits (R328). -/
abbrev Ip := BitVec 128

/-- Sparse data by number: pairs (key, value), keys strictly rising, and no entry equal to the value an
unlisted key reads as. One canonical form, so equal contents are equal data. -/
abbrev NMap (α : Type) := List (Nat × α)

/-- Sparse data by a structured key, in order of first insertion, no key twice. -/
abbrev Assoc (κ α : Type) := List (κ × α)

end Sys2Proof
end

