-- ==== Sys2Proof/Syntax.lean ====
section
/-!
DEFINITION. Syntax.lean: the commands of the module, one constructor per row of spec/opcode_table.json,
and the types of their operands. A letter's parameters are carried as the letter's body holds them
(10 R328, R344): 4-byte parameters as W32, 8-byte ones as W64, a Time as TimeParam.
-/

namespace Sys2Proof

/-- The two postmasters (13, opening). -/
inductive Pm where
  | a | b
deriving DecidableEq, Repr

/-- A letter: the slice that sent it and its sequence number (10 R332). -/
structure LetterId where
  slice : Fin 64
  seq : W32
deriving DecidableEq, Repr

/-- A List parameter (10 R328): address and item count from the body, and the items as the courier read them
from host memory; none when the read met a bus error (R520). -/
structure ListArg (α : Type) where
  addr : W64
  count : W32
  items : Option (List α)
deriving DecidableEq, Repr

/-- The four RC time counters (19 R513). -/
inductive TimeCounter where
  | todBad | pcBad | epochFar | subepochSlip
deriving DecidableEq, Repr

/-- Where LETTER_TAKE finds the slice's next letter (10 R320): the 256-byte entry of a ring, none when its read
met a bus error (R321), or the slice's oldest in-band letter. -/
inductive TakeSource where
  | ring (r : Fin 8) (entry : Option (List Byte))
  | inband
deriving DecidableEq, Repr

/-- A UDP datagram at a management port (10 R323). -/
structure Datagram where
  v6 : Bool
  src : Ip
  dst : Ip
  srcPort : BitVec 16
  dstPort : BitVec 16
  vlan : BitVec 12
  payload : List Byte
deriving DecidableEq, Repr

/-- Parameters of MODULE.SET_MGMT (10 R344). -/
structure MgmtArgs where
  port : W32
  vlan : W32
  ipv4 : W32
  ipv4Plen : W32
  ipv4Gw : W32
  ipv6 : Ip
  ipv6Plen : W32
  ipv6Gw : Ip
deriving DecidableEq, Repr

/-- One item of the sources list (02 R42). -/
structure SourceItem where
  kind : W32
  port : W32
deriving DecidableEq, Repr

/-- A time-switched resource's page (02 R51). -/
inductive PageRef where
  | epoch
  | calendar (fgroup : Fin 12) (group : Fin 4)
  | tsPage (fgroup : Fin 12)
  | gates (port : Fin 192)
  | bench (b : Fin 32)
deriving DecidableEq, Repr

/-- Parameters of ROUTE.ADD (10 R344). -/
structure RouteArgs where
  vrf : W32
  family : W32
  pfx : Ip
  plen : W32
  kind : W32
  target : W32
  user : W32
deriving DecidableEq, Repr

/-- Parameters of ACL.SET_PROFILE (10 R344). -/
structure AclProfileArgs where
  profile : W32
  width : W32
  chunks : BitVec 320
  mask : W32
  select : W32
  enable : W32
deriving DecidableEq, Repr

/-- Parameters of POLICER.CONFIGURE (05 R166). -/
structure PolicerArgs where
  policer : W32
  scheme : W32
  aware : W32
  cir : W64
  pir : W64
  cbs : W64
  ebs : W64
  pbs : W64
  adjust : W32
deriving DecidableEq, Repr

/-- One record of a block letter's list: an item letter of the group (10 R343). `badHeader` is a record whose
seq, slice, cookie, check, flags or padding break R343. The policer letters are items of no block; they are listed for
the staging that all item letters share. -/
inductive TableRecord where
  | routeAdd (a : RouteArgs)
  | routeDelete (vrf family : W32) (pfx : Ip) (plen : W32)
  | exactAdd (type : W32) (key : BitVec 256) (result : W64)
  | exactDelete (type : W32) (key : BitVec 256)
  | nhWrite (nh voqBase port module encap : W32)
  | nhDelete (nh : W32)
  | ecmpWrite (group mode : W32) (members : ListArg W32)
  | ecmpDelete (group : W32)
  | aclWrite (bank index : W32) (value mask : BitVec 640) (action : W64)
  | aclDelete (bank index : W32)
  | aclProfile (a : AclProfileArgs)
  | aclSelect (profile : W32) (masks : ListArg W32)
  | policerWrite (a : PolicerArgs)
  | policerDelete (policer : W32)
  | badHeader
deriving DecidableEq, Repr

/-- PTP event messages (02 R40). -/
inductive PtpKind where
  | sync | delayReq | pdelayReq | pdelayResp
deriving DecidableEq, Repr

/-- An RS-FEC codeword as the receiver decoded it (03 R83, R114): uncorrectable, or with the symbols corrected on each
lane that carried some. -/
inductive Codeword where
  | uncorrectable | corrected (symbols : List (Fin 192 × Fin 16))
deriving DecidableEq, Repr

/-- Errors that an OTUC instance's overhead reported with a frame: BIP-8 errors and backward errors of the section (SM)
and of the path (PM) (03 R106, R114). -/
structure OtnErrors where
  smBip : Fin 9
  smBei : Fin 9
  pmBip : Fin 9
  pmBei : Fin 9
deriving DecidableEq, Repr

/-- A class that wants, in the Depot cycle of a request, the same last buffer of a pool of a tier (06 R199). -/
structure Rival where
  tier : Fin 2
  pool : Fin 4
  cls : Fin 5
deriving DecidableEq, Repr

/-- Causes that take a port from UP (03 R90). -/
inductive PortFaultCause where
  | lockLoss | localFault | remoteFault
deriving DecidableEq, Repr

/-- The alignment machines of an OTUCn interface (03 R104, R105): FlexO markers, the FAS of an OTUC instance, MFAS. -/
inductive AlignLayer where
  | flexo | otuc (i : Fin 16) | mfas
deriving DecidableEq, Repr

/-- OTN defects of 03 R106, other than LOF and LOM; `deskew` is R105's differential delay beyond 2 us. -/
inductive OtnDefect where
  | tim | oduAis | oduOci | oduLck | deskew
  | tribAis (trib : BitVec 16) | tribOci (trib : BitVec 16) | tribLck (trib : BitVec 16)
  | tribOmfi (trib : BitVec 16) | msi (trib : BitVec 16)
deriving DecidableEq, Repr

/-- Parameters of PORT.CONFIGURE (10 R344). -/
structure PortArgs where
  port : W32
  mode : W32
  medium : W32
  mtu : W64
  trainTimeout : W64
  debounce : W64
  holdoff : W64
  fecDegrade : W32
  pause : W32
  pcpMap : W32
  tcMap : W32
  dscpMap0 : W32
  dscpMap1 : W32
  dscpMap2 : W32
  dscpMap3 : W32
  hashProfile : W32
  alwaysOn : W32
deriving DecidableEq, Repr

/-- Transmit equaliser taps (10 R344, PORT.SET_TX_EQ). -/
structure TxTaps where
  pre2 : W32
  pre1 : W32
  main : W32
  post1 : W32
deriving DecidableEq, Repr

/-- Parameters of ENVELOPE.CREATE_OTU (10 R344). -/
structure OtuArgs where
  fgroup : W32
  iface : W32
  n : W32
  firstLane : W32
  lanes : W32
  frameN : W32
  frameM : W32
  timAct : W32
deriving DecidableEq, Repr

/-- One entry of a tributary-slot connection page (03 R109). -/
structure TsEntry where
  allocated : Bool
  trib : BitVec 16
  client : BitVec 16
deriving DecidableEq, Repr

/-- A buffer of either tier (06 R193, R195). -/
inductive BufId where
  | shallow (granule : Fin 288) (index : BitVec 12)
  | deep (pchan : Fin 512) (pool : Fin 4) (index : BitVec 18)
deriving DecidableEq, Repr

/-- Owners of a buffer, the types of the ownership record (06 R200); also the agent of a free. -/
inductive Owner where
  | queue (q : BitVec 19)
  | reassembly (ctx : BitVec 20)
  | mirror (session : BitVec 10)
  | dlq
  | courier (channel : Fin 64)
  | block (q : BitVec 20)
deriving DecidableEq, Repr

/-- Parameters of BUFFER.SET_ADMISSION (06 R208 in its order). -/
structure AdmissionArgs where
  profile : W32
  guaranteed : W64
  spillEnable : W32
  spill : W64
  alphaShallow : W32
  alphaDeep : W32
  max : W64
  yellow : W32
  red : W32
deriving DecidableEq, Repr

/-- Parameters of BUFFER.SET_DLQ (10 R344). -/
structure DlqArgs where
  mask : W32
  reasons : BitVec 512
  limit : W64
  snap : W64
  ring : W64
  depth : W32
deriving DecidableEq, Repr

/-- Parameters of QUEUE.CONFIGURE (07 R226 in its order). -/
structure QueueArgs where
  queue : W32
  admission : W32
  maxAge : W64
  destModule : W32
  destPort : W32
  cls : W32
  eqBase : W32
  eqMask : W32
  parentLevel : W32
  parentNode : W32
  priority : W32
  weight : W32
  gate : W32
  pfcClass : W32
deriving DecidableEq, Repr

/-- Parameters of QUEUE.SET_NODE (07 R233). -/
structure NodeArgs where
  level : W32
  node : W32
  parentLevel : W32
  parentNode : W32
  priority : W32
  weight : W32
  cir : W64
  cbs : W64
  pir : W64
  pbs : W64
  lengthProfile : W32
deriving DecidableEq, Repr

/-- Parameters of QUEUE.SET_PORT (10 R344); classes 0-7 in order, class 0 in the low word. -/
structure QueuePortArgs where
  port : W32
  overspeed : W32
  grantStop : W64
  hold : W64
  gateLead : W64
  classPriority : List W32
  classWeight : List W32
deriving DecidableEq, Repr

/-- Causes that take a fabric link from UP to DOWN in hardware (08 R261, the first three in its order). -/
inductive LinkCause where
  | cdrLoss | uncorrectable | markers
deriving DecidableEq, Repr

/-- What a read of the deep tier returned (09 R302); `badCheck`: a descriptor block whose `check` fails (06 R206). -/
inductive ReadOutcome where
  | ok | corrected | correctedOnRepeat | uncorrectable | badCheck
deriving DecidableEq, Repr

/-- One training of a byte lane (09 R303): bit i of a map is set when step i passed. -/
structure Sweep where
  rd : BitVec 128
  vref : BitVec 64
  rdAgain : BitVec 128
  wr : BitVec 128
deriving DecidableEq, Repr

/-- What training found on a byte lane of a stack (09 R303, R304): the first training, the bits that failed alone,
and the training after a repair. `lane` is 4 x pseudo-channel + lane within it. -/
structure LaneSweep where
  lane : BitVec 8
  first : Sweep
  failedBits : BitVec 8
  second : Sweep
deriving DecidableEq, Repr

/-- The positions that passed in a re-centre (09 R308): bit i is position centre - 16 + 2i. -/
structure LaneEdges where
  rd : BitVec 17
  wr : BitVec 17
deriving DecidableEq, Repr

/-- A quota item (11 R350) as one 128-bit number. -/
abbrev QuotaItem := BitVec 128

/-- The courier's requesters (12 R374). -/
inductive Requester where
  | channel (c : Fin 64)
  | letterEngine | eventWriter | deadLetter | overhead | telemetry
deriving DecidableEq, Repr

/-- Self-test items (13 R404). -/
inductive SelftestItem where
  | sram | cores | controlBus | flash (part : Fin 6) (bankB : Bool) | stateCopy | arbiterPath
deriving DecidableEq, Repr

/-- Failures of 13 R405 other than a heartbeat lapse, codes 0x01-0x06 in order. -/
inductive FailCode where
  | sram | core | controlBus | stateCopy | flash | arbiterPath
deriving DecidableEq, Repr

/-- A temperature reading in degrees Celsius (16 R460). -/
inductive TempReading where
  | sorter (t : BitVec 8) | depot (t : BitVec 8) | hbm (stack : Fin 8) (t : BitVec 8) | postmaster (pm : Pm) (t : BitVec 8)
deriving DecidableEq, Repr

/-- The monitored reference inputs, in the order of 17 R486. -/
inductive RefInput where
  | serdes | pcie | ref25m | ref10m
deriving DecidableEq, Repr

/-- Kinds of PCIe reset (16 R467). -/
inductive PcieResetKind where
  | perst | hotReset | linkDown | flr
deriving DecidableEq, Repr

/-- Fields of the PCI Express configuration space that the module's requests follow (11 R345, 12 R375, R385). -/
inductive ConfigField where
  | pasidEnable (on : Bool)
  | relaxedOrdering (on : Bool)
  | maxPayload (code : BitVec 3)
  | maxReadRequest (code : BitVec 3)
deriving DecidableEq, Repr

/-- The commands: one constructor per row of spec/opcode_table.json, in its order. -/
inductive Instr where
  /-- REGISTER_WRITE (R14). -/
  | registerWrite (offset : BitVec 26) (wide : Bool) (value : W64)
  /-- TIM_NOW_LATCH (R516). -/
  | timNowLatch (wide : Bool)
  /-- TIME_COUNTER_READ (R12). -/
  | timeCounterRead (which : TimeCounter)
  /-- RESET_CAUSE_CLEAR (R469). -/
  | resetCauseClear (value : W32)
  /-- LOG_FULL_CLEAR (R488). -/
  | logFullClear (value : W32)
  /-- MSIX_TABLE_WRITE (R512). -/
  | msixTableWrite (entry : Fin 2048) (word : Fin 4) (value : W32)
  /-- BOOT_RING_ENABLE (R515). -/
  | bootRingEnable (value : W32)
  /-- BOOT_RING_DISABLE (R515). -/
  | bootRingDisable (value : W32)
  /-- LETTER_DOORBELL (R317). -/
  | letterDoorbell (slice : Fin 64) (ring : Fin 8) (count : W32)
  /-- RECEIPT_DOORBELL (R317). -/
  | receiptDoorbell (slice : Fin 64) (ring : Fin 8) (count : W32)
  /-- EVENT_DOORBELL (R317). -/
  | eventDoorbell (slice : Fin 64) (count : W32)
  /-- PLACE_DOORBELL (R378). -/
  | placeDoorbell (channel : Fin 64) (count : W32)
  /-- CONSUME_DOORBELL (R384). -/
  | consumeDoorbell (channel : Fin 64) (count : W32)
  /-- LETTER_TAKE (R320). -/
  | letterTake (pm : Pm) (slice : Fin 64) (source : TakeSource)
  /-- EFFECT_STEP (R400). -/
  | effectStep (pm : Pm) (l : LetterId) (standbyAck : Bool)
  /-- RECEIPT_WRITE (R318). -/
  | receiptWrite (slice : Fin 64) (ring : Fin 8) (busOk : Bool)
  /-- RECEIPT_DELIVERY_CONFIRM (R401). -/
  | receiptDeliveryConfirm (slice : Fin 64) (ring : Fin 8)
  /-- EVENT_WRITE (R342). -/
  | eventWrite (slice : Fin 64) (busOk : Bool)
  /-- INBAND_DATAGRAM (R323). -/
  | inbandDatagram (port : Fin 2) (d : Datagram)
  /-- INBAND_REPLY_SEND (R323). -/
  | inbandReplySend (slice : Fin 64)
  /-- ARP_REQUEST (R325). -/
  | arpRequest (port : Fin 2) (target sender : BitVec 32) (senderMac : Mac)
  /-- NEIGHBOUR_SOLICITATION (R325). -/
  | neighbourSolicitation (port : Fin 2) (target sender : Ip) (senderMac : Mac)
  /-- ECHO_REQUEST (R325). -/
  | echoRequest (port : Fin 2) (v6 : Bool) (dst src : Ip)
  /-- ADDRESS_RESOLVED (R325). -/
  | addressResolved (port : Fin 2) (v6 : Bool) (addr : Ip) (mac : Mac)
  /-- MGMT_FRAME_OTHER (R325). -/
  | mgmtFrameOther (port : Fin 2)
  /-- RESOLUTION_RETRY (R325). -/
  | resolutionRetry (port : Fin 2) (v6 : Bool) (addr : Ip)
  /-- NEIGHBOUR_EXPIRY (R325). -/
  | neighbourExpiry (port : Fin 2) (v6 : Bool) (addr : Ip)
  /-- MODULE_IDENTIFY (R521). -/
  | moduleIdentify (l : LetterId)
  /-- MODULE_SET_ID (R472). -/
  | moduleSetId (l : LetterId) (moduleId : W32)
  /-- MODULE_SET_COMPAT (R77). -/
  | moduleSetCompat (l : LetterId) (low high : W32)
  /-- MODULE_OPEN_RING (R316). -/
  | moduleOpenRing (l : LetterId) (ring : W32) (letters receipts : W64) (depth : W32)
  /-- MODULE_CLOSE_RING (R344). -/
  | moduleCloseRing (l : LetterId) (ring : W32)
  /-- MODULE_SET_EVENT_RING (R341). -/
  | moduleSetEventRing (l : LetterId) (events : W64) (depth : W32)
  /-- MODULE_SAVE_SETTINGS (R429). -/
  | moduleSaveSettings (l : LetterId)
  /-- SETTINGS_SAVE_COMPLETE (R429). -/
  | settingsSaveComplete (readBackOk : Bool)
  /-- MODULE_RESET (R467). -/
  | moduleReset (l : LetterId) (kind : W32)
  /-- MODULE_SET_MGMT (R324). -/
  | moduleSetMgmt (l : LetterId) (a : MgmtArgs)
  /-- TIME_SET_SOURCE (R41). -/
  | timeSetSource (l : LetterId) (mode : W32) (sources : ListArg SourceItem) (wtr : W64)
  /-- TIME_ADJUST (R41). -/
  | timeAdjust (l : LetterId) (phase : W64) (freq : W32)
  /-- TIME_SET_QUALITY (R47). -/
  | timeSetQuality (l : LetterId) (state : W32) (error : W64)
  /-- TIME_SET_HOLDOVER (R47). -/
  | timeSetHoldover (l : LetterId) (rate : W32)
  /-- TIME_SET_PTP (R42). -/
  | timeSetPtp (l : LetterId) (port enable domain steps : W32)
  /-- TIME_READ (R521). -/
  | timeRead (l : LetterId)
  /-- EPOCH_OPEN (R53). -/
  | epochOpen (l : LetterId) (n : W32)
  /-- EPOCH_COMMIT (R62). -/
  | epochCommit (l : LetterId) (n count : W32) (t : TimeParam) (spacing : W64)
  /-- EPOCH_ABORT (R65). -/
  | epochAbort (l : LetterId) (n : W32)
  /-- EPOCH_CANCEL (R62). -/
  | epochCancel (l : LetterId) (n : W32)
  /-- EPOCH_STATUS (R521). -/
  | epochStatus (l : LetterId)
  /-- EPOCH_SWITCH (R64). -/
  | epochSwitch
  /-- DEFERRED_SWITCH (R57). -/
  | deferredSwitch (page : PageRef)
  /-- EPOCH_RELEASE (R64). -/
  | epochRelease
  /-- SUBEPOCH_SWITCH (R69). -/
  | subepochSwitch
  /-- SEQUENCED_LIST_FETCH (R68). -/
  | sequencedListFetch (data : Option (List TableRecord))
  /-- POSTCARD_SEND (R72). -/
  | postcardSend
  /-- POSTCARD_RECEIVE (R73). -/
  | postcardReceive (link : Fin 256) (cell : List Byte) (fecOk : Bool)
  /-- PEER_ABSENT (R73). -/
  | peerAbsent (peer : Fin 128)
  /-- REACH_MISMATCH_TIMER (R75). -/
  | reachMismatchTimer (peer : Fin 128)
  /-- PPS_IN_EDGE (R45). -/
  | ppsInEdge
  /-- TOD_MESSAGE_RX (R45). -/
  | todMessageRx (bytes : List Byte)
  /-- TOD_MISSING_EXPIRY (R45). -/
  | todMissingExpiry
  /-- SOURCE_WTR_EXPIRY (R42). -/
  | sourceWtrExpiry (source : Fin 4)
  /-- PTP_EVENT_MESSAGE (R40). -/
  | ptpEventMessage (port : Fin 194) (kind : PtpKind) (received : Bool) (correction : BitVec 64)
  /-- SERVO_OFFSET_MEASURE (R48). -/
  | servoOffsetMeasure (offset : Int) (filtered : Nat)
  /-- SERVO_LOCK_TIMER (R48). -/
  | servoLockTimer
  /-- ESMC_PDU (R41). -/
  | esmcPdu (port : Fin 192) (pdu : List Byte)
  /-- PPS_OUT_SECOND (R46). -/
  | ppsOutSecond
  /-- TOD_TRANSMIT (R46). -/
  | todTransmit
  /-- FLIT_RECEIVE (R24). -/
  | flitReceive (link : Fin 4) (toDepot : Bool) (crcOk : Bool)
  /-- D2D_LOCK_LOSS (R24). -/
  | d2dLockLoss (link : Fin 4)
  /-- D2D_RETRAIN (R26). -/
  | d2dRetrain (link : Fin 4) (locked : Bool)
  /-- FRAME_RECEIVE (R84). `fecOk`: no codeword that carries an octet of the frame was uncorrectable; `codewords`: those
  decoded on the port since the frame before. -/
  | frameReceive (port : Fin 192) (data : List Byte) (fcsOk fecOk : Bool) (codewords : List Codeword)
  /-- FRAME_TRANSMIT (R85). -/
  | frameTransmit (port : Fin 192)
  /-- PAUSE_RECEIVE (R241). -/
  | pauseReceive (port : Fin 192) (pfc : Bool) (classes : BitVec 8) (quanta : BitVec 128)
  /-- PAUSE_EXPIRY (R241). -/
  | pauseExpiry (port : Fin 192) (cls : Option (Fin 8))
  /-- TRAINING_COMPLETE (R89). -/
  | trainingComplete (port : Fin 192)
  /-- TRAINING_TIMEOUT (R89). -/
  | trainingTimeout (port : Fin 192)
  /-- ALIGNMENT_ACHIEVED (R90). -/
  | alignmentAchieved (port : Fin 192)
  /-- PORT_FAULT (R90). -/
  | portFault (port : Fin 192) (cause : PortFaultCause)
  /-- PORT_FAULT_CLEAR (R90). -/
  | portFaultClear (port : Fin 192) (cause : PortFaultCause)
  /-- DOWN_DEBOUNCE_EXPIRY (R91). -/
  | downDebounceExpiry (port : Fin 192)
  /-- UP_HOLDOFF_EXPIRY (R91). -/
  | upHoldoffExpiry (port : Fin 192)
  /-- FEC_DEGRADE_TIMER (R92). -/
  | fecDegradeTimer (port : Fin 192) (above : Bool)
  /-- PORT_DISABLE_COMPLETE (R93). -/
  | portDisableComplete (port : Fin 192)
  /-- FLEXE_OH_FRAME (R100). -/
  | flexeOhFrame (fgroup : Fin 12) (group : Fin 4) (crcOk ccc : Bool) (clients : List (BitVec 16))
  /-- FLEXE_CA_RECEIVE (R99). -/
  | flexeCaReceive (fgroup : Fin 12) (group : Fin 4)
  /-- CALENDAR_SWITCH (R99). -/
  | calendarSwitch (fgroup : Fin 12) (group : Fin 4)
  /-- FLEXE_DESKEW_FAIL (R97). -/
  | flexeDeskewFail (fgroup : Fin 12) (group : Fin 4)
  /-- FRAME_PATTERN_CHECK (R104). -/
  | framePatternCheck (fgroup : Fin 12) (iface : Fin 2) (layer : AlignLayer) (correct : Bool) (errors : OtnErrors)
  /-- LOF_DECLARE (R105). -/
  | lofDeclare (fgroup : Fin 12) (iface : Fin 2) (layer : AlignLayer)
  /-- LOF_CLEAR (R105). -/
  | lofClear (fgroup : Fin 12) (iface : Fin 2) (layer : AlignLayer)
  /-- OTN_DEFECT (R106). -/
  | otnDefect (fgroup : Fin 12) (iface : Fin 2) (defect : OtnDefect) (present : Bool)
  /-- GMP_JC_RECEIVE (R108). -/
  | gmpJcReceive (fgroup : Fin 12) (trib : BitVec 16) (crcOk : Bool) (cm : BitVec 16)
  /-- GMP_MULTIFRAME_TX (R108). -/
  | gmpMultiframeTx (fgroup : Fin 12) (trib : BitVec 16) (fill : BitVec 16)
  /-- TS_PAGE_SWITCH (R109). -/
  | tsPageSwitch (fgroup : Fin 12)
  /-- OH_RX_FRAME (R112). -/
  | ohRxFrame (channel : BitVec 12) (bytes : List Byte)
  /-- OH_RECORD_DELIVER (R111). -/
  | ohRecordDeliver (channel : BitVec 12)
  /-- OH_TX_FRAME (R112). -/
  | ohTxFrame (channel : BitVec 12)
  /-- OH_TX_WRITE (R112). -/
  | ohTxWrite (channel : BitVec 12) (frames : List (List Byte))
  /-- ENVELOPE_DISABLE_BOUNDARY (R113). -/
  | envelopeDisableBoundary (fgroup : Fin 12) (otu : Bool) (index : Fin 4)
  /-- PORT_CONFIGURE (R79). -/
  | portConfigure (l : LetterId) (a : PortArgs)
  /-- PORT_ENABLE (R90). -/
  | portEnable (l : LetterId) (port : W32)
  /-- PORT_DISABLE (R93). -/
  | portDisable (l : LetterId) (port : W32)
  /-- PORT_SET_LANE_MAP (R81). -/
  | portSetLaneMap (l : LetterId) (octet map rxInvert txInvert : W32)
  /-- PORT_SET_DELAY (R88). -/
  | portSetDelay (l : LetterId) (port : W32) (rx tx : W64)
  /-- PORT_SET_TX_EQ (R89). -/
  | portSetTxEq (l : LetterId) (lane : W32) (taps : TxTaps)
  /-- PORT_STATUS (R521). -/
  | portStatus (l : LetterId) (port : W32)
  /-- ENVELOPE_CREATE_FLEXE (R96). -/
  | envelopeCreateFlexe (l : LetterId) (fgroup group phyType phys caRequired : W32)
  /-- ENVELOPE_CREATE_OTU (R103). -/
  | envelopeCreateOtu (l : LetterId) (a : OtuArgs)
  /-- ENVELOPE_DELETE_GROUP (R113). -/
  | envelopeDeleteGroup (l : LetterId) (fgroup kind index : W32)
  /-- ENVELOPE_ENABLE_GROUP (R95). -/
  | envelopeEnableGroup (l : LetterId) (fgroup kind index : W32)
  /-- ENVELOPE_DISABLE_GROUP (R113). -/
  | envelopeDisableGroup (l : LetterId) (fgroup kind index : W32)
  /-- ENVELOPE_WRITE_CALENDAR (R99). -/
  | envelopeWriteCalendar (l : LetterId) (fgroup group : W32) (slots : ListArg (BitVec 16))
  /-- ENVELOPE_SCHEDULE_CALENDAR (R99). -/
  | envelopeScheduleCalendar (l : LetterId) (fgroup group : W32) (t : TimeParam)
  /-- ENVELOPE_CANCEL_CALENDAR (R53). -/
  | envelopeCancelCalendar (l : LetterId) (fgroup group : W32)
  /-- ENVELOPE_WRITE_TS_PAGE (R109). -/
  | envelopeWriteTsPage (l : LetterId) (fgroup : W32) (entries : ListArg TsEntry)
  /-- ENVELOPE_SCHEDULE_TS_PAGE (R109). -/
  | envelopeScheduleTsPage (l : LetterId) (fgroup : W32) (t : TimeParam)
  /-- ENVELOPE_CANCEL_TS_PAGE (R53). -/
  | envelopeCancelTsPage (l : LetterId) (fgroup : W32)
  /-- ENVELOPE_OH_CHANNEL (R111). -/
  | envelopeOhChannel (l : LetterId) (channel : W32) (rxRing txRing : W64) (depth : W32)
  /-- HEADER_WINDOW_SEND (R118). -/
  | headerWindowSend
  /-- INTAKE_DISPATCH (R119). -/
  | intakeDispatch
  /-- NANOWORD_ISSUE (R126). -/
  | nanowordIssue (bench : Fin 32) (clerk : Fin 16) (eccError : Bool)
  /-- LOOKUP_RESULT (R137). -/
  | lookupResult (bench : Fin 32) (clerk : Fin 16) (slot : Fin 6) (result : Fin 8) (memError : Bool) (rowBad : Bool)
      (waited : Bool) (delayed : W32)
  /-- LOCAL_LOAD_LAND (R126). -/
  | localLoadLand (bench : Fin 32) (clerk : Fin 16) (slot : Fin 6)
  /-- SLOT_RETIRE (R125). -/
  | slotRetire (bench : Fin 32) (clerk : Fin 16) (slot : Fin 6) (rivals : List Rival)
  /-- PASS_HANDOFF (R121). -/
  | passHandoff (port : Fin 192) (egress : Bool)
  /-- BENCH_SWITCH (R148). -/
  | benchSwitch (bench : Fin 32)
  /-- BENCH_DRAIN_COMPLETE (R149). -/
  | benchDrainComplete (bench : Fin 32)
  /-- BENCH_RELOAD_CHECK (R149). -/
  | benchReloadCheck (bench : Fin 32) (readBackOk : Bool)
  /-- CONTROL_STORE_ERROR (R151). -/
  | controlStoreError (bench : Fin 32) (clerk : Fin 16) (slot : Fin 6)
  /-- STORE_SET_MODE (R147). -/
  | storeSetMode (l : LetterId) (mode : W32)
  /-- STORE_WRITE_MICRO (R127). -/
  | storeWriteMicro (l : LetterId) (benches start : W32) (words : ListArg W32)
  /-- STORE_WRITE_NANO (R129). -/
  | storeWriteNano (l : LetterId) (benches start : W32) (words : ListArg (BitVec 256))
  /-- STORE_WRITE_PATCH (R143). -/
  | storeWritePatch (l : LetterId) (benches : W32) (micro : ListArg W32) (nano : ListArg (BitVec 256)) (matchRegs : ListArg W32) (level : W32)
  /-- STORE_STAGE_IMAGE (R147). -/
  | storeStageImage (l : LetterId) (benches bank : W32)
  /-- STORE_SEAL (R144). -/
  | storeSeal (l : LetterId) (benches version : W32)
  /-- STORE_SCHEDULE_LOAD (R148). -/
  | storeScheduleLoad (l : LetterId) (benches : W32) (t : TimeParam) (spacing : W64)
  /-- STORE_CANCEL_LOAD (R53). -/
  | storeCancelLoad (l : LetterId) (benches : W32)
  /-- STORE_ENABLE_BENCH (R150). -/
  | storeEnableBench (l : LetterId) (bench : W32)
  /-- STORE_DISABLE_BENCH (R150). -/
  | storeDisableBench (l : LetterId) (bench : W32)
  /-- STORE_SET_BUDGET (R139). -/
  | storeSetBudget (l : LetterId) (budget : W32)
  /-- STORE_WRITE_LOCAL (R136). -/
  | storeWriteLocal (l : LetterId) (clerk offset : W32) (size : W64) (data : BitVec 512)
  /-- ROUTE_ADD (R158). -/
  | routeAdd (l : LetterId) (a : RouteArgs)
  /-- ROUTE_DELETE (R158). -/
  | routeDelete (l : LetterId) (vrf family : W32) (pfx : Ip) (plen : W32)
  /-- ROUTE_BLOCK (R343). -/
  | routeBlock (l : LetterId) (records : ListArg TableRecord) (listCrc : W32)
  /-- TABLE_EXACT_ADD (R522). -/
  | tableExactAdd (l : LetterId) (type : W32) (key : BitVec 256) (result : W64)
  /-- TABLE_EXACT_DELETE (R522). -/
  | tableExactDelete (l : LetterId) (type : W32) (key : BitVec 256)
  /-- TABLE_NH_WRITE (R161). -/
  | tableNhWrite (l : LetterId) (nh voqBase port module encap : W32)
  /-- TABLE_NH_DELETE (R344). -/
  | tableNhDelete (l : LetterId) (nh : W32)
  /-- TABLE_ECMP_WRITE (R162). -/
  | tableEcmpWrite (l : LetterId) (group mode : W32) (members : ListArg W32)
  /-- TABLE_ECMP_DELETE (R165). -/
  | tableEcmpDelete (l : LetterId) (group : W32)
  /-- TABLE_SET_HASH (R163). -/
  | tableSetHash (l : LetterId) (seed profile fields : W32)
  /-- TABLE_BLOCK (R343). -/
  | tableBlock (l : LetterId) (records : ListArg TableRecord) (listCrc : W32)
  /-- ACL_WRITE (R180). -/
  | aclWrite (l : LetterId) (bank index : W32) (value mask : BitVec 640) (action : W64)
  /-- ACL_DELETE (R180). -/
  | aclDelete (l : LetterId) (bank index : W32)
  /-- ACL_SET_PROFILE (R174). -/
  | aclSetProfile (l : LetterId) (a : AclProfileArgs)
  /-- ACL_SET_SELECT (R176). -/
  | aclSetSelect (l : LetterId) (profile : W32) (masks : ListArg W32)
  /-- ACL_SET_BANK_WIDTH (R172). -/
  | aclSetBankWidth (l : LetterId) (bank width : W32)
  /-- ACL_SET_SELFTEST (R186). -/
  | aclSetSelftest (l : LetterId) (period : W64)
  /-- ACL_BLOCK (R343). -/
  | aclBlock (l : LetterId) (records : ListArg TableRecord) (listCrc : W32)
  /-- ACL_UPDATE_WINDOW (R182). -/
  | aclUpdateWindow (bank : Fin 32)
  /-- ACL_SELFTEST_START (R186). -/
  | aclSelftestStart
  /-- ACL_MIGRATION_COMPLETE (R186). -/
  | aclMigrationComplete
  /-- ACL_BANK_TEST_END (R188). -/
  | aclBankTestEnd (phys : Fin 33) (passed : Bool)
  /-- ACL_ROW_REPAIR (R189). -/
  | aclRowRepair (bank : Fin 32) (index : Fin 8192)
  /-- ACL_BANK_FAULT (R190). -/
  | aclBankFault (phys : Fin 33)
  /-- ACL_SPARE_WRITTEN (R190). -/
  | aclSpareWritten
  /-- INGRESS_ADMISSION (R209). -/
  | ingressAdmission (rivals : List Rival) (readError : Bool)
  /-- BUFFER_FREE (R202). -/
  | bufferFree (buffer : BufId) (agent : Owner)
  /-- DLQ_DELIVER (R220). -/
  | dlqDeliver (hasRoom busOk : Bool)
  /-- CT_INGRESS_START (R221). -/
  | ctIngressStart (port : Fin 192) (rivals : List Rival)
  /-- CT_INGRESS_TIMEOUT (R221). -/
  | ctIngressTimeout (port : Fin 192)
  /-- CT_EGRESS_START (R222). -/
  | ctEgressStart (queue : BitVec 19)
  /-- CT_EGRESS_ABORT (R222). -/
  | ctEgressAbort (queue : BitVec 19) (cause : Fin 4)
  /-- BUFFER_SET_POOLS (R194). -/
  | bufferSetPools (l : LetterId) (g0 g1 g2 g3 : W32)
  /-- BUFFER_SET_CLASS (R196). -/
  | bufferSetClass (l : LetterId) (cls : W32) (shallowReserve shallowLimit deepReserve deepLimit : W64)
  /-- BUFFER_SET_ADMISSION (R208). -/
  | bufferSetAdmission (l : LetterId) (a : AdmissionArgs)
  /-- BUFFER_SET_DLQ (R218). -/
  | bufferSetDlq (l : LetterId) (a : DlqArgs)
  /-- BUFFER_SET_CUT_THROUGH (R223). -/
  | bufferSetCutThrough (l : LetterId) (port ingress egress : W32) (ctMin ctStart : W64)
  /-- SCHEDULER_SELECT (R239). -/
  | schedulerSelect (port : Fin 192)
  /-- WINDOW_RETURN (R237). -/
  | windowReturn (rivals : List Rival)
  /-- ARBITER_GRANT (R228). -/
  | arbiterGrant (port : Fin 192)
  /-- VOQ_SEND (R230). -/
  | voqSend (voq : BitVec 17) (readError : Bool)
  /-- GATE_ENTRY_ADVANCE (R246). -/
  | gateEntryAdvance (port : Fin 192)
  /-- GATE_LIST_SWITCH (R246). -/
  | gateListSwitch (port : Fin 192)
  /-- HOLD_EXPIRY (R251). -/
  | holdExpiry (port : Fin 192)
  /-- PORT_FLUSH_COMPLETE (R251). -/
  | portFlushComplete (port : Fin 192)
  /-- VOQ_AGE_VISIT (R252). -/
  | voqAgeVisit (voq : BitVec 17)
  /-- QUEUE_FLUSH_COMPLETE (R243). -/
  | queueFlushComplete (queue : BitVec 19)
  /-- QUEUE_CONFIGURE (R226). -/
  | queueConfigure (l : LetterId) (a : QueueArgs)
  /-- QUEUE_SET_NODE (R233). -/
  | queueSetNode (l : LetterId) (a : NodeArgs)
  /-- QUEUE_SET_PORT (R228). -/
  | queueSetPort (l : LetterId) (a : QueuePortArgs)
  /-- QUEUE_SET_LENGTH_PROFILE (R236). -/
  | queueSetLengthProfile (l : LetterId) (profile mode adjust : W32)
  /-- QUEUE_DELETE (R243). -/
  | queueDelete (l : LetterId) (level node : W32)
  /-- QUEUE_FLUSH (R243). -/
  | queueFlush (l : LetterId) (queue : W32)
  /-- QUEUE_WRITE_GATES (R245). -/
  | queueWriteGates (l : LetterId) (port : W32) (entries : ListArg W64)
  /-- QUEUE_SCHEDULE_GATES (R246). -/
  | queueScheduleGates (l : LetterId) (port : W32) (t : TimeParam)
  /-- QUEUE_CANCEL_GATES (R53). -/
  | queueCancelGates (l : LetterId) (port : W32)
  /-- POLICER_CONFIGURE (R166). -/
  | policerConfigure (l : LetterId) (a : PolicerArgs)
  /-- POLICER_DELETE (R169). -/
  | policerDelete (l : LetterId) (policer : W32)
  /-- CELL_SLOT_TRANSMIT (R257). -/
  | cellSlotTransmit (link : Fin 256)
  /-- PACK_WAIT_EXPIRY (R268). -/
  | packWaitExpiry (stream : Fin 129)
  /-- CELL_RECEIVE (R273). -/
  | cellReceive (link : Fin 256) (cell : List Byte) (fecOk : Bool) (rivals : List Rival)
  /-- REACH_RECEIVE (R260). -/
  | reachReceive (link : Fin 256) (cell : List Byte) (fecOk : Bool)
  /-- REQUEST_RECEIVE (R283). -/
  | requestReceive (link : Fin 256) (cell : List Byte) (fecOk : Bool) (index : Fin 18)
  /-- GRANT_RECEIVE (R284). -/
  | grantReceive (link : Fin 256) (cell : List Byte) (fecOk : Bool) (index : Fin 18)
  /-- LOSS_NOTICE_RECEIVE (R275). -/
  | lossNoticeReceive (link : Fin 256) (cell : List Byte) (fecOk : Bool) (index : Fin 18)
  /-- LINK_ALIGNED (R259). -/
  | linkAligned (link : Fin 256)
  /-- LINK_DOWN (R261). -/
  | linkDown (link : Fin 256) (cause : LinkCause)
  /-- REACH_TIMEOUT (R261). -/
  | reachTimeout (link : Fin 256)
  /-- HOLD_MAX_EXPIRY (R261). -/
  | holdMaxExpiry (link : Fin 256)
  /-- LINK_RETRY (R259). -/
  | linkRetry (link : Fin 256)
  /-- LINK_DISABLE_COMPLETE (R262). -/
  | linkDisableComplete (link : Fin 256)
  /-- IDENT_SEND (R265). -/
  | identSend (link : Fin 256)
  /-- HOLE_LOST_EXPIRY (R275). -/
  | holeLostExpiry (src : Fin 128) (mc : Bool)
  /-- REASSEMBLY_TIMEOUT (R278). -/
  | reassemblyTimeout (src : Fin 128) (mc : Bool)
  /-- CREDIT_WATCHDOG (R285). -/
  | creditWatchdog (voq : BitVec 17)
  /-- GRANT_CELL_CLOSE (R284). -/
  | grantCellClose (dst : Fin 128)
  /-- FABRIC_ENABLE_LINK (R259). -/
  | fabricEnableLink (l : LetterId) (link : W32)
  /-- FABRIC_DISABLE_LINK (R262). -/
  | fabricDisableLink (l : LetterId) (link : W32)
  /-- FABRIC_SET_TX_EQ (R258). -/
  | fabricSetTxEq (l : LetterId) (lane : W32) (taps : TxTaps)
  /-- FABRIC_SET_TIMERS (R289). -/
  | fabricSetTimers (l : LetterId) (reasmTimeout skewLimit creditWd holdMax packWait : W64)
  /-- FABRIC_SET_CREDIT (R289). -/
  | fabricSetCredit (l : LetterId) (grantSize mcRate : W64)
  /-- FABRIC_SET_MCAST_VOQ (R286). -/
  | fabricSetMcastVoq (l : LetterId) (voq enable : W32)
  /-- FABRIC_SET_MGROUP (R287). -/
  | fabricSetMgroup (l : LetterId) (mgid : W32) (queues : ListArg W32)
  /-- HBM_COMMAND_SLOT (R297). -/
  | hbmCommandSlot (pchan : Fin 512) (outcome : ReadOutcome)
  /-- PANIC_READ_EXPIRY (R299). -/
  | panicReadExpiry (pchan : Fin 512)
  /-- REFRESH_DUE (R300). -/
  | refreshDue (pchan : Fin 512) (bank : Fin 64)
  /-- HBM_TRAINING (R303). -/
  | hbmTraining (stack : Fin 8) (lanes : List LaneSweep)
  /-- RETRAIN_FENCE (R307). -/
  | retrainFence (stack : Fin 8)
  /-- RETRAIN_WINDOW_START (R307). -/
  | retrainWindowStart (stack : Fin 8)
  /-- RETRAIN_WINDOW_END (R308). -/
  | retrainWindowEnd (stack : Fin 8) (lanes : List LaneEdges)
  /-- SELF_REFRESH_ENTRY (R309). -/
  | selfRefreshEntry (stack : Fin 8)
  /-- SELF_REFRESH_EXIT (R310). -/
  | selfRefreshExit (stack : Fin 8)
  /-- PCH_DRAINED (R305). -/
  | pchDrained (pchan : Fin 512)
  /-- STACK_DRAIN_COMPLETE (R312). -/
  | stackDrainComplete (stack : Fin 8)
  /-- HBM_SET_PANIC (R299). -/
  | hbmSetPanic (l : LetterId) (panicNs : W64)
  /-- HBM_SET_NEIGHBOUR (R301). -/
  | hbmSetNeighbour (l : LetterId) (n : W32)
  /-- HBM_SET_RETRAIN (R306). -/
  | hbmSetRetrain (l : LetterId) (period : W64)
  /-- HBM_RETRAIN_NOW (R306). -/
  | hbmRetrainNow (l : LetterId) (pchan : W32)
  /-- HBM_SET_SELF_REFRESH (R309). -/
  | hbmSetSelfRefresh (l : LetterId) (srIdle : W64)
  /-- HBM_DISABLE_STACK (R312). -/
  | hbmDisableStack (l : LetterId) (stack : W32)
  /-- HBM_ENABLE_STACK (R312). -/
  | hbmEnableStack (l : LetterId) (stack : W32)
  /-- HBM_READ_EYES (R314). -/
  | hbmReadEyes (l : LetterId) (stack : W32) (result : W64) (busOk : Bool)
  /-- SLICE_CREATE (R346). -/
  | sliceCreate (l : LetterId) (slice pasid : W32) (quotas : ListArg QuotaItem) (letters receipts : W64) (depth : W32)
  /-- SLICE_SET_SHARE (R359). -/
  | sliceSetShare (l : LetterId) (slice : W32) (quotas : ListArg QuotaItem)
  /-- SLICE_HOLD_QUIESCED (R361). -/
  | sliceHoldQuiesced (slice : Fin 64)
  /-- SLICE_RESET (R363). -/
  | sliceReset (l : LetterId) (slice : W32)
  /-- SLICE_QUIESCENCE (R363). -/
  | sliceQuiescence (squashedWrites squashedReads : BitVec 32)
  /-- SLICE_RESET_CLEAR (R363). -/
  | sliceResetClear
  /-- SLICE_DELETE (R349). -/
  | sliceDelete (l : LetterId) (slice : W32)
  /-- SLICE_BIND_INBAND (R323). -/
  | sliceBindInband (l : LetterId) (slice : W32) (address : Ip) (udpPort : W32)
  /-- SLICE_DIRTY_LOG (R367). -/
  | sliceDirtyLog (l : LetterId) (slice enable : W32) (bitmap size : W64) (busOk : Bool)
  /-- SLICE_STATUS (R373). -/
  | sliceStatus (l : LetterId) (slice : W32)
  /-- COURIER_BURST (R387). -/
  | courierBurst (toHost : Bool) (requester : Requester) (bytes : BitVec 13) (busOk : Bool)
  /-- COURIER_READ_RETURN (R386). -/
  | courierReadReturn (channel : Fin 64) (data : Option (List Byte))
  /-- DESCRIPTOR_COMPLETE (R379). -/
  | descriptorComplete (channel : Fin 64)
  /-- INJECT_RECORD (R382). -/
  | injectRecord (channel : Fin 64) (rivals : List Rival)
  /-- CIRCULAR_RECORD_WRITE (R384). -/
  | circularRecordWrite (channel : Fin 64)
  /-- COURIER_STOP_BOUNDARY (R388). -/
  | courierStopBoundary (channel : Fin 64)
  /-- COURIER_OPEN_CHANNEL (R377). -/
  | courierOpenChannel (l : LetterId) (channel : W32) (ring : W64) (depth share : W32)
  /-- COURIER_STOP (R388). -/
  | courierStop (l : LetterId) (channel : W32)
  /-- COURIER_CLOSE (R388). -/
  | courierClose (l : LetterId) (channel : W32)
  /-- COURIER_SET_SHARE (R387). -/
  | courierSetShare (l : LetterId) (channel share : W32)
  /-- HEARTBEAT (R395). -/
  | heartbeat (pm : Pm)
  /-- HEARTBEAT_LAPSE (R395). -/
  | heartbeatLapse
  /-- ROLE_GRANT (R394). -/
  | roleGrant (pm : Pm)
  /-- STOP_CONFIRMATION (R397). -/
  | stopConfirmation (pm : Pm)
  /-- DUAL_ACTIVE_TIMEOUT (R397). -/
  | dualActiveTimeout
  /-- POSTMASTER_RESTART (R406). -/
  | postmasterRestart (pm : Pm)
  /-- BOOT_SELFTEST_DONE (R393). -/
  | bootSelftestDone (pm : Pm) (passed : Bool)
  /-- SYNC_COMPLETE (R403). -/
  | syncComplete (pm : Pm) (crcAgrees : Bool)
  /-- STANDBY_ACK_TIMEOUT (R402). -/
  | standbyAckTimeout
  /-- SELFTEST_ITEM (R404). -/
  | selftestItem (pm : Pm) (item : SelftestItem) (passed : Bool)
  /-- POSTMASTER_FAILURE (R405). -/
  | postmasterFailure (pm : Pm) (code : FailCode)
  /-- HEALTH_WRITE (R407). -/
  | healthWrite (pm : Pm) (temp : Byte)
  /-- HEADLESS_REBUILD (R410). -/
  | headlessRebuild (pm : Pm)
  /-- IMAGE_WRITE (R418). -/
  | imageWrite (l : LetterId) (part bank : W32) (offset : W64) (data : ListArg Byte)
  /-- FLASH_WRITE_COMPLETE (R418). -/
  | flashWriteComplete (readBackOk : Bool)
  /-- IMAGE_VERIFY (R421). -/
  | imageVerify (l : LetterId) (part bank : W32)
  /-- IMAGE_VERIFY_COMPLETE (R421). -/
  | imageVerifyComplete (part : Fin 6) (bankB : Bool)
  /-- IMAGE_ACTIVATE (R423). -/
  | imageActivate (l : LetterId) (parts : W32) (t : TimeParam)
  /-- IMAGE_ABORT (R426). -/
  | imageAbort (l : LetterId) (parts : W32)
  /-- IMAGE_LIST (R420). -/
  | imageList (l : LetterId)
  /-- ACTIVATION_START (R424). -/
  | activationStart
  /-- ROLLOUT_STEP_END (R424). -/
  | rolloutStepEnd
  /-- ROLLOUT_STEP_TIMEOUT (R426). -/
  | rolloutStepTimeout
  /-- SWEEP_START (R438). -/
  | sweepStart
  /-- SWEEP_READ (R439). -/
  | sweepRead
  /-- SNAPSHOT_LATCH (R442). -/
  | snapshotLatch
  /-- TELEMETRY_READ_COUNTERS (R440). -/
  | telemetryReadCounters (l : LetterId) (first count : W32) (result : W64) (busOk : Bool)
  /-- TELEMETRY_SNAPSHOT (R442). -/
  | telemetrySnapshot (l : LetterId) (ranges : ListArg W64) (result : W64)
  /-- TELEMETRY_SET_TAGGING (R444). -/
  | telemetrySetTagging (l : LetterId) (ratio : W32)
  /-- TELEMETRY_SET_TRACE (R445). -/
  | telemetrySetTrace (l : LetterId) (benches filter mode : W32)
  /-- TELEMETRY_READ_TRACE (R447). -/
  | telemetryReadTrace (l : LetterId) (result : W64) (busOk : Bool)
  /-- POWER_READ (R464). -/
  | powerRead (l : LetterId)
  /-- POWER_SET_CAP (R461). -/
  | powerSetCap (l : LetterId) (cap : W32)
  /-- POWER_SET_ALERT (R460). -/
  | powerSetAlert (l : LetterId) (inputLow inputHigh temp : W32)
  /-- FAULT_READ (R483). -/
  | faultRead (l : LetterId) (first count : W32) (result : W64) (busOk : Bool)
  /-- FAULT_CLEAR (R483). -/
  | faultClear (l : LetterId) (code : W32)
  /-- FAULT_SET_MASK (R482). -/
  | faultSetMask (l : LetterId) (code paths : W32)
  /-- MIRROR_CONFIGURE (R214). -/
  | mirrorConfigure (l : LetterId) (session destination : W32) (truncate : W64) (sample enabled : W32)
  /-- MIRROR_DISABLE (R217). -/
  | mirrorDisable (l : LetterId) (session : W32)
  /-- FAULT_EVENT_HOLDOFF_EXPIRY (R480). -/
  | faultEventHoldoffExpiry (record : W32)
  /-- SUPPRESSION_GRACE_EXPIRY (R484). -/
  | suppressionGraceExpiry (record : W32)
  /-- INPUT_RISE (R470). -/
  | inputRise
  /-- HOUSEKEEPING_BOOT (R470). -/
  | housekeepingBoot
  /-- INPUT_VOLTAGE_BAND (R450). -/
  | inputVoltageBand (millivolts : BitVec 17)
  /-- UNDERVOLTAGE_LOCKOUT (R450). -/
  | undervoltageLockout
  /-- OVERVOLTAGE_SHUTDOWN (R450). -/
  | overvoltageShutdown
  /-- OVERVOLTAGE_RECOVERY (R450). -/
  | overvoltageRecovery
  /-- PWR_EN_ASSERT (R455). -/
  | pwrEnAssert
  /-- PWR_EN_DEASSERT (R455). -/
  | pwrEnDeassert
  /-- POWER_GOOD (R455). -/
  | powerGood
  /-- DOMAIN_SWITCH_COMPLETE (R457). -/
  | domainSwitchComplete
  /-- DOMAIN_FAILURE (R458). -/
  | domainFailure (domain : Fin 148)
  /-- TEMPERATURE_CHANGE (R461). -/
  | temperatureChange (reading : TempReading)
  /-- THERMAL_SHUTDOWN (R462). -/
  | thermalShutdown
  /-- POWER_CAP_CHECK (R461). -/
  | powerCapCheck (tenthWatts : BitVec 16)
  /-- THROTTLE_N_CHANGE (R461). -/
  | throttleNChange (asserted : Bool)
  /-- PMBUS_CLEAR_FAULTS (R463). -/
  | pmbusClearFaults
  /-- STATUS_WORD (R463). -/
  | statusWord
  /-- STATUS_INPUT (R463). -/
  | statusInput
  /-- STATUS_TEMPERATURE (R463). -/
  | statusTemperature
  /-- READ_VIN (R463). -/
  | readVin
  /-- READ_IIN (R463). -/
  | readIin
  /-- READ_TEMPERATURE_1 (R463). -/
  | readTemperature1
  /-- READ_TEMPERATURE_2 (R463). -/
  | readTemperature2
  /-- READ_PIN (R463). -/
  | readPin
  /-- PMBUS_REVISION (R463). -/
  | pmbusRevision
  /-- PMBUS_UNSUPPORTED (R463). -/
  | pmbusUnsupported (code : Byte)
  /-- FRU_EEPROM_READ (R463). -/
  | fruEepromRead (offset : BitVec 13)
  /-- TELEMETRY_MIRROR_UPDATE (R513). -/
  | telemetryMirrorUpdate (iin : W32) (rails : List (W32 × W32))
  /-- REFERENCE_LOST (R466). -/
  | referenceLost (input : RefInput)
  /-- REFERENCE_REGAINED (R466). -/
  | referenceRegained (input : RefInput)
  /-- RESET_N_ASSERT (R467). -/
  | resetNAssert
  /-- RESET_N_RELEASE (R467). -/
  | resetNRelease
  /-- HOUSEKEEPING_WATCHDOG (R467). -/
  | housekeepingWatchdog
  /-- PCIE_RESET (R468). -/
  | pcieReset (kind : PcieResetKind)
  /-- STARTUP_RESET_DONE (R471). -/
  | startupResetDone
  /-- STARTUP_APPLY_DONE (R471). -/
  | startupApplyDone (failed : Bool)
  /-- STARTUP_TIMEOUT (R473). -/
  | startupTimeout
  /-- CONFIGURATION_WRITE (R345). -/
  | configurationWrite (field : ConfigField)
  /-- ENVELOPE_LANES_IDLE (R113). -/
  | envelopeLanesIdle (fgroup : Fin 12) (otu : Bool) (index : Fin 4)
  /-- FLEXE_DESKEW_RECOVERY (R97). -/
  | flexeDeskewRecovery (fgroup : Fin 12) (group : Fin 4)
  /-- PTP_SOURCE_LOST (R42). -/
  | ptpSourceLost (source : Fin 4)
  /-- STARTUP_SETTINGS_DONE (R471). -/
  | startupSettingsDone
deriving DecidableEq, Repr

end Sys2Proof
end

