-- ==== Sys2Proof/Config.lean ====
section
/-!
DEFINITION. Config.lean: what an implementation fixes, and the free values the manual leaves open.
Every constant here is OPAQUE: no proof can see its value, so a statement holds whatever it is (notes/assumptions/4.md).
-/

namespace Sys2Proof.Config

/-- Contents of a bench's micro ROM above 0x003F, but for the stock trap handlers: the stock program is named and not
given (04 R128, R143). -/
opaque microRom : Nat → BitVec 32
/-- Contents of a bench's nano ROM above address 0, but for the stock trap handlers (04 R128, R143). -/
opaque nanoRom : Nat → BitVec 256
/-- Argument of the END operation of a cause's stock handler (04 R140): its reason is not given. -/
opaque stockArg : Nat → BitVec 9
/-- Contents of the FRU EEPROM, 8 KiB (16 R463); the MAC addresses of the management ports are held there (18 R509). -/
opaque fruByte : Nat → BitVec 8
/-- MAC address of a management port, as the FRU EEPROM holds it; its place there is not given (10 R324, 18 R509). -/
opaque mgmtMac : Nat → BitVec 48
/-- The serial number, 12 ASCII characters (18 R509, 10 R521). -/
opaque serial : BitVec 96
/-- The next state of a linear-feedback generator; no polynomial is given (09 R301, 15 R444). -/
opaque lfsrNext : BitVec 16 → BitVec 16
/-- Seed of a pseudo-channel's generator, from the serial number and the pseudo-channel number (09 R301). -/
opaque lfsrSeed : Nat → BitVec 16
/-- SHA-384 (14 R415-R417); the standard is named, the function is not spelled out in the manual. -/
opaque sha384 : List (BitVec 8) → BitVec 384
/-- ECDSA P-384 signature check: key, signed bytes, signature (14 R417, FIPS 186-5). -/
opaque ecdsaP384 : List (BitVec 8) → List (BitVec 8) → List (BitVec 8) → Bool
/-- The root key hash fused in the module (14 R417). -/
opaque rootKeyHash : BitVec 384
/-- Number of effect steps of an accepted letter of an opcode beyond its first; the manual gives none (13 R400). -/
opaque extraEffectSteps : Nat → Nat
/-- The part of the frequency trim that the servo chooses from an offset measurement, before its limit; the servo's
filter is not given (02 R48). The arguments are the trim in force, the measured offset in ns, and a fresh index. -/
opaque servoTrim : Int → Int → Nat → Int
/-- The servo's estimate of its source's frequency, as a trim in 2^-40 ns per ns, at a fresh index (02 R48). -/
opaque servoFrequency : Nat → Int
/-- Cm and the sum CnD the transmitter computes from a client buffer's fill (03 R108, ITU-T G.709). -/
opaque gmpCm : Nat → Nat
/-- See `gmpCm`. -/
opaque gmpCnd : Nat → Nat
/-- Tributary slots of an ODUflex of a client rate (03 R107, ITU-T G.709). -/
opaque oduflexSlots : Nat → Nat
/-- The refresh interval JESD270-4 sets for a stack temperature, in ns (09 R300). -/
opaque refreshInterval : Int → Nat
/-- A LINEAR11 encoding of a reading (16 R463; PMBus 1.3): the exponent an implementation uses is not given. -/
opaque linear11 : Int → BitVec 16
/-- PMBus status bits of the conditions the power stage reports; bit places are those of PMBus 1.3, which the manual
names but does not lay out (16 R463). -/
opaque pmbusBit : Nat → Nat
/-- A value the manual leaves open, fresh at each index (notes/assumptions/4.md). -/
opaque freeValue : Nat → BitVec 64

end Sys2Proof.Config
end

