-- ==== Sys2Proof/Machine/State.lean ====
section
/-!
DEFINITION. State.lean: every piece of state the manual gives the module, unit by unit, as plain data. Each field's
comment gives what it is, its width, the file and rule of spec/ that names it, and its reset value (the default).
"own" marks a field that is the model's, not the manual's (notes/assumptions/2.md). Times named "uptime" are counts of
the station-time clock (ns) since power-on (own); station times are counts of 2^-16 ns, the unit of R37's fraction.
-/

namespace Sys2Proof.Machine

/-! ## Shared small types -/

/-- The three variants (00 R6). -/
inductive Variant where
  | le3840 | le2560 | le1920
deriving DecidableEq, Repr

/-- States of an inactive page (02 R53). -/
inductive PageState where
  | empty | loading | loaded | armed | deferred
deriving DecidableEq, Repr

/-- An inactive page's schedule (02 R53, R54): its state and T in station units (0 is "at once"). -/
structure Page where
  /-- page state; 3 bits; 02 R53; reset EMPTY -/
  state : PageState := .empty
  /-- T of the schedule, station units, 0 at once; 96 bits; 02 R54; reset 0 -/
  t : Nat := 0
  /-- time quality at T, once T has come; 02 R57; reset none -/
  good : Option Bool := none
deriving DecidableEq, Repr

/-- Status codes of receipts (10 R340). -/
inductive Status where
  | done | scheduled | staged | unknownOpcode | malformed | noSuchObject | notPermitted | stagingFull | busy
  | staleSequence | timePast | versionMismatch | internalFault
deriving DecidableEq, Repr

/-- Fault and counter families are named in the units' own files; here only their numbers are stored. A receipt
(10 R330). -/
structure Receipt where
  /-- status; 8 bits; 10 R330 -/
  status : Status := .done
  /-- index of the rejected or first clamped parameter, 0xFE header, 0xFF none; 8 bits; 10 R330 -/
  param : BitVec 8 := 0xFF#8
  /-- detail of a rejection; 16 bits; 10 R330 -/
  subcode : BitVec 16 := 0#16
  /-- a value was clamped; 1 bit; 10 R330 -/
  clamped : Bool := false
  /-- the receipt is a repeat; 1 bit; 10 R333 -/
  dup : Bool := false
  /-- opcode of the letter; 16 bits; 10 R330 -/
  opcode : BitVec 16 := 0#16
  /-- slice of the letter; 8 bits; 10 R330 -/
  slice : BitVec 8 := 0#8
  /-- seq of the letter; 32 bits; 10 R330 -/
  seq : W32 := 0#32
  /-- cookie of the letter; 64 bits; 10 R330 -/
  cookie : W64 := 0#64
  /-- epoch at acceptance or of effect; 16 bits; 10 R330 -/
  epoch : BitVec 16 := 0#16
  /-- station seconds at acceptance; 32 bits; 10 R330 -/
  acceptedS : W32 := 0#32
  /-- station nanoseconds at acceptance; 32 bits; 10 R330 -/
  acceptedNs : W32 := 0#32
  /-- the applied block; 0-224 bytes; 10 R331 -/
  applied : List Byte := []
deriving DecidableEq, Repr

/-- An event entry without phase and lost (10 R341). -/
structure Event where
  /-- event code; 16 bits; 10 R341 -/
  event : BitVec 16 := 0#16
  /-- object; 32 bits; 10 R341 -/
  object : W32 := 0#32
  /-- fault code, new state or zero; 32 bits; 10 R341 -/
  code : W32 := 0#32
  /-- letter that caused the event; 32 bits; 10 R341 -/
  seq : W32 := 0#32
  /-- detail; 64 bits; 10 R341 -/
  arg : W64 := 0#64
  /-- station seconds; 32 bits; 10 R341 -/
  seconds : W32 := 0#32
  /-- station nanoseconds; 32 bits; 10 R341 -/
  nanoseconds : W32 := 0#32
deriving DecidableEq, Repr

/-! ## Packets -/

/-- Where a packet's buffer lies and what it is charged (06 R192, R197, R205). -/
structure Placed where
  /-- the buffer; 06 R205 -/
  buf : BufId
  /-- its size in bytes, the charge; 06 R197 -/
  size : Nat
  /-- the class charged; 3 bits; 06 R205 -/
  cls : Nat
deriving DecidableEq, Repr

/-- A packet in the Depot: its descriptor (06 R205), annotation and octets. -/
structure Packet where
  /-- frame without its FCS in line order; own form of the buffer's contents; 06 R192 -/
  data : List Byte := []
  /-- frame length in octets including FCS; 14 bits; 06 R205 -/
  len : Nat := 0
  /-- station time at admission in us; 32 bits; 06 R205 -/
  arrival : W32 := 0#32
  /-- buffer held; none for a packet not yet admitted; 06 R205 -/
  placed : Option Placed := none
  /-- colour; 2 bits; 06 R205 -/
  colour : Nat := 0
  /-- traffic class; 3 bits; 06 R205 -/
  cls : Nat := 0
  /-- known bad under cut-through; 1 bit; 06 R205 -/
  poisoned : Bool := false
  /-- being sent by cut-through; 1 bit; 06 R205 -/
  ct : Bool := false
  /-- a mirror copy; 1 bit; 06 R205 -/
  copy : Bool := false
  /-- carried bits of the ingress pass; 64 bits; 04 R123 -/
  carried : W64 := 0#64
  /-- VOQ or egress queue named; 19 bits; 04 R123, 08 R264 -/
  queue : Nat := 0
  /-- port of the pass; 8 bits; 04 R123 -/
  port : Nat := 0
  /-- egress port named in the packet header; 8 bits; 08 R264 -/
  dstPort : Nat := 0
  /-- multicast group; 16 bits; 08 R264 -/
  mgid : Nat := 0
  /-- source module; 7 bits; 06 R220 -/
  src : Nat := 0
  /-- ingress epoch; 16 bits; 02 R61 -/
  epoch : BitVec 16 := 0#16
  /-- mirror field of the header vector; 16 bits; 04 R123 -/
  mirror : BitVec 16 := 0#16
  /-- reference time of the pass that made it, station units; 12 R381 -/
  refTime : Nat := 0
  /-- source code of a to-host record, 1-3; 4 bits; 12 R381 -/
  hostSource : Nat := 0
  /-- punt reason or mirror session; 10 bits; 12 R381 -/
  hostCode : Nat := 0
  /-- the packet is whole in its buffer; 06 R222 -/
  whole : Bool := true
  /-- its deep-tier read has returned; own; 06 R212 -/
  fetched : Bool := false
  /-- a deep-tier read of it is queued; own; 06 R212 -/
  fetching : Bool := false
  /-- its deep-tier read was uncorrectable; 09 R302 -/
  lost : Bool := false
  /-- it left its egress pass with this change in frame length; 07 R237 -/
  delta : Int := 0
  /-- number of its header window in the order sent to the Sorter; own; 01 R22 -/
  winNo : Nat := 0
  /-- postmark and port of its tag record, and the station ns of the record's last instant; 15 R444 -/
  tag : Option (Nat × Nat × Nat) := none
  /-- uptime at which its first octet came from the Sorter; 06 R221 -/
  firstAt : Nat := 0
  /-- its VOQ held no packet then; 06 R221 -/
  firstAlone : Bool := false
deriving DecidableEq, Repr

/-! ## Station time, peers, epochs (02) -/

/-- Time states (02, time-state table). -/
inductive TimeQ where
  | freerun | acquiring | locked | holdover
deriving DecidableEq, Repr

/-- A phase source of the list (02 R42). -/
structure PhaseSource where
  /-- kind: false PTP, true 1PPS with ToD; 02 R42 -/
  tod : Bool := false
  /-- port of a PTP source; 02 R42 -/
  port : Nat := 0
  /-- valid; 1 bit; 02 R42; reset false -/
  valid : Bool := false
  /-- uptime since which a returning source has been good; 02 R42; reset none -/
  goodSince : Option Nat := none
  /-- it failed, so that it returns only after the wait-to-restore time; 02 R42; reset false -/
  failed : Bool := false
deriving DecidableEq, Repr

/-- A ToD message kept for the next edge (02 R44, R45). -/
structure Tod where
  /-- seconds at the next edge; 48 bits; 02 R44 -/
  seconds : BitVec 48 := 0#48
  /-- quality; 2 bits; 02 R44 -/
  quality : BitVec 2 := 0#2
  /-- flags; 8 bits; 02 R44 -/
  flags : Byte := 0#8
  /-- UTC offset; 16 bits; 02 R44 -/
  utcOffset : BitVec 16 := 0#16
  /-- error in 4 ns; 8 bits; 02 R44 -/
  error : Byte := 0#8
deriving DecidableEq, Repr

/-- PTP settings of a port (10 R344, TIME.SET_PTP). -/
structure PtpPort where
  /-- enabled; 1 bit; 02 R42; reset false -/
  enabled : Bool := false
  /-- domain 24-43; 02 R41; reset 24 (notes/assumptions/6.md) -/
  domain : Nat := 24
  /-- two-step mode; 02 R40; reset false (notes/assumptions/6.md) -/
  twoStep : Bool := false
deriving DecidableEq, Repr

/-- Station time and its discipline (02 R37-R50). -/
structure TimeUnit where
  /-- station time in 2^-40 ns (40 fractional bits); 48-bit seconds; 02 R37, R38; reset 0 -/
  counter : Nat := 0
  /-- frequency trim in 2^-40 ns per ns; 02 R38; reset 0 -/
  trim : Int := 0
  /-- counter before the last cycle; own; 02 R46, R57, R72; reset 0 -/
  last : Nat := 0
  /-- negative phase of a TIME.ADJUST that is no step, still to be taken from the counter's course, in 2^-40 ns; 02 R38;
  10 R344; reset 0 -/
  owed : Nat := 0
  /-- uptime, cycles of the 1 GHz clock since power-on; own -/
  uptime : Nat := 0
  /-- time state; 2 bits; 02 R47; reset FREERUN -/
  state : TimeQ := .freerun
  /-- servo mode EXTERNAL; 1 bit; 02 R41; reset 0 INTERNAL -/
  external : Bool := false
  /-- error bound in ns at `boundAt`; 16 bits saturating; 02 R47; reset 65535 -/
  bound : Nat := 65535
  /-- uptime at which HOLDOVER was entered; 02 R47; reset 0 -/
  boundAt : Nat := 0
  /-- holdover rate in ps per s; 02 R47; reset 2000 -/
  holdoverRate : Nat := 2000
  /-- LOCKED has been reached since start-up; 02 R48; reset false -/
  lockedOnce : Bool := false
  /-- uptime since which the bound stayed at or below 100 ns in ACQUIRING; 02 R48; reset none -/
  lowSince : Option Nat := none
  /-- uptime since which time quality has been good; 02 R57; reset none -/
  goodSince : Option Nat := none
  /-- the sources list, first the highest priority; up to 4; 02 R42; reset empty -/
  sources : List PhaseSource := []
  /-- priority index of the source in use; 02 R42; reset none -/
  inUse : Option Nat := none
  /-- an offset left by a change of source is being slewed out; 02 R42; reset false -/
  slewing : Bool := false
  /-- wait-to-restore time in ns; 02 R42; reset 10 s -/
  wtr : Nat := 10000000000
  /-- PTP settings, key port 0-191, 256, 257; 02 R42 -/
  ptp : NMap PtpPort := []
  /-- uptime of the last PPS_IN edge; 02 R45; reset none -/
  lastEdge : Option Nat := none
  /-- station time of the last PPS_IN edge; 02 R45; reset 0 -/
  edgeStamp : Nat := 0
  /-- valid message waiting for the next edge; 02 R45; reset none -/
  tod : Option Tod := none
  /-- last message applied to an edge; 02 R45; reset none -/
  todApplied : Option Tod := none
  /-- consecutive edges without a valid message; 02 R45; reset 0 -/
  todMissed : Nat := 0
  /-- last whole second driven on PPS_OUT; 02 R46; reset none -/
  ppsOut : Option Nat := none
  /-- uptime of the last PPS_OUT edge; 02 R46; reset none -/
  ppsAt : Option Nat := none
  /-- a ToD message is owed for the last PPS_OUT edge; 02 R46; reset false -/
  todOwed : Bool := false
  /-- TIM_NOW latch; 96 bits; 19 R516; reset 0 -/
  latch : BitVec 96 := 0#96
  /-- TIM_TOD_BAD; 32 bits RC; 02 R45; reset 0 -/
  todBad : W32 := 0#32
  /-- TIM_PC_BAD; 32 bits RC; 02 R73; reset 0 -/
  pcBad : W32 := 0#32
  /-- TIM_EPOCH_FAR; 32 bits RC; 02 R59; reset 0 -/
  epochFar : W32 := 0#32
  /-- TIM_SUBEPOCH_SLIP; 32 bits RC; 02 R69; reset 0 -/
  subepochSlip : W32 := 0#32
deriving DecidableEq, Repr

/-- What the module knows of a peer module (02 R73-R76). -/
structure Peer where
  /-- station units of the last postcard's arrival; 02 R73; reset none -/
  lastSeen : Option Nat := none
  /-- sending time of the last postcard in 100 us steps of its seconds; 02 R73; reset none -/
  lastStep : Option Nat := none
  /-- pc_seq of the last postcard; 16 bits; 08 R288; reset 0 -/
  seq : BitVec 16 := 0#16
  /-- present; 1 bit; 02 R73; reset false -/
  present : Bool := false
  /-- current epoch advertised; 16 bits; 02 R72; reset 0 -/
  epoch : BitVec 16 := 0#16
  /-- lowest microcode version advertised; 32 bits; 02 R72; reset 0 -/
  ucodeMin : W32 := 0#32
  /-- highest microcode version advertised; 32 bits; 02 R72; reset 0 -/
  ucodeMax : W32 := 0#32
  /-- reach_map advertised; 128 bits; 02 R72; reset 0 -/
  map : BitVec 128 := 0#128
  /-- arrival less sending time in ns, telemetry; 02 R74; reset 0 -/
  delay : Int := 0
  /-- uptime since which the two bits differ; 02 R75; reset none -/
  mismatchSince : Option Nat := none
  /-- effective bit; 1 bit; 02 R76; reset false -/
  effective : Bool := false
deriving DecidableEq, Repr

/-- A commit's time, count and spacing (02 R62, R69). -/
structure Commit where
  /-- T in station units, 0 at once; 02 R62 -/
  t : Nat := 0
  /-- count of staging letters; 24 bits; 02 R62 -/
  count : Nat := 0
  /-- S in ns; 02 R69; default 1 ms -/
  spacing : Nat := 1000000
  /-- time quality at T, once T has come; 02 R57; reset none -/
  good : Option Bool := none
deriving DecidableEq, Repr

/-- A sequenced change in progress (02 R67-R71). -/
structure SeqChange where
  /-- first epoch number used; 16 bits; 02 R69 -/
  first : BitVec 16 := 0#16
  /-- sub-epochs that have switched; 02 R69 -/
  switched : Nat := 0
  /-- T of the first sub-epoch in station units; 02 R69 -/
  t : Nat := 0
  /-- S in ns; 02 R69 -/
  spacing : Nat := 1000000
  /-- records not yet staged, in the order of R68; 02 R68 -/
  rest : List TableRecord := []
  /-- deletions of a slice reset not yet staged run under this change; 11 R363 -/
  reset : Bool := false
  /-- the block letter, answered at the end; 02 R71 -/
  letter : Option LetterId := none
  /-- the next sub-epoch is fully staged; 02 R69 -/
  staged : Bool := true
  /-- time of the next sub-epoch's switch in station units; 02 R69 -/
  due : Nat := 0
  /-- the next sub-epoch has slipped; 02 R69 -/
  slipped : Bool := false
  /-- slice whose items a reset deletes; 11 R363 -/
  owner : Nat := 0
deriving DecidableEq, Repr

/-- Configuration epochs (02 R59-R71, R77). -/
structure EpochUnit where
  /-- current epoch; 16 bits; 02 R60; reset 0 -/
  current : BitVec 16 := 0#16
  /-- pending epoch, when one is open; 16 bits; 02 R60; reset none -/
  pending : Option (BitVec 16) := none
  /-- state of the epoch page; 02 R53; reset EMPTY -/
  page : PageState := .empty
  /-- staging letters applied since EPOCH.OPEN; 02 R62; reset 0 -/
  applied : Nat := 0
  /-- the held, armed or deferred commit; 02 R62; reset none -/
  commit : Option Commit := none
  /-- the commit is held, its count not met; 02 R62; reset false -/
  held : Bool := false
  /-- uptime of the last switch while its replaced versions await release; 02 R64; reset none -/
  releasing : Option Nat := none
  /-- station time of that switch; 02 R64; reset 0 -/
  switchT : Nat := 0
  /-- the replaced epoch; 16 bits; 02 R64; reset 0 -/
  replaced : BitVec 16 := 0#16
  /-- the pending epoch is an implicit one, of this letter; 02 R63; reset none -/
  implicit : Option LetterId := none
  /-- implicit writes held until the release; 02 R63; reset empty -/
  heldWrites : List (LetterId × List TableRecord) := []
  /-- sequenced change; 02 R68; reset none -/
  seq : Option SeqChange := none
  /-- compatibility window, lowest version; 32 bits; 02 R77; reset 0 -/
  compatLow : W32 := 0#32
  /-- compatibility window, highest version; 32 bits; 02 R77; reset 0xFFFFFFFF -/
  compatHigh : W32 := 0xFFFFFFFF#32
  /-- the manager has set the window; 02 R77; reset false -/
  compatSet : Bool := false
deriving DecidableEq, Repr

/-! ## Die-to-die links (01 R24-R29) -/

/-- What crosses a die-to-die link (01, path of one packet). -/
inductive Crossing where
  | ingress (p : Packet)
  | window (p : Packet)
  | rewritten (p : Packet) (forward : Bool)
  | transmit (p : Packet)
deriving DecidableEq, Repr

/-- One flit: its place in the direction's order and what it carries (01 R25). -/
structure Flit where
  /-- order of sending in its direction; own; 01 R25 -/
  order : Nat
  /-- contents; 01 R25 -/
  load : Crossing
  /-- sends in a row that failed their CRC on the link that holds it; 01 R24; reset 0 -/
  fails : Nat := 0
deriving DecidableEq, Repr

/-- A die-to-die link (01 R24-R26). -/
structure D2dLink where
  /-- up; 01 R24; reset false, on at start-up -/
  up : Bool := false
  /-- uptime of going down or of the last retrain try; 01 R26; reset 0 -/
  downAt : Nat := 0
  /-- flits unacknowledged toward the Depot; 01 R25; reset empty -/
  toDepot : List Flit := []
  /-- flits unacknowledged toward the Sorter; 01 R25; reset empty -/
  toSorter : List Flit := []
deriving DecidableEq, Repr

/-- The four links and the order kept across them (01 R23, R25). -/
structure D2dUnit where
  /-- links 0-3; 01 R24 -/
  links : NMap D2dLink := []
  /-- next order number toward the Depot; own -/
  nextDepot : Nat := 0
  /-- next order number toward the Sorter; own -/
  nextSorter : Nat := 0
  /-- order number the Depot hands on next; own; 01 R23 -/
  expectDepot : Nat := 0
  /-- order number the Sorter hands on next; own; 01 R23 -/
  expectSorter : Nat := 0
  /-- flits arrived ahead of their turn at the Depot; own; 01 R25 -/
  earlyDepot : List Flit := []
  /-- flits arrived ahead of their turn at the Sorter; own; 01 R25 -/
  earlySorter : List Flit := []
  /-- link that carries the next new flit (round-robin); own, notes/assumptions/9.md -/
  turn : Nat := 0
  /-- bytes that egress dequeue may still put on the links before it waits, at `paceAt`; 01 R28; reset 0 -/
  pace : Int := 0
  /-- uptime of the pacing's last update; 01 R28; reset 0 -/
  paceAt : Nat := 0
deriving DecidableEq, Repr

/-! ## Line side (03) -/

/-- Port states (03 R90). -/
inductive PortSt where
  | disabled | training | aligning | holdOff | up | faulted | down
deriving DecidableEq, Repr

/-- What a port's transmit side sends (03 R87, R90). -/
inductive LineSends where
  | electricalIdle | training | remoteFault | idle | frames
deriving DecidableEq, Repr

/-- What a port number is (03 R78). -/
inductive PortKind where
  | unused | native | flexe (fgroup group : Nat) | otu (fgroup : Nat) (trib : Nat)
deriving DecidableEq, Repr

/-- A port (03 R78-R94). -/
structure Port where
  /-- what the number names; 03 R78; reset unused -/
  kind : PortKind := .unused
  /-- mode code of R519; 03 R79; reset 0 -/
  mode : Nat := 0
  /-- medium is optics; 03 R89; reset false -/
  optics : Bool := false
  /-- MTU in octets; 03 R84; reset 9728 -/
  mtu : Nat := 9728
  /-- training timeout in ns; 03 R89; reset 12 s -/
  trainTimeout : Nat := 12000000000
  /-- down debounce in ns; 03 R91; reset 0 -/
  debounce : Nat := 0
  /-- up hold-off in ns; 03 R91; reset 50 ms -/
  holdoff : Nat := 50000000
  /-- degrade threshold in 10^-9; 03 R92; reset 200000 -/
  fecDegrade : Nat := 200000
  /-- acting on pause enabled; 03 R86; reset false -/
  pauseOn : Bool := false
  /-- PCP map; 16 bits; 04 R117; reset 0 -/
  pcpMap : W32 := 0#32
  /-- MPLS TC map; 16 bits; 04 R117; reset 0 -/
  tcMap : W32 := 0#32
  /-- DSCP map, four words; 128 bits; 04 R117; reset 0 -/
  dscpMap : BitVec 128 := 0#128
  /-- hash profile; 3 bits; 05 R163; reset 0 -/
  hashProfile : Nat := 0
  /-- octet always on; 03 R94; reset false -/
  alwaysOn : Bool := false
  /-- slice 0 configured the port; 11 R353; reset false -/
  byZero : Bool := false
  /-- state; 3 bits; 03 R90; reset DISABLED -/
  state : PortSt := .disabled
  /-- uptime of entering the state; 03 R91; reset 0 -/
  since : Nat := 0
  /-- loss of lock present; 03 R90; reset false -/
  lockLost : Bool := false
  /-- local fault present; 03 R90; reset false -/
  localFault : Bool := false
  /-- remote fault received; 03 R87; reset false -/
  remoteFault : Bool := false
  /-- lane lock mask; 8 bits; 10 R521; reset 0 -/
  lock : BitVec 8 := 0#8
  /-- fec_degraded; 1 bit; 03 R92; reset false -/
  fecDegraded : Bool := false
  /-- a disable is in progress; 03 R93; reset false -/
  disabling : Bool := false
  /-- letter whose receipt waits for the disable; 03 R93; reset none -/
  disableLetter : Option LetterId := none
  /-- a frame whose start the receive MAC saw before the disable may still end; 03 R93; reset false -/
  rxOpen : Bool := false
  /-- a frame that the transmit MAC started before the disable may still end; 03 R93; reset false -/
  txOpen : Bool := false
  /-- uptime since which a port that is being disabled sends idle; 03 R93; reset 0 -/
  idleSince : Nat := 0
  /-- receive asymmetry in ps; 03 R88; reset 0 -/
  rxDelay : Int := 0
  /-- transmit asymmetry in ps; 03 R88; reset 0 -/
  txDelay : Int := 0
  /-- calendar slots of a FlexE client; 03 R98; reset 0 -/
  slots : Nat := 0
  /-- PAUSE in force until uptime; 07 R241; reset 0 -/
  pauseUntil : Nat := 0
  /-- PFC pause in force until uptime, key class; 07 R241 -/
  pfcUntil : NMap Nat := []
  /-- pause in force since, key class or 8 for all; 07 R244; reset empty -/
  pausedSince : NMap Nat := []
deriving DecidableEq, Repr

/-- A network octet (03 R81). -/
structure Octet where
  /-- lane map, 3 bits per logical lane; 24 bits; 03 R81; reset identity -/
  map : BitVec 24 := 0xFAC688#24
  /-- receive inversions; 8 bits; 03 R81; reset 0 -/
  rxInvert : BitVec 8 := 0#8
  /-- transmit inversions; 8 bits; 03 R81; reset 0 -/
  txInvert : BitVec 8 := 0#8
deriving DecidableEq, Repr

/-- Equaliser taps in force (03 R89, 08 R258). -/
structure Taps where
  /-- pre2; 03 R89; reset 0 (notes/assumptions/6.md) -/
  pre2 : Int := 0
  /-- pre1; 03 R89; reset 0 -/
  pre1 : Int := 0
  /-- main; 03 R89; reset 0 -/
  main : Int := 0
  /-- post1; 03 R89; reset 0 -/
  post1 : Int := 0
deriving DecidableEq, Repr

/-- Stages of stopping an Envelope group (03 R113). -/
inductive GroupSt where
  | disabled | enabled | stopping | faultSent
deriving DecidableEq, Repr

/-- A FlexE group (03 R96-R101). -/
structure Flexe where
  /-- the group exists; 03 R95; reset false -/
  present : Bool := false
  /-- PHY type code; 03 R96; reset 0 -/
  phyType : Nat := 0
  /-- lanes that the PHYs occupy, 16-bit lane mask of the framer group; 03 R96; reset 0 -/
  phys : BitVec 16 := 0#16
  /-- ca_required; 03 R99; reset false -/
  caRequired : Bool := false
  /-- state; 03 R113; reset disabled -/
  st : GroupSt := .disabled
  /-- uptime of the disable boundary; 03 R113; reset 0 -/
  since : Nat := 0
  /-- letter that waits for the lanes to idle; 03 R113; reset none -/
  letter : Option LetterId := none
  /-- transmit calendar in use is B; 03 R99; reset false (A) -/
  txB : Bool := false
  /-- transmit calendar A; 03 R99; reset empty -/
  txCalA : List (BitVec 16) := []
  /-- transmit calendar B; 03 R99; reset empty -/
  txCalB : List (BitVec 16) := []
  /-- receive calendar A; 03 R99; reset empty -/
  rxCalA : List (BitVec 16) := []
  /-- receive calendar B; 03 R99; reset empty -/
  rxCalB : List (BitVec 16) := []
  /-- receive calendar applied is B; 03 R100; reset false -/
  rxB : Bool := false
  /-- inactive calendar page; 03 R99; reset EMPTY -/
  page : Page := {}
  /-- CA received for the armed calendar; 03 R99; reset false -/
  ca : Bool := false
  /-- group deskew failure; 03 R97; reset false -/
  deskewFail : Bool := false
  /-- clients with local fault for a calendar mismatch; 03 R100; reset empty -/
  mismatch : List Nat := []
deriving DecidableEq, Repr

/-- Frame alignment states (03 R104). -/
inductive AlignSt where
  | search | confirm | inFrame | errored
deriving DecidableEq, Repr

/-- One alignment machine (03 R104, R105). -/
structure Align where
  /-- state; 03 R104; reset SEARCH -/
  st : AlignSt := .search
  /-- consecutive correct patterns in CONFIRM, errored ones in ERRORED; 03 R104; reset 0 -/
  run : Nat := 0
  /-- uptime since which it is out of frame, or in frame; 03 R105; reset 0 -/
  since : Nat := 0
  /-- LOF or LOM declared; 03 R105; reset false -/
  lof : Bool := false
deriving DecidableEq, Repr

/-- An OTUCn interface (03 R103-R106). -/
structure Otu where
  /-- the interface exists; 03 R95; reset false -/
  present : Bool := false
  /-- n; 03 R103; reset 0 -/
  n : Nat := 0
  /-- first lane; 03 R103; reset 0 -/
  firstLane : Nat := 0
  /-- lanes; 03 R103; reset 0 -/
  lanes : Nat := 0
  /-- N of the alignment machine; 03 R104; reset 2 -/
  frameN : Nat := 2
  /-- M of the alignment machine; 03 R104; reset 5 -/
  frameM : Nat := 5
  /-- tim_act; 03 R106; reset false -/
  timAct : Bool := false
  /-- state; 03 R113; reset disabled -/
  st : GroupSt := .disabled
  /-- uptime of the disable boundary; 03 R113; reset 0 -/
  since : Nat := 0
  /-- letter that waits for the lanes to idle; 03 R113; reset none -/
  letter : Option LetterId := none
  /-- alignment machines, key 0 FlexO, 1-16 OTUC, 17 MFAS; 03 R104 -/
  align : NMap Align := []
  /-- defects present; 03 R106; reset empty -/
  defects : List OtnDefect := []
  /-- BDI sent in every OTUC instance; 03 R106; reset false -/
  bdiSm : Bool := false
  /-- BDI sent at PM; 03 R106; reset false -/
  bdiPm : Bool := false
  /-- TTI mismatches counted; 03 R106; reset 0 -/
  timCount : Nat := 0
deriving DecidableEq, Repr

/-- A framer group's tributary-slot connection page pair (03 R109). -/
structure TsPages where
  /-- active page; up to 640 entries; 03 R109; reset empty -/
  active : List TsEntry := []
  /-- inactive page; 03 R109; reset empty -/
  inactive : List TsEntry := []
  /-- page state; 03 R109; reset EMPTY -/
  page : Page := {}
deriving DecidableEq, Repr

/-- A tributary (03 R108). -/
structure Trib where
  /-- receive justification value; 03 R108; reset 0 -/
  cm : BitVec 16 := 0#16
  /-- consecutive bad JCs; 03 R108; reset 0 -/
  badJc : Nat := 0
  /-- transmit Cm; 03 R108; reset 0 -/
  txCm : Nat := 0
  /-- transmit sum of CnD; 03 R108; reset 0 -/
  txCnd : Nat := 0
deriving DecidableEq, Repr

/-- An overhead channel (03 R110-R112). -/
structure OhChannel where
  /-- receive frame-slip buffer, oldest first; 64 frames; 03 R110; reset empty -/
  rx : List (List Byte) := []
  /-- frame count of the oldest frame held; 32 bits; 03 R111; reset 0 -/
  rxFrame : W32 := 0#32
  /-- frames were lost since the last record; 03 R112; reset false -/
  slip : Bool := false
  /-- transmit frame-slip buffer, oldest first; 64 frames; 03 R110; reset empty -/
  tx : List (List Byte) := []
  /-- the last 64 bytes sent, oldest first: a TTI channel's last TTI; 64 bytes; 03 R110; reset 0 -/
  tti : List Byte := List.replicate 64 0#8
  /-- slice that named the rings; 03 R111; reset 0 -/
  slice : Nat := 0
  /-- receive ring address; 64 bits; 03 R111; reset none -/
  rxRing : Option W64 := none
  /-- transmit ring address; 64 bits; 03 R111; reset none -/
  txRing : Option W64 := none
  /-- ring depth; 03 R111; reset 0 -/
  depth : Nat := 0
  /-- records delivered to the ring; 12 R389; reset 0 -/
  produced : Nat := 0
deriving DecidableEq, Repr

/-- The line side (03). -/
structure LineUnit where
  /-- ports 0-191; 03 R78 -/
  ports : NMap Port := []
  /-- octets 0-23; 03 R81 -/
  octets : NMap Octet := []
  /-- transmit equaliser taps, key network lane; 03 R89 -/
  taps : NMap Taps := []
  /-- FlexE groups, key 4 x framer group + group; 03 R95 -/
  flexe : NMap Flexe := []
  /-- OTUCn interfaces, key 2 x framer group + interface; 03 R95 -/
  otu : NMap Otu := []
  /-- connection pages, key framer group; 03 R109 -/
  tsPages : NMap TsPages := []
  /-- tributaries, key 65536 x framer group + tributary port; 03 R107 -/
  tribs : NMap Trib := []
  /-- overhead channels; 03 R110 -/
  oh : NMap OhChannel := []
  /-- frames waiting at a port's transmit MAC, key port; 03 R85 -/
  tx : NMap (List Packet) := []
deriving DecidableEq, Repr

/-! ## Intake and clerks (04) -/

/-- Blocks a frame holds in the tray, by area (04 R116). -/
structure Blocks where
  /-- blocks of the port's reserve; 04 R116 -/
  port : Nat := 0
  /-- blocks of the shared area; 04 R116 -/
  shared : Nat := 0
  /-- blocks of the control reserve; 04 R116 -/
  control : Nat := 0
deriving DecidableEq, Repr

/-- A frame in the intake tray (04 R115). -/
structure TrayFrame where
  /-- ingress port; 04 R115 -/
  port : Nat := 0
  /-- frame without FCS; 04 R115 -/
  data : List Byte := []
  /-- intake priority; 2 bits; 04 R117 -/
  prio : Nat := 0
  /-- reference time, station units; 04 R115 -/
  refTime : Nat := 0
  /-- blocks held; 04 R116 -/
  blocks : Blocks := {}
deriving DecidableEq, Repr

/-- Slot states (04 R125). LOADING is passed through inside INTAKE_DISPATCH. -/
inductive SlotSt where
  | free | ready | waiting | retiring
deriving DecidableEq, Repr

/-- How a pass ended (04 R138, R142). -/
inductive PassEnd where
  | forward | drop (reason : Nat) | punt (reason : Nat) | doubleTrap (frame : List Byte)
deriving DecidableEq, Repr

/-- A lookup in flight for a slot (04 R137, 05 R156): engine, first result register and the dispatch's operands. -/
structure Dispatch where
  /-- engine code 1-7; 5 bits; 04 R137 -/
  engine : Nat := 0
  /-- first result register; 3 bits; 04 R137 -/
  result : Nat := 0
  /-- key registers in order from the `key` code; 05 R157 -/
  keys : List W64 := []
  /-- profile field; 6 bits; 04 R137 -/
  profile : Nat := 0
  /-- param field; 20 bits; 04 R137 -/
  param : BitVec 20 := 0#20
  /-- header vector at dispatch; 1024 bits; 05 R158 -/
  hv : BitVec 1024 := 0#1024
  /-- earlier ACL result register named by ACL_NEXT; 64 bits; 05 R179 -/
  earlier : W64 := 0#64
  /-- Sorter cycle of the dispatch; own; 05 R170 -/
  cycle : Nat := 0
deriving DecidableEq, Repr

/-- A local-memory load in flight (04 R126). -/
structure Load where
  /-- destination operand code; 6 bits; 04 R135 -/
  dst : Nat := 0
  /-- value read at issue; 64 bits; 04 R135 -/
  value : W64 := 0#64
  /-- Sorter cycle of issue; own; 04 R126 -/
  cycle : Nat := 0
deriving DecidableEq, Repr

/-- A slot (04 R125, benches, clerks and slots). -/
structure Slot where
  /-- state; 04 R125; reset FREE -/
  st : SlotSt := .free
  /-- Sorter cycle of becoming READY; 04 R126; reset 0 -/
  readyAt : Nat := 0
  /-- g0-g31; 32 x 64 bits; 04 (slots) -/
  g : NMap W64 := []
  /-- l0-l7; 8 x 64 bits; 04 (slots) -/
  l : NMap W64 := []
  /-- p0-p7; 8 bits; 04 (slots); reset 0 -/
  preds : BitVec 8 := 0#8
  /-- call stack, top first; 8 micro addresses; 04 (slots); reset empty -/
  stack : List (BitVec 16) := []
  /-- header vector, byte 0 least significant; 128 bytes; 04 R123; reset 0 -/
  hv : BitVec 1024 := 0#1024
  /-- window; up to 192 bytes; 04 R134; reset empty -/
  window : List Byte := []
  /-- octets of the frame beyond the window; 01 R22; reset empty -/
  body : List Byte := []
  /-- insertions less deletions so far; 04 R134; reset 0 -/
  delta : Int := 0
  /-- next micro address; 16 bits; 04 R127; reset 0 -/
  micro : BitVec 16 := 0#16
  /-- nanowords issued; 04 R139; reset 0 -/
  issued : Nat := 0
  /-- trap being handled: cause and resume address; 04 R140, R142; reset none -/
  trap : Option (Nat × BitVec 16) := none
  /-- nanowords issued by a BUDGET handler; 04 R139; reset 0 -/
  handlerIssued : Nat := 0
  /-- egress pass; 04 R123; reset false -/
  egress : Bool := false
  /-- port of the pass; 04 R123; reset 0 -/
  port : Nat := 0
  /-- epoch of the pass; 16 bits; 04 R123; reset 0 -/
  epoch : BitVec 16 := 0#16
  /-- reference time, station units; 02 R52; reset 0 -/
  refTime : Nat := 0
  /-- sequence number for its port; 04 R121; reset 0 -/
  seqNo : Nat := 0
  /-- lookups in flight, oldest first; 04 R125; reset empty -/
  lookups : List Dispatch := []
  /-- loads in flight; 04 R126; reset empty -/
  loads : List Load := []
  /-- how the pass ended; 04 R138; reset none -/
  ended : Option PassEnd := none
  /-- tray blocks that the pass's frame still holds; 04 R116; 01 R29; reset 0 -/
  blocks : Blocks := {}
  /-- the packet behind an egress window; 01 (path); reset none -/
  packet : Option Packet := none
  /-- selected for the trace ledger; 15 R445; reset false -/
  traced : Bool := false
  /-- tagged; 15 R444; reset false -/
  tagged : Bool := false
  /-- Sorter cycle of the last issue or of dispatch; 15 R446; reset 0 -/
  lastIssue : Nat := 0
  /-- station time of dispatch; 15 R444; reset 0 -/
  dispatched : Nat := 0
  /-- the LOOKUP_FAULT or LOCAL_ECC read is to be repeated on return; 04 R141; reset none -/
  repeatLookup : Option Dispatch := none
  /-- the dispatch whose result a register holds, whose error flag R137 tests and whose read R141 repeats; own -/
  lastDispatch : NMap Dispatch := []
deriving DecidableEq, Repr

/-- What a bench does with its pages (04 R148-R151). -/
inductive BenchSt where
  | off | live | waiting | draining | reloading | checking
deriving DecidableEq, Repr

/-- Why a bench drains (04 R148-R151). -/
inductive DrainFor where
  | load | disable | recover | powerUp
deriving DecidableEq, Repr

/-- A bench (04 R119, R143-R151). -/
structure Bench where
  /-- service state; 04 R119; reset off, live after start-up -/
  st : BenchSt := .off
  /-- enabled; 04 R150; reset true -/
  enabled : Bool := true
  /-- reason of the drain in progress; 04 R149 -/
  drain : DrainFor := .load
  /-- active page runs in mode P; 04 R146; reset true -/
  modeP : Bool := true
  /-- microcode version of the active page; 32 bits; 04 R145; reset 0x00010000 -/
  version : W32 := 0x00010000#32
  /-- patch level of the active page; 8 bits; 04 R146; reset 0 -/
  level : BitVec 8 := 0#8
  /-- inactive page; 04 R148; reset EMPTY -/
  page : Page := {}
  /-- staged content is of mode P; 04 R147; reset true -/
  stagedP : Bool := true
  /-- staged version; 32 bits; 04 R145; reset 0 -/
  stagedVersion : W32 := 0#32
  /-- staged patch level; 8 bits; 04 R146; reset 0 -/
  stagedLevel : BitVec 8 := 0#8
  /-- the staged content came from an image, which supplies its version in mode W; 04 R145; reset false -/
  fromImage : Bool := false
  /-- the content that the last load replaced was of mode P; 04 R149; reset true -/
  oldP : Bool := true
  /-- version of the content that the last load replaced; 32 bits; 04 R149; reset 0 -/
  oldVersion : W32 := 0#32
  /-- patch level of the content that the last load replaced; 8 bits; 04 R149; reset 0 -/
  oldLevel : BitVec 8 := 0#8
  /-- letter that schedules the load or disables the bench; 04 R148; reset none -/
  letter : Option LetterId := none
  /-- uptime of the last control-store error; 04 R151; reset none -/
  lastError : Option Nat := none
  /-- a roll-out step loads it; 14 R424; reset false -/
  rollout : Bool := false
deriving DecidableEq, Repr

/-- A finished pass waiting for its turn (04 R121). -/
structure Finished where
  /-- port; 04 R121 -/
  port : Nat := 0
  /-- egress; 04 R121 -/
  egress : Bool := false
  /-- sequence number; 04 R121 -/
  seqNo : Nat := 0
  /-- what goes on, none for a dropped or punted packet; 04 R121 -/
  load : Option Crossing := none
  /-- tray blocks that the frame holds until it crosses; 04 R116; 01 R29 -/
  blocks : Blocks := {}
deriving DecidableEq, Repr

/-- Intake, benches, clerks and slots (04). -/
structure ClerkUnit where
  /-- frames waiting in the tray, in postmark order; 04 R115; reset empty -/
  tray : List TrayFrame := []
  /-- blocks of each port's reserve in use, key port; 04 R116 -/
  portBlocks : NMap Nat := []
  /-- blocks of the shared area in use; 04 R116; reset 0 -/
  sharedBlocks : Nat := 0
  /-- blocks of the control reserve in use; 04 R116; reset 0 -/
  controlBlocks : Nat := 0
  /-- header windows waiting, oldest first; 04 R118; reset empty -/
  windows : List Packet := []
  /-- the last dispatch was an egress one; 04 R120; reset false -/
  lastEgress : Bool := false
  /-- next sequence number, key 2 x port + egress; 04 R121 -/
  nextSeq : NMap Nat := []
  /-- sequence number to hand on next, key 2 x port + egress; 04 R121 -/
  handSeq : NMap Nat := []
  /-- finished passes; 04 R121; reset empty -/
  finished : List Finished := []
  /-- benches 0-31; 04 -/
  benches : NMap Bench := []
  /-- bench that reloads; 04 R148; reset none -/
  reloading : Option Nat := none
  /-- slots, key 6 x (16 x bench + clerk) + slot; 04 R125 -/
  slots : NMap Slot := []
  /-- local memory, key 98304 x clerk + address; 96 KiB per clerk; 04 R135; reset 0 -/
  localMem : List Host.Cell := []
  /-- active micro-store, key 65536 x bench + address; 32 bits; 04 R127; reset 0 -/
  micro : NMap W32 := []
  /-- active nano-store, key 16384 x bench + address; 256 bits; 04 R129; reset 0 -/
  nano : NMap (BitVec 256) := []
  /-- active match registers, key 64 x bench + i; 32 bits; 04 R144; reset 0 -/
  matchRegs : NMap W32 := []
  /-- staged micro words, key as `micro`; 04 R148 -/
  microIn : NMap W32 := []
  /-- staged nano words, key as `nano`; 04 R148 -/
  nanoIn : NMap (BitVec 256) := []
  /-- staged match registers, key as `matchRegs`; 04 R144 -/
  matchIn : NMap W32 := []
  /-- micro words that the last load replaced, key as `micro`; 04 R149; reset empty -/
  microOld : NMap W32 := []
  /-- nano words that the last load replaced, key as `nano`; 04 R149; reset empty -/
  nanoOld : NMap (BitVec 256) := []
  /-- match registers that the last load replaced, key as `matchRegs`; 04 R149; reset empty -/
  matchOld : NMap W32 := []
  /-- nanoword budget; 04 R139; reset 4096 -/
  budget : Nat := 4096
  /-- module store mode is P; 04 R147; reset true -/
  modeP : Bool := true
deriving DecidableEq, Repr

/-! ## Lookup (05) -/

/-- The versions of an epoch-managed entry (02 R60): under the current epoch, under the pending epoch when it changes
the entry, and under the replaced epoch until its release. -/
structure Ver (α : Type) where
  /-- version of the current epoch; 02 R60 -/
  cur : Option α := none
  /-- pending version, some none for a deletion; 02 R60 -/
  pend : Option (Option α) := none
  /-- replaced version until the release; 02 R64 -/
  old : Option (Option α) := none
deriving DecidableEq, Repr

/-- Key of a FIB entry (05 R158). -/
structure FibKey where
  vrf : Nat
  v6 : Bool
  pfx : Ip
  plen : Nat
deriving DecidableEq, Repr

/-- What a FIB or exact-match entry returns (05 R159). -/
structure LookupVal where
  /-- kind; 2 bits; 05 R159 -/
  kind : Nat := 0
  /-- target; 20 bits; 05 R159 -/
  target : Nat := 0
  /-- user data; 16 bits; 05 R159 -/
  user : Nat := 0
  /-- raw bits 47:0 of an exact-match result; 48 bits; 05 R160 -/
  raw : BitVec 48 := 0#48
deriving DecidableEq, Repr

/-- A next hop (05 R161). -/
structure NextHop where
  voqBase : Nat := 0
  port : Nat := 0
  module : Nat := 0
  encap : W32 := 0#32
deriving DecidableEq, Repr

/-- An ECMP group (05 R162). -/
structure Ecmp where
  resilient : Bool := false
  members : List Nat := []
deriving DecidableEq, Repr

/-- A policer's parameters (05 R166). -/
structure Policer where
  trtcm : Bool := true
  aware : Bool := false
  cir : Nat := 0
  pir : Nat := 0
  cbs : Nat := 0
  ebs : Nat := 0
  pbs : Nat := 0
  adjust : Int := 0
deriving DecidableEq, Repr

/-- A policer's buckets in 1/65536 byte (05 R167, R168). -/
structure Bucket where
  /-- Tc; 05 R168 -/
  tc : Nat := 0
  /-- Te or Tp; 05 R168 -/
  t2 : Nat := 0
  /-- time of the last update, station ns; 05 R168 -/
  last : Nat := 0
deriving DecidableEq, Repr

/-- An associative row (05 R171-R173, R189). -/
structure AclRow where
  /-- value; 320 bits; 05 R180; reset 0 -/
  value : BitVec 320 := 0#320
  /-- mask, 1 compares the bit; 320 bits; 05 R180 (notes/assumptions/21.md) -/
  mask : BitVec 320 := 0#320
  /-- action; 8 bytes; 05 R173; reset 0 -/
  action : W64 := 0#64
  /-- valid for even epochs; 05 R173; reset 0 -/
  even : Bool := false
  /-- valid for odd epochs; 05 R173; reset 0 -/
  odd : Bool := false
  /-- the check code fails; 05 R189; reset false -/
  bad : Bool := false
deriving DecidableEq, Repr

/-- An associative profile (05 R174). -/
structure AclProfile where
  /-- 640-bit width; 05 R174 -/
  wide : Bool := false
  /-- chunk sources, chunk 0 in the first byte; 40 bytes; 05 R174 -/
  chunks : BitVec 320 := 0#320
  /-- bank mask; 32 bits; 05 R174 -/
  mask : W32 := 0#32
  /-- select chunk, none; 05 R174 -/
  select : Option Nat := none
  /-- enable; 05 R174 -/
  enable : Bool := false
  /-- owning slice; 05 R174 -/
  owner : Nat := 0
deriving DecidableEq, Repr

/-- States of a physical bank (05 R185). -/
inductive BankSt where
  | inService | source | testing | spare | failed | off
deriving DecidableEq, Repr

/-- A physical bank (05 R185, 19 ACL_BANK_MAP). -/
structure PhysBank where
  /-- state; 3 bits; 05 R185; reset IN_SERVICE -/
  st : BankSt := .inService
  /-- logical bank served; 5 bits; 05 R185 -/
  logical : Nat := 0
  /-- uptime of the last test; 05 R186; reset none -/
  tested : Option Nat := none
deriving DecidableEq, Repr

/-- An override of a bank's rank order (05 R180). -/
structure Override where
  bank : Nat
  p : Nat
  q : Nat
  odd : Bool
deriving DecidableEq, Repr

/-- Work that waits for a bank's update slot (05 R182). -/
inductive BankJob where
  | repair (index : Nat)
  | copy (p q : Nat)
  | write (index : Nat)
deriving DecidableEq, Repr

/-- Migration to the spare (05 R186, R190). -/
structure Migration where
  /-- logical bank moved; 05 R186 -/
  logical : Nat := 0
  /-- physical source; 05 R186 -/
  src : Nat := 0
  /-- physical destination, the spare; 05 R186 -/
  dst : Nat := 0
  /-- rows copied; 05 R186 -/
  next : Nat := 0
  /-- written from the postmasters' copy after a fault; 05 R190 -/
  fault : Bool := false
deriving DecidableEq, Repr

/-- Lookup tables and associative banks (05). -/
structure LookupUnit where
  /-- FIB; 05 R158 -/
  fib : Assoc FibKey (Ver LookupVal) := []
  /-- exact match, key (type, 256-bit key); 05 R160 -/
  exact : Assoc (Nat × BitVec 256) (Ver LookupVal) := []
  /-- next hops; 05 R161 -/
  nh : Assoc Nat (Ver NextHop) := []
  /-- ECMP groups; 05 R162 -/
  ecmp : Assoc Nat (Ver Ecmp) := []
  /-- policers; 05 R166 -/
  policers : Assoc Nat (Ver Policer) := []
  /-- policer buckets, key policer; 05 R168 -/
  buckets : NMap Bucket := []
  /-- associative profiles; 05 R174 -/
  profiles : Assoc Nat (Ver AclProfile) := []
  /-- select tables, 256 masks; 05 R174 -/
  selects : Assoc Nat (Ver (List W32)) := []
  /-- associative rows, key 8192 x logical bank + index; 05 R173 -/
  rows : NMap AclRow := []
  /-- override tables; 512 per bank; 05 R180; reset empty -/
  overrides : List Override := []
  /-- the current epoch's rows use the valid bit of the parity that is not its number's, after a switch between epochs of
  one parity; 02 R59, R60, 05 R173; reset false -/
  flip : Bool := false
  /-- width of each logical bank is 640, key bank; 05 R172; reset false -/
  wide : NMap Bool := []
  /-- physical banks 0-32; 05 R185 -/
  banks : NMap PhysBank := []
  /-- jobs that wait for an update slot, key logical bank, in arrival order; 05 R182 -/
  jobs : NMap (List BankJob) := []
  /-- copies of the release in progress still to be made; 05 R181; reset 0 -/
  copiesLeft : Nat := 0
  /-- migration in progress; 05 R186; reset none -/
  migration : Option Migration := none
  /-- physical bank under test and the uptime its test started; 05 R186; reset none -/
  testing : Option (Nat × Nat) := none
  /-- uptime of the last test's start; 05 R186; reset 0 -/
  lastStart : Nat := 0
  /-- self-test period in ns, 0 off; 05 R186; reset 24 h -/
  period : Nat := 86400000000000
  /-- hash seed; 32 bits; 05 R163; reset 0x5EED0001 -/
  seed : W32 := 0x5EED0001#32
  /-- hash profiles' fields, key profile; 12 bits; 05 R163; reset all but bits 0, 9-11 -/
  hash : NMap (BitVec 12) := []
deriving DecidableEq, Repr

/-! ## Buffers (06) -/

/-- An ownership record (06 R200). -/
structure OwnerRec where
  owner : Owner
  cls : Nat
  size : Nat
deriving DecidableEq, Repr

/-- Reserves and limits of a requester class (06 R196). -/
structure BufClass where
  /-- shallow reserve in bytes; 06 R196 -/
  shallowReserve : Nat := 0
  /-- shallow limit in bytes; 06 R196 -/
  shallowLimit : Nat := 0
  /-- deep reserve in bytes; 06 R196 -/
  deepReserve : Nat := 0
  /-- deep limit in bytes; 06 R196 -/
  deepLimit : Nat := 0
deriving DecidableEq, Repr

/-- An admission profile (06 R208). -/
structure Admission where
  /-- the host has set it; 11 R353; reset false -/
  configured : Bool := false
  /-- G in bytes; 06 R208; reset 0 -/
  guaranteed : Nat := 0
  /-- spill_enable; 06 R208; reset true -/
  spillEnable : Bool := true
  /-- S in bytes; 06 R208; reset 1 MiB -/
  spill : Nat := 1048576
  /-- exponent of alpha_shallow; 06 R208; reset -3 -/
  alphaShallow : Int := -3
  /-- exponent of alpha_deep; 06 R208; reset -1 -/
  alphaDeep : Int := -1
  /-- max in bytes; 06 R208; reset 1 GiB -/
  max : Nat := 1073741824
  /-- yellow sixteenths; 06 R208; reset 12 -/
  yellow : Nat := 12
  /-- red sixteenths; 06 R208; reset 0 -/
  red : Nat := 0
deriving DecidableEq, Repr

/-- A descriptor block in use (06 R206). -/
structure DescBlock where
  /-- the block's buffer; 06 R195 -/
  buf : BufId
  /-- descriptors in admission order, 1-15; 06 R206 -/
  descs : List (BitVec 128)
  /-- descriptors not yet taken; 06 R206 -/
  left : Nat
  /-- block header as last written to the deep tier; 128 bits; 06 R206; reset 0 -/
  header : BitVec 128 := 0#128
deriving DecidableEq, Repr

/-- A mirror session (06 R214). -/
structure Mirror where
  /-- the host has set it; 11 R353; reset false -/
  configured : Bool := false
  /-- destination queue, or channel with bit 31 set (notes/assumptions/24.md); 06 R214; reset 0 -/
  destination : Nat := 0
  /-- truncate; 06 R214; reset 0 -/
  truncate : Nat := 0
  /-- sample; 06 R214; reset 1 -/
  sample : Nat := 1
  /-- enabled; 06 R214; reset false -/
  enabled : Bool := false
  /-- requests counted; 06 R215; reset 0 -/
  count : Nat := 0
deriving DecidableEq, Repr

/-- An entry of the dead-letter queue (06 R218, R220). -/
structure DlqEntry where
  packet : Packet
  cause : Nat
  queue : Nat
  annotation : List Byte
  seconds : W32
  nanoseconds : W32
deriving DecidableEq, Repr

/-- A packet in ingress cut-through (06 R221). -/
structure CutRun where
  /-- its VOQ; 06 R221 -/
  queue : Nat
  /-- uptime of its first octet; 06 R221 -/
  first : Nat
  /-- bytes of it already placed in its stream, packet header included; none before its first cell; 06 R221 -/
  sent : Option Nat := none
  /-- in cut-through; false once it is turned back; 06 R223 -/
  on : Bool := true
deriving DecidableEq, Repr

/-- Cut-through settings and progress of a port (06 R221-R223). -/
structure CutThrough where
  /-- ingress enabled; 06 R223; reset false -/
  ingress : Bool := false
  /-- egress enabled; 06 R223; reset false -/
  egress : Bool := false
  /-- ct_min; 06 R221; reset 2048 -/
  ctMin : Nat := 2048
  /-- ct_start; 06 R222; reset 1024 -/
  ctStart : Nat := 1024
  /-- the packet in ingress cut-through; 06 R221; reset none -/
  running : Option CutRun := none
deriving DecidableEq, Repr

/-- Buffer pools and the shared buffer (06). -/
structure BufferUnit where
  /-- pool of each granule moved off the default split, key granule; 06 R193; reset default split -/
  granules : NMap Nat := []
  /-- picked granules and the pool they move to, key granule; 06 R194; reset empty -/
  moving : NMap Nat := []
  /-- letter that waits for the granules; 06 R194; reset none -/
  poolsLetter : Option LetterId := none
  /-- reserves and limits set, key class; 06 R196; reset the table's defaults -/
  classes : NMap BufClass := []
  /-- ownership records of buffers in use; 06 R200; reset empty -/
  owners : Assoc BufId OwnerRec := []
  /-- buffers out of use until the next start-up; 09 R302; reset empty -/
  outOfUse : List BufId := []
  /-- priority pointers, key 4 x tier + pool; 06 R199; reset INGRESS -/
  pointers : NMap Nat := []
  /-- own: rivals of the request being served; 06 R199; reset empty -/
  rivals : List Rival := []
  /-- own: races won, each with its Depot cycle, key 4 x tier + pool and class; 06 R199; reset empty -/
  races : List (Nat × Nat × Nat) := []
  /-- admission profiles; 06 R208 -/
  admissions : NMap Admission := []
  /-- deep meter in bytes; 06 R211; reset 1 MiB -/
  deepMeter : Int := 1048576
  /-- uptime of the meter's last update; 06 R211; reset 0 -/
  deepAt : Nat := 0
  /-- write-behind area: pseudo-channel and bytes of each entry, oldest first; 12 MiB; 06 R213; reset empty -/
  writeBehind : List (Nat × Nat) := []
  /-- highest write-behind occupancy since last read; 06 R224; reset 0 -/
  writeBehindPeak : Nat := 0
  /-- mirror sessions 0-1023; 06 R214 -/
  mirrors : NMap Mirror := []
  /-- dead-letter mask, bit c for cause c; 06 R218; reset causes 3 and 4 -/
  dlqMask : W32 := 0x18#32
  /-- END_DROP reasons; 512 bits; 06 R218; reset 0 -/
  dlqReasons : BitVec 512 := 0#512
  /-- dead-letter limit in bytes; 06 R219; reset 4 MiB -/
  dlqLimit : Nat := 4194304
  /-- snap in octets; 06 R220; reset 256 -/
  dlqSnap : Nat := 256
  /-- dead-letter ring address and depth; 06 R220; reset none -/
  dlqRing : Option (W64 × Nat) := none
  /-- dead-letter queue, oldest first; 06 R218; reset empty -/
  dlq : List DlqEntry := []
  /-- records delivered to the dead-letter ring; 06 R220; reset 0 -/
  dlqProduced : Nat := 0
  /-- cut-through, key port; 06 R221 -/
  ct : NMap CutThrough := []
  /-- ingress packets from the Sorter awaiting admission, oldest first; 01 (path, step 5); reset empty -/
  fromSorter : List Packet := []
  /-- descriptor blocks of a queue, head first, key queue; 06 R206 -/
  blocks : NMap (List DescBlock) := []
  /-- queues whose head and tail blocks are in the descriptor-block cache, least recently used first; 65536; 06 R204;
  reset empty -/
  blockCache : List Nat := []
  /-- entries in the deep free-list cache, key 4 x pseudo-channel + pool; 1024; 06 R204; reset 0
  (notes/assumptions/137.md) -/
  freeCache : NMap Nat := []
deriving DecidableEq, Repr

/-! ## Queues and the scheduler (07) -/

/-- A queue (07 R226) with its list (06 R207). -/
structure Queue where
  /-- configured; 07 R225; reset false -/
  present : Bool := false
  /-- admission profile; 07 R226; reset 0 -/
  admission : Nat := 0
  /-- max_age in ns; 07 R226; reset 50 ms -/
  maxAge : Nat := 50000000
  /-- dest_module; 07 R226 -/
  destModule : Nat := 0
  /-- dest_port; 07 R226 -/
  destPort : Nat := 0
  /-- class; 07 R226; reset 0 -/
  cls : Nat := 0
  /-- eq_base; 07 R226 -/
  eqBase : Nat := 0
  /-- eq_mask; 16 bits; 07 R226; reset 0 -/
  eqMask : BitVec 16 := 0#16
  /-- gate; 07 R226; reset 0 -/
  gate : Nat := 0
  /-- pfc_class; 07 R226; reset none -/
  pfcClass : Option Nat := none
  /-- packets, head first; 06 R207; reset empty -/
  packets : List Packet := []
  /-- SPILLED; 06 R210; reset false -/
  spilled : Bool := false
  /-- credit balance in bytes, signed; 08 R283; reset 0 -/
  balance : Int := 0
  /-- request count; 16 bits; 08 R283; reset 0 -/
  reqSeq : BitVec 16 := 0#16
  /-- REQUEST ON sent last; 08 R283; reset false -/
  on : Bool := false
  /-- uptime of the last GRANT or REQUEST ON; 08 R285; reset 0 -/
  grantAt : Nat := 0
  /-- uptime of the last repeated REQUEST OFF; 08 R290; reset none -/
  offAt : Option Nat := none
  /-- multicast VOQ; 08 R286; reset false -/
  mcast : Bool := false
  /-- letter of a flush in progress; 07 R243; reset none -/
  flush : Option LetterId := none
deriving DecidableEq, Repr

/-- A scheduling node, level 0 for a queue (07 R231-R238). -/
structure Node where
  /-- the host has set it, port nodes exist always; 07 R232; reset false -/
  present : Bool := false
  /-- parent, level and node; 07 R232; reset none -/
  parent : Option (Nat × Nat) := none
  /-- priority; 07 R233; reset 0 -/
  priority : Nat := 0
  /-- weight; 07 R233; reset 1 -/
  weight : Nat := 1
  /-- CIR in b/s as held; 07 R233; reset 0 -/
  cir : Nat := 0
  /-- CBS in bytes; 07 R233; reset 16 KiB -/
  cbs : Nat := 16384
  /-- PIR in b/s as held; 07 R233; reset 0 -/
  pir : Nat := 0
  /-- PBS in bytes; 07 R233; reset 64 KiB -/
  pbs : Nat := 65536
  /-- length profile; 07 R233; reset 0 -/
  lengthProfile : Nat := 0
  /-- CIR bucket in 1/65536 byte; 07 R234; reset 0 -/
  ctok : Int := 0
  /-- station ns of the CIR bucket's update; 07 R234; reset 0 -/
  clast : Nat := 0
  /-- PIR bucket in 1/65536 byte; 07 R234; reset 0 -/
  ptok : Int := 0
  /-- station ns of the PIR bucket's update; 07 R234; reset 0 -/
  plast : Nat := 0
  /-- deficit at its parent in bytes; 07 R238; reset 0 -/
  deficit : Int := 0
  /-- last child picked, key priority, value key of `nodes`; 07 R238 -/
  lastPick : NMap Nat := []
deriving DecidableEq, Repr

/-- A length profile (07 R236). -/
structure LenProfile where
  /-- mode ADJUSTED; 07 R236; reset FRAME -/
  adjusted : Bool := false
  /-- adjust in octets; 07 R236; reset 0 -/
  adjust : Int := 0
  /-- the host has set it; 11 R353; reset false -/
  configured : Bool := false
deriving DecidableEq, Repr

/-- Hold states of a port's egress queues (07 R248). -/
inductive HoldSt where
  | serving | held | flushed
deriving DecidableEq, Repr

/-- An entry of a gate list (07 R245). -/
structure Gate where
  gates : BitVec 8
  interval : Nat
deriving DecidableEq, Repr

/-- The scheduler's and arbiter's state of a port (07 R228, R229, R245-R251). -/
structure PortQ where
  /-- overspeed in hundredths; 07 R228; reset 105 -/
  overspeed : Nat := 105
  /-- grant_stop in bytes; 07 R229; reset 256 KiB -/
  grantStop : Nat := 262144
  /-- hold time in ns; 07 R248; reset 10 ms -/
  hold : Nat := 10000000
  /-- gate_lead in ns; 07 R247; reset 2 us -/
  gateLead : Nat := 2000
  /-- arbiter priority of class c, key class; 07 R228; reset 0 -/
  classPriority : NMap Nat := []
  /-- arbiter weight of class c, key class; 07 R228; reset 1 -/
  classWeight : NMap Nat := []
  /-- hold state; 07 R248; reset SERVING -/
  holdSt : HoldSt := .serving
  /-- uptime of the port down event; 07 R249; reset 0 -/
  heldAt : Nat := 0
  /-- the flush runs; 07 R251; reset false -/
  flushing : Bool := false
  /-- a port up waits for the flush; 07 R251; reset false -/
  upPending : Bool := false
  /-- credit the arbiter may issue, in 1/65536 byte; 07 R228; reset 0 -/
  creditTok : Int := 0
  /-- station ns of the credit's last update; 07 R228; reset 0 -/
  creditAt : Nat := 0
  /-- deficit of a class at the arbiter, key class; 07 R228 -/
  classDeficit : NMap Int := []
  /-- last class picked, key priority; 07 R228 -/
  lastClass : NMap Nat := []
  /-- last source module served, key class; 07 R228 -/
  lastSrc : NMap Nat := []
  /-- grant_stop in effect, key class; 07 R229 -/
  stopped : NMap Bool := []
  /-- active gate list, empty for none; 07 R245; reset empty -/
  gates : List Gate := []
  /-- station units at which the active list's entry 0 started; 07 R246; reset 0 -/
  gatesStart : Nat := 0
  /-- index of the running entry; 07 R246; reset 0 -/
  gateIdx : Nat := 0
  /-- station units at which the running entry started; 07 R246; reset 0 -/
  gateAt : Nat := 0
  /-- inactive gate list; 07 R245; reset empty -/
  gatesIn : List Gate := []
  /-- inactive list's page; 07 R246; reset EMPTY -/
  gatesPage : Page := {}
  /-- start of the armed list in station units, the first whole us for a T of 0; 07 R246; reset 0 -/
  gatesT : Nat := 0
deriving DecidableEq, Repr

/-- The arbiter's entry for a VOQ (08 R283). -/
structure ArbEntry where
  port : Nat
  cls : Nat
  reqSeq : BitVec 16
deriving DecidableEq, Repr

/-- A packet the scheduler selected, with the shapers it debited for R237's adjustment (07 R237, R239). -/
structure Selected where
  packet : Packet
  queue : Nat
  /-- nodes whose PIR was debited, keys of `nodes` -/
  pirNodes : List Nat
  /-- nodes whose CIR was debited -/
  cirNodes : List Nat
deriving DecidableEq, Repr

/-- Queues, scheduling, shaping and gates (07). -/
structure QueueUnit where
  /-- queues 0-524287; 07 R225 -/
  queues : NMap Queue := []
  /-- nodes, key 2^20 x level + node; 07 R231 -/
  nodes : NMap Node := []
  /-- length profiles 0-63; 07 R236 -/
  lengths : NMap LenProfile := []
  /-- ports 0-191; 07 R228 -/
  ports : NMap PortQ := []
  /-- arbiter entries, key (source module, voq), all ON; 131072; 08 R283; reset empty -/
  arb : Assoc (Nat × Nat) ArbEntry := []
  /-- VOQs that hold credit, in the order in which it arrived; 07 R230; reset empty -/
  credited : List Nat := []
  /-- packets selected whose window waits to go to the Sorter, oldest first; 01 (path, step 9); reset empty -/
  selected : List Selected := []
  /-- packets whose window is at the Sorter, oldest first per port; 01 (path, step 11); reset empty -/
  away : List Selected := []
  /-- rewritten windows back from the Sorter; 01 (path, step 11); reset empty -/
  returned : List (Packet × Bool) := []
  /-- last port served; 07 R240; reset 191 -/
  lastPort : Nat := 191
deriving DecidableEq, Repr

/-! ## Fabric (08) -/

/-- Fabric link states (08 R259). -/
inductive LinkSt where
  | off | aligning | ident | up | down
deriving DecidableEq, Repr

/-- A postcard (02 R72); `rsvOk` says that its RSV fields are zero. -/
structure Postcard where
  format : Byte
  rsvOk : Bool
  src : Fin 128
  seq : BitVec 16
  txSeconds : W32
  txNs : W32
  epochCurrent : BitVec 16
  epochPending : BitVec 16
  pendingState : BitVec 3
  lag : Bool
  sequenced : Bool
  timeState : BitVec 2
  timeError : BitVec 16
  ucodeMin : W32
  ucodeMax : W32
  reachMap : BitVec 128
deriving DecidableEq, Repr

/-- A data cell as received (08 R263). -/
structure Cell where
  /-- multicast data; 08 R263 -/
  multicast : Bool
  /-- restart; 1 bit; 08 R263 -/
  restart : Bool
  /-- poisoned; 1 bit; 08 R263 -/
  poisoned : Bool
  /-- src_module; 7 bits; 08 R263 -/
  src : Fin 128
  /-- dst_module; 7 bits; 08 R263 -/
  dst : BitVec 7
  /-- seq; 24 bits; 08 R263 -/
  seq : BitVec 24
  /-- epoch; 16 bits; 08 R263 -/
  epoch : BitVec 16
  /-- first_off; 9 bits; 08 R263 -/
  firstOff : BitVec 9
  /-- fill; 9 bits; 08 R263 -/
  fill : BitVec 9
  /-- payload; 288 bytes; 08 R264 -/
  payload : List Byte
deriving DecidableEq, Repr

/-- A reach cell's payload (08 R265). -/
structure ReachCell where
  element : BitVec 16
  plane : BitVec 4
  port : Byte
  map : BitVec 128
deriving DecidableEq, Repr

/-- A REQUEST message (08 R266); `rsvOk` says that its reserved fields are zero. -/
structure RequestMsg where
  on : Bool
  port : Byte
  cls : BitVec 3
  voq : BitVec 17
  reqSeq : BitVec 16
  rsvOk : Bool
deriving DecidableEq, Repr

/-- A GRANT message (08 R266). -/
structure GrantMsg where
  port : Byte
  cls : BitVec 3
  voq : BitVec 17
  bytes : BitVec 17
deriving DecidableEq, Repr

/-- A data cell on its way out (08 R263). -/
structure TxCell where
  /-- stream: 0-127 unicast destination, 128 multicast; 08 R267 -/
  stream : Nat := 0
  /-- seq; 24 bits; 08 R273 -/
  seq : Nat := 0
  /-- restart; 08 R273 -/
  restart : Bool := false
  /-- poisoned; 08 R263 -/
  poisoned : Bool := false
  /-- epoch; 16 bits; 08 R263 -/
  epoch : BitVec 16 := 0#16
  /-- first_off, 0x1FF for none; 08 R263 -/
  firstOff : Nat := 511
  /-- tx_ns; 32 bits; 08 R263 -/
  txNs : W32 := 0#32
  /-- payload bytes in use; 08 R263 -/
  payload : List Byte := []
deriving DecidableEq, Repr

/-- A control cell on its way out (08 R265). -/
inductive ControlCell where
  | postcard (pc : Postcard)
  | credit (dst : Nat) (msgs : List (BitVec 128))
  | ident (module plane link : Nat)
deriving DecidableEq, Repr

/-- A fabric link (08 R259-R262, R269, R281). -/
structure Link where
  /-- state; 08 R259; reset OFF -/
  st : LinkSt := .off
  /-- enabled; 08 R259; reset false -/
  enabled : Bool := false
  /-- uptime of entering the state or of the last retry; 08 R259; reset 0 -/
  since : Nat := 0
  /-- reach cells in a row that agree in IDENT; 08 R260; reset 0 -/
  agree : Nat := 0
  /-- element_id of the partner; 16 bits; 08 R260; reset 0 -/
  element : BitVec 16 := 0#16
  /-- element_port of the partner; 8 bits; 08 R260; reset 0 -/
  eport : Byte := 0#8
  /-- latest reach map; 128 bits; 08 R271; reset 0 -/
  map : BitVec 128 := 0#128
  /-- uptime of the last reach cell; 08 R261; reset 0 -/
  reachAt : Nat := 0
  /-- hold received is set; 08 R281; reset false -/
  hold : Bool := false
  /-- uptime since which hold is set; 08 R261; reset 0 -/
  holdAt : Nat := 0
  /-- FLT_FAB_MISWIRED raised since the link left UP; 08 R260; reset false -/
  miswired : Bool := false
  /-- data cells placed and waiting; one behind the one being sent; 08 R269; reset empty -/
  waiting : List TxCell := []
  /-- control cells waiting; 08 R270; reset empty -/
  control : List ControlCell := []
  /-- uptime of the last ident cell; 08 R265; reset 0 -/
  identAt : Nat := 0
  /-- destinations to which a cell was placed on the link, with the uptime; 08 R276 -/
  placedAt : NMap Nat := []
  /-- a disable is in progress for this letter; 08 R262; reset none -/
  disable : Option LetterId := none
  /-- cell slots sent since the last marker codeword; 12 bits; 08 R256; reset 0 -/
  slots : Nat := 0
  /-- scrambler, the last 58 bits sent; 08 R256; reset 0 (notes/assumptions/6.md) -/
  scrambler : Nat := 0
deriving DecidableEq, Repr

/-- A transmit stream and its open cell (08 R267, R268, R273). -/
structure TxStream where
  /-- next seq; 24 bits; 08 R273; reset 0 -/
  seq : Nat := 0
  /-- cells left that carry restart; 08 R273; reset 0 -/
  restartLeft : Nat := 0
  /-- open cell's bytes; 08 R268; reset empty -/
  payload : List Byte := []
  /-- first_off of the open cell; 08 R263; reset none -/
  firstOff : Option Nat := none
  /-- epoch of the open cell; 16 bits; 08 R268; reset 0 -/
  epoch : BitVec 16 := 0#16
  /-- uptime of the open cell's first byte; 08 R268; reset 0 -/
  openAt : Nat := 0
  /-- round-robin pointer over links; 08 R269; reset 255 -/
  rr : Nat := 255
  /-- VOQ whose cut-through packet is being placed; 06 R221; reset none -/
  cut : Option Nat := none
deriving DecidableEq, Repr

/-- The packet a receive stream has open (08 R277). -/
structure Partial where
  /-- the packet as far as written; 08 R277 -/
  packet : Packet
  /-- frame bytes still needed; 08 R277 -/
  need : Nat
  /-- uptime of its packet header; 08 R278 -/
  since : Nat
  /-- the queues it is admitted to; empty when refused; 08 R277 -/
  admitted : List (Nat × Placed)
  /-- its egress queue held no packet when its first cell arrived; 06 R222 -/
  alone : Bool := false
  /-- linked by cut-through and turned back to store-and-forward; 06 R223 -/
  back : Bool := false
deriving DecidableEq, Repr

/-- A receive stream (08 R273-R279). -/
structure RxStream where
  /-- expected number e; 24 bits; 08 R273; reset 0 -/
  e : Nat := 0
  /-- marked restarted; 08 R274; reset false -/
  restarted : Bool := false
  /-- held cells by offset from e rising, each with the uptime of its arrival; 08 R273, R275; reset empty -/
  held : List (Nat × Cell) := []
  /-- uptimes of loss events that name the stream, newest first; 08 R275; reset empty -/
  losses : List Nat := []
  /-- packet open; 08 R277; reset none -/
  open_ : Option Partial := none
  /-- continuation bytes are discarded up to the next first_off; 08 R278; reset false -/
  skip : Bool := false
deriving DecidableEq, Repr

/-- The fabric interface (08). -/
structure FabricUnit where
  /-- links 0-255; 08 R259 -/
  links : NMap Link := []
  /-- transmit equaliser taps, key lane; 08 R258 -/
  taps : NMap Taps := []
  /-- transmit streams, key destination, 128 multicast; 08 R267 -/
  tx : NMap TxStream := []
  /-- receive streams, key 2 x source + multicast; 08 R273 -/
  rx : NMap RxStream := []
  /-- closed cells that found no candidate link, oldest first; 08 R269; reset empty -/
  unplaced : List TxCell := []
  /-- uptimes of loss events that affect every stream, newest first; 08 R275; reset empty -/
  losses : List Nat := []
  /-- hold sent on every link; 08 R282; reset false -/
  holdOut : Bool := false
  /-- uptime since which it is sent; 08 R291; reset 0 -/
  holdOutAt : Nat := 0
  /-- reasm_timeout in ns; 08 R289; reset 50 us -/
  reasmTimeout : Nat := 50000
  /-- skew_limit in ns; 08 R289; reset 3 us -/
  skewLimit : Nat := 3000
  /-- credit_wd in ns; 08 R289; reset 200 us -/
  creditWd : Nat := 200000
  /-- grant_size in bytes; 08 R289; reset 4 KiB -/
  grantSize : Nat := 4096
  /-- hold_max in ns; 08 R289; reset 1 ms -/
  holdMax : Nat := 1000000
  /-- pack_wait in ns; 08 R289; reset 100 ns -/
  packWait : Nat := 100
  /-- mc_rate in b/s; 08 R289; reset 4.6 Tb/s -/
  mcRate : Nat := 4600000000000
  /-- multicast token bucket in 1/65536 byte; 08 R286; reset 0 -/
  mcTok : Int := 0
  /-- uptime of its last update; 08 R286; reset 0 -/
  mcAt : Nat := 0
  /-- open credit cells: messages and uptime opened, key destination; 08 R284 -/
  credit : NMap (List (BitVec 128) × Nat) := []
  /-- round-robin of control cells over UP links; 08 R270; reset 255 -/
  ctrlRr : Nat := 255
  /-- round-robin of postcards over a plane's links, key plane; 08 R270 -/
  pcRr : NMap Nat := []
  /-- pc_seq to send next; 16 bits; 02 R72; reset 0 -/
  pcSeq : BitVec 16 := 0#16
  /-- uptime at which postcards were last sent; 02 R72; reset none -/
  pcAt : Option Nat := none
  /-- multicast groups' local queues, key mgid; 08 R287 -/
  mgroups : NMap (List Nat) := []
  /-- uptimes of the excess and invalid grants of a source in the last 1 ms, oldest first, key module; 08 R290 -/
  floods : NMap (List Nat) := []
deriving DecidableEq, Repr

/-! ## HBM (09) -/

/-- Pseudo-channel states (09 R305). -/
inductive PchSt where
  | training | open_ | fenced | offline | draining | failed
deriving DecidableEq, Repr

/-- Requesters of the deep tier (09, request ordering). -/
inductive HbmReq where
  | tx | fab | desc | wb | metaReq
deriving DecidableEq, Repr

/-- A queued request (09 R296-R299). -/
structure Request where
  /-- requester; 09 R296 -/
  who : HbmReq
  /-- write; 09 R296 -/
  write : Bool
  /-- byte address; 30 bits; 09 R293 -/
  addr : Nat
  /-- bytes to move; 09 R296 -/
  bytes : Nat
  /-- uptime of entering the queue, of arrival while it waits for a full one; 09 R297, R299 -/
  at_ : Nat
  /-- place in the order of the pseudo-channel's requests; own; 09 R297 -/
  ord : Nat := 0
  /-- bytes of the access that this request ends, 0 for an earlier part of one; own; 09 R293 -/
  whole : Nat := 0
  /-- panic read; 09 R299 -/
  panic : Bool := false
  /-- buffer the request serves; 09 R297 -/
  buf : Option BufId := none
deriving DecidableEq, Repr

/-- A pseudo-channel (09 R293-R311). -/
structure Pch where
  /-- state; 09 R305; reset TRAINING -/
  st : PchSt := .training
  /-- read queue, oldest first; 32; 09 R296; reset empty -/
  reads : List Request := []
  /-- write queue, oldest first; 32; 09 R296; reset empty -/
  writes : List Request := []
  /-- requests waiting for a full queue; 09 R296; reset empty -/
  blocked : List Request := []
  /-- requests made so far; own; 09 R297; reset 0 -/
  seq : Nat := 0
  /-- direction is write; 09 R298; reset read -/
  writeMode : Bool := false
  /-- open row, key bank; 09 R296 -/
  rows : NMap Nat := []
  /-- refreshes postponed, key bank; 09 R300 -/
  postponed : NMap Nat := []
  /-- uptime of the last refresh due, key bank; 09 R300 -/
  refreshAt : NMap Nat := []
  /-- queued neighbour refreshes (bank, row), oldest first; 8; 09 R301; reset empty -/
  nbr : List (Nat × Nat) := []
  /-- a neighbour refresh is forced; 09 R301; reset false -/
  nbrForced : Bool := false
  /-- linear-feedback generator; 16 bits, none before its seed; 09 R301; reset none -/
  lfsr : Option (BitVec 16) := none
  /-- uptimes of uncorrectable reads; 09 R302; reset empty -/
  uncorr : List Nat := []
  /-- the error threshold was reached while OFFLINE; 09 R311; reset false -/
  drainAfter : Bool := false
  /-- uptime of the last window; 09 R306; reset 0 -/
  windowAt : Nat := 0
  /-- stack temperature at the last window; 09 R306; reset 0 -/
  windowTemp : Nat := 0
  /-- goes first in the next turn; 09 R306; reset false -/
  first : Bool := false
  /-- training asked for by HBM.RETRAIN_NOW; 09 R314; reset false -/
  retrainNow : Bool := false
deriving DecidableEq, Repr

/-- A retraining window (09 R307). -/
structure Window where
  /-- pseudo-channel; 09 R307 -/
  pch : Nat
  /-- Tw as uptime; 09 R307 -/
  tw : Nat
deriving DecidableEq, Repr

/-- A stack (09 R295, R306-R313). -/
structure Stack where
  /-- enabled; 09 R312; reset true -/
  enabled : Bool := true
  /-- powered and trained at least once; 09 R313; reset false -/
  active : Bool := false
  /-- in self-refresh; 09 R309; reset false -/
  asleep : Bool := false
  /-- uptime of entering self-refresh; 09 R315; reset 0 -/
  asleepAt : Nat := 0
  /-- uptime since which the stack is idle; 09 R309; reset 0 -/
  idleSince : Nat := 0
  /-- share meter in bytes; 09 R295; reset 128 KiB -/
  meter : Int := 131072
  /-- uptime of the meter's update; 09 R295; reset 0 -/
  meterAt : Nat := 0
  /-- round-robin pointer; 09 R295; reset 63 -/
  rr : Nat := 63
  /-- window fenced or offline; 09 R307; reset none -/
  window : Option Window := none
  /-- uptime at which the next window may start; 09 R306; reset 0 -/
  nextWindow : Nat := 0
  /-- letter of a disable in progress; 09 R312; reset none -/
  disable : Option LetterId := none
  /-- draining for a disable; 09 R312; reset false -/
  draining : Bool := false
deriving DecidableEq, Repr

/-- A byte lane's training result (09 R314). -/
structure Lane where
  /-- rd_left; 7 bits; 09 R314; reset 0 -/
  rdLeft : Nat := 0
  /-- rd_right; 7 bits; 09 R314; reset 0 -/
  rdRight : Nat := 0
  /-- wr_left; 7 bits; 09 R314; reset 0 -/
  wrLeft : Nat := 0
  /-- wr_right; 7 bits; 09 R314; reset 0 -/
  wrRight : Nat := 0
  /-- rd_centre; 7 bits; 09 R314; reset 0 -/
  rdCentre : Nat := 0
  /-- wr_centre; 7 bits; 09 R314; reset 0 -/
  wrCentre : Nat := 0
  /-- vref; 6 bits; 09 R314; reset 0 -/
  vref : Nat := 0
  /-- spare_bit; 4 bits; 09 R314; reset 0xF -/
  spare : Nat := 15
  /-- source; 2 bits; 09 R314; reset 0 -/
  source : Nat := 0
deriving DecidableEq, Repr

/-- The HBM controller (09). -/
structure HbmUnit where
  /-- pseudo-channels 0-511; 09 R292 -/
  pchs : NMap Pch := []
  /-- stacks 0-7; 09 R292 -/
  hbmStacks : NMap Stack := []
  /-- byte lanes, key 4 x pseudo-channel + lane; 2048; 09 R303 -/
  lanes : NMap Lane := []
  /-- panic_ns; 09 R299; reset 1000 -/
  panicNs : Nat := 1000
  /-- n of neighbour refresh; 09 R301; reset 11 -/
  nbrN : Nat := 11
  /-- retrain_period in ns; 09 R306; reset 1 s -/
  retrainPeriod : Nat := 1000000000
  /-- sr_idle in ns; 09 R309; reset 2 us -/
  srIdle : Nat := 2000
deriving DecidableEq, Repr

/-! ## Letters, rings and events (10) -/

/-- State of a letter ring (10 R316, R321, 19 R515). -/
inductive RingSt where
  | closed | running | closing | stopped | refused
deriving DecidableEq, Repr

/-- A letter ring with its receipt ring (10 R316-R322). -/
structure Ring where
  /-- state; 10 R316; reset closed -/
  st : RingSt := .closed
  /-- letter ring address; 64 bits; 10 R316; reset 0 -/
  letters : W64 := 0#64
  /-- receipt ring address; 64 bits; 10 R316; reset 0 -/
  receipts : W64 := 0#64
  /-- depth; 10 R316; reset 0 -/
  depth : Nat := 0
  /-- count last accepted from the letter doorbell; 32 bits; 10 R317; reset 0 -/
  placed : W32 := 0#32
  /-- letters taken, c; 32 bits; 10 R317; reset 0 -/
  taken : W32 := 0#32
  /-- ring indices of claims that returned to UNSEEN, to be taken again; 13 R400; reset empty -/
  retake : List W32 := []
  /-- receipts written, w; 32 bits; 10 R317; reset 0 -/
  written : W32 := 0#32
  /-- receipts consumed, u; 32 bits; 10 R317; reset 0 -/
  consumed : W32 := 0#32
  /-- receipt slots reserved for letters taken; 10 R318; reset 0 -/
  reserved : Nat := 0
  /-- receipts ready, oldest first, with dup and whether they hold a reservation; 10 R318, R334; reset empty -/
  ready : List (Receipt × Bool) := []
  /-- receipts written whose delivery is not confirmed; 10 R334, 13 R401; reset empty -/
  unconfirmed : List W32 := []
  /-- letter of MODULE.CLOSE_RING that waits; 10 R344; reset none -/
  close : Option LetterId := none
  /-- ready receipts that a hold kept and that are still to be written; 11 R362; reset 0 -/
  owed : Nat := 0
deriving DecidableEq, Repr

/-- A slice's event ring (10 R341, R342). -/
structure EventRing where
  /-- defined; 10 R341; reset false -/
  defined : Bool := false
  /-- stopped by a bus error; 10 R342; reset false -/
  stopped : Bool := false
  /-- address; 64 bits; 10 R341; reset 0 -/
  addr : W64 := 0#64
  /-- depth; 10 R341; reset 0 -/
  depth : Nat := 0
  /-- entries written, w; 32 bits; 10 R317; reset 0 -/
  written : W32 := 0#32
  /-- entries consumed, u; 32 bits; 10 R317; reset 0 -/
  consumed : W32 := 0#32
  /-- the next event written sets lost; 10 R342; reset false -/
  lost : Bool := false
  /-- events waiting to be written, oldest first; 10 R341; reset empty -/
  queue : List Event := []
  /-- waiting events that a hold kept and that are still to be written; 11 R362; reset 0 -/
  owed : Nat := 0
deriving DecidableEq, Repr

/-- Ledger entry states; UNSEEN has no entry (13 R399). -/
inductive LedgerSt where
  | claimed | accepted | done
deriving DecidableEq, Repr

/-- How a letter came (10 R320, R323). -/
inductive Via where
  | ring (r : Nat)
  | inband (port : Nat) (v6 : Bool) (addr : Ip) (udp : Nat) (own : Ip)
deriving DecidableEq, Repr

/-- A ledger entry (10 R332, 13 R399). -/
structure Entry where
  /-- state; 13 R399 -/
  st : LedgerSt := .claimed
  /-- postmaster that claimed; 13 R399 -/
  pm : Pm := .a
  /-- term of the claim; 24 bits; 13 R399 -/
  term : BitVec 24 := 0#24
  /-- ring, or in-band peer; 13 R399 -/
  via : Via := .ring 0
  /-- ring index; 13 R399 -/
  index : W32 := 0#32
  /-- opcode; 16 bits; 10 R327 -/
  opcode : BitVec 16 := 0#16
  /-- cookie; 64 bits; 10 R327 -/
  cookie : W64 := 0#64
  /-- EPOCH_NAMED and the epoch; 10 R327 -/
  epoch : Option (BitVec 16) := none
  /-- ALLOW_SEQUENCED; 10 R327 -/
  allowSeq : Bool := false
  /-- WAIT; 10 R327, R334 -/
  wait : Bool := false
  /-- body bytes; 10 R328 -/
  body : List Byte := []
  /-- effect steps journaled; 13 R399 -/
  journaled : Nat := 0
  /-- the receipt waits for an owning rule's end; 10 R331 -/
  waits : Bool := false
  /-- receipt; 10 R333 -/
  receipt : Receipt := {}
  /-- delivered; 13 R399 -/
  delivered : Bool := false
deriving DecidableEq, Repr

/-- A slice's ledger (10 R332). -/
structure Ledger where
  /-- highest number accepted H, none when empty; 32 bits; 10 R332; reset none -/
  high : Option W32 := none
  /-- entries, key seq; 1024; 10 R332; reset empty -/
  entries : NMap Entry := []
deriving DecidableEq, Repr

/-- A letter received in-band and not yet taken (10 R320, R323). -/
structure InbandLetter where
  via : Via
  bytes : List Byte
deriving DecidableEq, Repr

/-- Rings, events and the ledger (10 R316-R343). -/
structure LetterUnit where
  /-- letter rings, key 8 x slice + ring; 10 R316 -/
  rings : NMap Ring := []
  /-- event rings, key slice; 10 R341 -/
  events : NMap EventRing := []
  /-- ledgers, key slice; 10 R332 -/
  ledgers : NMap Ledger := []
  /-- in-band letters accepted, key slice, oldest first; 10 R323 -/
  inband : NMap (List InbandLetter) := []
  /-- in-band receipts ready, key slice: via, receipt, uptime; 10 R323 -/
  replies : NMap (List (Via × Receipt × Nat)) := []
  /-- last ring a slice's letter was taken from, key slice; 10 R320 -/
  lastRing : NMap Nat := []
  /-- letters a slice may still take in the round, key slice; 10 R320 -/
  turns : NMap Nat := []
  /-- slices whose next letter waits for the slice's rate and has been counted, key slice; 11 R372; reset none -/
  waits : NMap Bool := []
  /-- letters taken in the current second of all slices, and its start; 10 R320; reset 0 (notes/assumptions/35.md) -/
  rate : Nat × Nat := (0, 0)
deriving DecidableEq, Repr

/-- A neighbour-cache entry or a resolution in progress (10 R325). -/
structure Neighbour where
  port : Nat
  v6 : Bool
  addr : Ip
  /-- MAC, none while resolving; 10 R325 -/
  mac : Option Mac
  /-- uptime of last use, or of the last request; 10 R325 -/
  used : Nat
  /-- requests sent; 10 R325 -/
  tries : Nat
deriving DecidableEq, Repr

/-- Addressing of a management port (10 R324). -/
structure MgmtPort where
  /-- VLAN ID, 0 untagged; 10 R324; reset 0 -/
  vlan : Nat := 0
  /-- IPv4 address, 0 none; 10 R324; reset 0 -/
  ipv4 : W32 := 0#32
  /-- IPv4 prefix length; 10 R324; reset 0 -/
  ipv4Plen : Nat := 0
  /-- IPv4 gateway, 0 none; 10 R324; reset 0 -/
  ipv4Gw : W32 := 0#32
  /-- IPv6 address, 0 none; 10 R324; reset 0 -/
  ipv6 : Ip := 0#128
  /-- IPv6 prefix length; 10 R324; reset 0 -/
  ipv6Plen : Nat := 0
  /-- IPv6 gateway, 0 none; 10 R324; reset 0 -/
  ipv6Gw : Ip := 0#128
deriving DecidableEq, Repr

/-- The management ports (10 R323-R325). -/
structure MgmtUnit where
  /-- ports 0 and 1; 10 R324 -/
  ports : NMap MgmtPort := []
  /-- in-band UDP port; 16 bits; 10 R323; reset 50740 -/
  udp : Nat := 50740
  /-- bindings: slice, address, UDP port; 10 R323; reset empty -/
  bindings : List (Nat × Ip × Nat) := []
  /-- neighbour cache and resolutions; 64 per port and family; 10 R325; reset empty -/
  neighbours : List Neighbour := []
  /-- reply datagrams waiting for a resolution: next hop, via, receipts; 10 R325; reset empty -/
  waiting : List (Ip × Via × List Receipt) := []
  /-- uptimes of the echo answers of the last second, oldest first, key port; 10 R325; reset empty -/
  echoes : NMap (List Nat) := []
deriving DecidableEq, Repr

/-! ## Slices (11) -/

/-- Slice states (11 R349). -/
inductive SliceSt where
  | absent | active | held | resetting | cleared
deriving DecidableEq, Repr

/-- A slice (11 R346-R373). -/
structure Slice where
  /-- state; 11 R349; reset ABSENT, slice 0 ACTIVE -/
  st : SliceSt := .absent
  /-- PASID; 20 bits; 11 R346; reset 0 -/
  pasid : BitVec 20 := 0#20
  /-- quota amounts, key resource code; 11 R351; reset the Created column -/
  amounts : NMap Nat := []
  /-- first identifiers of ranges, key resource code; 11 R350 -/
  firsts : NMap Nat := []
  /-- held under item 0x08; 11 R361; reset false -/
  held : Bool := false
  /-- uptime of the hold; 11 R372; reset 0 -/
  heldAt : Nat := 0
  /-- letter that waits for the hold's quiescence; 11 R361; reset none -/
  holdLetter : Option LetterId := none
  /-- letter of the reset; 11 R363; reset none -/
  resetLetter : Option LetterId := none
  /-- uptime of the reset's acceptance; 11 R363; reset 0 -/
  resetAt : Nat := 0
  /-- step of the reset reached, 1-5; 11 R363; reset 0 -/
  resetStep : Nat := 0
  /-- dirty log bitmap and size while logging; 11 R367; reset none -/
  dirty : Option (W64 × Nat) := none
  /-- logging stopped under R370; 11 R373; reset false -/
  dirtyStopped : Bool := false
  /-- pages marked since the bitmap was named; own form of the bitmap; 11 R368; reset empty -/
  pages : List Nat := []
  /-- writes beyond coverage since the last switch; 11 R369; reset 0 -/
  beyond : Nat := 0
  /-- letters taken in the current second and its uptime; 11 R358; reset (0, 0) -/
  rate : Nat × Nat := (0, 0)
deriving DecidableEq, Repr

/-! ## Courier (12) -/

/-- Channel states (12 R377). -/
inductive ChanSt where
  | closed | running | stopping | stopped
deriving DecidableEq, Repr

/-- A descriptor in progress (12 R379). -/
structure Desc where
  /-- ring index; 12 R378 -/
  index : Nat := 0
  /-- the descriptor as fetched; 256 bits; 12 R379 -/
  raw : BitVec 256 := 0#256
  /-- bytes still to move for a to-host record, or data read so far; 12 R379 -/
  left : Nat := 0
  /-- data read for kind 1; 12 R382 -/
  data : List Byte := []
  /-- bytes transferred; 12 R379 -/
  done : Nat := 0
  /-- status; 8 bits; 12 R379 -/
  status : Nat := 0
  /-- all bursts are issued and returned; 12 R379 -/
  finished : Bool := false
  /-- record being written; 12 R381 -/
  record : Option Packet := none
  /-- head of a circular buffer; 32 bits; 12 R384 -/
  head : W32 := 0#32
  /-- the read to the last address written has returned; 12 R386 -/
  flushed : Bool := false
deriving DecidableEq, Repr

/-- A read that a channel has issued: a descriptor, data of a descriptor, or the zero-length read of a barrier
(12 R378, R382, R386). -/
inductive ChanRead where
  | fetch (index : Nat)
  | data (index n : Nat)
  | flush (index : Nat)
deriving DecidableEq, Repr

/-- A courier channel (12 R376-R391). -/
structure Channel where
  /-- state; 12 R377; reset CLOSED -/
  st : ChanSt := .closed
  /-- ring address; 64 bits; 12 R378; reset 0 -/
  ring : W64 := 0#64
  /-- depth; 12 R378; reset 0 -/
  depth : Nat := 0
  /-- share; 12 R387; reset 0 -/
  share : Nat := 0
  /-- placed count; 32 bits; 12 R378; reset 0 -/
  placed : W32 := 0#32
  /-- descriptors taken; 32 bits; 12 R378; reset 0 -/
  taken : W32 := 0#32
  /-- descriptors completed; 32 bits; 12 R378; reset 0 -/
  completed : W32 := 0#32
  /-- consumed bytes C; 32 bits; 12 R384; reset 0 -/
  consumed : W32 := 0#32
  /-- descriptors in progress, oldest first; 4; 12 R378; reset empty -/
  descs : List Desc := []
  /-- reads issued and not yet returned, oldest first; 12 R375, R386; reset empty -/
  reads : List ChanRead := []
  /-- host queue; 12 R383; reset empty -/
  queue : List Packet := []
  /-- letter of COURIER.STOP that waits; 12 R388; reset none -/
  stopLetter : Option LetterId := none
  /-- a record waits for space and has been counted; 12 R384; reset false -/
  waitSpace : Bool := false
  /-- last address the channel wrote; 64 bits; 12 R386; reset 0 -/
  lastWrite : W64 := 0#64
deriving DecidableEq, Repr

/-- The courier (12). -/
structure CourierUnit where
  /-- channels 0-63; 12 R376 -/
  channels : NMap Channel := []
  /-- bus deficits to host in bytes, key channel or 64-68 internal; 12 R387 -/
  toHost : NMap Int := []
  /-- bus deficits from host in bytes; 12 R387 -/
  fromHost : NMap Int := []
  /-- last requester served to host and from host; 12 R387; reset (68, 68) -/
  last : Nat × Nat := (68, 68)
  /-- PASID enabled in the extended capability; 11 R345; reset false -/
  pasidOn : Bool := false
  /-- when the last burst in each direction has left the bus, to the host and from it, in 1/50 ns of uptime (a byte at
  50 GB/s); 12 R375; reset 0 -/
  busy : Nat × Nat := (0, 0)
  /-- Relaxed Ordering enabled; 12 R385; reset true (PCI Express 6.0; notes/assumptions/6.md) -/
  relaxed : Bool := true
  /-- Max_Payload_Size in bytes; 12 R375; reset 128 -/
  maxPayload : Nat := 128
  /-- Max_Read_Request_Size in bytes; 12 R375; reset 512 (notes/assumptions/6.md) -/
  maxRead : Nat := 512
deriving DecidableEq, Repr

/-! ## Postmasters (13) -/

/-- Postmaster roles (13 R393). -/
inductive Role where
  | off | booting | syncing | standby | active | failed
deriving DecidableEq, Repr

/-- A postmaster (13 R393-R407). -/
structure Postmaster where
  /-- role; 3 bits; 13 R393; reset OFF -/
  role : Role := .off
  /-- synced; 13 R402; reset false -/
  synced : Bool := false
  /-- selftest_ok; 13 R407; reset false -/
  selftestOk : Bool := false
  /-- self-test cycles; 32 bits; 13 R407; reset 0 -/
  cycles : W32 := 0#32
  /-- items run in the running cycle: 0 SRAM, 1 cores, 2 control bus, 4 state copy, 5 arbiter path, 16 + 2 x part + bank
  flash; 13 R404; reset empty -/
  items : List Nat := []
  /-- an item failed in the running cycle; 13 R404; reset false -/
  itemFailed : Bool := false
  /-- fail_code; 8 bits; 13 R407; reset 0 -/
  failCode : BitVec 8 := 0#8
  /-- uptimes of automatic restarts; 13 R406; reset empty -/
  restarts : List Nat := []
  /-- left FAILED after its third restart in an hour; 13 R406; reset false -/
  limited : Bool := false
  /-- PM_HEALTH as last rewritten; 64 bits; 13 R407; reset 0 -/
  health : W64 := 0#64
  /-- uptime of the last rewrite; 13 R394; reset none -/
  healthAt : Option Nat := none
  /-- die temperature; 8 bits; 13 R407; reset 0 -/
  temp : BitVec 8 := 0#8
  /-- bank of part 0 it runs is B; 14 R424; reset false -/
  bankB : Bool := false
  /-- consecutive control-bus errors; 13 R405; reset 0 -/
  busErrors : Nat := 0
  /-- a standby acknowledgement has been owed since uptime; 13 R402; reset none -/
  ackSince : Option Nat := none
  /-- uptime of the last restart; 14 R424; reset 0 -/
  restartAt : Nat := 0
  /-- boot passed, waits for its settings; 16 R471; reset false -/
  needsSettings : Bool := false
deriving DecidableEq, Repr

/-- The role arbiter and the postmasters (13). -/
structure PmUnit where
  /-- postmaster A; 13 R393 -/
  a : Postmaster := {}
  /-- postmaster B; 13 R393 -/
  b : Postmaster := {}
  /-- active postmaster; 2 bits; 13 R408; reset none -/
  active : Option Pm := none
  /-- term; 24 bits; 13 R394; reset 0 -/
  term : BitVec 24 := 0#24
  /-- dual-active window: the old active and the uptime of the grant; 13 R397; reset none -/
  window : Option (Pm × Nat) := none
  /-- planned handover in progress; 13 R408; reset false -/
  planned : Bool := false
  /-- the former active has confirmed its stop for a planned handover; 13 R396; reset false -/
  handedOver : Bool := false
  /-- uptime of the last heartbeat; 13 R395; reset 0 -/
  beat : Nat := 0
  /-- uptime of becoming headless; 13 R409; reset none -/
  headlessSince : Option Nat := none
  /-- MODULE.RESET kind 0 in progress: 1 standby restarts, 2 former active restarts; 13 R396; reset 0 -/
  resetPhase : Nat := 0
deriving DecidableEq, Repr

/-! ## Images and settings (14) -/

/-- Bank states (14 R420). -/
inductive BankState where
  | empty | writing | verified | armed | rolling | active | corrupt
deriving DecidableEq, Repr

/-- An image bank (14 R415-R420). -/
structure Bank where
  /-- state; 14 R420; reset EMPTY -/
  st : BankState := .empty
  /-- contents, key offset; 14 R415; reset erased 0xFF (notes/assumptions/29.md) -/
  data : NMap Byte := []
  /-- blocks written since the restart; 14 R418; reset empty -/
  blocks : List Nat := []
deriving DecidableEq, Repr

/-- A copy of the boot record (14 R413). -/
structure BootRecord where
  /-- generation; 32 bits; 14 R413 -/
  generation : W32 := 0#32
  /-- bit per part, 1 for bank B; 14 R413 -/
  banks : BitVec 6 := 0#6
  /-- its CRC-32C passes; 14 R413 -/
  valid : Bool := true
deriving DecidableEq, Repr

/-- State of an activation (14 R424). -/
inductive ActSt where
  | none | armed | rolling | rollingBack | done | rolledBack
deriving DecidableEq, Repr

/-- An activation (14 R423-R426). -/
structure Activation where
  /-- state; 14 R424; reset none -/
  st : ActSt := .none
  /-- parts named; 6 bits; 14 R423; reset 0 -/
  parts : BitVec 6 := 0#6
  /-- T in station units; 14 R423; reset 0 -/
  t : Nat := 0
  /-- step reached, 1-5; 14 R424; reset 0 -/
  step : Nat := 0
  /-- progress inside the step: postmaster 0/1, framer group, bench; 14 R424; reset 0 -/
  sub : Nat := 0
  /-- uptime of the running part's restart; 14 R424; reset 0 -/
  since : Nat := 0
  /-- parts moved; 6 bits; 14 R426; reset 0 -/
  moved : BitVec 6 := 0#6
deriving DecidableEq, Repr

/-- The settings held by the settings store (14, the settings store). -/
structure Settings where
  /-- module ID, when one is held; 16 R472 -/
  moduleId : Option (BitVec 7) := none
  /-- current epoch; 02 R60 -/
  epoch : BitVec 16 := 0#16
  /-- compatibility window; 02 R77 -/
  compat : Option (W32 × W32) := none
  /-- store mode is P; 04 R147 -/
  modeP : Bool := true
  /-- modes of the benches; 04 R147 -/
  benchModes : BitVec 32 := 0xFFFFFFFF#32
  /-- nanoword budget; 04 R139 -/
  budget : Nat := 4096
  /-- granule split; 06 R193 -/
  granules : NMap Nat := []
  /-- requester classes; 06 R196 -/
  classes : NMap BufClass := []
  /-- admission profiles; 06 R208 -/
  admissions : NMap Admission := []
  /-- length profiles; 07 R236 -/
  lengths : NMap LenProfile := []
  /-- ports; 16 R471 -/
  ports : NMap Port := []
  /-- lane maps; 16 R471 -/
  octets : NMap Octet := []
  /-- network equalisers; 03 R89 -/
  taps : NMap Taps := []
  /-- fabric equalisers; 08 R258 -/
  fabTaps : NMap Taps := []
  /-- lane repairs: spare bit by lane; 09 R304 -/
  repairs : NMap Nat := []
  /-- HBM settings panic_ns, n, retrain_period, sr_idle; 16 R471 -/
  hbm : Nat × Nat × Nat × Nat := (1000, 11, 1000000000, 2000)
  /-- fabric timers; 08 R289 -/
  fabric : Nat × Nat × Nat × Nat × Nat := (50000, 3000, 200000, 1000000, 100)
  /-- grant_size and mc_rate; 08 R289 -/
  credit : Nat × Nat := (4096, 4600000000000)
  /-- servo mode EXTERNAL; 02 R41 -/
  external : Bool := false
  /-- time sources; 02 R42 -/
  sources : List PhaseSource := []
  /-- wait-to-restore; 02 R42 -/
  wtr : Nat := 10000000000
  /-- holdover rate; 02 R47 -/
  holdoverRate : Nat := 2000
  /-- PTP settings; 02 R42 -/
  ptp : NMap PtpPort := []
  /-- hash seed and profiles; 05 R163 -/
  hash : W32 × NMap (BitVec 12) := (0x5EED0001#32, [])
  /-- self-test period; 05 R186 -/
  period : Nat := 86400000000000
  /-- management ports; 10 R324 -/
  mgmt : NMap MgmtPort := []
  /-- in-band UDP port; 10 R323 -/
  udp : Nat := 50740
  /-- fault masks; 17 R482 -/
  masks : NMap (BitVec 4) := []
  /-- power cap in W; 16 R461 -/
  cap : Nat := 1650
  /-- alert thresholds; 16 R460 -/
  alerts : Nat × Nat × Nat := (38000, 72000, 95)
  /-- port queue settings; 07 R228 -/
  portQ : NMap PortQ := []
  /-- dead-letter settings: mask, reasons, limit, snap; 06 R218 -/
  dlq : W32 × BitVec 512 × Nat × Nat := (0x18#32, 0#512, 4194304, 256)
  /-- cut-through; 06 R223 -/
  ct : NMap CutThrough := []
deriving DecidableEq, Repr, Inhabited

/-- A settings record (14 R428). -/
structure SettingsRecord where
  /-- settings_version; 16 bits; 14 R428 -/
  version : BitVec 16 := 0#16
  /-- generation; 32 bits; 14 R428 -/
  generation : W32 := 0#32
  /-- CRC-32C of the header's first 16 bytes and the body; 32 bits; 14 R428 -/
  check : W32 := 0#32
  /-- the slot reads back with magic and check correct; 14 R428 -/
  valid : Bool := true
  /-- body; 14 R428 -/
  body : Settings := {}
deriving DecidableEq, Repr

/-- Work on the flash in progress (14 R418, R421, R429). -/
inductive FlashJob where
  | image (l : LetterId) (part : Nat) (bankB : Bool)
  | verify (l : LetterId) (part : Nat) (bankB : Bool)
  | settings (l : Option LetterId) (slot : Nat) (record : SettingsRecord) (migrated : Bool)
deriving DecidableEq, Repr

/-- Firmware images and the settings store (14). -/
structure ImageUnit where
  /-- image banks, key 2 x part + bank; 14 R412 -/
  banks : NMap Bank := []
  /-- boot record, two copies; 14 R413; reset generation 0, bank A of every part (notes/assumptions/29.md) -/
  boot0 : BootRecord := {}
  /-- second copy; 14 R413 -/
  boot1 : BootRecord := {}
  /-- activation; 14 R423 -/
  act : Activation := {}
  /-- flash jobs in progress, oldest first; 14 R418; reset empty -/
  jobs : List FlashJob := []
  /-- settings slot 0; 14 R428; reset none -/
  slot0 : Option SettingsRecord := none
  /-- settings slot 1; 14 R428; reset none -/
  slot1 : Option SettingsRecord := none
deriving DecidableEq, Repr

/-! ## Telemetry (15) -/

/-- A counter: count and sum (15 R432). -/
structure Count where
  /-- count; 15 R432; reset 0 -/
  count : Nat := 0
  /-- sum; 15 R432; reset 0 -/
  sum : Nat := 0
deriving DecidableEq, Repr

/-- An accumulator or sparse entry with its stamp (15 R433, R439). -/
structure Accum where
  /-- count; 56 bits; 15 R433; reset 0 -/
  count : Nat := 0
  /-- sum; 72 bits; 15 R433; reset 0 -/
  sum : Nat := 0
  /-- station time of the value, none before the first read; 15 R440; reset none -/
  stamp : Option Nat := none
deriving DecidableEq, Repr

/-- A snapshot in progress (15 R442, R443). -/
structure Snapshot where
  letter : LetterId
  /-- Ts in station ns; 15 R442 -/
  ts : Nat
  /-- ranges; 15 R442 -/
  ranges : List W64
  /-- result address; 15 R442 -/
  result : W64
  /-- entries as latched at Ts; 15 R442 -/
  latched : Option (List Byte) := none
deriving DecidableEq, Repr

/-- Counters, the collector and tracing (15). -/
structure TelUnit where
  /-- bank counters not yet read, key counter number of R434; 32-bit count, 40-bit sum; 15 R433 -/
  bank : NMap Count := []
  /-- accumulators, key counter number; 15 R433 -/
  acc : NMap Accum := []
  /-- sparse store, key 2^20 x family + object; 49152 entries; 15 R436 -/
  sparse : NMap Accum := []
  /-- next counter of the running sweep; 15 R438; reset none -/
  sweep : Option Nat := none
  /-- uptime at which the last sweep started; 15 R438; reset none -/
  sweepAt : Option Nat := none
  /-- snapshot in progress; 15 R443; reset none -/
  snapshot : Option Snapshot := none
  /-- ratio of random tagging; 15 R444; reset 65536 -/
  ratio : Nat := 65536
  /-- tag buffer, oldest first; 4096 records of 256 bits; 15 R444; reset empty -/
  tags : List (BitVec 256) := []
  /-- tagging generator; 16 bits; 15 R444; reset 1 (notes/assumptions/6.md) -/
  tagLfsr : BitVec 16 := 1#16
  /-- trace benches mask; 32 bits; 15 R445; reset 0 -/
  benches : W32 := 0#32
  /-- trace filter; 32 bits; 15 R445; reset 0 -/
  filter : W32 := 0#32
  /-- trace mode 0-2; 15 R445; reset 0 -/
  mode : Nat := 0
  /-- the last mode other than 0, under which passes selected then record on; 15 R446, R448; reset 1 -/
  recording : Nat := 1
  /-- trace ledger, oldest first; 65536 entries of 256 bits; 15 R446; reset empty -/
  trace : List (BitVec 256) := []
  /-- passes skipped since the ledger was emptied; 15 R447; reset 0 -/
  skipped : Nat := 0
deriving DecidableEq, Repr

/-! ## Power, clocks, reset (16) -/

/-- Start-up stages (16 R474). -/
inductive Stage where
  | reset | boot | settings | build | apply | ready | failed
deriving DecidableEq, Repr

/-- Power, clocks, reset and start-up (16). -/
structure PowerUnit where
  /-- input in mV; 16 R450; reset 0 -/
  vin : Nat := 0
  /-- input current in mA; 16 R464; reset 0 -/
  iin : W32 := 0#32
  /-- input power in 0.1 W; 16 R464; reset 0 -/
  pin : Nat := 0
  /-- VDD_AON converts; 16 R450; reset false -/
  aon : Bool := false
  /-- uptime of the input's rise; 16 R470; reset 0 -/
  riseAt : Nat := 0
  /-- housekeeping controller runs; 16 R470; reset false -/
  hkUp : Bool := false
  /-- uptime of its restart; 16 R463; reset 0 -/
  hkAt : Nat := 0
  /-- PWR_EN asserted; 16 R455; reset false -/
  pwrEn : Bool := false
  /-- main rails on; 16 R453; reset false -/
  rails : Bool := false
  /-- rails are being brought up; 16 R455; reset false -/
  rising : Bool := false
  /-- uptime of power good; 16 R455; reset none -/
  good : Option Nat := none
  /-- rails held off after a thermal shutdown; 16 R462; reset false -/
  thermalOff : Bool := false
  /-- PWR_EN was deasserted since the thermal shutdown; 16 R462; reset false -/
  thermalArmed : Bool := false
  /-- uptime since which the input stayed at or below 76 V after overvoltage; 16 R450; reset none -/
  overSince : Option Nat := none
  /-- conversion stopped by overvoltage; 16 R450; reset false -/
  overVolt : Bool := false
  /-- domains on; 148 bits; 16 R459; reset 0, domain 0 on with VDD_AON -/
  domains : BitVec 160 := 0#160
  /-- requests to switch a domain, in service order: domain, on, and the uptime of the request; 16 R457; reset empty -/
  requests : List (Nat × Bool × Nat) := []
  /-- temperatures: Sorter, Depot, key 2-9 stacks, 10 and 11 postmasters; 8 bits each; 16 R460 -/
  temps : NMap Nat := []
  /-- input_low in mV; 16 R460; reset 38000 -/
  inputLow : Nat := 38000
  /-- input_high in mV; 16 R460; reset 72000 -/
  inputHigh : Nat := 72000
  /-- temp alert in degrees; 16 R460; reset 95 -/
  tempAlert : Nat := 95
  /-- cap in W; 16 R461; reset 1650 -/
  cap : Nat := 1650
  /-- throttled by THROTTLE_N; 16 R461; reset false -/
  thrPin : Bool := false
  /-- throttled by temperature; 16 R461; reset false -/
  thrTemp : Bool := false
  /-- throttled by the cap; 16 R461; reset false -/
  thrCap : Bool := false
  /-- uptime since which power stayed below 95 % of the cap; 16 R461; reset none -/
  capLow : Option Nat := none
  /-- rails telemetry: mV and mA in the order of R464; 16 R464; reset zero -/
  railTel : List (W32 × W32) := []
  /-- PWR_TELEMETRY; 6 x 32 bits; 19 R513; reset 0 -/
  mirror : BitVec 192 := 0#192
  /-- PWR_RESET_CAUSE bits 8:0; 16 R469; reset power_on -/
  cause : BitVec 9 := 1#9
  /-- references lost; serdes, pcie, 25M, 10M; 16 R466; reset lost until regained -/
  lost : BitVec 4 := 0xF#4
  /-- RESET_N asserted; 16 R467; reset false -/
  resetN : Bool := false
  /-- MOD_START stage; 16 R474; reset RESET -/
  stage : Stage := .reset
  /-- MOD_START cause; 4 bits; 16 R474; reset 0 -/
  startCause : Nat := 0
  /-- elapsed frozen at READY or FAILED, ms; 24 bits; 16 R474; reset none -/
  elapsed : Option Nat := none
  /-- MODULE.RESET kind 1 accepted, reset after its receipt; 16 R467; reset none -/
  resetAfter : Option LetterId := none
  /-- state of `ALERT_N` held while the housekeeping controller moves to a new image; 14 R424; reset none -/
  alertHold : Option Bool := none
  /-- PMBus latched status bits, by condition number; 16 R463; reset empty -/
  pmbus : List Nat := []
  /-- PMBus answer of the last read, none for a NACK; own -/
  pmbusData : Option (BitVec 16) := none
deriving DecidableEq, Repr

/-! ## Faults (17) -/

/-- A fault record (17 R478). -/
structure FaultRec where
  /-- record number; 32 bits; 17 R478 -/
  record : W32 := 0#32
  /-- code; 16 bits; 17 R478 -/
  code : BitVec 16 := 0#16
  /-- severity; 2 bits; 17 R478 -/
  severity : Nat := 0
  /-- active; 17 R478 -/
  active : Bool := true
  /-- suppressed; 17 R478 -/
  suppressed : Bool := false
  /-- first raised while headless; 17 R478 -/
  headless : Bool := false
  /-- paths taken at the latest raise; 4 bits; 17 R478 -/
  paths : BitVec 4 := 0#4
  /-- slice; 8 bits; 17 R478 -/
  slice : Nat := 0
  /-- object; 32 bits; 17 R478 -/
  object : W32 := 0xFFFFFFFF#32
  /-- seq; 32 bits; 17 R478 -/
  seq : W32 := 0#32
  /-- occurrences; 32 bits saturating; 17 R478 -/
  occurrences : W32 := 1#32
  /-- detail; 64 bits; 17 R478 -/
  detail : W64 := 0#64
  /-- party; 32 bits; 17 R478 -/
  party : W32 := 0#32
  /-- first raise, station units; 17 R478 -/
  first : Nat := 0
  /-- latest raise, station units; 17 R478 -/
  last : Nat := 0
  /-- clear, station units, none while active; 17 R478 -/
  clear : Option Nat := none
  /-- uptime of the latest clear; own; 17 R479 -/
  clearAt : Nat := 0
  /-- uptime of the record's last event; 17 R480 -/
  eventAt : Option Nat := none
  /-- state (active, severity) last reported, none before the first event; 17 R480 -/
  reported : Option (Bool × Nat) := none
  /-- uptime from which the suppression grace runs; 17 R484 -/
  graceAt : Option Nat := none
deriving DecidableEq, Repr

/-- The fault log (17). -/
structure FaultUnit where
  /-- records held, number rising; 4096; 17 R478; reset empty -/
  log : List FaultRec := []
  /-- next record number; 32 bits; 17 R478; reset 0 -/
  next : W32 := 0#32
  /-- log_full; 17 R488; reset 0 -/
  logFull : Bool := false
  /-- records awaiting events while headless; 256; 17 R485; reset empty -/
  waiting : List W32 := []
  /-- events discarded beyond the 256; 17 R485; reset false -/
  waitingLost : Bool := false
  /-- paths set by FAULT.SET_MASK, key code; 4 bits; 17 R482; reset the catalogue -/
  masks : NMap (BitVec 4) := []
deriving DecidableEq, Repr

/-! ## Registers of the host (19) -/

/-- The registers that exist outside letters and are written by the host (19). -/
structure RegUnit where
  /-- MOD_BOOT_LETTERS; 64 bits; 19 R513; reset 0 (notes/assumptions/6.md) -/
  bootLetters : W64 := 0#64
  /-- MOD_BOOT_RECEIPTS; 64 bits; 19 R513; reset 0 (notes/assumptions/6.md) -/
  bootReceipts : W64 := 0#64
  /-- MOD_BOOT_RING; 32 bits; 19 (boot ring); reset 0 -/
  bootRing : W32 := 0#32
  /-- MOD_BOOT_CTRL enable; 19 (boot ring); reset 0 -/
  enable : Bool := false
  /-- MOD_BOOT_CTRL refuse; 8 bits; 19 (boot ring); reset 0 -/
  refuse : Nat := 0
  /-- module ID in force; 7 bits; 16 R472; reset none -/
  moduleId : Option (BitVec 7) := none
  /-- MSI-X table words, key 4 x entry + word; 19 R512; reset 0, vector control 1 (notes/assumptions/6.md) -/
  msix : NMap W32 := []
  /-- MSI-X pending-bit array; 2048 bits; 19 R512; reset 0 -/
  msixPending : BitVec 2048 := 0#2048
  /-- data returned by the last register read; own -/
  readData : W64 := 0#64
deriving DecidableEq, Repr

/-! ## What the module has sent out -/

/-- An outgoing transaction of the module: own form of what leaves it, in order (notes/assumptions/3.md). -/
inductive Output where
  | vector (v : Nat)
  | hostWrite (slice : Nat) (addr : W64) (bytes : List Byte) (relaxed : Bool)
  | record (requester : Nat) (ring : W64) (slot : Nat) (bytes : List Byte)
  | datagram (port : Nat) (v6 : Bool) (src dst : Ip) (udp : Nat) (mac : Mac) (payload : List Byte)
  | mgmt (port : Nat) (kind : Nat) (v6 : Bool) (addr : Ip) (mac : Option Mac)
  | frame (port : Nat) (bytes : List Byte) (fcsInverted : Bool)
  | cell (link : Nat) (bytes : List Byte) (blocks : List (List Bool))
  | marker (link : Nat) (blocks : List (List Bool))
  | pps (second : Nat)
  | tod (bytes : List Byte)
  | ptp (port : Nat) (kind : PtpKind) (stamp : Nat) (toHost : Bool)
  | esmc (port : Nat) (pdu : List Byte)
  | overhead (channel : Nat) (bytes : List Byte)
  | gmp (fgroup trib cm cnd : Nat)
  | flexeOh (fgroup group : Nat) (ccc cr : Bool) (clients : Option (List (BitVec 16)))
  | groupFault (fgroup : Nat) (otu : Bool) (index : Nat)
  | nbrRefresh (pchan bank : Nat) (rows : List Nat)
deriving DecidableEq, Repr

/-! ## The whole module -/

/-- The module. -/
structure State where
  /-- variant, a fuse; 00 R6; reset LE-3840 (notes/assumptions/5.md) -/
  variant : Variant := .le3840
  time : TimeUnit := {}
  /-- peers, key module 0-127; 02 R73 -/
  peers : NMap Peer := []
  epoch : EpochUnit := {}
  d2d : D2dUnit := {}
  line : LineUnit := {}
  clerks : ClerkUnit := {}
  lookup : LookupUnit := {}
  buffers : BufferUnit := {}
  queues : QueueUnit := {}
  fabric : FabricUnit := {}
  hbm : HbmUnit := {}
  letters : LetterUnit := {}
  mgmt : MgmtUnit := {}
  /-- slices 0-63; 11 R349 -/
  slices : NMap Slice := []
  courier : CourierUnit := {}
  pm : PmUnit := {}
  images : ImageUnit := {}
  tel : TelUnit := {}
  power : PowerUnit := {}
  faults : FaultUnit := {}
  regs : RegUnit := {}
  /-- index of the next free value; own (notes/assumptions/4.md) -/
  fresh : Nat := 0
  /-- what the module has sent out, oldest first; own (notes/assumptions/3.md) -/
  out : List Output := []
  /-- commands waiting, first in first out; the block's queue -/
  pending : List Instr := []
deriving DecidableEq, Repr

/-- Why a run stops. -/
inductive Fault where
  /-- Raised by a command that names a unit the module's variant lacks (00 R6, R7): no such event can reach the
  module. Safe: the model stops where the hardware has nothing. -/
  | absentUnit
deriving DecidableEq, Repr

/-- Why a command has no meaning. -/
inductive Refusal where
  /-- A command whose meaning is not written; raised by no command of the finished model. Safe. -/
  | notModelled (mnemonic : String)
deriving DecidableEq, Repr

/-- The module right after reset: before power-on, every register at its reset value, nothing listed in any memory,
no command waiting (notes/assumptions/1.md). -/
def State.reset : State := {}

end Sys2Proof.Machine
end

