-- ==== Sys2Proof/Machine/Map.lean ====
section
/-!
DEFINITION. Map.lean: operations on the containers of State (sparse data by number, sparse data by key, byte
memory) and the bit-field, byte-order and sign helpers that the meanings use.
-/

namespace Sys2Proof.Machine

/-! ## Sparse data by number -/

/-- The entry listed under a key. -/
def nfind {α : Type} : NMap α → Nat → Option α
  | [], _ => none
  | (j, v) :: m, k => if j = k then some v else nfind m k

/-- The entry under a key, the default when none is listed. -/
def nget {α : Type} (d : α) (m : NMap α) (k : Nat) : α := (nfind m k).getD d

/-- Enter a value, keys staying strictly rising. -/
def nput {α : Type} (k : Nat) (v : α) : NMap α → NMap α
  | [] => [(k, v)]
  | (j, w) :: m => if k < j then (k, v) :: (j, w) :: m else if k = j then (k, v) :: m else (j, w) :: nput k v m

/-- Remove a key. -/
def nerase {α : Type} (k : Nat) : NMap α → NMap α
  | [] => []
  | (j, w) :: m => if j = k then nerase k m else (j, w) :: nerase k m

/-- Write a value; writing the default removes the entry (the canonical form). -/
def nset {α : Type} [DecidableEq α] (d : α) (k : Nat) (v : α) (m : NMap α) : NMap α :=
  if v = d then nerase k m else nput k v m

/-- Change the entry under a key. -/
def nmod {α : Type} [DecidableEq α] (d : α) (k : Nat) (f : α → α) (m : NMap α) : NMap α :=
  nset d k (f (nget d m k)) m

/-! ## Sparse data by key -/

/-- The entry listed under a key. -/
def afind {κ α : Type} [DecidableEq κ] : Assoc κ α → κ → Option α
  | [], _ => none
  | (j, v) :: m, k => if j = k then some v else afind m k

/-- Enter a value. -/
def aput {κ α : Type} [DecidableEq κ] (k : κ) (v : α) : Assoc κ α → Assoc κ α
  | [] => [(k, v)]
  | (j, w) :: m => if j = k then (k, v) :: m else (j, w) :: aput k v m

/-- Remove a key. -/
def aerase {κ α : Type} [DecidableEq κ] (k : κ) (m : Assoc κ α) : Assoc κ α := m.filter fun e => e.1 ≠ k

/-! ## Byte memory (clerk local memory, 04 R135) -/

/-- What an unlisted address of local memory reads as: local memory is zero at reset (notes/assumptions/7.md). -/
def Memory.unlisted : Byte := 0#8

/-- Read one byte. -/
def Memory.read (m : List Host.Cell) (a : Nat) : Byte := nget Memory.unlisted m a

/-- Write one byte. -/
def Memory.write (a : Nat) (b : Byte) (m : List Host.Cell) : List Host.Cell := nset Memory.unlisted a b m

/-- Read `n` bytes as a little-endian number (00 R15). -/
def Memory.readLe (m : List Host.Cell) (a : Nat) : Nat → Nat
  | 0 => 0
  | n + 1 => (Memory.read m a).toNat + 256 * Memory.readLe m (a + 1) n

/-- Write the low `n` bytes of a number, little-endian. -/
def Memory.writeLe (a v : Nat) : Nat → List Host.Cell → List Host.Cell
  | 0, m => m
  | n + 1, m => Memory.writeLe (a + 1) (v / 256) n (Memory.write a (BitVec.ofNat 8 v) m)

/-- Write bytes at rising addresses. -/
def Memory.writeBytes (a : Nat) : List Byte → List Host.Cell → List Host.Cell
  | [], m => m
  | b :: bs, m => Memory.writeBytes (a + 1) bs (Memory.write a b m)

/-- Keys strictly rise from a lower bound, and no entry equals what an unlisted key reads as. -/
def canonicalFrom {α : Type} [DecidableEq α] (d : α) : Nat → NMap α → Bool
  | _, [] => true
  | lo, (k, v) :: m => decide (lo ≤ k) && decide (v ≠ d) && canonicalFrom d (k + 1) m

/-- The canonical form of a byte memory. -/
def Memory.wf (m : List Host.Cell) : Bool := canonicalFrom Memory.unlisted 0 m

/-! ## Bytes, bits and signs -/

/-- `n` bytes of a number, little-endian. -/
def leBytes (v : Nat) : Nat → List Byte
  | 0 => []
  | n + 1 => BitVec.ofNat 8 v :: leBytes (v / 256) n

/-- A little-endian number. -/
def leNat : List Byte → Nat
  | [] => 0
  | b :: bs => b.toNat + 256 * leNat bs

/-- `n` bytes of a number in network order (00 R16). -/
def beBytes (v n : Nat) : List Byte := (leBytes v n).reverse

/-- A number in network order. -/
def beNat (bs : List Byte) : Nat := leNat bs.reverse

/-- `n` bytes of a list from an offset, zeros past its end. -/
def bslice (bs : List Byte) (off n : Nat) : List Byte :=
  let t := (bs.drop off).take n
  t ++ List.replicate (n - t.length) 0#8

/-- Bits high:low of a number. -/
def bits (v hi lo : Nat) : Nat := v / 2 ^ lo % 2 ^ (hi + 1 - lo)

/-- Bit i of a number. -/
def bit (v i : Nat) : Bool := v.testBit i

/-- A Bool as a bit. -/
def b2n (b : Bool) : Nat := if b then 1 else 0

/-- Two's complement of a width. -/
def sext (w v : Nat) : Int := (BitVec.ofNat w v).toInt

/-- The two's-complement code of an integer in a width. -/
def unsext (w : Nat) (v : Int) : Nat := (BitVec.ofInt w v).toNat

/-- One round of the reflected CRC-32C polynomial 0x82F63B78 (05 R163). -/
def crcBit (c : Nat) : Nat := if c % 2 = 1 then (c / 2) ^^^ 0x82F63B78 else c / 2

/-- One byte into CRC-32C. -/
def crcByte (c : Nat) (b : Byte) : Nat :=
  crcBit (crcBit (crcBit (crcBit (crcBit (crcBit (crcBit (crcBit (c ^^^ b.toNat))))))))

/-- CRC-32C over bytes from an initial value, with the final exclusive-or (05 R163). -/
def crc32c (init : Nat) (bs : List Byte) : Nat := (bs.foldl crcByte init) ^^^ 0xFFFFFFFF

/-- Replace element i of a list. -/
def lset {α : Type} : List α → Nat → α → List α
  | [], _, _ => []
  | _ :: xs, 0, v => v :: xs
  | x :: xs, i + 1, v => x :: lset xs i v

/-- Indices of the set bits of a mask, of width n, rising. -/
def maskBits (m n : Nat) : List Nat := (List.range n).filter fun i => m.testBit i

/-- Saturating 32-bit increment (19, time counters). -/
def satInc (w : W32) : W32 := if w = 0xFFFFFFFF#32 then w else w + 1#32

end Sys2Proof.Machine
end

