-- ==== Sys2Proof/Machine/Counters.lean ====
section
/-!
DEFINITION. Counters.lean: where every counter family stands in the index space of 15 R434 and R435, and the one
operation that advances a counter. Families follow the owning chapters' tables; the object counts that those tables
leave to the reader (OTUC instances, tributaries, overhead channels, the counters named only in prose) are in
notes/assumptions/34.md.
-/

namespace Sys2Proof.Machine

/-- A family of counters: first index, objects, elements of each object (15 R435). -/
structure Fam where
  base : Nat
  objs : Nat
  elems : Nat := 1
deriving DecidableEq, Repr

/-- Index of a counter of a family (15 R435); none outside the family. -/
def Fam.index (f : Fam) (obj elem : Nat) : Option Nat :=
  if obj < f.objs ∧ elem < f.elems then some (f.base + obj * f.elems + elem) else none

/-! ### Sub-bank line -/

/-- `rx_ok`. -/
def Fam.rxOk : Fam := ⟨1179648, 192, 1⟩
/-- `tx_ok`. -/
def Fam.txOk : Fam := ⟨1179840, 192, 1⟩
/-- `rx_runt`. -/
def Fam.rxRunt : Fam := ⟨1180032, 192, 1⟩
/-- `rx_oversize`. -/
def Fam.rxOversize : Fam := ⟨1180224, 192, 1⟩
/-- `rx_fcs`. -/
def Fam.rxFcs : Fam := ⟨1180416, 192, 1⟩
/-- `rx_fec_discard`. -/
def Fam.rxFecDiscard : Fam := ⟨1180608, 192, 1⟩
/-- `rx_not_up`. -/
def Fam.rxNotUp : Fam := ⟨1180800, 192, 1⟩
/-- `rx_pause`. -/
def Fam.rxPause : Fam := ⟨1180992, 192, 1⟩
/-- `tx_fcs_inverted`. -/
def Fam.txFcsInverted : Fam := ⟨1181184, 192, 1⟩
/-- `fec_corrected`. -/
def Fam.fecCorrected : Fam := ⟨1181376, 192, 1⟩
/-- `fec_uncorrectable`. -/
def Fam.fecUncorrectable : Fam := ⟨1181568, 192, 1⟩
/-- `fec_symbols`. -/
def Fam.fecSymbols : Fam := ⟨1181760, 192, 1⟩
/-- `fec_histogram`. -/
def Fam.fecHistogram : Fam := ⟨1181952, 192, 16⟩
/-- `port_down`. -/
def Fam.portDown : Fam := ⟨1185024, 192, 1⟩
/-- `flexe_oh_crc`. -/
def Fam.flexeOhCrc : Fam := ⟨1185216, 48, 1⟩
/-- `flexe_deskew_fail`. -/
def Fam.flexeDeskewFail : Fam := ⟨1185264, 48, 1⟩
/-- `flexe_cal_switch`. -/
def Fam.flexeCalSwitch : Fam := ⟨1185312, 48, 1⟩
/-- `otu_bip8`. -/
def Fam.otuBip8 : Fam := ⟨1185360, 384, 1⟩
/-- `otu_bei`. -/
def Fam.otuBei : Fam := ⟨1185744, 384, 1⟩
/-- `odu_bip8`. -/
def Fam.oduBip8 : Fam := ⟨1186128, 24, 1⟩
/-- `odu_bei`. -/
def Fam.oduBei : Fam := ⟨1186152, 24, 1⟩
/-- `gmp_jc_crc`, indexed by the tributary's client port. DESIGN CHOICE: the spec counts it per tributary and numbers no
object (03 R114; notes/assumptions/131.md). -/
def Fam.gmpJcCrc : Fam := ⟨1186176, 192, 1⟩
/-- `oh_rx_slip`. -/
def Fam.ohRxSlip : Fam := ⟨1186368, 360, 1⟩
/-- `oh_tx_overflow`. -/
def Fam.ohTxOverflow : Fam := ⟨1186728, 360, 1⟩
/-- `oh_tx_underrun`. -/
def Fam.ohTxUnderrun : Fam := ⟨1187088, 360, 1⟩

/-! ### Sub-bank clerks -/

/-- `intake_overflow`. -/
def Fam.intakeOverflow : Fam := ⟨1196032, 192, 1⟩
/-- `intake_parse_error`. -/
def Fam.intakeParseError : Fam := ⟨1196224, 192, 1⟩
/-- `intake_truncated`. -/
def Fam.intakeTruncated : Fam := ⟨1196416, 192, 1⟩
/-- `bench_passes_in`. -/
def Fam.benchPassesIn : Fam := ⟨1196608, 32, 1⟩
/-- `bench_passes_out`. -/
def Fam.benchPassesOut : Fam := ⟨1196640, 32, 1⟩
/-- `bench_nanowords`. -/
def Fam.benchNanowords : Fam := ⟨1196672, 32, 1⟩
/-- `bench_traps`. -/
def Fam.benchTraps : Fam := ⟨1196704, 32, 12⟩
/-- `bench_double_trap`. -/
def Fam.benchDoubleTrap : Fam := ⟨1197088, 32, 1⟩
/-- `bench_reload_wait`. -/
def Fam.benchReloadWait : Fam := ⟨1197120, 1, 1⟩
/-- `drop_reason`. -/
def Fam.dropReason : Fam := ⟨1197121, 1, 512⟩
/-- `punt_reason`. -/
def Fam.puntReason : Fam := ⟨1197633, 1, 512⟩

/-! ### Sub-bank lookup -/

/-- `lkp_dispatch`. -/
def Fam.lkpDispatch : Fam := ⟨1200128, 1, 7⟩
/-- `lkp_miss`. -/
def Fam.lkpMiss : Fam := ⟨1200135, 1, 7⟩
/-- `lkp_queued`. -/
def Fam.lkpQueued : Fam := ⟨1200142, 7, 1⟩
/-- `lkp_mem_error`. -/
def Fam.lkpMemError : Fam := ⟨1200149, 7, 1⟩
/-- `pol_green`. -/
def Fam.polGreen : Fam := ⟨1200156, 1, 1⟩
/-- `pol_yellow`. -/
def Fam.polYellow : Fam := ⟨1200157, 1, 1⟩
/-- `pol_red`. -/
def Fam.polRed : Fam := ⟨1200158, 1, 1⟩
/-- `acl_searches`. -/
def Fam.aclSearches : Fam := ⟨1200159, 32, 1⟩
/-- `acl_wait`. -/
def Fam.aclWait : Fam := ⟨1200191, 32, 1⟩
/-- `acl_steals`. -/
def Fam.aclSteals : Fam := ⟨1200223, 32, 1⟩
/-- `acl_profile_off`. -/
def Fam.aclProfileOff : Fam := ⟨1200255, 64, 1⟩
/-- `acl_selftest_pass`. -/
def Fam.aclSelftestPass : Fam := ⟨1200319, 1, 1⟩
/-- `acl_selftest_fail`. -/
def Fam.aclSelftestFail : Fam := ⟨1200320, 1, 1⟩
/-- `acl_row_check`. -/
def Fam.aclRowCheck : Fam := ⟨1200321, 32, 1⟩

/-! ### Sub-bank buffers -/

/-- `buf_alloc`. -/
def Fam.bufAlloc : Fam := ⟨1202176, 8, 1⟩
/-- `buf_fallback`. -/
def Fam.bufFallback : Fam := ⟨1202184, 8, 1⟩
/-- `buf_race_lost`. -/
def Fam.bufRaceLost : Fam := ⟨1202192, 8, 1⟩
/-- `buf_double_free`. -/
def Fam.bufDoubleFree : Fam := ⟨1202200, 1, 1⟩
/-- `buf_foreign_free`. -/
def Fam.bufForeignFree : Fam := ⟨1202201, 1, 1⟩
/-- `deep_write_bytes`. -/
def Fam.deepWriteBytes : Fam := ⟨1202202, 1, 1⟩
/-- `deep_read_bytes`. -/
def Fam.deepReadBytes : Fam := ⟨1202203, 1, 1⟩
/-- `deep_refused`. -/
def Fam.deepRefused : Fam := ⟨1202204, 1, 1⟩
/-- `write_behind_peak`. -/
def Fam.writeBehindPeak : Fam := ⟨1202205, 1, 1⟩
/-- `mirror_copies`. -/
def Fam.mirrorCopies : Fam := ⟨1202206, 1024, 1⟩
/-- `mirror_drop`. -/
def Fam.mirrorDrop : Fam := ⟨1203230, 1024, 1⟩
/-- `mirror_off`. -/
def Fam.mirrorOff : Fam := ⟨1204254, 1, 1⟩
/-- `dlq_in`. -/
def Fam.dlqIn : Fam := ⟨1204255, 1, 5⟩
/-- `dlq_overflow`. -/
def Fam.dlqOverflow : Fam := ⟨1204260, 1, 1⟩
/-- `dlq_delivered`. -/
def Fam.dlqDelivered : Fam := ⟨1204261, 1, 1⟩
/-- `ct_in_started`. -/
def Fam.ctInStarted : Fam := ⟨1204262, 192, 1⟩
/-- `ct_in_poisoned`. -/
def Fam.ctInPoisoned : Fam := ⟨1204454, 192, 1⟩
/-- `ct_eg_started`. -/
def Fam.ctEgStarted : Fam := ⟨1204646, 192, 1⟩
/-- `ct_eg_aborted`. -/
def Fam.ctEgAborted : Fam := ⟨1204838, 192, 4⟩
/-- `rx_poisoned`. -/
def Fam.rxPoisoned : Fam := ⟨1205606, 128, 1⟩

/-! ### Sub-bank sched -/

/-- `eq_invalid`. -/
def Fam.eqInvalid : Fam := ⟨1210368, 128, 1⟩
/-- `sch_min_sel`. -/
def Fam.schMinSel : Fam := ⟨1210496, 86208, 1⟩
/-- `sch_excess_sel`. -/
def Fam.schExcessSel : Fam := ⟨1296704, 86208, 1⟩
/-- `sch_gate_guard`. -/
def Fam.schGateGuard : Fam := ⟨1382912, 192, 1⟩
/-- `sch_paused_ns`. -/
def Fam.schPausedNs : Fam := ⟨1383104, 192, 8⟩
/-- `arb_grants`. -/
def Fam.arbGrants : Fam := ⟨1384640, 192, 8⟩
/-- `arb_stop`. -/
def Fam.arbStop : Fam := ⟨1386176, 192, 8⟩
/-- `port_hold_expired`. -/
def Fam.portHoldExpired : Fam := ⟨1387712, 192, 1⟩

/-! ### Sub-bank fabric -/

/-- `fab_cells_tx`. -/
def Fam.fabCellsTx : Fam := ⟨1390592, 256, 1⟩
/-- `fab_cells_rx`. -/
def Fam.fabCellsRx : Fam := ⟨1390848, 256, 1⟩
/-- `fab_fec_uncorr`. -/
def Fam.fabFecUncorr : Fam := ⟨1391104, 256, 1⟩
/-- `fab_crc`. -/
def Fam.fabCrc : Fam := ⟨1391360, 256, 1⟩
/-- `fab_malformed`. -/
def Fam.fabMalformed : Fam := ⟨1391616, 256, 1⟩
/-- `fab_hold_ns`. -/
def Fam.fabHoldNs : Fam := ⟨1391872, 256, 2⟩
/-- `fab_link_down`. -/
def Fam.fabLinkDown : Fam := ⟨1392384, 256, 1⟩
/-- `fab_hold_stuck`. -/
def Fam.fabHoldStuck : Fam := ⟨1392640, 256, 1⟩
/-- `fab_miswired`. -/
def Fam.fabMiswired : Fam := ⟨1392896, 256, 1⟩
/-- `fab_misrouted`. -/
def Fam.fabMisrouted : Fam := ⟨1393152, 128, 1⟩
/-- `fab_src_ineffective`. -/
def Fam.fabSrcIneffective : Fam := ⟨1393280, 128, 1⟩
/-- `fab_dup`. -/
def Fam.fabDup : Fam := ⟨1393408, 128, 1⟩
/-- `fab_window`. -/
def Fam.fabWindow : Fam := ⟨1393536, 128, 1⟩
/-- `fab_hole_skew`. -/
def Fam.fabHoleSkew : Fam := ⟨1393664, 128, 1⟩
/-- `fab_hole_timeout`. -/
def Fam.fabHoleTimeout : Fam := ⟨1393792, 128, 1⟩
/-- `fab_reasm_timeout`. -/
def Fam.fabReasmTimeout : Fam := ⟨1393920, 128, 1⟩
/-- `fab_pkt_malformed`. -/
def Fam.fabPktMalformed : Fam := ⟨1394048, 128, 1⟩
/-- `fab_store_full`. -/
def Fam.fabStoreFull : Fam := ⟨1394176, 1, 1⟩
/-- `fab_epoch_other`. -/
def Fam.fabEpochOther : Fam := ⟨1394177, 1, 1⟩
/-- `fab_ctrl_ineffective`. -/
def Fam.fabCtrlIneffective : Fam := ⟨1394178, 128, 1⟩
/-- `arb_table_full`. -/
def Fam.arbTableFull : Fam := ⟨1394306, 192, 1⟩
/-- `arb_req_invalid`. -/
def Fam.arbReqInvalid : Fam := ⟨1394498, 192, 1⟩
/-- `arb_req_stale`. -/
def Fam.arbReqStale : Fam := ⟨1394690, 192, 1⟩
/-- `mc_no_member`. -/
def Fam.mcNoMember : Fam := ⟨1394882, 1, 1⟩

/-! ### Sub-bank hbm -/

/-- `hbm_read_bytes`. -/
def Fam.hbmReadBytes : Fam := ⟨1406976, 8, 1⟩
/-- `hbm_write_bytes`. -/
def Fam.hbmWriteBytes : Fam := ⟨1406984, 8, 1⟩
/-- `hbm_row_hit`. -/
def Fam.hbmRowHit : Fam := ⟨1406992, 8, 1⟩
/-- `hbm_row_miss`. -/
def Fam.hbmRowMiss : Fam := ⟨1407000, 8, 1⟩
/-- `hbm_panic`. -/
def Fam.hbmPanic : Fam := ⟨1407008, 8, 1⟩
/-- `hbm_refresh_forced`. -/
def Fam.hbmRefreshForced : Fam := ⟨1407016, 8, 1⟩
/-- `hbm_nbr_refresh`. -/
def Fam.hbmNbrRefresh : Fam := ⟨1407024, 8, 1⟩
/-- `hbm_corrected`. -/
def Fam.hbmCorrected : Fam := ⟨1407032, 512, 1⟩
/-- `hbm_uncorr`. -/
def Fam.hbmUncorr : Fam := ⟨1407544, 512, 1⟩
/-- `hbm_retrain`. -/
def Fam.hbmRetrain : Fam := ⟨1408056, 512, 1⟩
/-- `hbm_retrain_slip`. -/
def Fam.hbmRetrainSlip : Fam := ⟨1408568, 512, 1⟩
/-- `hbm_sr_entries`. -/
def Fam.hbmSrEntries : Fam := ⟨1409080, 8, 1⟩
/-- `hbm_sr_ns`. -/
def Fam.hbmSrNs : Fam := ⟨1409088, 8, 1⟩
/-- `hbm_sr_exit_ns`. -/
def Fam.hbmSrExitNs : Fam := ⟨1409096, 8, 1⟩

/-! ### Sub-bank control -/

/-- `letter_doorbell_bad`. -/
def Fam.letterDoorbellBad : Fam := ⟨1411072, 64, 1⟩
/-- `letter_ring_fault`. -/
def Fam.letterRingFault : Fam := ⟨1411136, 64, 1⟩
/-- `letter_inband_drop`. -/
def Fam.letterInbandDrop : Fam := ⟨1411200, 1, 1⟩
/-- `letter_dup_pending`. -/
def Fam.letterDupPending : Fam := ⟨1411201, 64, 1⟩
/-- `letter_bad_check`. -/
def Fam.letterBadCheck : Fam := ⟨1411265, 1, 1⟩
/-- `event_lost`. -/
def Fam.eventLost : Fam := ⟨1411266, 64, 1⟩
/-- `slice_letters`. -/
def Fam.sliceLetters : Fam := ⟨1411330, 64, 1⟩
/-- `slice_rate_wait`. -/
def Fam.sliceRateWait : Fam := ⟨1411394, 64, 1⟩
/-- `slice_squash_writes`. -/
def Fam.sliceSquashWrites : Fam := ⟨1411458, 64, 1⟩
/-- `slice_squash_reads`. -/
def Fam.sliceSquashReads : Fam := ⟨1411522, 64, 1⟩
/-- `slice_held_ns`. -/
def Fam.sliceHeldNs : Fam := ⟨1411586, 64, 1⟩
/-- `slice_dirty_beyond`. -/
def Fam.sliceDirtyBeyond : Fam := ⟨1411650, 64, 1⟩
/-- `slice_dirty_fault`. -/
def Fam.sliceDirtyFault : Fam := ⟨1411714, 64, 1⟩
/-- `cur_desc_done`. -/
def Fam.curDescDone : Fam := ⟨1411778, 64, 6⟩
/-- `cur_bytes_to_host`. -/
def Fam.curBytesToHost : Fam := ⟨1412162, 69, 1⟩
/-- `cur_bytes_from_host`. -/
def Fam.curBytesFromHost : Fam := ⟨1412231, 69, 1⟩
/-- `cur_wait_space`. -/
def Fam.curWaitSpace : Fam := ⟨1412300, 64, 1⟩
/-- `cur_punt_closed`. -/
def Fam.curPuntClosed : Fam := ⟨1412364, 64, 1⟩
/-- `cur_doorbell_bad`. -/
def Fam.curDoorbellBad : Fam := ⟨1412428, 64, 1⟩
/-- `cur_bus_fault`. -/
def Fam.curBusFault : Fam := ⟨1412492, 64, 1⟩
/-- `cur_withdrawn`. -/
def Fam.curWithdrawn : Fam := ⟨1412556, 5, 1⟩
/-- `pm_takeovers`. -/
def Fam.pmTakeovers : Fam := ⟨1412561, 1, 1⟩
/-- `pm_handovers`. -/
def Fam.pmHandovers : Fam := ⟨1412562, 1, 1⟩
/-- `pm_stale_claims`. -/
def Fam.pmStaleClaims : Fam := ⟨1412563, 2, 1⟩
/-- `pm_stale_writes`. -/
def Fam.pmStaleWrites : Fam := ⟨1412565, 2, 1⟩
/-- `pm_dup_receipts`. -/
def Fam.pmDupReceipts : Fam := ⟨1412567, 64, 1⟩
/-- `pm_selftest_fail`. -/
def Fam.pmSelftestFail : Fam := ⟨1412631, 2, 8⟩
/-- `pm_headless_ns`. -/
def Fam.pmHeadlessNs : Fam := ⟨1412647, 1, 1⟩
/-- `img_write_bytes`. -/
def Fam.imgWriteBytes : Fam := ⟨1412648, 6, 1⟩
/-- `img_refused`. -/
def Fam.imgRefused : Fam := ⟨1412654, 6, 1⟩
/-- `img_verify_fail`. -/
def Fam.imgVerifyFail : Fam := ⟨1412660, 6, 1⟩
/-- `img_activations`. -/
def Fam.imgActivations : Fam := ⟨1412666, 1, 1⟩
/-- `img_rollbacks`. -/
def Fam.imgRollbacks : Fam := ⟨1412667, 1, 1⟩
/-- `settings_saves`. -/
def Fam.settingsSaves : Fam := ⟨1412668, 1, 1⟩
/-- `settings_migrations`. -/
def Fam.settingsMigrations : Fam := ⟨1412669, 1, 1⟩

/-! ### Sub-bank telemetry -/

/-- `tel_sweeps`. -/
def Fam.telSweeps : Fam := ⟨1415168, 1, 1⟩
/-- `tel_sparse_lost`. -/
def Fam.telSparseLost : Fam := ⟨1415169, 1, 15⟩
/-- `tel_count_foreign`. -/
def Fam.telCountForeign : Fam := ⟨1415184, 1, 1⟩
/-- `tel_trace_skipped`. -/
def Fam.telTraceSkipped : Fam := ⟨1415185, 1, 1⟩
/-- `tel_snapshots`. -/
def Fam.telSnapshots : Fam := ⟨1415186, 1, 1⟩

/-- Index of `q_enq` of a queue (15 R434). -/
def qEnqIndex (q : Nat) : Nat := 131072 + 2 * q
/-- Index of `q_deq` of a queue (15 R434). -/
def qDeqIndex (q : Nat) : Nat := 131073 + 2 * q

/-- A bank counter advances: 32-bit count, 40-bit sum (15 R433). -/
def Count.add (c : Count) (n sum : Nat) : Count :=
  { count := (c.count + n) % 2 ^ 32, sum := (c.sum + sum) % 2 ^ 40 }

/-- Advance the counter of an index by a count and a sum. -/
def State.count (s : State) (i n sum : Nat) : State :=
  { s with tel := { s.tel with bank := nmod {} i (fun c => c.add n sum) s.tel.bank } }

/-- Advance a counter of a family. -/
def State.bump (s : State) (f : Fam) (obj : Nat := 0) (elem : Nat := 0) (n : Nat := 1) (sum : Nat := 0) : State :=
  match f.index obj elem with
  | some i => s.count i n sum
  | none => s

/-- A counter of a family advances by a count that may be zero. -/
def State.bumpBy (s : State) (f : Fam) (obj elem n : Nat) : State := if n = 0 then s else s.bump f obj elem n

/-- A peak counter keeps the highest value since its last read (15 R432). -/
def State.peak (s : State) (f : Fam) (v : Nat) : State :=
  { s with tel := { s.tel with bank := nmod {} f.base (fun c => { c with sum := max c.sum v }) s.tel.bank } }

end Sys2Proof.Machine
end

