-- ==== Sys2Proof/Machine/Ops.lean ====
section
/-!
DEFINITION. Ops.lean: the named operations that every family of commands shares: the variant's units, station time,
what the module sends, slices and ownership, events, the fault log, power domains, and one cycle of the clock.
-/

namespace Sys2Proof.Machine

/-! ## Variants (00 R6) -/

/-- Benches of a variant. -/
def Variant.benches : Variant → Nat
  | .le3840 => 32 | .le2560 => 24 | .le1920 => 16
/-- HBM stacks of a variant. -/
def Variant.hbmStacks : Variant → Nat
  | .le3840 => 8 | .le2560 => 6 | .le1920 => 4
/-- Physical associative banks of a variant. -/
def Variant.banks : Variant → Nat
  | .le3840 => 33 | .le2560 => 25 | .le1920 => 17
/-- Usable (logical) associative banks of a variant. -/
def Variant.logical (v : Variant) : Nat := v.banks - 1
/-- Network lanes of a variant, which are also its port numbers (00 R6, 03 R78). -/
def Variant.lanes : Variant → Nat
  | .le3840 => 192 | .le2560 => 128 | .le1920 => 96
/-- Network octets of a variant (19 R514). -/
def Variant.octets (v : Variant) : Nat := v.lanes / 8
/-- Fabric planes of a variant. -/
def Variant.planes : Variant → Nat
  | .le3840 => 16 | .le2560 => 11 | .le1920 => 8
/-- Fabric links of a variant, 16 a plane. -/
def Variant.links (v : Variant) : Nat := 16 * v.planes
/-- The Envelope unit is present. -/
def Variant.envelope : Variant → Bool
  | .le3840 => true | _ => false
/-- The trace ledger is present; the other variants have random tagging. -/
def Variant.ledger : Variant → Bool
  | .le3840 => true | _ => false

/-! ## Station time (02 R37, R38) -/

/-- Whole nanoseconds of station time. -/
def State.ns (s : State) : Nat := s.time.counter / 2 ^ 40
/-- Station time in units of 2^-16 ns. -/
def State.units (s : State) : Nat := s.time.counter / 2 ^ 24
/-- Station-time seconds, 48 bits. -/
def State.sec (s : State) : Nat := s.ns / 1000000000 % 2 ^ 48
/-- Nanoseconds of the second. -/
def State.nsec (s : State) : Nat := s.ns % 1000000000
/-- Uptime in ns. -/
def State.up (s : State) : Nat := s.time.uptime

/-- The 96-bit layout of R37: seconds in bits 95:48, nanoseconds in 47:16, the fraction in 15:0. -/
def time96 (units : Nat) : Nat :=
  units / 65536 / 1000000000 % 2 ^ 48 * 2 ^ 48 + units / 65536 % 1000000000 * 65536 + units % 65536

/-- Station units of a 96-bit time. -/
def units96 (t : Nat) : Nat := (bits t 95 48 * 1000000000 + bits t 47 16) * 65536 + bits t 15 0

/-- The last cycle, or a phase added in this one, took station time over a whole multiple of some ns (02 R46, R57,
R72). -/
def State.crossed (s : State) (ns : Nat) : Bool :=
  decide (s.time.last / (ns * 2 ^ 40) < s.time.counter / (ns * 2 ^ 40))

/-- Move the counter on by one cycle of the 1 GHz clock: never back, and less what an adjustment still takes from its
course (02 R38; notes/assumptions/85.md). -/
def TimeUnit.run (t : TimeUnit) : TimeUnit :=
  let course := (2 ^ 40 + t.trim).toNat
  let taken := min course t.owed
  { t with last := t.counter, counter := t.counter + (course - taken), owed := t.owed - taken, uptime := t.uptime + 1 }

/-! ## Output, free values, power domains -/

/-- Append to what the module has sent. -/
def State.emit (s : State) (o : Output) : State := { s with out := s.out ++ [o] }

/-- A free value and the state that has used it (notes/assumptions/4.md). -/
def State.free (s : State) : W64 × State := (Config.freeValue s.fresh, { s with fresh := s.fresh + 1 })

/-- A power domain is within tolerance (16 R459). -/
def State.domain (s : State) (d : Nat) : Bool := s.power.domains.getLsbD d

/-- Set a domain on or off at once. -/
def State.setDomain (s : State) (d : Nat) (on : Bool) : State :=
  let m : BitVec 160 := BitVec.ofNat 160 (2 ^ d)
  { s with power := { s.power with
      domains := if on then s.power.domains ||| m else s.power.domains &&& ~~~m } }

/-- A request in service order: after those that arrived earlier, among those of one instant in ascending domain
number (16 R457, R475; notes/assumptions/159.md). -/
def insertRequest (r : Nat × Bool × Nat) : List (Nat × Bool × Nat) → List (Nat × Bool × Nat)
  | [] => [r]
  | x :: xs => if x.2.2 = r.2.2 ∧ r.1 < x.1 then r :: x :: xs else x :: insertRequest r xs

/-- A request to switch a domain on or off waits. -/
def State.asked (s : State) (d : Nat) (on : Bool) : Bool := s.power.requests.any fun r => decide (r.1 = d) && r.2.1 == on

/-- Ask for a domain to be switched (16 R457). A request that waits keeps its place when it is repeated, and is withdrawn
when its opposite asks for the state that the domain is in (notes/assumptions/118.md). -/
def State.askDomain (s : State) (d : Nat) (on : Bool) : State :=
  let others := s.power.requests.filter fun r => r.1 ≠ d
  if s.domain d = on then { s with power := { s.power with requests := others } }
  else if s.asked d on then s
  else { s with power := { s.power with requests := insertRequest (d, on, s.up) others } }

/-- `REF_SERDES` is present, so the SerDes PLLs can lock (16 R466). -/
def State.serdesOk (s : State) : Bool := !s.power.lost.getLsbD 0

/-- The main supply is up: rails within tolerance. -/
def State.powered (s : State) : Bool := s.power.rails

/-- Start-up has reached READY (16 R471). -/
def State.ready (s : State) : Bool := s.power.stage = .ready

/-- Headless: no active postmaster after start-up (13 R409). -/
def State.headless (s : State) : Bool := s.pm.active = none && s.ready

/-- The record of a postmaster. -/
def State.post (s : State) : Pm → Postmaster
  | .a => s.pm.a | .b => s.pm.b
/-- Write a postmaster's record. -/
def State.setPost (s : State) (p : Pm) (v : Postmaster) : State :=
  match p with
  | .a => { s with pm := { s.pm with a := v } }
  | .b => { s with pm := { s.pm with b := v } }
/-- The other postmaster. -/
def pmOther : Pm → Pm
  | .a => .b | .b => .a
/-- Index of a postmaster: 0 A, 1 B. -/
def pmIdx : Pm → Nat
  | .a => 0 | .b => 1

/-! ## Slices and ownership (11) -/

/-- What an unlisted slice holds: slice 0 is ACTIVE from start-up, the others ABSENT (11 R349). -/
def Slice.initial (i : Nat) : Slice := { st := if i = 0 then .active else .absent }
/-- A slice. -/
def State.slice (s : State) (i : Nat) : Slice := nget (Slice.initial i) s.slices i
/-- Write a slice. -/
def State.setSlice (s : State) (i : Nat) (v : Slice) : State :=
  { s with slices := nset (Slice.initial i) i v s.slices }
/-- Change a slice. -/
def State.modSlice (s : State) (i : Nat) (f : Slice → Slice) : State := s.setSlice i (f (s.slice i))

/-- The Created column of R351. -/
def quotaCreated (code : Nat) : Nat :=
  if code = 5 then 16 else if code = 6 then 100000 else if code = 8 then 1 else 0
/-- A quota amount of a slice. -/
def Slice.amount (v : Slice) (code : Nat) : Nat := nget (quotaCreated code) v.amounts code
/-- First identifier of a range of a slice. -/
def Slice.first (v : Slice) (code : Nat) : Nat := nget 0 v.firsts code

/-- Slices 1-63 that are not ABSENT. -/
def State.liveSlices (s : State) : List Nat :=
  (s.slices.filter fun e => e.1 ≠ 0 ∧ e.2.st ≠ .absent).map (·.1)

/-- A slice's range or mask of a code covers an identifier (11 R351). -/
def Slice.covers (v : Slice) (code id : Nat) : Bool :=
  if code = 0x0D then bit (v.amount code) id
  else decide (v.first code ≤ id ∧ id < v.first code + v.amount code)

/-- The slice that owns an identifier; slice 0 owns what no other covers (11 R353). -/
def State.owner (s : State) (code id : Nat) : Nat :=
  ((s.liveSlices.filter fun i => (s.slice i).covers code id).head?).getD 0

/-- A slice is held under item 0x08 (11 R361). -/
def State.sliceHeld (s : State) (i : Nat) : Bool := (s.slice i).held

/-- A slice may issue memory requests (11 R349, R361; 11 R345 for PASID enable). -/
def State.mayRequest (s : State) (i : Nat) : Bool :=
  s.courier.pasidOn && !(s.slice i).held &&
    match (s.slice i).st with
    | .active | .cleared => true
    | .resetting => decide ((s.slice i).resetStep ≤ 2)
    | _ => false

/-- A word of the MSI-X table; a vector control word that was never written masks its vector (19 R512; PCI Express 6.0). -/
def State.msixWord (s : State) (k : Nat) : W32 := nget (if k % 4 = 3 then 1#32 else 0#32) s.regs.msix k

/-- Signal an MSI-X vector: a masked one becomes pending, one of an ABSENT slice is never signalled (11 R348; 19). -/
def State.signal (s : State) (v : Nat) : State :=
  if (s.slice (v / 32)).st = .absent then s
  else if (s.msixWord (4 * v + 3)).getLsbD 0 then
    { s with regs := { s.regs with msixPending := s.regs.msixPending ||| BitVec.ofNat 2048 (2 ^ v) } }
  else s.emit (.vector v)

/-! ## Events (10 R341, R342) -/

/-- A slice's event ring. -/
def State.evRing (s : State) (i : Nat) : EventRing := nget {} s.letters.events i

/-- A released slice still has held receipts to write (11 R362; notes/assumptions/147.md). -/
def State.owesReceipts (s : State) (i : Nat) : Bool :=
  (List.range 8).any fun r =>
    let g : Ring := nget {} s.letters.rings (8 * i + r)
    (g.st = .running || g.st = .closing) && decide (0 < min g.owed g.ready.length)

/-- A released slice still has held receipts or events to write, before its channels and its letters go on (11 R362). -/
def State.resuming (s : State) (i : Nat) : Bool :=
  let g := s.evRing i
  s.owesReceipts i || (g.defined && !g.stopped && decide (0 < min g.owed g.queue.length))
/-- Write a slice's event ring. -/
def State.setEvRing (s : State) (i : Nat) (v : EventRing) : State :=
  { s with letters := { s.letters with events := nset {} i v s.letters.events } }

/-- An event of now. -/
def State.mkEvent (s : State) (event object : Nat) (code arg seq : Nat := 0) : Event :=
  { event := BitVec.ofNat 16 event, object := BitVec.ofNat 32 object, code := BitVec.ofNat 32 code
    arg := BitVec.ofNat 64 arg, seq := BitVec.ofNat 32 seq
    seconds := BitVec.ofNat 32 s.sec, nanoseconds := BitVec.ofNat 32 s.nsec }

/-- The event ring takes no more (10 R342), counting the entries that wait to be written. -/
def EventRing.full (r : EventRing) : Bool := decide (r.depth ≤ (r.written - r.consumed).toNat + r.queue.length)

/-- Give an event to a slice: queued, or discarded and counted in `event_lost` (10 R341, R342; 11 R361). -/
def State.event (s : State) (i : Nat) (e : Event) : State :=
  let r := s.evRing i
  if r.defined ∧ ¬ r.stopped ∧ ¬ r.full ∧ ¬ (s.sliceHeld i ∧ 256 ≤ r.queue.length) then
    s.setEvRing i { r with queue := r.queue ++ [e] }
  else (s.setEvRing i { r with lost := true }).bump .eventLost i

/-! ## The fault log (17) -/

/-- Severity, latched kind and paths (bit 0 receipt, 1 event, 2 `ALERT_N`, 3 postcard) of a fault code (17 R486). -/
structure FaultInfo where
  severity : Nat
  latched : Bool
  paths : Nat
deriving DecidableEq, Repr

/-- The catalogue of R486; none for a reserved code. -/
def faultInfo (code : Nat) : Option FaultInfo :=
  match code with
  | 0x0001 => some ⟨0, true, 2⟩ | 0x0002 => some ⟨3, false, 6⟩
  | 0x0101 => some ⟨1, false, 2⟩ | 0x0102 => some ⟨2, false, 14⟩
  | 0x0201 => some ⟨1, true, 2⟩ | 0x0202 => some ⟨2, false, 14⟩ | 0x0203 => some ⟨1, false, 10⟩
  | 0x0204 => some ⟨2, false, 14⟩ | 0x0205 => some ⟨1, false, 2⟩
  | 0x0301 => some ⟨1, true, 2⟩ | 0x0302 => some ⟨2, false, 6⟩ | 0x0303 => some ⟨2, false, 6⟩
  | 0x0304 => some ⟨2, false, 2⟩
  | 0x0401 => some ⟨1, true, 2⟩ | 0x0402 => some ⟨2, true, 6⟩ | 0x0403 => some ⟨2, false, 6⟩
  | 0x0501 => some ⟨1, true, 6⟩ | 0x0502 => some ⟨0, true, 2⟩
  | 0x0601 => some ⟨2, true, 6⟩ | 0x0602 => some ⟨2, true, 6⟩
  | 0x0801 => some ⟨1, false, 2⟩ | 0x0802 => some ⟨2, false, 6⟩ | 0x0803 => some ⟨2, false, 6⟩
  | 0x0804 => some ⟨2, false, 6⟩ | 0x0805 => some ⟨1, true, 2⟩
  | 0x0901 => some ⟨2, true, 6⟩ | 0x0902 => some ⟨0, true, 2⟩ | 0x0903 => some ⟨1, false, 2⟩
  | 0x0A01 => some ⟨0, true, 2⟩ | 0x0A02 => some ⟨2, false, 6⟩ | 0x0A03 => some ⟨2, true, 7⟩
  | 0x0B01 => some ⟨0, true, 2⟩ | 0x0B02 => some ⟨2, true, 6⟩
  | 0x0C01 => some ⟨0, true, 2⟩ | 0x0C02 => some ⟨1, false, 2⟩
  | 0x0D01 => some ⟨1, true, 6⟩ | 0x0D02 => some ⟨1, false, 6⟩ | 0x0D03 => some ⟨1, true, 2⟩
  | 0x0D04 => some ⟨2, false, 6⟩ | 0x0D05 => some ⟨3, false, 6⟩
  | 0x0E01 => some ⟨1, true, 6⟩ | 0x0E02 => some ⟨1, true, 6⟩ | 0x0E03 => some ⟨2, true, 6⟩
  | 0x0E04 => some ⟨2, true, 6⟩
  | 0x0F01 => some ⟨1, false, 2⟩
  | 0x1001 => some ⟨1, false, 6⟩ | 0x1002 => some ⟨1, false, 6⟩ | 0x1003 => some ⟨2, true, 6⟩
  | 0x1004 => some ⟨2, false, 6⟩ | 0x1005 => some ⟨2, false, 6⟩ | 0x1006 => some ⟨1, true, 2⟩
  | _ => none

/-- The codes that are CRITICAL in every case (17 R482, R486). -/
def alwaysCritical (code : Nat) : Bool := code = 0x0002 || code = 0x0D05

/-- Paths of a code in force (17 R482). -/
def State.faultPaths (s : State) (code : Nat) : BitVec 4 :=
  nget (BitVec.ofNat 4 (((faultInfo code).map (·.paths)).getD 0)) s.faults.masks code

/-- Parents whose activity suppresses a fault (17 R484). -/
def faultParents (code object : Nat) : List (Nat × Nat) :=
  (if code ∈ [0x0101, 0x0102, 0x0303, 0x0801, 0x0802, 0x0803, 0x0804] then [(0x1005, 0)] else []) ++
  (match code with
   | 0x0101 => [(0x1003, 142 + object)]
   | 0x0403 => [(0x1003, 1 + object)]
   | 0x0501 => [(0x1003, 97 + object)]
   | 0x0801 => [(0x1003, 57 + object / 8), (0x0802, object / 16)]
   | 0x0903 => [(0x1003, 89 + object / 64)]
   | _ => [])

/-- A record of a code and object is active. -/
def State.faultActive (s : State) (code object : Nat) : Bool :=
  s.faults.log.any fun r => r.active && r.code.toNat = code && r.object.toNat = object

/-- Some record of a code is active. -/
def State.faultAny (s : State) (code : Nat) : Bool := s.faults.log.any fun r => r.active && r.code.toNat = code

/-- Write back a record by its number. -/
def State.setFault (s : State) (r : FaultRec) : State :=
  { s with faults := { s.faults with log := s.faults.log.map fun q => if q.record = r.record then r else q } }

/-- The record of a number. -/
def State.fault? (s : State) (n : W32) : Option FaultRec := s.faults.log.find? fun r => r.record = n

/-- The event of a record's present state (17 R481). -/
def State.faultEvent (s : State) (r : FaultRec) : Event :=
  s.mkEvent (if r.active then 0x20 else 0x21) r.object.toNat r.code.toNat (r.record.toNat + r.severity * 2 ^ 32)
    r.seq.toNat

/-- Send a record's event to its slice and slice 0, or let it wait while headless (17 R481, R485). -/
def State.sendFault (s : State) (r : FaultRec) : State :=
  if ¬ (s.faultPaths r.code.toNat).getLsbD 1 then s
  else if s.headless then
    if r.record ∈ s.faults.waiting then s
    else if s.faults.waiting.length < 256 then
      { s with faults := { s.faults with waiting := s.faults.waiting ++ [r.record] } }
    else
      let s := { s with faults := { s.faults with waitingLost := true } }
      (s.setEvRing r.slice { s.evRing r.slice with lost := true }).bump .eventLost r.slice
  else
    let e := s.faultEvent r
    let s := s.event r.slice e
    if r.slice = 0 then s else s.event 0 e

/-- Report a record when its state differs from the state last reported and a second has passed since its last event
(17 R480); a suppressed record is not reported (17 R484). -/
def State.report (s : State) (n : W32) : State :=
  match s.fault? n with
  | none => s
  | some r =>
    let due : Bool := match r.eventAt with
      | none => true
      | some t => decide (t + 1000000000 ≤ s.up)
    if r.suppressed || !due || decide (r.reported = some (r.active, r.severity)) then s
    else (s.setFault { r with eventAt := some s.up, reported := some (r.active, r.severity) }).sendFault r

/-- An event of a record waits in a slice's event queue. -/
def State.undelivered (s : State) (r : FaultRec) : Bool :=
  decide (r.record ∈ s.faults.waiting) ||
  (s.letters.events.any fun e => e.2.queue.any fun v =>
    (v.event = 0x20#16 || v.event = 0x21#16) && v.arg.toNat % 2 ^ 32 = r.record.toNat) ||
  (!r.suppressed && decide (r.reported ≠ some (r.active, r.severity)) && (s.faultPaths r.code.toNat).getLsbD 1)

/-- A record is freeable (17 R479). -/
def State.freeable (s : State) (r : FaultRec) : Bool := !r.active && !s.undelivered r

/-- Make room in the log: none when no record is freeable (17 R479). -/
def State.faultRoom (s : State) : Option (List FaultRec) :=
  if s.faults.log.length < 4096 then some s.faults.log
  else match s.faults.log.find? s.freeable with
    | some r => some (s.faults.log.filter fun q => q.record ≠ r.record)
    | none => none

/-- Children of a parent that rises again stop their grace (17 R484). -/
def State.holdGrace (s : State) (code object : Nat) : State :=
  { s with faults := { s.faults with log := s.faults.log.map fun r =>
      if r.suppressed && (faultParents r.code.toNat r.object.toNat).contains (code, object) then
        { r with graceAt := none } else r } }

/-- Paths that a raise takes (17 R478, R481, R482, R484): those in force, `ALERT_N` at severity 3 whatever the mask,
neither the event ring nor `ALERT_N` while suppressed, and the postcard of `FLT_D2D_DEGRADED` only with no live link
(notes/assumptions/157.md). -/
def State.pathsTaken (s : State) (code sv : Nat) (hid : Bool) : BitVec 4 :=
  let p := s.faultPaths code ||| (if sv = 3 then 4#4 else 0#4)
  let p := if hid then p &&& 9#4 else p
  if code = 0x0102 ∧ sv ≠ 3 then p &&& 7#4 else p

/-- Raise a fault (17 R478-R484): a new record, a reopened one, or a further raise of an active one. -/
def State.raise (s : State) (code object : Nat) (detail party owner seq : Nat := 0) (sev : Option Nat := none) : State :=
  let info := (faultInfo code).getD ⟨0, true, 0⟩
  let sv := sev.getD info.severity
  let s := s.holdGrace code object
  let hid := (faultParents code object).any fun p => s.faultActive p.1 p.2
  match s.faults.log.find? (fun r => r.code.toNat = code && r.object.toNat = object &&
      (r.active || decide (s.up ≤ r.clearAt + 1000000000))) with
  | some r =>
    let hides := if r.active then r.suppressed else r.suppressed || hid
    let r := { r with
      active := true, severity := sv, suppressed := hides
      occurrences := satInc r.occurrences, last := s.units, clear := none
      detail := BitVec.ofNat 64 detail, party := BitVec.ofNat 32 party, seq := BitVec.ofNat 32 seq
      graceAt := if hid then none else r.graceAt
      paths := s.pathsTaken code sv hides }
    (s.setFault r).report r.record
  | none =>
    match s.faultRoom with
    | none => { s with faults := { s.faults with logFull := true } }
    | some log =>
      let r : FaultRec := {
        record := s.faults.next, code := BitVec.ofNat 16 code, severity := sv, suppressed := hid
        headless := s.headless, paths := s.pathsTaken code sv hid, slice := owner, object := BitVec.ofNat 32 object
        seq := BitVec.ofNat 32 seq, detail := BitVec.ofNat 64 detail, party := BitVec.ofNat 32 party
        first := s.units, last := s.units }
      State.report { s with faults := { s.faults with log := log ++ [r], next := s.faults.next + 1#32 } } r.record

/-- A suppressed record that no active parent covers waits for its grace to start (17 R484). -/
def State.graceDue (s : State) (r : FaultRec) : Bool :=
  r.suppressed && r.graceAt.isNone && !((faultParents r.code.toNat r.object.toNat).any fun p => s.faultActive p.1 p.2)

/-- Start the grace of the suppressed children that no active parent covers any more (17 R484). -/
def State.startGrace (s : State) : State :=
  { s with faults := { s.faults with
      log := s.faults.log.map fun r => if s.graceDue r then { r with graceAt := some s.up } else r } }

/-- Clear one active record (17 R477, R479, R481). -/
def State.clearRec (s : State) (r : FaultRec) : State :=
  ((s.setFault { r with active := false, clear := some s.units, clearAt := s.up }).report r.record).startGrace

/-- Clear the fault of a code and object, when it is active. -/
def State.clearFault (s : State) (code object : Nat) : State :=
  match s.faults.log.find? (fun r => r.active && r.code.toNat = code && r.object.toNat = object) with
  | some r => s.clearRec r
  | none => s

/-- A condition fault follows its condition: raised while it holds, cleared when it ends (17 R477). -/
def State.condition (s : State) (code object : Nat) (holds : Bool) (detail : Nat := 0) (owner : Nat := 0)
    (sev : Option Nat := none) : State :=
  if holds then
    match s.faults.log.find? (fun r => r.active && r.code.toNat = code && r.object.toNat = object) with
    | some r =>
      if sev.getD r.severity = r.severity then s
      else (s.setFault { r with severity := sev.getD r.severity }).report r.record
    | none => s.raise code object detail 0 owner 0 sev
  else s.clearFault code object

/-- A condition fault whose object is a reading: one record, with the reading as the condition began
(notes/assumptions/60.md). -/
def State.soleCondition (s : State) (code object : Nat) (holds : Bool) (detail : Nat := 0) : State :=
  if holds then (if s.faultAny code then s else s.raise code object detail)
  else (s.faults.log.filter fun r => r.active ∧ r.code.toNat = code).foldl State.clearRec s

/-- The object number of a fault that names none (17 R478). -/
def noObject : Nat := 0xFFFFFFFF

/-- Some record active, unsuppressed, on the `ALERT_N` path or CRITICAL (17 R481). -/
def State.faultAlert (s : State) : Bool :=
  s.faults.log.any fun r => r.active && !r.suppressed && ((s.faultPaths r.code.toNat).getLsbD 2 || r.severity = 3)

/-- A page event goes to the owner of the resource: resource 0 epoch, 1 FlexE calendar, 2 connection page, 3 gate
list, 4 bench (10 R341). -/
def State.pageEvent (s : State) (event resource index owner : Nat) : State :=
  s.event owner (s.mkEvent event (resource * 2 ^ 24 + index) 0)

/-- Meanings on a unit that the variant lacks stop by name (00 R6, R7). -/
def onUnit (here : Bool) (s : State) : Host.Outcome State Fault Refusal :=
  if here then .next s else .fault .absentUnit

end Sys2Proof.Machine
end

