-- ==== Sys2Proof/Machine/LetterOps.lean ====
section
/-!
DEFINITION. LetterOps.lean: the opcode catalogue (10 R344), the layout of letter bodies (R328), keep values and
clamping (R329, R337, R338), the ledger (R332, R333), receipts (R330, R331) and the one wrapper that every letter's
meaning goes through: it checks, takes effect at acceptance and leaves its receipt to be written (13 R399).
-/

namespace Sys2Proof.Machine

/-! ## The catalogue -/

/-- Kinds of parameter by size (10 R328). -/
inductive PK where
  | w4 | w8 | time | addr | list | val (n : Nat)
deriving DecidableEq, Repr

/-- Bytes of a parameter. -/
def PK.size : PK → Nat
  | .w4 => 4 | .w8 => 8 | .time => 16 | .addr => 8 | .list => 12 | .val n => n

/-- What the catalogue says of an opcode: accepted only from slice 0, a staging letter, a block letter, the body. -/
structure OpInfo where
  manager : Bool := false
  staging : Bool := false
  block : Bool := false
  shape : List PK := []
deriving DecidableEq, Repr

/-- `n` four-byte parameters. -/
def w4s (n : Nat) : List PK := List.replicate n .w4
/-- `n` eight-byte parameters. -/
def w8s (n : Nat) : List PK := List.replicate n .w8

/-- The opcode catalogue (10 R344). -/
def opInfo (op : Nat) : Option OpInfo :=
  match op with
  | 0x0101 => some {} | 0x0102 => some ⟨true, false, false, w4s 1⟩ | 0x0103 => some ⟨true, false, false, w4s 2⟩
  | 0x0104 => some ⟨false, false, false, [.w4, .addr, .addr, .w4]⟩ | 0x0105 => some ⟨false, false, false, w4s 1⟩
  | 0x0106 => some ⟨false, false, false, [.addr, .w4]⟩ | 0x0107 => some ⟨true, false, false, []⟩
  | 0x0108 => some ⟨true, false, false, w4s 1⟩
  | 0x0109 => some ⟨true, false, false, w4s 5 ++ [.val 16, .w4, .val 16]⟩
  | 0x0201 => some ⟨true, false, false, [.w4, .list, .w8]⟩ | 0x0202 => some ⟨true, false, false, [.w8, .w4]⟩
  | 0x0203 => some ⟨true, false, false, [.w4, .w8]⟩ | 0x0204 => some ⟨true, false, false, w4s 1⟩
  | 0x0205 => some ⟨true, false, false, w4s 4⟩ | 0x0206 => some {}
  | 0x0301 => some ⟨true, false, false, w4s 1⟩ | 0x0302 => some ⟨true, false, false, [.w4, .w4, .time, .w8]⟩
  | 0x0303 => some ⟨true, false, false, w4s 1⟩ | 0x0304 => some ⟨true, false, false, w4s 1⟩ | 0x0305 => some {}
  | 0x0401 => some ⟨false, false, false, w4s 3 ++ w8s 4 ++ w4s 10⟩ | 0x0402 => some ⟨false, false, false, w4s 1⟩
  | 0x0403 => some ⟨false, false, false, w4s 1⟩ | 0x0404 => some ⟨false, false, false, w4s 4⟩
  | 0x0405 => some ⟨false, false, false, [.w4, .w8, .w8]⟩ | 0x0406 => some ⟨false, false, false, w4s 5⟩
  | 0x0407 => some ⟨false, false, false, w4s 1⟩
  | 0x0501 => some ⟨false, false, false, w4s 5⟩ | 0x0502 => some ⟨false, false, false, w4s 8⟩
  | 0x0503 => some ⟨false, false, false, w4s 3⟩ | 0x0504 => some ⟨false, false, false, w4s 3⟩
  | 0x0505 => some ⟨false, false, false, w4s 3⟩ | 0x0506 => some ⟨false, false, false, [.w4, .w4, .list]⟩
  | 0x0507 => some ⟨false, false, false, [.w4, .w4, .time]⟩ | 0x0508 => some ⟨false, false, false, w4s 2⟩
  | 0x0509 => some ⟨false, false, false, [.w4, .list]⟩ | 0x050A => some ⟨false, false, false, [.w4, .time]⟩
  | 0x050B => some ⟨false, false, false, w4s 1⟩ | 0x050C => some ⟨false, false, false, [.w4, .addr, .addr, .w4]⟩
  | 0x0601 => some ⟨true, false, false, w4s 1⟩ | 0x0602 => some ⟨true, false, false, [.w4, .w4, .list]⟩
  | 0x0603 => some ⟨true, false, false, [.w4, .w4, .list]⟩
  | 0x0604 => some ⟨true, false, false, [.w4, .list, .list, .list, .w4]⟩ | 0x0605 => some ⟨true, false, false, w4s 2⟩
  | 0x0606 => some ⟨true, false, false, w4s 2⟩ | 0x0607 => some ⟨true, false, false, [.w4, .time, .w8]⟩
  | 0x0608 => some ⟨true, false, false, w4s 1⟩ | 0x0609 => some ⟨true, false, false, w4s 1⟩
  | 0x060A => some ⟨true, false, false, w4s 1⟩ | 0x060B => some ⟨true, false, false, w4s 1⟩
  | 0x060C => some ⟨true, false, false, [.w4, .w4, .w8, .val 64]⟩
  | 0x0701 => some ⟨false, true, false, [.w4, .w4, .val 16, .w4, .w4, .w4, .w4]⟩
  | 0x0702 => some ⟨false, true, false, [.w4, .w4, .val 16, .w4]⟩ | 0x0703 => some ⟨false, true, true, [.list, .w4]⟩
  | 0x0801 => some ⟨false, true, false, [.w4, .val 32, .val 8]⟩ | 0x0802 => some ⟨false, true, false, [.w4, .val 32]⟩
  | 0x0803 => some ⟨false, true, false, w4s 5⟩ | 0x0804 => some ⟨false, true, false, w4s 1⟩
  | 0x0805 => some ⟨false, true, false, [.w4, .w4, .list]⟩ | 0x0806 => some ⟨false, true, false, w4s 1⟩
  | 0x0807 => some ⟨true, false, false, w4s 3⟩ | 0x0808 => some ⟨false, true, true, [.list, .w4]⟩
  | 0x0901 => some ⟨false, true, false, [.w4, .w4, .val 80, .val 80, .val 8]⟩ | 0x0902 => some ⟨false, true, false, w4s 2⟩
  | 0x0903 => some ⟨false, true, false, [.w4, .w4, .val 40, .w4, .w4, .w4]⟩
  | 0x0904 => some ⟨false, true, false, [.w4, .list]⟩ | 0x0905 => some ⟨false, false, false, w4s 2⟩
  | 0x0906 => some ⟨true, false, false, w8s 1⟩ | 0x0907 => some ⟨false, true, true, [.list, .w4]⟩
  | 0x0A01 => some ⟨true, false, false, w4s 4⟩ | 0x0A02 => some ⟨true, false, false, .w4 :: w8s 4⟩
  | 0x0A03 => some ⟨false, false, false, [.w4, .w8, .w4, .w8, .w4, .w4, .w8, .w4, .w4]⟩
  | 0x0A04 => some ⟨true, false, false, [.w4, .val 64, .w8, .w8, .addr, .w4]⟩
  | 0x0A05 => some ⟨false, false, false, w4s 3 ++ w8s 2⟩
  | 0x0B01 => some ⟨false, false, false, w4s 2 ++ w8s 1 ++ w4s 11⟩
  | 0x0B02 => some ⟨false, false, false, w4s 6 ++ w8s 4 ++ w4s 1⟩
  | 0x0B03 => some ⟨false, false, false, w4s 2 ++ w8s 3 ++ w4s 16⟩ | 0x0B04 => some ⟨false, false, false, w4s 3⟩
  | 0x0B05 => some ⟨false, false, false, w4s 2⟩ | 0x0B06 => some ⟨false, false, false, w4s 1⟩
  | 0x0B07 => some ⟨false, false, false, [.w4, .list]⟩ | 0x0B08 => some ⟨false, false, false, [.w4, .time]⟩
  | 0x0B09 => some ⟨false, false, false, w4s 1⟩
  | 0x0C01 => some ⟨false, true, false, w4s 3 ++ w8s 5 ++ w4s 1⟩ | 0x0C02 => some ⟨false, true, false, w4s 1⟩
  | 0x0D01 => some ⟨false, false, false, w4s 1⟩ | 0x0D02 => some ⟨false, false, false, w4s 1⟩
  | 0x0D03 => some ⟨false, false, false, w4s 5⟩ | 0x0D04 => some ⟨true, false, false, w8s 5⟩
  | 0x0D05 => some ⟨true, false, false, w8s 2⟩ | 0x0D06 => some ⟨false, false, false, w4s 2⟩
  | 0x0D07 => some ⟨false, false, false, [.w4, .list]⟩
  | 0x0E01 => some ⟨true, false, false, w8s 1⟩ | 0x0E02 => some ⟨true, false, false, w4s 1⟩
  | 0x0E03 => some ⟨true, false, false, w8s 1⟩ | 0x0E04 => some ⟨true, false, false, w4s 1⟩
  | 0x0E05 => some ⟨true, false, false, w8s 1⟩ | 0x0E06 => some ⟨true, false, false, w4s 1⟩
  | 0x0E07 => some ⟨true, false, false, w4s 1⟩ | 0x0E08 => some ⟨false, false, false, [.w4, .addr]⟩
  | 0x0F01 => some ⟨true, false, false, [.w4, .w4, .list, .addr, .addr, .w4]⟩
  | 0x0F02 => some ⟨true, false, false, [.w4, .list]⟩ | 0x0F03 => some ⟨true, false, false, w4s 1⟩
  | 0x0F04 => some ⟨true, false, false, w4s 1⟩ | 0x0F05 => some ⟨true, false, false, [.w4, .val 16, .w4]⟩
  | 0x0F06 => some ⟨true, false, false, [.w4, .w4, .addr, .w8]⟩ | 0x0F07 => some ⟨false, false, false, w4s 1⟩
  | 0x1001 => some ⟨false, false, false, [.w4, .addr, .w4, .w4]⟩ | 0x1002 => some ⟨false, false, false, w4s 1⟩
  | 0x1003 => some ⟨false, false, false, w4s 1⟩ | 0x1004 => some ⟨false, false, false, w4s 2⟩
  | 0x1101 => some ⟨true, false, false, [.w4, .w4, .w8, .list]⟩ | 0x1102 => some ⟨true, false, false, w4s 2⟩
  | 0x1103 => some ⟨true, false, false, [.w4, .time]⟩ | 0x1104 => some ⟨true, false, false, w4s 1⟩ | 0x1105 => some {}
  | 0x1201 => some ⟨false, false, false, [.w4, .w4, .addr]⟩ | 0x1202 => some ⟨false, false, false, [.list, .addr]⟩
  | 0x1203 => some ⟨false, false, false, w4s 1⟩ | 0x1204 => some ⟨true, false, false, w4s 3⟩
  | 0x1205 => some ⟨false, false, false, [.addr]⟩
  | 0x1301 => some {} | 0x1302 => some ⟨true, false, false, w4s 1⟩ | 0x1303 => some ⟨true, false, false, w4s 3⟩
  | 0x1401 => some ⟨false, false, false, [.w4, .w4, .addr]⟩ | 0x1402 => some ⟨false, false, false, w4s 1⟩
  | 0x1403 => some ⟨true, false, false, w4s 2⟩
  | 0x1501 => some ⟨false, false, false, [.w4, .w4, .w8, .w4, .w4]⟩ | 0x1502 => some ⟨false, false, false, w4s 1⟩
  | _ => none

/-- Offset at which a parameter is placed (10 R328). -/
def placeAt (off : Nat) (k : PK) : Nat := if k.size = 4 then (off + 3) / 4 * 4 else (off + 7) / 8 * 8

/-- End of a body's last parameter. -/
def shapeEnd (shape : List PK) : Nat := shape.foldl (fun off k => placeAt off k + k.size) 0

/-- Length of an opcode's body, a multiple of 8 (10 R327, R328). -/
def OpInfo.length (i : OpInfo) : Nat := (shapeEnd i.shape + 7) / 8 * 8

/-- Gaps between parameters, as (offset, bytes). -/
def gaps (shape : List PK) : List (Nat × Nat) :=
  let r := shape.foldl (fun (acc : Nat × List (Nat × Nat)) k =>
    let p := placeAt acc.1 k
    (p + k.size, if acc.1 < p then acc.2 ++ [(acc.1, p - acc.1)] else acc.2)) (0, [])
  let e := (r.1 + 7) / 8 * 8
  if r.1 < e then r.2 ++ [(r.1, e - r.1)] else r.2

/-- The gaps of a body are zero (RSV, 10 R328). -/
def gapsZero (shape : List PK) (body : List Byte) : Bool :=
  (gaps shape).all fun g => (bslice body g.1 g.2).all fun b => b = 0#8

/-! ## Bodies -/

/-- One parameter as the body's bytes. -/
abbrev Par := List Byte
/-- A 4-byte parameter. -/
def p4 (v : W32) : Par := leBytes v.toNat 4
/-- A 4-byte value in network order (10 R328). -/
def p4be (v : W32) : Par := beBytes v.toNat 4
/-- An 8-byte parameter. -/
def p8 (v : W64) : Par := leBytes v.toNat 8
/-- A Time parameter. -/
def pT (v : TimeParam) : Par := leBytes v.toNat 16
/-- A List parameter. -/
def pL {α : Type} (l : ListArg α) : Par := leBytes l.addr.toNat 8 ++ leBytes l.count.toNat 4
/-- A value of n bytes in network order. -/
def pBe (v n : Nat) : Par := beBytes v n
/-- A value of n bytes, little-endian. -/
def pLe (v n : Nat) : Par := leBytes v n
/-- A signed 4-byte parameter. -/
def p4s (v : Int) : Par := leBytes (unsext 32 v) 4
/-- A signed 8-byte parameter. -/
def p8s (v : Int) : Par := leBytes (unsext 64 v) 8
/-- A natural as a 4-byte parameter. -/
def n4 (v : Nat) : Par := leBytes v 4
/-- A natural as an 8-byte parameter. -/
def n8 (v : Nat) : Par := leBytes v 8

/-- Lay parameters out (10 R328): padded to their places, the body padded to a multiple of 8. -/
def layBody (ps : List Par) : List Byte :=
  let b := ps.foldl (fun (acc : List Byte) p =>
    let off := if p.length = 4 then (acc.length + 3) / 4 * 4 else (acc.length + 7) / 8 * 8
    acc ++ List.replicate (off - acc.length) 0#8 ++ p) []
  b ++ List.replicate ((b.length + 7) / 8 * 8 - b.length) 0#8

/-! ## Quantities: keep values and clamping (10 R329, R337, R338) -/

/-- What became of a quantity: the value applied and whether it was clamped; none when the keep value has nothing to
keep. -/
abbrev Qty := Option (Nat × Bool)

/-- An unsigned quantity of a width, clamped to lo-hi; `cur` is what the keep value means. -/
def clampU (w : Nat) (v lo hi : Nat) (cur : Option Nat) : Qty :=
  let given := if v = 2 ^ w - 1 then cur else some v
  given.map fun v => let c := max lo (min hi v); (c, decide (c ≠ v))

/-- As `clampU`, with 0 a special value below the range (10 R338). -/
def clampU0 (w : Nat) (v lo hi : Nat) (cur : Option Nat) : Qty :=
  let given := if v = 2 ^ w - 1 then cur else some v
  given.map fun v => if v = 0 then (0, false) else let c := max lo (min hi v); (c, decide (c ≠ v))

/-- A signed quantity of a width, clamped to lo-hi. -/
def clampS (w : Nat) (v : Nat) (lo hi : Int) (cur : Option Int) : Option (Int × Bool) :=
  let given := if v = 2 ^ (w - 1) then cur else some (sext w v)
  given.map fun v => let c := max lo (min hi v); (c, decide (c ≠ v))

/-- A ring depth is a power of two from 64 to 65,536, and is rejected rather than clamped otherwise (10 R316, R337;
12 R378). -/
def badDepth (depth : W32) : Bool := decide (depth.toNat ∉ [64, 128, 256, 512, 1024, 2048, 4096, 8192, 16384, 32768, 65536])

/-- The nearest multiple of a step, a tie going to the larger (10 R338). -/
def nearStep (step v : Nat) : Nat := (v + step / 2) / step * step

/-- A rejection: status, parameter index, subcode. -/
structure Reject where
  status : Status
  param : Nat
  subcode : Nat := 0
deriving DecidableEq, Repr

/-- The first check that fails decides (10 R336). -/
def firstFail : List (Bool × Reject) → Option Reject
  | [] => none
  | (bad, r) :: cs => if bad then some r else firstFail cs

/-- A keep value with nothing to keep is MALFORMED (10 R329). -/
def noKeep {α : Type} (q : Option α) (param : Nat) : Bool × Reject := (q.isNone, ⟨.malformed, param, 0⟩)

/-- The value of a quantity. -/
def Qty.v (q : Qty) : Nat := (q.map (·.1)).getD 0
/-- The value of a signed quantity. -/
def sv (q : Option (Int × Bool)) : Int := (q.map (·.1)).getD 0
/-- First parameter that was clamped, from (index, clamped) in catalogue order. -/
def firstClamp (l : List (Nat × Bool)) : Option Nat := (l.find? (·.2)).map (·.1)
/-- Whether a quantity was clamped. -/
def Qty.c (q : Qty) : Bool := (q.map (·.2)).getD false
/-- Whether a signed quantity was clamped. -/
def sc (q : Option (Int × Bool)) : Bool := (q.map (·.2)).getD false

/-- A Time parameter that is no station time, rejected at step 6 of R336 (02 R54). -/
def badTime (t : TimeParam) : Bool := decide (bits t.toNat 47 16 > 999999999) || decide (bits t.toNat 127 96 ≠ 0)
/-- T more than 1,000 s after the letter takes effect (02 R54). -/
def farTime (s : State) (t : TimeParam) : Bool :=
  decide (t.toNat ≠ 0) && decide (units96 t.toNat > s.units + 1000000000000 * 65536)
/-- T earlier than 200 us after the letter takes effect (02 R54). -/
def pastTime (s : State) (t : TimeParam) : Bool :=
  decide (t.toNat ≠ 0) && decide (units96 t.toNat < s.units + 200000 * 65536)
/-- The schedule a Time parameter gives, 0 for at once. -/
def schedT (t : TimeParam) : Nat := if t.toNat = 0 then 0 else units96 t.toNat

/-! ## The ledger and receipts -/

/-- Status codes (10 R340). -/
def Status.code : Status → Nat
  | .done => 0 | .scheduled => 1 | .staged => 2 | .unknownOpcode => 0x10 | .malformed => 0x11 | .noSuchObject => 0x12
  | .notPermitted => 0x13 | .stagingFull => 0x14 | .busy => 0x15 | .staleSequence => 0x16 | .timePast => 0x17
  | .versionMismatch => 0x18 | .internalFault => 0x20

/-- A receipt's 32-byte header and applied block, little-endian (10 R330). -/
def Receipt.bytes (r : Receipt) (phase : Bool) : List Byte :=
  let block := r.applied.take 224
  leBytes (r.acceptedS.toNat * 2 ^ 224 + r.acceptedNs.toNat * 2 ^ 192 + r.cookie.toNat * 2 ^ 128 +
    r.subcode.toNat * 2 ^ 112 + r.epoch.toNat * 2 ^ 96 + block.length * 2 ^ 80 + r.param.toNat * 2 ^ 72 +
    r.slice.toNat * 2 ^ 64 + r.seq.toNat * 2 ^ 32 + b2n r.clamped * 2 ^ 27 + b2n r.dup * 2 ^ 26 + b2n phase * 2 ^ 25 +
    r.status.code * 2 ^ 16 + r.opcode.toNat) 32 ++ block

/-- An event entry of a slice's ring, little-endian (10 R341). -/
def Event.bytes (e : Event) (slice : Nat) (phase lost : Bool) : List Byte :=
  leBytes (e.arg.toNat * 2 ^ 192 + e.code.toNat * 2 ^ 160 + e.seq.toNat * 2 ^ 128 + e.seconds.toNat * 2 ^ 96 +
    e.nanoseconds.toNat * 2 ^ 64 + e.object.toNat * 2 ^ 32 + b2n lost * 2 ^ 25 + b2n phase * 2 ^ 24 + slice * 2 ^ 16 +
    e.event.toNat) 32

/-- The ledger of a slice. -/
def State.ledger (s : State) (i : Nat) : Ledger := nget {} s.letters.ledgers i
/-- Write a ledger. -/
def State.setLedger (s : State) (i : Nat) (v : Ledger) : State :=
  { s with letters := { s.letters with ledgers := nset {} i v s.letters.ledgers } }
/-- The ledger entry of a letter. -/
def State.entry (s : State) (l : LetterId) : Option Entry := nfind (s.ledger l.slice).entries l.seq.toNat
/-- Write a ledger entry. -/
def State.setEntry (s : State) (l : LetterId) (e : Entry) : State :=
  let d := s.ledger l.slice
  s.setLedger l.slice { d with entries := nput l.seq.toNat e d.entries }
/-- A letter ring. -/
def State.ring (s : State) (sl r : Nat) : Ring := nget {} s.letters.rings (8 * sl + r)
/-- Write a letter ring. -/
def State.setRing (s : State) (sl r : Nat) (v : Ring) : State :=
  { s with letters := { s.letters with rings := nset {} (8 * sl + r) v s.letters.rings } }

/-- Sequence number a is newer than b (10 R332). -/
def seqNewer (a b : W32) : Bool := let d := (a - b).toNat; decide (1 ≤ d ∧ d ≤ 2 ^ 31 - 1)

/-- Put a receipt where its letter's transport takes it: the ring's ready receipts, with or without the reservation
the letter holds, or the in-band replies (10 R318, R323, R334). -/
def State.pushReceipt (s : State) (sl : Nat) (via : Via) (r : Receipt) (reserved : Bool) : State :=
  match via with
  | .ring i => let g := s.ring sl i; s.setRing sl i { g with ready := g.ready ++ [(r, reserved)] }
  | .inband .. => { s with letters := { s.letters with
      replies := nset [] sl (nget [] s.letters.replies sl ++ [(via, r, s.up)]) s.letters.replies } }

/-- Release the reservation of a letter that gets no receipt (10 R318). -/
def State.unreserve (s : State) (sl : Nat) (via : Via) : State :=
  match via with
  | .ring i => let g := s.ring sl i; s.setRing sl i { g with reserved := g.reserved - 1 }
  | .inband .. => s

/-- Close a letter: DONE in the ledger, its receipt ready (13 R399). -/
def State.finish (s : State) (l : LetterId) (e : Entry) (r : Receipt) : State :=
  (s.setEntry l { e with st := .done, receipt := r }).pushReceipt l.slice e.via r true

/-- Effect steps of an opcode's letters (13 R400; notes/assumptions/32.md). -/
def effectSteps (op : Nat) : Nat := 1 + Config.extraEffectSteps op

/-- An accepted letter whose steps are journaled and whose receipt waits for nothing becomes DONE (13 R399). -/
def State.settle (s : State) (l : LetterId) : State :=
  match s.entry l with
  | some e =>
    if e.st = .accepted ∧ ¬ e.waits ∧ effectSteps e.opcode.toNat ≤ e.journaled then s.finish l e e.receipt else s
  | none => s

/-- The owning rule's end: the receipt waits no more (10 R331). -/
def State.release (s : State) (l : LetterId) : State :=
  match s.entry l with
  | some e => (s.setEntry l { e with waits := false }).settle l
  | none => s

/-- The owning rule's end for a letter that may be absent. -/
def State.release? (s : State) (l : Option LetterId) : State :=
  match l with
  | some l => s.release l
  | none => s

/-- Change the stored receipt of a letter in progress. -/
def State.modReceipt (s : State) (l : LetterId) (f : Receipt → Receipt) : State :=
  match s.entry l with
  | some e => s.setEntry l { e with receipt := f e.receipt }
  | none => s

/-- A letter in progress ends in INTERNAL_FAULT (10 R340, R520; 17 R481): the fault is raised, applied-block byte 0
says whether part of the effect was taken. -/
def State.internalFault (s : State) (l : LetterId) (cause party : Nat) (part : Bool) : State :=
  match s.entry l with
  | some e =>
    let r := { e.receipt with
      status := .internalFault, param := 0xFF#8, subcode := 0x0A03#16, clamped := false
      applied := [BitVec.ofNat 8 (b2n part)] }
    ((s.setEntry l { e with receipt := r, waits := false }).settle l).raise 0x0A03 l.slice.val cause party l.slice.val
      l.seq.toNat
  | none => s

/-- A receipt header of now for a letter's entry (10 R330; notes/assumptions/150.md). -/
def State.mkReceipt (s : State) (l : LetterId) (e : Entry) (st : Status) (param : Nat := 0xFF) (sub : Nat := 0) : Receipt :=
  { status := st, param := BitVec.ofNat 8 param, subcode := BitVec.ofNat 16 sub, opcode := e.opcode
    slice := BitVec.ofNat 8 l.slice.val, seq := l.seq, cookie := e.cookie, epoch := s.epoch.current
    acceptedS := BitVec.ofNat 32 s.sec, acceptedNs := BitVec.ofNat 32 s.nsec }

/-- The entries that came before one on its ring: a smaller count, modulo 2^32. -/
def earlierOnRing (d : Ledger) (e : Entry) : List Entry :=
  ((d.entries.map (·.2)).filter fun o => o.via = e.via ∧ o.index ≠ e.index ∧ (e.index - o.index).toNat < 2 ^ 31)

/-- What a letter finds when it is checked. -/
structure Ctx where
  l : LetterId
  entry : Entry

/-- The sending slice. -/
def Ctx.sl (c : Ctx) : Nat := c.l.slice.val

/-- The entry under which a letter's row may act: claimed by the active postmaster in the current term, of this
opcode and body, in the order of its ring (10 R334, 13 R399). -/
def State.claimed (s : State) (l : LetterId) (op : Nat) (ps : List Par) : Option Entry :=
  match s.entry l with
  | some e =>
    let ring : Bool := match e.via with | .ring _ => true | .inband .. => false
    let before := earlierOnRing (s.ledger l.slice) e
    if e.st = .claimed ∧ e.opcode.toNat = op ∧ e.body = layBody ps ∧ s.pm.active = some e.pm ∧ e.term = s.pm.term ∧
        (¬ ring ∨ ((before.all fun o => o.st ≠ .claimed) ∧ (¬ e.wait ∨ before.all fun o => o.st = .done))) then some e
    else none
  | none => none

/-- The outcome of a letter's checks: a rejection, or acceptance with the state after the effect, the status, the
applied block, the first clamped parameter, and whether the receipt waits. -/
inductive Verdict where
  | reject (r : Reject)
  | listError (addr : W64)
  | accept (status : Status) (next : State) (applied : List Byte) (clamp : Option Nat) (waits : Bool) (sub : Nat)
  | partFault (cause : Nat) (addr : W64) (part : Bool) (next : State)

/-- Accepted, DONE. -/
def accept (next : State) (applied : List Byte) (clamp : Option Nat := none) : Verdict :=
  .accept .done next applied clamp false 0
/-- Accepted, DONE, the receipt waiting for its owning rule. -/
def acceptWait (next : State) (applied : List Byte) (clamp : Option Nat := none) : Verdict :=
  .accept .done next applied clamp true 0

/-- A record that names no letter was raised anew between two states (17 R478). -/
def FaultRec.raisedSince (r : FaultRec) (s : State) : Bool :=
  decide (r.seq = 0#32) && match s.fault? r.record with
    | some q => decide (q.occurrences ≠ r.occurrences)
    | none => true

/-- The letter in whose effect faults were raised, from a state to the next, stands in their records and in the events
sent for them (17 R478; 10 R341; notes/assumptions/157.md). -/
def State.byLetter (next s : State) (seq : W32) : State :=
  let new := next.faults.log.filter fun r => r.raisedSince s
  let mark (v : Event) : Event :=
    if v.event = 0x20#16 ∧ new.any (fun r => decide (v.arg.toNat % 2 ^ 32 = r.record.toNat)) then { v with seq := seq } else v
  { next with
    faults := { next.faults with log := next.faults.log.map fun r => if r.raisedSince s then { r with seq := seq } else r }
    letters := { next.letters with events := next.letters.events.map fun (e : Nat × EventRing) =>
      let n := (s.evRing e.1).queue.length
      (e.1, { e.2 with queue := e.2.queue.take n ++ (e.2.queue.drop n).map mark }) } }

/-- Run a letter's row (10 R331, R336, R339): unchanged unless the ledger holds the letter claimed for it; a rejection
has no effect and closes the letter; an acceptance takes effect and leaves the letter ACCEPTED. -/
def runLetter (l : LetterId) (op : Nat) (ps : List Par) (act : Ctx → Verdict) (s : State) : State :=
  match s.claimed l op ps with
  | none => s
  | some e =>
    match act ⟨l, e⟩ with
    | .reject r => s.finish l e (s.mkReceipt l e r.status r.param r.subcode)
    | .listError addr =>
      let e := { e with st := .accepted, receipt := s.mkReceipt l e .internalFault }
      (s.setEntry l e).internalFault l 4 (addr.toNat % 2 ^ 32) false
    | .partFault cause addr part next =>
      let e := { e with st := .accepted, receipt := s.mkReceipt l e .internalFault }
      ((next.byLetter s l.seq).setEntry l e).internalFault l cause (addr.toNat % 2 ^ 32) part
    | .accept st next applied clamp waits sub =>
      let staging := ((opInfo op).map OpInfo.staging).getD false
      let r := { s.mkReceipt l e st with
        applied := applied, clamped := clamp.isSome, subcode := BitVec.ofNat 16 sub, param := BitVec.ofNat 8 (clamp.getD 0xFF)
        epoch := if staging then e.epoch.getD next.epoch.current else s.epoch.current }
      (next.byLetter s l.seq).setEntry l { e with st := .accepted, receipt := r, waits := waits, journaled := 0 }

/-- A letter's checks in order, then its effect. -/
def checked (checks : List (Bool × Reject)) (ok : Unit → Verdict) : Verdict :=
  match firstFail checks with
  | some r => .reject r
  | none => ok ()

/-- The letter names an object of another slice or none at all (10 R336 step 7). -/
def noObj (bad : Bool) (param : Nat) : Bool × Reject := (bad, ⟨.noSuchObject, param, 0⟩)
/-- A MALFORMED parameter. -/
def malformed (bad : Bool) (param : Nat) (sub : Nat := 0) : Bool × Reject := (bad, ⟨.malformed, param, sub⟩)
/-- The object's state does not allow the letter. -/
def busy (bad : Bool) (param : Nat := 0xFF) : Bool × Reject := (bad, ⟨.busy, param, 0⟩)
/-- Not permitted. -/
def notPermitted (bad : Bool) (param : Nat := 0xFF) (sub : Nat := 0) : Bool × Reject := (bad, ⟨.notPermitted, param, sub⟩)

/-- Step 9 of R336 for a scheduled time (02 R54). -/
def timeChecks (s : State) (t : TimeParam) (param : Nat) : List (Bool × Reject) :=
  [malformed (farTime s t) param, (pastTime s t, ⟨.timePast, param, 0⟩)]
/-- Accepted, SCHEDULED. -/
def acceptScheduled (next : State) (applied : List Byte) (clamp : Option Nat := none) : Verdict :=
  .accept .scheduled next applied clamp false 0
/-- Accepted, STAGED. -/
def acceptStaged (next : State) (applied : List Byte) (clamp : Option Nat := none) : Verdict :=
  .accept .staged next applied clamp false 0

/-- A list read from host memory, or the bus error that ends the letter (10 R520). -/
def withList {α : Type} (a : ListArg α) (f : List α → Verdict) : Verdict :=
  match a.items with
  | some xs => f xs
  | none => .listError a.addr

end Sys2Proof.Machine
end

