-- ==== Sys2Proof/Machine/BufOps.lean ====
section
/-!
DEFINITION. BufOps.lean: pools, requester classes, allocation, ownership, the deep tier's meters and placement, the
dead-letter queue (06 R192-R220; 09 R292-R297).
-/

namespace Sys2Proof.Machine

/-! ## The HBM controller's records -/

/-- A pseudo-channel. -/
def State.pch (s : State) (c : Nat) : Pch := nget {} s.hbm.pchs c
/-- Write a pseudo-channel. -/
def State.setPch (s : State) (c : Nat) (v : Pch) : State := { s with hbm := { s.hbm with pchs := nset {} c v s.hbm.pchs } }
/-- A stack. -/
def State.stack (s : State) (i : Nat) : Stack := nget {} s.hbm.hbmStacks i
/-- Write a stack. -/
def State.setStack (s : State) (i : Nat) (v : Stack) : State :=
  { s with hbm := { s.hbm with hbmStacks := nset {} i v s.hbm.hbmStacks } }
/-- Pseudo-channels of a stack: 64i to 64i + 63 (09 R292). -/
def stackPchs (i : Nat) : List Nat := (List.range 64).map (· + 64 * i)

/-- A stack's share meter now: 128 KiB, filling at 12 Tb/s, 1,500 bytes a ns (09 R295). -/
def State.stackMeter (s : State) (i : Nat) : Int :=
  let v := s.stack i
  min 131072 (v.meter + 1500 * Int.ofNat (s.up - v.meterAt))
/-- The deep-tier ceiling in bytes a ns: 12 Tb/s for each enabled stack (01 R34, R36; 09 R312). -/
def State.deepRate (s : State) : Nat :=
  1500 * ((List.range s.variant.hbmStacks).filter fun i => (s.stack i).enabled).length
/-- The deep meter now (06 R211). -/
def State.deepMeter (s : State) : Int :=
  min 1048576 (s.buffers.deepMeter + Int.ofNat (s.deepRate * (s.up - s.buffers.deepAt)))

/-- Debit both meters by bytes moved in a stack: packets, descriptor blocks and metadata alike (06 R211, 09 R295). -/
def State.debitDeep (s : State) (i bytes : Nat) (write : Bool) : State :=
  let m := s.stackMeter i - bytes
  let d := s.deepMeter - bytes
  let s := s.setStack i { s.stack i with meter := m, meterAt := s.up }
  let s := { s with buffers := { s.buffers with deepMeter := d, deepAt := s.up } }
  if write then s.bump .deepWriteBytes 0 0 bytes else s.bump .deepReadBytes 0 0 bytes

/-- Queue a request on a pseudo-channel, waiting when its queue of 32 is full (09 R296). -/
def State.request (s : State) (c : Nat) (r : Request) : State :=
  let v := s.pch c
  let r := { r with ord := v.seq }
  let v := { v with seq := v.seq + 1 }
  let full : Bool := if r.write then 32 ≤ v.writes.length else 32 ≤ v.reads.length
  let v := if full then { v with blocked := v.blocked ++ [r] }
    else if r.write then { v with writes := v.writes ++ [r] } else { v with reads := v.reads ++ [r] }
  s.setPch c v

/-- Queue an access as one request for each bank that it spans, the last of which ends it: consecutive kibibytes lie in
consecutive banks (09 R293; notes/assumptions/138.md). `n` bounds the requests; the longest access spans 10 banks. -/
def State.access (s : State) (c : Nat) (r : Request) : Nat → State
  | 0 => s
  | n + 1 =>
    let k := 1024 - r.addr % 1024
    if r.bytes ≤ k then s.request c r
    else (s.request c { r with bytes := k, whole := 0 }).access c { r with addr := r.addr + k, bytes := r.bytes - k } n

/-! ## Queues and their charges (06 R197, R209, R210) -/

/-- A queue. -/
def State.queue (s : State) (q : Nat) : Queue := nget {} s.queues.queues q
/-- Write a queue. -/
def State.setQueue (s : State) (q : Nat) (v : Queue) : State :=
  { s with queues := { s.queues with queues := nset {} q v s.queues.queues } }
/-- A queue number is an egress queue's (07 R225). -/
def isEgress (q : Nat) : Bool := decide (131072 ≤ q)

/-- Tier of a buffer: 0 shallow, 1 deep. -/
def bufTier : BufId → Nat
  | .shallow .. => 0 | .deep .. => 1

/-- Charge of a packet in a tier. -/
def Packet.charge (p : Packet) (tier : Nat) : Nat :=
  match p.placed with
  | some x => if bufTier x.buf = tier then x.size else 0
  | none => 0
/-- The packet under reassembly is linked to its queue by egress cut-through and still good (06 R222). -/
def Partial.linked (p : Partial) : Bool := p.packet.ct && !p.packet.poisoned
/-- Charge of a queue in a tier, with the packets admitted to it that are under reassembly. -/
def State.occTier (s : State) (q tier : Nat) : Nat :=
  (s.queue q).packets.foldl (fun n p => n + p.charge tier) 0 +
  s.fabric.rx.foldl (fun n e => match e.2.open_ with
    | some p => if p.linked then n
      else p.admitted.foldl (fun n a => if a.1 = q ∧ bufTier a.2.buf = tier then n + a.2.size else n) n
    | none => n) 0
/-- Charge of a queue in both tiers. -/
def State.occ (s : State) (q : Nat) : Nat := s.occTier q 0 + s.occTier q 1

/-- A queue that holds no deep-tier buffer is SHALLOW again (06 R210). -/
def State.unspill (s : State) (q : Nat) : State :=
  if (s.queue q).spilled && decide (s.occTier q 1 = 0) then s.setQueue q { s.queue q with spilled := false } else s

/-! ## Pools -/

/-- Buffer size of a pool (06 R192). -/
def poolSize (p : Nat) : Nat := if p = 0 then 256 else if p = 1 then 640 else if p = 2 then 2048 else 10240
/-- Smallest-fit pool of a frame length (06 R192). -/
def smallestFit (len : Nat) : Nat :=
  if len + 32 ≤ 256 then 0 else if len + 32 ≤ 640 then 1 else if len + 32 ≤ 2048 then 2 else 3
/-- Pool of a granule under the default split (06 R193). -/
def granuleDefault (g : Nat) : Nat := if g < 48 then 0 else if g < 112 then 1 else if g < 160 then 2 else 3
/-- Pool of a granule. -/
def State.granule (s : State) (g : Nat) : Nat := nget (granuleDefault g) s.buffers.granules g
/-- Set a granule's pool. -/
def State.setGranule (s : State) (g p : Nat) : State :=
  { s with buffers := { s.buffers with granules := nset (granuleDefault g) g p s.buffers.granules } }
/-- Buffers of a granule in a pool: 640 KiB over the buffer size (06 R193). -/
def granuleBufs (p : Nat) : Nat := 655360 / poolSize p
/-- Packet buffers of a pool in one pseudo-channel (06 R195). -/
def deepBufs (p : Nat) : Nat := if p = 0 then 159744 else if p = 1 then 131072 else if p = 2 then 65536 else 32768

/-- Pool of a buffer. -/
def State.poolOf (s : State) : BufId → Nat
  | .shallow g _ => s.granule g
  | .deep _ p _ => p

/-- Ownership record of a buffer. -/
def State.ownerOf (s : State) (b : BufId) : Option OwnerRec := afind s.buffers.owners b

/-- Lowest index below a bound that is not in a list. -/
def lowestFree (used : List Nat) (cap : Nat) : Option Nat :=
  ((List.range (used.length + 1)).find? fun i => i ∉ used).bind fun i => if i < cap then some i else none

/-- Indices in use of a granule. -/
def State.granuleUsed (s : State) (g : Nat) : List Nat :=
  s.buffers.owners.filterMap fun e => match e.1 with
    | .shallow h i => if h.val = g then some i.toNat else none
    | .deep .. => none

/-- A free shallow buffer of a pool; picked granules give none (06 R194). The lowest is taken
(notes/assumptions/36.md). -/
def State.freeShallow (s : State) (p : Nat) : Option BufId :=
  (List.range 288).findSome? fun g =>
    if s.granule g = p ∧ nfind s.buffers.moving g = none then
      (lowestFree (s.granuleUsed g) (granuleBufs p)).map fun i => .shallow (Fin.ofNat 288 g) (BitVec.ofNat 12 i)
    else none

/-- Indices in use or out of use of a pool of a pseudo-channel. -/
def State.deepUsed (s : State) (c p : Nat) : List Nat :=
  (s.buffers.owners.map (·.1) ++ s.buffers.outOfUse).filterMap fun b => match b with
    | .deep d q i => if d.val = c ∧ q.val = p then some i.toNat else none
    | .shallow .. => none

/-- A free packet buffer of a pool of a pseudo-channel. -/
def State.freeDeep (s : State) (c p : Nat) : Option BufId :=
  (lowestFree (s.deepUsed c p) (deepBufs p)).map fun i =>
    .deep (Fin.ofNat 512 c) (Fin.ofNat 4 p) (BitVec.ofNat 18 i)

/-! ## Requester classes (06 R196, R197) -/

/-- Default reserves and limits (06 R196). -/
def classDefault (k : Nat) : BufClass :=
  let m := 1048576
  if k ≤ 1 then ⟨24 * m, 150 * m, 0, 192 * 1024 * m⟩
  else if k = 2 then ⟨0, 16 * m, 0, 8 * 1024 * m⟩
  else if k = 3 then ⟨2 * m, 8 * m, 0, 0⟩
  else ⟨0, 4 * m, 0, 0⟩
/-- Reserves and limits of a class. -/
def State.bufClass (s : State) (k : Nat) : BufClass := nget (classDefault k) s.buffers.classes k
/-- Reserve of a class in a tier. -/
def BufClass.reserve (v : BufClass) (tier : Nat) : Nat := if tier = 0 then v.shallowReserve else v.deepReserve
/-- Limit of a class in a tier. -/
def BufClass.limit (v : BufClass) (tier : Nat) : Nat := if tier = 0 then v.shallowLimit else v.deepLimit

/-- Bytes charged to a class in a tier (06 R197). -/
def State.classUse (s : State) (tier k : Nat) : Nat :=
  s.buffers.owners.foldl (fun n e => if bufTier e.1 = tier ∧ e.2.cls = k then n + e.2.size else n) 0
/-- Bytes charged in a tier. -/
def State.tierUse (s : State) (tier : Nat) : Nat :=
  s.buffers.owners.foldl (fun n e => if bufTier e.1 = tier then n + e.2.size else n) 0
/-- Pool space of a tier: 180 MiB, or 568 MiB for each pseudo-channel in service (06 R193, R195). -/
def State.tierSpace (s : State) (tier : Nat) : Nat :=
  if tier = 0 then 180 * 1048576
  else 568 * 1048576 * ((List.range (64 * s.variant.hbmStacks)).filter fun c =>
    (s.pch c).st ≠ .failed ∧ (s.pch c).st ≠ .training).length
/-- Unused reserves of the classes other than k (06 R197). -/
def State.otherReserves (s : State) (tier k : Nat) : Nat :=
  ([0, 1, 2, 3, 4].filter (· ≠ k)).foldl (fun n j => n + ((s.bufClass j).reserve tier - s.classUse tier j)) 0
/-- Shared space a class may draw on in a tier (06 R197), before its limit. -/
def State.sharedFree (s : State) (tier k : Nat) : Nat :=
  s.tierSpace tier - s.tierUse tier - s.otherReserves tier k
/-- Shared space cut so that k stays within its limit (06 R209): what it may still take. -/
def State.shared (s : State) (tier k : Nat) : Nat :=
  min (s.sharedFree tier k) ((s.bufClass k).limit tier - s.classUse tier k)
/-- A class may take s more bytes in a tier (06 R197). -/
def State.mayTake (s : State) (tier k size : Nat) : Bool :=
  let use := s.classUse tier k
  decide (use + size ≤ (s.bufClass k).limit tier) &&
    (decide (use < (s.bufClass k).reserve tier) || decide (size ≤ s.sharedFree tier k))

/-! ## Placement in the deep tier (09 R295) -/

/-- Requests queued on a pseudo-channel. -/
def Pch.load (v : Pch) : Nat := v.reads.length + v.writes.length + v.blocked.length

/-- OPEN pseudo-channels of a stack with a free buffer of the kind wanted. -/
def State.openPchs (s : State) (i : Nat) (free : Nat → Bool) : List Nat :=
  (stackPchs i).filter fun c => (s.pch c).st = .open_ ∧ free c

/-- Candidate stacks (09 R295 step 1). -/
def State.candStacks (s : State) (free : Nat → Bool) : List Nat :=
  (List.range s.variant.hbmStacks).filter fun i =>
    let v := s.stack i
    v.enabled && v.active && decide (0 ≤ s.stackMeter i) && !(s.openPchs i free).isEmpty

/-- The element with the greatest measure, the earliest on a tie. -/
def bestBy {α : Type} (f : α → Int) : List α → Option α
  | [] => none
  | x :: xs => some (xs.foldl (fun b y => if f b < f y then y else b) x)

/-- Round-robin choice: the elements after a pointer come first. -/
def afterPtr (ptr : Nat) (l : List Nat) : List Nat := (l.filter fun x => ptr < x) ++ l.filter fun x => x ≤ ptr

/-- Stack and pseudo-channel for a deep write of a packet or a descriptor block (09 R295 steps 2-4): `free` says which
pseudo-channels have a free buffer of the kind wanted. -/
def State.placeIn (s : State) (free : Nat → Bool) : Option (Nat × Nat) :=
  let cands := s.candStacks free
  let awake := cands.filter fun i => ¬ (s.stack i).asleep
  let i? := if awake = [] then cands.head? else bestBy s.stackMeter awake
  i?.bind fun i =>
    let ptr := (s.stack i).rr + 64 * i
    (bestBy (fun c => - Int.ofNat (s.pch c).load) (afterPtr ptr (s.openPchs i free))).map fun c => (i, c)

/-- Placement of a packet of a pool, but for pseudo-channels lost in a race: pairs of pool and pseudo-channel (06 R199;
09 R311). -/
def State.place (s : State) (p : Nat) (bar : List (Nat × Nat) := []) : Option (Nat × Nat) :=
  s.placeIn fun c => (s.freeDeep c p).isSome && !bar.contains (p, c)

/-- The pool's first in a list for which placement succeeds. -/
def State.placeFit (s : State) (k : Nat) (pools : List Nat) (bar : List (Nat × Nat) := []) : Option (Nat × Nat × Nat) :=
  pools.findSome? fun p => if s.mayTake 1 k (poolSize p) then (s.place p bar).map fun x => (p, x.1, x.2) else none

/-- Bytes in the write-behind area (06 R213). -/
def State.wbUse (s : State) : Nat := s.buffers.writeBehind.foldl (fun n e => n + e.2) 0

/-- deep_ok of R209. -/
def State.deepOk (s : State) (len size k : Nat) : Bool :=
  decide (0 ≤ s.deepMeter) && decide (s.wbUse + len + 32 ≤ 12 * 1048576) && s.mayTake 1 k size &&
    ((List.range 4).filter fun p => smallestFit len ≤ p).any fun p => (s.place p).isSome

/-! ## Taking, moving and freeing buffers -/

/-- Place of a deep buffer among the 393,216 of its pseudo-channel, in pool order. -/
def deepIndex (p i : Nat) : Nat := i + (if p = 0 then 0 else if p = 1 then 163840 else if p = 2 then 294912 else 360448)
/-- Byte address of a deep buffer's ownership record (09 R294): 393,216 records, in pool order. -/
def recordAddr (p i : Nat) : Nat := 0x23800000 + 4 * deepIndex p i
/-- Byte address of a deep buffer's free-list word (09 R294): one for each buffer, in the order of the records
(notes/assumptions/137.md). -/
def freeWordAddr (p i : Nat) : Nat := 0x23980000 + 4 * deepIndex p i

/-- META moves a word of 4 bytes of a deep buffer's metadata: metered and queued (06 R200; 09 R295, R296). -/
def State.metaAccess (s : State) (b : BufId) (addr : Nat → Nat → Nat) (write : Bool) : State :=
  match b with
  | .shallow .. => s
  | .deep c p i => (s.debitDeep (c.val / 64) 4 write).request c.val {
      who := .metaReq, write := write, addr := addr p.val i.toNat, bytes := 4, at_ := s.up, whole := 4, buf := some b }

/-- Key of a deep buffer's list in the free-list cache. -/
def freeKey (c p : Nat) : Nat := 4 * c + p

/-- A deep buffer's word leaves its free list (`take`) or joins it: in the cache, or by META when the cache of 1,024
entries is empty or full (06 R204; 09 R294; notes/assumptions/137.md). -/
def State.freeList (s : State) (b : BufId) (take : Bool) : State :=
  match b with
  | .shallow .. => s
  | .deep c p _ =>
    let key := freeKey c.val p.val
    let n := nget 0 s.buffers.freeCache key
    let set (s : State) (n : Nat) : State := { s with buffers := { s.buffers with freeCache := nset 0 key n s.buffers.freeCache } }
    if take then (if n = 0 then s.metaAccess b freeWordAddr false else set s (n - 1))
    else if 1024 ≤ n then s.metaAccess b freeWordAddr true else set s (n + 1)

/-- Record an owner. -/
def State.own (s : State) (b : BufId) (r : OwnerRec) : State :=
  State.metaAccess { s with buffers := { s.buffers with owners := aput b r s.buffers.owners } } b recordAddr true

/-- Allocate a free buffer to an owner (06 R200, R204). -/
def State.allot (s : State) (b : BufId) (r : OwnerRec) : State := (s.freeList b true).own b r

/-- Move a buffer to another owner (06 R201). -/
def State.moveOwner (s : State) (b : BufId) (o : Owner) : State :=
  match s.ownerOf b with
  | some r => s.own b { r with owner := o }
  | none => s

/-- A picked granule whose buffers are all free changes pool; with the last one the letter's receipt goes
(06 R194). -/
def State.moveGranules (s : State) : State :=
  let done := s.buffers.moving.filter fun e => (s.granuleUsed e.1).isEmpty
  if done = [] then s
  else
    let left := s.buffers.moving.filter fun e => e ∉ done
    let s := done.foldl (fun s e => s.setGranule e.1 e.2) s
    let l := s.buffers.poolsLetter
    if left = [] then State.release? { s with buffers := { s.buffers with moving := [], poolsLetter := none } } l
    else { s with buffers := { s.buffers with moving := left } }

/-- Give a buffer up: its record is read and becomes free, its word joins the free list, and a granule may move
(06 R194, R202, R204). -/
def State.freeBuf (s : State) (b : BufId) : State :=
  let s : State := { s with buffers := { s.buffers with owners := aerase b s.buffers.owners } }
  (((s.metaAccess b recordAddr false).metaAccess b recordAddr true).freeList b false).moveGranules

/-- An owner as the ownership record holds it: type in bits 31:28, id in bits 19:0 (06 R200). -/
def ownerCode : Owner → Nat
  | .queue q => 1 * 2 ^ 28 + q.toNat
  | .reassembly c => 2 * 2 ^ 28 + c.toNat
  | .mirror i => 3 * 2 ^ 28 + i.toNat
  | .dlq => 4 * 2 ^ 28
  | .courier c => 5 * 2 ^ 28 + c.val
  | .block q => 6 * 2 ^ 28 + q.toNat

/-- A buffer as fault records name it: its number, and tier, pool and pseudo-channel (notes/assumptions/53.md). -/
def State.bufCode (s : State) (b : BufId) : Nat × Nat :=
  match b with
  | .shallow g i => (g.val * 4096 + i.toNat, s.poolOf b * 2)
  | .deep c p i => (i.toNat, 1 + p.val * 2 + c.val * 8)

/-- A free of a buffer that is free already is ignored, counted and raised (06 R202). -/
def State.doubleFree (s : State) (b : BufId) (agent : Owner) : State :=
  let c := s.bufCode b
  (s.bump .bufDoubleFree).raise 0x0601 c.1 c.2 (ownerCode agent)

/-- A free by another agent than the owner is ignored, counted and raised (06 R203). -/
def State.foreignFree (s : State) (b : BufId) (r : OwnerRec) (agent : Owner) : State :=
  let c := s.bufCode b
  let rec_ := ownerCode r.owner + r.cls * 2 ^ 25
  (s.bump .bufForeignFree).raise 0x0602 c.1 (c.2 + rec_ * 2 ^ 32) (ownerCode agent)

/-- An agent frees a buffer: only its owner's free is done (06 R202, R203). -/
def State.freeAs (s : State) (b : BufId) (agent : Owner) : State :=
  match s.ownerOf b with
  | none => s.doubleFree b agent
  | some r => if r.owner = agent then s.freeBuf b else s.foreignFree b r agent

/-- A queue as owner or agent. -/
def ofQueue (q : Nat) : Owner := .queue (BitVec.ofNat 19 q)

/-- Change the packet under reassembly, linked by cut-through, that lies in a buffer. -/
def State.onLinked (s : State) (b : BufId) (f : Partial → Partial) : State :=
  let g (r : RxStream) : RxStream := match r.open_ with
    | some p => if p.packet.ct ∧ p.admitted.any fun a => a.2.buf = b then { r with open_ := some (f p) } else r
    | none => r
  { s with fabric := { s.fabric with rx := s.fabric.rx.map fun e => (e.1, g e.2) } }

/-- The packet under reassembly after it went bad: what arrives of it is discarded (06 R222). -/
def Partial.bad (p : Partial) : Partial := { p with packet := { p.packet with poisoned := true } }

/-- A packet lies in an egress queue before it is whole (06 R222, R223). -/
def Packet.early (p : Packet) : Bool := !p.whole && decide (131072 ≤ p.queue)

/-- Free a packet's buffer, when it holds one (06 R202). A cut-through packet that leaves its egress queue before it is
whole keeps its buffer until reassembly ends, and what still arrives of it is discarded (06 R222). -/
def State.freePacket (s : State) (p : Packet) (agent : Owner) : State :=
  match p.placed with
  | some x => if p.early then s.onLinked x.buf Partial.bad else s.freeAs x.buf agent
  | none => s

/-- Where a deep write of a packet goes: debited, in the write-behind area, its write queued (06 R211, R213;
09 R295). -/
def State.deepWrite (s : State) (i c : Nat) (b : BufId) (bytes addr : Nat) : State :=
  let s := s.debitDeep i bytes true
  let s := s.setStack i { s.stack i with rr := c - 64 * i }
  let s := { s with buffers := { s.buffers with writeBehind := s.buffers.writeBehind ++ [(c, bytes)] } }
  let s := s.peak .writeBehindPeak s.wbUse
  let s := { s with buffers := { s.buffers with writeBehindPeak := max s.buffers.writeBehindPeak s.wbUse } }
  s.access c { who := .wb, write := true, addr := addr, bytes := bytes, whole := bytes, at_ := s.up, buf := some b } 11

/-- Byte address of a deep buffer in its pseudo-channel (09 R294). -/
def deepAddr (p i : Nat) : Nat :=
  (if p = 0 then 0 else if p = 1 then 0x02800000 else if p = 2 then 0x07800000 else 0x0F800000) + i * poolSize p

/-- A buffer of a pool of a tier that a class may take now. -/
def State.pick (s : State) (tier p k : Nat) : Option BufId :=
  if s.mayTake tier k (poolSize p) then
    if tier = 0 then s.freeShallow p else (s.place p).bind fun x => s.freeDeep x.2 p
  else none

/-- Pseudo-channel of a deep buffer. -/
def bufPch : BufId → Nat
  | .deep c _ _ => c.val
  | .shallow .. => 0

/-- A buffer is the last free one of its pool: of the shallow tier, or of its pseudo-channel (06 R199; 09 R311). -/
def State.isLast (s : State) (p k : Nat) (b : BufId) : Bool :=
  let t : State := { s with buffers := { s.buffers with owners := aput b ⟨.dlq, k, poolSize p⟩ s.buffers.owners } }
  if bufTier b = 0 then (t.freeShallow p).isNone else (t.freeDeep (bufPch b) p).isNone

/-- Other classes that want the same last buffer of a pool in this Depot cycle (06 R199). -/
def State.rivalsOf (s : State) (tier p k : Nat) : List Nat :=
  ((s.buffers.rivals.filter fun r => r.tier.val = tier ∧ r.pool.val = p).map fun r => r.cls.val).filter (· ≠ k)

/-- The class first at or after the priority pointer, in the order 0, 1, 2, 3, 4, 0 (06 R199). -/
def raceWinner (ptr : Nat) (classes : List Nat) : Nat :=
  (((List.range 5).map fun i => (ptr + i) % 5).find? fun c => classes.contains c).getD ptr

/-- Depot cycles since power-on: 1.8 GHz (01, the two dies). -/
def State.depotCycle (s : State) : Nat := s.up * 9 / 5

/-- A rival has won a pool's race in this Depot cycle. -/
def State.beaten (s : State) (key : Nat) (rivals : List Nat) : Bool :=
  s.buffers.races.any fun r => decide (r.1 = s.depotCycle ∧ r.2.1 = key) && rivals.contains r.2.2

/-- A class wins the race for a pool's last buffer, and the pointer moves past it (06 R199). -/
def State.winRace (s : State) (key k : Nat) : State :=
  { s with buffers := { s.buffers with
    pointers := nset 0 key ((k + 1) % 5) s.buffers.pointers
    races := (s.buffers.races.filter fun r => r.1 = s.depotCycle) ++ [(s.depotCycle, key, k)] } }

/-- The races of a request of class k for the last buffers of some pools, smallest first: those it lost, each counted, as
pairs of pool and pseudo-channel that it may not take; the pool that it won has its pointer moved on. In the deep tier a
loser is placed anew before it goes on to the next larger pool (06 R199; 09 R311). -/
def State.settleRaces (tier k : Nat) : List Nat → State → State × List (Nat × Nat)
  | [], s => (s, [])
  | p :: ps, s =>
    let key := 4 * tier + p
    let rivals := s.rivalsOf tier p k
    let past := s.beaten key rivals && s.mayTake tier k (poolSize p)
    let s := if past then s.bump .bufRaceLost key else s
    match s.pick tier p k with
    | none => State.settleRaces tier k ps s
    | some b =>
      if rivals.isEmpty || past || !s.isLast p k b then (s, [])
      else if raceWinner (nget 0 s.buffers.pointers key) (k :: rivals) = k then (s.winRace key k, [])
      else
        let s := s.bump .bufRaceLost key
        let lost := (p, bufPch b)
        if tier = 1 ∧ (s.place p [lost]).isSome then (s, [lost])
        else
          let (t, bar) := State.settleRaces tier k ps s
          (t, lost :: bar)

/-- What a request has lost to rivals of the same Depot cycle (06 R199). -/
def State.race (s : State) (tier k len : Nat) : State × List (Nat × Nat) :=
  if s.buffers.rivals = [] then (s, [])
  else State.settleRaces tier k ((List.range 4).filter fun p => smallestFit len ≤ p) s

/-- Serve a request that rivals contend with (06 R199). -/
def State.contest (s : State) (rivals : List Rival) (f : State → State) : State :=
  if rivals = [] then f s
  else
    let t := f { s with buffers := { s.buffers with rivals := rivals } }
    { t with buffers := { t.buffers with rivals := [] } }

/-- Take a buffer in a tier from the smallest fit upward (06 R198), for a class and an owner; what a race has lost is
passed over. -/
def State.take (s : State) (tier k len : Nat) (o : Owner) (bar : List (Nat × Nat) := []) : Option (Placed × State) :=
  let fit := smallestFit len
  let pools := (List.range 4).filter fun p => fit ≤ p ∧ (tier = 1 ∨ (p, 0) ∉ bar)
  let note (s : State) (p : Nat) : State :=
    let s := s.bump .bufAlloc (4 * tier + p)
    if p = fit then s else s.bump .bufFallback (4 * tier + p)
  if tier = 0 then
    (pools.findSome? fun p => if s.mayTake 0 k (poolSize p) then (s.freeShallow p).map fun b => (p, b) else none).map
      fun (p, b) => (⟨b, poolSize p, k⟩, note (s.allot b ⟨o, k, poolSize p⟩) p)
  else
    match s.placeFit k pools bar with
    | none => none
    | some (p, i, c) =>
      (s.freeDeep c p).map fun b =>
        let idx := match b with | .deep _ _ j => j.toNat | .shallow .. => 0
        let s := note (s.allot b ⟨o, k, poolSize p⟩) p
        (⟨b, poolSize p, k⟩, s.deepWrite i c b (len + 32) (deepAddr p idx))

/-! ## Descriptors and descriptor blocks (06 R195, R204-R207) -/

/-- A packet's descriptor (06 R205): bits 95 to 0, which a descriptor block holds, its `next` reserved. -/
def Packet.descriptor (s : State) (p : Packet) : BitVec 128 :=
  let x : Placed := p.placed.getD ⟨.shallow 0 0#12, 0, 0⟩
  let place := match x.buf with
    | .shallow g i => (0, 0, g.val * 2560 + i.toNat)
    | .deep c _ i => (1, c.val, i.toNat)
  BitVec.ofNat 128 (p.arrival.toNat * 2 ^ 64 + p.len * 2 ^ 50 + s.poolOf x.buf * 2 ^ 48 + place.1 * 2 ^ 47 +
    place.2.1 * 2 ^ 38 + place.2.2 * 2 ^ 18 + p.colour * 2 ^ 16 + p.cls * 2 ^ 13 + b2n p.poisoned * 2 ^ 12 +
    b2n p.ct * 2 ^ 11 + b2n p.copy * 2 ^ 10 + x.cls * 2 ^ 7)

/-- `check` of a descriptor block: CRC-32C over its bytes 16 to 255 (06 R206). -/
def DescBlock.check (b : DescBlock) : Nat :=
  let bs := b.descs.flatMap fun d => leBytes d.toNat 16
  crc32c 0xFFFFFFFF (bs ++ List.replicate (240 - bs.length) 0#8)

/-- Header of a descriptor block that another follows, or none (06 R206). -/
def DescBlock.headerOf (b : DescBlock) (next : Option BufId) : BitVec 128 :=
  let n := match next with
    | some (.deep c _ i) => c.val * 2 ^ 55 + i.toNat * 2 ^ 37 + 2 ^ 36
    | _ => 0
  BitVec.ofNat 128 (n + b.descs.length * 2 ^ 32 + b.check)

/-- Lists kept in descriptor blocks, beyond the queue numbers: the host queue of a channel, and the dead-letter queue
(notes/assumptions/123.md, 139.md). -/
def hostObject (c : Nat) : Nat := 524288 + c
/-- See `hostObject`. -/
def dlqObject : Nat := 524352

/-- Class that a list's descriptor blocks are charged to: that of the queue they serve (06 R195, R196). -/
def blockClass (q : Nat) : Nat := if q < 131072 then 0 else if q < 524288 then 1 else if q < dlqObject then 3 else 4

/-- A held-back buffer of a pseudo-channel that is free (06 R195). -/
def State.heldBack (s : State) (c : Nat) : Option BufId :=
  (lowestFree ((s.deepUsed c 0).filterMap fun i => if 159744 ≤ i then some (i - 159744) else none) 4096).map fun i =>
    .deep (Fin.ofNat 512 c) 0 (BitVec.ofNat 18 (159744 + i))

/-- A buffer for a new descriptor block, placed as every deep write is: held back, else an ordinary pool 0 buffer charged
to the class of the queue (06 R195; 09 R295). -/
def State.newBlock (s : State) (q : Nat) : Option (BufId × State) :=
  let k := blockClass q
  let get (x : Nat × Nat) (size : Nat) (b : BufId) : BufId × State :=
    let t := (s.allot b ⟨.block (BitVec.ofNat 20 q), k, size⟩).bump .bufAlloc 4
    (b, t.setStack x.1 { t.stack x.1 with rr := x.2 - 64 * x.1 })
  match s.placeIn fun c => (s.heldBack c).isSome with
  | some x => (s.heldBack x.2).map (get x 0)
  | none => (s.placeFit k [0]).bind fun x => (s.freeDeep x.2.2 0).map (get x.2 256)

/-- Byte address of a deep buffer (09 R294). -/
def bufAddr : BufId → Nat
  | .deep _ p i => deepAddr p.val i.toNat
  | .shallow .. => 0

/-- Move a descriptor block of 256 bytes to or from the deep tier: metered and queued (06 R211; 09 R296). -/
def State.moveBlock (s : State) (b : BufId) (write : Bool) : State :=
  let c := bufPch b
  let s := s.debitDeep (c / 64) 256 write
  s.request c { who := .desc, write := write, addr := bufAddr b, bytes := 256, whole := 256, at_ := s.up, buf := some b }

/-- Descriptor blocks of a list. -/
def State.blocksOf (s : State) (q : Nat) : List DescBlock := nget [] s.buffers.blocks q
/-- Write the descriptor blocks of a list; one that holds none leaves the cache. -/
def State.setBlocks (s : State) (q : Nat) (bs : List DescBlock) : State :=
  { s with buffers := { s.buffers with
    blocks := nset [] q bs s.buffers.blocks
    blockCache := if bs = [] then s.buffers.blockCache.filter (· ≠ q) else s.buffers.blockCache } }

/-- Write a list's tail block to the deep tier with its header (06 R206). -/
def State.writeTail (s : State) (q : Nat) (next : Option BufId) : State :=
  match (s.blocksOf q).getLast? with
  | some t => (s.setBlocks q ((s.blocksOf q).dropLast ++ [{ t with header := t.headerOf next }])).moveBlock t.buf true
  | none => s

/-- A list's head and tail blocks are in the descriptor-block cache: the blocks of one that is not there are read; the
list used least recently leaves a full cache, its tail block written (06 R204, R207; notes/assumptions/137.md). -/
def State.cacheBlocks (s : State) (q : Nat) : State :=
  let here := s.buffers.blockCache
  let put (s : State) : State :=
    { s with buffers := { s.buffers with blockCache := (s.buffers.blockCache.filter (· ≠ q)) ++ [q] } }
  if here.contains q then put s
  else
    let s := match here with
      | old :: rest => if here.length < 65536 then s
          else State.writeTail { s with buffers := { s.buffers with blockCache := rest } } old none
      | [] => s
    put (match s.blocksOf q with
      | [] => s
      | [h] => s.moveBlock h.buf false
      | h :: rest => match rest.getLast? with
        | some t => (s.moveBlock h.buf false).moveBlock t.buf false
        | none => s.moveBlock h.buf false)

/-- Enter a deep packet's descriptor: the tail block takes up to 15; then it is written and a new one follows. With no
buffer for a new block anywhere the packet is linked without one (notes/assumptions/139.md). -/
def State.putDescriptor (s : State) (q : Nat) (p : Packet) : State :=
  if p.charge 1 = 0 then s
  else
    let d := p.descriptor s
    let s := s.cacheBlocks q
    let bs := s.blocksOf q
    match bs.getLast? with
    | some t =>
      if t.descs.length < 15 then s.setBlocks q (bs.dropLast ++ [{ t with descs := t.descs ++ [d], left := t.left + 1 }])
      else match s.newBlock q with
        | some (b, s) =>
          let s := s.writeTail q (some b)
          s.setBlocks q (s.blocksOf q ++ [{ buf := b, descs := [d], left := 1 }])
        | none => s
    | none => match s.newBlock q with
        | some (b, s) => s.setBlocks q [{ buf := b, descs := [d], left := 1 }]
        | none => s

/-- Take a deep packet's descriptor: a block whose descriptors are all taken is freed, and the next block, unless it is
the tail, is read as it becomes the head (06 R206, R207). -/
def State.takeDescriptor (s : State) (q : Nat) (p : Packet) : State :=
  if p.charge 1 = 0 then s
  else
    let s := s.cacheBlocks q
    match s.blocksOf q with
    | [] => s
    | h :: rest =>
      if h.left ≤ 1 then
        let s := (s.setBlocks q rest).freeAs h.buf (.block (BitVec.ofNat 20 q))
        match rest with
        | n :: _ :: _ => s.moveBlock n.buf false
        | _ => s
      else s.setBlocks q ({ h with left := h.left - 1 } :: rest)

/-! ## The dead-letter queue (06 R218-R220) -/

/-- Buffer space of the dead-letter queue's entries. -/
def State.dlqUse (s : State) : Nat :=
  s.buffers.dlq.foldl (fun n e => n + (e.packet.placed.map (·.size)).getD 0) 0

/-- The mask holds a cause. -/
def State.dlqTakes (s : State) (cause : Nat) : Bool := s.buffers.dlqMask.getLsbD cause

/-- Octets that the buffer held where a packet's own had not yet arrived: free values (notes/assumptions/140.md). -/
def State.freeOctets (s : State) (n : Nat) : List Byte × State :=
  ((List.range n).map fun i => (Config.freeValue (s.fresh + i)).setWidth 8, { s with fresh := s.fresh + n })

/-- A packet that leaves its queue before it is whole, as the dead-letter queue keeps it: reassembly gives its buffer up,
and what still arrives of it is discarded (06 R218, R222; notes/assumptions/140.md). -/
def State.wholeNow (s : State) (p : Packet) : Packet × State :=
  if p.early then
    let (bs, s) := s.freeOctets (p.len - 4 - p.data.length)
    let s := match p.placed with
      | some x => s.onLinked x.buf fun r => { r.bad with admitted := [] }
      | none => s
    ({ p with data := p.data ++ bs, whole := true }, s)
  else ({ p with whole := true }, s)

/-- Enter a packet that holds its buffer, given up by its owner; beyond the limit it is freed and counted in
`dlq_overflow` (06 R219). -/
def State.dlqEnter (s : State) (cause queue : Nat) (annotation : List Byte) (p : Packet) (agent : Owner) : State :=
  let size := (p.placed.map (·.size)).getD 0
  if s.dlqUse + size > s.buffers.dlqLimit then (s.freePacket p agent).bump .dlqOverflow
  else
    let (p, s) := s.wholeNow p
    let s := match p.placed with
      | some x => s.moveOwner x.buf .dlq
      | none => s
    let s := s.putDescriptor dlqObject p
    let e : DlqEntry := {
      packet := p, cause := cause, queue := queue, annotation := annotation
      seconds := BitVec.ofNat 32 s.sec, nanoseconds := BitVec.ofNat 32 s.nsec }
    { s with buffers := { s.buffers with dlq := s.buffers.dlq ++ [e] } }.bump .dlqIn 0 (cause - 1)

/-- Causes 3 and 5: a new buffer of class DEAD (06 R199, R218). -/
def State.dlqNew (s : State) (cause : Nat) (annotation : List Byte) (p : Packet) : State :=
  if ¬ s.dlqTakes cause then s
  else
    let (s, bar) := s.race 0 4 p.len
    match s.take 0 4 p.len .dlq bar with
    | some (x, s) => s.dlqEnter cause 0 annotation { p with placed := some x } .dlq
    | none => s.bump .dlqOverflow

end Sys2Proof.Machine
end

