-- ==== Sys2Proof/Machine/Cells.lean ====
section
/-!
DEFINITION. Cells.lean: the bytes of fabric cells as they are formed and read (02 R72; 08 R263-R266), and the line code
of a fabric link (08 R256).
-/

namespace Sys2Proof.Machine

/-! ## Headers and their check (08 R263) -/

/-- CRC-32C of a cell: of bytes 0-27 and 32-319. -/
def cellCrc (cell : List Byte) : Nat := crc32c 0xFFFFFFFF (bslice cell 0 28 ++ bslice cell 32 288)

/-- A cell of a 256-bit header, its `crc` bits zero as given, and a payload of up to 288 bytes. -/
def formCell (header : Nat) (payload : List Byte) : List Byte :=
  let bare := beBytes header 32 ++ bslice payload 0 288
  beBytes (header + cellCrc bare) 32 ++ bslice payload 0 288

/-- The header of a cell as one number. -/
def cellHead (cell : List Byte) : Nat := beNat (bslice cell 0 32)

/-- The `crc` of a cell is right. -/
def crcGood (cell : List Byte) : Bool := decide (cellHead cell % 2 ^ 32 = cellCrc cell)

/-- The `hold` of a cell. -/
def cellHold (cell : List Byte) : Bool := bit (cellHead cell) 251

/-- The `type` of a cell. -/
def cellType (cell : List Byte) : Nat := bits (cellHead cell) 255 252

/-- The `ctype` of a control cell. -/
def cellKind (cell : List Byte) : Nat := bits (cellHead cell) 227 224

/-- A well-formed control cell of a kind. -/
def isControl (kind : Nat) (cell : List Byte) : Bool := decide (cellType cell = 8) && decide (cellKind cell = kind)

/-- A cell that is malformed by its type or by RSV bits, those of a reach and an ident payload included (08 R263, R265);
the RSV fields of a postcard and of a credit message have outcomes of their own (02 R73; 08 R290). -/
def badHead (cell : List Byte) : Bool :=
  let h := cellHead cell
  let at_ (i : Nat) : Nat := (cell.getD i 0#8).toNat
  if cellType cell ≤ 2 then bit h 248 || decide (bits h 143 32 ≠ 0)
  else if cellType cell = 8 then
    decide (bits h 250 248 ≠ 0) || decide (bits h 232 228 ≠ 0) || decide (bits h 215 32 ≠ 0) ||
      (decide (cellKind cell = 4) && decide (16 ≤ at_ 34)) || (decide (cellKind cell = 5) && decide (128 ≤ at_ 32))
  else true

/-! ## Data cells (08 R263) -/

/-- A data cell as received. -/
def readCell (cell : List Byte) : Cell :=
  let h := cellHead cell
  { multicast := decide (cellType cell = 2), restart := bit h 250, poisoned := bit h 249
    src := Fin.ofNat 128 (bits h 247 241), dst := BitVec.ofNat 7 (bits h 240 234), seq := BitVec.ofNat 24 (bits h 233 210)
    epoch := BitVec.ofNat 16 (bits h 209 194), firstOff := BitVec.ofNat 9 (bits h 193 185)
    fill := BitVec.ofNat 9 (bits h 184 176), payload := bslice cell 32 288 }

/-- `first_off` of a data cell is out of range (08 R290). -/
def Cell.badOffset (c : Cell) : Bool := decide (272 < c.firstOff.toNat) && decide (c.firstOff.toNat ≠ 511)
/-- `fill` of a data cell is out of range (08 R290). -/
def Cell.badFill (c : Cell) : Bool := decide (c.fill.toNat < 1) || decide (288 < c.fill.toNat)

/-- The bytes of a data cell of a module, with the hold it carries. -/
def TxCell.bytes (c : TxCell) (me : Nat) (hold : Bool) : List Byte :=
  let mc : Bool := decide (c.stream = 128)
  formCell ((if mc then 2 else 1) * 2 ^ 252 + b2n hold * 2 ^ 251 + b2n c.restart * 2 ^ 250 + b2n c.poisoned * 2 ^ 249 +
    me * 2 ^ 241 + (if mc then 0 else c.stream) * 2 ^ 234 + c.seq * 2 ^ 210 + c.epoch.toNat * 2 ^ 194 +
    c.firstOff * 2 ^ 185 + c.payload.length * 2 ^ 176 + c.txNs.toNat * 2 ^ 144) c.payload

/-- The bytes of an idle cell (08 R263). -/
def idleCell (hold : Bool) : List Byte := formCell (b2n hold * 2 ^ 251) []

/-! ## Postcards (02 R72) -/

/-- The 64 bytes of a postcard. -/
def Postcard.bytes (p : Postcard) : List Byte :=
  [p.format, BitVec.ofNat 8 (p.src.val + 128 * b2n (!p.rsvOk))] ++ beBytes p.seq.toNat 2 ++ beBytes p.txSeconds.toNat 4 ++
  beBytes p.txNs.toNat 4 ++ beBytes p.epochCurrent.toNat 2 ++ beBytes p.epochPending.toNat 2 ++
  [BitVec.ofNat 8 (p.pendingState.toNat + 8 * b2n p.lag + 16 * b2n p.sequenced), BitVec.ofNat 8 p.timeState.toNat] ++
  beBytes p.timeError.toNat 2 ++ beBytes p.ucodeMin.toNat 4 ++ beBytes p.ucodeMax.toNat 4 ++ List.replicate 4 0#8 ++
  leBytes p.reachMap.toNat 16 ++ List.replicate 16 0#8

/-- The postcard in a control cell. -/
def readPostcard (cell : List Byte) : Postcard :=
  let f (off n : Nat) : Nat := beNat (bslice cell (32 + off) n)
  { format := BitVec.ofNat 8 (f 0 1), src := Fin.ofNat 128 (f 1 1), seq := BitVec.ofNat 16 (f 2 2)
    rsvOk := decide (f 1 1 < 128) && decide (f 16 1 < 32) && decide (f 17 1 < 4) && decide (f 28 4 = 0) && decide (f 48 16 = 0)
    txSeconds := BitVec.ofNat 32 (f 4 4), txNs := BitVec.ofNat 32 (f 8 4), epochCurrent := BitVec.ofNat 16 (f 12 2)
    epochPending := BitVec.ofNat 16 (f 14 2), pendingState := BitVec.ofNat 3 (f 16 1), lag := bit (f 16 1) 3
    sequenced := bit (f 16 1) 4, timeState := BitVec.ofNat 2 (f 17 1), timeError := BitVec.ofNat 16 (f 18 2)
    ucodeMin := BitVec.ofNat 32 (f 20 4), ucodeMax := BitVec.ofNat 32 (f 24 4)
    reachMap := BitVec.ofNat 128 (leNat (bslice cell 64 16)) }

/-! ## Other control cells (08 R265, R266) -/

/-- Header of a control cell: hold, source, destination, broadcast, kind and count. -/
def controlHead (hold : Bool) (src dst : Nat) (bcast : Bool) (kind count : Nat) : Nat :=
  8 * 2 ^ 252 + b2n hold * 2 ^ 251 + src * 2 ^ 241 + dst * 2 ^ 234 + b2n bcast * 2 ^ 233 + kind * 2 ^ 224 + count * 2 ^ 216

/-- The bytes of a control cell of a module, with the hold it carries. -/
def ControlCell.bytes (c : ControlCell) (me : Nat) (hold : Bool) : List Byte :=
  match c with
  | .postcard pc => formCell (controlHead hold me 0 true 1 0) pc.bytes
  | .credit dst msgs => formCell (controlHead hold me dst false 2 msgs.length) (msgs.flatMap fun m => beBytes m.toNat 16)
  | .ident module plane link => formCell (controlHead hold me 0 false 5 0)
      [BitVec.ofNat 8 module, BitVec.ofNat 8 plane, BitVec.ofNat 8 link]

/-- The payload of a reach cell. -/
def readReach (cell : List Byte) : ReachCell :=
  { element := BitVec.ofNat 16 (beNat (bslice cell 32 2)), plane := BitVec.ofNat 4 (beNat (bslice cell 34 1))
    port := cell.getD 35 0#8, map := BitVec.ofNat 128 (leNat (bslice cell 36 16)) }

/-- The source of a control cell. -/
def cellSrc (cell : List Byte) : Fin 128 := Fin.ofNat 128 (bits (cellHead cell) 247 241)
/-- The destination of a cell. -/
def cellDst (cell : List Byte) : Nat := bits (cellHead cell) 240 234

/-- A message of a credit cell, as one number; none beyond `count`, which is at most 18. -/
def creditMsg (cell : List Byte) (i : Nat) : Option Nat :=
  if isControl 2 cell ∧ i < min 18 (bits (cellHead cell) 223 216) then some (beNat (bslice cell (32 + 16 * i) 16)) else none

/-- A message of a credit cell of a given `mtype`. -/
def creditOf (mtype : Nat) (cell : List Byte) (i : Nat) : Option Nat := (creditMsg cell i).filter fun m => bits m 127 124 = mtype

/-- A REQUEST. -/
def readRequest (m : Nat) : RequestMsg :=
  { on := bit m 123, port := BitVec.ofNat 8 (bits m 122 115), cls := BitVec.ofNat 3 (bits m 114 112)
    voq := BitVec.ofNat 17 (bits m 111 95), reqSeq := BitVec.ofNat 16 (bits m 94 79), rsvOk := decide (bits m 78 0 = 0) }

/-- A GRANT. -/
def readGrant (m : Nat) : GrantMsg :=
  { port := BitVec.ofNat 8 (bits m 122 115), cls := BitVec.ofNat 3 (bits m 114 112), voq := BitVec.ofNat 17 (bits m 111 95)
    bytes := BitVec.ofNat 17 (bits m 78 62) }

/-! ## The line code (08 R256) -/

/-- Bits of bytes in the order sent, each byte least significant bit first. -/
def lineBits (bs : List Byte) : List Bool := bs.flatMap fun b => (List.range 8).map b.getLsbD

/-- One bit through the self-synchronising scrambler x^58 + x^39 + 1; the state holds the last 58 bits sent, the newest
least significant. -/
def scrambleBit (st : Nat) (b : Bool) : Nat × Bool :=
  let o := (b != st.testBit 38) != st.testBit 57
  ((2 * st + b2n o) % 2 ^ 58, o)

/-- Bits through the scrambler. -/
def scramble (st : Nat) : List Bool → Nat × List Bool
  | [] => (st, [])
  | b :: bs =>
    let x := scrambleBit st b
    let r := scramble x.1 bs
    (r.1, x.2 :: r.2)

/-- The ten data blocks of a cell slot: a type bit 0, then 256 scrambled bits. -/
def dataBlocks (st : Nat) : Nat → List Byte → Nat × List (List Bool)
  | 0, _ => (st, [])
  | n + 1, bs =>
    let x := scramble st (lineBits (bslice bs 0 32))
    let r := dataBlocks x.1 n (bs.drop 32)
    (r.1, (false :: x.2) :: r.2)

/-- One marker block of a lane: a type bit 1, then its 32 bytes as they are. -/
def markerBlock (lane : Nat) : List Bool :=
  true :: lineBits (List.replicate 30 0xC3#8 ++ [BitVec.ofNat 8 lane, BitVec.ofNat 8 (255 - lane)])

/-- The 20 marker blocks of a marker codeword. -/
def markerBlocks (lane : Nat) : List (List Bool) := List.replicate 20 (markerBlock lane)

end Sys2Proof.Machine
end

