-- ==== Sys2Proof/Machine/FabOps.lean ====
section
/-!
DEFINITION. FabOps.lean: links and streams of the fabric, reachability and the effective map (02 R75, R76; 08 R269,
R271), spraying and packing (08 R264, R267-R269), control cells and credit messages (08 R265, R266, R270), sparse
counters (15 R436).
-/

namespace Sys2Proof.Machine

/-! ## Sparse counters (15 R436) -/

/-- Key of a sparse counter: family code and object. -/
def sparseKey (fam obj : Nat) : Nat := 2 ^ 20 * fam + obj

/-- Advance a sparse counter, which takes an entry from its first event (15 R436). -/
def State.sparse (s : State) (fam obj : Nat) (n : Nat := 1) (sum : Nat := 0) : State :=
  match nfind s.tel.sparse (sparseKey fam obj) with
  | some a =>
    let b : Accum := ⟨(a.count + n) % 2 ^ 56, (a.sum + sum) % 2 ^ 72, some s.ns⟩
    { s with tel := { s.tel with sparse := nput (sparseKey fam obj) b s.tel.sparse } }
  | none =>
    if s.tel.sparse.length < 49152 then
      { s with tel := { s.tel with sparse := nput (sparseKey fam obj) ⟨n, sum, some s.ns⟩ s.tel.sparse } }
    else (s.bump .telSparseLost 0 (fam - 1)).condition 0x0F01 fam true

/-- Free the sparse entries of an object in a range of families; `FLT_TEL_SPARSE_FULL` ends as the store has room. -/
def State.sparseFree (s : State) (fams : List Nat) (obj : Nat) : State :=
  let keys := fams.map fun f => sparseKey f obj
  let s := { s with tel := { s.tel with sparse := s.tel.sparse.filter fun e => e.1 ∉ keys } }
  if s.tel.sparse.length < 49152 then
    (List.range 15).foldl (fun s i => s.clearFault 0x0F01 (i + 1)) s
  else s

/-! ## Peers, benches and maps -/

/-- The module's own ID, 0 before one is known (01 R21, 16 R472). -/
def State.myId (s : State) : Nat := (s.regs.moduleId.map (·.toNat)).getD 0
/-- A peer's record. -/
def State.peer (s : State) (d : Nat) : Peer := nget {} s.peers d
/-- Write a peer's record. -/
def State.setPeer (s : State) (d : Nat) (v : Peer) : State := { s with peers := nset {} d v s.peers }
/-- A bench's record. -/
def State.bench (s : State) (b : Nat) : Bench := nget {} s.clerks.benches b
/-- Write a bench's record. -/
def State.setBench (s : State) (b : Nat) (v : Bench) : State :=
  { s with clerks := { s.clerks with benches := nset {} b v s.clerks.benches } }

/-- A bench is live: enabled, neither draining nor reloading (04 R119); one that waits for another's reload still is. -/
def Bench.live (b : Bench) : Bool := b.st = .live || b.st = .waiting

/-- Versions that the postcard advertises, lowest and highest: of the live benches, else of the enabled ones, else
zero (02 R72). -/
def State.ucode (s : State) : Nat × Nat :=
  let all := (List.range s.variant.benches).map s.bench
  let live := all.filter Bench.live
  let set := if live = [] then all.filter (·.enabled) else live
  match set.map fun b => b.version.toNat with
  | [] => (0, 0)
  | v :: vs => (vs.foldl min v, vs.foldl max v)

/-- A range of versions lies inside the compatibility window (02 R77). -/
def State.compatible (s : State) (lo hi : Nat) : Bool :=
  decide (s.epoch.compatLow.toNat ≤ lo) && decide (hi ≤ s.epoch.compatHigh.toNat)

/-- Die-to-die links that are up. -/
def State.liveD2d (s : State) : List Nat := (List.range 4).filter fun i => (nget {} s.d2d.links i).up

/-- The module's own microcode lies outside its window (02 R75). -/
def State.selfIsolated (s : State) : Bool := !s.compatible s.ucode.1 s.ucode.2

/-- The module advertises an empty map (01 R29, 02 R75). -/
def State.emptyMap (s : State) : Bool := s.liveD2d.isEmpty || s.selfIsolated

/-- A fabric link. -/
def State.link (s : State) (i : Nat) : Link := nget {} s.fabric.links i
/-- Write a fabric link. -/
def State.setLink (s : State) (i : Nat) (v : Link) : State :=
  { s with fabric := { s.fabric with links := nset {} i v s.fabric.links } }
/-- Links of the variant that are UP. -/
def State.upLinks (s : State) : List Nat := (List.range s.variant.links).filter fun i => (s.link i).st = .up

/-- UP links that take new cells: none is being disabled (08 R262). -/
def State.openLinks (s : State) : List Nat := s.upLinks.filter fun i => (s.link i).disable.isNone

/-- The module's own bit for d (08 R271, 02 R76). -/
def State.ownBit (s : State) (d : Nat) : Bool := !s.emptyMap && s.upLinks.any fun i => (s.link i).map.getLsbD d

/-- The `reach_map` to advertise (02 R72). -/
def State.ownMap (s : State) : BitVec 128 :=
  BitVec.ofNat 128 ((List.range 128).foldl (fun n d => if s.ownBit d then n + 2 ^ d else n) 0)

/-- A peer's versions lie inside the window (02 R75). -/
def State.peerCompatible (s : State) (p : Peer) : Bool := s.compatible p.ucodeMin.toNat p.ucodeMax.toNat

/-- The effective bit for d as the four conditions of 02 R76 give it. -/
def State.effectiveNow (s : State) (d : Nat) : Bool :=
  let p := s.peer d
  s.ownBit d && p.map.getLsbD s.myId && p.present && s.peerCompatible p

/-- The effective bit for d in force. -/
def State.effective (s : State) (d : Nat) : Bool := (s.peer d).effective

/-! ## Streams -/

/-- Before its first restart the multicast stream is at `seq` 0 of a restart, that of start-up
(notes/assumptions/37.md). -/
def txInitial (d : Nat) : TxStream := { restartLeft := if d = 128 then 32768 else 0 }
/-- A transmit stream. -/
def State.txStream (s : State) (d : Nat) : TxStream := nget (txInitial d) s.fabric.tx d
/-- Write a transmit stream. -/
def State.setTx (s : State) (d : Nat) (v : TxStream) : State :=
  { s with fabric := { s.fabric with tx := nset (txInitial d) d v s.fabric.tx } }
/-- A receive stream, key 2 x source + multicast. -/
def State.rxStream (s : State) (k : Nat) : RxStream := nget {} s.fabric.rx k
/-- Write a receive stream. -/
def State.setRx (s : State) (k : Nat) (v : RxStream) : State :=
  { s with fabric := { s.fabric with rx := nset {} k v s.fabric.rx } }

/-- Cells held by the resequencing store. -/
def State.heldCells (s : State) : Nat := s.fabric.rx.foldl (fun n e => n + e.2.held.length) 0

/-- Set or clear the hold that the module sends, by the fill of its 48 MiB store (08 R282). -/
def State.updateHold (s : State) : State :=
  let use := s.heldCells * 320
  let on := if s.fabric.holdOut then decide (48 * 1048576 * 8 ≤ use * 10) else decide (48 * 1048576 * 9 < use * 10)
  if on = s.fabric.holdOut then s
  else
    let t := s.up - s.fabric.holdOutAt
    let s := if on then s else (List.range s.variant.links).foldl (fun s i => s.bump .fabHoldNs i 1 1 t) s
    { s with fabric := { s.fabric with holdOut := on, holdOutAt := s.up } }

/-- A packet lies in a buffer. -/
def Packet.inBuf (b : BufId) (p : Packet) : Bool := p.placed.map (·.buf) = some b

/-- A cut-through packet on its way out goes bad: its frame ends there, and its buffer stays with reassembly. -/
def Packet.goBad (b : BufId) (p : Packet) : Packet :=
  if p.inBuf b then { p with poisoned := true, whole := true, placed := none } else p

/-- An egress cut-through packet goes bad while it is reassembled (06 R222): one that the scheduler has not taken is
never sent; the frame of the other ends under 03 R85. Causes 0-3 are those of R222 in its order. One that was turned back
is a store-and-forward packet and no abort (06 R223). -/
def State.abortCt (s : State) (p : Partial) (cause : Nat) : State :=
  match p.admitted with
  | [] => s
  | (q, x) :: _ =>
    let v := nget {} s.queues.queues q
    let bad (r : Selected) : Selected := { r with packet := r.packet.goBad x.buf }
    let s := { s with queues := { s.queues with
      queues := nset {} q { v with packets := v.packets.filter fun r => !r.inBuf x.buf } s.queues.queues
      selected := s.queues.selected.map bad
      away := s.queues.away.map bad } }
    if p.back then s else s.bump .ctEgAborted p.packet.dstPort cause

/-- Owner of the buffers of a packet under reassembly: the queue that cut-through linked it to, else the context
(06 R201). -/
def Partial.owner (p : Partial) (k q : Nat) : Owner := if p.packet.ct then ofQueue q else .reassembly (BitVec.ofNat 20 k)

/-- Free the buffers of a packet that is no longer being reassembled; a queue that then holds none in the deep tier is
SHALLOW (06 R202, R210). -/
def State.freeAdmitted (s : State) (k : Nat) (p : Partial) : State :=
  p.admitted.foldl (fun s a => (s.freeAs a.2.buf (p.owner k a.1)).unspill a.1) s

/-- Drop a packet that is no longer being reassembled; one linked by cut-through runs dry (notes/assumptions/54.md). -/
def State.dropPartial (s : State) (k : Nat) (p : Partial) : State :=
  (if p.linked then s.abortCt p 3 else s).freeAdmitted k p

/-- Restart a receive stream (08 R274). -/
def State.restartRx (s : State) (k : Nat) : State :=
  let r := s.rxStream k
  let s := s.setRx k { restarted := true }
  (match r.open_ with
    | some p => s.dropPartial k p
    | none => s).updateHold

/-- Restart a transmit stream (08 R273); what the old stream had not sent is dropped (notes/assumptions/38.md). -/
def State.restartTx (s : State) (d : Nat) : State :=
  let s := s.setTx d { restartLeft := 32768, rr := (s.txStream d).rr }
  { s with fabric := { s.fabric with
      unplaced := s.fabric.unplaced.filter fun c => c.stream ≠ d
      links := s.fabric.links.map fun e => (e.1, { e.2 with waiting := e.2.waiting.filter fun c => c.stream ≠ d }) } }

/-! ## Control cells (08 R265, R270) -/

/-- The next link of a list after a pointer, in turn. -/
def nextAfter (ptr : Nat) (l : List Nat) : Option Nat := (afterPtr ptr l).head?

/-- A control cell waits on a link. -/
def State.queueControl (s : State) (i : Nat) (c : ControlCell) : State :=
  let v := s.link i
  s.setLink i { v with control := v.control ++ [c] }

/-- Send a control cell on the next UP link that takes new cells (08 R262, R270); without one it is lost. -/
def State.sendControl (s : State) (c : ControlCell) : State :=
  match nextAfter s.fabric.ctrlRr s.openLinks with
  | some i => { s with fabric := { s.fabric with ctrlRr := i } }.queueControl i c
  | none => s

/-- REQUEST message (08 R266). -/
def requestMsg (on : Bool) (port cls voq seq : Nat) : BitVec 128 :=
  BitVec.ofNat 128 (1 * 2 ^ 124 + b2n on * 2 ^ 123 + port * 2 ^ 115 + cls * 2 ^ 112 + voq * 2 ^ 95 + seq * 2 ^ 79)
/-- GRANT message (08 R266). -/
def grantMsg (port cls voq bytes : Nat) : BitVec 128 :=
  BitVec.ofNat 128 (2 * 2 ^ 124 + port * 2 ^ 115 + cls * 2 ^ 112 + voq * 2 ^ 95 + bytes * 2 ^ 62)
/-- LOSS_NOTICE message (08 R266). -/
def lossMsg (mc : Bool) : BitVec 128 := BitVec.ofNat 128 (3 * 2 ^ 124 + b2n mc * 2 ^ 61)

/-- Close the open credit cell of a destination and send it (08 R284). -/
def State.closeCredit (s : State) (d : Nat) : State :=
  match nfind s.fabric.credit d with
  | some (msgs, _) => { s with fabric := { s.fabric with credit := nerase d s.fabric.credit } }.sendControl (.credit d msgs)
  | none => s

/-- Put a grant into the credit cell of its destination, of up to 18 messages (08 R284). -/
def State.sendGrant (s : State) (d : Nat) (m : BitVec 128) : State :=
  let c := (nfind s.fabric.credit d).getD ([], s.up)
  let s := { s with fabric := { s.fabric with credit := nput d (c.1 ++ [m], c.2) s.fabric.credit } }
  if 18 ≤ c.1.length + 1 then s.closeCredit d else s

/-- Requests and loss notices leave in a cell of their own at once (notes/assumptions/39.md). -/
def State.sendMsg (s : State) (d : Nat) (m : BitVec 128) : State := s.sendControl (.credit d [m])

/-! ## Placing data cells (08 R269) -/

/-- A link is a candidate for a stream and its one waiting place is free (08 R262, R269). -/
def State.candidate (s : State) (stream i : Nat) : Bool :=
  let v := s.link i
  v.st = .up && !v.hold && v.disable.isNone && v.waiting.isEmpty &&
    (if stream = 128 then s.peers.any (fun e => e.2.effective) else v.map.getLsbD stream && s.effective stream)

/-- Place a closed cell on the candidate after the stream's pointer; none when there is no candidate. -/
def State.placeCell (s : State) (c : TxCell) : Option State :=
  let t := s.txStream c.stream
  (nextAfter t.rr ((List.range s.variant.links).filter (s.candidate c.stream))).map fun i =>
    let v := s.link i
    let s := s.setTx c.stream { t with rr := i }
    s.setLink i { v with
      waiting := v.waiting ++ [{ c with txNs := BitVec.ofNat 32 s.nsec }]
      placedAt := if c.stream = 128 then v.placedAt else nput c.stream s.up v.placedAt }

/-- Place the cells that wait for a candidate, in order; a stream's cells keep their order. -/
def State.placeCells (s : State) : State :=
  let go := s.fabric.unplaced.foldl (fun (acc : State × List TxCell) c =>
    if acc.2.any fun x => x.stream = c.stream then (acc.1, acc.2 ++ [c])
    else match acc.1.placeCell c with
      | some t => (t, acc.2)
      | none => (acc.1, acc.2 ++ [c])) (s, [])
  { go.1 with fabric := { go.1.fabric with unplaced := go.2 } }

/-- Close the open cell of a stream: it takes the next `seq` (08 R268, R273). -/
def State.closeCell (s : State) (stream : Nat) (poisoned : Bool := false) : State :=
  let t := s.txStream stream
  if t.payload = [] then s
  else
    let c : TxCell := {
      stream := stream, seq := t.seq, restart := decide (0 < t.restartLeft), poisoned := poisoned, epoch := t.epoch
      firstOff := t.firstOff.getD 511, payload := t.payload }
    let s := s.setTx stream { t with seq := (t.seq + 1) % 2 ^ 24, restartLeft := t.restartLeft - 1, payload := [], firstOff := none }
    State.placeCells { s with fabric := { s.fabric with unplaced := s.fabric.unplaced ++ [c] } }

/-- Pack bytes into a stream's cells of 288 bytes, closing each full one (08 R264, R268). -/
def State.packBytes (s : State) (stream : Nat) : Nat → List Byte → State
  | 0, _ => s
  | n + 1, bs =>
    match bs with
    | [] => s
    | _ =>
      let t := s.txStream stream
      let room := 288 - t.payload.length
      let s := s.setTx stream { t with
        payload := t.payload ++ bs.take room, openAt := if t.payload = [] then s.up else t.openAt }
      let s := if 288 ≤ t.payload.length + (bs.take room).length then s.closeCell stream else s
      s.packBytes stream n (bs.drop room)

/-- The 16-byte packet header (08 R264). -/
def packetHeader (p : Packet) (eq dstPort mgid : Nat) : List Byte :=
  beBytes (p.carried.toNat * 2 ^ 64 + eq * 2 ^ 45 + p.len * 2 ^ 31 + dstPort * 2 ^ 23 + p.cls * 2 ^ 20 +
    p.colour * 2 ^ 18 + mgid) 16

/-- Open a packet in its stream (08 R267, R268): after a packet of another epoch the cell is closed. -/
def State.openPacket (s : State) (stream : Nat) (p : Packet) : State :=
  let t := s.txStream stream
  let s := if t.payload ≠ [] ∧ t.epoch ≠ p.epoch then s.closeCell stream else s
  let t := s.txStream stream
  s.setTx stream { t with epoch := p.epoch, firstOff := some (t.firstOff.getD t.payload.length) }

/-- Place the first bytes of a cut-through packet of a VOQ (06 R221): its stream takes nothing else before its end. -/
def State.packFirst (s : State) (stream q : Nat) (p : Packet) (bytes : List Byte) : State :=
  let s := (s.openPacket stream p).packBytes stream (bytes.length / 288 + 2) bytes
  s.setTx stream { s.txStream stream with cut := some q }

/-- Place the last bytes of a cut-through packet: the cell that ends it is closed, poisoned when the packet went bad
(06 R221; 08 R268). -/
def State.packLast (s : State) (stream : Nat) (p : Packet) (bytes : List Byte) : State :=
  let s := s.packBytes stream (bytes.length / 288 + 2) (bytes.take (bytes.length - 1))
  let t := s.txStream stream
  let s := s.setTx stream { t with payload := t.payload ++ bytes.drop (bytes.length - 1), epoch := p.epoch, cut := none }
  s.closeCell stream p.poisoned

/-- Place a packet's bytes, header first, in its stream (08 R264, R267, R268): a cell with fewer than 16 bytes left after
the packet is closed, and so is the one that ends a cut-through packet. -/
def State.packPacket (s : State) (stream : Nat) (p : Packet) (bytes : List Byte) : State :=
  let s := s.openPacket stream p
  if p.ct then s.packLast stream p bytes
  else
    let s := s.packBytes stream (bytes.length / 288 + 2) bytes
    if 272 < (s.txStream stream).payload.length then s.closeCell stream else s

/-! ## Keeping the effective map (02 R75, R76) -/

/-- A REQUEST or a GRANT (08 R266). -/
def asksOrGrants (m : BitVec 128) : Bool := decide (m.toNat / 2 ^ 124 = 1) || decide (m.toNat / 2 ^ 124 = 2)

/-- A control cell without the requests and grants it carries to a module, none when nothing else is in it. -/
def ControlCell.without (d : Nat) (c : ControlCell) : Option ControlCell :=
  match c with
  | .credit dst msgs =>
    if dst ≠ d then some c
    else
      let left := msgs.filter fun m => !asksOrGrants m
      if left = [] then none else some (.credit dst left)
  | _ => some c

/-- No request and no grant goes to a module any more: its open credit cell, what waits for it on links, and the
arbiter's entries of it go (02 R76; 08 R283). -/
def State.silence (s : State) (d : Nat) : State :=
  { s with
    queues := { s.queues with arb := s.queues.arb.filter fun e => e.1.1 ≠ d }
    fabric := { s.fabric with
      credit := nerase d s.fabric.credit
      links := s.fabric.links.map fun e => (e.1, { e.2 with control := e.2.control.filterMap (ControlCell.without d) }) } }

/-- Bring the effective bit of a peer up to date: both directions of its streams restart when it is set; when it clears,
nothing that waits for the module is sent (02 R76; 08 R273, R274, R283). -/
def State.updateEffective (s : State) (d : Nat) : State :=
  let now := s.effectiveNow d
  let p := s.peer d
  if now = p.effective then s
  else
    let s := s.setPeer d { p with effective := now }
    if now then (s.restartTx d |>.restartRx (2 * d)).restartRx (2 * d + 1)
    else (s.restartTx d).silence d

/-- The two sides' bits differ where the row of 02 R75 applies. -/
def State.mapsDiffer (s : State) (d : Nat) : Bool :=
  let p := s.peer d
  p.present && !s.emptyMap && p.map ≠ 0#128 && s.peerCompatible p && (s.ownBit d != p.map.getLsbD s.myId)

/-- Bring one peer's consequences up to date: isolation, mismatch and the effective bit. -/
def State.updatePeer (s : State) (d : Nat) : State :=
  let p := s.peer d
  let differ := s.mapsDiffer d
  let s := if differ then s.setPeer d { p with mismatchSince := some (p.mismatchSince.getD s.up) }
    else (s.setPeer d { p with mismatchSince := none }).clearFault 0x0205 d
  let s := if d = s.myId then s else s.condition 0x0204 d (p.present && !s.peerCompatible p)
  s.updateEffective d

/-- Bring the effective map up to date after a change of links, peers, versions or the window. -/
def State.updateMap (s : State) : State :=
  let s := s.condition 0x0204 s.myId s.selfIsolated
  (s.peers.map (·.1)).foldl State.updatePeer s

end Sys2Proof.Machine
end

