-- ==== Sys2Proof/Machine/QueueOps.lean ====
section
/-!
DEFINITION. QueueOps.lean: queues, nodes and ports of the scheduler, descriptor blocks, admission, linking and taking
packets, mirror copies, ageing, and the hold states of ports (06 R205-R210, R214-R216; 07 R225-R252; 08 R283).
-/

namespace Sys2Proof.Machine

/-! ## Queues and nodes -/

/-- Key of a node: level and number (07 R231). -/
def nodeKey (level n : Nat) : Nat := 2 ^ 20 * level + n
/-- Key of an egress queue's node (07 R231). -/
def queueNode (q : Nat) : Nat := nodeKey 0 (q - 131072)
/-- Egress queue of a level-0 node key. -/
def nodeQueue (k : Nat) : Nat := k % 2 ^ 20 + 131072
/-- An unlisted node: port nodes exist always, the others only when set (07 R232). A port node follows its port's rate,
0 at reset, so its bucket is the full one with which it leaves that rate (07 R233, R235). -/
def nodeInitial (k : Nat) : Node :=
  if k / 2 ^ 20 = 4 then { present := true, ptok := 65536 * 65536 } else {}
/-- A node. -/
def State.node (s : State) (k : Nat) : Node := nget (nodeInitial k) s.queues.nodes k
/-- Write a node. -/
def State.setNode (s : State) (k : Nat) (v : Node) : State :=
  { s with queues := { s.queues with nodes := nset (nodeInitial k) k v s.queues.nodes } }
/-- Number of nodes of a level (07 R231). -/
def levelCount (l : Nat) : Nat :=
  if l = 4 then 192 else if l = 3 then 4096 else if l = 2 then 16384 else if l = 1 then 65536 else if l = 0 then 393216 else 0
/-- Scheduler state of a port. -/
def State.portQ (s : State) (p : Nat) : PortQ := nget {} s.queues.ports p
/-- Write the scheduler state of a port. -/
def State.setPortQ (s : State) (p : Nat) (v : PortQ) : State :=
  { s with queues := { s.queues with ports := nset {} p v s.queues.ports } }

/-- Port above a node, by parents (07 R232); levels rise, so at most four links. -/
def State.portAbove (s : State) : Nat → Nat → Option Nat
  | 0, _ => none
  | n + 1, k =>
    if k / 2 ^ 20 = 4 then some (k % 2 ^ 20)
    else match (s.node k).parent with
      | some (l, i) => s.portAbove n (nodeKey l i)
      | none => none
/-- Port of an egress queue. -/
def State.queuePort (s : State) (q : Nat) : Option Nat := s.portAbove 5 (queueNode q)

/-- Children of a node, as keys rising. -/
def State.children (s : State) (k : Nat) : List Nat :=
  (s.queues.nodes.filter fun e => e.2.present ∧ e.2.parent = some (k / 2 ^ 20, k % 2 ^ 20)).map (·.1)

/-! ## A port's line rate (03 R79, R98, R107) -/

/-- Rate of a native mode in b/s (10 R519). -/
def modeRate (m : Nat) : Nat :=
  if m = 0 then 1600000000000 else if m = 1 then 800000000000 else if m = 2 then 400000000000
  else if m = 3 then 200000000000 else 100000000000
/-- Lanes of a native mode. -/
def modeLanes (m : Nat) : Nat := if m = 0 then 8 else if m = 1 then 4 else if m = 2 then 2 else 1
/-- Client rate of a tributary by its slots: 20 are an ODU4's, else the ODUflex whose client takes them
(notes/assumptions/40.md). -/
def tribRate (slots : Nat) : Nat :=
  if slots = 20 then 100000000000
  else ([200000000000, 400000000000, 800000000000].find? fun r => Config.oduflexSlots r = slots).getD 0
/-- A port. -/
def State.port (s : State) (p : Nat) : Port := nget {} s.line.ports p
/-- Write a port. -/
def State.setPort (s : State) (p : Nat) (v : Port) : State :=
  { s with line := { s.line with ports := nset {} p v s.line.ports } }
/-- Connection pages of a framer group. -/
def State.tsPage (s : State) (g : Nat) : TsPages := nget {} s.line.tsPages g
/-- Line rate of a port in b/s. -/
def State.portRate (s : State) (p : Nat) : Nat :=
  let v := s.port p
  match v.kind with
  | .unused => 0
  | .native => modeRate v.mode
  | .flexe .. => 5000000000 * v.slots
  | .otu g t => tribRate ((s.tsPage g).active.filter fun e => e.allocated ∧ e.trib.toNat = t).length

/-! ## Slices' counts (11 R354, R357) -/

/-- Module capacity of a count resource (11 R351). -/
def capacity (code : Nat) : Nat :=
  if code = 1 then 12582912 else if code = 2 then 2097152 else if code = 3 then 4194304
  else if code = 4 then 284 * 2 ^ 30 + 180 * 2 ^ 20 else if code = 7 then 65536 else 0
/-- A count granted to a slice; slice 0 has what the others leave (11 R354). -/
def State.countOf (s : State) (i code : Nat) : Nat :=
  if i = 0 then capacity code - s.liveSlices.foldl (fun n j => n + (s.slice j).amount code) 0
  else (s.slice i).amount code

/-- Owner of a queue (11 R351). -/
def State.queueOwner (s : State) (q : Nat) : Nat := s.owner (if isEgress q then 0x10 else 0x0F) q

/-- Slice that a buffer's owner belongs to (11 R357). -/
def State.ownerSlice (s : State) (o : Owner) : Option Nat :=
  match o with
  | .queue q => some (s.queueOwner q.toNat)
  | .block q => if q.toNat < 524288 then some (s.queueOwner q.toNat)
      else if q.toNat < dlqObject then some (s.owner 0x19 (q.toNat - 524288)) else none
  | .courier c => some (s.owner 0x19 c.val)
  | _ => none

/-- Buffer bytes a slice uses (11 R357), packets under reassembly with the queues that admitted them. -/
def State.bufferUse (s : State) (i : Nat) : Nat :=
  s.buffers.owners.foldl (fun n e => if s.ownerSlice e.2.owner = some i then n + e.2.size else n) 0 +
  s.fabric.rx.foldl (fun n e => match e.2.open_ with
    | some p => if p.packet.ct then n
      else p.admitted.foldl (fun n a => if s.queueOwner a.1 = i then n + a.2.size else n) n
    | none => n) 0

/-! ## Occupancy (06 R209) -/

/-- An admission profile. -/
def State.admission (s : State) (i : Nat) : Admission := nget {} s.buffers.admissions i

/-- A share 2^e of a number. -/
def alphaOf (e : Int) (n : Nat) : Nat := if e < 0 then n / 2 ^ e.natAbs else n * 2 ^ e.natAbs

/-- The outcome of R209 before allocation: a drop under a sparse family, or the tier. -/
inductive Admit where
  | drop (fam : Nat)
  | tier (t : Nat)
deriving DecidableEq, Repr

/-- What admission asks of the queue: its profile, charges in both tiers, state SPILLED, and whether its slice admits
nothing (06 R209). -/
structure Asks where
  a : Admission
  occ0 : Nat
  occ1 : Nat
  spilled : Bool
  full : Bool

/-- Room for a size above G in a tier under the colour's part of the dynamic limit (06 R209). -/
def State.fits (s : State) (x : Asks) (k size colour tier : Nat) : Bool :=
  let l := alphaOf (if tier = 0 then x.a.alphaShallow else x.a.alphaDeep) (s.shared tier k)
  let l := if colour = 1 then l * x.a.yellow / 16 else if colour = 2 then l * x.a.red / 16 else l
  let above := if tier = 0 then x.occ0 - x.a.guaranteed else x.occ1
  decide (above + size ≤ l)

/-- The queue spills now (06 R209). -/
def Asks.wantsDeep (x : Asks) (size : Nat) : Bool :=
  x.a.spillEnable && (x.spilled || decide (x.a.spill < x.occ0 + size))

/-- Decide the tier of a packet (06 R209). -/
def State.admitTier (s : State) (x : Asks) (k len colour : Nat) : Admit :=
  let size := poolSize (smallestFit len)
  if x.full then .drop 1
  else if x.a.max < x.occ0 + x.occ1 + size then .drop 2
  else if x.occ0 + size ≤ x.a.guaranteed then .tier 0
  else
    let t := if x.wantsDeep size && s.deepOk len size k then 1 else 0
    if s.fits x k size colour t then .tier t else .drop (4 + colour)

/-- deep_ok kept a packet out of the deep tier (06 R224). -/
def State.deepRefused (s : State) (x : Asks) (k len : Nat) : Bool :=
  let size := poolSize (smallestFit len)
  !x.full && decide (x.occ0 + x.occ1 + size ≤ x.a.max) && decide (x.a.guaranteed < x.occ0 + size) &&
    x.wantsDeep size && !s.deepOk len size k

/-- Admission for a class: the buffer it took, or the code of the drop (06 R209). -/
def State.admitAs (s : State) (x : Asks) (k len colour : Nat) (o : Owner) : Except Nat Placed × State :=
  let s := if s.deepRefused x k len then s.bump .deepRefused else s
  match s.admitTier x k len colour with
  | .drop fam => (.error fam, s)
  | .tier t =>
    let (s, bar) := s.race t k len
    match s.take t k len o bar with
    | none => (.error 3, s)
    | some (b, s) => (.ok b, s)

/-- A slice admits nothing more: its quota is reached, or it is RESETTING (06 R209; 11 R363). -/
def State.sliceFull (s : State) (i : Nat) : Bool :=
  decide ((s.slice i).st = .resetting) || decide (s.countOf i 4 ≤ s.bufferUse i)

/-- Admit a packet to a queue for a class: the buffer it took; a drop is counted against the queue (06 R209). -/
def State.admitIn (s : State) (q k len colour : Nat) (o : Owner) : Option Placed × State :=
  let v := s.queue q
  let x : Asks := ⟨s.admission v.admission, s.occTier q 0, s.occTier q 1, v.spilled, s.sliceFull (s.queueOwner q)⟩
  match s.admitAs x k len colour o with
  | (.error fam, s) => (none, s.sparse fam q 1 len)
  | (.ok b, s) =>
    if bufTier b.buf = 1 ∧ ¬ (s.queue q).spilled then
      (some b, (s.setQueue q { s.queue q with spilled := true }).sparse 7 q)
    else (some b, s)

/-! ## Heads and their octets (06 R211-R213) -/

/-- A deep buffer's packet is still in the write-behind area (06 R213). -/
def State.inWriteBehind (s : State) (b : BufId) : Bool :=
  let v := s.pch (bufPch b)
  let mine (r : Request) : Bool := decide (r.who = .wb) && decide (r.buf = some b)
  v.writes.any mine || v.blocked.any mine

/-- A head may be taken (06 R212): its pseudo-channel, when it lies in one, has no window. -/
def State.headOpen (s : State) (p : Packet) : Bool :=
  match p.placed with
  | some x => decide (bufTier x.buf = 0) || s.inWriteBehind x.buf ||
      !((s.pch (bufPch x.buf)).st = .fenced || (s.pch (bufPch x.buf)).st = .offline)
  | none => true

/-- The octets of a packet can be sent: it is in the shallow tier or the write-behind area, or its read has returned
(06 R212, R213). -/
def State.dataHere (s : State) (p : Packet) : Bool :=
  match p.placed with
  | some x => decide (bufTier x.buf = 0) || p.fetched || (p.lost && !p.fetching) || s.inWriteBehind x.buf
  | none => true

/-- Queue the read of a deep packet, frame and annotation: metered (06 R211; 09 R293, R296). -/
def State.readDeep (s : State) (who : HbmReq) (p : Packet) : State :=
  match p.placed with
  | some x =>
    let c := bufPch x.buf
    let s := s.debitDeep (c / 64) (p.len + 32) false
    s.access c { who := who, write := false, addr := bufAddr x.buf, bytes := p.len + 32, whole := p.len + 32, at_ := s.up
                 buf := some x.buf } 11
  | none => s

/-- What a head that is to be taken is: in a pseudo-channel with a window, being read, lost to a memory error, here, or
still to be read (06 R212, R213; 09 R302). -/
inductive HeadIs where
  | fenced | coming | lost | here | deep
deriving DecidableEq, Repr

/-- See `HeadIs`. -/
def State.headIs (s : State) (p : Packet) : HeadIs :=
  if ¬ s.headOpen p then .fenced
  else if p.fetching then .coming
  else if p.lost then .lost
  else if s.dataHere p then .here
  else .deep

/-! ## The credit conversation (08 R283) -/

/-- A VOQ turns ON or OFF and says so in a REQUEST to its destination, while the effective bit is set (02 R76). -/
def State.voqRequest (s : State) (q : Nat) (on : Bool) : State :=
  let v := s.queue q
  if v.mcast ∨ isEgress q then s
  else
    let v := { v with on := on, grantAt := if on then s.up else v.grantAt }
    if ¬ s.effective v.destModule then s.setQueue q v
    else
      let seq := v.reqSeq + 1#16
      (s.setQueue q { v with reqSeq := seq }).sendMsg v.destModule (requestMsg on v.destPort v.cls q seq.toNat)

/-! ## Linking, taking and discarding packets (06 R201, R207) -/

/-- Station time in us, as a descriptor's `arrival` holds it: stamped at admission (06 R205). -/
def State.arrivalNow (s : State) : W32 := BitVec.ofNat 32 (s.ns / 1000)

/-- Link an admitted packet at the tail of its queue. -/
def State.enqueue (s : State) (q : Nat) (p : Packet) : State :=
  let v := s.queue q
  let s := match p.placed with
    | some x => (s.moveOwner x.buf (ofQueue q)).putDescriptor q p
    | none => s
  let s := s.setQueue q { s.queue q with packets := v.packets ++ [p] }
  let s := s.count (qEnqIndex q) 1 p.len
  if v.packets = [] ∧ ¬ isEgress q then s.voqRequest q true else s

/-- Take the head of a queue out of its list; the packet keeps its buffer. A VOQ that becomes empty requests OFF. -/
def State.unlink (s : State) (q : Nat) : State :=
  let v := s.queue q
  match v.packets with
  | [] => s
  | p :: rest =>
    let s := s.takeDescriptor q p
    let s := (s.setQueue q { s.queue q with packets := rest }).unspill q
    if rest = [] ∧ ¬ isEgress q then s.voqRequest q false else s

/-- Age of a packet in ns is beyond the queue's maximum (07 R226, R244). -/
def State.aged (s : State) (v : Queue) (p : Packet) : Bool :=
  decide (v.maxAge ≠ 0) && decide (v.maxAge < (s.arrivalNow - p.arrival).toNat * 1000)

/-- Discard a head as too old: dead-letter cause 2 or freed, and counted (06 R218; 07 R244, R252). -/
def State.discardAged (s : State) (q : Nat) (p : Packet) : State :=
  let s := s.unlink q
  let taken := s.dlqTakes 2
  let s := if taken then s.dlqEnter 2 q [] p (ofQueue q) else s.freePacket p (ofQueue q)
  if taken && !isEgress q then s else s.sparse 8 q 1 p.len

/-- Discard heads older than `max_age` until one within it or the queue is empty. -/
def State.ageHeads (s : State) (q : Nat) : Nat → State
  | 0 => s
  | n + 1 =>
    let v := s.queue q
    match v.packets with
    | p :: _ => if s.aged v p then (s.discardAged q p).ageHeads q n else s
    | [] => s

/-- Free every packet of a queue, counted in `q_flush`, which counts packets alone (07 R243, R244). -/
def State.flushQueue (s : State) (q : Nat) : Nat → State
  | 0 => s
  | n + 1 =>
    match (s.queue q).packets with
    | p :: _ => (((s.unlink q).freePacket p (ofQueue q)).sparse 9 q).flushQueue q n
    | [] => s

/-- Flush of a port's queue at hold-time expiry: dead-letter cause 1, or freed and counted (07 R251). -/
def State.flushHeld (s : State) (q : Nat) : Nat → State
  | 0 => s
  | n + 1 =>
    match (s.queue q).packets with
    | p :: _ =>
      let s := s.unlink q
      let s := if s.dlqTakes 1 then s.dlqEnter 1 q [] p (ofQueue q) else (s.freePacket p (ofQueue q)).sparse 9 q
      s.flushHeld q n
    | [] => s

/-- Port of a packet in an egress queue: that of the queue, else the one its header names. -/
def State.portOf (s : State) (q : Nat) (p : Packet) : Nat := (s.queuePort q).getD p.dstPort

/-- Egress queues of a port. -/
def State.portQueues (s : State) (p : Nat) : List Nat :=
  (s.queues.queues.filter fun e => isEgress e.1 ∧ e.2.present ∧ s.queuePort e.1 = some p).map (·.1)

/-! ## Mirror copies (06 R214-R216) -/

/-- A mirror session. -/
def State.mirror (s : State) (i : Nat) : Mirror := nget {} s.buffers.mirrors i
/-- Write a mirror session. -/
def State.setMirror (s : State) (i : Nat) (v : Mirror) : State :=
  { s with buffers := { s.buffers with mirrors := nset {} i v s.buffers.mirrors } }

/-- A courier channel. -/
def State.chan (s : State) (c : Nat) : Channel := nget {} s.courier.channels c
/-- Write a courier channel. -/
def State.setChan (s : State) (c : Nat) (v : Channel) : State :=
  { s with courier := { s.courier with channels := nset {} c v s.courier.channels } }

/-- Bytes a channel's host queue holds in a tier. -/
def Channel.queued (c : Channel) (tier : Nat) : Nat := c.queue.foldl (fun n p => n + p.charge tier) 0

/-- Admit a packet to a channel's host queue under admission profile 0 (12 R383; 11 R357). A drop is counted at admission
(01 R35) under its `adm_drop` family; that the object there is the host queue, which has no queue number, is the model's
choice (notes/assumptions/123.md). -/
def State.hostAdmit (s : State) (c k len colour : Nat) : Option Placed × State :=
  let v := s.chan c
  let x : Asks := ⟨s.admission 0, v.queued 0, v.queued 1, decide (0 < v.queued 1), s.sliceFull (s.owner 0x19 c)⟩
  match s.admitAs x k len colour (.courier (Fin.ofNat 64 c)) with
  | (.error fam, s) => (none, s.sparse fam (hostObject c) 1 len)
  | (.ok b, s) => (some b, s)

/-- A packet joins a channel's host queue (12 R383); the descriptor of a deep one goes into a block (06 R206). -/
def State.toHost (s : State) (c : Nat) (p : Packet) : State :=
  let s := s.putDescriptor (hostObject c) p
  let v := s.chan c
  s.setChan c { v with queue := v.queue ++ [p] }

/-- A packet of a channel's host queue is done with: its descriptor and its buffer are free (06 R202, R206). -/
def State.freeHost (s : State) (c : Nat) (p : Packet) : State :=
  (s.takeDescriptor (hostObject c) p).freePacket p (.courier (Fin.ofNat 64 c))

/-- Serve the copy request of a packet's mirror field for the frame as it stands (06 R215, R216); `aborted`: the packet
is one that cut-through aborted, whose copy is freed and counted. -/
def State.mirrorCopy (s : State) (p : Packet) (aborted : Bool := false) : State :=
  let f := p.mirror.toNat
  if ¬ bit f 15 ∨ p.copy then s
  else
    let i := f % 2 ^ 15
    let m := s.mirror i
    if 1024 ≤ i ∨ ¬ m.enabled then s.bump .mirrorOff
    else
      let m := { m with count := m.count + 1 }
      let s := s.setMirror i m
      if m.count % m.sample ≠ 0 then s
      else if aborted then s.bump .mirrorDrop i
      else
        let data := if m.truncate = 0 then p.data else p.data.take m.truncate
        let c : Packet := { p with
          data := data, len := data.length + 4, copy := true, mirror := 0#16, placed := none, ct := false
          whole := true, fetched := false, fetching := false, hostSource := 3, hostCode := i, tag := none
          arrival := s.arrivalNow }
        if bit m.destination 31 then
          let ch := m.destination % 64
          if (s.chan ch).st = .closed then s.bump .curPuntClosed ch
          else match s.hostAdmit ch 2 c.len c.colour with
          | (some x, s) => (s.toHost ch { c with placed := some x }).bump .mirrorCopies i
          | (none, s) => s.bump .mirrorDrop i
        else if ¬ (s.queue m.destination).present then s.bump .mirrorDrop i
        else match s.admitIn m.destination 2 c.len c.colour (.mirror (BitVec.ofNat 10 i)) with
          | (some x, s) => (s.enqueue m.destination { c with placed := some x, queue := m.destination }).bump .mirrorCopies i
          | (none, s) => s.bump .mirrorDrop i

/-! ## Port down and port up (07 R248-R251, 03 R90) -/

/-- Hold time has run: the queues are FLUSHED and their flush starts (07 R251). -/
def State.holdExpire (s : State) (p : Nat) : State :=
  let any := (s.portQueues p).any fun q => !(s.queue q).packets.isEmpty
  (s.setPortQ p { s.portQ p with holdSt := .flushed, flushing := any }).bump .portHoldExpired p

/-- A port down event (03 R90; 07 R248, R249; 10 R341). -/
def State.portDown (s : State) (p : Nat) : State :=
  let s := s.bump .portDown p
  let s := s.event (s.owner 0x14 p) (s.mkEvent 0x0002 p)
  let v := s.portQ p
  match v.holdSt with
  | .serving =>
    let s := s.setPortQ p { v with holdSt := .held, heldAt := s.up, upPending := false }
    if v.hold = 0 then s.holdExpire p else s
  | _ => s.setPortQ p { v with upPending := false }

/-- A port up event (03 R90; 07 R249, R251; 10 R341): one at or before the expiry of the hold time wins, a later one
finds the queues FLUSHED. -/
def State.portUp (s : State) (p : Nat) : State :=
  let s := s.event (s.owner 0x14 p) (s.mkEvent 0x0001 p)
  let v := s.portQ p
  let s := if v.holdSt = .held ∧ v.heldAt + v.hold < s.up then s.holdExpire p else s
  let v := s.portQ p
  match v.holdSt with
  | .serving => s
  | .held => s.setPortQ p { v with holdSt := .serving }
  | .flushed => if v.flushing then s.setPortQ p { v with upPending := true } else s.setPortQ p { v with holdSt := .serving }

end Sys2Proof.Machine
end

