-- ==== Sys2Proof/Machine/Parser.lean ====
section
/-!
DEFINITION. Parser.lean: the parser, the header vector and the flow hash (04 R117, R122-R124; 05 R163).
-/

namespace Sys2Proof.Machine

/-- What the parser found (04 R122, R123). -/
structure Parsed where
  flags : Nat := 0
  l3 : Nat := 0xFF
  l4 : Nat := 0xFF
  inner : Nat := 0xFF
  vlans : Nat := 0
  tci0 : Nat := 0
  tci1 : Nat := 0
  ethertype : Nat := 0
  labels : Nat := 0
  mpls : List Nat := []
  tos : Nat := 0
  ttl : Nat := 0
  protocol : Nat := 0
  flowLabel : Nat := 0
  srcIp : Nat := 0
  dstIp : Nat := 0
  sport : Nat := 0
  dport : Nat := 0
  tcpFlags : Nat := 0
  dmac : Nat := 0
  smac : Nat := 0
deriving DecidableEq, Repr

/-- Set a parse flag (04 R123). -/
def Parsed.flag (p : Parsed) (i : Nat) : Parsed := { p with flags := p.flags ||| 2 ^ i }
/-- A parse flag is set. -/
def Parsed.has (p : Parsed) (i : Nat) : Bool := bit p.flags i

/-- Octets off to off + n - 1 in network order. -/
def beAt (w : List Byte) (off n : Nat) : Nat := beNat (bslice w off n)

/-- A header of n octets at off lies within the octets the parser reads. -/
def inside (w : List Byte) (off n : Nat) : Bool := decide (off + n ≤ w.length)
/-- The header does not: past octet 128 it is `truncated` (04 R122), past the end of a shorter frame a `parse_error`
(notes/assumptions/43.md). -/
def Parsed.cut (p : Parsed) (w : List Byte) : Parsed := if 128 ≤ w.length then p.flag 12 else p.flag 13

/-- The one's-complement sum of 16-bit words. -/
def sum16 (w : List Byte) (off : Nat) : Nat → Nat
  | 0 => 0
  | n + 1 => beAt w off 2 + sum16 w (off + 2) n
/-- The header checksum of an IPv4 header of n 16-bit words is correct. -/
def checksumOk (w : List Byte) (off n : Nat) : Bool :=
  let s := sum16 w off n
  let s := s % 65536 + s / 65536
  decide ((s % 65536 + s / 65536) % 65536 = 0xFFFF)

/-- TCP and UDP (04 R122, R123); TCP options that run past the octets read leave the fields before them. -/
def Parsed.layer4 (p : Parsed) (w : List Byte) (off : Nat) : Parsed :=
  if p.protocol = 6 then
    if inside w off 20 then
      let p := { p.flag 8 with l4 := off, sport := beAt w off 2, dport := beAt w (off + 2) 2, tcpFlags := beAt w (off + 13) 1 }
      if inside w off (beAt w (off + 12) 1 / 16 * 4) then p else p.cut w
    else p.cut w
  else if p.protocol = 17 then
    if inside w off 8 then { p.flag 9 with l4 := off, sport := beAt w off 2, dport := beAt w (off + 2) 2 }
    else p.cut w
  else p

/-- IPv4 with options, outer or below an MPLS stack (04 R122); later fragments hold no layer-4 header. -/
def Parsed.ipv4 (p : Parsed) (w : List Byte) (flen off : Nat) (below : Bool) : Parsed :=
  if ¬ inside w off 1 then p.cut w
  else
    let ihl := beAt w off 1 % 16
    if beAt w off 1 / 16 ≠ 4 ∨ ihl < 5 then p.flag 13
    else if ¬ inside w off (4 * ihl) then p.cut w
    else if ¬ checksumOk w off (2 * ihl) ∨ flen < off + beAt w (off + 2) 2 + 4 then p.flag 13
    else
      let p := if below then { p.flag 10 with inner := off } else { p.flag 3 with l3 := off }
      let p := if 5 < ihl then p.flag 5 else p
      let frag := beAt w (off + 6) 2
      let p := if frag % 2 ^ 14 ≠ 0 then p.flag 6 else p
      let p := { p with
        tos := beAt w (off + 1) 1, ttl := beAt w (off + 8) 1, protocol := beAt w (off + 9) 1
        srcIp := beAt w (off + 12) 4, dstIp := beAt w (off + 16) 4 }
      if frag % 2 ^ 13 = 0 then p.layer4 w (off + 4 * ihl) else p

/-- A next header that the parser walks: hop-by-hop, routing, fragment or destination options. -/
def isExt (n : Nat) : Bool := n = 0 || n = 43 || n = 44 || n = 60

/-- Up to n IPv6 extension headers, then layer 4 (04 R122). -/
def Parsed.ext6 (p : Parsed) (w : List Byte) (off : Nat) (first : Bool) : Nat → Parsed
  | 0 => if isExt p.protocol || !first then p else p.layer4 w off
  | n + 1 =>
    if ¬ isExt p.protocol then (if first then p.layer4 w off else p)
    else if ¬ inside w off 8 then p.cut w
    else
      let frag : Bool := p.protocol = 44
      let len := if frag then 8 else 8 * (beAt w (off + 1) 1 + 1)
      let head := !frag || decide (beAt w (off + 2) 2 / 8 = 0)
      let p := p.flag 7
      let p := if frag then p.flag 6 else p
      if ¬ inside w off len then p.cut w else
      Parsed.ext6 { p with protocol := beAt w off 1 } w (off + len) (first && head) n

/-- IPv6 (04 R122). -/
def Parsed.ipv6 (p : Parsed) (w : List Byte) (off : Nat) (below : Bool) : Parsed :=
  if ¬ inside w off 40 then p.cut w
  else
    let p := if below then { p.flag 11 with inner := off } else { p.flag 4 with l3 := off }
    let h := beAt w off 4
    Parsed.ext6 { p with
      tos := h / 2 ^ 20 % 256, flowLabel := h % 2 ^ 20, protocol := beAt w (off + 6) 1, ttl := beAt w (off + 7) 1
      srcIp := beAt w (off + 8) 16, dstIp := beAt w (off + 24) 16 } w (off + 40) true 2

/-- The MPLS stack and the header below it (04 R122); the fuel bounds the labels that 128 octets hold. -/
def Parsed.stack (p : Parsed) (w : List Byte) (flen off : Nat) : Nat → Parsed
  | 0 => p.cut w
  | n + 1 =>
    if ¬ inside w off 4 then p.cut w
    else
      let e := beAt w off 4
      let p := { p with
        ttl := if p.labels = 0 then e % 256 else p.ttl
        mpls := if p.mpls.length < 4 then p.mpls ++ [e] else p.mpls
        labels := min 15 (p.labels + 1) }
      if bit e 8 then
        if ¬ inside w (off + 4) 1 then p.cut w
        else if beAt w (off + 4) 1 / 16 = 4 then p.ipv4 w flen (off + 4) true
        else if beAt w (off + 4) 1 / 16 = 6 then p.ipv6 w (off + 4) true
        else p
      else p.stack w flen (off + 4) n

/-- What follows the tags. -/
def Parsed.afterTags (p : Parsed) (w : List Byte) (flen off : Nat) : Parsed :=
  let p := { p with ethertype := beAt w off 2 }
  if p.ethertype = 0x8847 ∨ p.ethertype = 0x8848 then (p.flag 2).stack w flen (off + 2) 33
  else if p.ethertype = 0x0800 then p.ipv4 w flen (off + 2) false
  else if p.ethertype = 0x86DD then p.ipv6 w (off + 2) false
  else p

/-- A TPID of a VLAN tag (04 R122). -/
def isTpid (t : Nat) : Bool := t = 0x8100 || t = 0x88A8

/-- Parse a frame or header window of a frame length (04 R122): its first 128 octets. -/
def parse (data : List Byte) (flen : Nat) : Parsed :=
  let w := data.take 128
  let p : Parsed := {}
  if ¬ inside w 0 14 then p.cut w
  else
    let p := { p.flag 0 with dmac := beAt w 0 6, smac := beAt w 6 6 }
    if ¬ isTpid (beAt w 12 2) then p.afterTags w flen 12
    else if ¬ inside w 14 4 then p.cut w
    else
      let p := { p.flag 1 with vlans := 1, tci0 := beAt w 14 2 }
      if ¬ isTpid (beAt w 16 2) then p.afterTags w flen 16
      else if ¬ inside w 18 4 then p.cut w
      else { p with vlans := 2, tci1 := beAt w 18 2 }.afterTags w flen 20

/-- Intake priority of a frame under a port's maps (04 R117): LACP and LLDP have 3; else the first PCP, MPLS TC or DSCP
present. -/
def Parsed.priority (p : Parsed) (v : Port) : Nat :=
  let ip : Bool := p.has 3 || p.has 4 || p.has 10 || p.has 11
  if p.ethertype = 0x8809 ∨ p.ethertype = 0x88CC then 3
  else if 0 < p.vlans then v.pcpMap.toNat / 4 ^ (p.tci0 / 2 ^ 13 % 8) % 4
  else if p.mpls ≠ [] then v.tcMap.toNat / 4 ^ ((p.mpls.headD 0) / 2 ^ 9 % 8) % 4
  else if ip then v.dscpMap.toNat / 4 ^ (p.tos / 4) % 4
  else 0

/-- Labels that the hash takes from the top entries (05 R163). -/
def hashLabels (mpls : List Nat) : List Nat :=
  let ls := mpls.map (· / 2 ^ 12)
  match ls.findIdx? (· = 7) with
  | some i => if i + 1 < ls.length then [ls.getD (i + 1) 0] else ls.filter (15 < ·)
  | none => ls.filter (15 < ·)

/-- The hash input block under a profile's fields, one bit per row of the table (05 R163). -/
def Parsed.hashBlock (p : Parsed) (port : Nat) (fields : BitVec 12) : List Byte :=
  let on (i n v : Nat) (use : Bool) : List Byte := beBytes (if use && fields.getLsbD i then v else 0) n
  let l2 : Bool := !(p.has 3 || p.has 4 || p.has 10 || p.has 11)
  let ports := !p.has 6
  let ls := hashLabels p.mpls
  let labels := (ls.flatMap fun l => beBytes l 3) ++ List.replicate (12 - 3 * ls.length) 0#8
  on 0 1 port true ++ on 1 3 p.flowLabel true ++ on 2 16 p.srcIp true ++ on 3 16 p.dstIp true ++
    on 4 1 p.protocol true ++ on 5 1 0 true ++ on 6 2 p.sport ports ++ on 7 2 p.dport ports ++
    (if fields.getLsbD 8 then labels else List.replicate 12 0#8) ++
    on 9 6 p.dmac l2 ++ on 10 2 (p.tci0 % 4096) l2 ++ on 11 2 p.ethertype l2

/-- Default fields of a hash profile: all but the ingress port and the L2 fields (05 R163). -/
def hashDefault : BitVec 12 := 0x1FE#12

/-- The flow hash (05 R163). -/
def State.flowHash (s : State) (p : Parsed) (port : Nat) : Nat :=
  crc32c s.lookup.seed.toNat (p.hashBlock port (nget hashDefault s.lookup.hash (s.port port).hashProfile))

/-- The header vector at dispatch (04 R123), byte 0 least significant. -/
def headerVector (p : Parsed) (ns port prio flen epoch hash : Nat) (egress : Bool) (carried : W64) : BitVec 1024 :=
  let mpls := (p.mpls ++ List.replicate (4 - p.mpls.length) 0).flatMap fun e => beBytes e 4
  BitVec.ofNat 1024 (leNat (
    leBytes ns 4 ++ leBytes port 1 ++ leBytes (b2n egress + 2 * prio) 1 ++ leBytes flen 2 ++ leBytes epoch 2 ++
    leBytes 0 2 ++ leBytes p.flags 4 ++ leBytes p.l3 1 ++ leBytes p.l4 1 ++ leBytes p.inner 1 ++
    leBytes (p.vlans + 4 * p.labels) 1 ++ leBytes hash 4 ++ beBytes p.dmac 6 ++ beBytes p.smac 6 ++
    beBytes p.tci0 2 ++ beBytes p.tci1 2 ++ beBytes p.ethertype 2 ++ leBytes p.tos 1 ++ leBytes p.ttl 1 ++
    leBytes p.protocol 1 ++ beBytes p.flowLabel 3 ++ beBytes p.srcIp 16 ++ beBytes p.dstIp 16 ++
    beBytes p.sport 2 ++ beBytes p.dport 2 ++ leBytes p.tcpFlags 1 ++ leBytes 0 3 ++ mpls ++
    leBytes (if egress then carried.toNat else 0) 8))

/-- Bits high:low of a header vector. -/
def hvBits (hv : BitVec 1024) (off n : Nat) : Nat := hv.toNat / 2 ^ (8 * off) % 2 ^ (8 * n)
/-- Bytes of a header vector from an offset, in rising order. -/
def hvBytes (hv : BitVec 1024) (off n : Nat) : List Byte := leBytes (hvBits hv off n) n

end Sys2Proof.Machine
end

