-- ==== Sys2Proof/Machine/Readout.lean ====
section
/-!
DEFINITION. Readout.lean: accumulators, counter entries and the latch of a snapshot at its instant (15 R432, R433, R436,
R440, R442).
-/

namespace Sys2Proof.Machine

/-- Counters of the index space (15 R434). -/
def counterSpan : Nat := 1572864

/-- The accumulator of a counter. -/
def State.accum (s : State) (i : Nat) : Accum := nget {} s.tel.acc i
/-- The bank counter of a counter. -/
def State.bankCount (s : State) (i : Nat) : Count := nget {} s.tel.bank i

/-- A peak counter keeps the highest value; every other one adds (15 R432). -/
def isPeak (i : Nat) : Bool := decide (i = Fam.writeBehindPeak.base)

/-- An accumulator with what a bank counter holds (15 R432, R433). -/
def Accum.with (a : Accum) (i : Nat) (c : Count) : Accum :=
  if isPeak i then { a with sum := max a.sum c.sum }
  else { a with count := (a.count + c.count) % 2 ^ 56, sum := (a.sum + c.sum) % 2 ^ 72 }

/-- A 32-byte counter entry (15 R440). -/
def counterEntry (count sum : Nat) (stamp : Option Nat) (id : Nat) : List Byte :=
  let (sec, ns) := match stamp with
    | some t => (t / 1000000000 % 2 ^ 32, t % 1000000000)
    | none => (0, 0)
  leBytes (count % 2 ^ 56 * 2 ^ 200 + sum % 2 ^ 72 * 2 ^ 128 + sec * 2 ^ 96 + ns * 2 ^ 64 + id) 32

/-- Reading a peak counter clears it (15 R432; 19 R12). -/
def State.clearPeak (s : State) (i : Nat) : State :=
  if isPeak i then { s with tel := { s.tel with bank := nset {} i {} s.tel.bank, acc := nmod {} i (fun a => { a with sum := 0 }) s.tel.acc } }
  else s

/-- Clear the peaks of a range. -/
def State.clearPeaks (s : State) (first count : Nat) : State :=
  if first ≤ Fam.writeBehindPeak.base ∧ Fam.writeBehindPeak.base < first + count then s.clearPeak Fam.writeBehindPeak.base
  else s

/-- Fields of a range item: space, family, count, first. -/
def rangeSpace (r : W64) : Nat := bits r.toNat 63 62
/-- See `rangeSpace`. -/
def rangeFamily (r : W64) : Nat := bits r.toNat 61 54
/-- See `rangeSpace`. -/
def rangeCount (r : W64) : Nat := bits r.toNat 53 37
/-- See `rangeSpace`. -/
def rangeFirst (r : W64) : Nat := bits r.toNat 20 0

/-- A sparse counter's value and the time of its last update, at a latch at `ts`: one without an entry reads zero, and
`sch_excess_sel` of a queue node, which has none, reads as `q_deq` less `sch_min_sel` (15 R436, R440). -/
def State.sparseValue (s : State) (ts fam obj : Nat) : Nat × Nat × Option Nat :=
  let get (f : Nat) : Nat × Nat × Option Nat := match nfind s.tel.sparse (sparseKey f obj) with
    | some a => (a.count, a.sum, a.stamp)
    | none => (0, 0, none)
  if fam = 0x0C then
    let i := qDeqIndex obj
    let a := (s.accum i).with i (s.bankCount i)
    ((a.count + 2 ^ 56 - (get 0x0B).1) % 2 ^ 56, 0, some ts)
  else get fam

/-- Entries of a snapshot's range as latched at Ts. -/
def State.latchRange (s : State) (ts : Nat) (r : W64) : List Byte :=
  (List.range (rangeCount r)).flatMap fun k =>
    let i := rangeFirst r + k
    if rangeSpace r = 0 then
      let a := (s.accum i).with i (s.bankCount i)
      counterEntry a.count a.sum (some ts) i
    else
      let v := s.sparseValue ts (rangeFamily r) i
      counterEntry v.1 v.2.1 v.2.2 (2 ^ 31 + rangeFamily r * 2 ^ 20 + i)

/-- At Ts the counters that a snapshot names are latched: each value holds the events before Ts (15 R442;
notes/assumptions/154.md). -/
def State.latchSnapshot (s : State) : State :=
  match s.tel.snapshot with
  | none => s
  | some p =>
    if p.latched.isSome ∨ s.ns < p.ts then s
    else
      let bytes := p.ranges.flatMap fun r => s.latchRange p.ts r
      let t := p.ranges.foldl (fun t r => if rangeSpace r = 0 then t.clearPeaks (rangeFirst r) (rangeCount r) else t) s
      { t with tel := { t.tel with snapshot := some { p with latched := some bytes } } }

end Sys2Proof.Machine
end

