-- ==== Sys2Proof/Machine/PageOps.lean ====
section
/-!
DEFINITION. PageOps.lean: time quality and the staged pages' state machine (02 R47-R58).
-/

namespace Sys2Proof.Machine

/-! ## Time quality (02 R47-R49) -/

/-- The error bound in ns: in HOLDOVER it has grown at the holdover rate since the state was entered, and so it does
while no postmaster runs (02 R50); it saturates at 65,535 (02 R47). -/
def State.boundNow (s : State) : Nat :=
  let t := s.time
  let grown := if t.state = .holdover ∨ (t.state = .acquiring ∧ s.headless) then t.bound + t.holdoverRate * (s.up - t.boundAt) / 1000000000000 else t.bound
  min 65535 grown

/-- Time quality is good (02 R49). -/
def State.timeGood (s : State) : Bool :=
  (s.time.state = .locked || s.time.state = .holdover) && decide (s.boundNow ≤ 100)

/-- Uptime at which the bound of HOLDOVER passes 100 ns, from which quality has been poor. -/
def State.goodFor (s : State) (dt : Nat) : Bool :=
  s.timeGood && match s.time.goodSince with
    | some t => decide (t + dt ≤ s.up)
    | none => false

/-- Keep `goodSince` after a change of state or bound. -/
def State.updateQuality (s : State) : State :=
  { s with time := { s.time with goodSince := if s.timeGood then some (s.time.goodSince.getD s.up) else none } }

/-! ## Pages (02 R53-R57) -/

/-- What an armed page does now (02 R54, R56, R57). -/
inductive PageDue where
  | wait | switch | defer
deriving DecidableEq, Repr

/-- An armed page at its boundary: it waits for T, switches, or is deferred when time quality was poor at a T that is
not zero. -/
def State.pageDue (s : State) (p : Page) : PageDue :=
  if p.state ≠ .armed then .wait
  else if p.t = 0 then .switch
  else if s.units < p.t then .wait
  else if p.good.getD s.timeGood then .switch else .defer

/-- A deferred page may switch: quality has been good for the whole preceding 1 ms, at a multiple of 100 us (02 R57). -/
def State.deferredDue (s : State) (p : PageState) : Bool :=
  decide (p = .deferred) && s.goodFor 1000000 && s.crossed 100000

/-- A page's T has just come: note the time quality of now (02 R57). -/
def State.judge (s : State) (p : Page) : Page :=
  if p.state = .armed ∧ p.t ≠ 0 ∧ s.time.last / 2 ^ 24 < p.t ∧ p.t ≤ s.units then { p with good := some s.timeGood } else p

/-- The same for the commit of the configuration epoch. -/
def State.judgeCommit (s : State) (c : Commit) : Commit :=
  if c.t ≠ 0 ∧ s.time.last / 2 ^ 24 < c.t ∧ c.t ≤ s.units then { c with good := some s.timeGood } else c

/-- Note the time quality for every page whose T has just come (02 R57, R58). -/
def State.judgePages (s : State) : State :=
  { s with
    epoch := { s.epoch with commit := s.epoch.commit.map s.judgeCommit }
    line := { s.line with
      flexe := s.line.flexe.map fun e => (e.1, { e.2 with page := s.judge e.2.page })
      tsPages := s.line.tsPages.map fun e => (e.1, { e.2 with page := s.judge e.2.page }) }
    clerks := { s.clerks with benches := s.clerks.benches.map fun e => (e.1, { e.2 with page := s.judge e.2.page }) }
    queues := { s.queues with ports := s.queues.ports.map fun e => (e.1, { e.2 with gatesPage := s.judge e.2.gatesPage }) } }

/-- One cycle of the 1 GHz clock of station time (02 R38). -/
def State.tick (s : State) : State := (State.judgePages { s with time := s.time.run }).latchSnapshot

/-- Move the counter at once by a phase that is no step (10 R344): what lies between counts as passed. -/
def State.addPhase (s : State) (n : Nat) : State :=
  State.judgePages { s with time := { s.time with
    last := min s.time.last s.time.counter, counter := s.time.counter + n } }

/-- Step the counter (02 R38, R48): no whole second or interval counts as passed. -/
def State.stepTime (s : State) (c : Nat) : State :=
  let s := State.judgePages { s with time := { s.time with last := s.time.counter, counter := c, owed := 0 } }
  { s with time := { s.time with last := c } }

/-- Object of a page's fault and events: resource in bits 31:24, index below (10 R341). -/
def pageObject (resource index : Nat) : Nat := resource * 2 ^ 24 + index

/-- A page is deferred: `FLT_COMMIT_DEFERRED`, event PAGE_DEFERRED (02 R57). -/
def State.pageDeferred (s : State) (resource index owner : Nat) : State :=
  (s.condition 0x0203 (pageObject resource index) true).pageEvent 0x0011 resource index owner

/-- A page has switched: its deferral ends, event PAGE_SWITCHED (10 R341). -/
def State.pageSwitched (s : State) (resource index owner : Nat) : State :=
  (s.clearFault 0x0203 (pageObject resource index)).pageEvent 0x0010 resource index owner

/-- A page was late: `FLT_PAGE_LATE`, event PAGE_LATE (02 R56). -/
def State.pageLate (s : State) (resource index owner : Nat) : State :=
  (s.raise 0x0201 (pageObject resource index) 0 0 owner).pageEvent 0x0012 resource index owner

/-- Letters that write the page are turned away (02 R53). -/
def PageState.fixed (p : PageState) : Bool := p = .armed || p = .deferred

/-- The page after a cancel letter: ARMED or DEFERRED goes to LOADED; any other state has nothing to cancel. -/
def Page.cancel (p : Page) : Page := if p.state.fixed then { state := .loaded } else p

/-- A schedule letter's checks for a page (02 R54, R55). -/
def scheduleChecks (s : State) (p : Page) (t : TimeParam) (param : Nat) : List (Bool × Reject) :=
  [busy (decide (p.state ≠ .loaded))] ++ timeChecks s t param

end Sys2Proof.Machine
end

