-- ==== Sys2Proof/Machine/TimeOps.lean ====
section
/-!
DEFINITION. TimeOps.lean: time states, phase sources and their selection (02 R41-R50).
-/

namespace Sys2Proof.Machine

/-- Code of a time state (02, time-state table). -/
def TimeQ.code : TimeQ → Nat
  | .freerun => 0 | .acquiring => 1 | .locked => 2 | .holdover => 3

/-- Enter a time state: the bound goes on from its value now, except that FREERUN's is unknown (02 R47). -/
def State.setTimeState (s : State) (q : TimeQ) : State :=
  let b := if q = .freerun then 65535 else s.boundNow
  State.updateQuality { s with time := { s.time with
    state := q, bound := b, boundAt := s.up, lowSince := none
    slewing := s.time.slewing && decide (q = .locked)
    lockedOnce := s.time.lockedOnce || decide (q = .locked) } }

/-- Every source is lost: HOLDOVER when LOCKED has been reached since start-up, else FREERUN (02 R48). -/
def State.loseSources (s : State) : State :=
  if s.time.state = .locked ∨ s.time.state = .acquiring then
    s.setTimeState (if s.time.lockedOnce then .holdover else .freerun)
  else s

/-- Index of the valid source of highest priority that the servo may use: none in the EXTERNAL mode or while no
postmaster runs (02 R41, R42). -/
def State.bestSource (s : State) : Option Nat :=
  if s.time.external || s.pm.active.isNone then none else s.time.sources.findIdx? (·.valid)

/-- The source in use, whatever its priority. -/
def TimeUnit.sourceUsed (t : TimeUnit) : Option (Bool × Nat) :=
  (t.inUse.bind fun i => t.sources[i]?).map fun v => (v.tod, v.port)

/-- Select a source (02 R42, R48); `was` is the source that was in use. -/
def State.reselect (s : State) (was : Option (Bool × Nat)) : State :=
  let best := s.bestSource
  let s := { s with time := { s.time with inUse := best } }
  match best with
  | none => if s.time.external || s.pm.active.isNone then s else s.loseSources
  | some _ =>
    match s.time.state with
    | .freerun | .holdover => s.setTimeState .acquiring
    | .acquiring => if s.time.sourceUsed = was then s else { s with time := { s.time with lowSince := none } }
    | .locked => if s.time.sourceUsed = was then s else { s with time := { s.time with slewing := true } }

/-- Select a source after a change of validity. -/
def State.selectSource (s : State) : State := s.reselect s.time.sourceUsed

/-- Change a source of the list. -/
def State.setSource (s : State) (i : Nat) (v : PhaseSource) : State :=
  { s with time := { s.time with sources := lset s.time.sources i v } }

/-- A source delivers: valid at once unless it failed before, when it must stay good for the wait-to-restore time
(02 R42). -/
def State.sourceGood (s : State) (i : Nat) : State :=
  match s.time.sources[i]? with
  | none => s
  | some v =>
    if v.valid then s
    else if v.failed then s.setSource i { v with goodSince := some (v.goodSince.getD s.up) }
    else (s.setSource i { v with valid := true }).selectSource

/-- A source fails (02 R42). -/
def State.sourceFails (s : State) (i : Nat) : State :=
  match s.time.sources[i]? with
  | none => s
  | some v =>
    if v.valid ∨ v.goodSince.isSome then
      (s.setSource i { v with valid := false, failed := true, goodSince := none }).selectSource
    else s

/-- Index of the PTP source of a port. -/
def State.ptpSource (s : State) (p : Nat) : Option Nat :=
  s.time.sources.findIdx? fun v => !v.tod && decide (v.port = p)
/-- Index of the 1PPS-with-ToD source. -/
def State.todSource (s : State) : Option Nat := s.time.sources.findIdx? (·.tod)

/-- PTP can no longer be had on a port (02 R42). -/
def State.ptpDown (s : State) (p : Nat) : State :=
  match s.ptpSource p with
  | some i => s.sourceFails i
  | none => s

/-- PTP settings of a port. -/
def State.ptpPort (s : State) (p : Nat) : PtpPort := nget {} s.time.ptp p
/-- A PTP source can be valid on a port: enabled, and the port UP (02 R42). -/
def State.ptpReady (s : State) (p : Nat) : Bool :=
  (s.ptpPort p).enabled && (decide (256 ≤ p) || decide ((s.port p).state = .up))

/-- No postmaster runs any more: LOCKED becomes HOLDOVER, and no source is in use (02 R50). -/
def State.servoStops (s : State) : State :=
  let q := s.time.state
  let s := s.setTimeState (if q = .locked then .holdover else q)
  { s with time := { s.time with inUse := none, slewing := false } }

/-- A postmaster runs again: the servo takes over from the bound reached (02 R48, R50). -/
def State.servoStarts (s : State) : State :=
  (State.updateQuality { s with time := { s.time with bound := s.boundNow, boundAt := s.up } }).selectSource

end Sys2Proof.Machine
end

