-- ==== Sys2Proof/Machine/LineOps.lean ====
section
/-!
DEFINITION. LineOps.lean: what the port, Envelope and intake commands share: lane use, the states of a port, its
faults, the intake tray (03 R78-R94; 04 R115, R116).
-/

namespace Sys2Proof.Machine

/-! ## Tag records (15 R444) -/

/-- Nanoseconds of the second of a station time in units. -/
def nsOf (units : Nat) : Nat := units / 65536 % 1000000000

/-- A duration that saturates at its field's maximum (15 R444). -/
def satDur (w d : Nat) : Nat := min (2 ^ w - 1) d

/-- Put a field into a record. -/
def putField (r : BitVec 256) (lo w v : Nat) : BitVec 256 :=
  let x := r.toNat
  BitVec.ofNat 256 (x - x / 2 ^ lo % 2 ^ w * 2 ^ lo + v % 2 ^ w * 2 ^ lo)

/-- Change the newest record that a test picks. -/
def modLast {α : Type} (test : α → Bool) (f : α → α) (l : List α) : List α :=
  match l.reverse.findIdx? test with
  | some i => l.modify (l.length - 1 - i) f
  | none => l

/-- Write a duration since the record's last instant into a packet's tag record, when it is still held; the packet
keeps the new instant (15 R444). -/
def State.tagStage (s : State) (p : Packet) (lo w : Nat) : Packet × State :=
  match p.tag with
  | none => (p, s)
  | some (mark, port, t) =>
    let mine (r : BitVec 256) : Bool := bits r.toNat 255 224 = mark && bits r.toNat 223 216 = port
    let f (r : BitVec 256) : BitVec 256 := putField r lo w (satDur w (s.ns - t))
    ({ p with tag := some (mark, port, s.ns) }, { s with tel := { s.tel with tags := modLast mine f s.tel.tags } })

/-- `handoff_ns`: end of pass to admission, or to the window's return to the Depot (15 R444). -/
def State.tagHandoff (s : State) (p : Packet) : Packet × State := s.tagStage p 128 16
/-- `queue_ns`: admission to the first cell on a link, or return to the first octet to the MAC (15 R444). -/
def State.tagQueue (s : State) (p : Packet) : Packet × State := s.tagStage p 96 32

/-! ## Lanes and their users (03 R78-R82, R95) -/

/-- A FlexE group of a framer group. -/
def State.flexe (s : State) (g i : Nat) : Flexe := nget {} s.line.flexe (4 * g + i)
/-- Write a FlexE group. -/
def State.setFlexe (s : State) (g i : Nat) (v : Flexe) : State :=
  { s with line := { s.line with flexe := nset {} (4 * g + i) v s.line.flexe } }
/-- An OTUCn interface of a framer group. -/
def State.otu (s : State) (g i : Nat) : Otu := nget {} s.line.otu (2 * g + i)
/-- Write an OTUCn interface. -/
def State.setOtu (s : State) (g i : Nat) (v : Otu) : State :=
  { s with line := { s.line with otu := nset {} (2 * g + i) v s.line.otu } }
/-- Write a framer group's connection pages. -/
def State.setTsPage (s : State) (g : Nat) (v : TsPages) : State :=
  { s with line := { s.line with tsPages := nset {} g v s.line.tsPages } }

/-- Lanes of a native port (03 R79). -/
def Port.lanes (v : Port) (p : Nat) : List Nat := (List.range (modeLanes v.mode)).map (· + p)
/-- Lanes of a FlexE group. -/
def Flexe.lanes (v : Flexe) (g : Nat) : List Nat := (maskBits v.phys.toNat 16).map (· + 16 * g)
/-- Lanes of an OTUCn interface. -/
def Otu.laneList (v : Otu) : List Nat := (List.range v.lanes).map (· + v.firstLane)

/-- Native ports other than one, with their lanes. -/
def State.nativeLanes (s : State) (but : Nat) : List Nat :=
  (s.line.ports.filter fun e => e.2.kind = .native ∧ e.1 ≠ but).flatMap fun e => e.2.lanes e.1
/-- Lanes of the FlexE groups. -/
def State.flexeLanes (s : State) : List Nat :=
  (s.line.flexe.filter fun e => e.2.present).flatMap fun e => e.2.lanes (e.1 / 4)
/-- Lanes of the OTUCn interfaces. -/
def State.otuLanes (s : State) : List Nat :=
  (s.line.otu.filter fun e => e.2.present).flatMap fun e => e.2.laneList
/-- Octets of lanes. -/
def octetsOf (ls : List Nat) : List Nat := ls.map (· / 8)

/-- Lanes whose user is enabled: a native port, a FlexE PHY or a FlexO interface (03 R82, R94). -/
def State.enabledLanes (s : State) : List Nat :=
  ((s.line.ports.filter fun e => e.2.kind = .native ∧ e.2.state ≠ .disabled).flatMap fun e => e.2.lanes e.1) ++
  ((s.line.flexe.filter fun e => e.2.present ∧ e.2.st ≠ .disabled).flatMap fun e => e.2.lanes (e.1 / 4)) ++
  ((s.line.otu.filter fun e => e.2.present ∧ e.2.st ≠ .disabled).flatMap fun e => e.2.laneList)

/-- Power domain of a network octet (16 R456). -/
def octetDomain (o : Nat) : Nat := 33 + o
/-- Power domain of a framer group (16 R456). -/
def framerDomain (g : Nat) : Nat := 130 + g

/-- An octet is marked always on: some port number of it is. DESIGN CHOICE: the spec does not say which port's setting
governs an octet of several ports (03 R94; notes/assumptions/127.md). -/
def State.alwaysOn (s : State) (o : Nat) : Bool := s.line.ports.any fun e => e.1 / 8 = o && e.2.alwaysOn

/-- Switch the octets of lanes on. -/
def State.octetsOn (s : State) (ls : List Nat) : State :=
  (octetsOf ls).eraseDups.foldl (fun s o => s.askDomain (octetDomain o) true) s
/-- Switch off the octets of lanes in which no lane belongs to an enabled user (03 R94). -/
def State.octetsOff (s : State) (ls : List Nat) : State :=
  (octetsOf ls).eraseDups.foldl (fun s o =>
    if (octetsOf s.enabledLanes).contains o || s.alwaysOn o then s else s.askDomain (octetDomain o) false) s

/-- First lane, octet and mode fit (03 R79, R80). -/
def legalLanes (mode p : Nat) : Bool := decide (p % 8 % modeLanes mode = 0)

/-- Owner of a port and its number exists (03 R78, 11 R351). -/
def State.portExists (s : State) (sl p : Nat) : Bool := decide (p < s.variant.lanes) && decide (s.owner 0x14 p = sl)

/-! ## Pauses (07 R241, R244) -/

/-- A class of a port is paused now. -/
def Port.classPaused (v : Port) (up c : Nat) : Bool := decide (up < v.pauseUntil) || decide (up < nget 0 v.pfcUntil c)

/-- Keep the start of each class's pause, and count its length when it ends (07, `sch_paused_ns`). -/
def State.settlePause (s : State) (p : Nat) : State :=
  (List.range 8).foldl (fun s c =>
    let v := s.port p
    match nfind v.pausedSince c with
    | none => if v.classPaused s.up c then s.setPort p { v with pausedSince := nput c s.up v.pausedSince } else s
    | some t =>
      if v.classPaused s.up c then s
      else (s.setPort p { v with pausedSince := nerase c v.pausedSince }).bump .schPausedNs p c 1 (s.up - t)) s

/-- Nanoseconds of a number of quanta of 512 bit times at a rate, rounded up (07 R241). -/
def quantaNs (q rate : Nat) : Nat := if rate = 0 then 0 else (q * 512 * 1000000000 + rate - 1) / rate

/-! ## Port states (03 R90) -/

/-- A port enters a state now; away from UP, a PTP source on it is lost (02 R42). -/
def State.enter (s : State) (p : Nat) (st : PortSt) : State :=
  let s := s.setPort p { s.port p with state := st, since := s.up }
  if st = .up then s else s.ptpDown p

/-- A cause that takes a port from UP is present. -/
def Port.faulty (v : Port) : Bool := v.lockLost || v.localFault || v.remoteFault

/-- A fault acts on a port that is UP: FAULTED, or straight to DOWN with a debounce of zero (03 R90). -/
def State.faultPort (s : State) (p : Nat) : State :=
  if (s.port p).debounce = 0 then (s.enter p .down).portDown p else s.enter p .faulted

/-- Lock mask of all lanes of a native port; an Envelope client port shows zero (10 R521). -/
def Port.fullLock (v : Port) : BitVec 8 := if v.kind = .native then BitVec.ofNat 8 (2 ^ modeLanes v.mode - 1) else 0#8

/-- Set or clear a cause's flag. -/
def Port.flag (v : Port) (c : PortFaultCause) (on : Bool) : Port :=
  match c with
  | .lockLoss => { v with lockLost := on }
  | .localFault => { v with localFault := on }
  | .remoteFault => { v with remoteFault := on }

/-- A fault arises on a port (03 R87, R90). Which lanes lose lock is the line's own: the lock mask keeps a free part. -/
def State.portFault (s : State) (p : Nat) (c : PortFaultCause) : State :=
  let v := s.port p
  if v.state = .disabled then s
  else
    let (x, s) := if c = .lockLoss then s.free else (0#64, s)
    let v := { v.flag c true with lock := if c = .lockLoss then v.lock &&& BitVec.ofNat 8 x.toNat else v.lock }
    let s := s.setPort p v
    match v.state with
    | .up => s.faultPort p
    | .holdOff => if c = .remoteFault then s else s.enter p .aligning
    | _ => s

/-- A cause has gone (03 R90). -/
def State.portFaultClear (s : State) (p : Nat) (c : PortFaultCause) : State :=
  let v := s.port p
  if v.state = .disabled then s
  else
    let v := { v.flag c false with lock := if c = .lockLoss then v.fullLock else v.lock }
    let s := s.setPort p v
    if v.faulty then s
    else match v.state with
      | .faulted =>
        if s.up < v.since + v.debounce then s.enter p .up else ((s.enter p .down).portDown p).enter p .aligning
      | .down => s.enter p .aligning
      | _ => s

/-- What a port's transmit side sends (03 R87, R90, R93): remote fault while its receive side is not aligned, idle while
it receives remote fault or stops. -/
def Port.sends (v : Port) : LineSends :=
  match v.state with
  | .disabled => .electricalIdle
  | .training => .training
  | .aligning => .remoteFault
  | .holdOff => .idle
  | .up => if v.remoteFault || (v.disabling && !v.txOpen) then .idle else .frames
  | .faulted | .down => if v.lockLost || v.localFault then .remoteFault else .idle

/-- The receive MAC takes no further frame start: the port is off, or it is being disabled and the frame under way then
has ended (03 R90, R93). -/
def Port.deaf (v : Port) : Bool := v.state = .disabled || (v.disabling && !v.rxOpen)

/-- The port stops: DISABLED, with a port down event in the states that a test picks; a disable that waits is done
(03 R90, R93). -/
def State.stopPort (s : State) (p : Nat) (falls : PortSt → Bool) : State :=
  let v := s.port p
  let s := s.setPort p { v with
    state := .disabled, since := s.up, lockLost := false, localFault := false, remoteFault := false, lock := 0#8
    fecDegraded := false, disabling := false, disableLetter := none, rxOpen := false, txOpen := false
    pauseUntil := 0, pfcUntil := [] }
  let s := (s.settlePause p).ptpDown p
  let s := if falls v.state then s.portDown p else s
  s.release? v.disableLetter

/-- States from which a disable is a port down event (03 R90). -/
def PortSt.carried (st : PortSt) : Bool := st = .up || st = .faulted
/-- States from which the stop of its Envelope group is a client's port down event: every one but DISABLED (03 R113;
notes/assumptions/133.md). -/
def PortSt.served (st : PortSt) : Bool := st ≠ .disabled

/-- A port starts: TRAINING on copper, ALIGNING on optics and for an Envelope client (03 R90). -/
def State.startPort (s : State) (p : Nat) : State :=
  let v := s.port p
  s.enter p (if v.kind = .native ∧ ¬ v.optics then .training else .aligning)

/-! ## The intake tray (04 R115, R116) -/

/-- Blocks of a port's reserve (04 R116). -/
def State.portReserve (s : State) (p : Nat) : Nat :=
  if (s.port p).state = .disabled then 0 else 61440 * s.portRate p / 38400000000000

/-- The areas that give a frame its blocks, none when one is lacking (04 R116). -/
def State.trayBlocks (s : State) (p need prio : Nat) : Option Blocks :=
  let mine := min need (s.portReserve p - nget 0 s.clerks.portBlocks p)
  let shared := min (need - mine) (61440 - s.clerks.sharedBlocks)
  let control := if prio = 3 then min (need - mine - shared) (4096 - s.clerks.controlBlocks) else 0
  if mine + shared + control < need then none else some ⟨mine, shared, control⟩

/-- Take blocks. -/
def State.holdBlocks (s : State) (p : Nat) (b : Blocks) : State :=
  { s with clerks := { s.clerks with
      portBlocks := nmod 0 p (· + b.port) s.clerks.portBlocks
      sharedBlocks := s.clerks.sharedBlocks + b.shared, controlBlocks := s.clerks.controlBlocks + b.control } }
/-- Give blocks back. -/
def State.freeBlocks (s : State) (p : Nat) (b : Blocks) : State :=
  { s with clerks := { s.clerks with
      portBlocks := nmod 0 p (· - b.port) s.clerks.portBlocks
      sharedBlocks := s.clerks.sharedBlocks - b.shared, controlBlocks := s.clerks.controlBlocks - b.control } }

/-- A frame that the MAC accepted enters the tray, or overflows (04 R115, R116). -/
def State.toTray (s : State) (p : Nat) (data : List Byte) (given : Option Nat) : State :=
  let len := data.length + 4
  let prio := given.getD ((parse data len).priority (s.port p))
  match s.trayBlocks p ((len + 255) / 256) prio with
  | none => s.bump .intakeOverflow p 0 1 len
  | some b =>
    let f : TrayFrame := { port := p, data := data, prio := prio, refTime := s.units, blocks := b }
    let s := s.holdBlocks p b
    { s with clerks := { s.clerks with tray := s.clerks.tray ++ [f] } }

/-! ## The frame check sequence (03 R85) -/

/-- One round of the reflected IEEE 802.3 CRC-32. -/
def fcsBit (c : Nat) : Nat := if c % 2 = 1 then (c / 2) ^^^ 0xEDB88320 else c / 2
/-- One octet into the FCS. -/
def fcsByte (c : Nat) (b : Byte) : Nat :=
  fcsBit (fcsBit (fcsBit (fcsBit (fcsBit (fcsBit (fcsBit (fcsBit (c ^^^ b.toNat))))))))
/-- The FCS of IEEE 802.3, in line order. -/
def fcs (bs : List Byte) : List Byte := leBytes (bs.foldl fcsByte 0xFFFFFFFF ^^^ 0xFFFFFFFF) 4

end Sys2Proof.Machine
end

