-- ==== Sys2Proof/Machine/D2d.lean ====
section
/-!
DEFINITION. D2d.lean: the die-to-die links: flits, their order, loss and return of a link (01 R23-R29).
-/

namespace Sys2Proof.Machine

/-- A die-to-die link. -/
def State.d2dLink (s : State) (i : Nat) : D2dLink := nget {} s.d2d.links i
/-- Write a die-to-die link. -/
def State.setD2d (s : State) (i : Nat) (v : D2dLink) : State :=
  { s with d2d := { s.d2d with links := nset {} i v s.d2d.links } }

/-- Power domain of a die-to-die link (16 R456). -/
def d2dDomain (i : Nat) : Nat := 142 + i

/-- Insert a flit in the order of sending. -/
def insertFlit (f : Flit) : List Flit → List Flit
  | [] => [f]
  | g :: gs => if f.order < g.order then f :: g :: gs else g :: insertFlit f gs

/-- Send a flit on the next live link, none when no link lives. -/
def State.sendFlit (s : State) (toDepot : Bool) (load : Crossing) : Option State :=
  (nextAfter s.d2d.turn s.liveD2d).map fun i =>
    let v := s.d2dLink i
    let s := { s with d2d := { s.d2d with turn := i } }
    if toDepot then
      let s := s.setD2d i { v with toDepot := v.toDepot ++ [{ order := s.d2d.nextDepot, load := load }] }
      { s with d2d := { s.d2d with nextDepot := s.d2d.nextDepot + 1 } }
    else
      let s := s.setD2d i { v with toSorter := v.toSorter ++ [{ order := s.d2d.nextSorter, load := load }] }
      { s with d2d := { s.d2d with nextSorter := s.d2d.nextSorter + 1 } }

/-- Move the unacknowledged flits of the links that are down to the live ones, in their original order and ahead of
what is sent later (01 R25); with no live link they wait. -/
def State.resendFlits (s : State) : State :=
  match s.liveD2d with
  | [] => s
  | live =>
    let pick (n : Nat) : Nat := live.getD (n % live.length) 0
    ([0, 1, 2, 3].filter fun i => ¬ live.contains i).foldl (fun s i =>
      let v := s.d2dLink i
      let s := s.setD2d i { v with toDepot := [], toSorter := [] }
      let s := v.toDepot.foldl (fun s f =>
        let w := s.d2dLink (pick f.order)
        s.setD2d (pick f.order) { w with toDepot := insertFlit { f with fails := 0 } w.toDepot }) s
      v.toSorter.foldl (fun s f =>
        let w := s.d2dLink (pick f.order)
        s.setD2d (pick f.order) { w with toSorter := insertFlit { f with fails := 0 } w.toSorter }) s) s

/-- What a change of the number of live links brings: the degraded fault and the module's map (01 R28, R29). -/
def State.d2dChanged (s : State) : State :=
  let n := s.liveD2d.length
  let s := [0, 1, 2].foldl (fun s k => if k = n then s else s.clearFault 0x0102 k) s
  let s := if n ≤ 2 then s.condition 0x0102 n true 0 0 (some (if n = 0 then 3 else 2)) else s
  s.resendFlits.updateMap

/-- A link is declared down (01 R24, R25). -/
def State.d2dDown (s : State) (i : Nat) : State :=
  let s := s.setD2d i { s.d2dLink i with up := false, downAt := s.up }
  ((s.condition 0x0101 i true).askDomain (d2dDomain i) false).d2dChanged

/-- Hand on what a flit carried (01, path of one packet). -/
def State.arrive (s : State) : Crossing → State
  | .ingress p => { s with buffers := { s.buffers with fromSorter := s.buffers.fromSorter ++
      [{ p with firstAt := s.up, firstAlone := (s.queue p.queue).packets.isEmpty }] } }
  | .rewritten p forward => { s with queues := { s.queues with returned := s.queues.returned ++ [(p, forward)] } }
  | .window p => { s with clerks := { s.clerks with windows := s.clerks.windows ++ [p] } }
  | .transmit p => { s with line := { s.line with tx := nset [] p.port (nget [] s.line.tx p.port ++ [p]) s.line.tx } }

/-- Hand on the Depot's early flits whose turn has come (01 R23). -/
def State.drainDepot (s : State) : Nat → State
  | 0 => s
  | n + 1 =>
    match s.d2d.earlyDepot with
    | f :: fs =>
      if f.order = s.d2d.expectDepot then
        (({ s with d2d := { s.d2d with earlyDepot := fs, expectDepot := f.order + 1 } } : State).arrive f.load).drainDepot n
      else s
    | [] => s

/-- Hand on the Sorter's early flits whose turn has come (01 R23). -/
def State.drainSorter (s : State) : Nat → State
  | 0 => s
  | n + 1 =>
    match s.d2d.earlySorter with
    | f :: fs =>
      if f.order = s.d2d.expectSorter then
        (({ s with d2d := { s.d2d with earlySorter := fs, expectSorter := f.order + 1 } } : State).arrive f.load).drainSorter n
      else s
    | [] => s

/-- The flit failed its CRC once more (01 R24). -/
def Flit.failed (f : Flit) : Flit := { f with fails := f.fails + 1 }

/-- The flit's sixteenth failure in a row (01 R24). -/
def Flit.spent (f : Flit) : Bool := decide (16 ≤ f.fails + 1)

/-- FLIT_RECEIVE (01 R23-R25): the oldest unacknowledged flit of a link's direction arrives; a bad CRC sends it again,
and the sixteenth in a row of one flit takes the link down. -/
def execFlitReceive (link : Fin 4) (toDepot : Bool) (crcOk : Bool) (s : State) : Host.Outcome State Fault Refusal :=
  let v := s.d2dLink link
  .next (
    if ¬ v.up then s
    else if toDepot then
      match v.toDepot with
      | [] => s
      | f :: fs =>
        if ¬ crcOk then
          let s := s.setD2d link { v with toDepot := f.failed :: fs }
          if f.spent then s.d2dDown link else s
        else
          let s := s.setD2d link { v with toDepot := fs }
          let s := { s with d2d := { s.d2d with earlyDepot := insertFlit f s.d2d.earlyDepot } }
          s.drainDepot s.d2d.earlyDepot.length
    else
      match v.toSorter with
      | [] => s
      | f :: fs =>
        if ¬ crcOk then
          let s := s.setD2d link { v with toSorter := f.failed :: fs }
          if f.spent then s.d2dDown link else s
        else
          let s := s.setD2d link { v with toSorter := fs }
          let s := { s with d2d := { s.d2d with earlySorter := insertFlit f s.d2d.earlySorter } }
          s.drainSorter s.d2d.earlySorter.length)

/-- D2D_LOCK_LOSS (01 R24). -/
def execD2dLockLoss (link : Fin 4) (s : State) : Host.Outcome State Fault Refusal :=
  .next (if (s.d2dLink link).up then s.d2dDown link else s)

/-- D2D_RETRAIN (01 R26; 16 R466): every 10 ms a link that is down is tried; its power domain comes on for that. The model's
choices (notes/assumptions/117.md): the domain stays on between tries that fail; and a link whose domain failed is tried
like any other, though 16 R458 tries a failed domain only on an enabling letter, which these links do not have. -/
def execD2dRetrain (link : Fin 4) (locked : Bool) (s : State) : Host.Outcome State Fault Refusal :=
  let v := s.d2dLink link
  .next (
    if v.up ∨ ¬ s.powered ∨ s.up < v.downAt + 10000000 then s
    else if ¬ s.domain (d2dDomain link) then s.askDomain (d2dDomain link) true
    else
      let s := s.askDomain (d2dDomain link) true
      if ¬ locked ∨ ¬ s.serdesOk then s.setD2d link { v with downAt := s.up }
      else ((s.setD2d link { v with up := true }).clearFault 0x0101 link).d2dChanged)

end Sys2Proof.Machine
end

