-- ==== Sys2Proof/Machine/LookupOps.lean ====
section
/-!
DEFINITION. LookupOps.lean: versions of table entries, and the seven lookup engines (02 R60, R61; 05 R156-R183).
-/

namespace Sys2Proof.Machine

/-! ## Versions (02 R60, R61, R64) -/

/-- The version of an entry for an epoch (02 R60). -/
def Ver.under {α : Type} (v : Ver α) (pending replaced : Bool) : Option α :=
  if pending then v.pend.getD v.cur else if replaced then v.old.getD v.cur else v.cur

/-- The epoch is the pending one. -/
def State.isPending (s : State) (e : Nat) : Bool := decide (s.epoch.pending.map (·.toNat) = some e)
/-- The epoch is the replaced one, not yet released. -/
def State.isReplaced (s : State) (e : Nat) : Bool :=
  s.epoch.releasing.isSome && decide (s.epoch.replaced.toNat = e) && decide (s.epoch.current.toNat ≠ e)

/-- The valid bit of associative rows that the current epoch uses, true for the odd one: its number's parity, but after
a switch between two epochs of one parity the other one (02 R59, R60; 05 R173; notes/assumptions/119.md). -/
def State.curOdd (s : State) : Bool := decide (s.epoch.current.toNat % 2 = 1) != s.lookup.flip
/-- The valid bit that a pass of an epoch uses. -/
def State.rowOdd (s : State) (e : Nat) : Bool := s.curOdd != (s.isPending e || s.isReplaced e)

/-- The version of an entry that a pass of an epoch sees. -/
def State.see {α : Type} (s : State) (e : Nat) (v : Option (Ver α)) : Option α :=
  v.bind fun v => v.under (s.isPending e) (s.isReplaced e)

/-- Epoch of a pass by its reference time (02 R61, R64). -/
def State.epochFor (s : State) (refTime : Nat) : BitVec 16 :=
  if s.epoch.releasing.isSome ∧ refTime < s.epoch.switchT then s.epoch.replaced else s.epoch.current

/-! ## FIB and exact match (05 R158-R160) -/

/-- A prefix covers an address. -/
def FibKey.covers (k : FibKey) (vrf : Nat) (v6 : Bool) (addr : Nat) : Bool :=
  let w := if v6 then 128 else 32
  decide (k.vrf = vrf) && decide (k.v6 = v6) && decide (addr / 2 ^ (w - k.plen) = k.pfx.toNat / 2 ^ (w - k.plen))

/-- The longest prefix of an epoch that covers an address (05 R158). -/
def State.longest (s : State) (e vrf : Nat) (v6 : Bool) (addr : Nat) : Option (Nat × LookupVal) :=
  s.lookup.fib.foldl (fun best x =>
    if x.1.covers vrf v6 addr then
      match s.see e (some x.2) with
      | some v => match best with
        | some (n, _) => if n < x.1.plen then some (x.1.plen, v) else best
        | none => some (x.1.plen, v)
      | none => best
    else best) none

/-- A FIB result register (05 R159). -/
def fibResult (len : Nat) (v : LookupVal) : Nat := 2 ^ 63 + len * 2 ^ 53 + v.user * 2 ^ 32 + v.kind * 2 ^ 20 + v.target
/-- An exact-match result register: types 3-5 return bits 47:0 as the host gave them (05 R160). -/
def exactResult (type : Nat) (v : LookupVal) : Nat := if type ≤ 2 then fibResult 0 v else 2 ^ 63 + v.raw.toNat

/-- Register n of a dispatch's key. -/
def Dispatch.key (d : Dispatch) (n : Nat) : Nat := (d.keys.getD n 0#64).toNat
/-- A bit of a dispatch's parameter. -/
def Dispatch.par (d : Dispatch) (i : Nat) : Bool := d.param.getLsbD i

/-- IPv4 address of a dispatch (05 R158). -/
def Dispatch.addr4 (d : Dispatch) : Nat :=
  if d.par 1 then d.key 1 % 2 ^ 32 else beNat (hvBytes d.hv (if d.par 0 then 60 else 76) 4)
/-- IPv6 address of a dispatch (05 R158). -/
def Dispatch.addr6 (d : Dispatch) : Nat :=
  if d.par 1 then d.key 1 * 2 ^ 64 + d.key 2 else beNat (hvBytes d.hv (if d.par 0 then 48 else 64) 16)

/-- The 256-bit key of an exact-match dispatch (05 R160, R522). -/
def Dispatch.exactKey (d : Dispatch) : Nat :=
  if d.profile = 0 then d.key 0 % 2 ^ 36
  else if d.profile = 1 then d.key 0 % 2 ^ 16 * 2 ^ 32 + d.addr4
  else if d.profile = 2 then d.key 0 % 2 ^ 16 * 2 ^ 128 + d.addr6
  else if d.profile = 3 then d.key 0 % 2 ^ 16 * 2 ^ 64 + d.key 1 % 2 ^ 48
  else if d.profile = 4 then d.key 0 * 2 ^ 64 + d.key 1
  else d.key 0 * 2 ^ 192 + d.key 1 * 2 ^ 128 + d.key 2 * 2 ^ 64 + d.key 3

/-! ## Next hops (05 R161-R164) -/

/-- Member of a group that a flow hash picks (05 R164). -/
def Ecmp.pick (g : Ecmp) (hash rot : Nat) : Option Nat :=
  let r := (hash / 2 ^ rot + hash * 2 ^ (32 - rot)) % 2 ^ 32
  let h := (r / 65536) ^^^ (r % 65536)
  let n := g.members.length
  if n = 0 then none else if g.resilient then g.members[h % n]? else g.members[h * n / 65536]?

/-- NH_RESOLVE (05 R161). -/
def State.nhResolve (s : State) (e : Nat) (d : Dispatch) : Nat × Nat :=
  let k := d.key 0
  let target := bits k 19 0
  let index := if ¬ bit k 63 ∨ 2 ≤ bits k 21 20 then none
    else if bits k 21 20 = 0 then some target
    else (s.see e (afind s.lookup.ecmp (target % 65536))).bind fun g => g.pick (hvBits d.hv 20 4) (bits d.param.toNat 4 0)
  match index.bind fun i => (s.see e (afind s.lookup.nh i)).map fun n => (i, n) with
  | none => (0, 0)
  | some (i, n) => (2 ^ 63 + n.voqBase * 2 ^ 20 + i, n.encap.toNat * 2 ^ 16 + n.port * 2 ^ 7 + n.module)

/-! ## Policers (05 R166-R171) -/

/-- A rate as held: the largest m × 2^e not above it, m of 16 bits (05 R167). -/
def heldRate (r : Nat) : Nat :=
  let e := Nat.log2 r - 15
  if r < 65536 then r else r / 2 ^ e * 2 ^ e

/-- Bucket units (1/65536 byte) that a rate adds in some ns. -/
def fill (rate dt : Nat) : Nat := rate * dt * 65536 / 8000000000

/-- Bytes of a policer's second bucket. -/
def Policer.size2 (p : Policer) : Nat := if p.trtcm then p.pbs else p.ebs

/-- Full buckets of a policer (05 R171). -/
def Policer.full (p : Policer) (t : Nat) : Bucket := ⟨p.cbs * 65536, p.size2 * 65536, t⟩

/-- The algorithm of R168: the output colour and the buckets; its time never runs back (05 R170). -/
def Policer.meter (p : Policer) (b : Bucket) (now len colour : Nat) : Nat × Bucket :=
  let t := max now b.last
  let dt := min (2 ^ 40) (t - b.last)
  let cbs := p.cbs * 65536
  let s2 := p.size2 * 65536
  let l := len * 65536
  let c0 := min cbs b.tc
  let e0 := min s2 b.t2
  if p.trtcm then
    let tc := min cbs (c0 + fill p.cir dt)
    let tp := min s2 (e0 + fill p.pir dt)
    if (p.aware ∧ colour = 2) ∨ tp < l then (2, ⟨tc, tp, t⟩)
    else if (p.aware ∧ colour = 1) ∨ tc < l then (1, ⟨tc, tp - l, t⟩)
    else (0, ⟨tc - l, tp - l, t⟩)
  else
    let sum := c0 + fill p.cir dt
    let tc := min cbs sum
    let te := min s2 (e0 + (sum - tc))
    if p.aware ∧ colour = 2 then (2, ⟨tc, te, t⟩)
    else if (¬ p.aware ∨ colour = 0) ∧ l ≤ tc then (0, ⟨tc - l, te, t⟩)
    else if l ≤ te then (1, ⟨tc, te - l, t⟩)
    else (2, ⟨tc, te, t⟩)

/-- Input colour of a policer dispatch (05 R169). -/
def Dispatch.colourIn (d : Dispatch) : Nat := if d.par 2 then hvBits d.hv 120 1 % 4 else bits d.param.toNat 1 0

/-- Policer index of a dispatch (05 R169). -/
def Dispatch.policer (d : Dispatch) : Nat := bits (d.key 0) 17 0

/-- A policer dispatch waits for one that reached the same policer in the same cycle from a lower bench, clerk or slot
(05 R170; notes/assumptions/162.md). -/
def State.policerWaits (s : State) (k : Nat) (d : Dispatch) : Bool :=
  decide (d.engine = 7) && s.clerks.slots.any fun e => decide (e.1 < k) && e.2.lookups.any fun x =>
    x.engine = 7 && x.policer = d.policer && x.cycle = d.cycle

/-- The policer engine (05 R168-R171): the result register and the state. -/
def State.policerRun (s : State) (e : Nat) (d : Dispatch) : Nat × State :=
  let i := d.policer
  match s.see e (afind s.lookup.policers i) with
  | none => (d.colourIn, s)
  | some p =>
    let b := (nfind s.lookup.buckets i).getD (p.full s.ns)
    let len := (max 1 (Int.ofNat (hvBits d.hv 6 2) + p.adjust)).toNat
    let (out, b) := p.meter b s.ns len d.colourIn
    (2 ^ 63 + out, { s with lookup := { s.lookup with buckets := nput i b s.lookup.buckets } })

/-! ## Associative search (05 R171-R183) -/

/-- Physical bank of a logical one: the one in service for it. -/
def State.physOf (s : State) (b : Nat) : Option Nat :=
  (List.range s.variant.banks).find? fun p =>
    let v := nget { logical := p, st := if p = s.variant.logical then .spare else .inService } s.lookup.banks p
    v.logical = b && (v.st = .inService || v.st = .source || v.st = .off || v.st = .failed)
/-- An unlisted physical bank: bank p serves logical bank p, and the last of the variant is the spare (05 R185). -/
def State.physInitial (s : State) (p : Nat) : PhysBank :=
  { logical := p, st := if p = s.variant.logical then .spare else .inService }
/-- A physical bank. -/
def State.phys (s : State) (p : Nat) : PhysBank := nget (s.physInitial p) s.lookup.banks p
/-- Write a physical bank. -/
def State.setPhys (s : State) (p : Nat) (v : PhysBank) : State :=
  { s with lookup := { s.lookup with banks := nset (s.physInitial p) p v s.lookup.banks } }

/-- An associative row. -/
def State.aclRow (s : State) (bank i : Nat) : AclRow := nget {} s.lookup.rows (8192 * bank + i)
/-- Write an associative row. -/
def State.setRow (s : State) (bank i : Nat) (v : AclRow) : State :=
  { s with lookup := { s.lookup with rows := nset {} (8192 * bank + i) v s.lookup.rows } }
/-- A logical bank is 640 bits wide. -/
def State.isWide (s : State) (bank : Nat) : Bool := nget false s.lookup.wide bank

/-- Valid for a parity (05 R173). -/
def AclRow.valid (r : AclRow) (odd : Bool) : Bool := if odd then r.odd else r.even

/-- Chunk c of a key (05 R175). -/
def Dispatch.chunk (d : Dispatch) (src : Nat) : Nat :=
  if src < 64 then beNat (hvBytes d.hv (2 * src) 2)
  else if src < 80 then bits (d.key ((src - 64) / 4)) (16 * ((src - 64) % 4) + 15) (16 * ((src - 64) % 4))
  else 0

/-- Source of a profile's chunk (05 R174): one source a byte, chunk 0 in the first. -/
def AclProfile.source (p : AclProfile) (c : Nat) : Nat := bits p.chunks.toNat (8 * c + 6) (8 * c)
/-- Chunks of a profile. -/
def AclProfile.count (p : AclProfile) : Nat := if p.wide then 40 else 20
/-- The key that a profile builds, chunk 0 most significant. -/
def AclProfile.key (p : AclProfile) (d : Dispatch) : Nat :=
  (List.range p.count).foldl (fun n c => n * 65536 + d.chunk (p.source c)) 0

/-- Registers from the `key` operand that a profile's sources need. -/
def AclProfile.regs (p : AclProfile) : Nat :=
  (List.range p.count).foldl (fun n c =>
    let x := p.source c
    if 64 ≤ x ∧ x < 80 then max n ((x - 64) / 4 + 1) else n) 0

/-- The effective mask of a search (05 R176). -/
def State.effectiveMask (s : State) (e i : Nat) (p : AclProfile) (d : Dispatch) : Nat :=
  match p.select with
  | none => p.mask.toNat
  | some c =>
    let v := d.chunk (p.source c) % 256
    let t := (s.see e (afind s.lookup.selects i)).getD []
    p.mask.toNat &&& (t.getD v 0#32).toNat

/-- A row, or the pair of a 640-bit entry, matches a key for a parity. -/
def State.rowMatches (s : State) (bank i key : Nat) (odd : Bool) : Bool :=
  let hit (r : AclRow) (k : Nat) : Bool :=
    r.valid odd && decide ((BitVec.ofNat 320 k ^^^ r.value) &&& r.mask = 0#320)
  if s.isWide bank then
    i % 2 = 0 && hit (s.aclRow bank i) (key / 2 ^ 320) && hit (s.aclRow bank (i + 1)) key
  else hit (s.aclRow bank i) key

/-- Position of a row for a parity: its override's row, else its own (05 R180). -/
def State.rank (s : State) (bank i : Nat) (odd : Bool) : Nat :=
  ((s.lookup.overrides.find? fun o => o.bank = bank ∧ o.q = i ∧ o.odd = odd).map (·.p)).getD i

/-- Matching rows of a bank as (position, row), in the order of positions. -/
def State.bankMatches (s : State) (bank key : Nat) (odd : Bool) : List (Nat × Nat) :=
  let here := (s.lookup.rows.filter fun e => e.1 / 8192 = bank).map fun e => e.1 % 8192
  let hits := here.filter fun i => s.rowMatches bank i key odd
  hits.foldl (fun m i => nput (s.rank bank i odd) i m) []

/-- Matching rows of a mask from a place on, in the order of R178, as (bank, position, row). -/
def State.aclMatches (s : State) (mask key : Nat) (odd : Bool) (after : Option (Nat × Nat)) : List (Nat × Nat × Nat) :=
  (maskBits mask 32).flatMap fun b =>
    ((s.bankMatches b key odd).filter fun m => match after with
      | none => true
      | some (eb, ei) => decide (eb < b) || (decide (eb = b) && decide (ei < m.1))).map fun m => (b, m.1, m.2)

/-- Banks of a mask that are searched. -/
def searched (mask : Nat) (after : Option (Nat × Nat)) : List Nat :=
  (maskBits mask 32).filter fun b => match after with
    | none => true
    | some (eb, _) => decide (eb ≤ b)

/-- A repair of a row goes before other work of its bank (05 R182). -/
def State.askRepair (s : State) (bank i : Nat) : State :=
  let js := nget [] s.lookup.jobs bank
  if js.contains (.repair i) then s
  else
    let head := js.takeWhile fun j => match j with
      | .repair _ => true
      | _ => false
    { s with lookup := { s.lookup with jobs := nset [] bank (head ++ [.repair i] ++ js.drop head.length) s.lookup.jobs } }

/-- A search's hit on a row, or on the pair of a 640-bit entry: a check that fails marks the row until its repair
(05 R189). -/
def State.checkHit (s : State) (bank row : Nat) (fails : Bool) : Bool × State :=
  let s := if fails then s.setRow bank row { s.aclRow bank row with bad := true } else s
  let due := (if s.isWide bank then [row, row + 1] else [row]).filter fun i => (s.aclRow bank i).bad
  (!due.isEmpty, due.foldl (fun s i => (s.askRepair bank i).raise 0x0502 bank i) s)

/-- A search, or a step to the next match after an earlier result (05 R176, R178, R179, R189, R190); the row that it hits
may fail its check. -/
def State.aclSearch (s : State) (e : Nat) (d : Dispatch) (after : Option (Nat × Nat)) (rowBad : Bool) :
    Nat × Nat × State :=
  match s.see e (afind s.lookup.profiles d.profile) with
  | none => (0, 0, s.bump .aclProfileOff d.profile)
  | some p =>
    if ¬ p.enable then (0, 0, s.bump .aclProfileOff d.profile)
    else
      let mask := s.effectiveMask e d.profile p d
      let odd := s.rowOdd e
      let banks := searched mask after
      let s := banks.foldl (fun s b => s.bump .aclSearches b 0 (if p.wide then 2 else 1)) s
      let failed := banks.any fun b => match s.physOf b with
        | some x => decide ((s.phys x).st = .failed)
        | none => true
      match s.aclMatches mask (p.key d) odd after with
      | [] => (b2n failed * 2 ^ 62, 0, s)
      | (b, pos, row) :: more =>
        let r := s.aclRow b row
        let (bad, s) := s.checkHit b row rowBad
        (2 ^ 63 + b2n (failed || bad) * 2 ^ 62 + b2n (!more.isEmpty) * 2 ^ 61 + b * 2 ^ 53 + pos * 2 ^ 40 + d.profile * 2 ^ 32,
          r.action.toNat, s)

/-! ## The engines together (05 R156; 04 R137) -/

/-- Result registers of an engine (04 R137). -/
def engineRegs (code : Nat) : Nat := if code = 4 ∨ code = 5 ∨ code = 6 then 2 else 1

/-- A profile is enabled in an epoch (05 R183). -/
def State.profileOn (s : State) (e i : Nat) : Bool :=
  match s.see e (afind s.lookup.profiles i) with
  | some p => p.enable
  | none => false

/-- What an engine writes for a dispatch of an epoch. A step on from a miss is a miss, and counts like any dispatch that
names a profile that is off (05 R179, R183). -/
def State.engine (s : State) (e : Nat) (d : Dispatch) (rowBad : Bool) : List Nat × State :=
  if d.engine = 1 then
    ([((s.longest e (d.key 0 % 65536) false d.addr4).map fun x => fibResult x.1 x.2).getD 0], s)
  else if d.engine = 2 then
    ([((s.longest e (d.key 0 % 65536) true d.addr6).map fun x => fibResult x.1 x.2).getD 0], s)
  else if d.engine = 3 then
    ([((s.see e (afind s.lookup.exact (d.profile, BitVec.ofNat 256 d.exactKey))).map (exactResult d.profile)).getD 0], s)
  else if d.engine = 4 then
    let r := s.nhResolve e d
    ([r.1, r.2], s)
  else if d.engine = 5 then
    let (a, b, s) := s.aclSearch e d none rowBad
    ([a, b], s)
  else if d.engine = 6 then
    let x := d.earlier.toNat
    if ¬ bit x 63 then ([0, 0], if s.profileOn e d.profile then s else s.bump .aclProfileOff d.profile)
    else
      let (a, b, s) := s.aclSearch e d (some (bits x 57 53, bits x 52 40)) rowBad
      ([a, b], s)
  else
    let (a, s) := s.policerRun e d
    ([a], (match a % 4 with
      | 0 => s.bump .polGreen
      | 1 => s.bump .polYellow
      | _ => s.bump .polRed))

/-- A dispatch beyond its engine's rate waited, and so did a search beyond the rate of a logical bank: counted
(05 R156, R177, R191). When that happens is timing, which the sender gives. -/
def State.countWaits (s : State) (d : Dispatch) (waited : Bool) (delayed : W32) : State :=
  let s := if waited then s.bump .lkpQueued (d.engine - 1) else s
  if d.engine = 5 ∨ d.engine = 6 then (maskBits delayed.toNat s.variant.logical).foldl (fun s b => s.bump .aclWait b) s
  else s

/-- A result lands: an uncorrectable memory error gives `error` alone (05 R159, R161, R169); misses and errors are
counted (05 R191). -/
def State.engineResult (s : State) (e : Nat) (d : Dispatch) (memError rowBad : Bool) : List W64 × State :=
  let (r, s) := if memError then ((List.replicate (engineRegs d.engine) 0).set 0 (2 ^ 62), s) else s.engine e d rowBad
  let x := r.headD 0
  let s := if bit x 63 then s else s.bump .lkpMiss 0 (d.engine - 1)
  let s := if bit x 62 then s.bump .lkpMemError (d.engine - 1) else s
  (r.map (BitVec.ofNat 64), s)

end Sys2Proof.Machine
end

