-- ==== Sys2Proof/Machine/Nano.lean ====
section
/-!
DEFINITION. Nano.lean: what one nanoword computes: operands, ALU, move, memory and lookup operations, branch conditions
and the traps they raise (04 R127-R138).
-/

namespace Sys2Proof.Machine

/-- A trap: cause, operation field (0 ALU0 to 5 BR, 7 none) and detail (04 R140, R141). -/
structure Trap where
  cause : Nat
  field : Nat := 7
  detail : Nat := 0
deriving DecidableEq, Repr

/-- ILLEGAL_OP in a field. -/
def illegal {α : Type} (field : Nat) : Except Trap α := .error ⟨1, field, 0⟩
/-- Raise ILLEGAL_OP when a condition holds. -/
def illegalIf (bad : Bool) (field : Nat) : Except Trap Unit := if bad then illegal field else .ok ()

/-- What a nanoword sees as it issues: the slot, its place, the microword's `target`, the nanoseconds (04 R131), and whether its read of
local memory meets an uncorrectable error (04 R140). -/
structure View where
  slot : Slot
  place : Nat
  uimm : Nat
  ns : Nat
  ecc : Bool

/-! ## Operand codes (04 R131) -/

/-- Word k of a header vector (04 R124). -/
def hvWord (hv : BitVec 1024) (k : Nat) : Nat := hvBits hv (8 * k) 8
/-- Write word k of a header vector. -/
def setHvWord (hv : BitVec 1024) (k v : Nat) : BitVec 1024 :=
  BitVec.ofNat 1024 (hv.toNat - hvWord hv k * 2 ^ (64 * k) + v % 2 ^ 64 * 2 ^ (64 * k))

/-- A register or header word. -/
def Slot.reg (v : Slot) (code : Nat) : Nat :=
  if code < 32 then (nget 0#64 v.g code).toNat
  else if code < 40 then (nget 0#64 v.l (code - 32)).toNat
  else hvWord v.hv (code - 40)

/-- Write a register or header word; a result register that a program writes is no dispatch's result, until one lands
there. -/
def Slot.setReg (v : Slot) (code x : Nat) : Slot :=
  if code < 32 then { v with g := nset 0#64 code (BitVec.ofNat 64 x) v.g }
  else if code < 40 then { v with
    l := nset 0#64 (code - 32) (BitVec.ofNat 64 x) v.l, lastDispatch := nerase (code - 32) v.lastDispatch }
  else { v with hv := setHvWord v.hv (code - 40) x }

/-- The error flag of a result register is set (04 R137); only the first register of a result has the flag. -/
def Slot.resultError (v : Slot) (r : Nat) : Bool := (nfind v.lastDispatch r).isSome && bit (v.reg (32 + r)) 62

/-- Read a result register: LOOKUP_FAULT when its error flag is set. -/
def View.result (w : View) (r field : Nat) : Except Trap Nat :=
  if w.slot.resultError r then .error ⟨8, field, ((nfind w.slot.lastDispatch r).map (·.engine)).getD 0⟩
  else .ok (w.slot.reg (32 + r))

/-- Read an operand; `imm` is the operation's `imm16`, when it has one. -/
def View.read (w : View) (code : Nat) (imm : Option Nat) (field : Nat) : Except Trap Nat :=
  if code < 32 then .ok (w.slot.reg code)
  else if code < 40 then w.result (code - 32) field
  else if code < 56 then .ok (w.slot.reg code)
  else if code = 56 then .ok w.uimm
  else if code = 57 then (match imm with
    | some i => .ok i
    | none => illegal field)
  else if code = 58 then .ok 0
  else if code = 59 then .ok w.slot.port
  else if code = 60 then .ok w.place
  else if code = 61 then .ok w.ns
  else illegal field

/-! ## Fields of a nanoword (04 R129) -/

/-- An operation field is enabled: 0 ALU0, 1 ALU1, 2 MOVE, 3 MEM, 4 LKP, 5 BR. -/
def nwOn (nw : BitVec 256) (field : Nat) : Bool := nw.getLsbD (255 - field)
/-- An operation field. -/
def nwField (nw : BitVec 256) (field : Nat) : Nat :=
  if field = 0 then bits nw.toNat 239 192 else if field = 1 then bits nw.toNat 191 144
  else if field = 2 then bits nw.toNat 143 104 else if field = 3 then bits nw.toNat 103 56
  else if field = 4 then bits nw.toNat 55 16 else bits nw.toNat 15 0

/-! ## ALU (04 R132) -/

/-- The low n bytes of a number in reverse order. -/
def reverseBytes (v n : Nat) : Nat := beNat (leBytes v n)
/-- Fold a sum to 16 bits. -/
def fold16 (s : Nat) : Nat :=
  let s := s % 65536 + s / 65536
  s % 65536 + s / 65536
/-- Sum of the four 16-bit halves of a number. -/
def halves (v : Nat) : Nat := bits v 15 0 + bits v 31 16 + bits v 47 32 + bits v 63 48
/-- Set bits of a number. -/
def popcount (v : Nat) : Nat := (maskBits v 64).length

/-- An ALU operation reads its second operand. -/
def aluTwo (op : Nat) : Bool := !(op = 0x09 || op = 0x0D || op = 0x0E)
/-- A compare operation. -/
def aluCompare (op : Nat) : Bool := 0x10 ≤ op && op ≤ 0x14

/-- The value an ALU operation computes; a compare gives 1 or 0; none for a reserved encoding. -/
def aluValue (op a b imm : Nat) (preds : BitVec 8) : Option Nat :=
  let m := 2 ^ 64
  let n := b % 64
  let lo := bits imm 5 0
  let w := bits imm 11 6 + 1
  match op with
  | 0x01 => some ((a + b) % m)
  | 0x02 => some ((a + m - b) % m)
  | 0x03 => some (a &&& b)
  | 0x04 => some (a ||| b)
  | 0x05 => some (a ^^^ b)
  | 0x06 => some (a * 2 ^ n % m)
  | 0x07 => some (a / 2 ^ n)
  | 0x08 => some (BitVec.sshiftRight (BitVec.ofNat 64 a) n).toNat
  | 0x09 => if 64 < lo + w then none else some (a / 2 ^ lo % 2 ^ w)
  | 0x0A => if 64 < lo + w then none else some (a - a / 2 ^ lo % 2 ^ w * 2 ^ lo + b % 2 ^ w * 2 ^ lo)
  | 0x0B => some (min a b)
  | 0x0C => some (max a b)
  | 0x0D => some (popcount a)
  | 0x0E => if imm % 4 = 3 then none else some (reverseBytes a (2 * 2 ^ (imm % 4)))
  | 0x0F => some (fold16 (halves a + halves b))
  | 0x10 => some (b2n (a = b))
  | 0x11 => some (b2n (a ≠ b))
  | 0x12 => some (b2n (a < b))
  | 0x13 => some (b2n (b < a))
  | 0x14 => some (b2n (a &&& b ≠ 0))
  | 0x15 => some (if preds.getLsbD (imm % 8) then a else b)
  | _ => none

/-! ## What a nanoword does -/

/-- The effects of a nanoword's operations, all computed from what stood before it (04 R130). -/
structure Effects where
  /-- register writes: destination code and value -/
  writes : List (Nat × Nat) := []
  /-- predicate writes -/
  preds : List (Nat × Bool) := []
  /-- destinations of loads and lookups -/
  later : List Nat := []
  /-- the new window and the change of its length -/
  window : Option (List Byte × Int) := none
  /-- a store: address, bytes, value -/
  store : Option (Nat × Nat × Nat) := none
  /-- a load: destination and value -/
  load : Option (Nat × Nat) := none
  /-- a COUNT: index -/
  counter : Option Nat := none
  /-- a lookup dispatch -/
  lookup : Option Dispatch := none
  /-- the condition for a branch; false without a BR field -/
  cond : Bool := false
  /-- an end of pass: kind less 0xC, and `arg` -/
  finish : Option (Nat × Nat) := none
  /-- ALU0's result, for the trace (15 R446) -/
  alu0 : Nat := 0
deriving DecidableEq, Repr

/-- An ALU field. -/
def View.alu (w : View) (f field : Nat) (e : Effects) : Except Trap Effects := do
  let op := bits f 47 40
  let dst := bits f 39 34
  let imm := bits f 15 0
  let a ← w.read (bits f 33 28) (some imm) field
  let b ← if aluTwo op then w.read (bits f 27 22) (some imm) field else pure 0
  match aluValue op a b imm w.slot.preds with
  | none => illegal field
  | some v =>
    let e := if field = 0 then { e with alu0 := v } else e
    if aluCompare op then
      illegalIf (8 ≤ dst) field
      pure { e with preds := e.preds ++ [(dst, decide (v = 1))] }
    else
      illegalIf (56 ≤ dst) field
      pure { e with writes := e.writes ++ [(dst, v)] }

/-- The MOVE field (04 R133, R134). -/
def View.move (w : View) (f : Nat) (e : Effects) : Except Trap Effects := do
  let reg := bits f 37 32
  let off := bits f 31 24
  let size := bits f 23 20
  let win := w.slot.window
  let range : Except Trap Effects := .error ⟨7, 2, off⟩
  match bits f 39 38 with
  | 0 =>
    let v ← w.read (off % 64) none 2
    illegalIf (56 ≤ reg) 2
    pure { e with writes := e.writes ++ [(reg, v)] }
  | 1 =>
    illegalIf (7 < size || 56 ≤ reg) 2
    if win.length < off + size + 1 then range
    else pure { e with writes := e.writes ++ [(reg, beAt win off (size + 1))] }
  | 2 =>
    let v ← w.read reg none 2
    illegalIf (7 < size) 2
    if win.length < off + size + 1 then range
    else pure { e with window := some (win.take off ++ beBytes v (size + 1) ++ win.drop (off + size + 1), 0) }
  | _ =>
    let adj := sext 12 (bits f 19 8)
    let cut := (-adj).toNat
    let net := w.slot.delta + adj
    let len := Int.ofNat win.length + adj
    if ¬ w.slot.egress ∨ win.length < off + cut ∨ net < -96 ∨ 64 < net ∨ len < 14 then range
    else
      let ins := List.replicate adj.toNat 0#8
      pure { e with window := some (win.take off ++ ins ++ win.drop (off + cut), adj) }

/-- First byte of a clerk's trap frames (04 R141). -/
def frameBase : Nat := 0x17E80

/-- The MEM field (04 R135, R140): `mem` reads local memory; an uncorrectable read is LOCAL_ECC. -/
def View.mem (w : View) (mem : Nat → Nat → Nat) (f : Nat) (e : Effects) : Except Trap Effects := do
  let kind := bits f 47 44
  let data := bits f 43 38
  let base ← w.read (bits f 37 32) none 3
  let scale := bits f 14 13
  let addr := bits f 31 15 + base * (if scale = 0 then 1 else if scale = 1 then 8 else if scale = 2 then 16 else 64)
  let n := if kind = 8 then 8 else 2 ^ (kind % 4)
  let check : Except Trap Unit :=
    if 0x17FFF < addr + n - 1 ∨ (4 ≤ kind ∧ frameBase < addr + n) then .error ⟨5, 3, addr⟩
    else if addr % n ≠ 0 then .error ⟨6, 3, addr⟩
    else if w.ecc ∧ (kind ≤ 3 ∨ kind = 8) then .error ⟨9, 3, addr⟩
    else .ok ()
  if kind ≤ 3 then
    illegalIf (56 ≤ data) 3
    check
    pure { e with load := some (data, mem addr n), later := e.later ++ [data] }
  else if kind ≤ 7 then
    let v ← w.read data none 3
    check
    pure { e with store := some (addr, n, v) }
  else if kind = 8 then
    illegalIf (56 ≤ data) 3
    let v ← w.read data none 3
    check
    let old := mem addr 8
    pure { e with store := some (addr, 8, (old + v) % 2 ^ 64), load := some (data, old), later := e.later ++ [data] }
  else if kind = 9 then
    if 1572863 < addr then .error ⟨5, 3, addr⟩ else pure { e with counter := some addr }
  else illegal 3

/-- Registers of a dispatch's key (05 R157-R169); an associative key has as many as its profile's sources name. -/
def keyRegs (engine profile : Nat) (param : Nat) (aclRegs : Nat) : Nat :=
  let addr4 := if bit param 1 then 2 else 1
  let addr6 := if bit param 1 then 3 else 1
  if engine = 1 then addr4
  else if engine = 2 then addr6
  else if engine = 3 then
    (if profile = 1 then addr4 else if profile = 2 then addr6 else if profile = 0 then 1 else if profile = 5 then 4 else 2)
  else if engine = 5 ∨ engine = 6 then aclRegs
  else 1

/-- Bits of `param` that an engine assigns (05 R157). -/
def paramBits (engine profile : Nat) : Nat :=
  if engine = 1 ∨ engine = 2 then 2
  else if engine = 3 then (if profile = 1 ∨ profile = 2 then 2 else 0)
  else if engine = 4 then 5
  else if engine = 6 ∨ engine = 7 then 3
  else 0

/-- The LKP field (04 R137; 05 R157-R179). -/
def View.lkp (w : View) (aclRegs : Nat → Nat) (f : Nat) (e : Effects) : Except Trap Effects := do
  let engine := bits f 39 35
  let result := bits f 34 32
  let key := bits f 31 26
  let profile := bits f 25 20
  let param := bits f 19 0
  let n := keyRegs engine profile param (aclRegs profile)
  illegalIf (engine < 1 || 7 < engine) 4
  illegalIf (decide (engineRegs engine = 2) && decide (result % 2 = 1)) 4
  illegalIf (decide (engine = 3) && decide (5 < profile)) 4
  illegalIf (decide (2 ^ paramBits engine profile ≤ param)) 4
  illegalIf (decide (1 < n) && !(decide (key + n ≤ 32) || (decide (40 ≤ key) && decide (key + n ≤ 56)))) 4
  let keys ← (List.range n).mapM fun i => w.read (key + i) none 4
  let d : Dispatch := {
    engine := engine, result := result, keys := keys.map (BitVec.ofNat 64), profile := profile
    param := BitVec.ofNat 20 param, hv := w.slot.hv }
  illegalIf (decide (engine = 7) && decide (d.colourIn = 3)) 4
  illegalIf (decide (engine = 6) && decide (param % 2 = 1)) 4
  let earlier ← if engine = 6 then w.result (param % 8) 4 else pure 0
  let regs := if engineRegs engine = 2 then [32 + result, 33 + result] else [32 + result]
  pure { e with lookup := some { d with earlier := BitVec.ofNat 64 earlier }, later := e.later ++ regs }

/-- The BR field (04 R138). -/
def View.br (w : View) (f : Nat) (e : Effects) : Except Trap Effects := do
  let kind := bits f 15 12
  let index := bits f 11 9
  let arg := bits f 8 0
  let flag := bit (hvBits w.slot.hv 12 4) (arg % 32)
  match kind with
  | 0x0 => pure { e with cond := true }
  | 0x1 => pure { e with cond := w.slot.preds.getLsbD index }
  | 0x2 => pure { e with cond := !w.slot.preds.getLsbD index }
  | 0x3 =>
    let v ← w.result index 5
    pure { e with cond := bit v 63 }
  | 0x4 =>
    let v ← w.result index 5
    pure { e with cond := !bit v 63 }
  | 0x5 => pure { e with cond := flag }
  | 0x6 => pure { e with cond := !flag }
  | 0xC => pure { e with finish := some (0, arg) }
  | 0xD => pure { e with finish := some (1, arg) }
  | 0xE => pure { e with finish := some (2, arg) }
  | 0xF => .error ⟨11, 5, arg⟩
  | _ => illegal 5

/-- A list has no element twice. -/
def noTwice (l : List Nat) : Bool := l.eraseDups.length = l.length

/-- Two operations name one destination (04 R130). -/
def Effects.conflict (e : Effects) : Bool := !noTwice (e.writes.map (·.1) ++ e.later) || !noTwice (e.preds.map (·.1))

/-- The effects of a nanoword, or its trap: the fields in order, then CONFLICT. -/
def View.run (w : View) (mem : Nat → Nat → Nat) (aclRegs : Nat → Nat) (nw : BitVec 256) : Except Trap Effects := do
  let e : Effects := {}
  let e ← if nwOn nw 0 then w.alu (nwField nw 0) 0 e else pure e
  let e ← if nwOn nw 1 then w.alu (nwField nw 1) 1 e else pure e
  let e ← if nwOn nw 2 then w.move (nwField nw 2) e else pure e
  let e ← if nwOn nw 3 then w.mem mem (nwField nw 3) e else pure e
  let e ← if nwOn nw 4 then w.lkp aclRegs (nwField nw 4) e else pure e
  let e ← if nwOn nw 5 then w.br (nwField nw 5) e else pure e
  if e.conflict then .error ⟨2, 7, 0⟩ else pure e

/-! ## What a nanoword waits for (04 R130, R137) -/

/-- Registers named by pending lookups and loads. -/
def Slot.pendingRegs (v : Slot) : List Nat :=
  (v.lookups.flatMap fun d => if engineRegs d.engine = 2 then [32 + d.result, 33 + d.result] else [32 + d.result]) ++
    v.loads.map (·.dst)
/-- Result registers of pending lookups. -/
def Slot.pendingResults (v : Slot) : List Nat :=
  v.lookups.flatMap fun d => if engineRegs d.engine = 2 then [32 + d.result, 33 + d.result] else [32 + d.result]

/-- Operand codes that a nanoword reads. -/
def nwReads (nw : BitVec 256) (aclRegs : Nat → Nat) : List Nat :=
  let alu (i : Nat) : List Nat :=
    let f := nwField nw i
    if nwOn nw i then bits f 33 28 :: (if aluTwo (bits f 47 40) then [bits f 27 22] else []) else []
  let mv := nwField nw 2
  let move := if ¬ nwOn nw 2 then [] else if bits mv 39 38 = 0 then [bits mv 31 24 % 64]
    else if bits mv 39 38 = 2 then [bits mv 37 32] else []
  let m := nwField nw 3
  let k := bits m 47 44
  let mem := if ¬ nwOn nw 3 then [] else bits m 37 32 :: (if 4 ≤ k ∧ k ≤ 8 then [bits m 43 38] else [])
  let l := nwField nw 4
  let eng := bits l 39 35
  let keys := (List.range (keyRegs eng (bits l 25 20) (bits l 19 0) (aclRegs (bits l 25 20)))).map (· + bits l 31 26)
  let lkp := if ¬ nwOn nw 4 then [] else keys ++ (if eng = 6 then [32 + bits l 2 0] else [])
  let b := nwField nw 5
  let br := if nwOn nw 5 ∧ (bits b 15 12 = 3 ∨ bits b 15 12 = 4) then [32 + bits b 11 9] else []
  alu 0 ++ alu 1 ++ move ++ mem ++ lkp ++ br

/-- Result registers into which a nanoword dispatches. -/
def nwResults (nw : BitVec 256) : List Nat :=
  let l := nwField nw 4
  let r := bits l 34 32
  if ¬ nwOn nw 4 then [] else if engineRegs (bits l 39 35) = 2 then [32 + r, 33 + r] else [32 + r]

/-- The nanoword may not issue yet: an operand it reads, or a result register it dispatches into, is pending. -/
def Slot.blocked (v : Slot) (nw : BitVec 256) (aclRegs : Nat → Nat) : Bool :=
  (nwReads nw aclRegs).any v.pendingRegs.contains || (nwResults nw).any v.pendingResults.contains

end Sys2Proof.Machine
end

