-- ==== Sys2Proof/Machine/TelOps.lean ====
section
/-!
DEFINITION. TelOps.lean: tag records and trace entries as the passes write them (15 R444-R446).
-/

namespace Sys2Proof.Machine

/-- Sorter cycles since power-on: 2.4 GHz (01; 04 R126). -/
def State.cycle (s : State) : Nat := s.up * 12 / 5

/-- Bench, clerk and slot of a slot's key, as the records hold them: 5, 4 and 3 bits. -/
def placeBits (k : Nat) : Nat := k / 96 * 2 ^ 7 + k / 6 % 16 * 2 ^ 3 + k % 6

/-- Add a tag record to the circular buffer of 4,096 (15 R444). -/
def State.addTag (s : State) (r : BitVec 256) : State :=
  let l := s.tel.tags ++ [r]
  { s with tel := { s.tel with tags := if 4096 < l.length then l.drop 1 else l } }

/-- Nanowords issued in a pass, with those of a BUDGET handler. -/
def Slot.issuedAll (v : Slot) : Nat := v.issued + v.handlerIssued

/-- Code and reason of an end (15 R444). -/
def PassEnd.code : PassEnd → Nat × Nat
  | .forward => (0, 0) | .drop r => (1, r) | .punt r => (2, r) | .doubleTrap _ => (3, 0)

/-- The record of a tagged pass as it ends (15 R444). -/
def State.tagEnd (s : State) (k : Nat) (v : Slot) (e : PassEnd) : State :=
  if ¬ v.tagged then s
  else
    let q := hvBits v.hv 116 4
    s.addTag (BitVec.ofNat 256 (
      nsOf v.refTime * 2 ^ 224 + v.port * 2 ^ 216 + b2n v.egress * 2 ^ 215 + placeBits k * 2 ^ 203 +
      satDur 16 v.issuedAll * 2 ^ 176 + satDur 16 (v.dispatched - v.refTime / 65536) * 2 ^ 160 +
      satDur 16 (s.ns - v.dispatched) * 2 ^ 144 + e.code.1 * 2 ^ 93 + e.code.2 * 2 ^ 84 + q % 2 ^ 19 * 2 ^ 45 +
      q / 2 ^ 19 % 2 ^ 7 * 2 ^ 38 + v.epoch.toNat * 2 ^ 22))

/-- Add a trace entry under the mode in force, or, tracing being off, under the last one: selected passes complete their
entries (15 R446, R448). -/
def State.addTrace (s : State) (r : BitVec 256) : State :=
  let n := s.tel.trace.length
  if n < 65536 then { s with tel := { s.tel with trace := s.tel.trace ++ [r] } }
  else if s.tel.recording = 2 then s
  else { s with tel := { s.tel with trace := s.tel.trace.drop 1 ++ [r] } }

/-- A trace entry of a slot about to issue at a micro address (15 R446): kind 0 issue, 1 trap, 2 end. -/
def State.traceSlot (s : State) (k : Nat) (v : Slot) (nano kind cause : Nat) (value : Nat) : State :=
  if ¬ v.traced then s
  else s.addTrace (BitVec.ofNat 256 (
    nsOf s.units * 2 ^ 224 + v.micro.toNat * 2 ^ 208 + nano * 2 ^ 194 + kind * 2 ^ 192 + placeBits k * 2 ^ 180 +
    b2n v.egress * 2 ^ 179 + v.port * 2 ^ 171 + satDur 16 (s.cycle - v.lastIssue) * 2 ^ 155 + cause % 64 * 2 ^ 149 +
    v.preds.toNat * 2 ^ 141 + v.issuedAll % 2 ^ 14 * 2 ^ 127 + nsOf v.refTime * 2 ^ 95 + value % 2 ^ 64))

/-- Selected passes in flight. -/
def State.tracing (s : State) : Nat := (s.clerks.slots.filter fun e => e.2.traced ∧ e.2.st ≠ .free).length

/-- A pass matches the trace filter and mode on a bench (15 R445). -/
def State.traceMatches (s : State) (bench port : Nat) (egress : Bool) : Bool :=
  let f := s.tel.filter.toNat
  let pass := bits f 22 21
  s.tel.benches.getLsbD bench && (!bit f 23 || decide (bits f 31 24 = port)) &&
    (decide (pass = 0) || decide (pass = 1 + b2n egress)) &&
    (decide (s.tel.mode = 1) || (decide (s.tel.mode = 2) && decide (s.tel.trace.length < 65536)))

/-- Select or tag a pass at its dispatch to a slot (15 R444, R445): whether it is traced, whether it is tagged. -/
def State.choose (s : State) (k port : Nat) (egress : Bool) : (Bool × Bool) × State :=
  if s.variant.ledger then
    if ¬ s.traceMatches (k / 96) port egress then ((false, false), s)
    else if s.tracing < 4 then ((true, false), s)
    else ((false, false), { s with tel := { s.tel with skipped := s.tel.skipped + 1 } }.bump .telTraceSkipped)
  else
    let x := Config.lfsrNext s.tel.tagLfsr
    ((false, decide (x.toNat * s.tel.ratio < 65536)), { s with tel := { s.tel with tagLfsr := x } })

end Sys2Proof.Machine
end

