-- ==== Sys2Proof/Machine/Clerks.lean ====
section
/-!
DEFINITION. Clerks.lean: intake's dispatch, the issue of nanowords, micro-traps, the end and hand-off of passes, and
the reload of benches (04 R115-R151; 01 R28, R29).
-/

namespace Sys2Proof.Machine

/-! ## Slots and stores -/

/-- Key of a slot. -/
def slotKey (b c i : Nat) : Nat := 6 * (16 * b + c) + i
/-- A slot. -/
def State.slotAt (s : State) (k : Nat) : Slot := nget {} s.clerks.slots k
/-- Write a slot. -/
def State.setSlot (s : State) (k : Nat) (v : Slot) : State :=
  { s with clerks := { s.clerks with slots := nset {} k v s.clerks.slots } }
/-- First key of a clerk's local memory, from a slot's key. -/
def memBase (k : Nat) : Nat := 98304 * (k / 6)

/-- The stock handler of a cause punts: LOOKUP_FAULT, LOCAL_ECC and USER; every other one drops (04 R140). -/
def stockPunts (c : Nat) : Bool := c = 8 || c = 9 || c = 11

/-- The stock handlers' microwords: a vector's branches to its second word, which ends the pass (04 R139, R140). DESIGN
CHOICE: where the ROM holds a handler's second microword and its nanowords (notes/assumptions/136.md). -/
def stockMicro (a : Nat) : Option W32 :=
  if 0x40 ≤ a ∧ a < 0x4C then some (BitVec.ofNat 32 (2 ^ 30 + 0x3DE0 * 2 ^ 16 + a + 0x20))
  else if 0x60 ≤ a ∧ a < 0x6C then some (BitVec.ofNat 32 ((0x3DE1 + (a - 0x60)) * 2 ^ 16))
  else none

/-- The stock handlers' nanowords: one whose branch condition always holds, and for each cause END_DROP or END_PUNT with
an argument the spec does not give. -/
def stockNano (a : Nat) : Option (BitVec 256) :=
  if a = 0x3DE0 then some (BitVec.ofNat 256 (2 ^ 250))
  else if 0x3DE1 ≤ a ∧ a < 0x3DED then
    let c := a - 0x3DE1
    some (BitVec.ofNat 256 (2 ^ 250 + (if stockPunts c then 0xE000 else 0xD000) + (Config.stockArg c).toNat))
  else none

/-- The microword at an address of a bench's active page (04 R128, R143). -/
def State.microAt (s : State) (b a : Nat) : W32 :=
  if a < 0x40 then 0#32
  else if (s.bench b).modeP && decide (a < 0xFC00) then (stockMicro a).getD (Config.microRom a)
  else nget 0#32 s.clerks.micro (65536 * b + a)

/-- The nanoword at an address of a bench's active page (04 R128, R143). -/
def State.nanoAt (s : State) (b a : Nat) : BitVec 256 :=
  if a = 0 then 0#256
  else if (s.bench b).modeP && decide (a < 0x3E00) then (stockNano a).getD (Config.nanoRom a)
  else nget 0#256 s.clerks.nano (16384 * b + a)

/-- Match registers of a bench that are enabled. -/
def enabledMatches (m : NMap W32) (b : Nat) : List W32 :=
  (m.filter fun e => e.1 / 64 = b ∧ e.2.getLsbD 31).map (·.2)

/-- Where the sequencer goes for a micro address: an enabled match register that names it sends it to a patch microword
(04 R144). -/
def State.goTo (s : State) (b : Nat) (a : BitVec 16) : BitVec 16 :=
  if ¬ (s.bench b).modeP then a
  else match (enabledMatches s.clerks.matchRegs b).find? fun r => bits r.toNat 15 0 = a.toNat with
    | some r => BitVec.ofNat 16 (0xFC00 + bits r.toNat 25 16)
    | none => a

/-- Registers of an associative key under an epoch's profile. -/
def State.aclRegs (s : State) (e p : Nat) : Nat := ((s.see e (afind s.lookup.profiles p)).map (·.regs)).getD 0

/-- The nanoword that a slot issues next. -/
def State.nextNano (s : State) (b : Nat) (v : Slot) : BitVec 256 :=
  s.nanoAt b (bits (s.microAt b v.micro.toNat).toNat 29 16)

/-- A slot whose nanoword has issued, or for which a result has landed, becomes READY or waits (04 R125, R130). A slot
that stays READY keeps its turn. -/
def State.wake (s : State) (k : Nat) (v : Slot) : State :=
  if v.st = .retiring ∨ v.st = .free then s.setSlot k v
  else if v.blocked (s.nextNano (k / 96) v) (s.aclRegs v.epoch.toNat) then s.setSlot k { v with st := .waiting }
  else if v.st = .ready then s.setSlot k v
  else s.setSlot k { v with st := .ready, readyAt := s.cycle }

/-! ## Steering and dispatch (04 R119, R120) -/

/-- Slots in use of a bench. -/
def State.busyBench (s : State) (b : Nat) : Nat :=
  (s.clerks.slots.filter fun e => e.1 / 96 = b ∧ e.2.st ≠ .free).length
/-- Slots in use of a clerk, by bench and clerk. -/
def State.busyClerk (s : State) (b c : Nat) : Nat :=
  (s.clerks.slots.filter fun e => e.1 / 6 = 16 * b + c ∧ e.2.st ≠ .free).length

/-- The slot that takes the next pass: most FREE slots among live benches, then among its clerks, then the lowest slot
(04 R119). -/
def State.pickSlot (s : State) : Option Nat :=
  let live := (List.range s.variant.benches).filter fun b => (s.bench b).live
  (bestBy (fun b => - Int.ofNat (s.busyBench b)) live).bind fun b =>
    (bestBy (fun c => - Int.ofNat (s.busyClerk b c)) (List.range 16)).bind fun c =>
      ((List.range 6).find? fun i => (s.slotAt (slotKey b c i)).st = .free).map fun i => slotKey b c i

/-- Next sequence number of a port and direction, and the state that has used it (04 R121). -/
def State.takeSeq (s : State) (port : Nat) (egress : Bool) : Nat × State :=
  let k := 2 * port + b2n egress
  let n := nget 0 s.clerks.nextSeq k
  (n, { s with clerks := { s.clerks with nextSeq := nset 0 k (n + 1) s.clerks.nextSeq } })

/-- LOADING and READY: a pass starts in a slot (04 R122, R125, R128). -/
def State.startPass (s : State) (k : Nat) (v : Slot) (prio : Option Nat) (flen : Nat) (carried : W64) (p : Parsed) :
    State :=
  let (pick, s) := s.choose k v.port v.egress
  let (n, s) := s.takeSeq v.port v.egress
  let prio := prio.getD (p.priority (s.port v.port))
  let hv := headerVector p (nsOf v.refTime) v.port prio flen v.epoch.toNat (s.flowHash p v.port) v.egress carried
  let v := { v with
    hv := hv, micro := s.goTo (k / 96) (if v.egress then 0x82#16 else 0x80#16), seqNo := n, st := .waiting
    traced := pick.1, tagged := pick.2, lastIssue := s.cycle, dispatched := s.ns }
  State.wake { s with clerks := { s.clerks with lastEgress := v.egress } } k v

/-- An ingress pass takes the oldest frame of the tray (04 R120, R123, R134). -/
def State.startIngress (s : State) (k : Nat) (f : TrayFrame) : State :=
  let flen := f.data.length + 4
  let p := parse f.data flen
  let s := if p.has 13 then s.bump .intakeParseError f.port else s
  let s := if p.has 12 then s.bump .intakeTruncated f.port else s
  let s := { s with clerks := { s.clerks with tray := s.clerks.tray.drop 1 } }
  s.startPass k {
    window := f.data.take 128, body := f.data.drop 128, port := f.port, epoch := s.epochFor f.refTime
    refTime := f.refTime, blocks := f.blocks } (some f.prio) flen 0#64 p

/-- An egress pass takes the oldest header window (04 R120, R134). -/
def State.startEgress (s : State) (k : Nat) (q : Packet) : State :=
  let s := { s with clerks := { s.clerks with windows := s.clerks.windows.drop 1 } }
  s.startPass k {
    window := q.data.take 128, body := q.data.drop 128, port := q.port, epoch := s.epochFor q.refTime
    refTime := q.refTime, egress := true, packet := some q } none q.len q.carried (parse q.data q.len)

/-- INTAKE_DISPATCH (04 R119, R120): when both kinds of work wait they alternate strictly. -/
def execIntakeDispatch (s : State) : Host.Outcome State Fault Refusal :=
  .next (match s.pickSlot with
    | none => s
    | some k =>
      match s.clerks.tray, s.clerks.windows with
      | [], [] => s
      | f :: _, [] => s.startIngress k f
      | [], q :: _ => s.startEgress k q
      | f :: _, q :: _ => if s.clerks.lastEgress then s.startIngress k f else s.startEgress k q)

/-! ## Micro-traps (04 R139-R142) -/

/-- A trap frame (04 R141). -/
def trapFrame (k : Nat) (v : Slot) (mw : W32) (t : Trap) : List Byte :=
  leBytes (t.cause % 64) 1 ++ leBytes t.field 1 ++ leBytes (k % 6 + k / 6 % 16 * 8) 1 ++ leBytes (k / 96) 1 ++
  leBytes v.micro.toNat 2 ++ leBytes (bits mw.toNat 29 16) 2 ++ leBytes mw.toNat 4 ++ leBytes (hvBits v.hv 0 4) 4 ++
  leBytes t.detail 8 ++ leBytes v.epoch.toNat 2 ++ leBytes v.port 1 ++
  leBytes (v.stack.length + 16 * b2n v.egress) 1 ++ leBytes v.issuedAll 4 ++
  ((v.stack ++ List.replicate 8 0#16).take 8).flatMap (fun a => leBytes a.toNat 2) ++
  leBytes v.preds.toNat 1 ++ List.replicate 15 0#8

/-- The module ends a pass at a double trap (04 R142; 17 R486). -/
def State.doubleTrap (s : State) (k : Nat) (v : Slot) (frame : List Byte) (cause : Nat) : State :=
  let e : PassEnd := .doubleTrap frame
  let s := s.tagEnd k v e
  let s := (s.bump .benchDoubleTrap (k / 96)).raise 0x0401 (k / 96) cause
  s.setSlot k { v with st := .retiring, ended := some e }

/-- A slot traps at its microword (04 R140-R142): the frame is written and counted, and the slot goes to the cause's
vector; in a handler it is a double trap. DESIGN CHOICE: a pass that meets BUDGET again after its handler has returned
finds the handler's allowance as far used as it was; the spec does not say that it is renewed
(notes/assumptions/135.md). -/
def State.trapSlot (s : State) (k : Nat) (v : Slot) (mw : W32) (t : Trap) : State :=
  let frame := trapFrame k v mw t
  let s := s.traceSlot k v (bits mw.toNat 29 16) 1 t.cause t.detail
  let s := { s with clerks := { s.clerks with
    localMem := Memory.writeBytes (memBase k + frameBase + 64 * (k % 6)) frame s.clerks.localMem } }
  let s := s.bump .benchTraps (k / 96) t.cause
  let v := { v with lastIssue := s.cycle }
  if v.trap.isSome then s.doubleTrap k v frame t.cause
  else
    let resume := if t.cause = 8 ∨ t.cause = 9 then v.micro else v.micro + 1#16
    s.wake k { v with trap := some (t.cause, resume), micro := s.goTo (k / 96) (BitVec.ofNat 16 (0x40 + t.cause)) }

/-- The dispatch whose error flag a LOOKUP_FAULT met: that of the first faulty result register the nanoword reads. -/
def State.faultyLookup (s : State) (v : Slot) (nw : BitVec 256) : Option Dispatch :=
  ((nwReads nw (s.aclRegs v.epoch.toNat)).find? fun c => 32 ≤ c ∧ c < 40 ∧ v.resultError (c - 32)).bind fun c =>
    nfind v.lastDispatch (c - 32)

/-! ## Issue (04 R126-R138) -/

/-- A dispatch goes to its engine (04 R137; 05 R156). -/
def State.sendLookup (s : State) (v : Slot) (d : Dispatch) : Slot × State :=
  ({ v with lookups := v.lookups ++ [{ d with cycle := s.cycle }] }, s.bump .lkpDispatch 0 (d.engine - 1))

/-- Where a microword's `seq` leads, or its trap (04 R127, R128, R141): the slot with its next micro address before any
match, and the lookup to repeat. A return to `micro_addr` after LOCAL_ECC issues the reading nanoword again, which
repeats its read. DESIGN CHOICE: a trap return while no trap is being handled is ILLEGAL_OP; the spec does not say
(notes/assumptions/134.md). -/
def seqNext (v : Slot) (mw : W32) (cond : Bool) : Except Trap (Slot × Option Dispatch) :=
  let target := BitVec.ofNat 16 (bits mw.toNat 15 0)
  let next := v.micro + 1#16
  match bits mw.toNat 31 30 with
  | 0 => .ok ({ v with micro := next }, none)
  | 1 => .ok ({ v with micro := if cond then target else next }, none)
  | 2 => if 8 ≤ v.stack.length then .error ⟨3, 7, 0⟩ else .ok ({ v with micro := target, stack := next :: v.stack }, none)
  | _ =>
    if target = 0#16 then
      match v.stack with
      | [] => .error ⟨4, 7, 0⟩
      | a :: rest => .ok ({ v with micro := a, stack := rest }, none)
    else if target = 1#16 then
      match v.trap with
      | some (_, a) => .ok ({ v with micro := a, trap := none, repeatLookup := none }, v.repeatLookup)
      | none => illegal 7
    else illegal 7

/-- COUNT (04 R135; 15 R437). -/
def State.countWord (s : State) (i flen : Nat) : State :=
  if i < 131072 then s.count i 1 flen else s.bump .telCountForeign

/-- The operations of a nanoword take effect together (04 R130); its pass may end (04 R138). -/
def State.applyNano (s : State) (k : Nat) (v : Slot) (e : Effects) (again : Option Dispatch) : State :=
  let s := match e.counter with
    | some i => s.countWord i (hvBits v.hv 6 2)
    | none => s
  let v := e.writes.foldl (fun v w => v.setReg w.1 w.2) v
  let preds := e.preds.foldl (fun (p : BitVec 8) w =>
    let m := BitVec.ofNat 8 (2 ^ w.1)
    if w.2 then p ||| m else p &&& ~~~m) v.preds
  let v := { v with preds := preds }
  let v := match e.window with
    | some (w, d) => { v with window := w, delta := v.delta + d }
    | none => v
  let s := match e.store with
    | some (a, n, x) => { s with clerks := { s.clerks with
        localMem := Memory.writeLe (memBase k + a) x n s.clerks.localMem } }
    | none => s
  let v := match e.load with
    | some (d, x) => { v with loads := v.loads ++ [⟨d, BitVec.ofNat 64 x, s.cycle⟩] }
    | none => v
  let (v, s) := match e.lookup with
    | some d => s.sendLookup v d
    | none => (v, s)
  let (v, s) := match again with
    | some d => s.sendLookup v d
    | none => (v, s)
  match e.finish with
  | some (kind, arg) =>
    let pe : PassEnd := if kind = 0 then .forward else if kind = 1 then .drop arg else .punt arg
    (s.tagEnd k v pe).setSlot k { v with st := .retiring, ended := some pe }
  | none => s.wake k { v with micro := s.goTo (k / 96) v.micro }

/-- A slot issues its nanoword (04 R126-R139). -/
def State.issueSlot (s : State) (k : Nat) (v : Slot) (ecc : Bool) : State :=
  let b := k / 96
  let mw := s.microAt b v.micro.toNat
  let nano := bits mw.toNat 29 16
  let own : Bool := decide (v.trap.map (·.1) = some 10)
  if (own && decide (64 ≤ v.handlerIssued)) || (!own && decide (s.clerks.budget ≤ v.issued)) then
    s.trapSlot k v mw ⟨10, 7, 0⟩
  else
    let s := s.bump .benchNanowords b
    let w := if own then { v with handlerIssued := v.handlerIssued + 1 } else { v with issued := v.issued + 1 }
    let nw := s.nanoAt b nano
    if nano = 0 then s.trapSlot k w mw ⟨0, 7, 0⟩
    else
      let view : View := {
        slot := v, place := k % 6 + k / 6 % 16 * 8 + b * 128, uimm := bits mw.toNat 15 0, ns := nsOf s.units, ecc := ecc }
      let run := view.run (fun a n => Memory.readLe s.clerks.localMem (memBase k + a) n) (s.aclRegs v.epoch.toNat) nw
      match run with
      | .error t =>
        s.trapSlot k (if t.cause = 8 then { w with repeatLookup := s.faultyLookup v nw } else w) mw t
      | .ok e =>
        match e.finish with
        | some (kind, _) =>
          let (x, s) := s.free
          (s.traceSlot k v nano 2 kind x.toNat).applyNano k { w with lastIssue := s.cycle } e none
        | none =>
          match seqNext w mw e.cond with
          | .error t => s.trapSlot k w mw t
          | .ok (w, again) =>
            (s.traceSlot k v nano 0 0 e.alu0).applyNano k { w with lastIssue := s.cycle } e again

/-- The READY slot of a clerk that has been so longest, the lowest number among equals (04 R126). -/
def State.readySlot (s : State) (b c : Nat) : Option Nat :=
  let ks := ((List.range 6).map (slotKey b c)).filter fun k => (s.slotAt k).st = .ready
  bestBy (fun k => - Int.ofNat (s.slotAt k).readyAt) ks

/-- NANOWORD_ISSUE (04 R126-R142): the clerk issues one nanoword from the slot that has been READY longest; a read of
local memory in it may meet an uncorrectable error. -/
def execNanowordIssue (bench : Fin 32) (clerk : Fin 16) (eccError : Bool) (s : State) : Host.Outcome State Fault Refusal :=
  if bench.val < s.variant.benches then
    .next (match s.readySlot bench clerk with
      | some k => s.issueSlot k (s.slotAt k) eccError
      | none => s)
  else .fault .absentUnit

/-! ## Results land (04 R125, R126, R137) -/

/-- Write a lookup result register. -/
def Slot.setResult (v : Slot) (r : Nat) (x : W64) : Slot := { v with l := nset 0#64 r x v.l }

/-- A dispatch's result lands: its registers are that dispatch's from now on, whatever was written there meanwhile; only
the first one has the error flag (04 R137). -/
def Slot.landResult (v : Slot) (d : Dispatch) (r : List W64) : Slot :=
  match r with
  | [a, b] =>
    let v := (v.setResult d.result a).setResult (d.result + 1) b
    { v with lastDispatch := nput d.result d (nerase (d.result + 1) v.lastDispatch) }
  | [a] => { v.setResult d.result a with lastDispatch := nput d.result d v.lastDispatch }
  | _ => v

/-- LOOKUP_RESULT (04 R137; 05 R156-R190): the oldest dispatch into a result register completes; a retiring slot
discards what lands. The row that a search hits may fail its check. -/
def execLookupResult (bench : Fin 32) (clerk : Fin 16) (slot : Fin 6) (result : Fin 8) (memError rowBad waited : Bool)
    (delayed : W32) (s : State) : Host.Outcome State Fault Refusal :=
  if bench.val < s.variant.benches then
    let k := slotKey bench clerk slot
    let v := s.slotAt k
    .next (match v.lookups.find? fun d => d.result = result.val with
      | none => s
      | some d =>
        if s.policerWaits k d then s else
        let (r, s) := (s.countWaits d waited delayed).engineResult v.epoch.toNat d memError rowBad
        let v := { v with lookups := v.lookups.erase d }
        s.wake k (if v.st = .retiring then v else v.landResult d r))
  else .fault .absentUnit

/-- LOCAL_LOAD_LAND (04 R126): the oldest load of a slot lands 3 cycles after its issue. -/
def execLocalLoadLand (bench : Fin 32) (clerk : Fin 16) (slot : Fin 6) (s : State) :
    Host.Outcome State Fault Refusal :=
  if bench.val < s.variant.benches then
    let k := slotKey bench clerk slot
    let v := s.slotAt k
    .next (match v.loads with
      | [] => s
      | d :: rest =>
        if s.cycle < d.cycle + 3 then s
        else if v.st = .retiring then s.setSlot k { v with loads := rest }
        else s.wake k ({ v with loads := rest }.setReg d.dst d.value.toNat))
  else .fault .absentUnit

/-! ## The end of a pass (04 R121, R125, R138, R142) -/

/-- The frame of a pass as its slot holds it, as a packet. -/
def State.passPacket (s : State) (v : Slot) : Packet :=
  let q := v.packet.getD {}
  let data := v.window ++ v.body
  { data := data, len := data.length + 4, port := v.port, epoch := v.epoch, refTime := v.refTime
    colour := min 2 (hvBits v.hv 120 1 % 4), cls := hvBits v.hv 121 1 % 8
    src := if v.egress then q.src else s.myId }

/-- An ingress packet with its forwarding result (01, path, step 4; 04 R123). -/
def State.forwarded (s : State) (v : Slot) : Packet :=
  { s.passPacket v with
    carried := BitVec.ofNat 64 (hvWord v.hv 13), queue := hvBits v.hv 116 4 % 2 ^ 19
    mirror := BitVec.ofNat 16 (hvBits v.hv 122 2)
    tag := if v.tagged then some (nsOf v.refTime, v.port, s.ns) else none }

/-- A packet whose egress pass has rewritten its window (01, path, step 11; 07 R237). -/
def State.rewritten (s : State) (v : Slot) : Packet :=
  let q := v.packet.getD {}
  let data := v.window ++ v.body
  { q with
    data := data, len := data.length + 4, delta := v.delta, mirror := BitVec.ofNat 16 (hvBits v.hv 122 2)
    tag := if v.tagged then some (nsOf v.refTime, v.port, s.ns) else none }

/-- A packet that its egress pass punts, as it returns to the Depot (12 R381). -/
def State.punted (s : State) (v : Slot) (reason : Nat) : Packet :=
  { s.passPacket v with
    delta := v.delta, winNo := (v.packet.getD {}).winNo, hostSource := 2, hostCode := reason }

/-- END_PUNT of an ingress pass: the packet joins the host queue of channel arg[5:0] (12 R383). -/
def State.puntPass (s : State) (v : Slot) (reason : Nat) : State :=
  let c := reason % 64
  let p := { s.passPacket v with hostSource := 1, hostCode := reason }
  if (s.chan c).st = .closed then s.bump .curPuntClosed c
  else match s.hostAdmit c 3 p.len p.colour with
    | (some x, s) => s.toHost c { p with placed := some x, arrival := s.arrivalNow }
    | (none, s) => s

/-- The Depot gives up the packet whose window an egress pass held, when that pass ends by dropping it or is lost
(01 R22; 04 R121). -/
def State.abandon (s : State) (v : Slot) : State :=
  match v.packet with
  | none => s
  | some q =>
    match s.queues.away.find? fun x => x.packet.winNo = q.winNo with
    | some x => State.freePacket { s with queues := { s.queues with away := s.queues.away.erase x } } x.packet (ofQueue x.queue)
    | none => s

/-- The module takes the result of a finished pass (04 R121, R138, R142; 06 R218); an egress pass's punt is served when
its window is back in the Depot. -/
def State.takeResult (s : State) (v : Slot) (e : PassEnd) : State :=
  match e with
  | .forward => s
  | .drop r =>
    let s := s.bump .dropReason 0 r
    if s.buffers.dlqReasons.getLsbD r then s.dlqNew 5 (List.replicate 64 0#8) (s.passPacket v) else s
  | .punt r => if v.egress then s.bump .puntReason 0 r else (s.bump .puntReason 0 r).puntPass v r
  | .doubleTrap frame => s.dlqNew 3 frame (s.passPacket v)

/-- What goes on from a finished pass; one that dropped its packet, and a double trap, hand nothing on (04 R121, R142). -/
def State.crossing (s : State) (v : Slot) (e : PassEnd) : Option Crossing :=
  match e with
  | .forward => some (if v.egress then .rewritten (s.rewritten v) true else .ingress (s.forwarded v))
  | .punt r => if v.egress then some (.rewritten (s.punted v r) false) else none
  | _ => none

/-- Hand-off positions of packets that were dropped are passed over (04 R121). -/
def State.skipSeq (s : State) (port : Nat) (egress : Bool) : Nat → State
  | 0 => s
  | n + 1 =>
    let k := 2 * port + b2n egress
    let at_ := nget 0 s.clerks.handSeq k
    match s.clerks.finished.find? fun f => f.port = port ∧ f.egress = egress ∧ f.seqNo = at_ with
    | some f =>
      if f.load.isSome then s
      else State.skipSeq { s with clerks := { s.clerks with
        finished := s.clerks.finished.erase f, handSeq := nset 0 k (at_ + 1) s.clerks.handSeq } } port egress n
    | none => s

/-- A finished pass waits for its hand-off (04 R121). -/
def State.pushFinished (s : State) (f : Finished) : State :=
  { s with clerks := { s.clerks with finished := s.clerks.finished ++ [f] } }

/-- A finished pass has been handed on: its blocks are free and the next position is due (04 R115, R121). -/
def State.handed (t : State) (f : Finished) : State :=
  let t := t.freeBlocks f.port f.blocks
  let k := 2 * f.port + b2n f.egress
  let t := { t with clerks := { t.clerks with
    finished := t.clerks.finished.erase f, handSeq := nset 0 k (f.seqNo + 1) t.clerks.handSeq } }
  t.skipSeq f.port f.egress t.clerks.finished.length

/-- SLOT_RETIRE (04 R121, R125): nothing is in flight, intake takes the result, the slot is FREE. `rivals` are the
classes that want the same last buffer as a punt or a dead letter (06 R199). -/
def execSlotRetire (bench : Fin 32) (clerk : Fin 16) (slot : Fin 6) (rivals : List Rival) (s : State) :
    Host.Outcome State Fault Refusal :=
  if bench.val < s.variant.benches then
    let k := slotKey bench clerk slot
    let v := s.slotAt k
    .next (match v.ended with
      | none => s
      | some e =>
        if v.st ≠ .retiring ∨ v.lookups ≠ [] ∨ v.loads ≠ [] then s
        else
          let s := if v.egress then s.bump .benchPassesOut bench else s.bump .benchPassesIn bench
          let load := s.crossing v e
          let s := s.contest rivals fun s => s.takeResult v e
          let s := if load = none then (s.freeBlocks v.port v.blocks).abandon v else s
          let f : Finished := {
            port := v.port, egress := v.egress, seqNo := v.seqNo, load := load
            blocks := if load = none then {} else v.blocks }
          (s.pushFinished f).setSlot k {} |>.skipSeq v.port v.egress (s.clerks.finished.length + 1))
  else .fault .absentUnit

/-- The next hand-off of a port and direction, when its pass has finished (04 R121). -/
def State.handReady (s : State) (port : Nat) (egress : Bool) : Option Finished :=
  let at_ := nget 0 s.clerks.handSeq (2 * port + b2n egress)
  s.clerks.finished.find? fun f => f.port = port ∧ f.egress = egress ∧ f.seqNo = at_

/-- A rewritten window waits for its hand-off. -/
def State.egressReady (s : State) : Bool :=
  s.clerks.finished.any fun f => f.egress && decide (s.handReady f.port true = some f)

/-- PASS_HANDOFF (04 R121; 01 R25, R28, R29): the next finished pass of a port crosses to the Depot on a live link;
with two links or fewer, ingress packets wait behind rewritten windows. -/
def execPassHandoff (port : Fin 192) (egress : Bool) (s : State) : Host.Outcome State Fault Refusal :=
  .next (match s.handReady port egress with
    | none => s
    | some f =>
      match f.load with
      | none => s
      | some x =>
        if ¬ egress ∧ s.liveD2d.length ≤ 2 ∧ s.egressReady then s
        else match s.sendFlit true x with
          | none => s
          | some t => t.handed f)

/-! ## Loading, draining and disabling benches (04 R147-R151) -/

/-- Power domain of a bench (16 R456). -/
def benchDomain (b : Nat) : Nat := 1 + b

/-- A bench stops taking passes and drains (04 R149 step 1). -/
def State.drainBench (s : State) (b : Nat) (why : DrainFor) : State :=
  (s.setBench b { s.bench b with st := .draining, drain := why }).updateMap

/-- A bench is to reload, for a load or for R151: it drains, or waits while another reloads (04 R148). -/
def State.startLoad (s : State) (b : Nat) (why : DrainFor) : State :=
  let v := s.bench b
  match s.clerks.reloading with
  | some _ =>
    let t := s.setBench b { v with st := .waiting, drain := why }
    if v.st = .live then t.bump .benchReloadWait else t
  | none => State.drainBench { s with clerks := { s.clerks with reloading := some b } } b why

/-- BENCH_SWITCH (04 R148; 02 R56, R57). -/
def execBenchSwitch (bench : Fin 32) (s : State) : Host.Outcome State Fault Refusal :=
  let v := s.bench bench
  .next (
    if ¬ v.live ∨ ¬ v.enabled then s
    else if v.st = .waiting then s.startLoad bench v.drain
    else match s.pageDue v.page with
      | .wait => s
      | .switch => s.startLoad bench .load
      | .defer => (s.setBench bench { v with page := { v.page with state := .deferred } }).pageDeferred 4 bench 0)

/-- BENCH_DRAIN_COMPLETE (04 R149 step 3, R150): no pass is left on a draining bench. -/
def execBenchDrainComplete (bench : Fin 32) (s : State) : Host.Outcome State Fault Refusal :=
  let v := s.bench bench
  .next (
    if v.st ≠ .draining ∨ s.busyBench bench ≠ 0 then s
    else match v.drain with
      | .disable =>
        let s := s.setBench bench { v with st := .off, letter := none }
        ((s.askDomain (benchDomain bench) false).release? v.letter).updateMap
      | _ =>
        if s.clerks.reloading = none ∨ s.clerks.reloading = some bench.val then
          State.setBench { s with clerks := { s.clerks with reloading := some bench.val } } bench { v with st := .reloading }
        else s)

/-- Entries of a bench in a store replaced by its staged ones. -/
def swapStore {α : Type} (span b : Nat) (act inp : NMap α) : NMap α :=
  (act.filter fun e => e.1 / span < b) ++ (inp.filter fun e => e.1 / span = b) ++ (act.filter fun e => b < e.1 / span)
/-- A store without a bench's entries. -/
def clearStore {α : Type} (span b : Nat) (m : NMap α) : NMap α := m.filter fun e => e.1 / span ≠ b

/-- The staged content of a bench becomes active; the content it replaces is kept until the next load (04 R149 step 4). -/
def State.swapBench (s : State) (b : Nat) : State :=
  { s with clerks := { s.clerks with
      microOld := swapStore 65536 b s.clerks.microOld s.clerks.micro
      nanoOld := swapStore 16384 b s.clerks.nanoOld s.clerks.nano
      matchOld := swapStore 64 b s.clerks.matchOld s.clerks.matchRegs
      micro := swapStore 65536 b s.clerks.micro s.clerks.microIn
      nano := swapStore 16384 b s.clerks.nano s.clerks.nanoIn
      matchRegs := swapStore 64 b s.clerks.matchRegs s.clerks.matchIn
      microIn := clearStore 65536 b s.clerks.microIn
      nanoIn := clearStore 16384 b s.clerks.nanoIn
      matchIn := clearStore 64 b s.clerks.matchIn } }

/-- The reload in progress ends. -/
def State.endReload (s : State) (b : Nat) : State :=
  if s.clerks.reloading = some b then { s with clerks := { s.clerks with reloading := none } } else s

/-- BENCH_RELOAD_CHECK (04 R149-R151): the read-back of a reload, or of a power-up, has been compared. -/
def execBenchReloadCheck (bench : Fin 32) (readBackOk : Bool) (s : State) : Host.Outcome State Fault Refusal :=
  let v := s.bench bench
  let b := bench.val
  .next (
    if v.st = .checking then
      if ¬ s.domain (benchDomain b) then s
      else if readBackOk then ((s.setBench b { v with st := .live }).clearFault 0x0403 b).updateMap
      else ((s.setBench b { v with st := .off, enabled := false }).askDomain (benchDomain b) false).raise 0x0402 b
    else if v.st ≠ .reloading then s
    else
      let s := s.endReload b
      match v.drain with
      | .load =>
        if readBackOk then
          let s := (s.swapBench b).setBench b { v with
            st := .live, modeP := v.stagedP, version := v.stagedVersion, level := v.stagedLevel, page := {}
            oldP := v.modeP, oldVersion := v.version, oldLevel := v.level, fromImage := false
            stagedVersion := 0#32, stagedLevel := 0#8, stagedP := true, rollout := false }
          (s.pageSwitched 4 b 0).updateMap
        else
          let s := s.setBench b { v with st := .live, page := { state := .loaded } }
          (s.raise 0x0402 b).updateMap
      | _ =>
        let s := (s.setBench b { v with st := .live }).updateMap
        if readBackOk then s else s.raise 0x0402 b)

/-- CONTROL_STORE_ERROR (04 R142, R151): the pass of the slot ends as at a double trap, and the bench reloads its
active content; a second error within 1 s disables it. The frame's cause has no code, so it is free. -/
def execControlStoreError (bench : Fin 32) (clerk : Fin 16) (slot : Fin 6) (s : State) :
    Host.Outcome State Fault Refusal :=
  if bench.val < s.variant.benches then
    let b := bench.val
    let k := slotKey bench clerk slot
    let v := s.slotAt k
    let bn := s.bench b
    .next (
      if bn.st = .off then s
      else
        let s := if v.st = .ready ∨ v.st = .waiting then
            let (x, s) := s.free
            let t : Trap := ⟨x.toNat % 64, 7, 0⟩
            s.doubleTrap k v (trapFrame k v (s.microAt b v.micro.toNat) t) t.cause
          else s
        let again : Bool := match bn.lastError with
          | some t => decide (s.up ≤ t + 1000000000)
          | none => false
        let s := s.setBench b { bn with lastError := some s.up, enabled := bn.enabled && !again }
        let s := if again then s.condition 0x0403 b true else s
        if again then (s.endReload b).drainBench b .disable
        else if bn.live then s.startLoad b .recover
        else s)
  else .fault .absentUnit

end Sys2Proof.Machine
end

