-- ==== Sys2Proof/Machine/Buffers.lean ====
section
/-!
DEFINITION. Buffers.lean: admission of packets from the Sorter, frees, dead-letter delivery, cut-through, and the BUFFER
and MIRROR letters (06 R192-R224; 10 R344, groups 0x0A and 0x15).
-/

namespace Sys2Proof.Machine

/-! ## Cut-through state -/

/-- Cut-through settings and progress of a port. -/
def State.cut (s : State) (p : Nat) : CutThrough := nget {} s.buffers.ct p
/-- Write them. -/
def State.setCut (s : State) (p : Nat) (v : CutThrough) : State :=
  { s with buffers := { s.buffers with ct := nset {} p v s.buffers.ct } }
/-- The oldest packet from the Sorter has crossed. -/
def State.popSorter (s : State) : State := { s with buffers := { s.buffers with fromSorter := s.buffers.fromSorter.drop 1 } }

/-- A packet of a VOQ that a port is still filling (06 R221). -/
def Packet.filling (port : Nat) (r : Packet) : Bool := !r.whole && decide (r.port = port)

/-- The last octet of a cut-through packet is in its buffer, or never will be (06 R221). -/
def Packet.complete (p : Packet) (data : List Byte) (poisoned : Bool) (r : Packet) : Packet :=
  if r.filling p.port then { r with data := data, whole := true, poisoned := poisoned, mirror := p.mirror } else r

/-! ## What a VOQ gives its packets (07 R227; 08 R264, R284) -/

/-- Stream of a VOQ: its destination's, or the multicast stream. -/
def Queue.stream (v : Queue) : Nat := if v.mcast then 128 else v.destModule

/-- A packet's bytes in its stream: the header that its VOQ gives it, and the frame without its FCS (07 R227; 08 R264). -/
def Queue.bytes (v : Queue) (p : Packet) : List Byte :=
  let c := p.carried.toNat
  (if v.mcast then packetHeader p 0 0 (bits c 31 16)
    else packetHeader p ((v.eqBase + (c % 65536 &&& v.eqMask.toNat)) % 2 ^ 19) v.destPort 0) ++ p.data

/-- A packet leaves its VOQ and is charged to its credit (08 R284). -/
def State.voqLeave (s : State) (q : Nat) (p : Packet) : Packet × State :=
  let v := s.queue q
  let s := s.unlink q
  let (p, s) := s.tagQueue p
  let s := s.count (qDeqIndex q) 1 p.len
  if v.mcast then (p, s)
  else
    let s := s.setQueue q { s.queue q with balance := v.balance - p.len }
    (p, if v.balance - p.len ≤ 0 then
        { s with queues := { s.queues with credited := s.queues.credited.filter (· ≠ q) } } else s)

/-- The rest of a cut-through packet whose first cell has left goes into its stream; one that has left its VOQ since is
ended with zeros and poisoned (06 R221; notes/assumptions/141.md). -/
def State.sendRest (s : State) (p : Packet) (q n : Nat) (data : List Byte) (poisoned : Bool) : State :=
  let v := s.queue q
  match v.packets.head?.filter (Packet.filling p.port) with
  | some r =>
    let (w, s) := s.voqLeave q (p.complete data poisoned r)
    let s := if (s.txStream v.stream).cut = some q then s.packLast v.stream w ((v.bytes w).drop n) else s
    s.freePacket w (ofQueue q)
  | none =>
    if (s.txStream v.stream).cut = some q then
      s.packLast v.stream { p with poisoned := true } (List.replicate (16 + p.data.length - n) 0#8)
    else s

/-- End the ingress cut-through of a port (06 R221). -/
def State.endIngressCut (s : State) (p : Packet) (r : CutRun) (data : List Byte) (poisoned : Bool) : State :=
  let s := match r.sent with
    | some n => s.sendRest p r.queue n data poisoned
    | none => s.setQueue r.queue { s.queue r.queue with
        packets := (s.queue r.queue).packets.map (p.complete data poisoned) }
  (s.setCut p.port { s.cut p.port with running := none }).popSorter

/-- The octets of a packet that can be sent on, at least the first `m`; how many more is open, but not all (06 R221). -/
def arrived (m len free : Nat) : Nat := if len ≤ m then len else m + free % (len - m)

/-- The frame of a packet that went bad: zeros where the data is missing, at least its first `m` octets kept (06 R221). -/
def State.brokenData (s : State) (p : Packet) (m : Nat) : List Byte × State :=
  let (w, s) := s.free
  let n := arrived m p.data.length w.toNat
  (p.data.take n ++ List.replicate (p.data.length - n) 0#8, s)

/-! ## Admission of packets from the Sorter (06 R209; 01, path of one packet) -/

/-- Admit a packet to its VOQ for class INGRESS and link it; a VOQ that does not exist takes nothing
(notes/assumptions/52.md). -/
def State.voqAdmit (s : State) (p : Packet) : State :=
  if 131072 ≤ p.queue ∨ ¬ (s.queue p.queue).present then s
  else match s.admitIn p.queue 0 p.len p.colour (ofQueue p.queue) with
    | (some x, s) => s.enqueue p.queue { p with placed := some x, arrival := s.arrivalNow }
    | (none, s) => s

/-- The last octet of a packet in cut-through has come: an uncorrectable error in reading it after its first cell has
left (`readError`) poisons it (06 R221). -/
def State.lastOctet (s : State) (p : Packet) (r : CutRun) (readError : Bool) : State :=
  if readError ∧ r.on ∧ r.sent.isSome then
    let (data, s) := s.brokenData p 512
    (s.endIngressCut p r data true).bump .ctInPoisoned p.port
  else s.endIngressCut p r p.data false

/-- INGRESS_ADMISSION (06 R209, R215, R216): the oldest packet from the Sorter is admitted to its VOQ or dropped, and
its copy request is served whatever the outcome. For a packet in cut-through it is the arrival of the last octet.
`rivals` are the classes that want the same last buffer in the same Depot cycle (R199). -/
def execIngressAdmission (rivals : List Rival) (readError : Bool) (s : State) : Host.Outcome State Fault Refusal :=
  .next (match s.buffers.fromSorter with
    | [] => s
    | p :: _ => s.contest rivals fun s =>
      match (s.cut p.port).running with
      | some r => (s.lastOctet p r readError).mirrorCopy p
      | none =>
        let s := s.popSorter
        let (p, s) := s.tagHandoff p
        (s.voqAdmit p).mirrorCopy p)

/-- A packet may start ingress cut-through (06 R221). -/
def State.mayCutIn (s : State) (p : Packet) : Bool :=
  let v := s.cut p.port
  let q := s.queue p.queue
  v.ingress && v.running.isNone && decide (v.ctMin ≤ p.len) && decide (p.queue < 131072) && q.present && !q.mcast &&
    p.firstAlone && decide (Int.ofNat p.len ≤ q.balance)

/-- A packet is admitted and linked before it is whole; one that R209 would place in the deep tier waits to be whole, for
cut-through takes a shallow buffer (06, cut-through). -/
def State.cutIn (s : State) (p : Packet) (port : Nat) : State :=
  let (w, t) := s.tagHandoff p
  let t := { t with buffers := { t.buffers with fromSorter := w :: t.buffers.fromSorter.drop 1 } }
  match t.admitIn w.queue 0 w.len w.colour (ofQueue w.queue) with
  | (some x, t) =>
    if bufTier x.buf = 1 then s
    else
      let t := t.enqueue w.queue { w with placed := some x, ct := true, whole := false, arrival := t.arrivalNow }
      (t.setCut port { t.cut port with running := some { queue := w.queue, first := w.firstAt } }).bump .ctInStarted port
  | (none, t) => t.popSorter.mirrorCopy w

/-- CT_INGRESS_START (06 R221): the packet is admitted and linked before it is whole. -/
def execCtIngressStart (port : Fin 192) (rivals : List Rival) (s : State) : Host.Outcome State Fault Refusal :=
  .next (match s.buffers.fromSorter with
    | [] => s
    | p :: _ => if p.port ≠ port.val ∨ ¬ s.mayCutIn p then s else s.contest rivals fun s => s.cutIn p port)

/-- CT_INGRESS_TIMEOUT (06 R221): 10 us after the first octet the last one is still missing; the rest is sent as zeros
and the tail cell is poisoned. Its copy request is served (R216). -/
def execCtIngressTimeout (port : Fin 192) (s : State) : Host.Outcome State Fault Refusal :=
  .next (match s.buffers.fromSorter, (s.cut port).running with
    | p :: _, some r =>
      if p.port ≠ port.val ∨ ¬ r.on ∨ s.up < r.first + 10000 then s
      else
        let (data, s) := s.brokenData p 512
        ((s.endIngressCut p r data true).bump .ctInPoisoned port).mirrorCopy { p with data := data }
    | _, _ => s)

/-! ## Egress cut-through (06 R222) -/

/-- The packet under reassembly for a queue, with the key of its stream. -/
def State.partialOf (s : State) (q : Nat) : Option (Nat × Partial) :=
  s.fabric.rx.findSome? fun e => match e.2.open_ with
    | some p => if (p.admitted.map (·.1)).head? = some q then some (e.1, p) else none
    | none => none

/-- Write back the packet under reassembly of a stream. -/
def State.setPartial (s : State) (k : Nat) (p : Partial) : State := s.setRx k { s.rxStream k with open_ := some p }

/-- CT_EGRESS_START (06 R222): the packet under reassembly becomes selectable at the head of its queue. -/
def execCtEgressStart (queue : BitVec 19) (s : State) : Host.Outcome State Fault Refusal :=
  let q := queue.toNat
  .next (match s.partialOf q with
    | none => s
    | some (k, p) => match p.admitted with
      | (_, x) :: [] =>
        let v := s.cut p.packet.dstPort
        if ¬ v.egress ∨ ¬ p.alone ∨ p.packet.ct ∨ p.packet.poisoned ∨ (s.queue q).packets ≠ [] ∨ bufTier x.buf = 1 ∨
            p.packet.data.length < v.ctStart then s
        else
          let r := { p.packet with ct := true }
          let s := s.setPartial k { p with packet := r }
          (s.enqueue q { r with placed := some x, whole := false, queue := q, port := s.portOf q r }).bump .ctEgStarted
            r.dstPort
      | _ => s)

/-- A cut-through packet of a queue on its way out, all of it in its buffer. -/
def State.cutAway (s : State) (q : Nat) : Option Packet :=
  ((s.queues.selected ++ s.queues.away).find? fun r => r.queue = q ∧ r.packet.ct ∧ ¬ r.packet.poisoned).map (·.packet)

/-- CT_EGRESS_ABORT (06 R222): the packet goes bad for a cause, 0-3 in the order of R222. -/
def execCtEgressAbort (queue : BitVec 19) (cause : Fin 4) (s : State) : Host.Outcome State Fault Refusal :=
  let q := queue.toNat
  let late : State := match s.cutAway q with
    | some r =>
      let bad (x : Selected) : Selected :=
        if x.queue = q ∧ x.packet.ct then { x with packet := { x.packet with poisoned := true } } else x
      { s with queues := { s.queues with selected := s.queues.selected.map bad, away := s.queues.away.map bad } }.bump
        .ctEgAborted r.dstPort cause
    | none => s
  .next (match s.partialOf q with
    | some (k, p) => if p.linked ∧ ¬ p.back then (s.abortCt p cause).setPartial k p.bad else late
    | none => late)

/-! ## Frees (06 R202, R203) -/

/-- BUFFER_FREE (06 R202, R203): the owner's free succeeds; a double or a foreign one is ignored, counted and raised. -/
def execBufferFree (buffer : BufId) (agent : Owner) (s : State) : Host.Outcome State Fault Refusal :=
  .next (s.freeAs buffer agent)

/-! ## Dead-letter delivery (06 R220) -/

/-- The 16-byte header of a dead-letter record. -/
def dlqHeader (e : DlqEntry) : List Byte :=
  leBytes (e.cause * 2 ^ 120 + min 255 e.packet.port * 2 ^ 112 + e.queue % 2 ^ 19 * 2 ^ 93 + e.packet.src % 2 ^ 7 * 2 ^ 86 +
    e.packet.len % 2 ^ 14 * 2 ^ 72 + e.seconds.toNat * 2 ^ 32 + e.nanoseconds.toNat) 16

/-- Pad bytes with zeros to a multiple of 64. -/
def pad64 (bs : List Byte) : List Byte := bs ++ List.replicate ((bs.length + 63) / 64 * 64 - bs.length) 0#8

/-- One dead-letter record. -/
def dlqRecord (e : DlqEntry) (snap : Nat) : List Byte :=
  pad64 (dlqHeader e ++ bslice e.annotation 0 64 ++ e.packet.data.take (min e.packet.len snap))

/-- The oldest entry leaves the dead-letter queue, its descriptor taken and its buffer free (06 R206, R220). -/
def State.dlqLeave (s : State) (p : Packet) : State :=
  ((({ s with buffers := { s.buffers with dlq := s.buffers.dlq.drop 1 } } : State).takeDescriptor dlqObject p).freePacket p .dlq)

/-- DLQ_DELIVER (06 R211, R212, R220): the oldest entry is written as one record when the ring has room; after a bus
error it waits (notes/assumptions/55.md). A packet in the deep tier is read first, as a requester of class TX
(notes/assumptions/142.md); one lost to a memory error is discarded (09 R302). -/
def execDlqDeliver (hasRoom busOk : Bool) (s : State) : Host.Outcome State Fault Refusal :=
  .next (match s.buffers.dlq, s.buffers.dlqRing with
    | e :: rest, some (ring, depth) =>
      if ¬ hasRoom ∨ ¬ busOk ∨ ¬ s.mayRequest 0 then s
      else match s.headIs e.packet with
        | .fenced => s
        | .coming => s
        | .lost => s.dlqLeave e.packet
        | .deep =>
          let e := { e with packet := { e.packet with fetching := true } }
          State.readDeep { s with buffers := { s.buffers with dlq := e :: rest } } .tx e.packet
        | .here =>
          let rec_ := dlqRecord e s.buffers.dlqSnap
          let at_ := s.buffers.dlqProduced
          let s := { s with buffers := { s.buffers with dlqProduced := s.buffers.dlqProduced + 1 } }
          ((s.emit (.record 66 ring (at_ % depth) rec_)).dlqLeave e.packet).bump .dlqDelivered
    | _, _ => s)

/-! ## BUFFER letters (10 R344, group 0x0A) -/

/-- Granules of a pool. -/
def State.poolGranules (s : State) (p : Nat) : List Nat := (List.range 288).filter fun g => s.granule g = p

/-- Take the `n` elements of least measure, the earliest on a tie. -/
def takeLeast (f : Nat → Nat) : Nat → List Nat → List Nat
  | 0, _ => []
  | n + 1, l => match bestBy (fun x => - Int.ofNat (f x)) l with
    | some x => x :: takeLeast f n (l.erase x)
    | none => []

/-- The granules to move for a new split, each with the pool it goes to (06 R194). -/
def State.pickGranules (s : State) (want : Nat → Nat) : NMap Nat :=
  let picked := (List.range 4).flatMap fun p =>
    let gs := s.poolGranules p
    takeLeast (fun g => (s.granuleUsed g).length) (gs.length - want p) gs
  let targets := (List.range 4).flatMap fun p => List.replicate (want p - (s.poolGranules p).length) p
  (picked.zip targets).foldl (fun m e => nput e.1 e.2 m) []

/-- BUFFER.SET_POOLS (06 R194). -/
def execBufferSetPools (l : LetterId) (g0 g1 g2 g3 : W32) (s : State) : Host.Outcome State Fault Refusal :=
  .next (runLetter l 0x0A01 [p4 g0, p4 g1, p4 g2, p4 g3] (fun _ =>
    let w := [g0.toNat, g1.toNat, g2.toNat, g3.toNat]
    let bad (i : Nat) : Bool := decide (w.getD i 0 < 8) || decide (264 < w.getD i 0)
    checked ([0, 1, 2, 3].map (fun i => malformed (bad i) i) ++
      [malformed (decide (w.sum ≠ 288)) 3, busy (!s.buffers.moving.isEmpty)]) fun _ =>
    let m := s.pickGranules fun i => w.getD i 0
    let body := layBody [p4 g0, p4 g1, p4 g2, p4 g3]
    let t := State.moveGranules { s with buffers := { s.buffers with moving := m } }
    if t.buffers.moving = [] then accept t body
    else acceptWait { t with buffers := { t.buffers with poolsLetter := some l } } body) s)

/-- Whole pool space of a tier (06 R193, R195). -/
def State.poolSpace (s : State) (tier : Nat) : Nat :=
  if tier = 0 then 180 * 1048576 else 568 * 1048576 * (64 * s.variant.hbmStacks)

/-- Sum of `guaranteed` over the queues of class INGRESS or FABRIC under some profiles and bindings (06 R208). -/
def guaranteedSum (queues : NMap Queue) (profile : Nat → Admission) (egress : Bool) : Nat :=
  queues.foldl (fun n e => if e.2.present ∧ isEgress e.1 = egress then n + (profile e.2.admission).guaranteed else n) 0

/-- The guaranteed sums exceed a reserve (06 R208). -/
def overGuaranteed (queues : NMap Queue) (profile : Nat → Admission) (reserve : Nat → Nat) : Bool :=
  decide (reserve 0 < guaranteedSum queues profile false) || decide (reserve 1 < guaranteedSum queues profile true)

/-- Shallow reserve of a class. -/
def State.shallowReserve (s : State) (k : Nat) : Nat := (s.bufClass k).shallowReserve

/-- BUFFER.SET_CLASS (06 R196, R208). -/
def execBufferSetClass (l : LetterId) (cls : W32) (shallowReserve shallowLimit deepReserve deepLimit : W64) (s : State) :
    Host.Outcome State Fault Refusal :=
  .next (runLetter l 0x0A02 [p4 cls, p8 shallowReserve, p8 shallowLimit, p8 deepReserve, p8 deepLimit] (fun _ =>
    let k := cls.toNat
    let o := s.bufClass k
    let m := 1048576
    let sr := clampU 64 shallowReserve.toNat 0 (64 * m) (some o.shallowReserve)
    let sl := clampU 64 shallowLimit.toNat 0 (180 * m) (some o.shallowLimit)
    let dr := clampU 64 deepReserve.toNat 0 (64 * 1024 * m) (some o.deepReserve)
    let dl := clampU 64 deepLimit.toNat 0 (284 * 1024 * m) (some o.deepLimit)
    let v : BufClass := ⟨sr.v, sl.v, dr.v, dl.v⟩
    let t := { s with buffers := { s.buffers with classes := nset (classDefault k) k v s.buffers.classes } }
    let sum (tier : Nat) : Nat := ([0, 1, 2, 3, 4].map fun j => (t.bufClass j).reserve tier).sum
    checked [malformed (decide (4 < k)) 0,
      notPermitted (decide (s.poolSpace 0 < sum 0) || overGuaranteed s.queues.queues s.admission t.shallowReserve) 1,
      notPermitted (decide (s.poolSpace 1 < sum 1)) 3] fun _ =>
    accept t (layBody [p4 cls, n8 sr.v, n8 sl.v, n8 dr.v, n8 dl.v])
      (firstClamp [(1, sr.c), (2, sl.c), (3, dr.c), (4, dl.c)])) s)

/-- BUFFER.SET_ADMISSION (06 R208). -/
def execBufferSetAdmission (l : LetterId) (a : AdmissionArgs) (s : State) : Host.Outcome State Fault Refusal :=
  .next (runLetter l 0x0A03 [p4 a.profile, p8 a.guaranteed, p4 a.spillEnable, p8 a.spill, p4 a.alphaShallow,
      p4 a.alphaDeep, p8 a.max, p4 a.yellow, p4 a.red] (fun c =>
    let i := a.profile.toNat
    let o := s.admission i
    let m := 1048576
    let g := clampU 64 a.guaranteed.toNat 0 (16 * m) (some o.guaranteed)
    let sp := clampU 64 a.spill.toNat 0 (64 * m) (some o.spill)
    let as := clampS 32 a.alphaShallow.toNat (-7) 3 (some o.alphaShallow)
    let ad := clampS 32 a.alphaDeep.toNat (-7) 3 (some o.alphaDeep)
    let mx := clampU 64 a.max.toNat 2048 (64 * 1024 * m) (some o.max)
    let y := clampU 32 a.yellow.toNat 0 16 (some o.yellow)
    let r := clampU 32 a.red.toNat 0 16 (some o.red)
    let v : Admission := {
      configured := true, guaranteed := g.v, spillEnable := a.spillEnable = 1#32, spill := sp.v, alphaShallow := sv as
      alphaDeep := sv ad, max := mx.v, yellow := y.v, red := r.v }
    let after (j : Nat) : Admission := if j = i then v else s.admission j
    checked [malformed (decide (1 < a.spillEnable.toNat)) 2, malformed (decide (1023 < i)) 0,
      noObj (decide (s.owner 0x15 i ≠ c.sl)) 0,
      notPermitted (overGuaranteed s.queues.queues after s.shallowReserve) 1] fun _ =>
    accept { s with buffers := { s.buffers with admissions := nset {} i v s.buffers.admissions } }
      (layBody [p4 a.profile, n8 g.v, p4 a.spillEnable, n8 sp.v, p4s (sv as), p4s (sv ad), n8 mx.v, n4 y.v, n4 r.v])
      (firstClamp [(1, g.c), (3, sp.c), (4, sc as), (5, sc ad), (6, mx.c), (7, y.c), (8, r.c)])) s)

/-- BUFFER.SET_DLQ (06 R218-R220; 12 R389): a new ring withdraws what was on its way to the old one. Address 0 names no
ring (notes/assumptions/55.md). -/
def execBufferSetDlq (l : LetterId) (a : DlqArgs) (s : State) : Host.Outcome State Fault Refusal :=
  .next (runLetter l 0x0A04 [p4 a.mask, pLe a.reasons.toNat 64, p8 a.limit, p8 a.snap, p8 a.ring, p4 a.depth] (fun _ =>
    let u := s.buffers
    let lim := clampU 64 a.limit.toNat 0 (64 * 1048576) (some u.dlqLimit)
    let snap := clampU 64 a.snap.toNat 64 9728 (some u.dlqSnap)
    let ring : Option (W64 × Nat) := if a.ring = 0#64 then none else some (a.ring, a.depth.toNat)
    checked [malformed (decide (a.mask &&& 0x3E#32 ≠ a.mask)) 0,
      malformed (decide (a.ring ≠ 0#64 ∧ a.depth = 0#32)) 5] fun _ =>
    let s := if u.dlqRing.isSome ∧ ring ≠ u.dlqRing ∧ u.dlq ≠ [] then s.bump .curWithdrawn 2 else s
    accept { s with buffers := { s.buffers with
        dlqMask := a.mask, dlqReasons := a.reasons, dlqLimit := lim.v, dlqSnap := snap.v, dlqRing := ring
        dlqProduced := if ring = u.dlqRing then u.dlqProduced else 0 } }
      (layBody [p4 a.mask, pLe a.reasons.toNat 64, n8 lim.v, n8 snap.v, p8 a.ring, p4 a.depth])
      (firstClamp [(2, lim.c), (3, snap.c)])) s)

/-- A port's ingress cut-through is off: a packet whose first cell has not left waits to be whole (06 R223). -/
def State.turnBackIn (s : State) (p : Nat) : State :=
  let v := s.cut p
  match v.running with
  | some r =>
    if r.sent.isSome then s
    else
      let back (x : Packet) : Packet := if x.filling p then { x with ct := false } else x
      (s.setQueue r.queue { s.queue r.queue with packets := (s.queue r.queue).packets.map back }).setCut p { v with
        running := some { r with on := false } }
  | none => s

/-- A port's egress cut-through is off: no octet of a packet that is not whole has left for the MAC, so each waits to be
whole (06 R223). -/
def State.turnBackOut (s : State) (p : Nat) : State :=
  let mine (x : Packet) : Bool := x.ct && !x.poisoned && decide (x.dstPort = p)
  let back (x : Packet) : Packet := if mine x && x.early then { x with ct := false } else x
  let sel (x : Selected) : Selected := { x with packet := back x.packet }
  let rx (r : RxStream) : RxStream := match r.open_ with
    | some x => if mine x.packet then { r with open_ := some { x with back := true } } else r
    | none => r
  { s with
    queues := { s.queues with
      queues := s.queues.queues.map fun e => (e.1, { e.2 with packets := e.2.packets.map back })
      selected := s.queues.selected.map sel
      away := s.queues.away.map sel }
    fabric := { s.fabric with rx := s.fabric.rx.map fun e => (e.1, rx e.2) } }

/-- BUFFER.SET_CUT_THROUGH (06 R221-R223). -/
def execBufferSetCutThrough (l : LetterId) (port ingress egress : W32) (ctMin ctStart : W64) (s : State) :
    Host.Outcome State Fault Refusal :=
  .next (runLetter l 0x0A05 [p4 port, p4 ingress, p4 egress, p8 ctMin, p8 ctStart] (fun c =>
    let p := port.toNat
    let o := s.cut p
    let cm := clampU 64 ctMin.toNat 512 9728 (some o.ctMin)
    let cs := clampU 64 ctStart.toNat 256 4096 (some o.ctStart)
    checked [malformed (decide (1 < ingress.toNat)) 1, malformed (decide (1 < egress.toNat)) 2,
      noObj (!s.portExists c.sl p) 0] fun _ =>
    let t := s.setCut p { o with ingress := ingress = 1#32, egress := egress = 1#32, ctMin := cm.v, ctStart := cs.v }
    let t := if ingress = 1#32 then t else t.turnBackIn p
    accept (if egress = 1#32 then t else t.turnBackOut p)
      (layBody [p4 port, p4 ingress, p4 egress, n8 cm.v, n8 cs.v]) (firstClamp [(3, cm.c), (4, cs.c)])) s)

/-! ## MIRROR letters (10 R344, group 0x15) -/

/-- A mirror destination exists for a slice: an existing queue, or a channel, of the slice (06 R214; 11 R356;
notes/assumptions/24.md). -/
def State.mirrorTarget (s : State) (sl d : Nat) : Bool :=
  if bit d 31 then decide (d % 2 ^ 31 < 64) && decide (s.owner 0x19 (d % 64) = sl)
  else decide (d < 524288) && (s.queue d).present && decide (s.queueOwner d = sl)

/-- MIRROR.CONFIGURE (06 R214). -/
def execMirrorConfigure (l : LetterId) (session destination : W32) (truncate : W64) (sample enabled : W32) (s : State) :
    Host.Outcome State Fault Refusal :=
  .next (runLetter l 0x1501 [p4 session, p4 destination, p8 truncate, p4 sample, p4 enabled] (fun c =>
    let i := session.toNat
    let o := s.mirror i
    let tr := clampU0 64 truncate.toNat 64 9728 (some o.truncate)
    let sm := clampU 32 sample.toNat 1 65536 (some o.sample)
    checked [malformed (decide (1 < enabled.toNat)) 4, malformed (decide (1023 < i)) 0,
      noObj (decide (s.owner 0x17 i ≠ c.sl)) 0, noObj (!s.mirrorTarget c.sl destination.toNat) 1] fun _ =>
    accept (s.setMirror i { o with
        configured := true, destination := destination.toNat, truncate := tr.v, sample := sm.v
        enabled := enabled = 1#32 })
      (layBody [p4 session, p4 destination, n8 tr.v, n4 sm.v, p4 enabled]) (firstClamp [(2, tr.c), (3, sm.c)])) s)

/-- MIRROR.DISABLE (06 R217). -/
def execMirrorDisable (l : LetterId) (session : W32) (s : State) : Host.Outcome State Fault Refusal :=
  .next (runLetter l 0x1502 [p4 session] (fun c =>
    let i := session.toNat
    checked [malformed (decide (1023 < i)) 0, noObj (decide (s.owner 0x17 i ≠ c.sl)) 0] fun _ =>
    accept (s.setMirror i { s.mirror i with enabled := false }) (layBody [p4 session])) s)

end Sys2Proof.Machine
end

