-- ==== Sys2Proof/Machine/Reset.lean ====
section
/-!
DEFINITION. Reset.lean: what a reset of the dies, the postmasters and the always-on logic leaves (16 R450, R455, R462,
R467; 14 R427). What it keeps is in notes/assumptions/33.md.
-/

namespace Sys2Proof.Machine

/-- An activation that a reset meets is ROLLED_BACK and its new banks are VERIFIED (14 R427); armed ones are undone. -/
def ImageUnit.afterReset (u : ImageUnit) : ImageUnit :=
  let back (st : BankState) : BankState := match st with
    | .armed | .rolling => .verified
    | x => x
  { u with
    jobs := []
    banks := u.banks.map fun e => (e.1, { e.2 with st := back e.2.st })
    act := match u.act.st with
      | .rolling | .rollingBack => { u.act with st := .rolledBack }
      | .armed => {}
      | _ => u.act }

/-- Condition faults of the units that a reset takes back to their reset state end; those of the power stage go on
(17 R477, R486). -/
def FaultUnit.afterReset (u : FaultUnit) (units up : Nat) : FaultUnit :=
  { u with
    waiting := [], waitingLost := false, masks := []
    log := u.log.map fun r =>
      if r.active && !((faultInfo r.code.toNat).map (·.latched)).getD true && decide (r.code.toNat / 256 ≠ 0x10) then
        { r with active := false, clear := some units, clearAt := up } else r }

/-- Both dies, both postmasters, the role arbiter, the letter ledger and the ring counts reset; every table, queue and
setting outside the settings store is lost and station time restarts in FREERUN (16 R467). -/
def State.dieReset (s : State) : State :=
  { variant := s.variant
    time := { uptime := s.time.uptime }
    images := s.images.afterReset
    power := { s.power with resetAfter := none, requests := [], elapsed := none, stage := .reset, startCause := 0
                            thrCap := false, capLow := none }
    faults := s.faults.afterReset s.units s.up
    regs := { s.regs with enable := false, refuse := 0, moduleId := none }
    courier := { pasidOn := s.courier.pasidOn, relaxed := s.courier.relaxed, maxPayload := s.courier.maxPayload
                 maxRead := s.courier.maxRead }
    fresh := s.fresh
    out := s.out
    pending := s.pending }

/-- Set a bit of `PWR_RESET_CAUSE` (16 R469). -/
def State.setCause (s : State) (n : Nat) : State :=
  { s with power := { s.power with cause := s.power.cause ||| BitVec.ofNat 9 (2 ^ n) } }

/-- A whole-module reset (16 R467): the rails and domain 0 stay up, every other domain goes off, and start-up runs from
power good, once `RESET_N` is released. -/
def State.wholeReset (s : State) (cause : Nat) : State :=
  let s := s.dieReset.setCause cause
  { s with power := { s.power with
      domains := s.power.domains &&& 1#160
      good := if s.power.rails ∧ ¬ s.power.resetN then some s.up else none } }

/-- The rails go off (16 R455): every domain but domain 0, then the main rails. -/
def State.railsOff (s : State) (cause : Nat) : State :=
  let s := s.dieReset.setCause cause
  { s with power := { s.power with
      domains := s.power.domains &&& 1#160, rails := false, rising := false, good := none } }

/-- The input is lost (16 R450): the rails collapse, and with `VDD_AON` domain 0 too; the ledger, the fault log and the
registers there are lost, the flash is kept. -/
def State.inputOff (s : State) (cause : Nat) : State :=
  let s := s.railsOff cause
  { s with
    power := { s.power with aon := false, hkUp := false, domains := 0#160 }
    faults := {}
    regs := {}
    courier := {} }

end Sys2Proof.Machine
end

