-- ==== Sys2Proof/Machine/Letters.lean ====
section
/-!
DEFINITION. Letters.lean: doorbells, taking letters, effect steps, receipts and events on their rings, and the
management ports (10 R316-R326, R332-R342; 13 R398-R402; 19 R517, R518).
-/

namespace Sys2Proof.Machine

/-! ## Host writes under a slice's PASID -/

/-- Mark the pages that a write touches in a slice's dirty log (11 R368). -/
def State.dirtyMark (s : State) (sl addr len : Nat) : State :=
  match (s.slice sl).dirty with
  | none => s
  | some (_, size) =>
    let first := addr / 4096
    let pages := (List.range ((addr + max len 1 - 1) / 4096 + 1 - first)).map (· + first)
    let inside := pages.filter fun p => p < size * 8
    let v := s.slice sl
    let s := s.setSlice sl { v with
      pages := inside.foldl (fun ps p => if p ∈ ps then ps else ps ++ [p]) v.pages
      beyond := if inside.length < pages.length then v.beyond + 1 else v.beyond }
    if inside.length < pages.length then s.bump .sliceDirtyBeyond sl else s

/-- Write data to a slice's host memory: relaxed when the host enables it (12 R385; 11 R368). -/
def State.hostWrite (s : State) (sl : Nat) (addr : W64) (bytes : List Byte) : State :=
  (s.emit (.hostWrite sl addr bytes s.courier.relaxed)).dirtyMark sl addr.toNat bytes.length

/-- Write to a slice's host memory what must follow the data it covers, without relaxed ordering (12 R385; 11 R368). -/
def State.hostWriteLast (s : State) (sl : Nat) (addr : W64) (bytes : List Byte) : State :=
  (s.emit (.hostWrite sl addr bytes false)).dirtyMark sl addr.toNat bytes.length

/-- A letter's result written by courier to the address it gives (10 R331), or the bus error that ends the letter
before it has taken any effect (10 R520). -/
def withResult (c : Ctx) (addr : W64) (bytes : List Byte) (busOk : Bool) (s : State) (ok : State → Verdict) : Verdict :=
  if busOk then ok (s.hostWrite c.sl addr bytes) else .partFault 5 addr false s

/-- A letter ring stops at a bus error (10 R321): counted, FLT_LETTER_RING_FAULT, event RING_STOPPED. A letter that was
closing the ring waits no more. -/
def State.ringFault (s : State) (sl r : Nat) (addr : W64) : State :=
  let waiting := (s.ring sl r).close
  let s := (s.setRing sl r { s.ring sl r with st := .stopped, close := none }).release? waiting
  let s := if sl = 0 ∧ r = 0 then { s with regs := { s.regs with enable := false } } else s
  let obj := sl * 256 + r
  let s := (s.bump .letterRingFault sl).raise 0x0A02 obj addr.toNat 0 sl
  s.event sl (s.mkEvent 0x30 obj)

/-! ## Doorbells (10 R317, 19 R518) -/

/-- An ignored doorbell write of an open ring: counted, FLT_LETTER_DOORBELL (10 R317). -/
def State.badDoorbell (s : State) (sl r : Nat) (count : W32) : State :=
  (s.bump .letterDoorbellBad sl).raise 0x0A01 (sl * 256 + r) count.toNat 0 sl

/-- A ring takes doorbells while it is open (19 R518). -/
def Ring.isOpen (g : Ring) : Bool := g.st = .running || g.st = .closing || g.st = .stopped

/-- LETTER_DOORBELL (10 R317): accepted when the count is at most the depth beyond the letters taken. -/
def execLetterDoorbell (sl : Fin 64) (r : Fin 8) (count : W32) (s : State) : Host.Outcome State Fault Refusal :=
  let g := s.ring sl r
  .next (if ¬ s.power.hkUp then s
    else if ¬ g.isOpen then s.bump .letterDoorbellBad sl
    else if (count - g.taken).toNat ≤ g.depth then s.setRing sl r { g with placed := count }
    else s.badDoorbell sl r count)

/-- RECEIPT_DOORBELL (10 R317): accepted when the count reports only written receipts. -/
def execReceiptDoorbell (sl : Fin 64) (r : Fin 8) (count : W32) (s : State) : Host.Outcome State Fault Refusal :=
  let g := s.ring sl r
  .next (if ¬ s.power.hkUp then s
    else if ¬ g.isOpen then s.bump .letterDoorbellBad sl
    else if (count - g.consumed).toNat ≤ (g.written - g.consumed).toNat then s.setRing sl r { g with consumed := count }
    else s.badDoorbell sl r count)

/-- EVENT_DOORBELL (10 R317): accepted when the count reports only written entries. -/
def execEventDoorbell (sl : Fin 64) (count : W32) (s : State) : Host.Outcome State Fault Refusal :=
  let g := s.evRing sl
  .next (if ¬ s.power.hkUp then s
    else if ¬ g.defined then s.bump .letterDoorbellBad sl
    else if (count - g.consumed).toNat ≤ (g.written - g.consumed).toNat then s.setEvRing sl { g with consumed := count }
    else s.badDoorbell sl 8 count)

/-! ## Taking a letter (10 R318, R320, R332-R336; 13 R399) -/

/-- Slots of the receipt ring that are spoken for: written and not consumed, reserved, repeats waiting (10 R318). -/
def Ring.used (g : Ring) : Nat :=
  (g.written - g.consumed).toNat + g.reserved + (g.ready.filter fun r => !r.2).length

/-- A ring has a letter that can be taken now (10 R318). -/
def Ring.takeable (g : Ring) : Bool :=
  g.st = .running && (!g.retake.isEmpty || (decide (g.placed ≠ g.taken) && decide (g.used < g.depth)))

/-- Ring index of the letter to take: one whose claim returned to UNSEEN goes first (13 R400). -/
def Ring.nextIndex (g : Ring) : W32 := (g.retake.head?).getD g.taken

/-- The ring after a letter was taken; a letter taken again holds its reservation already. -/
def Ring.afterTake (g : Ring) : Ring :=
  match g.retake with
  | _ :: rest => { g with retake := rest }
  | [] => { g with taken := g.taken + 1#32, reserved := g.reserved + 1 }

/-- In-band letters of a slice not yet taken. -/
def State.inband (s : State) (sl : Nat) : List InbandLetter := nget [] s.letters.inband sl

/-- Rings of a slice from which a letter can be taken; in-band letters count as ring 0's (10 R320). -/
def State.takeableRings (s : State) (sl : Nat) : List Nat :=
  (List.range 8).filter fun r => (s.ring sl r).takeable || (decide (r = 0) && !(s.inband sl).isEmpty)

/-- The ring whose turn it is: the first takeable after the last one served, in ring order (10 R320). -/
def State.nextRing (s : State) (sl : Nat) : Option Nat :=
  let rs := s.takeableRings sl
  let last := nget 7 s.letters.lastRing sl
  ((rs.filter fun r => last < r).head?).orElse fun _ => rs.head?

/-- Letters of a slice in progress (11 R362). -/
def State.inProgress (s : State) (sl : Nat) : Nat :=
  ((s.ledger sl).entries.filter fun e => e.2.st ≠ .done).length

/-- A slice's letters may be taken: ACTIVE or CLEARED, not held, below 64 in progress (11 R349, R361, R362). -/
def State.slCanTake (s : State) (sl : Nat) : Bool :=
  let v := s.slice sl
  (v.st = .active || v.st = .cleared) && !v.held && !s.resuming sl && decide (s.inProgress sl < 64)

/-- Below the slice's letter rate (11 R358; the window is a second from its first letter, notes/assumptions/35.md). -/
def State.rateOk (s : State) (sl : Nat) : Bool :=
  let v := s.slice sl
  decide (v.rate.2 + 1000000000 ≤ s.up) || decide (v.rate.1 < v.amount 6)

/-- Count a letter against the slice's rate. -/
def Slice.countRate (v : Slice) (up : Nat) : Slice :=
  { v with rate := if v.rate.2 + 1000000000 ≤ up then (1, up) else (v.rate.1 + 1, v.rate.2) }

/-- Letters that the active postmaster accepts in a second in all (10 R320). -/
def letterRate : Nat := 4000000

/-- Below the rate of all slices (10 R320; notes/assumptions/35.md). -/
def State.allRateOk (s : State) : Bool :=
  decide (s.letters.rate.2 + 1000000000 ≤ s.up) || decide (s.letters.rate.1 < letterRate)

/-- Slices that have a letter to take now. -/
def State.contenders (s : State) : List Nat :=
  (0 :: s.liveSlices).filter fun i => s.slCanTake i && s.rateOk i && !(s.takeableRings i).isEmpty

/-- Turns left of each slice in the weighted round; when no contender has one left, a new round gives each its weight
(10 R320, 11 R358). -/
def State.roundTurns (s : State) : NMap Nat :=
  if (s.contenders.all fun i => nget 0 s.letters.turns i = 0) then
    s.contenders.foldl (fun m i => nset 0 i ((s.slice i).amount 5) m) s.letters.turns
  else s.letters.turns

/-- Store a letter's claim (13 R399). -/
def State.claim (s : State) (l : LetterId) (e : Entry) : State :=
  let d := s.ledger l.slice
  let high := match d.high with
    | none => l.seq
    | some h => if seqNewer l.seq h then l.seq else h
  s.setLedger l.slice {
    high := some high
    entries := nput l.seq.toNat e (d.entries.filter fun o =>
      o.2.st ≠ .done ∨ (high - BitVec.ofNat 32 o.1).toNat ≤ 1023) }

/-- Steps 4 to 6 of R336 that concern the header and the body's layout. -/
def headerReject (i : Option OpInfo) (sl : Nat) (inband named seqd : Bool) (len : Nat) (body : List Byte) : Option Reject :=
  match i with
  | none => some ⟨.unknownOpcode, 0xFE, 0⟩
  | some i => firstFail [
      notPermitted (i.manager && decide (sl ≠ 0)) 0xFE,
      notPermitted (inband && i.shape.any fun k => k = .addr || k = .list)
        ((i.shape.findIdx fun k => k = .addr || k = .list)),
      malformed (decide (len ≠ i.length)) 0xFE,
      malformed (!gapsZero i.shape body) 0xFF,
      malformed ((named && !i.staging) || (seqd && !i.block)) 0xFE]

/-- Check and claim a letter (10 R333, R336 steps 1-6): header, ledger, opcode, permission and length. -/
def State.checkLetter (s : State) (pm : Pm) (sl : Fin 64) (via : Via) (index : W32) (bytes : List Byte) : State :=
  let h := leNat (bslice bytes 0 32)
  let len := bits h 95 80
  let body := bslice bytes 32 (min len 224)
  let inband : Bool := match via with | .ring _ => false | .inband .. => true
  let seq := BitVec.ofNat 32 (bits h 63 32)
  let l : LetterId := ⟨sl, seq⟩
  let e : Entry := {
    pm := pm, term := s.pm.term, via := via, index := index, opcode := BitVec.ofNat 16 (bits h 15 0)
    cookie := BitVec.ofNat 64 (bits h 191 128)
    epoch := if bit h 27 then some (BitVec.ofNat 16 (bits h 111 96)) else none
    allowSeq := bit h 25, wait := bit h 26, body := body }
  let refuse (st : Status) (param : Nat) : State :=
    s.pushReceipt sl via { s.mkReceipt l e st param with slice := BitVec.ofNat 8 (bits h 71 64) } true
  if crc32c 0xFFFFFFFF (bslice bytes 0 28 ++ body) ≠ bits h 255 224 then
    if inband then s.bump .letterBadCheck else refuse .malformed 0xFE
  else if bits h 23 16 ≠ 1 ∨ bits h 127 112 ≠ 0 ∨ bits h 79 72 ≠ 0 ∨ bits h 31 28 ≠ 0 ∨ bit h 24 ∨ len > 224 ∨
      len % 8 ≠ 0 ∨ bits h 71 64 ≠ sl then refuse .malformed 0xFE
  else
    let d := s.ledger sl
    let fresh : Bool := match d.high with
      | none => true
      | some hi => seqNewer seq hi
    let inWindow : Bool := match d.high with
      | none => true
      | some hi => decide ((hi - seq).toNat ≤ 1023)
    if ¬ fresh ∧ ¬ inWindow then refuse .staleSequence 0xFE
    else match nfind d.entries seq.toNat with
      | some o =>
        if o.st = .done then
          s.pushReceipt sl via { o.receipt with dup := true, applied := [] } true
        else (s.unreserve sl via).bump .letterDupPending sl
      | none =>
        let t := s.claim l e
        match headerReject (opInfo (bits h 15 0)) sl inband (bit h 27) (bit h 25) len body with
        | some r => t.finish l e (t.mkReceipt l e r.status r.param r.subcode)
        | none => t

/-- A letter counts as taken from its slice: rate, turn, ring order, and CLEARED becomes ACTIVE (10 R320, 11 R349). -/
def State.noteTaken (s : State) (sl r : Nat) : State :=
  let turns := s.roundTurns
  let v := (s.slice sl).countRate s.up
  let s := s.setSlice sl { v with st := if v.st = .cleared then .active else v.st }
  let all := s.letters.rate
  { s with letters := { s.letters with
      waits := nset false sl false s.letters.waits
      rate := if all.2 + 1000000000 ≤ s.up then (1, s.up) else (all.1 + 1, all.2)
      turns := nset 0 sl (nget 0 turns sl - 1) turns
      lastRing := nset 7 sl r s.letters.lastRing } }.bump .sliceLetters sl

/-- LETTER_TAKE (10 R320): the active postmaster takes the slice's next letter when its turn has come and a receipt
slot can be reserved, claims it and checks it. A claim of a postmaster that is not active is refused and counted
(13 R399). -/
def execLetterTake (pm : Pm) (sl : Fin 64) (src : TakeSource) (s : State) : Host.Outcome State Fault Refusal :=
  .next (
    if s.pm.active ≠ some pm then
      (match s.pm.window with
       | some (old, _) => if old = pm then s.bump .pmStaleClaims (pmIdx pm) else s
       | none => s)
    else if ¬ s.ready ∨ ¬ s.slCanTake sl ∨ ¬ s.allRateOk then s
    else if ¬ s.rateOk sl then
      (if (s.takeableRings sl).isEmpty ∨ nget false s.letters.waits sl then s
       else { s with letters := { s.letters with waits := nset false sl true s.letters.waits } }.bump .sliceRateWait sl)
    else if nget 0 s.roundTurns sl = 0 then s
    else match src with
      | .ring r entry =>
        let g := s.ring sl r
        if ¬ g.takeable ∨ s.nextRing sl ≠ some r.val ∨ ¬ s.mayRequest sl then s
        else match entry with
          | none => s.ringFault sl r (g.letters + BitVec.ofNat 64 (256 * (g.nextIndex.toNat % g.depth)))
          | some bytes =>
            let s := (s.setRing sl r g.afterTake).noteTaken sl r
            s.checkLetter pm sl (.ring r) g.nextIndex bytes
      | .inband =>
        match s.inband sl with
        | [] => s
        | x :: xs =>
          if s.nextRing sl ≠ some 0 then s
          else
            let s := { s with letters := { s.letters with inband := nset [] sl xs s.letters.inband } }.noteTaken sl 0
            s.checkLetter pm sl x.via 0#32 x.bytes)

/-! ## Effect steps (13 R400, R402) -/

/-- A postmaster may carry out the steps of an entry (13 R400): the one that accepted it until it is fenced, or the
active once the dual-active window is closed. -/
def State.mayStep (s : State) (pm : Pm) (e : Entry) : Bool :=
  if e.pm = pm then s.pm.active = some pm || (s.pm.window.map (·.1)) = some pm
  else s.pm.active = some pm && s.pm.window.isNone

/-- The standby must acknowledge a change before its step is journaled (13 R402). -/
def State.standbyWatches (s : State) (pm : Pm) : Bool :=
  (s.post (pmOther pm)).role = .standby && (s.post (pmOther pm)).synced

/-- Letters whose effect writes a unit that the arbiter guards by the term: the flash and the settings store, the servo,
the calibration and self-test schedulers, and the power stage (13 R398). -/
def termChecked (op : Nat) : Bool :=
  [0x0107, 0x0201, 0x0202, 0x0203, 0x0204, 0x0205, 0x0906, 0x0E03, 0x0E04, 0x1101, 0x1102, 0x1103, 0x1104, 0x1302,
    0x1303].contains op

/-- EFFECT_STEP (13 R400): the next effect step of an accepted letter is journaled, once the standby has acknowledged
the change; with the last one the letter is DONE. A step of a postmaster whose term is over, on a unit that the arbiter
guards by the term, is refused and counted (R398). -/
def execEffectStep (pm : Pm) (l : LetterId) (standbyAck : Bool) (s : State) : Host.Outcome State Fault Refusal :=
  .next (match s.entry l with
    | some e =>
      if e.st = .accepted ∧ e.journaled < effectSteps e.opcode.toNat ∧ s.mayStep pm e then
        let o := s.post (pmOther pm)
        if s.pm.active ≠ some pm ∧ termChecked e.opcode.toNat then s.bump .pmStaleWrites (pmIdx pm) else
        if s.standbyWatches pm ∧ ¬ standbyAck then
          s.setPost (pmOther pm) { o with ackSince := some (o.ackSince.getD s.up) }
        else
          let s := s.setPost (pmOther pm) { o with ackSince := none }
          (s.setEntry l { e with pm := pm, journaled := e.journaled + 1 }).settle l
      else s
    | none => s)

/-! ## Writing receipts and events -/

/-- The state of a ring after a receipt left it: a CLOSING ring is closed once every letter taken has its receipt; the
letter that closes the ring it came by gets its own receipt first (10 R344, 19 R515). -/
def State.ringDrained (s : State) (sl r : Nat) : State :=
  let g := s.ring sl r
  let own : Nat := match g.close with
    | some l => (match s.entry l with
        | some e => b2n (decide (l.slice.val = sl ∧ e.via = .ring r))
        | none => 0)
    | none => 0
  if g.st = .closing ∧ g.reserved ≤ own then
    if sl = 0 ∧ r = 0 then s.setRing sl r { g with st := .stopped, close := none }
    else if own = 1 then (s.setRing sl r { g with close := none }).release? g.close
    else (s.setRing sl r { g with st := .closed, close := none }).release? g.close
  else s

/-- A receipt has left: `MODULE.RESET` kind 1 takes effect after its own (16 R467). -/
def State.afterReceipt (s : State) (sl : Nat) (r : Receipt) : State :=
  match s.power.resetAfter with
  | some l => if l.slice.val = sl ∧ l.seq = r.seq then s.wholeReset 6 else s
  | none => s

/-- RECEIPT_WRITE (10 R318, R319, R334): the oldest ready receipt of a ring is written into the next slot, with its
phase and its vector. -/
def execReceiptWrite (sl : Fin 64) (r : Fin 8) (busOk : Bool) (s : State) : Host.Outcome State Fault Refusal :=
  let g := s.ring sl r
  .next (match g.ready with
    | [] => s
    | (rec, own) :: rest =>
      let room : Bool := own || decide ((g.written - g.consumed).toNat + g.reserved < g.depth)
      if ¬ (g.st = .running ∨ g.st = .closing) ∨ ¬ s.mayRequest sl ∨ ¬ room then s
      else if ¬ busOk then
        (s.setRing sl r { g with ready := rest, reserved := g.reserved - b2n own }).ringFault sl r
          (g.receipts + BitVec.ofNat 64 (256 * (g.written.toNat % g.depth)))
      else
        let index := g.written.toNat % g.depth
        let phase := decide (g.written.toNat / g.depth % 2 = 0)
        let s := s.setRing sl r { g with
          ready := rest, reserved := g.reserved - b2n own, written := g.written + 1#32, owed := g.owed - 1
          unconfirmed := g.unconfirmed ++ [rec.seq] }
        let s := (s.hostWriteLast sl (g.receipts + BitVec.ofNat 64 (256 * index)) (rec.bytes phase)).signal (32 * sl + r)
        (s.ringDrained sl r).afterReceipt sl rec)

/-- Mark a stored receipt delivered (13 R401). -/
def State.delivered (s : State) (sl : Fin 64) (seq : W32) : State :=
  match s.entry ⟨sl, seq⟩ with
  | some e => if e.st = .done then s.setEntry ⟨sl, seq⟩ { e with delivered := true } else s
  | none => s

/-- RECEIPT_DELIVERY_CONFIRM (13 R401): the zero-length read that follows the receipts has returned. -/
def execReceiptDeliveryConfirm (sl : Fin 64) (r : Fin 8) (s : State) : Host.Outcome State Fault Refusal :=
  let g := s.ring sl r
  .next (g.unconfirmed.foldl (fun s q => s.delivered sl q) (s.setRing sl r { g with unconfirmed := [] }))

/-- EVENT_WRITE (10 R341, R342): the slice's oldest event is written, with phase and lost; a bus error stops the event
ring and discards its events. -/
def execEventWrite (sl : Fin 64) (busOk : Bool) (s : State) : Host.Outcome State Fault Refusal :=
  let g := s.evRing sl
  .next (match g.queue with
    | [] => s
    | e :: rest =>
      if ¬ g.defined ∨ g.stopped ∨ ¬ s.mayRequest sl ∨ (s.slice sl).st = .resetting ∨ s.owesReceipts sl then s
      else
        let index := g.written.toNat % g.depth
        let addr := g.addr + BitVec.ofNat 64 (32 * index)
        if ¬ busOk then
          let s := s.setEvRing sl { g with stopped := true, lost := true, queue := [] }
          (s.bump .eventLost sl 0 g.queue.length).raise 0x0A02 (sl.val * 256 + 8) addr.toNat 0 sl
        else
          let phase := decide (g.written.toNat / g.depth % 2 = 0)
          let s := s.setEvRing sl { g with queue := rest, written := g.written + 1#32, lost := false, owed := g.owed - 1 }
          (s.hostWriteLast sl addr (e.bytes sl phase g.lost)).signal (32 * sl + 8))

/-! ## Management ports (10 R323-R325) -/

/-- Addressing of a management port. -/
def State.mgmtPort (s : State) (p : Nat) : MgmtPort := nget {} s.mgmt.ports p

/-- The link-local address of a port, by modified EUI-64 (10 R324). -/
def linkLocal (p : Nat) : Ip :=
  let m := (Config.mgmtMac p).toNat
  BitVec.ofNat 128 (0xFE80 * 2 ^ 112 + (m / 2 ^ 24 ^^^ 0x020000) * 2 ^ 40 + 0xFFFE * 2 ^ 24 + m % 2 ^ 24)

/-- An address is one of the port's. -/
def State.ownAddress (s : State) (p : Nat) (v6 : Bool) (a : Ip) : Bool :=
  let m := s.mgmtPort p
  if v6 then decide (a = linkLocal p) || (decide (m.ipv6 ≠ 0#128) && decide (a = m.ipv6))
  else decide (m.ipv4 ≠ 0#32) && decide (a.toNat = m.ipv4.toNat)

/-- Two addresses share a prefix of a family's width. -/
def samePrefix (w plen a b : Nat) : Bool := decide (a / 2 ^ (w - plen) = b / 2 ^ (w - plen))

/-- Next hop of a destination: itself on the port's own prefix, else the family's gateway, else none (10 R325). -/
def State.nextHop (s : State) (p : Nat) (v6 : Bool) (a : Ip) : Option Ip :=
  let m := s.mgmtPort p
  if v6 then
    if samePrefix 128 10 a.toNat (0xFE80 * 2 ^ 112) then some a
    else if m.ipv6 ≠ 0#128 ∧ samePrefix 128 m.ipv6Plen a.toNat m.ipv6.toNat then some a
    else if m.ipv6Gw ≠ 0#128 then some m.ipv6Gw else none
  else
    if m.ipv4 ≠ 0#32 ∧ samePrefix 32 m.ipv4Plen a.toNat m.ipv4.toNat then some a
    else if m.ipv4Gw ≠ 0#32 then some (BitVec.ofNat 128 m.ipv4Gw.toNat) else none

/-- Split a datagram into whole letters by their headers' lengths; none when it does not hold 1 to 5 whole letters. -/
def splitLetters : Nat → List Byte → Option (List (List Byte))
  | 0, bs => if bs = [] then some [] else none
  | n + 1, bs =>
    if bs = [] then some []
    else
      let size := 32 + leNat (bslice bs 10 2)
      if bs.length < 32 ∨ bs.length < size then none
      else (splitLetters n (bs.drop size)).map fun r => bs.take size :: r

/-- INBAND_DATAGRAM (10 R323): the letters of a datagram from a bound peer join their slice; every other datagram is
dropped and counted. -/
def execInbandDatagram (port : Fin 2) (d : Datagram) (s : State) : Host.Outcome State Fault Refusal :=
  let drop := s.bump .letterInbandDrop
  .next (match s.mgmt.bindings.find? (fun b => b.2.1 = d.src ∧ b.2.2 = d.srcPort.toNat), splitLetters 5 d.payload with
    | some b, some letters =>
      let st := (s.slice b.1).st
      if s.pm.active = none ∨ ¬ s.ready ∨ d.dstPort.toNat ≠ s.mgmt.udp ∨ ¬ s.ownAddress port d.v6 d.dst ∨
          d.vlan.toNat ≠ (s.mgmtPort port).vlan ∨ letters = [] ∨ st = .resetting ∨ st = .absent ∨
          ¬ (letters.all fun x => leNat (bslice x 8 1) = b.1) then drop
      else
        let via := Via.inband port d.v6 d.src d.srcPort.toNat d.dst
        { s with letters := { s.letters with
            inband := nset [] b.1 (s.inband b.1 ++ letters.map fun x => ⟨via, x⟩) s.letters.inband } }
    | _, _ => drop)

/-- Enter a resolution in a port's cache, replacing the entry unused for longest when the family's 64 are in use. -/
def State.addNeighbour (s : State) (n : Neighbour) : State :=
  let same := s.mgmt.neighbours.filter fun o => o.port = n.port ∧ o.v6 = n.v6
  let oldest := same.foldl (fun (m : Option Neighbour) o => match m with
    | some x => if o.used < x.used then some o else some x
    | none => some o) none
  let kept := if same.length < 64 then s.mgmt.neighbours else s.mgmt.neighbours.filter fun o => some o ≠ oldest
  { s with mgmt := { s.mgmt with neighbours := kept ++ [n] } }

/-- The cache entry of an address. -/
def State.neighbour (s : State) (p : Nat) (v6 : Bool) (a : Ip) : Option Neighbour :=
  s.mgmt.neighbours.find? fun n => n.port = p ∧ n.v6 = v6 ∧ n.addr = a

/-- Write back a cache entry. -/
def State.setNeighbour (s : State) (n : Neighbour) : State :=
  { s with mgmt := { s.mgmt with neighbours := s.mgmt.neighbours.map fun o =>
      if o.port = n.port ∧ o.v6 = n.v6 ∧ o.addr = n.addr then n else o } }

/-- A reply datagram leaves: its receipts are delivered (13 R401). -/
def State.sendReply (s : State) (sl : Fin 64) (via : Via) (rs : List Receipt) (mac : Mac) : State :=
  match via with
  | .ring _ => s
  | .inband port v6 addr udp own =>
    let s := s.emit (.datagram port v6 own addr udp mac (rs.flatMap fun r => r.bytes false))
    rs.foldl (fun s r => (s.delivered sl r.seq).afterReceipt sl r) s

/-- The slice a receipt is for. -/
def replySlice (rs : List Receipt) : Fin 64 := Fin.ofNat 64 ((rs.head?.map fun r => r.slice.toNat).getD 0)

/-- INBAND_REPLY_SEND (10 R323, R325): up to 5 receipts for one peer that became ready within 10 us leave in one
datagram, once the next hop's MAC is known. -/
def execInbandReplySend (sl : Fin 64) (s : State) : Host.Outcome State Fault Refusal :=
  .next (match nget [] s.letters.replies sl with
    | [] => s
    | (via, r0, t0) :: rest =>
      if s.sliceHeld sl then s
      else
        let join := (rest.filter fun x => x.1 = via ∧ x.2.2 ≤ t0 + 10000).take 4
        let left := rest.filter fun x => x ∉ join
        let rs := r0 :: join.map fun x => x.2.1
        let s := { s with letters := { s.letters with replies := nset [] sl left s.letters.replies } }
        match via with
        | .ring _ => s
        | .inband port v6 addr _ _ =>
          match s.nextHop port v6 addr with
          | none => s.bump .letterInbandDrop
          | some hop =>
            match s.neighbour port v6 hop with
            | some n =>
              match n.mac with
              | some mac => (s.setNeighbour { n with used := s.up }).sendReply sl via rs mac
              | none => { s with mgmt := { s.mgmt with waiting := s.mgmt.waiting ++ [(hop, via, rs)] } }
            | none =>
              let s := s.addNeighbour ⟨port, v6, hop, none, s.up, 1⟩
              let s := { s with mgmt := { s.mgmt with waiting := s.mgmt.waiting ++ [(hop, via, rs)] } }
              s.emit (.mgmt port 1 v6 hop none))

/-- ARP_REQUEST (10 R325): answered for the port's IPv4 address. -/
def execArpRequest (port : Fin 2) (target sender : BitVec 32) (senderMac : Mac) (s : State) :
    Host.Outcome State Fault Refusal :=
  .next (if s.ownAddress port false (target.setWidth 128) then
      s.emit (.mgmt port 0 false (sender.setWidth 128) (some senderMac))
    else s)

/-- NEIGHBOUR_SOLICITATION (10 R325): answered for each of the port's IPv6 addresses. -/
def execNeighbourSolicitation (port : Fin 2) (target sender : Ip) (senderMac : Mac) (s : State) :
    Host.Outcome State Fault Refusal :=
  .next (if s.ownAddress port true target then s.emit (.mgmt port 0 true sender (some senderMac)) else s)

/-- ECHO_REQUEST (10 R325): answered for the port's addresses, up to 100 in any second. -/
def execEchoRequest (port : Fin 2) (v6 : Bool) (dst src : Ip) (s : State) : Host.Outcome State Fault Refusal :=
  let recent := (nget [] s.mgmt.echoes port).filter fun t => s.up < t + 1000000000
  .next (if s.ownAddress port v6 dst ∧ recent.length < 100 then
      { s with mgmt := { s.mgmt with echoes := nset [] port (recent ++ [s.up]) s.mgmt.echoes } }.emit
        (.mgmt port 2 v6 src none)
    else s)

/-- ADDRESS_RESOLVED (10 R325): the resolution ends and the replies that waited for it leave. -/
def execAddressResolved (port : Fin 2) (v6 : Bool) (addr : Ip) (mac : Mac) (s : State) :
    Host.Outcome State Fault Refusal :=
  .next (match s.neighbour port v6 addr with
    | some n =>
      let s := s.setNeighbour { n with mac := some mac, used := s.up }
      let mine (w : Ip × Via × List Receipt) : Bool := match w.2.1 with
        | .inband p f _ _ _ => w.1 = addr && decide (p = port.val) && f == v6
        | .ring _ => false
      let go := s.mgmt.waiting.filter mine
      let s := { s with mgmt := { s.mgmt with waiting := s.mgmt.waiting.filter fun w => !mine w } }
      go.foldl (fun s w => s.sendReply (replySlice w.2.2) w.2.1 w.2.2 mac) s
    | none => s)

/-- MGMT_FRAME_OTHER (10 R325): any other frame is dropped and counted. -/
def execMgmtFrameOther (port : Fin 2) (s : State) : Host.Outcome State Fault Refusal :=
  let _ := port
  .next (s.bump .letterInbandDrop)

/-- RESOLUTION_RETRY (10 R325): up to 3 requests a second apart; then the replies that waited are dropped. -/
def execResolutionRetry (port : Fin 2) (v6 : Bool) (addr : Ip) (s : State) : Host.Outcome State Fault Refusal :=
  .next (match s.neighbour port v6 addr with
    | some n =>
      if n.mac = none ∧ n.used + 1000000000 ≤ s.up then
        if n.tries < 3 then
          (s.setNeighbour { n with used := s.up, tries := n.tries + 1 }).emit (.mgmt port 1 v6 addr none)
        else
          let mine (w : Ip × Via × List Receipt) : Bool := match w.2.1 with
            | .inband p f _ _ _ => w.1 = addr && decide (p = port.val) && f == v6
            | .ring _ => false
          let lost := (s.mgmt.waiting.filter mine).length
          let s := { s with mgmt := { s.mgmt with
            waiting := s.mgmt.waiting.filter fun w => !mine w
            neighbours := s.mgmt.neighbours.filter fun o => o ≠ n } }
          s.bump .letterInbandDrop 0 0 lost
      else s
    | none => s)

/-- NEIGHBOUR_EXPIRY (10 R325): an entry unused for 300 s is removed. -/
def execNeighbourExpiry (port : Fin 2) (v6 : Bool) (addr : Ip) (s : State) : Host.Outcome State Fault Refusal :=
  .next (match s.neighbour port v6 addr with
    | some n =>
      if n.mac ≠ none ∧ n.used + 300000000000 ≤ s.up then
        { s with mgmt := { s.mgmt with neighbours := s.mgmt.neighbours.filter fun o => o ≠ n } }
      else s
    | none => s)

end Sys2Proof.Machine
end

