-- ==== Sys2Proof/Machine/Courier.lean ====
section
/-!
DEFINITION. Courier.lean: courier channels, their descriptors, records and circular buffers, the sharing of the bus, and
stopping (12 R374-R392).
-/

namespace Sys2Proof.Machine

/-! ## Descriptors (12 R379, R380) -/

/-- `kind` of a descriptor. -/
def Desc.kind (d : Desc) : Nat := bits d.raw.toNat 2 1
/-- `barrier`. -/
def Desc.barrier (d : Desc) : Bool := d.raw.getLsbD 3
/-- `irq`. -/
def Desc.irq (d : Desc) : Bool := d.raw.getLsbD 4
/-- `address`. -/
def Desc.addr (d : Desc) : Nat := bits d.raw.toNat 255 192
/-- `length`. -/
def Desc.length (d : Desc) : Nat := bits d.raw.toNat 191 160
/-- Bytes of a circular buffer. -/
def Desc.room (d : Desc) : Nat := 2 ^ bits d.raw.toNat 39 35
/-- The descriptor takes records. -/
def Desc.toHost (d : Desc) : Bool := d.kind = 0 || d.kind = 2

/-- The layout of R379 holds (12 R380). -/
def descOk (raw : Nat) : Bool :=
  let kind := bits raw 2 1
  let addr := bits raw 255 192
  let len := bits raw 191 160
  let wrap := bits raw 39 35
  decide (bits raw 63 48 = 0) && decide (bits raw 34 5 = 0) &&
    match kind with
    | 0 | 1 => decide (addr % 64 = 0) && decide (64 ≤ len ∧ len ≤ 16777216 ∧ len % 64 = 0) && decide (wrap = 0)
    | 2 => decide (addr % 4096 = 0) && decide (len = 0) && decide (12 ≤ wrap ∧ wrap ≤ 30)
    | _ => false

/-- Write back a descriptor of the channel's list. -/
def Channel.setDesc (v : Channel) (d : Desc) : Channel :=
  { v with descs := v.descs.map fun e => if e.index = d.index then d else e }

/-- Ring index of the n-th descriptor. -/
def Channel.slot (v : Channel) (n : W32) : Nat := n.toNat % max 1 v.depth

/-! ## Slices, vectors and liveness (12 R376; 11 R349, R361, R363) -/

/-- Slice of a channel (12 R376). -/
def State.chanOwner (s : State) (c : Nat) : Nat := s.owner 0x19 c

/-- Vector of a channel: its position among the channels of its slice (12 R376). -/
def State.chanVector (s : State) (c : Nat) : Nat :=
  let i := ((List.range c).filter fun d => s.chanOwner d = s.chanOwner c).length
  32 * s.chanOwner c + 9 + i % 23

/-- Transfers that a channel has started may go on (11 R361, R363). -/
def State.chanMoves (s : State) (c : Nat) : Bool :=
  let v := s.slice (s.chanOwner c)
  s.courier.pasidOn && ((s.chan c).st = .running || (s.chan c).st = .stopping) &&
    decide (v.st ≠ .absent ∧ ¬ (v.st = .resetting ∧ 2 < v.resetStep))

/-- A channel may start a transfer: RUNNING, its slice neither held nor RESETTING (12 R377; 11 R361, R363). -/
def State.chanStarts (s : State) (c : Nat) : Bool :=
  s.chanMoves c && (s.chan c).st = .running && s.mayRequest (s.chanOwner c) &&
    decide ((s.slice (s.chanOwner c)).st ≠ .resetting) && !s.resuming (s.chanOwner c)

/-! ## Records (12 R381, R384) -/

/-- Octets of the frame that a descriptor keeps of a record. -/
def Desc.captured (d : Desc) (p : Packet) : Nat :=
  if d.kind = 0 then min p.data.length (d.length - 16) else p.data.length

/-- The record of a packet for a descriptor (12 R381). -/
def hostRecord (d : Desc) (p : Packet) : List Byte :=
  let ns := p.refTime / 65536
  let h := p.hostSource * 2 ^ 124 + p.hostCode * 2 ^ 114 + p.port * 2 ^ 106 + p.len * 2 ^ 92 + d.captured p * 2 ^ 78 +
    ns / 1000000000 % 2 ^ 32 * 2 ^ 32 + ns % 1000000000
  pad64 (leBytes h 16 ++ p.data.take (d.captured p))

/-- A record fits a circular buffer (12 R384). -/
def Channel.fits (v : Channel) (d : Desc) (p : Packet) : Bool :=
  decide (d.kind ≠ 2) || decide ((d.head - v.consumed).toNat + (hostRecord d p).length ≤ d.room)

/-- A descriptor's barrier lets it start (12 R386). -/
def Channel.barrierOk (v : Channel) (d : Desc) : Bool :=
  !d.barrier || (decide ((v.descs.head?.map (·.index)) = some d.index) &&
    (!d.toHost || d.flushed || decide (v.lastWrite = 0#64)))

/-- The first to-host descriptor that has bytes of its record left to write, else none. -/
def Channel.writing (v : Channel) : Option Desc := v.descs.find? fun d => d.record.isSome && decide (0 < d.left)

/-- The first to-host descriptor without a record: the one that the next record goes to. -/
def Channel.waiting (v : Channel) : Option Desc := v.descs.find? fun d => d.toHost && !d.finished && d.record.isNone

/-- A record that does not fit its circular buffer waits, counted once (12 R384). -/
def State.noteSpace (s : State) (c : Nat) : State :=
  let v := s.chan c
  match v.waiting, v.queue with
  | some d, p :: _ =>
    if d.kind = 2 ∧ ¬ v.fits d p ∧ ¬ v.waitSpace then (s.setChan c { v with waitSpace := true }).bump .curWaitSpace c
    else s
  | _, _ => s

/-- The next record starts: the host queue's head goes to the first descriptor that waits for one. -/
def State.startRecord (s : State) (c : Nat) : State :=
  let v := s.chan c
  if v.writing.isSome ∨ ¬ s.chanStarts c then s
  else match v.waiting, v.queue with
    | some d, p :: rest =>
      -- a circular buffer's record is written back before the next one starts
      if (v.descs.any fun e => e.kind = 2 ∧ e.record.isSome) ∨ ¬ v.barrierOk d ∨ ¬ v.fits d p ∨ s.headIs p ≠ .here then s
      else
        let d := { d with record := some p, left := (hostRecord d p).length, done := 0 }
        s.setChan c ({ v with queue := rest, waitSpace := false }.setDesc d)
    | _, _ => s

/-- The host queue's head is read from the deep tier before its record starts, as a requester of class TX
(notes/assumptions/142.md), or discarded when it is lost to a memory error (06 R211, R212; 09 R302). -/
def State.fetchHead (s : State) (c : Nat) : State :=
  let v := s.chan c
  if v.writing.isSome ∨ v.waiting = none ∨ ¬ s.chanStarts c then s
  else match v.queue with
    | p :: rest => match s.headIs p with
      | .deep => (s.setChan c { v with queue := { p with fetching := true } :: rest }).readDeep .tx p
      | .lost => (s.setChan c { v with queue := rest }).freeHost c p
      | _ => s
    | [] => s

/-! ## Ending descriptors (12 R379, R385) -/

/-- A descriptor's write-back: `done_len`, `head` and `status`, and then `own` cleared when the descriptor completes;
it follows the data (12 R379, R385; notes/assumptions/152.md). -/
def State.writeBack (s : State) (c : Nat) (d : Desc) (status : Nat) (ends : Bool) : State :=
  let at_ := (s.chan c).ring + BitVec.ofNat 64 (32 * d.index)
  let o := s.chanOwner c
  let done := if d.kind = 2 then 0 else d.done
  let s := s.hostWriteLast o (at_ + 8#64) (leBytes d.head.toNat 4 ++ leBytes done 4)
  let s := s.hostWriteLast o (at_ + 5#64) [BitVec.ofNat 8 status]
  if ends then s.hostWriteLast o at_ [BitVec.ofNat 8 (d.raw.toNat % 256) &&& 0xFE#8] else s

/-- A descriptor completes: write-back, count, vector when `irq` asks for it (12 R379, R385, R392). -/
def State.closeDesc (s : State) (c : Nat) (d : Desc) (status : Nat) : State :=
  let s := (s.writeBack c d status true).bump .curDescDone c status
  let s := if d.irq then s.signal (s.chanVector c) else s
  let v := s.chan c
  s.setChan c { v with completed := v.completed + 1#32, descs := v.descs.filter fun e => e.index ≠ d.index }

/-- The channel is STOPPED: finished descriptors complete, records that were not written wait in the host queue again,
and COURIER.STOP is answered (12 R377, R383, R388). -/
def State.stopChan (s : State) (c : Nat) : State :=
  let s := ((s.chan c).descs.filter fun d => d.finished).foldl (fun s d => s.closeDesc c d d.status) s
  let v := s.chan c
  let back := v.descs.filterMap (·.record)
  (s.setChan c { v with st := .stopped, descs := [], reads := [], queue := back ++ v.queue, stopLetter := none }).release?
    v.stopLetter

/-- A burst of a channel met a bus error (12 R390). -/
def State.chanFault (s : State) (c index addr : Nat) : State :=
  let v := s.chan c
  let d := (v.descs.find? fun d => d.index = index).getD { index := index }
  let s := match d.record with
    | some p => s.freeHost c p
    | none => s
  let s := (s.setChan c (v.setDesc { d with record := none })).closeDesc c { d with record := none } 3
  let o := s.chanOwner c
  let s := ((s.stopChan c).bump .curBusFault c).raise 0x0C02 c addr 0 o
  s.event o (s.mkEvent 0x30 0 0 c)

/-! ## The bus (12 R375, R387) -/

/-- Bytes up to a limit that cross no 4 KiB boundary from an address (12 R375). -/
def burstRoom (addr left limit : Nat) : Nat := min (min left limit) (4096 - addr % 4096)

/-- Host address of the next byte that a descriptor writes (12 R381, R384). -/
def Desc.nextAddr (d : Desc) : Nat :=
  if d.kind = 2 then d.addr + (d.head.toNat + d.done) % d.room else d.addr + d.done

/-- Work of a channel toward the host: the descriptor and the most bytes of its next burst. -/
def State.hostWork (s : State) (c : Nat) : Option (Desc × Nat) :=
  let t := s.startRecord c
  if ¬ s.chanMoves c then none
  else (t.chan c).writing.map fun d => (d, burstRoom d.nextAddr d.left s.courier.maxPayload)

/-- A kind 1 descriptor whose data is still to be asked for; one not yet begun needs a channel that may start it. -/
def State.readWork (s : State) (c : Nat) : Option (Desc × Nat) :=
  let v := s.chan c
  (v.descs.find? fun d => d.kind = 1 && !d.finished && decide (0 < d.left)).bind fun d =>
    let begun := decide (d.left < d.length)
    if v.barrierOk d ∧ (begun ∨ s.chanStarts c) ∧ s.chanMoves c then
      some (d, burstRoom (d.addr + (d.length - d.left)) d.left s.courier.maxRead) else none

/-- The barrier read that a to-host descriptor waits for (12 R386). -/
def State.flushWork (s : State) (c : Nat) : Option Desc :=
  let v := s.chan c
  (v.descs.head?).bind fun d =>
    if d.barrier ∧ d.toHost ∧ ¬ d.flushed ∧ v.lastWrite ≠ 0#64 ∧ s.chanStarts c ∧ ¬ (.flush d.index) ∈ v.reads then some d
    else none

/-- A descriptor may be fetched: one is placed, and fewer than 4 are in progress (12 R378). -/
def State.fetchWork (s : State) (c : Nat) : Bool :=
  let v := s.chan c
  let fetches := (v.reads.filter fun r => match r with | .fetch _ => true | _ => false).length
  s.chanStarts c && decide (v.taken ≠ v.placed) && decide (v.descs.length + fetches < 4) &&
    v.descs.all fun d => d.status ≠ 4

/-- A requester's number: channels 0-63, then the internal requesters (12 R374). -/
def Requester.code : Requester → Nat
  | .channel c => c.val | .letterEngine => 64 | .eventWriter => 65 | .deadLetter => 66 | .overhead => 67 | .telemetry => 68

/-- Sum of the shares of a slice's channels that are not CLOSED (12 R387). -/
def State.shareSum (s : State) (o : Nat) : Nat :=
  ((List.range 64).filter fun c => s.chanOwner c = o ∧ (s.chan c).st ≠ .closed).foldl (fun n c => n + (s.chan c).share) 0

/-- Quantum of a requester in bytes: weight x 64 (12 R374, R387). -/
def State.quantum (s : State) (r : Nat) : Nat :=
  if r < 64 then
    let q := s.countOf (s.chanOwner r) 7
    let sum := s.shareSum (s.chanOwner r)
    max 1 ((s.chan r).share * 64 * min q sum / max 1 sum)
  else 64 * (if r = 65 ∨ r = 67 then 1024 else 2048)

/-- Largest next burst of a channel in a direction; none when it has nothing ready. -/
def State.busReady (s : State) (toHost : Bool) (c : Nat) : Option Nat :=
  if toHost then (s.hostWork c).map (·.2)
  else if (s.flushWork c).isSome then some 0
  else match s.readWork c with
    | some w => some w.2
    | none => if s.fetchWork c then some 32 else none

/-- Deficit weighted round-robin over bytes (12 R387): the requester served and the deficits before its debit. `cands`
are number, burst and quantum in cyclic order after the last one served. -/
def dwrrPick (def_ : Nat → Int) (last : Nat) (cands : List (Nat × Nat × Nat)) : Option (Nat × List (Nat × Int)) :=
  match cands.find? fun x => x.1 = last ∧ Int.ofNat x.2.1 ≤ def_ x.1 with
  | some x => some (x.1, cands.map fun y => (y.1, def_ y.1))
  | none =>
    let rounds (x : Nat × Nat × Nat) : Nat := max 1 (((Int.ofNat x.2.1 - def_ x.1).toNat + x.2.2 - 1) / x.2.2)
    match cands with
    | [] => none
    | x :: xs =>
      let best := xs.foldl (fun b y => if rounds y < rounds b then y else b) x
      let k := rounds best
      let upTo := (cands.takeWhile fun y => y.1 ≠ best.1).map (·.1) ++ [best.1]
      some (best.1, cands.map fun y => (y.1, def_ y.1 + Int.ofNat (y.2.2 * (if y.1 ∈ upTo then k else k - 1))))

/-- Grant the bus to a requester for a burst, when the last burst of the direction has left it at 50 GB/s and the sharing
picks the requester among the ready channels (12 R375, R387). A channel with nothing ready keeps no deficit. -/
def State.grantBus (s : State) (toHost : Bool) (r bytes : Nat) : Option State :=
  let free := if toHost then s.courier.busy.1 else s.courier.busy.2
  let gone := max free (50 * s.up) + bytes
  let u := { s.courier with busy := if toHost then (gone, s.courier.busy.2) else (s.courier.busy.1, gone) }
  let m := if toHost then u.toHost else u.fromHost
  let last := if toHost then u.last.1 else u.last.2
  let chans := (List.range 64).filterMap fun c => (s.busReady toHost c).map fun n => (c, n, s.quantum c)
  let all := (chans.filter fun x => x.1 ≠ r) ++ [(r, bytes, s.quantum r)]
  let all := (List.range 69).filterMap fun i => all.find? fun x => x.1 = i
  let order := (all.filter fun x => last < x.1) ++ all.filter fun x => x.1 ≤ last
  match dwrrPick (fun i => nget 0 m i) last order with
  | none => none
  | some (best, ds) =>
    if best ≠ r ∨ 50 * s.up + 49 < free then none
    else
      let kept : NMap Int := m.filter fun e => 64 ≤ e.1
      let m := ds.foldl (fun m e => nset 0 e.1 (if e.1 = r then e.2 - Int.ofNat bytes else e.2) m) kept
      some { s with courier := if toHost then { u with toHost := m, last := (r, u.last.2) }
                               else { u with fromHost := m, last := (u.last.1, r) } }

/-- A write burst of a channel: bytes of the record in progress (12 R381, R384, R387). -/
def State.writeBurst (s : State) (c n : Nat) (busOk : Bool) : State :=
  match s.hostWork c with
  | none => (s.noteSpace c).fetchHead c
  | some (d, room) =>
    if n = 0 ∨ room < n then s
    else match s.grantBus true c n, d.record with
      | some s, some p =>
        let s := s.startRecord c
        if ¬ busOk then s.chanFault c d.index d.nextAddr
        else
          let part := ((hostRecord d p).drop d.done).take n
          let s := (s.hostWrite (s.chanOwner c) (BitVec.ofNat 64 d.nextAddr) part).bump .curBytesToHost c 0 n
          let left := d.left - n
          let fin : Bool := decide (left = 0) && decide (d.kind = 0)
          let cut := decide (d.captured p < p.data.length)
          let e := { d with left := left, done := d.done + n, finished := fin, status := b2n cut
                            record := if fin then none else d.record }
          let v := s.chan c
          let s := s.setChan c ({ v with lastWrite := BitVec.ofNat 64 (d.nextAddr + n - 1) }.setDesc e)
          if fin then s.freeHost c p else s
      | _, _ => s

/-- A read burst of a channel: the barrier's zero-length read, data of a kind 1 descriptor, or the next descriptor
(12 R375, R378, R382, R386). -/
def State.readBurst (s : State) (c n : Nat) (busOk : Bool) : State :=
  let v := s.chan c
  let issue (s : State) (r : ChanRead) (v : Channel) : State :=
    (s.setChan c { v with reads := v.reads ++ [r] }).bump .curBytesFromHost c 0 n
  match s.flushWork c with
  | some d =>
    if n ≠ 0 then s
    else match s.grantBus false c 0 with
      | some s => if busOk then issue s (.flush d.index) v else s.chanFault c d.index v.lastWrite.toNat
      | none => s
  | none =>
    match s.readWork c with
    | some (d, room) =>
      if n = 0 ∨ room < n then s
      else match s.grantBus false c n with
        | some s =>
          if busOk then issue s (.data d.index n) (v.setDesc { d with left := d.left - n })
          else s.chanFault c d.index (d.addr + (d.length - d.left))
        | none => s
    | none =>
      if n ≠ 32 ∨ ¬ s.fetchWork c then s
      else match s.grantBus false c 32 with
        | some s =>
          let i := v.slot v.taken
          let v := { v with taken := v.taken + 1#32 }
          if busOk then issue s (.fetch i) v
          else (s.setChan c v).chanFault c i (v.ring.toNat + 32 * i)
        | none => s

/-- COURIER_BURST (12 R375, R387): one burst of the requester that the sharing serves. The work of an internal
requester has a row of its own; here its share of the bus is debited and its bytes are counted
(notes/assumptions/148.md). -/
def execCourierBurst (toHost : Bool) (requester : Requester) (bytes : BitVec 13) (busOk : Bool) (s : State) :
    Host.Outcome State Fault Refusal :=
  let n := bytes.toNat
  .next (match requester with
    | .channel c => if toHost then s.writeBurst c n busOk else s.readBurst c n busOk
    | r =>
      let k := Requester.code r
      if ¬ s.courier.pasidOn ∨ (if toHost then s.courier.maxPayload else s.courier.maxRead) < n then s
      else match s.grantBus toHost k n with
        | some s => s.bump (if toHost then .curBytesToHost else .curBytesFromHost) k 0 n
        | none => s)

/-- COURIER_READ_RETURN (12 R378, R380, R382, R386): the oldest read of a channel returns its data, or an error. -/
def execCourierReadReturn (channel : Fin 64) (data : Option (List Byte)) (s : State) : Host.Outcome State Fault Refusal :=
  let c := channel.val
  let v := s.chan c
  .next (match v.reads with
    | [] => s
    | r :: rest =>
      let v := { v with reads := rest }
      let s := s.setChan c v
      let find (i : Nat) : Option Desc := v.descs.find? fun d => d.index = i
      match r, data with
      | .fetch i, none => s.chanFault c i (v.ring.toNat + 32 * i)
      | .data i _, none => s.chanFault c i (((find i).map fun d => d.addr + d.done).getD 0)
      | .flush i, none => s.chanFault c i v.lastWrite.toNat
      | .fetch i, some bs =>
        let raw := leNat (bslice bs 0 32)
        let d : Desc := { index := i, raw := BitVec.ofNat 256 raw }
        let d := if descOk raw then (if d.kind = 1 then { d with left := d.length } else d)
          else { d with status := 4, finished := true }
        s.setChan c { v with descs := v.descs ++ [d] }
      | .data i n, some bs => match find i with
        | some d => s.setChan c (v.setDesc { d with data := d.data ++ bslice bs 0 n, done := d.done + n })
        | none => s
      | .flush i, some _ => match find i with
        | some d => s.setChan c (v.setDesc { d with flushed := true })
        | none => s)

/-! ## Completing (12 R378-R384) -/

/-- DESCRIPTOR_COMPLETE (12 R378-R380, R385): descriptors complete in ring order; a malformed one stops its channel. -/
def execDescriptorComplete (channel : Fin 64) (s : State) : Host.Outcome State Fault Refusal :=
  let c := channel.val
  .next (match (s.chan c).descs with
    | [] => s
    | d :: _ =>
      if ¬ d.finished then s
      else
        let s := s.closeDesc c d d.status
        if d.status = 4 then s.stopChan c else s)

/-- CIRCULAR_RECORD_WRITE (12 R384, R385): a whole record has been written, `head` is written back and the vector
signalled. -/
def execCircularRecordWrite (channel : Fin 64) (s : State) : Host.Outcome State Fault Refusal :=
  let c := channel.val
  let v := s.chan c
  .next (match v.descs.find? fun d => d.kind = 2 ∧ d.record.isSome ∧ d.left = 0 with
    | none => s.noteSpace c
    | some d =>
      let e := { d with head := d.head + BitVec.ofNat 32 d.done, done := 0, record := none, status := 0 }
      let s := (s.setChan c (v.setDesc e)).writeBack c e 0 false
      let s := if d.irq then s.signal (s.chanVector c) else s
      let s := match d.record with
        | some p => s.freeHost c p
        | none => s
      s.noteSpace c)

/-- What becomes of an injected record: the status it completes with (12 R382). -/
def State.inject (s : State) (c : Nat) (d : Desc) : Nat × State :=
  let h := leNat (bslice d.data 0 16)
  let mode := bits h 127 126
  let q := bits h 125 107
  let port := bits h 106 99
  let len := bits h 91 78
  let o := s.chanOwner c
  let frame := bslice d.data 16 (len - 4)
  if d.length < 16 + (len - 4) then (4, s)
  else if len < 64 ∨ 9728 < len then (5, s)
  else if mode = 0 then
    if ¬ (s.queue q).present ∨ s.queueOwner q ≠ o then (5, s)
    else
      let colour := min 2 (bits h 98 97)
      let p : Packet := { data := frame, len := len, colour := colour, cls := bits h 96 94, queue := q, src := s.myId
                          carried := BitVec.ofNat 64 h, epoch := s.epoch.current, refTime := s.units }
      match s.admitIn q 3 len colour (ofQueue q) with
      | (some x, s) => (0, s.enqueue q { p with placed := some x, arrival := s.arrivalNow })
      | (none, s) => (5, s)
  else if mode = 1 then
    if s.variant.lanes ≤ port ∨ s.owner 0x14 port ≠ o ∨ (s.port port).kind = .unused then (5, s)
    else
      let prio := bits h 93 92
      let refused := (s.trayBlocks port ((len + 255) / 256) prio).isNone
      (if refused then 5 else 0, s.toTray port frame (some prio))
  else (5, s)

/-- INJECT_RECORD (12 R382): a kind 1 descriptor whose data is read hands its packet on. `rivals` are the classes that
want the same last buffer in the same Depot cycle (06 R199). -/
def execInjectRecord (channel : Fin 64) (rivals : List Rival) (s : State) : Host.Outcome State Fault Refusal :=
  let c := channel.val
  .next (match (s.chan c).descs.find? fun d => d.kind = 1 ∧ ¬ d.finished with
    | none => s
    | some d =>
      if d.done < d.length then s
      else
        s.contest rivals fun s =>
          let (st, s) := s.inject c d
          s.setChan c ((s.chan c).setDesc { d with finished := true, status := st, data := [] }))

/-! ## Stopping (12 R388) -/

/-- A descriptor is at its boundary: it has not begun, or, when circular, writes no record (12 R388). -/
def Desc.atBoundary (d : Desc) : Bool := d.record.isNone && !d.finished && (decide (d.kind ≠ 1) || decide (d.left = d.length))

/-- Every transfer that a channel has started is complete (12 R388; 11 R361). -/
def Channel.quiet (v : Channel) : Bool := v.reads.isEmpty && v.descs.all Desc.atBoundary

/-- A channel reaches its boundary: circular descriptors complete with STOPPED and the channel is STOPPED (12 R388). -/
def State.boundary (s : State) (c : Nat) : State :=
  let s := ((s.chan c).descs.filter fun d => d.kind = 2).foldl (fun s d => s.closeDesc c d 2) s
  s.stopChan c

/-- COURIER_STOP_BOUNDARY (12 R388); a held slice's channel waits for the hold to be released (12 R391). -/
def execCourierStopBoundary (channel : Fin 64) (s : State) : Host.Outcome State Fault Refusal :=
  let c := channel.val
  let v := s.chan c
  .next (if v.st ≠ .stopping ∨ ¬ v.quiet ∨ s.sliceHeld (s.chanOwner c) then s else s.boundary c)

/-- A channel of a stopped or running state gives up its host queue and closes (12 R383, R388; 11 R363). -/
def State.closeChan (s : State) (c : Nat) : State :=
  let s := s.stopChan c
  let v := s.chan c
  if v.st = .closed then s
  else
    let s := v.queue.foldl (fun s p => s.freeHost c p) s
    let s := if v.queue.isEmpty then s else s.bump .curPuntClosed c 0 v.queue.length
    (s.setChan c {}).clearFault 0x0C02 c

/-! ## Doorbells (12 R378, R384; 19 R518) -/

/-- An ignored doorbell write of an open channel (12 R378). -/
def State.badChanDoorbell (s : State) (c : Nat) (count : W32) : State :=
  (s.bump .curDoorbellBad c).raise 0x0C01 c count.toNat 0 (s.chanOwner c)

/-- PLACE_DOORBELL (12 R378, R391). -/
def execPlaceDoorbell (channel : Fin 64) (count : W32) (s : State) : Host.Outcome State Fault Refusal :=
  let c := channel.val
  let v := s.chan c
  .next (if ¬ s.power.hkUp then s
    else if v.st = .closed then s.bump .curDoorbellBad c
    else if (count - v.taken).toNat ≤ v.depth then s.setChan c { v with placed := count }
    else s.badChanDoorbell c count)

/-- CONSUME_DOORBELL (12 R384): accepted while a circular descriptor is in progress and the count leaves 0 to its size. -/
def execConsumeDoorbell (channel : Fin 64) (count : W32) (s : State) : Host.Outcome State Fault Refusal :=
  let c := channel.val
  let v := s.chan c
  .next (if ¬ s.power.hkUp then s
    else if v.st = .closed then s.bump .curDoorbellBad c
    else match v.descs.find? fun d => d.kind = 2 with
      | some d =>
        if (d.head - count).toNat ≤ d.room then s.setChan c { v with consumed := count } else s.badChanDoorbell c count
      | none => s.badChanDoorbell c count)

/-! ## Letters (10 catalogue 0x10) -/

/-- The channel does not exist for the sender (11 R356). -/
def noChan (s : State) (c : Ctx) (channel : W32) : Bool × Reject :=
  noObj (decide (s.chanOwner channel.toNat ≠ c.sl)) 0

/-- Shares beyond item 0x07 (11 R358, R359). -/
def shareOver (s : State) (c : Ctx) (channel : W32) (share param : Nat) : Bool × Reject :=
  let v := s.chan channel.toNat
  let now := if v.st = .closed then 0 else v.share
  notPermitted (decide (now < share) && decide (s.countOf c.sl 7 < s.shareSum c.sl - now + share)) param

/-- COURIER.OPEN_CHANNEL (12 R376-R378; 11 R358). -/
def execCourierOpenChannel (l : LetterId) (channel : W32) (ring : W64) (depth share : W32) (s : State) :
    Host.Outcome State Fault Refusal :=
  .next (runLetter l 0x1001 [p4 channel, p8 ring, p4 depth, p4 share] (fun c =>
    let n := channel.toNat
    let sh := clampU 32 share.toNat 1 1024 none
    checked [malformed (decide (63 < n)) 0, malformed (decide (ring.toNat % 4096 ≠ 0)) 1, malformed (badDepth depth) 2,
      noKeep sh 3,
      noChan s c channel, busy (decide ((s.chan n).st ≠ .closed)) 0, shareOver s c channel sh.v 3] fun _ =>
    accept (s.setChan n { st := .running, ring := ring, depth := depth.toNat, share := sh.v })
      (layBody [p4 channel, p8 ring, p4 depth, n4 sh.v]) (firstClamp [(3, sh.c)])) s)

/-- COURIER.STOP (12 R388, R391): the receipt waits for the boundary. -/
def execCourierStop (l : LetterId) (channel : W32) (s : State) : Host.Outcome State Fault Refusal :=
  .next (runLetter l 0x1002 [p4 channel] (fun c =>
    let n := channel.toNat
    let v := s.chan n
    checked [malformed (decide (63 < n)) 0, noChan s c channel, busy (v.st = .closed || v.st = .stopping) 0] fun _ =>
    if v.st = .stopped then accept s (layBody [p4 channel])
    else acceptWait (s.setChan n { v with st := .stopping, stopLetter := some l }) (layBody [p4 channel])) s)

/-- COURIER.CLOSE (12 R377, R388). -/
def execCourierClose (l : LetterId) (channel : W32) (s : State) : Host.Outcome State Fault Refusal :=
  .next (runLetter l 0x1003 [p4 channel] (fun c =>
    let n := channel.toNat
    checked [malformed (decide (63 < n)) 0, noChan s c channel, busy (decide ((s.chan n).st ≠ .stopped)) 0] fun _ =>
    accept (s.closeChan n) (layBody [p4 channel])) s)

/-- COURIER.SET_SHARE (12 R387; 11 R358, R359). -/
def execCourierSetShare (l : LetterId) (channel share : W32) (s : State) : Host.Outcome State Fault Refusal :=
  .next (runLetter l 0x1004 [p4 channel, p4 share] (fun c =>
    let n := channel.toNat
    let v := s.chan n
    let sh := clampU 32 share.toNat 1 1024 (if v.st = .closed then none else some v.share)
    checked [malformed (decide (63 < n)) 0, noKeep sh 1, noChan s c channel, busy (v.st = .closed) 0,
      shareOver s c channel sh.v 1] fun _ =>
    accept (s.setChan n { v with share := sh.v }) (layBody [p4 channel, n4 sh.v]) (firstClamp [(1, sh.c)])) s)

end Sys2Proof.Machine
end

