-- ==== Sys2Proof/Machine/Line.lean ====
section
/-!
DEFINITION. Line.lean: the network ports: frames, pauses, link states, and the PORT letters (03 R78-R94; 07 R241).
-/

namespace Sys2Proof.Machine

/-- The variant has a port of this number. -/
def State.hasPort (s : State) (p : Nat) : Bool := decide (p < s.variant.lanes)

/-- A command on a port of the variant. -/
def onPort (s : State) (p : Nat) (f : State → State) : Host.Outcome State Fault Refusal :=
  if s.hasPort p then .next (f s) else .fault .absentUnit

/-! ## Frames (03 R84, R85) -/

/-- Count a codeword of a port: uncorrectable ones, corrected ones, the corrected symbols of each lane, and the histogram,
whose bin 15 holds 15 (03 R114). -/
def State.countCodeword (p : Nat) (s : State) : Codeword → State
  | .uncorrectable => s.bump .fecUncorrectable p
  | .corrected xs =>
    let n := (xs.map fun x => x.2.val).sum
    let s := xs.foldl (fun s x => s.bumpBy .fecSymbols x.1 0 x.2) s
    (s.bumpBy .fecCorrected p 0 (min 1 n)).bump .fecHistogram p (min 15 n)

/-- FRAME_RECEIVE (03 R84, R93, R114): the codewords are counted; the first cause in order discards and counts the frame,
else it goes to intake. While the port is being disabled, only the frame whose start was seen before is taken. -/
def execFrameReceive (port : Fin 192) (data : List Byte) (fcsOk fecOk : Bool) (codewords : List Codeword) (s : State) :
    Host.Outcome State Fault Refusal :=
  onPort s port fun s =>
    let v := s.port port
    let len := data.length + 4
    if v.state = .disabled then s
    else
      let s := codewords.foldl (State.countCodeword port) s
      if v.deaf then s else
      let s := s.setPort port { v with rxOpen := false }
      if len < 64 then s.bump .rxRunt port 0 1 len
      else if v.mtu < len then s.bump .rxOversize port 0 1 len
      else if ¬ fcsOk then s.bump .rxFcs port 0 1 len
      else if ¬ fecOk then s.bump .rxFecDiscard port 0 1 len
      else if v.state ≠ .up then s.bump .rxNotUp port 0 1 len
      else (s.bump .rxOk port 0 1 len).toTray port data none

/-- FRAME_TRANSMIT (03 R85, R87): the frame at the MAC is padded, ended with its FCS or, when it went bad, with the
FCS's one's complement, and sent. -/
def execFrameTransmit (port : Fin 192) (s : State) : Host.Outcome State Fault Refusal :=
  onPort s port fun s =>
    let v := s.port port
    match nget [] s.line.tx port with
    | [] => s
    | p :: rest =>
      if v.sends ≠ .frames then s
      else
        let s := s.setPort port { v with txOpen := false, idleSince := s.up }
        let s := { s with line := { s.line with tx := nset [] port.val rest s.line.tx } }
        let (p, s) := s.tagQueue p
        let body := p.data ++ List.replicate (60 - p.data.length) 0#8
        let check := if p.poisoned then (fcs body).map (~~~ ·) else fcs body
        let s := (s.bump .txOk port 0 1 (body.length + 4)).emit (.frame port (body ++ check) p.poisoned)
        if p.poisoned then s.bump .txFcsInverted port 0 1 (body.length + 4) else s

/-! ## Pauses (03 R86, 07 R241) -/

/-- Uptime at which a pause of some quanta ends. -/
def State.pauseEnd (s : State) (p q : Nat) : Nat := if q = 0 then 0 else s.up + quantaNs q (s.portRate p)

/-- PAUSE_RECEIVE (03 R86, R90; 07 R241): a frame of 64 octets. Outside UP it is discarded like any frame; in UP it is
counted, and acted on where the port is native and enables it. A later frame replaces the time that was left. -/
def execPauseReceive (port : Fin 192) (pfc : Bool) (classes : BitVec 8) (quanta : BitVec 128) (s : State) :
    Host.Outcome State Fault Refusal :=
  onPort s port fun s =>
    if (s.port port).deaf then s
    else
      let s := s.setPort port { s.port port with rxOpen := false }
      if (s.port port).state ≠ .up then s.bump .rxNotUp port 0 1 64 else
      let s := s.bump .rxPause port 0 1 64
      let v := s.port port
      if v.kind ≠ .native ∨ ¬ v.pauseOn then s
      else
        let pfcs := (List.range 8).foldl (fun m c =>
          if classes.getLsbD c then nset 0 c (s.pauseEnd port (bits quanta.toNat (16 * c + 15) (16 * c))) m else m) v.pfcUntil
        let v := if pfc then { v with pfcUntil := pfcs } else { v with pauseUntil := s.pauseEnd port (bits quanta.toNat 15 0) }
        (s.setPort port v).settlePause port

/-- PAUSE_EXPIRY (07 R241): a pause whose time has run ends. -/
def execPauseExpiry (port : Fin 192) (cls : Option (Fin 8)) (s : State) : Host.Outcome State Fault Refusal :=
  onPort s port fun s =>
    let v := s.port port
    let v := match cls with
      | none => if v.pauseUntil ≤ s.up then { v with pauseUntil := 0 } else v
      | some c => if nget 0 v.pfcUntil c ≤ s.up then { v with pfcUntil := nerase c v.pfcUntil } else v
    (s.setPort port v).settlePause port

/-! ## Link states (03 R89-R93) -/

/-- The octet's power domain is on, which the port's lanes need (16 R457). -/
def State.lanesOn (s : State) (p : Nat) : Bool := (s.port p).kind ≠ .native || s.domain (octetDomain (p / 8))

/-- TRAINING_COMPLETE (03 R89, R90). -/
def execTrainingComplete (port : Fin 192) (s : State) : Host.Outcome State Fault Refusal :=
  onPort s port fun s => if (s.port port).state = .training ∧ s.lanesOn port then s.enter port .aligning else s

/-- TRAINING_TIMEOUT (03 R89): auto-negotiation starts again. -/
def execTrainingTimeout (port : Fin 192) (s : State) : Host.Outcome State Fault Refusal :=
  onPort s port fun s =>
    let v := s.port port
    if v.state = .training ∧ v.since + v.trainTimeout ≤ s.up then s.enter port .training else s

/-- ALIGNMENT_ACHIEVED (03 R90; 16 R466): all lanes are locked and deskewed. -/
def execAlignmentAchieved (port : Fin 192) (s : State) : Host.Outcome State Fault Refusal :=
  onPort s port fun s =>
    let v := s.port port
    if v.state = .aligning ∧ s.lanesOn port ∧ ¬ v.localFault ∧ s.serdesOk then
      s.setPort port { v with state := .holdOff, since := s.up, lockLost := false, lock := v.fullLock }
    else s

/-- PORT_FAULT (03 R90). -/
def execPortFault (port : Fin 192) (cause : PortFaultCause) (s : State) : Host.Outcome State Fault Refusal :=
  onPort s port fun s => s.portFault port cause

/-- PORT_FAULT_CLEAR (03 R90). -/
def execPortFaultClear (port : Fin 192) (cause : PortFaultCause) (s : State) : Host.Outcome State Fault Refusal :=
  onPort s port fun s => s.portFaultClear port cause

/-- DOWN_DEBOUNCE_EXPIRY (03 R90, R91). -/
def execDownDebounceExpiry (port : Fin 192) (s : State) : Host.Outcome State Fault Refusal :=
  onPort s port fun s =>
    let v := s.port port
    if v.state = .faulted ∧ v.since + v.debounce ≤ s.up then (s.enter port .down).portDown port else s

/-- UP_HOLDOFF_EXPIRY (03 R90, R91): UP, and a fault that is present then acts at once. -/
def execUpHoldoffExpiry (port : Fin 192) (s : State) : Host.Outcome State Fault Refusal :=
  onPort s port fun s =>
    let v := s.port port
    if v.state = .holdOff ∧ v.since + v.holdoff ≤ s.up then
      let s := (s.enter port .up).portUp port
      if v.faulty then s.faultPort port else s
    else s

/-- FEC_DEGRADE_TIMER (03 R92): the error rate has been above, or below, the threshold for 10 ms. -/
def execFecDegradeTimer (port : Fin 192) (above : Bool) (s : State) : Host.Outcome State Fault Refusal :=
  onPort s port fun s =>
    let v := s.port port
    if v.state = .disabled ∨ v.fecDegraded = above then s
    else
      let s := s.setPort port { v with fecDegraded := above }
      s.event (s.owner 0x14 port) (s.mkEvent 0x0003 port (b2n above))

/-- PORT_DISABLE_COMPLETE (03 R93, R94): the port has sent idle for 1 µs since its last frame, and both sides have
stopped. -/
def execPortDisableComplete (port : Fin 192) (s : State) : Host.Outcome State Fault Refusal :=
  onPort s port fun s =>
    let v := s.port port
    if ¬ v.disabling ∨ s.up < v.idleSince + 1000 then s
    else (s.stopPort port PortSt.carried).octetsOff (if v.kind = .native then v.lanes port else [])

/-! ## PORT letters (10 R344, group 0x04) -/

/-- Lanes that a port would take (03 R79). -/
def portLanes (a : PortArgs) : List Nat := (List.range (modeLanes a.mode.toNat)).map (· + a.port.toNat)

/-- PORT.CONFIGURE (03 R79, R80, R82, R94): an overlap with another port is malformed; a lane of an enabled user is
busy. Taking an octet's always-on mark back lets its domain go when nothing there is enabled. -/
def execPortConfigure (l : LetterId) (a : PortArgs) (s : State) : Host.Outcome State Fault Refusal :=
  .next (runLetter l 0x0401 ([p4 a.port, p4 a.mode, p4 a.medium, p8 a.mtu, p8 a.trainTimeout, p8 a.debounce,
      p8 a.holdoff, p4 a.fecDegrade, p4 a.pause, p4 a.pcpMap, p4 a.tcMap, p4 a.dscpMap0, p4 a.dscpMap1, p4 a.dscpMap2,
      p4 a.dscpMap3, p4 a.hashProfile, p4 a.alwaysOn]) (fun c =>
    let p := a.port.toNat
    let v := s.port p
    let m := a.mode.toNat
    let ls := portLanes a
    let env := octetsOf (s.flexeLanes ++ s.otuLanes)
    let held : Bool := ls.any fun x => s.enabledLanes.contains x
    let overlaps : Bool := ls.any fun x => (s.nativeLanes p).contains x || (!held && env.contains (x / 8))
    let other : Bool := v.kind ≠ .unused && v.kind ≠ .native
    let mtu := clampU 64 a.mtu.toNat 1518 9728 (some v.mtu)
    let tt := clampU 64 a.trainTimeout.toNat 1000000000 30000000000 (some v.trainTimeout)
    let db := clampU 64 a.debounce.toNat 0 100000000 (some v.debounce)
    let ho := clampU 64 a.holdoff.toNat 0 10000000000 (some v.holdoff)
    let fd := clampU 32 a.fecDegrade.toNat 1000 1000000 (some v.fecDegrade)
    checked [
      malformed (decide (4 < m)) 1, malformed (decide (1 < a.medium.toNat)) 2, malformed (decide (1 < a.pause.toNat)) 8,
      malformed (decide (65535 < a.pcpMap.toNat)) 9, malformed (decide (65535 < a.tcMap.toNat)) 10,
      malformed (decide (7 < a.hashProfile.toNat)) 15, malformed (decide (1 < a.alwaysOn.toNat)) 16,
      malformed (!legalLanes m p || overlaps || other) 0,
      noObj (!s.portExists c.sl p) 0,
      busy ((ls ++ if v.kind = .native then v.lanes p else []).any fun x => s.enabledLanes.contains x) 0] fun _ =>
    let v := { v with
      kind := .native, byZero := decide (c.sl = 0), mode := m, optics := a.medium = 1#32, mtu := mtu.v, trainTimeout := tt.v, debounce := db.v
      holdoff := ho.v, fecDegrade := fd.v, pauseOn := a.pause = 1#32, pcpMap := a.pcpMap, tcMap := a.tcMap
      dscpMap := a.dscpMap3 ++ a.dscpMap2 ++ a.dscpMap1 ++ a.dscpMap0, hashProfile := a.hashProfile.toNat
      alwaysOn := a.alwaysOn = 1#32 }
    let t := s.setPort p v
    let t := if (s.port p).alwaysOn && !v.alwaysOn then t.octetsOff [p] else t
    accept t
      (layBody [p4 a.port, p4 a.mode, p4 a.medium, n8 mtu.v, n8 tt.v, n8 db.v, n8 ho.v, n4 fd.v, p4 a.pause, p4 a.pcpMap,
        p4 a.tcMap, p4 a.dscpMap0, p4 a.dscpMap1, p4 a.dscpMap2, p4 a.dscpMap3, p4 a.hashProfile, p4 a.alwaysOn])
      (firstClamp [(3, mtu.c), (4, tt.c), (5, db.c), (6, ho.c), (7, fd.c)])) s)

/-- An Envelope client port holds slots, or a connected tributary, of a group that is enabled. -/
def State.clientLive (s : State) (p : Nat) : Bool :=
  match (s.port p).kind with
  | .native => true
  | .unused => false
  | .flexe g i => (s.flexe g i).st = .enabled && decide (0 < (s.port p).slots)
  | .otu g t => (s.tsPage g).active.any fun e => e.allocated && e.trib.toNat = t && e.client.toNat = p

/-- PORT.ENABLE (03 R90, R94). -/
def execPortEnable (l : LetterId) (port : W32) (s : State) : Host.Outcome State Fault Refusal :=
  .next (runLetter l 0x0402 [p4 port] (fun c =>
    let p := port.toNat
    let v := s.port p
    checked [noObj (!s.portExists c.sl p) 0, busy (v.disabling || (v.state = .disabled && !s.clientLive p)) 0] fun _ =>
    let t := if v.state ≠ .disabled then s else s.startPort p
    let t := t.octetsOn (if v.kind = .native then v.lanes p else [])
    accept t (layBody [p4 port])) s)

/-- PORT.DISABLE (03 R93): the receipt waits until both sides have stopped. -/
def execPortDisable (l : LetterId) (port : W32) (s : State) : Host.Outcome State Fault Refusal :=
  .next (runLetter l 0x0403 [p4 port] (fun c =>
    let p := port.toNat
    let v := s.port p
    checked [noObj (!s.portExists c.sl p) 0, busy v.disabling 0] fun _ =>
    if v.state = .disabled then accept s (layBody [p4 port])
    else acceptWait (s.setPort p { v with
      disabling := true, disableLetter := some l, rxOpen := true, txOpen := v.state = .up, idleSince := s.up })
      (layBody [p4 port])) s)

/-- A lane map is a permutation of 0-7 (03 R81). -/
def isPermutation (m : Nat) : Bool := (List.range 8).all fun x => (List.range 8).any fun i => bits m (3 * i + 2) (3 * i) = x

/-- PORT.SET_LANE_MAP (03 R81, R82). -/
def execPortSetLaneMap (l : LetterId) (octet map rxInvert txInvert : W32) (s : State) :
    Host.Outcome State Fault Refusal :=
  .next (runLetter l 0x0404 [p4 octet, p4 map, p4 rxInvert, p4 txInvert] (fun c =>
    let o := octet.toNat
    checked [
      malformed (decide (23 < o)) 0,
      malformed (decide (2 ^ 24 ≤ map.toNat) || !isPermutation map.toNat) 1,
      malformed (decide (255 < rxInvert.toNat)) 2, malformed (decide (255 < txInvert.toNat)) 3,
      noObj (decide (s.variant.octets ≤ o) || decide (c.sl ≠ 0)) 0,
      busy ((octetsOf s.enabledLanes).contains o) 0] fun _ =>
    let v : Octet := ⟨BitVec.ofNat 24 map.toNat, BitVec.ofNat 8 rxInvert.toNat, BitVec.ofNat 8 txInvert.toNat⟩
    accept { s with line := { s.line with octets := nset {} o v s.line.octets } }
      (layBody [p4 octet, p4 map, p4 rxInvert, p4 txInvert])) s)

/-- PORT.SET_DELAY (03 R88). -/
def execPortSetDelay (l : LetterId) (port : W32) (rx tx : W64) (s : State) : Host.Outcome State Fault Refusal :=
  .next (runLetter l 0x0405 [p4 port, p8 rx, p8 tx] (fun c =>
    let p := port.toNat
    let v := s.port p
    let r := clampS 64 rx.toNat (-100000) 100000 (some v.rxDelay)
    let t := clampS 64 tx.toNat (-100000) 100000 (some v.txDelay)
    checked [noObj (!s.portExists c.sl p) 0] fun _ =>
    accept (s.setPort p { v with rxDelay := sv r, txDelay := sv t }) (layBody [p4 port, p8s (sv r), p8s (sv t)])
      (firstClamp [(1, sc r), (2, sc t)])) s)

/-- The taps in force after a letter: each -63 to +63 (10 R344; notes/assumptions/45.md). -/
def tapsOf (t : TxTaps) (cur : Taps) : Taps × List Par × List (Nat × Bool) :=
  let a := clampS 32 t.pre2.toNat (-63) 63 (some cur.pre2)
  let b := clampS 32 t.pre1.toNat (-63) 63 (some cur.pre1)
  let c := clampS 32 t.main.toNat (-63) 63 (some cur.main)
  let d := clampS 32 t.post1.toNat (-63) 63 (some cur.post1)
  (⟨sv a, sv b, sv c, sv d⟩, [p4s (sv a), p4s (sv b), p4s (sv c), p4s (sv d)], [(1, sc a), (2, sc b), (3, sc c), (4, sc d)])

/-- PORT.SET_TX_EQ (03 R89). -/
def execPortSetTxEq (l : LetterId) (lane : W32) (taps : TxTaps) (s : State) : Host.Outcome State Fault Refusal :=
  .next (runLetter l 0x0406 [p4 lane, p4 taps.pre2, p4 taps.pre1, p4 taps.main, p4 taps.post1] (fun c =>
    let n := lane.toNat
    let r := tapsOf taps (nget {} s.line.taps n)
    checked [malformed (decide (191 < n)) 0, noObj (decide (s.variant.lanes ≤ n) || decide (c.sl ≠ 0)) 0] fun _ =>
    accept { s with line := { s.line with taps := nset {} n r.1 s.line.taps } } (layBody (p4 lane :: r.2.1))
      (firstClamp r.2.2)) s)

/-- Code of a port state (10 R521). -/
def PortSt.code : PortSt → Nat
  | .disabled => 0 | .training => 1 | .aligning => 2 | .holdOff => 3 | .up => 4 | .faulted => 5 | .down => 6

/-- PORT.STATUS (10 R521). -/
def execPortStatus (l : LetterId) (port : W32) (s : State) : Host.Outcome State Fault Refusal :=
  .next (runLetter l 0x0407 [p4 port] (fun c =>
    let v := s.port port.toNat
    checked [noObj (!s.portExists c.sl port.toNat) 0] fun _ =>
    accept s (layBody [n4 v.state.code, n4 (b2n v.fecDegraded), n4 v.lock.toNat, n4 0])) s)

end Sys2Proof.Machine
end

