-- ==== Sys2Proof/Machine/Envelope.lean ====
section
/-!
DEFINITION. Envelope.lean: the Envelope unit: FlexE groups, OTUCn interfaces, tributaries, overhead channels and the
ENVELOPE letters (03 R95-R113).
-/

namespace Sys2Proof.Machine

/-- A command on the Envelope unit, which only the LE-3840 has (00 R6; 03 R95). -/
def onEnvelope (s : State) (f : State → State) : Host.Outcome State Fault Refusal :=
  if s.variant.envelope then .next (f s) else .fault .absentUnit

/-! ## Clients and their faults (03 R100, R106, R108) -/

/-- Client ports of a framer group: numbers 16g to 16g + 15 (03 R78). -/
def groupPorts (g : Nat) : List Nat := (List.range 16).map (· + 16 * g)

/-- Client ports of a FlexE group. -/
def State.flexeClients (s : State) (g i : Nat) : List Nat :=
  (groupPorts g).filter fun p => (s.port p).kind = .flexe g i

/-- Slots of a calendar that name a client. -/
def calSlots (cal : List (BitVec 16)) (p : Nat) : Nat := (cal.filter fun x => x.toNat = p).length

/-- Calendar in use at transmit, and the other one. -/
def Flexe.txCal (v : Flexe) : List (BitVec 16) := if v.txB then v.txCalB else v.txCalA
/-- The inactive transmit calendar. -/
def Flexe.txIn (v : Flexe) : List (BitVec 16) := if v.txB then v.txCalA else v.txCalB

/-- Slots of the first `i` interfaces of a framer group: where an interface's entries start on a connection page. -/
def State.tsBase (s : State) (g i : Nat) : Nat := if i = 0 then 0 else 20 * (s.otu g 0).n
/-- Entries of an interface on a page (03 R109). -/
def State.ifaceEntries (s : State) (g i : Nat) (page : List TsEntry) : List TsEntry :=
  (page.drop (s.tsBase g i)).take (20 * (s.otu g i).n)
/-- Tributaries of an interface on the active page. -/
def State.ifaceTribs (s : State) (g i : Nat) : List Nat :=
  ((s.ifaceEntries g i (s.tsPage g).active).filter (·.allocated)).map (·.trib.toNat) |>.eraseDups

/-- Client port of a tributary on a page. -/
def clientOf (page : List TsEntry) (t : Nat) : Option Nat :=
  ((page.find? fun e => e.allocated ∧ e.trib.toNat = t)).map (·.client.toNat)

/-- A tributary. -/
def State.trib (s : State) (g t : Nat) : Trib := nget {} s.line.tribs (65536 * g + t)
/-- Write a tributary. -/
def State.setTrib (s : State) (g t : Nat) (v : Trib) : State :=
  { s with line := { s.line with tribs := nset {} (65536 * g + t) v s.line.tribs } }

/-- LOF or LOM is declared on an interface, or its deskew failed (03 R105). -/
def Otu.lof (v : Otu) : Bool := (v.align.any fun e => e.2.lof) || v.defects.contains .deskew
/-- Every tributary of the interface is treated as under ODU AIS (03 R106). -/
def Otu.ais (v : Otu) : Bool :=
  v.lof || (v.timAct && v.defects.contains .tim) || v.defects.contains .oduAis || v.defects.contains .oduOci ||
    v.defects.contains .oduLck
/-- A defect of one tributary that gives its client local fault (03 R106). -/
def Otu.tribDefect (v : Otu) (t : Nat) : Bool :=
  let x := BitVec.ofNat 16 t
  v.defects.contains (.tribAis x) || v.defects.contains (.tribOci x) || v.defects.contains (.tribLck x) ||
    v.defects.contains (.tribOmfi x) || v.defects.contains (.msi x)

/-- The Envelope unit gives a client local fault (03 R97, R100, R106, R108). -/
def State.clientFaulty (s : State) (p : Nat) : Bool :=
  match (s.port p).kind with
  | .flexe g i => let v := s.flexe g i; v.present && (v.deskewFail || v.mismatch.contains p)
  | .otu g t =>
    decide (5 ≤ (s.trib g t).badJc) ||
      ([0, 1].any fun i => (s.ifaceTribs g i).contains t && ((s.otu g i).ais || (s.otu g i).tribDefect t))
  | _ => false

/-- Pass on to the ports of a framer group what changed since an earlier state. -/
def State.updateClients (s old : State) (g : Nat) : State :=
  (groupPorts g).foldl (fun t p =>
    if old.clientFaulty p = s.clientFaulty p then t
    else if s.clientFaulty p then t.portFault p .localFault else t.portFaultClear p .localFault) s

/-- A client enters ALIGNING, from any state (03 R101, R109). -/
def State.startClient (s : State) (p : Nat) : State :=
  let s := s.enter p .aligning
  s.setPort p { s.port p with localFault := s.clientFaulty p }

/-- A client that loses its slots goes to DOWN, which is its port down event (03 R101, R109). -/
def State.loseClient (s : State) (p : Nat) : State :=
  match (s.port p).state with
  | .disabled | .down => s
  | _ => (s.enter p .down).portDown p

/-! ## FlexE groups (03 R96-R102) -/

/-- Number of a FlexE group among the module's 48. -/
def flexeNo (g i : Nat) : Nat := 4 * g + i

/-- Switch the transmit calendar (03 R99, R101): rates change, clients that lose every slot go down and clients that
gain their first one come up. -/
def State.switchCalendar (s : State) (g i : Nat) : State :=
  let v := s.flexe g i
  let new := v.txIn
  let s := s.setFlexe g i { v with txB := !v.txB, page := {}, ca := false }
  let s := s.bump .flexeCalSwitch (flexeNo g i)
  let s := (s.flexeClients g i).foldl (fun s p =>
    let was := (s.port p).slots
    let n := calSlots new p
    let s := s.setPort p { s.port p with slots := n }
    if n = 0 ∧ was ≠ 0 then s.loseClient p
    else if n ≠ 0 ∧ was = 0 ∧ v.st = .enabled then s.startClient p else s) s
  s.pageSwitched 1 (flexeNo g i) 0

/-- The overhead of the multiframe that begins (03 R99): CCC names the calendar in use; while the page is ARMED the
inactive calendar's client IDs go out, with CR where the group asks for CA. -/
def State.sendFlexeOh (s : State) (g i : Nat) : State :=
  let v := s.flexe g i
  let armed : Bool := v.page.state = .armed
  s.emit (.flexeOh g i v.txB (armed && v.caRequired) (if armed then some v.txIn else none))

/-- CALENDAR_SWITCH (03 R99): an overhead multiframe boundary passes. -/
def execCalendarSwitch (fgroup : Fin 12) (group : Fin 4) (s : State) : Host.Outcome State Fault Refusal :=
  onEnvelope s fun s =>
    let v := s.flexe fgroup group
    if ¬ v.present ∨ v.st ≠ .enabled then s
    else State.sendFlexeOh (g := fgroup) (i := group) <| match s.pageDue v.page with
      | .wait => s
      | .defer => (s.setFlexe fgroup group { v with page := { v.page with state := .deferred } }).pageDeferred 1
          (flexeNo fgroup group) 0
      | .switch =>
        if v.caRequired ∧ ¬ v.ca then
          (s.setFlexe fgroup group { v with page := { state := .loaded } }).raise 0x0301 (flexeNo fgroup group)
        else s.switchCalendar fgroup group

/-- FLEXE_CA_RECEIVE (03 R99): CA for the armed calendar. -/
def execFlexeCaReceive (fgroup : Fin 12) (group : Fin 4) (s : State) : Host.Outcome State Fault Refusal :=
  onEnvelope s fun s =>
    let v := s.flexe fgroup group
    if v.st = .enabled ∧ v.page.state.fixed then s.setFlexe fgroup group { v with ca := true } else s

/-- Clients whose slots differ between the far end's client IDs and the loaded calendar (03 R100). -/
def mismatched (g : Nat) (far cal : List (BitVec 16)) : List Nat :=
  let pairs := (List.range (max far.length cal.length)).filterMap fun k =>
    let x := far.getD k 0xFFFF#16
    let y := cal.getD k 0xFFFF#16
    if x = y then none else some (x.toNat, y.toNat)
  (groupPorts g).filter fun p => pairs.any fun q => q.1 = p || q.2 = p

/-- FLEXE_OH_FRAME (03 R100). -/
def execFlexeOhFrame (fgroup : Fin 12) (group : Fin 4) (crcOk ccc : Bool) (clients : List (BitVec 16)) (s : State) :
    Host.Outcome State Fault Refusal :=
  onEnvelope s fun s =>
    let v := s.flexe fgroup group
    if ¬ v.present ∨ v.st ≠ .enabled then s
    else if ¬ crcOk then s.bump .flexeOhCrc (flexeNo fgroup group)
    else
      let bad := mismatched fgroup clients (if ccc then v.rxCalB else v.rxCalA)
      let t := s.setFlexe fgroup group { v with rxB := ccc, mismatch := bad }
      let detail := bad.foldl (fun n p => n + 2 ^ (p % 16)) 0
      (t.updateClients s fgroup).condition 0x0302 (flexeNo fgroup group) (!bad.isEmpty) detail

/-- FLEXE_DESKEW_FAIL (03 R97). -/
def execFlexeDeskewFail (fgroup : Fin 12) (group : Fin 4) (s : State) : Host.Outcome State Fault Refusal :=
  onEnvelope s fun s =>
    let v := s.flexe fgroup group
    if v.st ≠ .enabled ∨ v.deskewFail then s
    else ((s.setFlexe fgroup group { v with deskewFail := true }).updateClients s fgroup).bump .flexeDeskewFail
      (flexeNo fgroup group)

/-- FLEXE_DESKEW_RECOVERY (03 R97). -/
def execFlexeDeskewRecovery (fgroup : Fin 12) (group : Fin 4) (s : State) : Host.Outcome State Fault Refusal :=
  onEnvelope s fun s =>
    let v := s.flexe fgroup group
    if ¬ v.deskewFail then s else (s.setFlexe fgroup group { v with deskewFail := false }).updateClients s fgroup

/-! ## OTUCn interfaces (03 R103-R106) -/

/-- Key of an alignment machine. -/
def layerKey : AlignLayer → Nat
  | .flexo => 0 | .otuc i => 1 + i.val | .mfas => 17

/-- One alignment machine's step at an expected position (03 R104). A machine that leaves or enters the out-of-frame
states notes the time. -/
def Align.check (a : Align) (n m up : Nat) (correct : Bool) : Align :=
  match a.st with
  | .search => if correct then { a with st := .confirm, run := 0 } else a
  | .confirm =>
    if ¬ correct then { a with st := .search, run := 0 }
    else if n ≤ a.run + 1 then { a with st := .inFrame, run := 0, since := up } else { a with run := a.run + 1 }
  | .inFrame => if correct then a else { a with st := .errored, run := 1 }
  | .errored =>
    if correct then { a with st := .inFrame, run := 0 }
    else if m ≤ a.run + 1 then { a with st := .search, run := 0, since := up } else { a with run := a.run + 1 }

/-- Out of frame (03 R104). -/
def Align.outOfFrame (a : Align) : Bool := a.st = .search || a.st = .confirm

/-- BDI and the fault follow the interface's defects (03 R106). -/
def State.otuActions (s : State) (g i : Nat) : State :=
  let v := s.otu g i
  let odu : Bool := v.defects.contains .oduAis || v.defects.contains .oduOci || v.defects.contains .oduLck
  (s.setOtu g i { v with bdiSm := v.lof || v.defects.contains .tim, bdiPm := odu }).condition 0x0303 (2 * g + i) v.lof

/-- The interface runs. -/
def Otu.live (v : Otu) : Bool := v.present && v.st = .enabled

/-- The layer exists on the interface. -/
def Otu.hasLayer (v : Otu) : AlignLayer → Bool
  | .otuc i => decide (i.val < v.n)
  | _ => true

/-- Count the errors that the overhead of an OTUC instance in frame reported: BIP-8 and BEI of the section for each
instance, of the path for the ODUCn (03 R106, R114; notes/assumptions/112.md). -/
def State.otnErrors (s : State) (g i : Nat) (layer : AlignLayer) (e : OtnErrors) : State :=
  match layer with
  | .otuc k =>
    let n := 32 * g + 16 * i + k.val
    let s := (s.bumpBy .otuBip8 n 0 e.smBip).bumpBy .otuBei n 0 e.smBei
    (s.bumpBy .oduBip8 (2 * g + i) 0 e.pmBip).bumpBy .oduBei (2 * g + i) 0 e.pmBei
  | _ => s

/-- FRAME_PATTERN_CHECK (03 R104, R106): the alignment machine steps; the errors of a frame found in frame count. -/
def execFramePatternCheck (fgroup : Fin 12) (iface : Fin 2) (layer : AlignLayer) (correct : Bool) (errors : OtnErrors)
    (s : State) : Host.Outcome State Fault Refusal :=
  onEnvelope s fun s =>
    let v := s.otu fgroup iface
    if ¬ v.live ∨ ¬ v.hasLayer layer then s
    else
      let a := (nget {} v.align (layerKey layer)).check v.frameN v.frameM s.up correct
      let s := s.setOtu fgroup iface { v with align := nset {} (layerKey layer) a v.align }
      if a.outOfFrame then s else s.otnErrors fgroup iface layer errors

/-- Set LOF or LOM of a layer, with what follows (03 R105, R106). -/
def State.setLof (s : State) (g i : Nat) (layer : AlignLayer) (on : Bool) : State :=
  let v := s.otu g i
  let t := s.setOtu g i { v with align := nmod {} (layerKey layer) (fun a => { a with lof := on }) v.align }
  (t.updateClients s g).otuActions g i

/-- LOF_DECLARE (03 R105): out of frame for 3 ms. -/
def execLofDeclare (fgroup : Fin 12) (iface : Fin 2) (layer : AlignLayer) (s : State) : Host.Outcome State Fault Refusal :=
  onEnvelope s fun s =>
    let v := s.otu fgroup iface
    let a := nget {} v.align (layerKey layer)
    if v.live ∧ v.hasLayer layer ∧ a.outOfFrame ∧ ¬ a.lof ∧ max a.since v.since + 3000000 ≤ s.up then s.setLof fgroup iface layer true
    else s

/-- LOF_CLEAR (03 R105): in frame for 3 ms. -/
def execLofClear (fgroup : Fin 12) (iface : Fin 2) (layer : AlignLayer) (s : State) : Host.Outcome State Fault Refusal :=
  onEnvelope s fun s =>
    let v := s.otu fgroup iface
    let a := nget {} v.align (layerKey layer)
    if v.live ∧ ¬ a.outOfFrame ∧ a.lof ∧ max a.since v.since + 3000000 ≤ s.up then s.setLof fgroup iface layer false else s

/-- The tributary whose MSI a defect concerns. -/
def msiTrib : OtnDefect → Option Nat
  | .msi t => some t.toNat
  | _ => none

/-- Object of a tributary's fault: 65536 x framer group + tributary port number. DESIGN CHOICE: the spec does not number
it (03 R106; notes/assumptions/130.md). -/
def tribObject (g t : Nat) : Nat := 65536 * g + t

/-- OTN_DEFECT (03 R106). An MSI mismatch is not looked for until both ends have switched to one page; it applies
whenever it is detected. A TTI mismatch counts when it is detected. -/
def execOtnDefect (fgroup : Fin 12) (iface : Fin 2) (defect : OtnDefect) (present : Bool) (s : State) :
    Host.Outcome State Fault Refusal :=
  onEnvelope s fun s =>
    let v := s.otu fgroup iface
    if ¬ v.live ∨ v.defects.contains defect = present then s
    else
      let t := s.setOtu fgroup iface { v with
        defects := if present then v.defects ++ [defect] else v.defects.filter (· ≠ defect)
        timCount := if present && defect = .tim then v.timCount + 1 else v.timCount }
      let t := (t.updateClients s fgroup).otuActions fgroup iface
      match msiTrib defect with
      | some k => t.condition 0x0304 (tribObject fgroup k) present
      | none => t

/-! ## Tributaries (03 R107-R109) -/

/-- A tributary is connected on the active page of an interface that runs. -/
def State.tribLive (s : State) (g t : Nat) : Bool := [0, 1].any fun i => (s.otu g i).live && (s.ifaceTribs g i).contains t

/-- GMP_JC_RECEIVE (03 R108). -/
def execGmpJcReceive (fgroup : Fin 12) (trib : BitVec 16) (crcOk : Bool) (cm : BitVec 16) (s : State) :
    Host.Outcome State Fault Refusal :=
  onEnvelope s fun s =>
    if ¬ s.tribLive fgroup trib.toNat then s
    else
      let v := s.trib fgroup trib.toNat
      if crcOk then (s.setTrib fgroup trib.toNat { v with cm := cm, badJc := 0 }).updateClients s fgroup
      else
        let t := (s.setTrib fgroup trib.toNat { v with badJc := v.badJc + 1 }).updateClients s fgroup
        t.bump .gmpJcCrc ((clientOf (s.tsPage fgroup).active trib.toNat).getD 0)

/-- GMP_MULTIFRAME_TX (03 R108): Cm and the sum of CnD from the fill of the client's buffer; the computation of ITU-T
G.709 is not given. -/
def execGmpMultiframeTx (fgroup : Fin 12) (trib : BitVec 16) (fill : BitVec 16) (s : State) :
    Host.Outcome State Fault Refusal :=
  onEnvelope s fun s =>
    if ¬ s.tribLive fgroup trib.toNat then s
    else
      let cm := Config.gmpCm fill.toNat
      let cnd := Config.gmpCnd fill.toNat
      let v := s.trib fgroup trib.toNat
      (s.setTrib fgroup trib.toNat { v with txCm := cm, txCnd := cnd }).emit (.gmp fgroup trib.toNat cm cnd)

/-- Positions at which a page connects a tributary. -/
def tribSlots (page : List TsEntry) (t : Nat) : List Nat :=
  (List.range page.length).filter fun i => match page[i]? with
    | some e => e.allocated && e.trib.toNat = t
    | none => false

/-- Tributaries of a page. -/
def pageTribs (page : List TsEntry) : List Nat := ((page.filter (·.allocated)).map (·.trib.toNat)).eraseDups

/-- A tributary runs on through a switch: both pages give it the same slots and client (03 R109). DESIGN CHOICE: one whose
slots stay but whose client changes starts anew, since the rule names the slots only (notes/assumptions/129.md). -/
def keepsRunning (old new : List TsEntry) (t : Nat) : Bool :=
  decide (tribSlots old t = tribSlots new t) && decide (clientOf old t = clientOf new t)

/-- Switch the connection page (03 R109). -/
def State.switchTsPage (s : State) (g : Nat) : State :=
  let v := s.tsPage g
  let gone := (pageTribs v.active).filter fun t => ¬ keepsRunning v.active v.inactive t
  let come := (pageTribs v.inactive).filter fun t => ¬ keepsRunning v.active v.inactive t
  let s := (gone.filterMap (clientOf v.active)).foldl State.loseClient s
  let s := s.setTsPage g { active := v.inactive, inactive := v.active, page := {} }
  let s := gone.foldl (fun s t => s.setTrib g t {}) s
  let s := come.foldl (fun s t => match clientOf v.inactive t with
    | some p =>
      let s := s.setPort p { s.port p with kind := .otu g t }
      if s.tribLive g t then s.startClient p else s
    | none => s) s
  s.pageSwitched 2 g 0

/-- TS_PAGE_SWITCH (03 R109): an OTUCn frame boundary passes. -/
def execTsPageSwitch (fgroup : Fin 12) (s : State) : Host.Outcome State Fault Refusal :=
  onEnvelope s fun s =>
    let v := s.tsPage fgroup
    if ¬ (s.otu fgroup 0).live ∧ ¬ (s.otu fgroup 1).live then s
    else match s.pageDue v.page with
      | .wait => s
      | .defer => (s.setTsPage fgroup { v with page := { v.page with state := .deferred } }).pageDeferred 2 fgroup 0
      | .switch => s.switchTsPage fgroup

/-! ## Overhead channels (03 R110-R112; numbering in notes/assumptions/47.md) -/

/-- An overhead channel. -/
def State.ohChan (s : State) (c : Nat) : OhChannel := nget {} s.line.oh c
/-- Write an overhead channel. -/
def State.setOh (s : State) (c : Nat) (v : OhChannel) : State :=
  { s with line := { s.line with oh := nset {} c v s.line.oh } }

/-- The signal that carries an overhead channel runs: of channel 30g + k, k 0-9 are the interfaces' GCC0, GCC1, GCC2, SM
TTI and PM TTI, 10-25 the FlexE PHYs by lane, 26-29 the FlexE groups. -/
def State.ohLive (s : State) (c : Nat) : Bool :=
  let g := c / 30
  let k := c % 30
  decide (c < 360) &&
    if k < 10 then (s.otu g (k / 5)).live
    else if k < 26 then (List.range 4).any fun i =>
      let v := s.flexe g i
      v.st = .enabled && v.phys.getLsbD (k - 10)
    else (s.flexe g (k - 26)).st = .enabled

/-- Step 4 of a roll-out restarts the controller of a framer group (14 R424; notes/assumptions/153.md). -/
def State.groupMoving (s : State) (g : Nat) : Bool :=
  (s.images.act.st = .rolling || s.images.act.st = .rollingBack) && decide (s.images.act.step = 4) &&
  decide (s.images.act.sub = g)

/-- OH_RX_FRAME (03 R112; 14 R424): while the group's controller restarts, what it has received is discarded and
counted. -/
def execOhRxFrame (channel : BitVec 12) (bytes : List Byte) (s : State) : Host.Outcome State Fault Refusal :=
  onEnvelope s fun s =>
    let c := channel.toNat
    let v := s.ohChan c
    if ¬ s.ohLive c then s
    else if s.groupMoving (c / 30) then
      (s.setOh c { v with rx := [], rxFrame := v.rxFrame + BitVec.ofNat 32 (v.rx.length + 1), slip := true }).bump
        .ohRxSlip c 0 (v.rx.length + 1)
    else if v.rx.length < 64 then s.setOh c { v with rx := v.rx ++ [bytes] }
    else (s.setOh c { v with rx := v.rx.drop 1 ++ [bytes], rxFrame := v.rxFrame + 1#32, slip := true }).bump .ohRxSlip c

/-- Whole frames that fit a record of 2,047 bytes. -/
def wholeFrames : Nat → List (List Byte) → Nat
  | _, [] => 0
  | room, f :: fs => if f.length ≤ room then 1 + wholeFrames (room - f.length) fs else 0

/-- The overhead record header (03 R111). -/
def ohHeader (channel : Nat) (frame : W32) (slip : Bool) (len : Nat) : List Byte :=
  leBytes (channel * 2 ^ 52 + frame.toNat * 2 ^ 16 + b2n slip * 2 ^ 15 + len) 8

/-- OH_RECORD_DELIVER (03 R111): the oldest whole frames leave in one record, into the next slot of the named ring. -/
def execOhRecordDeliver (channel : BitVec 12) (s : State) : Host.Outcome State Fault Refusal :=
  onEnvelope s fun s =>
    let c := channel.toNat
    let v := s.ohChan c
    let n := wholeFrames 2047 v.rx
    if n = 0 ∨ v.rxRing.isNone ∨ ¬ s.mayRequest v.slice then s
    else
      let data := (v.rx.take n).flatten
      let s := s.setOh c { v with
        rx := v.rx.drop n, rxFrame := v.rxFrame + BitVec.ofNat 32 n, slip := false, produced := v.produced + 1 }
      s.emit (.record 67 (v.rxRing.getD 0#64) (v.produced % v.depth) (ohHeader c v.rxFrame v.slip data.length ++ data))

/-- Bytes that a frame carries when the host supplied none (03 R110): HDLC flags, the next byte of the last TTI written,
or for FlexE management idle control blocks, shown as no bytes. -/
def ohFill (c : Nat) (tti : List Byte) : List Byte :=
  let k := c % 30
  if 10 ≤ k then [] else if k % 5 < 3 then [0x7E#8, 0x7E#8] else tti.take 1

/-- The last 64 bytes sent, with those of one more frame: repeating its first byte repeats the 64-byte TTI in turn. -/
def ttiPush (tti f : List Byte) : List Byte := (tti ++ f).drop f.length

/-- OH_TX_FRAME (03 R110, R112; 14 R424): while the group's controller restarts, the channel sends its fill. -/
def execOhTxFrame (channel : BitVec 12) (s : State) : Host.Outcome State Fault Refusal :=
  onEnvelope s fun s =>
    let c := channel.toNat
    let v := s.ohChan c
    let fill := ohFill c v.tti
    if ¬ s.ohLive c then s
    else if s.groupMoving (c / 30) ∧ v.tx ≠ [] then (s.setOh c { v with tti := ttiPush v.tti fill }).emit (.overhead c fill)
    else match v.tx with
      | f :: fs => (s.setOh c { v with tx := fs, tti := ttiPush v.tti f }).emit (.overhead c f)
      | [] => ((s.setOh c { v with tti := ttiPush v.tti fill }).emit (.overhead c fill)).bump .ohTxUnderrun c

/-- OH_TX_WRITE (03 R112): a record that does not fit is the newest one, and is discarded whole; its frames count
(notes/assumptions/132.md). -/
def execOhTxWrite (channel : BitVec 12) (frames : List (List Byte)) (s : State) : Host.Outcome State Fault Refusal :=
  onEnvelope s fun s =>
    let c := channel.toNat
    let v := s.ohChan c
    if 360 ≤ c ∨ v.txRing.isNone ∨ ¬ s.mayRequest v.slice then s
    else if v.tx.length + frames.length ≤ 64 then s.setOh c { v with tx := v.tx ++ frames }
    else s.bump .ohTxOverflow c 0 frames.length

/-! ## Stopping a group (03 R113) -/

/-- Client ports of an OTUCn interface. -/
def State.otuClients (s : State) (g i : Nat) : List Nat :=
  (s.ifaceTribs g i).filterMap (clientOf (s.tsPage g).active)

/-- A client of a group that stops (03 R113). -/
def State.stopClient (s : State) (p : Nat) : State := s.stopPort p PortSt.served

/-- ENVELOPE_DISABLE_BOUNDARY (03 R113): the clients go down, the far end is told for 1 ms by remote PHY fault or LCK,
armed pages return to LOADED. -/
def execEnvelopeDisableBoundary (fgroup : Fin 12) (otu : Bool) (index : Fin 4) (s : State) :
    Host.Outcome State Fault Refusal :=
  onEnvelope s fun s =>
    if otu then
      let v := s.otu fgroup index
      if v.st ≠ .stopping then s
      else
        let s := ((s.otuClients fgroup index).foldl State.stopClient s).emit (.groupFault fgroup true index)
        let s := s.setOtu fgroup index { v with
          st := .faultSent, since := s.up, defects := [], align := [], bdiSm := false, bdiPm := false }
        let s := s.condition 0x0303 (2 * fgroup + index) false
        let t := s.tsPage fgroup
        (s.setTsPage fgroup { t with page := t.page.cancel }).clearFault 0x0203 (pageObject 2 fgroup)
    else
      let v := s.flexe fgroup index
      if v.st ≠ .stopping then s
      else
        let s := ((s.flexeClients fgroup index).foldl State.stopClient s).emit (.groupFault fgroup false index)
        let s := s.setFlexe fgroup index { v with
          st := .faultSent, since := s.up, page := v.page.cancel, deskewFail := false, mismatch := [], ca := false }
        (s.condition 0x0302 (flexeNo fgroup index) false).clearFault 0x0203 (pageObject 1 (flexeNo fgroup index))

/-- The framer group's domain goes off when nothing in it is enabled (03 R113). -/
def State.framerOff (s : State) (g : Nat) : State :=
  if ((List.range 4).all fun i => (s.flexe g i).st = .disabled) && ([0, 1].all fun i => (s.otu g i).st = .disabled) then
    s.askDomain (framerDomain g) false
  else s

/-- ENVELOPE_LANES_IDLE (03 R113): 1 ms after the boundary the lanes are idle and the receipt goes. -/
def execEnvelopeLanesIdle (fgroup : Fin 12) (otu : Bool) (index : Fin 4) (s : State) : Host.Outcome State Fault Refusal :=
  onEnvelope s fun s =>
    if otu then
      let v := s.otu fgroup index
      if v.st ≠ .faultSent ∨ s.up < v.since + 1000000 then s
      else (((s.setOtu fgroup index { v with st := .disabled, letter := none }).octetsOff v.laneList).framerOff
        fgroup).release? v.letter
    else
      let v := s.flexe fgroup index
      if v.st ≠ .faultSent ∨ s.up < v.since + 1000000 then s
      else (((s.setFlexe fgroup index { v with st := .disabled, letter := none }).octetsOff (v.lanes fgroup)).framerOff
        fgroup).release? v.letter

/-! ## ENVELOPE letters (10 R344, group 0x05) -/

/-- The first check of every ENVELOPE letter: the variant has the unit (03 R95), and framer groups are slice 0's. -/
def noEnvelope (s : State) (c : Ctx) : Bool × Reject := noObj (!s.variant.envelope || decide (c.sl ≠ 0)) 0

/-- PHY lanes of a type: whole PHYs on legal lanes, from 1 to 8 of them (03 R96). -/
def legalPhys (phyType phys : Nat) : Bool :=
  let w := if phyType = 2 then 2 else if phyType = 3 then 4 else 1
  let count := ((List.range (16 / w)).filter fun i => bits phys (w * i + w - 1) (w * i) = 2 ^ w - 1).length
  decide (count * w = (maskBits phys 16).length) && decide (1 ≤ count) && decide (count ≤ 8)
/-- Slots of a FlexE group: 20 for each 100G instance (03 R96). -/
def Flexe.slotCount (v : Flexe) : Nat :=
  20 * (maskBits v.phys.toNat 16).length * (if v.phyType = 0 then 1 else 2)

/-- ENVELOPE.CREATE_FLEXE (03 R95, R96). -/
def execEnvelopeCreateFlexe (l : LetterId) (fgroup group phyType phys caRequired : W32) (s : State) :
    Host.Outcome State Fault Refusal :=
  .next (runLetter l 0x0501 [p4 fgroup, p4 group, p4 phyType, p4 phys, p4 caRequired] (fun c =>
    let g := fgroup.toNat
    let i := group.toNat
    let m := phys.toNat
    let ls := (maskBits m 16).map (· + 16 * g)
    let clash : Bool := ls.any fun x => (octetsOf s.otuLanes).contains (x / 8) ||
      (octetsOf (s.nativeLanes 256)).contains (x / 8) || s.flexeLanes.contains x
    checked [
      noEnvelope s c,
      malformed (decide (11 < g)) 0, malformed (decide (3 < i)) 1, malformed (decide (3 < phyType.toNat)) 2,
      malformed (decide (65535 < m) || !legalPhys phyType.toNat m || clash) 3, malformed (decide (1 < caRequired.toNat)) 4,
      busy (s.flexe g i).present 1] fun _ =>
    let v : Flexe := {
      present := true, phyType := phyType.toNat, phys := BitVec.ofNat 16 m, caRequired := caRequired = 1#32 }
    accept (s.setFlexe g i v) (layBody [p4 fgroup, p4 group, p4 phyType, p4 phys, p4 caRequired])) s)

/-- ENVELOPE.CREATE_OTU (03 R95, R103, R104). -/
def execEnvelopeCreateOtu (l : LetterId) (a : OtuArgs) (s : State) : Host.Outcome State Fault Refusal :=
  .next (runLetter l 0x0502 [p4 a.fgroup, p4 a.iface, p4 a.n, p4 a.firstLane, p4 a.lanes, p4 a.frameN, p4 a.frameM,
      p4 a.timAct] (fun c =>
    let g := a.fgroup.toNat
    let i := a.iface.toNat
    let n := a.n.toNat
    let f := a.firstLane.toNat
    let w := a.lanes.toNat
    let ls := (List.range w).map (· + f)
    let clash : Bool := ls.any fun x => (octetsOf (s.nativeLanes 256 ++ s.flexeLanes)).contains (x / 8) || s.otuLanes.contains x
    let fn := clampU 32 a.frameN.toNat 1 8 (some 2)
    let fm := clampU 32 a.frameM.toNat 2 16 (some 5)
    checked [
      noEnvelope s c,
      malformed (decide (11 < g)) 0, malformed (decide (1 < i)) 1, malformed (decide (n < 1) || decide (16 < n)) 2,
      malformed (!decide (w ∈ [1, 2, 4, 8]) || decide (2 * w < n)) 4,
      malformed (decide (f / 16 ≠ g) || decide (f % w ≠ 0) || clash) 3,
      malformed (decide (1 < a.timAct.toNat)) 7, busy (s.otu g i).present 1] fun _ =>
    let v : Otu := {
      present := true, n := n, firstLane := f, lanes := w, frameN := fn.v, frameM := fm.v, timAct := a.timAct = 1#32 }
    accept (s.setOtu g i v)
      (layBody [p4 a.fgroup, p4 a.iface, p4 a.n, p4 a.firstLane, p4 a.lanes, n4 fn.v, n4 fm.v, p4 a.timAct])
      (firstClamp [(5, fn.c), (6, fm.c)])) s)

/-- Checks of a letter that names a group by kind and index. -/
def groupChecks (s : State) (c : Ctx) (g kind i : Nat) : List (Bool × Reject) :=
  [noEnvelope s c, malformed (decide (11 < g)) 0, malformed (decide (1 < kind)) 1,
   malformed (decide (3 < i) || (decide (kind = 1) && decide (1 < i))) 2,
   noObj (if kind = 0 then !(s.flexe g i).present else !(s.otu g i).present) 2]

/-- A client port of the tributaries of a framer group. -/
def otuOf (g : Nat) : PortKind → Bool
  | .otu h _ => decide (h = g)
  | _ => false

/-- State of a group. -/
def State.groupSt (s : State) (g kind i : Nat) : GroupSt := if kind = 0 then (s.flexe g i).st else (s.otu g i).st

/-- A client port number is free again. -/
def State.freeClient (s : State) (p : Nat) : State := s.setPort p { s.port p with kind := .unused, slots := 0 }

/-- A page names a port as a client. -/
def namesClient (page : List TsEntry) (p : Nat) : Bool := page.any fun e => e.allocated && e.client.toNat = p

/-- Client ports of a framer group's tributaries that neither page names. -/
def State.looseClients (s : State) (g : Nat) : List Nat :=
  (groupPorts g).filter fun p => otuOf g (s.port p).kind && !namesClient (s.tsPage g).active p &&
    !namesClient (s.tsPage g).inactive p

/-- ENVELOPE.DELETE_GROUP (03 R113): the client port numbers are free again. -/
def execEnvelopeDeleteGroup (l : LetterId) (fgroup kind index : W32) (s : State) : Host.Outcome State Fault Refusal :=
  .next (runLetter l 0x0503 [p4 fgroup, p4 kind, p4 index] (fun c =>
    let g := fgroup.toNat
    let k := kind.toNat
    let i := index.toNat
    checked (groupChecks s c g k i ++ [busy (decide (s.groupSt g k i ≠ .disabled)) 2]) fun _ =>
    let t := if k = 0 then ((s.flexeClients g i).foldl State.freeClient s).setFlexe g i {}
      else
        let pages := s.tsPage g
        let base := s.tsBase g i
        let len := 20 * (s.otu g i).n
        let cut (page : List TsEntry) : List TsEntry := page.take base ++ page.drop (base + len)
        let s := s.setTsPage g { pages with active := cut pages.active, inactive := cut pages.inactive }
        ((s.looseClients g).foldl State.freeClient s).setOtu g i {}
    accept t (layBody [p4 fgroup, p4 kind, p4 index])) s)

/-- ENVELOPE.ENABLE_GROUP (03 R94, R113): the framer group and its octets power on; clients that hold slots come up. -/
def execEnvelopeEnableGroup (l : LetterId) (fgroup kind index : W32) (s : State) : Host.Outcome State Fault Refusal :=
  .next (runLetter l 0x0504 [p4 fgroup, p4 kind, p4 index] (fun c =>
    let g := fgroup.toNat
    let k := kind.toNat
    let i := index.toNat
    let st := s.groupSt g k i
    checked (groupChecks s c g k i ++ [busy (st = .stopping || st = .faultSent) 2]) fun _ =>
    let t := if st = .enabled then (s.askDomain (framerDomain g) true).octetsOn (if k = 0 then (s.flexe g i).lanes g else (s.otu g i).laneList)
      else if k = 0 then
        let v := s.flexe g i
        let s := ((s.setFlexe g i { v with st := .enabled }).askDomain (framerDomain g) true).octetsOn (v.lanes g)
        ((s.flexeClients g i).filter fun p => (s.port p).slots ≠ 0).foldl State.startClient s
      else
        let v := s.otu g i
        let s := ((s.setOtu g i { v with st := .enabled, align := [], since := s.up }).askDomain (framerDomain g) true).octetsOn
          v.laneList
        (s.otuClients g i).foldl State.startClient s
    accept t (layBody [p4 fgroup, p4 kind, p4 index])) s)

/-- ENVELOPE.DISABLE_GROUP (03 R113): the receipt waits until the lanes are idle. -/
def execEnvelopeDisableGroup (l : LetterId) (fgroup kind index : W32) (s : State) : Host.Outcome State Fault Refusal :=
  .next (runLetter l 0x0505 [p4 fgroup, p4 kind, p4 index] (fun c =>
    let g := fgroup.toNat
    let k := kind.toNat
    let i := index.toNat
    let st := s.groupSt g k i
    let body := layBody [p4 fgroup, p4 kind, p4 index]
    checked (groupChecks s c g k i ++ [busy (st = .stopping || st = .faultSent) 2]) fun _ =>
    if st = .disabled then accept s body
    else if k = 0 then acceptWait (s.setFlexe g i { s.flexe g i with st := .stopping, letter := some l }) body
    else acceptWait (s.setOtu g i { s.otu g i with st := .stopping, letter := some l }) body) s)

/-- A port number may serve as a client of a framer group: it lies there and no native port has it (03 R78). -/
def State.mayServe (s : State) (g p : Nat) (own : PortKind → Bool) : Bool :=
  let k := (s.port p).kind
  decide (p / 16 = g) && (k = .unused || own k)

/-- Client ports that a calendar names. -/
def calPorts (cal : List (BitVec 16)) : List Nat := ((cal.filter (· ≠ 0xFFFF#16)).map (·.toNat)).eraseDups

/-- ENVELOPE.WRITE_CALENDAR (03 R98, R99): the inactive transmit calendar and the matching receive calendar. -/
def execEnvelopeWriteCalendar (l : LetterId) (fgroup group : W32) (slots : ListArg (BitVec 16)) (s : State) :
    Host.Outcome State Fault Refusal :=
  .next (runLetter l 0x0506 [p4 fgroup, p4 group, pL slots] (fun c =>
    let g := fgroup.toNat
    let i := group.toNat
    let v := s.flexe g i
    checked [
      noEnvelope s c, malformed (decide (11 < g)) 0, malformed (decide (3 < i)) 1,
      malformed (v.present && decide (slots.count.toNat ≠ v.slotCount)) 2] fun _ =>
    withList slots fun cal =>
    let ports := calPorts cal
    checked [
      malformed (ports.any fun p => decide (320 < calSlots cal p)) 2,
      noObj (!v.present) 1, noObj (ports.any fun p => !s.mayServe g p fun k => k = .flexe g i) 2, busy v.page.state.fixed 1]
      fun _ =>
    let page : Page := { state := .loaded }
    let v := if v.txB then { v with txCalA := cal, rxCalA := cal, page := page }
      else { v with txCalB := cal, rxCalB := cal, page := page }
    let s := s.setFlexe g i v
    acceptStaged (ports.foldl (fun s p => s.setPort p { s.port p with kind := .flexe g i }) s)
      (layBody [p4 fgroup, p4 group, pL slots])) s)

/-- ENVELOPE.SCHEDULE_CALENDAR (03 R99). -/
def execEnvelopeScheduleCalendar (l : LetterId) (fgroup group : W32) (t : TimeParam) (s : State) :
    Host.Outcome State Fault Refusal :=
  .next (runLetter l 0x0507 [p4 fgroup, p4 group, pT t] (fun c =>
    let g := fgroup.toNat
    let i := group.toNat
    let v := s.flexe g i
    checked ([noEnvelope s c, malformed (decide (11 < g)) 0, malformed (decide (3 < i)) 1, malformed (badTime t) 2,
      noObj (!v.present) 1] ++ scheduleChecks s v.page t 2) fun _ =>
    acceptScheduled (s.setFlexe g i { v with page := { state := .armed, t := schedT t }, ca := false })
      (layBody [p4 fgroup, p4 group, pT t])) s)

/-- ENVELOPE.CANCEL_CALENDAR (02 R53). -/
def execEnvelopeCancelCalendar (l : LetterId) (fgroup group : W32) (s : State) : Host.Outcome State Fault Refusal :=
  .next (runLetter l 0x0508 [p4 fgroup, p4 group] (fun c =>
    let g := fgroup.toNat
    let i := group.toNat
    let v := s.flexe g i
    checked [noEnvelope s c, malformed (decide (11 < g)) 0, malformed (decide (3 < i)) 1, noObj (!v.present) 1,
      busy (!v.page.state.fixed) 1] fun _ =>
    accept ((s.setFlexe g i { v with page := v.page.cancel }).clearFault 0x0203 (pageObject 1 (flexeNo g i)))
      (layBody [p4 fgroup, p4 group])) s)

/-- Every tributary of a page has one client. -/
def oneClient (page : List TsEntry) : Bool :=
  page.all fun e => !e.allocated || page.all fun f => !f.allocated || e.trib ≠ f.trib || e.client = f.client

/-- The slots of a tributary on a page are those of one interface, whose entries the first one's end divides from the
second one's, and as many as an ODU4's or an ODUflex's client takes (03 R107). -/
def legalTrib (page : List TsEntry) (base t : Nat) : Bool :=
  let at_ := tribSlots page t
  (at_.all (· < base) || at_.all (base ≤ ·)) &&
    (at_.length = 20 || [200000000000, 400000000000, 800000000000].any fun r => Config.oduflexSlots r = at_.length)

/-- ENVELOPE.WRITE_TS_PAGE (03 R107, R109; notes/assumptions/128.md). -/
def execEnvelopeWriteTsPage (l : LetterId) (fgroup : W32) (entries : ListArg TsEntry) (s : State) :
    Host.Outcome State Fault Refusal :=
  .next (runLetter l 0x0509 [p4 fgroup, pL entries] (fun c =>
    let g := fgroup.toNat
    let v := s.tsPage g
    let n := entries.count.toNat
    checked [noEnvelope s c, malformed (decide (11 < g)) 0, malformed (decide (n < 1) || decide (640 < n)) 1] fun _ =>
    withList entries fun page =>
    let used := page.filter (·.allocated)
    checked [
      malformed (!oneClient page || decide (20 * ((s.otu g 0).n + (s.otu g 1).n) < page.length) ||
        (pageTribs page).any fun t => !legalTrib page (20 * (s.otu g 0).n) t) 1,
      noObj (used.any fun e => !s.mayServe g e.client.toNat (otuOf g)) 1,
      busy v.page.state.fixed 0] fun _ =>
    let s := s.setTsPage g { v with inactive := page, page := { state := .loaded } }
    acceptStaged (used.foldl (fun s e =>
      let q := s.port e.client.toNat
      if q.kind = .unused then s.setPort e.client.toNat { q with kind := .otu g e.trib.toNat } else s) s)
      (layBody [p4 fgroup, pL entries])) s)

/-- ENVELOPE.SCHEDULE_TS_PAGE (03 R109). -/
def execEnvelopeScheduleTsPage (l : LetterId) (fgroup : W32) (t : TimeParam) (s : State) :
    Host.Outcome State Fault Refusal :=
  .next (runLetter l 0x050A [p4 fgroup, pT t] (fun c =>
    let g := fgroup.toNat
    let v := s.tsPage g
    checked ([noEnvelope s c, malformed (decide (11 < g)) 0, malformed (badTime t) 1] ++ scheduleChecks s v.page t 1) fun _ =>
    acceptScheduled (s.setTsPage g { v with page := { state := .armed, t := schedT t } }) (layBody [p4 fgroup, pT t])) s)

/-- ENVELOPE.CANCEL_TS_PAGE (02 R53). -/
def execEnvelopeCancelTsPage (l : LetterId) (fgroup : W32) (s : State) : Host.Outcome State Fault Refusal :=
  .next (runLetter l 0x050B [p4 fgroup] (fun c =>
    let g := fgroup.toNat
    let v := s.tsPage g
    checked [noEnvelope s c, malformed (decide (11 < g)) 0, busy (!v.page.state.fixed) 0] fun _ =>
    accept ((s.setTsPage g { v with page := v.page.cancel }).clearFault 0x0203 (pageObject 2 g)) (layBody [p4 fgroup])) s)

/-- ENVELOPE.OH_CHANNEL (03 R111; 12 R389): a new ring withdraws what was on its way to the old one. -/
def execEnvelopeOhChannel (l : LetterId) (channel : W32) (rxRing txRing : W64) (depth : W32) (s : State) :
    Host.Outcome State Fault Refusal :=
  .next (runLetter l 0x050C [p4 channel, p8 rxRing, p8 txRing, p4 depth] (fun c =>
    let n := channel.toNat
    let v := s.ohChan n
    checked [noEnvelope s c, malformed (decide (depth = 0#32)) 3, noObj (decide (360 ≤ n)) 0] fun _ =>
    accept (s.setOh n { v with
        slice := c.sl, rxRing := some rxRing, txRing := some txRing, depth := depth.toNat, produced := 0 })
      (layBody [p4 channel, p8 rxRing, p8 txRing, p4 depth])) s)

end Sys2Proof.Machine
end

