-- ==== Sys2Proof/Machine/TableOps.lean ====
section
/-!
DEFINITION. TableOps.lean: staging table records into the pending epoch: versions, capacities and shadows, the checks of
an item letter, associative rows and bank power (02 R60-R68; 05 R154-R184, R522; 10 R336, R343, R344; 11 R356, R357).
-/

namespace Sys2Proof.Machine

/-! ## Versions of the pending epoch (02 R60, R66) -/

/-- The version that the pending epoch leaves. -/
def pendView {α : Type} (v : Option (Ver α)) : Option α := v.bind fun v => v.pend.getD v.cur

/-- Stage a version, none for a deletion; an entry added and deleted in one epoch leaves nothing (02 R66). -/
def stageVer {κ α : Type} [DecidableEq κ] (k : κ) (x : Option α) (m : Assoc κ (Ver α)) : Assoc κ (Ver α) :=
  match afind m k with
  | none => if x.isNone then m else aput k { pend := some x } m
  | some v => if x.isNone && v.cur.isNone then aerase k m else aput k { v with pend := some x } m

/-- An entry counts toward the live occupancy of the pending epoch: current, or added (05 R155). -/
def Ver.live {α : Type} (v : Ver α) : Bool := v.cur.isSome || (v.pend.bind id).isSome

/-- Sum of a measure over the live entries that a test picks. -/
def liveSum {κ α : Type} (cost : κ → Nat) (mine : κ → Bool) (m : Assoc κ (Ver α)) : Nat :=
  m.foldl (fun n e => if e.2.live && mine e.1 then n + cost e.1 else n) 0
/-- Shadow that a table's pending versions take (02 R66). -/
def shadowSum {κ α : Type} (cost : κ → Nat) (m : Assoc κ (Ver α)) : Nat :=
  m.foldl (fun n e => if e.2.pend.isSome then n + cost e.1 else n) 0

/-- The switch: pending versions become current, the current ones replaced (02 R64). -/
def Ver.switch {α : Type} (v : Ver α) : Ver α :=
  { cur := v.pend.getD v.cur, pend := none, old := if v.pend.isSome then some v.cur else none }
/-- Switch a table. -/
def switchTable {κ α : Type} (m : Assoc κ (Ver α)) : Assoc κ (Ver α) := m.map fun e => (e.1, e.2.switch)
/-- Release the replaced versions of a table (02 R64). -/
def releaseTable {κ α : Type} (m : Assoc κ (Ver α)) : Assoc κ (Ver α) :=
  (m.map fun e => (e.1, { e.2 with old := none })).filter fun e => e.2.cur.isSome || e.2.pend.isSome
/-- Discard the pending versions of a table (02 R53). -/
def abortTable {κ α : Type} (m : Assoc κ (Ver α)) : Assoc κ (Ver α) :=
  (m.map fun e => (e.1, { e.2 with pend := none })).filter fun e => e.2.cur.isSome || e.2.old.isSome

/-! ## Costs (05 R154) -/

/-- FIB units of a prefix. -/
def fibCost (k : FibKey) : Nat := if k.v6 then 2 else 1
/-- Entries of an exact-match key. -/
def exactCost (k : Nat × BitVec 256) : Nat := if k.1 = 5 then 2 else 1
/-- Member entries of the ECMP groups that a test picks: the current versions' and the pending versions' (05 R165). -/
def poolSum (mine : Nat → Bool) (m : Assoc Nat (Ver Ecmp)) : Nat :=
  m.foldl (fun n e =>
    let size (g : Option Ecmp) : Nat := (g.map fun g => g.members.length).getD 0
    if mine e.1 then n + size e.2.cur + size (e.2.pend.bind id) else n) 0

/-- Key space of an exact-match key (05 R522; 11 R356): types 4 and 5 have none. -/
def exactSpace (type key : Nat) : Option Nat :=
  if type = 0 then some (bits key 15 0) else if type = 1 then some (bits key 47 32)
  else if type = 2 then some (bits key 143 128) else if type = 3 then some (bits key 79 64) else none

/-- Owner of a key space. -/
def State.spaceOwner (s : State) (id : Nat) : Nat := s.owner 0x09 id
/-- Owner of an exact-match key; keys without a key space are slice 0's. -/
def State.exactOwner (s : State) (type key : Nat) : Nat := ((exactSpace type key).map s.spaceOwner).getD 0

/-! ## Associative rows and bank power (05 R172-R184) -/

/-- Rows of an entry. -/
def State.entryRows (s : State) (bank i : Nat) : List Nat := if s.isWide bank then [i, i + 1] else [i]
/-- A row holds nothing for either parity. -/
def AclRow.free (r : AclRow) : Bool := !r.even && !r.odd
/-- Set the valid bit of a parity. -/
def AclRow.set (r : AclRow) (odd v : Bool) : AclRow := if odd then { r with odd := v } else { r with even := v }
/-- The valid bit that the pending epoch's rows use, true for the odd one: the other one than the current epoch's, so
that the two live epochs never share one (02 R60; notes/assumptions/119.md). -/
def State.pendOdd (s : State) : Bool := !s.curOdd

/-- An epoch becomes current: its rows keep the valid bit that they were staged under (02 R60, R64). -/
def State.takeCurrent (s : State) (n : BitVec 16) : State :=
  { s with epoch := { s.epoch with current := n }, lookup := { s.lookup with flip := decide (n.toNat % 2 = 1) != s.pendOdd } }

/-- Change the rows of an entry. -/
def State.modRows (s : State) (bank i : Nat) (f : Nat → AclRow → AclRow) : State :=
  (s.entryRows bank i).foldl (fun s j => s.setRow bank j (f (j - i) (s.aclRow bank j))) s

/-- The row that serves a position for a parity. -/
def State.servedBy (s : State) (bank i : Nat) (odd : Bool) : Option Nat :=
  match s.lookup.overrides.find? fun o => o.bank = bank ∧ o.p = i ∧ o.odd = odd with
  | some o => some o.q
  | none =>
    let moved := s.lookup.overrides.any fun o => o.bank = bank && o.q = i && o.odd == odd
    if (s.aclRow bank i).valid odd && !moved then some i else none

/-- A free entry of a bank; the highest is taken (notes/assumptions/48.md). -/
def State.freeEntry (s : State) (bank : Nat) : Option Nat :=
  ((List.range 8192).reverse.find? fun i =>
    (!s.isWide bank || decide (i % 2 = 0)) && ((s.entryRows bank i).all fun j => (s.aclRow bank j).free))

/-- Overrides of a bank. -/
def State.overridesOf (s : State) (bank : Nat) : Nat := (s.lookup.overrides.filter fun o => o.bank = bank).length

/-- The staging writes of an entry's rows wait for their bank's update slots, one each (05 R182). -/
def State.askWrite (s : State) (bank i : Nat) : State :=
  { s with lookup := { s.lookup with
    jobs := nset [] bank (nget [] s.lookup.jobs bank ++ (s.entryRows bank i).map BankJob.write) s.lookup.jobs } }

/-- Power domain of a physical associative bank (16 R456). -/
def bankDomain (p : Nat) : Nat := 97 + p

/-- An enabled profile of a live epoch names a bank (05 R184). -/
def State.bankNamed (s : State) (b : Nat) : Bool :=
  s.lookup.profiles.any fun e =>
    let on (p : Option AclProfile) : Bool := match p with
      | some p => p.enable && p.mask.getLsbD b
      | none => false
    on e.2.cur || on (e.2.pend.bind id) || on (e.2.old.bind id)
/-- A bank holds a valid row. -/
def State.bankUsed (s : State) (b : Nat) : Bool := s.lookup.rows.any fun e => e.1 / 8192 = b && !e.2.free

/-- Switch off the banks that hold nothing and that no enabled profile names, and on those that are wanted again
(05 R184). -/
def State.bankPower (s : State) : State :=
  (List.range s.variant.logical).foldl (fun s b =>
    match s.physOf b with
    | none => s
    | some p =>
      let v := s.phys p
      let want := s.bankUsed b || s.bankNamed b
      if v.st = .off && want then (s.setPhys p { v with st := .inService }).askDomain (bankDomain p) true
      else if v.st = .inService && !want then (s.setPhys p { v with st := .off }).askDomain (bankDomain p) false
      else s) s

/-- Stage an associative row or its pair (05 R180): none without a free row or a free override entry. -/
def State.stageRow (s : State) (bank i : Nat) (content : Nat → AclRow) : Option State :=
  let odd := s.pendOdd
  let put (s : State) (q : Nat) : State :=
    (s.modRows bank q fun j _ => ({ content j with even := false, odd := false } : AclRow).set odd true).askWrite bank q
  let change : Option State :=
    if 512 ≤ s.overridesOf bank then none
    else (s.freeEntry bank).map fun q =>
      let s := put (s.modRows bank i fun _ r => r.set odd false) q
      { s with lookup := { s.lookup with overrides := s.lookup.overrides ++ [⟨bank, i, q, odd⟩] } }
  match s.servedBy bank i odd with
  | some q => if q = i && (s.aclRow bank i).valid (!odd) then change else some (put s q)
  | none =>
    if (s.entryRows bank i).all fun j => (s.aclRow bank j).free then some (put s i)
    else if (s.aclRow bank i).valid odd then none
    else change

/-- Stage the deletion of an associative row or its pair (05 R180). -/
def State.stageErase (s : State) (bank i : Nat) : State :=
  let odd := s.pendOdd
  match s.servedBy bank i odd with
  | none => s
  | some q =>
    if q = i then (s.modRows bank i fun _ r => if r.valid (!odd) then r.set odd false else {}).askWrite bank i
    else
      let s := s.modRows bank q fun _ _ => {}
      { s with lookup := { s.lookup with
        overrides := s.lookup.overrides.filter fun o => ¬ (o.bank = bank ∧ o.p = i ∧ o.odd = odd) } }.askWrite bank q

/-- Rows whose versions the pending epoch holds: added, deleted, or changed by an override (02 R66). -/
def State.aclShadow (s : State) : Nat :=
  let odd := s.pendOdd
  let mine := s.lookup.overrides.filter fun o => o.odd = odd
  let skip (b j : Nat) : Bool := mine.any fun o => decide (o.bank = b) &&
    ((s.entryRows b o.p).contains j || (s.entryRows b o.q).contains j)
  let rows := (s.lookup.rows.filter fun e =>
    (e.2.even != e.2.odd) && !skip (e.1 / 8192) (e.1 % 8192)).length
  rows + (mine.foldl (fun n o => n + (s.entryRows o.bank o.p).length) 0) +
    shadowSum (fun _ => 1) s.lookup.profiles + shadowSum (fun _ => 1) s.lookup.selects

/-- Undo what the pending epoch did to the rows (02 R53; 05 R180). -/
def State.abortRows (s : State) : State :=
  let odd := s.pendOdd
  { s with lookup := { s.lookup with
    overrides := s.lookup.overrides.filter fun o => o.odd ≠ odd
    rows := (s.lookup.rows.map fun e =>
      (e.1, if e.2.valid (!odd) then { e.2 with even := true, odd := true } else { e.2 with even := false, odd := false })).filter
      fun e => !e.2.free } }

/-! ## Policers (05 R166, R167) -/

/-- What POLICER.CONFIGURE leaves, with its clamps, over the policer it changes. -/
def policerOf (a : PolicerArgs) (cur : Option Policer) : List (Bool × Reject) × Policer × List (Nat × Bool) :=
  let tr := decide (a.scheme = 1#32)
  let lim := 1600000000000
  let cir := clampU 64 a.cir.toNat 1000 lim (cur.map (·.cir))
  let pir := clampU 64 a.pir.toNat cir.v lim (cur.map (·.pir))
  let cbs := clampU 64 a.cbs.toNat 64 16777216 (cur.map (·.cbs))
  let ebs := clampU 64 a.ebs.toNat 64 16777216 (cur.map (·.ebs))
  let pbs := clampU 64 a.pbs.toNat 64 16777216 (cur.map (·.pbs))
  let adj := clampS 32 a.adjust.toNat (-64) 127 (some ((cur.map (·.adjust)).getD 0))
  let unused : Qty := some (0, false)
  let pir := if tr then pir else unused
  let ebs := if tr then unused else ebs
  let pbs := if tr then pbs else unused
  ([noKeep cir 3, noKeep pir 4, noKeep cbs 5, noKeep ebs 6, noKeep pbs 7],
    { trtcm := tr, aware := decide (a.aware = 1#32), cir := heldRate cir.v, pir := heldRate pir.v, cbs := cbs.v
      ebs := ebs.v, pbs := pbs.v, adjust := sv adj },
    [(3, cir.c), (4, pir.c), (5, cbs.c), (6, ebs.c), (7, pbs.c), (8, sc adj)])

/-! ## An item letter: opcode and body -/

/-- Opcode, group and body of an item (10 R344). -/
def itemLetter : TableRecord → Nat × List Par
  | .routeAdd a => (0x0701, [p4 a.vrf, p4 a.family, pBe a.pfx.toNat 16, p4 a.plen, p4 a.kind, p4 a.target, p4 a.user])
  | .routeDelete v f x n => (0x0702, [p4 v, p4 f, pBe x.toNat 16, p4 n])
  | .exactAdd t k r => (0x0801, [p4 t, pBe k.toNat 32, p8 r])
  | .exactDelete t k => (0x0802, [p4 t, pBe k.toNat 32])
  | .nhWrite n v p m e => (0x0803, [p4 n, p4 v, p4 p, p4 m, p4 e])
  | .nhDelete n => (0x0804, [p4 n])
  | .ecmpWrite g m l => (0x0805, [p4 g, p4 m, pL l])
  | .ecmpDelete g => (0x0806, [p4 g])
  | .aclWrite b i v m a => (0x0901, [p4 b, p4 i, pBe v.toNat 80, pBe m.toNat 80, p8 a])
  | .aclDelete b i => (0x0902, [p4 b, p4 i])
  | .aclProfile a => (0x0903, [p4 a.profile, p4 a.width, pLe a.chunks.toNat 40, p4 a.mask, p4 a.select, p4 a.enable])
  | .aclSelect p l => (0x0904, [p4 p, pL l])
  | .policerWrite a =>
    (0x0C01, [p4 a.policer, p4 a.scheme, p4 a.aware, p8 a.cir, p8 a.pir, p8 a.cbs, p8 a.ebs, p8 a.pbs, p4 a.adjust])
  | .policerDelete i => (0x0C02, [p4 i])
  | .badHeader => (0, [])

/-- The list of an item that could not be read (10 R520). -/
def itemBadList : TableRecord → Option W64
  | .ecmpWrite _ _ l => if l.items.isNone then some l.addr else none
  | .aclSelect _ l => if l.items.isNone then some l.addr else none
  | _ => none

/-! ## Checks of an item (10 R336) -/

/-- Bits of the 256-bit key that a type uses (05 R522). -/
def exactMask (type : Nat) : Nat :=
  if type = 0 then 2 ^ 36 - 1 else if type = 1 then 2 ^ 48 - 1 else if type = 2 then 2 ^ 144 - 1
  else if type = 3 then 65535 * 2 ^ 64 + 2 ^ 48 - 1 else if type = 4 then 2 ^ 128 - 1 else 2 ^ 256 - 1

/-- Structural checks of a prefix (05 R158). -/
def prefixChecks (vrf family : W32) (x : Ip) (plen : W32) : List (Bool × Reject) :=
  let w := if family = 4#32 then 32 else 128
  [malformed (decide (65535 < vrf.toNat)) 0, malformed (decide (family ≠ 4#32 ∧ family ≠ 6#32)) 1,
    malformed (decide (w < plen.toNat)) 3,
    malformed (decide (2 ^ w ≤ x.toNat) || decide (x.toNat % 2 ^ (w - plen.toNat) ≠ 0)) 2]

/-- A prefix's key. -/
def prefixKey (vrf family : W32) (x : Ip) (plen : W32) : FibKey := ⟨vrf.toNat, family = 6#32, x, plen.toNat⟩

/-- Structural checks: step 6 (05 R158-R175, R522). -/
def State.itemSix (s : State) : TableRecord → List (Bool × Reject)
  | .routeAdd a => prefixChecks a.vrf a.family a.pfx a.plen ++
      [malformed (decide (3 < a.kind.toNat)) 4,
        malformed (decide (2 ^ 20 ≤ a.target.toNat) || (decide (a.kind = 1#32) && decide (65536 ≤ a.target.toNat))) 5,
        malformed (decide (65535 < a.user.toNat)) 6]
  | .routeDelete v f x n => prefixChecks v f x n
  | .exactAdd t k r =>
    let typed := decide (t.toNat ≤ 2)
    [malformed (decide (5 < t.toNat)) 0, malformed (decide (k.toNat &&& exactMask t.toNat ≠ k.toNat)) 1,
      malformed (decide (bits r.toNat 63 48 ≠ 0) || (typed && (decide (bits r.toNat 31 22 ≠ 0) ||
        (decide (bits r.toNat 21 20 = 1) && decide (bits r.toNat 19 16 ≠ 0))))) 2]
  | .exactDelete t k =>
    [malformed (decide (5 < t.toNat)) 0, malformed (decide (k.toNat &&& exactMask t.toNat ≠ k.toNat)) 1]
  | .nhWrite n _ p m _ => [malformed (decide (1048575 < n.toNat)) 0, malformed (decide (191 < p.toNat)) 2,
      malformed (decide (127 < m.toNat)) 3]
  | .nhDelete n => [malformed (decide (1048575 < n.toNat)) 0]
  | .ecmpWrite g m l =>
    let n := l.count.toNat
    let ms := l.items.getD []
    [malformed (decide (65535 < g.toNat)) 0, malformed (decide (1 < m.toNat)) 1,
      malformed (if m = 0#32 then decide (n < 1 ∨ 512 < n) else decide (n < 64 ∨ 4096 < n ∨ n ≠ 2 ^ Nat.log2 n)) 2,
      malformed (ms.any fun x => decide (2 ^ 20 ≤ x.toNat)) 2,
      malformed (decide (512 < ms.eraseDups.length)) 2]
  | .ecmpDelete g => [malformed (decide (65535 < g.toNat)) 0]
  | .aclWrite b i v m _ =>
    let wide := s.isWide b.toNat
    [malformed (decide (31 < b.toNat)) 0, malformed (decide (8191 < i.toNat) || (wide && decide (i.toNat % 2 = 1))) 1,
      malformed (!wide && decide (v.toNat % 2 ^ 320 ≠ 0)) 2, malformed (!wide && decide (m.toNat % 2 ^ 320 ≠ 0)) 3]
  | .aclDelete b i =>
    [malformed (decide (31 < b.toNat)) 0,
      malformed (decide (8191 < i.toNat) || (s.isWide b.toNat && decide (i.toNat % 2 = 1))) 1]
  | .aclProfile a =>
    let wide := decide (a.width = 640#32)
    let n := if wide then 40 else 20
    let src (c : Nat) : Nat := bits a.chunks.toNat (8 * c + 7) (8 * c)
    [malformed (decide (63 < a.profile.toNat)) 0, malformed (decide (a.width ≠ 320#32 ∧ a.width ≠ 640#32)) 1,
      malformed ((List.range n).any fun c => (decide (80 ≤ src c) && decide (src c ≠ 127))) 2,
      malformed ((maskBits a.mask.toNat 32).any fun b => decide (b < s.variant.logical) && s.isWide b != wide) 3,
      malformed (decide (n ≤ a.select.toNat ∧ a.select ≠ 255#32)) 4, malformed (decide (1 < a.enable.toNat)) 5]
  | .aclSelect p l => [malformed (decide (63 < p.toNat)) 0, malformed (decide (l.count.toNat ≠ 256)) 1]
  | .policerWrite a =>
    [malformed (decide (262143 < a.policer.toNat)) 0, malformed (decide (1 < a.scheme.toNat)) 1,
      malformed (decide (1 < a.aware.toNat)) 2] ++
      (policerOf a (pendView (afind s.lookup.policers a.policer.toNat))).1
  | .policerDelete i => [malformed (decide (262143 < i.toNat)) 0]
  | .badHeader => [malformed true 0xFE]

/-- A next hop or group that an entry of kind 0 or 1 names exists and is the slice's (05 R159; 11 R356). -/
def State.targetOk (s : State) (sl kind target : Nat) : Bool :=
  if kind = 0 then (pendView (afind s.lookup.nh target)).isSome && decide (s.owner 0x0A target = sl)
  else if kind = 1 then (pendView (afind s.lookup.ecmp target)).isSome && decide (s.owner 0x0B target = sl)
  else true

/-- A mask names a bank that the variant lacks (05, associative banks). -/
def State.badMask (s : State) (m : W32) : Bool := (maskBits m.toNat 32).any fun b => decide (s.variant.logical ≤ b)

/-- Objects exist and are the slice's: step 7 (11 R356). -/
def State.itemSeven (s : State) (sl : Nat) : TableRecord → List (Bool × Reject)
  | .routeAdd a => [noObj (decide (s.spaceOwner a.vrf.toNat ≠ sl)) 0, noObj (!s.targetOk sl a.kind.toNat a.target.toNat) 5]
  | .routeDelete v f x n => [noObj (decide (s.spaceOwner v.toNat ≠ sl)) 0,
      noObj (pendView (afind s.lookup.fib (prefixKey v f x n))).isNone 2]
  | .exactAdd t k r => [noObj (decide (s.exactOwner t.toNat k.toNat ≠ sl)) 1,
      noObj (decide (t.toNat ≤ 2) && !s.targetOk sl (bits r.toNat 21 20) (bits r.toNat 19 0)) 2]
  | .exactDelete t k => [noObj (decide (s.exactOwner t.toNat k.toNat ≠ sl)) 1,
      noObj (pendView (afind s.lookup.exact (t.toNat, k))).isNone 1]
  | .nhWrite n v _ _ _ => [noObj (decide (s.owner 0x0A n.toNat ≠ sl)) 0,
      noObj (decide (131071 < v.toNat + 7) || decide (s.owner 0x0F v.toNat ≠ sl) ||
        decide (s.owner 0x0F (v.toNat + 7) ≠ sl)) 1]
  | .nhDelete n => [noObj (decide (s.owner 0x0A n.toNat ≠ sl) || (pendView (afind s.lookup.nh n.toNat)).isNone) 0]
  | .ecmpWrite g _ l => [noObj (decide (s.owner 0x0B g.toNat ≠ sl)) 0,
      noObj ((l.items.getD []).any fun x => !s.targetOk sl 0 x.toNat) 2]
  | .ecmpDelete g => [noObj (decide (s.owner 0x0B g.toNat ≠ sl) || (pendView (afind s.lookup.ecmp g.toNat)).isNone) 0]
  | .aclWrite b _ _ _ _ => [noObj (decide (s.variant.logical ≤ b.toNat) || decide (s.owner 0x0D b.toNat ≠ sl)) 0]
  | .aclDelete b i => [noObj (decide (s.variant.logical ≤ b.toNat) || decide (s.owner 0x0D b.toNat ≠ sl)) 0,
      noObj (s.servedBy b.toNat i.toNat s.pendOdd).isNone 1]
  | .aclProfile a => [noObj (decide (s.owner 0x0E a.profile.toNat ≠ sl)) 0, noObj (s.badMask a.mask) 3]
  | .aclSelect p l => [noObj (decide (s.owner 0x0E p.toNat ≠ sl)) 0, noObj ((l.items.getD []).any s.badMask) 1]
  | .policerWrite a => [noObj (decide (s.owner 0x0C a.policer.toNat ≠ sl)) 0]
  | .policerDelete i =>
    [noObj (decide (s.owner 0x0C i.toNat ≠ sl) || (pendView (afind s.lookup.policers i.toNat)).isNone) 0]
  | .badHeader => []

/-- An entry of the pending epoch names a next hop (kind 0) or a group (kind 1) (10 R344). -/
def State.named (s : State) (kind target : Nat) : Bool :=
  (s.lookup.fib.any fun e => match pendView (some e.2) with
    | some v => decide (v.kind = kind ∧ v.target = target)
    | none => false) ||
  (s.lookup.exact.any fun e => match pendView (some e.2) with
    | some v => decide (e.1.1 ≤ 2 ∧ v.kind = kind ∧ v.target = target)
    | none => false) ||
  (decide (kind = 0) && s.lookup.ecmp.any fun e => match pendView (some e.2) with
    | some g => g.members.contains target
    | none => false)

/-- Step 8: a next hop or group still named is BUSY (10 R344). -/
def State.itemEight (s : State) : TableRecord → List (Bool × Reject)
  | .nhDelete n => [busy (s.named 0 n.toNat) 0]
  | .ecmpDelete g => [busy (s.named 1 g.toNat) 0]
  | _ => []

/-- A profile's mask lies in its slice's banks (05 R174). -/
def State.itemQuota (s : State) (sl : Nat) : TableRecord → List (Bool × Reject)
  | .aclProfile a => [notPermitted ((maskBits a.mask.toNat 32).any fun b => decide (s.owner 0x0D b ≠ sl)) 3]
  | _ => []

/-! ## Staging an item -/

/-- Row content from a letter's value and mask: the high half, or the half of the pair (05 R172, R180). -/
def aclContent (value mask : BitVec 640) (action : W64) (j : Nat) : AclRow :=
  let half (x : BitVec 640) : BitVec 320 := BitVec.ofNat 320 (if j = 0 then x.toNat / 2 ^ 320 else x.toNat)
  { value := half value, mask := half mask, action := action }

/-- The pending version of an item; none when an associative change finds no room (05 R180). -/
def State.stageItem (s : State) : TableRecord → Option State
  | .routeAdd a =>
    let v : LookupVal := { kind := a.kind.toNat, target := a.target.toNat, user := a.user.toNat }
    let m := stageVer (prefixKey a.vrf a.family a.pfx a.plen) (some v) s.lookup.fib
    some { s with lookup := { s.lookup with fib := m } }
  | .routeDelete v f x n =>
    some { s with lookup := { s.lookup with fib := stageVer (prefixKey v f x n) none s.lookup.fib } }
  | .exactAdd t k r =>
    let v : LookupVal := {
      kind := bits r.toNat 21 20, target := bits r.toNat 19 0, user := bits r.toNat 47 32
      raw := BitVec.ofNat 48 r.toNat }
    some { s with lookup := { s.lookup with exact := stageVer (t.toNat, k) (some v) s.lookup.exact } }
  | .exactDelete t k => some { s with lookup := { s.lookup with exact := stageVer (t.toNat, k) none s.lookup.exact } }
  | .nhWrite n v p m e =>
    let x : NextHop := { voqBase := v.toNat, port := p.toNat, module := m.toNat, encap := e }
    some { s with lookup := { s.lookup with nh := stageVer n.toNat (some x) s.lookup.nh } }
  | .nhDelete n => some { s with lookup := { s.lookup with nh := stageVer n.toNat none s.lookup.nh } }
  | .ecmpWrite g m l =>
    let x : Ecmp := { resilient := m = 1#32, members := (l.items.getD []).map (·.toNat) }
    some { s with lookup := { s.lookup with ecmp := stageVer g.toNat (some x) s.lookup.ecmp } }
  | .ecmpDelete g => some { s with lookup := { s.lookup with ecmp := stageVer g.toNat none s.lookup.ecmp } }
  | .aclWrite b i v m a => (s.stageRow b.toNat i.toNat (aclContent v m a)).map State.bankPower
  | .aclDelete b i => some (s.stageErase b.toNat i.toNat)
  | .aclProfile a =>
    let sel := if a.select = 255#32 then none else some a.select.toNat
    let x : AclProfile := {
      wide := a.width = 640#32, chunks := a.chunks, mask := a.mask, select := sel, enable := a.enable = 1#32
      owner := s.owner 0x0E a.profile.toNat }
    some (State.bankPower { s with lookup := { s.lookup with
      profiles := stageVer a.profile.toNat (some x) s.lookup.profiles } })
  | .aclSelect p l =>
    some { s with lookup := { s.lookup with selects := stageVer p.toNat (some (l.items.getD [])) s.lookup.selects } }
  | .policerWrite a =>
    let x := (policerOf a (pendView (afind s.lookup.policers a.policer.toNat))).2.1
    some { s with lookup := { s.lookup with policers := stageVer a.policer.toNat (some x) s.lookup.policers } }
  | .policerDelete i =>
    some { s with lookup := { s.lookup with policers := stageVer i.toNat none s.lookup.policers } }
  | .badHeader => none

/-- The counts that R155 holds to a bound, each as live occupancy and bound: FIB units, exact-match entries and ECMP
member entries, of the module and of the sending slice (05 R155, R165; 01 R30; 11 R356). -/
def State.capUses (t : State) (sl : Nat) : List (Nat × Nat) :=
  let u := t.lookup
  let fibMine (k : FibKey) : Bool := t.spaceOwner k.vrf = sl
  let exMine (k : Nat × BitVec 256) : Bool := t.exactOwner k.1 k.2.toNat = sl
  let groupMine (g : Nat) : Bool := t.owner 0x0B g = sl
  [(liveSum fibCost (fun _ => true) u.fib, 12582912), (liveSum fibCost fibMine u.fib, t.countOf sl 1),
   (liveSum exactCost (fun _ => true) u.exact, 2097152), (liveSum exactCost exMine u.exact, t.countOf sl 2),
   (poolSum (fun _ => true) u.ecmp, 4194304), (poolSum groupMine u.ecmp, t.countOf sl 3)]

/-- Going from s to t takes a count beyond its bound, or one that is beyond it already still higher (05 R155; 11 R359);
a deletion takes none. -/
def State.outgrows (s t : State) (sl : Nat) : Bool :=
  ((s.capUses sl).zip (t.capUses sl)).any fun e => decide (e.2.2 < e.2.1) && decide (e.1.1 < e.2.1)

/-- Shadow capacity of a table in R68's order: policers, next hops, groups, exact match, FIB, associative (02 R66). -/
def shadowCap (table : Nat) : Nat :=
  if table = 0 then 16384 else if table = 1 then 65536 else if table = 2 then 4096 else if table = 3 then 131072
  else if table = 4 then 524288 else 16384
/-- Shadow in use of a table. -/
def State.shadowUse (t : State) (table : Nat) : Nat :=
  let u := t.lookup
  if table = 0 then shadowSum (fun _ => 1) u.policers else if table = 1 then shadowSum (fun _ => 1) u.nh
  else if table = 2 then shadowSum (fun _ => 1) u.ecmp else if table = 3 then shadowSum exactCost u.exact
  else if table = 4 then shadowSum fibCost u.fib else t.aclShadow
/-- A table is beyond its shadow capacity (02 R66). -/
def State.overShadow (t : State) : Bool := [0, 1, 2, 3, 4, 5].any fun i => decide (shadowCap i < t.shadowUse i)

/-- Check and stage one item of a slice: the state, or the rejection; `sequenced` leaves the shadow to sub-epochs. -/
def State.tryItem (s : State) (sl : Nat) (sequenced : Bool) (r : TableRecord) : Except Reject State :=
  match firstFail (s.itemSix r ++ s.itemSeven sl r ++ s.itemEight r ++ s.itemQuota sl r) with
  | some x => .error x
  | none =>
    match s.stageItem r with
    | none => if sequenced then .ok s else .error ⟨.stagingFull, 0xFF, 0⟩
    | some t =>
      if s.outgrows t sl then .error ⟨.notPermitted, 0xFF, 0⟩
      else if t.overShadow && !sequenced then .error ⟨.stagingFull, 0xFF, 0⟩
      else .ok t

/-- The applied block of an item: its body with the values in force (10 R331; 05 R167). -/
def State.itemApplied (s : State) (r : TableRecord) : List Byte × Option Nat :=
  match r with
  | .policerWrite a =>
    let (_, p, c) := policerOf a (pendView (afind s.lookup.policers a.policer.toNat))
    (layBody [p4 a.policer, p4 a.scheme, p4 a.aware, n8 p.cir, n8 p.pir, n8 p.cbs, n8 p.ebs, n8 p.pbs, p4s p.adjust],
      firstClamp c)
  | _ => (layBody (itemLetter r).2, none)

end Sys2Proof.Machine
end

