-- ==== Sys2Proof/Machine/Epoch.lean ====
section
/-!
DEFINITION. Epoch.lean: the life of a configuration epoch: switch, release, sequenced changes, the staging of letters,
and the EPOCH letters and events (02 R59-R71; 05 R180, R181; 10 R343, R344, R521; 11 R363).
-/

namespace Sys2Proof.Machine

/-! ## All epoch-managed tables at once -/

/-- Apply one change to every versioned table. -/
def State.mapTables (s : State) (f : {κ α : Type} → Assoc κ (Ver α) → Assoc κ (Ver α)) : State :=
  let u := s.lookup
  { s with lookup := { u with
      fib := f u.fib, exact := f u.exact, nh := f u.nh, ecmp := f u.ecmp, policers := f u.policers
      profiles := f u.profiles, selects := f u.selects } }

/-- Station units of a number of ns. -/
def unitsOf (ns : Nat) : Nat := ns * 65536

/-- Epoch a is newer than epoch b (02 R59). -/
def epochNewer (a b : BitVec 16) : Bool := decide (1 ≤ (a - b).toNat ∧ (a - b).toNat ≤ 32767)

/-! ## Release of associative rows (05 R181) -/

/-- Add a release copy to its bank's work: after the repairs, before the staging writes (05 R182). -/
def State.askCopy (s : State) (bank p q : Nat) : State :=
  let js := nget [] s.lookup.jobs bank
  let early (j : BankJob) : Bool := match j with
    | .write _ => false
    | _ => true
  let js := js.filter early ++ [.copy p q] ++ js.filter fun j => !early j
  { s with lookup := { s.lookup with jobs := nset [] bank js s.lookup.jobs } }

/-- Deleted rows are freed and added rows gain both valid bits; rows of an override wait for their copy (05 R181). -/
def State.settleRows (s : State) : State :=
  let odd := s.curOdd
  let isP (b j : Nat) : Bool := s.lookup.overrides.any fun o => decide (o.bank = b) && (s.entryRows b o.p).contains j
  let isQ (b j : Nat) : Bool := s.lookup.overrides.any fun o => decide (o.bank = b) && (s.entryRows b o.q).contains j
  { s with lookup := { s.lookup with
      rows := (s.lookup.rows.map fun e =>
        let b := e.1 / 8192
        let j := e.1 % 8192
        if isP b j || isQ b j then e
        else if e.2.valid odd then (e.1, { e.2 with even := true, odd := true })
        else (e.1, {})).filter fun e => !e.2.free } }

/-- Copy row q over row p; with the last row of the entry p gains both bits, q is freed and the override goes. -/
def State.copyRow (s : State) (bank p q : Nat) : State :=
  match s.lookup.overrides.find? fun o => o.bank = bank ∧ (s.entryRows bank o.q).contains q with
  | none => s
  | some o =>
    let old := s.aclRow bank p
    let s := s.setRow bank p { s.aclRow bank q with even := old.even, odd := old.odd }
    if (s.entryRows bank o.q).getLast? ≠ some q then s
    else
      let s := s.modRows bank o.p fun _ r => { r with even := true, odd := true }
      let s := s.modRows bank o.q fun _ _ => {}
      { s with lookup := { s.lookup with overrides := s.lookup.overrides.filter fun x => x ≠ o } }

/-- The row copies a release makes: (bank, p, q), in the order of the override tables. -/
def State.copiesDue (s : State) : List (Nat × Nat × Nat) :=
  s.lookup.overrides.flatMap fun o =>
    (s.entryRows o.bank o.p).map fun j => (o.bank, j, o.q + (j - o.p))

/-! ## Sequenced changes (02 R67-R71) -/

/-- Place of an item in the order of R68: additions and changes by table, then deletions in the reverse order. -/
def rankOf : TableRecord → Nat
  | .policerWrite _ => 0 | .nhWrite .. => 1 | .ecmpWrite .. => 2 | .exactAdd .. => 3 | .routeAdd _ => 4
  | .aclWrite .. | .aclProfile _ | .aclSelect .. => 5
  | .aclDelete .. => 6 | .routeDelete .. => 7 | .exactDelete .. => 8 | .ecmpDelete _ => 9 | .nhDelete _ => 10
  | .policerDelete _ | .badHeader => 11

/-- A change list in the order of R68, block order within a table. -/
def sequenceOrder (rs : List TableRecord) : List TableRecord :=
  (List.range 12).flatMap fun k => rs.filter fun r => rankOf r = k

/-- Stage the leading items of one table and phase as far as the shadow takes them; the rest comes back. -/
def stageRun (k : Nat) : List TableRecord → State → State × List TableRecord
  | [], s => (s, [])
  | r :: rs, s =>
    if rankOf r ≠ k then (s, r :: rs)
    else match s.stageItem r with
      | some t => if t.overShadow then (s, r :: rs) else stageRun k rs t
      | none => (s, r :: rs)

/-- Discard every pending version (02 R53). -/
def State.dropPending (s : State) : State := (s.mapTables abortTable).abortRows

/-- Stage the next sub-epoch: one table of one phase; a group that fits a whole shadow is never split (02 R68). -/
def State.nextChunk (s : State) (rs : List TableRecord) : State × List TableRecord :=
  match rs with
  | [] => (s, [])
  | r :: _ =>
    let k := rankOf r
    let left (x : List TableRecord) : Bool := (x.head?.map rankOf) = some k
    let (t, rest) := stageRun k rs s
    if left rest && !left (stageRun k rs s.dropPending).2 then (s, rs) else (t, rest)

/-- The state after a switch and a full release, for counting sub-epochs. -/
def State.afterSub (s : State) : State :=
  match s.epoch.pending with
  | none => s
  | some n =>
    let s := s.mapTables fun m => releaseTable (switchTable m)
    let s := (s.takeCurrent n).settleRows
    let s := { s with epoch := { s.epoch with pending := some (n + 1#16) } }
    s.copiesDue.foldl (fun s c => s.copyRow c.1 c.2.1 c.2.2) s

/-- Sub-epochs that a change needs; none beyond 256 (02 R69). -/
def subEpochs : Nat → State → List TableRecord → Option Nat
  | 0, _, _ => none
  | n + 1, s, rs =>
    let (t, rest) := s.nextChunk rs
    if rest.isEmpty then some 1 else (subEpochs n t.afterSub rest).map (· + 1)

/-- Change the sequenced change in progress. -/
def State.setSeq (s : State) (q : Option SeqChange) : State := { s with epoch := { s.epoch with seq := q } }

/-- A sub-epoch is not fully staged by its time: counted once, and the next multiple of S from T is its time (02 R69). -/
def State.slip (s : State) (q : SeqChange) : State :=
  let step := unitsOf q.spacing
  let due := if step = 0 then q.due else q.t + ((s.units - q.t) / step + 1) * step
  let s := s.setSeq (some { q with due := due, slipped := true })
  if q.slipped then s else { s with time := { s.time with subepochSlip := satInc s.time.subepochSlip } }

/-- The next sub-epoch is staged into its pending epoch (02 R68). -/
def State.stageNext (s : State) (q : SeqChange) : State :=
  let (t, rest) := s.nextChunk q.rest
  let q := { q with rest := rest, staged := true }
  let t := { t with epoch := { t.epoch with page := .armed, seq := some q } }
  (if q.due < t.units then t.slip q else t).bankPower

/-- A sub-epoch has switched: the receipt after the last one, else the next one's time (02 R69, R71). -/
def State.seqSwitched (s : State) (base : Nat) (spacing : Nat) : State :=
  match s.epoch.seq with
  | none => s
  | some q =>
    if q.rest.isEmpty then
      let s := s.setSeq none
      if s.epoch.implicit = q.letter then s else s.release? q.letter
    else
      let k := q.switched + 1
      let t := if q.switched = 0 then base else q.t
      let sp := if q.switched = 0 then spacing else q.spacing
      s.setSeq (some { q with switched := k, t := t, spacing := sp, staged := false, slipped := false
                              due := t + k * unitsOf sp })

/-! ## Switch and release (02 R64) -/

/-- A policer that the pending epoch adds starts with full buckets (05 R171). -/
def State.fillAdded (s : State) : State :=
  let fill (m : NMap Bucket) (e : Nat × Ver Policer) : NMap Bucket :=
    match e.2.cur, e.2.pend.bind id with
    | none, some p => nput e.1 (p.full s.ns) m
    | _, _ => m
  { s with lookup := { s.lookup with buckets := s.lookup.policers.foldl fill s.lookup.buckets } }

/-- The pending epoch becomes current, its switch counted from station time t. -/
def State.switchEpoch (s : State) (t : Nat) : State :=
  match s.epoch.pending with
  | none => s
  | some n =>
    let u := s.epoch
    let c := u.commit.getD {}
    let s := ((s.fillAdded.mapTables switchTable)).takeCurrent n
    let s := { s with epoch := { u with
      current := n, pending := none, page := .empty, applied := 0, commit := none, held := false
      releasing := some s.up, switchT := t, replaced := u.current } }
    ((s.clearFault 0x0202 n.toNat).pageSwitched 0 0 0).seqSwitched (if c.t = 0 then t else c.t) c.spacing

/-- A pass, frame or window of the replaced epoch is left (02 R64). -/
def State.oldPasses (s : State) : Bool :=
  let t := s.epoch.switchT
  let old (f : Flit) : Bool := match f.load with
    | .window p => decide (p.refTime < t)
    | _ => false
  (s.clerks.slots.any fun e => decide (e.2.st ≠ .free) && decide (e.2.refTime < t)) ||
  (s.clerks.tray.any fun f => decide (f.refTime < t)) || (s.clerks.windows.any fun p => decide (p.refTime < t)) ||
  (s.d2d.links.any fun e => e.2.toSorter.any old) || s.d2d.earlySorter.any old

/-- Open a pending epoch (02 R53). -/
def State.openEpoch (s : State) (n : BitVec 16) : State :=
  { s with epoch := { s.epoch with
      pending := some n, page := .loading, applied := 0, commit := none, held := false } }

/-- Check the records of a block, each against the state that the earlier ones leave (10 R343). -/
def checkRecords (sl : Nat) : Nat → List TableRecord → State → Option Reject
  | _, [], _ => none
  | i, r :: rs, s =>
    match s.tryItem sl true r with
    | .error e => some ⟨e.status, 0x80 + i % 128, i⟩
    | .ok t => checkRecords sl (i + 1) rs t

/-- Stage every record within the shadow; none when one does not fit (02 R67). -/
def stageAll : List TableRecord → State → Option State
  | [], s => some s
  | r :: rs, s => match s.stageItem r with
    | some t => if t.overShadow then none else stageAll rs t
    | none => none

/-- Stage the items of a letter into the pending epoch: the state, applied block and clamp, or the rejection. -/
def State.stageLetter (s : State) (l : LetterId) (block allowSeq : Bool) (rs : List TableRecord) :
    Except Reject (State × List Byte × Option Nat) :=
  let sl := l.slice.val
  if ¬ block then
    match rs with
    | [r] => (s.tryItem sl false r).map fun t => (t, s.itemApplied r)
    | _ => .error ⟨.malformed, 0xFF, 0⟩
  else match checkRecords sl 0 rs s with
    | some e => .error e
    | none =>
      match stageAll rs s with
      | some t => .ok (t, layBody [n4 0], none)
      | none =>
        if ¬ allowSeq ∨ s.epoch.seq.isSome then .error ⟨.stagingFull, 0xFF, 0⟩
        else
          let order := sequenceOrder rs
          match subEpochs 256 s order with
          | none => .error ⟨.stagingFull, 0xFF, 0⟩
          | some k =>
            let first := s.epoch.pending.getD 0#16
            let (t, rest) := s.nextChunk order
            .ok (t.setSeq (some { first := first, rest := rest, letter := some l }),
              layBody [n4 0, n4 first.toNat, n4 (first + BitVec.ofNat 16 (k - 1)).toNat], none)

/-- Apply a letter as an implicit epoch: open current + 1, stage, switch at once (02 R63). -/
def State.applyImplicit (s : State) (l : LetterId) (block allowSeq : Bool) (rs : List TableRecord) :
    Except Reject (State × List Byte × Option Nat) :=
  ((s.openEpoch (s.epoch.current + 1#16)).stageLetter l block allowSeq rs).map fun (t, a, c) =>
    (State.switchEpoch { t with epoch := { t.epoch with implicit := some l } } t.units, a, c)

/-- A held write's letter ends as a rejection (10 R336). -/
def State.rejectHeld (s : State) (l : LetterId) (e : Reject) : State :=
  (s.modReceipt l fun r => { r with
    status := e.status, param := BitVec.ofNat 8 e.param, subcode := BitVec.ofNat 16 e.subcode, clamped := false
    applied := [] }).release l

/-- What the tables will be at the release: replaced versions gone, rows settled and copied (02 R64; 05 R181). -/
def State.released (s : State) : State :=
  let s := (s.mapTables releaseTable).settleRows
  let s := s.copiesDue.foldl (fun s c => s.copyRow c.1 c.2.1 c.2.2) s
  { s with epoch := { s.epoch with releasing := none } }

/-- What the tables will be when the writes held so far have been applied, each at the release of the one before
(02 R63). -/
def State.afterHeld (s : State) : State :=
  s.epoch.heldWrites.foldl (fun s w =>
    let e := s.entry w.1
    let block := ((e.bind fun e => opInfo e.opcode.toNat).map (·.block)).getD false
    match s.applyImplicit w.1 block ((e.map (·.allowSeq)).getD false) w.2 with
    | .error _ => s
    | .ok (t, _) => t.released) s.released

/-- The oldest held implicit write is applied (02 R63); a rejected one makes way for the next. -/
def State.applyHeld : Nat → State → State
  | 0, s => s
  | n + 1, s =>
    match s.epoch.heldWrites with
    | [] => s
    | (l, rs) :: more =>
      let s := { s with epoch := { s.epoch with heldWrites := more } }
      let e := s.entry l
      let block := ((e.bind fun e => opInfo e.opcode.toNat).map (·.block)).getD false
      match s.applyImplicit l block ((e.map (·.allowSeq)).getD false) rs with
      | .error e => (s.rejectHeld l e).applyHeld n
      | .ok (t, applied, clamp) => t.modReceipt l fun r => { r with
          applied := applied, clamped := clamp.isSome, param := BitVec.ofNat 8 (clamp.getD 0xFF), epoch := t.epoch.current }

/-- A slice's reset passes to its next step when the deletions are released (11 R363 step 5). -/
def State.resetReleased (s : State) : State :=
  match s.slices.find? fun e => e.2.st = .resetting ∧ e.2.resetStep = 4 with
  | some e => s.modSlice e.1 fun v => { v with resetStep := 5 }
  | none => s

/-- The release is complete (02 R64; 05 R181): replaced versions go, then the next sub-epoch, the implicit write's
receipt, or the writes that were held. -/
def State.finishRelease (s : State) : State :=
  let s := s.mapTables releaseTable
  let keep (i : Nat) : Bool := (afind s.lookup.policers i).isSome
  let s := { s with lookup := { s.lookup with buckets := s.lookup.buckets.filter fun e => keep e.1 }
                    epoch := { s.epoch with releasing := none } }
  match s.epoch.seq with
  | some q =>
    let s := s.openEpoch (s.epoch.current + 1#16)
    if q.reset then s.stageNext q else s.bankPower
  | none =>
    let l := s.epoch.implicit
    let s := { s with epoch := { s.epoch with implicit := none } }
    ((s.release? l).bankPower.resetReleased).applyHeld s.epoch.heldWrites.length

/-- The release begins: rows are settled and the copies queued (05 R181). -/
def State.startRelease (s : State) : State :=
  let s := s.settleRows
  let due := s.copiesDue
  if due.isEmpty then s.finishRelease
  else
    let s := due.foldl (fun s c => s.askCopy c.1 c.2.1 c.2.2) s
    { s with lookup := { s.lookup with copiesLeft := due.length } }

/-! ## Staging letters (02 R62, R63; 10 R336) -/

/-- Step 8 for a staging letter (02 R53, R62, R63): the sub-epochs after the first, and the epochs of a slice reset, are
the module's own to load. -/
def State.stageBusy (s : State) (named : Bool) : Bool :=
  let u := s.epoch
  if named then
    u.page.fixed || (u.commit.any fun c => decide (c.count ≤ u.applied)) ||
      u.seq.any fun q => q.reset || decide (q.switched ≠ 0)
  else u.pending.isSome

/-- The commit's T has come. -/
def State.commitPast (s : State) (c : Commit) : Bool := decide (c.t ≠ 0) && decide (c.t ≤ s.units)

/-- A held commit lapses at T: the epoch lags (02 R56, R62, R65). -/
def State.lapse (s : State) : State :=
  let n := (s.epoch.pending.getD 0#16).toNat
  (State.condition { s with epoch := { s.epoch with held := false } } 0x0202 n true).pageEvent 0x0012 0 0 0

/-- One more staging letter is applied: a LOADED page returns to LOADING, and the count may be met (02 R53, R62). -/
def State.countLetter (s : State) : State :=
  let s := match s.epoch.commit with
    | some c => if s.epoch.held ∧ s.commitPast c then s.lapse else s
    | none => s
  let u := s.epoch
  let page : PageState := match u.commit with
    | some c => if u.applied + 1 < c.count then .loading else if u.held then .armed else .loaded
    | none => .loading
  { s with epoch := { u with applied := u.applied + 1, page := page, held := u.held && decide (page ≠ .armed) } }

/-- A write that names no epoch comes while the last switch's replaced versions await their release (02 R63). -/
def State.mustHold (s : State) (named : Bool) : Bool :=
  !named && s.epoch.pending.isNone && s.epoch.releasing.isSome

/-- The tables that a staging letter is checked against: those of now, or those it will meet when it is held (02 R63). -/
def State.stageView (s : State) (named : Bool) : State := if s.mustHold named then s.afterHeld else s

/-- The outcome of a staging letter that has passed its own structural checks: `seven` and `eight` are an item's
object and state checks. -/
def State.stagingVerdict (s : State) (c : Ctx) (block : Bool) (rs : List TableRecord)
    (seven eight : State → List (Bool × Reject)) : Verdict :=
  let u := s.epoch
  let named := c.entry.epoch.isSome
  let v := s.stageView named
  checked ([noObj (named && decide (c.entry.epoch ≠ u.pending)) 0xFE] ++ seven v ++ [busy (s.stageBusy named)] ++ eight v)
    fun _ =>
    if named then
      match s.stageLetter c.l block c.entry.allowSeq rs with
      | .error e => .reject e
      | .ok (t, applied, clamp) =>
        let waits := t.epoch.seq.isSome && u.seq.isNone
        .accept (if waits then .done else .staged) t.countLetter applied clamp waits 0
    else if u.releasing.isSome then
      -- checked now, applied at the release (02 R63)
      match (v.openEpoch (v.epoch.current + 1#16)).stageLetter c.l block c.entry.allowSeq rs with
      | .error e => .reject e
      | .ok (_, applied, clamp) =>
        acceptWait { s with epoch := { u with heldWrites := u.heldWrites ++ [(c.l, rs)] } } applied clamp
    else
      match s.applyImplicit c.l block c.entry.allowSeq rs with
      | .error e => .reject e
      | .ok (t, applied, clamp) => acceptWait t applied clamp

/-- An item letter (10 R336, R344). -/
def itemVerdict (s : State) (r : TableRecord) (c : Ctx) : Verdict :=
  let sl := c.sl
  checked (s.itemSix r) fun _ =>
    match itemBadList r with
    | some a => .listError a
    | none => s.stagingVerdict c false [r] (fun v => v.itemSeven sl r) fun v => v.itemEight r

/-- Run an item letter. -/
def itemRun (l : LetterId) (r : TableRecord) (s : State) : State :=
  runLetter l (itemLetter r).1 (itemLetter r).2 (itemVerdict s r) s

/-- The object field of an item's header: the object that its letter names, none for the rest (10 R327;
notes/assumptions/49.md). -/
def itemObject : TableRecord → Nat
  | .nhWrite n .. | .nhDelete n | .ecmpWrite n .. | .ecmpDelete n | .aclSelect n _ | .policerDelete n => n.toNat
  | .aclProfile a => a.profile.toNat
  | .policerWrite a => a.policer.toNat
  | _ => 0xFFFFFFFF

/-- A record's bytes in a block's list (10 R327, R343). -/
def recordBytes (r : TableRecord) : List Byte :=
  let (op, ps) := itemLetter r
  let body := layBody ps
  let head := leBytes (op + 2 ^ 16 + body.length * 2 ^ 80 + itemObject r * 2 ^ 192) 32
  let b := head ++ body
  b ++ List.replicate ((b.length + 31) / 32 * 32 - b.length) 0#8

/-- The first record list that could not be read (10 R520). -/
def badList (rs : List TableRecord) : Option W64 := rs.findSome? itemBadList

/-- A record of another group, or one that breaks R343, at its index. -/
def strangeRecord (group : Nat) : Nat → List TableRecord → Option Nat
  | _, [] => none
  | i, r :: rs => if (itemLetter r).1 / 256 ≠ group then some i else strangeRecord group (i + 1) rs

/-- A block letter (10 R343). -/
def blockRun (l : LetterId) (op : Nat) (records : ListArg TableRecord) (crc : W32) (s : State) : State :=
  runLetter l op [pL records, p4 crc] (fun c =>
    checked [malformed (decide (records.count.toNat = 0 ∨ 1048576 < records.count.toNat)) 0] fun _ =>
    withList records fun rs =>
    match badList rs with
    | some a => .listError a
    | none =>
      match strangeRecord (op / 256) 0 rs with
      | some i => .reject ⟨.malformed, 0x80 + i % 128, i⟩
      | none =>
        checked [malformed (decide (crc32c 0xFFFFFFFF (rs.flatMap recordBytes) ≠ crc.toNat)) 1] fun _ =>
        s.stagingVerdict c true rs (fun _ => []) fun _ => []) s

/-! ## EPOCH letters (02 R53-R71; 10 R344) -/

/-- An epoch number. -/
def badEpoch (n : W32) (param : Nat := 0) : Bool × Reject := malformed (decide (65535 < n.toNat)) param
/-- Epoch n is not the pending one. -/
def notPending (s : State) (n : W32) : Bool × Reject :=
  noObj (decide (s.epoch.pending.map (·.toNat) ≠ some n.toNat)) 0

/-- EPOCH.OPEN (02 R53, the letters table). -/
def execEpochOpen (l : LetterId) (n : W32) (s : State) : Host.Outcome State Fault Refusal :=
  .next (runLetter l 0x0301 [p4 n] (fun _ =>
    let u := s.epoch
    let e := BitVec.ofNat 16 n.toNat
    checked [badEpoch n, busy (u.pending.isSome || u.releasing.isSome || u.seq.isSome),
      (!epochNewer e u.current, ⟨.versionMismatch, 0, 0⟩)] fun _ =>
    accept (s.openEpoch e) (layBody [p4 n])) s)

/-- EPOCH.COMMIT (02 R54, R62, R65, R69). -/
def execEpochCommit (l : LetterId) (n count : W32) (t : TimeParam) (spacing : W64) (s : State) :
    Host.Outcome State Fault Refusal :=
  .next (runLetter l 0x0302 [p4 n, p4 count, pT t, p8 spacing] (fun _ =>
    let u := s.epoch
    let q := clampU 64 spacing.toNat 200000 100000000 (some ((u.commit.map (·.spacing)).getD 1000000))
    checked ([badEpoch n, malformed (decide (count.toNat = 0 ∨ 16777215 < count.toNat)) 1, malformed (badTime t) 2,
      notPending s n, busy (u.held || u.page.fixed || u.seq.any fun q => decide (q.switched ≠ 0))] ++ timeChecks s t 2)
      fun _ =>
    let c : Commit := { t := schedT t, count := count.toNat, spacing := q.v }
    let met := decide (count.toNat ≤ u.applied)
    let u := { u with commit := some c, held := !met, page := if met then .armed else .loading }
    acceptScheduled { s with epoch := u } (layBody [p4 n, p4 count, pT t, n8 q.v]) (firstClamp [(3, q.c)])) s)

/-- A block letter whose sub-epochs were cancelled ends as a rejection; its status is not given, so it is free
(02 R71; 10 R339). -/
def State.rejectSeq (s : State) (l : LetterId) : State :=
  let codes : List Status := [.noSuchObject, .notPermitted, .stagingFull, .busy, .versionMismatch]
  let (x, s) := s.free
  s.rejectHeld l ⟨codes.getD (x.toNat % 5) .busy, 0xFF, 0⟩

/-- The pending epoch and the sub-epochs not yet switched go (02 R53, R65, R71). -/
def State.abortEpoch (s : State) : State :=
  let u := s.epoch
  let s := match u.pending with
    | some n => ((s.dropPending).clearFault 0x0202 n.toNat).clearFault 0x0203 0
    | none => s
  let s := { s with epoch := { u with
    pending := none, page := .empty, applied := 0, commit := none, held := false, seq := none
    implicit := if u.implicit = u.seq.bind (·.letter) then none else u.implicit } }
  match u.seq.bind (·.letter) with
  | some l => (s.rejectSeq l).bankPower
  | none => s.bankPower

/-- EPOCH.ABORT (02 R65, R71). -/
def execEpochAbort (l : LetterId) (n : W32) (s : State) : Host.Outcome State Fault Refusal :=
  .next (runLetter l 0x0303 [p4 n] (fun _ =>
    let u := s.epoch
    let ours : Bool := match u.seq with
      | some q => !q.reset && (decide (q.first.toNat = n.toNat) || decide (u.pending.map (·.toNat) = some n.toNat))
      | none => decide (u.pending.map (·.toNat) = some n.toNat)
    checked [badEpoch n, noObj (!ours) 0] fun _ => accept s.abortEpoch (layBody [p4 n])) s)

/-- EPOCH.CANCEL (02 R53, R62). -/
def execEpochCancel (l : LetterId) (n : W32) (s : State) : Host.Outcome State Fault Refusal :=
  .next (runLetter l 0x0304 [p4 n] (fun _ =>
    let u := s.epoch
    checked [badEpoch n, notPending s n,
      busy ((!u.page.fixed && !u.held) || u.seq.any fun q => decide (q.switched ≠ 0))] fun _ =>
    let page := if u.page.fixed then PageState.loaded else u.page
    let s := { s with epoch := { u with page := page, held := false, commit := none } }
    accept (s.clearFault 0x0203 0) (layBody [p4 n])) s)

/-- Pending state code of R72. -/
def PageState.code : PageState → Nat
  | .empty => 0 | .loading => 1 | .loaded => 2 | .armed => 3 | .deferred => 4

/-- The pending state that postcards and EPOCH.STATUS report. -/
def EpochUnit.pendingCode (u : EpochUnit) : Nat := if u.pending.isSome then u.page.code else 0

/-- The epoch lag fault is active (02 R65). -/
def State.lagging (s : State) : Bool := s.faultAny 0x0202

/-- EPOCH.STATUS (10 R521). -/
def execEpochStatus (l : LetterId) (s : State) : Host.Outcome State Fault Refusal :=
  .next (runLetter l 0x0305 [] (fun _ =>
    let u := s.epoch
    let c := u.commit.getD {}
    let armed := u.held || decide (u.page = .armed)
    let timed := armed || decide (u.page = .deferred)
    accept s (layBody [n4 u.current.toNat, n4 (u.pending.getD u.current).toNat, n4 u.pendingCode,
      n4 (b2n u.held + 2 * b2n u.seq.isSome + 4 * b2n s.lagging + 8 * b2n u.releasing.isSome), n4 u.applied,
      n4 (if armed then c.count else 0), leBytes (if timed && decide (c.t ≠ 0) then time96 c.t else 0) 16,
      n4 ((u.seq.map (·.switched)).getD 0), n4 ((u.seq.map (·.first.toNat)).getD 0)])) s)

/-! ## Events -/

/-- EPOCH_SWITCH (02 R54, R56, R57, R62, R64): at T the pending epoch switches, is deferred, or lags. -/
def execEpochSwitch (s : State) : Host.Outcome State Fault Refusal :=
  let u := s.epoch
  .next (match u.pending, u.commit with
    | some _, some c =>
      if u.seq.any fun q => decide (q.switched ≠ 0) then s
      else if u.held then (if s.commitPast c then s.lapse else s)
      else match s.pageDue { state := u.page, t := c.t, good := c.good } with
        | .wait => s
        | .switch => s.switchEpoch (if c.t = 0 then s.units else c.t)
        | .defer => State.pageDeferred { s with epoch := { u with page := .deferred } } 0 0 0
    | _, _ => s)

/-- EPOCH_RELEASE (02 R64): the later of T + 50 us and the retirement of the last older pass. -/
def execEpochRelease (s : State) : Host.Outcome State Fault Refusal :=
  let u := s.epoch
  .next (
    if u.releasing.isNone ∨ s.units < u.switchT + unitsOf 50000 ∨ s.oldPasses ∨ s.lookup.copiesLeft ≠ 0 then s
    else s.startRelease)

/-- SUBEPOCH_SWITCH (02 R69). Sub-epochs after the first switch whatever the time quality: the manual does not say whether
the deferral of R57 applies to them (notes/assumptions/121.md). -/
def execSubepochSwitch (s : State) : Host.Outcome State Fault Refusal :=
  let u := s.epoch
  .next (match u.seq with
    | some q =>
      if q.switched = 0 ∨ s.units < q.due then s
      else if q.staged && u.pending.isSome then s.switchEpoch q.due
      else s.slip q
    | none => s)

/-- SEQUENCED_LIST_FETCH (02 R68; 10 R520): the rest of the list arrives for the next sub-epoch, or its read meets a
bus error and the change ends as at an abort. The host keeps the list as it was checked (02 R71). -/
def execSequencedListFetch (data : Option (List TableRecord)) (s : State) : Host.Outcome State Fault Refusal :=
  let u := s.epoch
  .next (match u.seq with
    | some q =>
      if q.reset ∨ q.staged ∨ q.switched = 0 ∨ u.pending.isNone then s
      else match data with
        | some _ => s.stageNext q
        | none =>
          let t := State.abortEpoch { s with epoch := { u with seq := some { q with letter := none } } }
          match q.letter with
          | some l => t.internalFault l 4 0 true
          | none => t
    | none => s)

end Sys2Proof.Machine
end

