-- ==== Sys2Proof/Machine/Queues.lean ====
section
/-!
DEFINITION. Queues.lean: the scheduler, the egress arbiter, VOQs, gate lists, hold states, header windows and their
return, and the QUEUE letters (07; 08 R284, R286; 10 R344, group 0x0B).
-/

namespace Sys2Proof.Machine

/-! ## Shapers (07 R233-R237) -/

/-- Rate of a node's PIR shaper, 0 for none: a port node's follows the port's rate and is clamped to it (07 R233). -/
def State.nodePir (s : State) (k : Nat) : Nat :=
  let n := s.node k
  if k / 2 ^ 20 = 4 then
    let r := s.portRate (k % 2 ^ 20)
    if n.pir = 0 then r else min n.pir r
  else n.pir

/-- A bucket brought up to date (07 R234), in 1/65536 byte. -/
def bucketNow (burst rate : Nat) (tok : Int) (last now : Nat) : Int :=
  min (Int.ofNat (burst * 65536)) (tok + Int.ofNat (fill rate (min (2 ^ 40) (now - last))))
/-- A debit, or a return for a negative length, capped at the burst; never below -(9,728 + 127) bytes (07 R234, R237). -/
def debitTok (burst : Nat) (tok bytes : Int) : Int :=
  min (Int.ofNat (burst * 65536)) (max (-(9855 * 65536)) (tok - bytes * 65536))

/-- PIR bucket of a node now: full at rate 0, as a shaper that leaves that rate starts (07 R235). -/
def State.pirNow (s : State) (k : Nat) : Int :=
  let n := s.node k
  if s.nodePir k = 0 then Int.ofNat (n.pbs * 65536) else bucketNow n.pbs (s.nodePir k) n.ptok n.plast s.ns
/-- CIR bucket of a node now. -/
def State.cirNow (s : State) (k : Nat) : Int :=
  let n := s.node k
  bucketNow n.cbs n.cir n.ctok n.clast s.ns
/-- The PIR shaper conforms, or there is none (07 R234, R238). -/
def State.pirConforms (s : State) (k : Nat) : Bool := decide (s.nodePir k = 0) || decide (0 ≤ s.pirNow k)
/-- The node has a CIR whose shaper conforms (07 R239). -/
def State.cirConforms (s : State) (k : Nat) : Bool := decide ((s.node k).cir ≠ 0) && decide (0 ≤ s.cirNow k)

/-- A length profile. -/
def State.lenProfile (s : State) (i : Nat) : LenProfile := nget {} s.queues.lengths i
/-- L of a packet at a node (07 R236, R239). -/
def State.nodeLen (s : State) (k len : Nat) : Int :=
  let p := s.lenProfile (s.node k).lengthProfile
  if p.adjusted then max 1 (Int.ofNat len + p.adjust) else Int.ofNat len

/-- Debit a node's PIR by bytes. -/
def State.debitPir (s : State) (k : Nat) (bytes : Int) : State :=
  let n := s.node k
  s.setNode k { n with ptok := debitTok n.pbs (s.pirNow k) bytes, plast := s.ns }
/-- Debit a node's CIR by bytes. -/
def State.debitCir (s : State) (k : Nat) (bytes : Int) : State :=
  let n := s.node k
  s.setNode k { n with ctok := debitTok n.cbs (s.cirNow k) bytes, clast := s.ns }

/-- Bring the buckets of a node up to date, as a read of them does (07 R234). -/
def State.readNode (s : State) (k : Nat) : State :=
  let n := s.node k
  s.setNode k { n with ptok := s.pirNow k, plast := s.ns, ctok := s.cirNow k, clast := s.ns }

/-- The scheduler reads its buckets at a selection: those of the nodes that the host has set, and the port's (07 R234). -/
def State.readNodes (s : State) (port : Nat) : State :=
  (s.queues.nodes.map (·.1) ++ [nodeKey 4 port]).foldl State.readNode s

/-! ## Gates (07 R245-R247) -/

/-- Sum of the intervals of a list in ns. -/
def gateCycle (gs : List Gate) : Nat := (gs.map (·.interval)).sum

/-- Entry at a position of a cycle in station units, and the units left of it. -/
def gateEntry : List Gate → Nat → BitVec 8 × Nat
  | [], _ => (0xFF#8, 0)
  | g :: gs, pos => if pos < g.interval * 65536 then (g.gates, g.interval * 65536 - pos) else gateEntry gs (pos - g.interval * 65536)

/-- Gates of a list at a station time and the end of that entry; a port with no list has every gate open. -/
def gatesAt (gs : List Gate) (start t : Nat) : BitVec 8 × Option Nat :=
  if gs = [] then (0xFF#8, none)
  else
    let e := gateEntry gs ((t - start) % (gateCycle gs * 65536))
    (e.1, some (t + e.2))

/-- The axis that R246 puts in force, a list armed for a later T included (07 R247). -/
def PortQ.axis (v : PortQ) (t : Nat) : BitVec 8 × Option Nat :=
  let armed : Bool := v.gatesPage.state = .armed
  if armed ∧ v.gatesT ≤ t then gatesAt v.gatesIn v.gatesT t
  else
    let a := gatesAt v.gates v.gatesStart t
    if armed then (a.1, some (min (a.2.getD v.gatesT) v.gatesT)) else a

/-- A gate is open from t up to an end. -/
def PortQ.gateOpen (v : PortQ) (g : Nat) : Nat → Nat → Nat → Bool
  | 0, t, stop => decide (stop ≤ t)
  | n + 1, t, stop =>
    if stop ≤ t then true
    else
      let a := v.axis t
      a.1.getLsbD g && match a.2 with
        | none => true
        | some e => v.gateOpen g n (max e (t + 1)) stop

/-- Station units that a frame takes on the wire of a rate (07 R247). -/
def wireUnits (len rate : Nat) : Nat := if rate = 0 then 0 else ((len + 20) * 8 * 1000000000 * 65536 + rate - 1) / rate

/-- The gate of a queue is open for a frame selected now (07 R247). -/
def State.gateFits (s : State) (port q len : Nat) : Bool :=
  let v := s.portQ port
  let t := s.units + v.gateLead * 65536
  let d := wireUnits len (s.portRate port)
  v.gateOpen (s.queue q).gate (d / (64 * 65536) + 4) t (t + d)

/-! ## Eligibility (07 R238-R241) -/

/-- A queue is paused (07 R241). -/
def State.paused (s : State) (port q : Nat) : Bool :=
  let v := s.port port
  decide (s.up < v.pauseUntil) || match (s.queue q).pfcClass with
    | some c => decide (s.up < nget 0 v.pfcUntil c)
    | none => false

/-- A queue has a head that may be taken, its gate aside: whole, or in cut-through (06 R222). -/
def State.queueReady (s : State) (port q : Nat) : Bool :=
  match (s.queue q).packets with
  | p :: _ => s.headOpen p && (p.whole || p.ct) && !s.paused port q
  | [] => false

/-- A queue would be eligible but for its gate (07 R247). -/
def State.guarded (s : State) (port q : Nat) : Bool :=
  s.queueReady port q && !s.gateFits port q (((s.queue q).packets.head?.map (·.len)).getD 0)

/-- A node is eligible (07 R238). -/
def State.eligible (s : State) (port : Nat) : Nat → Nat → Bool
  | 0, _ => false
  | n + 1, k =>
    s.pirConforms k &&
      if k / 2 ^ 20 = 0 then s.queueReady port (nodeQueue k) && !s.guarded port (nodeQueue k)
      else (s.children k).any (s.eligible port n)

/-- What the live links carry from the Depot in a ns: 24 Tb/s each (01, die-to-die links). -/
def State.d2dRate (s : State) : Int := 3000 * Int.ofNat s.liveD2d.length

/-- Bytes that egress dequeue may still put on the live links: one ns of them is held (01 R28;
notes/assumptions/124.md). -/
def State.paceNow (s : State) : Int :=
  min s.d2dRate (s.d2d.pace + s.d2dRate * Int.ofNat (s.up - s.d2d.paceAt))

/-- A dequeued packet's header window and its transmit packet are charged to the pacing (01 R28). -/
def State.chargePace (s : State) (len : Nat) : State :=
  { s with d2d := { s.d2d with pace := s.paceNow - Int.ofNat (min 128 len + len), paceAt := s.up } }

/-- Egress dequeue is paced to the live links while no more than two live (01 R28). -/
def State.paced (s : State) : Bool := decide (s.liveD2d.length ≤ 2) && decide (s.paceNow ≤ 0)

/-- The path to a port's transmit MAC has room: the live die-to-die links carry more, and no window of the port is held
(01 R28; 04 R118; notes/assumptions/57.md). -/
def State.hasRoom (s : State) (port : Nat) : Bool :=
  !s.liveD2d.isEmpty && !s.paced && s.queues.selected.all fun x => x.packet.port ≠ port

/-- A port may be served, its children aside (07 R240). -/
def State.portOpen (s : State) (p : Nat) : Bool :=
  decide ((s.portQ p).holdSt = .serving) && decide (s.portRate p ≠ 0) && s.hasRoom p && s.pirConforms (nodeKey 4 p)

/-- A port is served when its turn comes (07 R240). -/
def State.servable (s : State) (p : Nat) : Bool :=
  s.portOpen p && (s.children (nodeKey 4 p)).any (s.eligible p 4)

/-! ## Deficit round-robin (07 R238) -/

/-- Rounds of quanta until some deficit is above zero, from (weight, deficit) pairs. -/
def roundsNeeded (l : List (Nat × Int)) : Nat :=
  if l.any fun e => decide (0 < e.2) then 0
  else match l.map fun e => (-e.2).toNat / (64 * max 1 e.1) + 1 with
    | [] => 0
    | x :: xs => xs.foldl min x

/-- A deficit after rounds of quanta, capped (07 R238). -/
def refill (n w : Nat) (d : Int) : Int := if n = 0 then d else min (Int.ofNat (w * 64 + 9855)) (d + Int.ofNat (n * w * 64))

/-- The next of a set in turn after the last one picked. -/
def inTurn (last : Option Nat) (l : List Nat) : List Nat :=
  match last with
  | some x => afterPtr x l
  | none => l

/-- Pick a child of a node from a set of one priority. -/
def State.pickChild (s : State) (k pr : Nat) (set : List Nat) : State × Option Nat :=
  let n := roundsNeeded (set.map fun c => ((s.node c).weight, (s.node c).deficit))
  let s := set.foldl (fun s c =>
    let v := s.node c
    s.setNode c { v with deficit := refill n v.weight v.deficit }) s
  match (inTurn (nfind (s.node k).lastPick pr) set).find? fun c => decide (0 < (s.node c).deficit) with
  | some c => (s.setNode k { s.node k with lastPick := nput pr c (s.node k).lastPick }, some c)
  | none => (s, none)

/-- The walk from a node to a queue (07 R239): the queue and the path, with the children taken from a min band marked. -/
def State.walk (s : State) (port : Nat) : Nat → Nat → List (Nat × Bool) → State × Option (Nat × List (Nat × Bool))
  | 0, _, _ => (s, none)
  | n + 1, k, path =>
    if k / 2 ^ 20 = 0 then (s, some (nodeQueue k, path))
    else
      let elig := (s.children k).filter (s.eligible port 4)
      let least := elig.filter s.cirConforms
      let isMin := !least.isEmpty
      let band := if isMin then least else elig
      match band.map fun c => (s.node c).priority with
      | [] => (s, none)
      | x :: xs =>
        let pr := xs.foldl min x
        match s.pickChild k pr (band.filter fun c => (s.node c).priority = pr) with
        | (s, some c) => s.walk port n c (path ++ [(c, isMin)])
        | (s, none) => (s, none)

/-- Index of a node of levels 1-4 among the scheduler's counters (15 R435; notes/assumptions/34.md). -/
def nodeIndex (k : Nat) : Nat :=
  let i := k % 2 ^ 20
  if k / 2 ^ 20 = 1 then i else if k / 2 ^ 20 = 2 then 65536 + i else if k / 2 ^ 20 = 3 then 81920 + i else 86016 + i

/-- Count a selection of a node through a band (07 R244; 15 R436). -/
def State.countBand (s : State) (k : Nat) (isMin : Bool) : State :=
  if k / 2 ^ 20 = 0 then (if isMin then s.sparse 0x0B (nodeQueue k) else s)
  else if isMin then s.bump .schMinSel (nodeIndex k) else s.bump .schExcessSel (nodeIndex k)

/-- The debits of a selection (07 R239), each with the length of its own node. -/
def State.debitPath (s : State) (port len : Nat) (path : List (Nat × Bool)) : State × List Nat × List Nat :=
  let pirs := ((nodeKey 4 port) :: path.map (·.1)).filter fun k => s.nodePir k ≠ 0
  let cirs := (path.filter (·.2)).map (·.1)
  let s := pirs.foldl (fun s k => s.debitPir k (s.nodeLen k len)) s
  let s := cirs.foldl (fun s k => s.debitCir k (s.nodeLen k len)) s
  let s := path.foldl (fun s e =>
    let v := s.node e.1
    (s.setNode e.1 { v with deficit := v.deficit - s.nodeLen e.1 len }).countBand e.1 e.2) s
  (s, pirs, cirs)

/-- Take the head of a queue that the walk reached, discarding aged heads first (07 R239, R244). -/
def State.takeHead (s : State) (port q : Nat) (path : List (Nat × Bool)) : State :=
  let s := s.ageHeads q (s.queue q).packets.length
  match (s.queue q).packets with
  | [] => s
  | p :: _ =>
    let (s, pirs, cirs) := s.debitPath port p.len path
    let s := ((s.unlink q).chargePace p.len).count (qDeqIndex q) 1 p.len
    let here := s.dataHere p
    let s := if here then s else s.readDeep .tx p
    let x : Selected := ⟨{ p with port := port, fetching := !here }, q, pirs, cirs⟩
    { s with queues := { s.queues with selected := s.queues.selected ++ [x] } }

/-- Count the queues of a port that its gates pass over now (07 R244, R247). -/
def State.countGuard (s : State) (port : Nat) : State :=
  let n := ((s.portQueues port).filter (s.guarded port)).length
  if n = 0 then s else s.bump .schGateGuard port 0 n

/-- One selection for a port: the walk and the head it reaches (07 R239, R240). -/
def State.selectPort (s : State) (port : Nat) : State :=
  match s.walk port 5 (nodeKey 4 port) [] with
  | (t, some (q, path)) => State.takeHead { t with queues := { t.queues with lastPort := port } } port q path
  | (t, none) => { t with queues := { t.queues with lastPort := port } }

/-- SCHEDULER_SELECT (07 R234, R238-R240, R244): one selection for a port whose turn it is. A port that no queue of which
may be taken is passed over, and what its gates hold is counted (07 R247). -/
def execSchedulerSelect (port : Fin 192) (s : State) : Host.Outcome State Fault Refusal :=
  onPort s port fun s =>
    let s := s.readNodes port
    if ¬ s.portOpen port then s
    else if ¬ s.servable port then s.countGuard port
    else if nextAfter s.queues.lastPort ((List.range s.variant.lanes).filter s.servable) ≠ some port.val then s
    else (s.countGuard port).selectPort port

/-! ## Header windows (01, path, steps 9-12; 04 R118; 07 R237) -/

/-- Blocks of the window reserve in use: windows on their way, waiting, in slots, or finished (04 R116, R118). -/
def State.windowsOut (s : State) : Nat :=
  let win (f : Flit) : Bool := match f.load with
    | .window _ => true
    | _ => false
  s.clerks.windows.length + (s.clerks.slots.filter fun e => e.2.egress ∧ e.2.st ≠ .free).length +
  (s.clerks.finished.filter fun f => f.egress).length + (s.d2d.earlySorter.filter win).length +
  (s.d2d.links.map fun e => (e.2.toSorter.filter win).length).sum

/-- The oldest selected packet whose octets are here and which no older one of its port precedes. -/
def readyWindow (here : Packet → Bool) : List Nat → List Selected → Option Selected
  | _, [] => none
  | seen, x :: xs =>
    if x.packet.port ∈ seen ∨ ¬ here x.packet then readyWindow here (x.packet.port :: seen) xs else some x

/-- HEADER_WINDOW_SEND (04 R118; 02 R52): the oldest selected packet's window goes to the Sorter. A packet lost to a
memory error is discarded at dequeue (09 R302); one already poisoned is never sent (06 R221). -/
def execHeaderWindowSend (s : State) : Host.Outcome State Fault Refusal :=
  .next (match readyWindow s.dataHere [] s.queues.selected with
    | none => s
    | some x =>
      let t := { s with queues := { s.queues with selected := s.queues.selected.erase x } }
      if x.packet.lost ∨ x.packet.poisoned then t.freePacket x.packet (ofQueue x.queue)
      else if 4096 ≤ s.windowsOut then s
      else
        let p := { x.packet with refTime := s.units, winNo := s.d2d.nextSorter }
        match t.sendFlit false (.window p) with
        | none => s
        | some t => { t with queues := { t.queues with away := t.queues.away ++ [{ x with packet := p }] } })

/-- Apply a change in frame length to the shapers that a selection debited (07 R237). -/
def State.adjust (s : State) (x : Selected) (delta : Int) : State :=
  if delta = 0 then s
  else
    let s := x.pirNodes.foldl (fun s k => s.debitPir k delta) s
    x.cirNodes.foldl (fun s k => s.debitCir k delta) s

/-- The egress copy request of a packet as it goes to the transmit MAC, padded as it is transmitted; the copy of one
that cut-through aborted is freed (06 R215, R216, R222). -/
def State.egressMirror (s : State) (p : Packet) : State :=
  s.mirrorCopy { p with data := p.data ++ List.replicate (60 - p.data.length) 0#8 } (p.ct && p.poisoned)

/-- A packet rejoined with its rewritten window (01, path, step 12). -/
def Selected.rejoin (x : Selected) (r : Packet) : Packet :=
  let data := r.data ++ x.packet.data.drop (Int.ofNat r.data.length - r.delta).toNat
  { x.packet with data := data, len := data.length + 4, delta := r.delta, mirror := r.mirror, tag := r.tag }

/-- The oldest returned window has met its packet. -/
def State.meet (s : State) (rest : List (Packet × Bool)) (x : Selected) : State :=
  { s with queues := { s.queues with returned := rest, away := s.queues.away.erase x } }

/-- A packet whose egress pass punted it: its buffer moves from the queue to the channel, whose host queue the packet
joins (06 R201; 12 R383). It keeps the class and charge of its admission, and one that cut-through aborted is gone
(notes/assumptions/122.md). -/
def State.puntQueued (s : State) (x : Selected) (r : Packet) : State :=
  let c := r.hostCode % 64
  let w := x.rejoin r
  if x.packet.poisoned then s.freePacket x.packet (ofQueue x.queue)
  else if (s.chan c).st = .closed then (s.bump .curPuntClosed c).freePacket x.packet (ofQueue x.queue)
  else
    let s := match x.packet.placed with
      | some b => s.moveOwner b.buf (.courier (Fin.ofNat 64 c))
      | none => s
    s.toHost c { r with
      data := w.data, len := w.len, placed := x.packet.placed, fetched := x.packet.fetched, arrival := x.packet.arrival }

/-- WINDOW_RETURN (01, path, steps 11 and 12; 07 R237): the oldest rewritten window joins the rest of its packet, which
goes to the transmit MAC, or to its channel when the pass punted it. A packet that was turned back to store-and-forward
and went bad is never sent (06 R221, R223). `rivals` are the classes that want the same last buffer as a copy (06 R199). -/
def execWindowReturn (rivals : List Rival) (s : State) : Host.Outcome State Fault Refusal :=
  .next (match s.queues.returned with
    | [] => s
    | (r, forward) :: rest =>
      match s.queues.away.find? fun x => x.packet.winNo = r.winNo with
      | none => { s with queues := { s.queues with returned := rest } }
      | some x =>
        if ¬ x.packet.whole then s
        else if ¬ forward then (s.meet rest x).puntQueued x r
        else if x.packet.poisoned ∧ ¬ x.packet.ct then (s.meet rest x).freePacket x.packet (ofQueue x.queue)
        else
          let (p, t) := (s.meet rest x).tagHandoff (x.rejoin r)
          match t.sendFlit false (.transmit { p with placed := none }) with
          | none => s
          | some t => ((t.adjust x r.delta).contest rivals fun t => t.egressMirror p).freePacket x.packet (ofQueue x.queue))

/-! ## VOQs and the arbiter (07 R228-R230, R252; 08 R284, R286) -/

/-- Length of a packet's charge on credit or on the multicast bucket. -/
def State.mcNow (s : State) : Int :=
  min (Int.ofNat (9728 * 65536)) (s.fabric.mcTok + Int.ofNat (fill s.fabric.mcRate (min (2 ^ 40) (s.up - s.fabric.mcAt))))

/-- A VOQ keeps later ones from sending (07 R230): it has a head to send to a module that is reachable. One whose head lies
in a fenced pseudo-channel is passed, and so is one whose cut-through packet is on its way. -/
def State.holdsTurn (s : State) (q : Nat) : Bool :=
  match (s.queue q).packets with
  | p :: _ => !(s.queue q).mcast && s.headOpen p && s.effective (s.queue q).destModule &&
      decide ((s.txStream (s.queue q).destModule).cut ≠ some q)
  | [] => false

/-- A VOQ's turn among those that hold credit, in the order in which their credit arrived (07 R230). -/
def State.voqTurn (s : State) (q : Nat) : Bool :=
  (s.queues.credited.find? fun k => decide (k = q) || s.holdsTurn k) = some q

/-- Some module's effective bit is set. -/
def State.anyEffective (s : State) : Bool := s.peers.any fun e => e.2.effective

/-- A VOQ may send: credit and its turn, or the multicast bucket (08 R284, R286; 02 R76). Elements replicate multicast, so
a module sends it while any module's effective bit is set (notes/assumptions/125.md). -/
def State.voqMay (s : State) (q : Nat) : Bool :=
  let v := s.queue q
  if v.mcast then decide (0 ≤ s.mcNow) && s.anyEffective else decide (0 < v.balance) && s.effective v.destModule && s.voqTurn q

/-- Send the head of a VOQ into its stream (07 R227; 08 R264, R267, R284, R286). An uncorrectable error in reading a
cut-through packet after its first cell has left poisons it (06 R221). -/
def State.voqSend (s : State) (q : Nat) (p : Packet) (readError : Bool) : State :=
  let v := s.queue q
  let mc := s.mcNow - Int.ofNat (p.len * 65536)
  let (p, s) := s.voqLeave q p
  let s := if v.mcast then { s with fabric := { s.fabric with mcTok := mc, mcAt := s.up } } else s
  let (p, s) : Packet × State :=
    if readError ∧ p.ct ∧ ¬ p.poisoned then
      let (data, s) := s.brokenData p 272
      ({ p with data := data, poisoned := true }, s.bump .ctInPoisoned p.port)
    else (p, s)
  (s.packPacket v.stream p (v.bytes p)).freePacket p (ofQueue q)

/-- The first octets of a cut-through packet go into its stream, 512 of which are in the buffer (06 R221). -/
def State.sendFirst (s : State) (q : Nat) (p : Packet) : State :=
  let v := s.queue q
  match (s.cut p.port).running with
  | some r =>
    if r.queue ≠ q ∨ ¬ r.on ∨ r.sent.isSome then s
    else
      let bytes := (v.bytes p).take 528
      (s.packFirst v.stream q p bytes).setCut p.port { s.cut p.port with running := some { r with sent := some bytes.length } }
  | none => s

/-- VOQ_SEND (06 R221; 07 R230, R252): aged heads are discarded first; a deep head is read before it is sent, and a head
lost to a memory error is discarded (09 R302). A cut-through head starts before it is whole; nothing else enters its
stream before its end. -/
def execVoqSend (voq : BitVec 17) (readError : Bool) (s : State) : Host.Outcome State Fault Refusal :=
  let q := voq.toNat
  .next (if ¬ s.voqMay q ∨ (s.txStream (s.queue q).stream).cut.isSome then s
    else
      let s := s.ageHeads q (s.queue q).packets.length
      match (s.queue q).packets with
      | [] => s
      | p :: rest =>
        if ¬ p.whole then s.sendFirst q p
        else match s.headIs p with
          | .fenced => s
          | .coming => s
          | .lost => (s.unlink q).freePacket p (ofQueue q)
          | .here => s.voqSend q p readError
          | .deep => (s.setQueue q { s.queue q with packets := { p with fetching := true } :: rest }).readDeep .fab p)

/-- VOQ_AGE_VISIT (07 R252). -/
def execVoqAgeVisit (voq : BitVec 17) (s : State) : Host.Outcome State Fault Refusal :=
  .next (s.ageHeads voq.toNat (s.queue voq.toNat).packets.length)

/-- Egress occupancy of a port and class in both tiers, with the packets under reassembly (07 R229). -/
def State.classOcc (s : State) (p c : Nat) : Nat :=
  (s.portQueues p).foldl (fun n q => (s.queue q).packets.foldl (fun n r => if r.cls = c then n + r.charge 0 + r.charge 1 else n) n) 0 +
  s.fabric.rx.foldl (fun n e => match e.2.open_ with
    | some r => if r.linked ∨ r.packet.cls ≠ c then n
      else r.admitted.foldl (fun n a => if s.queuePort a.1 = some p then n + a.2.size else n) n
    | none => n) 0

/-- Note which classes of a port `grant_stop` holds, counting each that it newly takes (07 R229, R244). -/
def State.noteStops (s : State) (p : Nat) : State :=
  (List.range 8).foldl (fun s c =>
    let v := s.portQ p
    let past : Bool := decide (v.grantStop < s.classOcc p c)
    let was := nget false v.stopped c
    if past = was then s
    else
      let s := s.setPortQ p { v with stopped := nset false c past v.stopped }
      if past then s.bump .arbStop p c else s) s

/-- Credit the arbiter of a port may issue now, in 1/65536 byte: it accrues at the port node's PIR times the overspeed, a
grant may take it below zero, and up to one grant is held while nothing asks (07 R228; notes/assumptions/58.md). -/
def State.creditNow (s : State) (p : Nat) : Int :=
  let v := s.portQ p
  bucketNow s.fabric.grantSize (s.nodePir (nodeKey 4 p) * v.overspeed / 100) v.creditTok v.creditAt s.ns

/-- Entries that request credit of a port's class, in turn within a source. -/
def State.requests (s : State) (p c : Nat) : List (Nat × Nat) :=
  (s.queues.arb.filter fun e => e.2.port = p ∧ e.2.cls = c).map (·.1)

/-- Choose the class of a port's next grant (07 R228): the lowest priority, then deficit round-robin. -/
def State.pickClass (s : State) (p : Nat) : State × Option Nat :=
  let v := s.portQ p
  let cs := (List.range 8).filter fun c => ¬ nget false v.stopped c ∧ s.requests p c ≠ []
  match cs.map fun c => nget 0 v.classPriority c with
  | [] => (s, none)
  | x :: xs =>
    let pr := xs.foldl min x
    let set := cs.filter fun c => nget 0 v.classPriority c = pr
    let n := roundsNeeded (set.map fun c => (nget 1 v.classWeight c, nget 0 v.classDeficit c))
    let d := set.foldl (fun d c => nset 0 c (refill n (nget 1 v.classWeight c) (nget 0 d c)) d) v.classDeficit
    match (inTurn (nfind v.lastClass pr) set).find? fun c => decide (0 < nget 0 d c) with
    | some c => (s.setPortQ p { v with classDeficit := d, lastClass := nput pr c v.lastClass }, some c)
    | none => (s, none)

/-- Grant one VOQ of a class: the next source module in turn, its entries in turn (07 R228; 08 R284). -/
def State.grantClass (s : State) (p c : Nat) : State :=
  let v := s.portQ p
  let reqs := s.requests p c
  let srcs := (List.range 128).filter fun m => reqs.any fun r => r.1 = m
  match (inTurn (nfind v.lastSrc c) srcs).head? with
  | none => s
  | some m => match reqs.find? fun r => r.1 = m with
    | none => s
    | some r =>
      let g := s.fabric.grantSize
      let arb := match afind s.queues.arb r with
        | some e => aerase r s.queues.arb ++ [(r, e)]
        | none => s.queues.arb
      let tok := s.creditNow p - Int.ofNat (g * 65536)
      let s := s.setPortQ p { v with
        creditTok := tok, creditAt := s.ns, lastSrc := nput c m v.lastSrc
        classDeficit := nset 0 c (nget 0 v.classDeficit c - Int.ofNat g) v.classDeficit }
      let s := { s with queues := { s.queues with arb := arb } }
      (s.sendGrant m (grantMsg p c r.2 g)).bump .arbGrants p c g

/-- ARBITER_GRANT (07 R228, R229). -/
def execArbiterGrant (port : Fin 192) (s : State) : Host.Outcome State Fault Refusal :=
  onPort s port fun s =>
    let s := s.noteStops port
    if (s.portQ port).holdSt ≠ .serving ∨ s.nodePir (nodeKey 4 port) = 0 ∨ s.creditNow port < 0 then s
    else match s.pickClass port with
      | (s, some c) => s.grantClass port c
      | (s, none) => s

/-! ## Hold states and flushes (07 R243, R248-R251) -/

/-- HOLD_EXPIRY (07 R249, R251): the hold time has run since the port down event; a port up at the very expiry wins. -/
def execHoldExpiry (port : Fin 192) (s : State) : Host.Outcome State Fault Refusal :=
  onPort s port fun s =>
    let v := s.portQ port
    if v.holdSt = .held ∧ v.heldAt + v.hold < s.up then s.holdExpire port else s

/-- QUEUE_FLUSH_COMPLETE (07 R243): the last packet of a queue that `QUEUE.FLUSH` names is freed. -/
def execQueueFlushComplete (queue : BitVec 19) (s : State) : Host.Outcome State Fault Refusal :=
  let q := queue.toNat
  let v := s.queue q
  .next (match v.flush with
    | some l => ((s.setQueue q { v with flush := none }).flushQueue q v.packets.length).release l
    | none => s)

/-- PORT_FLUSH_COMPLETE (07 R251): the flush of a port has run; a port up that came meanwhile takes effect. -/
def execPortFlushComplete (port : Fin 192) (s : State) : Host.Outcome State Fault Refusal :=
  onPort s port fun s =>
    if ¬ (s.portQ port).flushing then s
    else
      let s := (s.portQueues port).foldl (fun s q => s.flushHeld q (s.queue q).packets.length) s
      let v := s.portQ port
      s.setPortQ port { v with
        flushing := false, upPending := false, holdSt := if v.upPending then .serving else v.holdSt }

/-! ## Gate lists (07 R246; 02 R53-R57) -/

/-- GATE_ENTRY_ADVANCE (07 R245, R246): the running entry's interval has passed. -/
def execGateEntryAdvance (port : Fin 192) (s : State) : Host.Outcome State Fault Refusal :=
  onPort s port fun s =>
    let v := s.portQ port
    match v.gates[v.gateIdx]? with
    | none => s
    | some g =>
      let next := v.gateAt + g.interval * 65536
      if s.units < next then s
      else s.setPortQ port { v with gateIdx := (v.gateIdx + 1) % v.gates.length, gateAt := next }

/-- The armed list becomes active with its entry 0 at a station time; the replaced one is kept as the inactive page. -/
def State.switchGates (s : State) (p start : Nat) : State :=
  let v := s.portQ p
  (s.setPortQ p { v with
    gates := v.gatesIn, gatesIn := v.gates, gatesStart := start, gateIdx := 0, gateAt := start, gatesPage := {}
    gatesT := 0 }).pageSwitched 3 p (s.owner 0x14 p)

/-- GATE_LIST_SWITCH (07 R246; 02 R56, R57). -/
def execGateListSwitch (port : Fin 192) (s : State) : Host.Outcome State Fault Refusal :=
  onPort s port fun s =>
    let v := s.portQ port
    if s.units < v.gatesT then s
    else match s.pageDue v.gatesPage with
      | .wait => s
      | .switch => s.switchGates port v.gatesT
      | .defer => (s.setPortQ port { v with gatesPage := { v.gatesPage with state := .deferred } }).pageDeferred 3 port
          (s.owner 0x14 port)

/-- DEFERRED_SWITCH (02 R57): quality has been good for the whole preceding 1 ms at a multiple of 100 us. -/
def execDeferredSwitch (page : PageRef) (s : State) : Host.Outcome State Fault Refusal :=
  .next (match page with
    | .epoch => if s.deferredDue s.epoch.page then s.switchEpoch s.units else s
    | .calendar g i => if s.deferredDue (s.flexe g i).page.state then s.switchCalendar g i else s
    | .tsPage g => if s.deferredDue (s.tsPage g).page.state then s.switchTsPage g else s
    | .gates p => if s.deferredDue (s.portQ p).gatesPage.state then s.switchGates p s.units else s
    | .bench b => if s.deferredDue (s.bench b).page.state then s.startLoad b .load else s)

/-! ## QUEUE letters (10 R344, group 0x0B) -/

/-- Resource code of the nodes of a level (11 R351). -/
def levelCode (l : Nat) : Nat :=
  if l = 4 then 0x14 else if l = 3 then 0x11 else if l = 2 then 0x12 else if l = 1 then 0x13 else 0x10

/-- A node is a slice's: its number is one of its level on the variant, and its identifier is owned. -/
def State.nodeOwned (s : State) (sl level n : Nat) : Bool :=
  if level = 0 then decide (n < 393216) && decide (s.owner 0x10 (n + 131072) = sl)
  else decide (n < if level = 4 then s.variant.lanes else levelCount level) && decide (s.owner (levelCode level) n = sl)

/-- A parent exists for a slice (07 R232; 11 R356). -/
def State.parentExists (s : State) (sl level n : Nat) : Bool :=
  s.nodeOwned sl level n && (s.node (nodeKey level n)).present

/-- An admission profile is the slice's (11 R356). -/
def State.admissionOwned (s : State) (sl i : Nat) : Bool := decide (s.owner 0x15 i = sl)
/-- A length profile exists for a slice: profile 0, or one it has set (07 R236; 11 R356; notes/assumptions/59.md). -/
def State.lengthOwned (s : State) (sl i : Nat) : Bool :=
  decide (i = 0) || (decide (s.owner 0x16 i = sl) && (s.lenProfile i).configured)

/-- Enter a node under a parent: a move starts its deficit at zero (07 R242). -/
def Node.under (n : Node) (parent : Option (Nat × Nat)) : Node :=
  { n with present := true, parent := parent, deficit := if n.parent = parent then n.deficit else 0 }

/-- Fields of the other kind of queue that are not zero (07 R225), as checks. -/
def foreignFields (a : QueueArgs) : List (Bool × Reject) :=
  if isEgress a.queue.toNat then
    [(a.destModule, 3), (a.destPort, 4), (a.cls, 5), (a.eqBase, 6), (a.eqMask, 7)].map fun e => malformed (decide (e.1 ≠ 0#32)) e.2
  else
    [(a.parentLevel, 8), (a.parentNode, 9), (a.priority, 10), (a.weight, 11), (a.gate, 12), (a.pfcClass, 13)].map fun e =>
      malformed (decide (e.1 ≠ 0#32)) e.2

/-- Values of the queue's own kind outside their ranges that are not clamped (07 R226; 10 R337). -/
def queueShape (a : QueueArgs) : List (Bool × Reject) :=
  if isEgress a.queue.toNat then
    [malformed (decide (a.parentLevel.toNat < 1) || decide (4 < a.parentLevel.toNat)) 8, malformed (decide (7 < a.gate.toNat)) 12,
     malformed (decide (7 < a.pfcClass.toNat) && decide (a.pfcClass ≠ 0xFFFFFFFF#32)) 13]
  else
    [malformed (decide (127 < a.destModule.toNat)) 3, malformed (decide (191 < a.destPort.toNat)) 4,
     malformed (decide (7 < a.cls.toNat)) 5, malformed (!isEgress a.eqBase.toNat || decide (524287 < a.eqBase.toNat)) 6,
     malformed (decide (65535 < a.eqMask.toNat)) 7]

/-- QUEUE.CONFIGURE (07 R225, R226, R232; 06 R208). -/
def execQueueConfigure (l : LetterId) (a : QueueArgs) (s : State) : Host.Outcome State Fault Refusal :=
  .next (runLetter l 0x0B01 [p4 a.queue, p4 a.admission, p8 a.maxAge, p4 a.destModule, p4 a.destPort, p4 a.cls, p4 a.eqBase,
      p4 a.eqMask, p4 a.parentLevel, p4 a.parentNode, p4 a.priority, p4 a.weight, p4 a.gate, p4 a.pfcClass] (fun c =>
    let q := a.queue.toNat
    let o := s.queue q
    let n := s.node (queueNode q)
    let eg := isEgress q
    let age := clampU0 64 a.maxAge.toNat 10000 10000000000 (some o.maxAge)
    let pr := clampU 32 a.priority.toNat 0 7 (some n.priority)
    let w := clampU 32 a.weight.toNat 1 4096 (some n.weight)
    let parent := (a.parentLevel.toNat, a.parentNode.toNat)
    let v : Queue := if eg then
        { o with present := true, admission := a.admission.toNat, maxAge := age.v, gate := a.gate.toNat
                 pfcClass := if a.pfcClass = 0xFFFFFFFF#32 then none else some a.pfcClass.toNat }
      else
        { o with present := true, admission := a.admission.toNat, maxAge := age.v, destModule := a.destModule.toNat
                 destPort := a.destPort.toNat, cls := a.cls.toNat, eqBase := a.eqBase.toNat
                 eqMask := BitVec.ofNat 16 a.eqMask.toNat }
    checked (foreignFields a ++ queueShape a ++ [malformed (decide (1023 < a.admission.toNat)) 1,
      noObj (decide (524288 ≤ q) || decide (s.queueOwner q ≠ c.sl)) 0, noObj (!s.admissionOwned c.sl a.admission.toNat) 1,
      noObj (eg && !s.parentExists c.sl parent.1 parent.2) 9,
      notPermitted (overGuaranteed (nput q v s.queues.queues) s.admission s.shallowReserve) 1]) fun _ =>
    let t := s.setQueue q v
    let t := if eg then t.setNode (queueNode q) { n.under (some parent) with priority := pr.v, weight := w.v } else t
    accept t
      (layBody [p4 a.queue, p4 a.admission, n8 age.v, p4 a.destModule, p4 a.destPort, p4 a.cls, p4 a.eqBase, p4 a.eqMask,
        p4 a.parentLevel, p4 a.parentNode, n4 (if eg then pr.v else 0), n4 (if eg then w.v else 0), p4 a.gate, p4 a.pfcClass])
      (firstClamp [(2, age.c), (10, eg && pr.c), (11, eg && w.c)])) s)

/-- A shaper's bucket after new parameters: full when its rate leaves 0, else its contents (07 R235;
notes/assumptions/163.md). -/
def startTok (old new burst : Nat) (tok : Int) : Int := if old = 0 ∧ new ≠ 0 then Int.ofNat (burst * 65536) else tok
/-- Time of a bucket's last update after new parameters. -/
def startAt (old new now last : Nat) : Nat := if old = 0 ∧ new ≠ 0 then now else last

/-- Give a node its parameters: a shaper whose rate was 0, a port node's taken from its port, starts with a full bucket
(07 R233, R235). -/
def State.putNode (s : State) (k : Nat) (n : Node) : State :=
  let o := s.node k
  let t := s.setNode k n
  let old := s.nodePir k
  let new := t.nodePir k
  t.setNode k { n with
    ctok := startTok o.cir n.cir n.cbs o.ctok, clast := startAt o.cir n.cir s.ns o.clast
    ptok := startTok old new n.pbs o.ptok, plast := startAt old new s.ns o.plast }

/-- QUEUE.SET_NODE (07 R232-R235, R242). -/
def execQueueSetNode (l : LetterId) (a : NodeArgs) (s : State) : Host.Outcome State Fault Refusal :=
  .next (runLetter l 0x0B02 [p4 a.level, p4 a.node, p4 a.parentLevel, p4 a.parentNode, p4 a.priority, p4 a.weight, p8 a.cir,
      p8 a.cbs, p8 a.pir, p8 a.pbs, p4 a.lengthProfile] (fun c =>
    let lv := a.level.toNat
    let k := nodeKey lv a.node.toNat
    let n := s.node k
    let isPort : Bool := decide (lv = 4)
    let top := if isPort ∧ s.portRate a.node.toNat ≠ 0 then s.portRate a.node.toNat else 1600000000000
    let pr := clampU 32 a.priority.toNat 0 7 (some n.priority)
    let w := clampU 32 a.weight.toNat 1 4096 (some n.weight)
    let ci := clampU0 64 a.cir.toNat 1000 1600000000000 (some n.cir)
    let cb := clampU 64 a.cbs.toNat 64 16777216 (some n.cbs)
    let pi := clampU0 64 a.pir.toNat 1000 top (some n.pir)
    let pb := clampU 64 a.pbs.toNat 64 16777216 (some n.pbs)
    let bound := if pi.v = 0 then (if isPort then top else ci.v) else pi.v
    let cir := heldRate (min ci.v bound)
    let pir := heldRate pi.v
    let parent := (a.parentLevel.toNat, a.parentNode.toNat)
    let lp := a.lengthProfile.toNat
    checked [malformed (decide (lv < 1) || decide (4 < lv)) 0,
      malformed (!isPort && (decide (parent.1 ≤ lv) || decide (4 < parent.1))) 2, malformed (decide (63 < lp)) 10,
      noObj (!s.nodeOwned c.sl lv a.node.toNat) 1, noObj (!isPort && !s.parentExists c.sl parent.1 parent.2) 3,
      noObj (!s.lengthOwned c.sl lp) 10] fun _ =>
    let m := if isPort then n else { n.under (some parent) with priority := pr.v, weight := w.v }
    accept (s.putNode k { m with present := true, cir := cir, cbs := cb.v, pir := pir, pbs := pb.v, lengthProfile := lp })
      (layBody [p4 a.level, p4 a.node, if isPort then n4 0 else p4 a.parentLevel, if isPort then n4 0 else p4 a.parentNode,
        n4 (if isPort then 0 else pr.v), n4 (if isPort then 0 else w.v), n8 cir, n8 cb.v, n8 pir, n8 pb.v, p4 a.lengthProfile])
      (firstClamp [(4, !isPort && pr.c), (5, !isPort && w.c), (6, ci.c || decide (bound < ci.v)), (7, cb.c), (8, pi.c), (9, pb.c)])) s)

/-- QUEUE.SET_PORT (07 R228, R229, R247, R248). -/
def execQueueSetPort (l : LetterId) (a : QueuePortArgs) (s : State) : Host.Outcome State Fault Refusal :=
  .next (runLetter l 0x0B03 ([p4 a.port, p4 a.overspeed, p8 a.grantStop, p8 a.hold, p8 a.gateLead] ++ a.classPriority.map p4 ++
      a.classWeight.map p4) (fun c =>
    let p := a.port.toNat
    let v := s.portQ p
    let os := clampU 32 a.overspeed.toNat 100 120 (some v.overspeed)
    let gs := clampU 64 a.grantStop.toNat 16384 16777216 (some v.grantStop)
    let hd := clampU 64 a.hold.toNat 0 1000000000 (some v.hold)
    let gl := clampU 64 a.gateLead.toNat 0 100000 (some v.gateLead)
    let cp := (List.range 8).map fun i => clampU 32 (a.classPriority.getD i 0#32).toNat 0 7 (some (nget 0 v.classPriority i))
    let cw := (List.range 8).map fun i => clampU 32 (a.classWeight.getD i 0#32).toNat 1 4096 (some (nget 1 v.classWeight i))
    let at_ (l : List Qty) (i : Nat) : Qty := l.getD i none
    checked [noObj (!s.portExists c.sl p) 0] fun _ =>
    accept (s.setPortQ p { v with
        overspeed := os.v, grantStop := gs.v, hold := hd.v, gateLead := gl.v
        classPriority := (List.range 8).foldl (fun m i => nset 0 i (at_ cp i).v m) v.classPriority
        classWeight := (List.range 8).foldl (fun m i => nset 1 i (at_ cw i).v m) v.classWeight })
      (layBody ([p4 a.port, n4 os.v, n8 gs.v, n8 hd.v, n8 gl.v] ++ cp.map (fun q => n4 (Qty.v q)) ++ cw.map (fun q => n4 (Qty.v q))))
      (firstClamp ([(1, os.c), (2, gs.c), (3, hd.c), (4, gl.c)] ++ (List.range 8).map (fun i => (5 + i, (at_ cp i).c)) ++
        (List.range 8).map (fun i => (13 + i, (at_ cw i).c))))) s)

/-- QUEUE.SET_LENGTH_PROFILE (07 R236; 10 R329). -/
def execQueueSetLengthProfile (l : LetterId) (profile mode adjust : W32) (s : State) : Host.Outcome State Fault Refusal :=
  .next (runLetter l 0x0B04 [p4 profile, p4 mode, p4 adjust] (fun c =>
    let i := profile.toNat
    let on : Bool := mode = 1#32
    let ad := clampS 32 adjust.toNat (-64) 127 (some (s.lenProfile i).adjust)
    let v : LenProfile := { adjusted := on, adjust := if on then sv ad else 0, configured := true }
    checked [malformed (decide (1 < mode.toNat)) 1, malformed (decide (63 < i)) 0,
      notPermitted (decide (i = 0)) 0, noObj (decide (s.owner 0x16 i ≠ c.sl)) 0] fun _ =>
    accept { s with queues := { s.queues with lengths := nset {} i v s.queues.lengths } }
      (layBody [p4 profile, p4 mode, p4s v.adjust]) (firstClamp [(2, on && sc ad)])) s)

/-- Sparse families of a queue (15 R436). -/
def queueFamilies : List Nat := (List.range 15).map (· + 1)

/-- QUEUE.DELETE (07 R243, R253; 15 R436). A flush that the empty queue still has in progress is done. -/
def execQueueDelete (l : LetterId) (level node : W32) (s : State) : Host.Outcome State Fault Refusal :=
  .next (runLetter l 0x0B05 [p4 level, p4 node] (fun c =>
    let lv := level.toNat
    let k := nodeKey lv node.toNat
    let q := node.toNat + 131072
    checked [malformed (decide (4 < lv)) 0,
      noObj (!s.nodeOwned c.sl lv node.toNat || !(s.node k).present) 1,
      busy (decide (lv = 0) && !(s.queue q).packets.isEmpty) 1,
      notPermitted (decide (lv = 4)) 0, notPermitted (!(s.children k).isEmpty) 1] fun _ =>
    let flush := (s.queue q).flush
    let s := { s with queues := { s.queues with nodes := nerase k s.queues.nodes } }
    let s := if lv = 0 then
        (State.sparseFree { s with queues := { s.queues with queues := nerase q s.queues.queues } } queueFamilies q).release?
          flush
      else s
    accept s (layBody [p4 level, p4 node])) s)

/-- QUEUE.FLUSH (07 R243): the receipt waits for the last buffer. -/
def execQueueFlush (l : LetterId) (queue : W32) (s : State) : Host.Outcome State Fault Refusal :=
  .next (runLetter l 0x0B06 [p4 queue] (fun c =>
    let q := queue.toNat
    let v := s.queue q
    checked [noObj (decide (524288 ≤ q) || !v.present || decide (s.queueOwner q ≠ c.sl)) 0, busy v.flush.isSome 0] fun _ =>
    acceptWait (s.setQueue q { v with flush := some l }) (layBody [p4 queue])) s)

/-- An entry of a gate list breaks R245. -/
def badGate (e : W64) : Bool :=
  decide (bits e.toNat 55 32 ≠ 0) || decide (e.toNat % 2 ^ 32 < 64) || decide (1000000000 < e.toNat % 2 ^ 32)
/-- An entry of a gate list (07 R245). -/
def gateOf (e : W64) : Gate := ⟨BitVec.ofNat 8 (bits e.toNat 63 56), e.toNat % 2 ^ 32⟩

/-- QUEUE.WRITE_GATES (07 R245, R246). -/
def execQueueWriteGates (l : LetterId) (port : W32) (entries : ListArg W64) (s : State) : Host.Outcome State Fault Refusal :=
  .next (runLetter l 0x0B07 [p4 port, pL entries] (fun c =>
    let p := port.toNat
    let v := s.portQ p
    let n := entries.count.toNat
    checked [malformed (decide (n < 1) || decide (256 < n)) 1] fun _ =>
    withList entries fun es =>
    let gs := es.map gateOf
    checked [malformed (es.any badGate || decide (1000000000 < gateCycle gs)) 1, noObj (!s.portExists c.sl p) 0,
      busy v.gatesPage.state.fixed 0] fun _ =>
    accept (s.setPortQ p { v with gatesIn := gs, gatesPage := { state := .loaded } }) (layBody [p4 port, pL entries])) s)

/-- QUEUE.SCHEDULE_GATES (07 R246; 02 R54, R55): a T of zero is the first whole us after the letter takes effect. -/
def execQueueScheduleGates (l : LetterId) (port : W32) (t : TimeParam) (s : State) : Host.Outcome State Fault Refusal :=
  .next (runLetter l 0x0B08 [p4 port, pT t] (fun c =>
    let p := port.toNat
    let v := s.portQ p
    let start := if t.toNat = 0 then (s.ns / 1000 + 1) * 1000 * 65536 else schedT t
    checked ([malformed (badTime t) 1, noObj (!s.portExists c.sl p) 0] ++ scheduleChecks s v.gatesPage t 1) fun _ =>
    acceptScheduled (s.setPortQ p { v with gatesPage := { state := .armed, t := schedT t }, gatesT := start })
      (layBody [p4 port, pT t])) s)

/-- QUEUE.CANCEL_GATES (02 R53). -/
def execQueueCancelGates (l : LetterId) (port : W32) (s : State) : Host.Outcome State Fault Refusal :=
  .next (runLetter l 0x0B09 [p4 port] (fun c =>
    let p := port.toNat
    let v := s.portQ p
    checked [noObj (!s.portExists c.sl p) 0, busy (!v.gatesPage.state.fixed) 0] fun _ =>
    accept ((s.setPortQ p { v with gatesPage := v.gatesPage.cancel, gatesT := 0 }).clearFault 0x0203 (pageObject 3 p))
      (layBody [p4 port])) s)

end Sys2Proof.Machine
end

