-- ==== Sys2Proof/Machine/Fabric.lean ====
section
/-!
DEFINITION. Fabric.lean: fabric links and their states, cells sent and received, resequencing and reassembly, the credit
conversation, and the FABRIC letters (08; 10 R344, group 0x0D).
-/

namespace Sys2Proof.Machine

/-- The variant has a fabric link of this number (08 R254). -/
def State.hasLink (s : State) (i : Nat) : Bool := decide (i < s.variant.links)
/-- A command on a link of the variant. -/
def onLink (s : State) (i : Nat) (f : State → State) : Host.Outcome State Fault Refusal :=
  if s.hasLink i then .next (f s) else .fault .absentUnit
/-- Power domain of a fabric lane's octet (16 R456). -/
def fabricDomain (i : Nat) : Nat := 57 + i / 8

/-! ## Link states (08 R259-R262, R272) -/

/-- Links that must be UP for the full network rate (08 R272). -/
def fullLinks : Variant → Nat
  | .le3840 => 214 | .le2560 => 143 | .le1920 => 107

/-- What a change of UP links brings: the plane and capacity faults and the module's map (08 R261, R271, R272). -/
def State.linksChanged (s : State) (i : Nat) : State :=
  let s := s.condition 0x0802 (i / 16) (s.upLinks.all fun j => j / 16 ≠ i / 16)
  let n := s.upLinks.length
  (s.soleCondition 0x0803 n (decide (n < fullLinks s.variant))).updateMap

/-- A loss event for every stream (08 R275): events older than any hole can wait are forgotten. -/
def State.lossEvent (s : State) : State :=
  { s with fabric := { s.fabric with losses := s.up :: s.fabric.losses.filter fun t => s.up ≤ t + 2000000 } }

/-- Cells that wait on a link go to other candidates, ahead of those that found none (08 R269). -/
def State.moveWaiting (s : State) (i : Nat) : State :=
  let v := s.link i
  let s := s.setLink i { v with waiting := [] }
  State.placeCells { s with fabric := { s.fabric with unplaced := v.waiting ++ s.fabric.unplaced } }

/-- Hold as a delivered cell states it (08 R281). -/
def State.takeHold (s : State) (i : Nat) (hold : Bool) : State :=
  let v := s.link i
  if hold = v.hold then s
  else if hold then (s.setLink i { v with hold := true, holdAt := s.up }).moveWaiting i
  else ((s.setLink i { v with hold := false }).bump .fabHoldNs i 0 1 (s.up - v.holdAt)).placeCells

/-- Destinations to which a cell was placed on a link in the last 10 us (08 R276). -/
def State.recentDsts (s : State) (i : Nat) : List Nat :=
  ((s.link i).placedAt.filter fun e => s.up ≤ e.2 + 10000).map (·.1)

/-- An UP link goes DOWN for a cause numbered in the order of R261 from 0 (08 R261, R275, R276): credit cells that wait
on it go elsewhere. -/
def State.linkDown (s : State) (i cause : Nat) : State :=
  let v := s.link i
  let dsts := s.recentDsts i
  let credit := v.control.filter fun c => match c with
    | .credit .. => true
    | _ => false
  let s := s.setLink i { v with st := .down, since := s.up, control := [], agree := 0, hold := false, placedAt := [] }
  let s := if v.hold then s.bump .fabHoldNs i 0 1 (s.up - v.holdAt) else s
  let s := ((s.bump .fabLinkDown i).condition 0x0801 i true cause).lossEvent
  let s := dsts.foldl (fun s d => s.sendMsg d (lossMsg false)) s
  let s := credit.foldl State.sendControl s
  (s.moveWaiting i).linksChanged i

/-- A cell arrives on a link in IDENT or UP (08 R263, R281, R290, R291): hold is taken from every cell decoded without
an uncorrectable error; a bad cell is a loss event; a good data or control cell is counted, and what it says is acted
on. A credit cell arrives as a command for each of its messages, of which the first (`once`) does what the cell does
once (notes/assumptions/161.md). -/
def State.hear (s : State) (i : Nat) (cell : List Byte) (fecOk once : Bool) (act : State → State) : State :=
  let v := s.link i
  if v.st ≠ .up ∧ v.st ≠ .ident then s
  else if ¬ fecOk then (if once then (s.bump .fabFecUncorr i).lossEvent else s)
  else
    let s := if once then s.takeHold i (cellHold cell) else s
    if ¬ crcGood cell then (if once then (s.bump .fabCrc i).lossEvent else s)
    else if badHead cell then (if once then (s.bump .fabMalformed i).lossEvent else s)
    else if cellType cell = 0 then s
    else act (if once then s.bump .fabCellsRx i else s)

/-- LINK_ALIGNED (08 R259; 16 R466). -/
def execLinkAligned (link : Fin 256) (s : State) : Host.Outcome State Fault Refusal :=
  onLink s link fun s =>
    let v := s.link link
    if v.st = .aligning ∧ s.domain (fabricDomain link) ∧ s.serdesOk then
      s.setLink link { v with st := .ident, since := s.up, agree := 0, identAt := s.up }
    else s

/-- Code of a cause in the order of R261. -/
def linkCauseCode : LinkCause → Nat
  | .cdrLoss => 0 | .uncorrectable => 1 | .markers => 2

/-- LINK_DOWN (08 R261). -/
def execLinkDown (link : Fin 256) (cause : LinkCause) (s : State) : Host.Outcome State Fault Refusal :=
  onLink s link fun s => if (s.link link).st = .up then s.linkDown link (linkCauseCode cause) else s

/-- REACH_TIMEOUT (08 R261): no reach cell for 50 us. -/
def execReachTimeout (link : Fin 256) (s : State) : Host.Outcome State Fault Refusal :=
  onLink s link fun s =>
    let v := s.link link
    if v.st = .up ∧ v.reachAt + 50000 ≤ s.up then s.linkDown link 3 else s

/-- HOLD_MAX_EXPIRY (08 R261, R290): hold set for longer than `hold_max`. -/
def execHoldMaxExpiry (link : Fin 256) (s : State) : Host.Outcome State Fault Refusal :=
  onLink s link fun s =>
    let v := s.link link
    if v.st = .up ∧ v.hold ∧ v.holdAt + s.fabric.holdMax < s.up then (s.bump .fabHoldStuck link).linkDown link 5 else s

/-- LINK_RETRY (08 R259): 10 ms after the link went DOWN or was last tried. -/
def execLinkRetry (link : Fin 256) (s : State) : Host.Outcome State Fault Refusal :=
  onLink s link fun s =>
    let v := s.link link
    if v.st = .down ∧ v.since + 10000000 ≤ s.up then s.setLink link { v with st := .aligning, since := s.up } else s

/-- A reach cell that agrees with the partner's identity (08 R260). -/
def Link.agrees (v : Link) (r : ReachCell) : Bool := decide (v.element = r.element) && decide (v.eport = r.port)

/-- What a reach cell says (08 R260, R261, R271): in IDENT the third agreeing cell in a row brings the link UP; in UP it
renews the map, or takes the link DOWN when the partner's identity changed. -/
def State.takeReach (s : State) (i : Nat) (reach : ReachCell) : State :=
  let v := s.link i
  let plane : Bool := decide (reach.plane.toNat = i / 16)
  match v.st with
  | .ident =>
    if ¬ plane then
      let s := (s.setLink i { v with agree := 0, miswired := true }).bump .fabMiswired i
      if v.miswired then s else s.condition 0x0804 i true reach.plane.toNat
    else
      let n := if v.agrees reach ∧ v.agree ≠ 0 then v.agree + 1 else 1
      let v := { v with agree := n, element := reach.element, eport := reach.port, map := reach.map, reachAt := s.up }
      if n < 3 then s.setLink i v
      else
        let s := s.setLink i { v with st := .up, since := s.up, agree := 0, miswired := false }
        let s := (s.clearFault 0x0801 i).clearFault 0x0804 i
        (s.linksChanged i).placeCells
  | .up =>
    if ¬ plane ∨ ¬ v.agrees reach then s.linkDown i 4
    else ((s.setLink i { v with map := reach.map, reachAt := s.up }).updateMap).placeCells
  | _ => s

/-- REACH_RECEIVE (08 R260, R261, R271, R290). -/
def execReachReceive (link : Fin 256) (cell : List Byte) (fecOk : Bool) (s : State) : Host.Outcome State Fault Refusal :=
  onLink s link fun s =>
    s.hear link cell fecOk true fun s => if isControl 4 cell then s.takeReach link (readReach cell) else s

/-- IDENT_SEND (08 R265): every 1 us in IDENT, every 10 us in UP. -/
def execIdentSend (link : Fin 256) (s : State) : Host.Outcome State Fault Refusal :=
  onLink s link fun s =>
    let v := s.link link
    let due : Bool := (v.st = .ident && decide (v.identAt + 1000 ≤ s.up)) || (v.st = .up && decide (v.identAt + 10000 ≤ s.up))
    if due ∧ v.disable.isNone then (s.setLink link { v with identAt := s.up }).queueControl link (.ident s.myId (link.val / 16) (link.val % 16))
    else s

/-- A cell slot of a link: after 2,048 data codewords of two slots each, the marker codeword goes first (08 R256). -/
def State.sendSlot (s : State) (i : Nat) (cell : List Byte) : State :=
  let v := s.link i
  let x := dataBlocks v.scrambler 10 cell
  let due : Bool := decide (4096 ≤ v.slots)
  let s := if due then s.emit (.marker i (markerBlocks i)) else s
  (s.setLink i { v with slots := if due then 1 else v.slots + 1, scrambler := x.1 }).emit (.cell i cell x.2)

/-- LINK_DISABLE_COMPLETE (08 R262; 16 R457): what was placed has been sent, and one idle cell; the octet's domain goes
off with its last link. -/
def execLinkDisableComplete (link : Fin 256) (s : State) : Host.Outcome State Fault Refusal :=
  onLink s link fun s =>
    let v := s.link link
    match v.disable with
    | none => s
    | some l =>
      if v.waiting ≠ [] ∨ v.control ≠ [] then s
      else
        let s := s.sendSlot link (idleCell s.fabric.holdOut)
        let s := if v.hold then s.bump .fabHoldNs link 0 1 (s.up - v.holdAt) else s
        let s := s.setLink link { identAt := v.identAt }
        let o := link.val / 8
        let s := if ((List.range 8).map (· + 8 * o)).all fun j => (s.link j).st = .off then s.askDomain (fabricDomain link) false else s
        let s := (s.clearFault 0x0801 link).clearFault 0x0804 link
        (s.linksChanged link).release l

/-! ## Sending cells (08 R257, R268-R270) -/

/-- CELL_SLOT_TRANSMIT (08 R256, R257, R259, R270, R281): control cells first, then data unless the link is held, else
idle. -/
def execCellSlotTransmit (link : Fin 256) (s : State) : Host.Outcome State Fault Refusal :=
  onLink s link fun s =>
    let v := s.link link
    let hold := s.fabric.holdOut
    if v.st = .off then s
    else match v.control, v.waiting with
      | c :: cs, _ =>
        if v.st = .up ∨ v.st = .ident then
          ((s.setLink link { v with control := cs }).bump .fabCellsTx link).sendSlot link (c.bytes s.myId hold)
        else s.sendSlot link (idleCell hold)
      | [], c :: cs =>
        if v.st = .up ∧ ¬ v.hold then
          (((s.setLink link { v with waiting := cs }).bump .fabCellsTx link).sendSlot link (c.bytes s.myId hold)).placeCells
        else s.sendSlot link (idleCell hold)
      | [], [] => s.sendSlot link (idleCell hold)

/-- PACK_WAIT_EXPIRY (08 R268). -/
def execPackWaitExpiry (stream : Fin 129) (s : State) : Host.Outcome State Fault Refusal :=
  let t := s.txStream stream
  .next (if t.payload ≠ [] ∧ t.openAt + s.fabric.packWait ≤ s.up then s.closeCell stream else s)

/-- GRANT_CELL_CLOSE (08 R284): 50 ns after the credit cell was opened. -/
def execGrantCellClose (dst : Fin 128) (s : State) : Host.Outcome State Fault Refusal :=
  .next (match nfind s.fabric.credit dst with
    | some (_, t) => if t + 50 ≤ s.up then s.closeCredit dst else s
    | none => s)

/-! ## Reassembly (08 R277-R279, R287; 06 R221, R222; 07 R227, R248) -/

/-- Discard the packet under reassembly; the stream then passes over what continues it (08 R278, R279). -/
def State.dropOpen (s : State) (k : Nat) : State :=
  let r := s.rxStream k
  let s := s.setRx k { r with open_ := none, skip := true }
  match r.open_ with
  | some p => s.dropPartial k p
  | none => s

/-- A queue takes reassembled packets: it exists and hangs from the packet's port (07 R227). -/
def State.eqValid (s : State) (q port : Nat) (mc : Bool) : Bool :=
  isEgress q && (s.queue q).present && match s.queuePort q with
    | some p => mc || decide (p = port)
    | none => false
/-- The port of a queue is FLUSHED (07 R248). -/
def State.eqFlushed (s : State) (q : Nat) : Bool :=
  match s.queuePort q with
  | some p => decide ((s.portQ p).holdSt = .flushed)
  | none => false

/-- Why a queue takes no packet that arrives, counted: it is no queue of the port, or its port is FLUSHED, which counts
packets alone (07 R244). -/
def State.eqRefuse (s : State) (q port src : Nat) (mc : Bool) : Option State :=
  if ¬ s.eqValid q port mc then some (s.bump .eqInvalid src)
  else if s.eqFlushed q then some (s.sparse 0x0A q) else none

/-- Admit a packet to its queues under a reassembly context (08 R277, R287). -/
def State.admitAll (s : State) (k : Nat) (p : Packet) (mc : Bool) (qs : List Nat) : State × List (Nat × Placed) :=
  qs.foldl (fun (acc : State × List (Nat × Placed)) q =>
    match acc.1.eqRefuse q p.dstPort p.src mc with
    | some s => (s, acc.2)
    | none => match acc.1.admitIn q 1 p.len p.colour (.reassembly (BitVec.ofNat 20 k)) with
      | (some x, s) => (s, acc.2 ++ [(q, x)])
      | (none, s) => (s, acc.2)) (s, [])

/-- The packet of a packet header (08 R264). -/
def headerPacket (h src : Nat) (epoch : BitVec 16) : Packet :=
  { len := bits h 44 31, carried := BitVec.ofNat 64 (bits h 127 64), queue := bits h 63 45, dstPort := bits h 30 23
    cls := bits h 22 20, colour := min 2 (bits h 19 18), mgid := bits h 15 0, src := src, epoch := epoch }

/-- A packet header is malformed (08 R279). -/
def State.badHeader (s : State) (h : Nat) (mc : Bool) : Bool :=
  decide (bits h 44 31 < 64) || decide (9728 < bits h 44 31) || decide (bits h 17 16 ≠ 0) ||
    (!mc && decide (s.variant.lanes ≤ bits h 30 23))

/-- A packet starts (08 R277, R279, R287). -/
def State.startPartial (s : State) (k : Nat) (p : Packet) (mc : Bool) : State :=
  let s := if p.epoch = s.epoch.current then s else s.bump .fabEpochOther
  let group := nget [] s.fabric.mgroups p.mgid
  let s := if mc ∧ group = [] then s.bump .mcNoMember else s
  let alone := (s.queue p.queue).packets.isEmpty
  let p := { p with arrival := s.arrivalNow }
  let (s, admitted) := s.admitAll k p mc (if mc then group else [p.queue])
  s.setRx k { s.rxStream k with
    open_ := some { packet := p, need := p.len - 4, since := s.up, admitted := admitted, alone := !mc && alone }, skip := false }

/-- A reassembled packet as its queue holds it (06 R205, R220). -/
def State.asQueued (s : State) (p : Packet) (a : Nat × Placed) : Packet :=
  { p with placed := some a.2, queue := a.1, port := s.portOf a.1 p }

/-- A poisoned packet is discarded when it is whole: dead-letter cause 4, or freed (06 R218, R221). -/
def State.discardPoisoned (s : State) (k : Nat) (r : Partial) : State :=
  let s := if r.admitted = [] then s else s.bump .rxPoisoned (k / 2)
  r.admitted.foldl (fun s a =>
    let own := r.owner k a.1
    (if s.dlqTakes 4 then s.dlqEnter 4 a.1 (List.replicate 64 0#8) (s.asQueued r.packet a) own
      else s.freeAs a.2.buf own).unspill a.1) s

/-- Link a whole packet to its queues (06 R201; 07 R227, R248). -/
def State.linkAll (s : State) (k : Nat) (p : Packet) (mc : Bool) (admitted : List (Nat × Placed)) : State :=
  admitted.foldl (fun s a => match s.eqRefuse a.1 p.dstPort (k / 2) mc with
    | some s => (s.freeAs a.2.buf (.reassembly (BitVec.ofNat 20 k))).unspill a.1
    | none => s.enqueue a.1 (s.asQueued p a)) s

/-- The last octet of an egress cut-through packet is in its buffer (06 R222). -/
def State.finishCut (s : State) (q : Nat) (b : BufId) (data : List Byte) : State :=
  let fin (p : Packet) : Packet := if p.inBuf b ∧ p.early then { p with data := data, whole := true } else p
  let v := s.queue q
  let s := s.setQueue q { v with packets := v.packets.map fin }
  let sel (x : Selected) : Selected := { x with packet := fin x.packet }
  { s with queues := { s.queues with selected := s.queues.selected.map sel, away := s.queues.away.map sel } }

/-- The last byte of the packet is written (08 R277, R278): a cut-through packet is whole in its queue, one that went bad
gives its buffer up, and one turned back that is poisoned is discarded as a store-and-forward packet is (06 R222, R223). -/
def State.completePartial (s : State) (k : Nat) (p : Partial) (poisoned mc : Bool) : State :=
  let s := s.setRx k { s.rxStream k with open_ := none }
  if p.linked then
    if ¬ poisoned then p.admitted.foldl (fun s a => s.finishCut a.1 a.2.buf p.packet.data) s
    else if p.back then (s.abortCt p 0).discardPoisoned k p
    else (s.abortCt p 0).freeAdmitted k p
  else if p.packet.poisoned then s.freeAdmitted k p
  else if poisoned then s.discardPoisoned k p
  else s.linkAll k p.packet mc p.admitted

/-- Write bytes of the open packet; it is complete when it needs no more. -/
def State.feed (s : State) (k : Nat) (bs : List Byte) (poisoned mc : Bool) : State :=
  let r := s.rxStream k
  match r.open_ with
  | none => s
  | some p =>
    let p := { p with packet := { p.packet with data := p.packet.data ++ bs }, need := p.need - bs.length }
    if p.need = 0 then (s.setRx k { r with open_ := some p }).completePartial k p poisoned mc
    else s.setRx k { r with open_ := some p }

/-- A malformed packet header or a length that does not match (08 R279). -/
def State.badPacket (s : State) (k : Nat) : State := (s.bump .fabPktMalformed (k / 2)).dropOpen k

/-- Take the packets that start in a cell's payload (08 R264, R277). -/
def State.takePackets (s : State) (k : Nat) (epoch : BitVec 16) (poisoned mc : Bool) : Nat → List Byte → State
  | 0, _ => s
  | n + 1, bs =>
    if bs = [] then s
    else if bs.length < 16 then s.badPacket k
    else
      let h := beNat (bs.take 16)
      if s.badHeader h mc then s.badPacket k
      else
        let s := s.startPartial k (headerPacket h (k / 2) epoch) mc
        let rest := bs.drop 16
        let need := bits h 44 31 - 4
        (s.feed k (rest.take need) poisoned mc).takePackets k epoch poisoned mc n (rest.drop need)

/-- Take one cell into reassembly (08 R264, R277-R279). -/
def State.takeCell (s : State) (k : Nat) (c : Cell) : State :=
  let mc : Bool := decide (k % 2 = 1)
  let r := s.rxStream k
  let bs := c.payload.take c.fill.toNat
  let f := c.firstOff.toNat
  let here := if f = 511 then bs else bs.take f
  let fits : Bool := match r.open_ with
    | some p => if f = 511 then decide (here.length ≤ p.need) else decide (p.need = f)
    | none => r.skip || here.isEmpty
  let s := if r.open_.isNone then (if fits then s else s.badPacket k)
    else if fits then s.feed k here c.poisoned mc else s.badPacket k
  if f = 511 then s else s.takePackets k c.epoch c.poisoned mc 20 (bs.drop f)

/-! ## Resequencing (08 R273-R275, R282) -/

/-- Offset of a number from the expected one. -/
def offset (e seq : Nat) : Nat := (seq + 2 ^ 24 - e) % 2 ^ 24

/-- Advance the expected number; the restarted mark clears at 32,768 (08 R274). -/
def State.advance (s : State) (k e : Nat) : State :=
  let r := s.rxStream k
  s.setRx k { r with e := e % 2 ^ 24, restarted := r.restarted && decide (e % 2 ^ 24 < 32768) }

/-- Take every held cell that follows without a gap. -/
def State.takeHeld (s : State) (k : Nat) : Nat → State
  | 0 => s
  | n + 1 =>
    let r := s.rxStream k
    match r.held with
    | (_, c) :: rest =>
      if c.seq.toNat = r.e then
        (((s.setRx k { r with held := rest }).advance k (r.e + 1)).takeCell k c).takeHeld k n
      else s
    | [] => s

/-- Hold a cell in the order of offsets. -/
def insertHeld (e : Nat) (x : Nat × Cell) : List (Nat × Cell) → List (Nat × Cell)
  | [] => [x]
  | y :: ys => if offset e x.2.seq.toNat < offset e y.2.seq.toNat then x :: y :: ys else y :: insertHeld e x ys

/-- Resequence a good data cell (08 R273, R274, R282). -/
def State.resequence (s : State) (k : Nat) (c : Cell) : State :=
  let s := if c.restart ∧ ¬ (s.rxStream k).restarted then s.restartRx k else s
  let r := s.rxStream k
  let d := offset r.e c.seq.toNat
  if d = 0 then
    let s := (s.advance k (r.e + 1)).takeCell k c
    (s.takeHeld k r.held.length).updateHold
  else if 32768 ≤ d then s.bump .fabWindow (k / 2)
  else if r.held.any fun x => x.2.seq = c.seq then s.bump .fabDup (k / 2)
  else if 48 * 1048576 < (s.heldCells + 1) * 320 then (s.bump .fabStoreFull).lossEvent
  else (s.setRx k { r with held := insertHeld r.e (s.up, c) r.held }).updateHold

/-- What a data cell does (08 R273, R279, R290): one with `first_off` or `fill` out of range is malformed and a loss
event, and a `fill` above 288 breaks the open packet of its stream as well. -/
def State.takeData (s : State) (i : Nat) (c : Cell) (rivals : List Rival) : State :=
  let k := 2 * c.src.val + b2n c.multicast
  let mine : Bool := c.multicast || decide (c.dst.toNat = s.myId)
  if c.badOffset ∨ c.badFill then
    let s := (s.bump .fabMalformed i).lossEvent
    if 288 < c.fill.toNat ∧ mine ∧ s.effective c.src ∧ (s.rxStream k).open_.isSome then s.badPacket k else s
  else if ¬ mine then s.bump .fabMisrouted c.src
  else if ¬ s.effective c.src then s.bump .fabSrcIneffective c.src
  else s.contest rivals fun s => s.resequence k c

/-- CELL_RECEIVE (08 R263, R273, R281, R290): a data cell is taken on a link that is UP. -/
def execCellReceive (link : Fin 256) (cell : List Byte) (fecOk : Bool) (rivals : List Rival) (s : State) :
    Host.Outcome State Fault Refusal :=
  onLink s link fun s =>
    s.hear link cell fecOk true fun s =>
      if cellType cell ≤ 2 ∧ (s.link link).st = .up then s.takeData link (readCell cell) rivals else s

/-- HOLE_LOST_EXPIRY (08 R275): the hole is skipped with the packet it broke. -/
def execHoleLostExpiry (src : Fin 128) (mc : Bool) (s : State) : Host.Outcome State Fault Refusal :=
  let k := 2 * src.val + b2n mc
  let r := s.rxStream k
  .next (match r.held with
    | [] => s
    | (t0, c) :: rest =>
      let th := rest.foldl (fun t x => min t x.1) t0
      let skew := s.fabric.skewLimit
      let hit := (r.losses ++ s.fabric.losses).any fun t => decide (th ≤ t + skew) && decide (t ≤ th + skew)
      if th + (if hit then skew else s.fabric.reasmTimeout) ≤ s.up then
        let s := s.bump (if hit then .fabHoleSkew else .fabHoleTimeout) src
        let s := (s.dropOpen k).advance k c.seq.toNat
        (s.takeHeld k r.held.length).updateHold
      else s)

/-- REASSEMBLY_TIMEOUT (08 R278; 06 R222). -/
def execReassemblyTimeout (src : Fin 128) (mc : Bool) (s : State) : Host.Outcome State Fault Refusal :=
  let k := 2 * src.val + b2n mc
  .next (match (s.rxStream k).open_ with
    | some p =>
      if s.up < p.since + s.fabric.reasmTimeout then s
      else
        let s := s.bump .fabReasmTimeout src
        if p.linked then ((s.abortCt p 1).setPartial k p.bad).dropOpen k else s.dropOpen k
    | none => s)

/-! ## Credit (08 R283-R285, R288, R290) -/

/-- A credit message on an UP link (08 R266, R288, R290): of the type that the command names, to this module, from a
source whose effective bit is set; another is discarded, and counted. -/
def State.takeCredit (s : State) (link : Nat) (cell : List Byte) (fecOk : Bool) (mtype index : Nat)
    (act : Nat → State → State) : State :=
  let src := cellSrc cell
  s.hear link cell fecOk (index = 0) fun s =>
    match creditOf mtype cell index with
    | none => s
    | some m =>
      if (s.link link).st ≠ .up then s
      else if cellDst cell ≠ s.myId then s.bump .fabMisrouted src
      else if s.effective src then act m s else s.bump .fabCtrlIneffective src

/-- What a REQUEST does to the arbiter's entry of its VOQ (08 R283, R290). -/
def State.takeRequest (s : State) (src : Nat) (m : RequestMsg) : State :=
  let p := m.port.toNat
  let key := (src, m.voq.toNat)
  let put (s : State) : State := { s with queues := { s.queues with arb := aput key ⟨p, m.cls.toNat, m.reqSeq⟩ s.queues.arb } }
  if ¬ m.rsvOk ∨ s.variant.lanes ≤ p then s.bump .arbReqInvalid p
  else match afind s.queues.arb key with
    | some e =>
      if ¬ epochNewer m.reqSeq e.reqSeq then s.bump .arbReqStale p
      else if m.on then put s
      else { s with queues := { s.queues with arb := aerase key s.queues.arb } }
    | none =>
      if ¬ m.on then s
      else if 131072 ≤ s.queues.arb.length then s.bump .arbTableFull p
      else put s

/-- REQUEST_RECEIVE (08 R283, R288, R290). -/
def execRequestReceive (link : Fin 256) (cell : List Byte) (fecOk : Bool) (index : Fin 18) (s : State) :
    Host.Outcome State Fault Refusal :=
  onLink s link fun s =>
    s.takeCredit link cell fecOk 1 index fun m s => s.takeRequest (cellSrc cell) (readRequest m)

/-- Count an excess or invalid grant of a source; more than 4,096 within any 1 ms raise the fault, once until they are
fewer again (08 R290; notes/assumptions/126.md). -/
def State.badGrant (s : State) (src : Nat) : State :=
  let old := (nget [] s.fabric.floods src).filter fun t => s.up < t + 1000000
  let s := { s with fabric := { s.fabric with floods := nset [] src (old ++ [s.up]) s.fabric.floods } }
  if old.length = 4096 then s.raise 0x0805 src else s

/-- A REQUEST OFF sent again to a module for a VOQ number (08 R290). -/
def State.offAgain (s : State) (q dst port cls : Nat) : State :=
  let v := s.queue q
  let seq := v.reqSeq + 1#16
  (s.setQueue q { v with reqSeq := seq, offAt := some s.up }).sendMsg dst (requestMsg false port cls q seq.toNat)

/-- What a GRANT does (08 R284, R290): the balance is capped; a grant that meets the cap or an empty VOQ is an excess. -/
def State.takeGrant (s : State) (src : Nat) (m : GrantMsg) : State :=
  let q := m.voq.toNat
  let v := s.queue q
  if ¬ v.present ∨ v.mcast ∨ v.destModule ≠ src ∨ v.destPort ≠ m.port.toNat ∨ v.cls ≠ m.cls.toNat then
    ((s.sparse 0x0F q).badGrant src).offAgain q src m.port.toNat m.cls.toNat
  else
    let sum := v.balance + Int.ofNat m.bytes.toNat
    let bal := min (Int.ofNat (2 * s.fabric.grantSize)) sum
    let s := s.setQueue q { v with balance := bal, grantAt := s.up }
    let s := if 0 < bal ∧ q ∉ s.queues.credited then
        { s with queues := { s.queues with credited := s.queues.credited ++ [q] } } else s
    if v.packets ≠ [] ∧ bal = sum then s
    else
      let s := (s.sparse 0x0E q).badGrant src
      let again : Bool := match v.offAt with
        | some t => decide (t + 10000 ≤ s.up)
        | none => true
      if v.packets = [] ∧ again then s.offAgain q src v.destPort v.cls else s

/-- GRANT_RECEIVE (08 R284, R288, R290). -/
def execGrantReceive (link : Fin 256) (cell : List Byte) (fecOk : Bool) (index : Fin 18) (s : State) :
    Host.Outcome State Fault Refusal :=
  onLink s link fun s =>
    s.takeCredit link cell fecOk 2 index fun m s => s.takeGrant (cellSrc cell) (readGrant m)

/-- LOSS_NOTICE_RECEIVE (08 R275, R288): a loss event of the stream it names. -/
def execLossNoticeReceive (link : Fin 256) (cell : List Byte) (fecOk : Bool) (index : Fin 18) (s : State) :
    Host.Outcome State Fault Refusal :=
  onLink s link fun s =>
    s.takeCredit link cell fecOk 3 index fun m s =>
      let k := 2 * (cellSrc cell).val + b2n (bit m 61)
      let r := s.rxStream k
      s.setRx k { r with losses := s.up :: r.losses.filter fun t => s.up ≤ t + 2000000 }

/-- CREDIT_WATCHDOG (08 R285). -/
def execCreditWatchdog (voq : BitVec 17) (s : State) : Host.Outcome State Fault Refusal :=
  let q := voq.toNat
  let v := s.queue q
  .next (if v.on ∧ ¬ v.mcast ∧ v.packets ≠ [] ∧ v.grantAt + s.fabric.creditWd ≤ s.up ∧ s.effective v.destModule then
    (s.sparse 0x0D q).voqRequest q true else s)

/-! ## FABRIC letters (10 R344, group 0x0D) -/

/-- Checks of a letter that names a link: links belong to slice 0 (08 R254; 11 R351). -/
def linkChecks (s : State) (c : Ctx) (i : Nat) : List (Bool × Reject) :=
  [malformed (decide (255 < i)) 0, noObj (!s.hasLink i || decide (c.sl ≠ 0)) 0]

/-- FABRIC.ENABLE_LINK (08 R259). -/
def execFabricEnableLink (l : LetterId) (link : W32) (s : State) : Host.Outcome State Fault Refusal :=
  .next (runLetter l 0x0D01 [p4 link] (fun c =>
    let i := link.toNat
    let v := s.link i
    checked (linkChecks s c i ++ [busy v.disable.isSome 0]) fun _ =>
    let t := if v.st = .off then
        (s.setLink i { v with enabled := true, st := .aligning, since := s.up }).askDomain (fabricDomain i) true
      else s.askDomain (fabricDomain i) true
    accept t (layBody [p4 link])) s)

/-- FABRIC.DISABLE_LINK (08 R262). -/
def execFabricDisableLink (l : LetterId) (link : W32) (s : State) : Host.Outcome State Fault Refusal :=
  .next (runLetter l 0x0D02 [p4 link] (fun c =>
    let i := link.toNat
    let v := s.link i
    let others := (List.range s.variant.links).any fun j => decide (j ≠ i) && (s.link j).enabled && (s.link j).disable.isNone
    checked (linkChecks s c i ++ [busy v.disable.isSome 0, notPermitted (v.enabled && !others) 0]) fun _ =>
    if v.st = .off then accept s (layBody [p4 link])
    else acceptWait (s.setLink i { v with disable := some l, enabled := false }) (layBody [p4 link])) s)

/-- FABRIC.SET_TX_EQ (08 R258). -/
def execFabricSetTxEq (l : LetterId) (lane : W32) (taps : TxTaps) (s : State) : Host.Outcome State Fault Refusal :=
  .next (runLetter l 0x0D03 [p4 lane, p4 taps.pre2, p4 taps.pre1, p4 taps.main, p4 taps.post1] (fun c =>
    let n := lane.toNat
    let r := tapsOf taps (nget {} s.fabric.taps n)
    checked (linkChecks s c n) fun _ =>
    accept { s with fabric := { s.fabric with taps := nset {} n r.1 s.fabric.taps } } (layBody (p4 lane :: r.2.1))
      (firstClamp r.2.2)) s)

/-- FABRIC.SET_TIMERS (08 R289). -/
def execFabricSetTimers (l : LetterId) (reasmTimeout skewLimit creditWd holdMax packWait : W64) (s : State) :
    Host.Outcome State Fault Refusal :=
  .next (runLetter l 0x0D04 [p8 reasmTimeout, p8 skewLimit, p8 creditWd, p8 holdMax, p8 packWait] (fun _ =>
    let f := s.fabric
    let rt := clampU 64 reasmTimeout.toNat 10000 1000000 (some f.reasmTimeout)
    let sk := clampU 64 skewLimit.toNat 500 50000 (some f.skewLimit)
    let cw := clampU 64 creditWd.toNat 10000 10000000 (some f.creditWd)
    let hm := clampU 64 holdMax.toNat 10000 100000000 (some f.holdMax)
    let pw := clampU 64 packWait.toNat 0 1000 (some f.packWait)
    accept { s with fabric := { f with
        reasmTimeout := rt.v, skewLimit := sk.v, creditWd := cw.v, holdMax := hm.v, packWait := pw.v } }
      (layBody [n8 rt.v, n8 sk.v, n8 cw.v, n8 hm.v, n8 pw.v])
      (firstClamp [(0, rt.c), (1, sk.c), (2, cw.c), (3, hm.c), (4, pw.c)])) s)

/-- FABRIC.SET_CREDIT (08 R289): `grant_size` in steps of 1 KiB. -/
def execFabricSetCredit (l : LetterId) (grantSize mcRate : W64) (s : State) : Host.Outcome State Fault Refusal :=
  .next (runLetter l 0x0D05 [p8 grantSize, p8 mcRate] (fun _ =>
    let f := s.fabric
    let gs := clampU 64 grantSize.toNat 1024 65536 (some f.grantSize)
    let g := nearStep 1024 gs.v
    let mr := clampU 64 mcRate.toNat 0 46100000000000 (some f.mcRate)
    let tok := s.mcNow
    accept { s with fabric := { f with grantSize := g, mcRate := mr.v, mcTok := tok, mcAt := s.up } }
      (layBody [n8 g, n8 mr.v]) (firstClamp [(0, gs.c || decide (g ≠ gs.v)), (1, mr.c)])) s)

/-- FABRIC.SET_MCAST_VOQ (08 R286): the VOQ leaves or joins the credit conversation with what it holds. -/
def execFabricSetMcastVoq (l : LetterId) (voq enable : W32) (s : State) : Host.Outcome State Fault Refusal :=
  .next (runLetter l 0x0D06 [p4 voq, p4 enable] (fun c =>
    let q := voq.toNat
    let v := s.queue q
    let on : Bool := enable = 1#32
    checked [malformed (decide (1 < enable.toNat)) 1,
      noObj (isEgress q || !v.present || decide (s.queueOwner q ≠ c.sl)) 0] fun _ =>
    let t := if on = v.mcast then s
      else if on then
        let s := if v.on then s.voqRequest q false else s
        s.setQueue q { s.queue q with mcast := true }
      else
        let s := s.setQueue q { v with mcast := false }
        if v.packets = [] then s else s.voqRequest q true
    accept t (layBody [p4 voq, p4 enable])) s)

/-- FABRIC.SET_MGROUP (08 R287; 11 R356). -/
def execFabricSetMgroup (l : LetterId) (mgid : W32) (queues : ListArg W32) (s : State) : Host.Outcome State Fault Refusal :=
  .next (runLetter l 0x0D07 [p4 mgid, pL queues] (fun c =>
    let i := mgid.toNat
    checked [malformed (decide (65535 < i)) 0, malformed (decide (64 < queues.count.toNat)) 1,
      noObj (decide (s.owner 0x18 i ≠ c.sl)) 0] fun _ =>
    withList queues fun qs =>
    let ns := qs.map (·.toNat)
    checked [noObj (ns.any fun q => !isEgress q || !(s.queue q).present || decide (s.queueOwner q ≠ c.sl)) 1] fun _ =>
    accept { s with fabric := { s.fabric with mgroups := nset [] i ns s.fabric.mgroups } } (layBody [p4 mgid, pL queues])) s)

end Sys2Proof.Machine
end

