-- ==== Sys2Proof/Machine/ImageOps.lean ====
section
/-!
DEFINITION. ImageOps.lean: image banks as bytes, headers, manifests and sections (14 R412-R417, R420), and staging
bench content from an image (04 R147; 14 R424 step 5).
-/

namespace Sys2Proof.Machine

/-! ## Banks -/

/-- An image bank. -/
def State.bank (s : State) (part : Nat) (b : Bool) : Bank := nget {} s.images.banks (2 * part + b2n b)
/-- Write an image bank. -/
def State.setBank (s : State) (part : Nat) (b : Bool) (v : Bank) : State :=
  { s with images := { s.images with banks := nset {} (2 * part + b2n b) v s.images.banks } }

/-- Bytes of a bank from an offset; erased flash reads 0xFF. -/
def Bank.read (v : Bank) (off n : Nat) : List Byte := (List.range n).map fun i => nget 0xFF#8 v.data (off + i)
/-- A little-endian number of a bank. -/
def Bank.le (v : Bank) (off n : Nat) : Nat := leNat (v.read off n)

/-- Bank size of a part (14 R412). -/
def bankSize (part : Nat) : Nat :=
  if part = 0 then 64 * 1048576 else if part = 2 then 65536 else if part = 3 then 8 * 1048576
  else if part = 5 then 4 * 1048576 else 1048576

/-- The copy of the boot record that start-up uses: the newer generation that passes its check (14 R413). -/
def State.bootRecord (s : State) : BootRecord :=
  let a := s.images.boot0
  let b := s.images.boot1
  if ¬ a.valid then b else if b.valid && seqNewer b.generation a.generation then b else a

/-- The active bank of a part is B (14 R413). -/
def State.activeBank (s : State) (part : Nat) : Bool := s.bootRecord.banks.getLsbD part

/-- State of a bank: the one the boot record names is ACTIVE unless an activation moves it (14 R420). -/
def State.bankState (s : State) (part : Nat) (b : Bool) : BankState :=
  if (s.bank part b).st = .empty ∧ s.activeBank part = b then .active else (s.bank part b).st

/-- `image_version` of a bank. -/
def Bank.version (v : Bank) : Nat := v.le 8 4
/-- `image_length` of a bank. -/
def Bank.length (v : Bank) : Nat := v.le 24 4
/-- Manifest entries of a bank: type, offset, length, hash (14 R416). -/
def Bank.manifest (v : Bank) : List (Nat × Nat × Nat × List Byte) :=
  (List.range (min 64 (v.le 32 4))).map fun i =>
    let o := v.le 28 4 + 64 * i
    (v.le o 4, v.le (o + 4) 4, v.le (o + 8) 4, v.read (o + 16) 48)
/-- First section of a type: offset and length. -/
def Bank.part (v : Bank) (type : Nat) : Option (Nat × Nat) :=
  (v.manifest.find? fun e => e.1 = type).map fun e => (e.2.1, e.2.2.1)

/-! ## Staged bench content (04 R147-R149) -/

/-- A write in a mode opens a bench's inactive page: LOADING; from EMPTY, or from content of the other mode, it starts from
a store of zeros (02 R53; 04 R147). -/
def State.openPage (s : State) (b : Nat) (modeP : Bool) : State :=
  let v := s.bench b
  if v.page.state = .empty ∨ v.stagedP ≠ modeP then
    let s := s.setBench b { v with
      page := { state := .loading }, stagedP := modeP, stagedVersion := 0#32, stagedLevel := 0#8, fromImage := false }
    { s with clerks := { s.clerks with
      microIn := clearStore 65536 b s.clerks.microIn
      nanoIn := clearStore 16384 b s.clerks.nanoIn
      matchIn := clearStore 64 b s.clerks.matchIn } }
  else s.setBench b { v with page := { state := .loading } }

/-- Write staged microwords of a bench from an address. -/
def State.stageMicro (s : State) (b a : Nat) (ws : List W32) : State :=
  { s with clerks := { s.clerks with microIn := (List.range ws.length).foldl (fun m i =>
      nset 0#32 (65536 * b + a + i) (ws.getD i 0#32) m) s.clerks.microIn } }
/-- Write staged nanowords of a bench from an address. -/
def State.stageNano (s : State) (b a : Nat) (ws : List (BitVec 256)) : State :=
  { s with clerks := { s.clerks with nanoIn := (List.range ws.length).foldl (fun m i =>
      nset 0#256 (16384 * b + a + i) (ws.getD i 0#256) m) s.clerks.nanoIn } }
/-- Write the staged match registers of a bench. -/
def State.stageMatch (s : State) (b : Nat) (ws : List W32) : State :=
  { s with clerks := { s.clerks with matchIn := (List.range ws.length).foldl (fun m i =>
      nset 0#32 (64 * b + i) (ws.getD i 0#32) m) (clearStore 64 b s.clerks.matchIn) } }

/-- Stage a patch set on a bench: it replaces what the page held (04 R143, R144). -/
def State.stagePatch (s : State) (b : Nat) (micro : List W32) (nano : List (BitVec 256)) (regs : List W32)
    (level : Nat) : State :=
  let s := s.openPage b true
  let s := { s with clerks := { s.clerks with
    microIn := clearStore 65536 b s.clerks.microIn, nanoIn := clearStore 16384 b s.clerks.nanoIn } }
  let s := ((s.stageMicro b 0xFC00 micro).stageNano b 0x3E00 nano).stageMatch b regs
  s.setBench b { s.bench b with stagedLevel := BitVec.ofNat 8 level }

/-- Words of a size from a bank's section. -/
def Bank.words (v : Bank) (type size : Nat) : List Nat :=
  match v.part type with
  | some (off, len) => (List.range (len / size)).map fun i => v.le (off + size * i) size
  | none => []

/-- Version and level that sealed content has: in mode P the base release is the ROM's (04 R145). -/
def sealedVersion (modeP : Bool) (version : W32) (level : BitVec 8) : W32 × BitVec 8 :=
  if modeP then (0x00010000#32 ||| level.setWidth 32, level) else (version, version.setWidth 8)

/-- A bench's page is marked LOADED (04 R144, R145); in mode W the image that was staged supplies the whole version. -/
def State.sealPage (s : State) (b : Nat) (version : W32) : State :=
  let v := s.bench b
  let x := sealedVersion v.stagedP (if v.fromImage then v.stagedVersion else version) v.stagedLevel
  s.setBench b { v with page := { state := .loaded }, stagedVersion := x.1, stagedLevel := x.2 }

/-- Stage the image of a bank on a bench: part 1 in mode W, part 2 in mode P (14 R416); the page is LOADING. -/
def State.stageImage (s : State) (b : Nat) (modeP bankB : Bool) : State :=
  if modeP then
    let v := s.bank 2 bankB
    s.stagePatch b ((v.words 0x12 4).map (BitVec.ofNat 32)) ((v.words 0x13 32).map (BitVec.ofNat 256))
      ((v.words 0x14 4).map (BitVec.ofNat 32)) (v.version % 256)
  else
    let v := s.bank 1 bankB
    let s := s.openPage b false
    let s := (s.stageMicro b 0 ((v.words 0x10 4).map (BitVec.ofNat 32))).stageNano b 0
      ((v.words 0x11 32).map (BitVec.ofNat 256))
    s.setBench b { s.bench b with stagedVersion := BitVec.ofNat 32 v.version, fromImage := true }

/-- A bank holds an image: its header's `magic` is correct (14 R415). -/
def Bank.holds (v : Bank) : Bool := decide (v.le 0 4 = 0x4D4C4749)

/-- The content that the boot record names becomes a bench's active content in a mode; without an image it is a store
of zeros, in mode P no patch set (04 R147; 14 R427). -/
def State.bootContent (s : State) (b : Nat) (modeP : Bool) : State :=
  let part := if modeP then 2 else 1
  let bankB := s.activeBank part
  let holds := (s.bank part bankB).holds
  let s := s.setBench b { s.bench b with page := {} }
  let s := s.openPage b modeP
  let s := if holds then s.stageImage b modeP bankB else s
  let s := (s.sealPage b (if holds then (s.bench b).stagedVersion else 0#32)).swapBench b
  let v := s.bench b
  s.setBench b { v with
    modeP := modeP, page := {}, stagedP := true, stagedVersion := 0#32, stagedLevel := 0#8, fromImage := false, rollout := false
    version := if holds then v.stagedVersion else if modeP then 0x00010000#32 else 0#32
    level := if holds then v.stagedLevel else 0#8 }

/-- Two enabled match registers of a bench's staged set name one micro address (04 R144). -/
def State.twoMatch (s : State) (b : Nat) : Bool :=
  !noTwice ((enabledMatches s.clerks.matchIn b).map fun r => bits r.toNat 15 0)

end Sys2Proof.Machine
end

