-- ==== Sys2Proof/Machine/SettingsOps.lean ====
section
/-!
DEFINITION. SettingsOps.lean: the settings in force, the records of the settings store and the write of one
(14 R428-R430).
-/

namespace Sys2Proof

/-- The body of a settings record; its format is that of the postmaster image's `settings_version` (14 R428, R429). -/
opaque Config.settingsBody : BitVec 16 → Machine.Settings → List (BitVec 8)

namespace Machine

/-! ## The settings in force (14, the settings store) -/

/-- What letters have set of a port; `state` says only whether the port is enabled. -/
def Port.settings (v : Port) : Port :=
  { kind := v.kind, mode := v.mode, optics := v.optics, mtu := v.mtu, trainTimeout := v.trainTimeout
    debounce := v.debounce, holdoff := v.holdoff, fecDegrade := v.fecDegrade, pauseOn := v.pauseOn
    pcpMap := v.pcpMap, tcMap := v.tcMap, dscpMap := v.dscpMap, hashProfile := v.hashProfile, alwaysOn := v.alwaysOn
    rxDelay := v.rxDelay, txDelay := v.txDelay, slots := v.slots, byZero := v.byZero
    state := if v.state = .disabled ∨ v.disabling then .disabled else .training }

/-- What letters have set of a port's queues and arbiter. -/
def PortQ.settings (v : PortQ) : PortQ :=
  { overspeed := v.overspeed, grantStop := v.grantStop, hold := v.hold, gateLead := v.gateLead
    classPriority := v.classPriority, classWeight := v.classWeight }

/-- Every setting in force (14 R429; notes/assumptions/155.md). -/
def State.settings (s : State) : Settings :=
  { moduleId := s.regs.moduleId, epoch := s.epoch.current, compat := some (s.epoch.compatLow, s.epoch.compatHigh)
    modeP := s.clerks.modeP
    benchModes := BitVec.ofNat 32 ((List.range 32).foldl (fun n b => if (s.bench b).modeP then n + 2 ^ b else n) 0)
    budget := s.clerks.budget, granules := s.buffers.granules, classes := s.buffers.classes
    admissions := s.buffers.admissions, lengths := s.queues.lengths
    ports := s.line.ports.map fun e => (e.1, e.2.settings)
    octets := s.line.octets, taps := s.line.taps, fabTaps := s.fabric.taps
    repairs := (s.hbm.lanes.filter fun e => e.2.spare ≠ 15).map fun e => (e.1, e.2.spare)
    hbm := (s.hbm.panicNs, s.hbm.nbrN, s.hbm.retrainPeriod, s.hbm.srIdle)
    fabric := (s.fabric.reasmTimeout, s.fabric.skewLimit, s.fabric.creditWd, s.fabric.holdMax, s.fabric.packWait)
    credit := (s.fabric.grantSize, s.fabric.mcRate), external := s.time.external
    sources := s.time.sources.map fun x => { tod := x.tod, port := x.port }
    wtr := s.time.wtr, holdoverRate := s.time.holdoverRate, ptp := s.time.ptp
    hash := (s.lookup.seed, s.lookup.hash), period := s.lookup.period
    mgmt := s.mgmt.ports, udp := s.mgmt.udp, masks := s.faults.masks, cap := s.power.cap
    alerts := (s.power.inputLow, s.power.inputHigh, s.power.tempAlert)
    portQ := s.queues.ports.map fun e => (e.1, e.2.settings)
    dlq := (s.buffers.dlqMask, s.buffers.dlqReasons, s.buffers.dlqLimit, s.buffers.dlqSnap)
    ct := s.buffers.ct.map fun e => (e.1, { e.2 with running := none }) }

/-! ## The slots (14 R428, R429) -/

/-- Bytes 0-15 of a record's header: `magic`, `settings_version`, RSV, `generation` and `length` (14 R428). -/
def SettingsRecord.head (r : SettingsRecord) : List Byte :=
  leBytes 0x53545347 4 ++ leBytes r.version.toNat 2 ++ leBytes 0 2 ++ leBytes r.generation.toNat 4 ++
  leBytes (Config.settingsBody r.version r.body).length 4

/-- A record with its `check` computed (14 R428). -/
def SettingsRecord.seal (r : SettingsRecord) : SettingsRecord :=
  { r with check := BitVec.ofNat 32 (crc32c 0xFFFFFFFF (r.head ++ Config.settingsBody r.version r.body)) }

/-- What a slot's flash holds of a record: the 32-byte header and the body (14 R428). -/
def SettingsRecord.bytes (r : SettingsRecord) : List Byte :=
  r.head ++ leBytes r.check.toNat 4 ++ leBytes 0 12 ++ Config.settingsBody r.version r.body

/-- A settings slot. -/
def State.slot? (s : State) (i : Nat) : Option SettingsRecord := if i = 0 then s.images.slot0 else s.images.slot1
/-- Write a settings slot. -/
def State.setSettingsSlot (s : State) (i : Nat) (r : SettingsRecord) : State :=
  { s with images := if i = 0 then { s.images with slot0 := some r } else { s.images with slot1 := some r } }
/-- The valid record of a slot. -/
def State.validSlot (s : State) (i : Nat) : Option SettingsRecord := (s.slot? i).filter (·.valid)
/-- Valid records, slot 0 first. -/
def State.validRecords (s : State) : List SettingsRecord := (s.validSlot 0).toList ++ (s.validSlot 1).toList

/-- The record of the newest generation (14 R428, R332). -/
def newestRecord : List SettingsRecord → Option SettingsRecord
  | [] => none
  | r :: rs => some (rs.foldl (fun b x => if seqNewer x.generation b.generation then x else b) r)

/-- The next generation: one above the newest held (14 R428). -/
def State.nextGeneration (s : State) : W32 :=
  match newestRecord s.validRecords with
  | some r => r.generation + 1#32
  | none => 0#32

/-- A record that a postmaster image could take in its own version or migrate (14 R430). -/
def SettingsRecord.takable (r : SettingsRecord) (low own : Nat) : Bool := decide (low ≤ r.version.toNat ∧ r.version.toNat ≤ own)

/-- The slot that a save of a version writes (14 R429); `low` is the oldest version that the image can migrate. With two
records of versions that both differ from it (DESIGN CHOICE, log 62), the record that the image could take is kept
(14 R430), else the newer one. -/
def State.saveSlot (s : State) (version : BitVec 16) (low : Nat) : Nat :=
  match s.validSlot 0, s.validSlot 1 with
  | some a, some b =>
    let older := if seqNewer a.generation b.generation then 1 else 0
    if a.version = b.version then older
    else if a.version = version then 0
    else if b.version = version then 1
    else if a.takable low version.toNat && !b.takable low version.toNat then 1
    else if b.takable low version.toNat && !a.takable low version.toNat then 0
    else older
  | some _, none => 1
  | _, _ => 0

/-- `settings_version` and `settings_min` of a bank of part 0 (14 R415). -/
def State.settingsVersion (s : State) (bankB : Bool) : BitVec 16 := BitVec.ofNat 16 ((s.bank 0 bankB).le 16 2)
/-- See `settingsVersion`. -/
def State.settingsMin (s : State) (bankB : Bool) : Nat := (s.bank 0 bankB).le 18 2

/-- Bank of the active postmaster's image; without one, the bank of postmaster A. -/
def State.activeImage (s : State) : Bool := (s.post (s.pm.active.getD .a)).bankB

/-- The newest settings version held (14 R429). -/
def State.newestVersion (s : State) : Nat := s.validRecords.foldl (fun n r => max n r.version.toNat) 0

/-- Begin the write of a record with a body, in the active image's version and with the next generation (14 R429). -/
def State.saveBody (s : State) (l : Option LetterId) (body : Settings) (migrated : Bool := false) : State :=
  let version := s.settingsVersion s.activeImage
  let r : SettingsRecord := { version := version, generation := s.nextGeneration, valid := true, body := body }
  { s with images := { s.images with jobs := s.images.jobs ++ [.settings l (s.saveSlot version (s.settingsMin s.activeImage)) r migrated] } }

/-- Lane repairs found in training are recorded in the settings store; the rest of the body stays as it was last saved
(09 R304). -/
def State.recordRepairs (s : State) (repairs : List (Nat × Nat)) : State :=
  if repairs = [] then s
  else
    let body := ((newestRecord s.validRecords).map (·.body)).getD {}
    s.saveBody none { body with repairs := repairs.foldl (fun m e => nput e.1 e.2 m) body.repairs }

end Machine

end Sys2Proof
end

