-- ==== Sys2Proof/Machine/Hbm.lean ====
section
/-!
DEFINITION. Hbm.lean: the command slots of a pseudo-channel, refresh and neighbour refresh, training, retraining under
traffic, self-refresh, draining and disabling, and the letters of the deep tier (09 R292-R315).
-/

namespace Sys2Proof.Machine

/-! ## Requests of a pseudo-channel (09 R293, R296, R297) -/

/-- Bank of a request (09 R293). -/
def Request.bank (r : Request) : Nat := r.addr / 1024 % 64
/-- Row of a request (09 R293). -/
def Request.row (r : Request) : Nat := r.addr / 65536
/-- A TX or FAB read. -/
def Request.realTime (r : Request) : Bool := !r.write && (r.who = .tx || r.who = .fab)

/-- Requests queued, reads first. -/
def Pch.queued (v : Pch) : List Request := v.reads ++ v.writes
/-- Nothing is queued or waits. -/
def Pch.quiet (v : Pch) : Bool := v.reads.isEmpty && v.writes.isEmpty && v.blocked.isEmpty
/-- A bank has a queued request. -/
def Pch.bankBusy (v : Pch) (b : Nat) : Bool := v.queued.any fun r => r.bank = b
/-- A request hits an open row. -/
def Pch.hits (v : Pch) (r : Request) : Bool := decide (nfind v.rows r.bank = some r.row)

/-- A request may be served: none of the same requester and buffer was queued before it (09 R297). -/
def Pch.eligible (v : Pch) (r : Request) : Bool :=
  let same (q : Request) : Bool := decide (q.who = r.who) && decide (q.buf = r.buf) && r.buf.isSome
  (v.queued ++ v.blocked).all fun q => !same q || decide (r.ord ≤ q.ord)

/-- The request that a direction serves (09 R297): the oldest above 10 us, else the oldest row hit, else the oldest. -/
def State.pickFrom (s : State) (v : Pch) (l : List Request) : Option Request :=
  let l := l.filter v.eligible
  match l.head? with
  | some r => if r.at_ + 10000 < s.up then some r else some ((l.find? v.hits).getD r)
  | none => none

/-- The direction of a pseudo-channel (09 R298); panic reads are served before it is asked. -/
def Pch.direction (v : Pch) : Bool :=
  if v.writeMode then !(decide (v.writes.length ≤ 8) && !v.reads.isEmpty) && !v.writes.isEmpty
  else decide (24 ≤ v.writes.length) || (v.reads.isEmpty && !v.writes.isEmpty)

/-- Take a request out of its queue; the oldest that waits for that queue moves in, and is queued from now on (09 R296,
R299). -/
def Pch.remove (v : Pch) (r : Request) (now : Nat) : Pch :=
  let v := if r.write then { v with writes := v.writes.erase r } else { v with reads := v.reads.erase r }
  match v.blocked.find? fun q => q.write = r.write with
  | some q =>
    let v := { v with blocked := v.blocked.erase q }
    let q := { q with at_ := now }
    if q.write then { v with writes := v.writes ++ [q] } else { v with reads := v.reads ++ [q] }
  | none => v

/-! ## Refresh and neighbour refresh (09 R300, R301) -/

/-- The rows beside a row that a neighbour refresh takes, within 0-9,215 (09 R301). -/
def nbrRows (row : Nat) : List Nat := (if row = 0 then [] else [row - 1]) ++ (if row < 9215 then [row + 1] else [])

/-- Issue queued neighbour refreshes that meet a test, as an activate and precharge of each row beside theirs, which
leaves their bank closed. Only the activations that requests need draw from the generator (notes/assumptions/144.md). -/
def State.issueNbr (s : State) (c : Nat) (p : Nat × Nat → Bool) : State :=
  let v := s.pch c
  let go := v.nbr.filter p
  let left := v.nbr.filter fun x => !p x
  let s := s.setPch c { v with
    nbr := left, nbrForced := v.nbrForced && decide (8 < left.length), rows := go.foldl (fun m x => nerase x.1 m) v.rows }
  let s := go.foldl (fun s x => s.emit (.nbrRefresh c x.1 (nbrRows x.2))) s
  if go = [] then s else s.bump .hbmNbrRefresh (c / 64) 0 go.length

/-- A row activation draws from the generator; below 2^(16 - n) it queues a neighbour refresh of the bank's row
(09 R301). -/
def State.activate (s : State) (c bank row : Nat) : State :=
  let v := s.pch c
  let x := Config.lfsrNext (v.lfsr.getD (Config.lfsrSeed c))
  let v := { v with lfsr := some x, rows := nput bank row v.rows }
  if x.toNat < 2 ^ (16 - s.hbm.nbrN) then
    let nbr := v.nbr ++ [(bank, row)]
    s.setPch c { v with nbr := nbr, nbrForced := v.nbrForced || decide (8 < nbr.length) }
  else s.setPch c v

/-- After a slot: banks without a queued request close, and their postponed refreshes and neighbour refreshes issue; a
period of activity ends with the last request, and the next starts in read mode (09 R296, R298, R300, R301). -/
def State.afterSlot (s : State) (c : Nat) : State :=
  let v := s.pch c
  let s := s.setPch c { v with
    rows := v.rows.filter fun e => v.queued.any fun r => r.bank = e.1 ∧ r.row = e.2
    postponed := v.postponed.filter fun e => v.bankBusy e.1
    writeMode := v.writeMode && !v.quiet }
  s.issueNbr c fun x => !v.bankBusy x.1

/-! ## Completion of a request -/

/-- Change the packets that lie in buffers: in queues, selected, in host queues and dead letters. -/
def State.onPackets (s : State) (f : Packet → Packet) : State :=
  let sel (x : Selected) : Selected := { x with packet := f x.packet }
  { s with
    queues := { s.queues with
      queues := s.queues.queues.map fun e => (e.1, { e.2 with packets := e.2.packets.map f })
      selected := s.queues.selected.map sel }
    courier := { s.courier with
      channels := s.courier.channels.map fun e => (e.1, { e.2 with queue := e.2.queue.map f }) }
    buffers := { s.buffers with dlq := s.buffers.dlq.map fun e => { e with packet := f e.packet } } }

/-- Change the packets of a buffer that are being read. -/
def State.markPackets (s : State) (b : BufId) (f : Packet → Packet) : State :=
  s.onPackets fun p => if p.fetching && p.inBuf b then f p else p

/-- The deep packets of a list that has descriptor blocks, head first. -/
def State.listed (s : State) (q : Nat) : List Packet :=
  let all := if q < 524288 then (s.queue q).packets
    else if q < dlqObject then (s.chan (q - 524288)).queue else s.buffers.dlq.map (·.packet)
  all.filter fun p => p.charge 1 ≠ 0

/-- Every packet that a descriptor block still lists is lost (06 R206). -/
def State.blockLost (s : State) (b : BufId) : State :=
  match (s.ownerOf b).map OwnerRec.owner with
  | some (Owner.block q) =>
    let bs := s.blocksOf q.toNat
    let skip := ((bs.takeWhile fun x => x.buf ≠ b).map (·.left)).sum
    let n := ((bs.find? fun x => x.buf = b).map (·.left)).getD 0
    let gone := (((s.listed q.toNat).drop skip).take n).filterMap fun p => p.placed.map (·.buf)
    s.onPackets fun p => match p.placed with
      | some x => if gone.contains x.buf then { p with lost := true } else p
      | none => p
  | _ => s

/-- A stack that is to be disabled and has no window drains (09 R312). -/
def State.startDrain (s : State) (i : Nat) : State :=
  let v := s.stack i
  if ¬ v.draining ∨ v.window ≠ none then s
  else (stackPchs i).foldl (fun s c =>
    if (s.pch c).st = .failed then s else s.setPch c { s.pch c with st := .draining }) s

/-- A pseudo-channel goes to DRAINING for its errors, which ends a window that is still FENCED (09 R302, R305, R311,
R312). -/
def State.drainPch (s : State) (c : Nat) : State :=
  let v := s.pch c
  let i := c / 64
  let s := if v.st = .fenced then s.setStack i { s.stack i with window := none } else s
  ((s.setPch c { v with st := .draining, drainAfter := false }).condition 0x0903 c true).startDrain i

/-- An uncorrectable read (09 R302): counted, raised, and with 16 in a second the pseudo-channel drains. -/
def State.uncorrectable (s : State) (c : Nat) (r : Request) : State :=
  let s := (s.bump .hbmUncorr c).raise 0x0901 c r.addr
  let s := match r.buf, r.who with
    | some b, .desc => s.blockLost b
    | some b, .metaReq => { s with buffers := { s.buffers with outOfUse := s.buffers.outOfUse ++ [b] } }
    | some b, _ => s.markPackets b fun p => { p with lost := true }
    | none, _ => s
  let v := s.pch c
  let times := (v.uncorr.filter fun t => s.up < t + 1000000000) ++ [s.up]
  let s := s.setPch c { v with uncorr := times }
  if times.length < 16 then s
  else if v.st = .open_ ∨ v.st = .fenced then s.drainPch c
  else if v.st = .offline then s.setPch c { v with uncorr := times, drainAfter := true }
  else s

/-- A read failed: uncorrectable, or a descriptor block whose `check` does not hold (06 R206; 09 R302;
notes/assumptions/145.md). -/
def readFails (o : ReadOutcome) (r : Request) : Bool :=
  decide (o = .uncorrectable) || (decide (o = .badCheck) && decide (r.who = .desc))

/-- A served request completes; an access has completed with its last request (09 R293, R302; 06 R213). -/
def State.complete (s : State) (c : Nat) (r : Request) (o : ReadOutcome) : State :=
  let i := c / 64
  if r.write then
    let s := s.bump .hbmWriteBytes i 0 r.bytes
    if r.who = .wb ∧ r.whole ≠ 0 then
      { s with buffers := { s.buffers with writeBehind := s.buffers.writeBehind.erase (c, r.whole) } }
    else s
  else
    let s := s.bump .hbmReadBytes i 0 r.bytes
    let s := if o = .corrected ∨ o = .correctedOnRepeat then s.bump .hbmCorrected c else s
    let s := if readFails o r then s.uncorrectable c r else s
    match r.buf with
    | some b =>
      if r.realTime ∧ r.whole ≠ 0 then s.markPackets b fun p => { p with fetched := !p.lost, fetching := false } else s
    | none => s

/-- Serve a request: a row miss activates its row, the bank's neighbour refreshes of other rows before it (09 R301). -/
def State.serve (s : State) (c : Nat) (r : Request) (o : ReadOutcome) : State :=
  let i := c / 64
  let v := s.pch c
  let s := if v.hits r then s.bump .hbmRowHit i
    else ((s.bump .hbmRowMiss i).issueNbr c fun x => decide (x.1 = r.bank) && decide (x.2 ≠ r.row)).activate c r.bank
      r.row
  let v := s.pch c
  ((s.setPch c { v.remove r s.up with writeMode := r.write }).setStack i { s.stack i with idleSince := s.up }).complete c r o

/-- HBM_COMMAND_SLOT (09 R297, R298): nothing is issued in a pseudo-channel that is OFFLINE, in training or FAILED, or
whose stack is asleep. Where every request of the direction must follow one of the other in its buffer's order, that one
is served (notes/assumptions/146.md). -/
def execHbmCommandSlot (pchan : Fin 512) (outcome : ReadOutcome) (s : State) : Host.Outcome State Fault Refusal :=
  let c := pchan.val
  let v := s.pch c
  onUnit (decide (c < 64 * s.variant.hbmStacks)) (
    if v.st = .offline ∨ v.st = .training ∨ v.st = .failed ∨ (s.stack (c / 64)).asleep then s
    else match v.postponed.find? fun e => 8 ≤ e.2 with
      | some e =>
        ((s.setPch c { v with postponed := nset 0 e.1 (e.2 - 1) v.postponed, rows := nerase e.1 v.rows }).bump
          .hbmRefreshForced (c / 64)).afterSlot c
      | none =>
        match v.reads.find? fun r => r.panic && v.eligible r with
        | some r => (s.serve c r outcome).afterSlot c
        | none =>
          if v.nbrForced then (s.issueNbr c fun x => decide (v.nbr.head? = some x)).afterSlot c
          else
            let w := v.direction
            let first := s.pickFrom v (if w then v.writes else v.reads)
            match first.or (s.pickFrom v (if w then v.reads else v.writes)) with
            | some r => (s.serve c r outcome).afterSlot c
            | none => s.afterSlot c)

/-- PANIC_READ_EXPIRY (09 R299). -/
def execPanicReadExpiry (pchan : Fin 512) (s : State) : Host.Outcome State Fault Refusal :=
  let c := pchan.val
  let v := s.pch c
  let late (r : Request) : Bool := r.realTime && !r.panic && decide (r.at_ + s.hbm.panicNs < s.up)
  let n := (v.reads.filter late).length
  onUnit (decide (c < 64 * s.variant.hbmStacks)) (
    if n = 0 then s
    else (s.setPch c { v with reads := v.reads.map fun r => if late r then { r with panic := true } else r }).bump
      .hbmPanic (c / 64) 0 n)

/-- Temperature of a stack in degrees (09 R300, R306; 16 R460). -/
def State.stackTemp (s : State) (i : Nat) : Nat := nget 0 s.power.temps (2 + i)

/-- REFRESH_DUE (09 R300, R311): postponed while the bank has requests queued or its pseudo-channel is OFFLINE, else
issued; a stack asleep refreshes itself (R309). -/
def execRefreshDue (pchan : Fin 512) (bank : Fin 64) (s : State) : Host.Outcome State Fault Refusal :=
  let c := pchan.val
  let v := s.pch c
  let due := nget 0 v.refreshAt bank + Config.refreshInterval (s.stackTemp (c / 64))
  onUnit (decide (c < 64 * s.variant.hbmStacks)) (
    if s.up < due ∨ (s.stack (c / 64)).asleep then s
    else
      let v := { v with refreshAt := nput bank s.up v.refreshAt }
      if v.bankBusy bank ∨ v.st = .offline then
        s.setPch c { v with postponed := nput bank (min 8 (nget 0 v.postponed bank + 1)) v.postponed }
      else s.setPch c { v with rows := nerase bank v.rows })

/-! ## Training (09 R303, R304) -/

/-- Longest run of passing steps of a map, as (first, last); a tie goes to the run holding the step nearest the
middle, then the lower one (09 R303). -/
def longestRun (m : Nat) (n : Nat) : Option (Nat × Nat) :=
  let ends := (List.range n).filter fun i => bit m i && !(bit m (i + 1) && decide (i + 1 < n))
  let runOf (e : Nat) : Nat × Nat := (e + 1 - ((List.range (e + 1)).reverse.takeWhile fun i => bit m i).length, e)
  let far (r : Nat × Nat) : Nat := -- twice the distance from the middle of the range
    if 2 * r.1 ≤ n - 1 ∧ n - 1 ≤ 2 * r.2 then 0 else min ((2 * r.1 : Int) - (n - 1)).natAbs ((2 * r.2 : Int) - (n - 1)).natAbs
  (ends.map runOf).foldl (fun b r => match b with
    | none => some r
    | some x =>
      let w := r.2 - r.1
      let u := x.2 - x.1
      if u < w ∨ (u = w ∧ far r < far x) then some r else some x) none

/-- Centre of a run (09 R303). -/
def runCentre (r : Nat × Nat) : Nat := (r.1 + r.2) / 2

/-- What a sweep gives a lane: none when it fails (09 R303, R304). -/
def sweepResult (x : Sweep) : Option Lane :=
  match longestRun x.rd.toNat 128, longestRun x.vref.toNat 64, longestRun x.rdAgain.toNat 128, longestRun x.wr.toNat 128 with
  | some _, some v, some r, some w =>
    if 24 ≤ r.2 + 1 - r.1 ∧ 24 ≤ w.2 + 1 - w.1 then
      some { rdLeft := r.1, rdRight := r.2, wrLeft := w.1, wrRight := w.2, rdCentre := runCentre r, wrCentre := runCentre w
             vref := runCentre v }
    else none
  | _, _, _, _ => none

/-- Training of a lane with the spare in use before it: its result, and the bit repaired, whether or not the lane then
trains (09 R304). -/
def laneResult (x : LaneSweep) (spare : Nat) : Option Lane × Option Nat :=
  match sweepResult x.first with
  | some r => (some ({ r with spare := spare } : Lane), none)
  | none =>
    match maskBits x.failedBits.toNat 8 with
    | [b] => if spare ≠ 15 then (none, none)
        else ((sweepResult x.second).map fun (r : Lane) => ({ r with spare := b } : Lane), some b)
    | _ => (none, none)

/-- The spare bit of a byte lane as the settings store records it (09 R303 step 1), else as in force. -/
def State.spareOf (s : State) (lane : Nat) : Nat :=
  let kept := ((newestRecord s.validRecords).map fun r => nget 15 r.body.repairs lane).getD 15
  if kept = 15 then (nget {} s.hbm.lanes lane).spare else kept

/-- End the training of a pseudo-channel (09 R304, R305). -/
def State.trainPch (s : State) (c : Nat) (xs : List LaneSweep) : State × List (Nat × Nat) :=
  let v := s.pch c
  let source := if v.retrainNow then 2 else 0
  let found := (List.range 4).filterMap fun j => (xs.find? fun x => x.lane.toNat = 4 * (c % 64) + j).map fun x => (4 * c + j, x)
  if found.length < 4 then (s, [])
  else
    let res := found.map fun e => (e.1, laneResult e.2 (s.spareOf e.1))
    let repairs := res.filterMap fun e => e.2.2.map fun b => (e.1, b)
    let put (s : State) (n : Nat) (v : Lane) : State := { s with hbm := { s.hbm with lanes := nset {} n v s.hbm.lanes } }
    let s := repairs.foldl (fun s e =>
      (put s e.1 { nget {} s.hbm.lanes e.1 with spare := e.2 }).raise 0x0902 e.1 e.2) s
    let s := res.foldl (fun s e => match e.2.1 with
      | some r => put s e.1 { r with source := source }
      | none => s) s
    if res.all fun e => e.2.1.isSome then
      ((s.setPch c { v with st := .open_, retrainNow := false, windowAt := s.up, windowTemp := s.stackTemp (c / 64)
                            first := false, uncorr := [], drainAfter := false }).clearFault 0x0903 c, repairs)
    else ((s.setPch c { v with st := .failed, retrainNow := false }).condition 0x0903 c true, repairs)

/-- HBM_TRAINING (09 R303, R304): the pseudo-channels of a powered, enabled stack whose four lanes are reported. -/
def execHbmTraining (stack : Fin 8) (lanes : List LaneSweep) (s : State) : Host.Outcome State Fault Refusal :=
  let i := stack.val
  onUnit (decide (i < s.variant.hbmStacks)) (
    if ¬ (s.stack i).enabled ∨ ¬ s.domain (89 + i) then s
    else
      let todo := (stackPchs i).filter fun c => (s.pch c).st = .training
      let r := todo.foldl (fun (acc : State × List (Nat × Nat)) c =>
        let x := acc.1.trainPch c lanes
        (x.1, acc.2 ++ x.2)) (s, [])
      let s := r.1.recordRepairs r.2
      let v := s.stack i
      if v.active ∨ todo = [] then s
      else s.setStack i { v with active := true, idleSince := s.up, nextWindow := s.up + s.hbm.retrainPeriod / 64 })

/-! ## Retraining under traffic (09 R306-R308, R311) -/

/-- The pseudo-channel of the next turn (09 R306). -/
def State.nextTurn (s : State) (i : Nat) : Option Nat :=
  let cands := (stackPchs i).filter fun c => (s.pch c).st = .open_
  let t := s.stackTemp i
  let urgent := cands.filter fun c => (s.pch c).first ||
    decide (5 ≤ (Int.ofNat t - Int.ofNat (s.pch c).windowTemp).natAbs)
  bestBy (fun c => - Int.ofNat (s.pch c).windowAt) (if urgent = [] then cands else urgent)

/-- RETRAIN_FENCE (09 R306, R307 step 1). -/
def execRetrainFence (stack : Fin 8) (s : State) : Host.Outcome State Fault Refusal :=
  let i := stack.val
  let v := s.stack i
  onUnit (decide (i < s.variant.hbmStacks)) (
    if ¬ v.active ∨ ¬ v.enabled ∨ v.window ≠ none ∨ s.up + 20000 < v.nextWindow then s
    else match s.nextTurn i with
      | none => s
      | some c =>
        let tw := s.up + 20000
        (s.setPch c { s.pch c with st := .fenced }).setStack i { v with
          window := some ⟨c, tw⟩, nextWindow := tw + s.hbm.retrainPeriod / 64 })

/-- A window is abandoned (09 R307 step 3, R311). -/
def State.slipWindow (s : State) (c : Nat) (first : Bool) : State :=
  let i := c / 64
  let v := s.pch c
  ((s.setPch c { v with st := .open_, first := v.first || first }).setStack i { s.stack i with window := none }).bump
    .hbmRetrainSlip c

/-- RETRAIN_WINDOW_START (09 R307 steps 3 and 4, R311). -/
def execRetrainWindowStart (stack : Fin 8) (s : State) : Host.Outcome State Fault Refusal :=
  let i := stack.val
  let v := s.stack i
  onUnit (decide (i < s.variant.hbmStacks)) (match v.window with
    | none => s
    | some w =>
      let p := s.pch w.pch
      if p.st ≠ .fenced ∨ s.up < w.tw then s
      else if v.asleep then (s.slipWindow w.pch true).startDrain i
      else if p.quiet ∧ s.buffers.writeBehind.all fun e => e.1 ≠ w.pch then
        s.setPch w.pch { p with st := .offline, rows := [] }
      else if w.tw + 20000 ≤ s.up then (s.slipWindow w.pch false).startDrain i
      else s)

/-- The re-centre of one delay (09 R308): the run of passing positions that holds the old centre, as (left, right);
none when the old centre fails or the run spans less than 24 steps. -/
def recentre (m centre : Nat) : Option (Nat × Nat) :=
  let ok (i : Nat) : Bool := bit m i && decide (16 ≤ centre + 2 * i) && decide (centre + 2 * i ≤ 143)
  if ¬ ok 8 then none
  else
    let up := (((List.range 9).map (· + 8)).takeWhile ok).length - 1
    let down := ((List.range 9).map (8 - ·)).takeWhile ok |>.length
    let l := centre - 2 * (down - 1)
    let r := centre + 2 * up
    if r - l < 24 then none else some (l, r)

/-- New centres of a lane (09 R308, R314). -/
def edgesResult (x : LaneEdges) (v : Lane) : Option Lane :=
  match recentre x.rd.toNat v.rdCentre, recentre x.wr.toNat v.wrCentre with
  | some r, some w => some { v with
      rdLeft := r.1, rdRight := r.2, rdCentre := (r.1 + r.2) / 2
      wrLeft := w.1, wrRight := w.2, wrCentre := (w.1 + w.2) / 2, source := 1 }
  | _, _ => none

/-- RETRAIN_WINDOW_END (09 R307 steps 5 and 6, R308, R311, R312): `lanes` holds what the four lanes passed. -/
def execRetrainWindowEnd (stack : Fin 8) (lanes : List LaneEdges) (s : State) : Host.Outcome State Fault Refusal :=
  let i := stack.val
  let v := s.stack i
  onUnit (decide (i < s.variant.hbmStacks)) (match v.window with
    | none => s
    | some w =>
      let c := w.pch
      let p := s.pch c
      if p.st ≠ .offline ∨ lanes.length ≠ 4 then s
      else
        let res := ((List.range 4).zip lanes).map fun e => (4 * c + e.1, edgesResult e.2 (nget {} s.hbm.lanes (4 * c + e.1)))
        let s := s.setStack i { v with window := none, idleSince := s.up }
        let p := { p with windowAt := s.up, windowTemp := s.stackTemp i, first := false }
        let s :=
          if res.all fun e => e.2.isSome then
            let t := res.foldl (fun t e => match e.2 with
              | some r => { t with hbm := { t.hbm with lanes := nset {} e.1 r t.hbm.lanes } }
              | none => t) s
            (t.setPch c { p with st := .open_ }).bump .hbmRetrain c
          else (s.setPch c { p with st := .draining }).condition 0x0903 c true
        let s := if p.drainAfter then s.drainPch c else s
        s.startDrain i)

/-! ## Self-refresh (09 R309, R310) -/

/-- A stack is idle (09 R309). -/
def State.stackIdle (s : State) (i : Nat) : Bool :=
  ((stackPchs i).all fun c => (s.pch c).quiet) && s.buffers.writeBehind.all fun e => e.1 / 64 ≠ i

/-- SELF_REFRESH_ENTRY (09 R309, R311). -/
def execSelfRefreshEntry (stack : Fin 8) (s : State) : Host.Outcome State Fault Refusal :=
  let i := stack.val
  let v := s.stack i
  onUnit (decide (i < s.variant.hbmStacks)) (
    if s.hbm.srIdle = 0 ∨ ¬ v.active ∨ v.asleep ∨ ¬ s.stackIdle i ∨ s.up < v.idleSince + s.hbm.srIdle ∨
        (stackPchs i).any fun c => (s.pch c).st = .offline then s
    else
      let s := (stackPchs i).foldl (fun s c => s.issueNbr c fun _ => true) s
      (s.setStack i { v with asleep := true, asleepAt := s.up }).bump .hbmSrEntries i)

/-- SELF_REFRESH_EXIT (09 R310): a queued request wakes its stack; the time asleep and the time the oldest request
waited are counted. -/
def execSelfRefreshExit (stack : Fin 8) (s : State) : Host.Outcome State Fault Refusal :=
  let i := stack.val
  let v := s.stack i
  let reqs := (stackPchs i).flatMap fun c => (s.pch c).queued
  onUnit (decide (i < s.variant.hbmStacks)) (match reqs with
    | [] => s
    | r :: rs =>
      if ¬ v.asleep then s
      else
        let oldest := rs.foldl (fun n q => min n q.at_) r.at_
        ((s.setStack i { v with asleep := false, idleSince := s.up }).bump .hbmSrNs i 0 1 (s.up - v.asleepAt)).bump
          .hbmSrExitNs i 0 1 (s.up - oldest))

/-! ## Draining and disabling (09 R305, R312) -/

/-- A pseudo-channel holds a buffer in use. -/
def State.pchInUse (s : State) (c : Nat) : Bool := s.buffers.owners.any fun e => match e.1 with
  | .deep d _ _ => decide (d.val = c)
  | .shallow .. => false

/-- A DRAINING pseudo-channel has drained: no buffer in it is in use, and every request for it has been served, for none
is ever discarded (09 R296, R305). -/
def State.pchDrained (s : State) (c : Nat) : Bool :=
  decide ((s.pch c).st = .draining) && !s.pchInUse c && (s.pch c).quiet && s.buffers.writeBehind.all fun e => e.1 ≠ c

/-- PCH_DRAINED (09 R305). -/
def execPchDrained (pchan : Fin 512) (s : State) : Host.Outcome State Fault Refusal :=
  let c := pchan.val
  onUnit (decide (c < 64 * s.variant.hbmStacks)) (
    if s.pchDrained c then s.setPch c { s.pch c with st := .failed, rows := [] } else s)

/-- Bring the deep meter up to now, before its rate changes (06 R211). -/
def State.syncDeep (s : State) : State :=
  { s with buffers := { s.buffers with deepMeter := s.deepMeter, deepAt := s.up } }

/-- A pseudo-channel of a stack that powers off: FAILED, its rows and refreshes gone with the power (09 R305, R312). -/
def Pch.off (v : Pch) : Pch := { lfsr := v.lfsr, seq := v.seq, st := .failed }

/-- STACK_DRAIN_COMPLETE (09 R305, R312): every pseudo-channel has drained or had FAILED before. -/
def execStackDrainComplete (stack : Fin 8) (s : State) : Host.Outcome State Fault Refusal :=
  let i := stack.val
  let v := s.stack i
  let done (c : Nat) : Bool := s.pchDrained c || (decide ((s.pch c).st = .failed) && !s.pchInUse c)
  onUnit (decide (i < s.variant.hbmStacks)) (
    if ¬ v.draining ∨ v.window ≠ none ∨ ¬ (stackPchs i).all done then s
    else
      let s := (stackPchs i).foldl (fun s c => s.setPch c (s.pch c).off) s
      let s := s.setStack i { v with active := false, asleep := false, draining := false, disable := none }
      (s.askDomain (89 + i) false).release? v.disable)

/-! ## Letters (10 catalogue 0x0E) -/

/-- HBM.SET_PANIC (09 R299). -/
def execHbmSetPanic (l : LetterId) (panicNs : W64) (s : State) : Host.Outcome State Fault Refusal :=
  .next (runLetter l 0x0E01 [p8 panicNs] (fun _ =>
    let q := clampU 64 panicNs.toNat 200 5000 (some s.hbm.panicNs)
    accept { s with hbm := { s.hbm with panicNs := q.v } } (layBody [n8 q.v]) (firstClamp [(0, q.c)])) s)

/-- HBM.SET_NEIGHBOUR (09 R301). -/
def execHbmSetNeighbour (l : LetterId) (n : W32) (s : State) : Host.Outcome State Fault Refusal :=
  .next (runLetter l 0x0E02 [p4 n] (fun _ =>
    let q := clampU 32 n.toNat 8 16 (some s.hbm.nbrN)
    accept { s with hbm := { s.hbm with nbrN := q.v } } (layBody [n4 q.v]) (firstClamp [(0, q.c)])) s)

/-- HBM.SET_RETRAIN (09 R306). -/
def execHbmSetRetrain (l : LetterId) (period : W64) (s : State) : Host.Outcome State Fault Refusal :=
  .next (runLetter l 0x0E03 [p8 period] (fun _ =>
    let q := clampU 64 period.toNat 10000000 60000000000 (some s.hbm.retrainPeriod)
    accept { s with hbm := { s.hbm with retrainPeriod := q.v } } (layBody [n8 q.v]) (firstClamp [(0, q.c)])) s)

/-- HBM.RETRAIN_NOW (09 R305, R306, R311): an OPEN pseudo-channel goes first in the next turn, a FAILED one of an enabled
stack trains again. -/
def execHbmRetrainNow (l : LetterId) (pchan : W32) (s : State) : Host.Outcome State Fault Refusal :=
  .next (runLetter l 0x0E04 [p4 pchan] (fun _ =>
    let c := pchan.toNat
    let v := s.pch c
    checked [malformed (decide (511 < c)) 0, noObj (decide (64 * s.variant.hbmStacks ≤ c)) 0,
      busy (!(v.st = .open_ || (v.st = .failed && (s.stack (c / 64)).enabled))) 0] fun _ =>
    accept (if v.st = .open_ then s.setPch c { v with first := true }
      else (s.setPch c { v with st := .training, retrainNow := true }).clearFault 0x0903 c) (layBody [p4 pchan])) s)

/-- HBM.SET_SELF_REFRESH (09 R309). -/
def execHbmSetSelfRefresh (l : LetterId) (srIdle : W64) (s : State) : Host.Outcome State Fault Refusal :=
  .next (runLetter l 0x0E05 [p8 srIdle] (fun _ =>
    let q := clampU0 64 srIdle.toNat 500 1000000 (some s.hbm.srIdle)
    accept { s with hbm := { s.hbm with srIdle := q.v } } (layBody [n8 q.v]) (firstClamp [(0, q.c)])) s)

/-- HBM.DISABLE_STACK (09 R312): the receipt waits for the drain. -/
def execHbmDisableStack (l : LetterId) (stack : W32) (s : State) : Host.Outcome State Fault Refusal :=
  .next (runLetter l 0x0E06 [p4 stack] (fun _ =>
    let i := stack.toNat
    let v := s.stack i
    checked [malformed (decide (7 < i)) 0, noObj (decide (s.variant.hbmStacks ≤ i)) 0, busy v.draining 0] fun _ =>
    if ¬ v.enabled then accept s (layBody [p4 stack])
    else acceptWait ((s.syncDeep.setStack i { v with enabled := false, draining := true, disable := some l }).startDrain i)
      (layBody [p4 stack])) s)

/-- HBM.ENABLE_STACK (09 R312; 16 R458): a disabled or failed stack powers up and trains. -/
def execHbmEnableStack (l : LetterId) (stack : W32) (s : State) : Host.Outcome State Fault Refusal :=
  .next (runLetter l 0x0E07 [p4 stack] (fun _ =>
    let i := stack.toNat
    let v := s.stack i
    checked [malformed (decide (7 < i)) 0, noObj (decide (s.variant.hbmStacks ≤ i)) 0, busy v.draining 0] fun _ =>
    let t := s.syncDeep.setStack i { v with enabled := true }
    let t := if v.enabled ∧ s.domain (89 + i) then t
      else ((stackPchs i).foldl (fun t c => (t.setPch c { t.pch c with st := .training }).clearFault 0x0903 c) t).askDomain
        (89 + i) true
    accept t (layBody [p4 stack])) s)

/-- A lane's eye record (09 R314). -/
def Lane.eye (v : Lane) : Nat :=
  v.rdLeft * 2 ^ 57 + v.rdRight * 2 ^ 50 + v.wrLeft * 2 ^ 43 + v.wrRight * 2 ^ 36 + v.rdCentre * 2 ^ 29 +
    v.wrCentre * 2 ^ 22 + v.vref * 2 ^ 16 + v.spare * 2 ^ 12 + v.source * 2 ^ 10

/-- HBM.READ_EYES (09 R314): 256 records, written to `result`; the stacks belong to slice 0. -/
def execHbmReadEyes (l : LetterId) (stack : W32) (result : W64) (busOk : Bool) (s : State) :
    Host.Outcome State Fault Refusal :=
  .next (runLetter l 0x0E08 [p4 stack, p8 result] (fun c =>
    let i := stack.toNat
    checked [malformed (decide (7 < i)) 0, noObj (decide (s.variant.hbmStacks ≤ i) || decide (c.sl ≠ 0)) 0] fun _ =>
    let bytes := (List.range 256).flatMap fun j => leBytes (nget {} s.hbm.lanes (256 * i + j)).eye 8
    withResult c result bytes busOk s fun s => accept s []) s)

end Sys2Proof.Machine
end

