-- ==== Sys2Proof/Machine/PmOps.lean ====
section
/-!
DEFINITION. PmOps.lean: what the role arbiter does: qualifying, fencing, restarting and granting, with the claims that
return to UNSEEN and the receipts sent again at a grant, and a postmaster's settings (13 R393-R410; 14 R430).
-/

namespace Sys2Proof

/-- The migration section of an image converts a record's body from one settings version to another; its format is the
image's own (14 R416, R430). -/
opaque Config.migrateSettings : Nat → Nat → Machine.Settings → Machine.Settings

namespace Machine

/-- Power domain of a postmaster (16 R456). -/
def pmDomain (p : Pm) : Nat := 146 + pmIdx p

/-- Change a postmaster's record. -/
def State.modPost (s : State) (p : Pm) (f : Postmaster → Postmaster) : State := s.setPost p (f (s.post p))

/-- A postmaster qualifies for a grant (13 R394). -/
def State.qualifies (s : State) (p : Pm) : Bool :=
  let v := s.post p
  v.role = .standby && v.synced && v.selftestOk && match v.healthAt with
    | some t => decide (s.up ≤ t + 5000000)
    | none => false

/-- Bank of part 0 that a restarted postmaster boots: the active bank, or during step 1 of a roll-out the new one
(13 R406; 14 R424). -/
def State.bootBank (s : State) : Bool :=
  if s.images.act.st = .rolling ∧ s.images.act.step = 1 then !s.activeBank 0 else s.activeBank 0

/-- Restart a postmaster from a bank of part 0 (13 R393, R406). -/
def State.restartPm (s : State) (p : Pm) (bankB : Bool) : State :=
  (s.modPost p fun v => { v with
    role := .booting, synced := false, selftestOk := false, cycles := 0#32, items := [], itemFailed := false
    busErrors := 0, ackSince := none, healthAt := none, needsSettings := false
    bankB := bankB, restartAt := s.up }).askDomain (pmDomain p) true

/-- Fence a postmaster: its power domain goes off, so nothing of it completes any more (13 R397). -/
def State.fencePm (s : State) (p : Pm) (role : Role) : State :=
  let s := { s with power := { s.power with requests := s.power.requests.filter fun r => r.1 ≠ pmDomain p } }
  (s.setDomain (pmDomain p) false).modPost p fun v => { v with role := role, synced := false, ackSince := none }

/-! ## Claims and receipts at a grant (13 R399-R401) -/

/-- Insert an index in the order of a ring, before the letters not yet taken. -/
def insertIndex (taken i : W32) : List W32 → List W32
  | [] => [i]
  | x :: xs => if (i - taken).toNat < (x - taken).toNat then i :: x :: xs else x :: insertIndex taken i xs

/-- A claim returns to UNSEEN: a ring's letter is taken again from its index, an in-band letter is gone (13 R399,
R400). -/
def State.unclaim (s : State) (sl seq : Nat) (e : Entry) : State :=
  let d := s.ledger sl
  let s := s.setLedger sl { d with entries := nerase seq d.entries }
  match e.via with
  | .ring r => let g := s.ring sl r; s.setRing sl r { g with retake := insertIndex g.taken e.index g.retake }
  | .inband .. => s

/-- Every claim of a postmaster other than the new active returns to UNSEEN (13 R399). -/
def State.unclaimAll (s : State) (p : Pm) : State :=
  s.letters.ledgers.foldl (fun s x =>
    (x.2.entries.filter fun e => e.2.st = .claimed ∧ e.2.pm ≠ p).foldl (fun s e => s.unclaim x.1 e.1 e.2) s) s

/-- Send a stored receipt again, with `dup` and an empty applied block (13 R401). One that waits for a slot keeps its
place. -/
def State.resendOne (s : State) (sl : Nat) (e : Entry) : State :=
  let r : Receipt := { e.receipt with dup := true, applied := [] }
  let s := s.bump .pmDupReceipts sl
  match e.via with
  | .ring i =>
    let g := s.ring sl i
    if g.ready.any fun x => x.1.seq = r.seq then
      s.setRing sl i { g with ready := g.ready.map fun x => if x.1.seq = r.seq then (r, x.2) else x }
    else s.pushReceipt sl e.via r false
  | .inband .. =>
    let mine (x : Receipt) : Bool := decide (x.seq = r.seq ∧ x.slice = r.slice)
    let s := { s with
      letters := { s.letters with
        replies := nset [] sl ((nget [] s.letters.replies sl).filter fun x => !mine x.2.1) s.letters.replies }
      mgmt := { s.mgmt with waiting :=
        ((s.mgmt.waiting.map fun (w : Ip × Via × List Receipt) => (w.1, w.2.1, w.2.2.filter fun x => !mine x)).filter (fun w => !w.2.2.isEmpty)) } }
    s.pushReceipt sl e.via r false

/-- Send every stored receipt whose delivery is not confirmed (13 R401). -/
def State.resendAll (s : State) : State :=
  s.letters.ledgers.foldl (fun s x =>
    (x.2.entries.filter fun e => e.2.st = .done ∧ ¬ e.2.delivered).foldl (fun s e => s.resendOne x.1 e.2) s) s

/-! ## Settings of a postmaster (14 R430) -/

/-- The record a postmaster of an image bank takes: its body, and whether it was migrated; none for the defaults. -/
def State.takeSettings (s : State) (bankB : Bool) : Option (Settings × Bool) :=
  let own := (s.settingsVersion bankB).toNat
  let rs := s.validRecords
  match newestRecord (rs.filter fun r => r.version.toNat = own) with
  | some r => some (r.body, false)
  | none =>
    (newestRecord (rs.filter fun r => s.settingsMin bankB ≤ r.version.toNat ∧ r.version.toNat ≤ own)).map fun r =>
      (Config.migrateSettings r.version.toNat own r.body, true)

/-- An active postmaster that migrated writes the result at once (14 R430). -/
def State.writeMigrated (s : State) : State :=
  match s.takeSettings s.activeImage with
  | some (body, true) => s.saveBody none body true
  | _ => s

/-- Until the manager sets a compatibility window, the one of the record that the active postmaster takes applies, else
every version (02 R77; 14 R430). -/
def State.takeCompat (s : State) : State :=
  if s.epoch.compatSet then s
  else
    let w := ((s.takeSettings s.activeImage).bind (·.1.compat)).getD (0#32, 0xFFFFFFFF#32)
    State.updateMap { s with epoch := { s.epoch with compatLow := w.1, compatHigh := w.2 } }

/-- No record can be taken: defaults, `FLT_SETTINGS_DEFAULTS` (14 R430). -/
def State.checkDefaults (s : State) (bankB : Bool) : State :=
  if (s.takeSettings bankB).isNone then s.raise 0x0E04 noObject else s

/-! ## Grants and headless state (13 R394, R397, R409, R410) -/

/-- Insert a record number in rising order. -/
def insertRecord (n : W32) : List W32 → List W32
  | [] => [n]
  | x :: xs => if n.toNat < x.toNat then n :: x :: xs else x :: insertRecord n xs

/-- Headless state ends: the time is counted, the waiting events go out in record-number order, the condition clears
(13 R409, R410, R411; 17 R485). -/
def State.leaveHeadless (s : State) : State :=
  match s.pm.headlessSince with
  | none => s
  | some t =>
    let waiting := s.faults.waiting.foldl (fun l n => insertRecord n l) []
    let s := { s with
      pm := { s.pm with headlessSince := none }
      faults := { s.faults with waiting := [], waitingLost := false } }
    let s := waiting.foldl (fun s n => match s.fault? n with | some r => s.sendFault r | none => s) s
    (s.bump .pmHeadlessNs 0 0 1 (s.up - t)).clearFault 0x0D05 noObject

/-- The arbiter grants the active role to a postmaster; `old` is the former active of a grant that opens a dual-active
window (13 R394, R397, R399, R401). -/
def State.grant (s : State) (p : Pm) (old : Option Pm) : State :=
  let idle := s.pm.active.isNone
  let s := if idle then { s with time := { s.time with bound := s.boundNow, boundAt := s.up } } else s
  let s := { s with pm := { s.pm with
    active := some p, term := s.pm.term + 1#24, beat := s.up
    window := match old with
      | some o => some (o, s.up)
      | none => s.pm.window
    planned := s.pm.planned && old.isNone, handedOver := false } }
  let s := s.modPost p fun v => { v with role := .active, ackSince := none }
  let s := (s.unclaimAll p).resendAll.leaveHeadless
  let s := if idle then s.servoStarts else s
  let s := if s.power.stage = .build then { s with power := { s.power with stage := .apply } } else s.takeCompat
  s.writeMigrated

/-- No postmaster is active any more. After start-up the module is headless; before READY, start-up waits in BUILD for
another grant (13 R396, R409). A dual-active window that stands open still closes at its own instant (13 R397). -/
def State.goHeadless (s : State) : State :=
  let s := s.servoStops
  let s := { s with pm := { s.pm with active := none, planned := false, handedOver := false, resetPhase := 0 } }
  if s.ready then
    ({ s with pm := { s.pm with headlessSince := some s.up } } : State).condition 0x0D05 noObject true
  else if s.power.stage = .apply then { s with power := { s.power with stage := .build } } else s

/-- The active lapsed or gave up while the other qualifies: the other is granted, with a dual-active window, and
`FLT_PM_TAKEOVER` is raised (13 R396, R397). -/
def State.takeOver (s : State) (old : Pm) : State :=
  let s := { s with pm := { s.pm with resetPhase := 0, planned := false } }
  let s := (s.grant (pmOther old) (some old)).bump .pmTakeovers
  s.raise 0x0D01 (pmIdx old) (s.post old).failCode.toNat s.pm.term.toNat

/-- The dual-active window closes: the old active is fenced, and the new one, where it is still active, sends receipts
again (13 R397, R401). One that gave up is FAILED; one that lapsed is OFF (notes/assumptions/160.md). -/
def State.closeWindow (s : State) (old : Pm) (stopped : Bool) : State :=
  let role := if stopped ∧ (s.post old).failCode ≠ 7#8 then .failed else .off
  let s := s.fencePm old role
  let s := { s with pm := { s.pm with window := none } }
  if s.pm.active.isSome then s.resendAll else s

end Machine

end Sys2Proof
end

