-- ==== Sys2Proof/Machine/PowerOps.lean ====
section
/-!
DEFINITION. PowerOps.lean: temperatures, throttling, `ALERT_N` and the housekeeping controller (16 R460-R464).
-/

namespace Sys2Proof.Machine

/-- Hottest junction: the highest reading of the dies, stacks and postmasters (16 R460). -/
def State.hottest (s : State) : Nat := s.power.temps.foldl (fun m e => max m e.2) 0
/-- Hottest junction of the dies. -/
def State.hottestDie (s : State) : Nat := max (nget 0 s.power.temps 0) (nget 0 s.power.temps 1)
/-- Hottest HBM stack. -/
def State.hottestStack (s : State) : Nat := (List.range 8).foldl (fun m i => max m (nget 0 s.power.temps (2 + i))) 0

/-- The module is throttled (16 R461). -/
def State.throttled (s : State) : Bool := s.power.thrPin || s.power.thrTemp || s.power.thrCap

/-- `flags` of `POWER.READ` (16 R464). -/
def State.powerFlags (s : State) : Nat :=
  b2n s.throttled + 2 * b2n s.power.thrPin + 4 * b2n s.power.thrTemp + 8 * b2n s.power.thrCap +
  16 * b2n (decide (s.power.vin < s.power.inputLow)) + 32 * b2n (decide (s.power.inputHigh < s.power.vin))

/-- `ALERT_N` is asserted for a cause of R460, of 13 R409 or of R473. -/
def State.alertCause (s : State) : Bool :=
  decide (s.power.vin < s.power.inputLow) || decide (s.power.inputHigh < s.power.vin) ||
  decide (s.power.tempAlert < s.hottest) || s.throttled || s.faultAlert || s.headless || decide (s.power.stage = .failed)

/-- `ALERT_N`, which holds its state while the housekeeping controller moves to a new image (14 R424). -/
def State.alertN (s : State) : Bool := s.power.alertHold.getD s.alertCause

/-- Step 2 or 3 of a roll-out restarts the housekeeping or power controller (14 R424). -/
def State.movingStep (s : State) (n : Nat) : Bool :=
  (s.images.act.st = .rolling || s.images.act.st = .rollingBack) && decide (s.images.act.step = n)

/-- The housekeeping controller answers on PMBus and I2C (16 R463, R470; 14 R424). -/
def State.hkAnswers (s : State) : Bool :=
  s.power.hkUp && decide (s.power.hkAt + 100000000 ≤ s.up) && !s.movingStep 2

/-- The throttle fault with its cause bits (16 R461; 17 R486). -/
def State.throttleFault (s : State) : State := s.soleCondition 0x1004 (s.powerFlags % 16) s.throttled

end Sys2Proof.Machine
end

