-- ==== Sys2Proof/Machine/Store.lean ====
section
/-!
DEFINITION. Store.lean: the STORE letters (04 R127-R150; 10 R344, R520).
-/

namespace Sys2Proof.Machine

/-- Benches of a mask. -/
def benchList (m : W32) : List Nat := maskBits m.toNat 32
/-- A mask names a bench that the variant lacks (10 R336 step 7). -/
def noBench (s : State) (m : W32) (param : Nat := 0) : Bool × Reject :=
  noObj ((benchList m).any fun b => decide (s.variant.benches ≤ b)) param
/-- A named bench's page takes no writes (02 R53). -/
def pageFixed (s : State) (m : W32) : Bool × Reject := busy ((benchList m).any fun b => (s.bench b).page.state.fixed) 0
/-- Step 5 of an activation is ARMED or running (14 R427). -/
def State.benchesMoving (s : State) : Bool :=
  let a := s.images.act
  (a.parts.getLsbD 1 || a.parts.getLsbD 2) && (a.st = .armed || a.st = .rolling || a.st = .rollingBack)

/-- STORE.SET_MODE (04 R147). -/
def execStoreSetMode (l : LetterId) (mode : W32) (s : State) : Host.Outcome State Fault Refusal :=
  .next (runLetter l 0x0601 [p4 mode] (fun _ =>
    checked [malformed (decide (1 < mode.toNat)) 0, busy s.benchesMoving] fun _ =>
    accept { s with clerks := { s.clerks with modeP := mode = 1#32 } } (layBody [p4 mode])) s)

/-- A store write (04 R127, R129; 10 R520): the words are written as they are read. When the read fails, a free value
says whether some had been written; the pages are then LOADING. -/
def storeWrite {α : Type} (s : State) (benches : W32) (l : ListArg α) (body : List Byte)
    (write : State → Nat → List α → State) : Verdict :=
  let bs := benchList benches
  match l.items with
  | some ws => acceptStaged (bs.foldl (fun s b => write (s.openPage b s.clerks.modeP) b ws) s) body
  | none =>
    let (x, s) := s.free
    let part := x.getLsbD 0
    .partFault 4 l.addr part (if part then bs.foldl (fun s b => s.openPage b s.clerks.modeP) s else s)

/-- STORE.WRITE_MICRO (04 R127). -/
def execStoreWriteMicro (l : LetterId) (benches start : W32) (words : ListArg W32) (s : State) :
    Host.Outcome State Fault Refusal :=
  let ps := [p4 benches, p4 start, pL words]
  .next (runLetter l 0x0602 ps (fun _ =>
    let a := start.toNat
    checked [malformed (decide (a < 0x40 ∨ 0xFFFF < a)) 1,
      malformed (decide (words.count.toNat = 0 ∨ 0x10000 < a + words.count.toNat)) 2,
      noBench s benches, pageFixed s benches, notPermitted s.clerks.modeP 0] fun _ =>
    storeWrite s benches words (layBody ps) fun s b ws => s.stageMicro b a ws) s)

/-- STORE.WRITE_NANO (04 R129). -/
def execStoreWriteNano (l : LetterId) (benches start : W32) (words : ListArg (BitVec 256)) (s : State) :
    Host.Outcome State Fault Refusal :=
  let ps := [p4 benches, p4 start, pL words]
  .next (runLetter l 0x0603 ps (fun _ =>
    let a := start.toNat
    checked [malformed (decide (a = 0 ∨ 0x3FFF < a)) 1,
      malformed (decide (words.count.toNat = 0 ∨ 0x4000 < a + words.count.toNat)) 2,
      noBench s benches, pageFixed s benches, notPermitted s.clerks.modeP 0] fun _ =>
    storeWrite s benches words (layBody ps) fun s b ws => s.stageNano b a ws) s)

/-- STORE.WRITE_PATCH (04 R143, R144). -/
def execStoreWritePatch (l : LetterId) (benches : W32) (micro : ListArg W32) (nano : ListArg (BitVec 256))
    (matchRegs : ListArg W32) (level : W32) (s : State) : Host.Outcome State Fault Refusal :=
  let ps := [p4 benches, pL micro, pL nano, pL matchRegs, p4 level]
  .next (runLetter l 0x0604 ps (fun _ =>
    checked [malformed (decide (1024 < micro.count.toNat)) 1, malformed (decide (512 < nano.count.toNat)) 2,
      malformed (decide (matchRegs.count.toNat ≠ 64)) 3, malformed (decide (255 < level.toNat)) 4,
      noBench s benches, pageFixed s benches, notPermitted (!s.clerks.modeP) 0] fun _ =>
    withList micro fun m => withList nano fun n => withList matchRegs fun r =>
    acceptStaged ((benchList benches).foldl (fun s b => s.stagePatch b m n r level.toNat) s) (layBody ps)) s)

/-- STORE.STAGE_IMAGE (04 R147; 14 R416, R427). -/
def execStoreStageImage (l : LetterId) (benches bank : W32) (s : State) : Host.Outcome State Fault Refusal :=
  let ps := [p4 benches, p4 bank]
  .next (runLetter l 0x0605 ps (fun _ =>
    let b := decide (bank = 1#32)
    let st := s.bankState (if s.clerks.modeP then 2 else 1) b
    checked [malformed (decide (1 < bank.toNat)) 1, noBench s benches, busy s.benchesMoving, pageFixed s benches,
      busy (st = .empty || st = .writing || st = .corrupt) 1] fun _ =>
    acceptStaged ((benchList benches).foldl (fun s i => s.stageImage i s.clerks.modeP b) s) (layBody ps)) s)

/-- STORE.SEAL (04 R144, R145). -/
def execStoreSeal (l : LetterId) (benches version : W32) (s : State) : Host.Outcome State Fault Refusal :=
  let ps := [p4 benches, p4 version]
  .next (runLetter l 0x0606 ps (fun _ =>
    let bs := benchList benches
    checked [malformed (bs.any fun b => (s.bench b).stagedP && s.twoMatch b) 0, noBench s benches,
      busy (bs.any fun b => (s.bench b).page.state ≠ .loading && (s.bench b).page.state ≠ .loaded) 0] fun _ =>
    accept (bs.foldl (fun s b => s.sealPage b version) s) (layBody ps)) s)

/-- Arm the named benches at T + k × S; a T of zero is at once for the first and T = now for the others (04 R148;
02 R54). -/
def State.armBenches (s : State) (bs : List Nat) (t spacing : Nat) : State :=
  let base := if t = 0 then s.units else t
  ((List.range bs.length).zip bs).foldl (fun s x =>
    let v := s.bench x.2
    let at_ := if t = 0 ∧ x.1 = 0 then 0 else base + x.1 * spacing * 65536
    s.setBench x.2 { v with page := { state := .armed, t := at_ } }) s

/-- STORE.SCHEDULE_LOAD (04 R148; 02 R54, R55). -/
def execStoreScheduleLoad (l : LetterId) (benches : W32) (t : TimeParam) (spacing : W64) (s : State) :
    Host.Outcome State Fault Refusal :=
  .next (runLetter l 0x0607 [p4 benches, pT t, p8 spacing] (fun _ =>
    let bs := benchList benches
    let sp := clampU 64 spacing.toNat 200000 100000000 (some 1000000)
    checked ([malformed (badTime t) 1, noBench s benches, busy s.benchesMoving,
      busy (bs.any fun b => (s.bench b).page.state ≠ .loaded) 0] ++ timeChecks s t 1 ++
      [(bs.any fun b => !s.compatible (s.bench b).stagedVersion.toNat (s.bench b).stagedVersion.toNat,
        ⟨.versionMismatch, 0, 0⟩)]) fun _ =>
    acceptScheduled (s.armBenches bs (schedT t) sp.v) (layBody [p4 benches, pT t, n8 sp.v]) (firstClamp [(2, sp.c)])) s)

/-- STORE.CANCEL_LOAD (02 R53): an armed or deferred page goes to LOADED; a bench that has begun to drain for its load
is past cancelling. -/
def execStoreCancelLoad (l : LetterId) (benches : W32) (s : State) : Host.Outcome State Fault Refusal :=
  .next (runLetter l 0x0608 [p4 benches] (fun _ =>
    let bs := benchList benches
    checked [noBench s benches, busy (bs.any fun b =>
      let v := s.bench b
      !v.page.state.fixed || ((v.st = .draining || v.st = .reloading) && v.drain = .load)) 0] fun _ =>
    accept (bs.foldl (fun s b =>
      let v := s.bench b
      (s.setBench b { v with page := v.page.cancel, st := if v.st = .waiting ∧ v.drain = .load then .live else v.st }).clearFault 0x0203
        (pageObject 4 b)) s) (layBody [p4 benches])) s)

/-- STORE.ENABLE_BENCH (04 R150): the bench powers up and its content is written and checked; an enabled bench stays as
it is. -/
def execStoreEnableBench (l : LetterId) (bench : W32) (s : State) : Host.Outcome State Fault Refusal :=
  .next (runLetter l 0x0609 [p4 bench] (fun _ =>
    let b := bench.toNat
    let v := s.bench b
    checked [noObj (decide (s.variant.benches ≤ b)) 0, busy (v.st = .draining && v.drain = .disable) 0] fun _ =>
    accept (if v.enabled && v.st ≠ .off then s
      else
        let s := if v.rollout then s.bootContent b v.modeP else s
        (s.setBench b { s.bench b with enabled := true, st := .checking, drain := .powerUp }).askDomain (benchDomain b) true)
      (layBody [p4 bench])) s)

/-- STORE.DISABLE_BENCH (04 R150): the receipt waits for the drain. -/
def execStoreDisableBench (l : LetterId) (bench : W32) (s : State) : Host.Outcome State Fault Refusal :=
  .next (runLetter l 0x060A [p4 bench] (fun c =>
    let b := bench.toNat
    let v := s.bench b
    let others := (List.range s.variant.benches).any fun i => i ≠ b && (s.bench i).live
    checked [noObj (decide (s.variant.benches ≤ b)) 0, busy (!v.live && v.st ≠ .off) 0,
      notPermitted (v.live && !others) 0] fun _ =>
    if v.st = .off then accept (s.setBench b { v with enabled := false }) (layBody [p4 bench])
    else acceptWait (State.drainBench (s.setBench b { v with enabled := false, letter := some c.l }) b .disable)
      (layBody [p4 bench])) s)

/-- STORE.SET_BUDGET (04 R139). -/
def execStoreSetBudget (l : LetterId) (budget : W32) (s : State) : Host.Outcome State Fault Refusal :=
  .next (runLetter l 0x060B [p4 budget] (fun _ =>
    let q := clampU 32 budget.toNat 256 16384 (some s.clerks.budget)
    accept { s with clerks := { s.clerks with budget := q.v } } (layBody [n4 q.v]) (firstClamp [(0, q.c)])) s)

/-- STORE.WRITE_LOCAL (04 R135, R136): whole between two issues of each clerk; the trap frames' area takes no writes. -/
def execStoreWriteLocal (l : LetterId) (clerk offset : W32) (size : W64) (data : BitVec 512) (s : State) :
    Host.Outcome State Fault Refusal :=
  .next (runLetter l 0x060C [p4 clerk, p4 offset, p8 size, pLe data.toNat 64] (fun _ =>
    let c := clerk.toNat
    let n := 16 * s.variant.benches
    let q := clampU 64 size.toNat 1 64 none
    checked [malformed (decide (512 < c)) 0, malformed (decide (0x18000 ≤ offset.toNat)) 1, noKeep q 2,
      malformed (decide (0x18000 < offset.toNat + q.v)) 1, noObj (decide (n ≤ c ∧ c ≠ 512)) 0] fun _ =>
    let cs := if c = 512 then List.range n else [c]
    let bytes := leBytes data.toNat q.v
    let mem := cs.foldl (fun m i => Memory.writeBytes (98304 * i + offset.toNat) bytes m) s.clerks.localMem
    accept { s with clerks := { s.clerks with localMem := mem } }
      (layBody [p4 clerk, p4 offset, n8 q.v, pLe data.toNat 64]) (firstClamp [(2, q.c)])) s)

end Sys2Proof.Machine
end

