-- ==== Sys2Proof/Machine/Rollout.lean ====
section
/-!
DEFINITION. Rollout.lean: the steps of an image activation and its roll-back (14 R424-R427).
-/

namespace Sys2Proof.Machine

/-- Change the activation. -/
def State.modAct (s : State) (f : Activation → Activation) : State :=
  { s with images := { s.images with act := f s.images.act } }

/-- Part that a step moves (14 R424). -/
def stepPart (parts : BitVec 6) (step : Nat) : Option Nat :=
  let p := if step = 1 then 0 else if step = 2 then 5 else if step = 3 then 4 else if step = 4 then 3
    else if parts.getLsbD 1 then 1 else 2
  if parts.getLsbD p then some p else none

/-- Write the state of a bank. -/
def State.setBankState (s : State) (part : Nat) (b : Bool) (st : BankState) : State :=
  s.setBank part b { s.bank part b with st := st }

/-- The banks that an activation moves the named parts onto take a state. -/
def State.newBanks (s : State) (parts : BitVec 6) (st : BankState) : State :=
  (maskBits parts.toNat 6).foldl (fun s p => s.setBankState p (!s.activeBank p) st) s

/-! ## How each part moves (14 R424) -/

/-- Step 1: the postmasters that do not run the bank restart from it, the active one after a planned handover. -/
def State.movePms (s : State) (bankB : Bool) : State :=
  match s.pm.active with
  | some p =>
    let o := pmOther p
    let v := s.post o
    let s := if v.bankB ≠ bankB ∨ v.role = .off ∨ v.role = .failed then s.restartPm o bankB else s
    { s with pm := { s.pm with planned := (s.post p).bankB ≠ bankB } }
  | none => [Pm.a, Pm.b].foldl (fun s p => if (s.post p).bankB ≠ bankB then s.restartPm p bankB else s) s

/-- Step 1 is complete: one postmaster is active and the other STANDBY, both from the bank. -/
def State.pmsMoved (s : State) (bankB : Bool) : Bool :=
  match s.pm.active with
  | some p => (s.post p).bankB == bankB && (s.post (pmOther p)).bankB == bankB &&
      decide ((s.post (pmOther p)).role = .standby) && !s.pm.planned
  | none => false

/-- A restarted postmaster has not reached STANDBY within 5 s, or its boot failed (14 R424). -/
def State.pmsLate (s : State) : Bool :=
  [Pm.a, Pm.b].any fun p =>
    let v := s.post p
    decide (s.pm.active ≠ some p) && decide (v.role ≠ .standby) &&
      (decide (v.restartAt + 5000000000 ≤ s.up) || decide (v.role = .failed))

/-- Step 5: the image of a bank is staged into a bench; a bank that holds none gives a store of zeros, or no patch
set. -/
def State.stageBank (s : State) (b : Nat) (modeP bankB : Bool) : State :=
  let s := s.setBench b { s.bench b with page := {} }
  let s := if (s.bank (if modeP then 2 else 1) bankB).holds then s.stageImage b modeP bankB
    else s.openPage b modeP
  s.sealPage b (s.bench b).stagedVersion

/-- Benches that a roll-out loads: the enabled ones that run. -/
def State.rolloutBenches (s : State) : List Nat :=
  (List.range s.variant.benches).filter fun b => (s.bench b).enabled && (s.bench b).st ≠ .off

/-- Step 5 begins: every enabled bench is staged and loads, 1 ms apart, the first at once. -/
def State.moveBenches (s : State) (modeP bankB : Bool) : State :=
  let bs := s.rolloutBenches
  let s := bs.foldl (fun s b =>
    let s := s.stageBank b modeP bankB
    s.setBench b { s.bench b with rollout := true }) s
  s.armBenches bs 0 1000000

/-- Step 5 returns: a bench that has not begun its load keeps its content, one that is loading loads the old content
instead, and one that was loaded is loaded again from the old bank. -/
def State.returnBenches (s : State) (modeP bankB : Bool) : State :=
  let bs := s.rolloutBenches
  let fresh := bs.filter fun b => (s.bench b).rollout && ((s.bench b).st = .live || (s.bench b).st = .waiting)
  let running := bs.filter fun b => (s.bench b).rollout && (s.bench b).st ≠ .live && (s.bench b).st ≠ .waiting
  let loaded := bs.filter fun b => !(s.bench b).rollout
  let s := fresh.foldl (fun s b =>
    let v := s.bench b
    (s.setBench b { v with page := v.page.cancel, st := .live, rollout := false }).clearFault 0x0203 (pageObject 4 b)) s
  let s := running.foldl (fun s b => s.stageBank b modeP bankB) s
  let s := loaded.foldl (fun s b =>
    let s := s.stageBank b modeP bankB
    s.setBench b { s.bench b with rollout := true }) s
  s.armBenches loaded 0 1000000

/-- No bench has a load of the step still to do; a bench that was disabled is passed over (14 R427). -/
def State.benchesMoved (s : State) : Bool := s.rolloutBenches.all fun b => !(s.bench b).rollout

/-- A load of the step failed: the bench is live with the page LOADED again (04 R149; 14 R424). -/
def State.benchFailed (s : State) : Bool :=
  s.rolloutBenches.any fun b =>
    let v := s.bench b
    v.rollout && decide (v.st = .live) && decide (v.page.state = .loaded)

/-! ## Moving on -/

/-- A step begins, toward the new banks or back. -/
def State.enterStep (s : State) (step part : Nat) (back : Bool) : State :=
  let bankB := if back then s.activeBank part else !s.activeBank part
  let s := s.modAct fun a => { a with
    step := step, since := s.up
    sub := if step = 4 ∧ back ∧ a.step ≠ 4 then 11 else if step = 4 ∧ back then a.sub else 0 }
  match step with
  | 1 => s.movePms bankB
  | 2 => { s with power := { s.power with alertHold := some s.alertN, hkAt := s.up } }
  | 3 => s
  | 4 => s
  | _ => if back then s.returnBenches (part == 2) bankB else s.moveBenches (part == 2) bankB

/-- The housekeeping controller runs again: what it held goes on. -/
def State.leaveStep (s : State) : State := { s with power := { s.power with alertHold := none } }

/-- The last step has ended (14 R413, R425): the older copy of the boot record is written with the next generation. -/
def State.finishRollout (s : State) : State :=
  let a := s.images.act
  let r := s.bootRecord
  let old := s.images
  let next : BootRecord := { generation := r.generation + 1#32, banks := r.banks ^^^ a.parts, valid := true }
  let first : Bool := !old.boot0.valid || (old.boot1.valid && seqNewer old.boot1.generation old.boot0.generation)
  let s := (maskBits a.parts.toNat 6).foldl (fun s p =>
    let b := s.activeBank p
    (s.setBankState p b .verified).setBankState p (!b) .active) s
  let s := if first then { s with images := { s.images with boot0 := next } }
    else { s with images := { s.images with boot1 := next } }
  (s.modAct fun a => { a with st := .done, moved := a.parts }).bump .imgActivations

/-- Begin the next named step from a number on, or end the roll-out. -/
def State.nextStep (s : State) (step : Nat) : State :=
  match [1, 2, 3, 4, 5].filterMap (fun k => if step ≤ k then (stepPart s.images.act.parts k).map fun p => (k, p) else none) with
  | (k, p) :: _ => s.enterStep k p false
  | [] => s.finishRollout

/-- Roll-out begins (14 R424): the named banks become ROLLING. -/
def State.startRollout (s : State) : State :=
  ((s.newBanks s.images.act.parts .rolling).modAct fun a => { a with st := .rolling, moved := 0#6 }).nextStep 1

/-- Return the next part already moved, from a step number down, or end the roll-back (14 R426). -/
def State.nextBack (s : State) (step : Nat) : State :=
  match [5, 4, 3, 2, 1].filterMap (fun k => if k ≤ step then (stepPart s.images.act.moved k).map fun p => (k, p) else none) with
  | (k, p) :: _ => s.enterStep k p true
  | [] => (s.newBanks s.images.act.parts .verified).modAct fun a => { a with st := .rolledBack }

/-- Roll back (14 R426): the part of the current step, then every part moved, in reverse order. -/
def State.rollBack (s : State) : State :=
  let k := s.images.act.step
  let s := (s.raise 0x0E02 k).bump .imgRollbacks
  let s := s.leaveStep.modAct fun a => { a with st := .rollingBack }
  match stepPart s.images.act.parts k with
  | some p => s.enterStep k p true
  | none => s.nextBack k

/-- Cancel an activation before T (14 R426): its banks return to VERIFIED. -/
def State.disarm (s : State) : State := (s.newBanks s.images.act.parts .verified).modAct fun _ => {}

/-- The postmaster runs the image that step 1 moves to, so its lapse or boot failure fails the step (14 R427). -/
def State.newImagePm (s : State) (p : Pm) : Bool :=
  s.images.act.st = .rolling && decide (s.images.act.step = 1) && (s.post p).bankB != s.activeBank 0

end Sys2Proof.Machine
end

