-- ==== Sys2Proof/Machine/Postmasters.lean ====
section
/-!
DEFINITION. Postmasters.lean: heartbeats, lapses, grants, the dual-active window, restarts, synchronisation, self-test
and health (13 R393-R410).
-/

namespace Sys2Proof.Machine

/-! ## Changes of role (13 R393-R397) -/

/-- HEARTBEAT (13 R395): the active postmaster's heartbeat reaches the arbiter. -/
def execHeartbeat (pm : Pm) (s : State) : Host.Outcome State Fault Refusal :=
  .next (if s.pm.active = some pm then { s with pm := { s.pm with beat := s.up } } else s)

/-- HEARTBEAT_LAPSE (13 R395-R397; 14 R427): 100 us without a heartbeat. The other postmaster takes over when it
qualifies; otherwise the lapsed one is fenced at once. A lapse of the new-image postmaster in step 1 rolls back. -/
def execHeartbeatLapse (s : State) : Host.Outcome State Fault Refusal :=
  .next (match s.pm.active with
    | none => s
    | some p =>
      if s.up < s.pm.beat + 100000 then s
      else
        let fails := s.newImagePm p
        let s := (s.modPost p fun v => { v with failCode := 7#8 }).bump .pmSelftestFail (pmIdx p) 7
        let s := if s.qualifies (pmOther p) then s.takeOver p else (s.fencePm p .off).goHeadless
        if fails then s.rollBack else s)

/-- ROLE_GRANT (13 R394, R396, R410): with no active postmaster, the arbiter grants to one that qualifies, at start-up
to A when both do; in a planned handover it grants once the former active has confirmed its stop, which then
restarts. -/
def execRoleGrant (pm : Pm) (s : State) : Host.Outcome State Fault Refusal :=
  .next (
    if ¬ s.qualifies pm then s
    else match s.pm.active with
      | none =>
        if s.ready then s.grant pm none
        else if s.power.stage = .build ∧ ¬ (pm = .b ∧ s.qualifies .a) then s.grant pm none
        else s
      | some p =>
        if p = pm ∨ ¬ s.pm.handedOver then s
        else
          let s := { s with pm := { s.pm with planned := false, resetPhase := 0 } }
          let s := ((s.grant pm none).checkDefaults (s.post pm).bankB).bump .pmHandovers
          s.restartPm p s.bootBank)

/-- STOP_CONFIRMATION (13 R396, R397): the old active of a window has stopped, so the window closes; or the active of a
planned handover has stopped because the other qualifies. -/
def execStopConfirmation (pm : Pm) (s : State) : Host.Outcome State Fault Refusal :=
  .next (match s.pm.window with
    | some (old, _) => if old = pm then s.closeWindow old true else s
    | none =>
      if s.pm.planned ∧ s.pm.active = some pm ∧ s.qualifies (pmOther pm) then
        { s with pm := { s.pm with handedOver := true } }
      else s)

/-- DUAL_ACTIVE_TIMEOUT (13 R397): grant + 250 us. -/
def execDualActiveTimeout (s : State) : Host.Outcome State Fault Refusal :=
  .next (match s.pm.window with
    | some (old, t) => if t + 250000 ≤ s.up then s.closeWindow old false else s
    | none => s)

/-- A letter of `MODULE.RESET` still waits for its receipt's DONE. -/
def State.resetUnanswered (s : State) : Bool :=
  (s.ledger 0).entries.any fun e => e.2.opcode = 0x0108#16 && e.2.st ≠ .done

/-- POSTMASTER_RESTART (13 R396, R406): a FAILED or fenced postmaster restarts, up to 3 times in an hour; then it stays
FAILED under `FLT_PM_RESTART_LIMIT`. `MODULE.RESET` kind 0 restarts the postmaster that is not active, without counting
it. -/
def execPostmasterRestart (pm : Pm) (s : State) : Host.Outcome State Fault Refusal :=
  let v := s.post pm
  .next (
    if ¬ s.powered then s
    else if s.pm.resetPhase = 1 ∧ s.pm.active.isSome ∧ s.pm.active ≠ some pm then
      if s.resetUnanswered ∨ s.pm.window.isSome then s
      else
        let s := { s with pm := { s.pm with resetPhase := 2, planned := true } }
        ((s.modPost pm fun v => { v with limited := false }).clearFault 0x0D04 (pmIdx pm)).restartPm pm s.bootBank
    else if (v.role ≠ .off ∧ v.role ≠ .failed) ∨ v.limited ∨ s.power.stage = .reset then s
    else
      let hour := v.restarts.filter fun t => s.up < t + 3600000000000
      if 3 ≤ hour.length then
        (s.setPost pm { v with role := .failed, limited := true, restarts := hour }).condition 0x0D04 (pmIdx pm) true
      else (s.setPost pm { v with restarts := hour ++ [s.up] }).restartPm pm s.bootBank)

/-- BOOT_SELFTEST_DONE (13 R393; 14 R427; 16 R471): a booting postmaster passes into SYNCING or is FAILED. The first
past its test at start-up goes on to take the settings. -/
def execBootSelftestDone (pm : Pm) (passed : Bool) (s : State) : Host.Outcome State Fault Refusal :=
  let v := s.post pm
  .next (
    if v.role ≠ .booting ∨ ¬ s.domain (pmDomain pm) then s
    else if ¬ passed then
      let t := s.setPost pm { v with role := .failed }
      if s.newImagePm pm then t.rollBack else t
    else if s.power.stage = .boot ∨ s.power.stage = .settings then
      let s := s.setPost pm { v with role := .syncing, selftestOk := true, needsSettings := true }
      { s with power := { s.power with stage := .settings } }
    else s.setPost pm { v with role := .syncing, selftestOk := true })

/-! ## The standby (13 R402, R403, R410) -/

/-- A syncing postmaster becomes STANDBY. -/
def State.becomeStandby (s : State) (pm : Pm) : State :=
  (s.modPost pm fun v => { v with role := .standby, synced := true, ackSince := none }).clearFault 0x0D02 (pmIdx pm)

/-- SYNC_COMPLETE (13 R403): the copy of the active's state is complete; when the CRCs differ it starts again. -/
def execSyncComplete (pm : Pm) (crcAgrees : Bool) (s : State) : Host.Outcome State Fault Refusal :=
  .next (if (s.post pm).role = .syncing ∧ s.pm.active = some (pmOther pm) ∧ crcAgrees then s.becomeStandby pm else s)

/-- HEADLESS_REBUILD (13 R410; 16 R471): with no active to sync from, the state copy is built from the units and the
settings store. -/
def execHeadlessRebuild (pm : Pm) (s : State) : Host.Outcome State Fault Refusal :=
  .next (if (s.post pm).role = .syncing ∧ s.pm.active = none ∧ (s.ready ∨ s.power.stage = .build) then
      s.becomeStandby pm
    else s)

/-- The standby's copy can no longer be trusted: it syncs again (13 R402, R405). -/
def State.unsync (s : State) (pm : Pm) : State :=
  s.modPost pm fun v => { v with role := .syncing, synced := false, ackSince := none }

/-- STANDBY_ACK_TIMEOUT (13 R402): a change has gone unacknowledged for 20 us. -/
def execStandbyAckTimeout (s : State) : Host.Outcome State Fault Refusal :=
  .next (match s.pm.active with
    | none => s
    | some p =>
      let o := pmOther p
      match (s.post o).ackSince with
      | some t => if (s.post o).role = .standby ∧ t + 20000 ≤ s.up then (s.unsync o).condition 0x0D02 (pmIdx o) true else s
      | none => s)

/-! ## Self-diagnosis (13 R404, R405) -/

/-- Code of a failure (13 R405). -/
def failNumber : FailCode → Nat
  | .sram => 1 | .core => 2 | .controlBus => 3 | .stateCopy => 4 | .flash => 5 | .arbiterPath => 6

/-- The active gives up if the other qualifies (13 R396, R405). -/
def State.giveUp (s : State) (pm : Pm) (otherwise : State → State) : State :=
  let fails := s.newImagePm pm
  if s.qualifies (pmOther pm) then
    let s := s.takeOver pm
    if fails then s.rollBack else s
  else otherwise s

/-- What a failure of a postmaster brings (13 R405). -/
def State.pmFail (s : State) (pm : Pm) (code : FailCode) : State :=
  let n := failNumber code
  let s := s.modPost pm fun v => { v with failCode := BitVec.ofNat 8 n }
  let s := (s.bump .pmSelftestFail (pmIdx pm) n).raise 0x0D03 (pmIdx pm) n
  match (s.post pm).role with
  | .active =>
    (match code with
     | .sram | .core => s.giveUp pm fun s => (s.modPost pm fun v => { v with role := .failed }).goHeadless
     | .controlBus | .arbiterPath => s.giveUp pm fun s => s.condition 0x0D02 (pmIdx (pmOther pm)) true
     | .stateCopy =>
       if (s.post (pmOther pm)).role = .standby then s.unsync (pmOther pm) else s
     | .flash => s)
  | .standby | .syncing =>
    (match code with
     | .stateCopy => s.unsync pm
     | .flash => s
     | _ => s.modPost pm fun v => { v with role := .failed, synced := false, ackSince := none })
  | _ => s

/-- POSTMASTER_FAILURE (13 R405): a detected failure of a running postmaster. -/
def execPostmasterFailure (pm : Pm) (code : FailCode) (s : State) : Host.Outcome State Fault Refusal :=
  let r := (s.post pm).role
  .next (if r = .active ∨ r = .standby ∨ r = .syncing then s.pmFail pm code else s)

/-- Index of a self-test item. -/
def itemIndex : SelftestItem → Nat
  | .sram => 0 | .cores => 1 | .controlBus => 2 | .stateCopy => 4 | .arbiterPath => 5
  | .flash part b => 16 + 2 * part + b2n b

/-- Failure code of an item (13 R404, R405). -/
def itemCode? : SelftestItem → FailCode
  | .sram => .sram | .cores => .core | .controlBus => .controlBus | .flash _ _ => .flash
  | .stateCopy => .stateCopy | .arbiterPath => .arbiterPath

/-- Items of a full cycle of the active and of the standby (13 R404). -/
def State.cycleItems (s : State) (active : Bool) : List Nat :=
  if active then [1, 2, 5]
  else [0, 1, 2, 4, 5] ++ (List.range 12).filterMap fun i =>
    if i / 2 = 3 ∧ ¬ s.variant.envelope then none else some (16 + i)

/-- A bank holds an image whose hash the standby checks against its manifest (13 R404; 14 R422). -/
def checkable (st : BankState) : Bool := st ≠ .empty && st ≠ .writing && st ≠ .corrupt

/-- A flash check finds a hash that differs (14 R422, R427): a VERIFIED bank becomes CORRUPT; an armed activation of it
is cancelled first. -/
def State.bankDiffers (s : State) (part : Nat) (b : Bool) : State :=
  let s := s.raise 0x0E01 (part * 256 + b2n b)
  let s := if s.bankState part b = .armed then (s.disarm.raise 0x0E02 0) else s
  if s.bankState part b = .verified then s.setBankState part b .corrupt else s

/-- What a failed item brings: three control-bus errors in a row make a failure, the other items fail at once. -/
def State.itemFails (s : State) (pm : Pm) (item : SelftestItem) : State :=
  match item with
  | .controlBus =>
    let n := (s.post pm).busErrors + 1
    let s := s.modPost pm fun v => { v with busErrors := n }
    if n < 3 then s else (s.modPost pm fun v => { v with busErrors := 0 }).pmFail pm .controlBus
  | .flash part b => (s.bankDiffers part b).pmFail pm .flash
  | i => s.pmFail pm (itemCode? i)

/-- SELFTEST_ITEM (13 R404, R405, R407): the standby runs every item, the active those marked "both"; a full cycle
counts and says whether it passed. -/
def execSelftestItem (pm : Pm) (item : SelftestItem) (passed : Bool) (s : State) : Host.Outcome State Fault Refusal :=
  let v := s.post pm
  let all := s.cycleItems (v.role = .active)
  let here : Bool := match item with
    | .flash part b => checkable (s.bankState part b)
    | _ => true
  let bad := !passed && here
  .next (
    if (v.role ≠ .active ∧ v.role ≠ .standby) ∨ ¬ all.contains (itemIndex item) then s
    else
      let items := if v.items.contains (itemIndex item) then v.items else v.items ++ [itemIndex item]
      let failed := v.itemFailed || bad
      let v := { v with busErrors := if item = SelftestItem.controlBus ∧ ¬ bad then 0 else v.busErrors }
      let s := if all.all items.contains then
          s.setPost pm { v with items := [], itemFailed := false, cycles := v.cycles + 1#32, selftestOk := !failed }
        else s.setPost pm { v with items := items, itemFailed := failed }
      if bad then s.itemFails pm item else s)

/-- Code of a role (13 R393). -/
def Role.code : Role → Nat
  | .off => 0 | .booting => 1 | .syncing => 2 | .standby => 3 | .active => 4 | .failed => 5

/-- `PM_HEALTH` of a postmaster as it stands (13 R407). -/
def State.healthWord (s : State) (pm : Pm) (temp : Byte) : W64 :=
  let v := s.post pm
  let hour := (v.restarts.filter fun t => s.up < t + 3600000000000).length
  BitVec.ofNat 64 (v.cycles.toNat * 2 ^ 32 + v.role.code * 2 ^ 29 + b2n v.synced * 2 ^ 28 + b2n v.selftestOk * 2 ^ 27 +
    v.failCode.toNat * 2 ^ 16 + min 3 hour * 2 ^ 8 + temp.toNat)

/-- HEALTH_WRITE (13 R407): a running postmaster rewrites its `PM_HEALTH`. -/
def execHealthWrite (pm : Pm) (temp : Byte) (s : State) : Host.Outcome State Fault Refusal :=
  .next (if (s.post pm).role = .off ∨ ¬ s.domain (pmDomain pm) then s
    else s.modPost pm fun v => { v with health := s.healthWord pm temp, healthAt := some s.up, temp := temp })

end Sys2Proof.Machine
end

