-- ==== Sys2Proof/Machine/Images.lean ====
section
/-!
DEFINITION. Images.lean: the IMAGE letters, writing and checking banks, the roll-out's events and the settings store's
saves (14 R412-R430; 10 R344, R520).
-/

namespace Sys2Proof

/-- How `IMAGE.LIST` lays out what it returns: for each bank its state, `image_version` and `settings_version`, then the
activation's state and step; the manual gives the contents and no layout (14 R420, R424). -/
opaque Config.imageList : List (Nat × Nat × Nat) → Nat → Nat → List (BitVec 8)

namespace Machine

/-! ## Headers and manifests (14 R415-R421) -/

/-- All bytes of a range are zero. -/
def zeroAt (d : List Byte) (off n : Nat) : Bool := (bslice d off n).all fun b => b = 0#8
/-- A little-endian field. -/
def leAt (d : List Byte) (off n : Nat) : Nat := leNat (bslice d off n)

/-- Bit of `variants` of a variant (14 R415). -/
def Variant.imageBit : Variant → Nat
  | .le3840 => 0 | .le2560 => 1 | .le1920 => 2

/-- The early checks of a header in the table's order (14 R419). -/
def headerRefusal (v : Variant) (part : Nat) (d : List Byte) : Option Reject :=
  let len := leAt d 24 4
  let off := leAt d 28 4
  let count := leAt d 32 4
  firstFail [
    (!(decide (leAt d 0 4 = 0x4D4C4749) && decide (leAt d 4 2 = 1) && zeroAt d 7 1 && decide (leAt d 20 1 < 8) &&
       decide (leAt d 21 1 < 2) && zeroAt d 22 2 && zeroAt d 36 12 && zeroAt d 192 224), ⟨.malformed, 3, 1⟩),
    (decide (leAt d 6 1 ≠ part), ⟨.malformed, 3, 2⟩),
    (decide (len % 4096 ≠ 0 ∨ len < 4096 ∨ bankSize part < len), ⟨.malformed, 3, 3⟩),
    (decide (off % 64 ≠ 0 ∨ off < 512 ∨ count = 0 ∨ 64 < count ∨ len < off + 64 * count), ⟨.malformed, 3, 4⟩),
    (decide (Config.sha384 (bslice d 96 96) ≠ Config.rootKeyHash), ⟨.notPermitted, 3, 5⟩),
    (!Config.ecdsaP384 (bslice d 96 96) (bslice d 0 416) (bslice d 416 96), ⟨.notPermitted, 3, 6⟩),
    (!bit (leAt d 20 1) v.imageBit, ⟨.versionMismatch, 3, 7⟩),
    (!bit (leAt d 21 1) 0, ⟨.versionMismatch, 3, 8⟩)]

/-- A section's type may stand in an image of a part, and its size is that of the table (14 R416). -/
def sectionOk (part type len : Nat) : Bool :=
  match type with
  | 0x01 | 0x02 => decide (part = 0 ∨ part = 3 ∨ part = 4 ∨ part = 5) && decide (1 ≤ len)
  | 0x10 => decide (part = 1 ∧ len = 262144)
  | 0x11 => decide (part = 1 ∧ len = 524288)
  | 0x12 => decide (part = 2 ∧ 1 ≤ len ∧ len ≤ 4096)
  | 0x13 => decide (part = 2 ∧ 1 ≤ len ∧ len ≤ 16384)
  | 0x14 => decide (part = 2 ∧ len = 256)
  | 0x20 => decide (part = 0) && decide (1 ≤ len)
  | _ => false

/-- The numbers of sections that the Rule column asks for. -/
def sectionCounts (part : Nat) (types : List Nat) : Bool :=
  let n (t : Nat) : Nat := (types.filter (· = t)).length
  match part with
  | 1 => decide (n 0x10 = 1 ∧ n 0x11 = 1)
  | 2 => decide (n 0x12 = 1 ∧ n 0x13 = 1 ∧ n 0x14 = 1)
  | 0 => decide (1 ≤ n 0x01 ∧ n 0x20 ≤ 1)
  | _ => decide (1 ≤ n 0x01)

/-- Two byte ranges share a byte. -/
def overlap (a b : Nat × Nat) : Bool := decide (a.1 < b.1 + b.2) && decide (b.1 < a.1 + a.2)

/-- No two ranges of a list overlap. -/
def disjoint : List (Nat × Nat) → Bool
  | [] => true
  | r :: rs => (rs.all fun q => !overlap r q) && disjoint rs

/-- The sections follow R416. -/
def Bank.sectionsOk (v : Bank) (part : Nat) : Bool :=
  let es := v.manifest
  let off := v.le 28 4
  (es.all fun e => decide (e.2.1 % 4096 = 0) && decide (e.2.1 + e.2.2.1 ≤ v.length) && sectionOk part e.1 e.2.2.1) &&
  ((List.range es.length).all fun i => decide (v.le (off + 64 * i + 12) 4 = 0)) &&
  sectionCounts part (es.map (·.1)) &&
  disjoint ((0, 512) :: (off, 64 * es.length) :: es.map fun e => (e.2.1, e.2.2.1))

/-- What `IMAGE.VERIFY` finds wrong, in the order of R421: a subcode, or none. -/
def Bank.verify (v : Bank) (part : Nat) : Option Nat :=
  let es := v.manifest
  if ¬ ((List.range (v.length / 4096)).all fun i => v.blocks.contains i) then some 9
  else if Config.sha384 (v.read (v.le 28 4) (64 * v.le 32 4)) ≠ BitVec.ofNat 384 (beNat (v.read 48 48)) then some 10
  else match es.findIdx? (fun e => Config.sha384 (v.read e.2.1 e.2.2.1) ≠ BitVec.ofNat 384 (beNat e.2.2.2)) with
    | some i => some (0x100 + i)
    | none => if v.sectionsOk part then none else some 11

/-! ## Writing a bank (14 R418-R420) -/

/-- Blocks of 4 KiB that a write covers. -/
def coveredBlocks (off n : Nat) : List Nat := (List.range (n / 4096)).map (· + off / 4096)

/-- Put a flash job in progress. -/
def State.flashJob (s : State) (j : FlashJob) : State :=
  { s with images := { s.images with jobs := s.images.jobs ++ [j] } }

/-- A write into a bank: at offset 0 it erases first (14 R418). -/
def State.writeBank (s : State) (part : Nat) (b : Bool) (off : Nat) (d : List Byte) : State :=
  let v := if off = 0 then {} else s.bank part b
  (s.setBank part b {
    st := .writing, blocks := v.blocks ++ coveredBlocks off d.length
    data := (List.range d.length).foldl (fun m i => nset 0xFF#8 (off + i) (d.getD i 0xFF#8) m) v.data }).bump
    .imgWriteBytes part 0 d.length

/-- The variant lacks a part (14 R412). -/
def noPart (s : State) (part : Nat) : Bool × Reject := noObj (decide (part = 3) && !s.variant.envelope) 0

/-- Checks of `IMAGE.WRITE` before its header (14 R418; 10 R336). -/
def imageWriteChecks (s : State) (part bank off n : Nat) : List (Bool × Reject) :=
  let b := decide (bank = 1)
  let v := s.bank part b
  let st := s.bankState part b
  [malformed (decide (5 < part)) 0, malformed (decide (1 < bank)) 1, malformed (decide (off % 4096 ≠ 0)) 2,
   malformed (decide (n % 4096 ≠ 0 ∨ n < 4096 ∨ 16777216 < n)) 3, noPart s part,
   busy (st = .armed || st = .rolling) 1, busy (decide (off ≠ 0) && decide (st ≠ .writing)) 1,
   malformed (decide (off ≠ 0 ∧ v.length < off + n)) 3,
   busy (decide (off ≠ 0) && (coveredBlocks off n).any v.blocks.contains) 2,
   notPermitted (decide (s.activeBank part = b)) 1]

/-- IMAGE.WRITE (14 R418-R420; 10 R520): the bytes go into the bank, and the receipt waits for the read-back. A list
that cannot be read leaves the bank as it was or WRITING, as a free value says. -/
def execImageWrite (l : LetterId) (part bank : W32) (offset : W64) (data : ListArg Byte) (s : State) :
    Host.Outcome State Fault Refusal :=
  let ps := [p4 part, p4 bank, p8 offset, pL data]
  let p := part.toNat
  let b := decide (bank = 1#32)
  let off := offset.toNat
  let early := imageWriteChecks s p bank.toNat off data.count.toNat
  let header := if off = 0 then data.items.bind fun d => headerRefusal s.variant p d else none
  let refused := (s.claimed l 0x1101 ps).isSome && (firstFail early).isNone && header.isSome
  let t := runLetter l 0x1101 ps (fun c =>
    checked early fun _ =>
      match data.items with
      | none =>
        let (x, s) := s.free
        let some := x.getLsbD 0
        .partFault 4 data.addr some (if some ∧ off = 0 then s.setBank p b { st := .writing } else s)
      | some d =>
        match header with
        | some r => .reject r
        | none =>
          checked [malformed (decide (off = 0 ∧ leAt d 24 4 < d.length)) 3] fun _ =>
          acceptWait ((s.writeBank p b off d).flashJob (.image c.l p b)) (layBody ps)) s
  .next (if refused then t.bump .imgRefused p else t)

/-- Take the first flash job of a kind. -/
def State.takeJob (s : State) (f : FlashJob → Bool) : Option (FlashJob × State) :=
  (s.images.jobs.find? f).map fun j => (j, { s with images := { s.images with jobs := s.images.jobs.erase j } })

/-- FLASH_WRITE_COMPLETE (14 R418; 00 R5): the oldest image write has been read back. -/
def execFlashWriteComplete (readBackOk : Bool) (s : State) : Host.Outcome State Fault Refusal :=
  .next (if s.pm.active.isNone then s else match s.takeJob (fun j => match j with | .image .. => true | _ => false) with
    | some (.image l _ _, t) => if readBackOk then t.release l else t.internalFault l 2 0 true
    | _ => s)

/-- IMAGE.VERIFY (14 R421). -/
def execImageVerify (l : LetterId) (part bank : W32) (s : State) : Host.Outcome State Fault Refusal :=
  let ps := [p4 part, p4 bank]
  let p := part.toNat
  let b := decide (bank = 1#32)
  .next (runLetter l 0x1102 ps (fun c =>
    let st := s.bankState p b
    checked [malformed (decide (5 < p)) 0, malformed (decide (1 < bank.toNat)) 1, noPart s p,
      busy (st ≠ .writing && st ≠ .verified) 1] fun _ =>
    acceptWait (s.flashJob (.verify c.l p b)) (layBody ps)) s)

/-- IMAGE_VERIFY_COMPLETE (14 R421; 00 R5): the whole image has been read. -/
def execImageVerifyComplete (part : Fin 6) (bankB : Bool) (s : State) : Host.Outcome State Fault Refusal :=
  let p := part.val
  .next (if s.pm.active.isNone then s else match s.takeJob (fun j => match j with | .verify _ q c => decide (q = p) && c == bankB | _ => false) with
    | some (.verify l _ _, t) =>
      let v := s.bank p bankB
      (match v.verify p with
       | none => (if v.st = .writing then t.setBankState p bankB .verified else t).release l
       | some sub =>
         let t := t.modReceipt l fun r => { r with status := .malformed, subcode := BitVec.ofNat 16 sub, applied := [] }
         (t.bump .imgVerifyFail p).release l)
    | _ => s)

/-! ## Activation (14 R420, R423-R426) -/

/-- A mask names bits that are RSV. -/
def badParts (parts : W32) : Bool × Reject := malformed (decide (63 < parts.toNat)) 0

/-- The version checks of an activation (14 R423). -/
def State.activateMismatch (s : State) (parts : Nat) : Bool :=
  let new (p : Nat) : Bank := s.bank p (!s.activeBank p)
  ([1, 2].any fun p => bit parts p && !s.compatible (new p).version (new p).version) ||
  (bit parts 0 && (decide ((s.bank 0 s.activeImage).version < (new 0).le 12 4) ||
    decide (s.newestVersion < (new 0).le 18 2)))

/-- IMAGE.ACTIVATE (14 R423, R424): the named banks become ARMED; with a T of zero the roll-out starts at acceptance. -/
def execImageActivate (l : LetterId) (parts : W32) (t : TimeParam) (s : State) : Host.Outcome State Fault Refusal :=
  let ps := [p4 parts, pT t]
  .next (runLetter l 0x1103 ps (fun _ =>
    let m := parts.toNat
    let st := s.images.act.st
    let named := maskBits m 6
    checked ([badParts parts, malformed (badTime t) 1, noPart s (if bit m 3 then 3 else 0),
      busy (st = .armed || st = .rolling || st = .rollingBack),
      busy (named.any fun p => s.bankState p (!s.activeBank p) ≠ .verified) 0] ++ timeChecks s t 1 ++
      [(s.activateMismatch m, ⟨.versionMismatch, 0, 0⟩),
       notPermitted ((bit m 1 && s.clerks.modeP) || (bit m 2 && !s.clerks.modeP) || (bit m 1 && bit m 2)) 0]) fun _ =>
    let b := BitVec.ofNat 6 m
    let s := (s.newBanks b .armed).modAct fun _ => { st := .armed, parts := b, t := schedT t }
    acceptScheduled (if schedT t = 0 then s.startRollout else s) (layBody ps)) s)

/-- IMAGE.ABORT (14 R426). -/
def execImageAbort (l : LetterId) (parts : W32) (s : State) : Host.Outcome State Fault Refusal :=
  .next (runLetter l 0x1104 [p4 parts] (fun _ =>
    let a := s.images.act
    let named : Bool := decide (a.parts &&& BitVec.ofNat 6 parts.toNat ≠ 0#6)
    checked [badParts parts, noPart s (if bit parts.toNat 3 then 3 else 0), busy (a.st = .rollingBack)] fun _ =>
    accept (if ¬ named then s else if a.st = .armed then s.disarm else if a.st = .rolling then s.rollBack else s)
      (layBody [p4 parts])) s)

/-- Code of a bank state in the order of R420. -/
def BankState.code : BankState → Nat
  | .empty => 0 | .writing => 1 | .verified => 2 | .armed => 3 | .rolling => 4 | .active => 5 | .corrupt => 6
/-- Number of an activation's state as IMAGE.LIST tells them apart (14 R424). -/
def ActSt.code : ActSt → Nat
  | .none => 0 | .armed => 1 | .rolling => 2 | .rollingBack => 2 | .done => 3 | .rolledBack => 4

/-- IMAGE.LIST (14 R420, R424). -/
def execImageList (l : LetterId) (s : State) : Host.Outcome State Fault Refusal :=
  .next (runLetter l 0x1105 [] (fun _ =>
    let banks := (List.range 12).map fun i =>
      let b := decide (i % 2 = 1)
      let v := s.bank (i / 2) b
      ((s.bankState (i / 2) b).code, v.version, v.le 16 2)
    accept s ((Config.imageList banks s.images.act.st.code s.images.act.step).take 224)) s)

/-- ACTIVATION_START (14 R424): T of an armed activation has come. -/
def execActivationStart (s : State) : Host.Outcome State Fault Refusal :=
  let a := s.images.act
  .next (if a.st = .armed ∧ a.t ≤ s.units ∧ s.pm.active.isSome then s.startRollout else s)

/-- The step in progress has come to its end (14 R424). -/
def State.stepEnded (s : State) : Bool :=
  let a := s.images.act
  let back := a.st = .rollingBack
  match a.step with
  | 1 => s.pmsMoved (if back then s.activeBank 0 else !s.activeBank 0)
  | 2 => s.power.hkUp && s.pm.active.isSome
  | 5 => s.benchesMoved
  | _ => s.pm.active.isSome

/-- A step's part as a mask. -/
def partBit (parts : BitVec 6) (step : Nat) : BitVec 6 :=
  match stepPart parts step with
  | some p => BitVec.ofNat 6 (2 ^ p)
  | none => 0#6

/-- ROLLOUT_STEP_END (14 R424-R426; 00 R5): a step ends, of step 4 one framer group's controller; the next begins, or the
roll-out or roll-back is over. -/
def execRolloutStepEnd (s : State) : Host.Outcome State Fault Refusal :=
  let a := s.images.act
  .next (
    if (a.st ≠ .rolling ∧ a.st ≠ .rollingBack) ∨ ¬ s.stepEnded ∨ s.pm.active.isNone then s
    else if a.st = .rolling then
      if a.step = 4 ∧ a.sub < 11 then s.modAct fun a => { a with sub := a.sub + 1, since := s.up }
      else (s.leaveStep.modAct fun a => { a with moved := a.moved ||| partBit a.parts a.step }).nextStep (a.step + 1)
    else
      if a.step = 4 ∧ 0 < a.sub then s.modAct fun a => { a with sub := a.sub - 1, since := s.up }
      else (s.leaveStep.modAct fun a => { a with moved := a.moved &&& ~~~ partBit a.parts a.step }).nextBack (a.step - 1))

/-- The step in progress has failed (14 R424). -/
def State.stepFailed (s : State) : Bool :=
  let a := s.images.act
  match a.step with
  | 1 => s.pmsLate
  | 4 => decide (a.since + 10000000 ≤ s.up)
  | 5 => s.benchFailed
  | _ => decide (a.since + 1000000000 ≤ s.up)

/-- ROLLOUT_STEP_TIMEOUT (14 R424, R426; 00 R5): the step fails: the module rolls back, or the part stays on the bank it runs
and the roll-back goes on. -/
def execRolloutStepTimeout (s : State) : Host.Outcome State Fault Refusal :=
  let a := s.images.act
  .next (
    if ¬ s.stepFailed ∨ s.pm.active.isNone then s
    else if a.st = .rolling then s.rollBack
    else if a.st = .rollingBack then
      let p := (stepPart a.parts a.step).getD 0
      let s := (s.raise 0x0E03 p (b2n (!s.activeBank p))).leaveStep
      let s := if a.step = 5 then s.rolloutBenches.foldl (fun s b => s.setBench b { s.bench b with rollout := false }) s else s
      let s := { s with pm := { s.pm with planned := s.pm.planned && decide (a.step ≠ 1) } }
      (s.modAct fun a => { a with moved := a.moved &&& ~~~ partBit a.parts a.step }).nextBack (a.step - 1)
    else s)

/-! ## The settings store (14 R429) -/

/-- MODULE.SAVE_SETTINGS (14 R429). -/
def execModuleSaveSettings (l : LetterId) (s : State) : Host.Outcome State Fault Refusal :=
  .next (runLetter l 0x0107 [] (fun c => acceptWait (s.saveBody (some c.l) s.settings) []) s)

/-- SETTINGS_SAVE_COMPLETE (14 R429, R430): the oldest record in progress has been read back; one that differs is not
valid. -/
def execSettingsSaveComplete (readBackOk : Bool) (s : State) : Host.Outcome State Fault Refusal :=
  .next (if s.pm.active.isNone then s else match s.takeJob (fun j => match j with | .settings .. => true | _ => false) with
    | some (.settings l _ r migrated, t) =>
      let r := SettingsRecord.seal { r with generation := t.nextGeneration, valid := readBackOk }
      let t := t.setSettingsSlot (t.saveSlot r.version (t.settingsMin t.activeImage)) r
      if readBackOk then (if migrated then t.bump .settingsMigrations else t.bump .settingsSaves).release? l
      else match l with
        | some l => t.internalFault l 2 0 true
        | none => t
    | _ => s)

end Machine

end Sys2Proof
end

