-- ==== Sys2Proof/Machine/Tables.lean ====
section
/-!
DEFINITION. Tables.lean: the ROUTE, TABLE, ACL and POLICER letters, and the events of the associative engine: update
slots, self-test, row repair and bank faults (05 R158-R190; 10 R343, R344).
-/

namespace Sys2Proof.Machine

/-! ## Item letters (05 R158-R180; 02 R62-R67) -/

/-- ROUTE.ADD (05 R158, R159). -/
def execRouteAdd (l : LetterId) (a : RouteArgs) (s : State) : Host.Outcome State Fault Refusal :=
  .next (itemRun l (.routeAdd a) s)

/-- ROUTE.DELETE (05 R158). -/
def execRouteDelete (l : LetterId) (vrf family : W32) (pfx : Ip) (plen : W32) (s : State) : Host.Outcome State Fault Refusal :=
  .next (itemRun l (.routeDelete vrf family pfx plen) s)

/-- TABLE.EXACT_ADD (05 R160, R522). -/
def execTableExactAdd (l : LetterId) (type : W32) (key : BitVec 256) (result : W64) (s : State) : Host.Outcome State Fault Refusal :=
  .next (itemRun l (.exactAdd type key result) s)

/-- TABLE.EXACT_DELETE (05 R160). -/
def execTableExactDelete (l : LetterId) (type : W32) (key : BitVec 256) (s : State) : Host.Outcome State Fault Refusal :=
  .next (itemRun l (.exactDelete type key) s)

/-- TABLE.NH_WRITE (05 R161). -/
def execTableNhWrite (l : LetterId) (nh voqBase port module encap : W32) (s : State) : Host.Outcome State Fault Refusal :=
  .next (itemRun l (.nhWrite nh voqBase port module encap) s)

/-- TABLE.NH_DELETE (10 R344). -/
def execTableNhDelete (l : LetterId) (nh : W32) (s : State) : Host.Outcome State Fault Refusal :=
  .next (itemRun l (.nhDelete nh) s)

/-- TABLE.ECMP_WRITE (05 R162, R165). -/
def execTableEcmpWrite (l : LetterId) (group mode : W32) (members : ListArg W32) (s : State) : Host.Outcome State Fault Refusal :=
  .next (itemRun l (.ecmpWrite group mode members) s)

/-- TABLE.ECMP_DELETE (10 R344). -/
def execTableEcmpDelete (l : LetterId) (group : W32) (s : State) : Host.Outcome State Fault Refusal :=
  .next (itemRun l (.ecmpDelete group) s)

/-- ACL.WRITE (05 R180). -/
def execAclWrite (l : LetterId) (bank index : W32) (value mask : BitVec 640) (action : W64) (s : State) : Host.Outcome State Fault Refusal :=
  .next (itemRun l (.aclWrite bank index value mask action) s)

/-- ACL.DELETE (05 R180). -/
def execAclDelete (l : LetterId) (bank index : W32) (s : State) : Host.Outcome State Fault Refusal :=
  .next (itemRun l (.aclDelete bank index) s)

/-- ACL.SET_PROFILE (05 R174, R183). -/
def execAclSetProfile (l : LetterId) (a : AclProfileArgs) (s : State) : Host.Outcome State Fault Refusal :=
  .next (itemRun l (.aclProfile a) s)

/-- ACL.SET_SELECT (05 R174). -/
def execAclSetSelect (l : LetterId) (profile : W32) (masks : ListArg W32) (s : State) : Host.Outcome State Fault Refusal :=
  .next (itemRun l (.aclSelect profile masks) s)

/-- POLICER.CONFIGURE (05 R166, R167). -/
def execPolicerConfigure (l : LetterId) (a : PolicerArgs) (s : State) : Host.Outcome State Fault Refusal :=
  .next (itemRun l (.policerWrite a) s)

/-- POLICER.DELETE (05 R166). -/
def execPolicerDelete (l : LetterId) (policer : W32) (s : State) : Host.Outcome State Fault Refusal :=
  .next (itemRun l (.policerDelete policer) s)

/-! ## Block letters (10 R343) -/

/-- ROUTE.BLOCK. -/
def execRouteBlock (l : LetterId) (records : ListArg TableRecord) (listCrc : W32) (s : State) :
    Host.Outcome State Fault Refusal := .next (blockRun l 0x0703 records listCrc s)

/-- TABLE.BLOCK. -/
def execTableBlock (l : LetterId) (records : ListArg TableRecord) (listCrc : W32) (s : State) :
    Host.Outcome State Fault Refusal := .next (blockRun l 0x0808 records listCrc s)

/-- ACL.BLOCK. -/
def execAclBlock (l : LetterId) (records : ListArg TableRecord) (listCrc : W32) (s : State) :
    Host.Outcome State Fault Refusal := .next (blockRun l 0x0907 records listCrc s)

/-! ## Other letters -/

/-- TABLE.SET_HASH (05 R163). -/
def execTableSetHash (l : LetterId) (seed profile fields : W32) (s : State) : Host.Outcome State Fault Refusal :=
  .next (runLetter l 0x0807 [p4 seed, p4 profile, p4 fields] (fun _ =>
    checked [malformed (decide (7 < profile.toNat)) 1, malformed (decide (4095 < fields.toNat)) 2] fun _ =>
    let u := s.lookup
    let h := nset hashDefault profile.toNat (BitVec.ofNat 12 fields.toNat) u.hash
    accept { s with lookup := { u with seed := seed, hash := h } } (layBody [p4 seed, p4 profile, p4 fields])) s)

/-- ACL.SET_BANK_WIDTH (05 R172). -/
def execAclSetBankWidth (l : LetterId) (bank width : W32) (s : State) : Host.Outcome State Fault Refusal :=
  .next (runLetter l 0x0905 [p4 bank, p4 width] (fun c =>
    let b := bank.toNat
    let w := decide (width = 640#32)
    checked [malformed (decide (31 < b)) 0, malformed (decide (width ≠ 320#32 ∧ width ≠ 640#32)) 1,
      noObj (decide (s.variant.logical ≤ b) || decide (s.owner 0x0D b ≠ c.sl)) 0,
      notPermitted (s.isWide b != w && s.bankUsed b) 0] fun _ =>
    accept { s with lookup := { s.lookup with wide := nset false b w s.lookup.wide } } (layBody [p4 bank, p4 width])) s)

/-- Nanoseconds of an hour. -/
def hourNs : Nat := 3600000000000

/-- ACL.SET_SELFTEST (05 R186). -/
def execAclSetSelftest (l : LetterId) (period : W64) (s : State) : Host.Outcome State Fault Refusal :=
  .next (runLetter l 0x0906 [p8 period] (fun _ =>
    let q := clampU0 64 period.toNat hourNs (168 * hourNs) (some s.lookup.period)
    accept { s with lookup := { s.lookup with period := q.v } } (layBody [n8 q.v]) (firstClamp [(0, q.c)])) s)

/-! ## The associative engine (05 R181-R190) -/

/-- A row is rewritten from the postmasters' copy (05 R189). -/
def State.repairRow (s : State) (bank i : Nat) : State :=
  (s.setRow bank i { s.aclRow bank i with bad := false }).bump .aclRowCheck bank

/-- One more release copy is done; the last completes the release (05 R181). -/
def State.countCopy (s : State) : State :=
  let n := s.lookup.copiesLeft - 1
  let s := { s with lookup := { s.lookup with copiesLeft := n } }
  if n = 0 then s.finishRelease else s

/-- The work at the head of a bank's queue is taken. -/
def State.dropJob (s : State) (bank : Nat) : State :=
  { s with lookup := { s.lookup with jobs := nset [] bank ((nget [] s.lookup.jobs bank).drop 1) s.lookup.jobs } }

/-- ACL_UPDATE_WINDOW (05 R182): one window of 64 bank cycles gives at most one cycle to the waiting work, in the order
repair, release copy, staging write, migration read. -/
def execAclUpdateWindow (bank : Fin 32) (s : State) : Host.Outcome State Fault Refusal :=
  let b := bank.val
  let js := nget [] s.lookup.jobs b
  onUnit (decide (b < s.variant.logical)) (match js.head? with
    | some (.repair i) => ((s.dropJob b).repairRow b i).bump .aclSteals b
    | some (.copy p q) => (((s.dropJob b).copyRow b p q).bump .aclSteals b).countCopy
    | some (.write _) => (s.dropJob b).bump .aclSteals b
    | none => match s.lookup.migration with
      | some m =>
        if m.logical = b ∧ ¬ m.fault ∧ m.next < 8192 then
          let m := { m with next := m.next + 1 }
          State.bump { s with lookup := { s.lookup with migration := some m } } .aclSteals b
        else s
      | none => s)

/-- The spare, if there is one. -/
def State.spare (s : State) : Option Nat := (List.range s.variant.banks).find? fun p => (s.phys p).st = .spare

/-- Physical banks that are not FAILED. -/
def State.soundBanks (s : State) : Nat := ((List.range s.variant.banks).filter fun p => (s.phys p).st ≠ .failed).length

/-- The logical bank whose physical bank has gone longest since its last test; the lowest at a tie (05 R186). -/
def State.oldestTest (s : State) : Option (Nat × Nat) :=
  bestBy (fun x => match (s.phys x.2).tested with
    | none => 1
    | some t => - (Int.ofNat t)) <|
    (List.range s.variant.logical).filterMap fun b => match s.physOf b with
      | some p => if (s.phys p).st = .failed then none else some (b, p)
      | none => none

/-- ACL_SELFTEST_START (05 R186, R188): a test is due and a spare exists. -/
def execAclSelftestStart (s : State) : Host.Outcome State Fault Refusal :=
  let u := s.lookup
  .next (
    if u.period = 0 ∨ s.soundBanks = 0 ∨ s.up < u.lastStart + u.period / s.soundBanks ∨ u.migration.isSome ∨
        u.testing.isSome then s
    else match s.spare, s.oldestTest with
      | some d, some (b, p) =>
        let v := s.phys p
        let s := if v.st = .off then s.askDomain (bankDomain p) true else s
        let s := s.setPhys p { v with st := .source }
        { s with lookup := { s.lookup with
            migration := some { logical := b, src := p, dst := d }, lastStart := s.up } }
      | _, _ => s)

/-- The map moves a logical bank to the spare (05 R186 step 2). -/
def State.moveMap (s : State) (m : Migration) (src : BankSt) : State :=
  let s := s.setPhys m.dst { s.phys m.dst with st := .inService, logical := m.logical }
  let s := s.setPhys m.src { s.phys m.src with st := src, logical := 255 }
  { s with lookup := { s.lookup with migration := none } }

/-- ACL_MIGRATION_COMPLETE (05 R186 steps 2 and 3). -/
def execAclMigrationComplete (s : State) : Host.Outcome State Fault Refusal :=
  .next (match s.lookup.migration with
    | some m =>
      if m.fault ∨ m.next < 8192 then s
      else
        let s := s.moveMap m .testing
        State.bankPower { s with lookup := { s.lookup with testing := some (m.src, s.up) } }
    | none => s)

/-- ACL_BANK_TEST_END (05 R186 step 4, R188): after the 2 ms test. -/
def execAclBankTestEnd (phys : Fin 33) (passed : Bool) (s : State) : Host.Outcome State Fault Refusal :=
  .next (match s.lookup.testing with
    | some (p, t) =>
      if p ≠ phys.val ∨ s.up < t + 2000000 then s
      else
        let s := { s with lookup := { s.lookup with testing := none } }
        let v := { s.phys p with tested := some s.up }
        if passed then (s.setPhys p { v with st := .spare }).bump .aclSelftestPass
        else
          let s := ((s.setPhys p { v with st := .failed }).bump .aclSelftestFail).askDomain (bankDomain p) false
          s.raise 0x0501 p 255
    | none => s)

/-- ACL_ROW_REPAIR (05 R189): the row that waits for its repair is rewritten through the first-priority slot. -/
def execAclRowRepair (bank : Fin 32) (index : Fin 8192) (s : State) : Host.Outcome State Fault Refusal :=
  let b := bank.val
  let js := nget [] s.lookup.jobs b
  onUnit (decide (b < s.variant.logical)) (
    if js.contains (.repair index) then
      let s := { s with lookup := { s.lookup with jobs := nset [] b (js.erase (.repair index)) s.lookup.jobs } }
      (s.repairRow b index).bump .aclSteals b
    else s)

/-- ACL_BANK_FAULT (05 R190): the spare is written from the postmasters' copy, or the logical bank fails in place. A
spare that a self-test is filling takes the copy instead. -/
def execAclBankFault (phys : Fin 33) (s : State) : Host.Outcome State Fault Refusal :=
  let p := phys.val
  let v := s.phys p
  onUnit (decide (p < s.variant.banks)) (
    if v.st ≠ .inService ∧ v.st ≠ .source then s
    else
      let m? := s.lookup.migration
      let dst := match m? with
        | some m => if m.fault then none else some m.dst
        | none => s.spare
      match dst with
      | some d =>
        let s := match m? with
          | some m => if m.src = p then s else s.setPhys m.src { s.phys m.src with st := .inService }
          | none => s
        { s with lookup := { s.lookup with
            migration := some { logical := v.logical, src := p, dst := d, fault := true } } }
      | none =>
        if (m?.map (·.src)) = some p then s
        else
          let s := (s.setPhys p { v with st := .failed }).askDomain (bankDomain p) false
          s.raise 0x0501 p v.logical (sev := some 2))

/-- ACL_SPARE_WRITTEN (05 R190): the map moves, and the old bank is FAILED. -/
def execAclSpareWritten (s : State) : Host.Outcome State Fault Refusal :=
  .next (match s.lookup.migration with
    | some m =>
      if ¬ m.fault then s
      else
        let s := (s.moveMap m .failed).askDomain (bankDomain m.src) false
        (s.raise 0x0501 m.src m.logical).bankPower
    | none => s)

end Sys2Proof.Machine
end

