-- ==== Sys2Proof/Machine/Slices.lean ====
section
/-!
DEFINITION. Slices.lean: quotas, holding, resetting and deleting slices, in-band bindings and dirty-page logging
(11 R345-R373; 10 R323).
-/

namespace Sys2Proof.Machine

/-! ## Resources (11 R350-R352) -/

/-- Kinds of resource (11 R351). -/
inductive ResKind where
  | count | setting | range | mask
deriving DecidableEq, Repr

/-- Kind and legal values of a resource code; none for a code outside 0x01-0x19 (11 R351). -/
def resource (code : Nat) : Option (ResKind × Nat × Nat) :=
  match code with
  | 0x01 => some (.count, 0, 12582912) | 0x02 => some (.count, 0, 2097152) | 0x03 => some (.count, 0, 4194304)
  | 0x04 => some (.count, 0, 284 * 2 ^ 30 + 180 * 2 ^ 20) | 0x05 => some (.setting, 1, 1024)
  | 0x06 => some (.setting, 1000, 4000000) | 0x07 => some (.count, 0, 65536) | 0x08 => some (.setting, 0, 1)
  | 0x09 => some (.range, 0, 65535) | 0x0A => some (.range, 0, 1048575) | 0x0B => some (.range, 0, 65535)
  | 0x0C => some (.range, 0, 262143) | 0x0D => some (.mask, 0, 2 ^ 32 - 1) | 0x0E => some (.range, 0, 63)
  | 0x0F => some (.range, 0, 131071) | 0x10 => some (.range, 131072, 524287) | 0x11 => some (.range, 0, 4095)
  | 0x12 => some (.range, 0, 16383) | 0x13 => some (.range, 0, 65535) | 0x14 => some (.range, 0, 191)
  | 0x15 => some (.range, 0, 1023) | 0x16 => some (.range, 1, 63) | 0x17 => some (.range, 0, 1023)
  | 0x18 => some (.range, 0, 65535) | 0x19 => some (.range, 0, 63)
  | _ => none

/-- Code of a quota item (11 R350). -/
def itemCode (q : QuotaItem) : Nat := bits q.toNat 15 0
/-- `first` of a quota item. -/
def itemFirst (q : QuotaItem) : Nat := bits q.toNat 63 32
/-- `amount` of a quota item. -/
def itemAmount (q : QuotaItem) : Nat := bits q.toNat 127 64

/-- An item breaks R350 or R352 (MALFORMED). -/
def badQuota (q : QuotaItem) : Bool :=
  decide (bits q.toNat 31 16 ≠ 0) ||
  match resource (itemCode q) with
  | none => true
  | some (.range, lo, hi) =>
    decide (0 < itemAmount q) && (decide (itemFirst q < lo) || decide (hi < itemFirst q + itemAmount q - 1))
  | some (.mask, _, hi) => decide (itemFirst q ≠ 0) || decide (hi < itemAmount q)
  | some (_, _, hi) => decide (itemFirst q ≠ 0) || (decide (itemCode q = 8) && decide (hi < itemAmount q))

/-- The amount in force of an item, clamped when it is a quantity (11 R352). -/
def quotaAmount (q : QuotaItem) : Nat :=
  match resource (itemCode q) with
  | some (.count, lo, hi) | some (.setting, lo, hi) => max lo (min hi (itemAmount q))
  | _ => itemAmount q

/-- An item after the letter (11 R355). -/
def quotaBytes (q : QuotaItem) : List Byte := leBytes (quotaAmount q * 2 ^ 64 + itemFirst q * 2 ^ 32 + itemCode q) 16
/-- The applied block of a quota letter, as far as 224 bytes hold it (11 R355; notes/assumptions/61.md). -/
def quotaApplied (qs : List QuotaItem) : List Byte := (qs.flatMap quotaBytes).take 224
/-- An item was clamped. -/
def quotaClamped (qs : List QuotaItem) : Bool := qs.any fun q => decide (quotaAmount q ≠ itemAmount q)

/-- Enter the items in a slice. -/
def Slice.grant (v : Slice) (qs : List QuotaItem) : Slice :=
  qs.foldl (fun v q =>
    let c := itemCode q
    if c = 8 then v
    else { v with amounts := nset (quotaCreated c) c (quotaAmount q) v.amounts
                  firsts := if (resource c).map (·.1) = some .range then nset 0 c (itemFirst q) v.firsts else v.firsts }) v

/-! ## What is configured (11 R353, R356, R360, R373) -/

/-- An entry is present in a live epoch. -/
def Ver.here {α : Type} (v : Ver α) : Bool := v.cur.isSome || (v.pend.bind id).isSome || (v.old.bind id).isSome
/-- Keys of a table that are present. -/
def keysHere {α : Type} (m : Assoc Nat (Ver α)) : List Nat := (m.filter fun e => e.2.here).map (·.1)

/-- Nodes of a level that exist. -/
def State.nodesAt (s : State) (level : Nat) : List Nat :=
  (s.queues.nodes.filter fun e => e.1 / 2 ^ 20 = level ∧ e.2.present).map fun e => e.1 % 2 ^ 20

/-- Objects of a resource that are configured, in the whole module (11 R351, R356; notes/assumptions/149.md). -/
def State.configured (s : State) (code : Nat) : List Nat :=
  let u := s.lookup
  match code with
  | 0x09 => ((u.fib.filter fun e => e.2.here).map (·.1.vrf) ++
      (u.exact.filter fun e => e.2.here).filterMap fun e => exactSpace e.1.1 e.1.2.toNat).eraseDups
  | 0x0A => keysHere u.nh | 0x0B => keysHere u.ecmp | 0x0C => keysHere u.policers
  | 0x0D => (List.range s.variant.logical).filter fun b => s.bankUsed b
  | 0x0E => keysHere u.profiles
  | 0x0F => (s.queues.queues.filter fun e => !isEgress e.1 && e.2.present).map (·.1)
  | 0x10 => (s.queues.queues.filter fun e => isEgress e.1 && e.2.present).map (·.1)
  | 0x11 => s.nodesAt 3 | 0x12 => s.nodesAt 2 | 0x13 => s.nodesAt 1
  | 0x14 => (s.line.ports.filter fun e => e.2.kind ≠ .unused).map (·.1)
  | 0x15 => (s.buffers.admissions.filter fun e => e.2.configured).map (·.1)
  | 0x16 => (s.queues.lengths.filter fun e => e.2.configured).map (·.1)
  | 0x17 => (s.buffers.mirrors.filter fun e => e.2.configured).map (·.1)
  | 0x18 => s.fabric.mgroups.map (·.1)
  | 0x19 => (s.courier.channels.filter fun e => e.2.st ≠ .closed).map (·.1)
  | _ => []

/-- An item's range or mask covers an identifier. -/
def itemCovers (q : QuotaItem) (id : Nat) : Bool :=
  if itemCode q = 0x0D then bit (itemAmount q) id
  else decide (itemFirst q ≤ id ∧ id < itemFirst q + itemAmount q)

/-- An item and another slice's range or mask of its code meet. -/
def itemMeets (q : QuotaItem) (v : Slice) : Bool :=
  let c := itemCode q
  if c = 0x0D then decide (itemAmount q &&& v.amount c ≠ 0)
  else decide (0 < itemAmount q ∧ 0 < v.amount c ∧ itemFirst q < v.first c + v.amount c ∧
    v.first c < itemFirst q + itemAmount q)

/-- Use of a count resource by a slice (11 R357, R373). -/
def State.countUse (s : State) (i code : Nat) : Nat :=
  let u := s.lookup
  match code with
  | 1 => liveSum fibCost (fun k => s.spaceOwner k.vrf = i) u.fib
  | 2 => liveSum exactCost (fun k => s.exactOwner k.1 k.2.toNat = i) u.exact
  | 3 => poolSum (fun g => s.owner 0x0B g = i) u.ecmp
  | 4 => s.bufferUse i
  | 7 => s.shareSum i
  | _ => 0

/-- A mask or profile of a live epoch names a bank for a slice (11 R360). -/
def State.bankNamedBy (s : State) (i b : Nat) : Bool :=
  s.lookup.profiles.any fun e =>
    let on (p : Option AclProfile) : Bool := match p with
      | some p => p.mask.getLsbD b
      | none => false
    s.owner 0x0E e.1 = i && (on e.2.cur || on (e.2.pend.bind id) || on (e.2.old.bind id))

/-- The item may not be granted to a slice (11 R353, R354, R360). -/
def State.quotaRefused (s : State) (i : Nat) (q : QuotaItem) : Bool :=
  let c := itemCode q
  match resource c with
  | some (.count, _, _) =>
    let sum := (s.liveSlices.filter (· ≠ i)).foldl (fun n j => n + (s.slice j).amount c) (quotaAmount q)
    decide (i = 0) || decide (capacity c < sum)
  | some (.setting, _, _) => decide (i = 0 ∧ c = 8)
  | some (k, _, _) =>
    let others := (s.liveSlices.filter (· ≠ i)).any fun j => itemMeets q (s.slice j)
    let mine := (s.configured c).filter fun x => s.owner c x = i
    let taken := (s.configured c).any fun x => itemCovers q x && decide (s.owner c x = 0) &&
      (decide (c ≠ 0x14) || (s.port x).byZero)
    let portsUp := c = 0x14 && (List.range 192).any fun p => itemCovers q p && decide ((s.port p).state ≠ .disabled)
    let left := mine.any fun x => !itemCovers q x
    let banks := k = .mask && (List.range 32).any fun b =>
      bit ((s.slice i).amount c) b && !itemCovers q b && s.bankNamedBy i b
    decide (i = 0) || others || taken || portsUp || left || banks
  | none => false

/-- A mask names a logical bank that the variant lacks (11 R352). -/
def State.noBank (s : State) (q : QuotaItem) : Bool :=
  decide (itemCode q = 0x0D) && (maskBits (itemAmount q) 32).any fun b => decide (s.variant.logical ≤ b)

/-- The checks of a quota list, for its parameter (11 R350-R354, R360). -/
def State.quotaChecks (s : State) (i : Nat) (qs : List QuotaItem) (param : Nat) :
    List (Bool × Reject) × List (Bool × Reject) × List (Bool × Reject) :=
  ([malformed (qs.any badQuota || !noTwice (qs.map itemCode)) param], [noObj (qs.any s.noBank) param],
    qs.map fun q => notPermitted (s.quotaRefused i q) param (itemCode q))

/-! ## Creating and changing (11 R346, R354, R359-R362) -/

/-- SLICE.CREATE (11 R346, R350-R355; 10 R316). -/
def execSliceCreate (l : LetterId) (slice pasid : W32) (quotas : ListArg QuotaItem) (letters receipts : W64) (depth : W32)
    (s : State) : Host.Outcome State Fault Refusal :=
  let ps := [p4 slice, p4 pasid, pL quotas, p8 letters, p8 receipts, p4 depth]
  .next (runLetter l 0x0F01 ps (fun _ =>
    let i := slice.toNat
    checked [malformed (decide (i < 1) || decide (63 < i)) 0, malformed (decide (1048575 < pasid.toNat)) 1,
      malformed (decide (quotas.count.toNat < 1) || decide (25 < quotas.count.toNat)) 2,
      malformed (decide (letters.toNat % 4096 ≠ 0)) 3, malformed (decide (receipts.toNat % 4096 ≠ 0)) 4,
      malformed (badDepth depth) 5] fun _ =>
    withList quotas fun qs =>
    let (six, seven, eleven) := s.quotaChecks i qs 2
    let sameP := (0 :: s.liveSlices).any fun j => decide ((s.slice j).pasid.toNat = pasid.toNat)
    checked (six ++ seven ++ [busy (decide ((s.slice i).st ≠ .absent)) 0, notPermitted sameP 1] ++ eleven) fun _ =>
    let held := qs.any fun q => decide (itemCode q = 8) && decide (itemAmount q = 0)
    let v : Slice := { st := if held then .held else .active, pasid := BitVec.ofNat 20 pasid.toNat, held := held, heldAt := s.up }
    let t := (s.setSlice i (v.grant qs)).setRing i 0 {
      st := .running, letters := letters, receipts := receipts, depth := depth.toNat }
    accept t (quotaApplied qs) (firstClamp [(2, quotaClamped qs)])) s)

/-- A slice's hold begins at acceptance (11 R361). -/
def State.holdSlice (s : State) (i : Nat) (l : LetterId) : State :=
  s.modSlice i fun v => { v with
    held := true, heldAt := s.up, holdLetter := some l, st := if v.st = .active then .held else v.st }

/-- A slice's hold is released: what was held is written again (11 R362, R372). -/
def State.releaseSlice (s : State) (i : Nat) : State :=
  let v := s.slice i
  let s := s.bump .sliceHeldNs i 0 1 (s.up - v.heldAt)
  let s := (List.range 8).foldl (fun s r => s.setRing i r { s.ring i r with owed := (s.ring i r).ready.length }) s
  let s := s.setEvRing i { s.evRing i with owed := (s.evRing i).queue.length }
  (s.setSlice i { v with held := false, holdLetter := none, st := if v.st = .held then .active else v.st }).release?
    v.holdLetter

/-- SLICE.SET_SHARE (11 R350-R355, R358-R362, R371). -/
def execSliceSetShare (l : LetterId) (slice : W32) (quotas : ListArg QuotaItem) (s : State) : Host.Outcome State Fault Refusal :=
  .next (runLetter l 0x0F02 [p4 slice, pL quotas] (fun _ =>
    let i := slice.toNat
    checked [malformed (decide (63 < i)) 0,
      malformed (decide (quotas.count.toNat < 1) || decide (25 < quotas.count.toNat)) 1] fun _ =>
    withList quotas fun qs =>
    let (six, seven, eleven) := s.quotaChecks i qs 1
    let v := s.slice i
    checked (six ++ [noObj (decide (v.st = .absent)) 0] ++ seven ++ [busy (decide (v.st = .resetting)) 0] ++ eleven) fun _ =>
    let t := s.setSlice i (v.grant qs)
    let ask := (qs.find? fun q => itemCode q = 8).map itemAmount
    let body := quotaApplied qs
    let cl := firstClamp [(1, quotaClamped qs)]
    match ask with
    | some 0 => if v.held then accept t body cl else acceptWait (t.holdSlice i l) body cl
    | some _ => accept (if v.held then t.releaseSlice i else t) body cl
    | none => accept t body cl) s)

/-- No transfer of a slice is in flight (11 R361, R363): its channels are at their boundaries. -/
def State.sliceQuiet (s : State) (i : Nat) : Bool :=
  (List.range 64).all fun c => decide (s.chanOwner c ≠ i) || (s.chan c).quiet

/-- SLICE_HOLD_QUIESCED (11 R361). -/
def execSliceHoldQuiesced (slice : Fin 64) (s : State) : Host.Outcome State Fault Refusal :=
  let i := slice.val
  let v := s.slice i
  .next (match v.holdLetter with
    | some l => if v.held ∧ s.sliceQuiet i then (s.setSlice i { v with holdLetter := none }).release l else s
    | none => s)

/-! ## Resetting (11 R363-R366) -/

/-- Channels of a slice that are not CLOSED. -/
def State.sliceChans (s : State) (i : Nat) : List Nat :=
  (List.range 64).filter fun c => s.chanOwner c = i ∧ (s.chan c).st ≠ .closed

/-- Step 1 of a reset (11 R363): the ports are disabled, the mirror sessions too, the channels stop at their boundaries. -/
def State.startReset (s : State) (i : Nat) (l : LetterId) : State :=
  let s := s.modSlice i fun v => { v with st := .resetting, resetLetter := some l, resetAt := s.up, resetStep := 2 }
  let ports := (s.line.ports.map (·.1)).filter fun p => s.owner 0x14 p = i
  let s := ports.foldl (fun s p =>
    let v := s.port p
    if v.state = .disabled ∨ v.disabling then s else s.setPort p { v with disabling := true }) s
  let mirrors := (s.buffers.mirrors.map (·.1)).filter fun m => s.owner 0x17 m = i
  let s := mirrors.foldl (fun s m => s.setMirror m { s.mirror m with enabled := false }) s
  (s.sliceChans i).foldl (fun s c =>
    let v := s.chan c
    if v.st = .running then s.setChan c { v with st := .stopping } else s) s

/-- Why the boot registers do not pass, in the code of `refuse`; 0 when they pass (19 R515). -/
def State.bootRefusal (s : State) : Nat :=
  let r := s.regs
  let d := bits r.bootRing.toNat 24 20
  if r.bootLetters.toNat % 4096 ≠ 0 ∨ r.bootReceipts.toNat % 4096 ≠ 0 then 1
  else if d < 6 ∨ 16 < d then 2
  else if ¬ s.courier.pasidOn then 3
  else if s.liveSlices.any fun i => (s.slice i).pasid.toNat = bits r.bootRing.toNat 19 0 then 4 else 0

/-- The boot ring starts from the `MOD_BOOT_` registers with zero counts, or is REFUSED (19 R515, 11 R346). Receipts
owed stay owed. -/
def State.startBoot (s : State) : State :=
  let g := s.ring 0 0
  let n := s.bootRefusal
  if n = 0 then
    let s := s.setRing 0 0 {
      st := .running, letters := s.regs.bootLetters, receipts := s.regs.bootReceipts
      depth := 2 ^ bits s.regs.bootRing.toNat 24 20, ready := g.ready, reserved := g.reserved - g.retake.length }
    let s := s.modSlice 0 fun v => { v with pasid := BitVec.ofNat 20 s.regs.bootRing.toNat }
    { s with regs := { s.regs with enable := true, refuse := 0 } }.clearFault 0x0A02 0
  else
    { s.setRing 0 0 { g with st := .refused } with regs := { s.regs with enable := false, refuse := n } }

/-- The faults of a slice's letter rings and event ring end (10 R321, R342). -/
def State.endRingFaults (s : State) (i : Nat) : State :=
  (List.range 9).foldl (fun s r => s.clearFault 0x0A02 (256 * i + r)) s

/-- A slice's letter side as a reset leaves it: rings 1-7 closed, the event ring undefined, the ledger empty, ring 0 at
zero counts, the boot ring's from its registers (11 R363 step 5, R366; 19 R515). -/
def State.clearLetters (s : State) (i : Nat) : State :=
  let s := (List.range 7).foldl (fun s r => s.setRing i (r + 1) {}) s
  let g := s.ring i 0
  let s := if g.st = .closed then s.setRing i 0 {}
    else if i = 0 then (s.setRing 0 0 {}).startBoot
    else s.setRing i 0 { st := .running, letters := g.letters, receipts := g.receipts, depth := g.depth }
  let s := ((s.setEvRing i {}).setLedger i {}).endRingFaults i
  { s with letters := { s.letters with
      inband := nset [] i [] s.letters.inband, replies := nset [] i [] s.letters.replies
      lastRing := nerase i s.letters.lastRing } }

/-- The reset of slice 0 (11 R366): only its side in host memory; the letter's own receipt will be entry 0, and its `seq`
is all that the ledger holds. -/
def State.resetZero (s : State) (l : LetterId) : State :=
  let s := (s.sliceChans 0).foldl (fun s c => s.closeChan c) s
  let s := (s.clearLetters 0).setLedger 0 { high := some l.seq }
  s.setRing 0 0 { s.ring 0 0 with reserved := 1 }

/-- No epoch is pending, being released or sequenced. -/
def State.epochFree (s : State) : Bool := s.epoch.pending.isNone && s.epoch.releasing.isNone && s.epoch.seq.isNone

/-- The checks and the effect of a reset (11 R363, R366). -/
def State.resetVerdict (s : State) (l : LetterId) (i : Nat) (block : List Byte) : Verdict :=
  let v := s.slice i
  let other := s.liveSlices.any fun j => decide ((s.slice j).st = .resetting)
  checked [malformed (decide (63 < i)) 0,
    busy (decide (i ≠ 0) && (!s.epochFree || other || !(v.st = .active || v.st = .held || v.st = .cleared))) 0] fun _ =>
  if i = 0 then accept (s.resetZero l) block else acceptWait (s.startReset i l) block

/-- The receipt of a reset of slice 0 is written on ring 0, whichever ring brought the letter (11 R366). -/
def State.zeroReceipt (s : State) (l : LetterId) (slice : W32) : State :=
  if slice ≠ 0#32 then s
  else match s.entry l with
    | some e => (match e.via with
        | .ring _ => if e.st = .accepted ∧ e.opcode.toNat = 0x0F03 then s.setEntry l { e with via := .ring 0 } else s
        | .inband .. => s)
    | none => s

/-- SLICE.RESET (11 R363-R366). -/
def execSliceReset (l : LetterId) (slice : W32) (s : State) : Host.Outcome State Fault Refusal :=
  let t := runLetter l 0x0F03 [p4 slice] (fun _ => s.resetVerdict l slice.toNat (layBody [p4 slice])) s
  .next (if (s.claimed l 0x0F03 [p4 slice]).isSome then t.zeroReceipt l slice else t)

/-- The table items of a slice as deletions (11 R363 step 4). -/
def State.sliceItems (s : State) (i : Nat) : List TableRecord :=
  let u := s.lookup
  let w (n : Nat) : W32 := BitVec.ofNat 32 n
  let mine (c x : Nat) : Bool := s.owner c x = i
  let rows := (List.range s.variant.logical).flatMap fun b =>
    if mine 0x0D b then
      let ps := ((u.rows.filter fun e => e.1 / 8192 = b).map fun e => e.1 % 8192) ++
        (u.overrides.filter fun o => o.bank = b).map (·.p)
      let ps := ps.eraseDups.filter fun p => (s.servedBy b p s.curOdd).isSome && (!s.isWide b || decide (p % 2 = 0))
      ps.map fun p => TableRecord.aclDelete (w b) (w p)
    else []
  rows ++
  ((u.fib.filter fun e => e.2.cur.isSome && mine 0x09 e.1.vrf).map fun e =>
    TableRecord.routeDelete (w e.1.vrf) (w (if e.1.v6 then 6 else 4)) e.1.pfx (w e.1.plen)) ++
  ((u.exact.filter fun e => e.2.cur.isSome && decide (s.exactOwner e.1.1 e.1.2.toNat = i)).map fun e =>
    TableRecord.exactDelete (w e.1.1) e.1.2) ++
  ((u.ecmp.filter fun e => e.2.cur.isSome && mine 0x0B e.1).map fun e => TableRecord.ecmpDelete (w e.1)) ++
  ((u.nh.filter fun e => e.2.cur.isSome && mine 0x0A e.1).map fun e => TableRecord.nhDelete (w e.1)) ++
  ((u.policers.filter fun e => e.2.cur.isSome && mine 0x0C e.1).map fun e => TableRecord.policerDelete (w e.1))

/-- Step 4 of a reset (11 R363): the deletions run as a sequenced change with S of 200 us, the first at once. -/
def State.startDeletions (s : State) (i : Nat) : State :=
  match sequenceOrder (s.sliceItems i) with
  | [] => s.modSlice i fun v => { v with resetStep := 5 }
  | rs =>
    let s := s.modSlice i fun v => { v with resetStep := 4 }
    let n := s.epoch.current + 1#16
    let s := s.openEpoch n
    let (s, rest) := s.nextChunk rs
    let q : SeqChange := { first := n, rest := rest, spacing := 200000, reset := true, owner := i }
    let s := { s with epoch := { s.epoch with seq := some q, commit := some { t := 0, spacing := 200000 } } }
    s.switchEpoch s.units

/-- Step 3 of a reset (11 R363, R365): what is left is squashed, counted and raised. -/
def State.squash (s : State) (i w r : Nat) : State :=
  let v := s.slice i
  let s := (s.sliceChans i).foldl (fun s c => s.boundary c) s
  let late := if s.up < v.resetAt + 2000000 ∧ ¬ v.held then [] else List.range 8
  let s := late.foldl (fun s k => s.setRing i k { s.ring i k with ready := [] }) s
  let s := if w = 0 then s else s.bump .sliceSquashWrites i 0 w
  let s := if r = 0 then s else s.bump .sliceSquashReads i 0 r
  let s := if w + r = 0 then s else s.raise 0x0B01 i (w + r * 2 ^ 32) 0 i
  s.modSlice i fun v => { v with resetStep := 3 }

/-- SLICE_QUIESCENCE (11 R363 steps 3 and 4, R365; 13 R400): at quiescence, at T + 2 ms, or at once for a held slice, what is left
is squashed; the deletions start once no epoch is in the way. `squashedWrites` and `squashedReads` count the transfers
left. -/
def execSliceQuiescence (squashedWrites squashedReads : BitVec 32) (s : State) : Host.Outcome State Fault Refusal :=
  .next (if s.pm.active.isNone then s else
    match s.slices.find? fun e => e.2.st = .resetting ∧ (e.2.resetStep = 2 ∨ e.2.resetStep = 3) with
    | none => s
    | some (i, v) =>
      if v.resetStep = 2 ∧ ¬ s.sliceQuiet i ∧ ¬ v.held ∧ s.up < v.resetAt + 2000000 then s
      else
        let s := if v.resetStep = 2 then s.squash i squashedWrites.toNat squashedReads.toNat else s
        if s.epochFree then s.startDeletions i else s)

/-- Step 5 of a reset (11 R363). -/
def State.clearSlice (s : State) (i : Nat) : State :=
  let own (c : Nat) (x : Nat) : Bool := s.owner c x = i
  let qs := (s.queues.queues.map (·.1)).filter fun q => s.queueOwner q = i
  let s := qs.foldl (fun s q => s.flushQueue q (s.queue q).packets.length) s
  let s := qs.foldl (fun s q => s.release? (s.queue q).flush) s
  let s := qs.foldl (fun s q => s.sparseFree queueFamilies q) s
  let u := s.queues
  let level (k : Nat) : Nat := k / 2 ^ 20
  let res (k : Nat) : Nat := levelCode (level k)
  let id (k : Nat) : Nat := if level k = 0 then k % 2 ^ 20 + 131072 else k % 2 ^ 20
  let gateless (v : PortQ) : PortQ := { v with
    gates := [], gatesIn := [], gatesPage := {}, gatesStart := 0, gateIdx := 0, gateAt := 0, gatesT := 0 }
  let s : State := { s with
    queues := { u with
      queues := u.queues.filter fun e => e.1 ∉ qs
      nodes := u.nodes.filter fun e => !own (res e.1) (id e.1)
      lengths := u.lengths.filter fun e => !own 0x16 e.1
      ports := u.ports.map fun (e : Nat × PortQ) => if own 0x14 e.1 then (e.1, gateless e.2) else e
      credited := u.credited.filter fun q => q ∉ qs }
    buffers := { s.buffers with
      admissions := s.buffers.admissions.filter fun e => !own 0x15 e.1
      mirrors := s.buffers.mirrors.filter fun e => !own 0x17 e.1 }
    lookup := { s.lookup with
      profiles := s.lookup.profiles.filter fun e => !own 0x0E e.1
      selects := s.lookup.selects.filter fun e => !own 0x0E e.1 }
    fabric := { s.fabric with mgroups := s.fabric.mgroups.filter fun e => !own 0x18 e.1 } }
  let s : State := (s.sliceChans i).foldl (fun s c => s.closeChan c) s
  (s.clearLetters i).bankPower

/-- SLICE_RESET_CLEAR (11 R363 steps 5 and 6, R364; 13 R400). -/
def execSliceResetClear (s : State) : Host.Outcome State Fault Refusal :=
  .next (if s.pm.active.isNone then s else match s.slices.find? fun e => e.2.st = .resetting ∧ e.2.resetStep = 5 with
    | none => s
    | some (i, v) =>
      let s := s.clearSlice i
      (s.modSlice i fun v => { v with st := .cleared, resetStep := 0, resetLetter := none }).release? v.resetLetter)

/-- SLICE.DELETE (11 R349). -/
def execSliceDelete (l : LetterId) (slice : W32) (s : State) : Host.Outcome State Fault Refusal :=
  .next (runLetter l 0x0F04 [p4 slice] (fun _ =>
    let i := slice.toNat
    checked [malformed (decide (i < 1) || decide (63 < i)) 0, busy (decide ((s.slice i).st ≠ .cleared)) 0] fun _ =>
    let s := if (s.slice i).held then s.bump .sliceHeldNs i 0 1 (s.up - (s.slice i).heldAt) else s
    let s := ((s.setSlice i (Slice.initial i)).setRing i 0 {}).setLedger i {}
    let s := (s.setEvRing i {}).endRingFaults i
    accept { s with mgmt := { s.mgmt with bindings := s.mgmt.bindings.filter fun b => b.1 ≠ i } }
      (layBody [p4 slice])) s)

/-! ## In-band bindings (10 R323) -/

/-- SLICE.BIND_INBAND (10 R323): a slice has one bound peer; the peer of another slice is not permitted. -/
def execSliceBindInband (l : LetterId) (slice : W32) (address : Ip) (udpPort : W32) (s : State) :
    Host.Outcome State Fault Refusal :=
  .next (runLetter l 0x0F05 [p4 slice, pBe address.toNat 16, p4 udpPort] (fun _ =>
    let i := slice.toNat
    let p := clampU 32 udpPort.toNat 1 65535 ((s.mgmt.bindings.find? fun b => b.1 = i).map (·.2.2))
    checked [malformed (decide (63 < i)) 0, noKeep p 2, noObj (decide ((s.slice i).st = .absent)) 0,
      notPermitted (s.mgmt.bindings.any fun b => decide (b.1 ≠ i ∧ b.2.1 = address ∧ b.2.2 = p.v)) 1] fun _ =>
    let bs := (s.mgmt.bindings.filter fun b => b.1 ≠ i) ++ [(i, address, p.v)]
    accept { s with mgmt := { s.mgmt with bindings := bs } } (layBody [p4 slice, pBe address.toNat 16, n4 p.v])
      (firstClamp [(2, p.c)])) s)

/-! ## Dirty-page logging (11 R367-R370) -/

/-- The module's last update of a bitmap: the bytes whose pages were marked, under slice 0's PASID (11 R367, R369). -/
def State.writeBitmap (s : State) (addr : W64) (pages : List Nat) : State :=
  ((pages.map (· / 8)).eraseDups).foldl (fun s j =>
    let v := (pages.filter fun p => p / 8 = j).foldl (fun n p => n ||| 2 ^ (p % 8)) 0
    s.emit (.hostWrite 0 (addr + BitVec.ofNat 64 j) [BitVec.ofNat 8 v] false)) s

/-- End the use of a slice's bitmap; a bus error on its last update stops logging (11 R369, R370). -/
def State.endBitmap (s : State) (i : Nat) (busOk : Bool) : State :=
  let v := s.slice i
  match v.dirty with
  | none => s
  | some (addr, _) =>
    let s := s.setSlice i { v with dirty := none, pages := [], beyond := 0 }
    if busOk then s.writeBitmap addr v.pages
    else ((s.modSlice i fun v => { v with dirtyStopped := true }).bump .sliceDirtyFault i).raise 0x0B02 i addr.toNat 0 i

/-- SLICE.DIRTY_LOG (11 R367-R371; notes/assumptions/151.md). -/
def execSliceDirtyLog (l : LetterId) (slice enable : W32) (bitmap size : W64) (busOk : Bool) (s : State) :
    Host.Outcome State Fault Refusal :=
  .next (runLetter l 0x0F06 [p4 slice, p4 enable, p8 bitmap, p8 size] (fun _ =>
    let i := slice.toNat
    let v := s.slice i
    let on := enable = 1#32
    let n := size.toNat
    checked [malformed (decide (63 < i)) 0, malformed (decide (1 < enable.toNat)) 1,
      malformed (on && (decide (n % 4096 ≠ 0) || decide (n < 4096) || decide (2 ^ 30 < n))) 3,
      noObj (decide (v.st = .absent)) 0, busy (decide (v.st = .resetting)) 0,
      busy (on && s.slices.any fun e => e.2.dirty.any fun d => d.1 = bitmap) 2] fun _ =>
    let t := s.endBitmap i busOk
    let failed := v.dirty.isSome && !busOk
    let t := if on && !failed then
        t.modSlice i fun v => { v with dirty := some (bitmap, n), dirtyStopped := false, pages := [], beyond := 0 }
      else t
    accept t (layBody [p4 slice, p4 enable, p8 bitmap, p8 size, n8 v.beyond])) s)

/-! ## Status (11 R373) -/

/-- State code of SLICE.STATUS (11 R373). -/
def SliceSt.code : SliceSt → Nat
  | .absent => 0 | .active => 1 | .held => 2 | .resetting => 3 | .cleared => 4

/-- What SLICE.STATUS reports of a resource (11 R373). -/
def State.quotaUse (s : State) (i code : Nat) : Nat :=
  let v := s.slice i
  match resource code with
  | some (.count, _, _) => s.countUse i code
  | some (.setting, _, _) => if code = 8 then b2n (!v.held) else v.amount code
  | some _ => ((s.configured code).filter fun x => s.owner code x = i).length
  | none => 0

/-- SLICE.STATUS (11 R373). -/
def execSliceStatus (l : LetterId) (slice : W32) (s : State) : Host.Outcome State Fault Refusal :=
  .next (runLetter l 0x0F07 [p4 slice] (fun c =>
    let i := slice.toNat
    let v := s.slice i
    checked [malformed (decide (63 < i)) 0, noObj (decide (c.sl ≠ 0 ∧ c.sl ≠ i)) 0] fun _ =>
    let flags := b2n v.dirty.isSome + 2 * b2n v.dirtyStopped
    accept s (leBytes v.st.code 1 ++ leBytes flags 1 ++ leBytes 0 2 ++ leBytes v.pasid.toNat 4 ++
      (List.range 25).flatMap fun k => leBytes (s.quotaUse i (k + 1)) 8)) s)

end Sys2Proof.Machine
end

