-- ==== Sys2Proof/Machine/Telemetry.lean ====
section
/-!
DEFINITION. Telemetry.lean: the collector's sweep, reading counters, snapshots, tagging and the trace ledger
(15 R432-R447).
-/

namespace Sys2Proof.Machine

/-! ## The sweep (15 R433, R438, R439) -/

/-- SWEEP_START (15 R438): at a whole multiple of 8 ms of station time the collector starts a sweep. -/
def execSweepStart (s : State) : Host.Outcome State Fault Refusal :=
  .next (if ¬ s.powered ∨ s.tel.sweep.isSome ∨ ¬ s.crossed 8000000 ∨ s.tel.sweepAt = some s.up then s
    else { s with tel := { s.tel with sweep := some 0, sweepAt := some s.up } })

/-- SWEEP_READ (15 R433, R438, R439): the collector reads and clears the next bank counter, adds it to its accumulator
and stamps it, counter i at 9 i Depot cycles of 1.8 GHz, 5 i ns, from the sweep's start. -/
def execSweepRead (s : State) : Host.Outcome State Fault Refusal :=
  .next (match s.tel.sweep with
    | none => s
    | some i =>
      if s.up < s.tel.sweepAt.getD 0 + 5 * i then s else
      let a := { (s.accum i).with i (s.bankCount i) with stamp := some s.ns }
      let last := decide (counterSpan ≤ i + 1)
      let t : State := { s with tel := { s.tel with
        bank := nset {} i {} s.tel.bank, acc := nset {} i a s.tel.acc, sweep := if last then none else some (i + 1) } }
      if last then t.bump .telSweeps else t)

/-! ## Entries (15 R440, R441) -/

/-- Families counted per port, bank, profile, session and channel, with the resource that owns their objects
(15 R441; 11 R356). -/
def ownedFamilies : List (Nat × List Fam) := [
  (0x14, [.rxOk, .txOk, .rxRunt, .rxOversize, .rxFcs, .rxFecDiscard, .rxNotUp, .rxPause, .txFcsInverted, .fecCorrected,
    .fecUncorrectable, .fecSymbols, .fecHistogram, .portDown, .intakeOverflow, .intakeParseError, .intakeTruncated,
    .ctInStarted, .ctInPoisoned, .ctEgStarted, .ctEgAborted, .schGateGuard, .schPausedNs, .arbGrants, .arbStop,
    .portHoldExpired, .arbTableFull, .arbReqInvalid, .arbReqStale]),
  (0x0D, [.aclSearches, .aclWait, .aclSteals, .aclRowCheck]), (0x0E, [.aclProfileOff]),
  (0x17, [.mirrorCopies, .mirrorDrop]),
  (0x19, [.curDescDone, .curBytesToHost, .curBytesFromHost, .curWaitSpace, .curPuntClosed, .curDoorbellBad, .curBusFault])]

/-- A family holds an index. -/
def Fam.covers (f : Fam) (i : Nat) : Bool := decide (f.base ≤ i ∧ i < f.base + f.objs * f.elems)

/-- Level and number of a node from its index among the scheduler's counters. -/
def indexNode (i : Nat) : Nat × Nat :=
  if i < 65536 then (1, i) else if i < 81920 then (2, i - 65536) else if i < 86016 then (3, i - 81920) else (4, i - 86016)

/-- The slice that owns a counter's object; slice 0 has every other counter (15 R441; 11 R356). -/
def State.counterOwner (s : State) (i : Nat) : Nat :=
  if 131072 ≤ i ∧ i < 1179648 then s.queueOwner ((i - 131072) / 2)
  else if Fam.schMinSel.covers i ∨ Fam.schExcessSel.covers i then
    let n := indexNode ((i - Fam.schMinSel.base) % Fam.schMinSel.objs)
    s.owner (levelCode n.1) n.2
  else
    match ownedFamilies.findSome? fun g => (g.2.find? fun f => f.covers i).map fun f => (g.1, (i - f.base) / f.elems) with
    | some (code, obj) => if code = 0x19 ∧ 64 ≤ obj then 0 else s.owner code obj
    | none => 0

/-- A slice may read a counter of the index space (15 R441). -/
def State.mayRead (s : State) (sl i : Nat) : Bool := sl = 0 || (decide (131072 ≤ i) && decide (s.counterOwner i = sl))

/-- TELEMETRY.READ_COUNTERS (15 R440, R441): the accumulators as the last sweep left them. -/
def execTelemetryReadCounters (l : LetterId) (first count : W32) (result : W64) (busOk : Bool) (s : State) :
    Host.Outcome State Fault Refusal :=
  .next (runLetter l 0x1201 [p4 first, p4 count, p8 result] (fun c =>
    let f := first.toNat
    let n := count.toNat
    checked [malformed (decide (counterSpan ≤ f)) 0, malformed (decide (n = 0 ∨ 65536 < n)) 1,
      noObj (decide (counterSpan < f + n) || (List.range n).any fun k => !s.mayRead c.sl (f + k)) 0] fun _ =>
    let bytes := (List.range n).flatMap fun k =>
      let a := s.accum (f + k)
      counterEntry a.count a.sum a.stamp (f + k)
    withResult c result bytes busOk s fun s => accept (s.clearPeaks f n) []) s)

/-! ## Snapshots (15 R442, R443) -/

/-- A range item breaks its layout (15 R442). -/
def badRange (r : W64) : Bool :=
  let n := rangeCount r
  decide (1 < rangeSpace r) || decide (n = 0) || decide (16384 < n) || decide (bits r.toNat 36 21 ≠ 0) ||
  (decide (rangeSpace r = 0) && decide (rangeFamily r ≠ 0)) ||
  (decide (rangeSpace r = 1) && decide (rangeFamily r = 0 ∨ 15 < rangeFamily r))

/-- A range names a counter that the slice may not read or that does not exist (15 R441). -/
def State.noRange (s : State) (sl : Nat) (r : W64) : Bool :=
  let f := rangeFirst r
  let n := rangeCount r
  if rangeSpace r = 0 then decide (counterSpan < f + n) || (List.range n).any fun k => !s.mayRead sl (f + k)
  else decide (524288 < f + n) || (decide (sl ≠ 0) && (List.range n).any fun k => s.queueOwner (f + k) ≠ sl)

/-- The first whole multiple of 10 us at least 10 us after now, in station ns (15 R442). -/
def State.snapshotTime (s : State) : Nat := (s.units + 10000 * 65536 + 10000 * 65536 - 1) / (10000 * 65536) * 10000

/-- TELEMETRY.SNAPSHOT (15 R442, R443). -/
def execTelemetrySnapshot (l : LetterId) (ranges : ListArg W64) (result : W64) (s : State) :
    Host.Outcome State Fault Refusal :=
  let n := ranges.count.toNat
  .next (runLetter l 0x1202 [pL ranges, p8 result] (fun c =>
    checked [malformed (decide (n = 0 ∨ 64 < n)) 0] fun _ =>
    withList ranges fun rs =>
    checked [malformed (rs.any badRange || decide (16384 < rs.foldl (fun n r => n + rangeCount r) 0)) 0,
      noObj (rs.any fun r => s.noRange c.sl r) 0, busy s.tel.snapshot.isSome] fun _ =>
    let ts := s.snapshotTime
    acceptWait { s with tel := { s.tel with snapshot := some { letter := c.l, ts := ts, ranges := rs, result := result } } }
      (leBytes (time96 (ts * 65536)) 16)) s)

/-- SNAPSHOT_LATCH (15 R442, R443): once every counter named has been latched at Ts, the entries are written and the
letter is done. -/
def execSnapshotLatch (s : State) : Host.Outcome State Fault Refusal :=
  let s := s.latchSnapshot
  .next (match s.tel.snapshot with
    | none => s
    | some p =>
      match p.latched with
      | none => s
      | some bytes =>
        if ¬ s.mayRequest p.letter.slice then s
        else
          let t : State := { s with tel := { s.tel with snapshot := none } }
          ((t.hostWrite p.letter.slice p.result bytes).bump .telSnapshots).release p.letter)

/-! ## Tagging and tracing (15 R444-R447) -/

/-- TELEMETRY.SET_TAGGING (15 R444). -/
def execTelemetrySetTagging (l : LetterId) (ratio : W32) (s : State) : Host.Outcome State Fault Refusal :=
  .next (runLetter l 0x1203 [p4 ratio] (fun _ =>
    let q := clampU 32 ratio.toNat 1 65536 (some s.tel.ratio)
    checked [noObj s.variant.ledger 0] fun _ =>
    accept { s with tel := { s.tel with ratio := q.v } } (layBody [n4 q.v]) (firstClamp [(0, q.c)])) s)

/-- TELEMETRY.SET_TRACE (15 R445; notes/assumptions/156.md). -/
def execTelemetrySetTrace (l : LetterId) (benches filter mode : W32) (s : State) : Host.Outcome State Fault Refusal :=
  .next (runLetter l 0x1204 [p4 benches, p4 filter, p4 mode] (fun _ =>
    let f := filter.toNat
    checked [malformed (decide (bits f 20 0 ≠ 0 ∨ bits f 22 21 = 3)) 1, malformed (decide (2 < mode.toNat)) 2,
      noObj (!s.variant.ledger) 0, noObj (bit f 23 && decide (191 < bits f 31 24)) 1] fun _ =>
    accept { s with tel := { s.tel with
        benches := benches, filter := filter, mode := mode.toNat
        recording := if mode = 0#32 then s.tel.recording else mode.toNat } }
      (layBody [p4 benches, p4 filter, p4 mode])) s)

/-- The ledger's or tag buffer's header and entries, oldest first (15 R447). -/
def State.traceBytes (s : State) : List Byte :=
  let es := if s.variant.ledger then s.tel.trace else s.tel.tags
  let header := es.length * 2 ^ 224 + s.sec % 2 ^ 32 * 2 ^ 192 + s.nsec * 2 ^ 160 + s.tel.skipped % 2 ^ 32 * 2 ^ 128 +
    b2n (!s.variant.ledger) * 2 ^ 120
  leBytes header 32 ++ es.flatMap fun e => leBytes e.toNat 32

/-- The ledger or tag buffer is emptied (15 R447). -/
def State.emptyTrace (s : State) : State :=
  { s with tel := if s.variant.ledger then { s.tel with trace := [], skipped := 0 }
    else { s.tel with tags := [], skipped := 0 } }

/-- TELEMETRY.READ_TRACE (15 R447): the ledger, or the tag buffer, is written out and emptied. -/
def execTelemetryReadTrace (l : LetterId) (result : W64) (busOk : Bool) (s : State) : Host.Outcome State Fault Refusal :=
  .next (runLetter l 0x1205 [p8 result] (fun c =>
    withResult c result s.traceBytes busOk s fun s => accept s.emptyTrace []) s)

end Sys2Proof.Machine
end

