-- ==== Sys2Proof/Machine/Power.lean ====
section
/-!
DEFINITION. Power.lean: the input, the rails and power domains, temperature and throttling, PMBus and the FRU EEPROM,
the references, and the POWER letters (16 R450-R466; 10 R344, group 0x13).
-/

namespace Sys2Proof.Machine

/-- Change the power unit. -/
def State.modPower (s : State) (f : PowerUnit → PowerUnit) : State := { s with power := f s.power }

/-! ## PMBus status (16 R463) -/

/-- Conditions that PMBus status reports, in the model's order: 0 input below `input_low`, 1 above `input_high`, 2 input
power above the cap, 3 alert, 4 throttle and 5 shutdown temperature reached, 6 an unsupported command, 7 no power
good. -/
def State.pmbusCond (s : State) (n : Nat) : Bool :=
  match n with
  | 0 => decide (s.power.vin < s.power.inputLow)
  | 1 => decide (s.power.inputHigh < s.power.vin)
  | 2 => s.power.thrCap
  | 3 => decide (s.power.tempAlert < s.hottest)
  | 4 => s.power.thrTemp
  | 5 => decide (110 ≤ s.hottest)
  | 7 => !s.power.rails
  | _ => false

/-- Latch the warnings that hold now. -/
def State.latchStatus (s : State) : State :=
  s.modPower fun p => { p with pmbus := ([0, 1, 2, 3, 4, 5].filter fun n =>
    s.pmbusCond n && !p.pmbus.contains n) ++ p.pmbus }

/-- A status word of the conditions latched or held among some. -/
def statusOf (conds : List (Nat × Bool)) : BitVec 16 :=
  conds.foldl (fun w c => if c.2 then w ||| BitVec.ofNat 16 (2 ^ Config.pmbusBit c.1) else w) 0#16

/-- A condition is latched. -/
def State.latched (s : State) (n : Nat) : Bool := s.power.pmbus.contains n

/-- Answer a PMBus or EEPROM read; none is a NACK, as while the housekeeping controller restarts (16 R463). -/
def State.answer (s : State) (v : Option (BitVec 16)) : State :=
  s.modPower fun p => { p with pmbusData := if s.hkAnswers then v else none }

/-- STATUS_WORD (16 R463): input, temperature, CML and power-good status. -/
def execStatusWord (s : State) : Host.Outcome State Fault Refusal :=
  .next (s.answer (some (statusOf [(8, s.latched 0 || s.latched 1 || s.latched 2),
    (9, s.latched 3 || s.latched 4 || s.latched 5), (6, s.latched 6), (7, s.pmbusCond 7)])))
/-- STATUS_INPUT (16 R463). -/
def execStatusInput (s : State) : Host.Outcome State Fault Refusal :=
  .next (s.answer (some (statusOf [(0, s.latched 0), (1, s.latched 1), (2, s.latched 2)])))
/-- STATUS_TEMPERATURE (16 R463). -/
def execStatusTemperature (s : State) : Host.Outcome State Fault Refusal :=
  .next (s.answer (some (statusOf [(3, s.latched 3), (4, s.latched 4), (5, s.latched 5)])))
/-- READ_VIN (16 R463), the reading in thousandths of a volt. -/
def execReadVin (s : State) : Host.Outcome State Fault Refusal := .next (s.answer (some (Config.linear11 s.power.vin)))
/-- READ_IIN (16 R463), in thousandths of an ampere. -/
def execReadIin (s : State) : Host.Outcome State Fault Refusal := .next (s.answer (some (Config.linear11 s.power.iin.toNat)))
/-- READ_TEMPERATURE_1 (16 R463): the hottest junction of the dies, in thousandths of a degree. -/
def execReadTemperature1 (s : State) : Host.Outcome State Fault Refusal :=
  .next (s.answer (some (Config.linear11 (1000 * s.hottestDie))))
/-- READ_TEMPERATURE_2 (16 R463): the hottest stack. -/
def execReadTemperature2 (s : State) : Host.Outcome State Fault Refusal :=
  .next (s.answer (some (Config.linear11 (1000 * s.hottestStack))))
/-- READ_PIN (16 R463), in thousandths of a watt. -/
def execReadPin (s : State) : Host.Outcome State Fault Refusal := .next (s.answer (some (Config.linear11 (100 * s.power.pin))))
/-- PMBUS_REVISION (16 R463). -/
def execPmbusRevision (s : State) : Host.Outcome State Fault Refusal := .next (s.answer (some 0x33#16))
/-- PMBUS_UNSUPPORTED (16 R463): a NACK, and CML is set. -/
def execPmbusUnsupported (code : Byte) (s : State) : Host.Outcome State Fault Refusal :=
  let _ := code
  .next ((s.modPower fun p => { p with
    pmbus := if s.hkAnswers ∧ ¬ p.pmbus.contains 6 then 6 :: p.pmbus else p.pmbus }).answer none)
/-- PMBUS_CLEAR_FAULTS (16 R463): the latched bits whose condition has ended clear. -/
def execPmbusClearFaults (s : State) : Host.Outcome State Fault Refusal :=
  .next ((s.modPower fun p => { p with pmbus := if s.hkAnswers then p.pmbus.filter s.pmbusCond else p.pmbus }).answer
    (if s.hkAnswers then s.power.pmbusData else none))
/-- FRU_EEPROM_READ (16 R463). -/
def execFruEepromRead (offset : BitVec 13) (s : State) : Host.Outcome State Fault Refusal :=
  .next (s.answer (some ((Config.fruByte offset.toNat).setWidth 16)))

/-! ## The input (16 R450, R470) -/

/-- The rails start once `PWR_EN` is asserted, the housekeeping controller runs and nothing holds them off (16 R455,
R462, R470 step 4). -/
def State.startRails (s : State) : State :=
  let p := s.power
  if p.pwrEn ∧ p.hkUp ∧ p.aon ∧ ¬ p.rails ∧ ¬ p.thermalOff then { s with power := { p with rising := true } } else s

/-- Power-on: `VDD_AON` starts, and the reset causes are cleared but for `power_on` (16 R469, R470). -/
def State.powerOn (s : State) : State :=
  s.modPower fun p => { p with
    aon := true, riseAt := s.up, cause := 1#9, overVolt := false, overSince := none, thermalOff := false
    thermalArmed := false, pmbus := [], pmbusData := none }

/-- The input faults follow the input (16 R450). -/
def State.inputFaults (s : State) : State :=
  let v := s.power.vin
  let s := s.soleCondition 0x1001 v (s.power.aon && decide (33000 < v ∧ v < 36000))
  s.soleCondition 0x1002 v (s.power.aon && decide (75000 < v ∧ v ≤ 80000))

/-- INPUT_RISE (16 R450, R470): the input rises through 35 V. -/
def execInputRise (s : State) : Host.Outcome State Fault Refusal :=
  .next (if s.power.aon ∨ s.power.overVolt then s
    else (s.powerOn.modPower fun p => { p with vin := max p.vin 35000 }).inputFaults)

/-- HOUSEKEEPING_BOOT (16 R470 steps 2 and 3): domain 0 comes into service; a `PWR_EN` asserted earlier takes effect. -/
def execHousekeepingBoot (s : State) : Host.Outcome State Fault Refusal :=
  .next (if ¬ s.power.aon ∨ s.power.hkUp then s
    else ((s.setDomain 0 true).modPower fun p => { p with hkUp := true, hkAt := p.riseAt }).startRails)

/-- INPUT_VOLTAGE_BAND (16 R450, R460): the input has crossed a band or an alert threshold. -/
def execInputVoltageBand (millivolts : BitVec 17) (s : State) : Host.Outcome State Fault Refusal :=
  let v := millivolts.toNat
  .next ((s.modPower fun p => { p with
    vin := v, overSince := if p.overVolt ∧ v ≤ 76000 then some (p.overSince.getD s.up) else none }).inputFaults.latchStatus)

/-- UNDERVOLTAGE_LOCKOUT (16 R450): the input has fallen to 33 V. -/
def execUndervoltageLockout (s : State) : Host.Outcome State Fault Refusal :=
  .next (if s.power.aon then (s.inputOff 1).modPower fun p => { p with vin := 33000 } else s)

/-- OVERVOLTAGE_SHUTDOWN (16 R450): the input is above 80 V and conversion stops. -/
def execOvervoltageShutdown (s : State) : Host.Outcome State Fault Refusal :=
  .next (if s.power.aon then
      (s.inputOff 2).modPower fun p => { p with vin := max p.vin 80001, overVolt := true, overSince := none }
    else s)

/-- OVERVOLTAGE_RECOVERY (16 R450): the input has stayed at or below 76 V for 100 ms. -/
def execOvervoltageRecovery (s : State) : Host.Outcome State Fault Refusal :=
  .next (match s.power.overSince with
    | some t => if s.power.overVolt ∧ t + 100000000 ≤ s.up ∧ 35000 ≤ s.power.vin then s.powerOn.inputFaults else s
    | none => s)

/-! ## Rails (16 R453, R455, R462) -/

/-- PWR_EN_ASSERT (16 R455, R462). -/
def execPwrEnAssert (s : State) : Host.Outcome State Fault Refusal :=
  .next (if s.power.pwrEn then s
    else
      let back := s.power.thermalOff && s.power.thermalArmed && decide (s.hottest < 90)
      (s.modPower fun p => { p with
        pwrEn := true, thermalOff := p.thermalOff && !back, thermalArmed := false }).startRails)

/-- PWR_EN_DEASSERT (16 R455). -/
def execPwrEnDeassert (s : State) : Host.Outcome State Fault Refusal :=
  .next (
    let t := if s.power.rails ∨ s.power.rising then s.railsOff 4 else s
    t.modPower fun p => { p with pwrEn := false, thermalArmed := p.thermalOff })

/-- POWER_GOOD (16 R455, R471): the last main rail is within tolerance; stage RESET starts. -/
def execPowerGood (s : State) : Host.Outcome State Fault Refusal :=
  .next (if s.power.rising then
      s.modPower fun p => { p with rails := true, rising := false, good := some s.up, stage := .reset, elapsed := none
                                   startCause := 0 }
    else s)

/-- THERMAL_SHUTDOWN (16 R462): the hottest junction has reached 110 degrees. -/
def execThermalShutdown (s : State) : Host.Outcome State Fault Refusal :=
  .next (if 110 ≤ s.hottest ∧ (s.power.rails ∨ s.power.rising) then
      (s.railsOff 3).modPower fun p => { p with thermalOff := true, thermalArmed := false }
    else s)

/-! ## Power domains (16 R456-R458) -/

/-- The request that the power stage serves: the oldest. While the module is headless the stage holds every domain as
it stands, so only the arbiter's switching of a postmaster's domain goes on (16 R457; 13 R406, R409;
notes/assumptions/159.md). -/
def State.nextRequest (s : State) : Option (Nat × Bool × Nat) :=
  if s.headless then s.power.requests.find? fun r => decide (146 ≤ r.1) else s.power.requests.head?

/-- DOMAIN_SWITCH_COMPLETE (16 R457): the request in service ends and the next is served. While the power controller
moves to a new image, no domain switches (14 R424). -/
def execDomainSwitchComplete (s : State) : Host.Outcome State Fault Refusal :=
  .next (match s.nextRequest with
    | some r =>
      if ¬ s.powered ∨ s.movingStep 3 then s
      else (s.modPower fun p => { p with requests := p.requests.erase r }).setDomain r.1 r.2.1
    | none => s)

/-- A pass that loses its bench leaves no packet; later ones of its port go on (04 R121). -/
def State.losePass (s : State) (k : Nat) : State :=
  let v := s.slotAt k
  let s := (s.freeBlocks v.port v.blocks).abandon v
  let f : Finished := { port := v.port, egress := v.egress, seqNo := v.seqNo }
  let s := { s with clerks := { s.clerks with finished := s.clerks.finished ++ [f] } }
  (s.setSlot k {}).skipSeq v.port v.egress s.clerks.finished.length

/-- The packets that lie in a stack whose power failed are lost, with every request for it (16 R458;
notes/assumptions/143.md). -/
def State.stackLost (s : State) (i : Nat) : State :=
  let inStack (p : Packet) : Bool := match p.placed with
    | some x => decide (bufTier x.buf = 1) && decide (bufPch x.buf / 64 = i)
    | none => false
  let s := s.onPackets fun p => if inStack p then { p with lost := true, fetching := false } else p
  { s with buffers := { s.buffers with writeBehind := s.buffers.writeBehind.filter fun e => e.1 / 64 ≠ i } }

/-- What the failure of a domain does to its unit (16 R458). -/
def State.unitFails (s : State) (d : Nat) : State :=
  if 1 ≤ d ∧ d ≤ 32 then
    let b := d - 1
    let l := (s.bench b).letter
    let s := ((s.clerks.slots.filter fun e => e.1 / 96 = b ∧ e.2.st ≠ .free).map (·.1)).foldl State.losePass s
    let s := (s.endReload b).setBench b { s.bench b with st := .off, enabled := false, letter := none }
    ((s.condition 0x0403 b true).release? l).updateMap
  else if 33 ≤ d ∧ d ≤ 56 then
    (List.range 8).foldl (fun s j => s.portFault (8 * (d - 33) + j) .lockLoss) s
  else if 57 ≤ d ∧ d ≤ 88 then
    (List.range 8).foldl (fun s j =>
      let i := 8 * (d - 57) + j
      let v := s.link i
      if v.st = .up then s.linkDown i 0
      else if v.st = .off then s else s.setLink i { v with st := .down, since := s.up, agree := 0 }) s
  else if 89 ≤ d ∧ d ≤ 96 then
    let i := d - 89
    let s := (s.setStack i { s.stack i with window := none }).stackLost i
    (stackPchs i).foldl (fun s c => (s.setPch c (s.pch c).off).condition 0x0903 c true) s
  else if 97 ≤ d ∧ d ≤ 129 then
    let p := d - 97
    let v := s.phys p
    (s.setPhys p { v with st := .failed }).raise 0x0501 p v.logical (sev := some 2)
  else if 130 ≤ d ∧ d ≤ 141 then
    let g := d - 130
    let clients := (List.range 4).flatMap (s.flexeClients g) ++ [0, 1].flatMap (s.otuClients g)
    clients.foldl (fun s p => s.portFault p .lockLoss) s
  else if 142 ≤ d ∧ d ≤ 145 then
    if (s.d2dLink (d - 142)).up then s.d2dDown (d - 142) else s
  else if d = 146 ∨ d = 147 then
    s.modPost (if d = 146 then .a else .b) fun v => { v with role := .off, synced := false, ackSince := none, limited := true }
  else s

/-- The variant has the unit that a domain serves (16 R456; 00 R6). -/
def Variant.hasDomain (v : Variant) (d : Nat) : Bool :=
  if 1 ≤ d ∧ d ≤ 32 then d - 1 < v.benches
  else if 33 ≤ d ∧ d ≤ 56 then d - 33 < v.octets
  else if 57 ≤ d ∧ d ≤ 88 then 8 * (d - 57) < v.links
  else if 89 ≤ d ∧ d ≤ 96 then d - 89 < v.hbmStacks
  else if 97 ≤ d ∧ d ≤ 129 then d - 97 < v.banks
  else if 130 ≤ d ∧ d ≤ 141 then v.envelope
  else true

/-- DOMAIN_FAILURE (16 R458): a domain that is on, or is being switched on, misses tolerance and goes off. Domain 0 is
never switched. -/
def execDomainFailure (domain : Fin 148) (s : State) : Host.Outcome State Fault Refusal :=
  let d := domain.val
  onUnit (s.variant.hasDomain d) (
    if d = 0 ∨ (¬ s.domain d ∧ ¬ s.asked d true) then s
    else
      let s := (s.modPower fun p => { p with requests := p.requests.filter fun r => r.1 ≠ d }).setDomain d false
      (s.raise 0x1003 d).unitFails d)

/-! ## Temperature and throttling (16 R460, R461) -/

/-- TEMPERATURE_CHANGE (16 R460, R461): a sensor's reading changes. -/
def execTemperatureChange (reading : TempReading) (s : State) : Host.Outcome State Fault Refusal :=
  let r : Nat × BitVec 8 := match reading with
    | .sorter t => (0, t) | .depot t => (1, t) | .hbm i t => (2 + i.val, t) | .postmaster p t => (10 + pmIdx p, t)
  let t := s.modPower fun p => { p with temps := nset 0 r.1 r.2.toNat p.temps }
  .next (t.modPower fun p => { p with
    thrTemp := decide (103 ≤ t.hottest) || (p.thrTemp && decide (98 < t.hottest)) }).throttleFault.latchStatus

/-- POWER_CAP_CHECK (16 R461): the input power averaged over 1 ms, in 0.1 W. -/
def execPowerCapCheck (tenthWatts : BitVec 16) (s : State) : Host.Outcome State Fault Refusal :=
  let v := tenthWatts.toNat
  let p := s.power
  let low := decide (v * 10 < p.cap * 95)
  let since := p.capLow.getD s.up
  .next (State.throttleFault { s with power :=
    if p.cap * 10 < v then { p with pin := v, thrCap := true, capLow := none }
    else if ¬ p.thrCap ∨ ¬ low then { p with pin := v, capLow := none }
    else if since + 10000000 ≤ s.up then { p with pin := v, thrCap := false, capLow := none }
    else { p with pin := v, capLow := some since } }).latchStatus

/-- THROTTLE_N_CHANGE (16 R461). -/
def execThrottleNChange (asserted : Bool) (s : State) : Host.Outcome State Fault Refusal :=
  .next (s.modPower fun p => { p with thrPin := asserted }).throttleFault

/-! ## Telemetry and the POWER letters (16 R464) -/

/-- `POWER.READ` result (16 R464). -/
def State.powerRead (s : State) : List Byte :=
  let p := s.power
  leBytes p.vin 4 ++ leBytes p.iin.toNat 4 ++ leBytes p.pin 4 ++ leBytes p.cap 4 ++ leBytes s.powerFlags 4 ++
  leBytes s.hottest 4 ++
  ((List.range 8).flatMap fun i => let r := p.railTel.getD i (0#32, 0#32); leBytes r.1.toNat 4 ++ leBytes r.2.toNat 4) ++
  leBytes (p.domains.toNat % 2 ^ 148) 20 ++ leBytes 0 4

/-- TELEMETRY_MIRROR_UPDATE (19 R513; 14 R424): the housekeeping controller rewrites `PWR_TELEMETRY`; the row carries
the currents and rails it has read. -/
def execTelemetryMirrorUpdate (iin : W32) (rails : List (W32 × W32)) (s : State) : Host.Outcome State Fault Refusal :=
  .next (if ¬ s.power.hkUp ∨ s.movingStep 2 then s
    else
      let t := s.modPower fun p => { p with iin := iin, railTel := rails }
      t.modPower fun p => { p with mirror := BitVec.ofNat 192 (leNat (t.powerRead.take 24)) })

/-- POWER.READ (16 R464). -/
def execPowerRead (l : LetterId) (s : State) : Host.Outcome State Fault Refusal :=
  .next (runLetter l 0x1301 [] (fun _ => accept s s.powerRead) s)

/-- POWER.SET_CAP (16 R461). -/
def execPowerSetCap (l : LetterId) (cap : W32) (s : State) : Host.Outcome State Fault Refusal :=
  .next (runLetter l 0x1302 [p4 cap] (fun _ =>
    let q := clampU 32 cap.toNat 800 1650 (some s.power.cap)
    accept (s.modPower fun p => { p with cap := q.v }) (layBody [n4 q.v]) (firstClamp [(0, q.c)])) s)

/-- POWER.SET_ALERT (16 R460). -/
def execPowerSetAlert (l : LetterId) (inputLow inputHigh temp : W32) (s : State) : Host.Outcome State Fault Refusal :=
  .next (runLetter l 0x1303 [p4 inputLow, p4 inputHigh, p4 temp] (fun _ =>
    let a := clampU 32 inputLow.toNat 36000 75000 (some s.power.inputLow)
    let b := clampU 32 inputHigh.toNat 36000 75000 (some s.power.inputHigh)
    let t := clampU 32 temp.toNat 70 105 (some s.power.tempAlert)
    accept (s.modPower fun p => { p with inputLow := a.v, inputHigh := b.v, tempAlert := t.v }).latchStatus
      (layBody [n4 a.v, n4 b.v, n4 t.v]) (firstClamp [(0, a.c), (1, b.c), (2, t.c)])) s)

end Sys2Proof.Machine
end

