-- ==== Sys2Proof/Machine/Startup.lean ====
section
/-!
DEFINITION. Startup.lean: start-up from power good to READY, with the settings applied, the references, the resets and
the PCI Express configuration space (16 R466-R474; 11 R345; 12 R375, R385; 14 R430).
-/

namespace Sys2Proof.Machine

/-- Milliseconds since power good, 24 bits (16 R474). -/
def State.elapsedNow (s : State) : Nat :=
  match s.power.good with
  | some t => (s.up - t) / 1000000 % 2 ^ 24
  | none => 0

/-- Start-up fails with a cause (16 R473, R474). -/
def State.failStart (s : State) (cause : Nat) : State :=
  s.modPower fun p => { p with stage := .failed, startCause := cause, elapsed := some s.elapsedNow }

/-! ## Stages (16 R471) -/

/-- The dies leave reset: their four links come up (16 R471; 01 R24). -/
def State.raiseD2d (s : State) : State :=
  [0, 1, 2, 3].foldl (fun s i => (s.setDomain (d2dDomain i) true).setD2d i { s.d2dLink i with up := true }) s

/-- STARTUP_RESET_DONE (16 R466, R471): fuses are read and the PLLs lock once the references are regained; both
postmasters boot and the enabled stacks power on. -/
def execStartupResetDone (s : State) : Host.Outcome State Fault Refusal :=
  let p := s.power
  .next (if p.stage ≠ .reset ∨ ¬ p.rails ∨ p.good.isNone ∨ p.resetN ∨ p.lost.getLsbD 0 ∨ p.lost.getLsbD 2 then s
    else
      let s := (s.modPower fun p => { p with stage := .boot }).raiseD2d
      let s := (List.range s.variant.hbmStacks).foldl (fun s i =>
        if (s.stack i).enabled then s.askDomain (89 + i) true else s) s
      (s.restartPm .a (s.activeBank 0)).restartPm .b (s.activeBank 0))

/-- STARTUP_SETTINGS_DONE (16 R471; 14 R430): the first postmaster past its boot self-test has taken its settings. -/
def execStartupSettingsDone (s : State) : Host.Outcome State Fault Refusal :=
  .next (if s.power.stage ≠ .settings then s
    else match [Pm.a, Pm.b].find? fun p => (s.post p).needsSettings && decide ((s.post p).role = .syncing) with
      | none => s
      | some p =>
        let t := s.checkDefaults (s.post p).bankB
        (t.modPower fun q => { q with stage := .build }).modPost p fun v => { v with needsSettings := false })

/-- The plane and capacity faults of every plane (08 R261, R272). -/
def State.planesChanged (s : State) : State := (List.range s.variant.planes).foldl (fun s k => s.linksChanged (16 * k)) s

/-- Every link of the variant is enabled and starts to align (08 R259; 16 R472). -/
def State.enableLinks (s : State) : State :=
  let s := (List.range s.variant.links).foldl (fun s i =>
    (s.setLink i { s.link i with enabled := true, st := .aligning, since := s.up }).askDomain (fabricDomain i) true) s
  s.planesChanged

/-- Enabled benches come up with the content of the boot record in the modes of the settings; without a record they run
mode P with no patch set (04 R147; 16 R471). -/
def State.startBenches (s : State) (x : Option Settings) : State :=
  let s := (List.range s.variant.benches).foldl (fun s b =>
    if ¬ (s.bench b).enabled then s
    else
      let s := s.setDomain (benchDomain b) true
      let s := match x with
        | some x => s.bootContent b (x.benchModes.getLsbD b)
        | none => s
      s.setBench b { s.bench b with st := .live }) s
  s.updateMap

/-- Ports take their settings; the enabled ones start (03 R89; 16 R471). -/
def State.startPorts (s : State) (ports : NMap Port) : State :=
  let native := ports.filter fun e => e.2.kind = .native
  let s := { s with line := { s.line with ports := native.map fun (e : Nat × Port) => (e.1, { e.2 with state := .disabled }) } }
  (native.filter fun e => e.2.state ≠ .disabled).foldl (fun s e => (s.startPort e.1).octetsOn (e.2.lanes e.1)) s

/-- Settings whose field is a register or table of their own unit (14, the settings store). -/
def State.putSettings (s : State) (x : Settings) : State :=
  { s with
    regs := { s.regs with moduleId := x.moduleId }
    epoch := { s.epoch with
      current := x.epoch, compatLow := (x.compat.map (·.1)).getD s.epoch.compatLow
      compatHigh := (x.compat.map (·.2)).getD s.epoch.compatHigh }
    clerks := { s.clerks with modeP := x.modeP, budget := x.budget }
    buffers := { s.buffers with
      granules := x.granules, classes := x.classes, admissions := x.admissions, dlqMask := x.dlq.1
      dlqReasons := x.dlq.2.1, dlqLimit := x.dlq.2.2.1, dlqSnap := x.dlq.2.2.2, ct := x.ct }
    queues := { s.queues with lengths := x.lengths, ports := x.portQ }
    line := { s.line with octets := x.octets, taps := x.taps }
    fabric := { s.fabric with
      taps := x.fabTaps, reasmTimeout := x.fabric.1, skewLimit := x.fabric.2.1, creditWd := x.fabric.2.2.1
      holdMax := x.fabric.2.2.2.1, packWait := x.fabric.2.2.2.2, grantSize := x.credit.1, mcRate := x.credit.2 }
    hbm := { s.hbm with panicNs := x.hbm.1, nbrN := x.hbm.2.1, retrainPeriod := x.hbm.2.2.1, srIdle := x.hbm.2.2.2 }
    time := { s.time with
      external := x.external, sources := x.sources, wtr := x.wtr, holdoverRate := x.holdoverRate, ptp := x.ptp }
    lookup := { s.lookup with seed := x.hash.1, hash := x.hash.2, period := x.period }
    mgmt := { s.mgmt with ports := x.mgmt, udp := x.udp }
    faults := { s.faults with masks := x.masks }
    power := { s.power with
      cap := x.cap, inputLow := x.alerts.1, inputHigh := x.alerts.2.1, tempAlert := x.alerts.2.2 } }

/-- The active applies the settings it has taken (16 R471, R472). -/
def State.applySettings (s : State) : State :=
  let taken := (s.takeSettings s.activeImage).map (·.1)
  let s := match taken with
    | some x => (s.putSettings x).startPorts x.ports
    | none => s
  let s := (s.startBenches taken).selectSource
  let s := (s.setDomain (97 + s.variant.logical) true).bankPower
  let s := if s.regs.moduleId.isNone then (s.condition 0x0002 noObject true).planesChanged else s.enableLinks
  s.d2dChanged

/-- STARTUP_APPLY_DONE (16 R471, R474): READY, or FAILED when the settings could not be applied. -/
def execStartupApplyDone (failed : Bool) (s : State) : Host.Outcome State Fault Refusal :=
  .next (if s.power.stage ≠ .apply ∨ s.pm.active = none then s
    else if failed then s.failStart 5
    else
      let s := s.applySettings
      s.modPower fun p => { p with stage := .ready, elapsed := some s.elapsedNow })

/-- Cause of a start-up that stands in a stage (16 R474). -/
def Stage.cause : Stage → Nat
  | .reset => 4 | .boot => 1 | .settings => 2 | .build => 3 | .apply => 5 | _ => 0

/-- STARTUP_TIMEOUT (16 R473): no postmaster is active 20 s after power good. -/
def execStartupTimeout (s : State) : Host.Outcome State Fault Refusal :=
  .next (match s.power.good with
    | some t =>
      if s.pm.active.isSome ∨ s.power.stage = .ready ∨ s.power.stage = .failed ∨ s.up < t + 20000000000 then s
      else s.failStart s.power.stage.cause
    | none => s)

/-! ## Resets (16 R467-R469) -/

/-- RESET_N_ASSERT (16 R467): `RESET_N` has been asserted for 10 us. -/
def execResetNAssert (s : State) : Host.Outcome State Fault Refusal :=
  let t := s.modPower fun p => { p with resetN := true }
  .next (if s.power.hkUp then t.wholeReset 5 else t)

/-- RESET_N_RELEASE (16 R467, R475): start-up goes on from power good. -/
def execResetNRelease (s : State) : Host.Outcome State Fault Refusal :=
  .next (if ¬ s.power.resetN then s
    else s.modPower fun p => { p with resetN := false, good := if p.rails then some s.up else p.good })

/-- HOUSEKEEPING_WATCHDOG (16 R463, R467): the controller alone restarts. -/
def execHousekeepingWatchdog (s : State) : Host.Outcome State Fault Refusal :=
  .next (if s.power.hkUp then (s.setCause 7).modPower fun p => { p with hkAt := s.up } else s)

/-- Every letter ring that runs stops, without a fault (16 R468). -/
def State.stopRings (s : State) : State :=
  (s.letters.rings.filter fun e => e.2.st = .running ∨ e.2.st = .closing).foldl (fun s e =>
    let sl := e.1 / 8
    let s := s.setRing sl (e.1 % 8) { s.ring sl (e.1 % 8) with st := .stopped, close := none }
    (s.event sl (s.mkEvent 0x30 (sl * 256 + e.1 % 8))).release? e.2.close) s

/-- Every open courier channel stops, without a fault (16 R468). -/
def State.stopChans (s : State) : State :=
  (s.courier.channels.filter fun e => e.2.st = .running ∨ e.2.st = .stopping).foldl (fun s e =>
    let o := s.chanOwner e.1
    let s := s.stopChan e.1
    s.event o (s.mkEvent 0x30 0 0 e.1)) s

/-- Kinds of PCIe reset in the order of R467. -/
def pcieKind : PcieResetKind → Nat
  | .perst => 0 | .hotReset => 1 | .linkDown => 2 | .flr => 3

/-- The endpoint resets (16 R468): the configuration space is at its reset values, rings and channels stop,
`FLT_PCIE_RESET` is raised once. -/
def State.pcieReset (s : State) (kind : Nat) : State :=
  let s := s.stopRings.stopChans
  let s := { s with
    courier := { s.courier with pasidOn := false, relaxed := true, maxPayload := 128, maxRead := 512 }
    regs := { s.regs with enable := false, msix := [], msixPending := 0#2048 } }
  (s.setCause 8).raise 0x1006 kind

/-- PCIE_RESET (16 R468). -/
def execPcieReset (kind : PcieResetKind) (s : State) : Host.Outcome State Fault Refusal :=
  .next (if s.power.hkUp then s.pcieReset (pcieKind kind) else s)

/-- CONFIGURATION_WRITE (11 R345; 12 R375, R385): the configuration space takes a field. -/
def execConfigurationWrite (field : ConfigField) (s : State) : Host.Outcome State Fault Refusal :=
  let u := s.courier
  .next (if ¬ s.power.hkUp then s
    else { s with courier := match field with
      | .pasidEnable on => { u with pasidOn := on }
      | .relaxedOrdering on => { u with relaxed := on }
      | .maxPayload code => { u with maxPayload := 128 * 2 ^ min 2 code.toNat }
      | .maxReadRequest code => if 5 < code.toNat then u else { u with maxRead := 128 * 2 ^ code.toNat } })

/-! ## References (16 R466) -/

/-- Number of a reference input (17 R486). -/
def refNumber : RefInput → Nat
  | .serdes => 0 | .pcie => 1 | .ref25m => 2 | .ref10m => 3

/-- Every SerDes PLL unlocks: ports and links go DOWN, die-to-die links too (16 R466; 01 R24; 03 R90; 08 R261). -/
def State.loseSerdes (s : State) : State :=
  let s := (List.range s.variant.lanes).foldl (fun s p => s.portFault p .lockLoss) s
  let s := s.upLinks.foldl (fun s i => s.linkDown i 0) s
  s.liveD2d.foldl (fun s i => s.d2dDown i) s

/-- REFERENCE_LOST (16 R466). A state that is LOCKED when the 10 MHz reference goes stays LOCKED: the manual says only that
the state cannot reach LOCKED without it (02 R43; notes/assumptions/120.md). -/
def execReferenceLost (input : RefInput) (s : State) : Host.Outcome State Fault Refusal :=
  let n := refNumber input
  .next (if s.power.lost.getLsbD n ∨ ¬ s.power.hkUp then s
    else
      let s := s.modPower fun p => { p with lost := p.lost ||| BitVec.ofNat 4 (2 ^ n) }
      let s := s.condition 0x1005 n true 0 0 (some (if n = 0 then 3 else 2))
      match input with
      | .serdes => s.loseSerdes
      | .pcie => s.pcieReset 2
      | _ => s)

/-- REFERENCE_REGAINED (16 R466). -/
def execReferenceRegained (input : RefInput) (s : State) : Host.Outcome State Fault Refusal :=
  let n := refNumber input
  .next (if ¬ s.power.lost.getLsbD n then s
    else (s.modPower fun p => { p with lost := p.lost &&& ~~~BitVec.ofNat 4 (2 ^ n) }).clearFault 0x1005 n)

end Sys2Proof.Machine
end

