-- ==== Sys2Proof/Machine/Faults.lean ====
section
/-!
DEFINITION. Faults.lean: the FAULT letters and the two timers of the fault log (17 R478-R484; 10 R344 group 0x14, R521).
-/

namespace Sys2Proof.Machine

/-! ## Reading records (17 R478, R483) -/

/-- Whole low seconds and nanoseconds of a time in station units, as a record gives them. -/
def recTime (units : Nat) : Nat :=
  units / 65536 / 1000000000 % 2 ^ 32 * 2 ^ 32 + units / 65536 % 1000000000

/-- A record in the layout of the fault log, as a 512-bit number (17 R478). -/
def FaultRec.word (r : FaultRec) : Nat :=
  r.record.toNat * 2 ^ 480 + r.code.toNat * 2 ^ 464 + r.severity % 4 * 2 ^ 462 + b2n r.active * 2 ^ 461 +
  b2n r.suppressed * 2 ^ 460 + b2n r.headless * 2 ^ 459 + r.paths.toNat * 2 ^ 455 + r.slice % 256 * 2 ^ 440 +
  r.object.toNat * 2 ^ 408 + r.seq.toNat * 2 ^ 376 + r.occurrences.toNat * 2 ^ 344 + r.detail.toNat * 2 ^ 256 +
  r.party.toNat * 2 ^ 224 + recTime r.first * 2 ^ 128 + recTime r.last * 2 ^ 64 + ((r.clear.map recTime).getD 0)

/-- Records that a slice may read: slice 0 all of them, another slice its own (17 R483). -/
def State.readable (s : State) (sl : Nat) : List FaultRec := s.faults.log.filter fun r => sl = 0 ∨ r.slice = sl

/-- A record number at or after `first`, numbers wrapping. -/
def atOrAfter (first n : W32) : Bool := decide ((n - first).toNat < 2 ^ 31)

/-- FAULT.READ (17 R483; 10 R521): at most `count` records from `first` go to the result address. -/
def execFaultRead (l : LetterId) (first count : W32) (result : W64) (busOk : Bool) (s : State) :
    Host.Outcome State Fault Refusal :=
  .next (runLetter l 0x1401 [p4 first, p4 count, p8 result] (fun c =>
    checked [malformed (decide (count.toNat < 1) || decide (4096 < count.toNat)) 1] fun _ =>
    let held := s.readable c.sl
    let out := (held.filter fun r => atOrAfter first r.record).take count.toNat
    let block := n4 out.length ++ n4 ((held.head?.map fun r => r.record.toNat).getD 0) ++
      n4 ((held.getLast?.map fun r => r.record.toNat).getD 0) ++ n4 0
    if out.isEmpty then accept s block
    else withResult c result (out.flatMap fun r => leBytes r.word 64) busOk s fun t => accept t block) s)

/-! ## Clearing and masking (17 R482, R483) -/

/-- A code the catalogue does not list (17 R486). -/
def reservedCode (code : W32) : Bool := (faultInfo code.toNat).isNone

/-- Active records of a code in a slice's scope (17 R483). -/
def State.activeOf (s : State) (sl code : Nat) : List FaultRec :=
  (s.readable sl).filter fun r => r.active && decide (r.code.toNat = code)

/-- FAULT.CLEAR (17 R483): every active latched record of the code in the sender's scope; BUSY while a condition record
of it persists. -/
def execFaultClear (l : LetterId) (code : W32) (s : State) : Host.Outcome State Fault Refusal :=
  .next (runLetter l 0x1402 [p4 code] (fun c =>
    let rs := s.activeOf c.sl code.toNat
    let latched := ((faultInfo code.toNat).map (·.latched)).getD true
    checked [malformed (reservedCode code) 0, busy (!latched && !rs.isEmpty) 0] fun _ =>
    accept (rs.foldl State.clearRec s) (layBody [p4 code])) s)

/-- FAULT.SET_MASK (17 R482): the receipt and postcard paths stand as in the catalogue, and `ALERT_N` stays for a code
that is always CRITICAL. -/
def execFaultSetMask (l : LetterId) (code paths : W32) (s : State) : Host.Outcome State Fault Refusal :=
  .next (runLetter l 0x1403 [p4 code, p4 paths] (fun _ =>
    let n := code.toNat
    let cat := BitVec.ofNat 4 (((faultInfo n).map (·.paths)).getD 0)
    let m := BitVec.ofNat 4 paths.toNat
    checked [malformed (reservedCode code) 0, malformed (decide (15 < paths.toNat)) 1,
      notPermitted (decide (m.getLsbD 0 ≠ cat.getLsbD 0) || decide (m.getLsbD 3 ≠ cat.getLsbD 3) ||
        (alwaysCritical n && !m.getLsbD 2)) 1] fun _ =>
    accept { s with faults := { s.faults with masks := nset cat n m s.faults.masks } } (layBody [p4 code, p4 paths])) s)

/-! ## Timers of the log (17 R480, R484) -/

/-- FAULT_EVENT_HOLDOFF_EXPIRY (17 R480): a second after the record's last event, a changed state is reported once. -/
def execFaultEventHoldoffExpiry (record : W32) (s : State) : Host.Outcome State Fault Refusal :=
  .next (s.report record)

/-- SUPPRESSION_GRACE_EXPIRY (17 R484): 100 ms after its parent cleared, a suppressed record still active is reported,
as if raised now. -/
def execSuppressionGraceExpiry (record : W32) (s : State) : Host.Outcome State Fault Refusal :=
  .next (match s.fault? record with
    | some r =>
      match r.graceAt with
      | some t =>
        if r.active ∧ r.suppressed ∧ t + 100000000 ≤ s.up then
          (s.setFault { r with
            suppressed := false, graceAt := none, paths := s.pathsTaken r.code.toNat r.severity false }).report record
        else s
      | none => s
    | none => s)

end Sys2Proof.Machine
end

