-- ==== Sys2Proof/Machine/Registers.lean ====
section
/-!
DEFINITION. Registers.lean: what each register of BAR0 reads, and the register accesses that act (19 R510-R518; 00
R12-R14; 02 R45, R59, R69, R73; 16 R469; 17 R488).
-/

namespace Sys2Proof.Machine

/-! ## What registers read -/

/-- `MOD_IDENT` (19). -/
def State.ident (s : State) : W32 :=
  BitVec.ofNat 32 (0x4CB00100 + match s.regs.moduleId with
    | some m => 128 + m.toNat
    | none => 0)

/-- `MOD_UNITS` (19 R514). -/
def Variant.units (v : Variant) : W64 :=
  BitVec.ofNat 64 (b2n v.ledger * 2 ^ 58 + b2n (!v.ledger) * 2 ^ 57 + b2n v.envelope * 2 ^ 56 + v.planes * 2 ^ 51 +
    v.octets * 2 ^ 46 + v.banks * 2 ^ 40 + (2 ^ v.hbmStacks - 1) * 2 ^ 32 + (2 ^ v.benches - 1))

/-- Code of a start-up stage (16 R474). -/
def Stage.code : Stage → Nat
  | .reset => 0 | .boot => 1 | .settings => 2 | .build => 3 | .apply => 4 | .ready => 5 | .failed => 6

/-- `MOD_START` (16 R474). -/
def State.startWord (s : State) : W32 :=
  let cause := if s.power.stage = .failed then s.power.startCause else 0
  BitVec.ofNat 32 (s.power.stage.code * 2 ^ 28 + cause * 2 ^ 24 + s.power.elapsed.getD s.elapsedNow)

/-- `MOD_BOOT_CTRL` (19): a ring that is stopping takes no letters and still reads RUNNING until it is STOPPED. -/
def State.bootCtrl (s : State) : W32 :=
  let st := match (s.ring 0 0).st with
    | .closed => 0 | .running => 1 | .closing => 1 | .stopped => 2 | .refused => 3
  let refuse := if st = 3 then s.regs.refuse else 0
  BitVec.ofNat 32 (st * 2 ^ 30 + refuse * 2 ^ 16 + b2n s.regs.enable)

/-- `FLT_SUMMARY` (17 R488). -/
def State.summary (s : State) : W32 :=
  let active := s.faults.log.filter (·.active)
  let highest := (active.filter fun r => !r.suppressed).foldl (fun m r => max m r.severity) 0
  BitVec.ofNat 32 (highest % 4 * 2 ^ 30 + b2n s.alertN * 2 ^ 29 + b2n s.faults.logFull * 2 ^ 28 +
    s.faults.waiting.length * 2 ^ 13 + active.length)

/-- `PM_ROLE` (13 R408). -/
def State.pmRole (s : State) : W32 :=
  let active := match s.pm.active with
    | some p => pmIdx p
    | none => 2
  BitVec.ofNat 32 (active * 2 ^ 30 + b2n s.pm.window.isSome * 2 ^ 29 + b2n s.pm.planned * 2 ^ 28 + s.pm.term.toNat)

/-- `TIM_STATUS` (19). -/
def State.timStatus (s : State) : W32 :=
  BitVec.ofNat 32 (s.time.state.code * 2 ^ 30 + b2n s.time.external * 2 ^ 29 + s.time.inUse.getD 0 % 4 * 2 ^ 27 +
    b2n s.time.inUse.isSome * 2 ^ 26 + b2n s.timeGood * 2 ^ 25 + s.boundNow)

/-- `CLK_STORE_MODE` (19). -/
def State.storeMode (s : State) : W64 :=
  let p := (List.range s.variant.benches).foldl (fun n b => n + b2n (s.bench b).modeP * 2 ^ b) 0
  BitVec.ofNat 64 (b2n s.clerks.modeP * 2 ^ 63 + p)

/-- `CLK_PATCH_LEVEL` of a bench (04 R146); zero for a bench that the variant lacks. -/
def State.patchLevel (s : State) (b : Nat) : W32 :=
  let v := s.bench b
  if s.variant.benches ≤ b then 0#32
  else
    let staged := if v.page.state = .empty then 0 else v.stagedLevel.toNat
    BitVec.ofNat 32 (v.level.toNat * 2 ^ 24 + staged * 2 ^ 16 + b2n v.modeP * 2 ^ 15 +
      (enabledMatches s.clerks.matchRegs b).length * 2 ^ 8 + b2n v.live * 2 ^ 7 + v.page.state.code)

/-- Code of a physical bank's state (05 R185). -/
def BankSt.code : BankSt → Nat
  | .inService => 0 | .source => 1 | .testing => 2 | .spare => 3 | .failed => 4 | .off => 5

/-- `ACL_BANK_MAP` of a physical bank (19, 05 R185); zero for a bank that the variant lacks. -/
def State.bankMap (s : State) (k : Nat) : W32 :=
  let v := s.phys k
  if s.variant.banks ≤ k then 0#32
  else
    let valid := v.st = .inService || v.st = .source || v.st = .off
    let since := match v.tested with
      | some t => min 0xFFFF ((s.up - t) / 60000000000)
      | none => 0xFFFF
    BitVec.ofNat 32 (v.st.code * 2 ^ 29 + b2n valid * (v.logical % 32) * 2 ^ 24 + b2n valid * 2 ^ 23 + since)

/-- `HBM_STACK_STATUS` of a stack (09 R313). -/
def State.stackStatus (s : State) (i : Nat) : W32 :=
  let v := s.stack i
  let count (p : PchSt → Bool) : Nat := ((stackPchs i).filter fun c => p (s.pch c).st).length
  if s.variant.hbmStacks ≤ i then 0#32
  else
    let st := if ¬ v.enabled then 1 else if ¬ v.active then 2 else if v.asleep then 4 else 3
    BitVec.ofNat 32 (st * 2 ^ 29 + count (· = .open_) * 2 ^ 22 + count (fun x => x = .failed || x = .draining) * 2 ^ 15 +
      (s.nextTurn i).getD 0 % 64 * 2 ^ 9 + s.stackTemp i % 256)

/-- Low (k = 0) or high (k = 1) word of a 64-bit register. -/
def half (v : W64) (k : Nat) : W32 := BitVec.ofNat 32 (v.toNat / 2 ^ (32 * k))

/-- Registers of domain 0 by offset (19 R513); zero where there is none. -/
def State.alwaysOnWord (s : State) (off : Nat) : W32 :=
  if off = 0x00 then s.ident
  else if off = 0x08 ∨ off = 0x0C then half s.variant.units (off / 4 % 2)
  else if off = 0x10 then s.startWord
  else if off = 0x20 ∨ off = 0x24 then half s.regs.bootLetters (off / 4 % 2)
  else if off = 0x28 ∨ off = 0x2C then half s.regs.bootReceipts (off / 4 % 2)
  else if off = 0x30 then s.regs.bootRing
  else if off = 0x34 then s.bootCtrl
  else if off = 0x1000 then s.power.cause.setWidth 32
  else if 0x1010 ≤ off ∧ off < 0x1024 then BitVec.ofNat 32 (s.power.domains.toNat % 2 ^ 148 / 2 ^ (32 * ((off - 0x1010) / 4)))
  else if 0x1040 ≤ off ∧ off < 0x1058 then BitVec.ofNat 32 (s.power.mirror.toNat / 2 ^ (32 * ((off - 0x1040) / 4)))
  else if off = 0x2000 then s.summary
  else if off = 0x3000 then s.pmRole
  else if off = 0x3008 ∨ off = 0x300C then half s.pm.a.health (off / 4 % 2)
  else if off = 0x3010 ∨ off = 0x3014 then half s.pm.b.health (off / 4 % 2)
  else 0#32

/-- Registers of the dies by offset (19 R513; notes/assumptions/158.md). -/
def State.dieWord (s : State) (off : Nat) : W32 :=
  if 0x10000 ≤ off ∧ off < 0x1000C then BitVec.ofNat 32 (s.time.latch.toNat / 2 ^ (32 * ((off - 0x10000) / 4)))
  else if off = 0x10010 then s.timStatus
  else if off = 0x10020 then s.time.todBad
  else if off = 0x10024 then s.time.pcBad
  else if off = 0x10028 then s.time.epochFar
  else if off = 0x1002C then s.time.subepochSlip
  else if off = 0x20000 ∨ off = 0x20004 then half s.storeMode (off / 4 % 2)
  else if 0x20100 ≤ off ∧ off < 0x20180 then s.patchLevel ((off - 0x20100) / 4)
  else if 0x30000 ≤ off ∧ off < 0x30084 then s.bankMap ((off - 0x30000) / 4)
  else if 0x40000 ≤ off ∧ off < 0x40020 then s.stackStatus ((off - 0x40000) / 4)
  else 0#32

/-- The dies are out of stage RESET (19 R511). -/
def State.diesUp (s : State) : Bool := s.power.rails && decide (s.power.stage ≠ .reset)

/-- What a 32-bit read of a BAR0 offset returns, before the effect that a read of `TIM_NOW` or an RC field has (19
R510-R513). -/
def State.regWord (s : State) (off : Nat) : W32 :=
  if ¬ s.power.hkUp ∨ off % 4 ≠ 0 then 0#32
  else if off < 0x10000 then s.alwaysOnWord off
  else if off < 0x50000 then (if s.diesUp then s.dieWord off else 0#32)
  else if 0x1000000 ≤ off ∧ off < 0x1008000 then s.msixWord ((off - 0x1000000) / 4)
  else if 0x1008000 ≤ off ∧ off < 0x1008100 then
    BitVec.ofNat 32 (s.regs.msixPending.toNat / 2 ^ (32 * ((off - 0x1008000) / 4)))
  else 0#32

/-- Doorbells of BAR2 (19 R517). -/
inductive Doorbell where
  | letter (slice ring : Nat)
  | receipt (slice ring : Nat)
  | event (slice : Nat)
  | place (channel : Nat)
  | consume (channel : Nat)
deriving DecidableEq, Repr

/-- The doorbell at a BAR2 offset; an aligned 32-bit write there is the doorbell's row, and any other access has no effect
(19 R517, R518). -/
def doorbellAt (off : Nat) : Option Doorbell :=
  let n := off / 0x10000
  let w := off % 0x10000
  if n < 64 then
    if w = 0x80 then some (.event n)
    else if w < 0x80 ∧ w % 16 = 0 then some (.letter n (w / 16))
    else if w < 0x80 ∧ w % 16 = 8 then some (.receipt n (w / 16))
    else none
  else if n < 128 then
    if w = 0 then some (.place (n - 64)) else if w = 8 then some (.consume (n - 64)) else none
  else none

/-! ## Accesses that act -/

/-- Give the data of a read. -/
def State.readAs (s : State) (v : W64) : State := { s with regs := { s.regs with readData := v } }

/-- TIM_NOW_LATCH (19 R516): the Depot's copy of station time is latched and its low bits return. -/
def execTimNowLatch (wide : Bool) (s : State) : Host.Outcome State Fault Refusal :=
  .next (if ¬ s.power.hkUp ∨ ¬ s.diesUp then s.readAs 0#64
    else
      let t := time96 s.units
      let s := { s with time := { s.time with latch := BitVec.ofNat 96 t } }
      s.readAs (BitVec.ofNat 64 (if wide then t else t % 2 ^ 32)))

/-- TIME_COUNTER_READ (00 R12, 19): the count returns and the field clears. -/
def execTimeCounterRead (which : TimeCounter) (s : State) : Host.Outcome State Fault Refusal :=
  let u := s.time
  .next (if ¬ s.power.hkUp ∨ ¬ s.diesUp then s.readAs 0#64
    else match which with
      | .todBad => { s with time := { u with todBad := 0#32 } }.readAs (u.todBad.setWidth 64)
      | .pcBad => { s with time := { u with pcBad := 0#32 } }.readAs (u.pcBad.setWidth 64)
      | .epochFar => { s with time := { u with epochFar := 0#32 } }.readAs (u.epochFar.setWidth 64)
      | .subepochSlip => { s with time := { u with subepochSlip := 0#32 } }.readAs (u.subepochSlip.setWidth 64))

/-- RESET_CAUSE_CLEAR (16 R469; 00 R12). -/
def execResetCauseClear (value : W32) (s : State) : Host.Outcome State Fault Refusal :=
  .next (if s.power.hkUp then s.modPower fun p => { p with cause := p.cause &&& ~~~value.setWidth 9 } else s)

/-- LOG_FULL_CLEAR (17 R488; 00 R12). -/
def execLogFullClear (value : W32) (s : State) : Host.Outcome State Fault Refusal :=
  .next (if s.power.hkUp ∧ value.getLsbD 28 then { s with faults := { s.faults with logFull := false } } else s)

/-- A write of `MOD_BOOT_CTRL` (19 R515). -/
def State.writeBootCtrl (s : State) (value : W32) : State :=
  let g := s.ring 0 0
  if ¬ s.power.hkUp then s
  else if value.getLsbD 0 then
    if g.st = .running ∨ g.st = .closing then s else s.startBoot
  else if g.st = .running then
    let s := s.setRing 0 0 { g with st := .closing }
    { s with regs := { s.regs with enable := false } }.ringDrained 0 0
  else { s with regs := { s.regs with enable := false } }

/-- BOOT_RING_ENABLE (19 R515). -/
def execBootRingEnable (value : W32) (s : State) : Host.Outcome State Fault Refusal := .next (s.writeBootCtrl value)
/-- BOOT_RING_DISABLE (19 R515). -/
def execBootRingDisable (value : W32) (s : State) : Host.Outcome State Fault Refusal := .next (s.writeBootCtrl value)

/-- The boot ring is RUNNING, stopping included, and its registers ignore writes (19 R515). -/
def State.bootLocked (s : State) : Bool := (s.ring 0 0).st = .running || (s.ring 0 0).st = .closing

/-- Replace the low (k = 0) or high (k = 1) word of a 64-bit register. -/
def withHalf (v : W64) (k : Nat) (w : W32) : W64 :=
  let lo := if k = 0 then w else v.setWidth 32
  let hi := if k = 0 then half v 1 else w
  BitVec.ofNat 64 (hi.toNat * 2 ^ 32 + lo.toNat)

/-- A write of one word of the MSI-X table: address, data, and the mask bit of vector control, the other bits of which
are reserved (19 R512; 11 R348). Unmasking a vector that is pending signals it. -/
def State.writeMsix (s : State) (entry word : Nat) (value : W32) : State :=
  let k := 4 * entry + word
  let v := if word = 3 then value &&& 1#32 else if word = 0 then value &&& 0xFFFFFFFC#32 else value
  let s := { s with regs := { s.regs with msix := nset (if word = 3 then 1#32 else 0#32) k v s.regs.msix } }
  if word = 3 ∧ ¬ v.getLsbD 0 ∧ s.regs.msixPending.getLsbD entry then
    State.signal { s with regs := { s.regs with
      msixPending := s.regs.msixPending &&& ~~~BitVec.ofNat 2048 (2 ^ entry) } } entry
  else s

/-- MSIX_TABLE_WRITE (19 R512). -/
def execMsixTableWrite (entry : Fin 2048) (word : Fin 4) (value : W32) (s : State) : Host.Outcome State Fault Refusal :=
  .next (if s.power.hkUp then s.writeMsix entry word value else s)

/-- A 32-bit write to a BAR0 offset (19 R510-R513): fields that no write changes and offsets without a register ignore
it, an RSV field too (00 R13). -/
def State.writeWord (s : State) (off : Nat) (w : W32) : State :=
  let r := s.regs
  if off = 0x20 ∨ off = 0x24 then
    if s.bootLocked then s else { s with regs := { r with bootLetters := withHalf r.bootLetters (off / 4 % 2) w } }
  else if off = 0x28 ∨ off = 0x2C then
    if s.bootLocked then s else { s with regs := { r with bootReceipts := withHalf r.bootReceipts (off / 4 % 2) w } }
  else if off = 0x30 then
    if s.bootLocked then s else { s with regs := { r with bootRing := w &&& 0x1FFFFFF#32 } }
  else if off = 0x34 then s.writeBootCtrl w
  else if off = 0x1000 then s.modPower fun p => { p with cause := p.cause &&& ~~~w.setWidth 9 }
  else if off = 0x2000 then (if w.getLsbD 28 then { s with faults := { s.faults with logFull := false } } else s)
  else if 0x1000000 ≤ off ∧ off < 0x1008000 then s.writeMsix ((off - 0x1000000) / 16) (off / 4 % 4) w
  else s

/-- REGISTER_WRITE (19 R510-R513): an aligned 32- or 64-bit write; a 64-bit one acts on both registers. No RW field of
the map has an encoding marked reserved, so 00 R14 never applies. -/
def execRegisterWrite (offset : BitVec 26) (wide : Bool) (value : W64) (s : State) : Host.Outcome State Fault Refusal :=
  let off := offset.toNat
  .next (if ¬ s.power.hkUp ∨ off % 4 ≠ 0 ∨ (wide ∧ off % 8 ≠ 0) then s
    else
      let s := s.writeWord off (half value 0)
      if wide then s.writeWord (off + 4) (half value 1) else s)

end Sys2Proof.Machine
end

