-- ==== Sys2Proof/Machine/Module.lean ====
section
/-!
DEFINITION. Module.lean: the MODULE letters (10 R316, R321, R324, R341, R344 group 0x01, R521; 02 R77; 13 R396; 14 R427;
16 R467, R472).
-/

namespace Sys2Proof.Machine

/-! ## Identity and the compatibility window -/

/-- MODULE.IDENTIFY (10 R521). -/
def execModuleIdentify (l : LetterId) (s : State) : Host.Outcome State Fault Refusal :=
  .next (runLetter l 0x0101 [] (fun _ =>
    let version (p : Nat) : Nat := if p = 3 ∧ ¬ s.variant.envelope then 0 else (s.bank p (s.activeBank p)).version
    accept s (p4 s.ident ++ n4 0 ++ p8 s.variant.units ++ leBytes Config.serial.toNat 12 ++ n4 0 ++
      (List.range 6).flatMap fun p => n4 (version p))) s)

/-- MODULE.SET_ID (16 R472): the first enables every link of the variant. -/
def execModuleSetId (l : LetterId) (moduleId : W32) (s : State) : Host.Outcome State Fault Refusal :=
  .next (runLetter l 0x0102 [p4 moduleId] (fun _ =>
    checked [malformed (decide (127 < moduleId.toNat)) 0,
      busy ((List.range s.variant.links).any fun i => decide ((s.link i).st ≠ .off)) 0] fun _ =>
    let first := s.regs.moduleId.isNone
    let t := if s.selfIsolated then s.clearFault 0x0204 s.myId else s
    let t : State := { t with regs := { t.regs with moduleId := some (BitVec.ofNat 7 moduleId.toNat) } }
    let t := if first then (t.clearFault 0x0002 noObject).enableLinks else t
    accept t.updateMap (layBody [p4 moduleId])) s)

/-- MODULE.SET_COMPAT (02 R75, R77): each peer, and the module itself, is held against the new window. -/
def execModuleSetCompat (l : LetterId) (low high : W32) (s : State) : Host.Outcome State Fault Refusal :=
  .next (runLetter l 0x0103 [p4 low, p4 high] (fun _ =>
    checked [malformed (decide (high.toNat < low.toNat)) 1] fun _ =>
    let t : State := { s with epoch := { s.epoch with compatLow := low, compatHigh := high, compatSet := true } }
    accept t.updateMap (layBody [p4 low, p4 high])) s)

/-! ## Rings -/

/-- A ring number of 1-7 (10 R344). -/
def ringNumber (ring : W32) : Bool × Reject := malformed (decide (ring.toNat < 1) || decide (7 < ring.toNat)) 0

/-- MODULE.OPEN_RING (10 R316, R321): a ring that is not open starts with both counts at zero. Receipts owed to letters
taken before it stopped stay owed. -/
def execModuleOpenRing (l : LetterId) (ring : W32) (letters receipts : W64) (depth : W32) (s : State) :
    Host.Outcome State Fault Refusal :=
  .next (runLetter l 0x0104 [p4 ring, p8 letters, p8 receipts, p4 depth] (fun c =>
    let r := ring.toNat
    let g := s.ring c.sl r
    checked [ringNumber ring, malformed (decide (letters.toNat % 4096 ≠ 0)) 1,
      malformed (decide (receipts.toNat % 4096 ≠ 0)) 2, malformed (badDepth depth) 3,
      busy (g.st = .running || g.st = .closing) 0] fun _ =>
    let t := s.setRing c.sl r {
      st := .running, letters := letters, receipts := receipts, depth := depth.toNat
      ready := g.ready, reserved := g.reserved - g.retake.length }
    accept (t.clearFault 0x0A02 (256 * c.sl + r)) (layBody [p4 ring, p8 letters, p8 receipts, p4 depth])) s)

/-- MODULE.CLOSE_RING (10 R344): an open ring takes no more letters and is closed once every letter taken has its
receipt; a stopped ring closes at once. -/
def execModuleCloseRing (l : LetterId) (ring : W32) (s : State) : Host.Outcome State Fault Refusal :=
  let t := runLetter l 0x0105 [p4 ring] (fun c =>
    let r := ring.toNat
    let g := s.ring c.sl r
    checked [ringNumber ring, noObj (g.st = .closed) 0, busy (g.st = .closing) 0] fun _ =>
    if g.st = .running then
      acceptWait (s.setRing c.sl r { g with st := .closing, close := some l }) (layBody [p4 ring])
    else
      accept ((s.setRing c.sl r {}).clearFault 0x0A02 (256 * c.sl + r)) (layBody [p4 ring])) s
  .next (if (s.ring l.slice ring.toNat).close ≠ some l ∧ (t.ring l.slice ring.toNat).close = some l then
    t.ringDrained l.slice ring.toNat else t)

/-- MODULE.SET_EVENT_RING (10 R341, R342): the ring restarts at entry 0; when events were discarded before it, the
first one it takes says so. -/
def execModuleSetEventRing (l : LetterId) (events : W64) (depth : W32) (s : State) : Host.Outcome State Fault Refusal :=
  .next (runLetter l 0x0106 [p8 events, p4 depth] (fun c =>
    let g := s.evRing c.sl
    checked [malformed (badDepth depth) 1] fun _ =>
    let t := s.setEvRing c.sl {
      defined := true, addr := events, depth := depth.toNat, queue := g.queue
      lost := g.lost || !g.defined || g.stopped }
    accept (t.clearFault 0x0A02 (256 * c.sl + 8)) (layBody [p8 events, p4 depth])) s)

/-! ## Reset and the management ports -/

/-- MODULE.RESET (13 R396; 14 R427; 16 R467): the resets follow the receipt. -/
def execModuleReset (l : LetterId) (kind : W32) (s : State) : Host.Outcome State Fault Refusal :=
  .next (runLetter l 0x0108 [p4 kind] (fun _ =>
    checked [malformed (decide (1 < kind.toNat)) 0,
      busy (kind = 0#32 && (s.images.act.st = .rolling || s.images.act.st = .rollingBack)) 0] fun _ =>
    if kind = 0#32 then accept { s with pm := { s.pm with resetPhase := 1 } } (layBody [p4 kind])
    else accept (s.modPower fun p => { p with resetAfter := some l }) (layBody [p4 kind])) s)

/-- Address length and gateway of one family break R324: `w` the width, the address, its length and range, the
gateway. Both are checked only against an address that is set; a gateway without one lies nowhere. -/
def badPlen (addr plen lo hi : Nat) : Bool := decide (addr ≠ 0) && (decide (plen < lo) || decide (hi < plen))
/-- See `badPlen`. -/
def badGateway (w addr plen gw : Nat) : Bool := decide (gw ≠ 0) && (decide (addr = 0) || !samePrefix w plen addr gw)

/-- MODULE.SET_MGMT (10 R324). -/
def execModuleSetMgmt (l : LetterId) (a : MgmtArgs) (s : State) : Host.Outcome State Fault Refusal :=
  let ps := [p4 a.port, p4 a.vlan, p4be a.ipv4, p4 a.ipv4Plen, p4be a.ipv4Gw, pBe a.ipv6.toNat 16, p4 a.ipv6Plen,
    pBe a.ipv6Gw.toNat 16]
  .next (runLetter l 0x0109 ps (fun _ =>
    checked [malformed (decide (1 < a.port.toNat)) 0, malformed (decide (4094 < a.vlan.toNat)) 1,
      malformed (badPlen a.ipv4.toNat a.ipv4Plen.toNat 8 30) 3,
      malformed (badGateway 32 a.ipv4.toNat a.ipv4Plen.toNat a.ipv4Gw.toNat) 4,
      malformed (badPlen a.ipv6.toNat a.ipv6Plen.toNat 48 128) 6,
      malformed (badGateway 128 a.ipv6.toNat a.ipv6Plen.toNat a.ipv6Gw.toNat) 7] fun _ =>
    let v : MgmtPort := {
      vlan := a.vlan.toNat, ipv4 := a.ipv4, ipv4Plen := a.ipv4Plen.toNat, ipv4Gw := a.ipv4Gw, ipv6 := a.ipv6
      ipv6Plen := a.ipv6Plen.toNat, ipv6Gw := a.ipv6Gw }
    accept { s with mgmt := { s.mgmt with ports := nset {} a.port.toNat v s.mgmt.ports } } (layBody ps)) s)

end Sys2Proof.Machine
end

