-- ==== Sys2Proof/Machine/Time.lean ====
section
/-!
DEFINITION. Time.lean: the TIME letters, the servo, PTP, 1PPS and ToD events, and postcards
(02 R37-R50, R72-R76; 08 R270, R288; 10 R344, R521).
-/

namespace Sys2Proof.Machine

/-! ## TIME letters -/

/-- Round a quotient to the nearest integer. -/
def roundDiv (n d : Int) : Int := (2 * n + d) / (2 * d)

/-- A trim in ppb as the counter holds it, in steps of 2^-40 ns per ns (02 R38). -/
def trimOf (ppb : Int) : Int := roundDiv (ppb * 2 ^ 40) 1000000000
/-- The trim in force in ppb. -/
def ppbOf (trim : Int) : Int := roundDiv (trim * 1000000000) (2 ^ 40)

/-- An item of the sources list is of a known kind and port (02 R42). -/
def sourceItemOk (v : SourceItem) : Bool :=
  (v.kind = 0#32 && (decide (v.port.toNat ≤ 191) || v.port = 256#32 || v.port = 257#32)) ||
  (v.kind = 1#32 && v.port = 0#32)

/-- A listed source, with what is known of it already. -/
def State.sourceOf (s : State) (v : SourceItem) : PhaseSource :=
  let tod : Bool := v.kind = 1#32
  (s.time.sources.find? fun x => x.tod == tod && decide (x.port = v.port.toNat)).getD { tod := tod, port := v.port.toNat }

/-- The servo mode changes: LOCKED becomes HOLDOVER, the bound goes on from its value (02 R41). -/
def State.setServoMode (s : State) (ext : Bool) : State :=
  if s.time.external = ext then s
  else
    let q := s.time.state
    let s := s.setTimeState (if q = .locked then .holdover else q)
    { s with time := { s.time with external := ext, slewing := false } }

/-- TIME.SET_SOURCE (02 R41, R42). -/
def execTimeSetSource (l : LetterId) (mode : W32) (sources : ListArg SourceItem) (wtr : W64) (s : State) :
    Host.Outcome State Fault Refusal :=
  .next (runLetter l 0x0201 [p4 mode, pL sources, p8 wtr] (fun _ =>
    checked [malformed (decide (1 < mode.toNat)) 0, malformed (decide (sources.count.toNat = 0 ∨ 4 < sources.count.toNat)) 1]
      fun _ =>
    withList sources fun items =>
    let q := clampU 64 wtr.toNat 0 720000000000 (some s.time.wtr)
    checked [malformed (items.any (fun v => !sourceItemOk v) || decide (items.eraseDups.length ≠ items.length)) 1,
      noObj (items.any fun v => decide (v.kind = 0#32 ∧ v.port.toNat ≤ 191 ∧ s.variant.lanes ≤ v.port.toNat)) 1] fun _ =>
    let was := s.time.sourceUsed
    let list := items.map s.sourceOf
    let s := s.setServoMode (decide (mode = 1#32))
    let s := State.reselect { s with time := { s.time with sources := list, wtr := q.v } } was
    accept s (layBody [p4 mode, pL sources, n8 q.v]) (firstClamp [(2, q.c)])) s)

/-- Add the phase of a TIME.ADJUST: beyond 1,000 ns it is a step; a smaller one that is negative is taken from the
counter's course, which never runs back without a step (02 R38; 10 R344; notes/assumptions/85.md). -/
def State.adjustPhase (s : State) (phase : Int) : State :=
  if 1000 < phase.natAbs then s.stepTime (Int.ofNat s.time.counter + phase * 2 ^ 40).toNat
  else if phase < 0 then { s with time := { s.time with owed := s.time.owed + phase.natAbs * 2 ^ 40 } }
  else s.addPhase (phase.natAbs * 2 ^ 40)

/-- TIME.ADJUST (10 R344): a phase added to the counter, and the absolute trim. -/
def execTimeAdjust (l : LetterId) (phase : W64) (freq : W32) (s : State) : Host.Outcome State Fault Refusal :=
  .next (runLetter l 0x0202 [p8 phase, p4 freq] (fun _ =>
    let p := clampS 64 phase.toNat (-1000000000) 1000000000 (some 0)
    let f := clampS 32 freq.toNat (-500000) 500000 (some (ppbOf s.time.trim))
    checked [notPermitted (!s.time.external),
      notPermitted (decide (1000 < (sv p).natAbs) && decide (s.time.state = .locked)) 0] fun _ =>
    let trim := if freq = 0x80000000#32 then s.time.trim else trimOf (sv f)
    let s := s.adjustPhase (sv p)
    accept { s with time := { s.time with trim := trim } } (layBody [p8s (sv p), p4s (sv f)]) (firstClamp [(0, sc p), (1, sc f)])) s)

/-- Time state of a code. -/
def timeQ (v : Nat) : TimeQ := if v = 0 then .freerun else if v = 1 then .acquiring else if v = 2 then .locked else .holdover

/-- TIME.SET_QUALITY (02 R47). Without the 10 MHz reference the state cannot reach LOCKED (02 R43): a letter that would
take it there is NOT_PERMITTED, and one that leaves it LOCKED is not (notes/assumptions/120.md). -/
def execTimeSetQuality (l : LetterId) (state : W32) (error : W64) (s : State) : Host.Outcome State Fault Refusal :=
  .next (runLetter l 0x0203 [p4 state, p8 error] (fun _ =>
    let q := clampU 64 error.toNat 0 65535 (some s.boundNow)
    checked [malformed (decide (3 < state.toNat)) 0, notPermitted (!s.time.external),
      notPermitted (decide (state.toNat = 2 ∧ s.time.state ≠ .locked) && s.power.lost.getLsbD 3) 0] fun _ =>
    let t := timeQ state.toNat
    let s := s.setTimeState t
    let b := if t = .freerun then 65535 else q.v
    accept (State.updateQuality { s with time := { s.time with bound := b, boundAt := s.up } })
      (layBody [p4 state, n8 q.v]) (firstClamp [(1, q.c)])) s)

/-- TIME.SET_HOLDOVER (02 R47): the bound so far is kept, the new rate applies from now. -/
def execTimeSetHoldover (l : LetterId) (rate : W32) (s : State) : Host.Outcome State Fault Refusal :=
  .next (runLetter l 0x0204 [p4 rate] (fun _ =>
    let q := clampU 32 rate.toNat 100 1000000 (some s.time.holdoverRate)
    accept { s with time := { s.time with bound := s.boundNow, boundAt := s.up, holdoverRate := q.v } }
      (layBody [n4 q.v]) (firstClamp [(0, q.c)])) s)

/-- TIME.SET_PTP (02 R40-R42). -/
def execTimeSetPtp (l : LetterId) (port enable domain steps : W32) (s : State) : Host.Outcome State Fault Refusal :=
  let ps := [p4 port, p4 enable, p4 domain, p4 steps]
  .next (runLetter l 0x0205 ps (fun _ =>
    let p := port.toNat
    checked [malformed (decide (191 < p) && decide (p ≠ 256 ∧ p ≠ 257)) 0, malformed (decide (1 < enable.toNat)) 1,
      malformed (decide (domain.toNat < 24 ∨ 43 < domain.toNat)) 2, malformed (decide (steps ≠ 1#32 ∧ steps ≠ 2#32)) 3,
      noObj (decide (p ≤ 191 ∧ s.variant.lanes ≤ p)) 0] fun _ =>
    let on := decide (enable = 1#32)
    let v : PtpPort := { enabled := on, domain := domain.toNat, twoStep := decide (steps = 2#32) }
    let s := { s with time := { s.time with ptp := nset {} p v s.time.ptp } }
    accept (if on then s else s.ptpDown p) (layBody ps)) s)

/-- TIME.READ (10 R521). -/
def execTimeRead (l : LetterId) (s : State) : Host.Outcome State Fault Refusal :=
  .next (runLetter l 0x0206 [] (fun _ =>
    accept s (layBody [leBytes (time96 s.units) 16, n4 s.time.state.code, n4 s.boundNow, n4 (b2n s.time.external),
      n4 (s.time.inUse.getD 0xFFFFFFFF)])) s)

/-! ## The servo (02 R47, R48) -/

/-- The servo runs: INTERNAL mode, on the active postmaster, with a source in use. -/
def State.servoRuns (s : State) : Bool := !s.time.external && s.pm.active.isSome && s.time.inUse.isSome

/-- The trim that the servo applies: its own choice, within 10,000 ppb of its estimate of the source's frequency
(02 R48; notes/assumptions/4.md). -/
def State.nextTrim (s : State) (offset : Int) : Int :=
  let limit := 10 * 2 ^ 40 / 1000000
  Config.servoFrequency s.fresh + max (-limit) (min limit (Config.servoTrim s.time.trim offset s.fresh))

/-- SERVO_OFFSET_MEASURE (02 R47, R48): `offset` is the source's time less the counter's in ns, `filtered` the
magnitude of the filtered offset. -/
def execServoOffsetMeasure (offset : Int) (filtered : Nat) (s : State) : Host.Outcome State Fault Refusal :=
  .next (
    if ¬ s.servoRuns ∨ (s.time.state ≠ .acquiring ∧ s.time.state ≠ .locked) then s
    else
      let extra := if (s.time.sourceUsed.map (·.1)) = some true then
        4 * ((s.time.todApplied.map (·.error.toNat)).getD 0) else 0
      let b := min 65535 (filtered + extra)
      let trim := s.nextTrim offset
      let far := decide (1000 < offset.natAbs)
      let low := if b ≤ 100 then some (s.time.lowSince.getD s.up) else none
      let s := { s with fresh := s.fresh + 1, time := { s.time with bound := b, boundAt := s.up, trim := trim } }
      if s.time.state = .acquiring then
        let s := if far then s.stepTime (Int.ofNat s.time.counter + offset * 2 ^ 40).toNat else s
        State.updateQuality { s with time := { s.time with lowSince := low } }
      else if far then (if s.time.slewing then s.updateQuality else s.setTimeState .acquiring)
      else State.updateQuality { s with time := { s.time with slewing := false } })

/-- SERVO_LOCK_TIMER (02 R43, R48): 10 s at or below 100 ns, with the 10 MHz reference present. -/
def execServoLockTimer (s : State) : Host.Outcome State Fault Refusal :=
  .next (match s.time.lowSince with
    | some t =>
      if s.servoRuns ∧ s.time.state = .acquiring ∧ s.time.bound ≤ 100 ∧ t + 10000000000 ≤ s.up ∧
          ¬ s.power.lost.getLsbD 3 then s.setTimeState .locked
      else s
    | none => s)

/-- SOURCE_WTR_EXPIRY (02 R42). -/
def execSourceWtrExpiry (source : Fin 4) (s : State) : Host.Outcome State Fault Refusal :=
  .next (match s.time.sources[source.val]? with
    | some v => match v.goodSince with
      | some t =>
        if t + s.time.wtr ≤ s.up then
          (s.setSource source { v with valid := true, failed := false, goodSince := none }).selectSource
        else s
      | none => s
    | none => s)

/-- PTP_SOURCE_LOST (02 R42): a PTP source stops delivering. -/
def execPtpSourceLost (source : Fin 4) (s : State) : Host.Outcome State Fault Refusal :=
  .next (match s.time.sources[source.val]? with
    | some v => if v.tod then s else s.sourceFails source
    | none => s)

/-! ## PTP and ESMC messages (02 R40, R41; 03 R88) -/

/-- Number of a PTP port: 0-191, 256 and 257 for the management ports (10 R344). -/
def ptpNumber (p : Nat) : Nat := if p < 192 then p else p + 64

/-- A timestamp corrected for the board's and optics' delay in ps (03 R88; notes/assumptions/50.md). -/
def State.ptpStamp (s : State) (p : Nat) (received : Bool) : Nat :=
  let v := s.port p
  let d := if received then - v.rxDelay else v.txDelay
  (Int.ofNat s.units + d * 65536 / 1000).toNat

/-- PTP_EVENT_MESSAGE (02 R40): timestamped in hardware on every port; a message received in the INTERNAL mode on a
listed source's port shows that the source delivers. The correction field rides with the message. -/
def execPtpEventMessage (port : Fin 194) (kind : PtpKind) (received : Bool) (_correction : BitVec 64) (s : State) :
    Host.Outcome State Fault Refusal :=
  let p := ptpNumber port.val
  let stamp := if p < 192 then s.ptpStamp p received else s.units
  let there := decide (192 ≤ p) || decide (p < s.variant.lanes)
  onUnit there (
    let s := s.emit (.ptp p kind stamp s.time.external)
    if received && s.ptpReady p then
      match s.ptpSource p with
      | some i => s.sourceGood i
      | none => s
    else s)

/-- ESMC_PDU (02 R41): forwarded to the host in both modes. -/
def execEsmcPdu (port : Fin 192) (pdu : List Byte) (s : State) : Host.Outcome State Fault Refusal :=
  onUnit (decide (port.val < s.variant.lanes)) (s.emit (.esmc port pdu))

/-! ## 1PPS and ToD (02 R44-R46) -/

/-- PPS_IN_EDGE (02 R45): timestamped; the message that waits is applied to this edge. -/
def execPpsInEdge (s : State) : Host.Outcome State Fault Refusal :=
  let t := s.time
  let t := { t with lastEdge := some s.up, edgeStamp := s.units }
  .next (match t.tod with
    | some m =>
      let s := { s with time := { t with todApplied := some m, tod := none, todMissed := 0 } }
      match s.todSource with
      | some i => s.sourceGood i
      | none => s
    | none => { s with time := { t with todMissed := min 3 (t.todMissed + 1) } })

/-- Layout of a ToD message (02 R44). -/
def todOk (bs : List Byte) : Bool :=
  decide (bs.length = 16) && decide (bs.take 4 = [0xA5#8, 0x5A#8, 1#8, 12#8]) &&
    decide ((bs.foldl (fun n b => n + b.toNat) 0) % 256 = 0)

/-- TOD_MESSAGE_RX (02 R45): complete 10 ms to 900 ms after an edge, and sound; else counted. -/
def execTodMessageRx (bytes : List Byte) (s : State) : Host.Outcome State Fault Refusal :=
  let timely : Bool := match s.time.lastEdge with
    | some e => decide (e + 10000000 ≤ s.up ∧ s.up ≤ e + 900000000)
    | none => false
  let m : Tod := {
    seconds := BitVec.ofNat 48 (leNat (bslice bytes 4 6)), quality := BitVec.ofNat 2 (leNat (bslice bytes 10 1))
    flags := BitVec.ofNat 8 (leNat (bslice bytes 11 1)), utcOffset := BitVec.ofNat 16 (leNat (bslice bytes 12 2))
    error := BitVec.ofNat 8 (leNat (bslice bytes 14 1)) }
  .next (
    if timely && todOk bytes then { s with time := { s.time with tod := some m } }
    else { s with time := { s.time with todBad := satInc s.time.todBad } })

/-- TOD_MISSING_EXPIRY (02 R45): three consecutive edges without a valid message. -/
def execTodMissingExpiry (s : State) : Host.Outcome State Fault Refusal :=
  .next (if s.time.todMissed < 3 then s
    else match s.todSource with
      | some i => s.sourceFails i
      | none => s)

/-- PPS_OUT_SECOND (02 R46): at each whole second, in the cycle that reaches it. -/
def execPpsOutSecond (s : State) : Host.Outcome State Fault Refusal :=
  .next (if s.powered && s.crossed 1000000000 && decide (s.time.ppsAt ≠ some s.up) then
      { s.emit (.pps s.sec) with time := { s.time with ppsOut := some s.sec, ppsAt := some s.up, todOwed := true } }
    else s)

/-- The ToD message that names the next edge (02 R44). UTC offset and leap data are those last received, and the error
is rounded up to its unit of 4 ns, so that it stays a bound; the manual gives neither (notes/assumptions/51.md). -/
def State.todBytes (s : State) : List Byte :=
  let m := s.time.todApplied.getD {}
  let b := [0xA5#8, 0x5A#8, 1#8, 12#8] ++ leBytes (s.sec + 1) 6 ++
    [BitVec.ofNat 8 s.time.state.code, m.flags &&& 7#8] ++ leBytes m.utcOffset.toNat 2 ++
    [BitVec.ofNat 8 (min 255 ((s.boundNow + 3) / 4))]
  b ++ [BitVec.ofNat 8 (256 - (b.foldl (fun n x => n + x.toNat) 0) % 256)]

/-- TOD_TRANSMIT (02 R46): 100 ms after the edge. -/
def execTodTransmit (s : State) : Host.Outcome State Fault Refusal :=
  .next (if s.time.todOwed && s.time.ppsAt.any fun t => decide (t + 100000000 ≤ s.up) then
      { s.emit (.tod s.todBytes) with time := { s.time with todOwed := false } }
    else s)

/-! ## Postcards (02 R72-R75; 08 R270, R288) -/

/-- The postcard of now (02 R72). -/
def State.postcard (s : State) : Postcard :=
  let u := s.epoch
  let id := s.myId
  { format := 1#8, rsvOk := true, src := Fin.ofNat 128 id, seq := s.fabric.pcSeq, txSeconds := BitVec.ofNat 32 s.sec
    txNs := BitVec.ofNat 32 s.nsec, epochCurrent := u.current, epochPending := u.pending.getD u.current
    pendingState := BitVec.ofNat 3 u.pendingCode, lag := s.lagging, sequenced := u.seq.isSome
    timeState := BitVec.ofNat 2 s.time.state.code, timeError := BitVec.ofNat 16 s.boundNow
    ucodeMin := BitVec.ofNat 32 s.ucode.1, ucodeMax := BitVec.ofNat 32 s.ucode.2, reachMap := s.ownMap }

/-- Send a postcard on a plane that has an UP link, on its links in turn (08 R270). -/
def State.pcOnPlane (pc : Postcard) (s : State) (plane : Nat) : State :=
  let links := s.openLinks.filter fun i => i / 16 = plane
  match nextAfter (nget 255 s.fabric.pcRr plane) links with
  | some i => State.queueControl { s with fabric := { s.fabric with pcRr := nset 255 plane i s.fabric.pcRr } } i (.postcard pc)
  | none => s

/-- POSTCARD_SEND (02 R72; 08 R270): at each whole multiple of 100 us of station time. -/
def execPostcardSend (s : State) : Host.Outcome State Fault Refusal :=
  .next (if ¬ s.ready ∨ ¬ s.crossed 100000 ∨ s.fabric.pcAt = some s.up then s
    else
      let s := (List.range s.variant.planes).foldl (State.pcOnPlane s.postcard) s
      { s with fabric := { s.fabric with pcSeq := s.fabric.pcSeq + 1#16, pcAt := some s.up } })

/-- Two steps are consecutive, the seconds wrapping. -/
def stepsTouch (a b : Nat) : Bool :=
  let m := 2 ^ 32 * 10000
  decide ((a + 1) % m = b % m) || decide ((b + 1) % m = a % m)

/-- What a sound postcard leaves of its sender (02 R59, R72-R76). -/
def State.takePostcard (s : State) (pc : Postcard) : State :=
  let d := pc.src.val
  let v := s.peer d
  if v.lastSeen.isSome ∧ v.seq = pc.seq then s
  else
    let step := pc.txSeconds.toNat * 10000 + pc.txNs.toNat / 100000
    let here := v.present || (match v.lastStep with
      | some t => stepsTouch t step
      | none => false)
    let delay := Int.ofNat (s.sec % 2 ^ 32 * 1000000000 + s.nsec) -
      Int.ofNat (pc.txSeconds.toNat * 1000000000 + pc.txNs.toNat)
    let s := if (s.epoch.current - pc.epochCurrent).toNat = 32768 then
      { s with time := { s.time with epochFar := satInc s.time.epochFar } } else s
    (s.setPeer d { v with
      lastSeen := some s.units, lastStep := some step, seq := pc.seq, present := here, epoch := pc.epochCurrent
      ucodeMin := pc.ucodeMin, ucodeMax := pc.ucodeMax, map := pc.reachMap, delay := delay }).updatePeer d

/-- A postcard as it arrives (02 R73): a sound one is taken, another is counted. -/
def State.hearPostcard (s : State) (pc : Postcard) : State :=
  if pc.format ≠ 1#8 ∨ ¬ pc.rsvOk ∨ 4 < pc.pendingState.toNat then
    { s with time := { s.time with pcBad := satInc s.time.pcBad } }
  else s.takePostcard pc

/-- POSTCARD_RECEIVE (02 R73; 08 R265, R288): copies of one number count as one. -/
def execPostcardReceive (link : Fin 256) (cell : List Byte) (fecOk : Bool) (s : State) : Host.Outcome State Fault Refusal :=
  onLink s link fun s =>
    s.hear link cell fecOk true fun s =>
      if isControl 1 cell ∧ (s.link link).st = .up ∧ s.ready then s.hearPostcard (readPostcard cell) else s

/-- PEER_ABSENT (02 R73): no postcard for 300 us of the receiver's station time. -/
def execPeerAbsent (peer : Fin 128) (s : State) : Host.Outcome State Fault Refusal :=
  let v := s.peer peer
  .next (match v.lastSeen with
    | some t =>
      if v.present && decide (t + unitsOf 300000 ≤ s.units) then
        (s.setPeer peer { v with present := false, lastStep := none }).updatePeer peer
      else s
    | none => s)

/-- REACH_MISMATCH_TIMER (02 R75): the maps have differed for more than 1 ms. -/
def execReachMismatchTimer (peer : Fin 128) (s : State) : Host.Outcome State Fault Refusal :=
  .next (match (s.peer peer).mismatchSince with
    | some t => if t + 1000000 < s.up ∧ s.mapsDiffer peer then s.condition 0x0205 peer true else s
    | none => s)

end Sys2Proof.Machine
end

