-- ==== Sys2Proof/Machine/Dispatch.lean ====
section
/-!
DEFINITION. Dispatch.lean: one arm per command, one direct call of its meaning.
-/

namespace Sys2Proof.Machine

def exec (i : Instr) (s : State) : Host.Outcome State Fault Refusal :=
  match i with
  | .registerWrite offset wide value => Sys2Proof.Machine.execRegisterWrite offset wide value s
  | .timNowLatch wide => Sys2Proof.Machine.execTimNowLatch wide s
  | .timeCounterRead which => Sys2Proof.Machine.execTimeCounterRead which s
  | .resetCauseClear value => Sys2Proof.Machine.execResetCauseClear value s
  | .logFullClear value => Sys2Proof.Machine.execLogFullClear value s
  | .msixTableWrite entry word value => Sys2Proof.Machine.execMsixTableWrite entry word value s
  | .bootRingEnable value => Sys2Proof.Machine.execBootRingEnable value s
  | .bootRingDisable value => Sys2Proof.Machine.execBootRingDisable value s
  | .letterDoorbell slice ring count => Sys2Proof.Machine.execLetterDoorbell slice ring count s
  | .receiptDoorbell slice ring count => Sys2Proof.Machine.execReceiptDoorbell slice ring count s
  | .eventDoorbell slice count => Sys2Proof.Machine.execEventDoorbell slice count s
  | .placeDoorbell channel count => Sys2Proof.Machine.execPlaceDoorbell channel count s
  | .consumeDoorbell channel count => Sys2Proof.Machine.execConsumeDoorbell channel count s
  | .letterTake pm slice source => Sys2Proof.Machine.execLetterTake pm slice source s
  | .effectStep pm l standbyAck => Sys2Proof.Machine.execEffectStep pm l standbyAck s
  | .receiptWrite slice ring busOk => Sys2Proof.Machine.execReceiptWrite slice ring busOk s
  | .receiptDeliveryConfirm slice ring => Sys2Proof.Machine.execReceiptDeliveryConfirm slice ring s
  | .eventWrite slice busOk => Sys2Proof.Machine.execEventWrite slice busOk s
  | .inbandDatagram port d => Sys2Proof.Machine.execInbandDatagram port d s
  | .inbandReplySend slice => Sys2Proof.Machine.execInbandReplySend slice s
  | .arpRequest port target sender senderMac => Sys2Proof.Machine.execArpRequest port target sender senderMac s
  | .neighbourSolicitation port target sender senderMac => Sys2Proof.Machine.execNeighbourSolicitation port target sender senderMac s
  | .echoRequest port v6 dst src => Sys2Proof.Machine.execEchoRequest port v6 dst src s
  | .addressResolved port v6 addr mac => Sys2Proof.Machine.execAddressResolved port v6 addr mac s
  | .mgmtFrameOther port => Sys2Proof.Machine.execMgmtFrameOther port s
  | .resolutionRetry port v6 addr => Sys2Proof.Machine.execResolutionRetry port v6 addr s
  | .neighbourExpiry port v6 addr => Sys2Proof.Machine.execNeighbourExpiry port v6 addr s
  | .moduleIdentify l => Sys2Proof.Machine.execModuleIdentify l s
  | .moduleSetId l moduleId => Sys2Proof.Machine.execModuleSetId l moduleId s
  | .moduleSetCompat l low high => Sys2Proof.Machine.execModuleSetCompat l low high s
  | .moduleOpenRing l ring letters receipts depth => Sys2Proof.Machine.execModuleOpenRing l ring letters receipts depth s
  | .moduleCloseRing l ring => Sys2Proof.Machine.execModuleCloseRing l ring s
  | .moduleSetEventRing l events depth => Sys2Proof.Machine.execModuleSetEventRing l events depth s
  | .moduleSaveSettings l => Sys2Proof.Machine.execModuleSaveSettings l s
  | .settingsSaveComplete readBackOk => Sys2Proof.Machine.execSettingsSaveComplete readBackOk s
  | .moduleReset l kind => Sys2Proof.Machine.execModuleReset l kind s
  | .moduleSetMgmt l a => Sys2Proof.Machine.execModuleSetMgmt l a s
  | .timeSetSource l mode sources wtr => Sys2Proof.Machine.execTimeSetSource l mode sources wtr s
  | .timeAdjust l phase freq => Sys2Proof.Machine.execTimeAdjust l phase freq s
  | .timeSetQuality l state error => Sys2Proof.Machine.execTimeSetQuality l state error s
  | .timeSetHoldover l rate => Sys2Proof.Machine.execTimeSetHoldover l rate s
  | .timeSetPtp l port enable domain steps => Sys2Proof.Machine.execTimeSetPtp l port enable domain steps s
  | .timeRead l => Sys2Proof.Machine.execTimeRead l s
  | .epochOpen l n => Sys2Proof.Machine.execEpochOpen l n s
  | .epochCommit l n count t spacing => Sys2Proof.Machine.execEpochCommit l n count t spacing s
  | .epochAbort l n => Sys2Proof.Machine.execEpochAbort l n s
  | .epochCancel l n => Sys2Proof.Machine.execEpochCancel l n s
  | .epochStatus l => Sys2Proof.Machine.execEpochStatus l s
  | .epochSwitch => Sys2Proof.Machine.execEpochSwitch s
  | .deferredSwitch page => Sys2Proof.Machine.execDeferredSwitch page s
  | .epochRelease => Sys2Proof.Machine.execEpochRelease s
  | .subepochSwitch => Sys2Proof.Machine.execSubepochSwitch s
  | .sequencedListFetch data => Sys2Proof.Machine.execSequencedListFetch data s
  | .postcardSend => Sys2Proof.Machine.execPostcardSend s
  | .postcardReceive link cell fecOk => Sys2Proof.Machine.execPostcardReceive link cell fecOk s
  | .peerAbsent peer => Sys2Proof.Machine.execPeerAbsent peer s
  | .reachMismatchTimer peer => Sys2Proof.Machine.execReachMismatchTimer peer s
  | .ppsInEdge => Sys2Proof.Machine.execPpsInEdge s
  | .todMessageRx bytes => Sys2Proof.Machine.execTodMessageRx bytes s
  | .todMissingExpiry => Sys2Proof.Machine.execTodMissingExpiry s
  | .sourceWtrExpiry source => Sys2Proof.Machine.execSourceWtrExpiry source s
  | .ptpEventMessage port kind received correction => Sys2Proof.Machine.execPtpEventMessage port kind received correction s
  | .servoOffsetMeasure offset filtered => Sys2Proof.Machine.execServoOffsetMeasure offset filtered s
  | .servoLockTimer => Sys2Proof.Machine.execServoLockTimer s
  | .esmcPdu port pdu => Sys2Proof.Machine.execEsmcPdu port pdu s
  | .ppsOutSecond => Sys2Proof.Machine.execPpsOutSecond s
  | .todTransmit => Sys2Proof.Machine.execTodTransmit s
  | .flitReceive link toDepot crcOk => Sys2Proof.Machine.execFlitReceive link toDepot crcOk s
  | .d2dLockLoss link => Sys2Proof.Machine.execD2dLockLoss link s
  | .d2dRetrain link locked => Sys2Proof.Machine.execD2dRetrain link locked s
  | .frameReceive port data fcsOk fecOk codewords => Sys2Proof.Machine.execFrameReceive port data fcsOk fecOk codewords s
  | .frameTransmit port => Sys2Proof.Machine.execFrameTransmit port s
  | .pauseReceive port pfc classes quanta => Sys2Proof.Machine.execPauseReceive port pfc classes quanta s
  | .pauseExpiry port cls => Sys2Proof.Machine.execPauseExpiry port cls s
  | .trainingComplete port => Sys2Proof.Machine.execTrainingComplete port s
  | .trainingTimeout port => Sys2Proof.Machine.execTrainingTimeout port s
  | .alignmentAchieved port => Sys2Proof.Machine.execAlignmentAchieved port s
  | .portFault port cause => Sys2Proof.Machine.execPortFault port cause s
  | .portFaultClear port cause => Sys2Proof.Machine.execPortFaultClear port cause s
  | .downDebounceExpiry port => Sys2Proof.Machine.execDownDebounceExpiry port s
  | .upHoldoffExpiry port => Sys2Proof.Machine.execUpHoldoffExpiry port s
  | .fecDegradeTimer port above => Sys2Proof.Machine.execFecDegradeTimer port above s
  | .portDisableComplete port => Sys2Proof.Machine.execPortDisableComplete port s
  | .flexeOhFrame fgroup group crcOk ccc clients => Sys2Proof.Machine.execFlexeOhFrame fgroup group crcOk ccc clients s
  | .flexeCaReceive fgroup group => Sys2Proof.Machine.execFlexeCaReceive fgroup group s
  | .calendarSwitch fgroup group => Sys2Proof.Machine.execCalendarSwitch fgroup group s
  | .flexeDeskewFail fgroup group => Sys2Proof.Machine.execFlexeDeskewFail fgroup group s
  | .framePatternCheck fgroup iface layer correct errors => Sys2Proof.Machine.execFramePatternCheck fgroup iface layer correct errors s
  | .lofDeclare fgroup iface layer => Sys2Proof.Machine.execLofDeclare fgroup iface layer s
  | .lofClear fgroup iface layer => Sys2Proof.Machine.execLofClear fgroup iface layer s
  | .otnDefect fgroup iface defect present => Sys2Proof.Machine.execOtnDefect fgroup iface defect present s
  | .gmpJcReceive fgroup trib crcOk cm => Sys2Proof.Machine.execGmpJcReceive fgroup trib crcOk cm s
  | .gmpMultiframeTx fgroup trib fill => Sys2Proof.Machine.execGmpMultiframeTx fgroup trib fill s
  | .tsPageSwitch fgroup => Sys2Proof.Machine.execTsPageSwitch fgroup s
  | .ohRxFrame channel bytes => Sys2Proof.Machine.execOhRxFrame channel bytes s
  | .ohRecordDeliver channel => Sys2Proof.Machine.execOhRecordDeliver channel s
  | .ohTxFrame channel => Sys2Proof.Machine.execOhTxFrame channel s
  | .ohTxWrite channel frames => Sys2Proof.Machine.execOhTxWrite channel frames s
  | .envelopeDisableBoundary fgroup otu index => Sys2Proof.Machine.execEnvelopeDisableBoundary fgroup otu index s
  | .portConfigure l a => Sys2Proof.Machine.execPortConfigure l a s
  | .portEnable l port => Sys2Proof.Machine.execPortEnable l port s
  | .portDisable l port => Sys2Proof.Machine.execPortDisable l port s
  | .portSetLaneMap l octet map rxInvert txInvert => Sys2Proof.Machine.execPortSetLaneMap l octet map rxInvert txInvert s
  | .portSetDelay l port rx tx => Sys2Proof.Machine.execPortSetDelay l port rx tx s
  | .portSetTxEq l lane taps => Sys2Proof.Machine.execPortSetTxEq l lane taps s
  | .portStatus l port => Sys2Proof.Machine.execPortStatus l port s
  | .envelopeCreateFlexe l fgroup group phyType phys caRequired => Sys2Proof.Machine.execEnvelopeCreateFlexe l fgroup group phyType phys caRequired s
  | .envelopeCreateOtu l a => Sys2Proof.Machine.execEnvelopeCreateOtu l a s
  | .envelopeDeleteGroup l fgroup kind index => Sys2Proof.Machine.execEnvelopeDeleteGroup l fgroup kind index s
  | .envelopeEnableGroup l fgroup kind index => Sys2Proof.Machine.execEnvelopeEnableGroup l fgroup kind index s
  | .envelopeDisableGroup l fgroup kind index => Sys2Proof.Machine.execEnvelopeDisableGroup l fgroup kind index s
  | .envelopeWriteCalendar l fgroup group slots => Sys2Proof.Machine.execEnvelopeWriteCalendar l fgroup group slots s
  | .envelopeScheduleCalendar l fgroup group t => Sys2Proof.Machine.execEnvelopeScheduleCalendar l fgroup group t s
  | .envelopeCancelCalendar l fgroup group => Sys2Proof.Machine.execEnvelopeCancelCalendar l fgroup group s
  | .envelopeWriteTsPage l fgroup entries => Sys2Proof.Machine.execEnvelopeWriteTsPage l fgroup entries s
  | .envelopeScheduleTsPage l fgroup t => Sys2Proof.Machine.execEnvelopeScheduleTsPage l fgroup t s
  | .envelopeCancelTsPage l fgroup => Sys2Proof.Machine.execEnvelopeCancelTsPage l fgroup s
  | .envelopeOhChannel l channel rxRing txRing depth => Sys2Proof.Machine.execEnvelopeOhChannel l channel rxRing txRing depth s
  | .headerWindowSend => Sys2Proof.Machine.execHeaderWindowSend s
  | .intakeDispatch => Sys2Proof.Machine.execIntakeDispatch s
  | .nanowordIssue bench clerk eccError => Sys2Proof.Machine.execNanowordIssue bench clerk eccError s
  | .lookupResult bench clerk slot result memError rowBad waited delayed => Sys2Proof.Machine.execLookupResult bench clerk slot result memError rowBad waited delayed s
  | .localLoadLand bench clerk slot => Sys2Proof.Machine.execLocalLoadLand bench clerk slot s
  | .slotRetire bench clerk slot rivals => Sys2Proof.Machine.execSlotRetire bench clerk slot rivals s
  | .passHandoff port egress => Sys2Proof.Machine.execPassHandoff port egress s
  | .benchSwitch bench => Sys2Proof.Machine.execBenchSwitch bench s
  | .benchDrainComplete bench => Sys2Proof.Machine.execBenchDrainComplete bench s
  | .benchReloadCheck bench readBackOk => Sys2Proof.Machine.execBenchReloadCheck bench readBackOk s
  | .controlStoreError bench clerk slot => Sys2Proof.Machine.execControlStoreError bench clerk slot s
  | .storeSetMode l mode => Sys2Proof.Machine.execStoreSetMode l mode s
  | .storeWriteMicro l benches start words => Sys2Proof.Machine.execStoreWriteMicro l benches start words s
  | .storeWriteNano l benches start words => Sys2Proof.Machine.execStoreWriteNano l benches start words s
  | .storeWritePatch l benches micro nano matchRegs level => Sys2Proof.Machine.execStoreWritePatch l benches micro nano matchRegs level s
  | .storeStageImage l benches bank => Sys2Proof.Machine.execStoreStageImage l benches bank s
  | .storeSeal l benches version => Sys2Proof.Machine.execStoreSeal l benches version s
  | .storeScheduleLoad l benches t spacing => Sys2Proof.Machine.execStoreScheduleLoad l benches t spacing s
  | .storeCancelLoad l benches => Sys2Proof.Machine.execStoreCancelLoad l benches s
  | .storeEnableBench l bench => Sys2Proof.Machine.execStoreEnableBench l bench s
  | .storeDisableBench l bench => Sys2Proof.Machine.execStoreDisableBench l bench s
  | .storeSetBudget l budget => Sys2Proof.Machine.execStoreSetBudget l budget s
  | .storeWriteLocal l clerk offset size data => Sys2Proof.Machine.execStoreWriteLocal l clerk offset size data s
  | .routeAdd l a => Sys2Proof.Machine.execRouteAdd l a s
  | .routeDelete l vrf family pfx plen => Sys2Proof.Machine.execRouteDelete l vrf family pfx plen s
  | .routeBlock l records listCrc => Sys2Proof.Machine.execRouteBlock l records listCrc s
  | .tableExactAdd l type key result => Sys2Proof.Machine.execTableExactAdd l type key result s
  | .tableExactDelete l type key => Sys2Proof.Machine.execTableExactDelete l type key s
  | .tableNhWrite l nh voqBase port module encap => Sys2Proof.Machine.execTableNhWrite l nh voqBase port module encap s
  | .tableNhDelete l nh => Sys2Proof.Machine.execTableNhDelete l nh s
  | .tableEcmpWrite l group mode members => Sys2Proof.Machine.execTableEcmpWrite l group mode members s
  | .tableEcmpDelete l group => Sys2Proof.Machine.execTableEcmpDelete l group s
  | .tableSetHash l seed profile fields => Sys2Proof.Machine.execTableSetHash l seed profile fields s
  | .tableBlock l records listCrc => Sys2Proof.Machine.execTableBlock l records listCrc s
  | .aclWrite l bank index value mask action => Sys2Proof.Machine.execAclWrite l bank index value mask action s
  | .aclDelete l bank index => Sys2Proof.Machine.execAclDelete l bank index s
  | .aclSetProfile l a => Sys2Proof.Machine.execAclSetProfile l a s
  | .aclSetSelect l profile masks => Sys2Proof.Machine.execAclSetSelect l profile masks s
  | .aclSetBankWidth l bank width => Sys2Proof.Machine.execAclSetBankWidth l bank width s
  | .aclSetSelftest l period => Sys2Proof.Machine.execAclSetSelftest l period s
  | .aclBlock l records listCrc => Sys2Proof.Machine.execAclBlock l records listCrc s
  | .aclUpdateWindow bank => Sys2Proof.Machine.execAclUpdateWindow bank s
  | .aclSelftestStart => Sys2Proof.Machine.execAclSelftestStart s
  | .aclMigrationComplete => Sys2Proof.Machine.execAclMigrationComplete s
  | .aclBankTestEnd phys passed => Sys2Proof.Machine.execAclBankTestEnd phys passed s
  | .aclRowRepair bank index => Sys2Proof.Machine.execAclRowRepair bank index s
  | .aclBankFault phys => Sys2Proof.Machine.execAclBankFault phys s
  | .aclSpareWritten => Sys2Proof.Machine.execAclSpareWritten s
  | .ingressAdmission rivals readError => Sys2Proof.Machine.execIngressAdmission rivals readError s
  | .bufferFree buffer agent => Sys2Proof.Machine.execBufferFree buffer agent s
  | .dlqDeliver hasRoom busOk => Sys2Proof.Machine.execDlqDeliver hasRoom busOk s
  | .ctIngressStart port rivals => Sys2Proof.Machine.execCtIngressStart port rivals s
  | .ctIngressTimeout port => Sys2Proof.Machine.execCtIngressTimeout port s
  | .ctEgressStart queue => Sys2Proof.Machine.execCtEgressStart queue s
  | .ctEgressAbort queue cause => Sys2Proof.Machine.execCtEgressAbort queue cause s
  | .bufferSetPools l g0 g1 g2 g3 => Sys2Proof.Machine.execBufferSetPools l g0 g1 g2 g3 s
  | .bufferSetClass l cls shallowReserve shallowLimit deepReserve deepLimit => Sys2Proof.Machine.execBufferSetClass l cls shallowReserve shallowLimit deepReserve deepLimit s
  | .bufferSetAdmission l a => Sys2Proof.Machine.execBufferSetAdmission l a s
  | .bufferSetDlq l a => Sys2Proof.Machine.execBufferSetDlq l a s
  | .bufferSetCutThrough l port ingress egress ctMin ctStart => Sys2Proof.Machine.execBufferSetCutThrough l port ingress egress ctMin ctStart s
  | .schedulerSelect port => Sys2Proof.Machine.execSchedulerSelect port s
  | .windowReturn rivals => Sys2Proof.Machine.execWindowReturn rivals s
  | .arbiterGrant port => Sys2Proof.Machine.execArbiterGrant port s
  | .voqSend voq readError => Sys2Proof.Machine.execVoqSend voq readError s
  | .gateEntryAdvance port => Sys2Proof.Machine.execGateEntryAdvance port s
  | .gateListSwitch port => Sys2Proof.Machine.execGateListSwitch port s
  | .holdExpiry port => Sys2Proof.Machine.execHoldExpiry port s
  | .portFlushComplete port => Sys2Proof.Machine.execPortFlushComplete port s
  | .voqAgeVisit voq => Sys2Proof.Machine.execVoqAgeVisit voq s
  | .queueFlushComplete queue => Sys2Proof.Machine.execQueueFlushComplete queue s
  | .queueConfigure l a => Sys2Proof.Machine.execQueueConfigure l a s
  | .queueSetNode l a => Sys2Proof.Machine.execQueueSetNode l a s
  | .queueSetPort l a => Sys2Proof.Machine.execQueueSetPort l a s
  | .queueSetLengthProfile l profile mode adjust => Sys2Proof.Machine.execQueueSetLengthProfile l profile mode adjust s
  | .queueDelete l level node => Sys2Proof.Machine.execQueueDelete l level node s
  | .queueFlush l queue => Sys2Proof.Machine.execQueueFlush l queue s
  | .queueWriteGates l port entries => Sys2Proof.Machine.execQueueWriteGates l port entries s
  | .queueScheduleGates l port t => Sys2Proof.Machine.execQueueScheduleGates l port t s
  | .queueCancelGates l port => Sys2Proof.Machine.execQueueCancelGates l port s
  | .policerConfigure l a => Sys2Proof.Machine.execPolicerConfigure l a s
  | .policerDelete l policer => Sys2Proof.Machine.execPolicerDelete l policer s
  | .cellSlotTransmit link => Sys2Proof.Machine.execCellSlotTransmit link s
  | .packWaitExpiry stream => Sys2Proof.Machine.execPackWaitExpiry stream s
  | .cellReceive link cell fecOk rivals => Sys2Proof.Machine.execCellReceive link cell fecOk rivals s
  | .reachReceive link cell fecOk => Sys2Proof.Machine.execReachReceive link cell fecOk s
  | .requestReceive link cell fecOk index => Sys2Proof.Machine.execRequestReceive link cell fecOk index s
  | .grantReceive link cell fecOk index => Sys2Proof.Machine.execGrantReceive link cell fecOk index s
  | .lossNoticeReceive link cell fecOk index => Sys2Proof.Machine.execLossNoticeReceive link cell fecOk index s
  | .linkAligned link => Sys2Proof.Machine.execLinkAligned link s
  | .linkDown link cause => Sys2Proof.Machine.execLinkDown link cause s
  | .reachTimeout link => Sys2Proof.Machine.execReachTimeout link s
  | .holdMaxExpiry link => Sys2Proof.Machine.execHoldMaxExpiry link s
  | .linkRetry link => Sys2Proof.Machine.execLinkRetry link s
  | .linkDisableComplete link => Sys2Proof.Machine.execLinkDisableComplete link s
  | .identSend link => Sys2Proof.Machine.execIdentSend link s
  | .holeLostExpiry src mc => Sys2Proof.Machine.execHoleLostExpiry src mc s
  | .reassemblyTimeout src mc => Sys2Proof.Machine.execReassemblyTimeout src mc s
  | .creditWatchdog voq => Sys2Proof.Machine.execCreditWatchdog voq s
  | .grantCellClose dst => Sys2Proof.Machine.execGrantCellClose dst s
  | .fabricEnableLink l link => Sys2Proof.Machine.execFabricEnableLink l link s
  | .fabricDisableLink l link => Sys2Proof.Machine.execFabricDisableLink l link s
  | .fabricSetTxEq l lane taps => Sys2Proof.Machine.execFabricSetTxEq l lane taps s
  | .fabricSetTimers l reasmTimeout skewLimit creditWd holdMax packWait => Sys2Proof.Machine.execFabricSetTimers l reasmTimeout skewLimit creditWd holdMax packWait s
  | .fabricSetCredit l grantSize mcRate => Sys2Proof.Machine.execFabricSetCredit l grantSize mcRate s
  | .fabricSetMcastVoq l voq enable => Sys2Proof.Machine.execFabricSetMcastVoq l voq enable s
  | .fabricSetMgroup l mgid queues => Sys2Proof.Machine.execFabricSetMgroup l mgid queues s
  | .hbmCommandSlot pchan outcome => Sys2Proof.Machine.execHbmCommandSlot pchan outcome s
  | .panicReadExpiry pchan => Sys2Proof.Machine.execPanicReadExpiry pchan s
  | .refreshDue pchan bank => Sys2Proof.Machine.execRefreshDue pchan bank s
  | .hbmTraining stack lanes => Sys2Proof.Machine.execHbmTraining stack lanes s
  | .retrainFence stack => Sys2Proof.Machine.execRetrainFence stack s
  | .retrainWindowStart stack => Sys2Proof.Machine.execRetrainWindowStart stack s
  | .retrainWindowEnd stack lanes => Sys2Proof.Machine.execRetrainWindowEnd stack lanes s
  | .selfRefreshEntry stack => Sys2Proof.Machine.execSelfRefreshEntry stack s
  | .selfRefreshExit stack => Sys2Proof.Machine.execSelfRefreshExit stack s
  | .pchDrained pchan => Sys2Proof.Machine.execPchDrained pchan s
  | .stackDrainComplete stack => Sys2Proof.Machine.execStackDrainComplete stack s
  | .hbmSetPanic l panicNs => Sys2Proof.Machine.execHbmSetPanic l panicNs s
  | .hbmSetNeighbour l n => Sys2Proof.Machine.execHbmSetNeighbour l n s
  | .hbmSetRetrain l period => Sys2Proof.Machine.execHbmSetRetrain l period s
  | .hbmRetrainNow l pchan => Sys2Proof.Machine.execHbmRetrainNow l pchan s
  | .hbmSetSelfRefresh l srIdle => Sys2Proof.Machine.execHbmSetSelfRefresh l srIdle s
  | .hbmDisableStack l stack => Sys2Proof.Machine.execHbmDisableStack l stack s
  | .hbmEnableStack l stack => Sys2Proof.Machine.execHbmEnableStack l stack s
  | .hbmReadEyes l stack result busOk => Sys2Proof.Machine.execHbmReadEyes l stack result busOk s
  | .sliceCreate l slice pasid quotas letters receipts depth => Sys2Proof.Machine.execSliceCreate l slice pasid quotas letters receipts depth s
  | .sliceSetShare l slice quotas => Sys2Proof.Machine.execSliceSetShare l slice quotas s
  | .sliceHoldQuiesced slice => Sys2Proof.Machine.execSliceHoldQuiesced slice s
  | .sliceReset l slice => Sys2Proof.Machine.execSliceReset l slice s
  | .sliceQuiescence squashedWrites squashedReads => Sys2Proof.Machine.execSliceQuiescence squashedWrites squashedReads s
  | .sliceResetClear => Sys2Proof.Machine.execSliceResetClear s
  | .sliceDelete l slice => Sys2Proof.Machine.execSliceDelete l slice s
  | .sliceBindInband l slice address udpPort => Sys2Proof.Machine.execSliceBindInband l slice address udpPort s
  | .sliceDirtyLog l slice enable bitmap size busOk => Sys2Proof.Machine.execSliceDirtyLog l slice enable bitmap size busOk s
  | .sliceStatus l slice => Sys2Proof.Machine.execSliceStatus l slice s
  | .courierBurst toHost requester bytes busOk => Sys2Proof.Machine.execCourierBurst toHost requester bytes busOk s
  | .courierReadReturn channel data => Sys2Proof.Machine.execCourierReadReturn channel data s
  | .descriptorComplete channel => Sys2Proof.Machine.execDescriptorComplete channel s
  | .injectRecord channel rivals => Sys2Proof.Machine.execInjectRecord channel rivals s
  | .circularRecordWrite channel => Sys2Proof.Machine.execCircularRecordWrite channel s
  | .courierStopBoundary channel => Sys2Proof.Machine.execCourierStopBoundary channel s
  | .courierOpenChannel l channel ring depth share => Sys2Proof.Machine.execCourierOpenChannel l channel ring depth share s
  | .courierStop l channel => Sys2Proof.Machine.execCourierStop l channel s
  | .courierClose l channel => Sys2Proof.Machine.execCourierClose l channel s
  | .courierSetShare l channel share => Sys2Proof.Machine.execCourierSetShare l channel share s
  | .heartbeat pm => Sys2Proof.Machine.execHeartbeat pm s
  | .heartbeatLapse => Sys2Proof.Machine.execHeartbeatLapse s
  | .roleGrant pm => Sys2Proof.Machine.execRoleGrant pm s
  | .stopConfirmation pm => Sys2Proof.Machine.execStopConfirmation pm s
  | .dualActiveTimeout => Sys2Proof.Machine.execDualActiveTimeout s
  | .postmasterRestart pm => Sys2Proof.Machine.execPostmasterRestart pm s
  | .bootSelftestDone pm passed => Sys2Proof.Machine.execBootSelftestDone pm passed s
  | .syncComplete pm crcAgrees => Sys2Proof.Machine.execSyncComplete pm crcAgrees s
  | .standbyAckTimeout => Sys2Proof.Machine.execStandbyAckTimeout s
  | .selftestItem pm item passed => Sys2Proof.Machine.execSelftestItem pm item passed s
  | .postmasterFailure pm code => Sys2Proof.Machine.execPostmasterFailure pm code s
  | .healthWrite pm temp => Sys2Proof.Machine.execHealthWrite pm temp s
  | .headlessRebuild pm => Sys2Proof.Machine.execHeadlessRebuild pm s
  | .imageWrite l part bank offset data => Sys2Proof.Machine.execImageWrite l part bank offset data s
  | .flashWriteComplete readBackOk => Sys2Proof.Machine.execFlashWriteComplete readBackOk s
  | .imageVerify l part bank => Sys2Proof.Machine.execImageVerify l part bank s
  | .imageVerifyComplete part bankB => Sys2Proof.Machine.execImageVerifyComplete part bankB s
  | .imageActivate l parts t => Sys2Proof.Machine.execImageActivate l parts t s
  | .imageAbort l parts => Sys2Proof.Machine.execImageAbort l parts s
  | .imageList l => Sys2Proof.Machine.execImageList l s
  | .activationStart => Sys2Proof.Machine.execActivationStart s
  | .rolloutStepEnd => Sys2Proof.Machine.execRolloutStepEnd s
  | .rolloutStepTimeout => Sys2Proof.Machine.execRolloutStepTimeout s
  | .sweepStart => Sys2Proof.Machine.execSweepStart s
  | .sweepRead => Sys2Proof.Machine.execSweepRead s
  | .snapshotLatch => Sys2Proof.Machine.execSnapshotLatch s
  | .telemetryReadCounters l first count result busOk => Sys2Proof.Machine.execTelemetryReadCounters l first count result busOk s
  | .telemetrySnapshot l ranges result => Sys2Proof.Machine.execTelemetrySnapshot l ranges result s
  | .telemetrySetTagging l ratio => Sys2Proof.Machine.execTelemetrySetTagging l ratio s
  | .telemetrySetTrace l benches filter mode => Sys2Proof.Machine.execTelemetrySetTrace l benches filter mode s
  | .telemetryReadTrace l result busOk => Sys2Proof.Machine.execTelemetryReadTrace l result busOk s
  | .powerRead l => Sys2Proof.Machine.execPowerRead l s
  | .powerSetCap l cap => Sys2Proof.Machine.execPowerSetCap l cap s
  | .powerSetAlert l inputLow inputHigh temp => Sys2Proof.Machine.execPowerSetAlert l inputLow inputHigh temp s
  | .faultRead l first count result busOk => Sys2Proof.Machine.execFaultRead l first count result busOk s
  | .faultClear l code => Sys2Proof.Machine.execFaultClear l code s
  | .faultSetMask l code paths => Sys2Proof.Machine.execFaultSetMask l code paths s
  | .mirrorConfigure l session destination truncate sample enabled => Sys2Proof.Machine.execMirrorConfigure l session destination truncate sample enabled s
  | .mirrorDisable l session => Sys2Proof.Machine.execMirrorDisable l session s
  | .faultEventHoldoffExpiry record => Sys2Proof.Machine.execFaultEventHoldoffExpiry record s
  | .suppressionGraceExpiry record => Sys2Proof.Machine.execSuppressionGraceExpiry record s
  | .inputRise => Sys2Proof.Machine.execInputRise s
  | .housekeepingBoot => Sys2Proof.Machine.execHousekeepingBoot s
  | .inputVoltageBand millivolts => Sys2Proof.Machine.execInputVoltageBand millivolts s
  | .undervoltageLockout => Sys2Proof.Machine.execUndervoltageLockout s
  | .overvoltageShutdown => Sys2Proof.Machine.execOvervoltageShutdown s
  | .overvoltageRecovery => Sys2Proof.Machine.execOvervoltageRecovery s
  | .pwrEnAssert => Sys2Proof.Machine.execPwrEnAssert s
  | .pwrEnDeassert => Sys2Proof.Machine.execPwrEnDeassert s
  | .powerGood => Sys2Proof.Machine.execPowerGood s
  | .domainSwitchComplete => Sys2Proof.Machine.execDomainSwitchComplete s
  | .domainFailure domain => Sys2Proof.Machine.execDomainFailure domain s
  | .temperatureChange reading => Sys2Proof.Machine.execTemperatureChange reading s
  | .thermalShutdown => Sys2Proof.Machine.execThermalShutdown s
  | .powerCapCheck tenthWatts => Sys2Proof.Machine.execPowerCapCheck tenthWatts s
  | .throttleNChange asserted => Sys2Proof.Machine.execThrottleNChange asserted s
  | .pmbusClearFaults => Sys2Proof.Machine.execPmbusClearFaults s
  | .statusWord => Sys2Proof.Machine.execStatusWord s
  | .statusInput => Sys2Proof.Machine.execStatusInput s
  | .statusTemperature => Sys2Proof.Machine.execStatusTemperature s
  | .readVin => Sys2Proof.Machine.execReadVin s
  | .readIin => Sys2Proof.Machine.execReadIin s
  | .readTemperature1 => Sys2Proof.Machine.execReadTemperature1 s
  | .readTemperature2 => Sys2Proof.Machine.execReadTemperature2 s
  | .readPin => Sys2Proof.Machine.execReadPin s
  | .pmbusRevision => Sys2Proof.Machine.execPmbusRevision s
  | .pmbusUnsupported code => Sys2Proof.Machine.execPmbusUnsupported code s
  | .fruEepromRead offset => Sys2Proof.Machine.execFruEepromRead offset s
  | .telemetryMirrorUpdate iin rails => Sys2Proof.Machine.execTelemetryMirrorUpdate iin rails s
  | .referenceLost input => Sys2Proof.Machine.execReferenceLost input s
  | .referenceRegained input => Sys2Proof.Machine.execReferenceRegained input s
  | .resetNAssert => Sys2Proof.Machine.execResetNAssert s
  | .resetNRelease => Sys2Proof.Machine.execResetNRelease s
  | .housekeepingWatchdog => Sys2Proof.Machine.execHousekeepingWatchdog s
  | .pcieReset kind => Sys2Proof.Machine.execPcieReset kind s
  | .startupResetDone => Sys2Proof.Machine.execStartupResetDone s
  | .startupApplyDone failed => Sys2Proof.Machine.execStartupApplyDone failed s
  | .startupTimeout => Sys2Proof.Machine.execStartupTimeout s
  | .configurationWrite field => Sys2Proof.Machine.execConfigurationWrite field s
  | .envelopeLanesIdle fgroup otu index => Sys2Proof.Machine.execEnvelopeLanesIdle fgroup otu index s
  | .flexeDeskewRecovery fgroup group => Sys2Proof.Machine.execFlexeDeskewRecovery fgroup group s
  | .ptpSourceLost source => Sys2Proof.Machine.execPtpSourceLost source s
  | .startupSettingsDone => Sys2Proof.Machine.execStartupSettingsDone s

end Sys2Proof.Machine
end

