-- ==== Sys2Proof/Safety.lean ====
section
/-!
DEFINITION. Safety.lean: the terms in which statements about the module are made: safe steps and runs, what it is for a
letter to be claimed, accepted and rejected.
-/

namespace Sys2Proof.Machine

/-- A step of the module that neither faults nor is refused. -/
def SafeStep (s : State) : Prop := ∃ t, step s = .next t

/-- A run of k steps that neither faults nor is refused. -/
def SafeRun (s : State) (k : Nat) : Prop := ∃ t, Sys2Proof.core.run k s = .next t

/-- The ledger holds the letter claimed by the active postmaster, with this opcode and this body, and no earlier letter
of its ring stands before it: its row may act (10 R334, 13 R399). -/
def Claimed (s : State) (l : LetterId) (op : Nat) (ps : List Par) : Prop := (s.claimed l op ps).isSome = true

/-- A letter taken in `s` gives `t`. From a base state that holds the letter's effect, `t` differs in the letter's ledger
entry, and in the letter's number where faults that the effect raised name it (17 R478), alone: the letter is ACCEPTED,
its receipt carries the status and the applied block, and no value was clamped (10 R331, R337; 13 R399). -/
def Accepted (s base t : State) (l : LetterId) (st : Status) (block : List Byte) (waits : Bool := false) : Prop :=
  ∃ e, t = (base.byLetter s l.seq).setEntry l e ∧ e.st = .accepted ∧ e.waits = waits ∧ e.receipt.status = st ∧ e.receipt.applied = block ∧
    e.receipt.clamped = false

/-- As `Accepted`, with a value clamped, the first clamped parameter named (10 R337, R338). -/
def AcceptedClamped (s base t : State) (l : LetterId) (st : Status) (block : List Byte) (param : Nat) : Prop :=
  ∃ e, t = (base.byLetter s l.seq).setEntry l e ∧ e.st = .accepted ∧ e.waits = false ∧ e.receipt.status = st ∧ e.receipt.applied = block ∧
    e.receipt.clamped = true ∧ e.receipt.param = BitVec.ofNat 8 param

/-- The letter is closed with a rejection: its receipt is ready, nothing else has changed (10 R336, R339). -/
def Rejected (s t : State) (l : LetterId) (st : Status) (param : Nat) : Prop :=
  ∃ e r, t = s.finish l e r ∧ r.status = st ∧ r.param = BitVec.ofNat 8 param ∧ r.applied = []

/-- A staging letter names the pending epoch, which takes letters still (02 R53, R62). -/
def NamesPending (s : State) (l : LetterId) : Prop :=
  (s.entry l).any (fun e => e.epoch.isSome && decide (e.epoch = s.epoch.pending)) = true ∧ s.stageBusy true = false

/-- A record passes every check of its slice (10 R336), fits the capacities, the quotas and the shadow, and staging it
gives `t` (02 R66, R67; 05 R155). -/
def StagesTo (s t : State) (sl : Nat) (r : TableRecord) : Prop :=
  firstFail (s.itemSix r) = none ∧ firstFail (s.itemSeven sl r) = none ∧ firstFail (s.itemEight r) = none ∧
    firstFail (s.itemQuota sl r) = none ∧ itemBadList r = none ∧ s.stageItem r = some t ∧ s.outgrows t sl = false ∧
    t.overShadow = false

/-- A block letter of an opcode group names the pending epoch; its list was read, its header and its CRC are sound, and
its records pass their checks one after another and fit the shadow together, which gives `t` (10 R343; 02 R67). -/
def BlockStages (s t : State) (l : LetterId) (group : Nat) (records : ListArg TableRecord) (rs : List TableRecord)
    (crc : W32) : Prop :=
  NamesPending s l ∧ 1 ≤ records.count.toNat ∧ records.count.toNat ≤ 1048576 ∧ records.items = some rs ∧
    badList rs = none ∧ strangeRecord group 0 rs = none ∧ crc32c 0xFFFFFFFF (rs.flatMap recordBytes) = crc.toNat ∧
    checkRecords l.slice.val 0 rs s = none ∧ stageAll rs s = some t

/-- A cell whose CRC and header are sound and that is not idle (08 R263, R290). -/
def GoodCell (cell : List Byte) : Prop := crcGood cell = true ∧ badHead cell = false ∧ cellType cell ≠ 0

/-- The state in which what a good cell says is acted on: its hold is taken and it is counted (08 R281, R291). -/
def State.heardCell (s : State) (i : Nat) (cell : List Byte) : State := (s.takeHold i (cellHold cell)).bump .fabCellsRx i

/-- Message `index` of a good cell on an UP link is a credit message of type `mtype`, to this module, from a source whose
effective bit is set; it is acted on in `u` (08 R266, R288): the first message of its cell does what the cell does. -/
def CreditFrom (s u : State) (link : Fin 256) (cell : List Byte) (index : Fin 18) (mtype m : Nat) : Prop :=
  s.hasLink link = true ∧ (s.link link).st = .up ∧ GoodCell cell ∧ creditOf mtype cell index = some m ∧
    u = (if index = 0 then s.heardCell link cell else s) ∧ (u.link link).st = .up ∧ cellDst cell = u.myId ∧
    u.effective (cellSrc cell) = true

/-- Opcode and parameters of the letter that stages one item. -/
def itemOf (l : LetterId) (r : TableRecord) : Option (LetterId × Nat × List Par) :=
  some (l, (itemLetter r).1, (itemLetter r).2)

/-- The letter that a command is the row of: the letter, its opcode, its parameters (10 R328, R344); none for the rows
that are no letter's. -/
def letterOf : Instr → Option (LetterId × Nat × List Par)
  | .moduleIdentify l => some (l, 0x0101, [])
  | .moduleSetId l moduleId => some (l, 0x0102, [p4 moduleId])
  | .moduleSetCompat l low high => some (l, 0x0103, [p4 low, p4 high])
  | .moduleOpenRing l ring letters receipts depth => some (l, 0x0104, [p4 ring, p8 letters, p8 receipts, p4 depth])
  | .moduleCloseRing l ring => some (l, 0x0105, [p4 ring])
  | .moduleSetEventRing l events depth => some (l, 0x0106, [p8 events, p4 depth])
  | .moduleSaveSettings l => some (l, 0x0107, [])
  | .moduleReset l kind => some (l, 0x0108, [p4 kind])
  | .moduleSetMgmt l a => some (l, 0x0109, [p4 a.port, p4 a.vlan, p4be a.ipv4, p4 a.ipv4Plen, p4be a.ipv4Gw,
      pBe a.ipv6.toNat 16, p4 a.ipv6Plen, pBe a.ipv6Gw.toNat 16])
  | .timeSetSource l mode sources wtr => some (l, 0x0201, [p4 mode, pL sources, p8 wtr])
  | .timeAdjust l phase freq => some (l, 0x0202, [p8 phase, p4 freq])
  | .timeSetQuality l state error => some (l, 0x0203, [p4 state, p8 error])
  | .timeSetHoldover l rate => some (l, 0x0204, [p4 rate])
  | .timeSetPtp l port enable domain steps => some (l, 0x0205, [p4 port, p4 enable, p4 domain, p4 steps])
  | .timeRead l => some (l, 0x0206, [])
  | .epochOpen l n => some (l, 0x0301, [p4 n])
  | .epochCommit l n count t spacing => some (l, 0x0302, [p4 n, p4 count, pT t, p8 spacing])
  | .epochAbort l n => some (l, 0x0303, [p4 n])
  | .epochCancel l n => some (l, 0x0304, [p4 n])
  | .epochStatus l => some (l, 0x0305, [])
  | .portConfigure l a => some (l, 0x0401, [p4 a.port, p4 a.mode, p4 a.medium, p8 a.mtu, p8 a.trainTimeout,
      p8 a.debounce, p8 a.holdoff, p4 a.fecDegrade, p4 a.pause, p4 a.pcpMap, p4 a.tcMap, p4 a.dscpMap0, p4 a.dscpMap1, p4 a.dscpMap2, p4 a.dscpMap3, p4 a.hashProfile, p4 a.alwaysOn])
  | .portEnable l port => some (l, 0x0402, [p4 port])
  | .portDisable l port => some (l, 0x0403, [p4 port])
  | .portSetLaneMap l octet map rxInvert txInvert => some (l, 0x0404, [p4 octet, p4 map, p4 rxInvert, p4 txInvert])
  | .portSetDelay l port rx tx => some (l, 0x0405, [p4 port, p8 rx, p8 tx])
  | .portSetTxEq l lane taps => some (l, 0x0406, [p4 lane, p4 taps.pre2, p4 taps.pre1, p4 taps.main, p4 taps.post1])
  | .portStatus l port => some (l, 0x0407, [p4 port])
  | .envelopeCreateFlexe l fgroup group phyType phys caRequired => some (l, 0x0501, [p4 fgroup, p4 group, p4 phyType,
      p4 phys, p4 caRequired])
  | .envelopeCreateOtu l a => some (l, 0x0502, [p4 a.fgroup, p4 a.iface, p4 a.n, p4 a.firstLane, p4 a.lanes,
      p4 a.frameN, p4 a.frameM, p4 a.timAct])
  | .envelopeDeleteGroup l fgroup kind index => some (l, 0x0503, [p4 fgroup, p4 kind, p4 index])
  | .envelopeEnableGroup l fgroup kind index => some (l, 0x0504, [p4 fgroup, p4 kind, p4 index])
  | .envelopeDisableGroup l fgroup kind index => some (l, 0x0505, [p4 fgroup, p4 kind, p4 index])
  | .envelopeWriteCalendar l fgroup group slots => some (l, 0x0506, [p4 fgroup, p4 group, pL slots])
  | .envelopeScheduleCalendar l fgroup group t => some (l, 0x0507, [p4 fgroup, p4 group, pT t])
  | .envelopeCancelCalendar l fgroup group => some (l, 0x0508, [p4 fgroup, p4 group])
  | .envelopeWriteTsPage l fgroup entries => some (l, 0x0509, [p4 fgroup, pL entries])
  | .envelopeScheduleTsPage l fgroup t => some (l, 0x050A, [p4 fgroup, pT t])
  | .envelopeCancelTsPage l fgroup => some (l, 0x050B, [p4 fgroup])
  | .envelopeOhChannel l channel rxRing txRing depth => some (l, 0x050C, [p4 channel, p8 rxRing, p8 txRing, p4 depth])
  | .storeSetMode l mode => some (l, 0x0601, [p4 mode])
  | .storeWriteMicro l benches start words => some (l, 0x0602, [p4 benches, p4 start, pL words])
  | .storeWriteNano l benches start words => some (l, 0x0603, [p4 benches, p4 start, pL words])
  | .storeWritePatch l benches micro nano matchRegs level => some (l, 0x0604, [p4 benches, pL micro, pL nano,
      pL matchRegs, p4 level])
  | .storeStageImage l benches bank => some (l, 0x0605, [p4 benches, p4 bank])
  | .storeSeal l benches version => some (l, 0x0606, [p4 benches, p4 version])
  | .storeScheduleLoad l benches t spacing => some (l, 0x0607, [p4 benches, pT t, p8 spacing])
  | .storeCancelLoad l benches => some (l, 0x0608, [p4 benches])
  | .storeEnableBench l bench => some (l, 0x0609, [p4 bench])
  | .storeDisableBench l bench => some (l, 0x060A, [p4 bench])
  | .storeSetBudget l budget => some (l, 0x060B, [p4 budget])
  | .storeWriteLocal l clerk offset size data => some (l, 0x060C, [p4 clerk, p4 offset, p8 size, pLe data.toNat 64])
  | .routeAdd l a => itemOf l (.routeAdd a)
  | .routeDelete l vrf family pfx plen => itemOf l (.routeDelete vrf family pfx plen)
  | .routeBlock l records listCrc => some (l, 0x0703, [pL records, p4 listCrc])
  | .tableExactAdd l type key result => itemOf l (.exactAdd type key result)
  | .tableExactDelete l type key => itemOf l (.exactDelete type key)
  | .tableNhWrite l nh voqBase port module encap => itemOf l (.nhWrite nh voqBase port module encap)
  | .tableNhDelete l nh => itemOf l (.nhDelete nh)
  | .tableEcmpWrite l group mode members => itemOf l (.ecmpWrite group mode members)
  | .tableEcmpDelete l group => itemOf l (.ecmpDelete group)
  | .tableSetHash l seed profile fields => some (l, 0x0807, [p4 seed, p4 profile, p4 fields])
  | .tableBlock l records listCrc => some (l, 0x0808, [pL records, p4 listCrc])
  | .aclWrite l bank index value mask action => itemOf l (.aclWrite bank index value mask action)
  | .aclDelete l bank index => itemOf l (.aclDelete bank index)
  | .aclSetProfile l a => itemOf l (.aclProfile a)
  | .aclSetSelect l profile masks => itemOf l (.aclSelect profile masks)
  | .aclSetBankWidth l bank width => some (l, 0x0905, [p4 bank, p4 width])
  | .aclSetSelftest l period => some (l, 0x0906, [p8 period])
  | .aclBlock l records listCrc => some (l, 0x0907, [pL records, p4 listCrc])
  | .bufferSetPools l g0 g1 g2 g3 => some (l, 0x0A01, [p4 g0, p4 g1, p4 g2, p4 g3])
  | .bufferSetClass l cls shallowReserve shallowLimit deepReserve deepLimit => some (l, 0x0A02, [p4 cls,
      p8 shallowReserve, p8 shallowLimit, p8 deepReserve, p8 deepLimit])
  | .bufferSetAdmission l a => some (l, 0x0A03, [p4 a.profile, p8 a.guaranteed, p4 a.spillEnable, p8 a.spill,
      p4 a.alphaShallow, p4 a.alphaDeep, p8 a.max, p4 a.yellow, p4 a.red])
  | .bufferSetDlq l a => some (l, 0x0A04, [p4 a.mask, pLe a.reasons.toNat 64, p8 a.limit, p8 a.snap, p8 a.ring,
      p4 a.depth])
  | .bufferSetCutThrough l port ingress egress ctMin ctStart => some (l, 0x0A05, [p4 port, p4 ingress, p4 egress,
      p8 ctMin, p8 ctStart])
  | .queueConfigure l a => some (l, 0x0B01, [p4 a.queue, p4 a.admission, p8 a.maxAge, p4 a.destModule, p4 a.destPort,
      p4 a.cls, p4 a.eqBase, p4 a.eqMask, p4 a.parentLevel, p4 a.parentNode, p4 a.priority, p4 a.weight, p4 a.gate, p4 a.pfcClass])
  | .queueSetNode l a => some (l, 0x0B02, [p4 a.level, p4 a.node, p4 a.parentLevel, p4 a.parentNode, p4 a.priority,
      p4 a.weight, p8 a.cir, p8 a.cbs, p8 a.pir, p8 a.pbs, p4 a.lengthProfile])
  | .queueSetPort l a => some (l, 0x0B03, ([p4 a.port, p4 a.overspeed, p8 a.grantStop, p8 a.hold,
      p8 a.gateLead] ++ a.classPriority.map p4 ++ a.classWeight.map p4))
  | .queueSetLengthProfile l profile mode adjust => some (l, 0x0B04, [p4 profile, p4 mode, p4 adjust])
  | .queueDelete l level node => some (l, 0x0B05, [p4 level, p4 node])
  | .queueFlush l queue => some (l, 0x0B06, [p4 queue])
  | .queueWriteGates l port entries => some (l, 0x0B07, [p4 port, pL entries])
  | .queueScheduleGates l port t => some (l, 0x0B08, [p4 port, pT t])
  | .queueCancelGates l port => some (l, 0x0B09, [p4 port])
  | .policerConfigure l a => itemOf l (.policerWrite a)
  | .policerDelete l policer => itemOf l (.policerDelete policer)
  | .fabricEnableLink l link => some (l, 0x0D01, [p4 link])
  | .fabricDisableLink l link => some (l, 0x0D02, [p4 link])
  | .fabricSetTxEq l lane taps => some (l, 0x0D03, [p4 lane, p4 taps.pre2, p4 taps.pre1, p4 taps.main, p4 taps.post1])
  | .fabricSetTimers l reasmTimeout skewLimit creditWd holdMax packWait => some (l, 0x0D04, [p8 reasmTimeout,
      p8 skewLimit, p8 creditWd, p8 holdMax, p8 packWait])
  | .fabricSetCredit l grantSize mcRate => some (l, 0x0D05, [p8 grantSize, p8 mcRate])
  | .fabricSetMcastVoq l voq enable => some (l, 0x0D06, [p4 voq, p4 enable])
  | .fabricSetMgroup l mgid queues => some (l, 0x0D07, [p4 mgid, pL queues])
  | .hbmSetPanic l panicNs => some (l, 0x0E01, [p8 panicNs])
  | .hbmSetNeighbour l n => some (l, 0x0E02, [p4 n])
  | .hbmSetRetrain l period => some (l, 0x0E03, [p8 period])
  | .hbmRetrainNow l pchan => some (l, 0x0E04, [p4 pchan])
  | .hbmSetSelfRefresh l srIdle => some (l, 0x0E05, [p8 srIdle])
  | .hbmDisableStack l stack => some (l, 0x0E06, [p4 stack])
  | .hbmEnableStack l stack => some (l, 0x0E07, [p4 stack])
  | .hbmReadEyes l stack result _ => some (l, 0x0E08, [p4 stack, p8 result])
  | .sliceCreate l slice pasid quotas letters receipts depth => some (l, 0x0F01, [p4 slice, p4 pasid, pL quotas,
      p8 letters, p8 receipts, p4 depth])
  | .sliceSetShare l slice quotas => some (l, 0x0F02, [p4 slice, pL quotas])
  | .sliceReset l slice => some (l, 0x0F03, [p4 slice])
  | .sliceDelete l slice => some (l, 0x0F04, [p4 slice])
  | .sliceBindInband l slice address udpPort => some (l, 0x0F05, [p4 slice, pBe address.toNat 16, p4 udpPort])
  | .sliceDirtyLog l slice enable bitmap size _ => some (l, 0x0F06, [p4 slice, p4 enable, p8 bitmap, p8 size])
  | .sliceStatus l slice => some (l, 0x0F07, [p4 slice])
  | .courierOpenChannel l channel ring depth share => some (l, 0x1001, [p4 channel, p8 ring, p4 depth, p4 share])
  | .courierStop l channel => some (l, 0x1002, [p4 channel])
  | .courierClose l channel => some (l, 0x1003, [p4 channel])
  | .courierSetShare l channel share => some (l, 0x1004, [p4 channel, p4 share])
  | .imageWrite l part bank offset data => some (l, 0x1101, [p4 part, p4 bank, p8 offset, pL data])
  | .imageVerify l part bank => some (l, 0x1102, [p4 part, p4 bank])
  | .imageActivate l parts t => some (l, 0x1103, [p4 parts, pT t])
  | .imageAbort l parts => some (l, 0x1104, [p4 parts])
  | .imageList l => some (l, 0x1105, [])
  | .telemetryReadCounters l first count result _ => some (l, 0x1201, [p4 first, p4 count, p8 result])
  | .telemetrySnapshot l ranges result => some (l, 0x1202, [pL ranges, p8 result])
  | .telemetrySetTagging l ratio => some (l, 0x1203, [p4 ratio])
  | .telemetrySetTrace l benches filter mode => some (l, 0x1204, [p4 benches, p4 filter, p4 mode])
  | .telemetryReadTrace l result _ => some (l, 0x1205, [p8 result])
  | .powerRead l => some (l, 0x1301, [])
  | .powerSetCap l cap => some (l, 0x1302, [p4 cap])
  | .powerSetAlert l inputLow inputHigh temp => some (l, 0x1303, [p4 inputLow, p4 inputHigh, p4 temp])
  | .faultRead l first count result _ => some (l, 0x1401, [p4 first, p4 count, p8 result])
  | .faultClear l code => some (l, 0x1402, [p4 code])
  | .faultSetMask l code paths => some (l, 0x1403, [p4 code, p4 paths])
  | .mirrorConfigure l session destination truncate sample enabled => some (l, 0x1501, [p4 session, p4 destination,
      p8 truncate, p4 sample, p4 enabled])
  | .mirrorDisable l session => some (l, 0x1502, [p4 session])
  | _ => none

/-- Local memory is in its canonical form, and the trace ledger and the tag ledger hold no more records than they have
places (04 R128; 15 R446, R444). -/
def State.Inv (s : State) : Prop :=
  Memory.wf s.clerks.localMem = true ∧ s.tel.trace.length ≤ 65536 ∧ s.tel.tags.length ≤ 4096

end Sys2Proof.Machine
end

