-- ==== Sys2Proof/Certificates/Slice0/Obligations.lean ====
section
/-!
DEFINITION. Certificates/Slice0/Obligations.lean: the statements for the provers. Where a statement covers several
commands, each clause says of one of them, under conditions on the state and the operands alone, which next state `exec`
answers. `Accepted s base t l …` says that `t` is `base` but for the entry of the letter `l` in the ledger and its number in faults it raised.
-/

set_option linter.unusedVariables false

open Sys2Proof Sys2Proof.Machine

/-- A step runs the command at the front of the queue. With command c at the front of its queue, a step is exec of c on
the state with the queue's rest. On an empty queue a step is the passing of one tick (the model's choice,
notes/assumptions/8.md). (opcode_table.json, R37) -/
def Obligations.StepRunsTheFrontCommand : Prop :=
  -- sr_front
  (∀ (s : State) (c : Instr), step { s with pending := c :: s.pending } = exec c s) ∧
  -- sr_idle
  (∀ (s : State), s.pending = [] → step s = .next s.tick)

/-- Every step keeps local memory canonical and the trace and tag buffers within their sizes. From every state that meets
the invariant, whatever command is at the front and on the empty queue, a step that answers a next state answers one
that meets the invariant. (R444, R446, R135) -/
def Obligations.EveryStepKeepsTheInvariant : Prop :=
  -- es_inv
  (∀ (s t : State), s.Inv → step s = .next t → t.Inv)

/-- The state after reset meets the invariant. Local memory is in its canonical form (the model's form,
notes/assumptions/7.md), and the trace ledger and the tag buffer are within their sizes. (R444, R446, R135) -/
def Obligations.ResetMeetsTheInvariant : Prop :=
  -- ri_inv
  (State.reset.Inv)

/-- What the state after reset holds. After reset: FREERUN with the largest bound, epoch 0 with none pending, every port
DISABLED with its default MTU, hold-off and debounce, the default budget, an empty control store, an empty fault log
and no waiting command. (R47, R60, R77, R84, R90, R91, R92, R127, R139) -/
def Obligations.ResetState : Prop :=
  -- rs_time
  (State.reset.time.state = .freerun ∧ State.reset.time.bound = 65535 ∧ State.reset.time.holdoverRate = 2000 ∧
    State.reset.time.wtr = 10000000000 ∧ State.reset.time.external = false ∧ State.reset.timeGood = false ∧ State.reset.units = 0) ∧
  -- rs_epoch
  (State.reset.epoch.current = 0#16 ∧ State.reset.epoch.pending = none ∧ State.reset.epoch.page = .empty ∧
    State.reset.epoch.compatLow = 0#32 ∧ State.reset.epoch.compatHigh = 0xFFFFFFFF#32) ∧
  -- rs_ports
  (∀ (p : Nat), (State.reset.port p).state = .disabled ∧ (State.reset.port p).mtu = 9728 ∧
    (State.reset.port p).holdoff = 50000000 ∧ (State.reset.port p).debounce = 0 ∧ (State.reset.port p).fecDegrade = 200000) ∧
  -- rs_clerks
  (State.reset.clerks.budget = 4096 ∧ State.reset.clerks.micro = [] ∧ State.reset.clerks.nano = []) ∧
  -- rs_empty
  (State.reset.pending = [] ∧ State.reset.clerks.localMem = [] ∧ State.reset.faults.log = [] ∧
    State.reset.tel.trace = [] ∧ State.reset.tel.tags = [])

/-- Every command answers a next state, or the fault of a unit that the variant lacks. No command is refused; exec answers
a next state or the fault absentUnit, and on the variant that has every unit always a next state. (R6, R7) -/
def Obligations.EveryCommandAnswers : Prop :=
  -- ea_all
  (∀ (c : Instr) (s : State), (∃ t, exec c s = .next t) ∨ exec c s = .fault .absentUnit) ∧
  -- ea_full
  (∀ (c : Instr) (s : State), s.variant = .le3840 → ∃ t, exec c s = .next t)

/-- No command changes the queue or the variant. exec leaves the waiting commands and the variant as they are, so a step
takes exactly the front command from the queue. (R6, opcode_table.json) -/
def Obligations.CommandsKeepTheQueueAndTheVariant : Prop :=
  -- kq_exec
  (∀ (c : Instr) (s t : State), exec c s = .next t → t.pending = s.pending ∧ t.variant = s.variant) ∧
  -- kq_step
  (∀ (s t : State) (c : Instr) (cs : List Instr), s.pending = c :: cs → step s = .next t → t.pending = cs ∧ t.variant = s.variant)

/-- Which commands can change local memory, and where a nanoword and STORE.WRITE_LOCAL write. Every command but eleven
leaves local memory as it was; an issued nanoword leaves every byte of the other clerks as it was; STORE.WRITE_LOCAL
to one clerk leaves every byte outside its 64 as it was. (R135, R136, R141) -/
def Obligations.LocalMemoryHasItsWriters : Prop :=
  -- lm_writers
  (∀ (c : Instr) (s t : State), exec c s = .next t → t.clerks.localMem ≠ s.clerks.localMem →
    match c with
    | .nanowordIssue .. | .localLoadLand .. | .storeWriteLocal .. | .receiptWrite .. | .inbandReplySend .. | .addressResolved ..
    | .undervoltageLockout | .overvoltageShutdown | .pwrEnDeassert | .thermalShutdown | .resetNAssert => True
    | _ => False) ∧
  -- lm_issue
  (∀ (b : Fin 32) (c : Fin 16) (ecc : Bool) (s t : State) (a : Nat), exec (.nanowordIssue b c ecc) s = .next t →
    a < 98304 * (16 * b.val + c.val) ∨ 98304 * (16 * b.val + c.val + 1) ≤ a →
    Memory.read t.clerks.localMem a = Memory.read s.clerks.localMem a) ∧
  -- lm_write
  (∀ (s t : State) (l : LetterId) (clerk offset : W32) (size : W64) (data : BitVec 512) (a : Nat),
    exec (.storeWriteLocal l clerk offset size data) s = .next t → clerk.toNat < 512 →
    a < 98304 * clerk.toNat + offset.toNat ∨ 98304 * clerk.toNat + offset.toNat + 64 ≤ a →
    Memory.read t.clerks.localMem a = Memory.read s.clerks.localMem a)

/-- A letter that its ring's order, the ledger or the term does not let act does nothing. For every command that carries a
letter: when the ledger holds no entry of that letter, opcode and body which the active postmaster may act on now,
exec answers the state unchanged. (R334, R399, R333) -/
def Obligations.UnclaimedLettersDoNothing : Prop :=
  -- ul_all
  (∀ (c : Instr) (s : State) (l : LetterId) (op : Nat) (ps : List Par), letterOf c = some (l, op, ps) →
    ¬ Claimed s l op ps → exec c s = .next s)

/-- A rejected letter changes its receipt and its place in the ledger alone. For every command that carries a letter: when
the claimed letter is DONE after it with a status other than DONE, SCHEDULED, STAGED and INTERNAL_FAULT, the next
state is the state before with that letter closed by its receipt, and a refused image write is counted besides. (R339) -/
def Obligations.RejectedLettersHaveNoEffect : Prop :=
  -- rl_all
  (∀ (c : Instr) (s t : State) (l : LetterId) (op : Nat) (ps : List Par) (e' : Entry),
    letterOf c = some (l, op, ps) → Claimed s l op ps → exec c s = .next t → t.entry l = some e' → e'.st = .done →
    e'.receipt.status ≠ .done → e'.receipt.status ≠ .scheduled → e'.receipt.status ≠ .staged → e'.receipt.status ≠ .internalFault →
    ∃ e r, s.entry l = some e ∧ (t = s.finish l e r ∨ ∃ p, t = (s.finish l e r).bump .imgRefused p))

/-- Time quality is good exactly in LOCKED or HOLDOVER with a bound of at most 100 ns. Time quality is good if and only if
the time state is LOCKED or HOLDOVER and the error bound now is at most 100 ns. (R49) -/
def Obligations.TimeQualityIsGood : Prop :=
  -- tq_good
  (∀ (s : State), s.timeGood = true ↔ (s.time.state = .locked ∨ s.time.state = .holdover) ∧ s.boundNow ≤ 100)

/-- Intake steers a pass to the freest live bench, its freest clerk and its lowest FREE slot. When a slot is picked it is
the lowest FREE slot of the clerk with fewest slots in use of the live bench with fewest slots in use, the lower
number winning ties; with no live bench none is picked. (R119, R120) -/
def Obligations.DispatchPicksTheFreestSlot : Prop :=
  -- dp_pick
  (∀ (s : State) (k : Nat), s.pickSlot = some k → ∃ b c i, k = slotKey b c i ∧ b < s.variant.benches ∧ c < 16 ∧ i < 6 ∧
    (s.bench b).live = true ∧ (s.slotAt k).st = .free ∧
    (∀ b', b' < s.variant.benches → (s.bench b').live = true →
      s.busyBench b < s.busyBench b' ∨ s.busyBench b = s.busyBench b' ∧ b ≤ b') ∧
    (∀ c', c' < 16 → s.busyClerk b c < s.busyClerk b c' ∨ s.busyClerk b c = s.busyClerk b c' ∧ c ≤ c') ∧
    ∀ i', i' < i → (s.slotAt (slotKey b c i')).st ≠ .free) ∧
  -- dp_none
  (∀ (s : State), (∀ b, b < s.variant.benches → (s.bench b).live = false) → s.pickSlot = none)

/-- The ALU operations compute what their table says. For all operands, each ALU opcode's value is the one of the table,
over 64-bit vectors; every other opcode, a field past bit 63, a BSWAP size of 3 and a compare whose dst bits 5:3 are
not zero raise ILLEGAL_OP, and else the result or the predicate is written. (R132) -/
def Obligations.AluOperationsComputeTheTable : Prop :=
  -- al_arith
  (∀ (a b : BitVec 64) (imm : Nat) (p : BitVec 8),
    aluValue 0x01 a.toNat b.toNat imm p = some (a + b).toNat ∧ aluValue 0x02 a.toNat b.toNat imm p = some (a - b).toNat ∧
    aluValue 0x03 a.toNat b.toNat imm p = some (a &&& b).toNat ∧ aluValue 0x04 a.toNat b.toNat imm p = some (a ||| b).toNat ∧
    aluValue 0x05 a.toNat b.toNat imm p = some (a ^^^ b).toNat ∧ aluValue 0x06 a.toNat b.toNat imm p = some (a <<< (b.toNat % 64)).toNat ∧
    aluValue 0x07 a.toNat b.toNat imm p = some (a >>> (b.toNat % 64)).toNat ∧
    aluValue 0x08 a.toNat b.toNat imm p = some (a.sshiftRight (b.toNat % 64)).toNat) ∧
  -- al_field
  (∀ (a b : BitVec 64) (lo w : Nat) (imm : BitVec 16) (p : BitVec 8), lo = (imm.extractLsb' 0 6).toNat →
    w = (imm.extractLsb' 6 6).toNat + 1 → lo + w ≤ 64 →
    ∃ x y : BitVec 64, aluValue 0x09 a.toNat b.toNat imm.toNat p = some x.toNat ∧ aluValue 0x0A a.toNat b.toNat imm.toNat p = some y.toNat ∧
      ∀ i, i < 64 → x.getLsbD i = (decide (i < w) && a.getLsbD (lo + i)) ∧
        y.getLsbD i = if lo ≤ i ∧ i < lo + w then b.getLsbD (i - lo) else a.getLsbD i) ∧
  -- al_fieldPast
  (∀ (a b : Nat) (imm : BitVec 16) (p : BitVec 8),
    64 < (imm.extractLsb' 0 6).toNat + (imm.extractLsb' 6 6).toNat + 1 →
    aluValue 0x09 a b imm.toNat p = none ∧ aluValue 0x0A a b imm.toNat p = none) ∧
  -- al_minMax
  (∀ (a b : BitVec 64) (imm : Nat) (p : BitVec 8),
    aluValue 0x0B a.toNat b.toNat imm p = some (if a ≤ b then a else b).toNat ∧
    aluValue 0x0C a.toNat b.toNat imm p = some (if a ≤ b then b else a).toNat ∧
    aluValue 0x15 a.toNat b.toNat imm p = some (if p.getLsbD (imm % 8) then a else b).toNat) ∧
  -- al_swap
  (∀ (a : BitVec 64) (b : Nat) (k : Fin 3) (imm : Nat) (p : BitVec 8), imm % 4 = k.val →
    ∃ x : BitVec 64, aluValue 0x0E a.toNat b imm p = some x.toNat ∧
      ∀ i, i < 8 → x.extractLsb' (8 * i) 8 = if i < 2 * 2 ^ k.val then a.extractLsb' (8 * (2 * 2 ^ k.val - 1 - i)) 8 else 0#8) ∧
  -- al_checksum
  (∀ (a b : BitVec 64) (imm : Nat) (p : BitVec 8), ∃ x, aluValue 0x0F a.toNat b.toNat imm p = some x ∧ x < 65536 ∧
    x % 65535 = (a.toNat + b.toNat) % 65535 ∧ (x = 0 → a = 0#64 ∧ b = 0#64)) ∧
  -- al_compare
  (∀ (a b : BitVec 64) (imm : Nat) (p : BitVec 8),
    aluValue 0x10 a.toNat b.toNat imm p = some (if a = b then 1 else 0) ∧ aluValue 0x11 a.toNat b.toNat imm p = some (if a = b then 0 else 1) ∧
    aluValue 0x12 a.toNat b.toNat imm p = some (if a < b then 1 else 0) ∧ aluValue 0x13 a.toNat b.toNat imm p = some (if b < a then 1 else 0) ∧
    aluValue 0x14 a.toNat b.toNat imm p = some (if a &&& b = 0#64 then 0 else 1)) ∧
  -- al_reserved
  (∀ (op a b imm : Nat) (p : BitVec 8), op = 0 ∨ 0x15 < op ∨ op = 0x0E ∧ imm % 4 = 3 → aluValue op a b imm p = none) ∧
  -- al_illegal
  (∀ (w : View) (f field a b : Nat) (e : Effects), w.read (bits f 33 28) (some (bits f 15 0)) field = .ok a →
    w.read (bits f 27 22) (some (bits f 15 0)) field = .ok b →
    aluValue (bits f 47 40) a (if aluTwo (bits f 47 40) then b else 0) (bits f 15 0) w.slot.preds = none ∨
      (0x10 ≤ bits f 47 40 ∧ bits f 47 40 ≤ 0x14 ∧ 8 ≤ bits f 39 34) ∨ 56 ≤ bits f 39 34 →
    w.alu f field e = .error ⟨1, field, 0⟩) ∧
  -- al_writes
  (∀ (w : View) (f field a b v : Nat) (e : Effects), w.read (bits f 33 28) (some (bits f 15 0)) field = .ok a →
    w.read (bits f 27 22) (some (bits f 15 0)) field = .ok b →
    aluValue (bits f 47 40) a (if aluTwo (bits f 47 40) then b else 0) (bits f 15 0) w.slot.preds = some v →
    ∃ r, w.alu f field e = r ∧
      (0x10 ≤ bits f 47 40 → bits f 47 40 ≤ 0x14 → bits f 39 34 < 8 →
        r = .ok { (if field = 0 then { e with alu0 := v } else e) with preds := e.preds ++ [(bits f 39 34, decide (v = 1))] }) ∧
      (bits f 47 40 < 0x10 ∨ 0x14 < bits f 47 40 → bits f 39 34 < 56 →
        r = .ok { (if field = 0 then { e with alu0 := v } else e) with writes := e.writes ++ [(bits f 39 34, v)] }))

/-- A micro-trap writes its frame, goes to its vector and keeps the registers; a second one ends the pass. The 64 bytes at
the slot's frame address hold the trap frame and no other byte of local memory changes; the slot goes to micro address
0x0040 + cause (where a patch match may take it elsewhere) with its registers, window, predicates and stack as they
were; a trap in a handler ends the pass. (R140, R141, R142, R144) -/
def Obligations.MicroTrapsWriteTheirFrame : Prop :=
  -- mt_frame
  (∀ (s : State) (k : Nat) (v : Slot) (mw : W32) (x : Trap),
    (∀ i, i < 64 → Memory.read (s.trapSlot k v mw x).clerks.localMem (98304 * (k / 6) + 0x17E80 + 64 * (k % 6) + i) =
      (trapFrame k v mw x).getD i 0#8) ∧
    ∀ a, a < 98304 * (k / 6) + 0x17E80 + 64 * (k % 6) ∨ 98304 * (k / 6) + 0x17E80 + 64 * (k % 6) + 64 ≤ a →
      Memory.read (s.trapSlot k v mw x).clerks.localMem a = Memory.read s.clerks.localMem a) ∧
  -- mt_vector
  (∀ (s : State) (k : Nat) (v : Slot) (mw : W32) (x : Trap), v.trap = none → v.st = .ready →
    ∃ w, (s.trapSlot k v mw x).slotAt k = w ∧ w.micro = s.goTo (k / 96) (BitVec.ofNat 16 (0x40 + x.cause)) ∧
      w.trap = some (x.cause, if x.cause = 8 ∨ x.cause = 9 then v.micro else v.micro + 1#16) ∧ (w.st = .ready ∨ w.st = .waiting) ∧
      w.g = v.g ∧ w.l = v.l ∧ w.hv = v.hv ∧ w.window = v.window ∧ w.preds = v.preds ∧ w.stack = v.stack) ∧
  -- mt_double
  (∀ (s : State) (k : Nat) (v : Slot) (mw : W32) (x : Trap), v.trap.isSome = true →
    ∃ w, (s.trapSlot k v mw x).slotAt k = w ∧ w.st = .retiring ∧ w.ended = some (.doubleTrap (trapFrame k v mw x)))

/-- NH_RESOLVE picks a group's member by the rotated and folded flow hash. With the flow hash rotated right and folded to
16 bits by exclusive or, DIRECT picks member (h16 x m) >> 16 and RESILIENT bucket h16 mod B; NH_RESOLVE on a result of
kind 1 answers the next hop of the member so picked, with the rotation from param bits 4:0. (R164) -/
def Obligations.EcmpPicksByTheFoldedHash : Prop :=
  -- ec_direct
  (∀ (g : Ecmp) (hash : BitVec 32) (rot : Fin 32), g.resilient = false → g.members ≠ [] → g.members.length ≤ 65536 →
    ∃ h16 : BitVec 16, h16 = (hash.rotateRight rot.val).extractLsb' 16 16 ^^^ (hash.rotateRight rot.val).extractLsb' 0 16 ∧
      ∃ i, i = h16.toNat * g.members.length / 65536 ∧ i < g.members.length ∧ g.pick hash.toNat rot.val = g.members[i]?) ∧
  -- ec_resilient
  (∀ (g : Ecmp) (hash : BitVec 32) (rot : Fin 32), g.resilient = true → g.members ≠ [] →
    ∃ h16 : BitVec 16, h16 = (hash.rotateRight rot.val).extractLsb' 16 16 ^^^ (hash.rotateRight rot.val).extractLsb' 0 16 ∧
      ∃ i, i = h16.toNat % g.members.length ∧ i < g.members.length ∧ g.pick hash.toNat rot.val = g.members[i]?) ∧
  -- ec_resolve
  (∀ (s : State) (e : Nat) (d : Dispatch) (g : Ecmp) (i : Nat) (n : NextHop), bit (d.key 0) 63 = true →
    bits (d.key 0) 21 20 = 1 → s.see e (afind s.lookup.ecmp (bits (d.key 0) 19 0 % 65536)) = some g →
    g.pick (hvBits d.hv 20 4) (bits d.param.toNat 4 0) = some i → s.see e (afind s.lookup.nh i) = some n →
    s.nhResolve e d = (2 ^ 63 + n.voqBase * 2 ^ 20 + i, n.encap.toNat * 2 ^ 16 + n.port * 2 ^ 7 + n.module))

/-- A policer holds the largest rate m x 2^e not above the rate given. For every rate below 2^47 b/s the held rate is m x
2^e with a 16-bit m and e from 0 to 31, not above the rate, the largest such value, and from 65,536 b/s on m is at
least 32,768 and the held rate lies within 1/32,768 of the rate. (R167) -/
def Obligations.PolicerRatesAreHeldAsMantissaAndExponent : Prop :=
  -- pr_held
  (∀ (r : Nat), r < 2 ^ 47 → ∃ m e, heldRate r = m * 2 ^ e ∧ m < 65536 ∧ e ≤ 31 ∧ heldRate r ≤ r ∧
    (∀ m' e', m' < 65536 → e' ≤ 31 → m' * 2 ^ e' ≤ r → m' * 2 ^ e' ≤ heldRate r) ∧
    (65536 ≤ r → 32768 ≤ m ∧ 32768 * (r - heldRate r) ≤ r))

/-- Epochs: the letters, the switch, the release and the order of epoch numbers. Next states of the epoch letters, of the
switch of an epoch page, of the release of the replaced versions and of sub-epoch switches; when one 16-bit epoch
number is newer than another. (R53, R54, R56, R57, R59, R62, R64, R65, R68, R69, R71) -/
def Obligations.EpochLettersAndEvents : Prop :=
  -- tq_newer
  (∀ (a b : BitVec 16), epochNewer a b = true ↔ 1 ≤ (a - b).toNat ∧ (a - b).toNat ≤ 32767) ∧
  -- tq_far
  (∀ (a b : BitVec 16), (a - b).toNat = 32768 → epochNewer a b = false ∧ epochNewer b a = false) ∧
  -- epoch_open
  (∀ (s : State) (l : LetterId) (n : W32), Claimed s l 0x0301 [p4 n] → n.toNat ≤ 65535 →
    s.epoch.pending = none → s.epoch.releasing = none → s.epoch.seq = none →
    1 ≤ (BitVec.ofNat 16 n.toNat - s.epoch.current).toNat → (BitVec.ofNat 16 n.toNat - s.epoch.current).toNat ≤ 32767 →
    ∃ t, exec (.epochOpen l n) s = .next t ∧ Accepted s { s with epoch := { s.epoch with pending := some (BitVec.ofNat 16 n.toNat), page := .loading, applied := 0, commit := none, held := false } } t l .done (layBody [p4 n])) ∧
  -- epoch_commitMet
  (∀ (s : State) (l : LetterId) (n count : W32) (spacing : W64),
    Claimed s l 0x0302 [p4 n, p4 count, pT 0#128, p8 spacing] → s.epoch.pending.map (·.toNat) = some n.toNat → n.toNat ≤ 65535 →
    1 ≤ count.toNat → count.toNat ≤ s.epoch.applied → count.toNat ≤ 16777215 → s.epoch.held = false →
    s.epoch.page = .loading ∨ s.epoch.page = .loaded → s.epoch.seq = none → 200000 ≤ spacing.toNat → spacing.toNat ≤ 100000000 →
    ∃ t, exec (.epochCommit l n count 0#128 spacing) s = .next t ∧
      Accepted s { s with epoch := { s.epoch with commit := some { t := 0, count := count.toNat, spacing := spacing.toNat }, held := false, page := .armed } } t l .scheduled (layBody [p4 n, p4 count, pT 0#128, p8 spacing])) ∧
  -- epoch_commitHeld
  (∀ (s : State) (l : LetterId) (n count : W32) (at' : TimeParam) (spacing : W64),
    Claimed s l 0x0302 [p4 n, p4 count, pT at', p8 spacing] → s.epoch.pending.map (·.toNat) = some n.toNat → n.toNat ≤ 65535 →
    s.epoch.applied < count.toNat → count.toNat ≤ 16777215 → s.epoch.held = false →
    s.epoch.page = .loading ∨ s.epoch.page = .loaded → s.epoch.seq = none → 200000 ≤ spacing.toNat → spacing.toNat ≤ 100000000 →
    badTime at' = false → farTime s at' = false → pastTime s at' = false →
    ∃ t, exec (.epochCommit l n count at' spacing) s = .next t ∧
      Accepted s { s with epoch := { s.epoch with commit := some { t := schedT at', count := count.toNat, spacing := spacing.toNat }, held := true, page := .loading } } t l .scheduled (layBody [p4 n, p4 count, pT at', p8 spacing])) ∧
  -- epoch_abort
  (∀ (s : State) (l : LetterId) (n : W32), Claimed s l 0x0303 [p4 n] → n.toNat ≤ 65535 →
    s.epoch.pending.map (·.toNat) = some n.toNat → s.epoch.seq = none →
    ∃ t, exec (.epochAbort l n) s = .next t ∧ Accepted s s.abortEpoch t l .done (layBody [p4 n])) ∧
  -- epoch_cancel
  (∀ (s : State) (l : LetterId) (n : W32), Claimed s l 0x0304 [p4 n] → n.toNat ≤ 65535 →
    s.epoch.pending.map (·.toNat) = some n.toNat → s.epoch.page = .armed ∨ s.epoch.page = .deferred → s.epoch.seq = none →
    ∃ t, exec (.epochCancel l n) s = .next t ∧
      Accepted s (State.clearFault { s with epoch := { s.epoch with page := .loaded, held := false, commit := none } } 0x0203 0) t l .done (layBody [p4 n])) ∧
  -- epoch_status
  (∀ (s : State) (l : LetterId), Claimed s l 0x0305 [] → s.epoch.commit = none → s.epoch.held = false →
    s.epoch.page ≠ .armed → s.epoch.page ≠ .deferred → s.epoch.seq = none →
    ∃ t, exec (.epochStatus l) s = .next t ∧ Accepted s s t l .done (layBody [n4 s.epoch.current.toNat,
      n4 (s.epoch.pending.getD s.epoch.current).toNat, n4 s.epoch.pendingCode,
      n4 (4 * b2n s.lagging + 8 * b2n s.epoch.releasing.isSome), n4 s.epoch.applied, n4 0, leBytes 0 16, n4 0, n4 0])) ∧
  -- epoch_switch
  (∀ (s : State) (n : BitVec 16) (c : Commit), s.epoch.pending = some n → s.epoch.commit = some c →
    s.epoch.seq = none → s.epoch.held = false → s.epoch.page = .armed → c.t ≠ 0 → c.t ≤ s.units → c.good.getD s.timeGood = true →
    exec .epochSwitch s = .next (s.switchEpoch c.t) ∧ (s.switchEpoch c.t).epoch.current = n ∧
      (s.switchEpoch c.t).epoch.pending = none) ∧
  -- epoch_defer
  (∀ (s : State) (n : BitVec 16) (c : Commit), s.epoch.pending = some n → s.epoch.commit = some c →
    s.epoch.seq = none → s.epoch.held = false → s.epoch.page = .armed → c.t ≠ 0 → c.t ≤ s.units → c.good.getD s.timeGood = false →
    exec .epochSwitch s = .next (State.pageDeferred { s with epoch := { s.epoch with page := .deferred } } 0 0 0)) ∧
  -- epoch_lag
  (∀ (s : State) (n : BitVec 16) (c : Commit), s.epoch.pending = some n → s.epoch.commit = some c →
    s.epoch.seq = none → s.epoch.held = true → c.t ≠ 0 → c.t ≤ s.units →
    exec .epochSwitch s = .next ((State.condition { s with epoch := { s.epoch with held := false } } 0x0202 n.toNat true).pageEvent 0x0012 0 0 0)) ∧
  -- epoch_release
  (∀ (s : State), s.epoch.releasing.isSome = true → s.epoch.switchT + unitsOf 50000 ≤ s.units →
    s.oldPasses = false → s.lookup.copiesLeft = 0 → exec .epochRelease s = .next s.startRelease) ∧
  -- epoch_subSwitch
  (∀ (s : State) (q : SeqChange), s.epoch.seq = some q → q.switched ≠ 0 → q.due ≤ s.units → q.staged = true →
    s.epoch.pending.isSome = true → exec .subepochSwitch s = .next (s.switchEpoch q.due)) ∧
  -- epoch_subSlip
  (∀ (s : State) (q : SeqChange), s.epoch.seq = some q → q.switched ≠ 0 → q.due ≤ s.units → q.staged = false →
    exec .subepochSwitch s = .next (s.slip q)) ∧
  -- epoch_fetch
  (∀ (s : State) (q : SeqChange) (rs : List TableRecord), s.epoch.seq = some q → q.reset = false → q.staged = false →
    q.switched ≠ 0 → s.epoch.pending.isSome = true → exec (.sequencedListFetch (some rs)) s = .next (s.stageNext q))

/-- Die-to-die links: a flit with a good or bad check, lock loss and retraining. Next states of FLIT_RECEIVE,
D2D_LOCK_LOSS and D2D_RETRAIN on a link that is up or down. (R23, R24, R25, R26, R458, R466) -/
def Obligations.DieToDieLinks : Prop :=
  -- d2d_badCrc
  (∀ (s : State) (i : Fin 4) (f : Flit) (fs : List Flit), (s.d2dLink i).up = true →
    (s.d2dLink i).toDepot = f :: fs → f.fails + 1 < 16 →
    exec (.flitReceive i true false) s =
      .next (s.setD2d i { s.d2dLink i with toDepot := { f with fails := f.fails + 1 } :: fs })) ∧
  -- d2d_badCrcSorter
  (∀ (s : State) (i : Fin 4) (f : Flit) (fs : List Flit), (s.d2dLink i).up = true →
    (s.d2dLink i).toSorter = f :: fs → f.fails + 1 < 16 →
    exec (.flitReceive i false false) s =
      .next (s.setD2d i { s.d2dLink i with toSorter := { f with fails := f.fails + 1 } :: fs })) ∧
  -- d2d_sixteenth
  (∀ (s : State) (i : Fin 4) (f : Flit) (fs : List Flit), (s.d2dLink i).up = true →
    (s.d2dLink i).toDepot = f :: fs → 16 ≤ f.fails + 1 →
    exec (.flitReceive i true false) s =
      .next ((s.setD2d i { s.d2dLink i with toDepot := { f with fails := f.fails + 1 } :: fs }).d2dDown i)) ∧
  -- d2d_sixteenthSorter
  (∀ (s : State) (i : Fin 4) (f : Flit) (fs : List Flit), (s.d2dLink i).up = true →
    (s.d2dLink i).toSorter = f :: fs → 16 ≤ f.fails + 1 →
    exec (.flitReceive i false false) s =
      .next ((s.setD2d i { s.d2dLink i with toSorter := { f with fails := f.fails + 1 } :: fs }).d2dDown i)) ∧
  -- d2d_goodCrc
  (∀ (s : State) (i : Fin 4) (f : Flit) (fs : List Flit), (s.d2dLink i).up = true →
    (s.d2dLink i).toDepot = f :: fs →
    exec (.flitReceive i true true) s = .next (({ s with d2d := { s.d2d with
      links := nset {} i.val { s.d2dLink i with toDepot := fs } s.d2d.links
      earlyDepot := insertFlit f s.d2d.earlyDepot } } : State).drainDepot (insertFlit f s.d2d.earlyDepot).length)) ∧
  -- d2d_goodCrcSorter
  (∀ (s : State) (i : Fin 4) (f : Flit) (fs : List Flit), (s.d2dLink i).up = true →
    (s.d2dLink i).toSorter = f :: fs →
    exec (.flitReceive i false true) s = .next (({ s with d2d := { s.d2d with
      links := nset {} i.val { s.d2dLink i with toSorter := fs } s.d2d.links
      earlySorter := insertFlit f s.d2d.earlySorter } } : State).drainSorter (insertFlit f s.d2d.earlySorter).length)) ∧
  -- d2d_delivers
  (∀ (s : State) (i : Fin 4) (p : Packet) (n k : Nat) (fs : List Flit), (s.d2dLink i).up = true →
    (s.d2dLink i).toDepot = ⟨n, .ingress p, k⟩ :: fs → s.d2d.earlyDepot = [] → s.d2d.expectDepot = n →
    ∃ t, exec (.flitReceive i true true) s = .next t ∧
      t.buffers.fromSorter = s.buffers.fromSorter ++
        [{ p with firstAt := s.up, firstAlone := (s.queue p.queue).packets.isEmpty }] ∧
      t.d2d.expectDepot = n + 1 ∧ t.d2d.earlyDepot = [] ∧ t.clerks = s.clerks ∧ t.queues = s.queues ∧ t.line = s.line) ∧
  -- d2d_nothing
  (∀ (s : State) (i : Fin 4) (toDepot crcOk : Bool), (s.d2dLink i).up = false ∨
    (if toDepot then (s.d2dLink i).toDepot else (s.d2dLink i).toSorter) = [] →
    exec (.flitReceive i toDepot crcOk) s = .next s) ∧
  -- d2d_lockLoss
  (∀ (s : State) (i : Fin 4), (s.d2dLink i).up = true →
    exec (.d2dLockLoss i) s = .next (((s.setD2d i { s.d2dLink i with up := false, downAt := s.up }).condition 0x0101 i
      true).askDomain (142 + i) false).d2dChanged) ∧
  -- d2d_lockLossDown
  (∀ (s : State) (i : Fin 4), (s.d2dLink i).up = false →
    exec (.d2dLockLoss i) s = .next s) ∧
  -- d2d_retrainEarly
  (∀ (s : State) (i : Fin 4) (locked : Bool), (s.d2dLink i).up = true ∨ s.powered = false ∨
    s.up < (s.d2dLink i).downAt + 10000000 → exec (.d2dRetrain i locked) s = .next s) ∧
  -- d2d_retrainPower
  (∀ (s : State) (i : Fin 4) (locked : Bool), (s.d2dLink i).up = false → s.powered = true →
    (s.d2dLink i).downAt + 10000000 ≤ s.up → s.domain (142 + i) = false →
    exec (.d2dRetrain i locked) s = .next (s.askDomain (142 + i) true)) ∧
  -- d2d_retrainTry
  (∀ (s : State) (i : Fin 4), (s.d2dLink i).up = false → s.powered = true →
    (s.d2dLink i).downAt + 10000000 ≤ s.up → s.domain (142 + i) = true →
    exec (.d2dRetrain i false) s =
      .next ((s.askDomain (142 + i) true).setD2d i { s.d2dLink i with downAt := s.up })) ∧
  -- d2d_retrained
  (∀ (s : State) (i : Fin 4), (s.d2dLink i).up = false → s.powered = true →
    (s.d2dLink i).downAt + 10000000 ≤ s.up → s.domain (142 + i) = true → s.serdesOk = true →
    exec (.d2dRetrain i true) s = .next ((((s.askDomain (142 + i) true).setD2d i { s.d2dLink i with
      up := true }).clearFault 0x0101 i).d2dChanged))

/-- Station time: its letters, the servo, the sources, PPS and ToD. Next states of the TIME letters and of the events of
the discipline of station time: measured offsets, lock, wait to restore, PTP and ESMC messages, PPS edges and ToD
messages. (R40, R41, R42, R43, R45, R46, R47, R48, R344, R521) -/
def Obligations.TimeLetters : Prop :=
  -- time_setSource
  (∀ (s : State) (l : LetterId) (mode : W32) (sources : ListArg SourceItem) (wtr : W64)
    (items : List SourceItem), Claimed s l 0x0201 [p4 mode, pL sources, p8 wtr] → mode.toNat ≤ 1 →
    1 ≤ sources.count.toNat → sources.count.toNat ≤ 4 → sources.items = some items →
    items.all sourceItemOk = true → items.eraseDups.length = items.length →
    items.all (fun v => !decide (v.kind = 0#32 ∧ v.port.toNat ≤ 191 ∧ s.variant.lanes ≤ v.port.toNat)) = true →
    wtr.toNat ≤ 720000000000 →
    ∃ t, exec (.timeSetSource l mode sources wtr) s = .next t ∧
      Accepted s (let u := s.setServoMode (decide (mode = 1#32))
        State.reselect { u with time := { u.time with sources := items.map s.sourceOf, wtr := wtr.toNat } } s.time.sourceUsed)
        t l .done (layBody [p4 mode, pL sources, p8 wtr])) ∧
  -- time_adjust
  (∀ (s : State) (l : LetterId) (phase : W64) (freq : W32), Claimed s l 0x0202 [p8 phase, p4 freq] →
    s.time.external = true → s.time.state ≠ .locked ∨ (sext 64 phase.toNat).natAbs ≤ 1000 →
    -1000000000 ≤ sext 64 phase.toNat → sext 64 phase.toNat ≤ 1000000000 →
    phase.toNat ≠ 2 ^ 63 → -500000 ≤ sext 32 freq.toNat → sext 32 freq.toNat ≤ 500000 → freq ≠ 0x80000000#32 →
    ∃ t, exec (.timeAdjust l phase freq) s = .next t ∧
      Accepted s (let u := s.adjustPhase (sext 64 phase.toNat)
        { u with time := { u.time with trim := trimOf (sext 32 freq.toNat) } })
      t l .done (layBody [p8s (sext 64 phase.toNat), p4s (sext 32 freq.toNat)])) ∧
  -- time_phase
  (∀ (s : State) (x : Int), x.natAbs ≤ 1000 →
    (0 ≤ x → (s.adjustPhase x).time.counter = s.time.counter + x.natAbs * 2 ^ 40) ∧
    (x < 0 → s.adjustPhase x = { s with time := { s.time with owed := s.time.owed + x.natAbs * 2 ^ 40 } })) ∧
  -- time_step
  (∀ (s : State) (x : Int), 1000 < x.natAbs →
    (s.adjustPhase x).time.counter = (Int.ofNat s.time.counter + x * 2 ^ 40).toNat ∧ (s.adjustPhase x).time.owed = 0) ∧
  -- time_setQuality
  (∀ (s : State) (l : LetterId) (q : W32) (error : W64), Claimed s l 0x0203 [p4 q, p8 error] →
    q.toNat ≤ 3 → s.time.external = true → q.toNat ≠ 2 ∨ s.time.state = .locked ∨ s.power.lost.getLsbD 3 = false →
    error.toNat ≤ 65535 →
    ∃ t, exec (.timeSetQuality l q error) s = .next t ∧
      Accepted s (let u := s.setTimeState (timeQ q.toNat)
        State.updateQuality { u with time := { u.time with
          bound := if timeQ q.toNat = .freerun then 65535 else error.toNat, boundAt := u.up } })
        t l .done (layBody [p4 q, p8 error])) ∧
  -- time_setHoldover
  (∀ (s : State) (l : LetterId) (rate : W32), Claimed s l 0x0204 [p4 rate] →
    100 ≤ rate.toNat → rate.toNat ≤ 1000000 →
    ∃ t, exec (.timeSetHoldover l rate) s = .next t ∧ Accepted s { s with time := { s.time with
      bound := s.boundNow, boundAt := s.up, holdoverRate := rate.toNat } } t l .done (layBody [p4 rate])) ∧
  -- time_setPtp
  (∀ (s : State) (l : LetterId) (port enable domain steps : W32),
    Claimed s l 0x0205 [p4 port, p4 enable, p4 domain, p4 steps] →
    port.toNat < s.variant.lanes ∨ port.toNat = 256 ∨ port.toNat = 257 → s.variant.lanes ≤ 192 → enable.toNat ≤ 1 →
    24 ≤ domain.toNat → domain.toNat ≤ 43 → steps = 1#32 ∨ steps = 2#32 →
    ∃ t, exec (.timeSetPtp l port enable domain steps) s = .next t ∧
      Accepted s (let u := { s with time := { s.time with ptp := nset {} port.toNat { enabled := decide (enable = 1#32), domain := domain.toNat, twoStep := decide (steps = 2#32) } s.time.ptp } }
        if enable = 1#32 then u else u.ptpDown port.toNat)
        t l .done (layBody [p4 port, p4 enable, p4 domain, p4 steps])) ∧
  -- time_read
  (∀ (s : State) (l : LetterId), Claimed s l 0x0206 [] →
    ∃ t, exec (.timeRead l) s = .next t ∧ Accepted s s t l .done (layBody [leBytes (time96 s.units) 16, n4 s.time.state.code,
      n4 s.boundNow, n4 (b2n s.time.external), n4 (s.time.inUse.getD 0xFFFFFFFF)])) ∧
  -- servo_acquiring
  (∀ (s : State) (offset : Int) (filtered : Nat), s.servoRuns = true → s.time.state = .acquiring →
    s.time.sourceUsed.map (·.1) = some false → offset.natAbs ≤ 1000 →
    exec (.servoOffsetMeasure offset filtered) s = .next (State.updateQuality { s with fresh := s.fresh + 1, time := { s.time with
      bound := min 65535 filtered, boundAt := s.up, trim := s.nextTrim offset
      lowSince := if min 65535 filtered ≤ 100 then some (s.time.lowSince.getD s.up) else none } })) ∧
  -- servo_acquiringFar
  (∀ (s u : State) (offset : Int) (filtered : Nat), s.servoRuns = true → s.time.state = .acquiring →
    s.time.sourceUsed.map (·.1) = some false → 1000 < offset.natAbs →
    u = State.stepTime { s with fresh := s.fresh + 1, time := { s.time with
      bound := min 65535 filtered, boundAt := s.up, trim := s.nextTrim offset } }
      (Int.ofNat s.time.counter + offset * 2 ^ 40).toNat →
    exec (.servoOffsetMeasure offset filtered) s = .next (State.updateQuality { u with time := { u.time with
      lowSince := if min 65535 filtered ≤ 100 then some (s.time.lowSince.getD s.up) else none } })) ∧
  -- servo_locked
  (∀ (s : State) (offset : Int) (filtered : Nat), s.servoRuns = true → s.time.state = .locked →
    s.time.sourceUsed.map (·.1) = some false → offset.natAbs ≤ 1000 →
    exec (.servoOffsetMeasure offset filtered) s = .next (State.updateQuality { s with fresh := s.fresh + 1, time := { s.time with
      bound := min 65535 filtered, boundAt := s.up, trim := s.nextTrim offset, slewing := false } })) ∧
  -- servo_lock
  (∀ (s : State) (t : Nat), s.time.lowSince = some t → s.servoRuns = true → s.time.state = .acquiring →
    s.time.bound ≤ 100 → t + 10000000000 ≤ s.up → s.power.lost.getLsbD 3 = false →
    exec .servoLockTimer s = .next (s.setTimeState .locked)) ∧
  -- servo_wtr
  (∀ (s : State) (i : Fin 4) (v : PhaseSource) (t : Nat), s.time.sources[i.val]? = some v →
    v.goodSince = some t → t + s.time.wtr ≤ s.up →
    exec (.sourceWtrExpiry i) s = .next (s.setSource i { v with valid := true, failed := false, goodSince := none }).selectSource) ∧
  -- servo_ptpLost
  (∀ (s : State) (i : Fin 4) (v : PhaseSource), s.time.sources[i.val]? = some v → v.tod = false →
    v.valid = true → exec (.ptpSourceLost i) s =
      .next (s.setSource i { v with valid := false, failed := true, goodSince := none }).selectSource) ∧
  -- ptp_event
  (∀ (s : State) (port : Fin 194) (kind : PtpKind) (received : Bool) (corr : BitVec 64),
    port.val < s.variant.lanes → port.val < 192 → received = false ∨ s.ptpReady port = false ∨ s.ptpSource port = none →
    exec (.ptpEventMessage port kind received corr) s =
      .next (s.emit (.ptp port kind (s.ptpStamp port received) s.time.external))) ∧
  -- ptp_esmc
  (∀ (s : State) (port : Fin 192) (pdu : List Byte), port.val < s.variant.lanes →
    exec (.esmcPdu port pdu) s = .next (s.emit (.esmc port pdu))) ∧
  -- pps_inNoMessage
  (∀ (s : State), s.time.tod = none → exec .ppsInEdge s = .next { s with time := { s.time with
    lastEdge := some s.up, edgeStamp := s.units, todMissed := min 3 (s.time.todMissed + 1) } }) ∧
  -- pps_inMessage
  (∀ (s : State) (m : Tod), s.time.tod = some m → s.todSource = none →
    exec .ppsInEdge s = .next { s with time := { s.time with
      lastEdge := some s.up, edgeStamp := s.units, todApplied := some m, tod := none, todMissed := 0 } }) ∧
  -- tod_rxBad
  (∀ (s : State) (bytes : List Byte), todOk bytes = false →
    exec (.todMessageRx bytes) s = .next { s with time := { s.time with todBad := satInc s.time.todBad } }) ∧
  -- tod_rxGood
  (∀ (s : State) (bytes : List Byte) (e : Nat), todOk bytes = true → s.time.lastEdge = some e →
    e + 10000000 ≤ s.up → s.up ≤ e + 900000000 →
    exec (.todMessageRx bytes) s = .next { s with time := { s.time with tod := some {
      seconds := BitVec.ofNat 48 (leNat (bslice bytes 4 6)), quality := BitVec.ofNat 2 (leNat (bslice bytes 10 1))
      flags := BitVec.ofNat 8 (leNat (bslice bytes 11 1)), utcOffset := BitVec.ofNat 16 (leNat (bslice bytes 12 2))
      error := BitVec.ofNat 8 (leNat (bslice bytes 14 1)) } } }) ∧
  -- tod_missing
  (∀ (s : State) (i : Nat), s.time.todMissed = 3 → s.todSource = some i →
    exec .todMissingExpiry s = .next (s.sourceFails i)) ∧
  -- pps_out
  (∀ (s : State), s.powered = true → s.crossed 1000000000 = true → s.time.ppsAt ≠ some s.up →
    exec .ppsOutSecond s = .next { s.emit (.pps s.sec) with time := { s.time with
      ppsOut := some s.sec, ppsAt := some s.up, todOwed := true } }) ∧
  -- tod_transmit
  (∀ (s : State) (t : Nat), s.time.todOwed = true → s.time.ppsAt = some t → t + 100000000 ≤ s.up →
    exec .todTransmit s = .next { s.emit (.tod s.todBytes) with time := { s.time with todOwed := false } })

/-- Postcards and what the module knows of its peers. Next states when a postcard is sent or received, when a peer falls
silent and when the two reachability bits differ for long. (R72, R73, R75, R265, R270, R288) -/
def Obligations.PostcardsAndPeers : Prop :=
  -- pc_send
  (∀ (s : State), s.ready = true → s.crossed 100000 = true → s.fabric.pcAt ≠ some s.up →
    exec .postcardSend s = .next (let u := (List.range s.variant.planes).foldl (State.pcOnPlane s.postcard) s
      { u with fabric := { u.fabric with pcSeq := u.fabric.pcSeq + 1#16, pcAt := some u.up } })) ∧
  -- pc_receive
  (∀ (s u : State) (link : Fin 256) (cell : List Byte) (pc : Postcard), s.hasLink link = true → (s.link link).st = .up →
    GoodCell cell → isControl 1 cell = true → u = s.heardCell link cell → (u.link link).st = .up → u.ready = true →
    pc = readPostcard cell → pc.format = 1#8 → pc.rsvOk = true → pc.pendingState.toNat ≤ 4 →
    exec (.postcardReceive link cell true) s = .next (u.takePostcard pc)) ∧
  -- pc_receiveBad
  (∀ (s u : State) (link : Fin 256) (cell : List Byte) (pc : Postcard), s.hasLink link = true → (s.link link).st = .up →
    GoodCell cell → isControl 1 cell = true → u = s.heardCell link cell → (u.link link).st = .up → u.ready = true →
    pc = readPostcard cell → pc.format ≠ 1#8 ∨ pc.rsvOk = false ∨ 4 < pc.pendingState.toNat →
    exec (.postcardReceive link cell true) s = .next { u with time := { u.time with pcBad := satInc u.time.pcBad } }) ∧
  -- pc_absent
  (∀ (s : State) (d : Fin 128) (t : Nat), (s.peer d).lastSeen = some t → (s.peer d).present = true →
    t + unitsOf 300000 ≤ s.units →
    exec (.peerAbsent d) s = .next ((s.setPeer d { s.peer d with present := false, lastStep := none }).updatePeer d)) ∧
  -- pc_mismatch
  (∀ (s : State) (d : Fin 128) (t : Nat), (s.peer d).mismatchSince = some t → t + 1000000 < s.up →
    s.mapsDiffer d = true → exec (.reachMismatchTimer d) s = .next (s.condition 0x0205 d true))

/-- Ports: frames in and out, pause, and the PORT letters. Next states when a frame is received or sent and when pause is
received or ends, and of the PORT letters. (R79, R80, R82, R84, R85, R86, R87, R90, R93, R94, R114, R241) -/
def Obligations.PortFramesPausesAndLetters : Prop :=
  -- frame_rxGood
  (∀ (s : State) (port : Fin 192) (data : List Byte) (cws : List Codeword), s.hasPort port = true →
    (s.port port).state = .up → (s.port port).deaf = false → 60 ≤ data.length → data.length + 4 ≤ (s.port port).mtu →
    exec (.frameReceive port data true true cws) s = .next
      ((((cws.foldl (State.countCodeword port) s).setPort port { s.port port with rxOpen := false }).bump .rxOk port 0 1
        (data.length + 4)).toTray port data none)) ∧
  -- frame_rxNotUp
  (∀ (s : State) (port : Fin 192) (data : List Byte) (cws : List Codeword), s.hasPort port = true →
    (s.port port).state ≠ .up → (s.port port).deaf = false → 60 ≤ data.length → data.length + 4 ≤ (s.port port).mtu →
    exec (.frameReceive port data true true cws) s = .next
      (((cws.foldl (State.countCodeword port) s).setPort port { s.port port with rxOpen := false }).bump .rxNotUp port 0 1 (data.length + 4))) ∧
  -- frame_rxRunt
  (∀ (s : State) (port : Fin 192) (data : List Byte) (fcsOk fecOk : Bool) (cws : List Codeword), s.hasPort port = true →
    (s.port port).deaf = false → data.length < 60 →
    exec (.frameReceive port data fcsOk fecOk cws) s = .next
      (((cws.foldl (State.countCodeword port) s).setPort port { s.port port with rxOpen := false }).bump .rxRunt port 0 1 (data.length + 4))) ∧
  -- frame_rxOversize
  (∀ (s : State) (port : Fin 192) (data : List Byte) (fcsOk fecOk : Bool) (cws : List Codeword), s.hasPort port = true →
    (s.port port).deaf = false → 60 ≤ data.length → (s.port port).mtu < data.length + 4 →
    exec (.frameReceive port data fcsOk fecOk cws) s = .next
      (((cws.foldl (State.countCodeword port) s).setPort port { s.port port with rxOpen := false }).bump .rxOversize port 0 1 (data.length + 4))) ∧
  -- frame_rxFcs
  (∀ (s : State) (port : Fin 192) (data : List Byte) (fecOk : Bool) (cws : List Codeword), s.hasPort port = true →
    (s.port port).deaf = false → 60 ≤ data.length → data.length + 4 ≤ (s.port port).mtu →
    exec (.frameReceive port data false fecOk cws) s = .next
      (((cws.foldl (State.countCodeword port) s).setPort port { s.port port with rxOpen := false }).bump .rxFcs port 0 1 (data.length + 4))) ∧
  -- frame_rxFec
  (∀ (s : State) (port : Fin 192) (data : List Byte) (cws : List Codeword), s.hasPort port = true →
    (s.port port).deaf = false → 60 ≤ data.length → data.length + 4 ≤ (s.port port).mtu →
    exec (.frameReceive port data true false cws) s = .next
      (((cws.foldl (State.countCodeword port) s).setPort port { s.port port with rxOpen := false }).bump .rxFecDiscard port 0 1 (data.length + 4))) ∧
  -- frame_rxDeaf
  (∀ (s : State) (port : Fin 192) (data : List Byte) (fcsOk fecOk : Bool) (cws : List Codeword), s.hasPort port = true →
    (s.port port).deaf = true → exec (.frameReceive port data fcsOk fecOk cws) s = .next
      (if (s.port port).state = .disabled then s else cws.foldl (State.countCodeword port) s)) ∧
  -- frame_codewordBad
  (∀ (s : State) (p : Nat),
    State.countCodeword p s .uncorrectable = s.bump .fecUncorrectable p) ∧
  -- frame_codewordGood
  (∀ (s : State) (p : Nat) (lane : Fin 192) (n : Fin 16), 0 < n.val →
    State.countCodeword p s (.corrected [(lane, n)]) =
      ((s.bump .fecSymbols lane 0 n).bump .fecCorrected p).bump .fecHistogram p n) ∧
  -- frame_tx
  (∀ (s u : State) (port : Fin 192) (p : Packet) (rest : List Packet), s.hasPort port = true →
    nget [] s.line.tx port.val = p :: rest → (s.port port).sends = .frames → p.tag = none → p.poisoned = false →
    u = s.setPort port { s.port port with txOpen := false, idleSince := s.up } →
    exec (.frameTransmit port) s = .next
      ((State.bump { u with line := { u.line with tx := nset [] port.val rest u.line.tx } } .txOk port 0 1
        ((p.data ++ List.replicate (60 - p.data.length) 0#8).length + 4)).emit
        (.frame port ((p.data ++ List.replicate (60 - p.data.length) 0#8) ++ fcs (p.data ++ List.replicate (60 - p.data.length) 0#8)) false))) ∧
  -- frame_txBad
  (∀ (s u : State) (port : Fin 192) (p : Packet) (rest : List Packet), s.hasPort port = true →
    nget [] s.line.tx port.val = p :: rest → (s.port port).sends = .frames → p.tag = none → p.poisoned = true →
    u = s.setPort port { s.port port with txOpen := false, idleSince := s.up } →
    exec (.frameTransmit port) s = .next
      (((State.bump { u with line := { u.line with tx := nset [] port.val rest u.line.tx } } .txOk port 0 1
        ((p.data ++ List.replicate (60 - p.data.length) 0#8).length + 4)).emit
        (.frame port ((p.data ++ List.replicate (60 - p.data.length) 0#8) ++ (fcs (p.data ++ List.replicate (60 - p.data.length) 0#8)).map (~~~ ·)) true)).bump .txFcsInverted port 0 1 ((p.data ++ List.replicate (60 - p.data.length) 0#8).length + 4))) ∧
  -- frame_txNone
  (∀ (s : State) (port : Fin 192), s.hasPort port = true → nget [] s.line.tx port.val = [] ∨ (s.port port).sends ≠ .frames →
    exec (.frameTransmit port) s = .next s) ∧
  -- pause_notUp
  (∀ (s : State) (port : Fin 192) (pfc : Bool) (classes : BitVec 8) (quanta : BitVec 128), s.hasPort port = true →
    (s.port port).deaf = false → (s.port port).state ≠ .up →
    exec (.pauseReceive port pfc classes quanta) s = .next ((s.setPort port { s.port port with rxOpen := false }).bump .rxNotUp port 0 1 64)) ∧
  -- pause_off
  (∀ (s : State) (port : Fin 192) (pfc : Bool) (classes : BitVec 8) (quanta : BitVec 128), s.hasPort port = true →
    (s.port port).deaf = false → (s.port port).state = .up → (s.port port).kind ≠ .native ∨ (s.port port).pauseOn = false →
    exec (.pauseReceive port pfc classes quanta) s = .next ((s.setPort port { s.port port with rxOpen := false }).bump .rxPause port 0 1 64)) ∧
  -- pause_on
  (∀ (s : State) (port : Fin 192) (classes : BitVec 8) (quanta : BitVec 128), s.hasPort port = true →
    (s.port port).deaf = false → (s.port port).state = .up → (s.port port).kind = .native → (s.port port).pauseOn = true →
    exec (.pauseReceive port false classes quanta) s = .next (let u := (s.setPort port { s.port port with rxOpen := false }).bump .rxPause port 0 1 64
      (u.setPort port { u.port port with pauseUntil := u.pauseEnd port (bits quanta.toNat 15 0) }).settlePause port)) ∧
  -- pause_expiry
  (∀ (s : State) (port : Fin 192), s.hasPort port = true → (s.port port).pauseUntil ≤ s.up →
    exec (.pauseExpiry port none) s = .next ((s.setPort port { s.port port with pauseUntil := 0 }).settlePause port)) ∧
  -- port_configure
  (∀ (s : State) (l : LetterId) (a : PortArgs),
    Claimed s l 0x0401 [p4 a.port, p4 a.mode, p4 a.medium, p8 a.mtu, p8 a.trainTimeout, p8 a.debounce,
      p8 a.holdoff, p4 a.fecDegrade, p4 a.pause, p4 a.pcpMap, p4 a.tcMap, p4 a.dscpMap0, p4 a.dscpMap1, p4 a.dscpMap2,
      p4 a.dscpMap3, p4 a.hashProfile, p4 a.alwaysOn] →
    a.mode.toNat ≤ 4 → a.medium.toNat ≤ 1 → a.pause.toNat ≤ 1 → a.pcpMap.toNat ≤ 65535 → a.tcMap.toNat ≤ 65535 →
    a.hashProfile.toNat ≤ 7 → a.alwaysOn.toNat ≤ 1 → legalLanes a.mode.toNat a.port.toNat = true →
    (portLanes a).any (fun x => (s.nativeLanes a.port.toNat).contains x || (octetsOf (s.flexeLanes ++ s.otuLanes)).contains (x / 8)) = false →
    (s.port a.port.toNat).kind = .unused ∨ (s.port a.port.toNat).kind = .native → s.portExists l.slice.val a.port.toNat = true →
    (portLanes a ++ if (s.port a.port.toNat).kind = .native then (s.port a.port.toNat).lanes a.port.toNat else []).any
      (fun x => s.enabledLanes.contains x) = false →
    1518 ≤ a.mtu.toNat → a.mtu.toNat ≤ 9728 → 1000000000 ≤ a.trainTimeout.toNat → a.trainTimeout.toNat ≤ 30000000000 →
    a.debounce.toNat ≤ 100000000 → a.holdoff.toNat ≤ 10000000000 → 1000 ≤ a.fecDegrade.toNat → a.fecDegrade.toNat ≤ 1000000 →
    ∃ t, exec (.portConfigure l a) s = .next t ∧ Accepted s (let u := s.setPort a.port.toNat { s.port a.port.toNat with
        kind := .native, mode := a.mode.toNat, optics := decide (a.medium = 1#32), mtu := a.mtu.toNat
        trainTimeout := a.trainTimeout.toNat, debounce := a.debounce.toNat, holdoff := a.holdoff.toNat
        fecDegrade := a.fecDegrade.toNat, pauseOn := decide (a.pause = 1#32), pcpMap := a.pcpMap, tcMap := a.tcMap
        dscpMap := a.dscpMap3 ++ a.dscpMap2 ++ a.dscpMap1 ++ a.dscpMap0, hashProfile := a.hashProfile.toNat
        alwaysOn := decide (a.alwaysOn = 1#32), byZero := decide (l.slice.val = 0) }
        if (s.port a.port.toNat).alwaysOn && !decide (a.alwaysOn = 1#32) then u.octetsOff [a.port.toNat] else u) t l .done
      (layBody [p4 a.port, p4 a.mode, p4 a.medium, p8 a.mtu, p8 a.trainTimeout, p8 a.debounce,
        p8 a.holdoff, p4 a.fecDegrade, p4 a.pause, p4 a.pcpMap, p4 a.tcMap, p4 a.dscpMap0, p4 a.dscpMap1, p4 a.dscpMap2,
        p4 a.dscpMap3, p4 a.hashProfile, p4 a.alwaysOn])) ∧
  -- port_enable
  (∀ (s : State) (l : LetterId) (port : W32), Claimed s l 0x0402 [p4 port] →
    s.portExists l.slice.val port.toNat = true → (s.port port.toNat).kind = .native → (s.port port.toNat).state = .disabled →
    (s.port port.toNat).disabling = false →
    ∃ t, exec (.portEnable l port) s = .next t ∧
      Accepted s ((s.enter port.toNat (if (s.port port.toNat).optics then .aligning else .training)).octetsOn ((s.port port.toNat).lanes port.toNat)) t l .done (layBody [p4 port])) ∧
  -- port_disable
  (∀ (s : State) (l : LetterId) (port : W32), Claimed s l 0x0403 [p4 port] →
    s.portExists l.slice.val port.toNat = true → (s.port port.toNat).state ≠ .disabled → (s.port port.toNat).disabling = false →
    ∃ t, exec (.portDisable l port) s = .next t ∧
      Accepted s (s.setPort port.toNat { s.port port.toNat with
        disabling := true, disableLetter := some l, rxOpen := true, txOpen := decide ((s.port port.toNat).state = .up), idleSince := s.up }) t l .done (layBody [p4 port]) true) ∧
  -- port_disableIdle
  (∀ (s : State) (l : LetterId) (port : W32), Claimed s l 0x0403 [p4 port] →
    s.portExists l.slice.val port.toNat = true → (s.port port.toNat).state = .disabled → (s.port port.toNat).disabling = false →
    ∃ t, exec (.portDisable l port) s = .next t ∧ Accepted s s t l .done (layBody [p4 port])) ∧
  -- port_setLaneMap
  (∀ (s : State) (l : LetterId) (octet map rxInvert txInvert : W32),
    Claimed s l 0x0404 [p4 octet, p4 map, p4 rxInvert, p4 txInvert] → l.slice.val = 0 → octet.toNat < s.variant.octets →
    s.variant.octets ≤ 24 → map.toNat < 2 ^ 24 → isPermutation map.toNat = true → rxInvert.toNat ≤ 255 → txInvert.toNat ≤ 255 →
    (octetsOf s.enabledLanes).contains octet.toNat = false →
    ∃ t, exec (.portSetLaneMap l octet map rxInvert txInvert) s = .next t ∧ Accepted s { s with line := { s.line with
      octets := nset {} octet.toNat ⟨BitVec.ofNat 24 map.toNat, BitVec.ofNat 8 rxInvert.toNat, BitVec.ofNat 8 txInvert.toNat⟩ s.line.octets } }
      t l .done (layBody [p4 octet, p4 map, p4 rxInvert, p4 txInvert])) ∧
  -- port_setDelay
  (∀ (s : State) (l : LetterId) (port : W32) (rx tx : W64), Claimed s l 0x0405 [p4 port, p8 rx, p8 tx] →
    s.portExists l.slice.val port.toNat = true → -100000 ≤ sext 64 rx.toNat → sext 64 rx.toNat ≤ 100000 → rx.toNat ≠ 2 ^ 63 →
    -100000 ≤ sext 64 tx.toNat → sext 64 tx.toNat ≤ 100000 → tx.toNat ≠ 2 ^ 63 →
    ∃ t, exec (.portSetDelay l port rx tx) s = .next t ∧
      Accepted s (s.setPort port.toNat { s.port port.toNat with rxDelay := sext 64 rx.toNat, txDelay := sext 64 tx.toNat })
      t l .done (layBody [p4 port, p8s (sext 64 rx.toNat), p8s (sext 64 tx.toNat)])) ∧
  -- port_setTxEq
  (∀ (s : State) (l : LetterId) (lane : W32) (taps : TxTaps),
    Claimed s l 0x0406 [p4 lane, p4 taps.pre2, p4 taps.pre1, p4 taps.main, p4 taps.post1] → l.slice.val = 0 →
    lane.toNat < s.variant.lanes → s.variant.lanes ≤ 192 →
    (tapsOf taps (nget {} s.line.taps lane.toNat)).2.2 = [(1, false), (2, false), (3, false), (4, false)] →
    ∃ t, exec (.portSetTxEq l lane taps) s = .next t ∧ Accepted s { s with line := { s.line with
      taps := nset {} lane.toNat (tapsOf taps (nget {} s.line.taps lane.toNat)).1 s.line.taps } }
      t l .done (layBody (p4 lane :: (tapsOf taps (nget {} s.line.taps lane.toNat)).2.1))) ∧
  -- port_status
  (∀ (s : State) (l : LetterId) (port : W32), Claimed s l 0x0407 [p4 port] → s.portExists l.slice.val port.toNat = true →
    ∃ t, exec (.portStatus l port) s = .next t ∧ Accepted s s t l .done (layBody [n4 (s.port port.toNat).state.code,
      n4 (b2n (s.port port.toNat).fecDegraded), n4 (s.port port.toNat).lock.toNat, n4 0]))

/-- The states of a port and what moves it between them. Next states at the end or the timeout of training, at alignment,
at a fault and its end, at the debounce and the hold-off, and at the completion of a disable. (R89, R90, R91, R92,
R93, R94, R466) -/
def Obligations.PortStates : Prop :=
  -- port_trained
  (∀ (s : State) (port : Fin 192), s.hasPort port = true → (s.port port).state = .training → s.lanesOn port = true →
    exec (.trainingComplete port) s = .next (s.enter port .aligning)) ∧
  -- port_trainTimeout
  (∀ (s : State) (port : Fin 192), s.hasPort port = true → (s.port port).state = .training →
    (s.port port).since + (s.port port).trainTimeout ≤ s.up →
    exec (.trainingTimeout port) s = .next (s.enter port .training)) ∧
  -- port_aligned
  (∀ (s : State) (port : Fin 192), s.hasPort port = true → (s.port port).state = .aligning → s.lanesOn port = true →
    (s.port port).localFault = false → s.serdesOk = true →
    exec (.alignmentAchieved port) s = .next (s.setPort port { s.port port with
      state := .holdOff, since := s.up, lockLost := false, lock := (s.port port).fullLock })) ∧
  -- port_fault
  (∀ (s : State) (port : Fin 192), s.hasPort port = true → (s.port port).state = .up → (s.port port).debounce ≠ 0 →
    exec (.portFault port .remoteFault) s =
      .next ((s.setPort port { s.port port with remoteFault := true }).enter port .faulted)) ∧
  -- port_faultDown
  (∀ (s : State) (port : Fin 192), s.hasPort port = true → (s.port port).state = .up → (s.port port).debounce = 0 →
    exec (.portFault port .localFault) s =
      .next (((s.setPort port { s.port port with localFault := true }).enter port .down).portDown port)) ∧
  -- port_faultClear
  (∀ (s : State) (port : Fin 192), s.hasPort port = true → (s.port port).state = .down →
    (s.port port).lockLost = false → (s.port port).localFault = false →
    exec (.portFaultClear port .remoteFault) s =
      .next ((s.setPort port { s.port port with remoteFault := false }).enter port .aligning)) ∧
  -- port_debounced
  (∀ (s : State) (port : Fin 192), s.hasPort port = true → (s.port port).state = .faulted →
    (s.port port).since + (s.port port).debounce ≤ s.up →
    exec (.downDebounceExpiry port) s = .next ((s.enter port .down).portDown port)) ∧
  -- port_up
  (∀ (s : State) (port : Fin 192), s.hasPort port = true → (s.port port).state = .holdOff →
    (s.port port).since + (s.port port).holdoff ≤ s.up → (s.port port).faulty = false →
    exec (.upHoldoffExpiry port) s = .next ((s.enter port .up).portUp port)) ∧
  -- port_fecDegraded
  (∀ (s : State) (port : Fin 192) (above : Bool), s.hasPort port = true → (s.port port).state ≠ .disabled →
    (s.port port).fecDegraded ≠ above →
    exec (.fecDegradeTimer port above) s = .next (let u := s.setPort port { s.port port with fecDegraded := above }
      u.event (u.owner 0x14 port) (u.mkEvent 0x0003 port (b2n above)))) ∧
  -- port_disabled
  (∀ (s : State) (port : Fin 192), s.hasPort port = true → (s.port port).disabling = true →
    (s.port port).idleSince + 1000 ≤ s.up →
    exec (.portDisableComplete port) s = .next ((s.stopPort port PortSt.carried).octetsOff
      (if (s.port port).kind = .native then (s.port port).lanes port else []))) ∧
  -- port_sends
  (∀ (v : Port), (v.state = .disabled → v.sends = .electricalIdle) ∧ (v.state = .training → v.sends = .training) ∧
    (v.state = .aligning → v.sends = .remoteFault) ∧ (v.state = .holdOff → v.sends = .idle) ∧
    (v.state = .up → v.remoteFault = true → v.sends = .idle) ∧
    (v.state = .up → v.remoteFault = false → v.disabling = false → v.sends = .frames))

/-- FlexE groups: overhead, calendars and deskew. Next states when overhead frames and calendar acknowledgements arrive,
when a calendar switches, when deskew fails and recovers, and of the FlexE calendar letters. (R53, R95, R96, R97, R98,
R99, R100) -/
def Obligations.FlexEGroups : Prop :=
  -- flexe_switch
  (∀ (s : State) (g : Fin 12) (i : Fin 4), s.variant.envelope = true → (s.flexe g i).present = true →
    (s.flexe g i).st = .enabled → s.pageDue (s.flexe g i).page = .switch → (s.flexe g i).caRequired = false ∨ (s.flexe g i).ca = true →
    exec (.calendarSwitch g i) s = .next ((s.switchCalendar g i).sendFlexeOh g i)) ∧
  -- flexe_overhead
  (∀ (s : State) (g i : Nat), s.sendFlexeOh g i = s.emit (.flexeOh g i (s.flexe g i).txB
    (decide ((s.flexe g i).page.state = .armed) && (s.flexe g i).caRequired)
    (if (s.flexe g i).page.state = .armed then some (s.flexe g i).txIn else none))) ∧
  -- flexe_switchWaits
  (∀ (s : State) (g : Fin 12) (i : Fin 4), s.variant.envelope = true → (s.flexe g i).present = true →
    (s.flexe g i).st = .enabled → s.pageDue (s.flexe g i).page = .wait →
    exec (.calendarSwitch g i) s = .next (s.sendFlexeOh g i)) ∧
  -- flexe_caMissing
  (∀ (s : State) (g : Fin 12) (i : Fin 4), s.variant.envelope = true → (s.flexe g i).present = true →
    (s.flexe g i).st = .enabled → s.pageDue (s.flexe g i).page = .switch → (s.flexe g i).caRequired = true → (s.flexe g i).ca = false →
    exec (.calendarSwitch g i) s = .next (((s.setFlexe g i { s.flexe g i with page := { state := .loaded } }).raise 0x0301
      (flexeNo g i)).sendFlexeOh g i)) ∧
  -- flexe_ca
  (∀ (s : State) (g : Fin 12) (i : Fin 4), s.variant.envelope = true → (s.flexe g i).st = .enabled →
    (s.flexe g i).page.state = .armed →
    exec (.flexeCaReceive g i) s = .next (s.setFlexe g i { s.flexe g i with ca := true })) ∧
  -- flexe_ohBad
  (∀ (s : State) (g : Fin 12) (i : Fin 4) (ccc : Bool) (clients : List (BitVec 16)), s.variant.envelope = true →
    (s.flexe g i).present = true → (s.flexe g i).st = .enabled →
    exec (.flexeOhFrame g i false ccc clients) s = .next (s.bump .flexeOhCrc (flexeNo g i))) ∧
  -- flexe_oh
  (∀ (s : State) (g : Fin 12) (i : Fin 4) (ccc : Bool) (clients : List (BitVec 16)), s.variant.envelope = true →
    (s.flexe g i).present = true → (s.flexe g i).st = .enabled →
    exec (.flexeOhFrame g i true ccc clients) s = .next (
      let bad := mismatched g clients (if ccc then (s.flexe g i).rxCalB else (s.flexe g i).rxCalA)
      ((s.setFlexe g i { s.flexe g i with rxB := ccc, mismatch := bad }).updateClients s g).condition 0x0302 (flexeNo g i)
        (!bad.isEmpty) (bad.foldl (fun n p => n + 2 ^ (p % 16)) 0))) ∧
  -- flexe_deskewFail
  (∀ (s : State) (g : Fin 12) (i : Fin 4), s.variant.envelope = true → (s.flexe g i).st = .enabled →
    (s.flexe g i).deskewFail = false →
    exec (.flexeDeskewFail g i) s =
      .next (((s.setFlexe g i { s.flexe g i with deskewFail := true }).updateClients s g).bump .flexeDeskewFail (flexeNo g i))) ∧
  -- flexe_deskewOk
  (∀ (s : State) (g : Fin 12) (i : Fin 4), s.variant.envelope = true → (s.flexe g i).deskewFail = true →
    exec (.flexeDeskewRecovery g i) s =
      .next ((s.setFlexe g i { s.flexe g i with deskewFail := false }).updateClients s g)) ∧
  -- flexe_create
  (∀ (s : State) (l : LetterId) (g i phyType phys ca : W32),
    Claimed s l 0x0501 [p4 g, p4 i, p4 phyType, p4 phys, p4 ca] → s.variant.envelope = true → l.slice.val = 0 → g.toNat ≤ 11 →
    i.toNat ≤ 3 → phyType.toNat ≤ 3 → phys.toNat ≤ 65535 → legalPhys phyType.toNat phys.toNat = true → ca.toNat ≤ 1 →
    ((maskBits phys.toNat 16).map (· + 16 * g.toNat)).any (fun x => (octetsOf s.otuLanes).contains (x / 8) ||
      (octetsOf (s.nativeLanes 256)).contains (x / 8) || s.flexeLanes.contains x) = false → (s.flexe g.toNat i.toNat).present = false →
    ∃ t, exec (.envelopeCreateFlexe l g i phyType phys ca) s = .next t ∧ Accepted s (s.setFlexe g.toNat i.toNat {
      present := true, phyType := phyType.toNat, phys := BitVec.ofNat 16 phys.toNat, caRequired := decide (ca = 1#32) }) t l .done
      (layBody [p4 g, p4 i, p4 phyType, p4 phys, p4 ca])) ∧
  -- flexe_calendar
  (∀ (s : State) (l : LetterId) (g i : W32) (slots : ListArg (BitVec 16)) (cal : List (BitVec 16)),
    Claimed s l 0x0506 [p4 g, p4 i, pL slots] → s.variant.envelope = true → l.slice.val = 0 → g.toNat ≤ 11 → i.toNat ≤ 3 →
    (s.flexe g.toNat i.toNat).present = true → slots.count.toNat = (s.flexe g.toNat i.toNat).slotCount → slots.items = some cal →
    (calPorts cal).any (fun p => decide (320 < calSlots cal p)) = false →
    (calPorts cal).any (fun p => !s.mayServe g.toNat p fun k => k = .flexe g.toNat i.toNat) = false →
    (s.flexe g.toNat i.toNat).page.state.fixed = false → (s.flexe g.toNat i.toNat).txB = false →
    ∃ t, exec (.envelopeWriteCalendar l g i slots) s = .next t ∧ Accepted s
      ((calPorts cal).foldl (fun s p => s.setPort p { s.port p with kind := .flexe g.toNat i.toNat })
        (s.setFlexe g.toNat i.toNat { s.flexe g.toNat i.toNat with txCalB := cal, rxCalB := cal, page := { state := .loaded } }))
      t l .staged (layBody [p4 g, p4 i, pL slots])) ∧
  -- flexe_schedule
  (∀ (s : State) (l : LetterId) (g i : W32) (at' : TimeParam), Claimed s l 0x0507 [p4 g, p4 i, pT at'] →
    s.variant.envelope = true → l.slice.val = 0 → g.toNat ≤ 11 → i.toNat ≤ 3 → (s.flexe g.toNat i.toNat).present = true →
    (s.flexe g.toNat i.toNat).page.state = .loaded → badTime at' = false → farTime s at' = false → pastTime s at' = false →
    ∃ t, exec (.envelopeScheduleCalendar l g i at') s = .next t ∧ Accepted s (s.setFlexe g.toNat i.toNat { s.flexe g.toNat i.toNat with
      page := { state := .armed, t := schedT at' }, ca := false }) t l .scheduled (layBody [p4 g, p4 i, pT at'])) ∧
  -- flexe_cancel
  (∀ (s : State) (l : LetterId) (g i : W32), Claimed s l 0x0508 [p4 g, p4 i] → s.variant.envelope = true →
    l.slice.val = 0 → g.toNat ≤ 11 → i.toNat ≤ 3 → (s.flexe g.toNat i.toNat).present = true → (s.flexe g.toNat i.toNat).page.state.fixed = true →
    ∃ t, exec (.envelopeCancelCalendar l g i) s = .next t ∧ Accepted s
      ((s.setFlexe g.toNat i.toNat { s.flexe g.toNat i.toNat with page := { state := .loaded } }).clearFault 0x0203
        (pageObject 1 (flexeNo g.toNat i.toNat))) t l .done (layBody [p4 g, p4 i]))

/-- OTN interfaces: frame alignment, defects, GMP and tributary-slot pages. Next states of the frame pattern check, the
loss of frame, the defects, GMP justification, and the tributary-slot pages and their letters. (R53, R95, R103, R104,
R105, R106, R107, R108, R109) -/
def Obligations.OtnInterfaces : Prop :=
  -- otu_check
  (∀ (s : State) (g : Fin 12) (i : Fin 2) (layer : AlignLayer) (ok : Bool) (e : OtnErrors) (a : Align), s.variant.envelope = true →
    (s.otu g i).live = true → (s.otu g i).hasLayer layer = true →
    a = (nget {} (s.otu g i).align (layerKey layer)).check (s.otu g i).frameN (s.otu g i).frameM s.up ok →
    exec (.framePatternCheck g i layer ok e) s = .next (let t := s.setOtu g i { s.otu g i with
        align := nset {} (layerKey layer) a (s.otu g i).align };
      if a.outOfFrame then t else t.otnErrors g i layer e)) ∧
  -- otu_errors
  (∀ (s : State) (g i : Nat) (k : Fin 16) (e : OtnErrors), e.pmBip = 0 → e.pmBei = 0 →
    0 < e.smBip.val → 0 < e.smBei.val →
    s.otnErrors g i (.otuc k) e = (s.bump .otuBip8 (32 * g + 16 * i + k) 0 e.smBip).bump .otuBei (32 * g + 16 * i + k) 0 e.smBei) ∧
  -- otu_lofDeclare
  (∀ (s : State) (g : Fin 12) (i : Fin 2) (layer : AlignLayer), s.variant.envelope = true →
    (s.otu g i).live = true → (s.otu g i).hasLayer layer = true →
    (nget {} (s.otu g i).align (layerKey layer)).outOfFrame = true → (nget {} (s.otu g i).align (layerKey layer)).lof = false →
    max (nget {} (s.otu g i).align (layerKey layer)).since (s.otu g i).since + 3000000 ≤ s.up →
    exec (.lofDeclare g i layer) s = .next (s.setLof g i layer true)) ∧
  -- otu_lofClear
  (∀ (s : State) (g : Fin 12) (i : Fin 2) (layer : AlignLayer), s.variant.envelope = true →
    (s.otu g i).live = true → (nget {} (s.otu g i).align (layerKey layer)).outOfFrame = false →
    (nget {} (s.otu g i).align (layerKey layer)).lof = true →
    max (nget {} (s.otu g i).align (layerKey layer)).since (s.otu g i).since + 3000000 ≤ s.up →
    exec (.lofClear g i layer) s = .next (s.setLof g i layer false)) ∧
  -- otu_defect
  (∀ (s : State) (g : Fin 12) (i : Fin 2) (d : OtnDefect), s.variant.envelope = true → (s.otu g i).live = true →
    (s.otu g i).defects.contains d = false → msiTrib d = none →
    exec (.otnDefect g i d true) s =
      .next (((s.setOtu g i { s.otu g i with
        defects := (s.otu g i).defects ++ [d]
        timCount := if d = .tim then (s.otu g i).timCount + 1 else (s.otu g i).timCount }).updateClients s g).otuActions g i)) ∧
  -- otu_msi
  (∀ (s : State) (g : Fin 12) (i : Fin 2) (k : BitVec 16), s.variant.envelope = true → (s.otu g i).live = true →
    (s.otu g i).defects.contains (.msi k) = false →
    exec (.otnDefect g i (.msi k) true) s =
      .next ((((s.setOtu g i { s.otu g i with defects := (s.otu g i).defects ++ [.msi k] }).updateClients s g).otuActions g i).condition
        0x0304 (tribObject g k.toNat) true)) ∧
  -- otu_jc
  (∀ (s : State) (g : Fin 12) (trib : BitVec 16) (cm : BitVec 16), s.variant.envelope = true →
    s.tribLive g trib.toNat = true →
    exec (.gmpJcReceive g trib true cm) s =
      .next ((s.setTrib g trib.toNat { s.trib g trib.toNat with cm := cm, badJc := 0 }).updateClients s g)) ∧
  -- otu_jcBad
  (∀ (s : State) (g : Fin 12) (trib : BitVec 16) (cm : BitVec 16), s.variant.envelope = true →
    s.tribLive g trib.toNat = true →
    exec (.gmpJcReceive g trib false cm) s =
      .next (let t := (s.setTrib g trib.toNat { s.trib g trib.toNat with badJc := (s.trib g trib.toNat).badJc + 1 }).updateClients s g
        t.bump .gmpJcCrc ((clientOf (s.tsPage g).active trib.toNat).getD 0))) ∧
  -- otu_gmpTx
  (∀ (s : State) (g : Fin 12) (trib fill : BitVec 16), s.variant.envelope = true → s.tribLive g trib.toNat = true →
    exec (.gmpMultiframeTx g trib fill) s = .next ((s.setTrib g trib.toNat { s.trib g trib.toNat with
      txCm := Config.gmpCm fill.toNat, txCnd := Config.gmpCnd fill.toNat }).emit (.gmp g trib.toNat (Config.gmpCm fill.toNat) (Config.gmpCnd fill.toNat)))) ∧
  -- otu_tsSwitch
  (∀ (s : State) (g : Fin 12), s.variant.envelope = true → (s.otu g 0).live = true ∨ (s.otu g 1).live = true →
    s.pageDue (s.tsPage g).page = .switch → exec (.tsPageSwitch g) s = .next (s.switchTsPage g)) ∧
  -- otu_create
  (∀ (s : State) (l : LetterId) (a : OtuArgs),
    Claimed s l 0x0502 [p4 a.fgroup, p4 a.iface, p4 a.n, p4 a.firstLane, p4 a.lanes, p4 a.frameN, p4 a.frameM, p4 a.timAct] →
    s.variant.envelope = true → l.slice.val = 0 → a.fgroup.toNat ≤ 11 → a.iface.toNat ≤ 1 → 1 ≤ a.n.toNat → a.n.toNat ≤ 16 →
    a.lanes.toNat ∈ [1, 2, 4, 8] → a.n.toNat ≤ 2 * a.lanes.toNat → a.firstLane.toNat / 16 = a.fgroup.toNat →
    a.firstLane.toNat % a.lanes.toNat = 0 →
    ((List.range a.lanes.toNat).map (· + a.firstLane.toNat)).any (fun x =>
      (octetsOf (s.nativeLanes 256 ++ s.flexeLanes)).contains (x / 8) || s.otuLanes.contains x) = false →
    1 ≤ a.frameN.toNat → a.frameN.toNat ≤ 8 → 2 ≤ a.frameM.toNat → a.frameM.toNat ≤ 16 → a.timAct.toNat ≤ 1 →
    (s.otu a.fgroup.toNat a.iface.toNat).present = false →
    ∃ t, exec (.envelopeCreateOtu l a) s = .next t ∧ Accepted s (s.setOtu a.fgroup.toNat a.iface.toNat {
        present := true, n := a.n.toNat, firstLane := a.firstLane.toNat, lanes := a.lanes.toNat, frameN := a.frameN.toNat
        frameM := a.frameM.toNat, timAct := decide (a.timAct = 1#32) }) t l .done
      (layBody [p4 a.fgroup, p4 a.iface, p4 a.n, p4 a.firstLane, p4 a.lanes, p4 a.frameN, p4 a.frameM, p4 a.timAct])) ∧
  -- otu_tsWrite
  (∀ (s : State) (l : LetterId) (g : W32) (entries : ListArg TsEntry) (page : List TsEntry),
    Claimed s l 0x0509 [p4 g, pL entries] → s.variant.envelope = true → l.slice.val = 0 → g.toNat ≤ 11 → 1 ≤ entries.count.toNat →
    entries.count.toNat ≤ 640 → entries.items = some page → oneClient page = true →
    page.length ≤ 20 * ((s.otu g.toNat 0).n + (s.otu g.toNat 1).n) →
    (pageTribs page).any (fun t => !legalTrib page (20 * (s.otu g.toNat 0).n) t) = false →
    (page.filter (·.allocated)).any (fun e => !s.mayServe g.toNat e.client.toNat (otuOf g.toNat)) = false →
    (s.tsPage g.toNat).page.state.fixed = false →
    ∃ t, exec (.envelopeWriteTsPage l g entries) s = .next t ∧ Accepted s
      ((page.filter (·.allocated)).foldl (fun s e => if (s.port e.client.toNat).kind = .unused then
          s.setPort e.client.toNat { s.port e.client.toNat with kind := .otu g.toNat e.trib.toNat } else s)
        (s.setTsPage g.toNat { s.tsPage g.toNat with inactive := page, page := { state := .loaded } })) t l .staged
      (layBody [p4 g, pL entries])) ∧
  -- otu_tsSchedule
  (∀ (s : State) (l : LetterId) (g : W32) (at' : TimeParam), Claimed s l 0x050A [p4 g, pT at'] →
    s.variant.envelope = true → l.slice.val = 0 → g.toNat ≤ 11 → (s.tsPage g.toNat).page.state = .loaded → badTime at' = false →
    farTime s at' = false → pastTime s at' = false →
    ∃ t, exec (.envelopeScheduleTsPage l g at') s = .next t ∧
      Accepted s (s.setTsPage g.toNat { s.tsPage g.toNat with page := { state := .armed, t := schedT at' } }) t l .scheduled (layBody [p4 g, pT at'])) ∧
  -- otu_tsCancel
  (∀ (s : State) (l : LetterId) (g : W32), Claimed s l 0x050B [p4 g] → s.variant.envelope = true →
    l.slice.val = 0 → g.toNat ≤ 11 → (s.tsPage g.toNat).page.state.fixed = true →
    ∃ t, exec (.envelopeCancelTsPage l g) s = .next t ∧ Accepted s
      ((s.setTsPage g.toNat { s.tsPage g.toNat with page := { state := .loaded } }).clearFault 0x0203 (pageObject 2 g.toNat)) t l .done (layBody [p4 g]))

/-- Envelope groups and overhead channels. Next states when a group is deleted, enabled, disabled and reaches its
boundary, and when overhead records travel to and from the host. (R94, R110, R111, R112, R113, R389, R424) -/
def Obligations.EnvelopeGroupsAndChannels : Prop :=
  -- env_delete
  (∀ (s : State) (l : LetterId) (g i : W32), Claimed s l 0x0503 [p4 g, p4 0#32, p4 i] → s.variant.envelope = true →
    l.slice.val = 0 → g.toNat ≤ 11 → i.toNat ≤ 3 → (s.flexe g.toNat i.toNat).present = true → (s.flexe g.toNat i.toNat).st = .disabled →
    ∃ t, exec (.envelopeDeleteGroup l g 0#32 i) s = .next t ∧ Accepted s
      (((s.flexeClients g.toNat i.toNat).foldl State.freeClient s).setFlexe g.toNat i.toNat {}) t l .done (layBody [p4 g, p4 0#32, p4 i])) ∧
  -- env_enable
  (∀ (s : State) (l : LetterId) (g i : W32), Claimed s l 0x0504 [p4 g, p4 0#32, p4 i] → s.variant.envelope = true →
    l.slice.val = 0 → g.toNat ≤ 11 → i.toNat ≤ 3 → (s.flexe g.toNat i.toNat).present = true → (s.flexe g.toNat i.toNat).st = .disabled →
    ∃ t, exec (.envelopeEnableGroup l g 0#32 i) s = .next t ∧ Accepted s
      (let u := ((s.setFlexe g.toNat i.toNat { s.flexe g.toNat i.toNat with st := .enabled }).askDomain (framerDomain g.toNat) true).octetsOn ((s.flexe g.toNat i.toNat).lanes g.toNat);
        ((u.flexeClients g.toNat i.toNat).filter fun p => (u.port p).slots ≠ 0).foldl State.startClient u) t l .done
      (layBody [p4 g, p4 0#32, p4 i])) ∧
  -- env_disable
  (∀ (s : State) (l : LetterId) (g i : W32), Claimed s l 0x0505 [p4 g, p4 0#32, p4 i] → s.variant.envelope = true →
    l.slice.val = 0 → g.toNat ≤ 11 → i.toNat ≤ 3 → (s.flexe g.toNat i.toNat).present = true → (s.flexe g.toNat i.toNat).st = .enabled →
    ∃ t, exec (.envelopeDisableGroup l g 0#32 i) s = .next t ∧ Accepted s
      (s.setFlexe g.toNat i.toNat { s.flexe g.toNat i.toNat with st := .stopping, letter := some l }) t l .done (layBody [p4 g, p4 0#32, p4 i]) true) ∧
  -- env_boundary
  (∀ (s : State) (g : Fin 12) (i : Fin 4), s.variant.envelope = true → (s.flexe g i).st = .stopping →
    exec (.envelopeDisableBoundary g false i) s = .next (let u := ((s.flexeClients g i).foldl State.stopClient s).emit (.groupFault g false i);
      ((u.setFlexe g i { s.flexe g i with
          st := .faultSent, since := u.up, page := (s.flexe g i).page.cancel, deskewFail := false, mismatch := [], ca := false }).condition
          0x0302 (flexeNo g i) false).clearFault 0x0203 (pageObject 1 (flexeNo g i)))) ∧
  -- env_boundaryOtu
  (∀ (s : State) (g : Fin 12) (i : Fin 4), s.variant.envelope = true → (s.otu g i).st = .stopping →
    exec (.envelopeDisableBoundary g true i) s = .next (
      let u := ((s.otuClients g i).foldl State.stopClient s).emit (.groupFault g true i);
      let v := (u.setOtu g i { s.otu g i with
        st := .faultSent, since := u.up, defects := [], align := [], bdiSm := false, bdiPm := false }).condition 0x0303 (2 * g + i) false;
      (v.setTsPage g { v.tsPage g with page := (v.tsPage g).page.cancel }).clearFault 0x0203 (pageObject 2 g))) ∧
  -- env_enableOtu
  (∀ (s : State) (l : LetterId) (g i : W32), Claimed s l 0x0504 [p4 g, p4 1#32, p4 i] → s.variant.envelope = true →
    l.slice.val = 0 → g.toNat ≤ 11 → i.toNat ≤ 1 → (s.otu g.toNat i.toNat).present = true → (s.otu g.toNat i.toNat).st = .disabled →
    ∃ t, exec (.envelopeEnableGroup l g 1#32 i) s = .next t ∧ Accepted s
      (let u := ((s.setOtu g.toNat i.toNat { s.otu g.toNat i.toNat with st := .enabled, align := [], since := s.up }).askDomain (framerDomain g.toNat) true).octetsOn (s.otu g.toNat i.toNat).laneList;
        (u.otuClients g.toNat i.toNat).foldl State.startClient u) t l .done (layBody [p4 g, p4 1#32, p4 i])) ∧
  -- env_disableOtu
  (∀ (s : State) (l : LetterId) (g i : W32), Claimed s l 0x0505 [p4 g, p4 1#32, p4 i] → s.variant.envelope = true →
    l.slice.val = 0 → g.toNat ≤ 11 → i.toNat ≤ 1 → (s.otu g.toNat i.toNat).present = true → (s.otu g.toNat i.toNat).st = .enabled →
    ∃ t, exec (.envelopeDisableGroup l g 1#32 i) s = .next t ∧ Accepted s
      (s.setOtu g.toNat i.toNat { s.otu g.toNat i.toNat with st := .stopping, letter := some l }) t l .done (layBody [p4 g, p4 1#32, p4 i]) true) ∧
  -- env_idle
  (∀ (s : State) (g : Fin 12) (i : Fin 4), s.variant.envelope = true → (s.flexe g i).st = .faultSent →
    (s.flexe g i).since + 1000000 ≤ s.up →
    exec (.envelopeLanesIdle g false i) s = .next ((((s.setFlexe g i { s.flexe g i with st := .disabled, letter := none }).octetsOff
      ((s.flexe g i).lanes g)).framerOff g).release? (s.flexe g i).letter)) ∧
  -- env_idleOtu
  (∀ (s : State) (g : Fin 12) (i : Fin 4), s.variant.envelope = true → (s.otu g i).st = .faultSent →
    (s.otu g i).since + 1000000 ≤ s.up →
    exec (.envelopeLanesIdle g true i) s = .next ((((s.setOtu g i { s.otu g i with st := .disabled, letter := none }).octetsOff
      (s.otu g i).laneList).framerOff g).release? (s.otu g i).letter)) ∧
  -- oh_channel
  (∀ (s : State) (l : LetterId) (channel : W32) (rxRing txRing : W64) (depth : W32),
    Claimed s l 0x050C [p4 channel, p8 rxRing, p8 txRing, p4 depth] → s.variant.envelope = true → l.slice.val = 0 → depth ≠ 0#32 →
    channel.toNat < 360 →
    ∃ t, exec (.envelopeOhChannel l channel rxRing txRing depth) s = .next t ∧ Accepted s (s.setOh channel.toNat { s.ohChan channel.toNat with
      slice := 0, rxRing := some rxRing, txRing := some txRing, depth := depth.toNat, produced := 0 }) t l .done
      (layBody [p4 channel, p8 rxRing, p8 txRing, p4 depth])) ∧
  -- oh_rx
  (∀ (s : State) (c : BitVec 12) (bytes : List Byte), s.variant.envelope = true → s.ohLive c.toNat = true →
    s.groupMoving (c.toNat / 30) = false → (s.ohChan c.toNat).rx.length < 64 →
    exec (.ohRxFrame c bytes) s = .next (s.setOh c.toNat { s.ohChan c.toNat with rx := (s.ohChan c.toNat).rx ++ [bytes] })) ∧
  -- oh_rxMoving
  (∀ (s : State) (c : BitVec 12) (bytes : List Byte), s.variant.envelope = true → s.ohLive c.toNat = true →
    s.groupMoving (c.toNat / 30) = true →
    exec (.ohRxFrame c bytes) s = .next (let v := s.ohChan c.toNat
      (s.setOh c.toNat { v with
        rx := [], rxFrame := v.rxFrame + BitVec.ofNat 32 (v.rx.length + 1), slip := true }).bump
          .ohRxSlip c.toNat 0 (v.rx.length + 1))) ∧
  -- oh_rxFull
  (∀ (s : State) (c : BitVec 12) (bytes : List Byte), s.variant.envelope = true → s.ohLive c.toNat = true →
    s.groupMoving (c.toNat / 30) = false → 64 ≤ (s.ohChan c.toNat).rx.length →
    exec (.ohRxFrame c bytes) s = .next ((s.setOh c.toNat { s.ohChan c.toNat with 
      rx := (s.ohChan c.toNat).rx.drop 1 ++ [bytes], rxFrame := (s.ohChan c.toNat).rxFrame + 1#32, slip := true }).bump .ohRxSlip c.toNat)) ∧
  -- oh_deliver
  (∀ (s : State) (c : BitVec 12), s.variant.envelope = true → wholeFrames 2047 (s.ohChan c.toNat).rx ≠ 0 →
    (s.ohChan c.toNat).rxRing.isSome = true → s.mayRequest (s.ohChan c.toNat).slice = true →
    exec (.ohRecordDeliver c) s = .next (let v := s.ohChan c.toNat; let n := wholeFrames 2047 v.rx;
      (s.setOh c.toNat { v with
        rx := v.rx.drop n, rxFrame := v.rxFrame + BitVec.ofNat 32 n, slip := false,
        produced := v.produced + 1 }).emit
        (.record 67 (v.rxRing.getD 0#64) (v.produced % v.depth)
          (ohHeader c.toNat v.rxFrame v.slip (v.rx.take n).flatten.length ++ (v.rx.take n).flatten)))) ∧
  -- oh_tx
  (∀ (s : State) (c : BitVec 12) (f : List Byte) (fs : List (List Byte)), s.variant.envelope = true → s.ohLive c.toNat = true →
    s.groupMoving (c.toNat / 30) = false → (s.ohChan c.toNat).tx = f :: fs →
    exec (.ohTxFrame c) s = .next ((s.setOh c.toNat { s.ohChan c.toNat with tx := fs, tti := ttiPush (s.ohChan c.toNat).tti f }).emit
      (.overhead c.toNat f))) ∧
  -- oh_txMoving
  (∀ (s : State) (c : BitVec 12), s.variant.envelope = true → s.ohLive c.toNat = true →
    s.groupMoving (c.toNat / 30) = true → (s.ohChan c.toNat).tx ≠ [] →
    exec (.ohTxFrame c) s = .next (let f := ohFill c.toNat (s.ohChan c.toNat).tti
      (s.setOh c.toNat { s.ohChan c.toNat with tti := ttiPush (s.ohChan c.toNat).tti f }).emit (.overhead c.toNat f))) ∧
  -- oh_txEmpty
  (∀ (s : State) (c : BitVec 12), s.variant.envelope = true → s.ohLive c.toNat = true → (s.ohChan c.toNat).tx = [] →
    exec (.ohTxFrame c) s = .next (let f := ohFill c.toNat (s.ohChan c.toNat).tti
      ((s.setOh c.toNat { s.ohChan c.toNat with tti := ttiPush (s.ohChan c.toNat).tti f }).emit (.overhead c.toNat f)).bump
        .ohTxUnderrun c.toNat)) ∧
  -- oh_txWrite
  (∀ (s : State) (c : BitVec 12) (frames : List (List Byte)), s.variant.envelope = true → c.toNat < 360 →
    (s.ohChan c.toNat).txRing.isSome = true → s.mayRequest (s.ohChan c.toNat).slice = true →
    exec (.ohTxWrite c frames) s = .next (if (s.ohChan c.toNat).tx.length + frames.length ≤ 64 then
      s.setOh c.toNat { s.ohChan c.toNat with tx := (s.ohChan c.toNat).tx ++ frames }
      else s.bump .ohTxOverflow c.toNat 0 frames.length))

/-- A pass through a clerk: dispatch, issue, results, retirement and hand-off. Next states when a pass starts in a slot,
issues a nanoword, gets a lookup result or a load, retires, and is handed off. (R25, R28, R119, R120, R121, R125,
R126, R137, R142, R156, R190, R199) -/
def Obligations.ClerkPasses : Prop :=
  -- clk_dispatchIngress
  (∀ (s : State) (k : Nat) (f : TrayFrame) (fs : List TrayFrame), s.pickSlot = some k →
    s.clerks.tray = f :: fs → s.clerks.windows = [] ∨ s.clerks.lastEgress = true →
    exec .intakeDispatch s = .next (s.startIngress k f)) ∧
  -- clk_dispatchEgress
  (∀ (s : State) (k : Nat) (q : Packet) (qs : List Packet), s.pickSlot = some k →
    s.clerks.windows = q :: qs → s.clerks.tray = [] ∨ s.clerks.lastEgress = false →
    exec .intakeDispatch s = .next (s.startEgress k q)) ∧
  -- clk_issue
  (∀ (s : State) (b : Fin 32) (c : Fin 16) (ecc : Bool) (k : Nat), b.val < s.variant.benches → s.readySlot b c = some k →
    exec (.nanowordIssue b c ecc) s = .next (s.issueSlot k (s.slotAt k) ecc)) ∧
  -- clk_issueNone
  (∀ (s : State) (b : Fin 32) (c : Fin 16) (ecc : Bool), b.val < s.variant.benches → s.readySlot b c = none →
    exec (.nanowordIssue b c ecc) s = .next s) ∧
  -- clk_lookup
  (∀ (s : State) (b : Fin 32) (c : Fin 16) (i : Fin 6) (r : Fin 8) (err rowBad waited : Bool) (delayed : W32) (d : Dispatch), b.val < s.variant.benches →
    (s.slotAt (slotKey b c i)).lookups.find? (fun d => d.result = r.val) = some d → s.policerWaits (slotKey b c i) d = false →
    (s.slotAt (slotKey b c i)).st = .retiring →
    exec (.lookupResult b c i r err rowBad waited delayed) s = .next (let v := s.slotAt (slotKey b c i);
      ((s.countWaits d waited delayed).engineResult v.epoch.toNat d err rowBad).2.setSlot (slotKey b c i) { v with lookups := v.lookups.erase d })) ∧
  -- clk_lookupWaits
  (∀ (s : State) (b : Fin 32) (c : Fin 16) (i : Fin 6) (r : Fin 8) (err rowBad waited : Bool) (delayed : W32) (d : Dispatch), b.val < s.variant.benches →
    (s.slotAt (slotKey b c i)).lookups.find? (fun d => d.result = r.val) = some d → s.policerWaits (slotKey b c i) d = true →
    exec (.lookupResult b c i r err rowBad waited delayed) s = .next s) ∧
  -- clk_lookupLands
  (∀ (s : State) (b : Fin 32) (c : Fin 16) (i : Fin 6) (r : Fin 8) (err rowBad waited : Bool) (delayed : W32) (d : Dispatch), b.val < s.variant.benches →
    (s.slotAt (slotKey b c i)).lookups.find? (fun d => d.result = r.val) = some d → s.policerWaits (slotKey b c i) d = false →
    (s.slotAt (slotKey b c i)).st ≠ .retiring →
    exec (.lookupResult b c i r err rowBad waited delayed) s = .next (let v := s.slotAt (slotKey b c i)
      let x := (s.countWaits d waited delayed).engineResult v.epoch.toNat d err rowBad
      x.2.wake (slotKey b c i) (Slot.landResult { v with lookups := v.lookups.erase d } d x.1))) ∧
  -- clk_waits
  (∀ (s : State) (d : Dispatch) (delayed : W32), d.engine ≠ 5 → d.engine ≠ 6 →
    s.countWaits d true delayed = s.bump .lkpQueued (d.engine - 1)) ∧
  -- clk_load
  (∀ (s : State) (b : Fin 32) (c : Fin 16) (i : Fin 6) (d : Load) (rest : List Load), b.val < s.variant.benches →
    (s.slotAt (slotKey b c i)).loads = d :: rest → d.cycle + 3 ≤ s.cycle → (s.slotAt (slotKey b c i)).st ≠ .retiring →
    exec (.localLoadLand b c i) s = .next (s.wake (slotKey b c i)
      (Slot.setReg { s.slotAt (slotKey b c i) with loads := rest } d.dst d.value.toNat))) ∧
  -- clk_loadEarly
  (∀ (s : State) (b : Fin 32) (c : Fin 16) (i : Fin 6) (d : Load) (rest : List Load), b.val < s.variant.benches →
    (s.slotAt (slotKey b c i)).loads = d :: rest → s.cycle < d.cycle + 3 → exec (.localLoadLand b c i) s = .next s) ∧
  -- clk_loadEcc
  (∀ (w : View) (mem : Nat → Nat → Nat) (f base addr n : Nat) (e : Effects), bits f 47 44 ≤ 3 →
    bits f 43 38 < 56 → w.read (bits f 37 32) none 3 = .ok base → bits f 14 13 = 0 → addr = bits f 31 15 + base →
    n = 2 ^ bits f 47 44 → addr + n ≤ 0x18000 → addr % n = 0 → w.ecc = true →
    w.mem mem f e = .error ⟨9, 3, addr⟩) ∧
  -- clk_issueTraps
  (∀ (s : State) (k : Nat) (v : Slot) (ecc : Bool) (mw : W32) (view : View) (x : Trap), v.trap = none →
    v.issued < s.clerks.budget → mw = s.microAt (k / 96) v.micro.toNat → bits mw.toNat 29 16 ≠ 0 →
    view = { slot := v, place := k % 6 + k / 6 % 16 * 8 + k / 96 * 128, uimm := bits mw.toNat 15 0, ns := nsOf s.units, ecc := ecc } →
    view.run (fun a n => Memory.readLe s.clerks.localMem (memBase k + a) n) (s.aclRegs v.epoch.toNat)
      (s.nanoAt (k / 96) (bits mw.toNat 29 16)) = .error x → x.cause ≠ 8 →
    s.issueSlot k v ecc = (s.bump .benchNanowords (k / 96)).trapSlot k { v with issued := v.issued + 1 } mw x) ∧
  -- clk_retireDrop
  (∀ (s : State) (b : Fin 32) (c : Fin 16) (i : Fin 6) (rivals : List Rival) (r : Nat), b.val < s.variant.benches →
    (s.slotAt (slotKey b c i)).ended = some (.drop r) → (s.slotAt (slotKey b c i)).st = .retiring →
    (s.slotAt (slotKey b c i)).lookups = [] → (s.slotAt (slotKey b c i)).loads = [] → (s.slotAt (slotKey b c i)).egress = false →
    exec (.slotRetire b c i rivals) s = .next (let v := s.slotAt (slotKey b c i)
      let u := ((((s.bump .benchPassesIn b).contest rivals fun s => s.takeResult v (.drop r)).freeBlocks v.port v.blocks).abandon v)
      ((u.pushFinished { port := v.port, egress := false, seqNo := v.seqNo, load := none, blocks := {} }).setSlot
        (slotKey b c i) {}).skipSeq v.port false (u.clerks.finished.length + 1))) ∧
  -- clk_retireForward
  (∀ (s : State) (b : Fin 32) (c : Fin 16) (i : Fin 6) (rivals : List Rival), b.val < s.variant.benches →
    (s.slotAt (slotKey b c i)).ended = some .forward → (s.slotAt (slotKey b c i)).st = .retiring →
    (s.slotAt (slotKey b c i)).lookups = [] → (s.slotAt (slotKey b c i)).loads = [] → (s.slotAt (slotKey b c i)).egress = false →
    exec (.slotRetire b c i rivals) s = .next (let v := s.slotAt (slotKey b c i)
      let u := s.bump .benchPassesIn b
      let t := u.contest rivals fun s => s.takeResult v .forward
      ((t.pushFinished { port := v.port, egress := false, seqNo := v.seqNo, load := some (.ingress (u.forwarded v)), blocks := v.blocks }).setSlot
        (slotKey b c i) {}).skipSeq v.port false (t.clerks.finished.length + 1))) ∧
  -- clk_handoff
  (∀ (s t : State) (p : Fin 192) (f : Finished) (x : Crossing), s.handReady p true = some f → f.load = some x →
    s.sendFlit true x = some t →
    exec (.passHandoff p true) s = .next (t.handed f)) ∧
  -- clk_handoffIn
  (∀ (s t : State) (p : Fin 192) (f : Finished) (x : Crossing), s.handReady p false = some f → f.load = some x →
    3 ≤ s.liveD2d.length ∨ s.egressReady = false → s.sendFlit true x = some t →
    exec (.passHandoff p false) s = .next (t.handed f))

/-- Benches drain, reload and go off. Next states of the switch, the drain and the check of a bench's reload, of a
control-store error, and of STORE.ENABLE_BENCH and STORE.DISABLE_BENCH. (R56, R57, R142, R148, R149, R150, R151) -/
def Obligations.BenchReload : Prop :=
  -- bench_switch
  (∀ (s : State) (b : Fin 32), (s.bench b).live = true → (s.bench b).enabled = true → (s.bench b).st ≠ .waiting →
    s.pageDue (s.bench b).page = .switch → s.clerks.reloading = none →
    exec (.benchSwitch b) s = .next (State.drainBench { s with clerks := { s.clerks with reloading := some b.val } } b .load)) ∧
  -- bench_switchWaits
  (∀ (s : State) (b : Fin 32) (o : Nat), (s.bench b).live = true → (s.bench b).enabled = true → (s.bench b).st = .live →
    s.pageDue (s.bench b).page = .switch → s.clerks.reloading = some o →
    exec (.benchSwitch b) s = .next ((s.setBench b { s.bench b with st := .waiting, drain := .load }).bump .benchReloadWait)) ∧
  -- bench_drained
  (∀ (s : State) (b : Fin 32), (s.bench b).st = .draining → s.busyBench b = 0 → (s.bench b).drain = .load →
    s.clerks.reloading = some b.val →
    exec (.benchDrainComplete b) s = .next (State.setBench { s with clerks := { s.clerks with reloading := some b.val } } b { s.bench b with st := .reloading })) ∧
  -- bench_drainedOff
  (∀ (s : State) (b : Fin 32), (s.bench b).st = .draining → s.busyBench b = 0 → (s.bench b).drain = .disable →
    exec (.benchDrainComplete b) s = .next ((((s.setBench b { s.bench b with st := .off, letter := none }).askDomain (benchDomain b) false).release?
      (s.bench b).letter).updateMap)) ∧
  -- bench_reloaded
  (∀ (s : State) (b : Fin 32), (s.bench b).st = .reloading → (s.bench b).drain = .load →
    exec (.benchReloadCheck b true) s = .next ((((((s.endReload b).swapBench b).setBench b { s.bench b with
        st := .live, modeP := (s.bench b).stagedP, version := (s.bench b).stagedVersion, level := (s.bench b).stagedLevel, page := {}
        oldP := (s.bench b).modeP, oldVersion := (s.bench b).version, oldLevel := (s.bench b).level, fromImage := false
        stagedVersion := 0#32, stagedLevel := 0#8, stagedP := true, rollout := false }).pageSwitched 4 b 0)).updateMap)) ∧
  -- bench_reloadFailed
  (∀ (s : State) (b : Fin 32), (s.bench b).st = .reloading → (s.bench b).drain = .load →
    exec (.benchReloadCheck b false) s = .next ((((s.endReload b).setBench b { s.bench b with st := .live, page := { state := .loaded } }).raise
      0x0402 b).updateMap)) ∧
  -- bench_storeError
  (∀ (s : State) (b : Fin 32) (c : Fin 16) (i : Fin 6), b.val < s.variant.benches → (s.bench b).st = .live →
    (s.bench b).live = true → (s.slotAt (slotKey b c i)).st = .free → (s.bench b).lastError = none →
    exec (.controlStoreError b c i) s = .next ((s.setBench b { s.bench b with lastError := some s.up }).startLoad b .recover)) ∧
  -- bench_storeErrorTwice
  (∀ (s : State) (b : Fin 32) (c : Fin 16) (i : Fin 6) (t : Nat), b.val < s.variant.benches → (s.bench b).st = .live →
    (s.slotAt (slotKey b c i)).st = .free → (s.bench b).lastError = some t → s.up ≤ t + 1000000000 →
    exec (.controlStoreError b c i) s = .next (((((s.setBench b { s.bench b with lastError := some s.up, enabled := false }).condition
      0x0403 b true).endReload b)).drainBench b .disable)) ∧
  -- bench_enable
  (∀ (s : State) (l : LetterId) (bench : W32), Claimed s l 0x0609 [p4 bench] → bench.toNat < s.variant.benches →
    (s.bench bench.toNat).st = .off → (s.bench bench.toNat).rollout = false →
    ∃ t, exec (.storeEnableBench l bench) s = .next t ∧ Accepted s ((s.setBench bench.toNat { s.bench bench.toNat with
      enabled := true, st := .checking, drain := .powerUp }).askDomain (benchDomain bench.toNat) true) t l .done (layBody [p4 bench])) ∧
  -- bench_disable
  (∀ (s : State) (l : LetterId) (bench : W32), Claimed s l 0x060A [p4 bench] → bench.toNat < s.variant.benches →
    (s.bench bench.toNat).live = true → (s.bench bench.toNat).st ≠ .off →
    (List.range s.variant.benches).any (fun i => i ≠ bench.toNat && (s.bench i).live) = true →
    ∃ t, exec (.storeDisableBench l bench) s = .next t ∧ Accepted s (State.drainBench (s.setBench bench.toNat { s.bench bench.toNat with
      enabled := false, letter := some l }) bench.toNat .disable) t l .done (layBody [p4 bench]) true)

/-- The letters that stage and schedule the control store and write local memory. Next states of the accepted STORE
letters: the mode, the staged words, the seal, the schedule, the cancel, the budget and a write of one clerk's local
memory. (R53, R54, R55, R127, R129, R143, R144, R145, R147, R148, R416, R427) -/
def Obligations.StoreLetters : Prop :=
  -- store_setMode
  (∀ (s : State) (l : LetterId) (mode : W32), Claimed s l 0x0601 [p4 mode] → mode.toNat ≤ 1 → s.benchesMoving = false →
    ∃ t, exec (.storeSetMode l mode) s = .next t ∧
      Accepted s { s with clerks := { s.clerks with modeP := decide (mode = 1#32) } } t l .done (layBody [p4 mode])) ∧
  -- store_writeMicro
  (∀ (s : State) (l : LetterId) (benches start : W32) (words : ListArg W32) (ws : List W32),
    Claimed s l 0x0602 [p4 benches, p4 start, pL words] → 0x40 ≤ start.toNat → start.toNat ≤ 0xFFFF → 1 ≤ words.count.toNat →
    start.toNat + words.count.toNat ≤ 0x10000 → (benchList benches).any (fun b => decide (s.variant.benches ≤ b)) = false →
    (benchList benches).any (fun b => (s.bench b).page.state.fixed) = false → s.clerks.modeP = false → words.items = some ws →
    ∃ t, exec (.storeWriteMicro l benches start words) s = .next t ∧ Accepted s
      ((benchList benches).foldl (fun s b => (s.openPage b s.clerks.modeP).stageMicro b start.toNat ws) s) t l .staged (layBody [p4 benches, p4 start, pL words])) ∧
  -- store_writeNano
  (∀ (s : State) (l : LetterId) (benches start : W32) (words : ListArg (BitVec 256)) (ws : List (BitVec 256)),
    Claimed s l 0x0603 [p4 benches, p4 start, pL words] → 1 ≤ start.toNat → start.toNat ≤ 0x3FFF → 1 ≤ words.count.toNat →
    start.toNat + words.count.toNat ≤ 0x4000 → (benchList benches).any (fun b => decide (s.variant.benches ≤ b)) = false →
    (benchList benches).any (fun b => (s.bench b).page.state.fixed) = false → s.clerks.modeP = false → words.items = some ws →
    ∃ t, exec (.storeWriteNano l benches start words) s = .next t ∧ Accepted s
      ((benchList benches).foldl (fun s b => (s.openPage b s.clerks.modeP).stageNano b start.toNat ws) s) t l .staged (layBody [p4 benches, p4 start, pL words])) ∧
  -- store_writePatch
  (∀ (s : State) (l : LetterId) (benches : W32) (micro : ListArg W32) (nano : ListArg (BitVec 256)) (regs : ListArg W32) (level : W32)
    (m : List W32) (n : List (BitVec 256)) (r : List W32),
    Claimed s l 0x0604 [p4 benches, pL micro, pL nano, pL regs, p4 level] → micro.count.toNat ≤ 1024 → nano.count.toNat ≤ 512 →
    regs.count.toNat = 64 → level.toNat ≤ 255 → (benchList benches).any (fun b => decide (s.variant.benches ≤ b)) = false →
    (benchList benches).any (fun b => (s.bench b).page.state.fixed) = false → s.clerks.modeP = true → micro.items = some m →
    nano.items = some n → regs.items = some r →
    ∃ t, exec (.storeWritePatch l benches micro nano regs level) s = .next t ∧ Accepted s
      ((benchList benches).foldl (fun s b => s.stagePatch b m n r level.toNat) s) t l .staged (layBody [p4 benches, pL micro, pL nano, pL regs, p4 level])) ∧
  -- store_stageImage
  (∀ (s : State) (l : LetterId) (benches bank : W32), Claimed s l 0x0605 [p4 benches, p4 bank] → bank.toNat ≤ 1 →
    (benchList benches).any (fun b => decide (s.variant.benches ≤ b)) = false → s.benchesMoving = false →
    (benchList benches).any (fun b => (s.bench b).page.state.fixed) = false →
    s.bankState (if s.clerks.modeP then 2 else 1) (decide (bank = 1#32)) = .verified →
    ∃ t, exec (.storeStageImage l benches bank) s = .next t ∧ Accepted s
      ((benchList benches).foldl (fun s i => s.stageImage i s.clerks.modeP (decide (bank = 1#32))) s) t l .staged (layBody [p4 benches, p4 bank])) ∧
  -- store_seal
  (∀ (s : State) (l : LetterId) (benches version : W32), Claimed s l 0x0606 [p4 benches, p4 version] →
    (benchList benches).any (fun b => (s.bench b).stagedP && s.twoMatch b) = false →
    (benchList benches).any (fun b => decide (s.variant.benches ≤ b)) = false →
    (benchList benches).any (fun b => (s.bench b).page.state ≠ .loading && (s.bench b).page.state ≠ .loaded) = false →
    ∃ t, exec (.storeSeal l benches version) s = .next t ∧ Accepted s
      ((benchList benches).foldl (fun s b => s.sealPage b version) s) t l .done (layBody [p4 benches, p4 version])) ∧
  -- store_schedule
  (∀ (s : State) (l : LetterId) (benches : W32) (at' : TimeParam) (spacing : W64),
    Claimed s l 0x0607 [p4 benches, pT at', p8 spacing] → badTime at' = false → farTime s at' = false → pastTime s at' = false →
    (benchList benches).any (fun b => decide (s.variant.benches ≤ b)) = false → s.benchesMoving = false →
    (benchList benches).any (fun b => (s.bench b).page.state ≠ .loaded) = false →
    (benchList benches).any (fun b => !s.compatible (s.bench b).stagedVersion.toNat (s.bench b).stagedVersion.toNat) = false →
    200000 ≤ spacing.toNat → spacing.toNat ≤ 100000000 →
    ∃ t, exec (.storeScheduleLoad l benches at' spacing) s = .next t ∧ Accepted s (s.armBenches (benchList benches) (schedT at') spacing.toNat) t l
      .scheduled (layBody [p4 benches, pT at', p8 spacing])) ∧
  -- store_cancel
  (∀ (s : State) (l : LetterId) (benches : W32), Claimed s l 0x0608 [p4 benches] →
    (benchList benches).any (fun b => decide (s.variant.benches ≤ b)) = false →
    (benchList benches).all (fun b => (s.bench b).page.state.fixed && !(((s.bench b).st = .draining || (s.bench b).st = .reloading) && (s.bench b).drain = .load)) = true →
    ∃ t, exec (.storeCancelLoad l benches) s = .next t ∧ Accepted s
      ((benchList benches).foldl (fun s b => (s.setBench b { s.bench b with page := (s.bench b).page.cancel, st := if (s.bench b).st = .waiting ∧ (s.bench b).drain = .load then .live else (s.bench b).st }).clearFault
        0x0203 (pageObject 4 b)) s) t l .done (layBody [p4 benches])) ∧
  -- store_budget
  (∀ (s : State) (l : LetterId) (budget : W32), Claimed s l 0x060B [p4 budget] → 256 ≤ budget.toNat → budget.toNat ≤ 16384 →
    ∃ t, exec (.storeSetBudget l budget) s = .next t ∧
      Accepted s { s with clerks := { s.clerks with budget := budget.toNat } } t l .done (layBody [p4 budget])) ∧
  -- store_writeLocal
  (∀ (s : State) (l : LetterId) (clerk offset : W32) (size : W64) (data : BitVec 512),
    Claimed s l 0x060C [p4 clerk, p4 offset, p8 size, pLe data.toNat 64] → clerk.toNat < 16 * s.variant.benches → s.variant.benches ≤ 32 →
    1 ≤ size.toNat → size.toNat ≤ 64 → offset.toNat + size.toNat ≤ 0x18000 →
    ∃ t, exec (.storeWriteLocal l clerk offset size data) s = .next t ∧ Accepted s { s with clerks := { s.clerks with
      localMem := Memory.writeBytes (98304 * clerk.toNat + offset.toNat) (leBytes data.toNat size.toNat) s.clerks.localMem } } t l .done
      (layBody [p4 clerk, p4 offset, p8 size, pLe data.toNat 64]))

/-- Route, exact-match, next-hop and group letters, alone and in blocks. Next states of the accepted letters that stage
table records in the pending epoch, one at a time and in blocks, and of an implicit epoch. (R158, R159, R160, R161,
R162, R165, R344, R522) -/
def Obligations.TableAndBlockLetters : Prop :=
  -- tab_routeAdd
  (∀ (s : State) (l : LetterId) (a : RouteArgs),
    Claimed s l 0x0701 [p4 a.vrf, p4 a.family, pBe a.pfx.toNat 16, p4 a.plen, p4 a.kind, p4 a.target, p4 a.user] → NamesPending s l →
    StagesTo s { s with lookup := { s.lookup with
      fib := stageVer (prefixKey a.vrf a.family a.pfx a.plen) (some { kind := a.kind.toNat, target := a.target.toNat, user := a.user.toNat }) s.lookup.fib } } l.slice.val (.routeAdd a) →
    ∃ t, exec (.routeAdd l a) s = .next t ∧ Accepted s (State.countLetter { s with lookup := { s.lookup with
      fib := stageVer (prefixKey a.vrf a.family a.pfx a.plen) (some { kind := a.kind.toNat, target := a.target.toNat, user := a.user.toNat }) s.lookup.fib } })
      t l .staged (layBody [p4 a.vrf, p4 a.family, pBe a.pfx.toNat 16, p4 a.plen, p4 a.kind, p4 a.target, p4 a.user])) ∧
  -- tab_routeDelete
  (∀ (s : State) (l : LetterId) (vrf family : W32) (pfx : Ip) (plen : W32),
    Claimed s l 0x0702 [p4 vrf, p4 family, pBe pfx.toNat 16, p4 plen] → NamesPending s l →
    StagesTo s { s with lookup := { s.lookup with fib := stageVer (prefixKey vrf family pfx plen) none s.lookup.fib } } l.slice.val
      (.routeDelete vrf family pfx plen) →
    ∃ t, exec (.routeDelete l vrf family pfx plen) s = .next t ∧ Accepted s (State.countLetter { s with lookup := { s.lookup with
      fib := stageVer (prefixKey vrf family pfx plen) none s.lookup.fib } }) t l .staged
      (layBody [p4 vrf, p4 family, pBe pfx.toNat 16, p4 plen])) ∧
  -- tab_exactAdd
  (∀ (s : State) (l : LetterId) (type : W32) (key : BitVec 256) (result : W64),
    Claimed s l 0x0801 [p4 type, pBe key.toNat 32, p8 result] → NamesPending s l →
    StagesTo s { s with lookup := { s.lookup with exact := stageVer (type.toNat, key) (some {
      kind := bits result.toNat 21 20, target := bits result.toNat 19 0, user := bits result.toNat 47 32, raw := BitVec.ofNat 48 result.toNat }) s.lookup.exact } }
      l.slice.val (.exactAdd type key result) →
    ∃ t, exec (.tableExactAdd l type key result) s = .next t ∧ Accepted s (State.countLetter { s with lookup := { s.lookup with
      exact := stageVer (type.toNat, key) (some {
        kind := bits result.toNat 21 20, target := bits result.toNat 19 0, user := bits result.toNat 47 32, raw := BitVec.ofNat 48 result.toNat }) s.lookup.exact } })
      t l .staged (layBody [p4 type, pBe key.toNat 32, p8 result])) ∧
  -- tab_exactDelete
  (∀ (s : State) (l : LetterId) (type : W32) (key : BitVec 256),
    Claimed s l 0x0802 [p4 type, pBe key.toNat 32] → NamesPending s l →
    StagesTo s { s with lookup := { s.lookup with exact := stageVer (type.toNat, key) none s.lookup.exact } } l.slice.val (.exactDelete type key) →
    ∃ t, exec (.tableExactDelete l type key) s = .next t ∧ Accepted s (State.countLetter { s with lookup := { s.lookup with
      exact := stageVer (type.toNat, key) none s.lookup.exact } }) t l .staged (layBody [p4 type, pBe key.toNat 32])) ∧
  -- tab_nhWrite
  (∀ (s : State) (l : LetterId) (nh voq port module encap : W32),
    Claimed s l 0x0803 [p4 nh, p4 voq, p4 port, p4 module, p4 encap] → NamesPending s l →
    StagesTo s { s with lookup := { s.lookup with nh := stageVer nh.toNat (some { voqBase := voq.toNat, port := port.toNat, module := module.toNat, encap := encap }) s.lookup.nh } }
      l.slice.val (.nhWrite nh voq port module encap) →
    ∃ t, exec (.tableNhWrite l nh voq port module encap) s = .next t ∧ Accepted s (State.countLetter { s with lookup := { s.lookup with
      nh := stageVer nh.toNat (some { voqBase := voq.toNat, port := port.toNat, module := module.toNat, encap := encap }) s.lookup.nh } })
      t l .staged (layBody [p4 nh, p4 voq, p4 port, p4 module, p4 encap])) ∧
  -- tab_nhDelete
  (∀ (s : State) (l : LetterId) (nh : W32), Claimed s l 0x0804 [p4 nh] → NamesPending s l →
    StagesTo s { s with lookup := { s.lookup with nh := stageVer nh.toNat none s.lookup.nh } } l.slice.val (.nhDelete nh) →
    ∃ t, exec (.tableNhDelete l nh) s = .next t ∧ Accepted s (State.countLetter { s with lookup := { s.lookup with
      nh := stageVer nh.toNat none s.lookup.nh } }) t l .staged (layBody [p4 nh])) ∧
  -- tab_ecmpWrite
  (∀ (s : State) (l : LetterId) (group mode : W32) (members : ListArg W32) (ms : List W32),
    Claimed s l 0x0805 [p4 group, p4 mode, pL members] → NamesPending s l → members.items = some ms →
    StagesTo s { s with lookup := { s.lookup with ecmp := stageVer group.toNat (some { resilient := decide (mode = 1#32), members := ms.map (·.toNat) }) s.lookup.ecmp } }
      l.slice.val (.ecmpWrite group mode members) →
    ∃ t, exec (.tableEcmpWrite l group mode members) s = .next t ∧ Accepted s (State.countLetter { s with lookup := { s.lookup with
      ecmp := stageVer group.toNat (some { resilient := decide (mode = 1#32), members := ms.map (·.toNat) }) s.lookup.ecmp } })
      t l .staged (layBody [p4 group, p4 mode, pL members])) ∧
  -- tab_ecmpDelete
  (∀ (s : State) (l : LetterId) (group : W32), Claimed s l 0x0806 [p4 group] → NamesPending s l →
    StagesTo s { s with lookup := { s.lookup with ecmp := stageVer group.toNat none s.lookup.ecmp } } l.slice.val (.ecmpDelete group) →
    ∃ t, exec (.tableEcmpDelete l group) s = .next t ∧ Accepted s (State.countLetter { s with lookup := { s.lookup with
      ecmp := stageVer group.toNat none s.lookup.ecmp } }) t l .staged (layBody [p4 group])) ∧
  -- block_route
  (∀ (s t : State) (l : LetterId) (records : ListArg TableRecord) (crc : W32) (rs : List TableRecord),
    Claimed s l 0x0703 [pL records, p4 crc] → BlockStages s t l 7 records rs crc →
    ∃ u, exec (.routeBlock l records crc) s = .next u ∧ Accepted s t.countLetter u l .staged (layBody [n4 0])) ∧
  -- block_table
  (∀ (s t : State) (l : LetterId) (records : ListArg TableRecord) (crc : W32) (rs : List TableRecord),
    Claimed s l 0x0808 [pL records, p4 crc] → BlockStages s t l 8 records rs crc →
    ∃ u, exec (.tableBlock l records crc) s = .next u ∧ Accepted s t.countLetter u l .staged (layBody [n4 0])) ∧
  -- block_acl
  (∀ (s t : State) (l : LetterId) (records : ListArg TableRecord) (crc : W32) (rs : List TableRecord),
    Claimed s l 0x0907 [pL records, p4 crc] → BlockStages s t l 9 records rs crc →
    ∃ u, exec (.aclBlock l records crc) s = .next u ∧ Accepted s t.countLetter u l .staged (layBody [n4 0])) ∧
  -- implicit_item
  (∀ (s t : State) (l : LetterId) (r : TableRecord),
    Claimed s l (itemLetter r).1 (itemLetter r).2 → (s.entry l).all (fun e => e.epoch.isNone) = true → s.epoch.pending = none →
    s.epoch.releasing = none → firstFail (s.itemSix r) = none → firstFail (s.itemSeven l.slice.val r) = none →
    firstFail (s.itemEight r) = none → StagesTo (s.openEpoch (s.epoch.current + 1#16)) t l.slice.val r →
    ((s.openEpoch (s.epoch.current + 1#16)).itemApplied r).2 = none →
    Accepted s (State.switchEpoch { t with epoch := { t.epoch with implicit := some l } } t.units) (itemRun l r s) l .done
      ((s.openEpoch (s.epoch.current + 1#16)).itemApplied r).1 true)

/-- Letters of the associative engine, the policers and the hash. Next states of the accepted ACL, POLICER and
TABLE.SET_HASH letters. (R163, R166, R167, R172, R174, R180, R183, R186) -/
def Obligations.AclAndPolicerLetters : Prop :=
  -- acl_write
  (∀ (s u : State) (l : LetterId) (bank index : W32) (value mask : BitVec 640) (action : W64),
    Claimed s l 0x0901 [p4 bank, p4 index, pBe value.toNat 80, pBe mask.toNat 80, p8 action] → NamesPending s l →
    s.stageRow bank.toNat index.toNat (aclContent value mask action) = some u →
    StagesTo s u.bankPower l.slice.val (.aclWrite bank index value mask action) →
    ∃ t, exec (.aclWrite l bank index value mask action) s = .next t ∧ Accepted s u.bankPower.countLetter t l .staged
      (layBody [p4 bank, p4 index, pBe value.toNat 80, pBe mask.toNat 80, p8 action])) ∧
  -- acl_delete
  (∀ (s : State) (l : LetterId) (bank index : W32), Claimed s l 0x0902 [p4 bank, p4 index] → NamesPending s l →
    StagesTo s (s.stageErase bank.toNat index.toNat) l.slice.val (.aclDelete bank index) →
    ∃ t, exec (.aclDelete l bank index) s = .next t ∧
      Accepted s (s.stageErase bank.toNat index.toNat).countLetter t l .staged (layBody [p4 bank, p4 index])) ∧
  -- acl_profile
  (∀ (s u : State) (l : LetterId) (a : AclProfileArgs),
    Claimed s l 0x0903 [p4 a.profile, p4 a.width, pLe a.chunks.toNat 40, p4 a.mask, p4 a.select, p4 a.enable] → NamesPending s l →
    u = State.bankPower { s with lookup := { s.lookup with profiles := stageVer a.profile.toNat (some {
      wide := decide (a.width = 640#32), chunks := a.chunks, mask := a.mask, select := if a.select = 255#32 then none else some a.select.toNat,
      enable := decide (a.enable = 1#32), owner := s.owner 0x0E a.profile.toNat }) s.lookup.profiles } } →
    StagesTo s u l.slice.val (.aclProfile a) →
    ∃ t, exec (.aclSetProfile l a) s = .next t ∧ Accepted s u.countLetter t l .staged
      (layBody [p4 a.profile, p4 a.width, pLe a.chunks.toNat 40, p4 a.mask, p4 a.select, p4 a.enable])) ∧
  -- acl_select
  (∀ (s : State) (l : LetterId) (profile : W32) (masks : ListArg W32) (ms : List W32),
    Claimed s l 0x0904 [p4 profile, pL masks] → NamesPending s l → masks.items = some ms →
    StagesTo s { s with lookup := { s.lookup with selects := stageVer profile.toNat (some ms) s.lookup.selects } } l.slice.val (.aclSelect profile masks) →
    ∃ t, exec (.aclSetSelect l profile masks) s = .next t ∧ Accepted s (State.countLetter { s with lookup := { s.lookup with
      selects := stageVer profile.toNat (some ms) s.lookup.selects } }) t l .staged (layBody [p4 profile, pL masks])) ∧
  -- acl_width
  (∀ (s : State) (l : LetterId) (bank width : W32), Claimed s l 0x0905 [p4 bank, p4 width] → bank.toNat < s.variant.logical →
    s.variant.logical ≤ 32 → width = 320#32 ∨ width = 640#32 → s.owner 0x0D bank.toNat = l.slice.val → s.bankUsed bank.toNat = false →
    ∃ t, exec (.aclSetBankWidth l bank width) s = .next t ∧ Accepted s { s with lookup := { s.lookup with
      wide := nset false bank.toNat (decide (width = 640#32)) s.lookup.wide } } t l .done (layBody [p4 bank, p4 width])) ∧
  -- acl_selftest
  (∀ (s : State) (l : LetterId) (period : W64), Claimed s l 0x0906 [p8 period] →
    period.toNat = 0 ∨ hourNs ≤ period.toNat → period.toNat ≤ 168 * hourNs →
    ∃ t, exec (.aclSetSelftest l period) s = .next t ∧
      Accepted s { s with lookup := { s.lookup with period := period.toNat } } t l .done (layBody [p8 period])) ∧
  -- pol_configure
  (∀ (s : State) (l : LetterId) (a : PolicerArgs) (p : Policer),
    Claimed s l 0x0C01 [p4 a.policer, p4 a.scheme, p4 a.aware, p8 a.cir, p8 a.pir, p8 a.cbs, p8 a.ebs, p8 a.pbs, p4 a.adjust] → NamesPending s l →
    p = (policerOf a (pendView (afind s.lookup.policers a.policer.toNat))).2.1 → (s.itemApplied (.policerWrite a)).2 = none →
    StagesTo s { s with lookup := { s.lookup with policers := stageVer a.policer.toNat (some p) s.lookup.policers } } l.slice.val (.policerWrite a) →
    ∃ t, exec (.policerConfigure l a) s = .next t ∧ Accepted s (State.countLetter { s with lookup := { s.lookup with
      policers := stageVer a.policer.toNat (some p) s.lookup.policers } }) t l .staged
      (layBody [p4 a.policer, p4 a.scheme, p4 a.aware, n8 p.cir, n8 p.pir, n8 p.cbs, n8 p.ebs, n8 p.pbs, p4s p.adjust])) ∧
  -- pol_delete
  (∀ (s : State) (l : LetterId) (policer : W32), Claimed s l 0x0C02 [p4 policer] → NamesPending s l →
    StagesTo s { s with lookup := { s.lookup with policers := stageVer policer.toNat none s.lookup.policers } } l.slice.val (.policerDelete policer) →
    ∃ t, exec (.policerDelete l policer) s = .next t ∧ Accepted s (State.countLetter { s with lookup := { s.lookup with
      policers := stageVer policer.toNat none s.lookup.policers } }) t l .staged (layBody [p4 policer])) ∧
  -- tab_setHash
  (∀ (s : State) (l : LetterId) (seed profile fields : W32), Claimed s l 0x0807 [p4 seed, p4 profile, p4 fields] →
    profile.toNat ≤ 7 → fields.toNat ≤ 4095 →
    ∃ t, exec (.tableSetHash l seed profile fields) s = .next t ∧ Accepted s { s with lookup := { s.lookup with
      seed := seed, hash := nset hashDefault profile.toNat (BitVec.ofNat 12 fields.toNat) s.lookup.hash } } t l .done (layBody [p4 seed, p4 profile, p4 fields]))

/-- The associative engine's update windows, self-tests, repairs and spare bank. Next states of the events of the
associative banks. (R182, R186, R188, R189, R190) -/
def Obligations.AssociativeEngine : Prop :=
  -- ae_repair
  (∀ (s : State) (bank : Fin 32) (i : Nat), bank.val < s.variant.logical →
    (nget [] s.lookup.jobs bank.val).head? = some (.repair i) →
    exec (.aclUpdateWindow bank) s = .next (((State.dropJob s bank).repairRow bank i).bump .aclSteals bank)) ∧
  -- ae_write
  (∀ (s : State) (bank : Fin 32) (i : Nat), bank.val < s.variant.logical →
    (nget [] s.lookup.jobs bank.val).head? = some (.write i) →
    exec (.aclUpdateWindow bank) s = .next ((State.dropJob s bank).bump .aclSteals bank)) ∧
  -- ae_copy
  (∀ (s : State) (bank : Fin 32) (p q : Nat), bank.val < s.variant.logical →
    (nget [] s.lookup.jobs bank.val).head? = some (.copy p q) →
    exec (.aclUpdateWindow bank) s = .next ((((State.dropJob s bank).copyRow bank p q).bump .aclSteals bank).countCopy)) ∧
  -- ae_migrate
  (∀ (s : State) (bank : Fin 32) (m : Migration), bank.val < s.variant.logical →
    (nget [] s.lookup.jobs bank.val).head? = none → s.lookup.migration = some m → m.logical = bank.val → m.fault = false → m.next < 8192 →
    exec (.aclUpdateWindow bank) s = .next (State.bump { s with lookup := { s.lookup with migration := some { m with next := m.next + 1 } } }
      .aclSteals bank)) ∧
  -- ae_start
  (∀ (s : State) (d b p : Nat), s.lookup.period ≠ 0 → s.soundBanks ≠ 0 → s.lookup.lastStart + s.lookup.period / s.soundBanks ≤ s.up →
    s.lookup.migration = none → s.lookup.testing = none → s.spare = some d → s.oldestTest = some (b, p) → (s.phys p).st = .inService →
    exec .aclSelftestStart s = .next (let u := s.setPhys p { s.phys p with st := .source };
      { u with lookup := { u.lookup with migration := some { logical := b, src := p, dst := d }, lastStart := u.up } })) ∧
  -- ae_migrated
  (∀ (s : State) (m : Migration), s.lookup.migration = some m → m.fault = false → 8192 ≤ m.next →
    exec .aclMigrationComplete s = .next (let u := s.moveMap m .testing;
      State.bankPower { u with lookup := { u.lookup with testing := some (m.src, u.up) } })) ∧
  -- ae_testPass
  (∀ (s : State) (p : Fin 33) (t : Nat), s.lookup.testing = some (p.val, t) → t + 2000000 ≤ s.up →
    exec (.aclBankTestEnd p true) s = .next (let u : State := { s with lookup := { s.lookup with testing := none } };
      (u.setPhys p { u.phys p with tested := some u.up, st := .spare }).bump .aclSelftestPass)) ∧
  -- ae_testFail
  (∀ (s : State) (p : Fin 33) (t : Nat), s.lookup.testing = some (p.val, t) → t + 2000000 ≤ s.up →
    exec (.aclBankTestEnd p false) s = .next (let u : State := { s with lookup := { s.lookup with testing := none } };
      ((((u.setPhys p { u.phys p with tested := some u.up, st := .failed }).bump .aclSelftestFail).askDomain (bankDomain p) false).raise 0x0501 p 255))) ∧
  -- ae_rowRepair
  (∀ (s : State) (bank : Fin 32) (i : Fin 8192), bank.val < s.variant.logical →
    (nget [] s.lookup.jobs bank.val).contains (.repair i) = true →
    exec (.aclRowRepair bank i) s = .next ((State.repairRow { s with lookup := { s.lookup with
      jobs := nset [] bank.val ((nget [] s.lookup.jobs bank.val).erase (.repair i)) s.lookup.jobs } } bank i).bump .aclSteals bank)) ∧
  -- ae_fault
  (∀ (s : State) (p : Fin 33) (d : Nat), p.val < s.variant.banks → (s.phys p).st = .inService → s.lookup.migration = none →
    s.spare = some d →
    exec (.aclBankFault p) s = .next { s with lookup := { s.lookup with
      migration := some { logical := (s.phys p).logical, src := p, dst := d, fault := true } } }) ∧
  -- ae_faultNoSpare
  (∀ (s : State) (p : Fin 33), p.val < s.variant.banks → (s.phys p).st = .inService → s.lookup.migration = none →
    s.spare = none →
    exec (.aclBankFault p) s = .next ((((s.setPhys p { s.phys p with st := .failed }).askDomain (bankDomain p) false)).raise 0x0501 p
      (s.phys p).logical (sev := some 2))) ∧
  -- ae_spare
  (∀ (s : State) (m : Migration), s.lookup.migration = some m → m.fault = true →
    exec .aclSpareWritten s = .next ((((s.moveMap m .failed).askDomain (bankDomain m.src) false).raise 0x0501 m.src m.logical).bankPower))

/-- Admission, cut-through, buffer release, the dead-letter queue and their letters. Next states when a packet is
admitted, cut through or its cut-through ends, when a buffer is freed, when a dead letter is delivered, and of the
BUFFER and MIRROR letters. (R199, R202, R203, R208, R209, R211, R215, R216, R220, R221, R222, R302) -/
def Obligations.BuffersAndMirrors : Prop :=
  -- buf_admission
  (∀ (s : State) (rivals : List Rival) (readError : Bool) (p : Packet) (ps : List Packet),
    s.buffers.fromSorter = p :: ps → (s.cut p.port).running = none →
    exec (.ingressAdmission [] readError) s = .next (((s.popSorter.tagHandoff p).2.voqAdmit (s.popSorter.tagHandoff p).1).mirrorCopy
      (s.popSorter.tagHandoff p).1)) ∧
  -- buf_admissionContest
  (∀ (s u v : State) (rivals : List Rival) (readError : Bool) (p : Packet) (ps : List Packet),
    s.buffers.fromSorter = p :: ps → (s.cut p.port).running = none → rivals ≠ [] →
    u = { s with buffers := { s.buffers with rivals := rivals } } →
    v = ((u.popSorter.tagHandoff p).2.voqAdmit (u.popSorter.tagHandoff p).1).mirrorCopy (u.popSorter.tagHandoff p).1 →
    exec (.ingressAdmission rivals readError) s = .next { v with buffers := { v.buffers with rivals := [] } }) ∧
  -- buf_admissionCut
  (∀ (s : State) (p : Packet) (ps : List Packet) (r : CutRun),
    s.buffers.fromSorter = p :: ps → (s.cut p.port).running = some r →
    exec (.ingressAdmission [] false) s = .next ((s.endIngressCut p r p.data false).mirrorCopy p)) ∧
  -- buf_admissionCutError
  (∀ (s : State) (p : Packet) (ps : List Packet) (r : CutRun),
    s.buffers.fromSorter = p :: ps → (s.cut p.port).running = some r → r.on = true → r.sent.isSome = true →
    exec (.ingressAdmission [] true) s = .next ((((s.brokenData p 512).2.endIngressCut p r (s.brokenData p 512).1 true).bump
      .ctInPoisoned p.port).mirrorCopy p)) ∧
  -- buf_raceWon
  (∀ (s : State) (tier k p : Nat) (ps : List Nat) (b : BufId), s.rivalsOf tier p k ≠ [] → s.beaten (4 * tier + p) (s.rivalsOf tier p k) = false →
    s.pick tier p k = some b → s.isLast p k b = true →
    raceWinner (nget 0 s.buffers.pointers (4 * tier + p)) (k :: s.rivalsOf tier p k) = k →
    State.settleRaces tier k (p :: ps) s = (s.winRace (4 * tier + p) k, [])) ∧
  -- buf_raceLost
  (∀ (s u : State) (tier k p : Nat) (ps : List Nat) (b : BufId), s.rivalsOf tier p k ≠ [] → s.beaten (4 * tier + p) (s.rivalsOf tier p k) = false →
    s.pick tier p k = some b → s.isLast p k b = true →
    raceWinner (nget 0 s.buffers.pointers (4 * tier + p)) (k :: s.rivalsOf tier p k) ≠ k → u = s.bump .bufRaceLost (4 * tier + p) →
    State.settleRaces tier k (p :: ps) s = if tier = 1 ∧ (u.place p [(p, bufPch b)]).isSome then (u, [(p, bufPch b)])
      else ((State.settleRaces tier k ps u).1, (p, bufPch b) :: (State.settleRaces tier k ps u).2)) ∧
  -- buf_cutIn
  (∀ (s : State) (port : Fin 192) (p : Packet) (ps : List Packet) (u v : State) (r : Packet) (x : Placed),
    s.buffers.fromSorter = p :: ps → p.port = port.val → s.mayCutIn p = true →
    u = { (s.tagHandoff p).2 with buffers := { (s.tagHandoff p).2.buffers with
      fromSorter := (s.tagHandoff p).1 :: (s.tagHandoff p).2.buffers.fromSorter.drop 1 } } → r = (s.tagHandoff p).1 →
    u.admitIn r.queue 0 r.len r.colour (ofQueue r.queue) = (some x, v) → bufTier x.buf = 0 →
    exec (.ctIngressStart port []) s = .next (let w := v.enqueue r.queue { r with
        placed := some x, ct := true, whole := false, arrival := v.arrivalNow }
      (w.setCut port { w.cut port with running := some { queue := r.queue, first := r.firstAt } }).bump .ctInStarted port)) ∧
  -- buf_cutInDrop
  (∀ (s : State) (port : Fin 192) (p : Packet) (ps : List Packet) (u v : State) (r : Packet),
    s.buffers.fromSorter = p :: ps → p.port = port.val → s.mayCutIn p = true →
    u = { (s.tagHandoff p).2 with buffers := { (s.tagHandoff p).2.buffers with
      fromSorter := (s.tagHandoff p).1 :: (s.tagHandoff p).2.buffers.fromSorter.drop 1 } } → r = (s.tagHandoff p).1 →
    u.admitIn r.queue 0 r.len r.colour (ofQueue r.queue) = (none, v) →
    exec (.ctIngressStart port []) s = .next (v.popSorter.mirrorCopy r)) ∧
  -- buf_cutNotIn
  (∀ (s : State) (port : Fin 192) (rivals : List Rival) (p : Packet) (ps : List Packet), s.buffers.fromSorter = p :: ps →
    s.mayCutIn p = false → exec (.ctIngressStart port rivals) s = .next s) ∧
  -- buf_cutTimeout
  (∀ (s : State) (port : Fin 192) (p : Packet) (ps : List Packet) (r : CutRun), s.buffers.fromSorter = p :: ps →
    p.port = port.val → (s.cut port).running = some r → r.on = true → r.first + 10000 ≤ s.up →
    exec (.ctIngressTimeout port) s = .next ((((s.brokenData p 512).2.endIngressCut p r (s.brokenData p 512).1 true).bump
      .ctInPoisoned port).mirrorCopy { p with data := (s.brokenData p 512).1 })) ∧
  -- buf_cutBroken
  (∀ (s : State) (p : Packet) (m : Nat), s.brokenData p m =
    (p.data.take (arrived m p.data.length s.free.1.toNat) ++
      List.replicate (p.data.length - arrived m p.data.length s.free.1.toNat) 0#8, s.free.2)) ∧
  -- buf_cutOut
  (∀ (s : State) (queue : BitVec 19) (k : Nat) (p : Partial) (q : Nat) (x : Placed),
    s.partialOf queue.toNat = some (k, p) → p.admitted = [(q, x)] → (s.cut p.packet.dstPort).egress = true → p.alone = true →
    p.packet.ct = false → p.packet.poisoned = false → (s.queue queue.toNat).packets = [] → bufTier x.buf = 0 →
    (s.cut p.packet.dstPort).ctStart ≤ p.packet.data.length →
    exec (.ctEgressStart queue) s = .next (((s.setPartial k { p with packet := { p.packet with ct := true } }).enqueue queue.toNat
      { p.packet with
        ct := true, placed := some x, whole := false, queue := queue.toNat,
        port := (s.setPartial k { p with packet := { p.packet with ct := true } }).portOf queue.toNat { p.packet with ct := true } }).bump .ctEgStarted p.packet.dstPort)) ∧
  -- buf_cutAbort
  (∀ (s : State) (queue : BitVec 19) (cause : Fin 4) (k : Nat) (p : Partial),
    s.partialOf queue.toNat = some (k, p) → p.linked = true → p.back = false →
    exec (.ctEgressAbort queue cause) s = .next ((s.abortCt p cause).setPartial k p.bad)) ∧
  -- buf_cutAbortNone
  (∀ (s : State) (queue : BitVec 19) (cause : Fin 4), s.partialOf queue.toNat = none →
    s.cutAway queue.toNat = none → exec (.ctEgressAbort queue cause) s = .next s) ∧
  -- buf_free
  (∀ (s : State) (b : BufId) (r : OwnerRec), s.ownerOf b = some r →
    exec (.bufferFree b r.owner) s = .next (s.freeBuf b)) ∧
  -- buf_freeDouble
  (∀ (s : State) (b : BufId) (agent : Owner), s.ownerOf b = none →
    exec (.bufferFree b agent) s =
      .next ((s.bump .bufDoubleFree).raise 0x0601 (s.bufCode b).1 (s.bufCode b).2 (ownerCode agent))) ∧
  -- buf_freeForeign
  (∀ (s : State) (b : BufId) (r : OwnerRec) (agent : Owner), s.ownerOf b = some r → r.owner ≠ agent →
    exec (.bufferFree b agent) s = .next (s.foreignFree b r agent)) ∧
  -- buf_dlq
  (∀ (s : State) (e : DlqEntry) (rest : List DlqEntry) (ring : W64) (depth : Nat), s.buffers.dlq = e :: rest →
    s.buffers.dlqRing = some (ring, depth) → s.mayRequest 0 = true → s.headIs e.packet = .here →
    exec (.dlqDeliver true true) s = .next (((State.emit { s with buffers := { s.buffers with
        dlqProduced := s.buffers.dlqProduced + 1 } } (.record 66 ring (s.buffers.dlqProduced % depth) (dlqRecord e s.buffers.dlqSnap))).dlqLeave
      e.packet).bump .dlqDelivered)) ∧
  -- buf_dlqDeep
  (∀ (s : State) (e : DlqEntry) (rest : List DlqEntry) (ring : W64 × Nat), s.buffers.dlq = e :: rest →
    s.buffers.dlqRing = some ring → s.mayRequest 0 = true → s.headIs e.packet = .deep →
    exec (.dlqDeliver true true) s = .next (State.readDeep { s with buffers := { s.buffers with
      dlq := { e with packet := { e.packet with fetching := true } } :: rest } } .tx { e.packet with fetching := true })) ∧
  -- buf_dlqLost
  (∀ (s : State) (e : DlqEntry) (rest : List DlqEntry) (ring : W64 × Nat), s.buffers.dlq = e :: rest →
    s.buffers.dlqRing = some ring → s.mayRequest 0 = true → s.headIs e.packet = .lost →
    exec (.dlqDeliver true true) s = .next (s.dlqLeave e.packet)) ∧
  -- buf_dlqFenced
  (∀ (s : State) (e : DlqEntry) (rest : List DlqEntry) (ring : W64 × Nat), s.buffers.dlq = e :: rest →
    s.buffers.dlqRing = some ring → s.headIs e.packet = .fenced ∨ s.headIs e.packet = .coming →
    exec (.dlqDeliver true true) s = .next s) ∧
  -- buf_dlqNoRoom
  (∀ (s : State) (busOk : Bool), exec (.dlqDeliver false busOk) s = .next s) ∧
  -- buf_setPools
  (∀ (s : State) (l : LetterId) (g0 g1 g2 g3 : W32), Claimed s l 0x0A01 [p4 g0, p4 g1, p4 g2, p4 g3] →
    8 ≤ g0.toNat → g0.toNat ≤ 264 → 8 ≤ g1.toNat → g1.toNat ≤ 264 → 8 ≤ g2.toNat → g2.toNat ≤ 264 →
    8 ≤ g3.toNat → g3.toNat ≤ 264 → g0.toNat + g1.toNat + g2.toNat + g3.toNat = 288 → s.buffers.moving = [] →
    (s.pickGranules fun i => [g0.toNat, g1.toNat, g2.toNat, g3.toNat].getD i 0) = [] →
    ∃ t, exec (.bufferSetPools l g0 g1 g2 g3) s = .next t ∧ Accepted s
      (State.moveGranules { s with buffers := { s.buffers with moving := [] } }) t l .done (layBody [p4 g0, p4 g1, p4 g2, p4 g3])) ∧
  -- buf_setPoolsWait
  (∀ (s u : State) (l : LetterId) (g0 g1 g2 g3 : W32),
    u = State.moveGranules { s with buffers := { s.buffers with
      moving := s.pickGranules fun i => [g0.toNat, g1.toNat, g2.toNat, g3.toNat].getD i 0 } } →
    Claimed s l 0x0A01 [p4 g0, p4 g1, p4 g2, p4 g3] →
    8 ≤ g0.toNat → g0.toNat ≤ 264 → 8 ≤ g1.toNat → g1.toNat ≤ 264 → 8 ≤ g2.toNat → g2.toNat ≤ 264 →
    8 ≤ g3.toNat → g3.toNat ≤ 264 → g0.toNat + g1.toNat + g2.toNat + g3.toNat = 288 → s.buffers.moving = [] →
    u.buffers.moving ≠ [] →
    ∃ t, exec (.bufferSetPools l g0 g1 g2 g3) s = .next t ∧ Accepted s
      { u with buffers := { u.buffers with poolsLetter := some l } } t l .done (layBody [p4 g0, p4 g1, p4 g2, p4 g3]) true) ∧
  -- buf_setClass
  (∀ (s u : State) (l : LetterId) (cls : W32) (a b c d : W64), Claimed s l 0x0A02 [p4 cls, p8 a, p8 b, p8 c, p8 d] →
    cls.toNat ≤ 4 → a.toNat ≤ 64 * 1048576 → b.toNat ≤ 180 * 1048576 → c.toNat ≤ 64 * 1024 * 1048576 → d.toNat ≤ 284 * 1024 * 1048576 →
    u = { s with buffers := { s.buffers with
      classes := nset (classDefault cls.toNat) cls.toNat ⟨a.toNat, b.toNat, c.toNat, d.toNat⟩ s.buffers.classes } } →
    ([0, 1, 2, 3, 4].map fun j => (u.bufClass j).reserve 0).sum ≤ s.poolSpace 0 →
    overGuaranteed s.queues.queues s.admission u.shallowReserve = false →
    ([0, 1, 2, 3, 4].map fun j => (u.bufClass j).reserve 1).sum ≤ s.poolSpace 1 →
    ∃ t, exec (.bufferSetClass l cls a b c d) s = .next t ∧ Accepted s u t l .done (layBody [p4 cls, p8 a, p8 b, p8 c, p8 d])) ∧
  -- buf_setAdmission
  (∀ (s : State) (l : LetterId) (a : AdmissionArgs) (v : Admission),
    v = ⟨true, a.guaranteed.toNat, a.spillEnable = 1#32, a.spill.toNat, sext 32 a.alphaShallow.toNat, sext 32 a.alphaDeep.toNat,
      a.max.toNat, a.yellow.toNat, a.red.toNat⟩ →
    Claimed s l 0x0A03 [p4 a.profile, p8 a.guaranteed,
      p4 a.spillEnable, p8 a.spill, p4 a.alphaShallow, p4 a.alphaDeep, p8 a.max, p4 a.yellow, p4 a.red] → a.spillEnable.toNat ≤ 1 →
    a.profile.toNat ≤ 1023 → s.owner 0x15 a.profile.toNat = l.slice.val → a.guaranteed.toNat ≤ 16 * 1048576 → a.spill.toNat ≤ 64 * 1048576 →
    a.alphaShallow.toNat ≠ 2 ^ 31 → a.alphaDeep.toNat ≠ 2 ^ 31 →
    -7 ≤ sext 32 a.alphaShallow.toNat → sext 32 a.alphaShallow.toNat ≤ 3 → -7 ≤ sext 32 a.alphaDeep.toNat → sext 32 a.alphaDeep.toNat ≤ 3 →
    2048 ≤ a.max.toNat → a.max.toNat ≤ 64 * 1024 * 1048576 → a.yellow.toNat ≤ 16 → a.red.toNat ≤ 16 →
    overGuaranteed s.queues.queues (fun j => if j = a.profile.toNat then v else s.admission j) s.shallowReserve = false →
    ∃ t, exec (.bufferSetAdmission l a) s = .next t ∧ Accepted s { s with buffers := { s.buffers with
        admissions := nset {} a.profile.toNat v s.buffers.admissions } } t l .done
      (layBody [p4 a.profile, p8 a.guaranteed, p4 a.spillEnable, p8 a.spill, p4s v.alphaShallow, p4s v.alphaDeep, p8 a.max, p4 a.yellow,
        p4 a.red])) ∧
  -- buf_setDlq
  (∀ (s : State) (l : LetterId) (a : DlqArgs), Claimed s l 0x0A04 [p4 a.mask, pLe a.reasons.toNat 64, p8 a.limit, p8 a.snap,
      p8 a.ring, p4 a.depth] → a.mask &&& 0x3E#32 = a.mask → a.ring ≠ 0#64 → a.depth ≠ 0#32 → a.limit.toNat ≤ 64 * 1048576 →
    64 ≤ a.snap.toNat → a.snap.toNat ≤ 9728 → s.buffers.dlqRing = none →
    ∃ t, exec (.bufferSetDlq l a) s = .next t ∧ Accepted s { s with buffers := { s.buffers with
        dlqMask := a.mask, dlqReasons := a.reasons, dlqLimit := a.limit.toNat, dlqSnap := a.snap.toNat,
        dlqRing := some (a.ring, a.depth.toNat), dlqProduced := 0 } } t l .done
      (layBody [p4 a.mask, pLe a.reasons.toNat 64, p8 a.limit, p8 a.snap, p8 a.ring, p4 a.depth])) ∧
  -- buf_setCut
  (∀ (s : State) (l : LetterId) (port ingress egress : W32) (a b : W64), Claimed s l 0x0A05 [p4 port, p4 ingress, p4 egress, p8 a, p8 b] →
    ingress.toNat ≤ 1 → egress.toNat ≤ 1 → s.portExists l.slice.val port.toNat = true → 512 ≤ a.toNat → a.toNat ≤ 9728 →
    256 ≤ b.toNat → b.toNat ≤ 4096 →
    ∃ t, exec (.bufferSetCutThrough l port ingress egress a b) s = .next t ∧ Accepted s (let u := s.setCut port.toNat { s.cut port.toNat with
          ingress := ingress = 1#32, egress := egress = 1#32, ctMin := a.toNat, ctStart := b.toNat }
        let v := if ingress = 1#32 then u else u.turnBackIn port.toNat
        if egress = 1#32 then v else v.turnBackOut port.toNat) t l .done
      (layBody [p4 port, p4 ingress, p4 egress, p8 a, p8 b])) ∧
  -- mir_configure
  (∀ (s : State) (l : LetterId) (session destination : W32) (truncate : W64) (sample enabled : W32),
    Claimed s l 0x1501 [p4 session, p4 destination, p8 truncate, p4 sample, p4 enabled] → enabled.toNat ≤ 1 → session.toNat ≤ 1023 →
    s.owner 0x17 session.toNat = l.slice.val → s.mirrorTarget l.slice.val destination.toNat = true →
    truncate.toNat = 0 ∨ 64 ≤ truncate.toNat → truncate.toNat ≤ 9728 → 1 ≤ sample.toNat → sample.toNat ≤ 65536 →
    ∃ t, exec (.mirrorConfigure l session destination truncate sample enabled) s = .next t ∧
      Accepted s (s.setMirror session.toNat { s.mirror session.toNat with
        configured := true, destination := destination.toNat, truncate := truncate.toNat, sample := sample.toNat,
        enabled := enabled = 1#32 }) t l .done (layBody [p4 session, p4 destination, p8 truncate, p4 sample, p4 enabled])) ∧
  -- mir_disable
  (∀ (s : State) (l : LetterId) (session : W32), Claimed s l 0x1502 [p4 session] → session.toNat ≤ 1023 →
    s.owner 0x17 session.toNat = l.slice.val →
    ∃ t, exec (.mirrorDisable l session) s = .next t ∧
      Accepted s (s.setMirror session.toNat { s.mirror session.toNat with enabled := false }) t l .done (layBody [p4 session]))

/-- The scheduler, header windows, virtual output queues and the arbiter. Next states when the scheduler selects a packet,
a header window goes and returns, a virtual output queue sends, ages and is granted. (R52, R118, R199, R221, R223,
R234, R238, R240, R244, R247, R252, R302) -/
def Obligations.SchedulerWindowsAndVirtualQueues : Prop :=
  -- q_select
  (∀ (s u t : State) (port : Fin 192) (q : Nat) (path : List (Nat × Bool)), s.hasPort port = true →
    u = s.readNodes port → u.portOpen port = true → u.servable port = true →
    nextAfter u.queues.lastPort ((List.range u.variant.lanes).filter u.servable) = some port.val →
    (u.countGuard port).walk port 5 (nodeKey 4 port) [] = (t, some (q, path)) →
    exec (.schedulerSelect port) s = .next (State.takeHead { t with queues := { t.queues with lastPort := port.val } } port q path)) ∧
  -- q_selectRead
  (∀ (s : State) (k : Nat), s.readNode k = s.setNode k { s.node k with
      ptok := s.pirNow k, plast := s.ns, ctok := s.cirNow k, clast := s.ns }) ∧
  -- q_selectGuarded
  (∀ (s u : State) (port : Fin 192), s.hasPort port = true → u = s.readNodes port → u.portOpen port = true →
    u.servable port = false → exec (.schedulerSelect port) s = .next (u.countGuard port)) ∧
  -- q_selectClosed
  (∀ (s u : State) (port : Fin 192), s.hasPort port = true → u = s.readNodes port → u.portOpen port = false →
    exec (.schedulerSelect port) s = .next u) ∧
  -- q_take
  (∀ (s a u : State) (port q : Nat) (path : List (Nat × Bool)) (p : Packet) (ps : List Packet) (pirs cirs : List Nat),
    a = s.ageHeads q (s.queue q).packets.length → (a.queue q).packets = p :: ps → a.debitPath port p.len path = (u, pirs, cirs) →
    (((u.unlink q).chargePace p.len).count (qDeqIndex q) 1 p.len).dataHere p = true →
    s.takeHead port q path = (let v : State := ((u.unlink q).chargePace p.len).count (qDeqIndex q) 1 p.len;
      { v with queues := { v.queues with
        selected := v.queues.selected ++ [⟨{ p with port := port, fetching := false }, q, pirs, cirs⟩] } })) ∧
  -- q_window
  (∀ (s t : State) (x : Selected) (p : Packet), readyWindow s.dataHere [] s.queues.selected = some x →
    x.packet.lost = false → x.packet.poisoned = false → s.windowsOut < 4096 →
    p = { x.packet with refTime := s.units, winNo := s.d2d.nextSorter } →
    State.sendFlit { s with queues := { s.queues with selected := s.queues.selected.erase x } } false (.window p) = some t →
    exec .headerWindowSend s = .next { t with queues := { t.queues with away := t.queues.away ++ [{ x with packet := p }] } }) ∧
  -- q_windowLost
  (∀ (s : State) (x : Selected), readyWindow s.dataHere [] s.queues.selected = some x → x.packet.lost = true →
    exec .headerWindowSend s = .next (State.freePacket { s with queues := { s.queues with
      selected := s.queues.selected.erase x } } x.packet (ofQueue x.queue))) ∧
  -- q_windowFull
  (∀ (s : State) (x : Selected), readyWindow s.dataHere [] s.queues.selected = some x → x.packet.lost = false →
    x.packet.poisoned = false → 4096 ≤ s.windowsOut → exec .headerWindowSend s = .next s) ∧
  -- q_return
  (∀ (s u t : State) (rivals : List Rival) (r : Packet) (rest : List (Packet × Bool)) (x : Selected) (p : Packet),
    s.queues.returned = (r, true) :: rest → (s.queues.away.find? fun x => x.packet.winNo = r.winNo) = some x →
    x.packet.whole = true → x.packet.poisoned = false ∨ x.packet.ct = true →
    (s.meet rest x).tagHandoff (x.rejoin r) = (p, u) → u.sendFlit false (.transmit { p with placed := none }) = some t →
    exec (.windowReturn rivals) s = .next (((t.adjust x r.delta).contest rivals fun t => t.egressMirror p).freePacket x.packet
      (ofQueue x.queue))) ∧
  -- q_returnWaits
  (∀ (s u : State) (rivals : List Rival) (r : Packet) (rest : List (Packet × Bool)) (x : Selected) (p : Packet),
    s.queues.returned = (r, true) :: rest → (s.queues.away.find? fun x => x.packet.winNo = r.winNo) = some x →
    x.packet.whole = true → x.packet.poisoned = false ∨ x.packet.ct = true →
    (s.meet rest x).tagHandoff (x.rejoin r) = (p, u) → u.sendFlit false (.transmit { p with placed := none }) = none →
    exec (.windowReturn rivals) s = .next s) ∧
  -- q_returnAlone
  (∀ (s : State) (rivals : List Rival) (r : Packet) (forward : Bool) (rest : List (Packet × Bool)),
    s.queues.returned = (r, forward) :: rest → (s.queues.away.find? fun x => x.packet.winNo = r.winNo) = none →
    exec (.windowReturn rivals) s = .next { s with queues := { s.queues with returned := rest } }) ∧
  -- q_returnPunted
  (∀ (s u : State) (rivals : List Rival) (r : Packet) (rest : List (Packet × Bool)) (x : Selected) (b : Placed),
    s.queues.returned = (r, false) :: rest → (s.queues.away.find? fun x => x.packet.winNo = r.winNo) = some x →
    x.packet.whole = true → x.packet.poisoned = false → u = s.meet rest x → (u.chan (r.hostCode % 64)).st ≠ .closed →
    x.packet.placed = some b →
    exec (.windowReturn rivals) s = .next ((u.moveOwner b.buf (.courier (Fin.ofNat 64 (r.hostCode % 64)))).toHost (r.hostCode % 64)
      { r with data := (x.rejoin r).data, len := (x.rejoin r).len, placed := some b, fetched := x.packet.fetched,
               arrival := x.packet.arrival })) ∧
  -- q_returnPuntClosed
  (∀ (s u : State) (rivals : List Rival) (r : Packet) (rest : List (Packet × Bool)) (x : Selected),
    s.queues.returned = (r, false) :: rest → (s.queues.away.find? fun x => x.packet.winNo = r.winNo) = some x →
    x.packet.whole = true → x.packet.poisoned = false → u = s.meet rest x → (u.chan (r.hostCode % 64)).st = .closed →
    exec (.windowReturn rivals) s = .next ((u.bump .curPuntClosed (r.hostCode % 64)).freePacket x.packet (ofQueue x.queue))) ∧
  -- q_rejoin
  (∀ (x : Selected) (r : Packet),
    (x.rejoin r).data = r.data ++ x.packet.data.drop (Int.ofNat r.data.length - r.delta).toNat ∧
    (x.rejoin r).len = (x.rejoin r).data.length + 4) ∧
  -- voq_send
  (∀ (s u : State) (voq : BitVec 17) (readError : Bool) (p : Packet) (ps : List Packet), s.voqMay voq.toNat = true →
    (s.txStream (s.queue voq.toNat).stream).cut = none →
    u = s.ageHeads voq.toNat (s.queue voq.toNat).packets.length → (u.queue voq.toNat).packets = p :: ps →
    p.whole = true → u.headIs p = .here → exec (.voqSend voq readError) s = .next (u.voqSend voq.toNat p readError)) ∧
  -- voq_read
  (∀ (s u : State) (voq : BitVec 17) (readError : Bool) (p : Packet) (ps : List Packet), s.voqMay voq.toNat = true →
    (s.txStream (s.queue voq.toNat).stream).cut = none →
    u = s.ageHeads voq.toNat (s.queue voq.toNat).packets.length → (u.queue voq.toNat).packets = p :: ps →
    p.whole = true → u.headIs p = .deep →
    exec (.voqSend voq readError) s = .next ((u.setQueue voq.toNat { u.queue voq.toNat with
      packets := { p with fetching := true } :: ps }).readDeep .fab p)) ∧
  -- voq_waits
  (∀ (s u : State) (voq : BitVec 17) (readError : Bool) (p : Packet) (ps : List Packet), s.voqMay voq.toNat = true →
    (s.txStream (s.queue voq.toNat).stream).cut = none →
    u = s.ageHeads voq.toNat (s.queue voq.toNat).packets.length → (u.queue voq.toNat).packets = p :: ps →
    p.whole = true → u.headIs p = .fenced ∨ u.headIs p = .coming → exec (.voqSend voq readError) s = .next u) ∧
  -- voq_lost
  (∀ (s u : State) (voq : BitVec 17) (readError : Bool) (p : Packet) (ps : List Packet), s.voqMay voq.toNat = true →
    (s.txStream (s.queue voq.toNat).stream).cut = none →
    u = s.ageHeads voq.toNat (s.queue voq.toNat).packets.length → (u.queue voq.toNat).packets = p :: ps →
    p.whole = true → u.headIs p = .lost →
    exec (.voqSend voq readError) s = .next ((u.unlink voq.toNat).freePacket p (ofQueue voq.toNat))) ∧
  -- voq_cutFirst
  (∀ (s u : State) (voq : BitVec 17) (readError : Bool) (p : Packet) (ps : List Packet) (r : CutRun) (bytes : List Byte),
    s.voqMay voq.toNat = true → (s.txStream (s.queue voq.toNat).stream).cut = none →
    u = s.ageHeads voq.toNat (s.queue voq.toNat).packets.length → (u.queue voq.toNat).packets = p :: ps →
    p.whole = false → (u.cut p.port).running = some r → r.queue = voq.toNat → r.on = true → r.sent = none →
    bytes = ((u.queue voq.toNat).bytes p).take 528 →
    exec (.voqSend voq readError) s = .next ((u.packFirst (u.queue voq.toNat).stream voq.toNat p bytes).setCut p.port
      { u.cut p.port with running := some { r with sent := some bytes.length } })) ∧
  -- voq_noCredit
  (∀ (s : State) (voq : BitVec 17) (readError : Bool), s.voqMay voq.toNat = false →
    exec (.voqSend voq readError) s = .next s) ∧
  -- voq_multicast
  (∀ (s : State) (q : Nat), (s.queue q).mcast = true →
    s.voqMay q = (decide (0 ≤ s.mcNow) && s.anyEffective)) ∧
  -- voq_unicast
  (∀ (s : State) (q : Nat), (s.queue q).mcast = false →
    s.voqMay q = (decide (0 < (s.queue q).balance) && s.effective (s.queue q).destModule && s.voqTurn q)) ∧
  -- voq_age
  (∀ (s : State) (voq : BitVec 17), exec (.voqAgeVisit voq) s =
    .next (s.ageHeads voq.toNat (s.queue voq.toNat).packets.length)) ∧
  -- voq_ageStop
  (∀ (s : State) (q n : Nat) (p : Packet) (ps : List Packet), (s.queue q).packets = p :: ps →
    s.aged (s.queue q) p = false → s.ageHeads q n = s) ∧
  -- voq_ageDrop
  (∀ (s : State) (q n : Nat) (p : Packet) (ps : List Packet), (s.queue q).packets = p :: ps →
    s.aged (s.queue q) p = true → s.ageHeads q (n + 1) = (s.discardAged q p).ageHeads q n) ∧
  -- arb_grant
  (∀ (s t : State) (port : Fin 192) (c : Nat), s.hasPort port = true →
    ((s.noteStops port).portQ port).holdSt = .serving → (s.noteStops port).nodePir (nodeKey 4 port) ≠ 0 →
    0 ≤ (s.noteStops port).creditNow port → (s.noteStops port).pickClass port = (t, some c) →
    exec (.arbiterGrant port) s = .next (t.grantClass port c)) ∧
  -- arb_noCredit
  (∀ (s : State) (port : Fin 192), s.hasPort port = true → (s.noteStops port).creditNow port < 0 →
    exec (.arbiterGrant port) s = .next (s.noteStops port)) ∧
  -- arb_held
  (∀ (s : State) (port : Fin 192), s.hasPort port = true → ((s.noteStops port).portQ port).holdSt ≠ .serving →
    exec (.arbiterGrant port) s = .next (s.noteStops port))

/-- Hold timers, flushes, gate lists and deferred switches. Next states at the end of a hold and of a flush, and of the
gate lists' entries and switches. (R56, R57, R243, R245, R246, R249, R251) -/
def Obligations.HoldsFlushesAndGates : Prop :=
  -- hold_expiry
  (∀ (s : State) (port : Fin 192), s.hasPort port = true → (s.portQ port).holdSt = .held →
    (s.portQ port).heldAt + (s.portQ port).hold < s.up →
    exec (.holdExpiry port) s = .next ((s.setPortQ port { s.portQ port with
      holdSt := .flushed,
      flushing := (s.portQueues port).any fun q => !(s.queue q).packets.isEmpty }).bump .portHoldExpired port)) ∧
  -- hold_upWins
  (∀ (s u : State) (p : Nat), u = s.event (s.owner 0x14 p) (s.mkEvent 0x0001 p) → (u.portQ p).holdSt = .held →
    u.up ≤ (u.portQ p).heldAt + (u.portQ p).hold → s.portUp p = u.setPortQ p { u.portQ p with holdSt := .serving }) ∧
  -- hold_running
  (∀ (s : State) (port : Fin 192), s.hasPort port = true →
    s.up ≤ (s.portQ port).heldAt + (s.portQ port).hold → exec (.holdExpiry port) s = .next s) ∧
  -- flush_queue
  (∀ (s : State) (queue : BitVec 19) (l : LetterId), (s.queue queue.toNat).flush = some l →
    exec (.queueFlushComplete queue) s = .next (((s.setQueue queue.toNat { s.queue queue.toNat with flush := none }).flushQueue
      queue.toNat (s.queue queue.toNat).packets.length).release l)) ∧
  -- flush_empty
  (∀ (s : State) (q n : Nat), (s.queue q).packets = [] → s.flushQueue q n = s ∧ s.flushHeld q n = s) ∧
  -- flush_next
  (∀ (s : State) (q n : Nat) (p : Packet) (ps : List Packet), (s.queue q).packets = p :: ps →
    s.flushQueue q (n + 1) = (((s.unlink q).freePacket p (ofQueue q)).sparse 9 q).flushQueue q n ∧
    ((s.unlink q).dlqTakes 1 = false →
      s.flushHeld q (n + 1) = (((s.unlink q).freePacket p (ofQueue q)).sparse 9 q).flushHeld q n) ∧
    ((s.unlink q).dlqTakes 1 = true → s.flushHeld q (n + 1) = ((s.unlink q).dlqEnter 1 q [] p (ofQueue q)).flushHeld q n)) ∧
  -- flush_port
  (∀ (s u : State) (port : Fin 192), s.hasPort port = true → (s.portQ port).flushing = true →
    u = (s.portQueues port).foldl (fun s q => s.flushHeld q (s.queue q).packets.length) s →
    exec (.portFlushComplete port) s = .next (u.setPortQ port { u.portQ port with
      flushing := false, upPending := false,
      holdSt := if (u.portQ port).upPending then .serving else (u.portQ port).holdSt })) ∧
  -- gate_advance
  (∀ (s : State) (port : Fin 192) (g : Gate), s.hasPort port = true →
    (s.portQ port).gates[(s.portQ port).gateIdx]? = some g → (s.portQ port).gateAt + g.interval * 65536 ≤ s.units →
    exec (.gateEntryAdvance port) s = .next (s.setPortQ port { s.portQ port with
      gateIdx := ((s.portQ port).gateIdx + 1) % (s.portQ port).gates.length,
      gateAt := (s.portQ port).gateAt + g.interval * 65536 })) ∧
  -- gate_switch
  (∀ (s : State) (port : Fin 192), s.hasPort port = true → (s.portQ port).gatesT ≤ s.units →
    (s.portQ port).gatesPage.state = .armed → (s.portQ port).gatesPage.t = 0 ∨
      (s.portQ port).gatesPage.t ≤ s.units ∧ (s.portQ port).gatesPage.good.getD s.timeGood = true →
    exec (.gateListSwitch port) s = .next ((s.setPortQ port { s.portQ port with
      gates := (s.portQ port).gatesIn, gatesIn := (s.portQ port).gates, gatesStart := (s.portQ port).gatesT, gateIdx := 0,
      gateAt := (s.portQ port).gatesT, gatesPage := {}, gatesT := 0 }).pageSwitched 3 port (s.owner 0x14 port))) ∧
  -- gate_defer
  (∀ (s : State) (port : Fin 192), s.hasPort port = true → (s.portQ port).gatesT ≤ s.units →
    (s.portQ port).gatesPage.state = .armed → (s.portQ port).gatesPage.t ≠ 0 → (s.portQ port).gatesPage.t ≤ s.units → (s.portQ port).gatesPage.good.getD s.timeGood = false →
    exec (.gateListSwitch port) s = .next ((s.setPortQ port { s.portQ port with
      gatesPage := { (s.portQ port).gatesPage with state := .deferred } }).pageDeferred 3 port (s.owner 0x14 port))) ∧
  -- page_deferredGates
  (∀ (s : State) (p : Fin 192), (s.portQ p).gatesPage.state = .deferred → s.goodFor 1000000 = true → s.crossed 100000 = true →
    exec (.deferredSwitch (.gates p)) s = .next (s.switchGates p s.units)) ∧
  -- page_deferredEpoch
  (∀ (s : State), s.epoch.page = .deferred → s.goodFor 1000000 = true → s.crossed 100000 = true →
    exec (.deferredSwitch .epoch) s = .next (s.switchEpoch s.units)) ∧
  -- page_notDue
  (∀ (s : State) (page : PageRef), s.goodFor 1000000 = false → exec (.deferredSwitch page) s = .next s)

/-- The QUEUE letters. Next states of the accepted QUEUE letters: queues, nodes, length profiles, ports, flushes and gate
lists. (R208, R225, R226, R228, R232, R235, R236, R242, R243, R246, R248, R329) -/
def Obligations.QueueLetters : Prop :=
  -- q_configureVoq
  (∀ (s : State) (l : LetterId) (a : QueueArgs) (v : Queue),
    v = { s.queue a.queue.toNat with
      present := true, admission := a.admission.toNat, maxAge := a.maxAge.toNat, destModule := a.destModule.toNat,
      destPort := a.destPort.toNat, cls := a.cls.toNat, eqBase := a.eqBase.toNat, eqMask := BitVec.ofNat 16 a.eqMask.toNat } →
    Claimed s l 0x0B01 [p4 a.queue, p4 a.admission, p8 a.maxAge,
      p4 a.destModule, p4 a.destPort, p4 a.cls, p4 a.eqBase, p4 a.eqMask, p4 a.parentLevel, p4 a.parentNode, p4 a.priority, p4 a.weight,
      p4 a.gate, p4 a.pfcClass] → a.queue.toNat < 131072 → a.maxAge.toNat = 0 ∨ 10000 ≤ a.maxAge.toNat → a.maxAge.toNat ≤ 10000000000 →
    a.destModule.toNat ≤ 127 → a.destPort.toNat ≤ 191 → a.cls.toNat ≤ 7 → 131072 ≤ a.eqBase.toNat → a.eqBase.toNat ≤ 524287 →
    a.eqMask.toNat ≤ 65535 → a.parentLevel = 0 → a.parentNode = 0 → a.priority = 0 → a.weight = 0 → a.gate = 0 → a.pfcClass = 0 →
    a.admission.toNat ≤ 1023 → s.queueOwner a.queue.toNat = l.slice.val → s.admissionOwned l.slice.val a.admission.toNat = true →
    overGuaranteed (nput a.queue.toNat v s.queues.queues) s.admission s.shallowReserve = false →
    ∃ t, exec (.queueConfigure l a) s = .next t ∧ Accepted s (s.setQueue a.queue.toNat v) t l .done (layBody [p4 a.queue, p4 a.admission,
      p8 a.maxAge, p4 a.destModule, p4 a.destPort, p4 a.cls, p4 a.eqBase, p4 a.eqMask, p4 0, p4 0, p4 0, p4 0, p4 0, p4 0])) ∧
  -- q_configureEgress
  (∀ (s : State) (l : LetterId) (a : QueueArgs) (v : Queue),
    v = { s.queue a.queue.toNat with
      present := true, admission := a.admission.toNat, maxAge := a.maxAge.toNat, gate := a.gate.toNat, pfcClass := some a.pfcClass.toNat } →
    Claimed s l 0x0B01 [p4 a.queue, p4 a.admission, p8 a.maxAge,
      p4 a.destModule, p4 a.destPort, p4 a.cls, p4 a.eqBase, p4 a.eqMask, p4 a.parentLevel, p4 a.parentNode, p4 a.priority, p4 a.weight,
      p4 a.gate, p4 a.pfcClass] → 131072 ≤ a.queue.toNat → a.queue.toNat < 524288 →
    a.maxAge.toNat = 0 ∨ 10000 ≤ a.maxAge.toNat → a.maxAge.toNat ≤ 10000000000 →
    a.destModule = 0 → a.destPort = 0 → a.cls = 0 → a.eqBase = 0 → a.eqMask = 0 → 1 ≤ a.parentLevel.toNat → a.parentLevel.toNat ≤ 4 →
    a.priority.toNat ≤ 7 → 1 ≤ a.weight.toNat → a.weight.toNat ≤ 4096 → a.gate.toNat ≤ 7 → a.pfcClass.toNat ≤ 7 →
    a.admission.toNat ≤ 1023 → s.queueOwner a.queue.toNat = l.slice.val → s.admissionOwned l.slice.val a.admission.toNat = true →
    s.parentExists l.slice.val a.parentLevel.toNat a.parentNode.toNat = true →
    overGuaranteed (nput a.queue.toNat v s.queues.queues) s.admission s.shallowReserve = false →
    ∃ t, exec (.queueConfigure l a) s = .next t ∧ Accepted s ((s.setQueue a.queue.toNat v).setNode (queueNode a.queue.toNat)
        { (s.node (queueNode a.queue.toNat)).under (some (a.parentLevel.toNat, a.parentNode.toNat)) with
          priority := a.priority.toNat, weight := a.weight.toNat }) t l .done (layBody [p4 a.queue, p4 a.admission,
      p8 a.maxAge, p4 0, p4 0, p4 0, p4 0, p4 0, p4 a.parentLevel, p4 a.parentNode, p4 a.priority, p4 a.weight, p4 a.gate, p4 a.pfcClass])) ∧
  -- q_setNode
  (∀ (s : State) (l : LetterId) (a : NodeArgs) (n : Node),
    n = s.node (nodeKey a.level.toNat a.node.toNat) →
    Claimed s l 0x0B02 [p4 a.level, p4 a.node, p4 a.parentLevel,
      p4 a.parentNode, p4 a.priority, p4 a.weight, p8 a.cir, p8 a.cbs, p8 a.pir, p8 a.pbs, p4 a.lengthProfile] →
    1 ≤ a.level.toNat → a.level.toNat ≤ 3 → a.level.toNat < a.parentLevel.toNat → a.parentLevel.toNat ≤ 4 → a.lengthProfile.toNat ≤ 63 →
    s.nodeOwned l.slice.val a.level.toNat a.node.toNat = true →
    s.parentExists l.slice.val a.parentLevel.toNat a.parentNode.toNat = true → s.lengthOwned l.slice.val a.lengthProfile.toNat = true →
    a.priority.toNat ≤ 7 → 1 ≤ a.weight.toNat → a.weight.toNat ≤ 4096 → a.cir.toNat = 0 ∨ 1000 ≤ a.cir.toNat →
    64 ≤ a.cbs.toNat → a.cbs.toNat ≤ 16777216 → 1000 ≤ a.pir.toNat → a.pir.toNat ≤ 1600000000000 → a.cir.toNat ≤ a.pir.toNat →
    64 ≤ a.pbs.toNat → a.pbs.toNat ≤ 16777216 → ∃ t, exec (.queueSetNode l a) s = .next t ∧ Accepted s (s.putNode (nodeKey a.level.toNat a.node.toNat)
        { n.under (some (a.parentLevel.toNat, a.parentNode.toNat)) with
          priority := a.priority.toNat, weight := a.weight.toNat, present := true, cir := heldRate a.cir.toNat, cbs := a.cbs.toNat,
          pir := heldRate a.pir.toNat, pbs := a.pbs.toNat, lengthProfile := a.lengthProfile.toNat })
      t l .done (layBody [p4 a.level, p4 a.node, p4 a.parentLevel, p4 a.parentNode, p4 a.priority, p4 a.weight, n8 (heldRate a.cir.toNat),
        p8 a.cbs, n8 (heldRate a.pir.toNat), p8 a.pbs, p4 a.lengthProfile])) ∧
  -- q_putNode
  (∀ (s : State) (k : Nat) (n : Node), k / 2 ^ 20 ≠ 4 → (s.putNode k n).node k = { n with
      ctok := startTok (s.node k).cir n.cir n.cbs (s.node k).ctok, clast := startAt (s.node k).cir n.cir s.ns (s.node k).clast,
      ptok := startTok (s.node k).pir n.pir n.pbs (s.node k).ptok, plast := startAt (s.node k).pir n.pir s.ns (s.node k).plast }) ∧
  -- q_setLength
  (∀ (s : State) (l : LetterId) (profile adjust : W32), Claimed s l 0x0B04 [p4 profile, p4 1, p4 adjust] →
    1 ≤ profile.toNat → profile.toNat ≤ 63 → s.owner 0x16 profile.toNat = l.slice.val →
    -64 ≤ sext 32 adjust.toNat → sext 32 adjust.toNat ≤ 127 →
    ∃ t, exec (.queueSetLengthProfile l profile 1 adjust) s = .next t ∧ Accepted s { s with queues := { s.queues with
        lengths := nset {} profile.toNat { adjusted := true, adjust := sext 32 adjust.toNat, configured := true } s.queues.lengths } }
      t l .done (layBody [p4 profile, p4 1, p4s (sext 32 adjust.toNat)])) ∧
  -- q_setPort
  (∀ (s : State) (l : LetterId) (a : QueuePortArgs),
    (∀ x ∈ a.classPriority, x.toNat ≤ 7) →
    (∀ x ∈ a.classWeight, 1 ≤ x.toNat ∧ x.toNat ≤ 4096) →
    Claimed s l 0x0B03 ([p4 a.port, p4 a.overspeed, p8 a.grantStop, p8 a.hold,
      p8 a.gateLead] ++ a.classPriority.map p4 ++ a.classWeight.map p4) → s.portExists l.slice.val a.port.toNat = true →
    a.classPriority.length = 8 → a.classWeight.length = 8 → 100 ≤ a.overspeed.toNat → a.overspeed.toNat ≤ 120 →
    16384 ≤ a.grantStop.toNat → a.grantStop.toNat ≤ 16777216 → a.hold.toNat ≤ 1000000000 → a.gateLead.toNat ≤ 100000 →
    ∃ t, exec (.queueSetPort l a) s = .next t ∧ Accepted s (s.setPortQ a.port.toNat { s.portQ a.port.toNat with
        overspeed := a.overspeed.toNat, grantStop := a.grantStop.toNat, hold := a.hold.toNat, gateLead := a.gateLead.toNat,
        classPriority := (List.range 8).foldl (fun m i => nset 0 i (a.classPriority.getD i 0).toNat m) (s.portQ a.port.toNat).classPriority,
        classWeight := (List.range 8).foldl (fun m i => nset 1 i (a.classWeight.getD i 0).toNat m) (s.portQ a.port.toNat).classWeight })
      t l .done (layBody ([p4 a.port, p4 a.overspeed, p8 a.grantStop, p8 a.hold, p8 a.gateLead] ++ a.classPriority.map p4 ++ a.classWeight.map p4))) ∧
  -- q_delete
  (∀ (s : State) (l : LetterId) (level node : W32), Claimed s l 0x0B05 [p4 level, p4 node] → level.toNat ≤ 3 →
    s.nodeOwned l.slice.val level.toNat node.toNat = true → (s.node (nodeKey level.toNat node.toNat)).present = true →
    (s.children (nodeKey level.toNat node.toNat)).isEmpty = true → 1 ≤ level.toNat →
    ∃ t, exec (.queueDelete l level node) s = .next t ∧ Accepted s { s with queues := { s.queues with
        nodes := nerase (nodeKey level.toNat node.toNat) s.queues.nodes } } t l .done (layBody [p4 level, p4 node])) ∧
  -- q_deleteQueue
  (∀ (s : State) (l : LetterId) (node : W32), Claimed s l 0x0B05 [p4 0, p4 node] →
    s.nodeOwned l.slice.val 0 node.toNat = true → (s.node (nodeKey 0 node.toNat)).present = true →
    (s.children (nodeKey 0 node.toNat)).isEmpty = true → (s.queue (node.toNat + 131072)).packets = [] →
    (s.queue (node.toNat + 131072)).flush = none →
    ∃ t, exec (.queueDelete l 0 node) s = .next t ∧ Accepted s (State.sparseFree { s with queues := { s.queues with
        nodes := nerase (nodeKey 0 node.toNat) s.queues.nodes, queues := nerase (node.toNat + 131072) s.queues.queues } }
      queueFamilies (node.toNat + 131072)) t l .done (layBody [p4 0, p4 node])) ∧
  -- q_deleteFlushing
  (∀ (s : State) (l m : LetterId) (node : W32), Claimed s l 0x0B05 [p4 0, p4 node] →
    s.nodeOwned l.slice.val 0 node.toNat = true → (s.node (nodeKey 0 node.toNat)).present = true →
    (s.children (nodeKey 0 node.toNat)).isEmpty = true → (s.queue (node.toNat + 131072)).packets = [] →
    (s.queue (node.toNat + 131072)).flush = some m →
    ∃ t, exec (.queueDelete l 0 node) s = .next t ∧ Accepted s ((State.sparseFree { s with queues := { s.queues with
        nodes := nerase (nodeKey 0 node.toNat) s.queues.nodes, queues := nerase (node.toNat + 131072) s.queues.queues } }
      queueFamilies (node.toNat + 131072)).release m) t l .done (layBody [p4 0, p4 node])) ∧
  -- q_flush
  (∀ (s : State) (l : LetterId) (queue : W32), Claimed s l 0x0B06 [p4 queue] → queue.toNat < 524288 →
    (s.queue queue.toNat).present = true → s.queueOwner queue.toNat = l.slice.val → (s.queue queue.toNat).flush = none →
    ∃ t, exec (.queueFlush l queue) s = .next t ∧
      Accepted s (s.setQueue queue.toNat { s.queue queue.toNat with flush := some l }) t l .done (layBody [p4 queue]) true) ∧
  -- q_writeGates
  (∀ (s : State) (l : LetterId) (port : W32) (entries : ListArg W64) (es : List W64), Claimed s l 0x0B07 [p4 port, pL entries] →
    1 ≤ entries.count.toNat → entries.count.toNat ≤ 256 → s.portExists l.slice.val port.toNat = true →
    (s.portQ port.toNat).gatesPage.state.fixed = false → entries.items = some es → es.any badGate = false →
    gateCycle (es.map gateOf) ≤ 1000000000 →
    ∃ t, exec (.queueWriteGates l port entries) s = .next t ∧ Accepted s (s.setPortQ port.toNat { s.portQ port.toNat with
        gatesIn := es.map gateOf, gatesPage := { state := .loaded } }) t l .done (layBody [p4 port, pL entries])) ∧
  -- q_scheduleGates
  (∀ (s : State) (l : LetterId) (port : W32) (at' : TimeParam), Claimed s l 0x0B08 [p4 port, pT at'] →
    s.portExists l.slice.val port.toNat = true → (s.portQ port.toNat).gatesPage.state = .loaded → badTime at' = false →
    farTime s at' = false → pastTime s at' = false → at'.toNat ≠ 0 →
    ∃ t, exec (.queueScheduleGates l port at') s = .next t ∧ Accepted s (s.setPortQ port.toNat { s.portQ port.toNat with
        gatesPage := { state := .armed, t := schedT at' }, gatesT := schedT at' }) t l .scheduled (layBody [p4 port, pT at'])) ∧
  -- q_scheduleGatesNow
  (∀ (s : State) (l : LetterId) (port : W32), Claimed s l 0x0B08 [p4 port, pT 0] →
    s.portExists l.slice.val port.toNat = true → (s.portQ port.toNat).gatesPage.state = .loaded →
    ∃ t, exec (.queueScheduleGates l port 0) s = .next t ∧ Accepted s (s.setPortQ port.toNat { s.portQ port.toNat with
        gatesPage := { state := .armed, t := 0 }, gatesT := (s.ns / 1000 + 1) * 1000 * 65536 }) t l .scheduled
      (layBody [p4 port, pT 0])) ∧
  -- q_cancelGates
  (∀ (s : State) (l : LetterId) (port : W32), Claimed s l 0x0B09 [p4 port] →
    s.portExists l.slice.val port.toNat = true → (s.portQ port.toNat).gatesPage.state.fixed = true →
    ∃ t, exec (.queueCancelGates l port) s = .next t ∧ Accepted s ((s.setPortQ port.toNat { s.portQ port.toNat with
        gatesPage := { state := .loaded }, gatesT := 0 }).clearFault 0x0203 (pageObject 3 port.toNat)) t l .done (layBody [p4 port]))

/-- Fabric links: alignment, identity, reachability and the FABRIC letters. Next states of a fabric link's events and of
the accepted FABRIC letters. (R258, R259, R260, R261, R262, R265, R271, R286, R289, R290, R457, R466) -/
def Obligations.FabricLinksAndLetters : Prop :=
  -- fab_aligned
  (∀ (s : State) (link : Fin 256), s.hasLink link = true → (s.link link).st = .aligning →
    s.domain (fabricDomain link) = true → s.serdesOk = true →
    exec (.linkAligned link) s = .next (s.setLink link { s.link link with st := .ident, since := s.up, agree := 0, identAt := s.up })) ∧
  -- fab_down
  (∀ (s : State) (link : Fin 256) (cause : LinkCause), s.hasLink link = true → (s.link link).st = .up →
    exec (.linkDown link cause) s = .next (s.linkDown link (linkCauseCode cause))) ∧
  -- fab_downOther
  (∀ (s : State) (link : Fin 256) (cause : LinkCause), s.hasLink link = true → (s.link link).st ≠ .up →
    exec (.linkDown link cause) s = .next s) ∧
  -- fab_reachTimeout
  (∀ (s : State) (link : Fin 256), s.hasLink link = true → (s.link link).st = .up →
    (s.link link).reachAt + 50000 ≤ s.up → exec (.reachTimeout link) s = .next (s.linkDown link 3)) ∧
  -- fab_holdMax
  (∀ (s : State) (link : Fin 256), s.hasLink link = true → (s.link link).st = .up → (s.link link).hold = true →
    (s.link link).holdAt + s.fabric.holdMax < s.up →
    exec (.holdMaxExpiry link) s = .next ((s.bump .fabHoldStuck link).linkDown link 5)) ∧
  -- fab_retry
  (∀ (s : State) (link : Fin 256), s.hasLink link = true → (s.link link).st = .down →
    (s.link link).since + 10000000 ≤ s.up →
    exec (.linkRetry link) s = .next (s.setLink link { s.link link with st := .aligning, since := s.up })) ∧
  -- fab_reachUp
  (∀ (s u : State) (link : Fin 256) (cell : List Byte) (r : ReachCell), s.hasLink link = true → (s.link link).st = .ident → 
    GoodCell cell → isControl 4 cell = true → r = readReach cell → u = s.heardCell link cell → (u.link link).st = .ident → r.plane.toNat = link.val / 16 → (u.link link).agrees r = true →
    2 ≤ (u.link link).agree →
    exec (.reachReceive link cell true) s = .next (((((u.setLink link { u.link link with
      agree := 0, element := r.element, eport := r.port, map := r.map, reachAt := u.up, st := .up, since := u.up,
      miswired := false }).clearFault 0x0801 link).clearFault 0x0804 link).linksChanged link).placeCells)) ∧
  -- fab_reachFirst
  (∀ (s u : State) (link : Fin 256) (cell : List Byte) (r : ReachCell), s.hasLink link = true → (s.link link).st = .ident → 
    GoodCell cell → isControl 4 cell = true → r = readReach cell → u = s.heardCell link cell → (u.link link).st = .ident → r.plane.toNat = link.val / 16 →
    (u.link link).agrees r = false ∨ (u.link link).agree = 0 →
    exec (.reachReceive link cell true) s = .next (u.setLink link { u.link link with
      agree := 1, element := r.element, eport := r.port, map := r.map, reachAt := u.up })) ∧
  -- fab_reachSecond
  (∀ (s u : State) (link : Fin 256) (cell : List Byte) (r : ReachCell), s.hasLink link = true → (s.link link).st = .ident → 
    GoodCell cell → isControl 4 cell = true → r = readReach cell → u = s.heardCell link cell → (u.link link).st = .ident → r.plane.toNat = link.val / 16 → (u.link link).agrees r = true →
    (u.link link).agree = 1 →
    exec (.reachReceive link cell true) s = .next (u.setLink link { u.link link with
      agree := 2, element := r.element, eport := r.port, map := r.map, reachAt := u.up })) ∧
  -- fab_miswired
  (∀ (s u : State) (link : Fin 256) (cell : List Byte) (r : ReachCell), s.hasLink link = true → (s.link link).st = .ident → 
    GoodCell cell → isControl 4 cell = true → r = readReach cell → u = s.heardCell link cell → (u.link link).st = .ident → r.plane.toNat ≠ link.val / 16 → (u.link link).miswired = false →
    exec (.reachReceive link cell true) s = .next (((u.setLink link { u.link link with agree := 0, miswired := true }).bump .fabMiswired
      link).condition 0x0804 link true r.plane.toNat)) ∧
  -- fab_miswiredAgain
  (∀ (s u : State) (link : Fin 256) (cell : List Byte) (r : ReachCell), s.hasLink link = true → (s.link link).st = .ident → 
    GoodCell cell → isControl 4 cell = true → r = readReach cell → u = s.heardCell link cell → (u.link link).st = .ident → r.plane.toNat ≠ link.val / 16 → (u.link link).miswired = true →
    exec (.reachReceive link cell true) s = .next ((u.setLink link { u.link link with agree := 0, miswired := true }).bump .fabMiswired link)) ∧
  -- fab_reachRenew
  (∀ (s u : State) (link : Fin 256) (cell : List Byte) (r : ReachCell), s.hasLink link = true → (s.link link).st = .up → 
    GoodCell cell → isControl 4 cell = true → r = readReach cell → u = s.heardCell link cell → (u.link link).st = .up → r.plane.toNat = link.val / 16 → (u.link link).agrees r = true →
    exec (.reachReceive link cell true) s = .next (((u.setLink link { u.link link with map := r.map, reachAt := u.up }).updateMap).placeCells)) ∧
  -- fab_reachChanged
  (∀ (s u : State) (link : Fin 256) (cell : List Byte) (r : ReachCell), s.hasLink link = true → (s.link link).st = .up → 
    GoodCell cell → isControl 4 cell = true → r = readReach cell → u = s.heardCell link cell → (u.link link).st = .up → r.plane.toNat ≠ link.val / 16 ∨ (u.link link).agrees r = false →
    exec (.reachReceive link cell true) s = .next (u.linkDown link 4)) ∧
  -- fab_ident
  (∀ (s : State) (link : Fin 256), s.hasLink link = true → (s.link link).disable = none →
    (s.link link).st = .ident ∧ (s.link link).identAt + 1000 ≤ s.up ∨ (s.link link).st = .up ∧ (s.link link).identAt + 10000 ≤ s.up →
    exec (.identSend link) s = .next ((s.setLink link { s.link link with identAt := s.up }).queueControl link
      (.ident s.myId (link.val / 16) (link.val % 16)))) ∧
  -- fab_disabled
  (∀ (s t u v : State) (link : Fin 256) (l : LetterId), s.hasLink link = true → (s.link link).disable = some l →
    (s.link link).waiting = [] → (s.link link).control = [] → t = s.sendSlot link (idleCell s.fabric.holdOut) →
    u = (if (s.link link).hold then t.bump .fabHoldNs link 0 1 (t.up - (s.link link).holdAt) else t).setLink link
      { identAt := (s.link link).identAt } →
    v = (if ((List.range 8).map (· + 8 * (link.val / 8))).all fun j => (u.link j).st = .off then u.askDomain (fabricDomain link) false else u) →
    exec (.linkDisableComplete link) s = .next ((((v.clearFault 0x0801 link).clearFault 0x0804 link).linksChanged link).release l)) ∧
  -- fab_enable
  (∀ (s : State) (l : LetterId) (link : W32), Claimed s l 0x0D01 [p4 link] → link.toNat ≤ 255 → s.hasLink link.toNat = true →
    l.slice.val = 0 → (s.link link.toNat).disable = none → (s.link link.toNat).st = .off →
    ∃ t, exec (.fabricEnableLink l link) s = .next t ∧ Accepted s ((s.setLink link.toNat { s.link link.toNat with
      enabled := true, st := .aligning, since := s.up }).askDomain (fabricDomain link.toNat) true) t l .done (layBody [p4 link])) ∧
  -- fab_disable
  (∀ (s : State) (l : LetterId) (link : W32), Claimed s l 0x0D02 [p4 link] → link.toNat ≤ 255 → s.hasLink link.toNat = true →
    l.slice.val = 0 → (s.link link.toNat).disable = none → (s.link link.toNat).st ≠ .off →
    ((List.range s.variant.links).any fun j => decide (j ≠ link.toNat) && (s.link j).enabled && (s.link j).disable.isNone) = true →
    ∃ t, exec (.fabricDisableLink l link) s = .next t ∧ Accepted s (s.setLink link.toNat { s.link link.toNat with
      disable := some l, enabled := false }) t l .done (layBody [p4 link]) true) ∧
  -- fab_setTxEq
  (∀ (s : State) (l : LetterId) (lane : W32) (taps : TxTaps),
    Claimed s l 0x0D03 [p4 lane, p4 taps.pre2, p4 taps.pre1, p4 taps.main, p4 taps.post1] → lane.toNat ≤ 255 → s.hasLink lane.toNat = true →
    l.slice.val = 0 → (tapsOf taps (nget {} s.fabric.taps lane.toNat)).2.2 = [(1, false), (2, false), (3, false), (4, false)] →
    ∃ t, exec (.fabricSetTxEq l lane taps) s = .next t ∧ Accepted s { s with fabric := { s.fabric with
      taps := nset {} lane.toNat (tapsOf taps (nget {} s.fabric.taps lane.toNat)).1 s.fabric.taps } }
      t l .done (layBody (p4 lane :: (tapsOf taps (nget {} s.fabric.taps lane.toNat)).2.1))) ∧
  -- fab_setTimers
  (∀ (s : State) (l : LetterId) (a b c d e : W64), Claimed s l 0x0D04 [p8 a, p8 b, p8 c, p8 d, p8 e] →
    10000 ≤ a.toNat → a.toNat ≤ 1000000 → 500 ≤ b.toNat → b.toNat ≤ 50000 → 10000 ≤ c.toNat → c.toNat ≤ 10000000 →
    10000 ≤ d.toNat → d.toNat ≤ 100000000 → e.toNat ≤ 1000 →
    ∃ t, exec (.fabricSetTimers l a b c d e) s = .next t ∧ Accepted s { s with fabric := { s.fabric with
      reasmTimeout := a.toNat, skewLimit := b.toNat, creditWd := c.toNat, holdMax := d.toNat, packWait := e.toNat } } t l .done
      (layBody [p8 a, p8 b, p8 c, p8 d, p8 e])) ∧
  -- fab_setCredit
  (∀ (s : State) (l : LetterId) (a b : W64), Claimed s l 0x0D05 [p8 a, p8 b] → 1024 ≤ a.toNat → a.toNat ≤ 65536 →
    a.toNat % 1024 = 0 → b.toNat ≤ 46100000000000 →
    ∃ t, exec (.fabricSetCredit l a b) s = .next t ∧ Accepted s { s with fabric := { s.fabric with
      grantSize := a.toNat, mcRate := b.toNat, mcTok := s.mcNow, mcAt := s.up } } t l .done (layBody [p8 a, p8 b])) ∧
  -- fab_setMcast
  (∀ (s : State) (l : LetterId) (voq : W32), Claimed s l 0x0D06 [p4 voq, p4 1] → isEgress voq.toNat = false →
    (s.queue voq.toNat).present = true → s.queueOwner voq.toNat = l.slice.val → (s.queue voq.toNat).mcast = false →
    (s.queue voq.toNat).on = false →
    ∃ t, exec (.fabricSetMcastVoq l voq 1) s = .next t ∧ Accepted s (s.setQueue voq.toNat { s.queue voq.toNat with mcast := true }) t l .done
      (layBody [p4 voq, p4 1])) ∧
  -- fab_setMgroup
  (∀ (s : State) (l : LetterId) (mgid : W32) (queues : ListArg W32) (qs : List W32), Claimed s l 0x0D07 [p4 mgid, pL queues] →
    mgid.toNat ≤ 65535 → queues.count.toNat ≤ 64 → s.owner 0x18 mgid.toNat = l.slice.val → queues.items = some qs →
    (∀ q ∈ qs, isEgress q.toNat = true ∧ (s.queue q.toNat).present = true ∧ s.queueOwner q.toNat = l.slice.val) →
    ∃ t, exec (.fabricSetMgroup l mgid queues) s = .next t ∧ Accepted s { s with fabric := { s.fabric with
      mgroups := nset [] mgid.toNat (qs.map (·.toNat)) s.fabric.mgroups } } t l .done (layBody [p4 mgid, pL queues]))

/-- Fabric cells: packing, sending, receiving and reassembly. Next states when a cell slot is filled, a pack wait ends, a
cell arrives by kind, and a reassembly fails. (R256, R257, R259, R263, R268, R270, R273, R275, R281, R284, R288, R290) -/
def Obligations.FabricCells : Prop :=
  -- cell_slot
  (∀ (s : State) (i : Nat) (cell : List Byte), (s.link i).slots < 4096 →
    s.sendSlot i cell = (s.setLink i { s.link i with
      slots := (s.link i).slots + 1, scrambler := (dataBlocks (s.link i).scrambler 10 cell).1 }).emit
      (.cell i cell (dataBlocks (s.link i).scrambler 10 cell).2)) ∧
  -- cell_marker
  (∀ (s : State) (i : Nat) (cell : List Byte), 4096 ≤ (s.link i).slots →
    s.sendSlot i cell = ((s.emit (.marker i (markerBlocks i))).setLink i { s.link i with
      slots := 1, scrambler := (dataBlocks (s.link i).scrambler 10 cell).1 }).emit
      (.cell i cell (dataBlocks (s.link i).scrambler 10 cell).2)) ∧
  -- cell_control
  (∀ (s : State) (link : Fin 256) (c : ControlCell) (cs : List ControlCell), s.hasLink link = true →
    (s.link link).st = .up ∨ (s.link link).st = .ident → (s.link link).control = c :: cs →
    exec (.cellSlotTransmit link) s = .next (((s.setLink link { s.link link with control := cs }).bump .fabCellsTx link).sendSlot
      link (c.bytes s.myId s.fabric.holdOut))) ∧
  -- cell_data
  (∀ (s : State) (link : Fin 256) (c : TxCell) (cs : List TxCell), s.hasLink link = true →
    (s.link link).st = .up → (s.link link).control = [] → (s.link link).waiting = c :: cs → (s.link link).hold = false →
    exec (.cellSlotTransmit link) s = .next ((((s.setLink link { s.link link with waiting := cs }).bump .fabCellsTx link).sendSlot
      link (c.bytes s.myId s.fabric.holdOut)).placeCells)) ∧
  -- cell_held
  (∀ (s : State) (link : Fin 256), s.hasLink link = true → (s.link link).st ≠ .off → (s.link link).control = [] →
    (s.link link).hold = true → exec (.cellSlotTransmit link) s = .next (s.sendSlot link (idleCell s.fabric.holdOut))) ∧
  -- cell_idle
  (∀ (s : State) (link : Fin 256), s.hasLink link = true → (s.link link).st ≠ .off → (s.link link).control = [] →
    (s.link link).waiting = [] → exec (.cellSlotTransmit link) s = .next (s.sendSlot link (idleCell s.fabric.holdOut))) ∧
  -- cell_off
  (∀ (s : State) (link : Fin 256), s.hasLink link = true → (s.link link).st = .off →
    exec (.cellSlotTransmit link) s = .next s) ∧
  -- cell_packWait
  (∀ (s : State) (stream : Fin 129), (s.txStream stream).payload ≠ [] →
    (s.txStream stream).openAt + s.fabric.packWait ≤ s.up → exec (.packWaitExpiry stream) s = .next (s.closeCell stream)) ∧
  -- cell_grantClose
  (∀ (s : State) (dst : Fin 128) (msgs : List (BitVec 128)) (t : Nat), nfind s.fabric.credit dst.val = some (msgs, t) →
    t + 50 ≤ s.up → exec (.grantCellClose dst) s =
      .next (State.sendControl { s with fabric := { s.fabric with credit := nerase dst.val s.fabric.credit } } (.credit dst msgs))) ∧
  -- cell_rxFec
  (∀ (s : State) (link : Fin 256) (cell : List Byte) (rivals : List Rival), s.hasLink link = true → (s.link link).st = .up ∨ (s.link link).st = .ident →
    exec (.cellReceive link cell false rivals) s = .next ((s.bump .fabFecUncorr link).lossEvent) ∧
    exec (.reachReceive link cell false) s = .next ((s.bump .fabFecUncorr link).lossEvent) ∧
    exec (.postcardReceive link cell false) s = .next ((s.bump .fabFecUncorr link).lossEvent) ∧
    exec (.requestReceive link cell false 0) s = .next ((s.bump .fabFecUncorr link).lossEvent) ∧
    exec (.grantReceive link cell false 0) s = .next ((s.bump .fabFecUncorr link).lossEvent) ∧
    exec (.lossNoticeReceive link cell false 0) s = .next ((s.bump .fabFecUncorr link).lossEvent)) ∧
  -- cell_rxCrc
  (∀ (s : State) (link : Fin 256) (cell : List Byte) (rivals : List Rival), s.hasLink link = true → (s.link link).st = .up ∨ (s.link link).st = .ident →
    crcGood cell = false →
    exec (.cellReceive link cell true rivals) s = .next (((s.takeHold link (cellHold cell)).bump .fabCrc link).lossEvent) ∧
    exec (.reachReceive link cell true) s = .next (((s.takeHold link (cellHold cell)).bump .fabCrc link).lossEvent) ∧
    exec (.postcardReceive link cell true) s = .next (((s.takeHold link (cellHold cell)).bump .fabCrc link).lossEvent) ∧
    exec (.requestReceive link cell true 0) s = .next (((s.takeHold link (cellHold cell)).bump .fabCrc link).lossEvent) ∧
    exec (.grantReceive link cell true 0) s = .next (((s.takeHold link (cellHold cell)).bump .fabCrc link).lossEvent) ∧
    exec (.lossNoticeReceive link cell true 0) s = .next (((s.takeHold link (cellHold cell)).bump .fabCrc link).lossEvent)) ∧
  -- cell_rxBad
  (∀ (s : State) (link : Fin 256) (cell : List Byte) (rivals : List Rival), s.hasLink link = true → (s.link link).st = .up ∨ (s.link link).st = .ident →
    crcGood cell = true → badHead cell = true →
    exec (.cellReceive link cell true rivals) s = .next (((s.takeHold link (cellHold cell)).bump .fabMalformed link).lossEvent) ∧
    exec (.reachReceive link cell true) s = .next (((s.takeHold link (cellHold cell)).bump .fabMalformed link).lossEvent) ∧
    exec (.postcardReceive link cell true) s = .next (((s.takeHold link (cellHold cell)).bump .fabMalformed link).lossEvent) ∧
    exec (.requestReceive link cell true 0) s = .next (((s.takeHold link (cellHold cell)).bump .fabMalformed link).lossEvent) ∧
    exec (.grantReceive link cell true 0) s = .next (((s.takeHold link (cellHold cell)).bump .fabMalformed link).lossEvent) ∧
    exec (.lossNoticeReceive link cell true 0) s = .next (((s.takeHold link (cellHold cell)).bump .fabMalformed link).lossEvent)) ∧
  -- cell_rxIdle
  (∀ (s : State) (link : Fin 256) (cell : List Byte) (rivals : List Rival), s.hasLink link = true → (s.link link).st = .up ∨ (s.link link).st = .ident →
    crcGood cell = true → badHead cell = false → cellType cell = 0 →
    exec (.cellReceive link cell true rivals) s = .next (s.takeHold link (cellHold cell))) ∧
  -- cell_rxMore
  (∀ (s : State) (link : Fin 256) (cell : List Byte) (fecOk : Bool) (index : Fin 18), s.hasLink link = true → (s.link link).st = .up ∨ (s.link link).st = .ident →
    index ≠ 0 → fecOk = false ∨ crcGood cell = false ∨ badHead cell = true →
    exec (.requestReceive link cell fecOk index) s = .next s ∧ exec (.grantReceive link cell fecOk index) s = .next s ∧
    exec (.lossNoticeReceive link cell fecOk index) s = .next s) ∧
  -- cell_rxMisrouted
  (∀ (s u : State) (link : Fin 256) (cell : List Byte) (c : Cell) (rivals : List Rival), s.hasLink link = true → (s.link link).st = .up → 
    GoodCell cell → cellType cell ≤ 2 → u = s.heardCell link cell → (u.link link).st = .up → c = readCell cell → c.badOffset = false → c.badFill = false → c.multicast = false → c.dst.toNat ≠ u.myId →
    exec (.cellReceive link cell true rivals) s = .next (u.bump .fabMisrouted c.src)) ∧
  -- cell_rxClear
  (∀ (s u : State) (link : Fin 256) (cell : List Byte) (c : Cell) (rivals : List Rival), s.hasLink link = true → (s.link link).st = .up → 
    GoodCell cell → cellType cell ≤ 2 → u = s.heardCell link cell → (u.link link).st = .up → c = readCell cell → c.badOffset = false → c.badFill = false → c.multicast = true ∨ c.dst.toNat = u.myId →
    u.effective c.src = false →
    exec (.cellReceive link cell true rivals) s = .next (u.bump .fabSrcIneffective c.src)) ∧
  -- cell_rxTaken
  (∀ (s u : State) (link : Fin 256) (cell : List Byte) (c : Cell) (rivals : List Rival), s.hasLink link = true → (s.link link).st = .up → 
    GoodCell cell → cellType cell ≤ 2 → u = s.heardCell link cell → (u.link link).st = .up → c = readCell cell → c.badOffset = false → c.badFill = false → c.multicast = true ∨ c.dst.toNat = u.myId →
    u.effective c.src = true →
    exec (.cellReceive link cell true rivals) s = .next (u.contest rivals fun s => s.resequence (2 * c.src.val + b2n c.multicast) c)) ∧
  -- cell_rxOffset
  (∀ (s u : State) (link : Fin 256) (cell : List Byte) (c : Cell) (rivals : List Rival), s.hasLink link = true → (s.link link).st = .up → 
    GoodCell cell → cellType cell ≤ 2 → u = s.heardCell link cell → (u.link link).st = .up → c = readCell cell → c.badOffset = true → c.badFill = false →
    exec (.cellReceive link cell true rivals) s = .next ((u.bump .fabMalformed link).lossEvent)) ∧
  -- cell_rxFill
  (∀ (s u : State) (link : Fin 256) (cell : List Byte) (c : Cell) (rivals : List Rival), s.hasLink link = true → (s.link link).st = .up → 
    GoodCell cell → cellType cell ≤ 2 → u = s.heardCell link cell → (u.link link).st = .up → c = readCell cell → 288 < c.fill.toNat → c.multicast = true ∨ c.dst.toNat = u.myId →
    ((u.bump .fabMalformed link).lossEvent).effective c.src = true →
    (((u.bump .fabMalformed link).lossEvent).rxStream (2 * c.src.val + b2n c.multicast)).open_.isSome = true →
    exec (.cellReceive link cell true rivals) s = .next (((u.bump .fabMalformed link).lossEvent).badPacket (2 * c.src.val + b2n c.multicast))) ∧
  -- cell_rxFillOther
  (∀ (s u : State) (link : Fin 256) (cell : List Byte) (c : Cell) (rivals : List Rival), s.hasLink link = true → (s.link link).st = .up → 
    GoodCell cell → cellType cell ≤ 2 → u = s.heardCell link cell → (u.link link).st = .up → c = readCell cell → c.badFill = true → c.fill.toNat ≤ 288 ∨ (((u.bump .fabMalformed link).lossEvent).rxStream
    (2 * c.src.val + b2n c.multicast)).open_ = none →
    exec (.cellReceive link cell true rivals) s = .next ((u.bump .fabMalformed link).lossEvent)) ∧
  -- cell_reseqNext
  (∀ (s : State) (k : Nat) (c : Cell), c.restart = false ∨ (s.rxStream k).restarted = true →
    offset (s.rxStream k).e c.seq.toNat = 0 →
    s.resequence k c = ((((s.advance k ((s.rxStream k).e + 1)).takeCell k c).takeHeld k (s.rxStream k).held.length).updateHold)) ∧
  -- cell_reseqWindow
  (∀ (s : State) (k : Nat) (c : Cell), c.restart = false ∨ (s.rxStream k).restarted = true →
    32768 ≤ offset (s.rxStream k).e c.seq.toNat → s.resequence k c = s.bump .fabWindow (k / 2)) ∧
  -- cell_reseqHold
  (∀ (s : State) (k : Nat) (c : Cell), c.restart = false ∨ (s.rxStream k).restarted = true →
    1 ≤ offset (s.rxStream k).e c.seq.toNat → offset (s.rxStream k).e c.seq.toNat ≤ 32767 →
    ((s.rxStream k).held.any fun x => x.2.seq = c.seq) = false → (s.heldCells + 1) * 320 ≤ 48 * 1048576 →
    s.resequence k c = (s.setRx k { s.rxStream k with held := insertHeld (s.rxStream k).e (s.up, c) (s.rxStream k).held }).updateHold) ∧
  -- cell_reseqDup
  (∀ (s : State) (k : Nat) (c : Cell), c.restart = false ∨ (s.rxStream k).restarted = true →
    1 ≤ offset (s.rxStream k).e c.seq.toNat → offset (s.rxStream k).e c.seq.toNat ≤ 32767 →
    ((s.rxStream k).held.any fun x => x.2.seq = c.seq) = true → s.resequence k c = s.bump .fabDup (k / 2)) ∧
  -- cell_reseqFull
  (∀ (s : State) (k : Nat) (c : Cell), c.restart = false ∨ (s.rxStream k).restarted = true →
    1 ≤ offset (s.rxStream k).e c.seq.toNat → offset (s.rxStream k).e c.seq.toNat ≤ 32767 →
    ((s.rxStream k).held.any fun x => x.2.seq = c.seq) = false → 48 * 1048576 < (s.heldCells + 1) * 320 →
    s.resequence k c = (s.bump .fabStoreFull).lossEvent) ∧
  -- cell_hole
  (∀ (s : State) (src : Fin 128) (mc : Bool) (t0 : Nat) (c : Cell) (rest : List (Nat × Cell)) (k : Nat),
    k = 2 * src.val + b2n mc → (s.rxStream k).held = (t0, c) :: rest →
    ((s.rxStream k).losses ++ s.fabric.losses).any (fun t => decide (rest.foldl (fun t x => min t x.1) t0 ≤ t + s.fabric.skewLimit) &&
      decide (t ≤ rest.foldl (fun t x => min t x.1) t0 + s.fabric.skewLimit)) = false → rest.foldl (fun t x => min t x.1) t0 + s.fabric.reasmTimeout ≤ s.up →
    exec (.holeLostExpiry src mc) s =
      .next (((((s.bump .fabHoleTimeout src).dropOpen k).advance k c.seq.toNat).takeHeld k (rest.length + 1)).updateHold)) ∧
  -- cell_holeSkew
  (∀ (s : State) (src : Fin 128) (mc : Bool) (t0 : Nat) (c : Cell) (rest : List (Nat × Cell)) (k : Nat),
    k = 2 * src.val + b2n mc → (s.rxStream k).held = (t0, c) :: rest →
    ((s.rxStream k).losses ++ s.fabric.losses).any (fun t => decide (rest.foldl (fun t x => min t x.1) t0 ≤ t + s.fabric.skewLimit) &&
      decide (t ≤ rest.foldl (fun t x => min t x.1) t0 + s.fabric.skewLimit)) = true → rest.foldl (fun t x => min t x.1) t0 + s.fabric.skewLimit ≤ s.up →
    exec (.holeLostExpiry src mc) s =
      .next (((((s.bump .fabHoleSkew src).dropOpen k).advance k c.seq.toNat).takeHeld k (rest.length + 1)).updateHold)) ∧
  -- cell_reasmTimeout
  (∀ (s : State) (src : Fin 128) (mc : Bool) (p : Partial),
    (s.rxStream (2 * src.val + b2n mc)).open_ = some p → p.since + s.fabric.reasmTimeout ≤ s.up → p.linked = false →
    exec (.reassemblyTimeout src mc) s = .next ((s.bump .fabReasmTimeout src).dropOpen (2 * src.val + b2n mc)))

/-- Requests, grants, loss notices and the credit watchdog. Next states when requests, grants and loss notices arrive, and
at the credit watchdog. (R275, R283, R284, R285, R288, R290) -/
def Obligations.CreditConversation : Prop :=
  -- cred_request
  (∀ (s u : State) (link : Fin 256) (cell : List Byte) (index : Fin 18) (w : Nat) (m : RequestMsg),
    CreditFrom s u link cell index 1 w → m = readRequest w → m.rsvOk = true → m.port.toNat < u.variant.lanes → m.on = true →
    afind u.queues.arb ((cellSrc cell).val, m.voq.toNat) = none → u.queues.arb.length < 131072 →
    exec (.requestReceive link cell true index) s = .next ({ u with queues := { u.queues with
      arb := aput ((cellSrc cell).val, m.voq.toNat) ⟨m.port.toNat, m.cls.toNat, m.reqSeq⟩ u.queues.arb } })) ∧
  -- cred_requestNone
  (∀ (s u : State) (link : Fin 256) (cell : List Byte) (index : Fin 18) (w : Nat) (m : RequestMsg),
    CreditFrom s u link cell index 1 w → m = readRequest w → m.rsvOk = true → m.port.toNat < u.variant.lanes → m.on = false →
    afind u.queues.arb ((cellSrc cell).val, m.voq.toNat) = none →
    exec (.requestReceive link cell true index) s = .next (u)) ∧
  -- cred_requestNewer
  (∀ (s u : State) (link : Fin 256) (cell : List Byte) (index : Fin 18) (w : Nat) (m : RequestMsg) (e : ArbEntry),
    CreditFrom s u link cell index 1 w → m = readRequest w → m.rsvOk = true → m.port.toNat < u.variant.lanes →
    afind u.queues.arb ((cellSrc cell).val, m.voq.toNat) = some e → epochNewer m.reqSeq e.reqSeq = true →
    exec (.requestReceive link cell true index) s = .next ({ u with queues := { u.queues with
      arb := if m.on then aput ((cellSrc cell).val, m.voq.toNat) ⟨m.port.toNat, m.cls.toNat, m.reqSeq⟩ u.queues.arb
        else aerase ((cellSrc cell).val, m.voq.toNat) u.queues.arb } })) ∧
  -- cred_requestStale
  (∀ (s u : State) (link : Fin 256) (cell : List Byte) (index : Fin 18) (w : Nat) (m : RequestMsg) (e : ArbEntry),
    CreditFrom s u link cell index 1 w → m = readRequest w → m.rsvOk = true → m.port.toNat < u.variant.lanes →
    afind u.queues.arb ((cellSrc cell).val, m.voq.toNat) = some e → epochNewer m.reqSeq e.reqSeq = false →
    exec (.requestReceive link cell true index) s = .next (u.bump .arbReqStale m.port.toNat)) ∧
  -- cred_requestFull
  (∀ (s u : State) (link : Fin 256) (cell : List Byte) (index : Fin 18) (w : Nat) (m : RequestMsg),
    CreditFrom s u link cell index 1 w → m = readRequest w → m.rsvOk = true → m.port.toNat < u.variant.lanes → m.on = true →
    afind u.queues.arb ((cellSrc cell).val, m.voq.toNat) = none → 131072 ≤ u.queues.arb.length →
    exec (.requestReceive link cell true index) s = .next (u.bump .arbTableFull m.port.toNat)) ∧
  -- cred_requestBad
  (∀ (s u : State) (link : Fin 256) (cell : List Byte) (index : Fin 18) (w : Nat) (m : RequestMsg),
    CreditFrom s u link cell index 1 w → m = readRequest w → m.rsvOk = false ∨ u.variant.lanes ≤ m.port.toNat →
    exec (.requestReceive link cell true index) s = .next (u.bump .arbReqInvalid m.port.toNat)) ∧
  -- cred_clear
  (∀ (s u : State) (link : Fin 256) (cell : List Byte) (w : Nat), s.hasLink link = true → (s.link link).st = .up → GoodCell cell →
    u = s.heardCell link cell → (u.link link).st = .up → cellDst cell = u.myId → u.effective (cellSrc cell) = false →
    (creditOf 1 cell 0 = some w → exec (.requestReceive link cell true 0) s = .next (u.bump .fabCtrlIneffective (cellSrc cell))) ∧
    (creditOf 2 cell 0 = some w → exec (.grantReceive link cell true 0) s = .next (u.bump .fabCtrlIneffective (cellSrc cell))) ∧
    (creditOf 3 cell 0 = some w → exec (.lossNoticeReceive link cell true 0) s = .next (u.bump .fabCtrlIneffective (cellSrc cell)))) ∧
  -- cred_misrouted
  (∀ (s u : State) (link : Fin 256) (cell : List Byte) (w : Nat), s.hasLink link = true → (s.link link).st = .up → GoodCell cell →
    u = s.heardCell link cell → (u.link link).st = .up → cellDst cell ≠ u.myId →
    (creditOf 1 cell 0 = some w → exec (.requestReceive link cell true 0) s = .next (u.bump .fabMisrouted (cellSrc cell))) ∧
    (creditOf 2 cell 0 = some w → exec (.grantReceive link cell true 0) s = .next (u.bump .fabMisrouted (cellSrc cell))) ∧
    (creditOf 3 cell 0 = some w → exec (.lossNoticeReceive link cell true 0) s = .next (u.bump .fabMisrouted (cellSrc cell)))) ∧
  -- cred_grant
  (∀ (s u : State) (link : Fin 256) (cell : List Byte) (index : Fin 18) (w : Nat) (m : GrantMsg) (q : Nat),
    CreditFrom s u link cell index 2 w → m = readGrant w → q = m.voq.toNat → (u.queue q).present = true → (u.queue q).mcast = false →
    (u.queue q).destModule = (cellSrc cell).val → (u.queue q).destPort = m.port.toNat → (u.queue q).cls = m.cls.toNat → (u.queue q).packets ≠ [] →
    (u.queue q).balance + Int.ofNat m.bytes.toNat ≤ Int.ofNat (2 * u.fabric.grantSize) →
    exec (.grantReceive link cell true index) s = .next (let v := u.setQueue q { u.queue q with balance := (u.queue q).balance + Int.ofNat m.bytes.toNat, grantAt := u.up }
      if 0 < (u.queue q).balance + Int.ofNat m.bytes.toNat ∧ q ∉ v.queues.credited then
        { v with queues := { v.queues with credited := v.queues.credited ++ [q] } } else v)) ∧
  -- cred_grantInvalid
  (∀ (s u : State) (link : Fin 256) (cell : List Byte) (index : Fin 18) (w : Nat) (m : GrantMsg) (q : Nat),
    CreditFrom s u link cell index 2 w → m = readGrant w → q = m.voq.toNat → (u.queue q).present = false ∨ (u.queue q).mcast = true ∨ (u.queue q).destModule ≠ (cellSrc cell).val ∨
    (u.queue q).destPort ≠ m.port.toNat ∨ (u.queue q).cls ≠ m.cls.toNat →
    exec (.grantReceive link cell true index) s = .next (((u.sparse 0x0F q).badGrant (cellSrc cell)).offAgain q (cellSrc cell) m.port.toNat m.cls.toNat)) ∧
  -- cred_loss
  (∀ (s u : State) (link : Fin 256) (cell : List Byte) (index : Fin 18) (w : Nat),
    CreditFrom s u link cell index 3 w →
    exec (.lossNoticeReceive link cell true index) s = .next (u.setRx (2 * (cellSrc cell).val + b2n (bit w 61))
      { u.rxStream (2 * (cellSrc cell).val + b2n (bit w 61)) with losses :=
        u.up :: (u.rxStream (2 * (cellSrc cell).val + b2n (bit w 61))).losses.filter fun t => u.up ≤ t + 2000000 })) ∧
  -- cred_none
  (∀ (s u : State) (link : Fin 256) (cell : List Byte) (index : Fin 18), s.hasLink link = true →
    (s.link link).st = .up ∨ (s.link link).st = .ident → GoodCell cell → u = (if index = 0 then s.heardCell link cell else s) →
    (creditOf 1 cell index = none → exec (.requestReceive link cell true index) s = .next u) ∧
    (creditOf 2 cell index = none → exec (.grantReceive link cell true index) s = .next u) ∧
    (creditOf 3 cell index = none → exec (.lossNoticeReceive link cell true index) s = .next u)) ∧
  -- cred_watchdog
  (∀ (s : State) (voq : BitVec 17) (v : Queue), v = s.queue voq.toNat → v.on = true → v.mcast = false → v.packets ≠ [] →
    v.grantAt + s.fabric.creditWd ≤ s.up → s.effective v.destModule = true →
    exec (.creditWatchdog voq) s = .next ((s.sparse 0x0D voq.toNat).voqRequest voq.toNat true))

/-- The deep tier's command slots, panic reads and refresh. Next states of a command slot of a pseudo-channel, of an
expired panic read, and of a refresh that is due. (R297, R298, R299, R300, R309, R311) -/
def Obligations.DeepTierRequests : Prop :=
  -- hbm_forced
  (∀ (s : State) (c : Fin 512) (o : ReadOutcome) (e : Nat × Nat), c.val < 64 * s.variant.hbmStacks →
    (s.pch c).st = .open_ ∨ (s.pch c).st = .fenced ∨ (s.pch c).st = .draining → (s.stack (c / 64)).asleep = false →
    (s.pch c).postponed.find? (fun e => 8 ≤ e.2) = some e →
    exec (.hbmCommandSlot c o) s = .next (((s.setPch c { s.pch c with
      postponed := nset 0 e.1 (e.2 - 1) (s.pch c).postponed, rows := nerase e.1 (s.pch c).rows }).bump
      .hbmRefreshForced (c / 64)).afterSlot c)) ∧
  -- hbm_panic
  (∀ (s : State) (c : Fin 512) (o : ReadOutcome) (r : Request), c.val < 64 * s.variant.hbmStacks →
    (s.pch c).st = .open_ ∨ (s.pch c).st = .fenced ∨ (s.pch c).st = .draining → (s.stack (c / 64)).asleep = false →
    (s.pch c).postponed.find? (fun e => 8 ≤ e.2) = none →
    (s.pch c).reads.find? (fun r => r.panic && (s.pch c).eligible r) = some r →
    exec (.hbmCommandSlot c o) s = .next ((s.serve c r o).afterSlot c)) ∧
  -- hbm_neighbour
  (∀ (s : State) (c : Fin 512) (o : ReadOutcome), c.val < 64 * s.variant.hbmStacks →
    (s.pch c).st = .open_ ∨ (s.pch c).st = .fenced ∨ (s.pch c).st = .draining → (s.stack (c / 64)).asleep = false →
    (s.pch c).postponed.find? (fun e => 8 ≤ e.2) = none →
    (s.pch c).reads.find? (fun r => r.panic && (s.pch c).eligible r) = none → (s.pch c).nbrForced = true →
    exec (.hbmCommandSlot c o) s = .next ((s.issueNbr c fun x => decide ((s.pch c).nbr.head? = some x)).afterSlot c)) ∧
  -- hbm_serve
  (∀ (s : State) (c : Fin 512) (o : ReadOutcome) (r : Request), c.val < 64 * s.variant.hbmStacks →
    (s.pch c).st = .open_ ∨ (s.pch c).st = .fenced ∨ (s.pch c).st = .draining → (s.stack (c / 64)).asleep = false →
    (s.pch c).postponed.find? (fun e => 8 ≤ e.2) = none →
    (s.pch c).reads.find? (fun r => r.panic && (s.pch c).eligible r) = none → (s.pch c).nbrForced = false →
    s.pickFrom (s.pch c) (if (s.pch c).direction then (s.pch c).writes else (s.pch c).reads) = some r →
    exec (.hbmCommandSlot c o) s = .next ((s.serve c r o).afterSlot c)) ∧
  -- hbm_offline
  (∀ (s : State) (c : Fin 512) (o : ReadOutcome), c.val < 64 * s.variant.hbmStacks → (s.pch c).st = .offline →
    exec (.hbmCommandSlot c o) s = .next s) ∧
  -- hbm_pickAged
  (∀ (s : State) (v : Pch) (l : List Request) (r : Request) (rs : List Request), l.filter v.eligible = r :: rs →
    r.at_ + 10000 < s.up → s.pickFrom v l = some r) ∧
  -- hbm_pickHit
  (∀ (s : State) (v : Pch) (l : List Request) (r q : Request) (rs : List Request), l.filter v.eligible = r :: rs →
    s.up ≤ r.at_ + 10000 → (r :: rs).find? v.hits = some q → s.pickFrom v l = some q) ∧
  -- hbm_direction
  (∀ (v : Pch), (v.writeMode = false → 24 ≤ v.writes.length → v.direction = true) ∧
    (v.writeMode = true → v.writes.length ≤ 8 → v.reads ≠ [] → v.direction = false) ∧
    (v.writeMode = true → 8 < v.writes.length → v.direction = true)) ∧
  -- hbm_panicExpiry
  (∀ (s : State) (c : Fin 512), c.val < 64 * s.variant.hbmStacks →
    ((s.pch c).reads.filter fun r => r.realTime && !r.panic && decide (r.at_ + s.hbm.panicNs < s.up)).length ≠ 0 →
    exec (.panicReadExpiry c) s = .next ((s.setPch c { s.pch c with
      reads := (s.pch c).reads.map fun r => if r.realTime && !r.panic && decide (r.at_ + s.hbm.panicNs < s.up) then
        { r with panic := true } else r }).bump .hbmPanic (c / 64) 0
      ((s.pch c).reads.filter fun r => r.realTime && !r.panic && decide (r.at_ + s.hbm.panicNs < s.up)).length)) ∧
  -- hbm_refresh
  (∀ (s : State) (c : Fin 512) (bank : Fin 64), c.val < 64 * s.variant.hbmStacks →
    nget 0 (s.pch c).refreshAt bank + Config.refreshInterval (s.stackTemp (c / 64)) ≤ s.up → (s.stack (c / 64)).asleep = false →
    (s.pch c).queued.any (fun r => r.bank = bank.val) = false → (s.pch c).st ≠ .offline →
    exec (.refreshDue c bank) s = .next (s.setPch c { s.pch c with
      refreshAt := nput bank.val s.up (s.pch c).refreshAt, rows := nerase bank.val (s.pch c).rows })) ∧
  -- hbm_refreshPostponed
  (∀ (s : State) (c : Fin 512) (bank : Fin 64), c.val < 64 * s.variant.hbmStacks →
    nget 0 (s.pch c).refreshAt bank + Config.refreshInterval (s.stackTemp (c / 64)) ≤ s.up → (s.stack (c / 64)).asleep = false →
    (s.pch c).st = .offline →
    exec (.refreshDue c bank) s = .next (s.setPch c { s.pch c with
      refreshAt := nput bank.val s.up (s.pch c).refreshAt,
      postponed := nput bank.val (min 8 (nget 0 (s.pch c).postponed bank + 1)) (s.pch c).postponed }))

/-- The deep tier trains, retrains, sleeps and drains. Next states of training, of the retraining window, of self-refresh
and of a drain of a pseudo-channel and of a stack. (R303, R304, R305, R306, R307, R308, R309, R310, R311, R312) -/
def Obligations.DeepTierTrainingSleepAndDrain : Prop :=
  -- hbm_training
  (∀ (s : State) (st : Fin 8) (lanes : List LaneSweep) (r : State × List (Nat × Nat)), st.val < s.variant.hbmStacks →
    (s.stack st).enabled = true → s.domain (89 + st.val) = true → (s.stack st).active = true →
    r = ((stackPchs st).filter fun c => (s.pch c).st = .training).foldl (fun (acc : State × List (Nat × Nat)) c =>
      ((acc.1.trainPch c lanes).1, acc.2 ++ (acc.1.trainPch c lanes).2)) (s, []) → ((r.1.recordRepairs r.2).stack st).active = true →
    exec (.hbmTraining st lanes) s = .next (r.1.recordRepairs r.2)) ∧
  -- hbm_trainOff
  (∀ (s : State) (st : Fin 8) (lanes : List LaneSweep), st.val < s.variant.hbmStacks → (s.stack st).enabled = false →
    exec (.hbmTraining st lanes) s = .next s) ∧
  -- hbm_fence
  (∀ (s : State) (st : Fin 8) (c : Nat), st.val < s.variant.hbmStacks → (s.stack st).active = true → (s.stack st).enabled = true →
    (s.stack st).window = none → (s.stack st).nextWindow ≤ s.up + 20000 → s.nextTurn st = some c →
    exec (.retrainFence st) s = .next ((s.setPch c { s.pch c with st := .fenced }).setStack st { s.stack st with
      window := some ⟨c, s.up + 20000⟩, nextWindow := s.up + 20000 + s.hbm.retrainPeriod / 64 })) ∧
  -- hbm_windowStart
  (∀ (s : State) (st : Fin 8) (w : Window), st.val < s.variant.hbmStacks → (s.stack st).window = some w →
    (s.pch w.pch).st = .fenced → w.tw ≤ s.up → (s.stack st).asleep = false → (s.pch w.pch).quiet = true →
    (s.buffers.writeBehind.all fun e => e.1 ≠ w.pch) = true →
    exec (.retrainWindowStart st) s = .next (s.setPch w.pch { s.pch w.pch with st := .offline, rows := [] })) ∧
  -- hbm_windowSlip
  (∀ (s : State) (st : Fin 8) (w : Window), st.val < s.variant.hbmStacks → (s.stack st).window = some w →
    (s.pch w.pch).st = .fenced → w.tw + 20000 ≤ s.up → (s.stack st).asleep = false → (s.pch w.pch).quiet = false →
    exec (.retrainWindowStart st) s = .next ((s.slipWindow w.pch false).startDrain st)) ∧
  -- hbm_windowAsleep
  (∀ (s : State) (st : Fin 8) (w : Window), st.val < s.variant.hbmStacks → (s.stack st).window = some w →
    (s.pch w.pch).st = .fenced → w.tw ≤ s.up → (s.stack st).asleep = true →
    exec (.retrainWindowStart st) s = .next ((s.slipWindow w.pch true).startDrain st)) ∧
  -- hbm_windowEndNone
  (∀ (s : State) (st : Fin 8) (lanes : List LaneEdges), st.val < s.variant.hbmStacks → (s.stack st).window = none →
    exec (.retrainWindowEnd st lanes) s = .next s) ∧
  -- hbm_windowEnd
  (∀ (s u : State) (st : Fin 8) (lanes : List LaneEdges) (w : Window) (res : List (Nat × Option Lane)), st.val < s.variant.hbmStacks →
    (s.stack st).window = some w → (s.pch w.pch).st = .offline → lanes.length = 4 → (s.pch w.pch).drainAfter = false →
    res = ((List.range 4).zip lanes).map (fun e => (4 * w.pch + e.1, edgesResult e.2 (nget {} s.hbm.lanes (4 * w.pch + e.1)))) →
    (res.all fun e => e.2.isSome) = true →
    u = res.foldl (fun t e => match e.2 with
      | some r => { t with hbm := { t.hbm with lanes := nset {} e.1 r t.hbm.lanes } }
      | none => t) (s.setStack st { s.stack st with window := none, idleSince := s.up }) →
    exec (.retrainWindowEnd st lanes) s = .next (((u.setPch w.pch { s.pch w.pch with
      windowAt := s.up, windowTemp := (s.setStack st { s.stack st with window := none, idleSince := s.up }).stackTemp st,
      first := false, st := .open_ }).bump .hbmRetrain w.pch).startDrain st)) ∧
  -- hbm_windowFails
  (∀ (s u : State) (st : Fin 8) (lanes : List LaneEdges) (w : Window) (res : List (Nat × Option Lane)), st.val < s.variant.hbmStacks →
    (s.stack st).window = some w → (s.pch w.pch).st = .offline → lanes.length = 4 → (s.pch w.pch).drainAfter = false →
    res = ((List.range 4).zip lanes).map (fun e => (4 * w.pch + e.1, edgesResult e.2 (nget {} s.hbm.lanes (4 * w.pch + e.1)))) →
    (res.all fun e => e.2.isSome) = false → u = s.setStack st { s.stack st with window := none, idleSince := s.up } →
    exec (.retrainWindowEnd st lanes) s = .next (((u.setPch w.pch { s.pch w.pch with
      windowAt := s.up, windowTemp := u.stackTemp st, first := false, st := .draining }).condition 0x0903 w.pch true).startDrain st)) ∧
  -- hbm_srEntry
  (∀ (s u : State) (st : Fin 8), st.val < s.variant.hbmStacks → s.hbm.srIdle ≠ 0 → (s.stack st).active = true →
    (s.stack st).asleep = false → s.stackIdle st = true → (s.stack st).idleSince + s.hbm.srIdle ≤ s.up →
    ((stackPchs st).any fun c => (s.pch c).st = .offline) = false →
    u = (stackPchs st).foldl (fun s c => s.issueNbr c fun _ => true) s →
    exec (.selfRefreshEntry st) s = .next ((u.setStack st { s.stack st with asleep := true, asleepAt := u.up }).bump .hbmSrEntries st)) ∧
  -- hbm_srOff
  (∀ (s : State) (st : Fin 8), st.val < s.variant.hbmStacks → s.hbm.srIdle = 0 → exec (.selfRefreshEntry st) s = .next s) ∧
  -- hbm_srExit
  (∀ (s : State) (st : Fin 8) (r : Request) (rs : List Request), st.val < s.variant.hbmStacks → (s.stack st).asleep = true →
    ((stackPchs st).flatMap fun c => (s.pch c).queued) = r :: rs →
    exec (.selfRefreshExit st) s = .next (((s.setStack st { s.stack st with asleep := false, idleSince := s.up }).bump .hbmSrNs st 0 1
      (s.up - (s.stack st).asleepAt)).bump .hbmSrExitNs st 0 1 (s.up - rs.foldl (fun n q => min n q.at_) r.at_))) ∧
  -- hbm_srNoRequest
  (∀ (s : State) (st : Fin 8), st.val < s.variant.hbmStacks → ((stackPchs st).flatMap fun c => (s.pch c).queued) = [] →
    exec (.selfRefreshExit st) s = .next s) ∧
  -- hbm_pchDrained
  (∀ (s : State) (c : Fin 512), c.val < 64 * s.variant.hbmStacks → s.pchDrained c = true →
    exec (.pchDrained c) s = .next (s.setPch c { s.pch c with st := .failed, rows := [] })) ∧
  -- hbm_pchDrainedMeans
  (∀ (s : State) (c : Nat), s.pchDrained c = true ↔ (s.pch c).st = .draining ∧ s.pchInUse c = false ∧
    (s.pch c).quiet = true ∧ ∀ e ∈ s.buffers.writeBehind, e.1 ≠ c) ∧
  -- hbm_pchInUse
  (∀ (s : State) (c : Fin 512), c.val < 64 * s.variant.hbmStacks → s.pchDrained c = false →
    exec (.pchDrained c) s = .next s) ∧
  -- hbm_stackDrained
  (∀ (s u : State) (st : Fin 8) (l : LetterId), st.val < s.variant.hbmStacks → (s.stack st).draining = true →
    (s.stack st).window = none → (∀ c ∈ stackPchs st, s.pchDrained c = true ∨ (s.pch c).st = .failed ∧ s.pchInUse c = false) →
    (s.stack st).disable = some l →
    u = (stackPchs st).foldl (fun s c => s.setPch c { lfsr := (s.pch c).lfsr, seq := (s.pch c).seq, st := .failed }) s →
    exec (.stackDrainComplete st) s = .next (((u.setStack st { s.stack st with
      active := false, asleep := false, draining := false, disable := none }).askDomain (89 + st.val) false).release l))

/-- The HBM letters. Next states of the accepted HBM letters. (R299, R301, R305, R306, R309, R311, R312, R314, R458) -/
def Obligations.DeepTierLetters : Prop :=
  -- hbm_setPanic
  (∀ (s : State) (l : LetterId) (x : W64), Claimed s l 0x0E01 [p8 x] → 200 ≤ x.toNat → x.toNat ≤ 5000 →
    ∃ t, exec (.hbmSetPanic l x) s = .next t ∧ Accepted s { s with hbm := { s.hbm with panicNs := x.toNat } } t l .done (layBody [p8 x])) ∧
  -- hbm_setPanicLow
  (∀ (s : State) (l : LetterId) (x : W64), Claimed s l 0x0E01 [p8 x] → x.toNat < 200 →
    ∃ t, exec (.hbmSetPanic l x) s = .next t ∧
      AcceptedClamped s { s with hbm := { s.hbm with panicNs := 200 } } t l .done (layBody [n8 200]) 0) ∧
  -- hbm_setNeighbour
  (∀ (s : State) (l : LetterId) (x : W32), Claimed s l 0x0E02 [p4 x] → 8 ≤ x.toNat → x.toNat ≤ 16 →
    ∃ t, exec (.hbmSetNeighbour l x) s = .next t ∧ Accepted s { s with hbm := { s.hbm with nbrN := x.toNat } } t l .done (layBody [p4 x])) ∧
  -- hbm_setRetrain
  (∀ (s : State) (l : LetterId) (x : W64), Claimed s l 0x0E03 [p8 x] → 10000000 ≤ x.toNat → x.toNat ≤ 60000000000 →
    ∃ t, exec (.hbmSetRetrain l x) s = .next t ∧ Accepted s { s with hbm := { s.hbm with retrainPeriod := x.toNat } } t l .done (layBody [p8 x])) ∧
  -- hbm_setSelfRefresh
  (∀ (s : State) (l : LetterId) (x : W64), Claimed s l 0x0E05 [p8 x] → x.toNat = 0 ∨ 500 ≤ x.toNat →
    x.toNat ≤ 1000000 →
    ∃ t, exec (.hbmSetSelfRefresh l x) s = .next t ∧ Accepted s { s with hbm := { s.hbm with srIdle := x.toNat } } t l .done (layBody [p8 x])) ∧
  -- hbm_retrainNow
  (∀ (s : State) (l : LetterId) (c : W32), Claimed s l 0x0E04 [p4 c] → c.toNat ≤ 511 → c.toNat < 64 * s.variant.hbmStacks →
    (s.pch c.toNat).st = .open_ →
    ∃ t, exec (.hbmRetrainNow l c) s = .next t ∧
      Accepted s (s.setPch c.toNat { s.pch c.toNat with first := true }) t l .done (layBody [p4 c])) ∧
  -- hbm_retrainFailed
  (∀ (s : State) (l : LetterId) (c : W32), Claimed s l 0x0E04 [p4 c] → c.toNat ≤ 511 → c.toNat < 64 * s.variant.hbmStacks →
    (s.pch c.toNat).st = .failed → (s.stack (c.toNat / 64)).enabled = true →
    ∃ t, exec (.hbmRetrainNow l c) s = .next t ∧ Accepted s ((s.setPch c.toNat { s.pch c.toNat with
      st := .training, retrainNow := true }).clearFault 0x0903 c.toNat) t l .done (layBody [p4 c])) ∧
  -- hbm_retrainBusy
  (∀ (s : State) (l : LetterId) (c : W32), Claimed s l 0x0E04 [p4 c] → c.toNat ≤ 511 → c.toNat < 64 * s.variant.hbmStacks →
    (s.pch c.toNat).st ≠ .open_ → (s.pch c.toNat).st ≠ .failed →
    ∃ t, exec (.hbmRetrainNow l c) s = .next t ∧ Rejected s t l .busy 0) ∧
  -- hbm_disable
  (∀ (s : State) (l : LetterId) (st : W32), Claimed s l 0x0E06 [p4 st] → st.toNat ≤ 7 → st.toNat < s.variant.hbmStacks →
    (s.stack st.toNat).draining = false → (s.stack st.toNat).enabled = true →
    ∃ t, exec (.hbmDisableStack l st) s = .next t ∧ Accepted s ((s.syncDeep.setStack st.toNat { s.stack st.toNat with
      enabled := false, draining := true, disable := some l }).startDrain st.toNat) t l .done (layBody [p4 st]) true) ∧
  -- hbm_enable
  (∀ (s : State) (l : LetterId) (st : W32), Claimed s l 0x0E07 [p4 st] → st.toNat ≤ 7 → st.toNat < s.variant.hbmStacks →
    (s.stack st.toNat).draining = false → (s.stack st.toNat).enabled = false →
    ∃ t, exec (.hbmEnableStack l st) s = .next t ∧ Accepted s (((stackPchs st.toNat).foldl (fun t c =>
      (t.setPch c { t.pch c with st := .training }).clearFault 0x0903 c) (s.syncDeep.setStack st.toNat { s.stack st.toNat with
      enabled := true })).askDomain (89 + st.toNat) true) t l .done (layBody [p4 st])) ∧
  -- hbm_readEyes
  (∀ (s : State) (l : LetterId) (st : W32) (result : W64), Claimed s l 0x0E08 [p4 st, p8 result] → st.toNat ≤ 7 →
    st.toNat < s.variant.hbmStacks → l.slice.val = 0 →
    ∃ t, exec (.hbmReadEyes l st result true) s = .next t ∧ Accepted s (s.hostWrite 0 result
      ((List.range 256).flatMap fun j => leBytes (nget {} s.hbm.lanes (256 * st.toNat + j)).eye 8)) t l .done [])

/-- Doorbells, and a letter taken from its ring. Next states of the letter, receipt and event doorbells and of
LETTER_TAKE. (R317, R320, R399) -/
def Obligations.DoorbellsAndLettersTaken : Prop :=
  -- bell_letter
  (∀ (s : State) (sl : Fin 64) (r : Fin 8) (count : W32), s.power.hkUp = true → (s.ring sl r).isOpen = true →
    (count - (s.ring sl r).taken).toNat ≤ (s.ring sl r).depth →
    exec (.letterDoorbell sl r count) s = .next (s.setRing sl r { s.ring sl r with placed := count })) ∧
  -- bell_letterBad
  (∀ (s : State) (sl : Fin 64) (r : Fin 8) (count : W32), s.power.hkUp = true → (s.ring sl r).isOpen = true →
    (s.ring sl r).depth < (count - (s.ring sl r).taken).toNat →
    exec (.letterDoorbell sl r count) s = .next ((s.bump .letterDoorbellBad sl).raise 0x0A01 (sl * 256 + r) count.toNat 0 sl)) ∧
  -- bell_receipt
  (∀ (s : State) (sl : Fin 64) (r : Fin 8) (count : W32), s.power.hkUp = true → (s.ring sl r).isOpen = true →
    (count - (s.ring sl r).consumed).toNat ≤ ((s.ring sl r).written - (s.ring sl r).consumed).toNat →
    exec (.receiptDoorbell sl r count) s = .next (s.setRing sl r { s.ring sl r with consumed := count })) ∧
  -- bell_receiptBad
  (∀ (s : State) (sl : Fin 64) (r : Fin 8) (count : W32), s.power.hkUp = true → (s.ring sl r).isOpen = true →
    ((s.ring sl r).written - (s.ring sl r).consumed).toNat < (count - (s.ring sl r).consumed).toNat →
    exec (.receiptDoorbell sl r count) s = .next ((s.bump .letterDoorbellBad sl).raise 0x0A01 (sl * 256 + r) count.toNat 0 sl)) ∧
  -- bell_event
  (∀ (s : State) (sl : Fin 64) (count : W32), s.power.hkUp = true → (s.evRing sl).defined = true →
    (count - (s.evRing sl).consumed).toNat ≤ ((s.evRing sl).written - (s.evRing sl).consumed).toNat →
    exec (.eventDoorbell sl count) s = .next (s.setEvRing sl { s.evRing sl with consumed := count })) ∧
  -- bell_eventBad
  (∀ (s : State) (sl : Fin 64) (count : W32), s.power.hkUp = true → (s.evRing sl).defined = true →
    ((s.evRing sl).written - (s.evRing sl).consumed).toNat < (count - (s.evRing sl).consumed).toNat →
    exec (.eventDoorbell sl count) s = .next ((s.bump .letterDoorbellBad sl).raise 0x0A01 (sl * 256 + 8) count.toNat 0 sl)) ∧
  -- take_ring
  (∀ (s : State) (pm : Pm) (sl : Fin 64) (r : Fin 8) (bytes : List Byte), s.pm.active = some pm → s.ready = true →
    s.slCanTake sl = true → s.allRateOk = true → s.rateOk sl = true → nget 0 s.roundTurns sl ≠ 0 → (s.ring sl r).takeable = true →
    s.nextRing sl = some r.val → s.mayRequest sl = true →
    exec (.letterTake pm sl (.ring r (some bytes))) s =
      .next (((s.setRing sl r (s.ring sl r).afterTake).noteTaken sl r).checkLetter pm sl (.ring r) (s.ring sl r).nextIndex bytes)) ∧
  -- take_fault
  (∀ (s : State) (pm : Pm) (sl : Fin 64) (r : Fin 8), s.pm.active = some pm → s.ready = true →
    s.slCanTake sl = true → s.allRateOk = true → s.rateOk sl = true → nget 0 s.roundTurns sl ≠ 0 → (s.ring sl r).takeable = true →
    s.nextRing sl = some r.val → s.mayRequest sl = true →
    exec (.letterTake pm sl (.ring r none)) s = .next (s.ringFault sl r ((s.ring sl r).letters +
      BitVec.ofNat 64 (256 * ((s.ring sl r).nextIndex.toNat % (s.ring sl r).depth))))) ∧
  -- take_inband
  (∀ (s : State) (pm : Pm) (sl : Fin 64) (x : InbandLetter) (xs : List InbandLetter), s.pm.active = some pm → s.ready = true →
    s.slCanTake sl = true → s.allRateOk = true → s.rateOk sl = true → nget 0 s.roundTurns sl ≠ 0 → s.inband sl = x :: xs → s.nextRing sl = some 0 →
    exec (.letterTake pm sl .inband) s = .next ((State.noteTaken { s with letters := { s.letters with
      inband := nset [] sl.val xs s.letters.inband } } sl 0).checkLetter pm sl x.via 0#32 x.bytes)) ∧
  -- take_stale
  (∀ (s : State) (pm : Pm) (sl : Fin 64) (src : TakeSource) (t : Nat), s.pm.active ≠ some pm → s.pm.window = some (pm, t) →
    exec (.letterTake pm sl src) s = .next (s.bump .pmStaleClaims (pmIdx pm))) ∧
  -- take_rate
  (∀ (s : State) (pm : Pm) (sl : Fin 64) (src : TakeSource), s.pm.active = some pm → s.ready = true → s.slCanTake sl = true →
    s.allRateOk = true → s.rateOk sl = false → (s.takeableRings sl).isEmpty = false → nget false s.letters.waits sl = false →
    exec (.letterTake pm sl src) s = .next (State.bump { s with letters := { s.letters with
      waits := nset false sl true s.letters.waits } } .sliceRateWait sl)) ∧
  -- take_rateCounted
  (∀ (s : State) (pm : Pm) (sl : Fin 64) (src : TakeSource), s.pm.active = some pm → s.rateOk sl = false →
    nget false s.letters.waits sl = true → exec (.letterTake pm sl src) s = .next s) ∧
  -- take_rateAll
  (∀ (s : State) (pm : Pm) (sl : Fin 64) (src : TakeSource), s.pm.active = some pm → s.allRateOk = false →
    exec (.letterTake pm sl src) s = .next s) ∧
  -- check_crc
  (∀ (s : State) (pm : Pm) (sl : Fin 64) (r : Fin 8) (index : W32) (bytes : List Byte) (h : Nat), h = leNat (bslice bytes 0 32) →
    crc32c 0xFFFFFFFF (bslice bytes 0 28 ++ bslice bytes 32 (min (bits h 95 80) 224)) ≠ bits h 255 224 →
    ∃ rc, s.checkLetter pm sl (.ring r) index bytes = s.pushReceipt sl (.ring r) rc true ∧ rc.status = .malformed ∧ rc.param = 0xFE#8 ∧
      rc.applied = []) ∧
  -- check_crcInband
  (∀ (s : State) (pm : Pm) (sl : Fin 64) (port : Fin 2) (v6 : Bool) (src dst : Ip) (udp : Nat) (index : W32) (bytes : List Byte) (h : Nat),
    h = leNat (bslice bytes 0 32) →
    crc32c 0xFFFFFFFF (bslice bytes 0 28 ++ bslice bytes 32 (min (bits h 95 80) 224)) ≠ bits h 255 224 →
    s.checkLetter pm sl (.inband port v6 src udp dst) index bytes = s.bump .letterBadCheck) ∧
  -- check_repeat
  (∀ (s : State) (pm : Pm) (sl : Fin 64) (via : Via) (index : W32) (bytes : List Byte) (h : Nat) (o : Entry),
    (∀ hi, (s.ledger sl).high = some hi → seqNewer (BitVec.ofNat 32 (bits h 63 32)) hi = true ∨
      (hi - BitVec.ofNat 32 (bits h 63 32)).toNat ≤ 1023) →
    h = leNat (bslice bytes 0 32) →
    crc32c 0xFFFFFFFF (bslice bytes 0 28 ++ bslice bytes 32 (min (bits h 95 80) 224)) = bits h 255 224 → bits h 23 16 = 1 →
    bits h 127 112 = 0 → bits h 79 72 = 0 → bits h 31 28 = 0 → bit h 24 = false → bits h 95 80 ≤ 224 → bits h 95 80 % 8 = 0 →
    bits h 71 64 = sl.val → nfind (s.ledger sl).entries ((BitVec.ofNat 32 (bits h 63 32)).toNat) = some o →
    s.checkLetter pm sl via index bytes = if o.st = .done then s.pushReceipt sl via { o.receipt with dup := true, applied := [] } true
      else (s.unreserve sl via).bump .letterDupPending sl) ∧
  -- check_stale
  (∀ (s : State) (pm : Pm) (sl : Fin 64) (via : Via) (index : W32) (bytes : List Byte) (h : Nat) (hi : W32), h = leNat (bslice bytes 0 32) →
    crc32c 0xFFFFFFFF (bslice bytes 0 28 ++ bslice bytes 32 (min (bits h 95 80) 224)) = bits h 255 224 → bits h 23 16 = 1 →
    bits h 127 112 = 0 → bits h 79 72 = 0 → bits h 31 28 = 0 → bit h 24 = false → bits h 95 80 ≤ 224 → bits h 95 80 % 8 = 0 →
    bits h 71 64 = sl.val → (s.ledger sl).high = some hi → seqNewer (BitVec.ofNat 32 (bits h 63 32)) hi = false →
    1023 < (hi - BitVec.ofNat 32 (bits h 63 32)).toNat →
    ∃ rc, s.checkLetter pm sl via index bytes = s.pushReceipt sl via rc true ∧ rc.status = .staleSequence ∧ rc.applied = [])

/-- Effect steps journaled, receipts and events written. Next states of EFFECT_STEP, RECEIPT_WRITE,
RECEIPT_DELIVERY_CONFIRM and EVENT_WRITE. (R318, R319, R334, R341, R342, R398, R400, R401) -/
def Obligations.EffectStepsAndReceipts : Prop :=
  -- step_journal
  (∀ (s : State) (pm : Pm) (l : LetterId) (ack : Bool) (e : Entry), s.entry l = some e → e.st = .accepted →
    e.journaled < effectSteps e.opcode.toNat → s.mayStep pm e = true → s.pm.active = some pm ∨ termChecked e.opcode.toNat = false →
    s.standbyWatches pm = false ∨ ack = true →
    exec (.effectStep pm l ack) s = .next (((s.setPost (pmOther pm) { s.post (pmOther pm) with ackSince := none }).setEntry l
      { e with pm := pm, journaled := e.journaled + 1 }).settle l)) ∧
  -- step_stale
  (∀ (s : State) (pm : Pm) (l : LetterId) (ack : Bool) (e : Entry), s.entry l = some e → e.st = .accepted →
    e.journaled < effectSteps e.opcode.toNat → s.mayStep pm e = true → s.pm.active ≠ some pm →
    termChecked e.opcode.toNat = true → exec (.effectStep pm l ack) s = .next (s.bump .pmStaleWrites (pmIdx pm))) ∧
  -- step_unacked
  (∀ (s : State) (pm : Pm) (l : LetterId) (e : Entry), s.entry l = some e → e.st = .accepted →
    e.journaled < effectSteps e.opcode.toNat → s.mayStep pm e = true → s.pm.active = some pm ∨ termChecked e.opcode.toNat = false →
    s.standbyWatches pm = true →
    exec (.effectStep pm l false) s = .next (s.setPost (pmOther pm) { s.post (pmOther pm) with
      ackSince := some ((s.post (pmOther pm)).ackSince.getD s.up) })) ∧
  -- step_settle
  (∀ (s : State) (l : LetterId) (e : Entry), s.entry l = some e → e.st = .accepted → e.waits = false →
    effectSteps e.opcode.toNat ≤ e.journaled → s.settle l = s.finish l e e.receipt) ∧
  -- step_waits
  (∀ (s : State) (l : LetterId) (e : Entry), s.entry l = some e → e.waits = true → s.settle l = s) ∧
  -- receipt_write
  (∀ (s u : State) (sl : Fin 64) (r : Fin 8) (rc : Receipt) (rest : List (Receipt × Bool)) (g : Ring), g = s.ring sl r →
    g.ready = (rc, true) :: rest → g.st = .running ∨ g.st = .closing → s.mayRequest sl = true →
    u = (((s.setRing sl r { g with
      ready := rest, reserved := g.reserved - 1, written := g.written + 1#32, owed := g.owed - 1,
      unconfirmed := g.unconfirmed ++ [rc.seq] }).hostWriteLast sl (g.receipts + BitVec.ofNat 64 (256 * (g.written.toNat % g.depth)))
      (rc.bytes (decide (g.written.toNat / g.depth % 2 = 0)))).signal (32 * sl + r)) →
    exec (.receiptWrite sl r true) s = .next ((u.ringDrained sl r).afterReceipt sl rc)) ∧
  -- receiptW_fault
  (∀ (s : State) (sl : Fin 64) (r : Fin 8) (rc : Receipt) (rest : List (Receipt × Bool)) (g : Ring), g = s.ring sl r →
    g.ready = (rc, true) :: rest → g.st = .running → s.mayRequest sl = true →
    exec (.receiptWrite sl r false) s = .next ((s.setRing sl r { g with ready := rest, reserved := g.reserved - 1 }).ringFault sl r
      (g.receipts + BitVec.ofNat 64 (256 * (g.written.toNat % g.depth))))) ∧
  -- receiptW_none
  (∀ (s : State) (sl : Fin 64) (r : Fin 8) (busOk : Bool), (s.ring sl r).ready = [] →
    exec (.receiptWrite sl r busOk) s = .next s) ∧
  -- receiptW_confirm
  (∀ (s : State) (sl : Fin 64) (r : Fin 8), exec (.receiptDeliveryConfirm sl r) s =
    .next ((s.ring sl r).unconfirmed.foldl (fun s q => s.delivered sl q) (s.setRing sl r { s.ring sl r with unconfirmed := [] }))) ∧
  -- event_write
  (∀ (s : State) (sl : Fin 64) (e : Event) (rest : List Event) (g : EventRing), g = s.evRing sl → g.queue = e :: rest →
    g.defined = true → g.stopped = false → s.mayRequest sl = true → (s.slice sl).st ≠ .resetting → s.owesReceipts sl = false →
    exec (.eventWrite sl true) s = .next (((s.setEvRing sl { g with
      queue := rest, written := g.written + 1#32, lost := false, owed := g.owed - 1 }).hostWriteLast sl
      (g.addr + BitVec.ofNat 64 (32 * (g.written.toNat % g.depth)))
      (e.bytes sl (decide (g.written.toNat / g.depth % 2 = 0)) g.lost)).signal (32 * sl + 8))) ∧
  -- event_owed
  (∀ (s : State) (sl : Fin 64) (ok : Bool), (s.slice sl).st = .resetting ∨ s.owesReceipts sl = true →
    exec (.eventWrite sl ok) s = .next s) ∧
  -- event_fault
  (∀ (s : State) (sl : Fin 64) (e : Event) (rest : List Event) (g : EventRing), g = s.evRing sl → g.queue = e :: rest →
    g.defined = true → g.stopped = false → s.mayRequest sl = true → (s.slice sl).st ≠ .resetting → s.owesReceipts sl = false →
    exec (.eventWrite sl false) s = .next (((s.setEvRing sl { g with stopped := true, lost := true, queue := [] }).bump .eventLost sl 0
      g.queue.length).raise 0x0A02 (sl.val * 256 + 8) (g.addr + BitVec.ofNat 64 (32 * (g.written.toNat % g.depth))).toNat 0 sl))

/-- The management ports: in-band letters, address resolution and echo. Next states of the datagrams and frames of the
management ports. (R323, R325) -/
def Obligations.ManagementPorts : Prop :=
  -- mgmt_datagram
  (∀ (s : State) (port : Fin 2) (d : Datagram) (b : Nat × Ip × Nat) (letters : List (List Byte)),
    (s.mgmt.bindings.find? fun b => b.2.1 = d.src ∧ b.2.2 = d.srcPort.toNat) = some b → splitLetters 5 d.payload = some letters →
    s.pm.active ≠ none → s.ready = true → d.dstPort.toNat = s.mgmt.udp → s.ownAddress port d.v6 d.dst = true →
    d.vlan.toNat = (s.mgmtPort port).vlan → letters ≠ [] → (s.slice b.1).st ≠ .resetting → (s.slice b.1).st ≠ .absent →
    (letters.all fun x => leNat (bslice x 8 1) = b.1) = true →
    exec (.inbandDatagram port d) s = .next { s with letters := { s.letters with
      inband := nset [] b.1 (s.inband b.1 ++ letters.map fun x => ⟨Via.inband port d.v6 d.src d.srcPort.toNat d.dst, x⟩)
        s.letters.inband } }) ∧
  -- mgmt_datagramUnbound
  (∀ (s : State) (port : Fin 2) (d : Datagram),
    (s.mgmt.bindings.find? fun b => b.2.1 = d.src ∧ b.2.2 = d.srcPort.toNat) = none →
    exec (.inbandDatagram port d) s = .next (s.bump .letterInbandDrop)) ∧
  -- mgmt_reply
  (∀ (s u : State) (sl : Fin 64) (port : Fin 2) (v6 : Bool) (addr own hop : Ip) (udp : Nat) (r0 : Receipt) (t0 : Nat)
    (rest : List (Via × Receipt × Nat)) (via : Via) (n : Neighbour) (mac : Mac),
    via = .inband port v6 addr udp own → nget [] s.letters.replies sl.val = (via, r0, t0) :: rest → s.sliceHeld sl = false →
    u = { s with letters := { s.letters with
      replies := nset [] sl.val (rest.filter fun x => x ∉ (rest.filter fun x => x.1 = via ∧ x.2.2 ≤ t0 + 10000).take 4) s.letters.replies } } →
    u.nextHop port v6 addr = some hop → u.neighbour port v6 hop = some n → n.mac = some mac →
    exec (.inbandReplySend sl) s = .next ((u.setNeighbour { n with used := u.up }).sendReply sl via
      (r0 :: ((rest.filter fun x => x.1 = via ∧ x.2.2 ≤ t0 + 10000).take 4).map fun x => x.2.1) mac)) ∧
  -- mgmt_replyNoRoute
  (∀ (s u : State) (sl : Fin 64) (port : Fin 2) (v6 : Bool) (addr own : Ip) (udp : Nat) (r0 : Receipt) (t0 : Nat)
    (rest : List (Via × Receipt × Nat)) (via : Via),
    via = .inband port v6 addr udp own → nget [] s.letters.replies sl.val = (via, r0, t0) :: rest → s.sliceHeld sl = false →
    u = { s with letters := { s.letters with
      replies := nset [] sl.val (rest.filter fun x => x ∉ (rest.filter fun x => x.1 = via ∧ x.2.2 ≤ t0 + 10000).take 4) s.letters.replies } } →
    u.nextHop port v6 addr = none →
    exec (.inbandReplySend sl) s = .next (u.bump .letterInbandDrop)) ∧
  -- mgmt_arp
  (∀ (s : State) (port : Fin 2) (target sender : BitVec 32) (mac : Mac), s.ownAddress port false (target.setWidth 128) = true →
    exec (.arpRequest port target sender mac) s = .next (s.emit (.mgmt port 0 false (sender.setWidth 128) (some mac)))) ∧
  -- mgmt_solicit
  (∀ (s : State) (port : Fin 2) (target sender : Ip) (mac : Mac), s.ownAddress port true target = true →
    exec (.neighbourSolicitation port target sender mac) s = .next (s.emit (.mgmt port 0 true sender (some mac)))) ∧
  -- mgmt_notMine
  (∀ (s : State) (port : Fin 2) (t4 s4 : BitVec 32) (t6 s6 : Ip) (mac : Mac), s.ownAddress port false (t4.setWidth 128) = false →
    s.ownAddress port true t6 = false →
    exec (.arpRequest port t4 s4 mac) s = .next s ∧ exec (.neighbourSolicitation port t6 s6 mac) s = .next s) ∧
  -- mgmt_echo
  (∀ (s : State) (port : Fin 2) (v6 : Bool) (dst src : Ip) (recent : List Nat), s.ownAddress port v6 dst = true →
    recent = (nget [] s.mgmt.echoes port.val).filter (fun t => s.up < t + 1000000000) → recent.length < 100 →
    exec (.echoRequest port v6 dst src) s = .next (State.emit { s with mgmt := { s.mgmt with
      echoes := nset [] port.val (recent ++ [s.up]) s.mgmt.echoes } } (.mgmt port 2 v6 src none))) ∧
  -- mgmt_echoLimit
  (∀ (s : State) (port : Fin 2) (v6 : Bool) (dst src : Ip),
    100 ≤ ((nget [] s.mgmt.echoes port.val).filter fun t => s.up < t + 1000000000).length →
    exec (.echoRequest port v6 dst src) s = .next s) ∧
  -- mgmt_resolved
  (∀ (s : State) (port : Fin 2) (v6 : Bool) (addr : Ip) (mac : Mac) (n : Neighbour), s.neighbour port v6 addr = some n →
    s.mgmt.waiting = [] → exec (.addressResolved port v6 addr mac) s = .next (s.setNeighbour { n with mac := some mac, used := s.up })) ∧
  -- mgmt_resolvedWaiting
  (∀ (s u : State) (port : Fin 2) (v6 : Bool) (addr own : Ip) (udp : Nat) (mac : Mac) (n : Neighbour) (rs : List Receipt),
    s.neighbour port v6 addr = some n → s.mgmt.waiting = [(addr, .inband port v6 addr udp own, rs)] →
    u = s.setNeighbour { n with mac := some mac, used := s.up } →
    exec (.addressResolved port v6 addr mac) s = .next (State.sendReply { u with mgmt := { u.mgmt with waiting := [] } }
      (replySlice rs) (.inband port v6 addr udp own) rs mac)) ∧
  -- mgmt_other
  (∀ (s : State) (port : Fin 2), exec (.mgmtFrameOther port) s = .next (s.bump .letterInbandDrop)) ∧
  -- mgmt_retry
  (∀ (s : State) (port : Fin 2) (v6 : Bool) (addr : Ip) (n : Neighbour), s.neighbour port v6 addr = some n → n.mac = none →
    n.used + 1000000000 ≤ s.up → n.tries < 3 →
    exec (.resolutionRetry port v6 addr) s = .next ((s.setNeighbour { n with used := s.up, tries := n.tries + 1 }).emit (.mgmt port 1 v6 addr none))) ∧
  -- mgmt_retryEnd
  (∀ (s : State) (port : Fin 2) (v6 : Bool) (addr : Ip) (n : Neighbour), s.neighbour port v6 addr = some n → n.mac = none →
    n.used + 1000000000 ≤ s.up → 3 ≤ n.tries → s.mgmt.waiting = [] →
    exec (.resolutionRetry port v6 addr) s = .next (State.bump { s with mgmt := { s.mgmt with
      waiting := [], neighbours := s.mgmt.neighbours.filter fun o => o ≠ n } } .letterInbandDrop 0 0 0)) ∧
  -- mgmt_expiry
  (∀ (s : State) (port : Fin 2) (v6 : Bool) (addr : Ip) (n : Neighbour), s.neighbour port v6 addr = some n → n.mac ≠ none →
    n.used + 300000000000 ≤ s.up →
    exec (.neighbourExpiry port v6 addr) s = .next { s with mgmt := { s.mgmt with neighbours := s.mgmt.neighbours.filter fun o => o ≠ n } })

/-- Slices: quotas, holds, resets and dirty-page logs. Next states of the SLICE letters, of a hold's and a reset's
quiescence, and of the dirty-page log. (R316, R323, R346, R349, R350, R355, R358, R362, R363, R371, R373, R400) -/
def Obligations.SlicesAndDirtyPages : Prop :=
  -- sl_create
  (∀ (s : State) (l : LetterId) (slice pasid : W32) (quotas : ListArg QuotaItem) (letters receipts : W64) (depth : W32)
    (qs : List QuotaItem),
    (∀ q ∈ qs, s.quotaRefused slice.toNat q = false) →
    Claimed s l 0x0F01 [p4 slice, p4 pasid, pL quotas, p8 letters, p8 receipts, p4 depth] →
    1 ≤ slice.toNat → slice.toNat ≤ 63 → pasid.toNat ≤ 1048575 → 1 ≤ quotas.count.toNat → quotas.count.toNat ≤ 25 →
    letters.toNat % 4096 = 0 → receipts.toNat % 4096 = 0 → badDepth depth = false → quotas.items = some qs → qs.any badQuota = false →
    noTwice (qs.map itemCode) = true → qs.any s.noBank = false → (s.slice slice.toNat).st = .absent →
    (0 :: s.liveSlices).any (fun j => decide ((s.slice j).pasid.toNat = pasid.toNat)) = false →
    quotaClamped qs = false →
    qs.any (fun q => decide (itemCode q = 8) && decide (itemAmount q = 0)) = false →
    ∃ t, exec (.sliceCreate l slice pasid quotas letters receipts depth) s = .next t ∧ Accepted s
      ((s.setSlice slice.toNat (Slice.grant { st := .active, pasid := BitVec.ofNat 20 pasid.toNat, held := false, heldAt := s.up } qs)).setRing
        slice.toNat 0 { st := .running, letters := letters, receipts := receipts, depth := depth.toNat }) t l .done (quotaApplied qs)) ∧
  -- sl_setShare
  (∀ (s : State) (l : LetterId) (slice : W32) (quotas : ListArg QuotaItem)
    (qs : List QuotaItem),
    (∀ q ∈ qs, s.quotaRefused slice.toNat q = false) →
    Claimed s l 0x0F02 [p4 slice, pL quotas] →
    slice.toNat ≤ 63 → 1 ≤ quotas.count.toNat → quotas.count.toNat ≤ 25 → quotas.items = some qs → qs.any badQuota = false →
    noTwice (qs.map itemCode) = true → qs.any s.noBank = false → (s.slice slice.toNat).st ≠ .absent → (s.slice slice.toNat).st ≠ .resetting →
    quotaClamped qs = false → (qs.find? fun q => itemCode q = 8) = none →
    ∃ t, exec (.sliceSetShare l slice quotas) s = .next t ∧
      Accepted s (s.setSlice slice.toNat ((s.slice slice.toNat).grant qs)) t l .done (quotaApplied qs)) ∧
  -- sl_hold
  (∀ (s : State) (l : LetterId) (slice : W32) (quotas : ListArg QuotaItem) (q : QuotaItem)
    (qs : List QuotaItem),
    (∀ q ∈ qs, s.quotaRefused slice.toNat q = false) →
    Claimed s l 0x0F02 [p4 slice, pL quotas] →
    slice.toNat ≤ 63 → 1 ≤ quotas.count.toNat → quotas.count.toNat ≤ 25 → quotas.items = some qs → qs.any badQuota = false →
    noTwice (qs.map itemCode) = true → qs.any s.noBank = false → (s.slice slice.toNat).st ≠ .absent → (s.slice slice.toNat).st ≠ .resetting →
    quotaClamped qs = false → (qs.find? fun q => itemCode q = 8) = some q → itemAmount q = 0 →
    (s.slice slice.toNat).held = false →
    ∃ t, exec (.sliceSetShare l slice quotas) s = .next t ∧
      Accepted s ((s.setSlice slice.toNat ((s.slice slice.toNat).grant qs)).holdSlice slice.toNat l) t l .done (quotaApplied qs) true) ∧
  -- sl_delete
  (∀ (s : State) (l : LetterId) (slice : W32), Claimed s l 0x0F04 [p4 slice] → 1 ≤ slice.toNat → slice.toNat ≤ 63 →
    (s.slice slice.toNat).st = .cleared →
    ∃ t u, exec (.sliceDelete l slice) s = .next t ∧ u = (((((if (s.slice slice.toNat).held then s.bump .sliceHeldNs slice.toNat 0 1
        (s.up - (s.slice slice.toNat).heldAt) else s).setSlice slice.toNat (Slice.initial slice.toNat)).setRing slice.toNat 0 {}).setLedger
        slice.toNat {}).setEvRing slice.toNat {}).endRingFaults slice.toNat ∧
      Accepted s { u with mgmt := { u.mgmt with bindings := u.mgmt.bindings.filter fun b => b.1 ≠ slice.toNat } } t l .done (layBody [p4 slice])) ∧
  -- sl_bind
  (∀ (s : State) (l : LetterId) (slice : W32) (address : Ip) (port : W32),
    Claimed s l 0x0F05 [p4 slice, pBe address.toNat 16, p4 port] → slice.toNat ≤ 63 → (s.slice slice.toNat).st ≠ .absent →
    1 ≤ port.toNat → port.toNat ≤ 65535 →
    s.mgmt.bindings.any (fun b => decide (b.1 ≠ slice.toNat ∧ b.2.1 = address ∧ b.2.2 = port.toNat)) = false →
    ∃ t, exec (.sliceBindInband l slice address port) s = .next t ∧ Accepted s { s with mgmt := { s.mgmt with
      bindings := (s.mgmt.bindings.filter fun b => b.1 ≠ slice.toNat) ++ [(slice.toNat, address, port.toNat)] } } t l .done
      (layBody [p4 slice, pBe address.toNat 16, p4 port])) ∧
  -- sl_status
  (∀ (s : State) (l : LetterId) (slice : W32), Claimed s l 0x0F07 [p4 slice] → slice.toNat ≤ 63 →
    l.slice.val = 0 ∨ l.slice.val = slice.toNat →
    ∃ t, exec (.sliceStatus l slice) s = .next t ∧ Accepted s s t l .done (leBytes (s.slice slice.toNat).st.code 1 ++
      leBytes (b2n (s.slice slice.toNat).dirty.isSome + 2 * b2n (s.slice slice.toNat).dirtyStopped) 1 ++ leBytes 0 2 ++
      leBytes (s.slice slice.toNat).pasid.toNat 4 ++ (List.range 25).flatMap fun k => leBytes (s.quotaUse slice.toNat (k + 1)) 8)) ∧
  -- sl_quiesced
  (∀ (s : State) (slice : Fin 64) (l : LetterId), (s.slice slice).holdLetter = some l → (s.slice slice).held = true →
    s.sliceQuiet slice = true →
    exec (.sliceHoldQuiesced slice) s = .next ((s.setSlice slice { s.slice slice with holdLetter := none }).release l)) ∧
  -- sl_notQuiet
  (∀ (s : State) (slice : Fin 64), s.sliceQuiet slice = false → exec (.sliceHoldQuiesced slice) s = .next s) ∧
  -- sl_reset
  (∀ (s : State) (l : LetterId) (slice : W32), Claimed s l 0x0F03 [p4 slice] → 1 ≤ slice.toNat → slice.toNat ≤ 63 →
    s.epochFree = true → s.liveSlices.any (fun j => decide ((s.slice j).st = .resetting)) = false →
    (s.slice slice.toNat).st = .active ∨ (s.slice slice.toNat).st = .held ∨ (s.slice slice.toNat).st = .cleared →
    ∃ t, exec (.sliceReset l slice) s = .next t ∧ Accepted s (s.startReset slice.toNat l) t l .done (layBody [p4 slice]) true) ∧
  -- sl_resetBusy
  (∀ (s : State) (l : LetterId) (slice : W32), Claimed s l 0x0F03 [p4 slice] → 1 ≤ slice.toNat → slice.toNat ≤ 63 →
    s.epochFree = false → ∃ t, exec (.sliceReset l slice) s = .next t ∧ Rejected s t l .busy 0) ∧
  -- sl_resetZero
  (∀ (s : State) (l : LetterId), Claimed s l 0x0F03 [p4 0] → ∃ t u, exec (.sliceReset l 0) s = .next (t.zeroReceipt l 0) ∧
    u = s.resetZero l ∧ Accepted s u t l .done (layBody [p4 0])) ∧
  -- sl_quiescence
  (∀ (s u : State) (w r : BitVec 32) (i : Nat) (v : Slice), s.pm.active.isSome = true →
    (s.slices.find? fun e => e.2.st = .resetting ∧ (e.2.resetStep = 2 ∨ e.2.resetStep = 3)) = some (i, v) → v.resetStep = 2 →
    s.sliceQuiet i = true ∨ v.held = true ∨ v.resetAt + 2000000 ≤ s.up → u = s.squash i w.toNat r.toNat → u.epochFree = true →
    exec (.sliceQuiescence w r) s = .next (u.startDeletions i)) ∧
  -- sl_quiescenceWaits
  (∀ (s u : State) (w r : BitVec 32) (i : Nat) (v : Slice),
    (s.slices.find? fun e => e.2.st = .resetting ∧ (e.2.resetStep = 2 ∨ e.2.resetStep = 3)) = some (i, v) → v.resetStep = 2 →
    s.sliceQuiet i = false → v.held = false → s.up < v.resetAt + 2000000 → exec (.sliceQuiescence w r) s = .next s) ∧
  -- sl_headless
  (∀ (s : State) (w r : BitVec 32), s.pm.active = none →
    exec (.sliceQuiescence w r) s = .next s ∧ exec .sliceResetClear s = .next s) ∧
  -- sl_cleared
  (∀ (s u : State) (i : Nat) (v : Slice), s.pm.active.isSome = true →
    (s.slices.find? fun e => e.2.st = .resetting ∧ e.2.resetStep = 5) = some (i, v) → u = s.clearSlice i →
    exec .sliceResetClear s = .next ((u.modSlice i fun v => { v with st := .cleared, resetStep := 0, resetLetter := none }).release? v.resetLetter)) ∧
  -- dirty_start
  (∀ (s : State) (l : LetterId) (slice : W32) (bitmap size : W64) (busOk : Bool),
    Claimed s l 0x0F06 [p4 slice, p4 1, p8 bitmap, p8 size] → slice.toNat ≤ 63 → size.toNat % 4096 = 0 → 4096 ≤ size.toNat →
    size.toNat ≤ 2 ^ 30 → (s.slice slice.toNat).st ≠ .absent → (s.slice slice.toNat).st ≠ .resetting → (s.slice slice.toNat).dirty = none →
    s.slices.any (fun e => e.2.dirty.any fun d => d.1 = bitmap) = false →
    ∃ t, exec (.sliceDirtyLog l slice 1 bitmap size busOk) s = .next t ∧
      Accepted s (s.modSlice slice.toNat fun v => { v with
        dirty := some (bitmap, size.toNat), dirtyStopped := false, pages := [], beyond := 0 }) t l .done
        (layBody [p4 slice, p4 1, p8 bitmap, p8 size, n8 (s.slice slice.toNat).beyond])) ∧
  -- dirty_end
  (∀ (s : State) (l : LetterId) (slice : W32) (bitmap size old : W64) (n : Nat),
    Claimed s l 0x0F06 [p4 slice, p4 0, p8 bitmap, p8 size] → slice.toNat ≤ 63 →
    (s.slice slice.toNat).st ≠ .absent → (s.slice slice.toNat).st ≠ .resetting → (s.slice slice.toNat).dirty = some (old, n) →
    ∃ t, exec (.sliceDirtyLog l slice 0 bitmap size true) s = .next t ∧
      Accepted s ((s.setSlice slice.toNat { s.slice slice.toNat with dirty := none, pages := [], beyond := 0 }).writeBitmap old
        (s.slice slice.toNat).pages) t l .done (layBody [p4 slice, p4 0, p8 bitmap, p8 size, n8 (s.slice slice.toNat).beyond])) ∧
  -- dirty_mark
  (∀ (s : State) (sl addr len size : Nat) (bitmap : W64), (s.slice sl).dirty = some (bitmap, size) →
    addr % 4096 + max len 1 ≤ 4096 → addr / 4096 < size * 8 → addr / 4096 ∉ (s.slice sl).pages →
    s.dirtyMark sl addr len = s.setSlice sl { s.slice sl with pages := (s.slice sl).pages ++ [addr / 4096] })

/-- Courier channels: letters, doorbells and boundaries. Next states of the COURIER letters, of the place and consume
doorbells and of a stop boundary. (R358, R359, R376, R377, R378, R384, R387, R388, R391) -/
def Obligations.CourierLettersAndDoorbells : Prop :=
  -- cu_open
  (∀ (s : State) (l : LetterId) (channel : W32) (ring : W64) (depth share : W32),
    Claimed s l 0x1001 [p4 channel, p8 ring, p4 depth, p4 share] → channel.toNat ≤ 63 → ring.toNat % 4096 = 0 → badDepth depth = false →
    s.chanOwner channel.toNat = l.slice.val → (s.chan channel.toNat).st = .closed → 1 ≤ share.toNat → share.toNat ≤ 1024 →
    s.shareSum l.slice + share.toNat ≤ s.countOf l.slice 7 →
    ∃ t, exec (.courierOpenChannel l channel ring depth share) s = .next t ∧
      Accepted s (s.setChan channel.toNat { st := .running, ring := ring, depth := depth.toNat, share := share.toNat }) t l .done
        (layBody [p4 channel, p8 ring, p4 depth, n4 share.toNat])) ∧
  -- cu_openBusy
  (∀ (s : State) (l : LetterId) (channel : W32) (ring : W64) (depth share : W32),
    Claimed s l 0x1001 [p4 channel, p8 ring, p4 depth, p4 share] → channel.toNat ≤ 63 → ring.toNat % 4096 = 0 → badDepth depth = false →
    s.chanOwner channel.toNat = l.slice.val → (s.chan channel.toNat).st ≠ .closed → 1 ≤ share.toNat → share.toNat ≤ 1024 →
    ∃ t, exec (.courierOpenChannel l channel ring depth share) s = .next t ∧ Rejected s t l .busy 0) ∧
  -- cu_stop
  (∀ (s : State) (l : LetterId) (channel : W32), Claimed s l 0x1002 [p4 channel] → channel.toNat ≤ 63 →
    s.chanOwner channel.toNat = l.slice.val → (s.chan channel.toNat).st = .running →
    ∃ t, exec (.courierStop l channel) s = .next t ∧
      Accepted s (s.setChan channel.toNat { s.chan channel.toNat with st := .stopping, stopLetter := some l }) t l .done
        (layBody [p4 channel]) true) ∧
  -- cu_stopAgain
  (∀ (s : State) (l : LetterId) (channel : W32), Claimed s l 0x1002 [p4 channel] → channel.toNat ≤ 63 →
    s.chanOwner channel.toNat = l.slice.val → (s.chan channel.toNat).st = .stopped →
    ∃ t, exec (.courierStop l channel) s = .next t ∧ Accepted s s t l .done (layBody [p4 channel])) ∧
  -- cu_close
  (∀ (s : State) (l : LetterId) (channel : W32), Claimed s l 0x1003 [p4 channel] → channel.toNat ≤ 63 →
    s.chanOwner channel.toNat = l.slice.val → (s.chan channel.toNat).st = .stopped →
    ∃ t, exec (.courierClose l channel) s = .next t ∧ Accepted s (s.closeChan channel.toNat) t l .done (layBody [p4 channel])) ∧
  -- cu_setShare
  (∀ (s : State) (l : LetterId) (channel share : W32),
    Claimed s l 0x1004 [p4 channel, p4 share] → channel.toNat ≤ 63 → s.chanOwner channel.toNat = l.slice.val →
    (s.chan channel.toNat).st ≠ .closed → 1 ≤ share.toNat → share.toNat ≤ 1024 →
    s.shareSum l.slice - (s.chan channel.toNat).share + share.toNat ≤ s.countOf l.slice 7 →
    ∃ t, exec (.courierSetShare l channel share) s = .next t ∧
      Accepted s (s.setChan channel.toNat { s.chan channel.toNat with share := share.toNat }) t l .done
        (layBody [p4 channel, n4 share.toNat])) ∧
  -- cu_shareOver
  (∀ (s : State) (l : LetterId) (channel share : W32),
    Claimed s l 0x1004 [p4 channel, p4 share] → channel.toNat ≤ 63 → s.chanOwner channel.toNat = l.slice.val →
    (s.chan channel.toNat).st ≠ .closed → (s.chan channel.toNat).share < share.toNat → share.toNat ≤ 1024 →
    s.countOf l.slice 7 < s.shareSum l.slice - (s.chan channel.toNat).share + share.toNat →
    ∃ t, exec (.courierSetShare l channel share) s = .next t ∧ Rejected s t l .notPermitted 1) ∧
  -- cu_place
  (∀ (s : State) (channel : Fin 64) (count : W32), s.power.hkUp = true → (s.chan channel).st ≠ .closed →
    (count - (s.chan channel).taken).toNat ≤ (s.chan channel).depth →
    exec (.placeDoorbell channel count) s = .next (s.setChan channel { s.chan channel with placed := count })) ∧
  -- cu_placeBad
  (∀ (s : State) (channel : Fin 64) (count : W32), s.power.hkUp = true → (s.chan channel).st ≠ .closed →
    (s.chan channel).depth < (count - (s.chan channel).taken).toNat →
    exec (.placeDoorbell channel count) s =
      .next ((s.bump .curDoorbellBad channel).raise 0x0C01 channel count.toNat 0 (s.chanOwner channel))) ∧
  -- cu_placeClosed
  (∀ (s : State) (channel : Fin 64) (count : W32), s.power.hkUp = true → (s.chan channel).st = .closed →
    exec (.placeDoorbell channel count) s = .next (s.bump .curDoorbellBad channel)) ∧
  -- cu_consume
  (∀ (s : State) (channel : Fin 64) (count : W32) (d : Desc), s.power.hkUp = true → (s.chan channel).st ≠ .closed →
    ((s.chan channel).descs.find? fun d => d.kind = 2) = some d → (d.head - count).toNat ≤ d.room →
    exec (.consumeDoorbell channel count) s = .next (s.setChan channel { s.chan channel with consumed := count })) ∧
  -- cu_consumeBad
  (∀ (s : State) (channel : Fin 64) (count : W32) (d : Desc), s.power.hkUp = true → (s.chan channel).st ≠ .closed →
    ((s.chan channel).descs.find? fun d => d.kind = 2) = some d → d.room < (d.head - count).toNat →
    exec (.consumeDoorbell channel count) s =
      .next ((s.bump .curDoorbellBad channel).raise 0x0C01 channel count.toNat 0 (s.chanOwner channel))) ∧
  -- cu_boundary
  (∀ (s : State) (channel : Fin 64), (s.chan channel).st = .stopping → (s.chan channel).reads = [] →
    (∀ d ∈ (s.chan channel).descs, d.atBoundary = true) → s.sliceHeld (s.chanOwner channel) = false →
    exec (.courierStopBoundary channel) s =
      .next ((((s.chan channel).descs.filter fun d => d.kind = 2).foldl (fun s d => s.closeDesc channel d 2) s).stopChan channel)) ∧
  -- cu_boundaryHeld
  (∀ (s : State) (channel : Fin 64), s.sliceHeld (s.chanOwner channel) = true →
    exec (.courierStopBoundary channel) s = .next s)

/-- Courier descriptors, records and bursts. Next states when a descriptor completes, a read returns, a record is written
or injected, and a burst moves. (R199, R375, R378, R380, R382, R384, R385, R386, R387) -/
def Obligations.CourierDescriptorsAndBursts : Prop :=
  -- cu_fetched
  (∀ (s : State) (channel : Fin 64) (i : Nat) (rest : List ChanRead) (bs : List Byte),
    (s.chan channel).reads = .fetch i :: rest → descOk (leNat (bslice bs 0 32)) = true →
    bits (leNat (bslice bs 0 32)) 2 1 ≠ 1 →
    exec (.courierReadReturn channel (some bs)) s = .next ((s.setChan channel { s.chan channel with reads := rest }).setChan channel
      { s.chan channel with
        reads := rest
        descs := (s.chan channel).descs ++ [{ index := i, raw := BitVec.ofNat 256 (leNat (bslice bs 0 32)) }] })) ∧
  -- cu_fetchedMalformed
  (∀ (s : State) (channel : Fin 64) (i : Nat) (rest : List ChanRead) (bs : List Byte),
    (s.chan channel).reads = .fetch i :: rest → descOk (leNat (bslice bs 0 32)) = false →
    exec (.courierReadReturn channel (some bs)) s = .next ((s.setChan channel { s.chan channel with reads := rest }).setChan channel
      { s.chan channel with
        reads := rest
        descs := (s.chan channel).descs ++ [{ index := i, raw := BitVec.ofNat 256 (leNat (bslice bs 0 32)), status := 4, finished := true }] })) ∧
  -- cu_readError
  (∀ (s : State) (channel : Fin 64) (i : Nat) (rest : List ChanRead), (s.chan channel).reads = .fetch i :: rest →
    exec (.courierReadReturn channel none) s = .next ((s.setChan channel { s.chan channel with reads := rest }).chanFault channel i
      ((s.chan channel).ring.toNat + 32 * i))) ∧
  -- cu_flushed
  (∀ (s : State) (channel : Fin 64) (i : Nat) (rest : List ChanRead) (bs : List Byte) (d : Desc),
    (s.chan channel).reads = .flush i :: rest → ((s.chan channel).descs.find? fun d => d.index = i) = some d →
    exec (.courierReadReturn channel (some bs)) s = .next ((s.setChan channel { s.chan channel with reads := rest }).setChan channel
      (Channel.setDesc { s.chan channel with reads := rest } { d with flushed := true }))) ∧
  -- cu_complete
  (∀ (s : State) (channel : Fin 64) (d : Desc) (ds : List Desc), (s.chan channel).descs = d :: ds →
    d.finished = true → d.status ≠ 4 → exec (.descriptorComplete channel) s = .next (s.closeDesc channel d d.status)) ∧
  -- cu_completeMalformed
  (∀ (s : State) (channel : Fin 64) (d : Desc) (ds : List Desc), (s.chan channel).descs = d :: ds →
    d.finished = true → d.status = 4 → exec (.descriptorComplete channel) s = .next ((s.closeDesc channel d 4).stopChan channel)) ∧
  -- cu_notComplete
  (∀ (s : State) (channel : Fin 64) (d : Desc) (ds : List Desc), (s.chan channel).descs = d :: ds →
    d.finished = false → exec (.descriptorComplete channel) s = .next s) ∧
  -- cu_circular
  (∀ (s : State) (channel : Fin 64) (d e : Desc) (p : Packet) (u : State),
    ((s.chan channel).descs.find? fun d => d.kind = 2 ∧ d.record.isSome ∧ d.left = 0) = some d → d.record = some p → d.irq = true →
    e = { d with head := d.head + BitVec.ofNat 32 d.done, done := 0, record := none, status := 0 } →
    u = (s.setChan channel ((s.chan channel).setDesc e)).writeBack channel e 0 false →
    exec (.circularRecordWrite channel) s = .next (((u.signal (u.chanVector channel)).freeHost channel p).noteSpace channel)) ∧
  -- cu_injectWaits
  (∀ (s : State) (channel : Fin 64) (rivals : List Rival) (d : Desc),
    ((s.chan channel).descs.find? fun d => d.kind = 1 ∧ ¬ d.finished) = some d → d.done < d.length →
    exec (.injectRecord channel rivals) s = .next s) ∧
  -- cu_inject
  (∀ (s u : State) (channel : Fin 64) (d : Desc) (status : Nat),
    ((s.chan channel).descs.find? fun d => d.kind = 1 ∧ ¬ d.finished) = some d → d.length ≤ d.done → s.inject channel d = (status, u) →
    exec (.injectRecord channel []) s = .next (u.setChan channel ((u.chan channel).setDesc
      { d with finished := true, status := status, data := [] }))) ∧
  -- cu_injectShort
  (∀ (s : State) (c : Nat) (d : Desc), d.length < 16 + (bits (leNat (bslice d.data 0 16)) 91 78 - 4) →
    s.inject c d = (4, s)) ∧
  -- cu_internal
  (∀ (s u : State) (r : Requester) (bytes : BitVec 13) (ok : Bool), (∀ c, r ≠ .channel c) →
    s.courier.pasidOn = true → bytes.toNat ≤ s.courier.maxPayload → s.grantBus true (Requester.code r) bytes.toNat = some u →
    exec (.courierBurst true r bytes ok) s = .next (u.bump .curBytesToHost (Requester.code r) 0 bytes.toNat)) ∧
  -- cu_notPicked
  (∀ (s : State) (c : Fin 64) (d : Desc) (room : Nat) (bytes : BitVec 13) (ok : Bool), s.hostWork c = some (d, room) →
    s.grantBus true c bytes.toNat = none → exec (.courierBurst true (.channel c) bytes ok) s = .next s) ∧
  -- cu_burstRoom
  (∀ (s : State) (c : Nat) (d : Desc) (room : Nat), s.hostWork c = some (d, room) →
    room ≤ s.courier.maxPayload ∧ d.nextAddr % 4096 + room ≤ 4096) ∧
  -- cu_burst
  (∀ (s g u : State) (c : Fin 64) (d e : Desc) (p : Packet) (room : Nat) (bytes : BitVec 13),
    s.hostWork c = some (d, room) → bytes.toNat ≠ 0 → bytes.toNat ≤ room → d.record = some p → s.grantBus true c bytes.toNat = some g →
    bytes.toNat < d.left → e = { d with
      left := d.left - bytes.toNat, done := d.done + bytes.toNat, finished := false,
      status := b2n (decide (d.captured p < p.data.length)), record := some p } →
    u = ((g.startRecord c).hostWrite ((g.startRecord c).chanOwner c) (BitVec.ofNat 64 d.nextAddr)
      (((hostRecord d p).drop d.done).take bytes.toNat)).bump .curBytesToHost c 0 bytes.toNat →
    exec (.courierBurst true (.channel c) bytes true) s = .next (u.setChan c
      (Channel.setDesc { u.chan c with lastWrite := BitVec.ofNat 64 (d.nextAddr + bytes.toNat - 1) } e))) ∧
  -- cu_burstLast
  (∀ (s g u : State) (c : Fin 64) (d e : Desc) (p : Packet) (room : Nat) (bytes : BitVec 13),
    s.hostWork c = some (d, room) → bytes.toNat ≠ 0 → bytes.toNat ≤ room → d.record = some p → s.grantBus true c bytes.toNat = some g →
    d.left = bytes.toNat → d.kind = 0 → e = { d with
      left := 0, done := d.done + bytes.toNat, finished := true,
      status := b2n (decide (d.captured p < p.data.length)), record := none } →
    u = ((g.startRecord c).hostWrite ((g.startRecord c).chanOwner c) (BitVec.ofNat 64 d.nextAddr)
      (((hostRecord d p).drop d.done).take bytes.toNat)).bump .curBytesToHost c 0 bytes.toNat →
    exec (.courierBurst true (.channel c) bytes true) s = .next ((u.setChan c
      (Channel.setDesc { u.chan c with lastWrite := BitVec.ofNat 64 (d.nextAddr + bytes.toNat - 1) } e)).freeHost c p)) ∧
  -- cu_writeError
  (∀ (s g : State) (c : Fin 64) (d : Desc) (p : Packet) (room : Nat) (bytes : BitVec 13),
    s.hostWork c = some (d, room) → bytes.toNat ≠ 0 → bytes.toNat ≤ room → d.record = some p → s.grantBus true c bytes.toNat = some g →
    exec (.courierBurst true (.channel c) bytes false) s = .next ((g.startRecord c).chanFault c d.index d.nextAddr)) ∧
  -- cu_noSpace
  (∀ (s : State) (c : Fin 64) (d : Desc) (p : Packet) (q : List Packet) (bytes : BitVec 13) (ok : Bool),
    s.hostWork c = none → (s.chan c).waiting = some d → (s.chan c).queue = p :: q → d.kind = 2 → (s.chan c).fits d p = false →
    (s.chan c).waitSpace = false → exec (.courierBurst true (.channel c) bytes ok) s =
      .next (((s.setChan c { s.chan c with waitSpace := true }).bump .curWaitSpace c).fetchHead c)) ∧
  -- cu_fetch
  (∀ (s g : State) (c : Fin 64), s.flushWork c = none → s.readWork c = none → s.fetchWork c = true →
    s.grantBus false c 32 = some g → exec (.courierBurst false (.channel c) 32 true) s =
      .next ((g.setChan c { s.chan c with
        taken := (s.chan c).taken + 1#32
        reads := (s.chan c).reads ++ [.fetch ((s.chan c).slot (s.chan c).taken)] }).bump .curBytesFromHost c 0 32)) ∧
  -- cu_quantum
  (∀ (s : State), s.quantum 64 = 64 * 2048 ∧ s.quantum 65 = 64 * 1024 ∧ s.quantum 66 = 64 * 2048 ∧
    s.quantum 67 = 64 * 1024 ∧ s.quantum 68 = 64 * 2048)

/-- The postmasters' roles: heartbeats, take-over and dual-active. Next states of heartbeats and their lapse, of a grant
of the role, of a stop confirmation and of the dual-active timeout. (R394, R395, R396, R397, R410, R427) -/
def Obligations.PostmasterRoles : Prop :=
  -- pm_heartbeat
  (∀ (s : State) (pm : Pm), s.pm.active = some pm →
    exec (.heartbeat pm) s = .next { s with pm := { s.pm with beat := s.up } }) ∧
  -- pm_heartbeatStale
  (∀ (s : State) (pm : Pm), s.pm.active ≠ some pm → exec (.heartbeat pm) s = .next s) ∧
  -- pm_noLapse
  (∀ (s : State), s.up < s.pm.beat + 100000 → exec .heartbeatLapse s = .next s) ∧
  -- pm_lapse
  (∀ (s u : State) (p : Pm), s.pm.active = some p → s.pm.beat + 100000 ≤ s.up → s.newImagePm p = false →
    u = (s.modPost p fun v => { v with failCode := 7#8 }).bump .pmSelftestFail (pmIdx p) 7 → u.qualifies (pmOther p) = true →
    exec .heartbeatLapse s = .next (u.takeOver p)) ∧
  -- pm_lapseHeadless
  (∀ (s u : State) (p : Pm), s.pm.active = some p → s.pm.beat + 100000 ≤ s.up → s.newImagePm p = false →
    u = (s.modPost p fun v => { v with failCode := 7#8 }).bump .pmSelftestFail (pmIdx p) 7 → u.qualifies (pmOther p) = false →
    exec .heartbeatLapse s = .next (u.fencePm p .off).goHeadless) ∧
  -- pm_grant
  (∀ (s : State) (pm : Pm), s.qualifies pm = true → s.pm.active = none → s.ready = true →
    exec (.roleGrant pm) s = .next (s.grant pm none)) ∧
  -- pm_noGrant
  (∀ (s : State) (pm : Pm), s.qualifies pm = false → exec (.roleGrant pm) s = .next s) ∧
  -- pm_grantStartup
  (∀ (s : State), s.qualifies .a = true → s.qualifies .b = true → s.pm.active = none → s.ready = false →
    s.power.stage = .build → exec (.roleGrant .a) s = .next (s.grant .a none) ∧ exec (.roleGrant .b) s = .next s) ∧
  -- pm_noPreemption
  (∀ (s : State) (pm p : Pm), s.pm.active = some p → s.pm.handedOver = false →
    exec (.roleGrant pm) s = .next s) ∧
  -- pm_handover
  (∀ (s u : State) (pm p : Pm), s.qualifies pm = true → s.pm.active = some p → p ≠ pm → s.pm.handedOver = true →
    u = { s with pm := { s.pm with planned := false, resetPhase := 0 } } →
    exec (.roleGrant pm) s = .next ((((u.grant pm none).checkDefaults (u.post pm).bankB).bump .pmHandovers).restartPm p
      (((u.grant pm none).checkDefaults (u.post pm).bankB).bump .pmHandovers).bootBank)) ∧
  -- pm_stopWindow
  (∀ (s : State) (pm : Pm) (at_ : Nat), s.pm.window = some (pm, at_) →
    exec (.stopConfirmation pm) s = .next (s.closeWindow pm true)) ∧
  -- pm_stopPlanned
  (∀ (s : State) (pm : Pm), s.pm.window = none → s.pm.planned = true → s.pm.active = some pm →
    s.qualifies (pmOther pm) = true → exec (.stopConfirmation pm) s = .next { s with pm := { s.pm with handedOver := true } }) ∧
  -- pm_window
  (∀ (s : State) (old : Pm) (at_ : Nat), s.pm.window = some (old, at_) → at_ + 250000 ≤ s.up →
    exec .dualActiveTimeout s = .next (s.closeWindow old false)) ∧
  -- pm_windowOpen
  (∀ (s : State) (old : Pm) (at_ : Nat), s.pm.window = some (old, at_) → s.up < at_ + 250000 →
    exec .dualActiveTimeout s = .next s)

/-- The postmasters' restarts, synchronisation and self-tests. Next states of restarts, boot tests, synchronisation,
headless rebuild, failures, self-test items and health writes. (R393, R396, R402, R403, R404, R405, R406, R407, R410,
R427, R471) -/
def Obligations.PostmasterRestartsSyncAndTests : Prop :=
  -- pm_restart
  (∀ (s : State) (pm : Pm), s.powered = true → s.pm.resetPhase ≠ 1 → (s.post pm).role = .off ∨ (s.post pm).role = .failed →
    (s.post pm).limited = false → s.power.stage ≠ .reset → ((s.post pm).restarts.filter fun t => s.up < t + 3600000000000).length < 3 →
    ∃ u, u = s.setPost pm { s.post pm with restarts := ((s.post pm).restarts.filter fun t => s.up < t + 3600000000000) ++ [s.up] } ∧
      exec (.postmasterRestart pm) s = .next (u.restartPm pm u.bootBank)) ∧
  -- pm_restartLimit
  (∀ (s : State) (pm : Pm), s.powered = true → s.pm.resetPhase ≠ 1 → (s.post pm).role = .off ∨ (s.post pm).role = .failed →
    (s.post pm).limited = false → s.power.stage ≠ .reset → 3 ≤ ((s.post pm).restarts.filter fun t => s.up < t + 3600000000000).length →
    exec (.postmasterRestart pm) s = .next ((s.setPost pm { s.post pm with
      role := .failed, limited := true
      restarts := (s.post pm).restarts.filter fun t => s.up < t + 3600000000000 }).condition 0x0D04 (pmIdx pm) true)) ∧
  -- pm_restartStays
  (∀ (s : State) (pm : Pm), s.pm.resetPhase ≠ 1 → (s.post pm).limited = true →
    exec (.postmasterRestart pm) s = .next s) ∧
  -- pm_restartKind0
  (∀ (s u : State) (pm p : Pm), s.powered = true → s.pm.resetPhase = 1 → s.pm.active = some p → p ≠ pm →
    s.resetUnanswered = false → s.pm.window = none →
    u = (({ s with pm := { s.pm with resetPhase := 2, planned := true } } : State).modPost pm fun v =>
      { v with limited := false }).clearFault 0x0D04 (pmIdx pm) →
    exec (.postmasterRestart pm) s = .next (u.restartPm pm ({ s with pm := { s.pm with resetPhase := 2, planned := true } } : State).bootBank)) ∧
  -- pm_bootPassed
  (∀ (s : State) (pm : Pm), (s.post pm).role = .booting → s.domain (pmDomain pm) = true →
    s.power.stage ≠ .boot → s.power.stage ≠ .settings →
    exec (.bootSelftestDone pm true) s = .next (s.setPost pm { s.post pm with role := .syncing, selftestOk := true })) ∧
  -- pm_bootFailed
  (∀ (s : State) (pm : Pm), (s.post pm).role = .booting → s.domain (pmDomain pm) = true →
    s.newImagePm pm = false → exec (.bootSelftestDone pm false) s = .next (s.setPost pm { s.post pm with role := .failed })) ∧
  -- pm_synced
  (∀ (s : State) (pm : Pm), (s.post pm).role = .syncing → s.pm.active = some (pmOther pm) →
    exec (.syncComplete pm true) s = .next ((s.modPost pm fun v =>
      { v with role := .standby, synced := true, ackSince := none }).clearFault 0x0D02 (pmIdx pm))) ∧
  -- pm_notSynced
  (∀ (s : State) (pm : Pm), exec (.syncComplete pm false) s = .next s) ∧
  -- pm_rebuild
  (∀ (s : State) (pm : Pm), (s.post pm).role = .syncing → s.pm.active = none → s.ready = true →
    exec (.headlessRebuild pm) s = .next ((s.modPost pm fun v =>
      { v with role := .standby, synced := true, ackSince := none }).clearFault 0x0D02 (pmIdx pm))) ∧
  -- pm_ackTimeout
  (∀ (s : State) (p : Pm) (at_ : Nat), s.pm.active = some p → (s.post (pmOther p)).ackSince = some at_ →
    (s.post (pmOther p)).role = .standby → at_ + 20000 ≤ s.up → exec .standbyAckTimeout s = .next
      ((s.modPost (pmOther p) fun v => { v with role := .syncing, synced := false, ackSince := none }).condition 0x0D02 (pmIdx (pmOther p)) true)) ∧
  -- pm_failStandby
  (∀ (s u : State) (pm : Pm) (code : FailCode), (s.post pm).role = .standby → code ≠ .stateCopy → code ≠ .flash →
    u = ((s.modPost pm fun v => { v with failCode := BitVec.ofNat 8 (failNumber code) }).bump .pmSelftestFail (pmIdx pm) (failNumber code)).raise
      0x0D03 (pmIdx pm) (failNumber code) → (u.post pm).role = .standby →
    exec (.postmasterFailure pm code) s = .next (u.modPost pm fun v => { v with role := .failed, synced := false, ackSince := none })) ∧
  -- pm_failActive
  (∀ (s u : State) (pm : Pm), (s.post pm).role = .active →
    u = ((s.modPost pm fun v => { v with failCode := 1#8 }).bump .pmSelftestFail (pmIdx pm) 1).raise 0x0D03 (pmIdx pm) 1 →
    (u.post pm).role = .active → u.qualifies (pmOther pm) = true → u.newImagePm pm = false →
    exec (.postmasterFailure pm .sram) s = .next (u.takeOver pm)) ∧
  -- pm_failHeadless
  (∀ (s u : State) (pm : Pm), (s.post pm).role = .active →
    u = ((s.modPost pm fun v => { v with failCode := 2#8 }).bump .pmSelftestFail (pmIdx pm) 2).raise 0x0D03 (pmIdx pm) 2 →
    (u.post pm).role = .active → u.qualifies (pmOther pm) = false →
    exec (.postmasterFailure pm .core) s = .next (u.modPost pm fun v => { v with role := .failed }).goHeadless) ∧
  -- pm_itemPassed
  (∀ (s : State) (pm : Pm), (s.post pm).role = .standby → (s.post pm).items.contains 0 = false →
    ((s.cycleItems false).all ((s.post pm).items ++ [0]).contains) = false →
    exec (.selftestItem pm .sram true) s = .next (s.setPost pm { s.post pm with items := (s.post pm).items ++ [0] })) ∧
  -- pm_cycle
  (∀ (s : State) (pm : Pm), (s.post pm).role = .active → (s.post pm).items = [1, 2] → (s.post pm).itemFailed = false →
    exec (.selftestItem pm .arbiterPath true) s = .next (s.setPost pm { s.post pm with
      items := [], itemFailed := false, cycles := (s.post pm).cycles + 1#32, selftestOk := true })) ∧
  -- pm_health
  (∀ (s : State) (pm : Pm) (temp : Byte), (s.post pm).role ≠ .off → s.domain (pmDomain pm) = true →
    exec (.healthWrite pm temp) s = .next (s.modPost pm fun v =>
      { v with health := s.healthWord pm temp, healthAt := some s.up, temp := temp })) ∧
  -- pm_healthFields
  (∀ (s : State) (pm : Pm) (temp : Byte),
    bits (s.healthWord pm temp).toNat 63 32 = (s.post pm).cycles.toNat ∧ bits (s.healthWord pm temp).toNat 31 29 = (s.post pm).role.code ∧
    bits (s.healthWord pm temp).toNat 28 28 = b2n (s.post pm).synced ∧ bits (s.healthWord pm temp).toNat 27 27 = b2n (s.post pm).selftestOk ∧
    bits (s.healthWord pm temp).toNat 26 24 = 0 ∧ bits (s.healthWord pm temp).toNat 23 16 = (s.post pm).failCode.toNat ∧
    bits (s.healthWord pm temp).toNat 7 0 = temp.toNat)

/-- The settings store and the image banks. Next states of the IMAGE.WRITE, IMAGE.VERIFY and IMAGE.LIST letters, of flash
writes and verifications, and of saved settings. (R5, R418, R420, R421, R424, R426, R429, R430, R520) -/
def Obligations.SettingsStoreAndImageBanks : Prop :=
  -- im_write0
  (∀ (s : State) (l : LetterId) (part bank : W32) (offset : W64) (data : ListArg Byte) (d : List Byte),
    Claimed s l 0x1101 [p4 part, p4 bank, p8 offset, pL data] → part.toNat ≤ 5 → bank = 0#32 ∨ bank = 1#32 → offset = 0#64 →
    data.count.toNat % 4096 = 0 → 4096 ≤ data.count.toNat → data.count.toNat ≤ 16777216 → part.toNat ≠ 3 ∨ s.variant.envelope = true →
    s.bankState part.toNat (bank = 1#32) ≠ .armed → s.bankState part.toNat (bank = 1#32) ≠ .rolling →
    s.activeBank part.toNat ≠ decide (bank = 1#32) → data.items = some d → d.length ≤ leAt d 24 4 →
    ∃ t, exec (.imageWrite l part bank offset data) s = .next t ∧
      (headerRefusal s.variant part.toNat d = none →
        Accepted s ((s.writeBank part.toNat (bank = 1#32) 0 d).flashJob (.image l part.toNat (bank = 1#32))) t l .done
          (layBody [p4 part, p4 bank, p8 offset, pL data]) true) ∧
      (∀ r, headerRefusal s.variant part.toNat d = some r →
        ∃ u, t = u.bump .imgRefused part.toNat ∧ Rejected s u l r.status r.param)) ∧
  -- im_writeOn
  (∀ (s : State) (l : LetterId) (part bank : W32) (offset : W64) (data : ListArg Byte) (d : List Byte),
    Claimed s l 0x1101 [p4 part, p4 bank, p8 offset, pL data] → part.toNat ≤ 5 → bank = 0#32 ∨ bank = 1#32 → offset ≠ 0#64 → offset.toNat % 4096 = 0 →
    data.count.toNat % 4096 = 0 → 4096 ≤ data.count.toNat → data.count.toNat ≤ 16777216 → part.toNat ≠ 3 ∨ s.variant.envelope = true →
    s.bankState part.toNat (bank = 1#32) = .writing → s.activeBank part.toNat ≠ decide (bank = 1#32) →
    offset.toNat + data.count.toNat ≤ (s.bank part.toNat (bank = 1#32)).length →
    (coveredBlocks offset.toNat data.count.toNat).any (s.bank part.toNat (bank = 1#32)).blocks.contains = false → data.items = some d →
    ∃ t, exec (.imageWrite l part bank offset data) s = .next t ∧
      Accepted s ((s.writeBank part.toNat (bank = 1#32) offset.toNat d).flashJob (.image l part.toNat (bank = 1#32))) t l .done
        (layBody [p4 part, p4 bank, p8 offset, pL data]) true) ∧
  -- im_writeActive
  (∀ (s : State) (l : LetterId) (part bank : W32) (offset : W64) (data : ListArg Byte),
    Claimed s l 0x1101 [p4 part, p4 bank, p8 offset, pL data] → part.toNat ≤ 5 → bank = 0#32 ∨ bank = 1#32 → offset = 0#64 →
    data.count.toNat % 4096 = 0 → 4096 ≤ data.count.toNat → data.count.toNat ≤ 16777216 → part.toNat ≠ 3 ∨ s.variant.envelope = true →
    s.bankState part.toNat (bank = 1#32) ≠ .armed → s.bankState part.toNat (bank = 1#32) ≠ .rolling →
    s.activeBank part.toNat = decide (bank = 1#32) →
    ∃ t, exec (.imageWrite l part bank offset data) s = .next t ∧ Rejected s t l .notPermitted 1) ∧
  -- im_flashed
  (∀ (s t : State) (l : LetterId) (part : Nat) (b : Bool),
    s.takeJob (fun j => match j with | .image .. => true | _ => false) = some (.image l part b, t) →
    s.pm.active.isSome = true →
    exec (.flashWriteComplete true) s = .next (t.release l) ∧ exec (.flashWriteComplete false) s = .next (t.internalFault l 2 0 true)) ∧
  -- im_verify
  (∀ (s : State) (l : LetterId) (part bank : W32), Claimed s l 0x1102 [p4 part, p4 bank] → part.toNat ≤ 5 →
    bank = 0#32 ∨ bank = 1#32 → part.toNat ≠ 3 ∨ s.variant.envelope = true →
    s.bankState part.toNat (bank = 1#32) = .writing ∨ s.bankState part.toNat (bank = 1#32) = .verified →
    ∃ t, exec (.imageVerify l part bank) s = .next t ∧
      Accepted s (s.flashJob (.verify l part.toNat (bank = 1#32))) t l .done (layBody [p4 part, p4 bank]) true) ∧
  -- im_verified
  (∀ (s t : State) (l : LetterId) (part : Fin 6) (b : Bool),
    s.takeJob (fun j => match j with | .verify _ q c => decide (q = part.val) && c == b | _ => false) = some (.verify l part b, t) →
    s.pm.active.isSome = true →
    exec (.imageVerifyComplete part b) s = .next (match (s.bank part b).verify part with
      | none => (if (s.bank part b).st = .writing then t.setBankState part b .verified else t).release l
      | some sub => ((t.modReceipt l fun r =>
          { r with status := .malformed, subcode := BitVec.ofNat 16 sub, applied := [] }).bump .imgVerifyFail part).release l)) ∧
  -- im_headless
  (∀ (s : State) (part : Fin 6) (bankB ok : Bool), s.pm.active = none →
    exec (.imageVerifyComplete part bankB) s = .next s ∧ exec .rolloutStepEnd s = .next s ∧ exec .rolloutStepTimeout s = .next s) ∧
  -- im_verifyIncomplete
  (∀ (v : Bank) (part : Nat),
    (List.range (v.length / 4096)).all (fun i => v.blocks.contains i) = false → v.verify part = some 9) ∧
  -- im_list
  (∀ (s : State) (l : LetterId), Claimed s l 0x1105 [] →
    ∃ t, exec (.imageList l) s = .next t ∧ Accepted s s t l .done ((Config.imageList ((List.range 12).map fun i =>
        ((s.bankState (i / 2) (decide (i % 2 = 1))).code, (s.bank (i / 2) (decide (i % 2 = 1))).version,
          (s.bank (i / 2) (decide (i % 2 = 1))).le 16 2)) s.images.act.st.code s.images.act.step).take 224)) ∧
  -- im_save
  (∀ (s : State) (l : LetterId), Claimed s l 0x0107 [] →
    ∃ t, exec (.moduleSaveSettings l) s = .next t ∧ Accepted s (s.saveBody (some l) s.settings) t l .done [] true) ∧
  -- im_saved
  (∀ (s t : State) (l : Option LetterId) (n : Nat) (r : SettingsRecord) (m : Bool) (u : SettingsRecord),
    s.pm.active ≠ none → s.takeJob (fun j => match j with | .settings .. => true | _ => false) = some (.settings l n r m, t) → m = false →
    u = SettingsRecord.seal { r with generation := t.nextGeneration, valid := true } →
    exec (.settingsSaveComplete true) s = .next (((t.setSettingsSlot (t.saveSlot r.version (t.settingsMin t.activeImage)) u).bump
      .settingsSaves).release? l)) ∧
  -- im_saveHeadless
  (∀ (s : State) (ok : Bool), s.pm.active = none → exec (.settingsSaveComplete ok) s = .next s) ∧
  -- im_recordBytes
  (∀ (r : SettingsRecord), r.seal.bytes.take 16 = leBytes 0x53545347 4 ++ leBytes r.version.toNat 2 ++ leBytes 0 2 ++
    leBytes r.generation.toNat 4 ++ leBytes (Config.settingsBody r.version r.body).length 4 ∧
    r.seal.check = BitVec.ofNat 32 (crc32c 0xFFFFFFFF (r.seal.bytes.take 16 ++ Config.settingsBody r.version r.body))) ∧
  -- im_saveFails
  (∀ (s t : State) (l : LetterId) (n : Nat) (r : SettingsRecord) (m : Bool),
    s.pm.active ≠ none → s.takeJob (fun j => match j with | .settings .. => true | _ => false) = some (.settings (some l) n r m, t) →
    exec (.settingsSaveComplete false) s = .next ((t.setSettingsSlot (t.saveSlot r.version (t.settingsMin t.activeImage))
      (SettingsRecord.seal { r with generation := t.nextGeneration, valid := false })).internalFault l 2 0 true)) ∧
  -- im_slotOlder
  (∀ (s : State) (a b : SettingsRecord) (version : BitVec 16) (low : Nat), s.validSlot 0 = some a → s.validSlot 1 = some b →
    a.version = b.version → s.saveSlot version low = if seqNewer a.generation b.generation then 1 else 0) ∧
  -- im_slotOwn
  (∀ (s : State) (a b : SettingsRecord) (low : Nat), s.validSlot 0 = some a → s.validSlot 1 = some b →
    a.version ≠ b.version → s.saveSlot a.version low = 0 ∧ s.saveSlot b.version low = 1) ∧
  -- im_slotInvalid
  (∀ (s : State) (a : SettingsRecord) (version : BitVec 16) (low : Nat), s.validSlot 0 = some a → s.validSlot 1 = none →
    s.saveSlot version low = 1) ∧
  -- im_takeOwn
  (∀ (s : State) (b : Bool) (r : SettingsRecord),
    newestRecord (s.validRecords.filter fun r => r.version.toNat = (s.settingsVersion b).toNat) = some r →
    s.takeSettings b = some (r.body, false))

/-- The activation of an image, its roll-out and roll-back. Next states of IMAGE.ACTIVATE and IMAGE.ABORT, of the
activation's start, and of its steps' ends and timeouts. (R5, R423, R424, R426) -/
def Obligations.ImageActivations : Prop :=
  -- im_activate
  (∀ (s : State) (l : LetterId) (parts : W32) (t : TimeParam), Claimed s l 0x1103 [p4 parts, pT t] → parts.toNat ≤ 63 →
    bit parts.toNat 3 = false ∨ s.variant.envelope = true → badTime t = false → farTime s t = false → pastTime s t = false →
    s.images.act.st = .none ∨ s.images.act.st = .done ∨ s.images.act.st = .rolledBack →
    (∀ p ∈ maskBits parts.toNat 6, s.bankState p (!s.activeBank p) = .verified) → s.activateMismatch parts.toNat = false →
    ((bit parts.toNat 1 && s.clerks.modeP) || (bit parts.toNat 2 && !s.clerks.modeP) || (bit parts.toNat 1 && bit parts.toNat 2)) = false →
    schedT t ≠ 0 →
    ∃ u, exec (.imageActivate l parts t) s = .next u ∧ Accepted s ((s.newBanks (BitVec.ofNat 6 parts.toNat) .armed).modAct fun _ =>
      { st := .armed, parts := BitVec.ofNat 6 parts.toNat, t := schedT t }) u l .scheduled (layBody [p4 parts, pT t])) ∧
  -- im_activateNow
  (∀ (s : State) (l : LetterId) (parts : W32) (t : TimeParam), Claimed s l 0x1103 [p4 parts, pT t] → parts.toNat ≤ 63 →
    bit parts.toNat 3 = false ∨ s.variant.envelope = true → badTime t = false → farTime s t = false → pastTime s t = false →
    s.images.act.st = .none ∨ s.images.act.st = .done ∨ s.images.act.st = .rolledBack →
    (∀ p ∈ maskBits parts.toNat 6, s.bankState p (!s.activeBank p) = .verified) → s.activateMismatch parts.toNat = false →
    ((bit parts.toNat 1 && s.clerks.modeP) || (bit parts.toNat 2 && !s.clerks.modeP) || (bit parts.toNat 1 && bit parts.toNat 2)) = false →
    schedT t = 0 →
    ∃ u, exec (.imageActivate l parts t) s = .next u ∧ Accepted s ((s.newBanks (BitVec.ofNat 6 parts.toNat) .armed).modAct fun _ =>
      { st := .armed, parts := BitVec.ofNat 6 parts.toNat, t := 0 }).startRollout u l .scheduled (layBody [p4 parts, pT t])) ∧
  -- im_abortArmed
  (∀ (s : State) (l : LetterId) (parts : W32), Claimed s l 0x1104 [p4 parts] → parts.toNat ≤ 63 →
    bit parts.toNat 3 = false ∨ s.variant.envelope = true → s.images.act.st = .armed →
    s.images.act.parts &&& BitVec.ofNat 6 parts.toNat ≠ 0#6 →
    ∃ t, exec (.imageAbort l parts) s = .next t ∧ Accepted s ((s.newBanks s.images.act.parts .verified).modAct fun _ => {}) t l .done
      (layBody [p4 parts])) ∧
  -- im_abortRolling
  (∀ (s : State) (l : LetterId) (parts : W32), Claimed s l 0x1104 [p4 parts] → parts.toNat ≤ 63 →
    bit parts.toNat 3 = false ∨ s.variant.envelope = true → s.images.act.st = .rolling →
    s.images.act.parts &&& BitVec.ofNat 6 parts.toNat ≠ 0#6 →
    ∃ t, exec (.imageAbort l parts) s = .next t ∧ Accepted s s.rollBack t l .done (layBody [p4 parts])) ∧
  -- im_start
  (∀ (s : State), s.images.act.st = .armed → s.images.act.t ≤ s.units → s.pm.active.isSome = true →
    exec .activationStart s = .next s.startRollout) ∧
  -- im_startLater
  (∀ (s : State), s.units < s.images.act.t → exec .activationStart s = .next s) ∧
  -- im_stepEnd
  (∀ (s : State), s.images.act.st = .rolling → s.images.act.step ≠ 4 → s.stepEnded = true →
    s.pm.active.isSome = true →
    exec .rolloutStepEnd s = .next ((s.leaveStep.modAct fun a => { a with moved := a.moved ||| partBit a.parts a.step }).nextStep
      (s.images.act.step + 1))) ∧
  -- im_framer
  (∀ (s : State), s.images.act.st = .rolling → s.images.act.step = 4 → s.images.act.sub < 11 → s.stepEnded = true →
    s.pm.active.isSome = true →
    exec .rolloutStepEnd s = .next (s.modAct fun a => { a with sub := a.sub + 1, since := s.up })) ∧
  -- im_stepBusy
  (∀ (s : State), s.stepEnded = false → exec .rolloutStepEnd s = .next s) ∧
  -- im_stepFails
  (∀ (s : State), s.images.act.st = .rolling → s.stepFailed = true →
    s.pm.active.isSome = true → exec .rolloutStepTimeout s = .next s.rollBack) ∧
  -- im_stepInTime
  (∀ (s : State), s.stepFailed = false → exec .rolloutStepTimeout s = .next s) ∧
  -- im_finish
  (∀ (s : State), s.finishRollout.images.act.st = .done) ∧
  -- im_newestBootRecord
  (∀ (s : State), s.images.boot0.valid = true → s.images.boot1.valid = true →
    seqNewer s.images.boot1.generation s.images.boot0.generation = true → s.bootRecord = s.images.boot1)

/-- The counter sweep, counter reads and snapshots. Next states of the sweep, of TELEMETRY.READ_COUNTERS and of snapshots.
(R433, R438, R439, R440, R441, R442, R443) -/
def Obligations.CounterSweepAndReads : Prop :=
  -- tl_sweepStart
  (∀ (s : State), s.powered = true → s.tel.sweep = none → s.crossed 8000000 = true → s.tel.sweepAt ≠ some s.up →
    exec .sweepStart s = .next { s with tel := { s.tel with sweep := some 0, sweepAt := some s.up } }) ∧
  -- tl_sweepNotYet
  (∀ (s : State), s.crossed 8000000 = false → exec .sweepStart s = .next s) ∧
  -- tl_sweeping
  (∀ (s : State) (i : Nat), s.tel.sweep = some i → exec .sweepStart s = .next s) ∧
  -- tl_sweepRead
  (∀ (s : State) (i t : Nat), s.tel.sweep = some i → i + 1 < 1572864 → s.tel.sweepAt = some t → t + 5 * i ≤ s.up →
    exec .sweepRead s = .next { s with tel := { s.tel with
      bank := nset {} i {} s.tel.bank
      acc := nset {} i { (s.accum i).with i (s.bankCount i) with stamp := some s.ns } s.tel.acc
      sweep := some (i + 1) } }) ∧
  -- tl_sweepPaced
  (∀ (s : State) (i t : Nat), s.tel.sweep = some i → s.tel.sweepAt = some t → s.up < t + 5 * i →
    exec .sweepRead s = .next s) ∧
  -- tl_sweepLast
  (∀ (s : State) (t : Nat), s.tel.sweep = some 1572863 → s.tel.sweepAt = some t → t + 7864315 ≤ s.up →
    exec .sweepRead s = .next (State.bump { s with tel := { s.tel with
      bank := nset {} 1572863 {} s.tel.bank
      acc := nset {} 1572863 { (s.accum 1572863).with 1572863 (s.bankCount 1572863) with stamp := some s.ns } s.tel.acc
      sweep := none } } .telSweeps)) ∧
  -- tl_noSweep
  (∀ (s : State), s.tel.sweep = none → exec .sweepRead s = .next s) ∧
  -- tl_accumulate
  (∀ (a : Accum) (i : Nat) (c : Count), i ≠ Fam.writeBehindPeak.base →
    (a.with i c).count = (a.count + c.count) % 2 ^ 56 ∧ (a.with i c).sum = (a.sum + c.sum) % 2 ^ 72) ∧
  -- tl_bump
  (∀ (s : State) (f : Fam) (obj elem n v : Nat), obj < f.objs → elem < f.elems → (s.bump f obj elem n v).bankCount
    (f.base + obj * f.elems + elem) = {
      count := ((s.bankCount (f.base + obj * f.elems + elem)).count + n) % 2 ^ 32
      sum := ((s.bankCount (f.base + obj * f.elems + elem)).sum + v) % 2 ^ 40 }) ∧
  -- tl_read
  (∀ (s : State) (l : LetterId) (first count : W32) (result : W64), Claimed s l 0x1201 [p4 first, p4 count, p8 result] →
    1 ≤ count.toNat → count.toNat ≤ 65536 → first.toNat + count.toNat ≤ 1572864 →
    (∀ k < count.toNat, s.mayRead l.slice (first.toNat + k) = true) →
    ∃ t, exec (.telemetryReadCounters l first count result true) s = .next t ∧
      Accepted s ((s.hostWrite l.slice result ((List.range count.toNat).flatMap fun k => counterEntry (s.accum (first.toNat + k)).count
        (s.accum (first.toNat + k)).sum (s.accum (first.toNat + k)).stamp (first.toNat + k))).clearPeaks first.toNat count.toNat) t l .done []) ∧
  -- tl_readForeign
  (∀ (s : State) (l : LetterId) (first count : W32) (result : W64), Claimed s l 0x1201 [p4 first, p4 count, p8 result] →
    1 ≤ count.toNat → count.toNat ≤ 65536 → first.toNat < 1572864 → first.toNat < 131072 → l.slice.val ≠ 0 →
    ∃ t, exec (.telemetryReadCounters l first count result true) s = .next t ∧ Rejected s t l .noSuchObject 0) ∧
  -- tl_snapshot
  (∀ (s : State) (l : LetterId) (ranges : ListArg W64) (result : W64) (rs : List W64),
    Claimed s l 0x1202 [pL ranges, p8 result] → 1 ≤ ranges.count.toNat → ranges.count.toNat ≤ 64 → ranges.items = some rs →
    rs.any badRange = false → rs.foldl (fun n r => n + rangeCount r) 0 ≤ 16384 → (∀ r ∈ rs, s.noRange l.slice r = false) →
    s.tel.snapshot = none → ∃ t, exec (.telemetrySnapshot l ranges result) s = .next t ∧
      Accepted s { s with tel := { s.tel with snapshot := some { letter := l, ts := s.snapshotTime, ranges := rs, result := result } } } t l .done
        (leBytes (time96 (s.snapshotTime * 65536)) 16) true) ∧
  -- tl_snapshotBusy
  (∀ (s : State) (l : LetterId) (ranges : ListArg W64) (result : W64) (rs : List W64),
    Claimed s l 0x1202 [pL ranges, p8 result] → 1 ≤ ranges.count.toNat → ranges.count.toNat ≤ 64 → ranges.items = some rs →
    rs.any badRange = false → rs.foldl (fun n r => n + rangeCount r) 0 ≤ 16384 → rs.any (fun r => s.noRange l.slice r) = false →
    s.tel.snapshot.isSome = true → ∃ t, exec (.telemetrySnapshot l ranges result) s = .next t ∧ Rejected s t l .busy 255) ∧
  -- tl_snapshotTime
  (∀ (s : State), s.snapshotTime % 10000 = 0 ∧ s.units + 10000 * 65536 ≤ s.snapshotTime * 65536 ∧
    s.snapshotTime * 65536 < s.units + 20000 * 65536) ∧
  -- tl_latch
  (∀ (s u : State) (p : Snapshot) (bytes : List Byte), s.latchSnapshot = u → u.tel.snapshot = some p →
    p.latched = some bytes → u.mayRequest p.letter.slice = true →
    exec .snapshotLatch s = .next (((State.hostWrite { u with tel := { u.tel with snapshot := none } } p.letter.slice p.result bytes).bump
      .telSnapshots).release p.letter)) ∧
  -- tl_latchTs
  (∀ (s t : State) (p : Snapshot), s.tel.snapshot = some p → p.latched = none → p.ts ≤ s.ns →
    t = p.ranges.foldl (fun t r => if rangeSpace r = 0 then t.clearPeaks (rangeFirst r) (rangeCount r) else t) s →
    s.latchSnapshot = { t with tel := { t.tel with snapshot := some { p with
      latched := some (p.ranges.flatMap fun r => s.latchRange p.ts r) } } }) ∧
  -- tl_latchOnce
  (∀ (s : State) (p : Snapshot), s.tel.snapshot = some p → p.latched.isSome = true → s.latchSnapshot = s) ∧
  -- tl_latchEarly
  (∀ (s : State) (p : Snapshot), s.tel.snapshot = some p → p.latched = none → s.ns < p.ts →
    exec .snapshotLatch s = .next s) ∧
  -- tl_sparseExcess
  (∀ (s : State) (ts obj : Nat), (s.sparseValue ts 0x0C obj).1 =
    (((s.accum (qDeqIndex obj)).with (qDeqIndex obj) (s.bankCount (qDeqIndex obj))).count + 2 ^ 56 - (s.sparseValue ts 0x0B obj).1) % 2 ^ 56) ∧
  -- tl_sparseEntry
  (∀ (s : State) (ts fam obj : Nat) (a : Accum), fam ≠ 0x0C → nfind s.tel.sparse (sparseKey fam obj) = some a →
    s.sparseValue ts fam obj = (a.count, a.sum, a.stamp)) ∧
  -- tl_sparseNone
  (∀ (s : State) (ts fam obj : Nat), fam ≠ 0x0C → nfind s.tel.sparse (sparseKey fam obj) = none →
    s.sparseValue ts fam obj = (0, 0, none))

/-- Tagging and tracing. Next states of TELEMETRY.SET_TAGGING, SET_TRACE and READ_TRACE. (R444, R445, R447) -/
def Obligations.TaggingAndTracing : Prop :=
  -- tl_tagging
  (∀ (s : State) (l : LetterId) (ratio : W32), Claimed s l 0x1203 [p4 ratio] → s.variant.ledger = false →
    1 ≤ ratio.toNat → ratio.toNat ≤ 65536 → ∃ t, exec (.telemetrySetTagging l ratio) s = .next t ∧
      Accepted s { s with tel := { s.tel with ratio := ratio.toNat } } t l .done (layBody [n4 ratio.toNat])) ∧
  -- tl_taggingClamped
  (∀ (s : State) (l : LetterId) (ratio : W32), Claimed s l 0x1203 [p4 ratio] → s.variant.ledger = false →
    65536 < ratio.toNat → ratio.toNat ≠ 4294967295 → ∃ t, exec (.telemetrySetTagging l ratio) s = .next t ∧
      AcceptedClamped s { s with tel := { s.tel with ratio := 65536 } } t l .done (layBody [n4 65536]) 0) ∧
  -- tl_taggingAbsent
  (∀ (s : State) (l : LetterId) (ratio : W32), Claimed s l 0x1203 [p4 ratio] → s.variant.ledger = true →
    ∃ t, exec (.telemetrySetTagging l ratio) s = .next t ∧ Rejected s t l .noSuchObject 0) ∧
  -- tl_trace
  (∀ (s : State) (l : LetterId) (benches filter mode : W32), Claimed s l 0x1204 [p4 benches, p4 filter, p4 mode] →
    s.variant.ledger = true → bits filter.toNat 20 0 = 0 → bits filter.toNat 22 21 ≠ 3 → mode.toNat ≤ 2 →
    bit filter.toNat 23 = false ∨ bits filter.toNat 31 24 ≤ 191 →
    ∃ t, exec (.telemetrySetTrace l benches filter mode) s = .next t ∧
      Accepted s { s with tel := { s.tel with
        benches := benches, filter := filter, mode := mode.toNat, recording := if mode = 0#32 then s.tel.recording else mode.toNat } } t l .done
        (layBody [p4 benches, p4 filter, p4 mode])) ∧
  -- tl_traceAbsent
  (∀ (s : State) (l : LetterId) (benches filter mode : W32), Claimed s l 0x1204 [p4 benches, p4 filter, p4 mode] →
    s.variant.ledger = false → bits filter.toNat 20 0 = 0 → bits filter.toNat 22 21 ≠ 3 → mode.toNat ≤ 2 →
    ∃ t, exec (.telemetrySetTrace l benches filter mode) s = .next t ∧ Rejected s t l .noSuchObject 0) ∧
  -- tl_readTrace
  (∀ (s : State) (l : LetterId) (result : W64), Claimed s l 0x1205 [p8 result] →
    ∃ t, exec (.telemetryReadTrace l result true) s = .next t ∧ Accepted s (s.hostWrite l.slice result s.traceBytes).emptyTrace t l .done []) ∧
  -- tl_traceBytes
  (∀ (s : State) (n : Nat), n = s.tel.trace.length * 2 ^ 224 + s.sec % 2 ^ 32 * 2 ^ 192 + s.nsec * 2 ^ 160 +
      s.tel.skipped % 2 ^ 32 * 2 ^ 128 + b2n (!s.variant.ledger) * 2 ^ 120 → s.variant.ledger = true →
    s.traceBytes = leBytes n 32 ++ s.tel.trace.flatMap fun e => leBytes e.toNat 32) ∧
  -- tl_tagBytes
  (∀ (s : State) (n : Nat), n = s.tel.tags.length * 2 ^ 224 + s.sec % 2 ^ 32 * 2 ^ 192 + s.nsec * 2 ^ 160 +
      s.tel.skipped % 2 ^ 32 * 2 ^ 128 + b2n (!s.variant.ledger) * 2 ^ 120 → s.variant.ledger = false →
    s.traceBytes = leBytes n 32 ++ s.tel.tags.flatMap fun e => leBytes e.toNat 32) ∧
  -- tl_emptied
  (∀ (s : State), s.variant.ledger = true →
    s.emptyTrace = { s with tel := { s.tel with trace := [], skipped := 0 } }) ∧
  -- tl_tagsEmptied
  (∀ (s : State), s.variant.ledger = false →
    s.emptyTrace = { s with tel := { s.tel with tags := [], skipped := 0 } }) ∧
  -- tl_circular
  (∀ (s : State) (r : BitVec 256), s.tel.recording = 1 → s.tel.trace.length = 65536 →
    (s.addTrace r).tel.trace = s.tel.trace.drop 1 ++ [r]) ∧
  -- tl_stopsFull
  (∀ (s : State) (r : BitVec 256), s.tel.recording = 2 → 65536 ≤ s.tel.trace.length → s.addTrace r = s)

/-- The PMBus reads and the clearing of faults. Next states of the PMBus reads: the register that holds the read's answer,
and PMBUS_CLEAR_FAULTS. (R463) -/
def Obligations.PmbusReads : Prop :=
  -- pw_readVin
  (∀ (s : State), s.hkAnswers = true →
    exec .readVin s = .next { s with power := { s.power with pmbusData := some (Config.linear11 s.power.vin) } }) ∧
  -- pw_readIin
  (∀ (s : State), s.hkAnswers = true →
    exec .readIin s = .next { s with power := { s.power with pmbusData := some (Config.linear11 s.power.iin.toNat) } }) ∧
  -- pw_readPin
  (∀ (s : State), s.hkAnswers = true →
    exec .readPin s = .next { s with power := { s.power with pmbusData := some (Config.linear11 (100 * s.power.pin)) } }) ∧
  -- pw_readTemp1
  (∀ (s : State), s.hkAnswers = true →
    exec .readTemperature1 s = .next { s with power := { s.power with pmbusData := some (Config.linear11 (1000 * s.hottestDie)) } }) ∧
  -- pw_readTemp2
  (∀ (s : State), s.hkAnswers = true →
    exec .readTemperature2 s = .next { s with power := { s.power with pmbusData := some (Config.linear11 (1000 * s.hottestStack)) } }) ∧
  -- pw_revision
  (∀ (s : State), s.hkAnswers = true →
    exec .pmbusRevision s = .next { s with power := { s.power with pmbusData := some 0x33#16 } }) ∧
  -- pw_statusWord
  (∀ (s : State), s.hkAnswers = true → ∃ w, w = statusOf [(8, s.latched 0 || s.latched 1 || s.latched 2),
    (9, s.latched 3 || s.latched 4 || s.latched 5), (6, s.latched 6), (7, s.pmbusCond 7)] ∧
    exec .statusWord s = .next { s with power := { s.power with pmbusData := some w } }) ∧
  -- pw_statusInput
  (∀ (s : State), s.hkAnswers = true → ∃ w, w = statusOf [(0, s.latched 0), (1, s.latched 1), (2, s.latched 2)] ∧
    exec .statusInput s = .next { s with power := { s.power with pmbusData := some w } }) ∧
  -- pw_statusTemp
  (∀ (s : State), s.hkAnswers = true → ∃ w, w = statusOf [(3, s.latched 3), (4, s.latched 4), (5, s.latched 5)] ∧
    exec .statusTemperature s = .next { s with power := { s.power with pmbusData := some w } }) ∧
  -- pw_fru
  (∀ (s : State) (offset : BitVec 13), s.hkAnswers = true → exec (.fruEepromRead offset) s =
    .next { s with power := { s.power with pmbusData := some ((Config.fruByte offset.toNat).setWidth 16) } }) ∧
  -- pw_unsupported
  (∀ (s : State) (code : Byte), s.hkAnswers = true → s.power.pmbus.contains 6 = false →
    exec (.pmbusUnsupported code) s = .next { s with power := { s.power with pmbus := 6 :: s.power.pmbus, pmbusData := none } }) ∧
  -- pw_clear
  (∀ (s : State), s.hkAnswers = true →
    exec .pmbusClearFaults s = .next { s with power := { s.power with pmbus := s.power.pmbus.filter s.pmbusCond } }) ∧
  -- pw_nack
  (∀ (s : State) (code : Byte) (offset : BitVec 13), s.hkAnswers = false →
    ∃ t, t = { s with power := { s.power with pmbusData := none } } ∧ exec .readVin s = .next t ∧ exec .readIin s = .next t ∧
      exec .readPin s = .next t ∧ exec .readTemperature1 s = .next t ∧ exec .readTemperature2 s = .next t ∧ exec .pmbusRevision s = .next t ∧
      exec .statusWord s = .next t ∧ exec .statusInput s = .next t ∧ exec .statusTemperature s = .next t ∧
      exec (.fruEepromRead offset) s = .next t)

/-- The input, the rails and the protections. Next states at input rise, housekeeping boot, the input bands, lockout,
shutdown, recovery, PWR_EN and power good. (R450, R455, R460, R462, R470, R471) -/
def Obligations.InputAndRails : Prop :=
  -- pw_rise
  (∀ (s t : State), s.power.aon = false → s.power.overVolt = false →
    t = { s with power := { s.power with
      aon := true, riseAt := s.up, cause := 1#9, overVolt := false, overSince := none, thermalOff := false, thermalArmed := false,
      pmbus := [], pmbusData := none, vin := max s.power.vin 35000 } } →
    exec .inputRise s = .next t.inputFaults) ∧
  -- pw_hkBoot
  (∀ (s : State), s.power.aon = true → s.power.hkUp = false →
    exec .housekeepingBoot s = .next ((s.setDomain 0 true).modPower fun p => { p with hkUp := true, hkAt := p.riseAt }).startRails) ∧
  -- pw_band
  (∀ (s : State) (mv : BitVec 17), exec (.inputVoltageBand mv) s = .next ((s.modPower fun p => { p with
    vin := mv.toNat, overSince := if p.overVolt ∧ mv.toNat ≤ 76000 then some (p.overSince.getD s.up) else none }).inputFaults.latchStatus)) ∧
  -- pw_lockout
  (∀ (s : State), s.power.aon = true →
    exec .undervoltageLockout s = .next ((s.inputOff 1).modPower fun p => { p with vin := 33000 })) ∧
  -- pw_lockoutState
  (∀ (s : State), (s.inputOff 1).power.aon = false ∧ (s.inputOff 1).power.rails = false ∧
    (s.inputOff 1).power.domains = 0#160 ∧ (s.inputOff 1).power.hkUp = false ∧ (s.inputOff 1).power.cause = s.power.cause ||| 2#9 ∧
    (s.inputOff 1).images.boot0 = s.images.boot0 ∧ (s.inputOff 1).images.slot0 = s.images.slot0 ∧ (s.inputOff 1).letters = {}) ∧
  -- pw_over
  (∀ (s : State), s.power.aon = true → exec .overvoltageShutdown s =
    .next ((s.inputOff 2).modPower fun p => { p with vin := max p.vin 80001, overVolt := true, overSince := none })) ∧
  -- pw_overRecovery
  (∀ (s : State) (since : Nat), s.power.overSince = some since → s.power.overVolt = true → since + 100000000 ≤ s.up →
    35000 ≤ s.power.vin → exec .overvoltageRecovery s = .next s.powerOn.inputFaults) ∧
  -- pw_overTooEarly
  (∀ (s : State) (since : Nat), s.power.overSince = some since → s.up < since + 100000000 →
    exec .overvoltageRecovery s = .next s) ∧
  -- pw_enable
  (∀ (s : State), s.power.pwrEn = false → s.power.hkUp = true → s.power.aon = true → s.power.rails = false →
    s.power.thermalOff = false →
    exec .pwrEnAssert s = .next { s with power := { s.power with pwrEn := true, thermalOff := false, thermalArmed := false, rising := true } }) ∧
  -- pw_disable
  (∀ (s : State), s.power.rails = true → exec .pwrEnDeassert s =
    .next ((s.railsOff 4).modPower fun p => { p with pwrEn := false, thermalArmed := p.thermalOff })) ∧
  -- pw_good
  (∀ (s : State), s.power.rising = true → exec .powerGood s = .next { s with power := { s.power with
    rails := true, rising := false, good := some s.up, stage := .reset, elapsed := none, startCause := 0 } }) ∧
  -- pw_thermal
  (∀ (s : State), 110 ≤ s.hottest → s.power.rails = true → exec .thermalShutdown s =
    .next ((s.railsOff 3).modPower fun p => { p with thermalOff := true, thermalArmed := false })) ∧
  -- pw_cool
  (∀ (s : State), s.hottest < 110 → exec .thermalShutdown s = .next s) ∧
  -- pw_railsOff
  (∀ (s : State) (k : Nat), (s.railsOff k).power.rails = false ∧ (s.railsOff k).power.domains = s.power.domains &&& 1#160 ∧
    (s.railsOff k).power.cause = s.power.cause ||| BitVec.ofNat 9 (2 ^ k) ∧ (s.railsOff k).power.aon = s.power.aon)

/-- Start-up stages, power domains, temperatures and throttling. Next states of the start-up stages, of the power domains'
switching and failure, of temperature and power checks, and of the POWER letters. (R424, R430, R457, R458, R460, R461,
R464, R466, R471, R473, R474, R513) -/
def Obligations.StartupDomainsAndThrottling : Prop :=
  -- pw_switch
  (∀ (s : State) (d : Nat) (on : Bool) (at_ : Nat) (rest : List (Nat × Bool × Nat)),
    s.power.requests = (d, on, at_) :: rest → s.powered = true → s.movingStep 3 = false → s.headless = false →
    exec .domainSwitchComplete s = .next ((s.modPower fun p => { p with requests := rest }).setDomain d on)) ∧
  -- pw_switchHeadless
  (∀ (s : State), s.headless = true → (∀ r ∈ s.power.requests, r.1 < 146) →
    exec .domainSwitchComplete s = .next s) ∧
  -- pw_requestOrder
  (∀ (d e t : Nat) (on off : Bool) (rest : List (Nat × Bool × Nat)), d < e →
    insertRequest (d, on, t) ((e, off, t) :: rest) = (d, on, t) :: (e, off, t) :: rest ∧
    (∀ u, u ≠ t → insertRequest (d, on, t) ((e, off, u) :: rest) = (e, off, u) :: insertRequest (d, on, t) rest)) ∧
  -- pw_domainFails
  (∀ (s : State) (d : Fin 148), s.variant.hasDomain d = true → d.val ≠ 0 → s.domain d = true →
    exec (.domainFailure d) s = .next ((((s.modPower fun p => { p with requests := p.requests.filter fun r => r.1 ≠ d.val }).setDomain d
      false).raise 0x1003 d).unitFails d)) ∧
  -- pw_domainAbsent
  (∀ (s : State) (d : Fin 148), s.variant.hasDomain d = false → exec (.domainFailure d) s = .fault .absentUnit) ∧
  -- pw_domainZero
  (∀ (s : State), exec (.domainFailure 0) s = .next s) ∧
  -- pw_temperature
  (∀ (s t : State) (c : BitVec 8), t = s.modPower (fun p => { p with temps := nset 0 0 c.toNat p.temps }) →
    exec (.temperatureChange (.sorter c)) s = .next ((t.modPower fun p => { p with
      thrTemp := decide (103 ≤ t.hottest) || (p.thrTemp && decide (98 < t.hottest)) }).throttleFault.latchStatus)) ∧
  -- pw_overCap
  (∀ (s : State) (v : BitVec 16), s.power.cap * 10 < v.toNat → exec (.powerCapCheck v) s =
    .next (State.throttleFault { s with power := { s.power with pin := v.toNat, thrCap := true, capLow := none } }).latchStatus) ∧
  -- pw_capEnds
  (∀ (s : State) (v : BitVec 16) (since : Nat), v.toNat ≤ s.power.cap * 10 → s.power.thrCap = true →
    v.toNat * 10 < s.power.cap * 95 → s.power.capLow = some since → since + 10000000 ≤ s.up → exec (.powerCapCheck v) s =
    .next (State.throttleFault { s with power := { s.power with pin := v.toNat, thrCap := false, capLow := none } }).latchStatus) ∧
  -- pw_throttlePin
  (∀ (s : State) (b : Bool), exec (.throttleNChange b) s =
    .next (State.throttleFault { s with power := { s.power with thrPin := b } })) ∧
  -- pw_mirror
  (∀ (s t : State) (iin : W32) (rails : List (W32 × W32)), s.power.hkUp = true → s.movingStep 2 = false →
    t = s.modPower (fun p => { p with iin := iin, railTel := rails }) → exec (.telemetryMirrorUpdate iin rails) s =
      .next (t.modPower fun p => { p with mirror := BitVec.ofNat 192 (leNat (t.powerRead.take 24)) })) ∧
  -- pw_read
  (∀ (s : State) (l : LetterId), Claimed s l 0x1301 [] → ∃ t, exec (.powerRead l) s = .next t ∧ Accepted s s t l .done s.powerRead) ∧
  -- pw_cap
  (∀ (s : State) (l : LetterId) (cap : W32), Claimed s l 0x1302 [p4 cap] → 800 ≤ cap.toNat → cap.toNat ≤ 1650 →
    ∃ t, exec (.powerSetCap l cap) s = .next t ∧
      Accepted s { s with power := { s.power with cap := cap.toNat } } t l .done (layBody [n4 cap.toNat])) ∧
  -- pw_capClamped
  (∀ (s : State) (l : LetterId) (cap : W32), Claimed s l 0x1302 [p4 cap] → cap.toNat < 800 →
    ∃ t, exec (.powerSetCap l cap) s = .next t ∧
      AcceptedClamped s { s with power := { s.power with cap := 800 } } t l .done (layBody [n4 800]) 0) ∧
  -- pw_alert
  (∀ (s : State) (l : LetterId) (low high temp : W32), Claimed s l 0x1303 [p4 low, p4 high, p4 temp] →
    36000 ≤ low.toNat → low.toNat ≤ 75000 → 36000 ≤ high.toNat → high.toNat ≤ 75000 → 70 ≤ temp.toNat → temp.toNat ≤ 105 →
    ∃ t, exec (.powerSetAlert l low high temp) s = .next t ∧
      Accepted s (State.latchStatus { s with power := { s.power with inputLow := low.toNat, inputHigh := high.toNat, tempAlert := temp.toNat } }) t l
        .done (layBody [n4 low.toNat, n4 high.toNat, n4 temp.toNat])) ∧
  -- pw_resetDone
  (∀ (s u : State), s.power.stage = .reset → s.power.rails = true → s.power.good.isSome = true → s.power.resetN = false →
    s.power.lost.getLsbD 0 = false → s.power.lost.getLsbD 2 = false →
    u = (List.range s.variant.hbmStacks).foldl (fun s i => if (s.stack i).enabled then s.askDomain (89 + i) true else s)
      (s.modPower fun p => { p with stage := .boot }).raiseD2d → (s.modPower fun p => { p with stage := .boot }).raiseD2d.variant = s.variant →
    exec .startupResetDone s = .next ((u.restartPm .a (u.activeBank 0)).restartPm .b (u.activeBank 0))) ∧
  -- pw_resetWaits
  (∀ (s : State), s.power.lost.getLsbD 0 = true ∨ s.power.lost.getLsbD 2 = true → exec .startupResetDone s = .next s) ∧
  -- pw_settings
  (∀ (s : State) (p : Pm), s.power.stage = .settings →
    ([Pm.a, Pm.b].find? fun p => (s.post p).needsSettings && decide ((s.post p).role = .syncing)) = some p →
    exec .startupSettingsDone s = .next (((s.checkDefaults (s.post p).bankB).modPower fun q => { q with stage := .build }).modPost p fun v =>
      { v with needsSettings := false })) ∧
  -- pw_apply
  (∀ (s : State), s.power.stage = .apply → s.pm.active.isSome = true →
    exec (.startupApplyDone false) s = .next (s.applySettings.modPower fun p => { p with stage := .ready, elapsed := some s.applySettings.elapsedNow })) ∧
  -- pw_applyFails
  (∀ (s : State), s.power.stage = .apply → s.pm.active.isSome = true →
    exec (.startupApplyDone true) s = .next { s with power := { s.power with stage := .failed, startCause := 5, elapsed := some s.elapsedNow } }) ∧
  -- pw_timeout
  (∀ (s : State) (good : Nat), s.power.good = some good → s.pm.active = none → s.power.stage ≠ .ready → s.power.stage ≠ .failed →
    good + 20000000000 ≤ s.up → exec .startupTimeout s = .next { s with power := { s.power with
      stage := .failed, startCause := s.power.stage.cause, elapsed := some s.elapsedNow } }) ∧
  -- pw_timeoutEarly
  (∀ (s : State) (good : Nat), s.power.good = some good → s.up < good + 20000000000 → exec .startupTimeout s = .next s)

/-- Resets, the PCI Express function and the reference clocks. Next states of RESET_N, the housekeeping watchdog, PCI
Express resets and configuration writes, and references lost and regained; what a whole-module reset leaves. (R43,
R345, R375, R385, R463, R466, R467, R468, R475) -/
def Obligations.ResetsAndReferences : Prop :=
  -- pw_resetN
  (∀ (s : State), s.power.hkUp = true →
    exec .resetNAssert s = .next ((s.modPower fun p => { p with resetN := true }).wholeReset 5)) ∧
  -- pw_wholeReset
  (∀ (s : State) (k : Nat), (s.wholeReset k).power.rails = s.power.rails ∧ (s.wholeReset k).power.stage = .reset ∧
    (s.wholeReset k).power.domains = s.power.domains &&& 1#160 ∧ (s.wholeReset k).power.cause = s.power.cause ||| BitVec.ofNat 9 (2 ^ k) ∧
    (s.wholeReset k).pm = {} ∧ (s.wholeReset k).letters = {} ∧ (s.wholeReset k).time.state = .freerun) ∧
  -- pw_resetNRelease
  (∀ (s : State), s.power.resetN = true → s.power.rails = true →
    exec .resetNRelease s = .next { s with power := { s.power with resetN := false, good := some s.up } }) ∧
  -- pw_watchdog
  (∀ (s : State), s.power.hkUp = true →
    exec .housekeepingWatchdog s = .next { s with power := { s.power with hkAt := s.up, cause := s.power.cause ||| BitVec.ofNat 9 (2 ^ 7) } }) ∧
  -- pw_pcie
  (∀ (s : State) (kind : PcieResetKind), s.power.hkUp = true → exec (.pcieReset kind) s = .next (s.pcieReset (pcieKind kind))) ∧
  -- pw_pasid
  (∀ (s : State) (on : Bool), s.power.hkUp = true → exec (.configurationWrite (.pasidEnable on)) s =
    .next { s with courier := { s.courier with pasidOn := on } }) ∧
  -- pw_maxPayload
  (∀ (s : State) (code : BitVec 3), s.power.hkUp = true → code.toNat ≤ 2 → exec (.configurationWrite (.maxPayload code)) s =
    .next { s with courier := { s.courier with maxPayload := 128 * 2 ^ code.toNat } }) ∧
  -- pw_lostRef
  (∀ (s : State) (input : RefInput), input = .ref25m ∨ input = .ref10m → s.power.lost.getLsbD (refNumber input) = false →
    s.power.hkUp = true → exec (.referenceLost input) s = .next ((s.modPower fun p => { p with
      lost := p.lost ||| BitVec.ofNat 4 (2 ^ refNumber input) }).condition 0x1005 (refNumber input) true 0 0 (some 2))) ∧
  -- pw_lostSerdes
  (∀ (s : State), s.power.lost.getLsbD 0 = false → s.power.hkUp = true → exec (.referenceLost .serdes) s =
    .next (((s.modPower fun p => { p with lost := p.lost ||| 1#4 }).condition 0x1005 0 true 0 0 (some 3)).loseSerdes)) ∧
  -- pw_lostPcie
  (∀ (s : State), s.power.lost.getLsbD 1 = false → s.power.hkUp = true → exec (.referenceLost .pcie) s =
    .next (((s.modPower fun p => { p with lost := p.lost ||| 2#4 }).condition 0x1005 1 true 0 0 (some 2)).pcieReset 2)) ∧
  -- pw_regained
  (∀ (s : State) (input : RefInput), s.power.lost.getLsbD (refNumber input) = true → exec (.referenceRegained input) s =
    .next ((s.modPower fun p => { p with lost := p.lost &&& ~~~BitVec.ofNat 4 (2 ^ refNumber input) }).clearFault 0x1005 (refNumber input)))

/-- The fault log, suppression and the FAULT letters. Next states of the FAULT letters, of the event hold-off and of the
suppression's grace. (R480, R482, R483, R484, R521) -/
def Obligations.FaultLogAndLetters : Prop :=
  -- fl_read
  (∀ (s : State) (l : LetterId) (first count : W32) (result : W64) (out : List FaultRec),
    Claimed s l 0x1401 [p4 first, p4 count, p8 result] → 1 ≤ count.toNat → count.toNat ≤ 4096 →
    out = ((s.readable l.slice).filter fun r => atOrAfter first r.record).take count.toNat → out ≠ [] →
    ∃ t, exec (.faultRead l first count result true) s = .next t ∧
      Accepted s (s.hostWrite l.slice result (out.flatMap fun r => leBytes r.word 64)) t l .done
        (n4 out.length ++ n4 (((s.readable l.slice).head?.map fun r => r.record.toNat).getD 0) ++
          n4 (((s.readable l.slice).getLast?.map fun r => r.record.toNat).getD 0) ++ n4 0)) ∧
  -- fl_readNone
  (∀ (s : State) (l : LetterId) (first count : W32) (result : W64) (ok : Bool),
    Claimed s l 0x1401 [p4 first, p4 count, p8 result] → 1 ≤ count.toNat → count.toNat ≤ 4096 → s.readable l.slice = [] →
    ∃ t, exec (.faultRead l first count result ok) s = .next t ∧ Accepted s s t l .done (n4 0 ++ n4 0 ++ n4 0 ++ n4 0)) ∧
  -- fl_readable
  (∀ (s : State) (sl : Nat) (r : FaultRec), sl ≠ 0 → r ∈ s.readable sl → r.slice = sl) ∧
  -- fl_clear
  (∀ (s : State) (l : LetterId) (code : W32) (info : FaultInfo), Claimed s l 0x1402 [p4 code] →
    faultInfo code.toNat = some info → info.latched = true →
    ∃ t, exec (.faultClear l code) s = .next t ∧
      Accepted s ((s.activeOf l.slice code.toNat).foldl State.clearRec s) t l .done (layBody [p4 code])) ∧
  -- fl_clearBusy
  (∀ (s : State) (l : LetterId) (code : W32) (info : FaultInfo), Claimed s l 0x1402 [p4 code] →
    faultInfo code.toNat = some info → info.latched = false → s.activeOf l.slice code.toNat ≠ [] →
    ∃ t, exec (.faultClear l code) s = .next t ∧ Rejected s t l .busy 0) ∧
  -- fl_clearReserved
  (∀ (s : State) (l : LetterId) (code : W32), Claimed s l 0x1402 [p4 code] → faultInfo code.toNat = none →
    ∃ t, exec (.faultClear l code) s = .next t ∧ Rejected s t l .malformed 0) ∧
  -- fl_mask
  (∀ (s : State) (l : LetterId) (code paths : W32) (info : FaultInfo), Claimed s l 0x1403 [p4 code, p4 paths] →
    faultInfo code.toNat = some info → paths.toNat ≤ 15 →
    (BitVec.ofNat 4 paths.toNat).getLsbD 0 = (BitVec.ofNat 4 info.paths).getLsbD 0 →
    (BitVec.ofNat 4 paths.toNat).getLsbD 3 = (BitVec.ofNat 4 info.paths).getLsbD 3 →
    alwaysCritical code.toNat = false ∨ (BitVec.ofNat 4 paths.toNat).getLsbD 2 = true →
    ∃ t, exec (.faultSetMask l code paths) s = .next t ∧ Accepted s { s with faults := { s.faults with
      masks := nset (BitVec.ofNat 4 info.paths) code.toNat (BitVec.ofNat 4 paths.toNat) s.faults.masks } } t l .done
        (layBody [p4 code, p4 paths])) ∧
  -- fl_maskCritical
  (∀ (s : State) (l : LetterId) (paths : W32), Claimed s l 0x1403 [p4 0x0D05#32, p4 paths] →
    paths.toNat ≤ 15 → (BitVec.ofNat 4 paths.toNat).getLsbD 2 = false →
    ∃ t, exec (.faultSetMask l 0x0D05#32 paths) s = .next t ∧ Rejected s t l .notPermitted 1) ∧
  -- fl_holdoff
  (∀ (s : State) (n : W32) (r : FaultRec) (since : Nat), s.fault? n = some r → r.suppressed = false → r.eventAt = some since →
    since + 1000000000 ≤ s.up → r.reported ≠ some (r.active, r.severity) → exec (.faultEventHoldoffExpiry n) s =
      .next ((s.setFault { r with eventAt := some s.up, reported := some (r.active, r.severity) }).sendFault r)) ∧
  -- fl_holdoffEarly
  (∀ (s : State) (n : W32) (r : FaultRec) (since : Nat), s.fault? n = some r → r.eventAt = some since →
    s.up < since + 1000000000 → exec (.faultEventHoldoffExpiry n) s = .next s) ∧
  -- fl_holdoffSame
  (∀ (s : State) (n : W32) (r : FaultRec), s.fault? n = some r → r.reported = some (r.active, r.severity) →
    exec (.faultEventHoldoffExpiry n) s = .next s) ∧
  -- fl_grace
  (∀ (s : State) (n : W32) (r : FaultRec) (since : Nat), s.fault? n = some r → r.graceAt = some since → r.active = true →
    r.suppressed = true → since + 100000000 ≤ s.up → exec (.suppressionGraceExpiry n) s =
      .next ((s.setFault { r with suppressed := false, graceAt := none, paths := s.pathsTaken r.code.toNat r.severity false }).report n)) ∧
  -- fl_graceCleared
  (∀ (s : State) (n : W32) (r : FaultRec), s.fault? n = some r → r.active = false →
    exec (.suppressionGraceExpiry n) s = .next s) ∧
  -- fl_suppressedSilent
  (∀ (s : State) (n : W32) (r : FaultRec), s.fault? n = some r → r.suppressed = true → s.report n = s) ∧
  -- fl_logFull
  (∀ (s : State) (code object detail party owner seq : Nat) (sev : Option Nat),
    (s.holdGrace code object).faults.log.find? (fun r => r.code.toNat = code && r.object.toNat = object &&
      (r.active || decide ((s.holdGrace code object).up ≤ r.clearAt + 1000000000))) = none → (s.holdGrace code object).faultRoom = none →
    (s.raise code object detail party owner seq sev).faults.logFull = true) ∧
  -- fl_recordNumber
  (∀ (r : FaultRec), r.word < 2 ^ 512 ∧ bits r.word 511 480 = r.record.toNat ∧ bits r.word 479 464 = r.code.toNat ∧
    bits r.word 463 462 = r.severity % 4 ∧ bits r.word 461 461 = b2n r.active ∧ bits r.word 439 408 = r.object.toNat ∧
    bits r.word 375 344 = r.occurrences.toNat ∧ bits r.word 319 256 = r.detail.toNat)

/-- Register reads and writes, with the fields that reads and writes change. What the identity, unit, role and reserved
words read as; next states of the register writes, of reads that clear, of the boot ring's enable and of the MSI-X
table. (R12, R14, R469, R488, R510, R512, R513, R515, R516) -/
def Obligations.RegisterAccesses : Prop :=
  -- rg_units
  (Variant.le3840.units = 0x058621FFFFFFFFFF#64 ∧ bits (Variant.units .le2560).toNat 55 51 = 11 ∧
    bits (Variant.units .le2560).toNat 39 32 = 0x3F ∧ bits (Variant.units .le1920).toNat 31 0 = 0xFFFF) ∧
  -- rg_ident
  (∀ (s : State) (m : BitVec 7), s.regs.moduleId = some m → bits s.ident.toNat 31 24 = 0x4C ∧ bits s.ident.toNat 23 16 = 0xB0 ∧
    bits s.ident.toNat 15 8 = 1 ∧ bits s.ident.toNat 7 7 = 1 ∧ bits s.ident.toNat 6 0 = m.toNat) ∧
  -- rg_noId
  (∀ (s : State), s.regs.moduleId = none → s.ident = 0x4CB00100#32) ∧
  -- rg_reserved
  (∀ (s : State) (off : Nat), off % 4 ≠ 0 → s.regWord off = 0#32) ∧
  -- rg_dieReset
  (∀ (s : State) (off : Nat), 0x10000 ≤ off → off < 0x50000 → s.power.stage = .reset → s.regWord off = 0#32) ∧
  -- rg_role
  (∀ (s : State), bits s.pmRole.toNat 31 30 = (match s.pm.active with | some p => pmIdx p | none => 2) ∧
    bits s.pmRole.toNat 29 29 = b2n s.pm.window.isSome ∧ bits s.pmRole.toNat 28 28 = b2n s.pm.planned ∧
    bits s.pmRole.toNat 27 24 = 0 ∧ bits s.pmRole.toNat 23 0 = s.pm.term.toNat) ∧
  -- rg_latch
  (∀ (s : State), s.power.hkUp = true → s.diesUp = true → exec (.timNowLatch true) s = .next { s with
    time := { s.time with latch := BitVec.ofNat 96 (time96 s.units) }
    regs := { s.regs with readData := BitVec.ofNat 64 (time96 s.units) } }) ∧
  -- rg_latchNarrow
  (∀ (s : State), s.power.hkUp = true → s.diesUp = true → exec (.timNowLatch false) s = .next { s with
    time := { s.time with latch := BitVec.ofNat 96 (time96 s.units) }
    regs := { s.regs with readData := BitVec.ofNat 64 (time96 s.units % 2 ^ 32) } }) ∧
  -- rg_counter
  (∀ (s : State), s.power.hkUp = true → s.diesUp = true → exec (.timeCounterRead .todBad) s = .next { s with
    time := { s.time with todBad := 0#32 }
    regs := { s.regs with readData := s.time.todBad.setWidth 64 } }) ∧
  -- rg_counters
  (∀ (s : State) (which : TimeCounter), s.power.hkUp = true → s.diesUp = true →
    ∃ u v, exec (.timeCounterRead which) s = .next { s with time := u, regs := { s.regs with readData := v } } ∧
      (match which with
        | .todBad => v = s.time.todBad.setWidth 64 ∧ u = { s.time with todBad := 0#32 }
        | .pcBad => v = s.time.pcBad.setWidth 64 ∧ u = { s.time with pcBad := 0#32 }
        | .epochFar => v = s.time.epochFar.setWidth 64 ∧ u = { s.time with epochFar := 0#32 }
        | .subepochSlip => v = s.time.subepochSlip.setWidth 64 ∧ u = { s.time with subepochSlip := 0#32 })) ∧
  -- rg_cause
  (∀ (s : State) (v : W32), s.power.hkUp = true → exec (.resetCauseClear v) s =
    .next { s with power := { s.power with cause := s.power.cause &&& ~~~v.setWidth 9 } }) ∧
  -- rg_logFull
  (∀ (s : State) (v : W32), s.power.hkUp = true → v.getLsbD 28 = true → exec (.logFullClear v) s =
    .next { s with faults := { s.faults with logFull := false } }) ∧
  -- rg_logFullZero
  (∀ (s : State) (v : W32), v.getLsbD 28 = false → exec (.logFullClear v) s = .next s) ∧
  -- rg_enable
  (∀ (s : State) (v : W32), s.power.hkUp = true → v.getLsbD 0 = true → (s.ring 0 0).st ≠ .running → (s.ring 0 0).st ≠ .closing →
    exec (.bootRingEnable v) s = .next s.startBoot) ∧
  -- rg_enableAgain
  (∀ (s : State) (v : W32), v.getLsbD 0 = true → (s.ring 0 0).st = .running → exec (.bootRingEnable v) s = .next s) ∧
  -- rg_disable
  (∀ (s u : State) (v : W32), s.power.hkUp = true → v.getLsbD 0 = false → (s.ring 0 0).st = .running →
    u = s.setRing 0 0 { s.ring 0 0 with st := .closing } →
    exec (.bootRingDisable v) s = .next (({ u with regs := { u.regs with enable := false } } : State).ringDrained 0 0)) ∧
  -- rg_refused
  (∀ (s : State), s.courier.pasidOn = false → s.regs.bootLetters.toNat % 4096 = 0 → s.regs.bootReceipts.toNat % 4096 = 0 →
    6 ≤ bits s.regs.bootRing.toNat 24 20 → bits s.regs.bootRing.toNat 24 20 ≤ 16 →
    (s.startBoot.ring 0 0).st = .refused ∧ s.startBoot.regs.enable = false ∧ s.startBoot.regs.refuse = 3) ∧
  -- rg_msix
  (∀ (s : State) (entry : Fin 2048) (word : Fin 4) (v : W32), s.power.hkUp = true →
    exec (.msixTableWrite entry word v) s = .next (s.writeMsix entry word v)) ∧
  -- rg_msixData
  (∀ (s : State) (entry : Fin 2048) (v : W32), s.power.hkUp = true → exec (.msixTableWrite entry 2 v) s =
    .next { s with regs := { s.regs with msix := nset 0#32 (4 * entry.val + 2) v s.regs.msix } }) ∧
  -- rg_write
  (∀ (s : State) (off : BitVec 26) (v : W64), s.power.hkUp = true → off.toNat % 4 = 0 →
    exec (.registerWrite off false v) s = .next (s.writeWord off.toNat (half v 0))) ∧
  -- rg_writeWide
  (∀ (s : State) (off : BitVec 26) (v : W64), s.power.hkUp = true → off.toNat % 8 = 0 →
    exec (.registerWrite off true v) s = .next ((s.writeWord off.toNat (half v 0)).writeWord (off.toNat + 4) (half v 1))) ∧
  -- rg_writeBad
  (∀ (s : State) (off : BitVec 26) (wide : Bool) (v : W64), off.toNat % 4 ≠ 0 →
    exec (.registerWrite off wide v) s = .next s) ∧
  -- rg_writeBootRing
  (∀ (s : State) (v : W32), (s.ring 0 0).st ≠ .running → (s.ring 0 0).st ≠ .closing →
    s.writeWord 0x30 v = { s with regs := { s.regs with bootRing := v &&& 0x1FFFFFF#32 } }) ∧
  -- rg_writeLocked
  (∀ (s : State) (v : W32), (s.ring 0 0).st = .running →
    s.writeWord 0x20 v = s ∧ s.writeWord 0x24 v = s ∧ s.writeWord 0x28 v = s ∧ s.writeWord 0x2C v = s ∧ s.writeWord 0x30 v = s) ∧
  -- rg_writeReadOnly
  (∀ (s : State) (v : W32), s.writeWord 0 v = s ∧ s.writeWord 0x10 v = s ∧ s.writeWord 0x3000 v = s ∧
    s.writeWord 0x10010 v = s ∧ s.writeWord 0x20100 v = s ∧ s.writeWord 0x40000 v = s ∧ s.writeWord 0x1008000 v = s)

/-- The MODULE letters. Next states of the accepted MODULE letters: identity, compatibility, management, rings and reset.
(R75, R77, R316, R321, R324, R341, R342, R344, R396, R427, R472, R521) -/
def Obligations.ModuleLetters : Prop :=
  -- md_identify
  (∀ (s : State) (l : LetterId), Claimed s l 0x0101 [] →
    ∃ t, exec (.moduleIdentify l) s = .next t ∧ Accepted s s t l .done (p4 s.ident ++ n4 0 ++ p8 s.variant.units ++ leBytes Config.serial.toNat 12 ++
      n4 0 ++ (List.range 6).flatMap fun p => n4 (if p = 3 ∧ ¬ s.variant.envelope then 0 else (s.bank p (s.activeBank p)).version))) ∧
  -- md_setId
  (∀ (s u : State) (l : LetterId) (m : W32), Claimed s l 0x0102 [p4 m] → m.toNat ≤ 127 →
    (∀ i < s.variant.links, (s.link i).st = .off) → s.regs.moduleId = none → s.selfIsolated = false →
    u = { s with regs := { s.regs with moduleId := some (BitVec.ofNat 7 m.toNat) } } →
    ∃ t, exec (.moduleSetId l m) s = .next t ∧ Accepted s (u.clearFault 0x0002 noObject).enableLinks.updateMap t l .done (layBody [p4 m])) ∧
  -- md_setIdAgain
  (∀ (s u : State) (l : LetterId) (m old : W32) (k : BitVec 7), Claimed s l 0x0102 [p4 m] → m.toNat ≤ 127 →
    (∀ i < s.variant.links, (s.link i).st = .off) → s.regs.moduleId = some k → s.selfIsolated = false →
    u = { s with regs := { s.regs with moduleId := some (BitVec.ofNat 7 m.toNat) } } →
    ∃ t, exec (.moduleSetId l m) s = .next t ∧ Accepted s u.updateMap t l .done (layBody [p4 m])) ∧
  -- md_setCompat
  (∀ (s : State) (l : LetterId) (low high : W32), Claimed s l 0x0103 [p4 low, p4 high] → low.toNat ≤ high.toNat →
    ∃ t, exec (.moduleSetCompat l low high) s = .next t ∧
      Accepted s (State.updateMap { s with epoch := { s.epoch with compatLow := low, compatHigh := high, compatSet := true } }) t l .done (layBody [p4 low, p4 high])) ∧
  -- md_compatRange
  (∀ (s : State) (l : LetterId) (low high : W32), Claimed s l 0x0103 [p4 low, p4 high] → high.toNat < low.toNat →
    ∃ t, exec (.moduleSetCompat l low high) s = .next t ∧ Rejected s t l .malformed 1) ∧
  -- md_mgmt
  (∀ (s : State) (l : LetterId) (a : MgmtArgs) (v : MgmtPort) (ps : List Par), v = {
      vlan := a.vlan.toNat, ipv4 := a.ipv4, ipv4Plen := a.ipv4Plen.toNat, ipv4Gw := a.ipv4Gw, ipv6 := a.ipv6,
      ipv6Plen := a.ipv6Plen.toNat, ipv6Gw := a.ipv6Gw } → ps = [p4 a.port, p4 a.vlan, p4be a.ipv4, p4 a.ipv4Plen, p4be a.ipv4Gw,
      pBe a.ipv6.toNat 16, p4 a.ipv6Plen, pBe a.ipv6Gw.toNat 16] → Claimed s l 0x0109 ps → a.port.toNat ≤ 1 → a.vlan.toNat ≤ 4094 →
    badPlen a.ipv4.toNat a.ipv4Plen.toNat 8 30 = false → badGateway 32 a.ipv4.toNat a.ipv4Plen.toNat a.ipv4Gw.toNat = false →
    badPlen a.ipv6.toNat a.ipv6Plen.toNat 48 128 = false → badGateway 128 a.ipv6.toNat a.ipv6Plen.toNat a.ipv6Gw.toNat = false →
    ∃ t, exec (.moduleSetMgmt l a) s = .next t ∧ Accepted s { s with mgmt := { s.mgmt with ports := nset {} a.port.toNat v s.mgmt.ports } } t l .done (layBody ps)) ∧
  -- md_open
  (∀ (s : State) (l : LetterId) (ring : W32) (letters receipts : W64) (depth : W32),
    Claimed s l 0x0104 [p4 ring, p8 letters, p8 receipts, p4 depth] → 1 ≤ ring.toNat → ring.toNat ≤ 7 → letters.toNat % 4096 = 0 →
    receipts.toNat % 4096 = 0 → badDepth depth = false → (s.ring l.slice ring.toNat).st ≠ .running → (s.ring l.slice ring.toNat).st ≠ .closing →
    ∃ t, exec (.moduleOpenRing l ring letters receipts depth) s = .next t ∧ Accepted s ((s.setRing l.slice ring.toNat {
      st := .running, letters := letters, receipts := receipts, depth := depth.toNat, ready := (s.ring l.slice ring.toNat).ready
      reserved := (s.ring l.slice ring.toNat).reserved - (s.ring l.slice ring.toNat).retake.length }).clearFault 0x0A02
        (256 * l.slice.val + ring.toNat)) t l .done (layBody [p4 ring, p8 letters, p8 receipts, p4 depth])) ∧
  -- md_openBusy
  (∀ (s : State) (l : LetterId) (ring : W32) (letters receipts : W64) (depth : W32),
    Claimed s l 0x0104 [p4 ring, p8 letters, p8 receipts, p4 depth] → 1 ≤ ring.toNat → ring.toNat ≤ 7 → letters.toNat % 4096 = 0 →
    receipts.toNat % 4096 = 0 → badDepth depth = false → (s.ring l.slice ring.toNat).st = .running →
    ∃ t, exec (.moduleOpenRing l ring letters receipts depth) s = .next t ∧ Rejected s t l .busy 0) ∧
  -- md_closeOpen
  (∀ (s : State) (l : LetterId) (ring : W32), Claimed s l 0x0105 [p4 ring] → 1 ≤ ring.toNat → ring.toNat ≤ 7 →
    (s.ring l.slice ring.toNat).st = .running → (s.ring l.slice ring.toNat).close ≠ some l →
    ∃ t, Accepted s (s.setRing l.slice ring.toNat { s.ring l.slice ring.toNat with st := .closing, close := some l }) t l .done (layBody [p4 ring]) true ∧
      exec (.moduleCloseRing l ring) s = .next (t.ringDrained l.slice ring.toNat)) ∧
  -- md_eventRing
  (∀ (s : State) (l : LetterId) (events : W64) (depth : W32), Claimed s l 0x0106 [p8 events, p4 depth] → badDepth depth = false →
    ∃ t, exec (.moduleSetEventRing l events depth) s = .next t ∧ Accepted s ((s.setEvRing l.slice {
      defined := true, addr := events, depth := depth.toNat, queue := (s.evRing l.slice).queue
      lost := (s.evRing l.slice).lost || !(s.evRing l.slice).defined || (s.evRing l.slice).stopped }).clearFault 0x0A02
        (256 * l.slice.val + 8)) t l .done (layBody [p8 events, p4 depth])) ∧
  -- md_reset0
  (∀ (s : State) (l : LetterId), Claimed s l 0x0108 [p4 0#32] → s.images.act.st ≠ .rolling → s.images.act.st ≠ .rollingBack →
    ∃ t, exec (.moduleReset l 0#32) s = .next t ∧ Accepted s { s with pm := { s.pm with resetPhase := 1 } } t l .done (layBody [p4 0#32])) ∧
  -- md_reset0Busy
  (∀ (s : State) (l : LetterId), Claimed s l 0x0108 [p4 0#32] → s.images.act.st = .rolling →
    ∃ t, exec (.moduleReset l 0#32) s = .next t ∧ Rejected s t l .busy 0) ∧
  -- md_reset1
  (∀ (s : State) (l : LetterId), Claimed s l 0x0108 [p4 1#32] →
    ∃ t, exec (.moduleReset l 1#32) s = .next t ∧ Accepted s { s with power := { s.power with resetAfter := some l } } t l .done (layBody [p4 1#32]))
end

