-- ==== Sys2Proof/Laws/Dispatch.lean ====
section
/-!
SUPPORT. Laws/Dispatch.lean: each command runs its own meaning, one lemma per arm of the dispatch.
-/

namespace Sys2Proof.Machine

variable (s : State)

@[simp] theorem exec_registerWrite (offset : BitVec 26) (wide : Bool) (value : W64) :
    exec (.registerWrite offset wide value) s = execRegisterWrite offset wide value s := rfl
@[simp] theorem exec_timNowLatch (wide : Bool) : exec (.timNowLatch wide) s = execTimNowLatch wide s := rfl
@[simp] theorem exec_timeCounterRead (which : TimeCounter) :
    exec (.timeCounterRead which) s = execTimeCounterRead which s := rfl
@[simp] theorem exec_resetCauseClear (value : W32) :
    exec (.resetCauseClear value) s = execResetCauseClear value s := rfl
@[simp] theorem exec_logFullClear (value : W32) : exec (.logFullClear value) s = execLogFullClear value s := rfl
@[simp] theorem exec_msixTableWrite (entry : Fin 2048) (word : Fin 4) (value : W32) :
    exec (.msixTableWrite entry word value) s = execMsixTableWrite entry word value s := rfl
@[simp] theorem exec_bootRingEnable (value : W32) : exec (.bootRingEnable value) s = execBootRingEnable value s := rfl
@[simp] theorem exec_bootRingDisable (value : W32) :
    exec (.bootRingDisable value) s = execBootRingDisable value s := rfl
@[simp] theorem exec_letterDoorbell (slice : Fin 64) (ring : Fin 8) (count : W32) :
    exec (.letterDoorbell slice ring count) s = execLetterDoorbell slice ring count s := rfl
@[simp] theorem exec_receiptDoorbell (slice : Fin 64) (ring : Fin 8) (count : W32) :
    exec (.receiptDoorbell slice ring count) s = execReceiptDoorbell slice ring count s := rfl
@[simp] theorem exec_eventDoorbell (slice : Fin 64) (count : W32) :
    exec (.eventDoorbell slice count) s = execEventDoorbell slice count s := rfl
@[simp] theorem exec_placeDoorbell (channel : Fin 64) (count : W32) :
    exec (.placeDoorbell channel count) s = execPlaceDoorbell channel count s := rfl
@[simp] theorem exec_consumeDoorbell (channel : Fin 64) (count : W32) :
    exec (.consumeDoorbell channel count) s = execConsumeDoorbell channel count s := rfl
@[simp] theorem exec_letterTake (pm : Pm) (slice : Fin 64) (source : TakeSource) :
    exec (.letterTake pm slice source) s = execLetterTake pm slice source s := rfl
@[simp] theorem exec_effectStep (pm : Pm) (l : LetterId) (standbyAck : Bool) :
    exec (.effectStep pm l standbyAck) s = execEffectStep pm l standbyAck s := rfl
@[simp] theorem exec_receiptWrite (slice : Fin 64) (ring : Fin 8) (busOk : Bool) :
    exec (.receiptWrite slice ring busOk) s = execReceiptWrite slice ring busOk s := rfl
@[simp] theorem exec_receiptDeliveryConfirm (slice : Fin 64) (ring : Fin 8) :
    exec (.receiptDeliveryConfirm slice ring) s = execReceiptDeliveryConfirm slice ring s := rfl
@[simp] theorem exec_eventWrite (slice : Fin 64) (busOk : Bool) :
    exec (.eventWrite slice busOk) s = execEventWrite slice busOk s := rfl
@[simp] theorem exec_inbandDatagram (port : Fin 2) (d : Datagram) :
    exec (.inbandDatagram port d) s = execInbandDatagram port d s := rfl
@[simp] theorem exec_inbandReplySend (slice : Fin 64) :
    exec (.inbandReplySend slice) s = execInbandReplySend slice s := rfl
@[simp] theorem exec_arpRequest (port : Fin 2) (target sender : BitVec 32) (senderMac : Mac) :
    exec (.arpRequest port target sender senderMac) s = execArpRequest port target sender senderMac s := rfl
@[simp] theorem exec_neighbourSolicitation (port : Fin 2) (target sender : Ip) (senderMac : Mac) :
    exec (.neighbourSolicitation port target sender senderMac) s = execNeighbourSolicitation port target sender
    senderMac s := rfl
@[simp] theorem exec_echoRequest (port : Fin 2) (v6 : Bool) (dst src : Ip) :
    exec (.echoRequest port v6 dst src) s = execEchoRequest port v6 dst src s := rfl
@[simp] theorem exec_addressResolved (port : Fin 2) (v6 : Bool) (addr : Ip) (mac : Mac) :
    exec (.addressResolved port v6 addr mac) s = execAddressResolved port v6 addr mac s := rfl
@[simp] theorem exec_mgmtFrameOther (port : Fin 2) : exec (.mgmtFrameOther port) s = execMgmtFrameOther port s := rfl
@[simp] theorem exec_resolutionRetry (port : Fin 2) (v6 : Bool) (addr : Ip) :
    exec (.resolutionRetry port v6 addr) s = execResolutionRetry port v6 addr s := rfl
@[simp] theorem exec_neighbourExpiry (port : Fin 2) (v6 : Bool) (addr : Ip) :
    exec (.neighbourExpiry port v6 addr) s = execNeighbourExpiry port v6 addr s := rfl
@[simp] theorem exec_moduleIdentify (l : LetterId) : exec (.moduleIdentify l) s = execModuleIdentify l s := rfl
@[simp] theorem exec_moduleSetId (l : LetterId) (moduleId : W32) :
    exec (.moduleSetId l moduleId) s = execModuleSetId l moduleId s := rfl
@[simp] theorem exec_moduleSetCompat (l : LetterId) (low high : W32) :
    exec (.moduleSetCompat l low high) s = execModuleSetCompat l low high s := rfl
@[simp] theorem exec_moduleOpenRing (l : LetterId) (ring : W32) (letters receipts : W64) (depth : W32) :
    exec (.moduleOpenRing l ring letters receipts depth) s = execModuleOpenRing l ring letters receipts depth s := rfl
@[simp] theorem exec_moduleCloseRing (l : LetterId) (ring : W32) :
    exec (.moduleCloseRing l ring) s = execModuleCloseRing l ring s := rfl
@[simp] theorem exec_moduleSetEventRing (l : LetterId) (events : W64) (depth : W32) :
    exec (.moduleSetEventRing l events depth) s = execModuleSetEventRing l events depth s := rfl
@[simp] theorem exec_moduleSaveSettings (l : LetterId) :
    exec (.moduleSaveSettings l) s = execModuleSaveSettings l s := rfl
@[simp] theorem exec_settingsSaveComplete (readBackOk : Bool) :
    exec (.settingsSaveComplete readBackOk) s = execSettingsSaveComplete readBackOk s := rfl
@[simp] theorem exec_moduleReset (l : LetterId) (kind : W32) :
    exec (.moduleReset l kind) s = execModuleReset l kind s := rfl
@[simp] theorem exec_moduleSetMgmt (l : LetterId) (a : MgmtArgs) :
    exec (.moduleSetMgmt l a) s = execModuleSetMgmt l a s := rfl
@[simp] theorem exec_timeSetSource (l : LetterId) (mode : W32) (sources : ListArg SourceItem) (wtr : W64) :
    exec (.timeSetSource l mode sources wtr) s = execTimeSetSource l mode sources wtr s := rfl
@[simp] theorem exec_timeAdjust (l : LetterId) (phase : W64) (freq : W32) :
    exec (.timeAdjust l phase freq) s = execTimeAdjust l phase freq s := rfl
@[simp] theorem exec_timeSetQuality (l : LetterId) (state : W32) (error : W64) :
    exec (.timeSetQuality l state error) s = execTimeSetQuality l state error s := rfl
@[simp] theorem exec_timeSetHoldover (l : LetterId) (rate : W32) :
    exec (.timeSetHoldover l rate) s = execTimeSetHoldover l rate s := rfl
@[simp] theorem exec_timeSetPtp (l : LetterId) (port enable domain steps : W32) :
    exec (.timeSetPtp l port enable domain steps) s = execTimeSetPtp l port enable domain steps s := rfl
@[simp] theorem exec_timeRead (l : LetterId) : exec (.timeRead l) s = execTimeRead l s := rfl
@[simp] theorem exec_epochOpen (l : LetterId) (n : W32) : exec (.epochOpen l n) s = execEpochOpen l n s := rfl
@[simp] theorem exec_epochCommit (l : LetterId) (n count : W32) (t : TimeParam) (spacing : W64) :
    exec (.epochCommit l n count t spacing) s = execEpochCommit l n count t spacing s := rfl
@[simp] theorem exec_epochAbort (l : LetterId) (n : W32) : exec (.epochAbort l n) s = execEpochAbort l n s := rfl
@[simp] theorem exec_epochCancel (l : LetterId) (n : W32) : exec (.epochCancel l n) s = execEpochCancel l n s := rfl
@[simp] theorem exec_epochStatus (l : LetterId) : exec (.epochStatus l) s = execEpochStatus l s := rfl
@[simp] theorem exec_epochSwitch : exec .epochSwitch s = execEpochSwitch s := rfl
@[simp] theorem exec_deferredSwitch (page : PageRef) : exec (.deferredSwitch page) s = execDeferredSwitch page s := rfl
@[simp] theorem exec_epochRelease : exec .epochRelease s = execEpochRelease s := rfl
@[simp] theorem exec_subepochSwitch : exec .subepochSwitch s = execSubepochSwitch s := rfl
@[simp] theorem exec_sequencedListFetch (data : Option (List TableRecord)) :
    exec (.sequencedListFetch data) s = execSequencedListFetch data s := rfl
@[simp] theorem exec_postcardSend : exec .postcardSend s = execPostcardSend s := rfl
@[simp] theorem exec_postcardReceive (link : Fin 256) (cell : List Byte) (fecOk : Bool) :
    exec (.postcardReceive link cell fecOk) s = execPostcardReceive link cell fecOk s := rfl
@[simp] theorem exec_peerAbsent (peer : Fin 128) : exec (.peerAbsent peer) s = execPeerAbsent peer s := rfl
@[simp] theorem exec_reachMismatchTimer (peer : Fin 128) :
    exec (.reachMismatchTimer peer) s = execReachMismatchTimer peer s := rfl
@[simp] theorem exec_ppsInEdge : exec .ppsInEdge s = execPpsInEdge s := rfl
@[simp] theorem exec_todMessageRx (bytes : List Byte) : exec (.todMessageRx bytes) s = execTodMessageRx bytes s := rfl
@[simp] theorem exec_todMissingExpiry : exec .todMissingExpiry s = execTodMissingExpiry s := rfl
@[simp] theorem exec_sourceWtrExpiry (source : Fin 4) :
    exec (.sourceWtrExpiry source) s = execSourceWtrExpiry source s := rfl
@[simp] theorem exec_ptpEventMessage (port : Fin 194) (kind : PtpKind) (received : Bool) (correction : BitVec 64) :
    exec (.ptpEventMessage port kind received correction) s = execPtpEventMessage port kind received correction s
    := rfl
@[simp] theorem exec_servoOffsetMeasure (offset : Int) (filtered : Nat) :
    exec (.servoOffsetMeasure offset filtered) s = execServoOffsetMeasure offset filtered s := rfl
@[simp] theorem exec_servoLockTimer : exec .servoLockTimer s = execServoLockTimer s := rfl
@[simp] theorem exec_esmcPdu (port : Fin 192) (pdu : List Byte) :
    exec (.esmcPdu port pdu) s = execEsmcPdu port pdu s := rfl
@[simp] theorem exec_ppsOutSecond : exec .ppsOutSecond s = execPpsOutSecond s := rfl
@[simp] theorem exec_todTransmit : exec .todTransmit s = execTodTransmit s := rfl
@[simp] theorem exec_flitReceive (link : Fin 4) (toDepot : Bool) (crcOk : Bool) :
    exec (.flitReceive link toDepot crcOk) s = execFlitReceive link toDepot crcOk s := rfl
@[simp] theorem exec_d2dLockLoss (link : Fin 4) : exec (.d2dLockLoss link) s = execD2dLockLoss link s := rfl
@[simp] theorem exec_d2dRetrain (link : Fin 4) (locked : Bool) :
    exec (.d2dRetrain link locked) s = execD2dRetrain link locked s := rfl
@[simp] theorem exec_frameReceive (port : Fin 192) (data : List Byte) (fcsOk fecOk : Bool) (codewords : List
    Codeword) :
    exec (.frameReceive port data fcsOk fecOk codewords) s = execFrameReceive port data fcsOk fecOk codewords s := rfl
@[simp] theorem exec_frameTransmit (port : Fin 192) : exec (.frameTransmit port) s = execFrameTransmit port s := rfl
@[simp] theorem exec_pauseReceive (port : Fin 192) (pfc : Bool) (classes : BitVec 8) (quanta : BitVec 128) :
    exec (.pauseReceive port pfc classes quanta) s = execPauseReceive port pfc classes quanta s := rfl
@[simp] theorem exec_pauseExpiry (port : Fin 192) (cls : Option (Fin 8)) :
    exec (.pauseExpiry port cls) s = execPauseExpiry port cls s := rfl
@[simp] theorem exec_trainingComplete (port : Fin 192) :
    exec (.trainingComplete port) s = execTrainingComplete port s := rfl
@[simp] theorem exec_trainingTimeout (port : Fin 192) :
    exec (.trainingTimeout port) s = execTrainingTimeout port s := rfl
@[simp] theorem exec_alignmentAchieved (port : Fin 192) :
    exec (.alignmentAchieved port) s = execAlignmentAchieved port s := rfl
@[simp] theorem exec_portFault (port : Fin 192) (cause : PortFaultCause) :
    exec (.portFault port cause) s = execPortFault port cause s := rfl
@[simp] theorem exec_portFaultClear (port : Fin 192) (cause : PortFaultCause) :
    exec (.portFaultClear port cause) s = execPortFaultClear port cause s := rfl
@[simp] theorem exec_downDebounceExpiry (port : Fin 192) :
    exec (.downDebounceExpiry port) s = execDownDebounceExpiry port s := rfl
@[simp] theorem exec_upHoldoffExpiry (port : Fin 192) :
    exec (.upHoldoffExpiry port) s = execUpHoldoffExpiry port s := rfl
@[simp] theorem exec_fecDegradeTimer (port : Fin 192) (above : Bool) :
    exec (.fecDegradeTimer port above) s = execFecDegradeTimer port above s := rfl
@[simp] theorem exec_portDisableComplete (port : Fin 192) :
    exec (.portDisableComplete port) s = execPortDisableComplete port s := rfl
@[simp] theorem exec_flexeOhFrame (fgroup : Fin 12) (group : Fin 4) (crcOk ccc : Bool) (clients : List (BitVec 16)) :
    exec (.flexeOhFrame fgroup group crcOk ccc clients) s = execFlexeOhFrame fgroup group crcOk ccc clients s := rfl
@[simp] theorem exec_flexeCaReceive (fgroup : Fin 12) (group : Fin 4) :
    exec (.flexeCaReceive fgroup group) s = execFlexeCaReceive fgroup group s := rfl
@[simp] theorem exec_calendarSwitch (fgroup : Fin 12) (group : Fin 4) :
    exec (.calendarSwitch fgroup group) s = execCalendarSwitch fgroup group s := rfl
@[simp] theorem exec_flexeDeskewFail (fgroup : Fin 12) (group : Fin 4) :
    exec (.flexeDeskewFail fgroup group) s = execFlexeDeskewFail fgroup group s := rfl
@[simp] theorem exec_framePatternCheck (fgroup : Fin 12) (iface : Fin 2) (layer : AlignLayer) (correct : Bool)
    (errors : OtnErrors) :
    exec (.framePatternCheck fgroup iface layer correct errors) s = execFramePatternCheck fgroup iface layer
    correct errors s := rfl
@[simp] theorem exec_lofDeclare (fgroup : Fin 12) (iface : Fin 2) (layer : AlignLayer) :
    exec (.lofDeclare fgroup iface layer) s = execLofDeclare fgroup iface layer s := rfl
@[simp] theorem exec_lofClear (fgroup : Fin 12) (iface : Fin 2) (layer : AlignLayer) :
    exec (.lofClear fgroup iface layer) s = execLofClear fgroup iface layer s := rfl
@[simp] theorem exec_otnDefect (fgroup : Fin 12) (iface : Fin 2) (defect : OtnDefect) (present : Bool) :
    exec (.otnDefect fgroup iface defect present) s = execOtnDefect fgroup iface defect present s := rfl
@[simp] theorem exec_gmpJcReceive (fgroup : Fin 12) (trib : BitVec 16) (crcOk : Bool) (cm : BitVec 16) :
    exec (.gmpJcReceive fgroup trib crcOk cm) s = execGmpJcReceive fgroup trib crcOk cm s := rfl
@[simp] theorem exec_gmpMultiframeTx (fgroup : Fin 12) (trib : BitVec 16) (fill : BitVec 16) :
    exec (.gmpMultiframeTx fgroup trib fill) s = execGmpMultiframeTx fgroup trib fill s := rfl
@[simp] theorem exec_tsPageSwitch (fgroup : Fin 12) : exec (.tsPageSwitch fgroup) s = execTsPageSwitch fgroup s := rfl
@[simp] theorem exec_ohRxFrame (channel : BitVec 12) (bytes : List Byte) :
    exec (.ohRxFrame channel bytes) s = execOhRxFrame channel bytes s := rfl
@[simp] theorem exec_ohRecordDeliver (channel : BitVec 12) :
    exec (.ohRecordDeliver channel) s = execOhRecordDeliver channel s := rfl
@[simp] theorem exec_ohTxFrame (channel : BitVec 12) : exec (.ohTxFrame channel) s = execOhTxFrame channel s := rfl
@[simp] theorem exec_ohTxWrite (channel : BitVec 12) (frames : List (List Byte)) :
    exec (.ohTxWrite channel frames) s = execOhTxWrite channel frames s := rfl
@[simp] theorem exec_envelopeDisableBoundary (fgroup : Fin 12) (otu : Bool) (index : Fin 4) :
    exec (.envelopeDisableBoundary fgroup otu index) s = execEnvelopeDisableBoundary fgroup otu index s := rfl
@[simp] theorem exec_portConfigure (l : LetterId) (a : PortArgs) :
    exec (.portConfigure l a) s = execPortConfigure l a s := rfl
@[simp] theorem exec_portEnable (l : LetterId) (port : W32) :
    exec (.portEnable l port) s = execPortEnable l port s := rfl
@[simp] theorem exec_portDisable (l : LetterId) (port : W32) :
    exec (.portDisable l port) s = execPortDisable l port s := rfl
@[simp] theorem exec_portSetLaneMap (l : LetterId) (octet map rxInvert txInvert : W32) :
    exec (.portSetLaneMap l octet map rxInvert txInvert) s = execPortSetLaneMap l octet map rxInvert txInvert s := rfl
@[simp] theorem exec_portSetDelay (l : LetterId) (port : W32) (rx tx : W64) :
    exec (.portSetDelay l port rx tx) s = execPortSetDelay l port rx tx s := rfl
@[simp] theorem exec_portSetTxEq (l : LetterId) (lane : W32) (taps : TxTaps) :
    exec (.portSetTxEq l lane taps) s = execPortSetTxEq l lane taps s := rfl
@[simp] theorem exec_portStatus (l : LetterId) (port : W32) :
    exec (.portStatus l port) s = execPortStatus l port s := rfl
@[simp] theorem exec_envelopeCreateFlexe (l : LetterId) (fgroup group phyType phys caRequired : W32) :
    exec (.envelopeCreateFlexe l fgroup group phyType phys caRequired) s = execEnvelopeCreateFlexe l fgroup group
    phyType phys caRequired s := rfl
@[simp] theorem exec_envelopeCreateOtu (l : LetterId) (a : OtuArgs) :
    exec (.envelopeCreateOtu l a) s = execEnvelopeCreateOtu l a s := rfl
@[simp] theorem exec_envelopeDeleteGroup (l : LetterId) (fgroup kind index : W32) :
    exec (.envelopeDeleteGroup l fgroup kind index) s = execEnvelopeDeleteGroup l fgroup kind index s := rfl
@[simp] theorem exec_envelopeEnableGroup (l : LetterId) (fgroup kind index : W32) :
    exec (.envelopeEnableGroup l fgroup kind index) s = execEnvelopeEnableGroup l fgroup kind index s := rfl
@[simp] theorem exec_envelopeDisableGroup (l : LetterId) (fgroup kind index : W32) :
    exec (.envelopeDisableGroup l fgroup kind index) s = execEnvelopeDisableGroup l fgroup kind index s := rfl
@[simp] theorem exec_envelopeWriteCalendar (l : LetterId) (fgroup group : W32) (slots : ListArg (BitVec 16)) :
    exec (.envelopeWriteCalendar l fgroup group slots) s = execEnvelopeWriteCalendar l fgroup group slots s := rfl
@[simp] theorem exec_envelopeScheduleCalendar (l : LetterId) (fgroup group : W32) (t : TimeParam) :
    exec (.envelopeScheduleCalendar l fgroup group t) s = execEnvelopeScheduleCalendar l fgroup group t s := rfl
@[simp] theorem exec_envelopeCancelCalendar (l : LetterId) (fgroup group : W32) :
    exec (.envelopeCancelCalendar l fgroup group) s = execEnvelopeCancelCalendar l fgroup group s := rfl
@[simp] theorem exec_envelopeWriteTsPage (l : LetterId) (fgroup : W32) (entries : ListArg TsEntry) :
    exec (.envelopeWriteTsPage l fgroup entries) s = execEnvelopeWriteTsPage l fgroup entries s := rfl
@[simp] theorem exec_envelopeScheduleTsPage (l : LetterId) (fgroup : W32) (t : TimeParam) :
    exec (.envelopeScheduleTsPage l fgroup t) s = execEnvelopeScheduleTsPage l fgroup t s := rfl
@[simp] theorem exec_envelopeCancelTsPage (l : LetterId) (fgroup : W32) :
    exec (.envelopeCancelTsPage l fgroup) s = execEnvelopeCancelTsPage l fgroup s := rfl
@[simp] theorem exec_envelopeOhChannel (l : LetterId) (channel : W32) (rxRing txRing : W64) (depth : W32) :
    exec (.envelopeOhChannel l channel rxRing txRing depth) s = execEnvelopeOhChannel l channel rxRing txRing depth
    s := rfl
@[simp] theorem exec_headerWindowSend : exec .headerWindowSend s = execHeaderWindowSend s := rfl
@[simp] theorem exec_intakeDispatch : exec .intakeDispatch s = execIntakeDispatch s := rfl
@[simp] theorem exec_nanowordIssue (bench : Fin 32) (clerk : Fin 16) (eccError : Bool) :
    exec (.nanowordIssue bench clerk eccError) s = execNanowordIssue bench clerk eccError s := rfl
@[simp] theorem exec_lookupResult (bench : Fin 32) (clerk : Fin 16) (slot : Fin 6) (result : Fin 8) (memError :
    Bool) (rowBad : Bool) (waited : Bool) (delayed : W32) :
    exec (.lookupResult bench clerk slot result memError rowBad waited delayed) s = execLookupResult bench clerk
    slot result memError rowBad waited delayed s := rfl
@[simp] theorem exec_localLoadLand (bench : Fin 32) (clerk : Fin 16) (slot : Fin 6) :
    exec (.localLoadLand bench clerk slot) s = execLocalLoadLand bench clerk slot s := rfl
@[simp] theorem exec_slotRetire (bench : Fin 32) (clerk : Fin 16) (slot : Fin 6) (rivals : List Rival) :
    exec (.slotRetire bench clerk slot rivals) s = execSlotRetire bench clerk slot rivals s := rfl
@[simp] theorem exec_passHandoff (port : Fin 192) (egress : Bool) :
    exec (.passHandoff port egress) s = execPassHandoff port egress s := rfl
@[simp] theorem exec_benchSwitch (bench : Fin 32) : exec (.benchSwitch bench) s = execBenchSwitch bench s := rfl
@[simp] theorem exec_benchDrainComplete (bench : Fin 32) :
    exec (.benchDrainComplete bench) s = execBenchDrainComplete bench s := rfl
@[simp] theorem exec_benchReloadCheck (bench : Fin 32) (readBackOk : Bool) :
    exec (.benchReloadCheck bench readBackOk) s = execBenchReloadCheck bench readBackOk s := rfl
@[simp] theorem exec_controlStoreError (bench : Fin 32) (clerk : Fin 16) (slot : Fin 6) :
    exec (.controlStoreError bench clerk slot) s = execControlStoreError bench clerk slot s := rfl
@[simp] theorem exec_storeSetMode (l : LetterId) (mode : W32) :
    exec (.storeSetMode l mode) s = execStoreSetMode l mode s := rfl
@[simp] theorem exec_storeWriteMicro (l : LetterId) (benches start : W32) (words : ListArg W32) :
    exec (.storeWriteMicro l benches start words) s = execStoreWriteMicro l benches start words s := rfl
@[simp] theorem exec_storeWriteNano (l : LetterId) (benches start : W32) (words : ListArg (BitVec 256)) :
    exec (.storeWriteNano l benches start words) s = execStoreWriteNano l benches start words s := rfl
@[simp] theorem exec_storeWritePatch (l : LetterId) (benches : W32) (micro : ListArg W32) (nano : ListArg (BitVec
    256)) (matchRegs : ListArg W32) (level : W32) :
    exec (.storeWritePatch l benches micro nano matchRegs level) s = execStoreWritePatch l benches micro nano
    matchRegs level s := rfl
@[simp] theorem exec_storeStageImage (l : LetterId) (benches bank : W32) :
    exec (.storeStageImage l benches bank) s = execStoreStageImage l benches bank s := rfl
@[simp] theorem exec_storeSeal (l : LetterId) (benches version : W32) :
    exec (.storeSeal l benches version) s = execStoreSeal l benches version s := rfl
@[simp] theorem exec_storeScheduleLoad (l : LetterId) (benches : W32) (t : TimeParam) (spacing : W64) :
    exec (.storeScheduleLoad l benches t spacing) s = execStoreScheduleLoad l benches t spacing s := rfl
@[simp] theorem exec_storeCancelLoad (l : LetterId) (benches : W32) :
    exec (.storeCancelLoad l benches) s = execStoreCancelLoad l benches s := rfl
@[simp] theorem exec_storeEnableBench (l : LetterId) (bench : W32) :
    exec (.storeEnableBench l bench) s = execStoreEnableBench l bench s := rfl
@[simp] theorem exec_storeDisableBench (l : LetterId) (bench : W32) :
    exec (.storeDisableBench l bench) s = execStoreDisableBench l bench s := rfl
@[simp] theorem exec_storeSetBudget (l : LetterId) (budget : W32) :
    exec (.storeSetBudget l budget) s = execStoreSetBudget l budget s := rfl
@[simp] theorem exec_storeWriteLocal (l : LetterId) (clerk offset : W32) (size : W64) (data : BitVec 512) :
    exec (.storeWriteLocal l clerk offset size data) s = execStoreWriteLocal l clerk offset size data s := rfl
@[simp] theorem exec_routeAdd (l : LetterId) (a : RouteArgs) : exec (.routeAdd l a) s = execRouteAdd l a s := rfl
@[simp] theorem exec_routeDelete (l : LetterId) (vrf family : W32) (pfx : Ip) (plen : W32) :
    exec (.routeDelete l vrf family pfx plen) s = execRouteDelete l vrf family pfx plen s := rfl
@[simp] theorem exec_routeBlock (l : LetterId) (records : ListArg TableRecord) (listCrc : W32) :
    exec (.routeBlock l records listCrc) s = execRouteBlock l records listCrc s := rfl
@[simp] theorem exec_tableExactAdd (l : LetterId) (type : W32) (key : BitVec 256) (result : W64) :
    exec (.tableExactAdd l type key result) s = execTableExactAdd l type key result s := rfl
@[simp] theorem exec_tableExactDelete (l : LetterId) (type : W32) (key : BitVec 256) :
    exec (.tableExactDelete l type key) s = execTableExactDelete l type key s := rfl
@[simp] theorem exec_tableNhWrite (l : LetterId) (nh voqBase port module encap : W32) :
    exec (.tableNhWrite l nh voqBase port module encap) s = execTableNhWrite l nh voqBase port module encap s := rfl
@[simp] theorem exec_tableNhDelete (l : LetterId) (nh : W32) :
    exec (.tableNhDelete l nh) s = execTableNhDelete l nh s := rfl
@[simp] theorem exec_tableEcmpWrite (l : LetterId) (group mode : W32) (members : ListArg W32) :
    exec (.tableEcmpWrite l group mode members) s = execTableEcmpWrite l group mode members s := rfl
@[simp] theorem exec_tableEcmpDelete (l : LetterId) (group : W32) :
    exec (.tableEcmpDelete l group) s = execTableEcmpDelete l group s := rfl
@[simp] theorem exec_tableSetHash (l : LetterId) (seed profile fields : W32) :
    exec (.tableSetHash l seed profile fields) s = execTableSetHash l seed profile fields s := rfl
@[simp] theorem exec_tableBlock (l : LetterId) (records : ListArg TableRecord) (listCrc : W32) :
    exec (.tableBlock l records listCrc) s = execTableBlock l records listCrc s := rfl
@[simp] theorem exec_aclWrite (l : LetterId) (bank index : W32) (value mask : BitVec 640) (action : W64) :
    exec (.aclWrite l bank index value mask action) s = execAclWrite l bank index value mask action s := rfl
@[simp] theorem exec_aclDelete (l : LetterId) (bank index : W32) :
    exec (.aclDelete l bank index) s = execAclDelete l bank index s := rfl
@[simp] theorem exec_aclSetProfile (l : LetterId) (a : AclProfileArgs) :
    exec (.aclSetProfile l a) s = execAclSetProfile l a s := rfl
@[simp] theorem exec_aclSetSelect (l : LetterId) (profile : W32) (masks : ListArg W32) :
    exec (.aclSetSelect l profile masks) s = execAclSetSelect l profile masks s := rfl
@[simp] theorem exec_aclSetBankWidth (l : LetterId) (bank width : W32) :
    exec (.aclSetBankWidth l bank width) s = execAclSetBankWidth l bank width s := rfl
@[simp] theorem exec_aclSetSelftest (l : LetterId) (period : W64) :
    exec (.aclSetSelftest l period) s = execAclSetSelftest l period s := rfl
@[simp] theorem exec_aclBlock (l : LetterId) (records : ListArg TableRecord) (listCrc : W32) :
    exec (.aclBlock l records listCrc) s = execAclBlock l records listCrc s := rfl
@[simp] theorem exec_aclUpdateWindow (bank : Fin 32) :
    exec (.aclUpdateWindow bank) s = execAclUpdateWindow bank s := rfl
@[simp] theorem exec_aclSelftestStart : exec .aclSelftestStart s = execAclSelftestStart s := rfl
@[simp] theorem exec_aclMigrationComplete : exec .aclMigrationComplete s = execAclMigrationComplete s := rfl
@[simp] theorem exec_aclBankTestEnd (phys : Fin 33) (passed : Bool) :
    exec (.aclBankTestEnd phys passed) s = execAclBankTestEnd phys passed s := rfl
@[simp] theorem exec_aclRowRepair (bank : Fin 32) (index : Fin 8192) :
    exec (.aclRowRepair bank index) s = execAclRowRepair bank index s := rfl
@[simp] theorem exec_aclBankFault (phys : Fin 33) : exec (.aclBankFault phys) s = execAclBankFault phys s := rfl
@[simp] theorem exec_aclSpareWritten : exec .aclSpareWritten s = execAclSpareWritten s := rfl
@[simp] theorem exec_ingressAdmission (rivals : List Rival) (readError : Bool) :
    exec (.ingressAdmission rivals readError) s = execIngressAdmission rivals readError s := rfl
@[simp] theorem exec_bufferFree (buffer : BufId) (agent : Owner) :
    exec (.bufferFree buffer agent) s = execBufferFree buffer agent s := rfl
@[simp] theorem exec_dlqDeliver (hasRoom busOk : Bool) :
    exec (.dlqDeliver hasRoom busOk) s = execDlqDeliver hasRoom busOk s := rfl
@[simp] theorem exec_ctIngressStart (port : Fin 192) (rivals : List Rival) :
    exec (.ctIngressStart port rivals) s = execCtIngressStart port rivals s := rfl
@[simp] theorem exec_ctIngressTimeout (port : Fin 192) :
    exec (.ctIngressTimeout port) s = execCtIngressTimeout port s := rfl
@[simp] theorem exec_ctEgressStart (queue : BitVec 19) :
    exec (.ctEgressStart queue) s = execCtEgressStart queue s := rfl
@[simp] theorem exec_ctEgressAbort (queue : BitVec 19) (cause : Fin 4) :
    exec (.ctEgressAbort queue cause) s = execCtEgressAbort queue cause s := rfl
@[simp] theorem exec_bufferSetPools (l : LetterId) (g0 g1 g2 g3 : W32) :
    exec (.bufferSetPools l g0 g1 g2 g3) s = execBufferSetPools l g0 g1 g2 g3 s := rfl
@[simp] theorem exec_bufferSetClass (l : LetterId) (cls : W32) (shallowReserve shallowLimit deepReserve deepLimit :
    W64) :
    exec (.bufferSetClass l cls shallowReserve shallowLimit deepReserve deepLimit) s = execBufferSetClass l cls
    shallowReserve shallowLimit deepReserve deepLimit s := rfl
@[simp] theorem exec_bufferSetAdmission (l : LetterId) (a : AdmissionArgs) :
    exec (.bufferSetAdmission l a) s = execBufferSetAdmission l a s := rfl
@[simp] theorem exec_bufferSetDlq (l : LetterId) (a : DlqArgs) :
    exec (.bufferSetDlq l a) s = execBufferSetDlq l a s := rfl
@[simp] theorem exec_bufferSetCutThrough (l : LetterId) (port ingress egress : W32) (ctMin ctStart : W64) :
    exec (.bufferSetCutThrough l port ingress egress ctMin ctStart) s = execBufferSetCutThrough l port ingress
    egress ctMin ctStart s := rfl
@[simp] theorem exec_schedulerSelect (port : Fin 192) :
    exec (.schedulerSelect port) s = execSchedulerSelect port s := rfl
@[simp] theorem exec_windowReturn (rivals : List Rival) :
    exec (.windowReturn rivals) s = execWindowReturn rivals s := rfl
@[simp] theorem exec_arbiterGrant (port : Fin 192) : exec (.arbiterGrant port) s = execArbiterGrant port s := rfl
@[simp] theorem exec_voqSend (voq : BitVec 17) (readError : Bool) :
    exec (.voqSend voq readError) s = execVoqSend voq readError s := rfl
@[simp] theorem exec_gateEntryAdvance (port : Fin 192) :
    exec (.gateEntryAdvance port) s = execGateEntryAdvance port s := rfl
@[simp] theorem exec_gateListSwitch (port : Fin 192) : exec (.gateListSwitch port) s = execGateListSwitch port s := rfl
@[simp] theorem exec_holdExpiry (port : Fin 192) : exec (.holdExpiry port) s = execHoldExpiry port s := rfl
@[simp] theorem exec_portFlushComplete (port : Fin 192) :
    exec (.portFlushComplete port) s = execPortFlushComplete port s := rfl
@[simp] theorem exec_voqAgeVisit (voq : BitVec 17) : exec (.voqAgeVisit voq) s = execVoqAgeVisit voq s := rfl
@[simp] theorem exec_queueFlushComplete (queue : BitVec 19) :
    exec (.queueFlushComplete queue) s = execQueueFlushComplete queue s := rfl
@[simp] theorem exec_queueConfigure (l : LetterId) (a : QueueArgs) :
    exec (.queueConfigure l a) s = execQueueConfigure l a s := rfl
@[simp] theorem exec_queueSetNode (l : LetterId) (a : NodeArgs) :
    exec (.queueSetNode l a) s = execQueueSetNode l a s := rfl
@[simp] theorem exec_queueSetPort (l : LetterId) (a : QueuePortArgs) :
    exec (.queueSetPort l a) s = execQueueSetPort l a s := rfl
@[simp] theorem exec_queueSetLengthProfile (l : LetterId) (profile mode adjust : W32) :
    exec (.queueSetLengthProfile l profile mode adjust) s = execQueueSetLengthProfile l profile mode adjust s := rfl
@[simp] theorem exec_queueDelete (l : LetterId) (level node : W32) :
    exec (.queueDelete l level node) s = execQueueDelete l level node s := rfl
@[simp] theorem exec_queueFlush (l : LetterId) (queue : W32) :
    exec (.queueFlush l queue) s = execQueueFlush l queue s := rfl
@[simp] theorem exec_queueWriteGates (l : LetterId) (port : W32) (entries : ListArg W64) :
    exec (.queueWriteGates l port entries) s = execQueueWriteGates l port entries s := rfl
@[simp] theorem exec_queueScheduleGates (l : LetterId) (port : W32) (t : TimeParam) :
    exec (.queueScheduleGates l port t) s = execQueueScheduleGates l port t s := rfl
@[simp] theorem exec_queueCancelGates (l : LetterId) (port : W32) :
    exec (.queueCancelGates l port) s = execQueueCancelGates l port s := rfl
@[simp] theorem exec_policerConfigure (l : LetterId) (a : PolicerArgs) :
    exec (.policerConfigure l a) s = execPolicerConfigure l a s := rfl
@[simp] theorem exec_policerDelete (l : LetterId) (policer : W32) :
    exec (.policerDelete l policer) s = execPolicerDelete l policer s := rfl
@[simp] theorem exec_cellSlotTransmit (link : Fin 256) :
    exec (.cellSlotTransmit link) s = execCellSlotTransmit link s := rfl
@[simp] theorem exec_packWaitExpiry (stream : Fin 129) :
    exec (.packWaitExpiry stream) s = execPackWaitExpiry stream s := rfl
@[simp] theorem exec_cellReceive (link : Fin 256) (cell : List Byte) (fecOk : Bool) (rivals : List Rival) :
    exec (.cellReceive link cell fecOk rivals) s = execCellReceive link cell fecOk rivals s := rfl
@[simp] theorem exec_reachReceive (link : Fin 256) (cell : List Byte) (fecOk : Bool) :
    exec (.reachReceive link cell fecOk) s = execReachReceive link cell fecOk s := rfl
@[simp] theorem exec_requestReceive (link : Fin 256) (cell : List Byte) (fecOk : Bool) (index : Fin 18) :
    exec (.requestReceive link cell fecOk index) s = execRequestReceive link cell fecOk index s := rfl
@[simp] theorem exec_grantReceive (link : Fin 256) (cell : List Byte) (fecOk : Bool) (index : Fin 18) :
    exec (.grantReceive link cell fecOk index) s = execGrantReceive link cell fecOk index s := rfl
@[simp] theorem exec_lossNoticeReceive (link : Fin 256) (cell : List Byte) (fecOk : Bool) (index : Fin 18) :
    exec (.lossNoticeReceive link cell fecOk index) s = execLossNoticeReceive link cell fecOk index s := rfl
@[simp] theorem exec_linkAligned (link : Fin 256) : exec (.linkAligned link) s = execLinkAligned link s := rfl
@[simp] theorem exec_linkDown (link : Fin 256) (cause : LinkCause) :
    exec (.linkDown link cause) s = execLinkDown link cause s := rfl
@[simp] theorem exec_reachTimeout (link : Fin 256) : exec (.reachTimeout link) s = execReachTimeout link s := rfl
@[simp] theorem exec_holdMaxExpiry (link : Fin 256) : exec (.holdMaxExpiry link) s = execHoldMaxExpiry link s := rfl
@[simp] theorem exec_linkRetry (link : Fin 256) : exec (.linkRetry link) s = execLinkRetry link s := rfl
@[simp] theorem exec_linkDisableComplete (link : Fin 256) :
    exec (.linkDisableComplete link) s = execLinkDisableComplete link s := rfl
@[simp] theorem exec_identSend (link : Fin 256) : exec (.identSend link) s = execIdentSend link s := rfl
@[simp] theorem exec_holeLostExpiry (src : Fin 128) (mc : Bool) :
    exec (.holeLostExpiry src mc) s = execHoleLostExpiry src mc s := rfl
@[simp] theorem exec_reassemblyTimeout (src : Fin 128) (mc : Bool) :
    exec (.reassemblyTimeout src mc) s = execReassemblyTimeout src mc s := rfl
@[simp] theorem exec_creditWatchdog (voq : BitVec 17) : exec (.creditWatchdog voq) s = execCreditWatchdog voq s := rfl
@[simp] theorem exec_grantCellClose (dst : Fin 128) : exec (.grantCellClose dst) s = execGrantCellClose dst s := rfl
@[simp] theorem exec_fabricEnableLink (l : LetterId) (link : W32) :
    exec (.fabricEnableLink l link) s = execFabricEnableLink l link s := rfl
@[simp] theorem exec_fabricDisableLink (l : LetterId) (link : W32) :
    exec (.fabricDisableLink l link) s = execFabricDisableLink l link s := rfl
@[simp] theorem exec_fabricSetTxEq (l : LetterId) (lane : W32) (taps : TxTaps) :
    exec (.fabricSetTxEq l lane taps) s = execFabricSetTxEq l lane taps s := rfl
@[simp] theorem exec_fabricSetTimers (l : LetterId) (reasmTimeout skewLimit creditWd holdMax packWait : W64) :
    exec (.fabricSetTimers l reasmTimeout skewLimit creditWd holdMax packWait) s = execFabricSetTimers l
    reasmTimeout skewLimit creditWd holdMax packWait s := rfl
@[simp] theorem exec_fabricSetCredit (l : LetterId) (grantSize mcRate : W64) :
    exec (.fabricSetCredit l grantSize mcRate) s = execFabricSetCredit l grantSize mcRate s := rfl
@[simp] theorem exec_fabricSetMcastVoq (l : LetterId) (voq enable : W32) :
    exec (.fabricSetMcastVoq l voq enable) s = execFabricSetMcastVoq l voq enable s := rfl
@[simp] theorem exec_fabricSetMgroup (l : LetterId) (mgid : W32) (queues : ListArg W32) :
    exec (.fabricSetMgroup l mgid queues) s = execFabricSetMgroup l mgid queues s := rfl
@[simp] theorem exec_hbmCommandSlot (pchan : Fin 512) (outcome : ReadOutcome) :
    exec (.hbmCommandSlot pchan outcome) s = execHbmCommandSlot pchan outcome s := rfl
@[simp] theorem exec_panicReadExpiry (pchan : Fin 512) :
    exec (.panicReadExpiry pchan) s = execPanicReadExpiry pchan s := rfl
@[simp] theorem exec_refreshDue (pchan : Fin 512) (bank : Fin 64) :
    exec (.refreshDue pchan bank) s = execRefreshDue pchan bank s := rfl
@[simp] theorem exec_hbmTraining (stack : Fin 8) (lanes : List LaneSweep) :
    exec (.hbmTraining stack lanes) s = execHbmTraining stack lanes s := rfl
@[simp] theorem exec_retrainFence (stack : Fin 8) : exec (.retrainFence stack) s = execRetrainFence stack s := rfl
@[simp] theorem exec_retrainWindowStart (stack : Fin 8) :
    exec (.retrainWindowStart stack) s = execRetrainWindowStart stack s := rfl
@[simp] theorem exec_retrainWindowEnd (stack : Fin 8) (lanes : List LaneEdges) :
    exec (.retrainWindowEnd stack lanes) s = execRetrainWindowEnd stack lanes s := rfl
@[simp] theorem exec_selfRefreshEntry (stack : Fin 8) :
    exec (.selfRefreshEntry stack) s = execSelfRefreshEntry stack s := rfl
@[simp] theorem exec_selfRefreshExit (stack : Fin 8) :
    exec (.selfRefreshExit stack) s = execSelfRefreshExit stack s := rfl
@[simp] theorem exec_pchDrained (pchan : Fin 512) : exec (.pchDrained pchan) s = execPchDrained pchan s := rfl
@[simp] theorem exec_stackDrainComplete (stack : Fin 8) :
    exec (.stackDrainComplete stack) s = execStackDrainComplete stack s := rfl
@[simp] theorem exec_hbmSetPanic (l : LetterId) (panicNs : W64) :
    exec (.hbmSetPanic l panicNs) s = execHbmSetPanic l panicNs s := rfl
@[simp] theorem exec_hbmSetNeighbour (l : LetterId) (n : W32) :
    exec (.hbmSetNeighbour l n) s = execHbmSetNeighbour l n s := rfl
@[simp] theorem exec_hbmSetRetrain (l : LetterId) (period : W64) :
    exec (.hbmSetRetrain l period) s = execHbmSetRetrain l period s := rfl
@[simp] theorem exec_hbmRetrainNow (l : LetterId) (pchan : W32) :
    exec (.hbmRetrainNow l pchan) s = execHbmRetrainNow l pchan s := rfl
@[simp] theorem exec_hbmSetSelfRefresh (l : LetterId) (srIdle : W64) :
    exec (.hbmSetSelfRefresh l srIdle) s = execHbmSetSelfRefresh l srIdle s := rfl
@[simp] theorem exec_hbmDisableStack (l : LetterId) (stack : W32) :
    exec (.hbmDisableStack l stack) s = execHbmDisableStack l stack s := rfl
@[simp] theorem exec_hbmEnableStack (l : LetterId) (stack : W32) :
    exec (.hbmEnableStack l stack) s = execHbmEnableStack l stack s := rfl
@[simp] theorem exec_hbmReadEyes (l : LetterId) (stack : W32) (result : W64) (busOk : Bool) :
    exec (.hbmReadEyes l stack result busOk) s = execHbmReadEyes l stack result busOk s := rfl
@[simp] theorem exec_sliceCreate (l : LetterId) (slice pasid : W32) (quotas : ListArg QuotaItem) (letters receipts
    : W64) (depth : W32) :
    exec (.sliceCreate l slice pasid quotas letters receipts depth) s = execSliceCreate l slice pasid quotas
    letters receipts depth s := rfl
@[simp] theorem exec_sliceSetShare (l : LetterId) (slice : W32) (quotas : ListArg QuotaItem) :
    exec (.sliceSetShare l slice quotas) s = execSliceSetShare l slice quotas s := rfl
@[simp] theorem exec_sliceHoldQuiesced (slice : Fin 64) :
    exec (.sliceHoldQuiesced slice) s = execSliceHoldQuiesced slice s := rfl
@[simp] theorem exec_sliceReset (l : LetterId) (slice : W32) :
    exec (.sliceReset l slice) s = execSliceReset l slice s := rfl
@[simp] theorem exec_sliceQuiescence (squashedWrites squashedReads : BitVec 32) :
    exec (.sliceQuiescence squashedWrites squashedReads) s = execSliceQuiescence squashedWrites squashedReads s := rfl
@[simp] theorem exec_sliceResetClear : exec .sliceResetClear s = execSliceResetClear s := rfl
@[simp] theorem exec_sliceDelete (l : LetterId) (slice : W32) :
    exec (.sliceDelete l slice) s = execSliceDelete l slice s := rfl
@[simp] theorem exec_sliceBindInband (l : LetterId) (slice : W32) (address : Ip) (udpPort : W32) :
    exec (.sliceBindInband l slice address udpPort) s = execSliceBindInband l slice address udpPort s := rfl
@[simp] theorem exec_sliceDirtyLog (l : LetterId) (slice enable : W32) (bitmap size : W64) (busOk : Bool) :
    exec (.sliceDirtyLog l slice enable bitmap size busOk) s = execSliceDirtyLog l slice enable bitmap size busOk s
    := rfl
@[simp] theorem exec_sliceStatus (l : LetterId) (slice : W32) :
    exec (.sliceStatus l slice) s = execSliceStatus l slice s := rfl
@[simp] theorem exec_courierBurst (toHost : Bool) (requester : Requester) (bytes : BitVec 13) (busOk : Bool) :
    exec (.courierBurst toHost requester bytes busOk) s = execCourierBurst toHost requester bytes busOk s := rfl
@[simp] theorem exec_courierReadReturn (channel : Fin 64) (data : Option (List Byte)) :
    exec (.courierReadReturn channel data) s = execCourierReadReturn channel data s := rfl
@[simp] theorem exec_descriptorComplete (channel : Fin 64) :
    exec (.descriptorComplete channel) s = execDescriptorComplete channel s := rfl
@[simp] theorem exec_injectRecord (channel : Fin 64) (rivals : List Rival) :
    exec (.injectRecord channel rivals) s = execInjectRecord channel rivals s := rfl
@[simp] theorem exec_circularRecordWrite (channel : Fin 64) :
    exec (.circularRecordWrite channel) s = execCircularRecordWrite channel s := rfl
@[simp] theorem exec_courierStopBoundary (channel : Fin 64) :
    exec (.courierStopBoundary channel) s = execCourierStopBoundary channel s := rfl
@[simp] theorem exec_courierOpenChannel (l : LetterId) (channel : W32) (ring : W64) (depth share : W32) :
    exec (.courierOpenChannel l channel ring depth share) s = execCourierOpenChannel l channel ring depth share s
    := rfl
@[simp] theorem exec_courierStop (l : LetterId) (channel : W32) :
    exec (.courierStop l channel) s = execCourierStop l channel s := rfl
@[simp] theorem exec_courierClose (l : LetterId) (channel : W32) :
    exec (.courierClose l channel) s = execCourierClose l channel s := rfl
@[simp] theorem exec_courierSetShare (l : LetterId) (channel share : W32) :
    exec (.courierSetShare l channel share) s = execCourierSetShare l channel share s := rfl
@[simp] theorem exec_heartbeat (pm : Pm) : exec (.heartbeat pm) s = execHeartbeat pm s := rfl
@[simp] theorem exec_heartbeatLapse : exec .heartbeatLapse s = execHeartbeatLapse s := rfl
@[simp] theorem exec_roleGrant (pm : Pm) : exec (.roleGrant pm) s = execRoleGrant pm s := rfl
@[simp] theorem exec_stopConfirmation (pm : Pm) : exec (.stopConfirmation pm) s = execStopConfirmation pm s := rfl
@[simp] theorem exec_dualActiveTimeout : exec .dualActiveTimeout s = execDualActiveTimeout s := rfl
@[simp] theorem exec_postmasterRestart (pm : Pm) : exec (.postmasterRestart pm) s = execPostmasterRestart pm s := rfl
@[simp] theorem exec_bootSelftestDone (pm : Pm) (passed : Bool) :
    exec (.bootSelftestDone pm passed) s = execBootSelftestDone pm passed s := rfl
@[simp] theorem exec_syncComplete (pm : Pm) (crcAgrees : Bool) :
    exec (.syncComplete pm crcAgrees) s = execSyncComplete pm crcAgrees s := rfl
@[simp] theorem exec_standbyAckTimeout : exec .standbyAckTimeout s = execStandbyAckTimeout s := rfl
@[simp] theorem exec_selftestItem (pm : Pm) (item : SelftestItem) (passed : Bool) :
    exec (.selftestItem pm item passed) s = execSelftestItem pm item passed s := rfl
@[simp] theorem exec_postmasterFailure (pm : Pm) (code : FailCode) :
    exec (.postmasterFailure pm code) s = execPostmasterFailure pm code s := rfl
@[simp] theorem exec_healthWrite (pm : Pm) (temp : Byte) :
    exec (.healthWrite pm temp) s = execHealthWrite pm temp s := rfl
@[simp] theorem exec_headlessRebuild (pm : Pm) : exec (.headlessRebuild pm) s = execHeadlessRebuild pm s := rfl
@[simp] theorem exec_imageWrite (l : LetterId) (part bank : W32) (offset : W64) (data : ListArg Byte) :
    exec (.imageWrite l part bank offset data) s = execImageWrite l part bank offset data s := rfl
@[simp] theorem exec_flashWriteComplete (readBackOk : Bool) :
    exec (.flashWriteComplete readBackOk) s = execFlashWriteComplete readBackOk s := rfl
@[simp] theorem exec_imageVerify (l : LetterId) (part bank : W32) :
    exec (.imageVerify l part bank) s = execImageVerify l part bank s := rfl
@[simp] theorem exec_imageVerifyComplete (part : Fin 6) (bankB : Bool) :
    exec (.imageVerifyComplete part bankB) s = execImageVerifyComplete part bankB s := rfl
@[simp] theorem exec_imageActivate (l : LetterId) (parts : W32) (t : TimeParam) :
    exec (.imageActivate l parts t) s = execImageActivate l parts t s := rfl
@[simp] theorem exec_imageAbort (l : LetterId) (parts : W32) :
    exec (.imageAbort l parts) s = execImageAbort l parts s := rfl
@[simp] theorem exec_imageList (l : LetterId) : exec (.imageList l) s = execImageList l s := rfl
@[simp] theorem exec_activationStart : exec .activationStart s = execActivationStart s := rfl
@[simp] theorem exec_rolloutStepEnd : exec .rolloutStepEnd s = execRolloutStepEnd s := rfl
@[simp] theorem exec_rolloutStepTimeout : exec .rolloutStepTimeout s = execRolloutStepTimeout s := rfl
@[simp] theorem exec_sweepStart : exec .sweepStart s = execSweepStart s := rfl
@[simp] theorem exec_sweepRead : exec .sweepRead s = execSweepRead s := rfl
@[simp] theorem exec_snapshotLatch : exec .snapshotLatch s = execSnapshotLatch s := rfl
@[simp] theorem exec_telemetryReadCounters (l : LetterId) (first count : W32) (result : W64) (busOk : Bool) :
    exec (.telemetryReadCounters l first count result busOk) s = execTelemetryReadCounters l first count result
    busOk s := rfl
@[simp] theorem exec_telemetrySnapshot (l : LetterId) (ranges : ListArg W64) (result : W64) :
    exec (.telemetrySnapshot l ranges result) s = execTelemetrySnapshot l ranges result s := rfl
@[simp] theorem exec_telemetrySetTagging (l : LetterId) (ratio : W32) :
    exec (.telemetrySetTagging l ratio) s = execTelemetrySetTagging l ratio s := rfl
@[simp] theorem exec_telemetrySetTrace (l : LetterId) (benches filter mode : W32) :
    exec (.telemetrySetTrace l benches filter mode) s = execTelemetrySetTrace l benches filter mode s := rfl
@[simp] theorem exec_telemetryReadTrace (l : LetterId) (result : W64) (busOk : Bool) :
    exec (.telemetryReadTrace l result busOk) s = execTelemetryReadTrace l result busOk s := rfl
@[simp] theorem exec_powerRead (l : LetterId) : exec (.powerRead l) s = execPowerRead l s := rfl
@[simp] theorem exec_powerSetCap (l : LetterId) (cap : W32) :
    exec (.powerSetCap l cap) s = execPowerSetCap l cap s := rfl
@[simp] theorem exec_powerSetAlert (l : LetterId) (inputLow inputHigh temp : W32) :
    exec (.powerSetAlert l inputLow inputHigh temp) s = execPowerSetAlert l inputLow inputHigh temp s := rfl
@[simp] theorem exec_faultRead (l : LetterId) (first count : W32) (result : W64) (busOk : Bool) :
    exec (.faultRead l first count result busOk) s = execFaultRead l first count result busOk s := rfl
@[simp] theorem exec_faultClear (l : LetterId) (code : W32) :
    exec (.faultClear l code) s = execFaultClear l code s := rfl
@[simp] theorem exec_faultSetMask (l : LetterId) (code paths : W32) :
    exec (.faultSetMask l code paths) s = execFaultSetMask l code paths s := rfl
@[simp] theorem exec_mirrorConfigure (l : LetterId) (session destination : W32) (truncate : W64) (sample enabled :
    W32) :
    exec (.mirrorConfigure l session destination truncate sample enabled) s = execMirrorConfigure l session
    destination truncate sample enabled s := rfl
@[simp] theorem exec_mirrorDisable (l : LetterId) (session : W32) :
    exec (.mirrorDisable l session) s = execMirrorDisable l session s := rfl
@[simp] theorem exec_faultEventHoldoffExpiry (record : W32) :
    exec (.faultEventHoldoffExpiry record) s = execFaultEventHoldoffExpiry record s := rfl
@[simp] theorem exec_suppressionGraceExpiry (record : W32) :
    exec (.suppressionGraceExpiry record) s = execSuppressionGraceExpiry record s := rfl
@[simp] theorem exec_inputRise : exec .inputRise s = execInputRise s := rfl
@[simp] theorem exec_housekeepingBoot : exec .housekeepingBoot s = execHousekeepingBoot s := rfl
@[simp] theorem exec_inputVoltageBand (millivolts : BitVec 17) :
    exec (.inputVoltageBand millivolts) s = execInputVoltageBand millivolts s := rfl
@[simp] theorem exec_undervoltageLockout : exec .undervoltageLockout s = execUndervoltageLockout s := rfl
@[simp] theorem exec_overvoltageShutdown : exec .overvoltageShutdown s = execOvervoltageShutdown s := rfl
@[simp] theorem exec_overvoltageRecovery : exec .overvoltageRecovery s = execOvervoltageRecovery s := rfl
@[simp] theorem exec_pwrEnAssert : exec .pwrEnAssert s = execPwrEnAssert s := rfl
@[simp] theorem exec_pwrEnDeassert : exec .pwrEnDeassert s = execPwrEnDeassert s := rfl
@[simp] theorem exec_powerGood : exec .powerGood s = execPowerGood s := rfl
@[simp] theorem exec_domainSwitchComplete : exec .domainSwitchComplete s = execDomainSwitchComplete s := rfl
@[simp] theorem exec_domainFailure (domain : Fin 148) :
    exec (.domainFailure domain) s = execDomainFailure domain s := rfl
@[simp] theorem exec_temperatureChange (reading : TempReading) :
    exec (.temperatureChange reading) s = execTemperatureChange reading s := rfl
@[simp] theorem exec_thermalShutdown : exec .thermalShutdown s = execThermalShutdown s := rfl
@[simp] theorem exec_powerCapCheck (tenthWatts : BitVec 16) :
    exec (.powerCapCheck tenthWatts) s = execPowerCapCheck tenthWatts s := rfl
@[simp] theorem exec_throttleNChange (asserted : Bool) :
    exec (.throttleNChange asserted) s = execThrottleNChange asserted s := rfl
@[simp] theorem exec_pmbusClearFaults : exec .pmbusClearFaults s = execPmbusClearFaults s := rfl
@[simp] theorem exec_statusWord : exec .statusWord s = execStatusWord s := rfl
@[simp] theorem exec_statusInput : exec .statusInput s = execStatusInput s := rfl
@[simp] theorem exec_statusTemperature : exec .statusTemperature s = execStatusTemperature s := rfl
@[simp] theorem exec_readVin : exec .readVin s = execReadVin s := rfl
@[simp] theorem exec_readIin : exec .readIin s = execReadIin s := rfl
@[simp] theorem exec_readTemperature1 : exec .readTemperature1 s = execReadTemperature1 s := rfl
@[simp] theorem exec_readTemperature2 : exec .readTemperature2 s = execReadTemperature2 s := rfl
@[simp] theorem exec_readPin : exec .readPin s = execReadPin s := rfl
@[simp] theorem exec_pmbusRevision : exec .pmbusRevision s = execPmbusRevision s := rfl
@[simp] theorem exec_pmbusUnsupported (code : Byte) :
    exec (.pmbusUnsupported code) s = execPmbusUnsupported code s := rfl
@[simp] theorem exec_fruEepromRead (offset : BitVec 13) :
    exec (.fruEepromRead offset) s = execFruEepromRead offset s := rfl
@[simp] theorem exec_telemetryMirrorUpdate (iin : W32) (rails : List (W32 × W32)) :
    exec (.telemetryMirrorUpdate iin rails) s = execTelemetryMirrorUpdate iin rails s := rfl
@[simp] theorem exec_referenceLost (input : RefInput) :
    exec (.referenceLost input) s = execReferenceLost input s := rfl
@[simp] theorem exec_referenceRegained (input : RefInput) :
    exec (.referenceRegained input) s = execReferenceRegained input s := rfl
@[simp] theorem exec_resetNAssert : exec .resetNAssert s = execResetNAssert s := rfl
@[simp] theorem exec_resetNRelease : exec .resetNRelease s = execResetNRelease s := rfl
@[simp] theorem exec_housekeepingWatchdog : exec .housekeepingWatchdog s = execHousekeepingWatchdog s := rfl
@[simp] theorem exec_pcieReset (kind : PcieResetKind) : exec (.pcieReset kind) s = execPcieReset kind s := rfl
@[simp] theorem exec_startupResetDone : exec .startupResetDone s = execStartupResetDone s := rfl
@[simp] theorem exec_startupApplyDone (failed : Bool) :
    exec (.startupApplyDone failed) s = execStartupApplyDone failed s := rfl
@[simp] theorem exec_startupTimeout : exec .startupTimeout s = execStartupTimeout s := rfl
@[simp] theorem exec_configurationWrite (field : ConfigField) :
    exec (.configurationWrite field) s = execConfigurationWrite field s := rfl
@[simp] theorem exec_envelopeLanesIdle (fgroup : Fin 12) (otu : Bool) (index : Fin 4) :
    exec (.envelopeLanesIdle fgroup otu index) s = execEnvelopeLanesIdle fgroup otu index s := rfl
@[simp] theorem exec_flexeDeskewRecovery (fgroup : Fin 12) (group : Fin 4) :
    exec (.flexeDeskewRecovery fgroup group) s = execFlexeDeskewRecovery fgroup group s := rfl
@[simp] theorem exec_ptpSourceLost (source : Fin 4) :
    exec (.ptpSourceLost source) s = execPtpSourceLost source s := rfl
@[simp] theorem exec_startupSettingsDone : exec .startupSettingsDone s = execStartupSettingsDone s := rfl

end Sys2Proof.Machine
end

