-- ==== Sys2Proof/Laws/Fabric.lean ====
section
/-!
SUPPORT. Laws/Fabric.lean: what a link does with a cell it receives, said once for every kind of cell (08 R263, R266,
R281, R288, R290, R291).
-/

namespace Sys2Proof.Machine

variable {s u : State} {link : Fin 256} {cell : List Byte} {act : State → State}

theorem hear_good (h : (s.link link).st = .up ∨ (s.link link).st = .ident) (g : GoodCell cell) :
    s.hear link cell true true act = act (s.heardCell link cell) := by
  obtain ⟨g1, g2, g3⟩ := g
  rcases h with h | h <;> simp [State.hear, h, g1, g2, g3, State.heardCell]

theorem hear_more (h : (s.link link).st = .up ∨ (s.link link).st = .ident) (g : GoodCell cell) :
    s.hear link cell true false act = act s := by
  obtain ⟨g1, g2, g3⟩ := g
  rcases h with h | h <;> simp [State.hear, h, g1, g2, g3]

theorem hear_bad (h : (s.link link).st = .up ∨ (s.link link).st = .ident) (fecOk once : Bool)
    (b : fecOk = false ∨ crcGood cell = false ∨ badHead cell = true) :
    s.hear link cell fecOk once act =
      if once = false then s
      else if fecOk = false then (s.bump .fabFecUncorr link).lossEvent
      else if crcGood cell = false then ((s.takeHold link (cellHold cell)).bump .fabCrc link).lossEvent
      else ((s.takeHold link (cellHold cell)).bump .fabMalformed link).lossEvent := by
  rcases h with h | h <;> cases fecOk <;> cases once <;> cases c : crcGood cell <;>
    simp [State.hear, h, c] at b ⊢ <;> simp [b]

theorem hear_idle (h : (s.link link).st = .up ∨ (s.link link).st = .ident) (g1 : crcGood cell = true)
    (g2 : badHead cell = false) (g3 : cellType cell = 0) :
    s.hear link cell true true act = s.takeHold link (cellHold cell) := by
  rcases h with h | h <;> simp [State.hear, h, g1, g2, g3]

theorem hear_off (h1 : (s.link link).st ≠ .up) (h2 : (s.link link).st ≠ .ident) (fecOk once : Bool) :
    s.hear link cell fecOk once act = s := by
  simp [State.hear, h1, h2]

theorem zero18 : (0 : Fin 18).val = 0 := rfl

/-- A credit message that is acted on. -/
theorem takeCredit_of {index : Fin 18} {mtype m : Nat} {act : Nat → State → State}
    (h : CreditFrom s u link cell index mtype m) : s.takeCredit link cell true mtype index act = act m u := by
  obtain ⟨-, h1, g, h2, rfl, h3, h4, h5⟩ := h
  unfold State.takeCredit
  by_cases c : index = 0
  · subst c
    simp only [zero18, decide_true, ↓reduceIte] at h2 h3 h4 h5 ⊢
    rw [hear_good (.inl h1) g]
    simp [h2, h3, h4, h5]
  · have c' : ¬ index.val = 0 := fun x => c (Fin.ext x)
    simp only [c, ↓reduceIte] at h3 h4 h5 ⊢
    simp only [c', decide_false]
    rw [hear_more (.inl h1) g]
    simp [h2, h3, h4, h5]

end Sys2Proof.Machine
end

