-- ==== Sys2Proof/Laws/Kept.lean ====
section
/-!
SUPPORT. Laws/Kept.lean: what every operation but those of a pass, of a reset and of the local-memory letter leaves
alone.
-/

set_option linter.unusedSimpArgs false

namespace Sys2Proof.Machine

/-- What most operations leave alone: the variant, the queue, local memory, the trace ledger, the number of tag
records. -/
def kept (s : State) : Variant × List Instr × List Host.Cell × List (BitVec 256) × Nat :=
  (s.variant, s.pending, s.clerks.localMem, s.tel.trace, s.tel.tags.length)

section
variable (t : State)
@[simp] theorem kept_time (x : TimeUnit) : kept { t with time := x } = kept t := rfl
@[simp] theorem kept_peers (x : NMap Peer) : kept { t with peers := x } = kept t := rfl
@[simp] theorem kept_epoch (x : EpochUnit) : kept { t with epoch := x } = kept t := rfl
@[simp] theorem kept_d2d (x : D2dUnit) : kept { t with d2d := x } = kept t := rfl
@[simp] theorem kept_line (x : LineUnit) : kept { t with line := x } = kept t := rfl
@[simp] theorem kept_lookup (x : LookupUnit) : kept { t with lookup := x } = kept t := rfl
@[simp] theorem kept_buffers (x : BufferUnit) : kept { t with buffers := x } = kept t := rfl
@[simp] theorem kept_queues (x : QueueUnit) : kept { t with queues := x } = kept t := rfl
@[simp] theorem kept_fabric (x : FabricUnit) : kept { t with fabric := x } = kept t := rfl
@[simp] theorem kept_hbm (x : HbmUnit) : kept { t with hbm := x } = kept t := rfl
@[simp] theorem kept_letters (x : LetterUnit) : kept { t with letters := x } = kept t := rfl
@[simp] theorem kept_mgmt (x : MgmtUnit) : kept { t with mgmt := x } = kept t := rfl
@[simp] theorem kept_slices (x : NMap Slice) : kept { t with slices := x } = kept t := rfl
@[simp] theorem kept_courier (x : CourierUnit) : kept { t with courier := x } = kept t := rfl
@[simp] theorem kept_pm (x : PmUnit) : kept { t with pm := x } = kept t := rfl
@[simp] theorem kept_images (x : ImageUnit) : kept { t with images := x } = kept t := rfl
@[simp] theorem kept_power (x : PowerUnit) : kept { t with power := x } = kept t := rfl
@[simp] theorem kept_faults (x : FaultUnit) : kept { t with faults := x } = kept t := rfl
@[simp] theorem kept_regs (x : RegUnit) : kept { t with regs := x } = kept t := rfl
@[simp] theorem kept_fresh (x : Nat) : kept { t with fresh := x } = kept t := rfl
@[simp] theorem kept_out (x : List Output) : kept { t with out := x } = kept t := rfl
theorem kept_clerks (x : ClerkUnit) (h : x.localMem = t.clerks.localMem) : kept { t with clerks := x } = kept t := by
  simp [kept, h]
theorem kept_tel (x : TelUnit) (h : x.trace = t.tel.trace) (h1 : x.tags.length = t.tel.tags.length) :
    kept { t with tel := x } = kept t := by
  simp [kept, h, h1]
end

theorem kept_foldl {α : Type} (f : State → α → State) (l : List α) (s : State) (h : ∀ s a, kept (f s a) = kept s) :
    kept (l.foldl f s) = kept s := by
  induction l generalizing s with
  | nil => rfl
  | cons a l ih => simp [ih, h]


theorem kept_mk (variant time peers epoch d2d line clerks lookup buffers queues fabric hbm letters mgmt slices courier pm images tel power
    faults regs fresh out pending) : kept (State.mk variant time peers epoch d2d line clerks lookup buffers queues fabric hbm letters mgmt
    slices courier pm images tel power faults regs fresh out pending) =
    (variant, pending, clerks.localMem, tel.trace, tel.tags.length) := rfl
theorem kept_pack (s : State) : (s.variant, s.pending, s.clerks.localMem, s.tel.trace, s.tel.tags.length) = kept s := rfl

theorem kept_foldl_fst {α β : Type} (f : State × β → α → State × β) (l : List α) (s : State × β)
    (h : ∀ s a, kept (f s a).1 = kept s.1) : kept (l.foldl f s).1 = kept s.1 := by
  induction l generalizing s with
  | nil => rfl
  | cons a l ih => simp [ih, h]

theorem kept_foldl_snd {α β : Type} (f : β × State → α → β × State) (l : List α) (s : β × State)
    (h : ∀ s a, kept (f s a).2 = kept s.2) : kept (l.foldl f s).2 = kept s.2 := by
  induction l generalizing s with
  | nil => rfl
  | cons a l ih => simp [ih, h]

/-- A verdict whose next state keeps what `kept` names. -/
def Verdict.keeps (v : Verdict) (s : State) : Prop :=
  match v with
  | .accept _ n _ _ _ _ | .partFault _ _ _ n => kept n = kept s
  | _ => True

@[simp] theorem kept_count (s : State) (i n sum : Nat) : kept (State.count s i n sum) = kept s := by
  unfold State.count
  try dsimp only
  repeat' split
  all_goals simp [kept_mk, kept_pack, kept_foldl, apply_ite kept]

@[simp] theorem kept_bump (s : State) (f : Fam) (obj : Nat) (elem : Nat) (n : Nat) (sum : Nat) : kept (State.bump s f obj elem n sum) = kept s := by
  unfold State.bump
  try dsimp only
  repeat' split
  all_goals simp [kept_mk, kept_pack, kept_foldl, apply_ite kept]

@[simp] theorem kept_bumpBy (s : State) (f : Fam) (obj elem n : Nat) : kept (State.bumpBy s f obj elem n) = kept s := by
  unfold State.bumpBy
  try dsimp only
  repeat' split
  all_goals simp [kept_mk, kept_pack, kept_foldl, apply_ite kept]

@[simp] theorem kept_peak (s : State) (f : Fam) (v : Nat) : kept (State.peak s f v) = kept s := by
  unfold State.peak
  try dsimp only
  repeat' split
  all_goals simp [kept_mk, kept_pack, kept_foldl, apply_ite kept]

@[simp] theorem kept_emit (s : State) (o : Output) : kept (State.emit s o) = kept s := by
  unfold State.emit
  try dsimp only
  repeat' split
  all_goals simp [kept_mk, kept_pack, kept_foldl, apply_ite kept]

@[simp] theorem kept_free (s : State) : kept s.free.2 = kept s := rfl

@[simp] theorem kept_setDomain (s : State) (d : Nat) (on : Bool) : kept (State.setDomain s d on) = kept s := by
  unfold State.setDomain
  try dsimp only
  repeat' split
  all_goals simp [kept_mk, kept_pack, kept_foldl, apply_ite kept]

@[simp] theorem kept_askDomain (s : State) (d : Nat) (on : Bool) : kept (State.askDomain s d on) = kept s := by
  unfold State.askDomain
  try dsimp only
  repeat' split
  all_goals simp [kept_mk, kept_pack, kept_foldl, apply_ite kept]

@[simp] theorem kept_setPost (s : State) (p : Pm) (v : Postmaster) : kept (State.setPost s p v) = kept s := by
  unfold State.setPost
  try dsimp only
  repeat' split
  all_goals simp [kept_mk, kept_pack, kept_foldl, apply_ite kept]

@[simp] theorem kept_setSlice (s : State) (i : Nat) (v : Slice) : kept (State.setSlice s i v) = kept s := by
  unfold State.setSlice
  try dsimp only
  repeat' split
  all_goals simp [kept_mk, kept_pack, kept_foldl, apply_ite kept]

@[simp] theorem kept_modSlice (s : State) (i : Nat) (f : Slice → Slice) : kept (State.modSlice s i f) = kept s := by
  unfold State.modSlice
  try dsimp only
  repeat' split
  all_goals simp [kept_mk, kept_pack, kept_foldl, apply_ite kept]

@[simp] theorem kept_signal (s : State) (v : Nat) : kept (State.signal s v) = kept s := by
  unfold State.signal
  try dsimp only
  repeat' split
  all_goals simp [kept_mk, kept_pack, kept_foldl, apply_ite kept]

@[simp] theorem kept_setEvRing (s : State) (i : Nat) (v : EventRing) : kept (State.setEvRing s i v) = kept s := by
  unfold State.setEvRing
  try dsimp only
  repeat' split
  all_goals simp [kept_mk, kept_pack, kept_foldl, apply_ite kept]

@[simp] theorem kept_event (s : State) (i : Nat) (e : Event) : kept (State.event s i e) = kept s := by
  unfold State.event
  try dsimp only
  repeat' split
  all_goals simp [kept_mk, kept_pack, kept_foldl, apply_ite kept]

@[simp] theorem kept_setFault (s : State) (r : FaultRec) : kept (State.setFault s r) = kept s := by
  unfold State.setFault
  try dsimp only
  repeat' split
  all_goals simp [kept_mk, kept_pack, kept_foldl, apply_ite kept]

@[simp] theorem kept_sendFault (s : State) (r : FaultRec) : kept (State.sendFault s r) = kept s := by
  unfold State.sendFault
  try dsimp only
  repeat' split
  all_goals simp [kept_mk, kept_pack, kept_foldl, apply_ite kept]

@[simp] theorem kept_report (s : State) (n : W32) : kept (State.report s n) = kept s := by
  unfold State.report
  try dsimp only
  repeat' split
  all_goals simp [kept_mk, kept_pack, kept_foldl, apply_ite kept]

@[simp] theorem kept_holdGrace (s : State) (code object : Nat) : kept (State.holdGrace s code object) = kept s := by
  unfold State.holdGrace
  try dsimp only
  repeat' split
  all_goals simp [kept_mk, kept_pack, kept_foldl, apply_ite kept]

@[simp] theorem kept_raise (s : State) (code object : Nat) (detail party owner seq : Nat) (sev : Option Nat) : kept (State.raise s code object detail party owner seq sev) = kept s := by
  unfold State.raise
  try dsimp only
  repeat' split
  all_goals simp [kept_mk, kept_pack, kept_foldl, apply_ite kept]

@[simp] theorem kept_startGrace (s : State) : kept (State.startGrace s) = kept s := by
  unfold State.startGrace
  try dsimp only
  repeat' split
  all_goals simp [kept_mk, kept_pack, kept_foldl, apply_ite kept]

@[simp] theorem kept_clearRec (s : State) (r : FaultRec) : kept (State.clearRec s r) = kept s := by
  unfold State.clearRec
  try dsimp only
  repeat' split
  all_goals simp [kept_mk, kept_pack, kept_foldl, apply_ite kept]

@[simp] theorem kept_clearFault (s : State) (code object : Nat) : kept (State.clearFault s code object) = kept s := by
  unfold State.clearFault
  try dsimp only
  repeat' split
  all_goals simp [kept_mk, kept_pack, kept_foldl, apply_ite kept]

@[simp] theorem kept_condition (s : State) (code object : Nat) (holds : Bool) (detail : Nat) (owner : Nat) (sev : Option Nat) : kept (State.condition s code object holds detail owner sev) = kept s := by
  unfold State.condition
  try dsimp only
  repeat' split
  all_goals simp [kept_mk, kept_pack, kept_foldl, apply_ite kept]

@[simp] theorem kept_soleCondition (s : State) (code object : Nat) (holds : Bool) (detail : Nat) : kept (State.soleCondition s code object holds detail) = kept s := by
  unfold State.soleCondition
  try dsimp only
  repeat' split
  all_goals simp [kept_mk, kept_pack, kept_foldl, apply_ite kept]

@[simp] theorem kept_pageEvent (s : State) (event resource index owner : Nat) : kept (State.pageEvent s event resource index owner) = kept s := by
  unfold State.pageEvent
  try dsimp only
  repeat' split
  all_goals simp [kept_mk, kept_pack, kept_foldl, apply_ite kept]

@[simp] theorem kept_setLedger (s : State) (i : Nat) (v : Ledger) : kept (State.setLedger s i v) = kept s := by
  unfold State.setLedger
  try dsimp only
  repeat' split
  all_goals simp [kept_mk, kept_pack, kept_foldl, apply_ite kept]

@[simp] theorem kept_setEntry (s : State) (l : LetterId) (e : Entry) : kept (State.setEntry s l e) = kept s := by
  unfold State.setEntry
  try dsimp only
  repeat' split
  all_goals simp [kept_mk, kept_pack, kept_foldl, apply_ite kept]

@[simp] theorem kept_setRing (s : State) (sl r : Nat) (v : Ring) : kept (State.setRing s sl r v) = kept s := by
  unfold State.setRing
  try dsimp only
  repeat' split
  all_goals simp [kept_mk, kept_pack, kept_foldl, apply_ite kept]

@[simp] theorem kept_pushReceipt (s : State) (sl : Nat) (via : Via) (r : Receipt) (reserved : Bool) : kept (State.pushReceipt s sl via r reserved) = kept s := by
  unfold State.pushReceipt
  try dsimp only
  repeat' split
  all_goals simp [kept_mk, kept_pack, kept_foldl, apply_ite kept]

@[simp] theorem kept_unreserve (s : State) (sl : Nat) (via : Via) : kept (State.unreserve s sl via) = kept s := by
  unfold State.unreserve
  try dsimp only
  repeat' split
  all_goals simp [kept_mk, kept_pack, kept_foldl, apply_ite kept]

@[simp] theorem kept_finish (s : State) (l : LetterId) (e : Entry) (r : Receipt) : kept (State.finish s l e r) = kept s := by
  unfold State.finish
  try dsimp only
  repeat' split
  all_goals simp [kept_mk, kept_pack, kept_foldl, apply_ite kept]

@[simp] theorem kept_settle (s : State) (l : LetterId) : kept (State.settle s l) = kept s := by
  unfold State.settle
  try dsimp only
  repeat' split
  all_goals simp [kept_mk, kept_pack, kept_foldl, apply_ite kept]

@[simp] theorem kept_release (s : State) (l : LetterId) : kept (State.release s l) = kept s := by
  unfold State.release
  try dsimp only
  repeat' split
  all_goals simp [kept_mk, kept_pack, kept_foldl, apply_ite kept]

@[simp] theorem kept_release? (s : State) (l : Option LetterId) : kept (State.release? s l) = kept s := by
  unfold State.release?
  try dsimp only
  repeat' split
  all_goals simp [kept_mk, kept_pack, kept_foldl, apply_ite kept]

@[simp] theorem kept_modReceipt (s : State) (l : LetterId) (f : Receipt → Receipt) : kept (State.modReceipt s l f) = kept s := by
  unfold State.modReceipt
  try dsimp only
  repeat' split
  all_goals simp [kept_mk, kept_pack, kept_foldl, apply_ite kept]

@[simp] theorem kept_internalFault (s : State) (l : LetterId) (cause party : Nat) (part : Bool) : kept (State.internalFault s l cause party part) = kept s := by
  unfold State.internalFault
  try dsimp only
  repeat' split
  all_goals simp [kept_mk, kept_pack, kept_foldl, apply_ite kept]

@[simp] theorem kept_byLetter (s t : State) (n : W32) : kept (State.byLetter t s n) = kept t := rfl

theorem kept_runLetter {l : LetterId} {op : Nat} {ps : List Par} {act : Ctx → Verdict} {s : State}
    (h : ∀ c : Ctx, (act c).keeps s) : kept (runLetter l op ps act s) = kept s := by
  unfold runLetter
  split
  · rfl
  · rename_i e he
    have hc := h ⟨l, e⟩
    split
    · simp
    · simp
    · rename_i hv
      rw [hv] at hc
      dsimp only
      rw [kept_internalFault, kept_setEntry, kept_byLetter]
      exact hc
    · rename_i hv
      rw [hv] at hc
      dsimp only
      rw [kept_setEntry, kept_byLetter]
      exact hc

@[simp] theorem kept_setPch (s : State) (c : Nat) (v : Pch) : kept (State.setPch s c v) = kept s := by
  unfold State.setPch
  try dsimp only
  repeat' split
  all_goals simp [kept_mk, kept_pack, kept_foldl, apply_ite kept]

@[simp] theorem kept_setStack (s : State) (i : Nat) (v : Stack) : kept (State.setStack s i v) = kept s := by
  unfold State.setStack
  try dsimp only
  repeat' split
  all_goals simp [kept_mk, kept_pack, kept_foldl, apply_ite kept]

@[simp] theorem kept_debitDeep (s : State) (i bytes : Nat) (write : Bool) : kept (State.debitDeep s i bytes write) = kept s := by
  unfold State.debitDeep
  try dsimp only
  repeat' split
  all_goals simp [kept_mk, kept_pack, kept_foldl, apply_ite kept]

@[simp] theorem kept_request (s : State) (c : Nat) (r : Request) : kept (State.request s c r) = kept s := by
  unfold State.request
  try dsimp only
  repeat' split
  all_goals simp [kept_mk, kept_pack, kept_foldl, apply_ite kept]

@[simp] theorem kept_access (s : State) (c : Nat) (r : Request) (n : Nat) : kept (s.access c r n) = kept s := by
  induction n generalizing s r with
  | zero => rfl
  | succ n ih =>
    unfold State.access
    dsimp only
    split <;> simp [ih]

@[simp] theorem kept_setQueue (s : State) (q : Nat) (v : Queue) : kept (State.setQueue s q v) = kept s := by
  unfold State.setQueue
  try dsimp only
  repeat' split
  all_goals simp [kept_mk, kept_pack, kept_foldl, apply_ite kept]

@[simp] theorem kept_unspill (s : State) (q : Nat) : kept (State.unspill s q) = kept s := by
  unfold State.unspill
  try dsimp only
  repeat' split
  all_goals simp [kept_mk, kept_pack, kept_foldl, apply_ite kept]

@[simp] theorem kept_setGranule (s : State) (g p : Nat) : kept (State.setGranule s g p) = kept s := by
  unfold State.setGranule
  try dsimp only
  repeat' split
  all_goals simp [kept_mk, kept_pack, kept_foldl, apply_ite kept]

@[simp] theorem kept_metaAccess (s : State) (b : BufId) (addr : Nat → Nat → Nat) (write : Bool) : kept (State.metaAccess s b addr write) = kept s := by
  unfold State.metaAccess
  try dsimp only
  repeat' split
  all_goals simp [kept_mk, kept_pack, kept_foldl, apply_ite kept]

@[simp] theorem kept_freeList (s : State) (b : BufId) (take : Bool) : kept (State.freeList s b take) = kept s := by
  unfold State.freeList
  try dsimp only
  repeat' split
  all_goals simp [kept_mk, kept_pack, kept_foldl, apply_ite kept]

@[simp] theorem kept_own (s : State) (b : BufId) (r : OwnerRec) : kept (State.own s b r) = kept s := by
  unfold State.own
  try dsimp only
  repeat' split
  all_goals simp [kept_mk, kept_pack, kept_foldl, apply_ite kept]

@[simp] theorem kept_allot (s : State) (b : BufId) (r : OwnerRec) : kept (State.allot s b r) = kept s := by
  unfold State.allot
  try dsimp only
  repeat' split
  all_goals simp [kept_mk, kept_pack, kept_foldl, apply_ite kept]

@[simp] theorem kept_moveOwner (s : State) (b : BufId) (o : Owner) : kept (State.moveOwner s b o) = kept s := by
  unfold State.moveOwner
  try dsimp only
  repeat' split
  all_goals simp [kept_mk, kept_pack, kept_foldl, apply_ite kept]

@[simp] theorem kept_moveGranules (s : State) : kept (State.moveGranules s) = kept s := by
  unfold State.moveGranules
  try dsimp only
  repeat' split
  all_goals simp [kept_mk, kept_pack, kept_foldl, apply_ite kept]

@[simp] theorem kept_freeBuf (s : State) (b : BufId) : kept (State.freeBuf s b) = kept s := by
  unfold State.freeBuf
  try dsimp only
  repeat' split
  all_goals simp [kept_mk, kept_pack, kept_foldl, apply_ite kept]

@[simp] theorem kept_doubleFree (s : State) (b : BufId) (agent : Owner) : kept (State.doubleFree s b agent) = kept s := by
  unfold State.doubleFree
  try dsimp only
  repeat' split
  all_goals simp [kept_mk, kept_pack, kept_foldl, apply_ite kept]

@[simp] theorem kept_foreignFree (s : State) (b : BufId) (r : OwnerRec) (agent : Owner) : kept (State.foreignFree s b r agent) = kept s := by
  unfold State.foreignFree
  try dsimp only
  repeat' split
  all_goals simp [kept_mk, kept_pack, kept_foldl, apply_ite kept]

@[simp] theorem kept_freeAs (s : State) (b : BufId) (agent : Owner) : kept (State.freeAs s b agent) = kept s := by
  unfold State.freeAs
  try dsimp only
  repeat' split
  all_goals simp [kept_mk, kept_pack, kept_foldl, apply_ite kept]

@[simp] theorem kept_onLinked (s : State) (b : BufId) (f : Partial → Partial) : kept (State.onLinked s b f) = kept s := by
  unfold State.onLinked
  try dsimp only
  repeat' split
  all_goals simp [kept_mk, kept_pack, kept_foldl, apply_ite kept]

@[simp] theorem kept_freePacket (s : State) (p : Packet) (agent : Owner) : kept (State.freePacket s p agent) = kept s := by
  unfold State.freePacket
  try dsimp only
  repeat' split
  all_goals simp [kept_mk, kept_pack, kept_foldl, apply_ite kept]

@[simp] theorem kept_deepWrite (s : State) (i c : Nat) (b : BufId) (bytes addr : Nat) : kept (State.deepWrite s i c b bytes addr) = kept s := by
  unfold State.deepWrite
  try dsimp only
  repeat' split
  all_goals simp [kept_mk, kept_pack, kept_foldl, apply_ite kept]

@[simp] theorem kept_winRace (s : State) (key k : Nat) : kept (State.winRace s key k) = kept s := by
  unfold State.winRace
  try dsimp only
  repeat' split
  all_goals simp [kept_mk, kept_pack, kept_foldl, apply_ite kept]

@[simp] theorem kept_settleRaces (tier k : Nat) (ps : List Nat) (s : State) :
    kept (State.settleRaces tier k ps s).1 = kept s := by
  induction ps generalizing s with
  | nil => simp [State.settleRaces]
  | cons p ps ih =>
    unfold State.settleRaces
    dsimp only
    repeat' split
    all_goals simp [ih, kept_mk, kept_pack]

@[simp] theorem kept_race (s : State) (tier k len : Nat) : kept (s.race tier k len).1 = kept s := by
  unfold State.race
  split <;> simp

@[simp] theorem kept_contest (s : State) (rivals : List Rival) (f : State → State) (h : ∀ u, kept (f u) = kept u) :
    kept (s.contest rivals f) = kept s := by
  unfold State.contest
  dsimp only
  split
  · exact h s
  · exact (h _).trans rfl

theorem kept_take {s : State} {tier k len : Nat} {o : Owner} {bar : List (Nat × Nat)} {x : Placed × State}
    (h : s.take tier k len o bar = some x) : kept x.2 = kept s := by
  unfold State.take at h
  dsimp only at h
  split at h
  · obtain ⟨y, -, rfl⟩ := Option.map_eq_some_iff.mp h
    simp [apply_ite kept]
  · split at h
    · cases h
    · obtain ⟨y, -, rfl⟩ := Option.map_eq_some_iff.mp h
      simp [apply_ite kept]

theorem kept_newBlock {s t : State} {q : Nat} {b : BufId} (h : s.newBlock q = some (b, t)) : kept t = kept s := by
  unfold State.newBlock at h
  dsimp only at h
  split at h
  · obtain ⟨y, -, h⟩ := Option.map_eq_some_iff.mp h
    cases h; simp
  · simp only [Option.bind_eq_some_iff, Option.map_eq_some_iff] at h
    obtain ⟨x, -, y, -, h⟩ := h
    cases h; simp

@[simp] theorem kept_moveBlock (s : State) (b : BufId) (write : Bool) : kept (State.moveBlock s b write) = kept s := by
  unfold State.moveBlock
  try dsimp only
  repeat' split
  all_goals simp [kept_mk, kept_pack, kept_foldl, apply_ite kept]

@[simp] theorem kept_setBlocks (s : State) (q : Nat) (bs : List DescBlock) : kept (State.setBlocks s q bs) = kept s := by
  unfold State.setBlocks
  try dsimp only
  repeat' split
  all_goals simp [kept_mk, kept_pack, kept_foldl, apply_ite kept]

@[simp] theorem kept_writeTail (s : State) (q : Nat) (next : Option BufId) : kept (State.writeTail s q next) = kept s := by
  unfold State.writeTail
  try dsimp only
  repeat' split
  all_goals simp [kept_mk, kept_pack, kept_foldl, apply_ite kept]

@[simp] theorem kept_cacheBlocks (s : State) (q : Nat) : kept (State.cacheBlocks s q) = kept s := by
  unfold State.cacheBlocks
  try dsimp only
  repeat' split
  all_goals simp [kept_mk, kept_pack, kept_foldl, apply_ite kept]

@[simp] theorem kept_putDescriptor (s : State) (q : Nat) (p : Packet) : kept (s.putDescriptor q p) = kept s := by
  unfold State.putDescriptor
  dsimp only
  repeat' split
  all_goals try simp
  all_goals
    rename_i h
    have := kept_newBlock h
    simpa using this

@[simp] theorem kept_takeDescriptor (s : State) (q : Nat) (p : Packet) : kept (State.takeDescriptor s q p) = kept s := by
  unfold State.takeDescriptor
  try dsimp only
  repeat' split
  all_goals simp [kept_mk, kept_pack, kept_foldl, apply_ite kept]

@[simp] theorem kept_freeOctets (s : State) (n : Nat) : kept (s.freeOctets n).2 = kept s := rfl

@[simp] theorem kept_wholeNow (s : State) (p : Packet) : kept (s.wholeNow p).2 = kept s := by
  unfold State.wholeNow
  dsimp only
  split
  · dsimp only
    split <;> simp
  · rfl

@[simp] theorem kept_dlqEnter (s : State) (cause queue : Nat) (annotation : List Byte) (p : Packet) (agent : Owner) : kept (State.dlqEnter s cause queue annotation p agent) = kept s := by
  unfold State.dlqEnter
  try dsimp only
  repeat' split
  all_goals simp [kept_mk, kept_pack, kept_foldl, apply_ite kept]

@[simp] theorem kept_dlqNew (s : State) (cause : Nat) (annotation : List Byte) (p : Packet) :
    kept (s.dlqNew cause annotation p) = kept s := by
  unfold State.dlqNew
  dsimp only
  split
  · rfl
  · split
    · rename_i h
      have := kept_take h
      simpa using this
    · simp

@[simp] theorem kept_sparse (s : State) (fam obj : Nat) (n : Nat) (sum : Nat) : kept (State.sparse s fam obj n sum) = kept s := by
  unfold State.sparse
  try dsimp only
  repeat' split
  all_goals simp [kept_mk, kept_pack, kept_foldl, apply_ite kept]

@[simp] theorem kept_sparseFree (s : State) (fams : List Nat) (obj : Nat) : kept (State.sparseFree s fams obj) = kept s := by
  unfold State.sparseFree
  try dsimp only
  repeat' split
  all_goals simp [kept_mk, kept_pack, kept_foldl, apply_ite kept]

@[simp] theorem kept_setPeer (s : State) (d : Nat) (v : Peer) : kept (State.setPeer s d v) = kept s := by
  unfold State.setPeer
  try dsimp only
  repeat' split
  all_goals simp [kept_mk, kept_pack, kept_foldl, apply_ite kept]

@[simp] theorem kept_setBench (s : State) (b : Nat) (v : Bench) : kept (State.setBench s b v) = kept s := by
  unfold State.setBench
  try dsimp only
  repeat' split
  all_goals simp [kept_mk, kept_pack, kept_foldl, apply_ite kept]

@[simp] theorem kept_setLink (s : State) (i : Nat) (v : Link) : kept (State.setLink s i v) = kept s := by
  unfold State.setLink
  try dsimp only
  repeat' split
  all_goals simp [kept_mk, kept_pack, kept_foldl, apply_ite kept]

@[simp] theorem kept_setTx (s : State) (d : Nat) (v : TxStream) : kept (State.setTx s d v) = kept s := by
  unfold State.setTx
  try dsimp only
  repeat' split
  all_goals simp [kept_mk, kept_pack, kept_foldl, apply_ite kept]

@[simp] theorem kept_setRx (s : State) (k : Nat) (v : RxStream) : kept (State.setRx s k v) = kept s := by
  unfold State.setRx
  try dsimp only
  repeat' split
  all_goals simp [kept_mk, kept_pack, kept_foldl, apply_ite kept]

@[simp] theorem kept_updateHold (s : State) : kept (State.updateHold s) = kept s := by
  unfold State.updateHold
  try dsimp only
  repeat' split
  all_goals simp [kept_mk, kept_pack, kept_foldl, apply_ite kept]

@[simp] theorem kept_abortCt (s : State) (p : Partial) (cause : Nat) : kept (State.abortCt s p cause) = kept s := by
  unfold State.abortCt
  try dsimp only
  repeat' split
  all_goals simp [kept_mk, kept_pack, kept_foldl, apply_ite kept]

@[simp] theorem kept_freeAdmitted (s : State) (k : Nat) (p : Partial) : kept (State.freeAdmitted s k p) = kept s := by
  unfold State.freeAdmitted
  try dsimp only
  repeat' split
  all_goals simp [kept_mk, kept_pack, kept_foldl, apply_ite kept]

@[simp] theorem kept_dropPartial (s : State) (k : Nat) (p : Partial) : kept (State.dropPartial s k p) = kept s := by
  unfold State.dropPartial
  try dsimp only
  repeat' split
  all_goals simp [kept_mk, kept_pack, kept_foldl, apply_ite kept]

@[simp] theorem kept_restartRx (s : State) (k : Nat) : kept (State.restartRx s k) = kept s := by
  unfold State.restartRx
  try dsimp only
  repeat' split
  all_goals simp [kept_mk, kept_pack, kept_foldl, apply_ite kept]

@[simp] theorem kept_restartTx (s : State) (d : Nat) : kept (State.restartTx s d) = kept s := by
  unfold State.restartTx
  try dsimp only
  repeat' split
  all_goals simp [kept_mk, kept_pack, kept_foldl, apply_ite kept]

@[simp] theorem kept_queueControl (s : State) (i : Nat) (c : ControlCell) : kept (State.queueControl s i c) = kept s := by
  unfold State.queueControl
  try dsimp only
  repeat' split
  all_goals simp [kept_mk, kept_pack, kept_foldl, apply_ite kept]

@[simp] theorem kept_sendControl (s : State) (c : ControlCell) : kept (State.sendControl s c) = kept s := by
  unfold State.sendControl
  try dsimp only
  repeat' split
  all_goals simp [kept_mk, kept_pack, kept_foldl, apply_ite kept]

@[simp] theorem kept_closeCredit (s : State) (d : Nat) : kept (State.closeCredit s d) = kept s := by
  unfold State.closeCredit
  try dsimp only
  repeat' split
  all_goals simp [kept_mk, kept_pack, kept_foldl, apply_ite kept]

@[simp] theorem kept_sendGrant (s : State) (d : Nat) (m : BitVec 128) : kept (State.sendGrant s d m) = kept s := by
  unfold State.sendGrant
  try dsimp only
  repeat' split
  all_goals simp [kept_mk, kept_pack, kept_foldl, apply_ite kept]

@[simp] theorem kept_sendMsg (s : State) (d : Nat) (m : BitVec 128) : kept (State.sendMsg s d m) = kept s := by
  unfold State.sendMsg
  try dsimp only
  repeat' split
  all_goals simp [kept_mk, kept_pack, kept_foldl, apply_ite kept]

theorem kept_placeCell {s t : State} {c : TxCell} (h : s.placeCell c = some t) : kept t = kept s := by
  obtain ⟨i, -, rfl⟩ := Option.map_eq_some_iff.mp h
  simp

@[simp] theorem kept_placeCells (s : State) : kept s.placeCells = kept s := by
  unfold State.placeCells
  simp only [kept_mk, kept_pack]
  refine kept_foldl_fst _ _ _ fun a c => ?_
  split
  · rfl
  · split
    · exact kept_placeCell ‹_›
    · rfl

@[simp] theorem kept_closeCell (s : State) (stream : Nat) (poisoned : Bool) : kept (State.closeCell s stream poisoned) = kept s := by
  unfold State.closeCell
  try dsimp only
  repeat' split
  all_goals simp [kept_mk, kept_pack, kept_foldl, apply_ite kept]

@[simp] theorem kept_packBytes (s : State) (stream n : Nat) (bs : List Byte) : kept (s.packBytes stream n bs) = kept s := by
  induction n generalizing s bs with
  | zero => rfl
  | succ n ih =>
    cases bs with
    | nil => rfl
    | cons b bs =>
      rw [State.packBytes.eq_def]
      simp only [ih]
      split <;> simp

@[simp] theorem kept_openPacket (s : State) (stream : Nat) (p : Packet) : kept (State.openPacket s stream p) = kept s := by
  unfold State.openPacket
  try dsimp only
  repeat' split
  all_goals simp [kept_mk, kept_pack, kept_foldl, apply_ite kept]

@[simp] theorem kept_packFirst (s : State) (stream q : Nat) (p : Packet) (bytes : List Byte) : kept (State.packFirst s stream q p bytes) = kept s := by
  unfold State.packFirst
  try dsimp only
  repeat' split
  all_goals simp [kept_mk, kept_pack, kept_foldl, apply_ite kept]

@[simp] theorem kept_packLast (s : State) (stream : Nat) (p : Packet) (bytes : List Byte) : kept (State.packLast s stream p bytes) = kept s := by
  unfold State.packLast
  try dsimp only
  repeat' split
  all_goals simp [kept_mk, kept_pack, kept_foldl, apply_ite kept]

@[simp] theorem kept_packPacket (s : State) (stream : Nat) (p : Packet) (bytes : List Byte) : kept (State.packPacket s stream p bytes) = kept s := by
  unfold State.packPacket
  try dsimp only
  repeat' split
  all_goals simp [kept_mk, kept_pack, kept_foldl, apply_ite kept]

@[simp] theorem kept_silence (s : State) (d : Nat) : kept (State.silence s d) = kept s := by
  unfold State.silence
  try dsimp only
  repeat' split
  all_goals simp [kept_mk, kept_pack, kept_foldl, apply_ite kept]

@[simp] theorem kept_updateEffective (s : State) (d : Nat) : kept (State.updateEffective s d) = kept s := by
  unfold State.updateEffective
  try dsimp only
  repeat' split
  all_goals simp [kept_mk, kept_pack, kept_foldl, apply_ite kept]

@[simp] theorem kept_updatePeer (s : State) (d : Nat) : kept (State.updatePeer s d) = kept s := by
  unfold State.updatePeer
  try dsimp only
  repeat' split
  all_goals simp [kept_mk, kept_pack, kept_foldl, apply_ite kept]

@[simp] theorem kept_updateMap (s : State) : kept (State.updateMap s) = kept s := by
  unfold State.updateMap
  try dsimp only
  repeat' split
  all_goals simp [kept_mk, kept_pack, kept_foldl, apply_ite kept]

@[simp] theorem kept_setNode (s : State) (k : Nat) (v : Node) : kept (State.setNode s k v) = kept s := by
  unfold State.setNode
  try dsimp only
  repeat' split
  all_goals simp [kept_mk, kept_pack, kept_foldl, apply_ite kept]

@[simp] theorem kept_setPortQ (s : State) (p : Nat) (v : PortQ) : kept (State.setPortQ s p v) = kept s := by
  unfold State.setPortQ
  try dsimp only
  repeat' split
  all_goals simp [kept_mk, kept_pack, kept_foldl, apply_ite kept]

@[simp] theorem kept_setPort (s : State) (p : Nat) (v : Port) : kept (State.setPort s p v) = kept s := by
  unfold State.setPort
  try dsimp only
  repeat' split
  all_goals simp [kept_mk, kept_pack, kept_foldl, apply_ite kept]

@[simp] theorem kept_admitAs (s : State) (x : Asks) (k len colour : Nat) (o : Owner) :
    kept (s.admitAs x k len colour o).2 = kept s := by
  unfold State.admitAs
  dsimp only
  generalize hu : (if s.deepRefused x k len then s.bump .deepRefused else s) = u
  have e : kept u = kept s := by rw [← hu]; split <;> simp
  split
  · exact e
  · split
    · exact (kept_race ..).trans e
    · rename_i b t ht
      exact ((kept_take ht).trans (kept_race ..)).trans e

@[simp] theorem kept_admit (s : State) (q k len colour : Nat) (o : Owner) : kept (s.admitIn q k len colour o).2 = kept s := by
  unfold State.admitIn
  dsimp only
  split
  · rename_i fam t ht
    have := congrArg (fun p => kept p.2) ht
    simpa using this.symm
  · rename_i b t ht
    have := congrArg (fun p => kept p.2) ht
    split <;> simpa using this.symm

theorem kept_admit_of {s t : State} {q k len colour : Nat} {o : Owner} {x : Option Placed} (h : s.admitIn q k len colour o = (x, t)) :
    kept t = kept s := by
  have := kept_admit s q k len colour o
  rwa [h] at this

@[simp] theorem kept_readDeep (s : State) (who : HbmReq) (p : Packet) : kept (State.readDeep s who p) = kept s := by
  unfold State.readDeep
  try dsimp only
  repeat' split
  all_goals simp [kept_mk, kept_pack, kept_foldl, apply_ite kept]

@[simp] theorem kept_voqRequest (s : State) (q : Nat) (on : Bool) : kept (State.voqRequest s q on) = kept s := by
  unfold State.voqRequest
  try dsimp only
  repeat' split
  all_goals simp [kept_mk, kept_pack, kept_foldl, apply_ite kept]

@[simp] theorem kept_enqueue (s : State) (q : Nat) (p : Packet) : kept (State.enqueue s q p) = kept s := by
  unfold State.enqueue
  try dsimp only
  repeat' split
  all_goals simp [kept_mk, kept_pack, kept_foldl, apply_ite kept]

@[simp] theorem kept_unlink (s : State) (q : Nat) : kept (State.unlink s q) = kept s := by
  unfold State.unlink
  try dsimp only
  repeat' split
  all_goals simp [kept_mk, kept_pack, kept_foldl, apply_ite kept]

@[simp] theorem kept_discardAged (s : State) (q : Nat) (p : Packet) : kept (State.discardAged s q p) = kept s := by
  unfold State.discardAged
  try dsimp only
  repeat' split
  all_goals simp [kept_mk, kept_pack, kept_foldl, apply_ite kept]

@[simp] theorem kept_ageHeads (s : State) (q n : Nat) : kept (s.ageHeads q n) = kept s := by
  induction n generalizing s with
  | zero => rfl
  | succ n ih =>
    unfold State.ageHeads
    dsimp only
    split
    · split <;> simp [ih]
    · rfl

@[simp] theorem kept_flushQueue (s : State) (q n : Nat) : kept (s.flushQueue q n) = kept s := by
  induction n generalizing s with
  | zero => rfl
  | succ n ih =>
    unfold State.flushQueue
    split <;> simp [ih]

@[simp] theorem kept_flushHeld (s : State) (q n : Nat) : kept (s.flushHeld q n) = kept s := by
  induction n generalizing s with
  | zero => rfl
  | succ n ih =>
    unfold State.flushHeld
    split
    · dsimp only
      split <;> simp [ih]
    · rfl

@[simp] theorem kept_setMirror (s : State) (i : Nat) (v : Mirror) : kept (State.setMirror s i v) = kept s := by
  unfold State.setMirror
  try dsimp only
  repeat' split
  all_goals simp [kept_mk, kept_pack, kept_foldl, apply_ite kept]

@[simp] theorem kept_setChan (s : State) (c : Nat) (v : Channel) : kept (State.setChan s c v) = kept s := by
  unfold State.setChan
  try dsimp only
  repeat' split
  all_goals simp [kept_mk, kept_pack, kept_foldl, apply_ite kept]

@[simp] theorem kept_hostAdmit (s : State) (c k len colour : Nat) : kept (s.hostAdmit c k len colour).2 = kept s := by
  unfold State.hostAdmit
  dsimp only
  split
  all_goals
    rename_i b t ht
    have := congrArg (fun p => kept p.2) ht
    simpa using this.symm

theorem kept_hostAdmit_of {s t : State} {c k len colour : Nat} {x : Option Placed} (h : s.hostAdmit c k len colour = (x, t)) :
    kept t = kept s := by
  have := kept_hostAdmit s c k len colour
  rwa [h] at this

@[simp] theorem kept_toHost (s : State) (c : Nat) (p : Packet) : kept (State.toHost s c p) = kept s := by
  unfold State.toHost
  try dsimp only
  repeat' split
  all_goals simp [kept_mk, kept_pack, kept_foldl, apply_ite kept]

@[simp] theorem kept_freeHost (s : State) (c : Nat) (p : Packet) : kept (State.freeHost s c p) = kept s := by
  unfold State.freeHost
  try dsimp only
  repeat' split
  all_goals simp [kept_mk, kept_pack, kept_foldl, apply_ite kept]

@[simp] theorem kept_mirrorCopy (s : State) (p : Packet) (aborted : Bool) : kept (s.mirrorCopy p aborted) = kept s := by
  unfold State.mirrorCopy
  extract_lets f i m m' u data c ch
  have e : kept u = kept s := by simp [u]
  split
  · rfl
  · split
    · simp
    · split
      · exact e
      · split
        · simp [e]
        · split
          · split
            · simp [e]
            · split
              all_goals
                rename_i h
                simp [kept_hostAdmit_of h, e]
          · split
            · simp [e]
            · split
              all_goals
                rename_i h
                simp [kept_admit_of h, e]

@[simp] theorem kept_holdExpire (s : State) (p : Nat) : kept (State.holdExpire s p) = kept s := by
  unfold State.holdExpire
  try dsimp only
  repeat' split
  all_goals simp [kept_mk, kept_pack, kept_foldl, apply_ite kept]

@[simp] theorem kept_portDown (s : State) (p : Nat) : kept (State.portDown s p) = kept s := by
  unfold State.portDown
  try dsimp only
  repeat' split
  all_goals simp [kept_mk, kept_pack, kept_foldl, apply_ite kept]

@[simp] theorem kept_portUp (s : State) (p : Nat) : kept (State.portUp s p) = kept s := by
  unfold State.portUp
  try dsimp only
  repeat' split
  all_goals simp [kept_mk, kept_pack, kept_foldl, apply_ite kept]

@[simp] theorem kept_updateQuality (s : State) : kept (State.updateQuality s) = kept s := by
  unfold State.updateQuality
  try dsimp only
  repeat' split
  all_goals simp [kept_mk, kept_pack, kept_foldl, apply_ite kept]

@[simp] theorem kept_judgePages (s : State) : kept (State.judgePages s) = kept s := by
  unfold State.judgePages
  try dsimp only
  repeat' split
  all_goals simp [kept_mk, kept_pack, kept_foldl, apply_ite kept]

@[simp] theorem kept_clearPeak (s : State) (i : Nat) : kept (State.clearPeak s i) = kept s := by
  unfold State.clearPeak
  split <;> rfl

@[simp] theorem kept_clearPeaks (s : State) (f n : Nat) : kept (State.clearPeaks s f n) = kept s := by
  unfold State.clearPeaks
  split <;> simp

@[simp] theorem kept_latchSnapshot (s : State) : kept (State.latchSnapshot s) = kept s := by
  unfold State.latchSnapshot
  split
  · rfl
  · rename_i p _
    split
    · rfl
    · exact kept_foldl (fun t r => if rangeSpace r = 0 then t.clearPeaks (rangeFirst r) (rangeCount r) else t) _ _
        (fun t r => by split <;> simp)

@[simp] theorem kept_tick (s : State) : kept (State.tick s) = kept s := by
  unfold State.tick
  simp

@[simp] theorem kept_addPhase (s : State) (n : Nat) : kept (State.addPhase s n) = kept s := by
  unfold State.addPhase
  try dsimp only
  repeat' split
  all_goals simp [kept_mk, kept_pack, kept_foldl, apply_ite kept]

@[simp] theorem kept_stepTime (s : State) (c : Nat) : kept (State.stepTime s c) = kept s := by
  unfold State.stepTime
  try dsimp only
  repeat' split
  all_goals simp [kept_mk, kept_pack, kept_foldl, apply_ite kept]

@[simp] theorem kept_pageDeferred (s : State) (resource index owner : Nat) : kept (State.pageDeferred s resource index owner) = kept s := by
  unfold State.pageDeferred
  try dsimp only
  repeat' split
  all_goals simp [kept_mk, kept_pack, kept_foldl, apply_ite kept]

@[simp] theorem kept_pageSwitched (s : State) (resource index owner : Nat) : kept (State.pageSwitched s resource index owner) = kept s := by
  unfold State.pageSwitched
  try dsimp only
  repeat' split
  all_goals simp [kept_mk, kept_pack, kept_foldl, apply_ite kept]

@[simp] theorem kept_pageLate (s : State) (resource index owner : Nat) : kept (State.pageLate s resource index owner) = kept s := by
  unfold State.pageLate
  try dsimp only
  repeat' split
  all_goals simp [kept_mk, kept_pack, kept_foldl, apply_ite kept]

@[simp] theorem kept_setTimeState (s : State) (q : TimeQ) : kept (State.setTimeState s q) = kept s := by
  unfold State.setTimeState
  try dsimp only
  repeat' split
  all_goals simp [kept_mk, kept_pack, kept_foldl, apply_ite kept]

@[simp] theorem kept_loseSources (s : State) : kept (State.loseSources s) = kept s := by
  unfold State.loseSources
  try dsimp only
  repeat' split
  all_goals simp [kept_mk, kept_pack, kept_foldl, apply_ite kept]

@[simp] theorem kept_reselect (s : State) (was : Option (Bool × Nat)) : kept (State.reselect s was) = kept s := by
  unfold State.reselect
  try dsimp only
  repeat' split
  all_goals simp [kept_mk, kept_pack, kept_foldl, apply_ite kept]

@[simp] theorem kept_selectSource (s : State) : kept (State.selectSource s) = kept s := by
  unfold State.selectSource
  try dsimp only
  repeat' split
  all_goals simp [kept_mk, kept_pack, kept_foldl, apply_ite kept]

@[simp] theorem kept_setSource (s : State) (i : Nat) (v : PhaseSource) : kept (State.setSource s i v) = kept s := by
  unfold State.setSource
  try dsimp only
  repeat' split
  all_goals simp [kept_mk, kept_pack, kept_foldl, apply_ite kept]

@[simp] theorem kept_sourceGood (s : State) (i : Nat) : kept (State.sourceGood s i) = kept s := by
  unfold State.sourceGood
  try dsimp only
  repeat' split
  all_goals simp [kept_mk, kept_pack, kept_foldl, apply_ite kept]

@[simp] theorem kept_sourceFails (s : State) (i : Nat) : kept (State.sourceFails s i) = kept s := by
  unfold State.sourceFails
  try dsimp only
  repeat' split
  all_goals simp [kept_mk, kept_pack, kept_foldl, apply_ite kept]

@[simp] theorem kept_ptpDown (s : State) (p : Nat) : kept (State.ptpDown s p) = kept s := by
  unfold State.ptpDown
  try dsimp only
  repeat' split
  all_goals simp [kept_mk, kept_pack, kept_foldl, apply_ite kept]

@[simp] theorem kept_servoStops (s : State) : kept (State.servoStops s) = kept s := by
  unfold State.servoStops
  try dsimp only
  repeat' split
  all_goals simp [kept_mk, kept_pack, kept_foldl, apply_ite kept]

@[simp] theorem kept_servoStarts (s : State) : kept (State.servoStarts s) = kept s := by
  unfold State.servoStarts
  try dsimp only
  repeat' split
  all_goals simp [kept_mk, kept_pack, kept_foldl, apply_ite kept]

theorem length_modLast {α : Type} (p : α → Bool) (f : α → α) (l : List α) : (modLast p f l).length = l.length := by
  unfold modLast
  split
  · simp
  · rfl

@[simp] theorem kept_tagStage (s : State) (p : Packet) (lo w : Nat) : kept (s.tagStage p lo w).2 = kept s := by
  unfold State.tagStage
  split
  · rfl
  · exact kept_tel s _ rfl (length_modLast _ _ _)

@[simp] theorem kept_tagHandoff (s : State) (p : Packet) : kept (s.tagHandoff p).2 = kept s := kept_tagStage s p _ _

@[simp] theorem kept_tagQueue (s : State) (p : Packet) : kept (s.tagQueue p).2 = kept s := kept_tagStage s p _ _

@[simp] theorem kept_setFlexe (s : State) (g i : Nat) (v : Flexe) : kept (State.setFlexe s g i v) = kept s := by
  unfold State.setFlexe
  try dsimp only
  repeat' split
  all_goals simp [kept_mk, kept_pack, kept_foldl, apply_ite kept]

@[simp] theorem kept_setOtu (s : State) (g i : Nat) (v : Otu) : kept (State.setOtu s g i v) = kept s := by
  unfold State.setOtu
  try dsimp only
  repeat' split
  all_goals simp [kept_mk, kept_pack, kept_foldl, apply_ite kept]

@[simp] theorem kept_setTsPage (s : State) (g : Nat) (v : TsPages) : kept (State.setTsPage s g v) = kept s := by
  unfold State.setTsPage
  try dsimp only
  repeat' split
  all_goals simp [kept_mk, kept_pack, kept_foldl, apply_ite kept]

@[simp] theorem kept_octetsOn (s : State) (ls : List Nat) : kept (State.octetsOn s ls) = kept s := by
  unfold State.octetsOn
  try dsimp only
  repeat' split
  all_goals simp [kept_mk, kept_pack, kept_foldl, apply_ite kept]

@[simp] theorem kept_octetsOff (s : State) (ls : List Nat) : kept (State.octetsOff s ls) = kept s := by
  unfold State.octetsOff
  try dsimp only
  repeat' split
  all_goals simp [kept_mk, kept_pack, kept_foldl, apply_ite kept]

@[simp] theorem kept_settlePause (s : State) (p : Nat) : kept (State.settlePause s p) = kept s := by
  unfold State.settlePause
  try dsimp only
  refine kept_foldl _ _ _ fun s a => ?_
  try dsimp only
  repeat' split
  all_goals try simp [kept_mk, kept_pack, kept_foldl, apply_ite kept]

@[simp] theorem kept_enter (s : State) (p : Nat) (st : PortSt) : kept (State.enter s p st) = kept s := by
  unfold State.enter
  try dsimp only
  repeat' split
  all_goals simp [kept_mk, kept_pack, kept_foldl, apply_ite kept]

@[simp] theorem kept_faultPort (s : State) (p : Nat) : kept (State.faultPort s p) = kept s := by
  unfold State.faultPort
  try dsimp only
  repeat' split
  all_goals simp [kept_mk, kept_pack, kept_foldl, apply_ite kept]

@[simp] theorem kept_portFault (s : State) (p : Nat) (c : PortFaultCause) : kept (State.portFault s p c) = kept s := by
  unfold State.portFault
  try dsimp only
  repeat' split
  all_goals simp [kept_mk, kept_pack, kept_foldl, apply_ite kept]

@[simp] theorem kept_portFaultClear (s : State) (p : Nat) (c : PortFaultCause) : kept (State.portFaultClear s p c) = kept s := by
  unfold State.portFaultClear
  try dsimp only
  repeat' split
  all_goals simp [kept_mk, kept_pack, kept_foldl, apply_ite kept]

@[simp] theorem kept_stopPort (s : State) (p : Nat) (falls : PortSt → Bool) : kept (State.stopPort s p falls) = kept s := by
  unfold State.stopPort
  try dsimp only
  repeat' split
  all_goals simp [kept_mk, kept_pack, kept_foldl, apply_ite kept]

@[simp] theorem kept_startPort (s : State) (p : Nat) : kept (State.startPort s p) = kept s := by
  unfold State.startPort
  try dsimp only
  repeat' split
  all_goals simp [kept_mk, kept_pack, kept_foldl, apply_ite kept]

@[simp] theorem kept_holdBlocks (s : State) (p : Nat) (b : Blocks) : kept (State.holdBlocks s p b) = kept s := by
  unfold State.holdBlocks
  try dsimp only
  repeat' split
  all_goals simp [kept_mk, kept_pack, kept_foldl, apply_ite kept]

@[simp] theorem kept_freeBlocks (s : State) (p : Nat) (b : Blocks) : kept (State.freeBlocks s p b) = kept s := by
  unfold State.freeBlocks
  try dsimp only
  repeat' split
  all_goals simp [kept_mk, kept_pack, kept_foldl, apply_ite kept]

@[simp] theorem kept_toTray (s : State) (p : Nat) (data : List Byte) (given : Option Nat) : kept (State.toTray s p data given) = kept s := by
  unfold State.toTray
  try dsimp only
  repeat' split
  all_goals simp [kept_mk, kept_pack, kept_foldl, apply_ite kept]

@[simp] theorem kept_setD2d (s : State) (i : Nat) (v : D2dLink) : kept (State.setD2d s i v) = kept s := by
  unfold State.setD2d
  try dsimp only
  repeat' split
  all_goals simp [kept_mk, kept_pack, kept_foldl, apply_ite kept]

theorem kept_sendFlit {s t : State} {b : Bool} {x : Crossing} (h : s.sendFlit b x = some t) : kept t = kept s := by
  obtain ⟨i, -, rfl⟩ := Option.map_eq_some_iff.mp h
  dsimp only
  split <;> simp

@[simp] theorem kept_resendFlits (s : State) : kept (State.resendFlits s) = kept s := by
  unfold State.resendFlits
  try dsimp only
  repeat' split
  all_goals simp [kept_mk, kept_pack, kept_foldl, apply_ite kept]

@[simp] theorem kept_d2dChanged (s : State) : kept (State.d2dChanged s) = kept s := by
  unfold State.d2dChanged
  try dsimp only
  repeat' split
  all_goals simp [kept_mk, kept_pack, kept_foldl, apply_ite kept]

@[simp] theorem kept_d2dDown (s : State) (i : Nat) : kept (State.d2dDown s i) = kept s := by
  unfold State.d2dDown
  try dsimp only
  repeat' split
  all_goals simp [kept_mk, kept_pack, kept_foldl, apply_ite kept]

@[simp] theorem kept_arrive (s : State) (c : Crossing) : kept (s.arrive c) = kept s := by
  cases c <;> simp [State.arrive, kept_clerks]

@[simp] theorem kept_drainDepot (s : State) (n : Nat) : kept (s.drainDepot n) = kept s := by
  induction n generalizing s with
  | zero => rfl
  | succ n ih =>
    unfold State.drainDepot
    split
    · split <;> simp [ih]
    · rfl

@[simp] theorem kept_drainSorter (s : State) (n : Nat) : kept (s.drainSorter n) = kept s := by
  induction n generalizing s with
  | zero => rfl
  | succ n ih =>
    unfold State.drainSorter
    split
    · split <;> simp [ih]
    · rfl

@[simp] theorem kept_policerRun (s : State) (e : Nat) (d : Dispatch) : kept (s.policerRun e d).2 = kept s := by
  unfold State.policerRun
  dsimp only
  split <;> simp

@[simp] theorem kept_setPhys (s : State) (p : Nat) (v : PhysBank) : kept (State.setPhys s p v) = kept s := by
  unfold State.setPhys
  try dsimp only
  repeat' split
  all_goals simp [kept_mk, kept_pack, kept_foldl, apply_ite kept]

@[simp] theorem kept_setRow (s : State) (bank i : Nat) (v : AclRow) : kept (State.setRow s bank i v) = kept s := by
  unfold State.setRow
  try dsimp only
  repeat' split
  all_goals simp [kept_mk, kept_pack, kept_foldl, apply_ite kept]

@[simp] theorem kept_askRepair (s : State) (bank i : Nat) : kept (State.askRepair s bank i) = kept s := by
  unfold State.askRepair
  try dsimp only
  repeat' split
  all_goals simp [kept_mk, kept_pack, kept_foldl, apply_ite kept]

@[simp] theorem kept_checkHit (s : State) (bank row : Nat) (fails : Bool) : kept (s.checkHit bank row fails).2 = kept s := by
  unfold State.checkHit
  dsimp only
  rw [kept_foldl _ _ _ fun s a => by simp]
  split <;> simp

@[simp] theorem kept_aclSearch (s : State) (e : Nat) (d : Dispatch) (a : Option (Nat × Nat)) (rowBad : Bool) :
    kept (s.aclSearch e d a rowBad).2.2 = kept s := by
  unfold State.aclSearch
  dsimp only
  repeat' split
  all_goals simp [kept_foldl]

@[simp] theorem kept_engine (s : State) (e : Nat) (d : Dispatch) (rowBad : Bool) : kept (s.engine e d rowBad).2 = kept s := by
  unfold State.engine
  dsimp only
  repeat' split
  all_goals simp

@[simp] theorem kept_countWaits (s : State) (d : Dispatch) (waited : Bool) (delayed : W32) : kept (State.countWaits s d waited delayed) = kept s := by
  unfold State.countWaits
  try dsimp only
  repeat' split
  all_goals simp [kept_mk, kept_pack, kept_foldl, apply_ite kept]

@[simp] theorem kept_engineResult (s : State) (e : Nat) (d : Dispatch) (b rowBad : Bool) :
    kept (s.engineResult e d b rowBad).2 = kept s := by
  unfold State.engineResult
  dsimp only
  cases b <;> simp [apply_ite kept]

@[simp] theorem kept_choose (s : State) (k port : Nat) (egress : Bool) : kept (s.choose k port egress).2 = kept s := by
  unfold State.choose
  dsimp only
  repeat' split
  all_goals simp [kept_tel]

@[simp] theorem kept_setSlot (s : State) (k : Nat) (v : Slot) : kept (State.setSlot s k v) = kept s := by
  unfold State.setSlot
  try dsimp only
  repeat' split
  all_goals simp [kept_mk, kept_pack, kept_foldl, apply_ite kept]

@[simp] theorem kept_wake (s : State) (k : Nat) (v : Slot) : kept (State.wake s k v) = kept s := by
  unfold State.wake
  try dsimp only
  repeat' split
  all_goals simp [kept_mk, kept_pack, kept_foldl, apply_ite kept]

@[simp] theorem kept_takeSeq (s : State) (port : Nat) (egress : Bool) : kept (s.takeSeq port egress).2 = kept s := rfl

@[simp] theorem kept_startPass (s : State) (k : Nat) (v : Slot) (prio : Option Nat) (flen : Nat) (carried : W64) (p : Parsed) : kept (State.startPass s k v prio flen carried p) = kept s := by
  unfold State.startPass
  try dsimp only
  repeat' split
  all_goals simp [kept_mk, kept_pack, kept_foldl, apply_ite kept]

@[simp] theorem kept_startIngress (s : State) (k : Nat) (f : TrayFrame) : kept (State.startIngress s k f) = kept s := by
  unfold State.startIngress
  try dsimp only
  repeat' split
  all_goals simp [kept_mk, kept_pack, kept_foldl, apply_ite kept]

@[simp] theorem kept_startEgress (s : State) (k : Nat) (q : Packet) : kept (State.startEgress s k q) = kept s := by
  unfold State.startEgress
  try dsimp only
  repeat' split
  all_goals simp [kept_mk, kept_pack, kept_foldl, apply_ite kept]

@[simp] theorem kept_sendLookup (s : State) (v : Slot) (d : Dispatch) : kept (s.sendLookup v d).2 = kept s := by
  simp [State.sendLookup]

@[simp] theorem kept_countWord (s : State) (i flen : Nat) : kept (State.countWord s i flen) = kept s := by
  unfold State.countWord
  try dsimp only
  repeat' split
  all_goals simp [kept_mk, kept_pack, kept_foldl, apply_ite kept]

@[simp] theorem kept_puntPass (s : State) (v : Slot) (reason : Nat) : kept (State.puntPass s v reason) = kept s := by
  unfold State.puntPass
  try dsimp only
  repeat' split
  all_goals try simp [kept_mk, kept_pack, kept_foldl, apply_ite kept]
  all_goals first
    | exact kept_hostAdmit_of ‹_›

@[simp] theorem kept_abandon (s : State) (v : Slot) : kept (State.abandon s v) = kept s := by
  unfold State.abandon
  try dsimp only
  repeat' split
  all_goals simp [kept_mk, kept_pack, kept_foldl, apply_ite kept]

@[simp] theorem kept_takeResult (s : State) (v : Slot) (e : PassEnd) : kept (State.takeResult s v e) = kept s := by
  unfold State.takeResult
  try dsimp only
  repeat' split
  all_goals simp [kept_mk, kept_pack, kept_foldl, apply_ite kept]

@[simp] theorem kept_skipSeq (s : State) (port n : Nat) (egress : Bool) : kept (s.skipSeq port egress n) = kept s := by
  induction n generalizing s with
  | zero => rfl
  | succ n ih =>
    unfold State.skipSeq
    dsimp only
    split
    · split
      · rfl
      · rw [ih]; exact kept_clerks s _ rfl
    · rfl

@[simp] theorem kept_pushFinished (s : State) (f : Finished) : kept (State.pushFinished s f) = kept s := by
  unfold State.pushFinished
  try dsimp only
  repeat' split
  all_goals simp [kept_mk, kept_pack, kept_foldl, apply_ite kept]

@[simp] theorem kept_handed (t : State) (f : Finished) : kept (State.handed t f) = kept t := by
  unfold State.handed
  try dsimp only
  repeat' split
  all_goals simp [kept_mk, kept_pack, kept_foldl, apply_ite kept]

@[simp] theorem kept_drainBench (s : State) (b : Nat) (why : DrainFor) : kept (State.drainBench s b why) = kept s := by
  unfold State.drainBench
  try dsimp only
  repeat' split
  all_goals simp [kept_mk, kept_pack, kept_foldl, apply_ite kept]

@[simp] theorem kept_startLoad (s : State) (b : Nat) (why : DrainFor) : kept (State.startLoad s b why) = kept s := by
  unfold State.startLoad
  try dsimp only
  repeat' split
  all_goals simp [kept_mk, kept_pack, kept_foldl, apply_ite kept]

@[simp] theorem kept_swapBench (s : State) (b : Nat) : kept (State.swapBench s b) = kept s := by
  unfold State.swapBench
  try dsimp only
  repeat' split
  all_goals simp [kept_mk, kept_pack, kept_foldl, apply_ite kept]

@[simp] theorem kept_endReload (s : State) (b : Nat) : kept (State.endReload s b) = kept s := by
  unfold State.endReload
  try dsimp only
  repeat' split
  all_goals simp [kept_mk, kept_pack, kept_foldl, apply_ite kept]

@[simp] theorem kept_setCut (s : State) (p : Nat) (v : CutThrough) : kept (State.setCut s p v) = kept s := by
  unfold State.setCut
  try dsimp only
  repeat' split
  all_goals simp [kept_mk, kept_pack, kept_foldl, apply_ite kept]

@[simp] theorem kept_popSorter (s : State) : kept (State.popSorter s) = kept s := by
  unfold State.popSorter
  try dsimp only
  repeat' split
  all_goals simp [kept_mk, kept_pack, kept_foldl, apply_ite kept]

@[simp] theorem kept_voqLeave (s : State) (q : Nat) (p : Packet) : kept (s.voqLeave q p).2 = kept s := by
  unfold State.voqLeave
  dsimp only
  split
  · simp
  · dsimp only
    split <;> simp

@[simp] theorem kept_sendRest (s : State) (p : Packet) (q n : Nat) (data : List Byte) (poisoned : Bool) : kept (State.sendRest s p q n data poisoned) = kept s := by
  unfold State.sendRest
  try dsimp only
  repeat' split
  all_goals simp [kept_mk, kept_pack, kept_foldl, apply_ite kept]

@[simp] theorem kept_endIngressCut (s : State) (p : Packet) (r : CutRun) (data : List Byte) (poisoned : Bool) : kept (State.endIngressCut s p r data poisoned) = kept s := by
  unfold State.endIngressCut
  try dsimp only
  repeat' split
  all_goals simp [kept_mk, kept_pack, kept_foldl, apply_ite kept]

@[simp] theorem kept_brokenData (s : State) (p : Packet) (m : Nat) : kept (s.brokenData p m).2 = kept s := rfl

@[simp] theorem kept_voqAdmit (s : State) (p : Packet) : kept (State.voqAdmit s p) = kept s := by
  unfold State.voqAdmit
  try dsimp only
  repeat' split
  all_goals try simp [kept_mk, kept_pack, kept_foldl, apply_ite kept]
  all_goals first
    | exact kept_admit_of ‹_›

@[simp] theorem kept_lastOctet (s : State) (p : Packet) (r : CutRun) (readError : Bool) : kept (State.lastOctet s p r readError) = kept s := by
  unfold State.lastOctet
  try dsimp only
  repeat' split
  all_goals simp [kept_mk, kept_pack, kept_foldl, apply_ite kept]

@[simp] theorem kept_cutIn (s : State) (p : Packet) (port : Nat) : kept (s.cutIn p port) = kept s := by
  unfold State.cutIn
  dsimp only
  split
  · split
    · rfl
    · rename_i h _
      have := kept_admit_of h
      simp_all
  · rename_i h
    have := kept_admit_of h
    simp_all

@[simp] theorem kept_setPartial (s : State) (k : Nat) (p : Partial) : kept (State.setPartial s k p) = kept s := by
  unfold State.setPartial
  try dsimp only
  repeat' split
  all_goals simp [kept_mk, kept_pack, kept_foldl, apply_ite kept]

@[simp] theorem kept_dlqLeave (s : State) (p : Packet) : kept (State.dlqLeave s p) = kept s := by
  unfold State.dlqLeave
  try dsimp only
  repeat' split
  all_goals simp [kept_mk, kept_pack, kept_foldl, apply_ite kept]

@[simp] theorem kept_turnBackIn (s : State) (p : Nat) : kept (State.turnBackIn s p) = kept s := by
  unfold State.turnBackIn
  try dsimp only
  repeat' split
  all_goals simp [kept_mk, kept_pack, kept_foldl, apply_ite kept]

@[simp] theorem kept_turnBackOut (s : State) (p : Nat) : kept (State.turnBackOut s p) = kept s := by
  unfold State.turnBackOut
  try dsimp only
  repeat' split
  all_goals simp [kept_mk, kept_pack, kept_foldl, apply_ite kept]

@[simp] theorem kept_setCause (s : State) (n : Nat) : kept (State.setCause s n) = kept s := by
  unfold State.setCause
  try dsimp only
  repeat' split
  all_goals simp [kept_mk, kept_pack, kept_foldl, apply_ite kept]

@[simp] theorem kept_dirtyMark (s : State) (sl addr len : Nat) : kept (State.dirtyMark s sl addr len) = kept s := by
  unfold State.dirtyMark
  try dsimp only
  repeat' split
  all_goals simp [kept_mk, kept_pack, kept_foldl, apply_ite kept]

@[simp] theorem kept_hostWriteLast (s : State) (sl : Nat) (addr : W64) (bytes : List Byte) : kept (State.hostWriteLast s sl addr bytes) = kept s := by
  unfold State.hostWriteLast
  try dsimp only
  repeat' split
  all_goals simp [kept_mk, kept_pack, kept_foldl, apply_ite kept]

@[simp] theorem kept_hostWrite (s : State) (sl : Nat) (addr : W64) (bytes : List Byte) : kept (State.hostWrite s sl addr bytes) = kept s := by
  unfold State.hostWrite
  try dsimp only
  repeat' split
  all_goals simp [kept_mk, kept_pack, kept_foldl, apply_ite kept]

@[simp] theorem kept_ringFault (s : State) (sl r : Nat) (addr : W64) : kept (State.ringFault s sl r addr) = kept s := by
  unfold State.ringFault
  try dsimp only
  repeat' split
  all_goals simp [kept_mk, kept_pack, kept_foldl, apply_ite kept]

@[simp] theorem kept_badDoorbell (s : State) (sl r : Nat) (count : W32) : kept (State.badDoorbell s sl r count) = kept s := by
  unfold State.badDoorbell
  try dsimp only
  repeat' split
  all_goals simp [kept_mk, kept_pack, kept_foldl, apply_ite kept]

@[simp] theorem kept_claim (s : State) (l : LetterId) (e : Entry) : kept (State.claim s l e) = kept s := by
  unfold State.claim
  try dsimp only
  repeat' split
  all_goals simp [kept_mk, kept_pack, kept_foldl, apply_ite kept]

@[simp] theorem kept_checkLetter (s : State) (pm : Pm) (sl : Fin 64) (via : Via) (index : W32) (bytes : List Byte) : kept (State.checkLetter s pm sl via index bytes) = kept s := by
  unfold State.checkLetter
  try dsimp only
  repeat' split
  all_goals simp [kept_mk, kept_pack, kept_foldl, apply_ite kept]

@[simp] theorem kept_noteTaken (s : State) (sl r : Nat) : kept (State.noteTaken s sl r) = kept s := by
  unfold State.noteTaken
  try dsimp only
  repeat' split
  all_goals simp [kept_mk, kept_pack, kept_foldl, apply_ite kept]

@[simp] theorem kept_ringDrained (s : State) (sl r : Nat) : kept (State.ringDrained s sl r) = kept s := by
  unfold State.ringDrained
  try dsimp only
  repeat' split
  all_goals simp [kept_mk, kept_pack, kept_foldl, apply_ite kept]

@[simp] theorem kept_delivered (s : State) (sl : Fin 64) (seq : W32) : kept (State.delivered s sl seq) = kept s := by
  unfold State.delivered
  try dsimp only
  repeat' split
  all_goals simp [kept_mk, kept_pack, kept_foldl, apply_ite kept]

@[simp] theorem kept_addNeighbour (s : State) (n : Neighbour) : kept (State.addNeighbour s n) = kept s := by
  unfold State.addNeighbour
  try dsimp only
  repeat' split
  all_goals simp [kept_mk, kept_pack, kept_foldl, apply_ite kept]

@[simp] theorem kept_setNeighbour (s : State) (n : Neighbour) : kept (State.setNeighbour s n) = kept s := by
  unfold State.setNeighbour
  try dsimp only
  repeat' split
  all_goals simp [kept_mk, kept_pack, kept_foldl, apply_ite kept]

@[simp] theorem kept_noteSpace (s : State) (c : Nat) : kept (State.noteSpace s c) = kept s := by
  unfold State.noteSpace
  try dsimp only
  repeat' split
  all_goals simp [kept_mk, kept_pack, kept_foldl, apply_ite kept]

@[simp] theorem kept_startRecord (s : State) (c : Nat) : kept (State.startRecord s c) = kept s := by
  unfold State.startRecord
  try dsimp only
  repeat' split
  all_goals simp [kept_mk, kept_pack, kept_foldl, apply_ite kept]

@[simp] theorem kept_fetchHead (s : State) (c : Nat) : kept (State.fetchHead s c) = kept s := by
  unfold State.fetchHead
  try dsimp only
  repeat' split
  all_goals simp [kept_mk, kept_pack, kept_foldl, apply_ite kept]

@[simp] theorem kept_writeBack (s : State) (c : Nat) (d : Desc) (status : Nat) (ends : Bool) : kept (State.writeBack s c d status ends) = kept s := by
  unfold State.writeBack
  try dsimp only
  repeat' split
  all_goals simp [kept_mk, kept_pack, kept_foldl, apply_ite kept]

@[simp] theorem kept_closeDesc (s : State) (c : Nat) (d : Desc) (status : Nat) : kept (State.closeDesc s c d status) = kept s := by
  unfold State.closeDesc
  try dsimp only
  repeat' split
  all_goals simp [kept_mk, kept_pack, kept_foldl, apply_ite kept]

@[simp] theorem kept_stopChan (s : State) (c : Nat) : kept (State.stopChan s c) = kept s := by
  unfold State.stopChan
  try dsimp only
  repeat' split
  all_goals simp [kept_mk, kept_pack, kept_foldl, apply_ite kept]

@[simp] theorem kept_chanFault (s : State) (c index addr : Nat) : kept (State.chanFault s c index addr) = kept s := by
  unfold State.chanFault
  try dsimp only
  repeat' split
  all_goals simp [kept_mk, kept_pack, kept_foldl, apply_ite kept]

theorem kept_grantBus {s t : State} {b : Bool} {r n : Nat} (h : s.grantBus b r n = some t) : kept t = kept s := by
  unfold State.grantBus at h
  dsimp only at h
  split at h
  · cases h
  · simp only [Option.ite_none_left_eq_some] at h
    obtain ⟨_, h⟩ := h
    cases h
    rfl

@[simp] theorem kept_writeBurst (s : State) (c n : Nat) (busOk : Bool) : kept (State.writeBurst s c n busOk) = kept s := by
  unfold State.writeBurst
  try dsimp only
  repeat' split
  all_goals try simp [kept_mk, kept_pack, kept_foldl, apply_ite kept]
  all_goals first
    | exact kept_grantBus ‹_›

@[simp] theorem kept_readBurst (s : State) (c n : Nat) (busOk : Bool) : kept (State.readBurst s c n busOk) = kept s := by
  unfold State.readBurst
  try dsimp only
  repeat' split
  all_goals try simp [kept_mk, kept_pack, kept_foldl, apply_ite kept]
  all_goals first
    | exact kept_grantBus ‹_›

@[simp] theorem kept_inject (s : State) (c : Nat) (d : Desc) : kept (s.inject c d).2 = kept s := by
  unfold State.inject
  dsimp only
  repeat' split
  all_goals try simp
  all_goals
    rename_i t ht
    have := congrArg (fun p => kept p.2) ht
    simpa using this.symm

@[simp] theorem kept_boundary (s : State) (c : Nat) : kept (State.boundary s c) = kept s := by
  unfold State.boundary
  try dsimp only
  repeat' split
  all_goals simp [kept_mk, kept_pack, kept_foldl, apply_ite kept]

@[simp] theorem kept_closeChan (s : State) (c : Nat) : kept (State.closeChan s c) = kept s := by
  unfold State.closeChan
  try dsimp only
  repeat' split
  all_goals simp [kept_mk, kept_pack, kept_foldl, apply_ite kept]

@[simp] theorem kept_badChanDoorbell (s : State) (c : Nat) (count : W32) : kept (State.badChanDoorbell s c count) = kept s := by
  unfold State.badChanDoorbell
  try dsimp only
  repeat' split
  all_goals simp [kept_mk, kept_pack, kept_foldl, apply_ite kept]

@[simp] theorem kept_countCodeword (p : Nat) (s : State) (c : Codeword) : kept (State.countCodeword p s c) = kept s := by
  cases c <;> simp [State.countCodeword, kept_foldl]

@[simp] theorem kept_setTrib (s : State) (g t : Nat) (v : Trib) : kept (State.setTrib s g t v) = kept s := by
  unfold State.setTrib
  try dsimp only
  repeat' split
  all_goals simp [kept_mk, kept_pack, kept_foldl, apply_ite kept]

@[simp] theorem kept_updateClients (s old : State) (g : Nat) : kept (State.updateClients s old g) = kept s := by
  unfold State.updateClients
  try dsimp only
  repeat' split
  all_goals simp [kept_mk, kept_pack, kept_foldl, apply_ite kept]

@[simp] theorem kept_startClient (s : State) (p : Nat) : kept (State.startClient s p) = kept s := by
  unfold State.startClient
  try dsimp only
  repeat' split
  all_goals simp [kept_mk, kept_pack, kept_foldl, apply_ite kept]

@[simp] theorem kept_loseClient (s : State) (p : Nat) : kept (State.loseClient s p) = kept s := by
  unfold State.loseClient
  try dsimp only
  repeat' split
  all_goals simp [kept_mk, kept_pack, kept_foldl, apply_ite kept]

@[simp] theorem kept_switchCalendar (s : State) (g i : Nat) : kept (State.switchCalendar s g i) = kept s := by
  unfold State.switchCalendar
  try dsimp only
  repeat' split
  all_goals simp [kept_mk, kept_pack, kept_foldl, apply_ite kept]

@[simp] theorem kept_sendFlexeOh (s : State) (g i : Nat) : kept (State.sendFlexeOh s g i) = kept s := by
  unfold State.sendFlexeOh
  try dsimp only
  repeat' split
  all_goals simp [kept_mk, kept_pack, kept_foldl, apply_ite kept]

@[simp] theorem kept_otuActions (s : State) (g i : Nat) : kept (State.otuActions s g i) = kept s := by
  unfold State.otuActions
  try dsimp only
  repeat' split
  all_goals simp [kept_mk, kept_pack, kept_foldl, apply_ite kept]

@[simp] theorem kept_otnErrors (s : State) (g i : Nat) (layer : AlignLayer) (e : OtnErrors) : kept (State.otnErrors s g i layer e) = kept s := by
  unfold State.otnErrors
  try dsimp only
  repeat' split
  all_goals simp [kept_mk, kept_pack, kept_foldl, apply_ite kept]

@[simp] theorem kept_setLof (s : State) (g i : Nat) (layer : AlignLayer) (on : Bool) : kept (State.setLof s g i layer on) = kept s := by
  unfold State.setLof
  try dsimp only
  repeat' split
  all_goals simp [kept_mk, kept_pack, kept_foldl, apply_ite kept]

@[simp] theorem kept_switchTsPage (s : State) (g : Nat) : kept (s.switchTsPage g) = kept s := by
  unfold State.switchTsPage
  dsimp only
  rw [kept_pageSwitched, kept_foldl _ _ _ fun s a => ?_]
  · simp [kept_foldl]
  · split
    · split <;> simp
    · rfl

@[simp] theorem kept_setOh (s : State) (c : Nat) (v : OhChannel) : kept (State.setOh s c v) = kept s := by
  unfold State.setOh
  try dsimp only
  repeat' split
  all_goals simp [kept_mk, kept_pack, kept_foldl, apply_ite kept]

@[simp] theorem kept_stopClient (s : State) (p : Nat) : kept (State.stopClient s p) = kept s := by
  unfold State.stopClient
  try dsimp only
  repeat' split
  all_goals simp [kept_mk, kept_pack, kept_foldl, apply_ite kept]

@[simp] theorem kept_framerOff (s : State) (g : Nat) : kept (State.framerOff s g) = kept s := by
  unfold State.framerOff
  try dsimp only
  repeat' split
  all_goals simp [kept_mk, kept_pack, kept_foldl, apply_ite kept]

@[simp] theorem kept_freeClient (s : State) (p : Nat) : kept (State.freeClient s p) = kept s := by
  unfold State.freeClient
  try dsimp only
  repeat' split
  all_goals simp [kept_mk, kept_pack, kept_foldl, apply_ite kept]

@[simp] theorem kept_takeCurrent (s : State) (n : BitVec 16) : kept (State.takeCurrent s n) = kept s := by
  unfold State.takeCurrent
  try dsimp only
  repeat' split
  all_goals simp [kept_mk, kept_pack, kept_foldl, apply_ite kept]

@[simp] theorem kept_modRows (s : State) (bank i : Nat) (f : Nat → AclRow → AclRow) : kept (State.modRows s bank i f) = kept s := by
  unfold State.modRows
  try dsimp only
  repeat' split
  all_goals simp [kept_mk, kept_pack, kept_foldl, apply_ite kept]

@[simp] theorem kept_askWrite (s : State) (bank i : Nat) : kept (State.askWrite s bank i) = kept s := by
  unfold State.askWrite
  try dsimp only
  repeat' split
  all_goals simp [kept_mk, kept_pack, kept_foldl, apply_ite kept]

@[simp] theorem kept_bankPower (s : State) : kept (State.bankPower s) = kept s := by
  unfold State.bankPower
  try dsimp only
  refine kept_foldl _ _ _ fun s a => ?_
  try dsimp only
  repeat' split
  all_goals try simp [kept_mk, kept_pack, kept_foldl, apply_ite kept]

theorem kept_stageRow {s t : State} {b i : Nat} {f : Nat → AclRow} (h : s.stageRow b i f = some t) : kept t = kept s := by
  unfold State.stageRow at h
  extract_lets odd put change at h
  have hp : ∀ u q, kept (put u q) = kept u := fun u q => by simp [put]
  have hc : change = some t → kept t = kept s := by
    intro h
    simp only [change] at h
    split at h
    · cases h
    · obtain ⟨q, -, rfl⟩ := Option.map_eq_some_iff.mp h
      simp [hp]
  split at h
  · split at h
    · exact hc h
    · rw [← Option.some.inj h]; exact hp _ _
  · split at h
    · rw [← Option.some.inj h]; exact hp _ _
    · split at h
      · cases h
      · exact hc h

@[simp] theorem kept_stageErase (s : State) (bank i : Nat) : kept (State.stageErase s bank i) = kept s := by
  unfold State.stageErase
  try dsimp only
  repeat' split
  all_goals simp [kept_mk, kept_pack, kept_foldl, apply_ite kept]

@[simp] theorem kept_abortRows (s : State) : kept (State.abortRows s) = kept s := by
  unfold State.abortRows
  try dsimp only
  repeat' split
  all_goals simp [kept_mk, kept_pack, kept_foldl, apply_ite kept]

theorem kept_stageItem {s t : State} {r : TableRecord} (h : s.stageItem r = some t) : kept t = kept s := by
  cases r <;> simp only [State.stageItem, Option.map_eq_some_iff, Option.some.injEq, reduceCtorEq] at h
  all_goals first
    | (rw [← h]; simp; done)
    | (obtain ⟨u, hu, rfl⟩ := h; simpa using kept_stageRow hu)

theorem kept_tryItem {s t : State} {sl : Nat} {q : Bool} {r : TableRecord} (h : s.tryItem sl q r = .ok t) : kept t = kept s := by
  unfold State.tryItem at h
  split at h
  · cases h
  · split at h
    · split at h
      · cases h; rfl
      · cases h
    · rename_i u hu
      split at h
      · cases h
      · split at h
        · cases h
        · cases h; exact kept_stageItem hu

@[simp] theorem kept_mapTables (s : State) (f : {κ α : Type} → Assoc κ (Ver α) → Assoc κ (Ver α)) : kept (State.mapTables s f) = kept s := by
  unfold State.mapTables
  try dsimp only
  repeat' split
  all_goals simp [kept_mk, kept_pack, kept_foldl, apply_ite kept]

@[simp] theorem kept_askCopy (s : State) (bank p q : Nat) : kept (State.askCopy s bank p q) = kept s := by
  unfold State.askCopy
  try dsimp only
  repeat' split
  all_goals simp [kept_mk, kept_pack, kept_foldl, apply_ite kept]

@[simp] theorem kept_settleRows (s : State) : kept (State.settleRows s) = kept s := by
  unfold State.settleRows
  try dsimp only
  repeat' split
  all_goals simp [kept_mk, kept_pack, kept_foldl, apply_ite kept]

@[simp] theorem kept_copyRow (s : State) (bank p q : Nat) : kept (State.copyRow s bank p q) = kept s := by
  unfold State.copyRow
  try dsimp only
  repeat' split
  all_goals simp [kept_mk, kept_pack, kept_foldl, apply_ite kept]

@[simp] theorem kept_stageRun (k : Nat) (rs : List TableRecord) (s : State) : kept (stageRun k rs s).1 = kept s := by
  induction rs generalizing s with
  | nil => rfl
  | cons r rs ih =>
    unfold stageRun
    split
    · rfl
    · split
      · rename_i t ht
        split
        · rfl
        · rw [ih, kept_stageItem ht]
      · rfl

@[simp] theorem kept_dropPending (s : State) : kept (State.dropPending s) = kept s := by
  unfold State.dropPending
  try dsimp only
  repeat' split
  all_goals simp [kept_mk, kept_pack, kept_foldl, apply_ite kept]

@[simp] theorem kept_nextChunk (s : State) (rs : List TableRecord) : kept (s.nextChunk rs).1 = kept s := by
  unfold State.nextChunk
  split
  · rfl
  · dsimp only
    split <;> simp

@[simp] theorem kept_afterSub (s : State) : kept (State.afterSub s) = kept s := by
  unfold State.afterSub
  try dsimp only
  repeat' split
  all_goals simp [kept_mk, kept_pack, kept_foldl, apply_ite kept]

@[simp] theorem kept_setSeq (s : State) (q : Option SeqChange) : kept (State.setSeq s q) = kept s := by
  unfold State.setSeq
  try dsimp only
  repeat' split
  all_goals simp [kept_mk, kept_pack, kept_foldl, apply_ite kept]

@[simp] theorem kept_slip (s : State) (q : SeqChange) : kept (State.slip s q) = kept s := by
  unfold State.slip
  try dsimp only
  repeat' split
  all_goals simp [kept_mk, kept_pack, kept_foldl, apply_ite kept]

@[simp] theorem kept_stageNext (s : State) (q : SeqChange) : kept (State.stageNext s q) = kept s := by
  unfold State.stageNext
  try dsimp only
  repeat' split
  all_goals simp [kept_mk, kept_pack, kept_foldl, apply_ite kept]

@[simp] theorem kept_seqSwitched (s : State) (base : Nat) (spacing : Nat) : kept (State.seqSwitched s base spacing) = kept s := by
  unfold State.seqSwitched
  try dsimp only
  repeat' split
  all_goals simp [kept_mk, kept_pack, kept_foldl, apply_ite kept]

@[simp] theorem kept_fillAdded (s : State) : kept (State.fillAdded s) = kept s := by
  unfold State.fillAdded
  try dsimp only
  repeat' split
  all_goals simp [kept_mk, kept_pack, kept_foldl, apply_ite kept]

@[simp] theorem kept_switchEpoch (s : State) (t : Nat) : kept (State.switchEpoch s t) = kept s := by
  unfold State.switchEpoch
  try dsimp only
  repeat' split
  all_goals simp [kept_mk, kept_pack, kept_foldl, apply_ite kept]

@[simp] theorem kept_openEpoch (s : State) (n : BitVec 16) : kept (State.openEpoch s n) = kept s := by
  unfold State.openEpoch
  try dsimp only
  repeat' split
  all_goals simp [kept_mk, kept_pack, kept_foldl, apply_ite kept]

theorem kept_stageAll {rs : List TableRecord} {s t : State} (h : stageAll rs s = some t) : kept t = kept s := by
  induction rs generalizing s with
  | nil => cases h; rfl
  | cons r rs ih =>
    unfold stageAll at h
    split at h
    · rename_i u hu
      split at h
      · cases h
      · rw [ih h, kept_stageItem hu]
    · cases h

theorem kept_stageLetter {s t : State} {l : LetterId} {b q : Bool} {rs : List TableRecord} {a : List Byte} {c : Option Nat}
    (h : s.stageLetter l b q rs = .ok (t, a, c)) : kept t = kept s := by
  unfold State.stageLetter at h
  dsimp only at h
  split at h
  · split at h
    · rename_i r
      cases hr : s.tryItem l.slice.val false r with
      | error e => simp [hr, Except.map] at h
      | ok u =>
        simp only [hr, Except.map, Except.ok.injEq, Prod.mk.injEq] at h
        rw [← h.1]; exact kept_tryItem hr
    · cases h
  · split at h
    · cases h
    · split at h
      · rename_i u hu
        cases h; exact kept_stageAll hu
      · split at h
        · cases h
        · split at h
          · cases h
          · cases h; simp

theorem kept_applyImplicit {s t : State} {l : LetterId} {b q : Bool} {rs : List TableRecord} {a : List Byte} {c : Option Nat}
    (h : s.applyImplicit l b q rs = .ok (t, a, c)) : kept t = kept s := by
  unfold State.applyImplicit at h
  cases hr : (s.openEpoch (s.epoch.current + 1#16)).stageLetter l b q rs with
  | error e => simp [hr, Except.map] at h
  | ok u =>
    obtain ⟨u, x, y⟩ := u
    simp only [hr, Except.map, Except.ok.injEq, Prod.mk.injEq] at h
    rw [← h.1]
    simpa using kept_stageLetter hr

@[simp] theorem kept_rejectHeld (s : State) (l : LetterId) (e : Reject) : kept (State.rejectHeld s l e) = kept s := by
  unfold State.rejectHeld
  try dsimp only
  repeat' split
  all_goals simp [kept_mk, kept_pack, kept_foldl, apply_ite kept]

@[simp] theorem kept_released (s : State) : kept (State.released s) = kept s := by
  unfold State.released
  try dsimp only
  repeat' split
  all_goals simp [kept_mk, kept_pack, kept_foldl, apply_ite kept]

@[simp] theorem kept_afterHeld (s : State) : kept s.afterHeld = kept s := by
  unfold State.afterHeld
  rw [kept_foldl _ _ _ fun s a => ?_]
  · simp
  · dsimp only
    split
    · rfl
    · rename_i h; simpa using kept_applyImplicit h

@[simp] theorem kept_applyHeld (n : Nat) (s : State) : kept (s.applyHeld n) = kept s := by
  induction n generalizing s with
  | zero => rfl
  | succ n ih =>
    unfold State.applyHeld
    split
    · rfl
    · dsimp only
      split
      · rw [ih]; simp
      · rename_i t a c ht
        simpa using kept_applyImplicit ht

@[simp] theorem kept_resetReleased (s : State) : kept (State.resetReleased s) = kept s := by
  unfold State.resetReleased
  try dsimp only
  repeat' split
  all_goals simp [kept_mk, kept_pack, kept_foldl, apply_ite kept]

@[simp] theorem kept_finishRelease (s : State) : kept s.finishRelease = kept s := by
  unfold State.finishRelease
  dsimp only
  split
  · split <;> simp [kept_mk, kept_pack]
  · simp [kept_mk, kept_pack]

@[simp] theorem kept_startRelease (s : State) : kept (State.startRelease s) = kept s := by
  unfold State.startRelease
  try dsimp only
  repeat' split
  all_goals simp [kept_mk, kept_pack, kept_foldl, apply_ite kept]

@[simp] theorem kept_lapse (s : State) : kept (State.lapse s) = kept s := by
  unfold State.lapse
  try dsimp only
  repeat' split
  all_goals simp [kept_mk, kept_pack, kept_foldl, apply_ite kept]

@[simp] theorem kept_countLetter (s : State) : kept (State.countLetter s) = kept s := by
  unfold State.countLetter
  try dsimp only
  repeat' split
  all_goals simp [kept_mk, kept_pack, kept_foldl, apply_ite kept]

@[simp] theorem kept_stageView (s : State) (named : Bool) : kept (State.stageView s named) = kept s := by
  unfold State.stageView
  try dsimp only
  repeat' split
  all_goals simp [kept_mk, kept_pack, kept_foldl, apply_ite kept]

theorem keeps_stagingVerdict (s : State) (c : Ctx) (b : Bool) (rs : List TableRecord)
    (x y : State → List (Bool × Reject)) : (s.stagingVerdict c b rs x y).keeps s := by
  unfold State.stagingVerdict checked
  dsimp only
  split
  · trivial
  · split
    · split
      · trivial
      · rename_i h; simpa [Verdict.keeps] using kept_stageLetter h
    · split
      · split
        · trivial
        · simp [Verdict.keeps, acceptWait, kept_mk, kept_pack]
      · split
        · trivial
        · rename_i h; simpa [Verdict.keeps, acceptWait] using kept_applyImplicit h

theorem firstFail_cases (cs : List (Bool × Reject)) : firstFail cs = none ∨ ∃ r, firstFail cs = some r := by
  cases firstFail cs <;> simp

@[simp] theorem kept_itemRun (l : LetterId) (r : TableRecord) (s : State) : kept (itemRun l r s) = kept s := by
  refine kept_runLetter fun c => ?_
  unfold itemVerdict checked
  dsimp only
  split
  · trivial
  · split
    · trivial
    · exact keeps_stagingVerdict _ _ _ _ _ _

@[simp] theorem kept_blockRun (l : LetterId) (op : Nat) (records : ListArg TableRecord) (crc : W32) (s : State) :
    kept (blockRun l op records crc s) = kept s := by
  refine kept_runLetter fun c => ?_
  rcases firstFail_cases [malformed (decide (records.count.toNat = 0 ∨ 1048576 < records.count.toNat)) 0] with h | ⟨r, h⟩
  · simp only [checked, h]
    unfold withList
    cases hr : records.items with
    | none => simp only [hr]; trivial
    | some rs =>
      simp only [hr]
      cases badList rs with
      | some a => trivial
      | none =>
        dsimp only
        cases strangeRecord (op / 256) 0 rs with
        | some i => trivial
        | none =>
          dsimp only
          split
          · trivial
          · exact keeps_stagingVerdict _ _ _ _ _ _
  · simp only [checked, h]; trivial

@[simp] theorem kept_rejectSeq (s : State) (l : LetterId) : kept (State.rejectSeq s l) = kept s := by
  unfold State.rejectSeq
  try dsimp only
  repeat' split
  all_goals simp [kept_mk, kept_pack, kept_foldl, apply_ite kept]

@[simp] theorem kept_abortEpoch (s : State) : kept (State.abortEpoch s) = kept s := by
  unfold State.abortEpoch
  try dsimp only
  repeat' split
  all_goals simp [kept_mk, kept_pack, kept_foldl, apply_ite kept]

@[simp] theorem kept_debitPir (s : State) (k : Nat) (bytes : Int) : kept (State.debitPir s k bytes) = kept s := by
  unfold State.debitPir
  try dsimp only
  repeat' split
  all_goals simp [kept_mk, kept_pack, kept_foldl, apply_ite kept]

@[simp] theorem kept_debitCir (s : State) (k : Nat) (bytes : Int) : kept (State.debitCir s k bytes) = kept s := by
  unfold State.debitCir
  try dsimp only
  repeat' split
  all_goals simp [kept_mk, kept_pack, kept_foldl, apply_ite kept]

@[simp] theorem kept_readNode (s : State) (k : Nat) : kept (State.readNode s k) = kept s := by
  unfold State.readNode
  try dsimp only
  repeat' split
  all_goals simp [kept_mk, kept_pack, kept_foldl, apply_ite kept]

@[simp] theorem kept_readNodes (s : State) (port : Nat) : kept (State.readNodes s port) = kept s := by
  unfold State.readNodes
  try dsimp only
  repeat' split
  all_goals simp [kept_mk, kept_pack, kept_foldl, apply_ite kept]

@[simp] theorem kept_chargePace (s : State) (len : Nat) : kept (State.chargePace s len) = kept s := by
  unfold State.chargePace
  try dsimp only
  repeat' split
  all_goals simp [kept_mk, kept_pack, kept_foldl, apply_ite kept]

@[simp] theorem kept_pickChild (s : State) (k pr : Nat) (set : List Nat) : kept (s.pickChild k pr set).1 = kept s := by
  unfold State.pickChild
  dsimp only
  split <;> simp [kept_foldl]

@[simp] theorem kept_walk (s : State) (port n k : Nat) (path : List (Nat × Bool)) : kept (s.walk port n k path).1 = kept s := by
  induction n generalizing s k path with
  | zero => rfl
  | succ n ih =>
    unfold State.walk
    dsimp only
    split
    · rfl
    · split
      · rfl
      · split
        all_goals
          rename_i ht
          have := congrArg (fun p => kept p.1) ht
          simp only [kept_pickChild] at this
          simp [ih, this]

theorem kept_walk_of {s t : State} {port n k : Nat} {path : List (Nat × Bool)} {x : Option (Nat × List (Nat × Bool))}
    (h : s.walk port n k path = (t, x)) : kept t = kept s := by
  have := kept_walk s port n k path
  rwa [h] at this

@[simp] theorem kept_countBand (s : State) (k : Nat) (isMin : Bool) : kept (State.countBand s k isMin) = kept s := by
  unfold State.countBand
  try dsimp only
  repeat' split
  all_goals simp [kept_mk, kept_pack, kept_foldl, apply_ite kept]

@[simp] theorem kept_debitPath (s : State) (port len : Nat) (path : List (Nat × Bool)) :
    kept (s.debitPath port len path).1 = kept s := by
  unfold State.debitPath
  dsimp only
  simp [kept_foldl]

@[simp] theorem kept_takeHead (s : State) (port q : Nat) (path : List (Nat × Bool)) : kept (State.takeHead s port q path) = kept s := by
  unfold State.takeHead
  try dsimp only
  repeat' split
  all_goals simp [kept_mk, kept_pack, kept_foldl, apply_ite kept]

@[simp] theorem kept_countGuard (s : State) (port : Nat) : kept (State.countGuard s port) = kept s := by
  unfold State.countGuard
  try dsimp only
  repeat' split
  all_goals simp [kept_mk, kept_pack, kept_foldl, apply_ite kept]

@[simp] theorem kept_selectPort (s : State) (port : Nat) : kept (State.selectPort s port) = kept s := by
  unfold State.selectPort
  try dsimp only
  repeat' split
  all_goals try simp [kept_mk, kept_pack, kept_foldl, apply_ite kept]
  all_goals first
    | exact kept_walk_of ‹_›

@[simp] theorem kept_adjust (s : State) (x : Selected) (delta : Int) : kept (State.adjust s x delta) = kept s := by
  unfold State.adjust
  try dsimp only
  repeat' split
  all_goals simp [kept_mk, kept_pack, kept_foldl, apply_ite kept]

@[simp] theorem kept_egressMirror (s : State) (p : Packet) : kept (State.egressMirror s p) = kept s := by
  unfold State.egressMirror
  try dsimp only
  repeat' split
  all_goals simp [kept_mk, kept_pack, kept_foldl, apply_ite kept]

@[simp] theorem kept_meet (s : State) (rest : List (Packet × Bool)) (x : Selected) : kept (State.meet s rest x) = kept s := by
  unfold State.meet
  try dsimp only
  repeat' split
  all_goals simp [kept_mk, kept_pack, kept_foldl, apply_ite kept]

@[simp] theorem kept_puntQueued (s : State) (x : Selected) (r : Packet) : kept (State.puntQueued s x r) = kept s := by
  unfold State.puntQueued
  try dsimp only
  repeat' split
  all_goals simp [kept_mk, kept_pack, kept_foldl, apply_ite kept]

@[simp] theorem kept_voqSend (s : State) (q : Nat) (p : Packet) (readError : Bool) : kept (State.voqSend s q p readError) = kept s := by
  unfold State.voqSend
  try dsimp only
  repeat' split
  all_goals simp [kept_mk, kept_pack, kept_foldl, apply_ite kept]

@[simp] theorem kept_sendFirst (s : State) (q : Nat) (p : Packet) : kept (State.sendFirst s q p) = kept s := by
  unfold State.sendFirst
  try dsimp only
  repeat' split
  all_goals simp [kept_mk, kept_pack, kept_foldl, apply_ite kept]

@[simp] theorem kept_noteStops (s : State) (p : Nat) : kept (State.noteStops s p) = kept s := by
  unfold State.noteStops
  try dsimp only
  repeat' split
  all_goals simp [kept_mk, kept_pack, kept_foldl, apply_ite kept]

@[simp] theorem kept_pickClass (s : State) (p : Nat) : kept (s.pickClass p).1 = kept s := by
  unfold State.pickClass
  dsimp only
  split
  · rfl
  · split <;> simp

@[simp] theorem kept_grantClass (s : State) (p c : Nat) : kept (State.grantClass s p c) = kept s := by
  unfold State.grantClass
  try dsimp only
  repeat' split
  all_goals simp [kept_mk, kept_pack, kept_foldl, apply_ite kept]

@[simp] theorem kept_switchGates (s : State) (p start : Nat) : kept (State.switchGates s p start) = kept s := by
  unfold State.switchGates
  try dsimp only
  repeat' split
  all_goals simp [kept_mk, kept_pack, kept_foldl, apply_ite kept]

@[simp] theorem kept_putNode (s : State) (k : Nat) (n : Node) : kept (State.putNode s k n) = kept s := by
  unfold State.putNode
  try dsimp only
  repeat' split
  all_goals simp [kept_mk, kept_pack, kept_foldl, apply_ite kept]

@[simp] theorem kept_linksChanged (s : State) (i : Nat) : kept (State.linksChanged s i) = kept s := by
  unfold State.linksChanged
  try dsimp only
  repeat' split
  all_goals simp [kept_mk, kept_pack, kept_foldl, apply_ite kept]

@[simp] theorem kept_lossEvent (s : State) : kept (State.lossEvent s) = kept s := by
  unfold State.lossEvent
  try dsimp only
  repeat' split
  all_goals simp [kept_mk, kept_pack, kept_foldl, apply_ite kept]

@[simp] theorem kept_moveWaiting (s : State) (i : Nat) : kept (State.moveWaiting s i) = kept s := by
  unfold State.moveWaiting
  try dsimp only
  repeat' split
  all_goals simp [kept_mk, kept_pack, kept_foldl, apply_ite kept]

@[simp] theorem kept_takeHold (s : State) (i : Nat) (hold : Bool) : kept (State.takeHold s i hold) = kept s := by
  unfold State.takeHold
  try dsimp only
  repeat' split
  all_goals simp [kept_mk, kept_pack, kept_foldl, apply_ite kept]

@[simp] theorem kept_linkDown (s : State) (i cause : Nat) : kept (State.linkDown s i cause) = kept s := by
  unfold State.linkDown
  try dsimp only
  repeat' split
  all_goals simp [kept_mk, kept_pack, kept_foldl, apply_ite kept]

@[simp] theorem kept_hear (s : State) (i : Nat) (cell : List Byte) (fecOk once : Bool) (act : State → State)
    (h : ∀ u, kept (act u) = kept u) : kept (s.hear i cell fecOk once act) = kept s := by
  unfold State.hear
  dsimp only
  repeat' split
  all_goals simp [h]

@[simp] theorem kept_takeReach (s : State) (i : Nat) (reach : ReachCell) : kept (State.takeReach s i reach) = kept s := by
  unfold State.takeReach
  try dsimp only
  repeat' split
  all_goals simp [kept_mk, kept_pack, kept_foldl, apply_ite kept]

@[simp] theorem kept_sendSlot (s : State) (i : Nat) (cell : List Byte) : kept (State.sendSlot s i cell) = kept s := by
  unfold State.sendSlot
  try dsimp only
  repeat' split
  all_goals simp [kept_mk, kept_pack, kept_foldl, apply_ite kept]

@[simp] theorem kept_dropOpen (s : State) (k : Nat) : kept (State.dropOpen s k) = kept s := by
  unfold State.dropOpen
  try dsimp only
  repeat' split
  all_goals simp [kept_mk, kept_pack, kept_foldl, apply_ite kept]

theorem kept_eqRefuse {s t : State} {q port src : Nat} {mc : Bool} (h : s.eqRefuse q port src mc = some t) :
    kept t = kept s := by
  unfold State.eqRefuse at h
  split at h
  · cases h; simp
  · split at h
    · cases h; simp
    · cases h

@[simp] theorem kept_admitAll (s : State) (k : Nat) (p : Packet) (mc : Bool) (qs : List Nat) :
    kept (s.admitAll k p mc qs).1 = kept s := by
  unfold State.admitAll
  refine kept_foldl_fst _ _ _ fun a q => ?_
  split
  · rename_i t ht; exact kept_eqRefuse ht
  · split
    all_goals
      rename_i ht
      have := congrArg (fun p => kept p.2) ht
      simpa using this.symm

@[simp] theorem kept_startPartial (s : State) (k : Nat) (p : Packet) (mc : Bool) : kept (State.startPartial s k p mc) = kept s := by
  unfold State.startPartial
  try dsimp only
  repeat' split
  all_goals simp [kept_mk, kept_pack, kept_foldl, apply_ite kept]

@[simp] theorem kept_discardPoisoned (s : State) (k : Nat) (r : Partial) : kept (State.discardPoisoned s k r) = kept s := by
  unfold State.discardPoisoned
  try dsimp only
  repeat' split
  all_goals simp [kept_mk, kept_pack, kept_foldl, apply_ite kept]

@[simp] theorem kept_linkAll (s : State) (k : Nat) (p : Packet) (mc : Bool) (admitted : List (Nat × Placed)) :
    kept (s.linkAll k p mc admitted) = kept s := by
  unfold State.linkAll
  refine kept_foldl _ _ _ fun s a => ?_
  split
  · simpa using kept_eqRefuse ‹_›
  · simp

@[simp] theorem kept_finishCut (s : State) (q : Nat) (b : BufId) (data : List Byte) : kept (State.finishCut s q b data) = kept s := by
  unfold State.finishCut
  try dsimp only
  repeat' split
  all_goals simp [kept_mk, kept_pack, kept_foldl, apply_ite kept]

@[simp] theorem kept_completePartial (s : State) (k : Nat) (p : Partial) (poisoned mc : Bool) :
    kept (s.completePartial k p poisoned mc) = kept s := by
  unfold State.completePartial
  dsimp only
  repeat' split
  all_goals simp [kept_foldl]

@[simp] theorem kept_feed (s : State) (k : Nat) (bs : List Byte) (poisoned mc : Bool) : kept (State.feed s k bs poisoned mc) = kept s := by
  unfold State.feed
  try dsimp only
  repeat' split
  all_goals simp [kept_mk, kept_pack, kept_foldl, apply_ite kept]

@[simp] theorem kept_badPacket (s : State) (k : Nat) : kept (State.badPacket s k) = kept s := by
  unfold State.badPacket
  try dsimp only
  repeat' split
  all_goals simp [kept_mk, kept_pack, kept_foldl, apply_ite kept]

@[simp] theorem kept_takePackets (s : State) (k : Nat) (e : BitVec 16) (p mc : Bool) (n : Nat) (bs : List Byte) :
    kept (s.takePackets k e p mc n bs) = kept s := by
  induction n generalizing s bs with
  | zero => rfl
  | succ n ih =>
    unfold State.takePackets
    dsimp only
    split
    · rfl
    · split
      · simp
      · split
        · simp
        · simp [ih]

@[simp] theorem kept_takeCell (s : State) (k : Nat) (c : Cell) : kept (s.takeCell k c) = kept s := by
  unfold State.takeCell
  extract_lets _ r bs f here fits u
  have e : kept u = kept s := by
    simp only [u]
    repeat' split
    all_goals simp
  split <;> simp [e]

@[simp] theorem kept_advance (s : State) (k e : Nat) : kept (State.advance s k e) = kept s := by
  unfold State.advance
  try dsimp only
  repeat' split
  all_goals simp [kept_mk, kept_pack, kept_foldl, apply_ite kept]

@[simp] theorem kept_takeHeld (s : State) (k n : Nat) : kept (s.takeHeld k n) = kept s := by
  induction n generalizing s with
  | zero => rfl
  | succ n ih =>
    unfold State.takeHeld
    dsimp only
    split
    · split
      · simp [ih]
      · rfl
    · rfl

@[simp] theorem kept_resequence (s : State) (k : Nat) (c : Cell) : kept (State.resequence s k c) = kept s := by
  unfold State.resequence
  try dsimp only
  repeat' split
  all_goals simp [kept_mk, kept_pack, kept_foldl, apply_ite kept]

@[simp] theorem kept_takeData (s : State) (i : Nat) (c : Cell) (rivals : List Rival) : kept (State.takeData s i c rivals) = kept s := by
  unfold State.takeData
  try dsimp only
  repeat' split
  all_goals simp [kept_mk, kept_pack, kept_foldl, apply_ite kept]

@[simp] theorem kept_takeCredit (s : State) (link : Nat) (cell : List Byte) (fecOk : Bool) (mtype index : Nat)
    (act : Nat → State → State) (h : ∀ m u, kept (act m u) = kept u) :
    kept (s.takeCredit link cell fecOk mtype index act) = kept s := by
  unfold State.takeCredit
  refine kept_hear _ _ _ _ _ _ fun u => ?_
  split
  · rfl
  · repeat' split
    all_goals simp [h]

@[simp] theorem kept_takeRequest (s : State) (src : Nat) (m : RequestMsg) : kept (State.takeRequest s src m) = kept s := by
  unfold State.takeRequest
  try dsimp only
  repeat' split
  all_goals simp [kept_mk, kept_pack, kept_foldl, apply_ite kept]

@[simp] theorem kept_badGrant (s : State) (src : Nat) : kept (State.badGrant s src) = kept s := by
  unfold State.badGrant
  try dsimp only
  repeat' split
  all_goals simp [kept_mk, kept_pack, kept_foldl, apply_ite kept]

@[simp] theorem kept_offAgain (s : State) (q dst port cls : Nat) : kept (State.offAgain s q dst port cls) = kept s := by
  unfold State.offAgain
  try dsimp only
  repeat' split
  all_goals simp [kept_mk, kept_pack, kept_foldl, apply_ite kept]

@[simp] theorem kept_takeGrant (s : State) (src : Nat) (m : GrantMsg) : kept (State.takeGrant s src m) = kept s := by
  unfold State.takeGrant
  try dsimp only
  repeat' split
  all_goals simp [kept_mk, kept_pack, kept_foldl, apply_ite kept]

@[simp] theorem kept_setBank (s : State) (part : Nat) (b : Bool) (v : Bank) : kept (State.setBank s part b v) = kept s := by
  unfold State.setBank
  try dsimp only
  repeat' split
  all_goals simp [kept_mk, kept_pack, kept_foldl, apply_ite kept]

@[simp] theorem kept_openPage (s : State) (b : Nat) (modeP : Bool) : kept (State.openPage s b modeP) = kept s := by
  unfold State.openPage
  try dsimp only
  repeat' split
  all_goals simp [kept_mk, kept_pack, kept_foldl, apply_ite kept]

@[simp] theorem kept_stageMicro (s : State) (b a : Nat) (ws : List W32) : kept (State.stageMicro s b a ws) = kept s := by
  unfold State.stageMicro
  try dsimp only
  repeat' split
  all_goals simp [kept_mk, kept_pack, kept_foldl, apply_ite kept]

@[simp] theorem kept_stageNano (s : State) (b a : Nat) (ws : List (BitVec 256)) : kept (State.stageNano s b a ws) = kept s := by
  unfold State.stageNano
  try dsimp only
  repeat' split
  all_goals simp [kept_mk, kept_pack, kept_foldl, apply_ite kept]

@[simp] theorem kept_stageMatch (s : State) (b : Nat) (ws : List W32) : kept (State.stageMatch s b ws) = kept s := by
  unfold State.stageMatch
  try dsimp only
  repeat' split
  all_goals simp [kept_mk, kept_pack, kept_foldl, apply_ite kept]

@[simp] theorem kept_stagePatch (s : State) (b : Nat) (micro : List W32) (nano : List (BitVec 256)) (regs : List W32) (level : Nat) : kept (State.stagePatch s b micro nano regs level) = kept s := by
  unfold State.stagePatch
  try dsimp only
  repeat' split
  all_goals simp [kept_mk, kept_pack, kept_foldl, apply_ite kept]

@[simp] theorem kept_sealPage (s : State) (b : Nat) (version : W32) : kept (State.sealPage s b version) = kept s := by
  unfold State.sealPage
  try dsimp only
  repeat' split
  all_goals simp [kept_mk, kept_pack, kept_foldl, apply_ite kept]

@[simp] theorem kept_stageImage (s : State) (b : Nat) (modeP bankB : Bool) : kept (State.stageImage s b modeP bankB) = kept s := by
  unfold State.stageImage
  try dsimp only
  repeat' split
  all_goals simp [kept_mk, kept_pack, kept_foldl, apply_ite kept]

@[simp] theorem kept_bootContent (s : State) (b : Nat) (modeP : Bool) : kept (State.bootContent s b modeP) = kept s := by
  unfold State.bootContent
  try dsimp only
  repeat' split
  all_goals simp [kept_mk, kept_pack, kept_foldl, apply_ite kept]

@[simp] theorem kept_setSettingsSlot (s : State) (i : Nat) (r : SettingsRecord) : kept (State.setSettingsSlot s i r) = kept s := by
  unfold State.setSettingsSlot
  try dsimp only
  repeat' split
  all_goals simp [kept_mk, kept_pack, kept_foldl, apply_ite kept]

@[simp] theorem kept_saveBody (s : State) (l : Option LetterId) (body : Settings) (migrated : Bool) : kept (State.saveBody s l body migrated) = kept s := by
  unfold State.saveBody
  try dsimp only
  repeat' split
  all_goals simp [kept_mk, kept_pack, kept_foldl, apply_ite kept]

@[simp] theorem kept_recordRepairs (s : State) (repairs : List (Nat × Nat)) : kept (State.recordRepairs s repairs) = kept s := by
  unfold State.recordRepairs
  try dsimp only
  repeat' split
  all_goals simp [kept_mk, kept_pack, kept_foldl, apply_ite kept]

@[simp] theorem kept_issueNbr (s : State) (c : Nat) (p : Nat × Nat → Bool) : kept (State.issueNbr s c p) = kept s := by
  unfold State.issueNbr
  try dsimp only
  repeat' split
  all_goals simp [kept_mk, kept_pack, kept_foldl, apply_ite kept]

@[simp] theorem kept_activate (s : State) (c bank row : Nat) : kept (State.activate s c bank row) = kept s := by
  unfold State.activate
  try dsimp only
  repeat' split
  all_goals simp [kept_mk, kept_pack, kept_foldl, apply_ite kept]

@[simp] theorem kept_afterSlot (s : State) (c : Nat) : kept (State.afterSlot s c) = kept s := by
  unfold State.afterSlot
  try dsimp only
  repeat' split
  all_goals simp [kept_mk, kept_pack, kept_foldl, apply_ite kept]

@[simp] theorem kept_onPackets (s : State) (f : Packet → Packet) : kept (State.onPackets s f) = kept s := by
  unfold State.onPackets
  try dsimp only
  repeat' split
  all_goals simp [kept_mk, kept_pack, kept_foldl, apply_ite kept]

@[simp] theorem kept_markPackets (s : State) (b : BufId) (f : Packet → Packet) : kept (State.markPackets s b f) = kept s := by
  unfold State.markPackets
  try dsimp only
  repeat' split
  all_goals simp [kept_mk, kept_pack, kept_foldl, apply_ite kept]

@[simp] theorem kept_blockLost (s : State) (b : BufId) : kept (State.blockLost s b) = kept s := by
  unfold State.blockLost
  try dsimp only
  repeat' split
  all_goals simp [kept_mk, kept_pack, kept_foldl, apply_ite kept]

@[simp] theorem kept_startDrain (s : State) (i : Nat) : kept (State.startDrain s i) = kept s := by
  unfold State.startDrain
  try dsimp only
  repeat' split
  all_goals simp [kept_mk, kept_pack, kept_foldl, apply_ite kept]

@[simp] theorem kept_drainPch (s : State) (c : Nat) : kept (State.drainPch s c) = kept s := by
  unfold State.drainPch
  try dsimp only
  repeat' split
  all_goals simp [kept_mk, kept_pack, kept_foldl, apply_ite kept]

@[simp] theorem kept_uncorrectable (s : State) (c : Nat) (r : Request) : kept (State.uncorrectable s c r) = kept s := by
  unfold State.uncorrectable
  try dsimp only
  repeat' split
  all_goals simp [kept_mk, kept_pack, kept_foldl, apply_ite kept]

@[simp] theorem kept_complete (s : State) (c : Nat) (r : Request) (o : ReadOutcome) : kept (State.complete s c r o) = kept s := by
  unfold State.complete
  try dsimp only
  repeat' split
  all_goals simp [kept_mk, kept_pack, kept_foldl, apply_ite kept]

@[simp] theorem kept_serve (s : State) (c : Nat) (r : Request) (o : ReadOutcome) : kept (State.serve s c r o) = kept s := by
  unfold State.serve
  try dsimp only
  repeat' split
  all_goals simp [kept_mk, kept_pack, kept_foldl, apply_ite kept]

@[simp] theorem kept_trainPch (s : State) (c : Nat) (xs : List LaneSweep) : kept (s.trainPch c xs).1 = kept s := by
  unfold State.trainPch
  dsimp only
  split
  · rfl
  · split
    all_goals
      simp only [kept_clearFault, kept_condition, kept_setPch]
      rw [kept_foldl _ _ _ fun s a => by split <;> rfl]
      exact kept_foldl _ _ _ fun s a => by simp only [kept_raise]; rfl

@[simp] theorem kept_slipWindow (s : State) (c : Nat) (first : Bool) : kept (State.slipWindow s c first) = kept s := by
  unfold State.slipWindow
  try dsimp only
  repeat' split
  all_goals simp [kept_mk, kept_pack, kept_foldl, apply_ite kept]

@[simp] theorem kept_syncDeep (s : State) : kept (State.syncDeep s) = kept s := by
  unfold State.syncDeep
  try dsimp only
  repeat' split
  all_goals simp [kept_mk, kept_pack, kept_foldl, apply_ite kept]

@[simp] theorem kept_repairRow (s : State) (bank i : Nat) : kept (State.repairRow s bank i) = kept s := by
  unfold State.repairRow
  try dsimp only
  repeat' split
  all_goals simp [kept_mk, kept_pack, kept_foldl, apply_ite kept]

@[simp] theorem kept_countCopy (s : State) : kept (State.countCopy s) = kept s := by
  unfold State.countCopy
  try dsimp only
  repeat' split
  all_goals simp [kept_mk, kept_pack, kept_foldl, apply_ite kept]

@[simp] theorem kept_dropJob (s : State) (bank : Nat) : kept (State.dropJob s bank) = kept s := by
  unfold State.dropJob
  try dsimp only
  repeat' split
  all_goals simp [kept_mk, kept_pack, kept_foldl, apply_ite kept]

@[simp] theorem kept_moveMap (s : State) (m : Migration) (src : BankSt) : kept (State.moveMap s m src) = kept s := by
  unfold State.moveMap
  try dsimp only
  repeat' split
  all_goals simp [kept_mk, kept_pack, kept_foldl, apply_ite kept]

@[simp] theorem kept_holdSlice (s : State) (i : Nat) (l : LetterId) : kept (State.holdSlice s i l) = kept s := by
  unfold State.holdSlice
  try dsimp only
  repeat' split
  all_goals simp [kept_mk, kept_pack, kept_foldl, apply_ite kept]

@[simp] theorem kept_releaseSlice (s : State) (i : Nat) : kept (State.releaseSlice s i) = kept s := by
  unfold State.releaseSlice
  try dsimp only
  repeat' split
  all_goals simp [kept_mk, kept_pack, kept_foldl, apply_ite kept]

@[simp] theorem kept_startReset (s : State) (i : Nat) (l : LetterId) : kept (State.startReset s i l) = kept s := by
  unfold State.startReset
  try dsimp only
  repeat' split
  all_goals simp [kept_mk, kept_pack, kept_foldl, apply_ite kept]

@[simp] theorem kept_startBoot (s : State) : kept (State.startBoot s) = kept s := by
  unfold State.startBoot
  try dsimp only
  repeat' split
  all_goals simp [kept_mk, kept_pack, kept_foldl, apply_ite kept]

@[simp] theorem kept_endRingFaults (s : State) (i : Nat) : kept (State.endRingFaults s i) = kept s := by
  unfold State.endRingFaults
  try dsimp only
  repeat' split
  all_goals simp [kept_mk, kept_pack, kept_foldl, apply_ite kept]

@[simp] theorem kept_clearLetters (s : State) (i : Nat) : kept (State.clearLetters s i) = kept s := by
  unfold State.clearLetters
  try dsimp only
  repeat' split
  all_goals simp [kept_mk, kept_pack, kept_foldl, apply_ite kept]

@[simp] theorem kept_resetZero (s : State) (l : LetterId) : kept (State.resetZero s l) = kept s := by
  unfold State.resetZero
  try dsimp only
  repeat' split
  all_goals simp [kept_mk, kept_pack, kept_foldl, apply_ite kept]

@[simp] theorem kept_zeroReceipt (s : State) (l : LetterId) (slice : W32) : kept (State.zeroReceipt s l slice) = kept s := by
  unfold State.zeroReceipt
  try dsimp only
  repeat' split
  all_goals simp [kept_mk, kept_pack, kept_foldl, apply_ite kept]

@[simp] theorem kept_startDeletions (s : State) (i : Nat) : kept (State.startDeletions s i) = kept s := by
  unfold State.startDeletions
  try dsimp only
  repeat' split
  all_goals simp [kept_mk, kept_pack, kept_foldl, apply_ite kept]

@[simp] theorem kept_squash (s : State) (i w r : Nat) : kept (State.squash s i w r) = kept s := by
  unfold State.squash
  try dsimp only
  repeat' split
  all_goals simp [kept_mk, kept_pack, kept_foldl, apply_ite kept]

@[simp] theorem kept_clearSlice (s : State) (i : Nat) : kept (s.clearSlice i) = kept s := by
  unfold State.clearSlice
  extract_lets own qs s1 s2 s3 u level res id gateless s4 s5
  have e : kept s3 = kept s := by
    have e1 : kept s1 = kept s := kept_foldl _ _ _ fun s a => by simp
    have e2 : kept s2 = kept s1 := kept_foldl _ _ _ fun s a => by simp
    have e3 : kept s3 = kept s2 := kept_foldl _ _ _ fun s a => by simp
    rw [e3, e2, e1]
  refine (kept_bankPower _).trans ((kept_clearLetters _ _).trans ((kept_foldl _ _ _ fun s a => by simp).trans ?_))
  exact Eq.trans (b := kept s3) rfl e

@[simp] theorem kept_writeBitmap (s : State) (addr : W64) (pages : List Nat) : kept (State.writeBitmap s addr pages) = kept s := by
  unfold State.writeBitmap
  try dsimp only
  repeat' split
  all_goals simp [kept_mk, kept_pack, kept_foldl, apply_ite kept]

@[simp] theorem kept_endBitmap (s : State) (i : Nat) (busOk : Bool) : kept (State.endBitmap s i busOk) = kept s := by
  unfold State.endBitmap
  try dsimp only
  repeat' split
  all_goals simp [kept_mk, kept_pack, kept_foldl, apply_ite kept]

@[simp] theorem kept_modPost (s : State) (p : Pm) (f : Postmaster → Postmaster) : kept (State.modPost s p f) = kept s := by
  unfold State.modPost
  try dsimp only
  repeat' split
  all_goals simp [kept_mk, kept_pack, kept_foldl, apply_ite kept]

@[simp] theorem kept_restartPm (s : State) (p : Pm) (bankB : Bool) : kept (State.restartPm s p bankB) = kept s := by
  unfold State.restartPm
  try dsimp only
  repeat' split
  all_goals simp [kept_mk, kept_pack, kept_foldl, apply_ite kept]

@[simp] theorem kept_fencePm (s : State) (p : Pm) (role : Role) : kept (State.fencePm s p role) = kept s := by
  unfold State.fencePm
  try dsimp only
  repeat' split
  all_goals simp [kept_mk, kept_pack, kept_foldl, apply_ite kept]

@[simp] theorem kept_unclaim (s : State) (sl seq : Nat) (e : Entry) : kept (State.unclaim s sl seq e) = kept s := by
  unfold State.unclaim
  try dsimp only
  repeat' split
  all_goals simp [kept_mk, kept_pack, kept_foldl, apply_ite kept]

@[simp] theorem kept_unclaimAll (s : State) (p : Pm) : kept (State.unclaimAll s p) = kept s := by
  unfold State.unclaimAll
  try dsimp only
  repeat' split
  all_goals simp [kept_mk, kept_pack, kept_foldl, apply_ite kept]

@[simp] theorem kept_resendOne (s : State) (sl : Nat) (e : Entry) : kept (s.resendOne sl e) = kept s := by
  unfold State.resendOne
  dsimp only
  split
  · split <;> simp
  · simp [kept_mk, kept_pack]

@[simp] theorem kept_resendAll (s : State) : kept (State.resendAll s) = kept s := by
  unfold State.resendAll
  try dsimp only
  repeat' split
  all_goals simp [kept_mk, kept_pack, kept_foldl, apply_ite kept]

@[simp] theorem kept_writeMigrated (s : State) : kept (State.writeMigrated s) = kept s := by
  unfold State.writeMigrated
  try dsimp only
  repeat' split
  all_goals simp [kept_mk, kept_pack, kept_foldl, apply_ite kept]

@[simp] theorem kept_takeCompat (s : State) : kept (State.takeCompat s) = kept s := by
  unfold State.takeCompat
  try dsimp only
  repeat' split
  all_goals simp [kept_mk, kept_pack, kept_foldl, apply_ite kept]

@[simp] theorem kept_checkDefaults (s : State) (bankB : Bool) : kept (State.checkDefaults s bankB) = kept s := by
  unfold State.checkDefaults
  try dsimp only
  repeat' split
  all_goals simp [kept_mk, kept_pack, kept_foldl, apply_ite kept]

@[simp] theorem kept_leaveHeadless (s : State) : kept s.leaveHeadless = kept s := by
  unfold State.leaveHeadless
  split
  · rfl
  · dsimp only
    rw [kept_clearFault, kept_bump, kept_foldl _ _ _ fun s a => ?_]
    · rfl
    · split <;> simp

@[simp] theorem kept_grant (s : State) (p : Pm) (old : Option Pm) : kept (State.grant s p old) = kept s := by
  unfold State.grant
  try dsimp only
  repeat' split
  all_goals simp [kept_mk, kept_pack, kept_foldl, apply_ite kept]

@[simp] theorem kept_goHeadless (s : State) : kept (State.goHeadless s) = kept s := by
  unfold State.goHeadless
  try dsimp only
  repeat' split
  all_goals simp [kept_mk, kept_pack, kept_foldl, apply_ite kept]

@[simp] theorem kept_takeOver (s : State) (old : Pm) : kept (State.takeOver s old) = kept s := by
  unfold State.takeOver
  try dsimp only
  repeat' split
  all_goals simp [kept_mk, kept_pack, kept_foldl, apply_ite kept]

@[simp] theorem kept_closeWindow (s : State) (old : Pm) (stopped : Bool) : kept (State.closeWindow s old stopped) = kept s := by
  unfold State.closeWindow
  try dsimp only
  repeat' split
  all_goals simp [kept_mk, kept_pack, kept_foldl, apply_ite kept]

@[simp] theorem kept_throttleFault (s : State) : kept (State.throttleFault s) = kept s := by
  unfold State.throttleFault
  try dsimp only
  repeat' split
  all_goals simp [kept_mk, kept_pack, kept_foldl, apply_ite kept]

@[simp] theorem kept_armBenches (s : State) (bs : List Nat) (t spacing : Nat) : kept (State.armBenches s bs t spacing) = kept s := by
  unfold State.armBenches
  try dsimp only
  repeat' split
  all_goals simp [kept_mk, kept_pack, kept_foldl, apply_ite kept]

@[simp] theorem kept_modAct (s : State) (f : Activation → Activation) : kept (State.modAct s f) = kept s := by
  unfold State.modAct
  try dsimp only
  repeat' split
  all_goals simp [kept_mk, kept_pack, kept_foldl, apply_ite kept]

@[simp] theorem kept_setBankState (s : State) (part : Nat) (b : Bool) (st : BankState) : kept (State.setBankState s part b st) = kept s := by
  unfold State.setBankState
  try dsimp only
  repeat' split
  all_goals simp [kept_mk, kept_pack, kept_foldl, apply_ite kept]

@[simp] theorem kept_newBanks (s : State) (parts : BitVec 6) (st : BankState) : kept (State.newBanks s parts st) = kept s := by
  unfold State.newBanks
  try dsimp only
  repeat' split
  all_goals simp [kept_mk, kept_pack, kept_foldl, apply_ite kept]

@[simp] theorem kept_movePms (s : State) (bankB : Bool) : kept (State.movePms s bankB) = kept s := by
  unfold State.movePms
  try dsimp only
  repeat' split
  all_goals simp [kept_mk, kept_pack, kept_foldl, apply_ite kept]

@[simp] theorem kept_stageBank (s : State) (b : Nat) (modeP bankB : Bool) : kept (State.stageBank s b modeP bankB) = kept s := by
  unfold State.stageBank
  try dsimp only
  repeat' split
  all_goals simp [kept_mk, kept_pack, kept_foldl, apply_ite kept]

@[simp] theorem kept_moveBenches (s : State) (modeP bankB : Bool) : kept (State.moveBenches s modeP bankB) = kept s := by
  unfold State.moveBenches
  try dsimp only
  repeat' split
  all_goals simp [kept_mk, kept_pack, kept_foldl, apply_ite kept]

@[simp] theorem kept_returnBenches (s : State) (modeP bankB : Bool) : kept (State.returnBenches s modeP bankB) = kept s := by
  unfold State.returnBenches
  try dsimp only
  repeat' split
  all_goals simp [kept_mk, kept_pack, kept_foldl, apply_ite kept]

@[simp] theorem kept_enterStep (s : State) (step part : Nat) (back : Bool) : kept (State.enterStep s step part back) = kept s := by
  unfold State.enterStep
  try dsimp only
  repeat' split
  all_goals simp [kept_mk, kept_pack, kept_foldl, apply_ite kept]

@[simp] theorem kept_leaveStep (s : State) : kept (State.leaveStep s) = kept s := by
  unfold State.leaveStep
  try dsimp only
  repeat' split
  all_goals simp [kept_mk, kept_pack, kept_foldl, apply_ite kept]

@[simp] theorem kept_finishRollout (s : State) : kept (State.finishRollout s) = kept s := by
  unfold State.finishRollout
  try dsimp only
  repeat' split
  all_goals simp [kept_mk, kept_pack, kept_foldl, apply_ite kept]

@[simp] theorem kept_nextStep (s : State) (step : Nat) : kept (State.nextStep s step) = kept s := by
  unfold State.nextStep
  try dsimp only
  repeat' split
  all_goals simp [kept_mk, kept_pack, kept_foldl, apply_ite kept]

@[simp] theorem kept_startRollout (s : State) : kept (State.startRollout s) = kept s := by
  unfold State.startRollout
  try dsimp only
  repeat' split
  all_goals simp [kept_mk, kept_pack, kept_foldl, apply_ite kept]

@[simp] theorem kept_nextBack (s : State) (step : Nat) : kept (State.nextBack s step) = kept s := by
  unfold State.nextBack
  try dsimp only
  repeat' split
  all_goals simp [kept_mk, kept_pack, kept_foldl, apply_ite kept]

@[simp] theorem kept_rollBack (s : State) : kept (State.rollBack s) = kept s := by
  unfold State.rollBack
  try dsimp only
  repeat' split
  all_goals simp [kept_mk, kept_pack, kept_foldl, apply_ite kept]

@[simp] theorem kept_disarm (s : State) : kept (State.disarm s) = kept s := by
  unfold State.disarm
  try dsimp only
  repeat' split
  all_goals simp [kept_mk, kept_pack, kept_foldl, apply_ite kept]

@[simp] theorem kept_becomeStandby (s : State) (pm : Pm) : kept (State.becomeStandby s pm) = kept s := by
  unfold State.becomeStandby
  try dsimp only
  repeat' split
  all_goals simp [kept_mk, kept_pack, kept_foldl, apply_ite kept]

@[simp] theorem kept_unsync (s : State) (pm : Pm) : kept (State.unsync s pm) = kept s := by
  unfold State.unsync
  try dsimp only
  repeat' split
  all_goals simp [kept_mk, kept_pack, kept_foldl, apply_ite kept]

theorem kept_giveUp {s : State} {pm : Pm} {f : State → State} (h : kept (f s) = kept s) : kept (s.giveUp pm f) = kept s := by
  unfold State.giveUp
  dsimp only
  split
  · split <;> simp
  · exact h

@[simp] theorem kept_pmFail (s : State) (pm : Pm) (code : FailCode) : kept (s.pmFail pm code) = kept s := by
  unfold State.pmFail
  extract_lets n u v
  have e : kept v = kept s := by simp [v, u]
  split
  · cases code
    all_goals try dsimp only
    · rw [kept_giveUp] <;> simp [e]
    · rw [kept_giveUp] <;> simp [e]
    all_goals first
      | (rw [kept_giveUp] <;> simp [e]; done)
      | (split <;> simp [e]; done)
      | simp [e]
  · cases code <;> simp [e]
  · cases code <;> simp [e]
  · exact e

@[simp] theorem kept_bankDiffers (s : State) (part : Nat) (b : Bool) : kept (State.bankDiffers s part b) = kept s := by
  unfold State.bankDiffers
  try dsimp only
  repeat' split
  all_goals simp [kept_mk, kept_pack, kept_foldl, apply_ite kept]

@[simp] theorem kept_itemFails (s : State) (pm : Pm) (item : SelftestItem) : kept (State.itemFails s pm item) = kept s := by
  unfold State.itemFails
  try dsimp only
  repeat' split
  all_goals simp [kept_mk, kept_pack, kept_foldl, apply_ite kept]

@[simp] theorem kept_flashJob (s : State) (j : FlashJob) : kept (State.flashJob s j) = kept s := by
  unfold State.flashJob
  try dsimp only
  repeat' split
  all_goals simp [kept_mk, kept_pack, kept_foldl, apply_ite kept]

@[simp] theorem kept_writeBank (s : State) (part : Nat) (b : Bool) (off : Nat) (d : List Byte) : kept (State.writeBank s part b off d) = kept s := by
  unfold State.writeBank
  try dsimp only
  repeat' split
  all_goals simp [kept_mk, kept_pack, kept_foldl, apply_ite kept]

theorem kept_takeJob {s t : State} {f : FlashJob → Bool} {j : FlashJob} (h : s.takeJob f = some (j, t)) : kept t = kept s := by
  obtain ⟨x, -, h⟩ := Option.map_eq_some_iff.mp h
  cases h; simp

@[simp] theorem kept_modPower (s : State) (f : PowerUnit → PowerUnit) : kept (State.modPower s f) = kept s := by
  unfold State.modPower
  try dsimp only
  repeat' split
  all_goals simp [kept_mk, kept_pack, kept_foldl, apply_ite kept]

@[simp] theorem kept_latchStatus (s : State) : kept (State.latchStatus s) = kept s := by
  unfold State.latchStatus
  try dsimp only
  repeat' split
  all_goals simp [kept_mk, kept_pack, kept_foldl, apply_ite kept]

@[simp] theorem kept_answer (s : State) (v : Option (BitVec 16)) : kept (State.answer s v) = kept s := by
  unfold State.answer
  try dsimp only
  repeat' split
  all_goals simp [kept_mk, kept_pack, kept_foldl, apply_ite kept]

@[simp] theorem kept_startRails (s : State) : kept (State.startRails s) = kept s := by
  unfold State.startRails
  try dsimp only
  repeat' split
  all_goals simp [kept_mk, kept_pack, kept_foldl, apply_ite kept]

@[simp] theorem kept_powerOn (s : State) : kept (State.powerOn s) = kept s := by
  unfold State.powerOn
  try dsimp only
  repeat' split
  all_goals simp [kept_mk, kept_pack, kept_foldl, apply_ite kept]

@[simp] theorem kept_inputFaults (s : State) : kept (State.inputFaults s) = kept s := by
  unfold State.inputFaults
  try dsimp only
  repeat' split
  all_goals simp [kept_mk, kept_pack, kept_foldl, apply_ite kept]

@[simp] theorem kept_losePass (s : State) (k : Nat) : kept (State.losePass s k) = kept s := by
  unfold State.losePass
  try dsimp only
  repeat' split
  all_goals simp [kept_mk, kept_pack, kept_foldl, apply_ite kept]

@[simp] theorem kept_stackLost (s : State) (i : Nat) : kept (State.stackLost s i) = kept s := by
  unfold State.stackLost
  try dsimp only
  repeat' split
  all_goals simp [kept_mk, kept_pack, kept_foldl, apply_ite kept]

@[simp] theorem kept_unitFails (s : State) (d : Nat) : kept (State.unitFails s d) = kept s := by
  unfold State.unitFails
  try dsimp only
  repeat' split
  all_goals simp [kept_mk, kept_pack, kept_foldl, apply_ite kept]

@[simp] theorem kept_failStart (s : State) (cause : Nat) : kept (State.failStart s cause) = kept s := by
  unfold State.failStart
  try dsimp only
  repeat' split
  all_goals simp [kept_mk, kept_pack, kept_foldl, apply_ite kept]

@[simp] theorem kept_raiseD2d (s : State) : kept (State.raiseD2d s) = kept s := by
  unfold State.raiseD2d
  try dsimp only
  repeat' split
  all_goals simp [kept_mk, kept_pack, kept_foldl, apply_ite kept]

@[simp] theorem kept_planesChanged (s : State) : kept (State.planesChanged s) = kept s := by
  unfold State.planesChanged
  try dsimp only
  repeat' split
  all_goals simp [kept_mk, kept_pack, kept_foldl, apply_ite kept]

@[simp] theorem kept_enableLinks (s : State) : kept (State.enableLinks s) = kept s := by
  unfold State.enableLinks
  try dsimp only
  repeat' split
  all_goals simp [kept_mk, kept_pack, kept_foldl, apply_ite kept]

@[simp] theorem kept_startBenches (s : State) (x : Option Settings) : kept (State.startBenches s x) = kept s := by
  unfold State.startBenches
  try dsimp only
  repeat' split
  all_goals simp [kept_mk, kept_pack, kept_foldl, apply_ite kept]

@[simp] theorem kept_startPorts (s : State) (ports : NMap Port) : kept (State.startPorts s ports) = kept s := by
  unfold State.startPorts
  try dsimp only
  repeat' split
  all_goals simp [kept_mk, kept_pack, kept_foldl, apply_ite kept]

@[simp] theorem kept_putSettings (s : State) (x : Settings) : kept (s.putSettings x) = kept s := rfl

@[simp] theorem kept_applySettings (s : State) : kept (State.applySettings s) = kept s := by
  unfold State.applySettings
  try dsimp only
  repeat' split
  all_goals simp [kept_mk, kept_pack, kept_foldl, apply_ite kept]

@[simp] theorem kept_stopRings (s : State) : kept (State.stopRings s) = kept s := by
  unfold State.stopRings
  try dsimp only
  repeat' split
  all_goals simp [kept_mk, kept_pack, kept_foldl, apply_ite kept]

@[simp] theorem kept_stopChans (s : State) : kept (State.stopChans s) = kept s := by
  unfold State.stopChans
  try dsimp only
  repeat' split
  all_goals simp [kept_mk, kept_pack, kept_foldl, apply_ite kept]

@[simp] theorem kept_pcieReset (s : State) (kind : Nat) : kept (State.pcieReset s kind) = kept s := by
  unfold State.pcieReset
  try dsimp only
  repeat' split
  all_goals simp [kept_mk, kept_pack, kept_foldl, apply_ite kept]

@[simp] theorem kept_loseSerdes (s : State) : kept (State.loseSerdes s) = kept s := by
  unfold State.loseSerdes
  try dsimp only
  repeat' split
  all_goals simp [kept_mk, kept_pack, kept_foldl, apply_ite kept]

@[simp] theorem kept_readAs (s : State) (v : W64) : kept (State.readAs s v) = kept s := by
  unfold State.readAs
  try dsimp only
  repeat' split
  all_goals simp [kept_mk, kept_pack, kept_foldl, apply_ite kept]

@[simp] theorem kept_writeBootCtrl (s : State) (value : W32) : kept (State.writeBootCtrl s value) = kept s := by
  unfold State.writeBootCtrl
  try dsimp only
  repeat' split
  all_goals simp [kept_mk, kept_pack, kept_foldl, apply_ite kept]

@[simp] theorem kept_writeMsix (s : State) (entry word : Nat) (value : W32) : kept (State.writeMsix s entry word value) = kept s := by
  unfold State.writeMsix
  try dsimp only
  repeat' split
  all_goals simp [kept_mk, kept_pack, kept_foldl, apply_ite kept]

theorem kept_ite {c : Prop} [Decidable c] {a b s : State} (h : kept a = kept s) (h1 : kept b = kept s) :
    kept (if c then a else b) = kept s := by
  split
  · exact h
  · exact h1

@[simp] theorem kept_writeWord (s : State) (off : Nat) (w : W32) : kept (s.writeWord off w) = kept s := by
  unfold State.writeWord
  have hr : ∀ x, kept { s with regs := x } = kept s := kept_regs s
  exact kept_ite (kept_ite (Eq.refl _) (hr _)) (kept_ite (kept_ite (Eq.refl _) (hr _)) (kept_ite (kept_ite (Eq.refl _) (hr _))
    (kept_ite (kept_writeBootCtrl _ _) (kept_ite (kept_modPower _ _) (kept_ite (kept_ite (kept_faults _ _) (Eq.refl _))
      (kept_ite (kept_writeMsix _ _ _ _) (Eq.refl _)))))))

@[simp] theorem kept_setServoMode (s : State) (ext : Bool) : kept (State.setServoMode s ext) = kept s := by
  unfold State.setServoMode
  try dsimp only
  repeat' split
  all_goals simp [kept_mk, kept_pack, kept_foldl, apply_ite kept]

@[simp] theorem kept_adjustPhase (s : State) (phase : Int) : kept (s.adjustPhase phase) = kept s := by
  have h (o : Nat) : kept { s with time := { s.time with owed := o } } = kept s := rfl
  unfold State.adjustPhase
  split
  · exact kept_stepTime _ _
  · split
    · exact h _
    · exact kept_addPhase _ _

@[simp] theorem kept_pcOnPlane (pc : Postcard) (s : State) (plane : Nat) : kept (State.pcOnPlane pc s plane) = kept s := by
  unfold State.pcOnPlane
  try dsimp only
  repeat' split
  all_goals simp [kept_mk, kept_pack, kept_foldl, apply_ite kept]

@[simp] theorem kept_takePostcard (s : State) (pc : Postcard) : kept (State.takePostcard s pc) = kept s := by
  unfold State.takePostcard
  try dsimp only
  repeat' split
  all_goals simp [kept_mk, kept_pack, kept_foldl, apply_ite kept]

@[simp] theorem kept_hearPostcard (s : State) (pc : Postcard) : kept (State.hearPostcard s pc) = kept s := by
  unfold State.hearPostcard
  try dsimp only
  repeat' split
  all_goals simp [kept_mk, kept_pack, kept_foldl, apply_ite kept]

end Sys2Proof.Machine
end

