-- ==== Sys2Proof/Laws/KeptRows.lean ====
section
/-!
SUPPORT. Laws/KeptRows.lean: the commands that leave the queue, the variant, local memory and the trace and tag ledgers
as they are, one lemma each.
-/

set_option linter.unusedSimpArgs false
set_option linter.unusedVariables false

namespace Sys2Proof.Machine

/-- The next state, if there is one, keeps what `kept` names. -/
def Keeps (s : State) (o : Host.Outcome State Fault Refusal) : Prop := ∀ t, o = .next t → kept t = kept s

theorem keeps_next {s t : State} (h : kept t = kept s) : Keeps s (.next t) := by
  intro u hu; cases hu; exact h
theorem keeps_fault {s : State} (f : Fault) : Keeps s (.fault f) := by
  intro u hu; cases hu
theorem keeps_onUnit {b : Bool} {s t : State} (h : kept t = kept s) : Keeps s (onUnit b t) := by
  unfold onUnit
  split
  · exact keeps_next h
  · exact keeps_fault _
theorem keeps_checked {cs : List (Bool × Reject)} {ok : Unit → Verdict} {s : State} (h : (ok ()).keeps s) : (checked cs ok).keeps s := by
  unfold checked
  split
  · trivial
  · exact h
theorem keeps_accept {n s : State} {a : List Byte} {c : Option Nat} (h : kept n = kept s) : (accept n a c).keeps s := h
theorem keeps_acceptWait {n s : State} {a : List Byte} {c : Option Nat} (h : kept n = kept s) : (acceptWait n a c).keeps s := h
theorem keeps_acceptScheduled {n s : State} {a : List Byte} {c : Option Nat} (h : kept n = kept s) : (acceptScheduled n a c).keeps s := h
theorem keeps_acceptStaged {n s : State} {a : List Byte} {c : Option Nat} (h : kept n = kept s) : (acceptStaged n a c).keeps s := h
theorem keeps_accept' {n s : State} {st : Status} {a : List Byte} {c : Option Nat} {w : Bool} {k : Nat} (h : kept n = kept s) :
    (Verdict.accept st n a c w k).keeps s := h
theorem keeps_partFault {n s : State} {a : Nat} {b : W64} {c : Bool} (h : kept n = kept s) : (Verdict.partFault a b c n).keeps s := h
theorem keeps_reject {r : Reject} {s : State} : (Verdict.reject r).keeps s := trivial
theorem keeps_listError {a : W64} {s : State} : (Verdict.listError a).keeps s := trivial
theorem keeps_withList {α : Type} {l : ListArg α} {f : List α → Verdict} {s : State} (h : ∀ xs, (f xs).keeps s) : (withList l f).keeps s := by
  unfold withList
  split
  · exact h _
  · trivial
theorem keeps_storeWrite {α : Type} {s : State} {b : W32} {l : ListArg α} {body : List Byte} {w : State → Nat → List α → State}
    (h : ∀ s b ws, kept (w s b ws) = kept s) : (storeWrite s b l body w).keeps s := by
  unfold storeWrite
  dsimp only
  split
  · refine keeps_acceptStaged (kept_foldl _ _ _ fun s b => ?_)
    rw [h]; simp
  · refine keeps_partFault ?_
    split
    · rw [kept_foldl _ _ _ fun s b => kept_openPage _ _ _]; simp
    · simp

theorem keeps_withResult {c : Ctx} {a : W64} {bs : List Byte} {b : Bool} {s : State} {ok : State → Verdict}
    (h : ∀ u, kept u = kept s → (ok u).keeps s) : (withResult c a bs b s ok).keeps s := by
  unfold withResult
  split
  · exact h _ (by simp)
  · exact keeps_partFault rfl

theorem kept_pickClass_of {s t : State} {p : Nat} {x : Option Nat} (h : s.pickClass p = (t, x)) : kept t = kept s := by
  have := kept_pickClass s p
  rwa [h] at this

theorem keeps_execRegisterWrite (offset : BitVec 26) (wide : Bool) (value : W64) (s : State) : Keeps s (execRegisterWrite offset wide value s) := by
  unfold execRegisterWrite
  try unfold onPort onLink onEnvelope
  try dsimp only
  first
    | refine keeps_next ?_
    | refine keeps_onUnit ?_
    | (split <;> first | refine keeps_next ?_ | exact keeps_fault _)
  all_goals try dsimp only
  all_goals repeat' split
  all_goals try simp [kept_mk, kept_pack, kept_foldl, apply_ite kept]

theorem keeps_execTimNowLatch (wide : Bool) (s : State) : Keeps s (execTimNowLatch wide s) := by
  unfold execTimNowLatch
  refine keeps_next ?_
  split
  · exact kept_readAs _ _
  · dsimp only
    rw [kept_readAs]
    exact kept_time _ _

theorem keeps_execTimeCounterRead (which : TimeCounter) (s : State) : Keeps s (execTimeCounterRead which s) := by
  unfold execTimeCounterRead
  try unfold onPort onLink onEnvelope
  try dsimp only
  first
    | refine keeps_next ?_
    | refine keeps_onUnit ?_
    | (split <;> first | refine keeps_next ?_ | exact keeps_fault _)
  all_goals try dsimp only
  all_goals repeat' split
  all_goals try simp [kept_mk, kept_pack, kept_foldl, apply_ite kept]

theorem keeps_execResetCauseClear (value : W32) (s : State) : Keeps s (execResetCauseClear value s) := by
  unfold execResetCauseClear
  try unfold onPort onLink onEnvelope
  try dsimp only
  first
    | refine keeps_next ?_
    | refine keeps_onUnit ?_
    | (split <;> first | refine keeps_next ?_ | exact keeps_fault _)
  all_goals try dsimp only
  all_goals repeat' split
  all_goals try simp [kept_mk, kept_pack, kept_foldl, apply_ite kept]

theorem keeps_execLogFullClear (value : W32) (s : State) : Keeps s (execLogFullClear value s) := by
  unfold execLogFullClear
  try unfold onPort onLink onEnvelope
  try dsimp only
  first
    | refine keeps_next ?_
    | refine keeps_onUnit ?_
    | (split <;> first | refine keeps_next ?_ | exact keeps_fault _)
  all_goals try dsimp only
  all_goals repeat' split
  all_goals try simp [kept_mk, kept_pack, kept_foldl, apply_ite kept]

theorem keeps_execMsixTableWrite (entry : Fin 2048) (word : Fin 4) (value : W32) (s : State) : Keeps s (execMsixTableWrite entry word value s) := by
  unfold execMsixTableWrite
  try unfold onPort onLink onEnvelope
  try dsimp only
  first
    | refine keeps_next ?_
    | refine keeps_onUnit ?_
    | (split <;> first | refine keeps_next ?_ | exact keeps_fault _)
  all_goals try dsimp only
  all_goals repeat' split
  all_goals try simp [kept_mk, kept_pack, kept_foldl, apply_ite kept]

theorem keeps_execBootRingEnable (value : W32) (s : State) : Keeps s (execBootRingEnable value s) := by
  unfold execBootRingEnable
  try unfold onPort onLink onEnvelope
  try dsimp only
  first
    | refine keeps_next ?_
    | refine keeps_onUnit ?_
    | (split <;> first | refine keeps_next ?_ | exact keeps_fault _)
  all_goals try dsimp only
  all_goals repeat' split
  all_goals try simp [kept_mk, kept_pack, kept_foldl, apply_ite kept]

theorem keeps_execBootRingDisable (value : W32) (s : State) : Keeps s (execBootRingDisable value s) := by
  unfold execBootRingDisable
  try unfold onPort onLink onEnvelope
  try dsimp only
  first
    | refine keeps_next ?_
    | refine keeps_onUnit ?_
    | (split <;> first | refine keeps_next ?_ | exact keeps_fault _)
  all_goals try dsimp only
  all_goals repeat' split
  all_goals try simp [kept_mk, kept_pack, kept_foldl, apply_ite kept]

theorem keeps_execLetterDoorbell (sl : Fin 64) (r : Fin 8) (count : W32) (s : State) : Keeps s (execLetterDoorbell sl r count s) := by
  unfold execLetterDoorbell
  try unfold onPort onLink onEnvelope
  try dsimp only
  first
    | refine keeps_next ?_
    | refine keeps_onUnit ?_
    | (split <;> first | refine keeps_next ?_ | exact keeps_fault _)
  all_goals try dsimp only
  all_goals repeat' split
  all_goals try simp [kept_mk, kept_pack, kept_foldl, apply_ite kept]

theorem keeps_execReceiptDoorbell (sl : Fin 64) (r : Fin 8) (count : W32) (s : State) : Keeps s (execReceiptDoorbell sl r count s) := by
  unfold execReceiptDoorbell
  try unfold onPort onLink onEnvelope
  try dsimp only
  first
    | refine keeps_next ?_
    | refine keeps_onUnit ?_
    | (split <;> first | refine keeps_next ?_ | exact keeps_fault _)
  all_goals try dsimp only
  all_goals repeat' split
  all_goals try simp [kept_mk, kept_pack, kept_foldl, apply_ite kept]

theorem keeps_execEventDoorbell (sl : Fin 64) (count : W32) (s : State) : Keeps s (execEventDoorbell sl count s) := by
  unfold execEventDoorbell
  try unfold onPort onLink onEnvelope
  try dsimp only
  first
    | refine keeps_next ?_
    | refine keeps_onUnit ?_
    | (split <;> first | refine keeps_next ?_ | exact keeps_fault _)
  all_goals try dsimp only
  all_goals repeat' split
  all_goals try simp [kept_mk, kept_pack, kept_foldl, apply_ite kept]

theorem keeps_execPlaceDoorbell (channel : Fin 64) (count : W32) (s : State) : Keeps s (execPlaceDoorbell channel count s) := by
  unfold execPlaceDoorbell
  try unfold onPort onLink onEnvelope
  try dsimp only
  first
    | refine keeps_next ?_
    | refine keeps_onUnit ?_
    | (split <;> first | refine keeps_next ?_ | exact keeps_fault _)
  all_goals try dsimp only
  all_goals repeat' split
  all_goals try simp [kept_mk, kept_pack, kept_foldl, apply_ite kept]

theorem keeps_execConsumeDoorbell (channel : Fin 64) (count : W32) (s : State) : Keeps s (execConsumeDoorbell channel count s) := by
  unfold execConsumeDoorbell
  try unfold onPort onLink onEnvelope
  try dsimp only
  first
    | refine keeps_next ?_
    | refine keeps_onUnit ?_
    | (split <;> first | refine keeps_next ?_ | exact keeps_fault _)
  all_goals try dsimp only
  all_goals repeat' split
  all_goals try simp [kept_mk, kept_pack, kept_foldl, apply_ite kept]

theorem keeps_execLetterTake (pm : Pm) (sl : Fin 64) (src : TakeSource) (s : State) : Keeps s (execLetterTake pm sl src s) := by
  unfold execLetterTake
  try unfold onPort onLink onEnvelope
  try dsimp only
  first
    | refine keeps_next ?_
    | refine keeps_onUnit ?_
    | (split <;> first | refine keeps_next ?_ | exact keeps_fault _)
  all_goals try dsimp only
  all_goals repeat' split
  all_goals try simp [kept_mk, kept_pack, kept_foldl, apply_ite kept]

theorem keeps_execEffectStep (pm : Pm) (l : LetterId) (standbyAck : Bool) (s : State) : Keeps s (execEffectStep pm l standbyAck s) := by
  unfold execEffectStep
  try unfold onPort onLink onEnvelope
  try dsimp only
  first
    | refine keeps_next ?_
    | refine keeps_onUnit ?_
    | (split <;> first | refine keeps_next ?_ | exact keeps_fault _)
  all_goals try dsimp only
  all_goals repeat' split
  all_goals try simp [kept_mk, kept_pack, kept_foldl, apply_ite kept]

theorem keeps_execReceiptDeliveryConfirm (sl : Fin 64) (r : Fin 8) (s : State) : Keeps s (execReceiptDeliveryConfirm sl r s) := by
  unfold execReceiptDeliveryConfirm
  try unfold onPort onLink onEnvelope
  try dsimp only
  first
    | refine keeps_next ?_
    | refine keeps_onUnit ?_
    | (split <;> first | refine keeps_next ?_ | exact keeps_fault _)
  all_goals try dsimp only
  all_goals repeat' split
  all_goals try simp [kept_mk, kept_pack, kept_foldl, apply_ite kept]

theorem keeps_execEventWrite (sl : Fin 64) (busOk : Bool) (s : State) : Keeps s (execEventWrite sl busOk s) := by
  unfold execEventWrite
  try unfold onPort onLink onEnvelope
  try dsimp only
  first
    | refine keeps_next ?_
    | refine keeps_onUnit ?_
    | (split <;> first | refine keeps_next ?_ | exact keeps_fault _)
  all_goals try dsimp only
  all_goals repeat' split
  all_goals try simp [kept_mk, kept_pack, kept_foldl, apply_ite kept]

theorem keeps_execInbandDatagram (port : Fin 2) (d : Datagram) (s : State) : Keeps s (execInbandDatagram port d s) := by
  unfold execInbandDatagram
  try unfold onPort onLink onEnvelope
  try dsimp only
  first
    | refine keeps_next ?_
    | refine keeps_onUnit ?_
    | (split <;> first | refine keeps_next ?_ | exact keeps_fault _)
  all_goals try dsimp only
  all_goals repeat' split
  all_goals try simp [kept_mk, kept_pack, kept_foldl, apply_ite kept]

theorem keeps_execArpRequest (port : Fin 2) (target sender : BitVec 32) (senderMac : Mac) (s : State) : Keeps s (execArpRequest port target sender senderMac s) := by
  unfold execArpRequest
  try unfold onPort onLink onEnvelope
  try dsimp only
  first
    | refine keeps_next ?_
    | refine keeps_onUnit ?_
    | (split <;> first | refine keeps_next ?_ | exact keeps_fault _)
  all_goals try dsimp only
  all_goals repeat' split
  all_goals try simp [kept_mk, kept_pack, kept_foldl, apply_ite kept]

theorem keeps_execNeighbourSolicitation (port : Fin 2) (target sender : Ip) (senderMac : Mac) (s : State) : Keeps s (execNeighbourSolicitation port target sender senderMac s) := by
  unfold execNeighbourSolicitation
  try unfold onPort onLink onEnvelope
  try dsimp only
  first
    | refine keeps_next ?_
    | refine keeps_onUnit ?_
    | (split <;> first | refine keeps_next ?_ | exact keeps_fault _)
  all_goals try dsimp only
  all_goals repeat' split
  all_goals try simp [kept_mk, kept_pack, kept_foldl, apply_ite kept]

theorem keeps_execEchoRequest (port : Fin 2) (v6 : Bool) (dst src : Ip) (s : State) : Keeps s (execEchoRequest port v6 dst src s) := by
  unfold execEchoRequest
  try unfold onPort onLink onEnvelope
  try dsimp only
  first
    | refine keeps_next ?_
    | refine keeps_onUnit ?_
    | (split <;> first | refine keeps_next ?_ | exact keeps_fault _)
  all_goals try dsimp only
  all_goals repeat' split
  all_goals try simp [kept_mk, kept_pack, kept_foldl, apply_ite kept]

theorem keeps_execMgmtFrameOther (port : Fin 2) (s : State) : Keeps s (execMgmtFrameOther port s) := by
  unfold execMgmtFrameOther
  try unfold onPort onLink onEnvelope
  try dsimp only
  first
    | refine keeps_next ?_
    | refine keeps_onUnit ?_
    | (split <;> first | refine keeps_next ?_ | exact keeps_fault _)
  all_goals try dsimp only
  all_goals repeat' split
  all_goals try simp [kept_mk, kept_pack, kept_foldl, apply_ite kept]

theorem keeps_execResolutionRetry (port : Fin 2) (v6 : Bool) (addr : Ip) (s : State) : Keeps s (execResolutionRetry port v6 addr s) := by
  unfold execResolutionRetry
  try unfold onPort onLink onEnvelope
  try dsimp only
  first
    | refine keeps_next ?_
    | refine keeps_onUnit ?_
    | (split <;> first | refine keeps_next ?_ | exact keeps_fault _)
  all_goals try dsimp only
  all_goals repeat' split
  all_goals try simp [kept_mk, kept_pack, kept_foldl, apply_ite kept]

theorem keeps_execNeighbourExpiry (port : Fin 2) (v6 : Bool) (addr : Ip) (s : State) : Keeps s (execNeighbourExpiry port v6 addr s) := by
  unfold execNeighbourExpiry
  try unfold onPort onLink onEnvelope
  try dsimp only
  first
    | refine keeps_next ?_
    | refine keeps_onUnit ?_
    | (split <;> first | refine keeps_next ?_ | exact keeps_fault _)
  all_goals try dsimp only
  all_goals repeat' split
  all_goals try simp [kept_mk, kept_pack, kept_foldl, apply_ite kept]

theorem keeps_execModuleIdentify (l : LetterId) (s : State) : Keeps s (execModuleIdentify l s) := by
  unfold execModuleIdentify
  try dsimp only
  refine keeps_next (kept_runLetter fun c => ?_)
  repeat' (first | exact keeps_reject | exact keeps_listError | refine keeps_checked ?_ | refine keeps_withList fun xs => ?_ | refine keeps_accept ?_ | refine keeps_acceptWait ?_ | refine keeps_acceptScheduled ?_ | refine keeps_acceptStaged ?_ | refine keeps_accept' ?_ | refine keeps_partFault ?_ | (dsimp only) | split)
  all_goals try simp [kept_mk, kept_pack, kept_foldl, apply_ite kept]

theorem keeps_execModuleSetId (l : LetterId) (moduleId : W32) (s : State) : Keeps s (execModuleSetId l moduleId s) := by
  unfold execModuleSetId
  try dsimp only
  refine keeps_next (kept_runLetter fun c => ?_)
  repeat' (first | exact keeps_reject | exact keeps_listError | refine keeps_checked ?_ | refine keeps_withList fun xs => ?_ | refine keeps_accept ?_ | refine keeps_acceptWait ?_ | refine keeps_acceptScheduled ?_ | refine keeps_acceptStaged ?_ | refine keeps_accept' ?_ | refine keeps_partFault ?_ | (dsimp only) | split)
  all_goals try simp [kept_mk, kept_pack, kept_foldl, apply_ite kept]

theorem keeps_execModuleSetCompat (l : LetterId) (low high : W32) (s : State) : Keeps s (execModuleSetCompat l low high s) := by
  unfold execModuleSetCompat
  try dsimp only
  refine keeps_next (kept_runLetter fun c => ?_)
  repeat' (first | exact keeps_reject | exact keeps_listError | refine keeps_checked ?_ | refine keeps_withList fun xs => ?_ | refine keeps_accept ?_ | refine keeps_acceptWait ?_ | refine keeps_acceptScheduled ?_ | refine keeps_acceptStaged ?_ | refine keeps_accept' ?_ | refine keeps_partFault ?_ | (dsimp only) | split)
  all_goals try simp [kept_mk, kept_pack, kept_foldl, apply_ite kept]

theorem keeps_execModuleOpenRing (l : LetterId) (ring : W32) (letters receipts : W64) (depth : W32) (s : State) : Keeps s (execModuleOpenRing l ring letters receipts depth s) := by
  unfold execModuleOpenRing
  try dsimp only
  refine keeps_next (kept_runLetter fun c => ?_)
  repeat' (first | exact keeps_reject | exact keeps_listError | refine keeps_checked ?_ | refine keeps_withList fun xs => ?_ | refine keeps_accept ?_ | refine keeps_acceptWait ?_ | refine keeps_acceptScheduled ?_ | refine keeps_acceptStaged ?_ | refine keeps_accept' ?_ | refine keeps_partFault ?_ | (dsimp only) | split)
  all_goals try simp [kept_mk, kept_pack, kept_foldl, apply_ite kept]

theorem keeps_execModuleCloseRing (l : LetterId) (ring : W32) (s : State) : Keeps s (execModuleCloseRing l ring s) := by
  unfold execModuleCloseRing
  refine keeps_next ?_
  rw [apply_ite kept, kept_ringDrained, ite_self]
  refine kept_runLetter fun c => ?_
  refine keeps_checked ?_
  split
  · refine keeps_acceptWait ?_; simp
  · refine keeps_accept ?_; simp

theorem keeps_execModuleSetEventRing (l : LetterId) (events : W64) (depth : W32) (s : State) : Keeps s (execModuleSetEventRing l events depth s) := by
  unfold execModuleSetEventRing
  try dsimp only
  refine keeps_next (kept_runLetter fun c => ?_)
  repeat' (first | exact keeps_reject | exact keeps_listError | refine keeps_checked ?_ | refine keeps_withList fun xs => ?_ | refine keeps_accept ?_ | refine keeps_acceptWait ?_ | refine keeps_acceptScheduled ?_ | refine keeps_acceptStaged ?_ | refine keeps_accept' ?_ | refine keeps_partFault ?_ | (dsimp only) | split)
  all_goals try simp [kept_mk, kept_pack, kept_foldl, apply_ite kept]

theorem keeps_execModuleSaveSettings (l : LetterId) (s : State) : Keeps s (execModuleSaveSettings l s) := by
  unfold execModuleSaveSettings
  try dsimp only
  refine keeps_next (kept_runLetter fun c => ?_)
  repeat' (first | exact keeps_reject | exact keeps_listError | refine keeps_checked ?_ | refine keeps_withList fun xs => ?_ | refine keeps_accept ?_ | refine keeps_acceptWait ?_ | refine keeps_acceptScheduled ?_ | refine keeps_acceptStaged ?_ | refine keeps_accept' ?_ | refine keeps_partFault ?_ | (dsimp only) | split)
  all_goals try simp [kept_mk, kept_pack, kept_foldl, apply_ite kept]

theorem keeps_execSettingsSaveComplete (readBackOk : Bool) (s : State) : Keeps s (execSettingsSaveComplete readBackOk s) := by
  unfold execSettingsSaveComplete
  try unfold onPort
  try dsimp only
  first
    | refine keeps_next ?_
    | refine keeps_onUnit ?_
    | (split <;> first | refine keeps_next ?_ | exact keeps_fault _)
  all_goals try dsimp only
  all_goals repeat' split
  all_goals try simp [kept_mk, kept_pack, kept_foldl, apply_ite kept]
  all_goals first
    | exact kept_takeJob ‹_›
    | (rw [kept_takeJob ‹_›]; simp [kept_mk, kept_pack]; done)


theorem keeps_execModuleReset (l : LetterId) (kind : W32) (s : State) : Keeps s (execModuleReset l kind s) := by
  unfold execModuleReset
  try dsimp only
  refine keeps_next (kept_runLetter fun c => ?_)
  repeat' (first | exact keeps_reject | exact keeps_listError | refine keeps_checked ?_ | refine keeps_withList fun xs => ?_ | refine keeps_accept ?_ | refine keeps_acceptWait ?_ | refine keeps_acceptScheduled ?_ | refine keeps_acceptStaged ?_ | refine keeps_accept' ?_ | refine keeps_partFault ?_ | (dsimp only) | split)
  all_goals try simp [kept_mk, kept_pack, kept_foldl, apply_ite kept]

theorem keeps_execModuleSetMgmt (l : LetterId) (a : MgmtArgs) (s : State) : Keeps s (execModuleSetMgmt l a s) := by
  unfold execModuleSetMgmt
  try dsimp only
  refine keeps_next (kept_runLetter fun c => ?_)
  repeat' (first | exact keeps_reject | exact keeps_listError | refine keeps_checked ?_ | refine keeps_withList fun xs => ?_ | refine keeps_accept ?_ | refine keeps_acceptWait ?_ | refine keeps_acceptScheduled ?_ | refine keeps_acceptStaged ?_ | refine keeps_accept' ?_ | refine keeps_partFault ?_ | (dsimp only) | split)
  all_goals try simp [kept_mk, kept_pack, kept_foldl, apply_ite kept]

theorem keeps_execTimeSetSource (l : LetterId) (mode : W32) (sources : ListArg SourceItem) (wtr : W64) (s : State) : Keeps s (execTimeSetSource l mode sources wtr s) := by
  unfold execTimeSetSource
  try dsimp only
  refine keeps_next (kept_runLetter fun c => ?_)
  repeat' (first | exact keeps_reject | exact keeps_listError | refine keeps_checked ?_ | refine keeps_withList fun xs => ?_ | refine keeps_accept ?_ | refine keeps_acceptWait ?_ | refine keeps_acceptScheduled ?_ | refine keeps_acceptStaged ?_ | refine keeps_accept' ?_ | refine keeps_partFault ?_ | (dsimp only) | split)
  all_goals try simp [kept_mk, kept_pack, kept_foldl, apply_ite kept]

theorem keeps_execTimeAdjust (l : LetterId) (phase : W64) (freq : W32) (s : State) : Keeps s (execTimeAdjust l phase freq s) := by
  unfold execTimeAdjust
  try dsimp only
  refine keeps_next (kept_runLetter fun c => ?_)
  repeat' (first | exact keeps_reject | exact keeps_listError | refine keeps_checked ?_ | refine keeps_withList fun xs => ?_ | refine keeps_accept ?_ | refine keeps_acceptWait ?_ | refine keeps_acceptScheduled ?_ | refine keeps_acceptStaged ?_ | refine keeps_accept' ?_ | refine keeps_partFault ?_ | (dsimp only) | split)
  all_goals try simp [kept_mk, kept_pack, kept_foldl, apply_ite kept]

theorem keeps_execTimeSetQuality (l : LetterId) (state : W32) (error : W64) (s : State) : Keeps s (execTimeSetQuality l state error s) := by
  unfold execTimeSetQuality
  try dsimp only
  refine keeps_next (kept_runLetter fun c => ?_)
  repeat' (first | exact keeps_reject | exact keeps_listError | refine keeps_checked ?_ | refine keeps_withList fun xs => ?_ | refine keeps_accept ?_ | refine keeps_acceptWait ?_ | refine keeps_acceptScheduled ?_ | refine keeps_acceptStaged ?_ | refine keeps_accept' ?_ | refine keeps_partFault ?_ | (dsimp only) | split)
  all_goals try simp [kept_mk, kept_pack, kept_foldl, apply_ite kept]

theorem keeps_execTimeSetHoldover (l : LetterId) (rate : W32) (s : State) : Keeps s (execTimeSetHoldover l rate s) := by
  unfold execTimeSetHoldover
  try dsimp only
  refine keeps_next (kept_runLetter fun c => ?_)
  repeat' (first | exact keeps_reject | exact keeps_listError | refine keeps_checked ?_ | refine keeps_withList fun xs => ?_ | refine keeps_accept ?_ | refine keeps_acceptWait ?_ | refine keeps_acceptScheduled ?_ | refine keeps_acceptStaged ?_ | refine keeps_accept' ?_ | refine keeps_partFault ?_ | (dsimp only) | split)
  all_goals try simp [kept_mk, kept_pack, kept_foldl, apply_ite kept]

theorem keeps_execTimeSetPtp (l : LetterId) (port enable domain steps : W32) (s : State) : Keeps s (execTimeSetPtp l port enable domain steps s) := by
  unfold execTimeSetPtp
  try dsimp only
  refine keeps_next (kept_runLetter fun c => ?_)
  repeat' (first | exact keeps_reject | exact keeps_listError | refine keeps_checked ?_ | refine keeps_withList fun xs => ?_ | refine keeps_accept ?_ | refine keeps_acceptWait ?_ | refine keeps_acceptScheduled ?_ | refine keeps_acceptStaged ?_ | refine keeps_accept' ?_ | refine keeps_partFault ?_ | (dsimp only) | split)
  all_goals try simp [kept_mk, kept_pack, kept_foldl, apply_ite kept]

theorem keeps_execTimeRead (l : LetterId) (s : State) : Keeps s (execTimeRead l s) := by
  unfold execTimeRead
  try dsimp only
  refine keeps_next (kept_runLetter fun c => ?_)
  repeat' (first | exact keeps_reject | exact keeps_listError | refine keeps_checked ?_ | refine keeps_withList fun xs => ?_ | refine keeps_accept ?_ | refine keeps_acceptWait ?_ | refine keeps_acceptScheduled ?_ | refine keeps_acceptStaged ?_ | refine keeps_accept' ?_ | refine keeps_partFault ?_ | (dsimp only) | split)
  all_goals try simp [kept_mk, kept_pack, kept_foldl, apply_ite kept]

theorem keeps_execEpochOpen (l : LetterId) (n : W32) (s : State) : Keeps s (execEpochOpen l n s) := by
  unfold execEpochOpen
  try dsimp only
  refine keeps_next (kept_runLetter fun c => ?_)
  repeat' (first | exact keeps_reject | exact keeps_listError | refine keeps_checked ?_ | refine keeps_withList fun xs => ?_ | refine keeps_accept ?_ | refine keeps_acceptWait ?_ | refine keeps_acceptScheduled ?_ | refine keeps_acceptStaged ?_ | refine keeps_accept' ?_ | refine keeps_partFault ?_ | (dsimp only) | split)
  all_goals try simp [kept_mk, kept_pack, kept_foldl, apply_ite kept]

theorem keeps_execEpochCommit (l : LetterId) (n count : W32) (t : TimeParam) (spacing : W64) (s : State) : Keeps s (execEpochCommit l n count t spacing s) := by
  unfold execEpochCommit
  try dsimp only
  refine keeps_next (kept_runLetter fun c => ?_)
  repeat' (first | exact keeps_reject | exact keeps_listError | refine keeps_checked ?_ | refine keeps_withList fun xs => ?_ | refine keeps_accept ?_ | refine keeps_acceptWait ?_ | refine keeps_acceptScheduled ?_ | refine keeps_acceptStaged ?_ | refine keeps_accept' ?_ | refine keeps_partFault ?_ | (dsimp only) | split)
  all_goals try simp [kept_mk, kept_pack, kept_foldl, apply_ite kept]

theorem keeps_execEpochAbort (l : LetterId) (n : W32) (s : State) : Keeps s (execEpochAbort l n s) := by
  unfold execEpochAbort
  try dsimp only
  refine keeps_next (kept_runLetter fun c => ?_)
  repeat' (first | exact keeps_reject | exact keeps_listError | refine keeps_checked ?_ | refine keeps_withList fun xs => ?_ | refine keeps_accept ?_ | refine keeps_acceptWait ?_ | refine keeps_acceptScheduled ?_ | refine keeps_acceptStaged ?_ | refine keeps_accept' ?_ | refine keeps_partFault ?_ | (dsimp only) | split)
  all_goals try simp [kept_mk, kept_pack, kept_foldl, apply_ite kept]

theorem keeps_execEpochCancel (l : LetterId) (n : W32) (s : State) : Keeps s (execEpochCancel l n s) := by
  unfold execEpochCancel
  try dsimp only
  refine keeps_next (kept_runLetter fun c => ?_)
  repeat' (first | exact keeps_reject | exact keeps_listError | refine keeps_checked ?_ | refine keeps_withList fun xs => ?_ | refine keeps_accept ?_ | refine keeps_acceptWait ?_ | refine keeps_acceptScheduled ?_ | refine keeps_acceptStaged ?_ | refine keeps_accept' ?_ | refine keeps_partFault ?_ | (dsimp only) | split)
  all_goals try simp [kept_mk, kept_pack, kept_foldl, apply_ite kept]

theorem keeps_execEpochStatus (l : LetterId) (s : State) : Keeps s (execEpochStatus l s) := by
  unfold execEpochStatus
  try dsimp only
  refine keeps_next (kept_runLetter fun c => ?_)
  repeat' (first | exact keeps_reject | exact keeps_listError | refine keeps_checked ?_ | refine keeps_withList fun xs => ?_ | refine keeps_accept ?_ | refine keeps_acceptWait ?_ | refine keeps_acceptScheduled ?_ | refine keeps_acceptStaged ?_ | refine keeps_accept' ?_ | refine keeps_partFault ?_ | (dsimp only) | split)
  all_goals try simp [kept_mk, kept_pack, kept_foldl, apply_ite kept]

theorem keeps_execEpochSwitch (s : State) : Keeps s (execEpochSwitch s) := by
  unfold execEpochSwitch
  try unfold onPort onLink onEnvelope
  try dsimp only
  first
    | refine keeps_next ?_
    | refine keeps_onUnit ?_
    | (split <;> first | refine keeps_next ?_ | exact keeps_fault _)
  all_goals try dsimp only
  all_goals repeat' split
  all_goals try simp [kept_mk, kept_pack, kept_foldl, apply_ite kept]

theorem keeps_execDeferredSwitch (page : PageRef) (s : State) : Keeps s (execDeferredSwitch page s) := by
  unfold execDeferredSwitch
  try unfold onPort onLink onEnvelope
  try dsimp only
  first
    | refine keeps_next ?_
    | refine keeps_onUnit ?_
    | (split <;> first | refine keeps_next ?_ | exact keeps_fault _)
  all_goals try dsimp only
  all_goals repeat' split
  all_goals try simp [kept_mk, kept_pack, kept_foldl, apply_ite kept]

theorem keeps_execEpochRelease (s : State) : Keeps s (execEpochRelease s) := by
  unfold execEpochRelease
  try unfold onPort onLink onEnvelope
  try dsimp only
  first
    | refine keeps_next ?_
    | refine keeps_onUnit ?_
    | (split <;> first | refine keeps_next ?_ | exact keeps_fault _)
  all_goals try dsimp only
  all_goals repeat' split
  all_goals try simp [kept_mk, kept_pack, kept_foldl, apply_ite kept]

theorem keeps_execSubepochSwitch (s : State) : Keeps s (execSubepochSwitch s) := by
  unfold execSubepochSwitch
  try unfold onPort onLink onEnvelope
  try dsimp only
  first
    | refine keeps_next ?_
    | refine keeps_onUnit ?_
    | (split <;> first | refine keeps_next ?_ | exact keeps_fault _)
  all_goals try dsimp only
  all_goals repeat' split
  all_goals try simp [kept_mk, kept_pack, kept_foldl, apply_ite kept]

theorem keeps_execSequencedListFetch (data : Option (List TableRecord)) (s : State) : Keeps s (execSequencedListFetch data s) := by
  unfold execSequencedListFetch
  try unfold onPort onLink onEnvelope
  try dsimp only
  first
    | refine keeps_next ?_
    | refine keeps_onUnit ?_
    | (split <;> first | refine keeps_next ?_ | exact keeps_fault _)
  all_goals try dsimp only
  all_goals repeat' split
  all_goals try simp [kept_mk, kept_pack, kept_foldl, apply_ite kept]

theorem keeps_execPostcardSend (s : State) : Keeps s (execPostcardSend s) := by
  unfold execPostcardSend
  try unfold onPort onLink onEnvelope
  try dsimp only
  first
    | refine keeps_next ?_
    | refine keeps_onUnit ?_
    | (split <;> first | refine keeps_next ?_ | exact keeps_fault _)
  all_goals try dsimp only
  all_goals repeat' split
  all_goals try simp [kept_mk, kept_pack, kept_foldl, apply_ite kept]

theorem keeps_execPostcardReceive (link : Fin 256) (cell : List Byte) (fecOk : Bool) (s : State) : Keeps s (execPostcardReceive link cell fecOk s) := by
  unfold execPostcardReceive
  try unfold onPort onLink onEnvelope
  try dsimp only
  first
    | refine keeps_next ?_
    | refine keeps_onUnit ?_
    | (split <;> first | refine keeps_next ?_ | exact keeps_fault _)
  all_goals try dsimp only
  all_goals repeat' split
  all_goals try simp [kept_mk, kept_pack, kept_foldl, apply_ite kept]

theorem keeps_execPeerAbsent (peer : Fin 128) (s : State) : Keeps s (execPeerAbsent peer s) := by
  unfold execPeerAbsent
  try unfold onPort onLink onEnvelope
  try dsimp only
  first
    | refine keeps_next ?_
    | refine keeps_onUnit ?_
    | (split <;> first | refine keeps_next ?_ | exact keeps_fault _)
  all_goals try dsimp only
  all_goals repeat' split
  all_goals try simp [kept_mk, kept_pack, kept_foldl, apply_ite kept]

theorem keeps_execReachMismatchTimer (peer : Fin 128) (s : State) : Keeps s (execReachMismatchTimer peer s) := by
  unfold execReachMismatchTimer
  try unfold onPort onLink onEnvelope
  try dsimp only
  first
    | refine keeps_next ?_
    | refine keeps_onUnit ?_
    | (split <;> first | refine keeps_next ?_ | exact keeps_fault _)
  all_goals try dsimp only
  all_goals repeat' split
  all_goals try simp [kept_mk, kept_pack, kept_foldl, apply_ite kept]

theorem keeps_execPpsInEdge (s : State) : Keeps s (execPpsInEdge s) := by
  unfold execPpsInEdge
  try unfold onPort onLink onEnvelope
  try dsimp only
  first
    | refine keeps_next ?_
    | refine keeps_onUnit ?_
    | (split <;> first | refine keeps_next ?_ | exact keeps_fault _)
  all_goals try dsimp only
  all_goals repeat' split
  all_goals try simp [kept_mk, kept_pack, kept_foldl, apply_ite kept]

theorem keeps_execTodMessageRx (bytes : List Byte) (s : State) : Keeps s (execTodMessageRx bytes s) := by
  unfold execTodMessageRx
  try unfold onPort onLink onEnvelope
  try dsimp only
  first
    | refine keeps_next ?_
    | refine keeps_onUnit ?_
    | (split <;> first | refine keeps_next ?_ | exact keeps_fault _)
  all_goals try dsimp only
  all_goals repeat' split
  all_goals try simp [kept_mk, kept_pack, kept_foldl, apply_ite kept]

theorem keeps_execTodMissingExpiry (s : State) : Keeps s (execTodMissingExpiry s) := by
  unfold execTodMissingExpiry
  try unfold onPort onLink onEnvelope
  try dsimp only
  first
    | refine keeps_next ?_
    | refine keeps_onUnit ?_
    | (split <;> first | refine keeps_next ?_ | exact keeps_fault _)
  all_goals try dsimp only
  all_goals repeat' split
  all_goals try simp [kept_mk, kept_pack, kept_foldl, apply_ite kept]

theorem keeps_execSourceWtrExpiry (source : Fin 4) (s : State) : Keeps s (execSourceWtrExpiry source s) := by
  unfold execSourceWtrExpiry
  try unfold onPort onLink onEnvelope
  try dsimp only
  first
    | refine keeps_next ?_
    | refine keeps_onUnit ?_
    | (split <;> first | refine keeps_next ?_ | exact keeps_fault _)
  all_goals try dsimp only
  all_goals repeat' split
  all_goals try simp [kept_mk, kept_pack, kept_foldl, apply_ite kept]

theorem keeps_execPtpEventMessage (port : Fin 194) (kind : PtpKind) (received : Bool) (_correction : BitVec 64) (s : State) : Keeps s (execPtpEventMessage port kind received _correction s) := by
  unfold execPtpEventMessage
  try unfold onPort onLink onEnvelope
  try dsimp only
  first
    | refine keeps_next ?_
    | refine keeps_onUnit ?_
    | (split <;> first | refine keeps_next ?_ | exact keeps_fault _)
  all_goals try dsimp only
  all_goals repeat' split
  all_goals try simp [kept_mk, kept_pack, kept_foldl, apply_ite kept]

theorem keeps_execServoOffsetMeasure (offset : Int) (filtered : Nat) (s : State) : Keeps s (execServoOffsetMeasure offset filtered s) := by
  unfold execServoOffsetMeasure
  try unfold onPort onLink onEnvelope
  try dsimp only
  first
    | refine keeps_next ?_
    | refine keeps_onUnit ?_
    | (split <;> first | refine keeps_next ?_ | exact keeps_fault _)
  all_goals try dsimp only
  all_goals repeat' split
  all_goals try simp [kept_mk, kept_pack, kept_foldl, apply_ite kept]

theorem keeps_execServoLockTimer (s : State) : Keeps s (execServoLockTimer s) := by
  unfold execServoLockTimer
  try unfold onPort onLink onEnvelope
  try dsimp only
  first
    | refine keeps_next ?_
    | refine keeps_onUnit ?_
    | (split <;> first | refine keeps_next ?_ | exact keeps_fault _)
  all_goals try dsimp only
  all_goals repeat' split
  all_goals try simp [kept_mk, kept_pack, kept_foldl, apply_ite kept]

theorem keeps_execEsmcPdu (port : Fin 192) (pdu : List Byte) (s : State) : Keeps s (execEsmcPdu port pdu s) := by
  unfold execEsmcPdu
  try unfold onPort onLink onEnvelope
  try dsimp only
  first
    | refine keeps_next ?_
    | refine keeps_onUnit ?_
    | (split <;> first | refine keeps_next ?_ | exact keeps_fault _)
  all_goals try dsimp only
  all_goals repeat' split
  all_goals try simp [kept_mk, kept_pack, kept_foldl, apply_ite kept]

theorem keeps_execPpsOutSecond (s : State) : Keeps s (execPpsOutSecond s) := by
  unfold execPpsOutSecond
  try unfold onPort onLink onEnvelope
  try dsimp only
  first
    | refine keeps_next ?_
    | refine keeps_onUnit ?_
    | (split <;> first | refine keeps_next ?_ | exact keeps_fault _)
  all_goals try dsimp only
  all_goals repeat' split
  all_goals try simp [kept_mk, kept_pack, kept_foldl, apply_ite kept]

theorem keeps_execTodTransmit (s : State) : Keeps s (execTodTransmit s) := by
  unfold execTodTransmit
  try unfold onPort onLink onEnvelope
  try dsimp only
  first
    | refine keeps_next ?_
    | refine keeps_onUnit ?_
    | (split <;> first | refine keeps_next ?_ | exact keeps_fault _)
  all_goals try dsimp only
  all_goals repeat' split
  all_goals try simp [kept_mk, kept_pack, kept_foldl, apply_ite kept]

theorem keeps_execFlitReceive (link : Fin 4) (toDepot : Bool) (crcOk : Bool) (s : State) : Keeps s (execFlitReceive link toDepot crcOk s) := by
  unfold execFlitReceive
  try unfold onPort onLink onEnvelope
  try dsimp only
  first
    | refine keeps_next ?_
    | refine keeps_onUnit ?_
    | (split <;> first | refine keeps_next ?_ | exact keeps_fault _)
  all_goals try dsimp only
  all_goals repeat' split
  all_goals try simp [kept_mk, kept_pack, kept_foldl, apply_ite kept]

theorem keeps_execD2dLockLoss (link : Fin 4) (s : State) : Keeps s (execD2dLockLoss link s) := by
  unfold execD2dLockLoss
  try unfold onPort onLink onEnvelope
  try dsimp only
  first
    | refine keeps_next ?_
    | refine keeps_onUnit ?_
    | (split <;> first | refine keeps_next ?_ | exact keeps_fault _)
  all_goals try dsimp only
  all_goals repeat' split
  all_goals try simp [kept_mk, kept_pack, kept_foldl, apply_ite kept]

theorem keeps_execD2dRetrain (link : Fin 4) (locked : Bool) (s : State) : Keeps s (execD2dRetrain link locked s) := by
  unfold execD2dRetrain
  try unfold onPort onLink onEnvelope
  try dsimp only
  first
    | refine keeps_next ?_
    | refine keeps_onUnit ?_
    | (split <;> first | refine keeps_next ?_ | exact keeps_fault _)
  all_goals try dsimp only
  all_goals repeat' split
  all_goals try simp [kept_mk, kept_pack, kept_foldl, apply_ite kept]

theorem keeps_execFrameReceive (port : Fin 192) (data : List Byte) (fcsOk fecOk : Bool) (codewords : List Codeword) (s : State) : Keeps s (execFrameReceive port data fcsOk fecOk codewords s) := by
  unfold execFrameReceive
  try unfold onPort onLink onEnvelope
  try dsimp only
  first
    | refine keeps_next ?_
    | refine keeps_onUnit ?_
    | (split <;> first | refine keeps_next ?_ | exact keeps_fault _)
  all_goals try dsimp only
  all_goals repeat' split
  all_goals try simp [kept_mk, kept_pack, kept_foldl, apply_ite kept]

theorem keeps_execFrameTransmit (port : Fin 192) (s : State) : Keeps s (execFrameTransmit port s) := by
  unfold execFrameTransmit
  try unfold onPort onLink onEnvelope
  try dsimp only
  first
    | refine keeps_next ?_
    | refine keeps_onUnit ?_
    | (split <;> first | refine keeps_next ?_ | exact keeps_fault _)
  all_goals try dsimp only
  all_goals repeat' split
  all_goals try simp [kept_mk, kept_pack, kept_foldl, apply_ite kept]

theorem keeps_execPauseReceive (port : Fin 192) (pfc : Bool) (classes : BitVec 8) (quanta : BitVec 128) (s : State) : Keeps s (execPauseReceive port pfc classes quanta s) := by
  unfold execPauseReceive
  try unfold onPort onLink onEnvelope
  try dsimp only
  first
    | refine keeps_next ?_
    | refine keeps_onUnit ?_
    | (split <;> first | refine keeps_next ?_ | exact keeps_fault _)
  all_goals try dsimp only
  all_goals repeat' split
  all_goals try simp [kept_mk, kept_pack, kept_foldl, apply_ite kept]

theorem keeps_execPauseExpiry (port : Fin 192) (cls : Option (Fin 8)) (s : State) : Keeps s (execPauseExpiry port cls s) := by
  unfold execPauseExpiry
  try unfold onPort onLink onEnvelope
  try dsimp only
  first
    | refine keeps_next ?_
    | refine keeps_onUnit ?_
    | (split <;> first | refine keeps_next ?_ | exact keeps_fault _)
  all_goals try dsimp only
  all_goals repeat' split
  all_goals try simp [kept_mk, kept_pack, kept_foldl, apply_ite kept]

theorem keeps_execTrainingComplete (port : Fin 192) (s : State) : Keeps s (execTrainingComplete port s) := by
  unfold execTrainingComplete
  try unfold onPort onLink onEnvelope
  try dsimp only
  first
    | refine keeps_next ?_
    | refine keeps_onUnit ?_
    | (split <;> first | refine keeps_next ?_ | exact keeps_fault _)
  all_goals try dsimp only
  all_goals repeat' split
  all_goals try simp [kept_mk, kept_pack, kept_foldl, apply_ite kept]

theorem keeps_execTrainingTimeout (port : Fin 192) (s : State) : Keeps s (execTrainingTimeout port s) := by
  unfold execTrainingTimeout
  try unfold onPort onLink onEnvelope
  try dsimp only
  first
    | refine keeps_next ?_
    | refine keeps_onUnit ?_
    | (split <;> first | refine keeps_next ?_ | exact keeps_fault _)
  all_goals try dsimp only
  all_goals repeat' split
  all_goals try simp [kept_mk, kept_pack, kept_foldl, apply_ite kept]

theorem keeps_execAlignmentAchieved (port : Fin 192) (s : State) : Keeps s (execAlignmentAchieved port s) := by
  unfold execAlignmentAchieved
  try unfold onPort onLink onEnvelope
  try dsimp only
  first
    | refine keeps_next ?_
    | refine keeps_onUnit ?_
    | (split <;> first | refine keeps_next ?_ | exact keeps_fault _)
  all_goals try dsimp only
  all_goals repeat' split
  all_goals try simp [kept_mk, kept_pack, kept_foldl, apply_ite kept]

theorem keeps_execPortFault (port : Fin 192) (cause : PortFaultCause) (s : State) : Keeps s (execPortFault port cause s) := by
  unfold execPortFault
  try unfold onPort onLink onEnvelope
  try dsimp only
  first
    | refine keeps_next ?_
    | refine keeps_onUnit ?_
    | (split <;> first | refine keeps_next ?_ | exact keeps_fault _)
  all_goals try dsimp only
  all_goals repeat' split
  all_goals try simp [kept_mk, kept_pack, kept_foldl, apply_ite kept]

theorem keeps_execPortFaultClear (port : Fin 192) (cause : PortFaultCause) (s : State) : Keeps s (execPortFaultClear port cause s) := by
  unfold execPortFaultClear
  try unfold onPort onLink onEnvelope
  try dsimp only
  first
    | refine keeps_next ?_
    | refine keeps_onUnit ?_
    | (split <;> first | refine keeps_next ?_ | exact keeps_fault _)
  all_goals try dsimp only
  all_goals repeat' split
  all_goals try simp [kept_mk, kept_pack, kept_foldl, apply_ite kept]

theorem keeps_execDownDebounceExpiry (port : Fin 192) (s : State) : Keeps s (execDownDebounceExpiry port s) := by
  unfold execDownDebounceExpiry
  try unfold onPort onLink onEnvelope
  try dsimp only
  first
    | refine keeps_next ?_
    | refine keeps_onUnit ?_
    | (split <;> first | refine keeps_next ?_ | exact keeps_fault _)
  all_goals try dsimp only
  all_goals repeat' split
  all_goals try simp [kept_mk, kept_pack, kept_foldl, apply_ite kept]

theorem keeps_execUpHoldoffExpiry (port : Fin 192) (s : State) : Keeps s (execUpHoldoffExpiry port s) := by
  unfold execUpHoldoffExpiry
  try unfold onPort onLink onEnvelope
  try dsimp only
  first
    | refine keeps_next ?_
    | refine keeps_onUnit ?_
    | (split <;> first | refine keeps_next ?_ | exact keeps_fault _)
  all_goals try dsimp only
  all_goals repeat' split
  all_goals try simp [kept_mk, kept_pack, kept_foldl, apply_ite kept]

theorem keeps_execFecDegradeTimer (port : Fin 192) (above : Bool) (s : State) : Keeps s (execFecDegradeTimer port above s) := by
  unfold execFecDegradeTimer
  try unfold onPort onLink onEnvelope
  try dsimp only
  first
    | refine keeps_next ?_
    | refine keeps_onUnit ?_
    | (split <;> first | refine keeps_next ?_ | exact keeps_fault _)
  all_goals try dsimp only
  all_goals repeat' split
  all_goals try simp [kept_mk, kept_pack, kept_foldl, apply_ite kept]

theorem keeps_execPortDisableComplete (port : Fin 192) (s : State) : Keeps s (execPortDisableComplete port s) := by
  unfold execPortDisableComplete
  try unfold onPort onLink onEnvelope
  try dsimp only
  first
    | refine keeps_next ?_
    | refine keeps_onUnit ?_
    | (split <;> first | refine keeps_next ?_ | exact keeps_fault _)
  all_goals try dsimp only
  all_goals repeat' split
  all_goals try simp [kept_mk, kept_pack, kept_foldl, apply_ite kept]

theorem keeps_execFlexeOhFrame (fgroup : Fin 12) (group : Fin 4) (crcOk ccc : Bool) (clients : List (BitVec 16)) (s : State) : Keeps s (execFlexeOhFrame fgroup group crcOk ccc clients s) := by
  unfold execFlexeOhFrame
  try unfold onPort onLink onEnvelope
  try dsimp only
  first
    | refine keeps_next ?_
    | refine keeps_onUnit ?_
    | (split <;> first | refine keeps_next ?_ | exact keeps_fault _)
  all_goals try dsimp only
  all_goals repeat' split
  all_goals try simp [kept_mk, kept_pack, kept_foldl, apply_ite kept]

theorem keeps_execFlexeCaReceive (fgroup : Fin 12) (group : Fin 4) (s : State) : Keeps s (execFlexeCaReceive fgroup group s) := by
  unfold execFlexeCaReceive
  try unfold onPort onLink onEnvelope
  try dsimp only
  first
    | refine keeps_next ?_
    | refine keeps_onUnit ?_
    | (split <;> first | refine keeps_next ?_ | exact keeps_fault _)
  all_goals try dsimp only
  all_goals repeat' split
  all_goals try simp [kept_mk, kept_pack, kept_foldl, apply_ite kept]

theorem keeps_execCalendarSwitch (fgroup : Fin 12) (group : Fin 4) (s : State) : Keeps s (execCalendarSwitch fgroup group s) := by
  unfold execCalendarSwitch
  try unfold onPort onLink onEnvelope
  try dsimp only
  first
    | refine keeps_next ?_
    | refine keeps_onUnit ?_
    | (split <;> first | refine keeps_next ?_ | exact keeps_fault _)
  all_goals try dsimp only
  all_goals repeat' split
  all_goals try simp [kept_mk, kept_pack, kept_foldl, apply_ite kept]

theorem keeps_execFlexeDeskewFail (fgroup : Fin 12) (group : Fin 4) (s : State) : Keeps s (execFlexeDeskewFail fgroup group s) := by
  unfold execFlexeDeskewFail
  try unfold onPort onLink onEnvelope
  try dsimp only
  first
    | refine keeps_next ?_
    | refine keeps_onUnit ?_
    | (split <;> first | refine keeps_next ?_ | exact keeps_fault _)
  all_goals try dsimp only
  all_goals repeat' split
  all_goals try simp [kept_mk, kept_pack, kept_foldl, apply_ite kept]

theorem keeps_execFramePatternCheck (fgroup : Fin 12) (iface : Fin 2) (layer : AlignLayer) (correct : Bool) (errors : OtnErrors) (s : State) : Keeps s (execFramePatternCheck fgroup iface layer correct errors s) := by
  unfold execFramePatternCheck
  try unfold onPort onLink onEnvelope
  try dsimp only
  first
    | refine keeps_next ?_
    | refine keeps_onUnit ?_
    | (split <;> first | refine keeps_next ?_ | exact keeps_fault _)
  all_goals try dsimp only
  all_goals repeat' split
  all_goals try simp [kept_mk, kept_pack, kept_foldl, apply_ite kept]

theorem keeps_execLofDeclare (fgroup : Fin 12) (iface : Fin 2) (layer : AlignLayer) (s : State) : Keeps s (execLofDeclare fgroup iface layer s) := by
  unfold execLofDeclare
  try unfold onPort onLink onEnvelope
  try dsimp only
  first
    | refine keeps_next ?_
    | refine keeps_onUnit ?_
    | (split <;> first | refine keeps_next ?_ | exact keeps_fault _)
  all_goals try dsimp only
  all_goals repeat' split
  all_goals try simp [kept_mk, kept_pack, kept_foldl, apply_ite kept]

theorem keeps_execLofClear (fgroup : Fin 12) (iface : Fin 2) (layer : AlignLayer) (s : State) : Keeps s (execLofClear fgroup iface layer s) := by
  unfold execLofClear
  try unfold onPort onLink onEnvelope
  try dsimp only
  first
    | refine keeps_next ?_
    | refine keeps_onUnit ?_
    | (split <;> first | refine keeps_next ?_ | exact keeps_fault _)
  all_goals try dsimp only
  all_goals repeat' split
  all_goals try simp [kept_mk, kept_pack, kept_foldl, apply_ite kept]

theorem keeps_execOtnDefect (fgroup : Fin 12) (iface : Fin 2) (defect : OtnDefect) (present : Bool) (s : State) : Keeps s (execOtnDefect fgroup iface defect present s) := by
  unfold execOtnDefect
  try unfold onPort onLink onEnvelope
  try dsimp only
  first
    | refine keeps_next ?_
    | refine keeps_onUnit ?_
    | (split <;> first | refine keeps_next ?_ | exact keeps_fault _)
  all_goals try dsimp only
  all_goals repeat' split
  all_goals try simp [kept_mk, kept_pack, kept_foldl, apply_ite kept]

theorem keeps_execGmpJcReceive (fgroup : Fin 12) (trib : BitVec 16) (crcOk : Bool) (cm : BitVec 16) (s : State) : Keeps s (execGmpJcReceive fgroup trib crcOk cm s) := by
  unfold execGmpJcReceive
  try unfold onPort onLink onEnvelope
  try dsimp only
  first
    | refine keeps_next ?_
    | refine keeps_onUnit ?_
    | (split <;> first | refine keeps_next ?_ | exact keeps_fault _)
  all_goals try dsimp only
  all_goals repeat' split
  all_goals try simp [kept_mk, kept_pack, kept_foldl, apply_ite kept]

theorem keeps_execGmpMultiframeTx (fgroup : Fin 12) (trib : BitVec 16) (fill : BitVec 16) (s : State) : Keeps s (execGmpMultiframeTx fgroup trib fill s) := by
  unfold execGmpMultiframeTx
  try unfold onPort onLink onEnvelope
  try dsimp only
  first
    | refine keeps_next ?_
    | refine keeps_onUnit ?_
    | (split <;> first | refine keeps_next ?_ | exact keeps_fault _)
  all_goals try dsimp only
  all_goals repeat' split
  all_goals try simp [kept_mk, kept_pack, kept_foldl, apply_ite kept]

theorem keeps_execTsPageSwitch (fgroup : Fin 12) (s : State) : Keeps s (execTsPageSwitch fgroup s) := by
  unfold execTsPageSwitch
  try unfold onPort onLink onEnvelope
  try dsimp only
  first
    | refine keeps_next ?_
    | refine keeps_onUnit ?_
    | (split <;> first | refine keeps_next ?_ | exact keeps_fault _)
  all_goals try dsimp only
  all_goals repeat' split
  all_goals try simp [kept_mk, kept_pack, kept_foldl, apply_ite kept]

theorem keeps_execOhRxFrame (channel : BitVec 12) (bytes : List Byte) (s : State) : Keeps s (execOhRxFrame channel bytes s) := by
  unfold execOhRxFrame
  try unfold onPort onLink onEnvelope
  try dsimp only
  first
    | refine keeps_next ?_
    | refine keeps_onUnit ?_
    | (split <;> first | refine keeps_next ?_ | exact keeps_fault _)
  all_goals try dsimp only
  all_goals repeat' split
  all_goals try simp [kept_mk, kept_pack, kept_foldl, apply_ite kept]

theorem keeps_execOhRecordDeliver (channel : BitVec 12) (s : State) : Keeps s (execOhRecordDeliver channel s) := by
  unfold execOhRecordDeliver
  try unfold onPort onLink onEnvelope
  try dsimp only
  first
    | refine keeps_next ?_
    | refine keeps_onUnit ?_
    | (split <;> first | refine keeps_next ?_ | exact keeps_fault _)
  all_goals try dsimp only
  all_goals repeat' split
  all_goals try simp [kept_mk, kept_pack, kept_foldl, apply_ite kept]

theorem keeps_execOhTxFrame (channel : BitVec 12) (s : State) : Keeps s (execOhTxFrame channel s) := by
  unfold execOhTxFrame
  try unfold onPort onLink onEnvelope
  try dsimp only
  first
    | refine keeps_next ?_
    | refine keeps_onUnit ?_
    | (split <;> first | refine keeps_next ?_ | exact keeps_fault _)
  all_goals try dsimp only
  all_goals repeat' split
  all_goals try simp [kept_mk, kept_pack, kept_foldl, apply_ite kept]

theorem keeps_execOhTxWrite (channel : BitVec 12) (frames : List (List Byte)) (s : State) : Keeps s (execOhTxWrite channel frames s) := by
  unfold execOhTxWrite
  try unfold onPort onLink onEnvelope
  try dsimp only
  first
    | refine keeps_next ?_
    | refine keeps_onUnit ?_
    | (split <;> first | refine keeps_next ?_ | exact keeps_fault _)
  all_goals try dsimp only
  all_goals repeat' split
  all_goals try simp [kept_mk, kept_pack, kept_foldl, apply_ite kept]

theorem keeps_execEnvelopeDisableBoundary (fgroup : Fin 12) (otu : Bool) (index : Fin 4) (s : State) : Keeps s (execEnvelopeDisableBoundary fgroup otu index s) := by
  unfold execEnvelopeDisableBoundary
  try unfold onPort onLink onEnvelope
  try dsimp only
  first
    | refine keeps_next ?_
    | refine keeps_onUnit ?_
    | (split <;> first | refine keeps_next ?_ | exact keeps_fault _)
  all_goals try dsimp only
  all_goals repeat' split
  all_goals try simp [kept_mk, kept_pack, kept_foldl, apply_ite kept]

theorem keeps_execPortConfigure (l : LetterId) (a : PortArgs) (s : State) : Keeps s (execPortConfigure l a s) := by
  unfold execPortConfigure
  try dsimp only
  refine keeps_next (kept_runLetter fun c => ?_)
  repeat' (first | exact keeps_reject | exact keeps_listError | refine keeps_checked ?_ | refine keeps_withList fun xs => ?_ | refine keeps_accept ?_ | refine keeps_acceptWait ?_ | refine keeps_acceptScheduled ?_ | refine keeps_acceptStaged ?_ | refine keeps_accept' ?_ | refine keeps_partFault ?_ | (dsimp only) | split)
  all_goals try simp [kept_mk, kept_pack, kept_foldl, apply_ite kept]

theorem keeps_execPortEnable (l : LetterId) (port : W32) (s : State) : Keeps s (execPortEnable l port s) := by
  unfold execPortEnable
  try dsimp only
  refine keeps_next (kept_runLetter fun c => ?_)
  repeat' (first | exact keeps_reject | exact keeps_listError | refine keeps_checked ?_ | refine keeps_withList fun xs => ?_ | refine keeps_accept ?_ | refine keeps_acceptWait ?_ | refine keeps_acceptScheduled ?_ | refine keeps_acceptStaged ?_ | refine keeps_accept' ?_ | refine keeps_partFault ?_ | (dsimp only) | split)
  all_goals try simp [kept_mk, kept_pack, kept_foldl, apply_ite kept]

theorem keeps_execPortDisable (l : LetterId) (port : W32) (s : State) : Keeps s (execPortDisable l port s) := by
  unfold execPortDisable
  try dsimp only
  refine keeps_next (kept_runLetter fun c => ?_)
  repeat' (first | exact keeps_reject | exact keeps_listError | refine keeps_checked ?_ | refine keeps_withList fun xs => ?_ | refine keeps_accept ?_ | refine keeps_acceptWait ?_ | refine keeps_acceptScheduled ?_ | refine keeps_acceptStaged ?_ | refine keeps_accept' ?_ | refine keeps_partFault ?_ | (dsimp only) | split)
  all_goals try simp [kept_mk, kept_pack, kept_foldl, apply_ite kept]

theorem keeps_execPortSetLaneMap (l : LetterId) (octet map rxInvert txInvert : W32) (s : State) : Keeps s (execPortSetLaneMap l octet map rxInvert txInvert s) := by
  unfold execPortSetLaneMap
  try dsimp only
  refine keeps_next (kept_runLetter fun c => ?_)
  repeat' (first | exact keeps_reject | exact keeps_listError | refine keeps_checked ?_ | refine keeps_withList fun xs => ?_ | refine keeps_accept ?_ | refine keeps_acceptWait ?_ | refine keeps_acceptScheduled ?_ | refine keeps_acceptStaged ?_ | refine keeps_accept' ?_ | refine keeps_partFault ?_ | (dsimp only) | split)
  all_goals try simp [kept_mk, kept_pack, kept_foldl, apply_ite kept]

theorem keeps_execPortSetDelay (l : LetterId) (port : W32) (rx tx : W64) (s : State) : Keeps s (execPortSetDelay l port rx tx s) := by
  unfold execPortSetDelay
  try dsimp only
  refine keeps_next (kept_runLetter fun c => ?_)
  repeat' (first | exact keeps_reject | exact keeps_listError | refine keeps_checked ?_ | refine keeps_withList fun xs => ?_ | refine keeps_accept ?_ | refine keeps_acceptWait ?_ | refine keeps_acceptScheduled ?_ | refine keeps_acceptStaged ?_ | refine keeps_accept' ?_ | refine keeps_partFault ?_ | (dsimp only) | split)
  all_goals try simp [kept_mk, kept_pack, kept_foldl, apply_ite kept]

theorem keeps_execPortSetTxEq (l : LetterId) (lane : W32) (taps : TxTaps) (s : State) : Keeps s (execPortSetTxEq l lane taps s) := by
  unfold execPortSetTxEq
  try dsimp only
  refine keeps_next (kept_runLetter fun c => ?_)
  repeat' (first | exact keeps_reject | exact keeps_listError | refine keeps_checked ?_ | refine keeps_withList fun xs => ?_ | refine keeps_accept ?_ | refine keeps_acceptWait ?_ | refine keeps_acceptScheduled ?_ | refine keeps_acceptStaged ?_ | refine keeps_accept' ?_ | refine keeps_partFault ?_ | (dsimp only) | split)
  all_goals try simp [kept_mk, kept_pack, kept_foldl, apply_ite kept]

theorem keeps_execPortStatus (l : LetterId) (port : W32) (s : State) : Keeps s (execPortStatus l port s) := by
  unfold execPortStatus
  try dsimp only
  refine keeps_next (kept_runLetter fun c => ?_)
  repeat' (first | exact keeps_reject | exact keeps_listError | refine keeps_checked ?_ | refine keeps_withList fun xs => ?_ | refine keeps_accept ?_ | refine keeps_acceptWait ?_ | refine keeps_acceptScheduled ?_ | refine keeps_acceptStaged ?_ | refine keeps_accept' ?_ | refine keeps_partFault ?_ | (dsimp only) | split)
  all_goals try simp [kept_mk, kept_pack, kept_foldl, apply_ite kept]

theorem keeps_execEnvelopeCreateFlexe (l : LetterId) (fgroup group phyType phys caRequired : W32) (s : State) : Keeps s (execEnvelopeCreateFlexe l fgroup group phyType phys caRequired s) := by
  unfold execEnvelopeCreateFlexe
  try dsimp only
  refine keeps_next (kept_runLetter fun c => ?_)
  repeat' (first | exact keeps_reject | exact keeps_listError | refine keeps_checked ?_ | refine keeps_withList fun xs => ?_ | refine keeps_accept ?_ | refine keeps_acceptWait ?_ | refine keeps_acceptScheduled ?_ | refine keeps_acceptStaged ?_ | refine keeps_accept' ?_ | refine keeps_partFault ?_ | (dsimp only) | split)
  all_goals try simp [kept_mk, kept_pack, kept_foldl, apply_ite kept]

theorem keeps_execEnvelopeCreateOtu (l : LetterId) (a : OtuArgs) (s : State) : Keeps s (execEnvelopeCreateOtu l a s) := by
  unfold execEnvelopeCreateOtu
  try dsimp only
  refine keeps_next (kept_runLetter fun c => ?_)
  repeat' (first | exact keeps_reject | exact keeps_listError | refine keeps_checked ?_ | refine keeps_withList fun xs => ?_ | refine keeps_accept ?_ | refine keeps_acceptWait ?_ | refine keeps_acceptScheduled ?_ | refine keeps_acceptStaged ?_ | refine keeps_accept' ?_ | refine keeps_partFault ?_ | (dsimp only) | split)
  all_goals try simp [kept_mk, kept_pack, kept_foldl, apply_ite kept]

theorem keeps_execEnvelopeDeleteGroup (l : LetterId) (fgroup kind index : W32) (s : State) : Keeps s (execEnvelopeDeleteGroup l fgroup kind index s) := by
  unfold execEnvelopeDeleteGroup
  try dsimp only
  refine keeps_next (kept_runLetter fun c => ?_)
  repeat' (first | exact keeps_reject | exact keeps_listError | refine keeps_checked ?_ | refine keeps_withList fun xs => ?_ | refine keeps_accept ?_ | refine keeps_acceptWait ?_ | refine keeps_acceptScheduled ?_ | refine keeps_acceptStaged ?_ | refine keeps_accept' ?_ | refine keeps_partFault ?_ | (dsimp only) | split)
  all_goals try simp [kept_mk, kept_pack, kept_foldl, apply_ite kept]

theorem keeps_execEnvelopeEnableGroup (l : LetterId) (fgroup kind index : W32) (s : State) : Keeps s (execEnvelopeEnableGroup l fgroup kind index s) := by
  unfold execEnvelopeEnableGroup
  try dsimp only
  refine keeps_next (kept_runLetter fun c => ?_)
  repeat' (first | exact keeps_reject | exact keeps_listError | refine keeps_checked ?_ | refine keeps_withList fun xs => ?_ | refine keeps_accept ?_ | refine keeps_acceptWait ?_ | refine keeps_acceptScheduled ?_ | refine keeps_acceptStaged ?_ | refine keeps_accept' ?_ | refine keeps_partFault ?_ | (dsimp only) | split)
  all_goals try simp [kept_mk, kept_pack, kept_foldl, apply_ite kept]

theorem keeps_execEnvelopeDisableGroup (l : LetterId) (fgroup kind index : W32) (s : State) : Keeps s (execEnvelopeDisableGroup l fgroup kind index s) := by
  unfold execEnvelopeDisableGroup
  try dsimp only
  refine keeps_next (kept_runLetter fun c => ?_)
  repeat' (first | exact keeps_reject | exact keeps_listError | refine keeps_checked ?_ | refine keeps_withList fun xs => ?_ | refine keeps_accept ?_ | refine keeps_acceptWait ?_ | refine keeps_acceptScheduled ?_ | refine keeps_acceptStaged ?_ | refine keeps_accept' ?_ | refine keeps_partFault ?_ | (dsimp only) | split)
  all_goals try simp [kept_mk, kept_pack, kept_foldl, apply_ite kept]

theorem keeps_execEnvelopeWriteCalendar (l : LetterId) (fgroup group : W32) (slots : ListArg (BitVec 16)) (s : State) : Keeps s (execEnvelopeWriteCalendar l fgroup group slots s) := by
  unfold execEnvelopeWriteCalendar
  try dsimp only
  refine keeps_next (kept_runLetter fun c => ?_)
  repeat' (first | exact keeps_reject | exact keeps_listError | refine keeps_checked ?_ | refine keeps_withList fun xs => ?_ | refine keeps_accept ?_ | refine keeps_acceptWait ?_ | refine keeps_acceptScheduled ?_ | refine keeps_acceptStaged ?_ | refine keeps_accept' ?_ | refine keeps_partFault ?_ | (dsimp only) | split)
  all_goals try simp [kept_mk, kept_pack, kept_foldl, apply_ite kept]

theorem keeps_execEnvelopeScheduleCalendar (l : LetterId) (fgroup group : W32) (t : TimeParam) (s : State) : Keeps s (execEnvelopeScheduleCalendar l fgroup group t s) := by
  unfold execEnvelopeScheduleCalendar
  try dsimp only
  refine keeps_next (kept_runLetter fun c => ?_)
  repeat' (first | exact keeps_reject | exact keeps_listError | refine keeps_checked ?_ | refine keeps_withList fun xs => ?_ | refine keeps_accept ?_ | refine keeps_acceptWait ?_ | refine keeps_acceptScheduled ?_ | refine keeps_acceptStaged ?_ | refine keeps_accept' ?_ | refine keeps_partFault ?_ | (dsimp only) | split)
  all_goals try simp [kept_mk, kept_pack, kept_foldl, apply_ite kept]

theorem keeps_execEnvelopeCancelCalendar (l : LetterId) (fgroup group : W32) (s : State) : Keeps s (execEnvelopeCancelCalendar l fgroup group s) := by
  unfold execEnvelopeCancelCalendar
  try dsimp only
  refine keeps_next (kept_runLetter fun c => ?_)
  repeat' (first | exact keeps_reject | exact keeps_listError | refine keeps_checked ?_ | refine keeps_withList fun xs => ?_ | refine keeps_accept ?_ | refine keeps_acceptWait ?_ | refine keeps_acceptScheduled ?_ | refine keeps_acceptStaged ?_ | refine keeps_accept' ?_ | refine keeps_partFault ?_ | (dsimp only) | split)
  all_goals try simp [kept_mk, kept_pack, kept_foldl, apply_ite kept]

theorem keeps_execEnvelopeWriteTsPage (l : LetterId) (fgroup : W32) (entries : ListArg TsEntry) (s : State) : Keeps s (execEnvelopeWriteTsPage l fgroup entries s) := by
  unfold execEnvelopeWriteTsPage
  try dsimp only
  refine keeps_next (kept_runLetter fun c => ?_)
  repeat' (first | exact keeps_reject | exact keeps_listError | refine keeps_checked ?_ | refine keeps_withList fun xs => ?_ | refine keeps_accept ?_ | refine keeps_acceptWait ?_ | refine keeps_acceptScheduled ?_ | refine keeps_acceptStaged ?_ | refine keeps_accept' ?_ | refine keeps_partFault ?_ | (dsimp only) | split)
  all_goals try simp [kept_mk, kept_pack, kept_foldl, apply_ite kept]

theorem keeps_execEnvelopeScheduleTsPage (l : LetterId) (fgroup : W32) (t : TimeParam) (s : State) : Keeps s (execEnvelopeScheduleTsPage l fgroup t s) := by
  unfold execEnvelopeScheduleTsPage
  try dsimp only
  refine keeps_next (kept_runLetter fun c => ?_)
  repeat' (first | exact keeps_reject | exact keeps_listError | refine keeps_checked ?_ | refine keeps_withList fun xs => ?_ | refine keeps_accept ?_ | refine keeps_acceptWait ?_ | refine keeps_acceptScheduled ?_ | refine keeps_acceptStaged ?_ | refine keeps_accept' ?_ | refine keeps_partFault ?_ | (dsimp only) | split)
  all_goals try simp [kept_mk, kept_pack, kept_foldl, apply_ite kept]

theorem keeps_execEnvelopeCancelTsPage (l : LetterId) (fgroup : W32) (s : State) : Keeps s (execEnvelopeCancelTsPage l fgroup s) := by
  unfold execEnvelopeCancelTsPage
  try dsimp only
  refine keeps_next (kept_runLetter fun c => ?_)
  repeat' (first | exact keeps_reject | exact keeps_listError | refine keeps_checked ?_ | refine keeps_withList fun xs => ?_ | refine keeps_accept ?_ | refine keeps_acceptWait ?_ | refine keeps_acceptScheduled ?_ | refine keeps_acceptStaged ?_ | refine keeps_accept' ?_ | refine keeps_partFault ?_ | (dsimp only) | split)
  all_goals try simp [kept_mk, kept_pack, kept_foldl, apply_ite kept]

theorem keeps_execEnvelopeOhChannel (l : LetterId) (channel : W32) (rxRing txRing : W64) (depth : W32) (s : State) : Keeps s (execEnvelopeOhChannel l channel rxRing txRing depth s) := by
  unfold execEnvelopeOhChannel
  try dsimp only
  refine keeps_next (kept_runLetter fun c => ?_)
  repeat' (first | exact keeps_reject | exact keeps_listError | refine keeps_checked ?_ | refine keeps_withList fun xs => ?_ | refine keeps_accept ?_ | refine keeps_acceptWait ?_ | refine keeps_acceptScheduled ?_ | refine keeps_acceptStaged ?_ | refine keeps_accept' ?_ | refine keeps_partFault ?_ | (dsimp only) | split)
  all_goals try simp [kept_mk, kept_pack, kept_foldl, apply_ite kept]

theorem keeps_execHeaderWindowSend (s : State) : Keeps s (execHeaderWindowSend s) := by
  unfold execHeaderWindowSend
  refine keeps_next ?_
  dsimp only
  repeat' split
  all_goals try simp [kept_mk, kept_pack]
  rename_i h
  rw [kept_sendFlit h]
  rfl

theorem keeps_execIntakeDispatch (s : State) : Keeps s (execIntakeDispatch s) := by
  unfold execIntakeDispatch
  try unfold onPort onLink onEnvelope
  try dsimp only
  first
    | refine keeps_next ?_
    | refine keeps_onUnit ?_
    | (split <;> first | refine keeps_next ?_ | exact keeps_fault _)
  all_goals try dsimp only
  all_goals repeat' split
  all_goals try simp [kept_mk, kept_pack, kept_foldl, apply_ite kept]

theorem keeps_execLookupResult (bench : Fin 32) (clerk : Fin 16) (slot : Fin 6) (result : Fin 8) (memError rowBad waited : Bool) (delayed : W32) (s : State) : Keeps s (execLookupResult bench clerk slot result memError rowBad waited delayed s) := by
  unfold execLookupResult
  try unfold onPort onLink onEnvelope
  try dsimp only
  first
    | refine keeps_next ?_
    | refine keeps_onUnit ?_
    | (split <;> first | refine keeps_next ?_ | exact keeps_fault _)
  all_goals try dsimp only
  all_goals repeat' split
  all_goals try simp [kept_mk, kept_pack, kept_foldl, apply_ite kept]

theorem keeps_execSlotRetire (bench : Fin 32) (clerk : Fin 16) (slot : Fin 6) (rivals : List Rival) (s : State) : Keeps s (execSlotRetire bench clerk slot rivals s) := by
  unfold execSlotRetire
  try unfold onPort onLink onEnvelope
  try dsimp only
  first
    | refine keeps_next ?_
    | refine keeps_onUnit ?_
    | (split <;> first | refine keeps_next ?_ | exact keeps_fault _)
  all_goals try dsimp only
  all_goals repeat' split
  all_goals try simp [kept_mk, kept_pack, kept_foldl, apply_ite kept]

theorem keeps_execPassHandoff (port : Fin 192) (egress : Bool) (s : State) : Keeps s (execPassHandoff port egress s) := by
  unfold execPassHandoff
  try unfold onPort
  try dsimp only
  first
    | refine keeps_next ?_
    | refine keeps_onUnit ?_
    | (split <;> first | refine keeps_next ?_ | exact keeps_fault _)
  all_goals try dsimp only
  all_goals repeat' split
  all_goals try simp [kept_mk, kept_pack, kept_foldl, apply_ite kept]
  all_goals first
    | exact kept_sendFlit ‹_›
    | (rw [kept_sendFlit ‹_›]; simp [kept_mk, kept_pack]; done)


theorem keeps_execBenchSwitch (bench : Fin 32) (s : State) : Keeps s (execBenchSwitch bench s) := by
  unfold execBenchSwitch
  try unfold onPort onLink onEnvelope
  try dsimp only
  first
    | refine keeps_next ?_
    | refine keeps_onUnit ?_
    | (split <;> first | refine keeps_next ?_ | exact keeps_fault _)
  all_goals try dsimp only
  all_goals repeat' split
  all_goals try simp [kept_mk, kept_pack, kept_foldl, apply_ite kept]

theorem keeps_execBenchDrainComplete (bench : Fin 32) (s : State) : Keeps s (execBenchDrainComplete bench s) := by
  unfold execBenchDrainComplete
  try unfold onPort onLink onEnvelope
  try dsimp only
  first
    | refine keeps_next ?_
    | refine keeps_onUnit ?_
    | (split <;> first | refine keeps_next ?_ | exact keeps_fault _)
  all_goals try dsimp only
  all_goals repeat' split
  all_goals try simp [kept_mk, kept_pack, kept_foldl, apply_ite kept]

theorem keeps_execBenchReloadCheck (bench : Fin 32) (readBackOk : Bool) (s : State) : Keeps s (execBenchReloadCheck bench readBackOk s) := by
  unfold execBenchReloadCheck
  try unfold onPort onLink onEnvelope
  try dsimp only
  first
    | refine keeps_next ?_
    | refine keeps_onUnit ?_
    | (split <;> first | refine keeps_next ?_ | exact keeps_fault _)
  all_goals try dsimp only
  all_goals repeat' split
  all_goals try simp [kept_mk, kept_pack, kept_foldl, apply_ite kept]

theorem keeps_execStoreSetMode (l : LetterId) (mode : W32) (s : State) : Keeps s (execStoreSetMode l mode s) := by
  unfold execStoreSetMode
  try dsimp only
  refine keeps_next (kept_runLetter fun c => ?_)
  repeat' (first | exact keeps_reject | exact keeps_listError | refine keeps_checked ?_ | refine keeps_withList fun xs => ?_ | refine keeps_accept ?_ | refine keeps_acceptWait ?_ | refine keeps_acceptScheduled ?_ | refine keeps_acceptStaged ?_ | refine keeps_accept' ?_ | refine keeps_partFault ?_ | (dsimp only) | split)
  all_goals try simp [kept_mk, kept_pack, kept_foldl, apply_ite kept]

theorem keeps_execStoreWriteMicro (l : LetterId) (benches start : W32) (words : ListArg W32) (s : State) :
    Keeps s (execStoreWriteMicro l benches start words s) := by
  unfold execStoreWriteMicro
  refine keeps_next (kept_runLetter fun c => ?_)
  refine keeps_checked ?_
  exact keeps_storeWrite fun s b ws => by simp

theorem keeps_execStoreWriteNano (l : LetterId) (benches start : W32) (words : ListArg (BitVec 256)) (s : State) :
    Keeps s (execStoreWriteNano l benches start words s) := by
  unfold execStoreWriteNano
  refine keeps_next (kept_runLetter fun c => ?_)
  refine keeps_checked ?_
  exact keeps_storeWrite fun s b ws => by simp

theorem keeps_execStoreWritePatch (l : LetterId) (benches : W32) (micro : ListArg W32) (nano : ListArg (BitVec 256)) (matchRegs : ListArg W32) (level : W32) (s : State) : Keeps s (execStoreWritePatch l benches micro nano matchRegs level s) := by
  unfold execStoreWritePatch
  try dsimp only
  refine keeps_next (kept_runLetter fun c => ?_)
  repeat' (first | exact keeps_reject | exact keeps_listError | refine keeps_checked ?_ | refine keeps_withList fun xs => ?_ | refine keeps_accept ?_ | refine keeps_acceptWait ?_ | refine keeps_acceptScheduled ?_ | refine keeps_acceptStaged ?_ | refine keeps_accept' ?_ | refine keeps_partFault ?_ | (dsimp only) | split)
  all_goals try simp [kept_mk, kept_pack, kept_foldl, apply_ite kept]

theorem keeps_execStoreStageImage (l : LetterId) (benches bank : W32) (s : State) : Keeps s (execStoreStageImage l benches bank s) := by
  unfold execStoreStageImage
  try dsimp only
  refine keeps_next (kept_runLetter fun c => ?_)
  repeat' (first | exact keeps_reject | exact keeps_listError | refine keeps_checked ?_ | refine keeps_withList fun xs => ?_ | refine keeps_accept ?_ | refine keeps_acceptWait ?_ | refine keeps_acceptScheduled ?_ | refine keeps_acceptStaged ?_ | refine keeps_accept' ?_ | refine keeps_partFault ?_ | (dsimp only) | split)
  all_goals try simp [kept_mk, kept_pack, kept_foldl, apply_ite kept]

theorem keeps_execStoreSeal (l : LetterId) (benches version : W32) (s : State) : Keeps s (execStoreSeal l benches version s) := by
  unfold execStoreSeal
  try dsimp only
  refine keeps_next (kept_runLetter fun c => ?_)
  repeat' (first | exact keeps_reject | exact keeps_listError | refine keeps_checked ?_ | refine keeps_withList fun xs => ?_ | refine keeps_accept ?_ | refine keeps_acceptWait ?_ | refine keeps_acceptScheduled ?_ | refine keeps_acceptStaged ?_ | refine keeps_accept' ?_ | refine keeps_partFault ?_ | (dsimp only) | split)
  all_goals try simp [kept_mk, kept_pack, kept_foldl, apply_ite kept]

theorem keeps_execStoreScheduleLoad (l : LetterId) (benches : W32) (t : TimeParam) (spacing : W64) (s : State) : Keeps s (execStoreScheduleLoad l benches t spacing s) := by
  unfold execStoreScheduleLoad
  try dsimp only
  refine keeps_next (kept_runLetter fun c => ?_)
  repeat' (first | exact keeps_reject | exact keeps_listError | refine keeps_checked ?_ | refine keeps_withList fun xs => ?_ | refine keeps_accept ?_ | refine keeps_acceptWait ?_ | refine keeps_acceptScheduled ?_ | refine keeps_acceptStaged ?_ | refine keeps_accept' ?_ | refine keeps_partFault ?_ | (dsimp only) | split)
  all_goals try simp [kept_mk, kept_pack, kept_foldl, apply_ite kept]

theorem keeps_execStoreCancelLoad (l : LetterId) (benches : W32) (s : State) : Keeps s (execStoreCancelLoad l benches s) := by
  unfold execStoreCancelLoad
  try dsimp only
  refine keeps_next (kept_runLetter fun c => ?_)
  repeat' (first | exact keeps_reject | exact keeps_listError | refine keeps_checked ?_ | refine keeps_withList fun xs => ?_ | refine keeps_accept ?_ | refine keeps_acceptWait ?_ | refine keeps_acceptScheduled ?_ | refine keeps_acceptStaged ?_ | refine keeps_accept' ?_ | refine keeps_partFault ?_ | (dsimp only) | split)
  all_goals try simp [kept_mk, kept_pack, kept_foldl, apply_ite kept]

theorem keeps_execStoreEnableBench (l : LetterId) (bench : W32) (s : State) : Keeps s (execStoreEnableBench l bench s) := by
  unfold execStoreEnableBench
  try dsimp only
  refine keeps_next (kept_runLetter fun c => ?_)
  repeat' (first | exact keeps_reject | exact keeps_listError | refine keeps_checked ?_ | refine keeps_withList fun xs => ?_ | refine keeps_accept ?_ | refine keeps_acceptWait ?_ | refine keeps_acceptScheduled ?_ | refine keeps_acceptStaged ?_ | refine keeps_accept' ?_ | refine keeps_partFault ?_ | (dsimp only) | split)
  all_goals try simp [kept_mk, kept_pack, kept_foldl, apply_ite kept]

theorem keeps_execStoreDisableBench (l : LetterId) (bench : W32) (s : State) : Keeps s (execStoreDisableBench l bench s) := by
  unfold execStoreDisableBench
  try dsimp only
  refine keeps_next (kept_runLetter fun c => ?_)
  repeat' (first | exact keeps_reject | exact keeps_listError | refine keeps_checked ?_ | refine keeps_withList fun xs => ?_ | refine keeps_accept ?_ | refine keeps_acceptWait ?_ | refine keeps_acceptScheduled ?_ | refine keeps_acceptStaged ?_ | refine keeps_accept' ?_ | refine keeps_partFault ?_ | (dsimp only) | split)
  all_goals try simp [kept_mk, kept_pack, kept_foldl, apply_ite kept]

theorem keeps_execStoreSetBudget (l : LetterId) (budget : W32) (s : State) : Keeps s (execStoreSetBudget l budget s) := by
  unfold execStoreSetBudget
  try dsimp only
  refine keeps_next (kept_runLetter fun c => ?_)
  repeat' (first | exact keeps_reject | exact keeps_listError | refine keeps_checked ?_ | refine keeps_withList fun xs => ?_ | refine keeps_accept ?_ | refine keeps_acceptWait ?_ | refine keeps_acceptScheduled ?_ | refine keeps_acceptStaged ?_ | refine keeps_accept' ?_ | refine keeps_partFault ?_ | (dsimp only) | split)
  all_goals try simp [kept_mk, kept_pack, kept_foldl, apply_ite kept]

theorem keeps_execRouteAdd (l : LetterId) (a : RouteArgs) (s : State) : Keeps s (execRouteAdd l a s) := by
  unfold execRouteAdd
  try unfold onPort onLink onEnvelope
  try dsimp only
  first
    | refine keeps_next ?_
    | refine keeps_onUnit ?_
    | (split <;> first | refine keeps_next ?_ | exact keeps_fault _)
  all_goals try dsimp only
  all_goals repeat' split
  all_goals try simp [kept_mk, kept_pack, kept_foldl, apply_ite kept]

theorem keeps_execRouteDelete (l : LetterId) (vrf family : W32) (pfx : Ip) (plen : W32) (s : State) : Keeps s (execRouteDelete l vrf family pfx plen s) := by
  unfold execRouteDelete
  try unfold onPort onLink onEnvelope
  try dsimp only
  first
    | refine keeps_next ?_
    | refine keeps_onUnit ?_
    | (split <;> first | refine keeps_next ?_ | exact keeps_fault _)
  all_goals try dsimp only
  all_goals repeat' split
  all_goals try simp [kept_mk, kept_pack, kept_foldl, apply_ite kept]

theorem keeps_execRouteBlock (l : LetterId) (records : ListArg TableRecord) (listCrc : W32) (s : State) : Keeps s (execRouteBlock l records listCrc s) := by
  unfold execRouteBlock
  try unfold onPort onLink onEnvelope
  try dsimp only
  first
    | refine keeps_next ?_
    | refine keeps_onUnit ?_
    | (split <;> first | refine keeps_next ?_ | exact keeps_fault _)
  all_goals try dsimp only
  all_goals repeat' split
  all_goals try simp [kept_mk, kept_pack, kept_foldl, apply_ite kept]

theorem keeps_execTableExactAdd (l : LetterId) (type : W32) (key : BitVec 256) (result : W64) (s : State) : Keeps s (execTableExactAdd l type key result s) := by
  unfold execTableExactAdd
  try unfold onPort onLink onEnvelope
  try dsimp only
  first
    | refine keeps_next ?_
    | refine keeps_onUnit ?_
    | (split <;> first | refine keeps_next ?_ | exact keeps_fault _)
  all_goals try dsimp only
  all_goals repeat' split
  all_goals try simp [kept_mk, kept_pack, kept_foldl, apply_ite kept]

theorem keeps_execTableExactDelete (l : LetterId) (type : W32) (key : BitVec 256) (s : State) : Keeps s (execTableExactDelete l type key s) := by
  unfold execTableExactDelete
  try unfold onPort onLink onEnvelope
  try dsimp only
  first
    | refine keeps_next ?_
    | refine keeps_onUnit ?_
    | (split <;> first | refine keeps_next ?_ | exact keeps_fault _)
  all_goals try dsimp only
  all_goals repeat' split
  all_goals try simp [kept_mk, kept_pack, kept_foldl, apply_ite kept]

theorem keeps_execTableNhWrite (l : LetterId) (nh voqBase port module encap : W32) (s : State) : Keeps s (execTableNhWrite l nh voqBase port module encap s) := by
  unfold execTableNhWrite
  try unfold onPort onLink onEnvelope
  try dsimp only
  first
    | refine keeps_next ?_
    | refine keeps_onUnit ?_
    | (split <;> first | refine keeps_next ?_ | exact keeps_fault _)
  all_goals try dsimp only
  all_goals repeat' split
  all_goals try simp [kept_mk, kept_pack, kept_foldl, apply_ite kept]

theorem keeps_execTableNhDelete (l : LetterId) (nh : W32) (s : State) : Keeps s (execTableNhDelete l nh s) := by
  unfold execTableNhDelete
  try unfold onPort onLink onEnvelope
  try dsimp only
  first
    | refine keeps_next ?_
    | refine keeps_onUnit ?_
    | (split <;> first | refine keeps_next ?_ | exact keeps_fault _)
  all_goals try dsimp only
  all_goals repeat' split
  all_goals try simp [kept_mk, kept_pack, kept_foldl, apply_ite kept]

theorem keeps_execTableEcmpWrite (l : LetterId) (group mode : W32) (members : ListArg W32) (s : State) : Keeps s (execTableEcmpWrite l group mode members s) := by
  unfold execTableEcmpWrite
  try unfold onPort onLink onEnvelope
  try dsimp only
  first
    | refine keeps_next ?_
    | refine keeps_onUnit ?_
    | (split <;> first | refine keeps_next ?_ | exact keeps_fault _)
  all_goals try dsimp only
  all_goals repeat' split
  all_goals try simp [kept_mk, kept_pack, kept_foldl, apply_ite kept]

theorem keeps_execTableEcmpDelete (l : LetterId) (group : W32) (s : State) : Keeps s (execTableEcmpDelete l group s) := by
  unfold execTableEcmpDelete
  try unfold onPort onLink onEnvelope
  try dsimp only
  first
    | refine keeps_next ?_
    | refine keeps_onUnit ?_
    | (split <;> first | refine keeps_next ?_ | exact keeps_fault _)
  all_goals try dsimp only
  all_goals repeat' split
  all_goals try simp [kept_mk, kept_pack, kept_foldl, apply_ite kept]

theorem keeps_execTableSetHash (l : LetterId) (seed profile fields : W32) (s : State) : Keeps s (execTableSetHash l seed profile fields s) := by
  unfold execTableSetHash
  try dsimp only
  refine keeps_next (kept_runLetter fun c => ?_)
  repeat' (first | exact keeps_reject | exact keeps_listError | refine keeps_checked ?_ | refine keeps_withList fun xs => ?_ | refine keeps_accept ?_ | refine keeps_acceptWait ?_ | refine keeps_acceptScheduled ?_ | refine keeps_acceptStaged ?_ | refine keeps_accept' ?_ | refine keeps_partFault ?_ | (dsimp only) | split)
  all_goals try simp [kept_mk, kept_pack, kept_foldl, apply_ite kept]

theorem keeps_execTableBlock (l : LetterId) (records : ListArg TableRecord) (listCrc : W32) (s : State) : Keeps s (execTableBlock l records listCrc s) := by
  unfold execTableBlock
  try unfold onPort onLink onEnvelope
  try dsimp only
  first
    | refine keeps_next ?_
    | refine keeps_onUnit ?_
    | (split <;> first | refine keeps_next ?_ | exact keeps_fault _)
  all_goals try dsimp only
  all_goals repeat' split
  all_goals try simp [kept_mk, kept_pack, kept_foldl, apply_ite kept]

theorem keeps_execAclWrite (l : LetterId) (bank index : W32) (value mask : BitVec 640) (action : W64) (s : State) : Keeps s (execAclWrite l bank index value mask action s) := by
  unfold execAclWrite
  try unfold onPort onLink onEnvelope
  try dsimp only
  first
    | refine keeps_next ?_
    | refine keeps_onUnit ?_
    | (split <;> first | refine keeps_next ?_ | exact keeps_fault _)
  all_goals try dsimp only
  all_goals repeat' split
  all_goals try simp [kept_mk, kept_pack, kept_foldl, apply_ite kept]

theorem keeps_execAclDelete (l : LetterId) (bank index : W32) (s : State) : Keeps s (execAclDelete l bank index s) := by
  unfold execAclDelete
  try unfold onPort onLink onEnvelope
  try dsimp only
  first
    | refine keeps_next ?_
    | refine keeps_onUnit ?_
    | (split <;> first | refine keeps_next ?_ | exact keeps_fault _)
  all_goals try dsimp only
  all_goals repeat' split
  all_goals try simp [kept_mk, kept_pack, kept_foldl, apply_ite kept]

theorem keeps_execAclSetProfile (l : LetterId) (a : AclProfileArgs) (s : State) : Keeps s (execAclSetProfile l a s) := by
  unfold execAclSetProfile
  try unfold onPort onLink onEnvelope
  try dsimp only
  first
    | refine keeps_next ?_
    | refine keeps_onUnit ?_
    | (split <;> first | refine keeps_next ?_ | exact keeps_fault _)
  all_goals try dsimp only
  all_goals repeat' split
  all_goals try simp [kept_mk, kept_pack, kept_foldl, apply_ite kept]

theorem keeps_execAclSetSelect (l : LetterId) (profile : W32) (masks : ListArg W32) (s : State) : Keeps s (execAclSetSelect l profile masks s) := by
  unfold execAclSetSelect
  try unfold onPort onLink onEnvelope
  try dsimp only
  first
    | refine keeps_next ?_
    | refine keeps_onUnit ?_
    | (split <;> first | refine keeps_next ?_ | exact keeps_fault _)
  all_goals try dsimp only
  all_goals repeat' split
  all_goals try simp [kept_mk, kept_pack, kept_foldl, apply_ite kept]

theorem keeps_execAclSetBankWidth (l : LetterId) (bank width : W32) (s : State) : Keeps s (execAclSetBankWidth l bank width s) := by
  unfold execAclSetBankWidth
  try dsimp only
  refine keeps_next (kept_runLetter fun c => ?_)
  repeat' (first | exact keeps_reject | exact keeps_listError | refine keeps_checked ?_ | refine keeps_withList fun xs => ?_ | refine keeps_accept ?_ | refine keeps_acceptWait ?_ | refine keeps_acceptScheduled ?_ | refine keeps_acceptStaged ?_ | refine keeps_accept' ?_ | refine keeps_partFault ?_ | (dsimp only) | split)
  all_goals try simp [kept_mk, kept_pack, kept_foldl, apply_ite kept]

theorem keeps_execAclSetSelftest (l : LetterId) (period : W64) (s : State) : Keeps s (execAclSetSelftest l period s) := by
  unfold execAclSetSelftest
  try dsimp only
  refine keeps_next (kept_runLetter fun c => ?_)
  repeat' (first | exact keeps_reject | exact keeps_listError | refine keeps_checked ?_ | refine keeps_withList fun xs => ?_ | refine keeps_accept ?_ | refine keeps_acceptWait ?_ | refine keeps_acceptScheduled ?_ | refine keeps_acceptStaged ?_ | refine keeps_accept' ?_ | refine keeps_partFault ?_ | (dsimp only) | split)
  all_goals try simp [kept_mk, kept_pack, kept_foldl, apply_ite kept]

theorem keeps_execAclBlock (l : LetterId) (records : ListArg TableRecord) (listCrc : W32) (s : State) : Keeps s (execAclBlock l records listCrc s) := by
  unfold execAclBlock
  try unfold onPort onLink onEnvelope
  try dsimp only
  first
    | refine keeps_next ?_
    | refine keeps_onUnit ?_
    | (split <;> first | refine keeps_next ?_ | exact keeps_fault _)
  all_goals try dsimp only
  all_goals repeat' split
  all_goals try simp [kept_mk, kept_pack, kept_foldl, apply_ite kept]

theorem keeps_execAclUpdateWindow (bank : Fin 32) (s : State) : Keeps s (execAclUpdateWindow bank s) := by
  unfold execAclUpdateWindow
  try unfold onPort onLink onEnvelope
  try dsimp only
  first
    | refine keeps_next ?_
    | refine keeps_onUnit ?_
    | (split <;> first | refine keeps_next ?_ | exact keeps_fault _)
  all_goals try dsimp only
  all_goals repeat' split
  all_goals try simp [kept_mk, kept_pack, kept_foldl, apply_ite kept]

theorem keeps_execAclSelftestStart (s : State) : Keeps s (execAclSelftestStart s) := by
  unfold execAclSelftestStart
  try unfold onPort onLink onEnvelope
  try dsimp only
  first
    | refine keeps_next ?_
    | refine keeps_onUnit ?_
    | (split <;> first | refine keeps_next ?_ | exact keeps_fault _)
  all_goals try dsimp only
  all_goals repeat' split
  all_goals try simp [kept_mk, kept_pack, kept_foldl, apply_ite kept]

theorem keeps_execAclMigrationComplete (s : State) : Keeps s (execAclMigrationComplete s) := by
  unfold execAclMigrationComplete
  try unfold onPort onLink onEnvelope
  try dsimp only
  first
    | refine keeps_next ?_
    | refine keeps_onUnit ?_
    | (split <;> first | refine keeps_next ?_ | exact keeps_fault _)
  all_goals try dsimp only
  all_goals repeat' split
  all_goals try simp [kept_mk, kept_pack, kept_foldl, apply_ite kept]

theorem keeps_execAclBankTestEnd (phys : Fin 33) (passed : Bool) (s : State) : Keeps s (execAclBankTestEnd phys passed s) := by
  unfold execAclBankTestEnd
  try unfold onPort onLink onEnvelope
  try dsimp only
  first
    | refine keeps_next ?_
    | refine keeps_onUnit ?_
    | (split <;> first | refine keeps_next ?_ | exact keeps_fault _)
  all_goals try dsimp only
  all_goals repeat' split
  all_goals try simp [kept_mk, kept_pack, kept_foldl, apply_ite kept]

theorem keeps_execAclRowRepair (bank : Fin 32) (index : Fin 8192) (s : State) : Keeps s (execAclRowRepair bank index s) := by
  unfold execAclRowRepair
  try unfold onPort onLink onEnvelope
  try dsimp only
  first
    | refine keeps_next ?_
    | refine keeps_onUnit ?_
    | (split <;> first | refine keeps_next ?_ | exact keeps_fault _)
  all_goals try dsimp only
  all_goals repeat' split
  all_goals try simp [kept_mk, kept_pack, kept_foldl, apply_ite kept]

theorem keeps_execAclBankFault (phys : Fin 33) (s : State) : Keeps s (execAclBankFault phys s) := by
  unfold execAclBankFault
  try unfold onPort onLink onEnvelope
  try dsimp only
  first
    | refine keeps_next ?_
    | refine keeps_onUnit ?_
    | (split <;> first | refine keeps_next ?_ | exact keeps_fault _)
  all_goals try dsimp only
  all_goals repeat' split
  all_goals try simp [kept_mk, kept_pack, kept_foldl, apply_ite kept]

theorem keeps_execAclSpareWritten (s : State) : Keeps s (execAclSpareWritten s) := by
  unfold execAclSpareWritten
  try unfold onPort onLink onEnvelope
  try dsimp only
  first
    | refine keeps_next ?_
    | refine keeps_onUnit ?_
    | (split <;> first | refine keeps_next ?_ | exact keeps_fault _)
  all_goals try dsimp only
  all_goals repeat' split
  all_goals try simp [kept_mk, kept_pack, kept_foldl, apply_ite kept]

theorem keeps_execIngressAdmission (rivals : List Rival) (readError : Bool) (s : State) :
    Keeps s (execIngressAdmission rivals readError s) := by
  unfold execIngressAdmission
  refine keeps_next ?_
  split
  · rfl
  · refine kept_contest _ _ _ fun u => ?_
    split
    · simp
    · dsimp only; simp

theorem keeps_execBufferFree (buffer : BufId) (agent : Owner) (s : State) : Keeps s (execBufferFree buffer agent s) := by
  unfold execBufferFree
  try unfold onPort onLink onEnvelope
  try dsimp only
  first
    | refine keeps_next ?_
    | refine keeps_onUnit ?_
    | (split <;> first | refine keeps_next ?_ | exact keeps_fault _)
  all_goals try dsimp only
  all_goals repeat' split
  all_goals try simp [kept_mk, kept_pack, kept_foldl, apply_ite kept]

theorem keeps_execDlqDeliver (hasRoom busOk : Bool) (s : State) : Keeps s (execDlqDeliver hasRoom busOk s) := by
  unfold execDlqDeliver
  try unfold onPort onLink onEnvelope
  try dsimp only
  first
    | refine keeps_next ?_
    | refine keeps_onUnit ?_
    | (split <;> first | refine keeps_next ?_ | exact keeps_fault _)
  all_goals try dsimp only
  all_goals repeat' split
  all_goals try simp [kept_mk, kept_pack, kept_foldl, apply_ite kept]

theorem keeps_execCtIngressStart (port : Fin 192) (rivals : List Rival) (s : State) :
    Keeps s (execCtIngressStart port rivals s) := by
  unfold execCtIngressStart
  refine keeps_next ?_
  split
  · rfl
  · split
    · rfl
    · exact kept_contest _ _ _ fun u => kept_cutIn _ _ _

theorem keeps_execCtIngressTimeout (port : Fin 192) (s : State) : Keeps s (execCtIngressTimeout port s) := by
  unfold execCtIngressTimeout
  try unfold onPort onLink onEnvelope
  try dsimp only
  first
    | refine keeps_next ?_
    | refine keeps_onUnit ?_
    | (split <;> first | refine keeps_next ?_ | exact keeps_fault _)
  all_goals try dsimp only
  all_goals repeat' split
  all_goals try simp [kept_mk, kept_pack, kept_foldl, apply_ite kept]

theorem keeps_execCtEgressStart (queue : BitVec 19) (s : State) : Keeps s (execCtEgressStart queue s) := by
  unfold execCtEgressStart
  try unfold onPort onLink onEnvelope
  try dsimp only
  first
    | refine keeps_next ?_
    | refine keeps_onUnit ?_
    | (split <;> first | refine keeps_next ?_ | exact keeps_fault _)
  all_goals try dsimp only
  all_goals repeat' split
  all_goals try simp [kept_mk, kept_pack, kept_foldl, apply_ite kept]

theorem keeps_execCtEgressAbort (queue : BitVec 19) (cause : Fin 4) (s : State) : Keeps s (execCtEgressAbort queue cause s) := by
  unfold execCtEgressAbort
  try unfold onPort onLink onEnvelope
  try dsimp only
  first
    | refine keeps_next ?_
    | refine keeps_onUnit ?_
    | (split <;> first | refine keeps_next ?_ | exact keeps_fault _)
  all_goals try dsimp only
  all_goals repeat' split
  all_goals try simp [kept_mk, kept_pack, kept_foldl, apply_ite kept]

theorem keeps_execBufferSetPools (l : LetterId) (g0 g1 g2 g3 : W32) (s : State) : Keeps s (execBufferSetPools l g0 g1 g2 g3 s) := by
  unfold execBufferSetPools
  try dsimp only
  refine keeps_next (kept_runLetter fun c => ?_)
  repeat' (first | exact keeps_reject | exact keeps_listError | refine keeps_checked ?_ | refine keeps_withList fun xs => ?_ | refine keeps_accept ?_ | refine keeps_acceptWait ?_ | refine keeps_acceptScheduled ?_ | refine keeps_acceptStaged ?_ | refine keeps_accept' ?_ | refine keeps_partFault ?_ | (dsimp only) | split)
  all_goals try simp [kept_mk, kept_pack, kept_foldl, apply_ite kept]

theorem keeps_execBufferSetClass (l : LetterId) (cls : W32) (shallowReserve shallowLimit deepReserve deepLimit : W64) (s : State) : Keeps s (execBufferSetClass l cls shallowReserve shallowLimit deepReserve deepLimit s) := by
  unfold execBufferSetClass
  try dsimp only
  refine keeps_next (kept_runLetter fun c => ?_)
  repeat' (first | exact keeps_reject | exact keeps_listError | refine keeps_checked ?_ | refine keeps_withList fun xs => ?_ | refine keeps_accept ?_ | refine keeps_acceptWait ?_ | refine keeps_acceptScheduled ?_ | refine keeps_acceptStaged ?_ | refine keeps_accept' ?_ | refine keeps_partFault ?_ | (dsimp only) | split)
  all_goals try simp [kept_mk, kept_pack, kept_foldl, apply_ite kept]

theorem keeps_execBufferSetAdmission (l : LetterId) (a : AdmissionArgs) (s : State) : Keeps s (execBufferSetAdmission l a s) := by
  unfold execBufferSetAdmission
  try dsimp only
  refine keeps_next (kept_runLetter fun c => ?_)
  repeat' (first | exact keeps_reject | exact keeps_listError | refine keeps_checked ?_ | refine keeps_withList fun xs => ?_ | refine keeps_accept ?_ | refine keeps_acceptWait ?_ | refine keeps_acceptScheduled ?_ | refine keeps_acceptStaged ?_ | refine keeps_accept' ?_ | refine keeps_partFault ?_ | (dsimp only) | split)
  all_goals try simp [kept_mk, kept_pack, kept_foldl, apply_ite kept]

theorem keeps_execBufferSetDlq (l : LetterId) (a : DlqArgs) (s : State) : Keeps s (execBufferSetDlq l a s) := by
  unfold execBufferSetDlq
  try dsimp only
  refine keeps_next (kept_runLetter fun c => ?_)
  repeat' (first | exact keeps_reject | exact keeps_listError | refine keeps_checked ?_ | refine keeps_withList fun xs => ?_ | refine keeps_accept ?_ | refine keeps_acceptWait ?_ | refine keeps_acceptScheduled ?_ | refine keeps_acceptStaged ?_ | refine keeps_accept' ?_ | refine keeps_partFault ?_ | (dsimp only) | split)
  all_goals try simp [kept_mk, kept_pack, kept_foldl, apply_ite kept]

theorem keeps_execBufferSetCutThrough (l : LetterId) (port ingress egress : W32) (ctMin ctStart : W64) (s : State) : Keeps s (execBufferSetCutThrough l port ingress egress ctMin ctStart s) := by
  unfold execBufferSetCutThrough
  try dsimp only
  refine keeps_next (kept_runLetter fun c => ?_)
  repeat' (first | exact keeps_reject | exact keeps_listError | refine keeps_checked ?_ | refine keeps_withList fun xs => ?_ | refine keeps_accept ?_ | refine keeps_acceptWait ?_ | refine keeps_acceptScheduled ?_ | refine keeps_acceptStaged ?_ | refine keeps_accept' ?_ | refine keeps_partFault ?_ | (dsimp only) | split)
  all_goals try simp [kept_mk, kept_pack, kept_foldl, apply_ite kept]

theorem keeps_execSchedulerSelect (port : Fin 192) (s : State) : Keeps s (execSchedulerSelect port s) := by
  unfold execSchedulerSelect
  try unfold onPort onLink onEnvelope
  try dsimp only
  first
    | refine keeps_next ?_
    | refine keeps_onUnit ?_
    | (split <;> first | refine keeps_next ?_ | exact keeps_fault _)
  all_goals try dsimp only
  all_goals repeat' split
  all_goals try simp [kept_mk, kept_pack, kept_foldl, apply_ite kept]

theorem keeps_execWindowReturn (rivals : List Rival) (s : State) : Keeps s (execWindowReturn rivals s) := by
  unfold execWindowReturn
  refine keeps_next ?_
  split
  · rfl
  · split
    · rfl
    · split
      · rfl
      · split
        · simp
        · split
          · simp
          · dsimp only
            split
            · rfl
            · rename_i h
              rw [kept_freePacket, kept_contest _ _ _ fun u => kept_egressMirror _ _, kept_adjust, kept_sendFlit h]
              simp

theorem keeps_execArbiterGrant (port : Fin 192) (s : State) : Keeps s (execArbiterGrant port s) := by
  unfold execArbiterGrant onPort
  split
  · refine keeps_next ?_
    dsimp only
    split
    · simp
    · split
      all_goals
        rename_i h
        simp [kept_pickClass_of h]
  · exact keeps_fault _

theorem keeps_execVoqSend (voq : BitVec 17) (readError : Bool) (s : State) : Keeps s (execVoqSend voq readError s) := by
  unfold execVoqSend
  try unfold onPort onLink onEnvelope
  try dsimp only
  first
    | refine keeps_next ?_
    | refine keeps_onUnit ?_
    | (split <;> first | refine keeps_next ?_ | exact keeps_fault _)
  all_goals try dsimp only
  all_goals repeat' split
  all_goals try simp [kept_mk, kept_pack, kept_foldl, apply_ite kept]

theorem keeps_execGateEntryAdvance (port : Fin 192) (s : State) : Keeps s (execGateEntryAdvance port s) := by
  unfold execGateEntryAdvance
  try unfold onPort onLink onEnvelope
  try dsimp only
  first
    | refine keeps_next ?_
    | refine keeps_onUnit ?_
    | (split <;> first | refine keeps_next ?_ | exact keeps_fault _)
  all_goals try dsimp only
  all_goals repeat' split
  all_goals try simp [kept_mk, kept_pack, kept_foldl, apply_ite kept]

theorem keeps_execGateListSwitch (port : Fin 192) (s : State) : Keeps s (execGateListSwitch port s) := by
  unfold execGateListSwitch
  try unfold onPort onLink onEnvelope
  try dsimp only
  first
    | refine keeps_next ?_
    | refine keeps_onUnit ?_
    | (split <;> first | refine keeps_next ?_ | exact keeps_fault _)
  all_goals try dsimp only
  all_goals repeat' split
  all_goals try simp [kept_mk, kept_pack, kept_foldl, apply_ite kept]

theorem keeps_execHoldExpiry (port : Fin 192) (s : State) : Keeps s (execHoldExpiry port s) := by
  unfold execHoldExpiry
  try unfold onPort onLink onEnvelope
  try dsimp only
  first
    | refine keeps_next ?_
    | refine keeps_onUnit ?_
    | (split <;> first | refine keeps_next ?_ | exact keeps_fault _)
  all_goals try dsimp only
  all_goals repeat' split
  all_goals try simp [kept_mk, kept_pack, kept_foldl, apply_ite kept]

theorem keeps_execPortFlushComplete (port : Fin 192) (s : State) : Keeps s (execPortFlushComplete port s) := by
  unfold execPortFlushComplete
  try unfold onPort onLink onEnvelope
  try dsimp only
  first
    | refine keeps_next ?_
    | refine keeps_onUnit ?_
    | (split <;> first | refine keeps_next ?_ | exact keeps_fault _)
  all_goals try dsimp only
  all_goals repeat' split
  all_goals try simp [kept_mk, kept_pack, kept_foldl, apply_ite kept]

theorem keeps_execVoqAgeVisit (voq : BitVec 17) (s : State) : Keeps s (execVoqAgeVisit voq s) := by
  unfold execVoqAgeVisit
  try unfold onPort onLink onEnvelope
  try dsimp only
  first
    | refine keeps_next ?_
    | refine keeps_onUnit ?_
    | (split <;> first | refine keeps_next ?_ | exact keeps_fault _)
  all_goals try dsimp only
  all_goals repeat' split
  all_goals try simp [kept_mk, kept_pack, kept_foldl, apply_ite kept]

theorem keeps_execQueueFlushComplete (queue : BitVec 19) (s : State) : Keeps s (execQueueFlushComplete queue s) := by
  unfold execQueueFlushComplete
  try unfold onPort onLink onEnvelope
  try dsimp only
  first
    | refine keeps_next ?_
    | refine keeps_onUnit ?_
    | (split <;> first | refine keeps_next ?_ | exact keeps_fault _)
  all_goals try dsimp only
  all_goals repeat' split
  all_goals try simp [kept_mk, kept_pack, kept_foldl, apply_ite kept]

theorem keeps_execQueueConfigure (l : LetterId) (a : QueueArgs) (s : State) : Keeps s (execQueueConfigure l a s) := by
  unfold execQueueConfigure
  try dsimp only
  refine keeps_next (kept_runLetter fun c => ?_)
  repeat' (first | exact keeps_reject | exact keeps_listError | refine keeps_checked ?_ | refine keeps_withList fun xs => ?_ | refine keeps_accept ?_ | refine keeps_acceptWait ?_ | refine keeps_acceptScheduled ?_ | refine keeps_acceptStaged ?_ | refine keeps_accept' ?_ | refine keeps_partFault ?_ | (dsimp only) | split)
  all_goals try simp [kept_mk, kept_pack, kept_foldl, apply_ite kept]

theorem keeps_execQueueSetNode (l : LetterId) (a : NodeArgs) (s : State) : Keeps s (execQueueSetNode l a s) := by
  unfold execQueueSetNode
  try dsimp only
  refine keeps_next (kept_runLetter fun c => ?_)
  repeat' (first | exact keeps_reject | exact keeps_listError | refine keeps_checked ?_ | refine keeps_withList fun xs => ?_ | refine keeps_accept ?_ | refine keeps_acceptWait ?_ | refine keeps_acceptScheduled ?_ | refine keeps_acceptStaged ?_ | refine keeps_accept' ?_ | refine keeps_partFault ?_ | (dsimp only) | split)
  all_goals try simp [kept_mk, kept_pack, kept_foldl, apply_ite kept]

theorem keeps_execQueueSetPort (l : LetterId) (a : QueuePortArgs) (s : State) : Keeps s (execQueueSetPort l a s) := by
  unfold execQueueSetPort
  try dsimp only
  refine keeps_next (kept_runLetter fun c => ?_)
  repeat' (first | exact keeps_reject | exact keeps_listError | refine keeps_checked ?_ | refine keeps_withList fun xs => ?_ | refine keeps_accept ?_ | refine keeps_acceptWait ?_ | refine keeps_acceptScheduled ?_ | refine keeps_acceptStaged ?_ | refine keeps_accept' ?_ | refine keeps_partFault ?_ | (dsimp only) | split)
  all_goals try simp [kept_mk, kept_pack, kept_foldl, apply_ite kept]

theorem keeps_execQueueSetLengthProfile (l : LetterId) (profile mode adjust : W32) (s : State) : Keeps s (execQueueSetLengthProfile l profile mode adjust s) := by
  unfold execQueueSetLengthProfile
  try dsimp only
  refine keeps_next (kept_runLetter fun c => ?_)
  repeat' (first | exact keeps_reject | exact keeps_listError | refine keeps_checked ?_ | refine keeps_withList fun xs => ?_ | refine keeps_accept ?_ | refine keeps_acceptWait ?_ | refine keeps_acceptScheduled ?_ | refine keeps_acceptStaged ?_ | refine keeps_accept' ?_ | refine keeps_partFault ?_ | (dsimp only) | split)
  all_goals try simp [kept_mk, kept_pack, kept_foldl, apply_ite kept]

theorem keeps_execQueueDelete (l : LetterId) (level node : W32) (s : State) : Keeps s (execQueueDelete l level node s) := by
  unfold execQueueDelete
  try dsimp only
  refine keeps_next (kept_runLetter fun c => ?_)
  repeat' (first | exact keeps_reject | exact keeps_listError | refine keeps_checked ?_ | refine keeps_withList fun xs => ?_ | refine keeps_accept ?_ | refine keeps_acceptWait ?_ | refine keeps_acceptScheduled ?_ | refine keeps_acceptStaged ?_ | refine keeps_accept' ?_ | refine keeps_partFault ?_ | (dsimp only) | split)
  all_goals try simp [kept_mk, kept_pack, kept_foldl, apply_ite kept]

theorem keeps_execQueueFlush (l : LetterId) (queue : W32) (s : State) : Keeps s (execQueueFlush l queue s) := by
  unfold execQueueFlush
  try dsimp only
  refine keeps_next (kept_runLetter fun c => ?_)
  repeat' (first | exact keeps_reject | exact keeps_listError | refine keeps_checked ?_ | refine keeps_withList fun xs => ?_ | refine keeps_accept ?_ | refine keeps_acceptWait ?_ | refine keeps_acceptScheduled ?_ | refine keeps_acceptStaged ?_ | refine keeps_accept' ?_ | refine keeps_partFault ?_ | (dsimp only) | split)
  all_goals try simp [kept_mk, kept_pack, kept_foldl, apply_ite kept]

theorem keeps_execQueueWriteGates (l : LetterId) (port : W32) (entries : ListArg W64) (s : State) : Keeps s (execQueueWriteGates l port entries s) := by
  unfold execQueueWriteGates
  try dsimp only
  refine keeps_next (kept_runLetter fun c => ?_)
  repeat' (first | exact keeps_reject | exact keeps_listError | refine keeps_checked ?_ | refine keeps_withList fun xs => ?_ | refine keeps_accept ?_ | refine keeps_acceptWait ?_ | refine keeps_acceptScheduled ?_ | refine keeps_acceptStaged ?_ | refine keeps_accept' ?_ | refine keeps_partFault ?_ | (dsimp only) | split)
  all_goals try simp [kept_mk, kept_pack, kept_foldl, apply_ite kept]

theorem keeps_execQueueScheduleGates (l : LetterId) (port : W32) (t : TimeParam) (s : State) : Keeps s (execQueueScheduleGates l port t s) := by
  unfold execQueueScheduleGates
  try dsimp only
  refine keeps_next (kept_runLetter fun c => ?_)
  repeat' (first | exact keeps_reject | exact keeps_listError | refine keeps_checked ?_ | refine keeps_withList fun xs => ?_ | refine keeps_accept ?_ | refine keeps_acceptWait ?_ | refine keeps_acceptScheduled ?_ | refine keeps_acceptStaged ?_ | refine keeps_accept' ?_ | refine keeps_partFault ?_ | (dsimp only) | split)
  all_goals try simp [kept_mk, kept_pack, kept_foldl, apply_ite kept]

theorem keeps_execQueueCancelGates (l : LetterId) (port : W32) (s : State) : Keeps s (execQueueCancelGates l port s) := by
  unfold execQueueCancelGates
  try dsimp only
  refine keeps_next (kept_runLetter fun c => ?_)
  repeat' (first | exact keeps_reject | exact keeps_listError | refine keeps_checked ?_ | refine keeps_withList fun xs => ?_ | refine keeps_accept ?_ | refine keeps_acceptWait ?_ | refine keeps_acceptScheduled ?_ | refine keeps_acceptStaged ?_ | refine keeps_accept' ?_ | refine keeps_partFault ?_ | (dsimp only) | split)
  all_goals try simp [kept_mk, kept_pack, kept_foldl, apply_ite kept]

theorem keeps_execPolicerConfigure (l : LetterId) (a : PolicerArgs) (s : State) : Keeps s (execPolicerConfigure l a s) := by
  unfold execPolicerConfigure
  try unfold onPort onLink onEnvelope
  try dsimp only
  first
    | refine keeps_next ?_
    | refine keeps_onUnit ?_
    | (split <;> first | refine keeps_next ?_ | exact keeps_fault _)
  all_goals try dsimp only
  all_goals repeat' split
  all_goals try simp [kept_mk, kept_pack, kept_foldl, apply_ite kept]

theorem keeps_execPolicerDelete (l : LetterId) (policer : W32) (s : State) : Keeps s (execPolicerDelete l policer s) := by
  unfold execPolicerDelete
  try unfold onPort onLink onEnvelope
  try dsimp only
  first
    | refine keeps_next ?_
    | refine keeps_onUnit ?_
    | (split <;> first | refine keeps_next ?_ | exact keeps_fault _)
  all_goals try dsimp only
  all_goals repeat' split
  all_goals try simp [kept_mk, kept_pack, kept_foldl, apply_ite kept]

theorem keeps_execCellSlotTransmit (link : Fin 256) (s : State) : Keeps s (execCellSlotTransmit link s) := by
  unfold execCellSlotTransmit
  try unfold onPort onLink onEnvelope
  try dsimp only
  first
    | refine keeps_next ?_
    | refine keeps_onUnit ?_
    | (split <;> first | refine keeps_next ?_ | exact keeps_fault _)
  all_goals try dsimp only
  all_goals repeat' split
  all_goals try simp [kept_mk, kept_pack, kept_foldl, apply_ite kept]

theorem keeps_execPackWaitExpiry (stream : Fin 129) (s : State) : Keeps s (execPackWaitExpiry stream s) := by
  unfold execPackWaitExpiry
  try unfold onPort onLink onEnvelope
  try dsimp only
  first
    | refine keeps_next ?_
    | refine keeps_onUnit ?_
    | (split <;> first | refine keeps_next ?_ | exact keeps_fault _)
  all_goals try dsimp only
  all_goals repeat' split
  all_goals try simp [kept_mk, kept_pack, kept_foldl, apply_ite kept]

theorem keeps_execCellReceive (link : Fin 256) (cell : List Byte) (fecOk : Bool) (rivals : List Rival) (s : State) : Keeps s (execCellReceive link cell fecOk rivals s) := by
  unfold execCellReceive
  try unfold onPort onLink onEnvelope
  try dsimp only
  first
    | refine keeps_next ?_
    | refine keeps_onUnit ?_
    | (split <;> first | refine keeps_next ?_ | exact keeps_fault _)
  all_goals try dsimp only
  all_goals repeat' split
  all_goals try simp [kept_mk, kept_pack, kept_foldl, apply_ite kept]

theorem keeps_execReachReceive (link : Fin 256) (cell : List Byte) (fecOk : Bool) (s : State) : Keeps s (execReachReceive link cell fecOk s) := by
  unfold execReachReceive
  try unfold onPort onLink onEnvelope
  try dsimp only
  first
    | refine keeps_next ?_
    | refine keeps_onUnit ?_
    | (split <;> first | refine keeps_next ?_ | exact keeps_fault _)
  all_goals try dsimp only
  all_goals repeat' split
  all_goals try simp [kept_mk, kept_pack, kept_foldl, apply_ite kept]

theorem keeps_execRequestReceive (link : Fin 256) (cell : List Byte) (fecOk : Bool) (index : Fin 18) (s : State) :
    Keeps s (execRequestReceive link cell fecOk index s) := by
  unfold execRequestReceive onLink
  split
  · exact keeps_next (kept_takeCredit _ _ _ _ _ _ _ fun m u => by simp)
  · exact keeps_fault _

theorem keeps_execGrantReceive (link : Fin 256) (cell : List Byte) (fecOk : Bool) (index : Fin 18) (s : State) :
    Keeps s (execGrantReceive link cell fecOk index s) := by
  unfold execGrantReceive onLink
  split
  · exact keeps_next (kept_takeCredit _ _ _ _ _ _ _ fun m u => by simp)
  · exact keeps_fault _

theorem keeps_execLossNoticeReceive (link : Fin 256) (cell : List Byte) (fecOk : Bool) (index : Fin 18) (s : State) :
    Keeps s (execLossNoticeReceive link cell fecOk index s) := by
  unfold execLossNoticeReceive onLink
  split
  · exact keeps_next (kept_takeCredit _ _ _ _ _ _ _ fun m u => by dsimp only; simp)
  · exact keeps_fault _

theorem keeps_execLinkAligned (link : Fin 256) (s : State) : Keeps s (execLinkAligned link s) := by
  unfold execLinkAligned
  try unfold onPort onLink onEnvelope
  try dsimp only
  first
    | refine keeps_next ?_
    | refine keeps_onUnit ?_
    | (split <;> first | refine keeps_next ?_ | exact keeps_fault _)
  all_goals try dsimp only
  all_goals repeat' split
  all_goals try simp [kept_mk, kept_pack, kept_foldl, apply_ite kept]

theorem keeps_execLinkDown (link : Fin 256) (cause : LinkCause) (s : State) : Keeps s (execLinkDown link cause s) := by
  unfold execLinkDown
  try unfold onPort onLink onEnvelope
  try dsimp only
  first
    | refine keeps_next ?_
    | refine keeps_onUnit ?_
    | (split <;> first | refine keeps_next ?_ | exact keeps_fault _)
  all_goals try dsimp only
  all_goals repeat' split
  all_goals try simp [kept_mk, kept_pack, kept_foldl, apply_ite kept]

theorem keeps_execReachTimeout (link : Fin 256) (s : State) : Keeps s (execReachTimeout link s) := by
  unfold execReachTimeout
  try unfold onPort onLink onEnvelope
  try dsimp only
  first
    | refine keeps_next ?_
    | refine keeps_onUnit ?_
    | (split <;> first | refine keeps_next ?_ | exact keeps_fault _)
  all_goals try dsimp only
  all_goals repeat' split
  all_goals try simp [kept_mk, kept_pack, kept_foldl, apply_ite kept]

theorem keeps_execHoldMaxExpiry (link : Fin 256) (s : State) : Keeps s (execHoldMaxExpiry link s) := by
  unfold execHoldMaxExpiry
  try unfold onPort onLink onEnvelope
  try dsimp only
  first
    | refine keeps_next ?_
    | refine keeps_onUnit ?_
    | (split <;> first | refine keeps_next ?_ | exact keeps_fault _)
  all_goals try dsimp only
  all_goals repeat' split
  all_goals try simp [kept_mk, kept_pack, kept_foldl, apply_ite kept]

theorem keeps_execLinkRetry (link : Fin 256) (s : State) : Keeps s (execLinkRetry link s) := by
  unfold execLinkRetry
  try unfold onPort onLink onEnvelope
  try dsimp only
  first
    | refine keeps_next ?_
    | refine keeps_onUnit ?_
    | (split <;> first | refine keeps_next ?_ | exact keeps_fault _)
  all_goals try dsimp only
  all_goals repeat' split
  all_goals try simp [kept_mk, kept_pack, kept_foldl, apply_ite kept]

theorem keeps_execLinkDisableComplete (link : Fin 256) (s : State) : Keeps s (execLinkDisableComplete link s) := by
  unfold execLinkDisableComplete
  try unfold onPort onLink onEnvelope
  try dsimp only
  first
    | refine keeps_next ?_
    | refine keeps_onUnit ?_
    | (split <;> first | refine keeps_next ?_ | exact keeps_fault _)
  all_goals try dsimp only
  all_goals repeat' split
  all_goals try simp [kept_mk, kept_pack, kept_foldl, apply_ite kept]

theorem keeps_execIdentSend (link : Fin 256) (s : State) : Keeps s (execIdentSend link s) := by
  unfold execIdentSend
  try unfold onPort onLink onEnvelope
  try dsimp only
  first
    | refine keeps_next ?_
    | refine keeps_onUnit ?_
    | (split <;> first | refine keeps_next ?_ | exact keeps_fault _)
  all_goals try dsimp only
  all_goals repeat' split
  all_goals try simp [kept_mk, kept_pack, kept_foldl, apply_ite kept]

theorem keeps_execHoleLostExpiry (src : Fin 128) (mc : Bool) (s : State) : Keeps s (execHoleLostExpiry src mc s) := by
  unfold execHoleLostExpiry
  try unfold onPort onLink onEnvelope
  try dsimp only
  first
    | refine keeps_next ?_
    | refine keeps_onUnit ?_
    | (split <;> first | refine keeps_next ?_ | exact keeps_fault _)
  all_goals try dsimp only
  all_goals repeat' split
  all_goals try simp [kept_mk, kept_pack, kept_foldl, apply_ite kept]

theorem keeps_execReassemblyTimeout (src : Fin 128) (mc : Bool) (s : State) : Keeps s (execReassemblyTimeout src mc s) := by
  unfold execReassemblyTimeout
  try unfold onPort onLink onEnvelope
  try dsimp only
  first
    | refine keeps_next ?_
    | refine keeps_onUnit ?_
    | (split <;> first | refine keeps_next ?_ | exact keeps_fault _)
  all_goals try dsimp only
  all_goals repeat' split
  all_goals try simp [kept_mk, kept_pack, kept_foldl, apply_ite kept]

theorem keeps_execCreditWatchdog (voq : BitVec 17) (s : State) : Keeps s (execCreditWatchdog voq s) := by
  unfold execCreditWatchdog
  try unfold onPort onLink onEnvelope
  try dsimp only
  first
    | refine keeps_next ?_
    | refine keeps_onUnit ?_
    | (split <;> first | refine keeps_next ?_ | exact keeps_fault _)
  all_goals try dsimp only
  all_goals repeat' split
  all_goals try simp [kept_mk, kept_pack, kept_foldl, apply_ite kept]

theorem keeps_execGrantCellClose (dst : Fin 128) (s : State) : Keeps s (execGrantCellClose dst s) := by
  unfold execGrantCellClose
  try unfold onPort onLink onEnvelope
  try dsimp only
  first
    | refine keeps_next ?_
    | refine keeps_onUnit ?_
    | (split <;> first | refine keeps_next ?_ | exact keeps_fault _)
  all_goals try dsimp only
  all_goals repeat' split
  all_goals try simp [kept_mk, kept_pack, kept_foldl, apply_ite kept]

theorem keeps_execFabricEnableLink (l : LetterId) (link : W32) (s : State) : Keeps s (execFabricEnableLink l link s) := by
  unfold execFabricEnableLink
  try dsimp only
  refine keeps_next (kept_runLetter fun c => ?_)
  repeat' (first | exact keeps_reject | exact keeps_listError | refine keeps_checked ?_ | refine keeps_withList fun xs => ?_ | refine keeps_accept ?_ | refine keeps_acceptWait ?_ | refine keeps_acceptScheduled ?_ | refine keeps_acceptStaged ?_ | refine keeps_accept' ?_ | refine keeps_partFault ?_ | (dsimp only) | split)
  all_goals try simp [kept_mk, kept_pack, kept_foldl, apply_ite kept]

theorem keeps_execFabricDisableLink (l : LetterId) (link : W32) (s : State) : Keeps s (execFabricDisableLink l link s) := by
  unfold execFabricDisableLink
  try dsimp only
  refine keeps_next (kept_runLetter fun c => ?_)
  repeat' (first | exact keeps_reject | exact keeps_listError | refine keeps_checked ?_ | refine keeps_withList fun xs => ?_ | refine keeps_accept ?_ | refine keeps_acceptWait ?_ | refine keeps_acceptScheduled ?_ | refine keeps_acceptStaged ?_ | refine keeps_accept' ?_ | refine keeps_partFault ?_ | (dsimp only) | split)
  all_goals try simp [kept_mk, kept_pack, kept_foldl, apply_ite kept]

theorem keeps_execFabricSetTxEq (l : LetterId) (lane : W32) (taps : TxTaps) (s : State) : Keeps s (execFabricSetTxEq l lane taps s) := by
  unfold execFabricSetTxEq
  try dsimp only
  refine keeps_next (kept_runLetter fun c => ?_)
  repeat' (first | exact keeps_reject | exact keeps_listError | refine keeps_checked ?_ | refine keeps_withList fun xs => ?_ | refine keeps_accept ?_ | refine keeps_acceptWait ?_ | refine keeps_acceptScheduled ?_ | refine keeps_acceptStaged ?_ | refine keeps_accept' ?_ | refine keeps_partFault ?_ | (dsimp only) | split)
  all_goals try simp [kept_mk, kept_pack, kept_foldl, apply_ite kept]

theorem keeps_execFabricSetTimers (l : LetterId) (reasmTimeout skewLimit creditWd holdMax packWait : W64) (s : State) : Keeps s (execFabricSetTimers l reasmTimeout skewLimit creditWd holdMax packWait s) := by
  unfold execFabricSetTimers
  try dsimp only
  refine keeps_next (kept_runLetter fun c => ?_)
  repeat' (first | exact keeps_reject | exact keeps_listError | refine keeps_checked ?_ | refine keeps_withList fun xs => ?_ | refine keeps_accept ?_ | refine keeps_acceptWait ?_ | refine keeps_acceptScheduled ?_ | refine keeps_acceptStaged ?_ | refine keeps_accept' ?_ | refine keeps_partFault ?_ | (dsimp only) | split)
  all_goals try simp [kept_mk, kept_pack, kept_foldl, apply_ite kept]

theorem keeps_execFabricSetCredit (l : LetterId) (grantSize mcRate : W64) (s : State) : Keeps s (execFabricSetCredit l grantSize mcRate s) := by
  unfold execFabricSetCredit
  try dsimp only
  refine keeps_next (kept_runLetter fun c => ?_)
  repeat' (first | exact keeps_reject | exact keeps_listError | refine keeps_checked ?_ | refine keeps_withList fun xs => ?_ | refine keeps_accept ?_ | refine keeps_acceptWait ?_ | refine keeps_acceptScheduled ?_ | refine keeps_acceptStaged ?_ | refine keeps_accept' ?_ | refine keeps_partFault ?_ | (dsimp only) | split)
  all_goals try simp [kept_mk, kept_pack, kept_foldl, apply_ite kept]

theorem keeps_execFabricSetMcastVoq (l : LetterId) (voq enable : W32) (s : State) : Keeps s (execFabricSetMcastVoq l voq enable s) := by
  unfold execFabricSetMcastVoq
  try dsimp only
  refine keeps_next (kept_runLetter fun c => ?_)
  repeat' (first | exact keeps_reject | exact keeps_listError | refine keeps_checked ?_ | refine keeps_withList fun xs => ?_ | refine keeps_accept ?_ | refine keeps_acceptWait ?_ | refine keeps_acceptScheduled ?_ | refine keeps_acceptStaged ?_ | refine keeps_accept' ?_ | refine keeps_partFault ?_ | (dsimp only) | split)
  all_goals try simp [kept_mk, kept_pack, kept_foldl, apply_ite kept]

theorem keeps_execFabricSetMgroup (l : LetterId) (mgid : W32) (queues : ListArg W32) (s : State) : Keeps s (execFabricSetMgroup l mgid queues s) := by
  unfold execFabricSetMgroup
  try dsimp only
  refine keeps_next (kept_runLetter fun c => ?_)
  repeat' (first | exact keeps_reject | exact keeps_listError | refine keeps_checked ?_ | refine keeps_withList fun xs => ?_ | refine keeps_accept ?_ | refine keeps_acceptWait ?_ | refine keeps_acceptScheduled ?_ | refine keeps_acceptStaged ?_ | refine keeps_accept' ?_ | refine keeps_partFault ?_ | (dsimp only) | split)
  all_goals try simp [kept_mk, kept_pack, kept_foldl, apply_ite kept]

theorem keeps_execHbmCommandSlot (pchan : Fin 512) (outcome : ReadOutcome) (s : State) : Keeps s (execHbmCommandSlot pchan outcome s) := by
  unfold execHbmCommandSlot
  try unfold onPort onLink onEnvelope
  try dsimp only
  first
    | refine keeps_next ?_
    | refine keeps_onUnit ?_
    | (split <;> first | refine keeps_next ?_ | exact keeps_fault _)
  all_goals try dsimp only
  all_goals repeat' split
  all_goals try simp [kept_mk, kept_pack, kept_foldl, apply_ite kept]

theorem keeps_execPanicReadExpiry (pchan : Fin 512) (s : State) : Keeps s (execPanicReadExpiry pchan s) := by
  unfold execPanicReadExpiry
  try unfold onPort onLink onEnvelope
  try dsimp only
  first
    | refine keeps_next ?_
    | refine keeps_onUnit ?_
    | (split <;> first | refine keeps_next ?_ | exact keeps_fault _)
  all_goals try dsimp only
  all_goals repeat' split
  all_goals try simp [kept_mk, kept_pack, kept_foldl, apply_ite kept]

theorem keeps_execRefreshDue (pchan : Fin 512) (bank : Fin 64) (s : State) : Keeps s (execRefreshDue pchan bank s) := by
  unfold execRefreshDue
  try unfold onPort onLink onEnvelope
  try dsimp only
  first
    | refine keeps_next ?_
    | refine keeps_onUnit ?_
    | (split <;> first | refine keeps_next ?_ | exact keeps_fault _)
  all_goals try dsimp only
  all_goals repeat' split
  all_goals try simp [kept_mk, kept_pack, kept_foldl, apply_ite kept]

theorem keeps_execHbmTraining (stack : Fin 8) (lanes : List LaneSweep) (s : State) : Keeps s (execHbmTraining stack lanes s) := by
  unfold execHbmTraining
  refine keeps_onUnit ?_
  split
  · rfl
  · extract_lets todo r u v
    have e : kept u = kept s := by
      simp only [u, kept_recordRepairs, r]
      exact kept_foldl_fst _ _ _ fun a c => kept_trainPch _ _ _
    split
    · exact e
    · simpa using e

theorem keeps_execRetrainFence (stack : Fin 8) (s : State) : Keeps s (execRetrainFence stack s) := by
  unfold execRetrainFence
  try unfold onPort onLink onEnvelope
  try dsimp only
  first
    | refine keeps_next ?_
    | refine keeps_onUnit ?_
    | (split <;> first | refine keeps_next ?_ | exact keeps_fault _)
  all_goals try dsimp only
  all_goals repeat' split
  all_goals try simp [kept_mk, kept_pack, kept_foldl, apply_ite kept]

theorem keeps_execRetrainWindowStart (stack : Fin 8) (s : State) : Keeps s (execRetrainWindowStart stack s) := by
  unfold execRetrainWindowStart
  try unfold onPort onLink onEnvelope
  try dsimp only
  first
    | refine keeps_next ?_
    | refine keeps_onUnit ?_
    | (split <;> first | refine keeps_next ?_ | exact keeps_fault _)
  all_goals try dsimp only
  all_goals repeat' split
  all_goals try simp [kept_mk, kept_pack, kept_foldl, apply_ite kept]

theorem keeps_execRetrainWindowEnd (stack : Fin 8) (lanes : List LaneEdges) (s : State) :
    Keeps s (execRetrainWindowEnd stack lanes s) := by
  unfold execRetrainWindowEnd
  refine keeps_onUnit ?_
  split
  · rfl
  · dsimp only
    split
    · rfl
    · rw [kept_startDrain]
      rw [apply_ite kept, kept_drainPch, ite_self, apply_ite kept, kept_condition, kept_setPch, kept_setStack, kept_bump, kept_setPch,
        kept_foldl _ _ _ fun t e => by split <;> rfl, kept_setStack, ite_self]

theorem keeps_execSelfRefreshEntry (stack : Fin 8) (s : State) : Keeps s (execSelfRefreshEntry stack s) := by
  unfold execSelfRefreshEntry
  try unfold onPort onLink onEnvelope
  try dsimp only
  first
    | refine keeps_next ?_
    | refine keeps_onUnit ?_
    | (split <;> first | refine keeps_next ?_ | exact keeps_fault _)
  all_goals try dsimp only
  all_goals repeat' split
  all_goals try simp [kept_mk, kept_pack, kept_foldl, apply_ite kept]

theorem keeps_execSelfRefreshExit (stack : Fin 8) (s : State) : Keeps s (execSelfRefreshExit stack s) := by
  unfold execSelfRefreshExit
  try unfold onPort onLink onEnvelope
  try dsimp only
  first
    | refine keeps_next ?_
    | refine keeps_onUnit ?_
    | (split <;> first | refine keeps_next ?_ | exact keeps_fault _)
  all_goals try dsimp only
  all_goals repeat' split
  all_goals try simp [kept_mk, kept_pack, kept_foldl, apply_ite kept]

theorem keeps_execPchDrained (pchan : Fin 512) (s : State) : Keeps s (execPchDrained pchan s) := by
  unfold execPchDrained
  try unfold onPort onLink onEnvelope
  try dsimp only
  first
    | refine keeps_next ?_
    | refine keeps_onUnit ?_
    | (split <;> first | refine keeps_next ?_ | exact keeps_fault _)
  all_goals try dsimp only
  all_goals repeat' split
  all_goals try simp [kept_mk, kept_pack, kept_foldl, apply_ite kept]

theorem keeps_execStackDrainComplete (stack : Fin 8) (s : State) : Keeps s (execStackDrainComplete stack s) := by
  unfold execStackDrainComplete
  try unfold onPort onLink onEnvelope
  try dsimp only
  first
    | refine keeps_next ?_
    | refine keeps_onUnit ?_
    | (split <;> first | refine keeps_next ?_ | exact keeps_fault _)
  all_goals try dsimp only
  all_goals repeat' split
  all_goals try simp [kept_mk, kept_pack, kept_foldl, apply_ite kept]

theorem keeps_execHbmSetPanic (l : LetterId) (panicNs : W64) (s : State) : Keeps s (execHbmSetPanic l panicNs s) := by
  unfold execHbmSetPanic
  try dsimp only
  refine keeps_next (kept_runLetter fun c => ?_)
  repeat' (first | exact keeps_reject | exact keeps_listError | refine keeps_checked ?_ | refine keeps_withList fun xs => ?_ | refine keeps_accept ?_ | refine keeps_acceptWait ?_ | refine keeps_acceptScheduled ?_ | refine keeps_acceptStaged ?_ | refine keeps_accept' ?_ | refine keeps_partFault ?_ | (dsimp only) | split)
  all_goals try simp [kept_mk, kept_pack, kept_foldl, apply_ite kept]

theorem keeps_execHbmSetNeighbour (l : LetterId) (n : W32) (s : State) : Keeps s (execHbmSetNeighbour l n s) := by
  unfold execHbmSetNeighbour
  try dsimp only
  refine keeps_next (kept_runLetter fun c => ?_)
  repeat' (first | exact keeps_reject | exact keeps_listError | refine keeps_checked ?_ | refine keeps_withList fun xs => ?_ | refine keeps_accept ?_ | refine keeps_acceptWait ?_ | refine keeps_acceptScheduled ?_ | refine keeps_acceptStaged ?_ | refine keeps_accept' ?_ | refine keeps_partFault ?_ | (dsimp only) | split)
  all_goals try simp [kept_mk, kept_pack, kept_foldl, apply_ite kept]

theorem keeps_execHbmSetRetrain (l : LetterId) (period : W64) (s : State) : Keeps s (execHbmSetRetrain l period s) := by
  unfold execHbmSetRetrain
  try dsimp only
  refine keeps_next (kept_runLetter fun c => ?_)
  repeat' (first | exact keeps_reject | exact keeps_listError | refine keeps_checked ?_ | refine keeps_withList fun xs => ?_ | refine keeps_accept ?_ | refine keeps_acceptWait ?_ | refine keeps_acceptScheduled ?_ | refine keeps_acceptStaged ?_ | refine keeps_accept' ?_ | refine keeps_partFault ?_ | (dsimp only) | split)
  all_goals try simp [kept_mk, kept_pack, kept_foldl, apply_ite kept]

theorem keeps_execHbmRetrainNow (l : LetterId) (pchan : W32) (s : State) : Keeps s (execHbmRetrainNow l pchan s) := by
  unfold execHbmRetrainNow
  try dsimp only
  refine keeps_next (kept_runLetter fun c => ?_)
  repeat' (first | exact keeps_reject | exact keeps_listError | refine keeps_checked ?_ | refine keeps_withList fun xs => ?_ | refine keeps_accept ?_ | refine keeps_acceptWait ?_ | refine keeps_acceptScheduled ?_ | refine keeps_acceptStaged ?_ | refine keeps_accept' ?_ | refine keeps_partFault ?_ | (dsimp only) | split)
  all_goals try simp [kept_mk, kept_pack, kept_foldl, apply_ite kept]

theorem keeps_execHbmSetSelfRefresh (l : LetterId) (srIdle : W64) (s : State) : Keeps s (execHbmSetSelfRefresh l srIdle s) := by
  unfold execHbmSetSelfRefresh
  try dsimp only
  refine keeps_next (kept_runLetter fun c => ?_)
  repeat' (first | exact keeps_reject | exact keeps_listError | refine keeps_checked ?_ | refine keeps_withList fun xs => ?_ | refine keeps_accept ?_ | refine keeps_acceptWait ?_ | refine keeps_acceptScheduled ?_ | refine keeps_acceptStaged ?_ | refine keeps_accept' ?_ | refine keeps_partFault ?_ | (dsimp only) | split)
  all_goals try simp [kept_mk, kept_pack, kept_foldl, apply_ite kept]

theorem keeps_execHbmDisableStack (l : LetterId) (stack : W32) (s : State) : Keeps s (execHbmDisableStack l stack s) := by
  unfold execHbmDisableStack
  try dsimp only
  refine keeps_next (kept_runLetter fun c => ?_)
  repeat' (first | exact keeps_reject | exact keeps_listError | refine keeps_checked ?_ | refine keeps_withList fun xs => ?_ | refine keeps_accept ?_ | refine keeps_acceptWait ?_ | refine keeps_acceptScheduled ?_ | refine keeps_acceptStaged ?_ | refine keeps_accept' ?_ | refine keeps_partFault ?_ | (dsimp only) | split)
  all_goals try simp [kept_mk, kept_pack, kept_foldl, apply_ite kept]

theorem keeps_execHbmEnableStack (l : LetterId) (stack : W32) (s : State) : Keeps s (execHbmEnableStack l stack s) := by
  unfold execHbmEnableStack
  try dsimp only
  refine keeps_next (kept_runLetter fun c => ?_)
  repeat' (first | exact keeps_reject | exact keeps_listError | refine keeps_checked ?_ | refine keeps_withList fun xs => ?_ | refine keeps_accept ?_ | refine keeps_acceptWait ?_ | refine keeps_acceptScheduled ?_ | refine keeps_acceptStaged ?_ | refine keeps_accept' ?_ | refine keeps_partFault ?_ | (dsimp only) | split)
  all_goals try simp [kept_mk, kept_pack, kept_foldl, apply_ite kept]

theorem keeps_execHbmReadEyes (l : LetterId) (stack : W32) (result : W64) (busOk : Bool) (s : State) :
    Keeps s (execHbmReadEyes l stack result busOk s) := by
  unfold execHbmReadEyes
  refine keeps_next (kept_runLetter fun c => keeps_checked (keeps_withResult fun u h => keeps_accept h))

theorem keeps_execSliceCreate (l : LetterId) (slice pasid : W32) (quotas : ListArg QuotaItem) (letters receipts : W64) (depth : W32) (s : State) : Keeps s (execSliceCreate l slice pasid quotas letters receipts depth s) := by
  unfold execSliceCreate
  try dsimp only
  refine keeps_next (kept_runLetter fun c => ?_)
  repeat' (first | exact keeps_reject | exact keeps_listError | refine keeps_checked ?_ | refine keeps_withList fun xs => ?_ | refine keeps_accept ?_ | refine keeps_acceptWait ?_ | refine keeps_acceptScheduled ?_ | refine keeps_acceptStaged ?_ | refine keeps_accept' ?_ | refine keeps_partFault ?_ | (dsimp only) | split)
  all_goals try simp [kept_mk, kept_pack, kept_foldl, apply_ite kept]

theorem keeps_execSliceSetShare (l : LetterId) (slice : W32) (quotas : ListArg QuotaItem) (s : State) : Keeps s (execSliceSetShare l slice quotas s) := by
  unfold execSliceSetShare
  try dsimp only
  refine keeps_next (kept_runLetter fun c => ?_)
  repeat' (first | exact keeps_reject | exact keeps_listError | refine keeps_checked ?_ | refine keeps_withList fun xs => ?_ | refine keeps_accept ?_ | refine keeps_acceptWait ?_ | refine keeps_acceptScheduled ?_ | refine keeps_acceptStaged ?_ | refine keeps_accept' ?_ | refine keeps_partFault ?_ | (dsimp only) | split)
  all_goals try simp [kept_mk, kept_pack, kept_foldl, apply_ite kept]

theorem keeps_execSliceHoldQuiesced (slice : Fin 64) (s : State) : Keeps s (execSliceHoldQuiesced slice s) := by
  unfold execSliceHoldQuiesced
  try unfold onPort onLink onEnvelope
  try dsimp only
  first
    | refine keeps_next ?_
    | refine keeps_onUnit ?_
    | (split <;> first | refine keeps_next ?_ | exact keeps_fault _)
  all_goals try dsimp only
  all_goals repeat' split
  all_goals try simp [kept_mk, kept_pack, kept_foldl, apply_ite kept]

theorem keeps_execSliceReset (l : LetterId) (slice : W32) (s : State) : Keeps s (execSliceReset l slice s) := by
  unfold execSliceReset
  have e : kept (runLetter l 0x0F03 [p4 slice] (fun _ => s.resetVerdict l slice.toNat (layBody [p4 slice])) s) = kept s := by
    refine kept_runLetter fun c => ?_
    unfold State.resetVerdict
    refine keeps_checked ?_
    split
    · exact keeps_accept (by simp)
    · exact keeps_acceptWait (by simp)
  refine keeps_next ?_
  split
  · rw [kept_zeroReceipt]; exact e
  · exact e

theorem keeps_execSliceQuiescence (squashedWrites squashedReads : BitVec 32) (s : State) : Keeps s (execSliceQuiescence squashedWrites squashedReads s) := by
  unfold execSliceQuiescence
  try unfold onPort onLink onEnvelope
  try dsimp only
  first
    | refine keeps_next ?_
    | refine keeps_onUnit ?_
    | (split <;> first | refine keeps_next ?_ | exact keeps_fault _)
  all_goals try dsimp only
  all_goals repeat' split
  all_goals try simp [kept_mk, kept_pack, kept_foldl, apply_ite kept]

theorem keeps_execSliceResetClear (s : State) : Keeps s (execSliceResetClear s) := by
  unfold execSliceResetClear
  try unfold onPort onLink onEnvelope
  try dsimp only
  first
    | refine keeps_next ?_
    | refine keeps_onUnit ?_
    | (split <;> first | refine keeps_next ?_ | exact keeps_fault _)
  all_goals try dsimp only
  all_goals repeat' split
  all_goals try simp [kept_mk, kept_pack, kept_foldl, apply_ite kept]

theorem keeps_execSliceDelete (l : LetterId) (slice : W32) (s : State) : Keeps s (execSliceDelete l slice s) := by
  unfold execSliceDelete
  try dsimp only
  refine keeps_next (kept_runLetter fun c => ?_)
  repeat' (first | exact keeps_reject | exact keeps_listError | refine keeps_checked ?_ | refine keeps_withList fun xs => ?_ | refine keeps_accept ?_ | refine keeps_acceptWait ?_ | refine keeps_acceptScheduled ?_ | refine keeps_acceptStaged ?_ | refine keeps_accept' ?_ | refine keeps_partFault ?_ | (dsimp only) | split)
  all_goals try simp [kept_mk, kept_pack, kept_foldl, apply_ite kept]

theorem keeps_execSliceBindInband (l : LetterId) (slice : W32) (address : Ip) (udpPort : W32) (s : State) : Keeps s (execSliceBindInband l slice address udpPort s) := by
  unfold execSliceBindInband
  try dsimp only
  refine keeps_next (kept_runLetter fun c => ?_)
  repeat' (first | exact keeps_reject | exact keeps_listError | refine keeps_checked ?_ | refine keeps_withList fun xs => ?_ | refine keeps_accept ?_ | refine keeps_acceptWait ?_ | refine keeps_acceptScheduled ?_ | refine keeps_acceptStaged ?_ | refine keeps_accept' ?_ | refine keeps_partFault ?_ | (dsimp only) | split)
  all_goals try simp [kept_mk, kept_pack, kept_foldl, apply_ite kept]

theorem keeps_execSliceDirtyLog (l : LetterId) (slice enable : W32) (bitmap size : W64) (busOk : Bool) (s : State) : Keeps s (execSliceDirtyLog l slice enable bitmap size busOk s) := by
  unfold execSliceDirtyLog
  try dsimp only
  refine keeps_next (kept_runLetter fun c => ?_)
  repeat' (first | exact keeps_reject | exact keeps_listError | refine keeps_checked ?_ | refine keeps_withList fun xs => ?_ | refine keeps_accept ?_ | refine keeps_acceptWait ?_ | refine keeps_acceptScheduled ?_ | refine keeps_acceptStaged ?_ | refine keeps_accept' ?_ | refine keeps_partFault ?_ | (dsimp only) | split)
  all_goals try simp [kept_mk, kept_pack, kept_foldl, apply_ite kept]

theorem keeps_execSliceStatus (l : LetterId) (slice : W32) (s : State) : Keeps s (execSliceStatus l slice s) := by
  unfold execSliceStatus
  try dsimp only
  refine keeps_next (kept_runLetter fun c => ?_)
  repeat' (first | exact keeps_reject | exact keeps_listError | refine keeps_checked ?_ | refine keeps_withList fun xs => ?_ | refine keeps_accept ?_ | refine keeps_acceptWait ?_ | refine keeps_acceptScheduled ?_ | refine keeps_acceptStaged ?_ | refine keeps_accept' ?_ | refine keeps_partFault ?_ | (dsimp only) | split)
  all_goals try simp [kept_mk, kept_pack, kept_foldl, apply_ite kept]

theorem keeps_execCourierBurst (toHost : Bool) (requester : Requester) (bytes : BitVec 13) (busOk : Bool) (s : State) :
    Keeps s (execCourierBurst toHost requester bytes busOk s) := by
  unfold execCourierBurst
  refine keeps_next ?_
  dsimp only
  split
  · split <;> simp
  · repeat' split
    all_goals try rfl
    all_goals
      rename_i h
      rw [kept_bump, kept_grantBus h]

theorem keeps_execCourierReadReturn (channel : Fin 64) (data : Option (List Byte)) (s : State) : Keeps s (execCourierReadReturn channel data s) := by
  unfold execCourierReadReturn
  try unfold onPort onLink onEnvelope
  try dsimp only
  first
    | refine keeps_next ?_
    | refine keeps_onUnit ?_
    | (split <;> first | refine keeps_next ?_ | exact keeps_fault _)
  all_goals try dsimp only
  all_goals repeat' split
  all_goals try simp [kept_mk, kept_pack, kept_foldl, apply_ite kept]

theorem keeps_execDescriptorComplete (channel : Fin 64) (s : State) : Keeps s (execDescriptorComplete channel s) := by
  unfold execDescriptorComplete
  try unfold onPort onLink onEnvelope
  try dsimp only
  first
    | refine keeps_next ?_
    | refine keeps_onUnit ?_
    | (split <;> first | refine keeps_next ?_ | exact keeps_fault _)
  all_goals try dsimp only
  all_goals repeat' split
  all_goals try simp [kept_mk, kept_pack, kept_foldl, apply_ite kept]

theorem keeps_execInjectRecord (channel : Fin 64) (rivals : List Rival) (s : State) : Keeps s (execInjectRecord channel rivals s) := by
  unfold execInjectRecord
  try unfold onPort onLink onEnvelope
  try dsimp only
  first
    | refine keeps_next ?_
    | refine keeps_onUnit ?_
    | (split <;> first | refine keeps_next ?_ | exact keeps_fault _)
  all_goals try dsimp only
  all_goals repeat' split
  all_goals try simp [kept_mk, kept_pack, kept_foldl, apply_ite kept]

theorem keeps_execCircularRecordWrite (channel : Fin 64) (s : State) : Keeps s (execCircularRecordWrite channel s) := by
  unfold execCircularRecordWrite
  try unfold onPort onLink onEnvelope
  try dsimp only
  first
    | refine keeps_next ?_
    | refine keeps_onUnit ?_
    | (split <;> first | refine keeps_next ?_ | exact keeps_fault _)
  all_goals try dsimp only
  all_goals repeat' split
  all_goals try simp [kept_mk, kept_pack, kept_foldl, apply_ite kept]

theorem keeps_execCourierStopBoundary (channel : Fin 64) (s : State) : Keeps s (execCourierStopBoundary channel s) := by
  unfold execCourierStopBoundary
  try unfold onPort onLink onEnvelope
  try dsimp only
  first
    | refine keeps_next ?_
    | refine keeps_onUnit ?_
    | (split <;> first | refine keeps_next ?_ | exact keeps_fault _)
  all_goals try dsimp only
  all_goals repeat' split
  all_goals try simp [kept_mk, kept_pack, kept_foldl, apply_ite kept]

theorem keeps_execCourierOpenChannel (l : LetterId) (channel : W32) (ring : W64) (depth share : W32) (s : State) : Keeps s (execCourierOpenChannel l channel ring depth share s) := by
  unfold execCourierOpenChannel
  try dsimp only
  refine keeps_next (kept_runLetter fun c => ?_)
  repeat' (first | exact keeps_reject | exact keeps_listError | refine keeps_checked ?_ | refine keeps_withList fun xs => ?_ | refine keeps_accept ?_ | refine keeps_acceptWait ?_ | refine keeps_acceptScheduled ?_ | refine keeps_acceptStaged ?_ | refine keeps_accept' ?_ | refine keeps_partFault ?_ | (dsimp only) | split)
  all_goals try simp [kept_mk, kept_pack, kept_foldl, apply_ite kept]

theorem keeps_execCourierStop (l : LetterId) (channel : W32) (s : State) : Keeps s (execCourierStop l channel s) := by
  unfold execCourierStop
  try dsimp only
  refine keeps_next (kept_runLetter fun c => ?_)
  repeat' (first | exact keeps_reject | exact keeps_listError | refine keeps_checked ?_ | refine keeps_withList fun xs => ?_ | refine keeps_accept ?_ | refine keeps_acceptWait ?_ | refine keeps_acceptScheduled ?_ | refine keeps_acceptStaged ?_ | refine keeps_accept' ?_ | refine keeps_partFault ?_ | (dsimp only) | split)
  all_goals try simp [kept_mk, kept_pack, kept_foldl, apply_ite kept]

theorem keeps_execCourierClose (l : LetterId) (channel : W32) (s : State) : Keeps s (execCourierClose l channel s) := by
  unfold execCourierClose
  try dsimp only
  refine keeps_next (kept_runLetter fun c => ?_)
  repeat' (first | exact keeps_reject | exact keeps_listError | refine keeps_checked ?_ | refine keeps_withList fun xs => ?_ | refine keeps_accept ?_ | refine keeps_acceptWait ?_ | refine keeps_acceptScheduled ?_ | refine keeps_acceptStaged ?_ | refine keeps_accept' ?_ | refine keeps_partFault ?_ | (dsimp only) | split)
  all_goals try simp [kept_mk, kept_pack, kept_foldl, apply_ite kept]

theorem keeps_execCourierSetShare (l : LetterId) (channel share : W32) (s : State) : Keeps s (execCourierSetShare l channel share s) := by
  unfold execCourierSetShare
  try dsimp only
  refine keeps_next (kept_runLetter fun c => ?_)
  repeat' (first | exact keeps_reject | exact keeps_listError | refine keeps_checked ?_ | refine keeps_withList fun xs => ?_ | refine keeps_accept ?_ | refine keeps_acceptWait ?_ | refine keeps_acceptScheduled ?_ | refine keeps_acceptStaged ?_ | refine keeps_accept' ?_ | refine keeps_partFault ?_ | (dsimp only) | split)
  all_goals try simp [kept_mk, kept_pack, kept_foldl, apply_ite kept]

theorem keeps_execHeartbeat (pm : Pm) (s : State) : Keeps s (execHeartbeat pm s) := by
  unfold execHeartbeat
  try unfold onPort onLink onEnvelope
  try dsimp only
  first
    | refine keeps_next ?_
    | refine keeps_onUnit ?_
    | (split <;> first | refine keeps_next ?_ | exact keeps_fault _)
  all_goals try dsimp only
  all_goals repeat' split
  all_goals try simp [kept_mk, kept_pack, kept_foldl, apply_ite kept]

theorem keeps_execHeartbeatLapse (s : State) : Keeps s (execHeartbeatLapse s) := by
  unfold execHeartbeatLapse
  try unfold onPort onLink onEnvelope
  try dsimp only
  first
    | refine keeps_next ?_
    | refine keeps_onUnit ?_
    | (split <;> first | refine keeps_next ?_ | exact keeps_fault _)
  all_goals try dsimp only
  all_goals repeat' split
  all_goals try simp [kept_mk, kept_pack, kept_foldl, apply_ite kept]

theorem keeps_execRoleGrant (pm : Pm) (s : State) : Keeps s (execRoleGrant pm s) := by
  unfold execRoleGrant
  try unfold onPort onLink onEnvelope
  try dsimp only
  first
    | refine keeps_next ?_
    | refine keeps_onUnit ?_
    | (split <;> first | refine keeps_next ?_ | exact keeps_fault _)
  all_goals try dsimp only
  all_goals repeat' split
  all_goals try simp [kept_mk, kept_pack, kept_foldl, apply_ite kept]

theorem keeps_execStopConfirmation (pm : Pm) (s : State) : Keeps s (execStopConfirmation pm s) := by
  unfold execStopConfirmation
  try unfold onPort onLink onEnvelope
  try dsimp only
  first
    | refine keeps_next ?_
    | refine keeps_onUnit ?_
    | (split <;> first | refine keeps_next ?_ | exact keeps_fault _)
  all_goals try dsimp only
  all_goals repeat' split
  all_goals try simp [kept_mk, kept_pack, kept_foldl, apply_ite kept]

theorem keeps_execDualActiveTimeout (s : State) : Keeps s (execDualActiveTimeout s) := by
  unfold execDualActiveTimeout
  try unfold onPort onLink onEnvelope
  try dsimp only
  first
    | refine keeps_next ?_
    | refine keeps_onUnit ?_
    | (split <;> first | refine keeps_next ?_ | exact keeps_fault _)
  all_goals try dsimp only
  all_goals repeat' split
  all_goals try simp [kept_mk, kept_pack, kept_foldl, apply_ite kept]

theorem keeps_execPostmasterRestart (pm : Pm) (s : State) : Keeps s (execPostmasterRestart pm s) := by
  unfold execPostmasterRestart
  try unfold onPort onLink onEnvelope
  try dsimp only
  first
    | refine keeps_next ?_
    | refine keeps_onUnit ?_
    | (split <;> first | refine keeps_next ?_ | exact keeps_fault _)
  all_goals try dsimp only
  all_goals repeat' split
  all_goals try simp [kept_mk, kept_pack, kept_foldl, apply_ite kept]

theorem keeps_execBootSelftestDone (pm : Pm) (passed : Bool) (s : State) : Keeps s (execBootSelftestDone pm passed s) := by
  unfold execBootSelftestDone
  try unfold onPort onLink onEnvelope
  try dsimp only
  first
    | refine keeps_next ?_
    | refine keeps_onUnit ?_
    | (split <;> first | refine keeps_next ?_ | exact keeps_fault _)
  all_goals try dsimp only
  all_goals repeat' split
  all_goals try simp [kept_mk, kept_pack, kept_foldl, apply_ite kept]

theorem keeps_execSyncComplete (pm : Pm) (crcAgrees : Bool) (s : State) : Keeps s (execSyncComplete pm crcAgrees s) := by
  unfold execSyncComplete
  try unfold onPort onLink onEnvelope
  try dsimp only
  first
    | refine keeps_next ?_
    | refine keeps_onUnit ?_
    | (split <;> first | refine keeps_next ?_ | exact keeps_fault _)
  all_goals try dsimp only
  all_goals repeat' split
  all_goals try simp [kept_mk, kept_pack, kept_foldl, apply_ite kept]

theorem keeps_execStandbyAckTimeout (s : State) : Keeps s (execStandbyAckTimeout s) := by
  unfold execStandbyAckTimeout
  try unfold onPort onLink onEnvelope
  try dsimp only
  first
    | refine keeps_next ?_
    | refine keeps_onUnit ?_
    | (split <;> first | refine keeps_next ?_ | exact keeps_fault _)
  all_goals try dsimp only
  all_goals repeat' split
  all_goals try simp [kept_mk, kept_pack, kept_foldl, apply_ite kept]

theorem keeps_execSelftestItem (pm : Pm) (item : SelftestItem) (passed : Bool) (s : State) : Keeps s (execSelftestItem pm item passed s) := by
  unfold execSelftestItem
  try unfold onPort onLink onEnvelope
  try dsimp only
  first
    | refine keeps_next ?_
    | refine keeps_onUnit ?_
    | (split <;> first | refine keeps_next ?_ | exact keeps_fault _)
  all_goals try dsimp only
  all_goals repeat' split
  all_goals try simp [kept_mk, kept_pack, kept_foldl, apply_ite kept]

theorem keeps_execPostmasterFailure (pm : Pm) (code : FailCode) (s : State) : Keeps s (execPostmasterFailure pm code s) := by
  unfold execPostmasterFailure
  try unfold onPort onLink onEnvelope
  try dsimp only
  first
    | refine keeps_next ?_
    | refine keeps_onUnit ?_
    | (split <;> first | refine keeps_next ?_ | exact keeps_fault _)
  all_goals try dsimp only
  all_goals repeat' split
  all_goals try simp [kept_mk, kept_pack, kept_foldl, apply_ite kept]

theorem keeps_execHealthWrite (pm : Pm) (temp : Byte) (s : State) : Keeps s (execHealthWrite pm temp s) := by
  unfold execHealthWrite
  try unfold onPort onLink onEnvelope
  try dsimp only
  first
    | refine keeps_next ?_
    | refine keeps_onUnit ?_
    | (split <;> first | refine keeps_next ?_ | exact keeps_fault _)
  all_goals try dsimp only
  all_goals repeat' split
  all_goals try simp [kept_mk, kept_pack, kept_foldl, apply_ite kept]

theorem keeps_execHeadlessRebuild (pm : Pm) (s : State) : Keeps s (execHeadlessRebuild pm s) := by
  unfold execHeadlessRebuild
  try unfold onPort onLink onEnvelope
  try dsimp only
  first
    | refine keeps_next ?_
    | refine keeps_onUnit ?_
    | (split <;> first | refine keeps_next ?_ | exact keeps_fault _)
  all_goals try dsimp only
  all_goals repeat' split
  all_goals try simp [kept_mk, kept_pack, kept_foldl, apply_ite kept]

theorem keeps_execImageWrite (l : LetterId) (part bank : W32) (offset : W64) (data : ListArg Byte) (s : State) :
    Keeps s (execImageWrite l part bank offset data s) := by
  unfold execImageWrite
  extract_lets ps p b off early header refused t
  have e : kept t = kept s := by
    refine kept_runLetter fun c => keeps_checked ?_
    split
    · refine keeps_partFault ?_
      split <;> simp
    · generalize header = z
      cases z with
      | some r => exact keeps_reject
      | none =>
        refine keeps_checked (keeps_acceptWait ?_)
        simp
  refine keeps_next ?_
  split
  · rw [kept_bump]; exact e
  · exact e

theorem keeps_execFlashWriteComplete (readBackOk : Bool) (s : State) : Keeps s (execFlashWriteComplete readBackOk s) := by
  unfold execFlashWriteComplete
  try unfold onPort
  try dsimp only
  first
    | refine keeps_next ?_
    | refine keeps_onUnit ?_
    | (split <;> first | refine keeps_next ?_ | exact keeps_fault _)
  all_goals try dsimp only
  all_goals repeat' split
  all_goals try simp [kept_mk, kept_pack, kept_foldl, apply_ite kept]
  all_goals first
    | exact kept_takeJob ‹_›
    | (rw [kept_takeJob ‹_›]; simp [kept_mk, kept_pack]; done)


theorem keeps_execImageVerify (l : LetterId) (part bank : W32) (s : State) : Keeps s (execImageVerify l part bank s) := by
  unfold execImageVerify
  try dsimp only
  refine keeps_next (kept_runLetter fun c => ?_)
  repeat' (first | exact keeps_reject | exact keeps_listError | refine keeps_checked ?_ | refine keeps_withList fun xs => ?_ | refine keeps_accept ?_ | refine keeps_acceptWait ?_ | refine keeps_acceptScheduled ?_ | refine keeps_acceptStaged ?_ | refine keeps_accept' ?_ | refine keeps_partFault ?_ | (dsimp only) | split)
  all_goals try simp [kept_mk, kept_pack, kept_foldl, apply_ite kept]

theorem keeps_execImageVerifyComplete (part : Fin 6) (bankB : Bool) (s : State) : Keeps s (execImageVerifyComplete part bankB s) := by
  unfold execImageVerifyComplete
  try unfold onPort
  try dsimp only
  first
    | refine keeps_next ?_
    | refine keeps_onUnit ?_
    | (split <;> first | refine keeps_next ?_ | exact keeps_fault _)
  all_goals try dsimp only
  all_goals repeat' split
  all_goals try simp [kept_mk, kept_pack, kept_foldl, apply_ite kept]
  all_goals first
    | exact kept_takeJob ‹_›
    | (rw [kept_takeJob ‹_›]; simp [kept_mk, kept_pack]; done)


theorem keeps_execImageActivate (l : LetterId) (parts : W32) (t : TimeParam) (s : State) : Keeps s (execImageActivate l parts t s) := by
  unfold execImageActivate
  try dsimp only
  refine keeps_next (kept_runLetter fun c => ?_)
  repeat' (first | exact keeps_reject | exact keeps_listError | refine keeps_checked ?_ | refine keeps_withList fun xs => ?_ | refine keeps_accept ?_ | refine keeps_acceptWait ?_ | refine keeps_acceptScheduled ?_ | refine keeps_acceptStaged ?_ | refine keeps_accept' ?_ | refine keeps_partFault ?_ | (dsimp only) | split)
  all_goals try simp [kept_mk, kept_pack, kept_foldl, apply_ite kept]

theorem keeps_execImageAbort (l : LetterId) (parts : W32) (s : State) : Keeps s (execImageAbort l parts s) := by
  unfold execImageAbort
  try dsimp only
  refine keeps_next (kept_runLetter fun c => ?_)
  repeat' (first | exact keeps_reject | exact keeps_listError | refine keeps_checked ?_ | refine keeps_withList fun xs => ?_ | refine keeps_accept ?_ | refine keeps_acceptWait ?_ | refine keeps_acceptScheduled ?_ | refine keeps_acceptStaged ?_ | refine keeps_accept' ?_ | refine keeps_partFault ?_ | (dsimp only) | split)
  all_goals try simp [kept_mk, kept_pack, kept_foldl, apply_ite kept]

theorem keeps_execImageList (l : LetterId) (s : State) : Keeps s (execImageList l s) := by
  unfold execImageList
  try dsimp only
  refine keeps_next (kept_runLetter fun c => ?_)
  repeat' (first | exact keeps_reject | exact keeps_listError | refine keeps_checked ?_ | refine keeps_withList fun xs => ?_ | refine keeps_accept ?_ | refine keeps_acceptWait ?_ | refine keeps_acceptScheduled ?_ | refine keeps_acceptStaged ?_ | refine keeps_accept' ?_ | refine keeps_partFault ?_ | (dsimp only) | split)
  all_goals try simp [kept_mk, kept_pack, kept_foldl, apply_ite kept]

theorem keeps_execActivationStart (s : State) : Keeps s (execActivationStart s) := by
  unfold execActivationStart
  try unfold onPort onLink onEnvelope
  try dsimp only
  first
    | refine keeps_next ?_
    | refine keeps_onUnit ?_
    | (split <;> first | refine keeps_next ?_ | exact keeps_fault _)
  all_goals try dsimp only
  all_goals repeat' split
  all_goals try simp [kept_mk, kept_pack, kept_foldl, apply_ite kept]

theorem keeps_execRolloutStepEnd (s : State) : Keeps s (execRolloutStepEnd s) := by
  unfold execRolloutStepEnd
  try unfold onPort onLink onEnvelope
  try dsimp only
  first
    | refine keeps_next ?_
    | refine keeps_onUnit ?_
    | (split <;> first | refine keeps_next ?_ | exact keeps_fault _)
  all_goals try dsimp only
  all_goals repeat' split
  all_goals try simp [kept_mk, kept_pack, kept_foldl, apply_ite kept]

theorem keeps_execRolloutStepTimeout (s : State) : Keeps s (execRolloutStepTimeout s) := by
  unfold execRolloutStepTimeout
  try unfold onPort onLink onEnvelope
  try dsimp only
  first
    | refine keeps_next ?_
    | refine keeps_onUnit ?_
    | (split <;> first | refine keeps_next ?_ | exact keeps_fault _)
  all_goals try dsimp only
  all_goals repeat' split
  all_goals try simp [kept_mk, kept_pack, kept_foldl, apply_ite kept]

theorem keeps_execSweepStart (s : State) : Keeps s (execSweepStart s) := by
  unfold execSweepStart
  try unfold onPort onLink onEnvelope
  try dsimp only
  first
    | refine keeps_next ?_
    | refine keeps_onUnit ?_
    | (split <;> first | refine keeps_next ?_ | exact keeps_fault _)
  all_goals try dsimp only
  all_goals repeat' split
  all_goals try simp [kept_mk, kept_pack, kept_foldl, apply_ite kept]

theorem keeps_execSweepRead (s : State) : Keeps s (execSweepRead s) := by
  unfold execSweepRead
  try unfold onPort onLink onEnvelope
  try dsimp only
  first
    | refine keeps_next ?_
    | refine keeps_onUnit ?_
    | (split <;> first | refine keeps_next ?_ | exact keeps_fault _)
  all_goals try dsimp only
  all_goals repeat' split
  all_goals try simp [kept_mk, kept_pack, kept_foldl, apply_ite kept]

theorem keeps_execSnapshotLatch (s : State) : Keeps s (execSnapshotLatch s) := by
  unfold execSnapshotLatch
  try unfold onPort onLink onEnvelope
  try dsimp only
  first
    | refine keeps_next ?_
    | refine keeps_onUnit ?_
    | (split <;> first | refine keeps_next ?_ | exact keeps_fault _)
  all_goals try dsimp only
  all_goals repeat' split
  all_goals try simp [kept_mk, kept_pack, kept_foldl, apply_ite kept]

theorem keeps_execTelemetryReadCounters (l : LetterId) (first count : W32) (result : W64) (busOk : Bool) (s : State) :
    Keeps s (execTelemetryReadCounters l first count result busOk s) := by
  unfold execTelemetryReadCounters
  refine keeps_next (kept_runLetter fun c => keeps_checked (keeps_withResult fun u h => keeps_accept ?_))
  rw [kept_clearPeaks]
  exact h

theorem keeps_execTelemetrySnapshot (l : LetterId) (ranges : ListArg W64) (result : W64) (s : State) : Keeps s (execTelemetrySnapshot l ranges result s) := by
  unfold execTelemetrySnapshot
  try dsimp only
  refine keeps_next (kept_runLetter fun c => ?_)
  repeat' (first | exact keeps_reject | exact keeps_listError | refine keeps_checked ?_ | refine keeps_withList fun xs => ?_ | refine keeps_accept ?_ | refine keeps_acceptWait ?_ | refine keeps_acceptScheduled ?_ | refine keeps_acceptStaged ?_ | refine keeps_accept' ?_ | refine keeps_partFault ?_ | (dsimp only) | split)
  all_goals try simp [kept_mk, kept_pack, kept_foldl, apply_ite kept]

theorem keeps_execTelemetrySetTagging (l : LetterId) (ratio : W32) (s : State) : Keeps s (execTelemetrySetTagging l ratio s) := by
  unfold execTelemetrySetTagging
  try dsimp only
  refine keeps_next (kept_runLetter fun c => ?_)
  repeat' (first | exact keeps_reject | exact keeps_listError | refine keeps_checked ?_ | refine keeps_withList fun xs => ?_ | refine keeps_accept ?_ | refine keeps_acceptWait ?_ | refine keeps_acceptScheduled ?_ | refine keeps_acceptStaged ?_ | refine keeps_accept' ?_ | refine keeps_partFault ?_ | (dsimp only) | split)
  all_goals try simp [kept_mk, kept_pack, kept_foldl, apply_ite kept]

theorem keeps_execTelemetrySetTrace (l : LetterId) (benches filter mode : W32) (s : State) : Keeps s (execTelemetrySetTrace l benches filter mode s) := by
  unfold execTelemetrySetTrace
  try dsimp only
  refine keeps_next (kept_runLetter fun c => ?_)
  repeat' (first | exact keeps_reject | exact keeps_listError | refine keeps_checked ?_ | refine keeps_withList fun xs => ?_ | refine keeps_accept ?_ | refine keeps_acceptWait ?_ | refine keeps_acceptScheduled ?_ | refine keeps_acceptStaged ?_ | refine keeps_accept' ?_ | refine keeps_partFault ?_ | (dsimp only) | split)
  all_goals try simp [kept_mk, kept_pack, kept_foldl, apply_ite kept]

theorem keeps_execPowerRead (l : LetterId) (s : State) : Keeps s (execPowerRead l s) := by
  unfold execPowerRead
  try dsimp only
  refine keeps_next (kept_runLetter fun c => ?_)
  repeat' (first | exact keeps_reject | exact keeps_listError | refine keeps_checked ?_ | refine keeps_withList fun xs => ?_ | refine keeps_accept ?_ | refine keeps_acceptWait ?_ | refine keeps_acceptScheduled ?_ | refine keeps_acceptStaged ?_ | refine keeps_accept' ?_ | refine keeps_partFault ?_ | (dsimp only) | split)
  all_goals try simp [kept_mk, kept_pack, kept_foldl, apply_ite kept]

theorem keeps_execPowerSetCap (l : LetterId) (cap : W32) (s : State) : Keeps s (execPowerSetCap l cap s) := by
  unfold execPowerSetCap
  try dsimp only
  refine keeps_next (kept_runLetter fun c => ?_)
  repeat' (first | exact keeps_reject | exact keeps_listError | refine keeps_checked ?_ | refine keeps_withList fun xs => ?_ | refine keeps_accept ?_ | refine keeps_acceptWait ?_ | refine keeps_acceptScheduled ?_ | refine keeps_acceptStaged ?_ | refine keeps_accept' ?_ | refine keeps_partFault ?_ | (dsimp only) | split)
  all_goals try simp [kept_mk, kept_pack, kept_foldl, apply_ite kept]

theorem keeps_execPowerSetAlert (l : LetterId) (inputLow inputHigh temp : W32) (s : State) : Keeps s (execPowerSetAlert l inputLow inputHigh temp s) := by
  unfold execPowerSetAlert
  try dsimp only
  refine keeps_next (kept_runLetter fun c => ?_)
  repeat' (first | exact keeps_reject | exact keeps_listError | refine keeps_checked ?_ | refine keeps_withList fun xs => ?_ | refine keeps_accept ?_ | refine keeps_acceptWait ?_ | refine keeps_acceptScheduled ?_ | refine keeps_acceptStaged ?_ | refine keeps_accept' ?_ | refine keeps_partFault ?_ | (dsimp only) | split)
  all_goals try simp [kept_mk, kept_pack, kept_foldl, apply_ite kept]

theorem keeps_execFaultRead (l : LetterId) (first count : W32) (result : W64) (busOk : Bool) (s : State) :
    Keeps s (execFaultRead l first count result busOk s) := by
  unfold execFaultRead
  refine keeps_next (kept_runLetter fun c => keeps_checked ?_)
  dsimp only
  split
  · exact keeps_accept rfl
  · exact keeps_withResult fun u h => keeps_accept h

theorem keeps_execFaultClear (l : LetterId) (code : W32) (s : State) : Keeps s (execFaultClear l code s) := by
  unfold execFaultClear
  try dsimp only
  refine keeps_next (kept_runLetter fun c => ?_)
  repeat' (first | exact keeps_reject | exact keeps_listError | refine keeps_checked ?_ | refine keeps_withList fun xs => ?_ | refine keeps_accept ?_ | refine keeps_acceptWait ?_ | refine keeps_acceptScheduled ?_ | refine keeps_acceptStaged ?_ | refine keeps_accept' ?_ | refine keeps_partFault ?_ | (dsimp only) | split)
  all_goals try simp [kept_mk, kept_pack, kept_foldl, apply_ite kept]

theorem keeps_execFaultSetMask (l : LetterId) (code paths : W32) (s : State) : Keeps s (execFaultSetMask l code paths s) := by
  unfold execFaultSetMask
  try dsimp only
  refine keeps_next (kept_runLetter fun c => ?_)
  repeat' (first | exact keeps_reject | exact keeps_listError | refine keeps_checked ?_ | refine keeps_withList fun xs => ?_ | refine keeps_accept ?_ | refine keeps_acceptWait ?_ | refine keeps_acceptScheduled ?_ | refine keeps_acceptStaged ?_ | refine keeps_accept' ?_ | refine keeps_partFault ?_ | (dsimp only) | split)
  all_goals try simp [kept_mk, kept_pack, kept_foldl, apply_ite kept]

theorem keeps_execMirrorConfigure (l : LetterId) (session destination : W32) (truncate : W64) (sample enabled : W32) (s : State) : Keeps s (execMirrorConfigure l session destination truncate sample enabled s) := by
  unfold execMirrorConfigure
  try dsimp only
  refine keeps_next (kept_runLetter fun c => ?_)
  repeat' (first | exact keeps_reject | exact keeps_listError | refine keeps_checked ?_ | refine keeps_withList fun xs => ?_ | refine keeps_accept ?_ | refine keeps_acceptWait ?_ | refine keeps_acceptScheduled ?_ | refine keeps_acceptStaged ?_ | refine keeps_accept' ?_ | refine keeps_partFault ?_ | (dsimp only) | split)
  all_goals try simp [kept_mk, kept_pack, kept_foldl, apply_ite kept]

theorem keeps_execMirrorDisable (l : LetterId) (session : W32) (s : State) : Keeps s (execMirrorDisable l session s) := by
  unfold execMirrorDisable
  try dsimp only
  refine keeps_next (kept_runLetter fun c => ?_)
  repeat' (first | exact keeps_reject | exact keeps_listError | refine keeps_checked ?_ | refine keeps_withList fun xs => ?_ | refine keeps_accept ?_ | refine keeps_acceptWait ?_ | refine keeps_acceptScheduled ?_ | refine keeps_acceptStaged ?_ | refine keeps_accept' ?_ | refine keeps_partFault ?_ | (dsimp only) | split)
  all_goals try simp [kept_mk, kept_pack, kept_foldl, apply_ite kept]

theorem keeps_execFaultEventHoldoffExpiry (record : W32) (s : State) : Keeps s (execFaultEventHoldoffExpiry record s) := by
  unfold execFaultEventHoldoffExpiry
  try unfold onPort onLink onEnvelope
  try dsimp only
  first
    | refine keeps_next ?_
    | refine keeps_onUnit ?_
    | (split <;> first | refine keeps_next ?_ | exact keeps_fault _)
  all_goals try dsimp only
  all_goals repeat' split
  all_goals try simp [kept_mk, kept_pack, kept_foldl, apply_ite kept]

theorem keeps_execSuppressionGraceExpiry (record : W32) (s : State) : Keeps s (execSuppressionGraceExpiry record s) := by
  unfold execSuppressionGraceExpiry
  try unfold onPort onLink onEnvelope
  try dsimp only
  first
    | refine keeps_next ?_
    | refine keeps_onUnit ?_
    | (split <;> first | refine keeps_next ?_ | exact keeps_fault _)
  all_goals try dsimp only
  all_goals repeat' split
  all_goals try simp [kept_mk, kept_pack, kept_foldl, apply_ite kept]

theorem keeps_execInputRise (s : State) : Keeps s (execInputRise s) := by
  unfold execInputRise
  try unfold onPort onLink onEnvelope
  try dsimp only
  first
    | refine keeps_next ?_
    | refine keeps_onUnit ?_
    | (split <;> first | refine keeps_next ?_ | exact keeps_fault _)
  all_goals try dsimp only
  all_goals repeat' split
  all_goals try simp [kept_mk, kept_pack, kept_foldl, apply_ite kept]

theorem keeps_execHousekeepingBoot (s : State) : Keeps s (execHousekeepingBoot s) := by
  unfold execHousekeepingBoot
  try unfold onPort onLink onEnvelope
  try dsimp only
  first
    | refine keeps_next ?_
    | refine keeps_onUnit ?_
    | (split <;> first | refine keeps_next ?_ | exact keeps_fault _)
  all_goals try dsimp only
  all_goals repeat' split
  all_goals try simp [kept_mk, kept_pack, kept_foldl, apply_ite kept]

theorem keeps_execInputVoltageBand (millivolts : BitVec 17) (s : State) : Keeps s (execInputVoltageBand millivolts s) := by
  unfold execInputVoltageBand
  try unfold onPort onLink onEnvelope
  try dsimp only
  first
    | refine keeps_next ?_
    | refine keeps_onUnit ?_
    | (split <;> first | refine keeps_next ?_ | exact keeps_fault _)
  all_goals try dsimp only
  all_goals repeat' split
  all_goals try simp [kept_mk, kept_pack, kept_foldl, apply_ite kept]

theorem keeps_execOvervoltageRecovery (s : State) : Keeps s (execOvervoltageRecovery s) := by
  unfold execOvervoltageRecovery
  try unfold onPort onLink onEnvelope
  try dsimp only
  first
    | refine keeps_next ?_
    | refine keeps_onUnit ?_
    | (split <;> first | refine keeps_next ?_ | exact keeps_fault _)
  all_goals try dsimp only
  all_goals repeat' split
  all_goals try simp [kept_mk, kept_pack, kept_foldl, apply_ite kept]

theorem keeps_execPwrEnAssert (s : State) : Keeps s (execPwrEnAssert s) := by
  unfold execPwrEnAssert
  try unfold onPort onLink onEnvelope
  try dsimp only
  first
    | refine keeps_next ?_
    | refine keeps_onUnit ?_
    | (split <;> first | refine keeps_next ?_ | exact keeps_fault _)
  all_goals try dsimp only
  all_goals repeat' split
  all_goals try simp [kept_mk, kept_pack, kept_foldl, apply_ite kept]

theorem keeps_execPowerGood (s : State) : Keeps s (execPowerGood s) := by
  unfold execPowerGood
  try unfold onPort onLink onEnvelope
  try dsimp only
  first
    | refine keeps_next ?_
    | refine keeps_onUnit ?_
    | (split <;> first | refine keeps_next ?_ | exact keeps_fault _)
  all_goals try dsimp only
  all_goals repeat' split
  all_goals try simp [kept_mk, kept_pack, kept_foldl, apply_ite kept]

theorem keeps_execDomainSwitchComplete (s : State) : Keeps s (execDomainSwitchComplete s) := by
  unfold execDomainSwitchComplete
  try unfold onPort onLink onEnvelope
  try dsimp only
  first
    | refine keeps_next ?_
    | refine keeps_onUnit ?_
    | (split <;> first | refine keeps_next ?_ | exact keeps_fault _)
  all_goals try dsimp only
  all_goals repeat' split
  all_goals try simp [kept_mk, kept_pack, kept_foldl, apply_ite kept]

theorem keeps_execDomainFailure (domain : Fin 148) (s : State) : Keeps s (execDomainFailure domain s) := by
  unfold execDomainFailure
  try unfold onPort onLink onEnvelope
  try dsimp only
  first
    | refine keeps_next ?_
    | refine keeps_onUnit ?_
    | (split <;> first | refine keeps_next ?_ | exact keeps_fault _)
  all_goals try dsimp only
  all_goals repeat' split
  all_goals try simp [kept_mk, kept_pack, kept_foldl, apply_ite kept]

theorem keeps_execTemperatureChange (reading : TempReading) (s : State) : Keeps s (execTemperatureChange reading s) := by
  unfold execTemperatureChange
  try unfold onPort onLink onEnvelope
  try dsimp only
  first
    | refine keeps_next ?_
    | refine keeps_onUnit ?_
    | (split <;> first | refine keeps_next ?_ | exact keeps_fault _)
  all_goals try dsimp only
  all_goals repeat' split
  all_goals try simp [kept_mk, kept_pack, kept_foldl, apply_ite kept]

theorem keeps_execPowerCapCheck (tenthWatts : BitVec 16) (s : State) : Keeps s (execPowerCapCheck tenthWatts s) := by
  unfold execPowerCapCheck
  try unfold onPort onLink onEnvelope
  try dsimp only
  first
    | refine keeps_next ?_
    | refine keeps_onUnit ?_
    | (split <;> first | refine keeps_next ?_ | exact keeps_fault _)
  all_goals try dsimp only
  all_goals repeat' split
  all_goals try simp [kept_mk, kept_pack, kept_foldl, apply_ite kept]

theorem keeps_execThrottleNChange (asserted : Bool) (s : State) : Keeps s (execThrottleNChange asserted s) := by
  unfold execThrottleNChange
  try unfold onPort onLink onEnvelope
  try dsimp only
  first
    | refine keeps_next ?_
    | refine keeps_onUnit ?_
    | (split <;> first | refine keeps_next ?_ | exact keeps_fault _)
  all_goals try dsimp only
  all_goals repeat' split
  all_goals try simp [kept_mk, kept_pack, kept_foldl, apply_ite kept]

theorem keeps_execPmbusClearFaults (s : State) : Keeps s (execPmbusClearFaults s) := by
  unfold execPmbusClearFaults
  try unfold onPort onLink onEnvelope
  try dsimp only
  first
    | refine keeps_next ?_
    | refine keeps_onUnit ?_
    | (split <;> first | refine keeps_next ?_ | exact keeps_fault _)
  all_goals try dsimp only
  all_goals repeat' split
  all_goals try simp [kept_mk, kept_pack, kept_foldl, apply_ite kept]

theorem keeps_execStatusWord (s : State) : Keeps s (execStatusWord s) := by
  unfold execStatusWord
  try unfold onPort onLink onEnvelope
  try dsimp only
  first
    | refine keeps_next ?_
    | refine keeps_onUnit ?_
    | (split <;> first | refine keeps_next ?_ | exact keeps_fault _)
  all_goals try dsimp only
  all_goals repeat' split
  all_goals try simp [kept_mk, kept_pack, kept_foldl, apply_ite kept]

theorem keeps_execStatusInput (s : State) : Keeps s (execStatusInput s) := by
  unfold execStatusInput
  try unfold onPort onLink onEnvelope
  try dsimp only
  first
    | refine keeps_next ?_
    | refine keeps_onUnit ?_
    | (split <;> first | refine keeps_next ?_ | exact keeps_fault _)
  all_goals try dsimp only
  all_goals repeat' split
  all_goals try simp [kept_mk, kept_pack, kept_foldl, apply_ite kept]

theorem keeps_execStatusTemperature (s : State) : Keeps s (execStatusTemperature s) := by
  unfold execStatusTemperature
  try unfold onPort onLink onEnvelope
  try dsimp only
  first
    | refine keeps_next ?_
    | refine keeps_onUnit ?_
    | (split <;> first | refine keeps_next ?_ | exact keeps_fault _)
  all_goals try dsimp only
  all_goals repeat' split
  all_goals try simp [kept_mk, kept_pack, kept_foldl, apply_ite kept]

theorem keeps_execReadVin (s : State) : Keeps s (execReadVin s) := by
  unfold execReadVin
  try unfold onPort onLink onEnvelope
  try dsimp only
  first
    | refine keeps_next ?_
    | refine keeps_onUnit ?_
    | (split <;> first | refine keeps_next ?_ | exact keeps_fault _)
  all_goals try dsimp only
  all_goals repeat' split
  all_goals try simp [kept_mk, kept_pack, kept_foldl, apply_ite kept]

theorem keeps_execReadIin (s : State) : Keeps s (execReadIin s) := by
  unfold execReadIin
  try unfold onPort onLink onEnvelope
  try dsimp only
  first
    | refine keeps_next ?_
    | refine keeps_onUnit ?_
    | (split <;> first | refine keeps_next ?_ | exact keeps_fault _)
  all_goals try dsimp only
  all_goals repeat' split
  all_goals try simp [kept_mk, kept_pack, kept_foldl, apply_ite kept]

theorem keeps_execReadTemperature1 (s : State) : Keeps s (execReadTemperature1 s) := by
  unfold execReadTemperature1
  try unfold onPort onLink onEnvelope
  try dsimp only
  first
    | refine keeps_next ?_
    | refine keeps_onUnit ?_
    | (split <;> first | refine keeps_next ?_ | exact keeps_fault _)
  all_goals try dsimp only
  all_goals repeat' split
  all_goals try simp [kept_mk, kept_pack, kept_foldl, apply_ite kept]

theorem keeps_execReadTemperature2 (s : State) : Keeps s (execReadTemperature2 s) := by
  unfold execReadTemperature2
  try unfold onPort onLink onEnvelope
  try dsimp only
  first
    | refine keeps_next ?_
    | refine keeps_onUnit ?_
    | (split <;> first | refine keeps_next ?_ | exact keeps_fault _)
  all_goals try dsimp only
  all_goals repeat' split
  all_goals try simp [kept_mk, kept_pack, kept_foldl, apply_ite kept]

theorem keeps_execReadPin (s : State) : Keeps s (execReadPin s) := by
  unfold execReadPin
  try unfold onPort onLink onEnvelope
  try dsimp only
  first
    | refine keeps_next ?_
    | refine keeps_onUnit ?_
    | (split <;> first | refine keeps_next ?_ | exact keeps_fault _)
  all_goals try dsimp only
  all_goals repeat' split
  all_goals try simp [kept_mk, kept_pack, kept_foldl, apply_ite kept]

theorem keeps_execPmbusRevision (s : State) : Keeps s (execPmbusRevision s) := by
  unfold execPmbusRevision
  try unfold onPort onLink onEnvelope
  try dsimp only
  first
    | refine keeps_next ?_
    | refine keeps_onUnit ?_
    | (split <;> first | refine keeps_next ?_ | exact keeps_fault _)
  all_goals try dsimp only
  all_goals repeat' split
  all_goals try simp [kept_mk, kept_pack, kept_foldl, apply_ite kept]

theorem keeps_execPmbusUnsupported (code : Byte) (s : State) : Keeps s (execPmbusUnsupported code s) := by
  unfold execPmbusUnsupported
  try unfold onPort onLink onEnvelope
  try dsimp only
  first
    | refine keeps_next ?_
    | refine keeps_onUnit ?_
    | (split <;> first | refine keeps_next ?_ | exact keeps_fault _)
  all_goals try dsimp only
  all_goals repeat' split
  all_goals try simp [kept_mk, kept_pack, kept_foldl, apply_ite kept]

theorem keeps_execFruEepromRead (offset : BitVec 13) (s : State) : Keeps s (execFruEepromRead offset s) := by
  unfold execFruEepromRead
  try unfold onPort onLink onEnvelope
  try dsimp only
  first
    | refine keeps_next ?_
    | refine keeps_onUnit ?_
    | (split <;> first | refine keeps_next ?_ | exact keeps_fault _)
  all_goals try dsimp only
  all_goals repeat' split
  all_goals try simp [kept_mk, kept_pack, kept_foldl, apply_ite kept]

theorem keeps_execTelemetryMirrorUpdate (iin : W32) (rails : List (W32 × W32)) (s : State) : Keeps s (execTelemetryMirrorUpdate iin rails s) := by
  unfold execTelemetryMirrorUpdate
  try unfold onPort onLink onEnvelope
  try dsimp only
  first
    | refine keeps_next ?_
    | refine keeps_onUnit ?_
    | (split <;> first | refine keeps_next ?_ | exact keeps_fault _)
  all_goals try dsimp only
  all_goals repeat' split
  all_goals try simp [kept_mk, kept_pack, kept_foldl, apply_ite kept]

theorem keeps_execReferenceLost (input : RefInput) (s : State) : Keeps s (execReferenceLost input s) := by
  unfold execReferenceLost
  try unfold onPort onLink onEnvelope
  try dsimp only
  first
    | refine keeps_next ?_
    | refine keeps_onUnit ?_
    | (split <;> first | refine keeps_next ?_ | exact keeps_fault _)
  all_goals try dsimp only
  all_goals repeat' split
  all_goals try simp [kept_mk, kept_pack, kept_foldl, apply_ite kept]

theorem keeps_execReferenceRegained (input : RefInput) (s : State) : Keeps s (execReferenceRegained input s) := by
  unfold execReferenceRegained
  try unfold onPort onLink onEnvelope
  try dsimp only
  first
    | refine keeps_next ?_
    | refine keeps_onUnit ?_
    | (split <;> first | refine keeps_next ?_ | exact keeps_fault _)
  all_goals try dsimp only
  all_goals repeat' split
  all_goals try simp [kept_mk, kept_pack, kept_foldl, apply_ite kept]

theorem keeps_execResetNRelease (s : State) : Keeps s (execResetNRelease s) := by
  unfold execResetNRelease
  try unfold onPort onLink onEnvelope
  try dsimp only
  first
    | refine keeps_next ?_
    | refine keeps_onUnit ?_
    | (split <;> first | refine keeps_next ?_ | exact keeps_fault _)
  all_goals try dsimp only
  all_goals repeat' split
  all_goals try simp [kept_mk, kept_pack, kept_foldl, apply_ite kept]

theorem keeps_execHousekeepingWatchdog (s : State) : Keeps s (execHousekeepingWatchdog s) := by
  unfold execHousekeepingWatchdog
  try unfold onPort onLink onEnvelope
  try dsimp only
  first
    | refine keeps_next ?_
    | refine keeps_onUnit ?_
    | (split <;> first | refine keeps_next ?_ | exact keeps_fault _)
  all_goals try dsimp only
  all_goals repeat' split
  all_goals try simp [kept_mk, kept_pack, kept_foldl, apply_ite kept]

theorem keeps_execPcieReset (kind : PcieResetKind) (s : State) : Keeps s (execPcieReset kind s) := by
  unfold execPcieReset
  try unfold onPort onLink onEnvelope
  try dsimp only
  first
    | refine keeps_next ?_
    | refine keeps_onUnit ?_
    | (split <;> first | refine keeps_next ?_ | exact keeps_fault _)
  all_goals try dsimp only
  all_goals repeat' split
  all_goals try simp [kept_mk, kept_pack, kept_foldl, apply_ite kept]

theorem keeps_execStartupResetDone (s : State) : Keeps s (execStartupResetDone s) := by
  unfold execStartupResetDone
  try unfold onPort onLink onEnvelope
  try dsimp only
  first
    | refine keeps_next ?_
    | refine keeps_onUnit ?_
    | (split <;> first | refine keeps_next ?_ | exact keeps_fault _)
  all_goals try dsimp only
  all_goals repeat' split
  all_goals try simp [kept_mk, kept_pack, kept_foldl, apply_ite kept]

theorem keeps_execStartupApplyDone (failed : Bool) (s : State) : Keeps s (execStartupApplyDone failed s) := by
  unfold execStartupApplyDone
  try unfold onPort onLink onEnvelope
  try dsimp only
  first
    | refine keeps_next ?_
    | refine keeps_onUnit ?_
    | (split <;> first | refine keeps_next ?_ | exact keeps_fault _)
  all_goals try dsimp only
  all_goals repeat' split
  all_goals try simp [kept_mk, kept_pack, kept_foldl, apply_ite kept]

theorem keeps_execStartupTimeout (s : State) : Keeps s (execStartupTimeout s) := by
  unfold execStartupTimeout
  try unfold onPort onLink onEnvelope
  try dsimp only
  first
    | refine keeps_next ?_
    | refine keeps_onUnit ?_
    | (split <;> first | refine keeps_next ?_ | exact keeps_fault _)
  all_goals try dsimp only
  all_goals repeat' split
  all_goals try simp [kept_mk, kept_pack, kept_foldl, apply_ite kept]

theorem keeps_execConfigurationWrite (field : ConfigField) (s : State) : Keeps s (execConfigurationWrite field s) := by
  unfold execConfigurationWrite
  try unfold onPort onLink onEnvelope
  try dsimp only
  first
    | refine keeps_next ?_
    | refine keeps_onUnit ?_
    | (split <;> first | refine keeps_next ?_ | exact keeps_fault _)
  all_goals try dsimp only
  all_goals repeat' split
  all_goals try simp [kept_mk, kept_pack, kept_foldl, apply_ite kept]

theorem keeps_execEnvelopeLanesIdle (fgroup : Fin 12) (otu : Bool) (index : Fin 4) (s : State) : Keeps s (execEnvelopeLanesIdle fgroup otu index s) := by
  unfold execEnvelopeLanesIdle
  try unfold onPort onLink onEnvelope
  try dsimp only
  first
    | refine keeps_next ?_
    | refine keeps_onUnit ?_
    | (split <;> first | refine keeps_next ?_ | exact keeps_fault _)
  all_goals try dsimp only
  all_goals repeat' split
  all_goals try simp [kept_mk, kept_pack, kept_foldl, apply_ite kept]

theorem keeps_execFlexeDeskewRecovery (fgroup : Fin 12) (group : Fin 4) (s : State) : Keeps s (execFlexeDeskewRecovery fgroup group s) := by
  unfold execFlexeDeskewRecovery
  try unfold onPort onLink onEnvelope
  try dsimp only
  first
    | refine keeps_next ?_
    | refine keeps_onUnit ?_
    | (split <;> first | refine keeps_next ?_ | exact keeps_fault _)
  all_goals try dsimp only
  all_goals repeat' split
  all_goals try simp [kept_mk, kept_pack, kept_foldl, apply_ite kept]

theorem keeps_execPtpSourceLost (source : Fin 4) (s : State) : Keeps s (execPtpSourceLost source s) := by
  unfold execPtpSourceLost
  try unfold onPort onLink onEnvelope
  try dsimp only
  first
    | refine keeps_next ?_
    | refine keeps_onUnit ?_
    | (split <;> first | refine keeps_next ?_ | exact keeps_fault _)
  all_goals try dsimp only
  all_goals repeat' split
  all_goals try simp [kept_mk, kept_pack, kept_foldl, apply_ite kept]

theorem keeps_execStartupSettingsDone (s : State) : Keeps s (execStartupSettingsDone s) := by
  unfold execStartupSettingsDone
  try unfold onPort onLink onEnvelope
  try dsimp only
  first
    | refine keeps_next ?_
    | refine keeps_onUnit ?_
    | (split <;> first | refine keeps_next ?_ | exact keeps_fault _)
  all_goals try dsimp only
  all_goals repeat' split
  all_goals try simp [kept_mk, kept_pack, kept_foldl, apply_ite kept]

end Sys2Proof.Machine
end

