-- ==== Sys2Proof/Laws/Map.lean ====
section
/-!
SUPPORT. Laws/Map.lean: what the containers of State give back after a write, and that writes keep the canonical form of
a byte memory.
-/

namespace Sys2Proof.Machine

variable {α : Type}

/-! ## Sparse data by number -/

theorem nfind_nput_self (m : NMap α) (k : Nat) (v : α) : nfind (nput k v m) k = some v := by
  induction m with
  | nil => simp [nput, nfind]
  | cons e m ih =>
    obtain ⟨j, w⟩ := e
    unfold nput
    split
    · simp [nfind]
    · split
      · simp [nfind]
      · have : j ≠ k := fun h => by omega
        simp [nfind, this, ih]

theorem nfind_nput_other (m : NMap α) {i k : Nat} (v : α) (h : i ≠ k) : nfind (nput k v m) i = nfind m i := by
  induction m with
  | nil => simp [nput, nfind, Ne.symm h]
  | cons e m ih =>
    obtain ⟨j, w⟩ := e
    unfold nput
    split
    · simp [nfind, Ne.symm h]
    · split
      · next hk => subst hk; simp [nfind, Ne.symm h]
      · simp only [nfind]; split <;> simp [ih]

@[simp] theorem nget_nput_self (d v : α) (m : NMap α) (k : Nat) : nget d (nput k v m) k = v := by
  simp [nget, nfind_nput_self]

theorem nget_nput_other (d v : α) (m : NMap α) {i k : Nat} (h : i ≠ k) : nget d (nput k v m) i = nget d m i := by
  simp [nget, nfind_nput_other m v h]

/-- Keys strictly rise and none lies below `lo`. -/
def risingFrom : Nat → NMap α → Bool
  | _, [] => true
  | lo, (k, _) :: m => decide (lo ≤ k) && risingFrom (k + 1) m

theorem risingFrom_mono {lo hi : Nat} {m : NMap α} (h : lo ≤ hi) (r : risingFrom hi m = true) :
    risingFrom lo m = true := by
  cases m with
  | nil => rfl
  | cons e m => simp [risingFrom] at *; exact ⟨by omega, r.2⟩

theorem nfind_none_of_rising {m : NMap α} {lo k : Nat} (r : risingFrom lo m = true) (h : k < lo) :
    nfind m k = none := by
  induction m generalizing lo with
  | nil => rfl
  | cons e m ih =>
    obtain ⟨j, w⟩ := e
    simp [risingFrom] at r
    have : j ≠ k := by omega
    simp [nfind, this, ih (lo := j + 1) r.2 (by omega)]

@[simp] theorem nfind_nerase_self (m : NMap α) (k : Nat) : nfind (nerase k m) k = none := by
  induction m with
  | nil => rfl
  | cons e m ih =>
    obtain ⟨j, w⟩ := e
    unfold nerase
    split
    · exact ih
    · next h => simp [nfind, h, ih]

theorem nfind_nerase_other (m : NMap α) {i k : Nat} (h : i ≠ k) : nfind (nerase k m) i = nfind m i := by
  induction m with
  | nil => rfl
  | cons e m ih =>
    obtain ⟨j, w⟩ := e
    unfold nerase
    split
    · next hk => subst hk; simp [nfind, Ne.symm h, ih]
    · simp only [nfind]; split <;> simp [ih]

theorem nget_nset_other [DecidableEq α] {e : α} (d v : α) (m : NMap α) {i k : Nat} (h : i ≠ k) :
    nget e (nset d k v m) i = nget e m i := by
  unfold nset
  split
  · simp [nget, nfind_nerase_other m h]
  · exact nget_nput_other e v m h

@[simp] theorem nget_nset_self [DecidableEq α] (d v : α) (m : NMap α) (k : Nat) : nget d (nset d k v m) k = v := by
  unfold nset
  split
  · next h => simp [nget, nfind_nerase_self, h]
  · simp

/-- Writing anything but the default is read back, whatever the map's form. -/
theorem nget_nset_of_ne [DecidableEq α] {d v : α} (m : NMap α) (k : Nat) (h : v ≠ d) : nget d (nset d k v m) k = v := by
  simp [nset, h]

theorem rising_nput {m : NMap α} {lo k : Nat} (v : α) (r : risingFrom lo m = true) (h : lo ≤ k) :
    risingFrom lo (nput k v m) = true := by
  induction m generalizing lo with
  | nil => simp [nput, risingFrom, h]
  | cons e m ih =>
    obtain ⟨j, w⟩ := e
    simp [risingFrom] at r
    unfold nput
    split
    · next hk => simp [risingFrom, h, r.2]; omega
    · split
      · next hk => subst hk; simp [risingFrom, h, r.2]
      · next h1 h2 => simp [risingFrom, r.1, ih r.2 (by omega)]

theorem rising_nerase {m : NMap α} {lo : Nat} (k : Nat) (r : risingFrom lo m = true) :
    risingFrom lo (nerase k m) = true := by
  induction m generalizing lo with
  | nil => rfl
  | cons e m ih =>
    obtain ⟨j, w⟩ := e
    simp [risingFrom] at r
    unfold nerase
    split
    · exact risingFrom_mono (by omega) (ih r.2)
    · simp [risingFrom, r.1, ih r.2]

theorem rising_nset [DecidableEq α] {m : NMap α} {lo k : Nat} (d v : α) (r : risingFrom lo m = true) (h : lo ≤ k) :
    risingFrom lo (nset d k v m) = true := by
  unfold nset
  split
  · exact rising_nerase k r
  · exact rising_nput v r h

/-! ## Sparse data by key -/

@[simp] theorem afind_aput_self {κ : Type} [DecidableEq κ] (m : Assoc κ α) (k : κ) (v : α) :
    afind (aput k v m) k = some v := by
  induction m with
  | nil => simp [aput, afind]
  | cons e m ih =>
    obtain ⟨j, w⟩ := e
    unfold aput
    split
    · simp [afind]
    · next h => simp [afind, h, ih]

theorem afind_aput_other {κ : Type} [DecidableEq κ] (m : Assoc κ α) {i k : κ} (v : α) (h : i ≠ k) :
    afind (aput k v m) i = afind m i := by
  induction m with
  | nil => simp [aput, afind, Ne.symm h]
  | cons e m ih =>
    obtain ⟨j, w⟩ := e
    unfold aput
    split
    · next hk => subst hk; simp [afind, Ne.symm h]
    · simp only [afind]; split <;> simp [ih]

theorem aerase_cons {κ : Type} [DecidableEq κ] (k j : κ) (w : α) (m : Assoc κ α) :
    aerase k ((j, w) :: m) = if j = k then aerase k m else (j, w) :: aerase k m := by
  by_cases h : j = k <;> simp [aerase, h]

@[simp] theorem afind_aerase_self {κ : Type} [DecidableEq κ] (m : Assoc κ α) (k : κ) : afind (aerase k m) k = none := by
  induction m with
  | nil => rfl
  | cons e m ih =>
    obtain ⟨j, w⟩ := e
    rw [aerase_cons]
    split
    · exact ih
    · next h => simp [afind, h, ih]

theorem afind_aerase_other {κ : Type} [DecidableEq κ] (m : Assoc κ α) {i k : κ} (h : i ≠ k) :
    afind (aerase k m) i = afind m i := by
  induction m with
  | nil => rfl
  | cons e m ih =>
    obtain ⟨j, w⟩ := e
    rw [aerase_cons]
    split
    · next hk => subst hk; simp [afind, Ne.symm h, ih]
    · simp only [afind]; split <;> simp [ih]

/-! ## Byte memory -/

theorem canonicalFrom_mono [DecidableEq α] {d : α} {lo hi : Nat} {m : NMap α} (h : lo ≤ hi)
    (r : canonicalFrom d hi m = true) : canonicalFrom d lo m = true := by
  cases m with
  | nil => rfl
  | cons e m => simp [canonicalFrom] at *; exact ⟨⟨by omega, r.1.2⟩, r.2⟩

theorem rising_of_canonical [DecidableEq α] {d : α} {lo : Nat} {m : NMap α} (r : canonicalFrom d lo m = true) :
    risingFrom lo m = true := by
  induction m generalizing lo with
  | nil => rfl
  | cons e m ih => simp [canonicalFrom, risingFrom] at *; exact ⟨r.1.1, ih r.2⟩

theorem canonical_nput [DecidableEq α] {d v : α} {m : NMap α} {lo k : Nat} (hv : v ≠ d)
    (r : canonicalFrom d lo m = true) (h : lo ≤ k) : canonicalFrom d lo (nput k v m) = true := by
  induction m generalizing lo with
  | nil => simp [nput, canonicalFrom, h, hv]
  | cons e m ih =>
    obtain ⟨j, w⟩ := e
    simp [canonicalFrom] at r
    unfold nput
    split
    · next hk => simp [canonicalFrom, h, hv, r.1.2, r.2]; omega
    · split
      · next hk => subst hk; simp [canonicalFrom, h, hv, r.2]
      · simp [canonicalFrom, r.1, ih r.2 (by omega)]

theorem canonical_nerase [DecidableEq α] {d : α} {m : NMap α} {lo : Nat} (k : Nat)
    (r : canonicalFrom d lo m = true) : canonicalFrom d lo (nerase k m) = true := by
  induction m generalizing lo with
  | nil => rfl
  | cons e m ih =>
    obtain ⟨j, w⟩ := e
    simp [canonicalFrom] at r
    unfold nerase
    split
    · exact canonicalFrom_mono (by omega) (ih r.2)
    · simp [canonicalFrom, r.1, ih r.2]

theorem canonical_nset [DecidableEq α] {d : α} (v : α) {m : NMap α} {lo k : Nat}
    (r : canonicalFrom d lo m = true) (h : lo ≤ k) : canonicalFrom d lo (nset d k v m) = true := by
  unfold nset
  split
  · exact canonical_nerase k r
  · next hv => exact canonical_nput hv r h

/-- A byte write keeps the canonical form. -/
theorem Memory.wf_write {m : List Host.Cell} (a : Nat) (b : Byte) (h : Memory.wf m = true) :
    Memory.wf (Memory.write a b m) = true := canonical_nset b h (Nat.zero_le a)

/-- A multi-byte write keeps the canonical form. -/
theorem Memory.wf_writeLe {m : List Host.Cell} (n a v : Nat) (h : Memory.wf m = true) :
    Memory.wf (Memory.writeLe a v n m) = true := by
  induction n generalizing a v m with
  | zero => exact h
  | succ n ih => exact ih (a + 1) (v / 256) (Memory.wf_write a _ h)

/-- A write of bytes keeps the canonical form. -/
theorem Memory.wf_writeBytes {m : List Host.Cell} (a : Nat) (bs : List Byte) (h : Memory.wf m = true) :
    Memory.wf (Memory.writeBytes a bs m) = true := by
  induction bs generalizing a m with
  | nil => exact h
  | cons b bs ih => exact ih (a + 1) (Memory.wf_write a b h)

/-- A byte written is read back. -/
theorem Memory.read_write_self (m : List Host.Cell) (a : Nat) (b : Byte) : Memory.read (Memory.write a b m) a = b :=
  nget_nset_self _ _ m a

/-- A byte write leaves every other byte as it was. -/
theorem Memory.read_write_other (m : List Host.Cell) {a i : Nat} (b : Byte) (h : i ≠ a) :
    Memory.read (Memory.write a b m) i = Memory.read m i :=
  nget_nset_other _ _ m h

/-- A multi-byte write leaves every byte outside it as it was. -/
theorem Memory.read_writeLe_outside (n : Nat) (m : List Host.Cell) {a i : Nat} (v : Nat) (h : i < a ∨ a + n ≤ i) :
    Memory.read (Memory.writeLe a v n m) i = Memory.read m i := by
  induction n generalizing a v m with
  | zero => rfl
  | succ n ih =>
    simp only [Memory.writeLe]
    rw [ih _ _ (by omega), Memory.read_write_other _ _ (by omega)]

end Sys2Proof.Machine
end

