-- ==== Sys2Proof/Laws/Invariant.lean ====
section
/-!
SUPPORT. Laws/Invariant.lean: the operations that do write local memory or a ledger keep their form, and leave the
queue and the variant alone.
-/

set_option linter.unusedSimpArgs false

namespace Sys2Proof.Machine

/-- `t` has the variant and the queue of `s`, and the invariant where `s` has it. -/
def Sound (s t : State) : Prop := t.variant = s.variant ∧ t.pending = s.pending ∧ (s.Inv → t.Inv)

theorem Sound.refl (s : State) : Sound s s := ⟨rfl, rfl, id⟩
theorem Sound.trans {s t u : State} (h : Sound s t) (h1 : Sound t u) : Sound s u :=
  ⟨h1.1.trans h.1, h1.2.1.trans h.2.1, fun i => h1.2.2 (h.2.2 i)⟩
theorem sound_of_kept {s t : State} (h : kept t = kept s) : Sound s t := by
  simp only [kept, Prod.mk.injEq] at h
  obtain ⟨h0, h1, h2, h3, h4⟩ := h
  refine ⟨h0, h1, fun i => ?_⟩
  unfold State.Inv at *
  rw [h2, h3, h4]
  exact i
theorem Sound.kept {s t u : State} (h : Sound s t) (h1 : kept u = Machine.kept t) : Sound s u := h.trans (sound_of_kept h1)

theorem sound_ite {s a b : State} {c : Prop} [Decidable c] (h : Sound s a) (h1 : Sound s b) : Sound s (if c then a else b) := by
  split
  · exact h
  · exact h1

theorem sound_addTag (s : State) (r : BitVec 256) : Sound s (s.addTag r) := by
  refine ⟨rfl, rfl, fun i => ⟨i.1, i.2.1, ?_⟩⟩
  have := i.2.2
  simp only [State.addTag]
  split
  · simp; omega
  · simp at *; omega
theorem sound_tagEnd (s : State) (k : Nat) (v : Slot) (e : PassEnd) : Sound s (s.tagEnd k v e) := by
  unfold State.tagEnd
  exact sound_ite (Sound.refl s) (sound_addTag s _)
theorem sound_addTrace (s : State) (r : BitVec 256) : Sound s (s.addTrace r) := by
  unfold State.addTrace
  dsimp only
  repeat' split
  all_goals first
    | exact Sound.refl s
    | (refine ⟨rfl, rfl, fun i => ⟨i.1, ?_, i.2.2⟩⟩
       have := i.2.1
       simp
       omega)
theorem sound_traceSlot (s : State) (k : Nat) (v : Slot) (a b c d : Nat) : Sound s (s.traceSlot k v a b c d) := by
  unfold State.traceSlot
  exact sound_ite (Sound.refl s) (sound_addTrace s _)
theorem sound_localMem (s : State) (m : List Host.Cell) (h : Memory.wf s.clerks.localMem = true → Memory.wf m = true) :
    Sound s { s with clerks := { s.clerks with localMem := m } } :=
  ⟨rfl, rfl, fun i => ⟨h i.1, i.2⟩⟩
theorem sound_doubleTrap (s : State) (k : Nat) (v : Slot) (f : List Byte) (c : Nat) : Sound s (s.doubleTrap k v f c) := by
  unfold State.doubleTrap
  refine (sound_tagEnd s k v (.doubleTrap f)).kept ?_
  dsimp only
  rw [kept_setSlot, kept_raise, kept_bump]
theorem sound_trapSlot (s : State) (k : Nat) (v : Slot) (mw : W32) (t : Trap) : Sound s (s.trapSlot k v mw t) := by
  unfold State.trapSlot
  dsimp only
  have h := (sound_traceSlot s k v (bits mw.toNat 29 16) 1 t.cause t.detail).trans (sound_localMem _ _
    (Memory.wf_writeBytes (memBase k + frameBase + 64 * (k % 6)) (trapFrame k v mw t)))
  have h := h.kept (kept_bump _ .benchTraps (k / 96) t.cause 1 0)
  refine sound_ite (h.trans (sound_doubleTrap _ _ _ _ _)) (h.kept ?_)
  rw [kept_wake]
theorem kept_sendLookup_of {s t : State} {v w : Slot} {d : Dispatch} (h : s.sendLookup v d = (w, t)) : kept t = kept s := by
  have := kept_sendLookup s v d
  rwa [h] at this
theorem sound_applyNano (s : State) (k : Nat) (v : Slot) (e : Effects) (again : Option Dispatch) : Sound s (s.applyNano k v e again) := by
  unfold State.applyNano
  extract_lets s1 v1 p v2 v3 cu s2 v4
  have h1 : Sound s s1 := sound_of_kept (by simp only [s1]; split <;> simp)
  have h2 : Sound s s2 := by
    refine h1.trans ?_
    simp only [s2]
    split
    · exact sound_localMem _ _ (Memory.wf_writeLe _ _ _)
    · exact Sound.refl _
  have look : ∀ (u : State) (v : Slot) (d : Dispatch), Sound s u → Sound s (u.sendLookup v d).2 := fun u v d h => h.kept (kept_sendLookup _ _ _)
  generalize hl : e.lookup = lk
  rcases lk with _ | d <;> rcases again with _ | d' <;> dsimp only <;> split
  · exact (h2.trans (sound_tagEnd _ _ _ _)).kept (kept_setSlot _ _ _)
  · exact h2.kept (kept_wake _ _ _)
  · exact ((look _ _ _ h2).trans (sound_tagEnd _ _ _ _)).kept (kept_setSlot _ _ _)
  · exact (look _ _ _ h2).kept (kept_wake _ _ _)
  · exact ((look _ _ _ h2).trans (sound_tagEnd _ _ _ _)).kept (kept_setSlot _ _ _)
  · exact (look _ _ _ h2).kept (kept_wake _ _ _)
  · exact ((look _ _ _ (look _ _ _ h2)).trans (sound_tagEnd _ _ _ _)).kept (kept_setSlot _ _ _)
  · exact (look _ _ _ (look _ _ _ h2)).kept (kept_wake _ _ _)
theorem sound_issueSlot (s : State) (k : Nat) (v : Slot) (ecc : Bool) : Sound s (s.issueSlot k v ecc) := by
  unfold State.issueSlot
  extract_lets b mw nano own s1 w nw view run
  have h1 : Sound s s1 := sound_of_kept (kept_bump _ _ _ _ _ _)
  split
  · exact sound_trapSlot _ _ _ _ _
  · split
    · exact h1.trans (sound_trapSlot _ _ _ _ _)
    · cases run with
      | error t => exact h1.trans (sound_trapSlot _ _ _ _ _)
      | ok e =>
        dsimp only
        split
        · exact ((h1.kept (kept_free _)).trans (sound_traceSlot _ _ _ _ _ _ _)).trans (sound_applyNano _ _ _ _ _)
        · split
          · exact h1.trans (sound_trapSlot _ _ _ _ _)
          · exact (h1.trans (sound_traceSlot _ _ _ _ _ _ _)).trans (sound_applyNano _ _ _ _ _)
theorem sound_emptyTrace (s : State) : Sound s s.emptyTrace := by
  refine ⟨rfl, rfl, fun i => ?_⟩
  unfold State.emptyTrace
  split
  · exact ⟨i.1, Nat.zero_le _, i.2.2⟩
  · exact ⟨i.1, i.2.1, Nat.zero_le _⟩
theorem sound_dieReset (s : State) : Sound s s.dieReset := ⟨rfl, rfl, fun _ => ⟨rfl, Nat.zero_le _, Nat.zero_le _⟩⟩
theorem sound_wholeReset (s : State) (c : Nat) : Sound s (s.wholeReset c) := by
  unfold State.wholeReset
  exact (sound_dieReset s).kept (by simp [kept_mk, kept_pack])
theorem sound_railsOff (s : State) (c : Nat) : Sound s (s.railsOff c) := by
  unfold State.railsOff
  exact (sound_dieReset s).kept (by simp [kept_mk, kept_pack])
theorem sound_inputOff (s : State) (c : Nat) : Sound s (s.inputOff c) := by
  unfold State.inputOff
  exact (sound_railsOff s c).kept (by simp [kept_mk, kept_pack])
theorem sound_afterReceipt (s : State) (sl : Nat) (r : Receipt) : Sound s (s.afterReceipt sl r) := by
  unfold State.afterReceipt
  split
  · exact sound_ite (sound_wholeReset _ _) (Sound.refl s)
  · exact Sound.refl s
theorem sound_foldl {α : Type} (f : State → α → State) (l : List α) (s : State) (h : ∀ s a, Sound s (f s a)) :
    Sound s (l.foldl f s) := by
  induction l generalizing s with
  | nil => exact Sound.refl s
  | cons a l ih => exact (h s a).trans (ih _)
theorem sound_sendReply (s : State) (sl : Fin 64) (via : Via) (rs : List Receipt) (mac : Mac) : Sound s (s.sendReply sl via rs mac) := by
  unfold State.sendReply
  split
  · exact Sound.refl s
  · refine (sound_of_kept (kept_emit _ _)).trans (sound_foldl _ _ _ fun s r => ?_)
    exact (sound_of_kept (kept_delivered _ _ _)).trans (sound_afterReceipt _ _ _)

/-! ## The commands that write local memory or a ledger, and the resets -/

/-- The next state of an outcome, if there is one, is sound. -/
def SoundOutcome (s : State) (o : Host.Outcome State Fault Refusal) : Prop := ∀ t, o = .next t → Sound s t

theorem soundOutcome_next {s t : State} (h : Sound s t) : SoundOutcome s (.next t) := by
  intro u hu
  cases hu
  exact h
theorem soundOutcome_fault {s : State} (f : Fault) : SoundOutcome s (.fault f) := by
  intro u hu
  cases hu
theorem soundOutcome_of_keeps {s : State} {o : Host.Outcome State Fault Refusal} (h : Keeps s o) : SoundOutcome s o :=
  fun t ht => sound_of_kept (h t ht)

/-- A verdict whose next state is sound. -/
def Verdict.sound (v : Verdict) (s : State) : Prop :=
  match v with
  | .accept _ n _ _ _ _ | .partFault _ _ _ n => Sound s n
  | _ => True

theorem sound_runLetter {l : LetterId} {op : Nat} {ps : List Par} {act : Ctx → Verdict} {s : State}
    (h : ∀ c : Ctx, (act c).sound s) : Sound s (runLetter l op ps act s) := by
  unfold runLetter
  split
  · exact Sound.refl s
  · rename_i e he
    have hc := h ⟨l, e⟩
    split
    · exact sound_of_kept (kept_finish _ _ _ _)
    · exact sound_of_kept (by simp)
    · rename_i hv
      rw [hv] at hc
      exact Sound.kept hc (by rw [kept_internalFault, kept_setEntry, kept_byLetter])
    · rename_i hv
      rw [hv] at hc
      exact Sound.kept hc (by rw [kept_setEntry, kept_byLetter])
theorem sound_checked {cs : List (Bool × Reject)} {ok : Unit → Verdict} {s : State} (h : (ok ()).sound s) :
    (checked cs ok).sound s := by
  unfold checked
  split
  · trivial
  · exact h

theorem sound_execNanowordIssue (b : Fin 32) (c : Fin 16) (e : Bool) (s : State) :
    SoundOutcome s (execNanowordIssue b c e s) := by
  unfold execNanowordIssue
  split
  · refine soundOutcome_next ?_
    split
    · exact sound_issueSlot _ _ _ _
    · exact Sound.refl s
  · exact soundOutcome_fault _
theorem sound_execLocalLoadLand (b : Fin 32) (c : Fin 16) (i : Fin 6) (s : State) :
    SoundOutcome s (execLocalLoadLand b c i s) := by
  unfold execLocalLoadLand
  split
  · refine soundOutcome_next ?_
    split
    · exact Sound.refl s
    · exact sound_ite (Sound.refl s) (sound_ite (sound_of_kept (by simp)) (sound_of_kept (by simp)))
  · exact soundOutcome_fault _
theorem sound_execControlStoreError (b : Fin 32) (c : Fin 16) (i : Fin 6) (s : State) :
    SoundOutcome s (execControlStoreError b c i s) := by
  unfold execControlStoreError
  split
  · dsimp only
    refine soundOutcome_next (sound_ite (Sound.refl s) ?_)
    have h : Sound s (if (s.slotAt (slotKey b c i)).st = .ready ∨ (s.slotAt (slotKey b c i)).st = .waiting then
        s.free.2.doubleTrap (slotKey b c i) (s.slotAt (slotKey b c i))
          (trapFrame (slotKey b c i) (s.slotAt (slotKey b c i)) (s.free.2.microAt b (s.slotAt (slotKey b c i)).micro.toNat)
            ⟨s.free.1.toNat % 64, 7, 0⟩) (s.free.1.toNat % 64)
      else s) := sound_ite ((sound_of_kept (kept_free s)).trans (sound_doubleTrap _ _ _ _ _)) (Sound.refl s)
    refine h.kept ?_
    simp [apply_ite kept]
  · exact soundOutcome_fault _
theorem sound_execStoreWriteLocal (l : LetterId) (a b : W32) (c : W64) (d : BitVec 512) (s : State) :
    SoundOutcome s (execStoreWriteLocal l a b c d s) := by
  unfold execStoreWriteLocal
  refine soundOutcome_next (sound_runLetter fun _ => ?_)
  dsimp only
  refine sound_checked (sound_localMem s _ fun h => ?_)
  generalize (if a.toNat = 512 then List.range (16 * s.variant.benches) else [a.toNat]) = cs
  generalize s.clerks.localMem = m at h
  induction cs generalizing m with
  | nil => exact h
  | cons x cs ih => exact ih _ (Memory.wf_writeBytes _ _ h)
theorem sound_execTelemetryReadTrace (l : LetterId) (r : W64) (b : Bool) (s : State) :
    SoundOutcome s (execTelemetryReadTrace l r b s) := by
  unfold execTelemetryReadTrace
  refine soundOutcome_next (sound_runLetter fun _ => ?_)
  unfold withResult
  split
  · exact (sound_of_kept (kept_hostWrite _ _ _ _)).trans (sound_emptyTrace _)
  · exact Sound.refl s
theorem sound_execReceiptWrite (a : Fin 64) (b : Fin 8) (c : Bool) (s : State) : SoundOutcome s (execReceiptWrite a b c s) := by
  unfold execReceiptWrite
  dsimp only
  refine soundOutcome_next ?_
  split
  · exact Sound.refl s
  · refine sound_ite (Sound.refl s) (sound_ite (sound_of_kept (by simp)) ?_)
    exact (sound_of_kept (by simp)).trans (sound_afterReceipt _ _ _)
theorem sound_execInbandReplySend (a : Fin 64) (s : State) : SoundOutcome s (execInbandReplySend a s) := by
  unfold execInbandReplySend
  refine soundOutcome_next ?_
  dsimp only
  repeat' split
  all_goals first
    | exact Sound.refl s
    | (refine (sound_of_kept ?_).trans (sound_sendReply _ _ _ _ _); simp [kept_mk, kept_pack]; done)
    | exact sound_of_kept (by simp [kept_mk, kept_pack])
theorem sound_execAddressResolved (a : Fin 2) (b : Bool) (c : Ip) (d : Mac) (s : State) :
    SoundOutcome s (execAddressResolved a b c d s) := by
  unfold execAddressResolved
  refine soundOutcome_next ?_
  split
  · dsimp only
    refine (sound_of_kept ?_).trans (sound_foldl _ _ _ fun s w => sound_sendReply _ _ _ _ _)
    simp [kept_mk, kept_pack]
  · exact Sound.refl s
theorem sound_execUndervoltageLockout (s : State) : SoundOutcome s (execUndervoltageLockout s) := by
  unfold execUndervoltageLockout
  exact soundOutcome_next (sound_ite ((sound_inputOff _ _).kept (kept_modPower _ _)) (Sound.refl s))
theorem sound_execOvervoltageShutdown (s : State) : SoundOutcome s (execOvervoltageShutdown s) := by
  unfold execOvervoltageShutdown
  refine soundOutcome_next ?_
  repeat' split
  all_goals first
    | exact Sound.refl s
    | exact (sound_inputOff _ _).kept (kept_modPower _ _)
    | exact sound_of_kept (by simp)
theorem sound_execPwrEnDeassert (s : State) : SoundOutcome s (execPwrEnDeassert s) := by
  unfold execPwrEnDeassert
  refine soundOutcome_next ?_
  dsimp only
  repeat' split
  all_goals first
    | exact Sound.refl s
    | exact (sound_railsOff _ _).kept (kept_modPower _ _)
    | exact sound_of_kept (by simp)
theorem sound_execThermalShutdown (s : State) : SoundOutcome s (execThermalShutdown s) := by
  unfold execThermalShutdown
  refine soundOutcome_next ?_
  repeat' split
  all_goals first
    | exact Sound.refl s
    | exact (sound_railsOff _ _).kept (kept_modPower _ _)
    | exact sound_of_kept (by simp)
theorem sound_execResetNAssert (s : State) : SoundOutcome s (execResetNAssert s) := by
  unfold execResetNAssert
  dsimp only
  refine soundOutcome_next (sound_ite ?_ (sound_of_kept (kept_modPower _ _)))
  exact (sound_of_kept (kept_modPower _ _)).trans (sound_wholeReset _ _)

end Sys2Proof.Machine
end

