-- ==== Sys2Proof/Laws/Letters.lean ====
section
/-!
SUPPORT. Laws/Letters.lean: what a letter's row can do, once for all letters, and what a ledger write leaves alone.
-/

namespace Sys2Proof.Machine

/-! ## A ledger write changes the letters unit alone -/

variable (s : State) (l : LetterId) (e : Entry)

@[simp] theorem setEntry_variant : (s.setEntry l e).variant = s.variant := rfl
@[simp] theorem setEntry_time : (s.setEntry l e).time = s.time := rfl
@[simp] theorem setEntry_peers : (s.setEntry l e).peers = s.peers := rfl
@[simp] theorem setEntry_epoch : (s.setEntry l e).epoch = s.epoch := rfl
@[simp] theorem setEntry_d2d : (s.setEntry l e).d2d = s.d2d := rfl
@[simp] theorem setEntry_line : (s.setEntry l e).line = s.line := rfl
@[simp] theorem setEntry_clerks : (s.setEntry l e).clerks = s.clerks := rfl
@[simp] theorem setEntry_lookup : (s.setEntry l e).lookup = s.lookup := rfl
@[simp] theorem setEntry_buffers : (s.setEntry l e).buffers = s.buffers := rfl
@[simp] theorem setEntry_queues : (s.setEntry l e).queues = s.queues := rfl
@[simp] theorem setEntry_fabric : (s.setEntry l e).fabric = s.fabric := rfl
@[simp] theorem setEntry_hbm : (s.setEntry l e).hbm = s.hbm := rfl
@[simp] theorem setEntry_mgmt : (s.setEntry l e).mgmt = s.mgmt := rfl
@[simp] theorem setEntry_slices : (s.setEntry l e).slices = s.slices := rfl
@[simp] theorem setEntry_courier : (s.setEntry l e).courier = s.courier := rfl
@[simp] theorem setEntry_pm : (s.setEntry l e).pm = s.pm := rfl
@[simp] theorem setEntry_images : (s.setEntry l e).images = s.images := rfl
@[simp] theorem setEntry_tel : (s.setEntry l e).tel = s.tel := rfl
@[simp] theorem setEntry_power : (s.setEntry l e).power = s.power := rfl
@[simp] theorem setEntry_faults : (s.setEntry l e).faults = s.faults := rfl
@[simp] theorem setEntry_regs : (s.setEntry l e).regs = s.regs := rfl
@[simp] theorem setEntry_fresh : (s.setEntry l e).fresh = s.fresh := rfl
@[simp] theorem setEntry_out : (s.setEntry l e).out = s.out := rfl
@[simp] theorem setEntry_pending : (s.setEntry l e).pending = s.pending := rfl
@[simp] theorem setEntry_rings : (s.setEntry l e).letters.rings = s.letters.rings := rfl
@[simp] theorem setEntry_events : (s.setEntry l e).letters.events = s.letters.events := rfl

/-! Naming the letter in the faults that it raised changes nothing else. -/

@[simp] theorem byLetter_variant (s t : State) (n : W32) : (t.byLetter s n).variant = t.variant := rfl
@[simp] theorem byLetter_time (s t : State) (n : W32) : (t.byLetter s n).time = t.time := rfl
@[simp] theorem byLetter_peers (s t : State) (n : W32) : (t.byLetter s n).peers = t.peers := rfl
@[simp] theorem byLetter_epoch (s t : State) (n : W32) : (t.byLetter s n).epoch = t.epoch := rfl
@[simp] theorem byLetter_d2d (s t : State) (n : W32) : (t.byLetter s n).d2d = t.d2d := rfl
@[simp] theorem byLetter_line (s t : State) (n : W32) : (t.byLetter s n).line = t.line := rfl
@[simp] theorem byLetter_clerks (s t : State) (n : W32) : (t.byLetter s n).clerks = t.clerks := rfl
@[simp] theorem byLetter_lookup (s t : State) (n : W32) : (t.byLetter s n).lookup = t.lookup := rfl
@[simp] theorem byLetter_buffers (s t : State) (n : W32) : (t.byLetter s n).buffers = t.buffers := rfl
@[simp] theorem byLetter_queues (s t : State) (n : W32) : (t.byLetter s n).queues = t.queues := rfl
@[simp] theorem byLetter_fabric (s t : State) (n : W32) : (t.byLetter s n).fabric = t.fabric := rfl
@[simp] theorem byLetter_hbm (s t : State) (n : W32) : (t.byLetter s n).hbm = t.hbm := rfl
@[simp] theorem byLetter_mgmt (s t : State) (n : W32) : (t.byLetter s n).mgmt = t.mgmt := rfl
@[simp] theorem byLetter_slices (s t : State) (n : W32) : (t.byLetter s n).slices = t.slices := rfl
@[simp] theorem byLetter_courier (s t : State) (n : W32) : (t.byLetter s n).courier = t.courier := rfl
@[simp] theorem byLetter_pm (s t : State) (n : W32) : (t.byLetter s n).pm = t.pm := rfl
@[simp] theorem byLetter_images (s t : State) (n : W32) : (t.byLetter s n).images = t.images := rfl
@[simp] theorem byLetter_tel (s t : State) (n : W32) : (t.byLetter s n).tel = t.tel := rfl
@[simp] theorem byLetter_power (s t : State) (n : W32) : (t.byLetter s n).power = t.power := rfl
@[simp] theorem byLetter_regs (s t : State) (n : W32) : (t.byLetter s n).regs = t.regs := rfl
@[simp] theorem byLetter_fresh (s t : State) (n : W32) : (t.byLetter s n).fresh = t.fresh := rfl
@[simp] theorem byLetter_out (s t : State) (n : W32) : (t.byLetter s n).out = t.out := rfl
@[simp] theorem byLetter_pending (s t : State) (n : W32) : (t.byLetter s n).pending = t.pending := rfl
@[simp] theorem byLetter_rings (s t : State) (n : W32) : (t.byLetter s n).letters.rings = t.letters.rings := rfl
@[simp] theorem byLetter_ledgers (s t : State) (n : W32) : (t.byLetter s n).letters.ledgers = t.letters.ledgers := rfl
@[simp] theorem byLetter_masks (s t : State) (n : W32) : (t.byLetter s n).faults.masks = t.faults.masks := rfl

theorem nput_ne_nil {α : Type} (k : Nat) (v : α) (m : NMap α) : nput k v m ≠ [] := by
  cases m with
  | nil => simp [nput]
  | cons e m =>
    unfold nput
    split
    · simp
    · split <;> simp

/-- The entry written is the entry read. -/
@[simp] theorem entry_setEntry : (s.setEntry l e).entry l = some e := by
  have h : ({ s.ledger l.slice with entries := nput l.seq.toNat e (s.ledger l.slice).entries } : Ledger) ≠ {} := by
    intro h
    exact nput_ne_nil _ _ _ (congrArg Ledger.entries h)
  simp only [State.entry, State.setEntry, State.setLedger, State.ledger] at *
  rw [nget_nset_of_ne _ _ h]
  simp [nfind_nput_self]

/-! ## The outcomes of a letter's row -/

variable {s l}

/-- Not claimed: nothing happens. -/
theorem runLetter_unclaimed {op : Nat} {ps : List Par} {act : Ctx → Verdict} (h : ¬ Claimed s l op ps) :
    runLetter l op ps act s = s := by
  have : s.claimed l op ps = none := by simpa [Claimed] using h
  simp [runLetter, this]

/-- Claimed and accepted without a clamp. -/
theorem runLetter_accepted {op : Nat} {ps : List Par} {act : Ctx → Verdict} {st : Status} {n : State}
    {block : List Byte} {w : Bool} (h : Claimed s l op ps)
    (ha : ∀ c : Ctx, c.l = l → act c = .accept st n block none w 0) :
    Accepted s n (runLetter l op ps act s) l st block w := by
  obtain ⟨e, he⟩ := Option.isSome_iff_exists.mp h
  simp only [runLetter, he, ha ⟨l, e⟩ rfl]
  exact ⟨_, rfl, rfl, rfl, rfl, rfl, rfl⟩

/-- Claimed and accepted with a clamp. -/
theorem runLetter_clamped {op : Nat} {ps : List Par} {act : Ctx → Verdict} {st : Status} {n : State}
    {block : List Byte} {k : Nat} (h : Claimed s l op ps)
    (ha : ∀ c : Ctx, c.l = l → act c = .accept st n block (some k) false 0) :
    AcceptedClamped s n (runLetter l op ps act s) l st block k := by
  obtain ⟨e, he⟩ := Option.isSome_iff_exists.mp h
  simp only [runLetter, he, ha ⟨l, e⟩ rfl]
  exact ⟨_, rfl, rfl, rfl, rfl, rfl, rfl, rfl⟩

/-- Claimed and rejected. -/
theorem runLetter_rejected {op : Nat} {ps : List Par} {act : Ctx → Verdict} {r : Reject} (h : Claimed s l op ps)
    (ha : ∀ c : Ctx, c.l = l → act c = .reject r) : Rejected s (runLetter l op ps act s) l r.status r.param := by
  obtain ⟨e, he⟩ := Option.isSome_iff_exists.mp h
  simp only [runLetter, he, ha ⟨l, e⟩ rfl]
  exact ⟨e, _, rfl, rfl, rfl, rfl⟩

/-! ## Quantities within their range are applied as they are (10 R337, R338) -/

theorem clampU_mem {w v lo hi : Nat} {cur : Option Nat} (h : v ≠ 2 ^ w - 1) (h1 : lo ≤ v) (h2 : v ≤ hi) :
    clampU w v lo hi cur = some (v, false) := by
  simp only [clampU, h, ↓reduceIte, Option.map_some, Nat.min_eq_right h2, Nat.max_eq_right h1]
  simp

theorem clampU0_mem {w v lo hi : Nat} {cur : Option Nat} (h : v ≠ 2 ^ w - 1) (h1 : v = 0 ∨ lo ≤ v) (h2 : v ≤ hi) :
    clampU0 w v lo hi cur = some (v, false) := by
  simp only [clampU0, h, ↓reduceIte, Option.map_some, Nat.min_eq_right h2]
  split
  · simp_all
  · rw [Nat.max_eq_right (by omega)]
    simp

theorem clampS_mem {w v : Nat} {lo hi : Int} {cur : Option Int} (h : v ≠ 2 ^ (w - 1)) (h1 : lo ≤ sext w v)
    (h2 : sext w v ≤ hi) : clampS w v lo hi cur = some (sext w v, false) := by
  simp only [clampS, h, ↓reduceIte, Option.map_some, Int.min_eq_right h2, Int.max_eq_right h1]
  simp

/-- A letter whose checks all pass goes on to its effect. -/
theorem checked_ok {cs : List (Bool × Reject)} {ok : Unit → Verdict} (h : ∀ c ∈ cs, c.1 = false) : checked cs ok = ok () := by
  have : firstFail cs = none := by
    induction cs with
    | nil => rfl
    | cons c cs ih =>
      obtain ⟨b, r⟩ := c
      have hb : b = false := h (b, r) (by simp)
      simp only [firstFail, hb]
      exact ih fun c hc => h c (by simp [hc])
  simp [checked, this]

end Sys2Proof.Machine
end

