-- ==== Sys2Proof/Laws/State.lean ====
section
/-!
SUPPORT. Laws/State.lean: what the writers of one numbered object of the state do and leave alone: the object written is
read back, the others stay, and so does every other part of the state.
-/

namespace Sys2Proof.Machine

/-! ## pch -/

@[simp] theorem pch_setPch (s : State) (i : Nat) (v : Pch) : (s.setPch i v).pch i = v := by
  simp [State.pch, State.setPch]
theorem pch_setPch_other (s : State) {i j : Nat} (v : Pch) (h : j ≠ i) : (s.setPch i v).pch j = s.pch j := by
  simp [State.pch, State.setPch, nget_nset_other _ _ _ h]
@[simp] theorem setPch_variant (s : State) (i : Nat) (v : Pch) : (s.setPch i v).variant = s.variant := rfl
@[simp] theorem setPch_time (s : State) (i : Nat) (v : Pch) : (s.setPch i v).time = s.time := rfl
@[simp] theorem setPch_peers (s : State) (i : Nat) (v : Pch) : (s.setPch i v).peers = s.peers := rfl
@[simp] theorem setPch_epoch (s : State) (i : Nat) (v : Pch) : (s.setPch i v).epoch = s.epoch := rfl
@[simp] theorem setPch_d2d (s : State) (i : Nat) (v : Pch) : (s.setPch i v).d2d = s.d2d := rfl
@[simp] theorem setPch_line (s : State) (i : Nat) (v : Pch) : (s.setPch i v).line = s.line := rfl
@[simp] theorem setPch_clerks (s : State) (i : Nat) (v : Pch) : (s.setPch i v).clerks = s.clerks := rfl
@[simp] theorem setPch_lookup (s : State) (i : Nat) (v : Pch) : (s.setPch i v).lookup = s.lookup := rfl
@[simp] theorem setPch_buffers (s : State) (i : Nat) (v : Pch) : (s.setPch i v).buffers = s.buffers := rfl
@[simp] theorem setPch_queues (s : State) (i : Nat) (v : Pch) : (s.setPch i v).queues = s.queues := rfl
@[simp] theorem setPch_fabric (s : State) (i : Nat) (v : Pch) : (s.setPch i v).fabric = s.fabric := rfl
@[simp] theorem setPch_letters (s : State) (i : Nat) (v : Pch) : (s.setPch i v).letters = s.letters := rfl
@[simp] theorem setPch_mgmt (s : State) (i : Nat) (v : Pch) : (s.setPch i v).mgmt = s.mgmt := rfl
@[simp] theorem setPch_slices (s : State) (i : Nat) (v : Pch) : (s.setPch i v).slices = s.slices := rfl
@[simp] theorem setPch_courier (s : State) (i : Nat) (v : Pch) : (s.setPch i v).courier = s.courier := rfl
@[simp] theorem setPch_pm (s : State) (i : Nat) (v : Pch) : (s.setPch i v).pm = s.pm := rfl
@[simp] theorem setPch_images (s : State) (i : Nat) (v : Pch) : (s.setPch i v).images = s.images := rfl
@[simp] theorem setPch_tel (s : State) (i : Nat) (v : Pch) : (s.setPch i v).tel = s.tel := rfl
@[simp] theorem setPch_power (s : State) (i : Nat) (v : Pch) : (s.setPch i v).power = s.power := rfl
@[simp] theorem setPch_faults (s : State) (i : Nat) (v : Pch) : (s.setPch i v).faults = s.faults := rfl
@[simp] theorem setPch_regs (s : State) (i : Nat) (v : Pch) : (s.setPch i v).regs = s.regs := rfl
@[simp] theorem setPch_fresh (s : State) (i : Nat) (v : Pch) : (s.setPch i v).fresh = s.fresh := rfl
@[simp] theorem setPch_out (s : State) (i : Nat) (v : Pch) : (s.setPch i v).out = s.out := rfl
@[simp] theorem setPch_pending (s : State) (i : Nat) (v : Pch) : (s.setPch i v).pending = s.pending := rfl
@[simp] theorem setPch_stack (s : State) (i : Nat) (v : Pch) (j : Nat) : (s.setPch i v).stack j = s.stack j := rfl

/-! ## stack -/

@[simp] theorem stack_setStack (s : State) (i : Nat) (v : Stack) : (s.setStack i v).stack i = v := by
  simp [State.stack, State.setStack]
theorem stack_setStack_other (s : State) {i j : Nat} (v : Stack) (h : j ≠ i) : (s.setStack i v).stack j = s.stack j := by
  simp [State.stack, State.setStack, nget_nset_other _ _ _ h]
@[simp] theorem setStack_variant (s : State) (i : Nat) (v : Stack) : (s.setStack i v).variant = s.variant := rfl
@[simp] theorem setStack_time (s : State) (i : Nat) (v : Stack) : (s.setStack i v).time = s.time := rfl
@[simp] theorem setStack_peers (s : State) (i : Nat) (v : Stack) : (s.setStack i v).peers = s.peers := rfl
@[simp] theorem setStack_epoch (s : State) (i : Nat) (v : Stack) : (s.setStack i v).epoch = s.epoch := rfl
@[simp] theorem setStack_d2d (s : State) (i : Nat) (v : Stack) : (s.setStack i v).d2d = s.d2d := rfl
@[simp] theorem setStack_line (s : State) (i : Nat) (v : Stack) : (s.setStack i v).line = s.line := rfl
@[simp] theorem setStack_clerks (s : State) (i : Nat) (v : Stack) : (s.setStack i v).clerks = s.clerks := rfl
@[simp] theorem setStack_lookup (s : State) (i : Nat) (v : Stack) : (s.setStack i v).lookup = s.lookup := rfl
@[simp] theorem setStack_buffers (s : State) (i : Nat) (v : Stack) : (s.setStack i v).buffers = s.buffers := rfl
@[simp] theorem setStack_queues (s : State) (i : Nat) (v : Stack) : (s.setStack i v).queues = s.queues := rfl
@[simp] theorem setStack_fabric (s : State) (i : Nat) (v : Stack) : (s.setStack i v).fabric = s.fabric := rfl
@[simp] theorem setStack_letters (s : State) (i : Nat) (v : Stack) : (s.setStack i v).letters = s.letters := rfl
@[simp] theorem setStack_mgmt (s : State) (i : Nat) (v : Stack) : (s.setStack i v).mgmt = s.mgmt := rfl
@[simp] theorem setStack_slices (s : State) (i : Nat) (v : Stack) : (s.setStack i v).slices = s.slices := rfl
@[simp] theorem setStack_courier (s : State) (i : Nat) (v : Stack) : (s.setStack i v).courier = s.courier := rfl
@[simp] theorem setStack_pm (s : State) (i : Nat) (v : Stack) : (s.setStack i v).pm = s.pm := rfl
@[simp] theorem setStack_images (s : State) (i : Nat) (v : Stack) : (s.setStack i v).images = s.images := rfl
@[simp] theorem setStack_tel (s : State) (i : Nat) (v : Stack) : (s.setStack i v).tel = s.tel := rfl
@[simp] theorem setStack_power (s : State) (i : Nat) (v : Stack) : (s.setStack i v).power = s.power := rfl
@[simp] theorem setStack_faults (s : State) (i : Nat) (v : Stack) : (s.setStack i v).faults = s.faults := rfl
@[simp] theorem setStack_regs (s : State) (i : Nat) (v : Stack) : (s.setStack i v).regs = s.regs := rfl
@[simp] theorem setStack_fresh (s : State) (i : Nat) (v : Stack) : (s.setStack i v).fresh = s.fresh := rfl
@[simp] theorem setStack_out (s : State) (i : Nat) (v : Stack) : (s.setStack i v).out = s.out := rfl
@[simp] theorem setStack_pending (s : State) (i : Nat) (v : Stack) : (s.setStack i v).pending = s.pending := rfl
@[simp] theorem setStack_pch (s : State) (i : Nat) (v : Stack) (j : Nat) : (s.setStack i v).pch j = s.pch j := rfl

/-! ## cut -/

@[simp] theorem cut_setCut (s : State) (i : Nat) (v : CutThrough) : (s.setCut i v).cut i = v := by
  simp [State.cut, State.setCut]
theorem cut_setCut_other (s : State) {i j : Nat} (v : CutThrough) (h : j ≠ i) : (s.setCut i v).cut j = s.cut j := by
  simp [State.cut, State.setCut, nget_nset_other _ _ _ h]
@[simp] theorem setCut_variant (s : State) (i : Nat) (v : CutThrough) : (s.setCut i v).variant = s.variant := rfl
@[simp] theorem setCut_time (s : State) (i : Nat) (v : CutThrough) : (s.setCut i v).time = s.time := rfl
@[simp] theorem setCut_peers (s : State) (i : Nat) (v : CutThrough) : (s.setCut i v).peers = s.peers := rfl
@[simp] theorem setCut_epoch (s : State) (i : Nat) (v : CutThrough) : (s.setCut i v).epoch = s.epoch := rfl
@[simp] theorem setCut_d2d (s : State) (i : Nat) (v : CutThrough) : (s.setCut i v).d2d = s.d2d := rfl
@[simp] theorem setCut_line (s : State) (i : Nat) (v : CutThrough) : (s.setCut i v).line = s.line := rfl
@[simp] theorem setCut_clerks (s : State) (i : Nat) (v : CutThrough) : (s.setCut i v).clerks = s.clerks := rfl
@[simp] theorem setCut_lookup (s : State) (i : Nat) (v : CutThrough) : (s.setCut i v).lookup = s.lookup := rfl
@[simp] theorem setCut_queues (s : State) (i : Nat) (v : CutThrough) : (s.setCut i v).queues = s.queues := rfl
@[simp] theorem setCut_fabric (s : State) (i : Nat) (v : CutThrough) : (s.setCut i v).fabric = s.fabric := rfl
@[simp] theorem setCut_hbm (s : State) (i : Nat) (v : CutThrough) : (s.setCut i v).hbm = s.hbm := rfl
@[simp] theorem setCut_letters (s : State) (i : Nat) (v : CutThrough) : (s.setCut i v).letters = s.letters := rfl
@[simp] theorem setCut_mgmt (s : State) (i : Nat) (v : CutThrough) : (s.setCut i v).mgmt = s.mgmt := rfl
@[simp] theorem setCut_slices (s : State) (i : Nat) (v : CutThrough) : (s.setCut i v).slices = s.slices := rfl
@[simp] theorem setCut_courier (s : State) (i : Nat) (v : CutThrough) : (s.setCut i v).courier = s.courier := rfl
@[simp] theorem setCut_pm (s : State) (i : Nat) (v : CutThrough) : (s.setCut i v).pm = s.pm := rfl
@[simp] theorem setCut_images (s : State) (i : Nat) (v : CutThrough) : (s.setCut i v).images = s.images := rfl
@[simp] theorem setCut_tel (s : State) (i : Nat) (v : CutThrough) : (s.setCut i v).tel = s.tel := rfl
@[simp] theorem setCut_power (s : State) (i : Nat) (v : CutThrough) : (s.setCut i v).power = s.power := rfl
@[simp] theorem setCut_faults (s : State) (i : Nat) (v : CutThrough) : (s.setCut i v).faults = s.faults := rfl
@[simp] theorem setCut_regs (s : State) (i : Nat) (v : CutThrough) : (s.setCut i v).regs = s.regs := rfl
@[simp] theorem setCut_fresh (s : State) (i : Nat) (v : CutThrough) : (s.setCut i v).fresh = s.fresh := rfl
@[simp] theorem setCut_out (s : State) (i : Nat) (v : CutThrough) : (s.setCut i v).out = s.out := rfl
@[simp] theorem setCut_pending (s : State) (i : Nat) (v : CutThrough) : (s.setCut i v).pending = s.pending := rfl
@[simp] theorem setCut_mirror (s : State) (i : Nat) (v : CutThrough) (j : Nat) : (s.setCut i v).mirror j = s.mirror j := rfl

/-! ## slotAt -/

@[simp] theorem slotAt_setSlot (s : State) (i : Nat) (v : Slot) : (s.setSlot i v).slotAt i = v := by
  simp [State.slotAt, State.setSlot]
theorem slotAt_setSlot_other (s : State) {i j : Nat} (v : Slot) (h : j ≠ i) : (s.setSlot i v).slotAt j = s.slotAt j := by
  simp [State.slotAt, State.setSlot, nget_nset_other _ _ _ h]
@[simp] theorem setSlot_variant (s : State) (i : Nat) (v : Slot) : (s.setSlot i v).variant = s.variant := rfl
@[simp] theorem setSlot_time (s : State) (i : Nat) (v : Slot) : (s.setSlot i v).time = s.time := rfl
@[simp] theorem setSlot_peers (s : State) (i : Nat) (v : Slot) : (s.setSlot i v).peers = s.peers := rfl
@[simp] theorem setSlot_epoch (s : State) (i : Nat) (v : Slot) : (s.setSlot i v).epoch = s.epoch := rfl
@[simp] theorem setSlot_d2d (s : State) (i : Nat) (v : Slot) : (s.setSlot i v).d2d = s.d2d := rfl
@[simp] theorem setSlot_line (s : State) (i : Nat) (v : Slot) : (s.setSlot i v).line = s.line := rfl
@[simp] theorem setSlot_lookup (s : State) (i : Nat) (v : Slot) : (s.setSlot i v).lookup = s.lookup := rfl
@[simp] theorem setSlot_buffers (s : State) (i : Nat) (v : Slot) : (s.setSlot i v).buffers = s.buffers := rfl
@[simp] theorem setSlot_queues (s : State) (i : Nat) (v : Slot) : (s.setSlot i v).queues = s.queues := rfl
@[simp] theorem setSlot_fabric (s : State) (i : Nat) (v : Slot) : (s.setSlot i v).fabric = s.fabric := rfl
@[simp] theorem setSlot_hbm (s : State) (i : Nat) (v : Slot) : (s.setSlot i v).hbm = s.hbm := rfl
@[simp] theorem setSlot_letters (s : State) (i : Nat) (v : Slot) : (s.setSlot i v).letters = s.letters := rfl
@[simp] theorem setSlot_mgmt (s : State) (i : Nat) (v : Slot) : (s.setSlot i v).mgmt = s.mgmt := rfl
@[simp] theorem setSlot_slices (s : State) (i : Nat) (v : Slot) : (s.setSlot i v).slices = s.slices := rfl
@[simp] theorem setSlot_courier (s : State) (i : Nat) (v : Slot) : (s.setSlot i v).courier = s.courier := rfl
@[simp] theorem setSlot_pm (s : State) (i : Nat) (v : Slot) : (s.setSlot i v).pm = s.pm := rfl
@[simp] theorem setSlot_images (s : State) (i : Nat) (v : Slot) : (s.setSlot i v).images = s.images := rfl
@[simp] theorem setSlot_tel (s : State) (i : Nat) (v : Slot) : (s.setSlot i v).tel = s.tel := rfl
@[simp] theorem setSlot_power (s : State) (i : Nat) (v : Slot) : (s.setSlot i v).power = s.power := rfl
@[simp] theorem setSlot_faults (s : State) (i : Nat) (v : Slot) : (s.setSlot i v).faults = s.faults := rfl
@[simp] theorem setSlot_regs (s : State) (i : Nat) (v : Slot) : (s.setSlot i v).regs = s.regs := rfl
@[simp] theorem setSlot_fresh (s : State) (i : Nat) (v : Slot) : (s.setSlot i v).fresh = s.fresh := rfl
@[simp] theorem setSlot_out (s : State) (i : Nat) (v : Slot) : (s.setSlot i v).out = s.out := rfl
@[simp] theorem setSlot_pending (s : State) (i : Nat) (v : Slot) : (s.setSlot i v).pending = s.pending := rfl
@[simp] theorem setSlot_bench (s : State) (i : Nat) (v : Slot) (j : Nat) : (s.setSlot i v).bench j = s.bench j := rfl

/-! ## d2dLink -/

@[simp] theorem d2dLink_setD2d (s : State) (i : Nat) (v : D2dLink) : (s.setD2d i v).d2dLink i = v := by
  simp [State.d2dLink, State.setD2d]
theorem d2dLink_setD2d_other (s : State) {i j : Nat} (v : D2dLink) (h : j ≠ i) : (s.setD2d i v).d2dLink j = s.d2dLink j := by
  simp [State.d2dLink, State.setD2d, nget_nset_other _ _ _ h]
@[simp] theorem setD2d_variant (s : State) (i : Nat) (v : D2dLink) : (s.setD2d i v).variant = s.variant := rfl
@[simp] theorem setD2d_time (s : State) (i : Nat) (v : D2dLink) : (s.setD2d i v).time = s.time := rfl
@[simp] theorem setD2d_peers (s : State) (i : Nat) (v : D2dLink) : (s.setD2d i v).peers = s.peers := rfl
@[simp] theorem setD2d_epoch (s : State) (i : Nat) (v : D2dLink) : (s.setD2d i v).epoch = s.epoch := rfl
@[simp] theorem setD2d_line (s : State) (i : Nat) (v : D2dLink) : (s.setD2d i v).line = s.line := rfl
@[simp] theorem setD2d_clerks (s : State) (i : Nat) (v : D2dLink) : (s.setD2d i v).clerks = s.clerks := rfl
@[simp] theorem setD2d_lookup (s : State) (i : Nat) (v : D2dLink) : (s.setD2d i v).lookup = s.lookup := rfl
@[simp] theorem setD2d_buffers (s : State) (i : Nat) (v : D2dLink) : (s.setD2d i v).buffers = s.buffers := rfl
@[simp] theorem setD2d_queues (s : State) (i : Nat) (v : D2dLink) : (s.setD2d i v).queues = s.queues := rfl
@[simp] theorem setD2d_fabric (s : State) (i : Nat) (v : D2dLink) : (s.setD2d i v).fabric = s.fabric := rfl
@[simp] theorem setD2d_hbm (s : State) (i : Nat) (v : D2dLink) : (s.setD2d i v).hbm = s.hbm := rfl
@[simp] theorem setD2d_letters (s : State) (i : Nat) (v : D2dLink) : (s.setD2d i v).letters = s.letters := rfl
@[simp] theorem setD2d_mgmt (s : State) (i : Nat) (v : D2dLink) : (s.setD2d i v).mgmt = s.mgmt := rfl
@[simp] theorem setD2d_slices (s : State) (i : Nat) (v : D2dLink) : (s.setD2d i v).slices = s.slices := rfl
@[simp] theorem setD2d_courier (s : State) (i : Nat) (v : D2dLink) : (s.setD2d i v).courier = s.courier := rfl
@[simp] theorem setD2d_pm (s : State) (i : Nat) (v : D2dLink) : (s.setD2d i v).pm = s.pm := rfl
@[simp] theorem setD2d_images (s : State) (i : Nat) (v : D2dLink) : (s.setD2d i v).images = s.images := rfl
@[simp] theorem setD2d_tel (s : State) (i : Nat) (v : D2dLink) : (s.setD2d i v).tel = s.tel := rfl
@[simp] theorem setD2d_power (s : State) (i : Nat) (v : D2dLink) : (s.setD2d i v).power = s.power := rfl
@[simp] theorem setD2d_faults (s : State) (i : Nat) (v : D2dLink) : (s.setD2d i v).faults = s.faults := rfl
@[simp] theorem setD2d_regs (s : State) (i : Nat) (v : D2dLink) : (s.setD2d i v).regs = s.regs := rfl
@[simp] theorem setD2d_fresh (s : State) (i : Nat) (v : D2dLink) : (s.setD2d i v).fresh = s.fresh := rfl
@[simp] theorem setD2d_out (s : State) (i : Nat) (v : D2dLink) : (s.setD2d i v).out = s.out := rfl
@[simp] theorem setD2d_pending (s : State) (i : Nat) (v : D2dLink) : (s.setD2d i v).pending = s.pending := rfl

/-! ## ohChan -/

@[simp] theorem ohChan_setOh (s : State) (i : Nat) (v : OhChannel) : (s.setOh i v).ohChan i = v := by
  simp [State.ohChan, State.setOh]
theorem ohChan_setOh_other (s : State) {i j : Nat} (v : OhChannel) (h : j ≠ i) : (s.setOh i v).ohChan j = s.ohChan j := by
  simp [State.ohChan, State.setOh, nget_nset_other _ _ _ h]
@[simp] theorem setOh_variant (s : State) (i : Nat) (v : OhChannel) : (s.setOh i v).variant = s.variant := rfl
@[simp] theorem setOh_time (s : State) (i : Nat) (v : OhChannel) : (s.setOh i v).time = s.time := rfl
@[simp] theorem setOh_peers (s : State) (i : Nat) (v : OhChannel) : (s.setOh i v).peers = s.peers := rfl
@[simp] theorem setOh_epoch (s : State) (i : Nat) (v : OhChannel) : (s.setOh i v).epoch = s.epoch := rfl
@[simp] theorem setOh_d2d (s : State) (i : Nat) (v : OhChannel) : (s.setOh i v).d2d = s.d2d := rfl
@[simp] theorem setOh_clerks (s : State) (i : Nat) (v : OhChannel) : (s.setOh i v).clerks = s.clerks := rfl
@[simp] theorem setOh_lookup (s : State) (i : Nat) (v : OhChannel) : (s.setOh i v).lookup = s.lookup := rfl
@[simp] theorem setOh_buffers (s : State) (i : Nat) (v : OhChannel) : (s.setOh i v).buffers = s.buffers := rfl
@[simp] theorem setOh_queues (s : State) (i : Nat) (v : OhChannel) : (s.setOh i v).queues = s.queues := rfl
@[simp] theorem setOh_fabric (s : State) (i : Nat) (v : OhChannel) : (s.setOh i v).fabric = s.fabric := rfl
@[simp] theorem setOh_hbm (s : State) (i : Nat) (v : OhChannel) : (s.setOh i v).hbm = s.hbm := rfl
@[simp] theorem setOh_letters (s : State) (i : Nat) (v : OhChannel) : (s.setOh i v).letters = s.letters := rfl
@[simp] theorem setOh_mgmt (s : State) (i : Nat) (v : OhChannel) : (s.setOh i v).mgmt = s.mgmt := rfl
@[simp] theorem setOh_slices (s : State) (i : Nat) (v : OhChannel) : (s.setOh i v).slices = s.slices := rfl
@[simp] theorem setOh_courier (s : State) (i : Nat) (v : OhChannel) : (s.setOh i v).courier = s.courier := rfl
@[simp] theorem setOh_pm (s : State) (i : Nat) (v : OhChannel) : (s.setOh i v).pm = s.pm := rfl
@[simp] theorem setOh_images (s : State) (i : Nat) (v : OhChannel) : (s.setOh i v).images = s.images := rfl
@[simp] theorem setOh_tel (s : State) (i : Nat) (v : OhChannel) : (s.setOh i v).tel = s.tel := rfl
@[simp] theorem setOh_power (s : State) (i : Nat) (v : OhChannel) : (s.setOh i v).power = s.power := rfl
@[simp] theorem setOh_faults (s : State) (i : Nat) (v : OhChannel) : (s.setOh i v).faults = s.faults := rfl
@[simp] theorem setOh_regs (s : State) (i : Nat) (v : OhChannel) : (s.setOh i v).regs = s.regs := rfl
@[simp] theorem setOh_fresh (s : State) (i : Nat) (v : OhChannel) : (s.setOh i v).fresh = s.fresh := rfl
@[simp] theorem setOh_out (s : State) (i : Nat) (v : OhChannel) : (s.setOh i v).out = s.out := rfl
@[simp] theorem setOh_pending (s : State) (i : Nat) (v : OhChannel) : (s.setOh i v).pending = s.pending := rfl
@[simp] theorem setOh_tsPage (s : State) (i : Nat) (v : OhChannel) (j : Nat) : (s.setOh i v).tsPage j = s.tsPage j := rfl
@[simp] theorem setOh_port (s : State) (i : Nat) (v : OhChannel) (j : Nat) : (s.setOh i v).port j = s.port j := rfl
@[simp] theorem setOh_flexe (s : State) (i : Nat) (v : OhChannel) (h j : Nat) : (s.setOh i v).flexe h j = s.flexe h j := rfl
@[simp] theorem setOh_otu (s : State) (i : Nat) (v : OhChannel) (h j : Nat) : (s.setOh i v).otu h j = s.otu h j := rfl
@[simp] theorem setOh_trib (s : State) (i : Nat) (v : OhChannel) (h j : Nat) : (s.setOh i v).trib h j = s.trib h j := rfl

/-! ## peer -/

@[simp] theorem peer_setPeer (s : State) (i : Nat) (v : Peer) : (s.setPeer i v).peer i = v := by
  simp [State.peer, State.setPeer]
theorem peer_setPeer_other (s : State) {i j : Nat} (v : Peer) (h : j ≠ i) : (s.setPeer i v).peer j = s.peer j := by
  simp [State.peer, State.setPeer, nget_nset_other _ _ _ h]
@[simp] theorem setPeer_variant (s : State) (i : Nat) (v : Peer) : (s.setPeer i v).variant = s.variant := rfl
@[simp] theorem setPeer_time (s : State) (i : Nat) (v : Peer) : (s.setPeer i v).time = s.time := rfl
@[simp] theorem setPeer_epoch (s : State) (i : Nat) (v : Peer) : (s.setPeer i v).epoch = s.epoch := rfl
@[simp] theorem setPeer_d2d (s : State) (i : Nat) (v : Peer) : (s.setPeer i v).d2d = s.d2d := rfl
@[simp] theorem setPeer_line (s : State) (i : Nat) (v : Peer) : (s.setPeer i v).line = s.line := rfl
@[simp] theorem setPeer_clerks (s : State) (i : Nat) (v : Peer) : (s.setPeer i v).clerks = s.clerks := rfl
@[simp] theorem setPeer_lookup (s : State) (i : Nat) (v : Peer) : (s.setPeer i v).lookup = s.lookup := rfl
@[simp] theorem setPeer_buffers (s : State) (i : Nat) (v : Peer) : (s.setPeer i v).buffers = s.buffers := rfl
@[simp] theorem setPeer_queues (s : State) (i : Nat) (v : Peer) : (s.setPeer i v).queues = s.queues := rfl
@[simp] theorem setPeer_fabric (s : State) (i : Nat) (v : Peer) : (s.setPeer i v).fabric = s.fabric := rfl
@[simp] theorem setPeer_hbm (s : State) (i : Nat) (v : Peer) : (s.setPeer i v).hbm = s.hbm := rfl
@[simp] theorem setPeer_letters (s : State) (i : Nat) (v : Peer) : (s.setPeer i v).letters = s.letters := rfl
@[simp] theorem setPeer_mgmt (s : State) (i : Nat) (v : Peer) : (s.setPeer i v).mgmt = s.mgmt := rfl
@[simp] theorem setPeer_slices (s : State) (i : Nat) (v : Peer) : (s.setPeer i v).slices = s.slices := rfl
@[simp] theorem setPeer_courier (s : State) (i : Nat) (v : Peer) : (s.setPeer i v).courier = s.courier := rfl
@[simp] theorem setPeer_pm (s : State) (i : Nat) (v : Peer) : (s.setPeer i v).pm = s.pm := rfl
@[simp] theorem setPeer_images (s : State) (i : Nat) (v : Peer) : (s.setPeer i v).images = s.images := rfl
@[simp] theorem setPeer_tel (s : State) (i : Nat) (v : Peer) : (s.setPeer i v).tel = s.tel := rfl
@[simp] theorem setPeer_power (s : State) (i : Nat) (v : Peer) : (s.setPeer i v).power = s.power := rfl
@[simp] theorem setPeer_faults (s : State) (i : Nat) (v : Peer) : (s.setPeer i v).faults = s.faults := rfl
@[simp] theorem setPeer_regs (s : State) (i : Nat) (v : Peer) : (s.setPeer i v).regs = s.regs := rfl
@[simp] theorem setPeer_fresh (s : State) (i : Nat) (v : Peer) : (s.setPeer i v).fresh = s.fresh := rfl
@[simp] theorem setPeer_out (s : State) (i : Nat) (v : Peer) : (s.setPeer i v).out = s.out := rfl
@[simp] theorem setPeer_pending (s : State) (i : Nat) (v : Peer) : (s.setPeer i v).pending = s.pending := rfl

/-! ## bench -/

@[simp] theorem bench_setBench (s : State) (i : Nat) (v : Bench) : (s.setBench i v).bench i = v := by
  simp [State.bench, State.setBench]
theorem bench_setBench_other (s : State) {i j : Nat} (v : Bench) (h : j ≠ i) : (s.setBench i v).bench j = s.bench j := by
  simp [State.bench, State.setBench, nget_nset_other _ _ _ h]
@[simp] theorem setBench_variant (s : State) (i : Nat) (v : Bench) : (s.setBench i v).variant = s.variant := rfl
@[simp] theorem setBench_time (s : State) (i : Nat) (v : Bench) : (s.setBench i v).time = s.time := rfl
@[simp] theorem setBench_peers (s : State) (i : Nat) (v : Bench) : (s.setBench i v).peers = s.peers := rfl
@[simp] theorem setBench_epoch (s : State) (i : Nat) (v : Bench) : (s.setBench i v).epoch = s.epoch := rfl
@[simp] theorem setBench_d2d (s : State) (i : Nat) (v : Bench) : (s.setBench i v).d2d = s.d2d := rfl
@[simp] theorem setBench_line (s : State) (i : Nat) (v : Bench) : (s.setBench i v).line = s.line := rfl
@[simp] theorem setBench_lookup (s : State) (i : Nat) (v : Bench) : (s.setBench i v).lookup = s.lookup := rfl
@[simp] theorem setBench_buffers (s : State) (i : Nat) (v : Bench) : (s.setBench i v).buffers = s.buffers := rfl
@[simp] theorem setBench_queues (s : State) (i : Nat) (v : Bench) : (s.setBench i v).queues = s.queues := rfl
@[simp] theorem setBench_fabric (s : State) (i : Nat) (v : Bench) : (s.setBench i v).fabric = s.fabric := rfl
@[simp] theorem setBench_hbm (s : State) (i : Nat) (v : Bench) : (s.setBench i v).hbm = s.hbm := rfl
@[simp] theorem setBench_letters (s : State) (i : Nat) (v : Bench) : (s.setBench i v).letters = s.letters := rfl
@[simp] theorem setBench_mgmt (s : State) (i : Nat) (v : Bench) : (s.setBench i v).mgmt = s.mgmt := rfl
@[simp] theorem setBench_slices (s : State) (i : Nat) (v : Bench) : (s.setBench i v).slices = s.slices := rfl
@[simp] theorem setBench_courier (s : State) (i : Nat) (v : Bench) : (s.setBench i v).courier = s.courier := rfl
@[simp] theorem setBench_pm (s : State) (i : Nat) (v : Bench) : (s.setBench i v).pm = s.pm := rfl
@[simp] theorem setBench_images (s : State) (i : Nat) (v : Bench) : (s.setBench i v).images = s.images := rfl
@[simp] theorem setBench_tel (s : State) (i : Nat) (v : Bench) : (s.setBench i v).tel = s.tel := rfl
@[simp] theorem setBench_power (s : State) (i : Nat) (v : Bench) : (s.setBench i v).power = s.power := rfl
@[simp] theorem setBench_faults (s : State) (i : Nat) (v : Bench) : (s.setBench i v).faults = s.faults := rfl
@[simp] theorem setBench_regs (s : State) (i : Nat) (v : Bench) : (s.setBench i v).regs = s.regs := rfl
@[simp] theorem setBench_fresh (s : State) (i : Nat) (v : Bench) : (s.setBench i v).fresh = s.fresh := rfl
@[simp] theorem setBench_out (s : State) (i : Nat) (v : Bench) : (s.setBench i v).out = s.out := rfl
@[simp] theorem setBench_pending (s : State) (i : Nat) (v : Bench) : (s.setBench i v).pending = s.pending := rfl
@[simp] theorem setBench_slotAt (s : State) (i : Nat) (v : Bench) (j : Nat) : (s.setBench i v).slotAt j = s.slotAt j := rfl

/-! ## link -/

@[simp] theorem link_setLink (s : State) (i : Nat) (v : Link) : (s.setLink i v).link i = v := by
  simp [State.link, State.setLink]
theorem link_setLink_other (s : State) {i j : Nat} (v : Link) (h : j ≠ i) : (s.setLink i v).link j = s.link j := by
  simp [State.link, State.setLink, nget_nset_other _ _ _ h]
@[simp] theorem setLink_variant (s : State) (i : Nat) (v : Link) : (s.setLink i v).variant = s.variant := rfl
@[simp] theorem setLink_time (s : State) (i : Nat) (v : Link) : (s.setLink i v).time = s.time := rfl
@[simp] theorem setLink_peers (s : State) (i : Nat) (v : Link) : (s.setLink i v).peers = s.peers := rfl
@[simp] theorem setLink_epoch (s : State) (i : Nat) (v : Link) : (s.setLink i v).epoch = s.epoch := rfl
@[simp] theorem setLink_d2d (s : State) (i : Nat) (v : Link) : (s.setLink i v).d2d = s.d2d := rfl
@[simp] theorem setLink_line (s : State) (i : Nat) (v : Link) : (s.setLink i v).line = s.line := rfl
@[simp] theorem setLink_clerks (s : State) (i : Nat) (v : Link) : (s.setLink i v).clerks = s.clerks := rfl
@[simp] theorem setLink_lookup (s : State) (i : Nat) (v : Link) : (s.setLink i v).lookup = s.lookup := rfl
@[simp] theorem setLink_buffers (s : State) (i : Nat) (v : Link) : (s.setLink i v).buffers = s.buffers := rfl
@[simp] theorem setLink_queues (s : State) (i : Nat) (v : Link) : (s.setLink i v).queues = s.queues := rfl
@[simp] theorem setLink_hbm (s : State) (i : Nat) (v : Link) : (s.setLink i v).hbm = s.hbm := rfl
@[simp] theorem setLink_letters (s : State) (i : Nat) (v : Link) : (s.setLink i v).letters = s.letters := rfl
@[simp] theorem setLink_mgmt (s : State) (i : Nat) (v : Link) : (s.setLink i v).mgmt = s.mgmt := rfl
@[simp] theorem setLink_slices (s : State) (i : Nat) (v : Link) : (s.setLink i v).slices = s.slices := rfl
@[simp] theorem setLink_courier (s : State) (i : Nat) (v : Link) : (s.setLink i v).courier = s.courier := rfl
@[simp] theorem setLink_pm (s : State) (i : Nat) (v : Link) : (s.setLink i v).pm = s.pm := rfl
@[simp] theorem setLink_images (s : State) (i : Nat) (v : Link) : (s.setLink i v).images = s.images := rfl
@[simp] theorem setLink_tel (s : State) (i : Nat) (v : Link) : (s.setLink i v).tel = s.tel := rfl
@[simp] theorem setLink_power (s : State) (i : Nat) (v : Link) : (s.setLink i v).power = s.power := rfl
@[simp] theorem setLink_faults (s : State) (i : Nat) (v : Link) : (s.setLink i v).faults = s.faults := rfl
@[simp] theorem setLink_regs (s : State) (i : Nat) (v : Link) : (s.setLink i v).regs = s.regs := rfl
@[simp] theorem setLink_fresh (s : State) (i : Nat) (v : Link) : (s.setLink i v).fresh = s.fresh := rfl
@[simp] theorem setLink_out (s : State) (i : Nat) (v : Link) : (s.setLink i v).out = s.out := rfl
@[simp] theorem setLink_pending (s : State) (i : Nat) (v : Link) : (s.setLink i v).pending = s.pending := rfl
@[simp] theorem setLink_txStream (s : State) (i : Nat) (v : Link) (j : Nat) : (s.setLink i v).txStream j = s.txStream j := rfl
@[simp] theorem setLink_rxStream (s : State) (i : Nat) (v : Link) (j : Nat) : (s.setLink i v).rxStream j = s.rxStream j := rfl

/-! ## txStream -/

@[simp] theorem txStream_setTx (s : State) (i : Nat) (v : TxStream) : (s.setTx i v).txStream i = v := by
  simp [State.txStream, State.setTx]
theorem txStream_setTx_other (s : State) {i j : Nat} (v : TxStream) (h : j ≠ i) : (s.setTx i v).txStream j = s.txStream j := by
  simp [State.txStream, State.setTx, nget_nset_other _ _ _ h]
@[simp] theorem setTx_variant (s : State) (i : Nat) (v : TxStream) : (s.setTx i v).variant = s.variant := rfl
@[simp] theorem setTx_time (s : State) (i : Nat) (v : TxStream) : (s.setTx i v).time = s.time := rfl
@[simp] theorem setTx_peers (s : State) (i : Nat) (v : TxStream) : (s.setTx i v).peers = s.peers := rfl
@[simp] theorem setTx_epoch (s : State) (i : Nat) (v : TxStream) : (s.setTx i v).epoch = s.epoch := rfl
@[simp] theorem setTx_d2d (s : State) (i : Nat) (v : TxStream) : (s.setTx i v).d2d = s.d2d := rfl
@[simp] theorem setTx_line (s : State) (i : Nat) (v : TxStream) : (s.setTx i v).line = s.line := rfl
@[simp] theorem setTx_clerks (s : State) (i : Nat) (v : TxStream) : (s.setTx i v).clerks = s.clerks := rfl
@[simp] theorem setTx_lookup (s : State) (i : Nat) (v : TxStream) : (s.setTx i v).lookup = s.lookup := rfl
@[simp] theorem setTx_buffers (s : State) (i : Nat) (v : TxStream) : (s.setTx i v).buffers = s.buffers := rfl
@[simp] theorem setTx_queues (s : State) (i : Nat) (v : TxStream) : (s.setTx i v).queues = s.queues := rfl
@[simp] theorem setTx_hbm (s : State) (i : Nat) (v : TxStream) : (s.setTx i v).hbm = s.hbm := rfl
@[simp] theorem setTx_letters (s : State) (i : Nat) (v : TxStream) : (s.setTx i v).letters = s.letters := rfl
@[simp] theorem setTx_mgmt (s : State) (i : Nat) (v : TxStream) : (s.setTx i v).mgmt = s.mgmt := rfl
@[simp] theorem setTx_slices (s : State) (i : Nat) (v : TxStream) : (s.setTx i v).slices = s.slices := rfl
@[simp] theorem setTx_courier (s : State) (i : Nat) (v : TxStream) : (s.setTx i v).courier = s.courier := rfl
@[simp] theorem setTx_pm (s : State) (i : Nat) (v : TxStream) : (s.setTx i v).pm = s.pm := rfl
@[simp] theorem setTx_images (s : State) (i : Nat) (v : TxStream) : (s.setTx i v).images = s.images := rfl
@[simp] theorem setTx_tel (s : State) (i : Nat) (v : TxStream) : (s.setTx i v).tel = s.tel := rfl
@[simp] theorem setTx_power (s : State) (i : Nat) (v : TxStream) : (s.setTx i v).power = s.power := rfl
@[simp] theorem setTx_faults (s : State) (i : Nat) (v : TxStream) : (s.setTx i v).faults = s.faults := rfl
@[simp] theorem setTx_regs (s : State) (i : Nat) (v : TxStream) : (s.setTx i v).regs = s.regs := rfl
@[simp] theorem setTx_fresh (s : State) (i : Nat) (v : TxStream) : (s.setTx i v).fresh = s.fresh := rfl
@[simp] theorem setTx_out (s : State) (i : Nat) (v : TxStream) : (s.setTx i v).out = s.out := rfl
@[simp] theorem setTx_pending (s : State) (i : Nat) (v : TxStream) : (s.setTx i v).pending = s.pending := rfl
@[simp] theorem setTx_link (s : State) (i : Nat) (v : TxStream) (j : Nat) : (s.setTx i v).link j = s.link j := rfl
@[simp] theorem setTx_rxStream (s : State) (i : Nat) (v : TxStream) (j : Nat) : (s.setTx i v).rxStream j = s.rxStream j := rfl

/-! ## rxStream -/

@[simp] theorem rxStream_setRx (s : State) (i : Nat) (v : RxStream) : (s.setRx i v).rxStream i = v := by
  simp [State.rxStream, State.setRx]
theorem rxStream_setRx_other (s : State) {i j : Nat} (v : RxStream) (h : j ≠ i) : (s.setRx i v).rxStream j = s.rxStream j := by
  simp [State.rxStream, State.setRx, nget_nset_other _ _ _ h]
@[simp] theorem setRx_variant (s : State) (i : Nat) (v : RxStream) : (s.setRx i v).variant = s.variant := rfl
@[simp] theorem setRx_time (s : State) (i : Nat) (v : RxStream) : (s.setRx i v).time = s.time := rfl
@[simp] theorem setRx_peers (s : State) (i : Nat) (v : RxStream) : (s.setRx i v).peers = s.peers := rfl
@[simp] theorem setRx_epoch (s : State) (i : Nat) (v : RxStream) : (s.setRx i v).epoch = s.epoch := rfl
@[simp] theorem setRx_d2d (s : State) (i : Nat) (v : RxStream) : (s.setRx i v).d2d = s.d2d := rfl
@[simp] theorem setRx_line (s : State) (i : Nat) (v : RxStream) : (s.setRx i v).line = s.line := rfl
@[simp] theorem setRx_clerks (s : State) (i : Nat) (v : RxStream) : (s.setRx i v).clerks = s.clerks := rfl
@[simp] theorem setRx_lookup (s : State) (i : Nat) (v : RxStream) : (s.setRx i v).lookup = s.lookup := rfl
@[simp] theorem setRx_buffers (s : State) (i : Nat) (v : RxStream) : (s.setRx i v).buffers = s.buffers := rfl
@[simp] theorem setRx_queues (s : State) (i : Nat) (v : RxStream) : (s.setRx i v).queues = s.queues := rfl
@[simp] theorem setRx_hbm (s : State) (i : Nat) (v : RxStream) : (s.setRx i v).hbm = s.hbm := rfl
@[simp] theorem setRx_letters (s : State) (i : Nat) (v : RxStream) : (s.setRx i v).letters = s.letters := rfl
@[simp] theorem setRx_mgmt (s : State) (i : Nat) (v : RxStream) : (s.setRx i v).mgmt = s.mgmt := rfl
@[simp] theorem setRx_slices (s : State) (i : Nat) (v : RxStream) : (s.setRx i v).slices = s.slices := rfl
@[simp] theorem setRx_courier (s : State) (i : Nat) (v : RxStream) : (s.setRx i v).courier = s.courier := rfl
@[simp] theorem setRx_pm (s : State) (i : Nat) (v : RxStream) : (s.setRx i v).pm = s.pm := rfl
@[simp] theorem setRx_images (s : State) (i : Nat) (v : RxStream) : (s.setRx i v).images = s.images := rfl
@[simp] theorem setRx_tel (s : State) (i : Nat) (v : RxStream) : (s.setRx i v).tel = s.tel := rfl
@[simp] theorem setRx_power (s : State) (i : Nat) (v : RxStream) : (s.setRx i v).power = s.power := rfl
@[simp] theorem setRx_faults (s : State) (i : Nat) (v : RxStream) : (s.setRx i v).faults = s.faults := rfl
@[simp] theorem setRx_regs (s : State) (i : Nat) (v : RxStream) : (s.setRx i v).regs = s.regs := rfl
@[simp] theorem setRx_fresh (s : State) (i : Nat) (v : RxStream) : (s.setRx i v).fresh = s.fresh := rfl
@[simp] theorem setRx_out (s : State) (i : Nat) (v : RxStream) : (s.setRx i v).out = s.out := rfl
@[simp] theorem setRx_pending (s : State) (i : Nat) (v : RxStream) : (s.setRx i v).pending = s.pending := rfl
@[simp] theorem setRx_link (s : State) (i : Nat) (v : RxStream) (j : Nat) : (s.setRx i v).link j = s.link j := rfl
@[simp] theorem setRx_txStream (s : State) (i : Nat) (v : RxStream) (j : Nat) : (s.setRx i v).txStream j = s.txStream j := rfl

/-! ## bank -/

@[simp] theorem bank_setBank (s : State) (p : Nat) (b : Bool) (v : Bank) : (s.setBank p b v).bank p b = v := by
  simp [State.bank, State.setBank]
@[simp] theorem setBank_variant (s : State) (p : Nat) (b : Bool) (v : Bank) : (s.setBank p b v).variant = s.variant := rfl
@[simp] theorem setBank_time (s : State) (p : Nat) (b : Bool) (v : Bank) : (s.setBank p b v).time = s.time := rfl
@[simp] theorem setBank_peers (s : State) (p : Nat) (b : Bool) (v : Bank) : (s.setBank p b v).peers = s.peers := rfl
@[simp] theorem setBank_epoch (s : State) (p : Nat) (b : Bool) (v : Bank) : (s.setBank p b v).epoch = s.epoch := rfl
@[simp] theorem setBank_d2d (s : State) (p : Nat) (b : Bool) (v : Bank) : (s.setBank p b v).d2d = s.d2d := rfl
@[simp] theorem setBank_line (s : State) (p : Nat) (b : Bool) (v : Bank) : (s.setBank p b v).line = s.line := rfl
@[simp] theorem setBank_clerks (s : State) (p : Nat) (b : Bool) (v : Bank) : (s.setBank p b v).clerks = s.clerks := rfl
@[simp] theorem setBank_lookup (s : State) (p : Nat) (b : Bool) (v : Bank) : (s.setBank p b v).lookup = s.lookup := rfl
@[simp] theorem setBank_buffers (s : State) (p : Nat) (b : Bool) (v : Bank) : (s.setBank p b v).buffers = s.buffers := rfl
@[simp] theorem setBank_queues (s : State) (p : Nat) (b : Bool) (v : Bank) : (s.setBank p b v).queues = s.queues := rfl
@[simp] theorem setBank_fabric (s : State) (p : Nat) (b : Bool) (v : Bank) : (s.setBank p b v).fabric = s.fabric := rfl
@[simp] theorem setBank_hbm (s : State) (p : Nat) (b : Bool) (v : Bank) : (s.setBank p b v).hbm = s.hbm := rfl
@[simp] theorem setBank_letters (s : State) (p : Nat) (b : Bool) (v : Bank) : (s.setBank p b v).letters = s.letters := rfl
@[simp] theorem setBank_mgmt (s : State) (p : Nat) (b : Bool) (v : Bank) : (s.setBank p b v).mgmt = s.mgmt := rfl
@[simp] theorem setBank_slices (s : State) (p : Nat) (b : Bool) (v : Bank) : (s.setBank p b v).slices = s.slices := rfl
@[simp] theorem setBank_courier (s : State) (p : Nat) (b : Bool) (v : Bank) : (s.setBank p b v).courier = s.courier := rfl
@[simp] theorem setBank_pm (s : State) (p : Nat) (b : Bool) (v : Bank) : (s.setBank p b v).pm = s.pm := rfl
@[simp] theorem setBank_tel (s : State) (p : Nat) (b : Bool) (v : Bank) : (s.setBank p b v).tel = s.tel := rfl
@[simp] theorem setBank_power (s : State) (p : Nat) (b : Bool) (v : Bank) : (s.setBank p b v).power = s.power := rfl
@[simp] theorem setBank_faults (s : State) (p : Nat) (b : Bool) (v : Bank) : (s.setBank p b v).faults = s.faults := rfl
@[simp] theorem setBank_regs (s : State) (p : Nat) (b : Bool) (v : Bank) : (s.setBank p b v).regs = s.regs := rfl
@[simp] theorem setBank_fresh (s : State) (p : Nat) (b : Bool) (v : Bank) : (s.setBank p b v).fresh = s.fresh := rfl
@[simp] theorem setBank_out (s : State) (p : Nat) (b : Bool) (v : Bank) : (s.setBank p b v).out = s.out := rfl
@[simp] theorem setBank_pending (s : State) (p : Nat) (b : Bool) (v : Bank) : (s.setBank p b v).pending = s.pending := rfl

/-! ## ledger -/

@[simp] theorem ledger_setLedger (s : State) (i : Nat) (v : Ledger) : (s.setLedger i v).ledger i = v := by
  simp [State.ledger, State.setLedger]
theorem ledger_setLedger_other (s : State) {i j : Nat} (v : Ledger) (h : j ≠ i) : (s.setLedger i v).ledger j = s.ledger j := by
  simp [State.ledger, State.setLedger, nget_nset_other _ _ _ h]
@[simp] theorem setLedger_variant (s : State) (i : Nat) (v : Ledger) : (s.setLedger i v).variant = s.variant := rfl
@[simp] theorem setLedger_time (s : State) (i : Nat) (v : Ledger) : (s.setLedger i v).time = s.time := rfl
@[simp] theorem setLedger_peers (s : State) (i : Nat) (v : Ledger) : (s.setLedger i v).peers = s.peers := rfl
@[simp] theorem setLedger_epoch (s : State) (i : Nat) (v : Ledger) : (s.setLedger i v).epoch = s.epoch := rfl
@[simp] theorem setLedger_d2d (s : State) (i : Nat) (v : Ledger) : (s.setLedger i v).d2d = s.d2d := rfl
@[simp] theorem setLedger_line (s : State) (i : Nat) (v : Ledger) : (s.setLedger i v).line = s.line := rfl
@[simp] theorem setLedger_clerks (s : State) (i : Nat) (v : Ledger) : (s.setLedger i v).clerks = s.clerks := rfl
@[simp] theorem setLedger_lookup (s : State) (i : Nat) (v : Ledger) : (s.setLedger i v).lookup = s.lookup := rfl
@[simp] theorem setLedger_buffers (s : State) (i : Nat) (v : Ledger) : (s.setLedger i v).buffers = s.buffers := rfl
@[simp] theorem setLedger_queues (s : State) (i : Nat) (v : Ledger) : (s.setLedger i v).queues = s.queues := rfl
@[simp] theorem setLedger_fabric (s : State) (i : Nat) (v : Ledger) : (s.setLedger i v).fabric = s.fabric := rfl
@[simp] theorem setLedger_hbm (s : State) (i : Nat) (v : Ledger) : (s.setLedger i v).hbm = s.hbm := rfl
@[simp] theorem setLedger_mgmt (s : State) (i : Nat) (v : Ledger) : (s.setLedger i v).mgmt = s.mgmt := rfl
@[simp] theorem setLedger_slices (s : State) (i : Nat) (v : Ledger) : (s.setLedger i v).slices = s.slices := rfl
@[simp] theorem setLedger_courier (s : State) (i : Nat) (v : Ledger) : (s.setLedger i v).courier = s.courier := rfl
@[simp] theorem setLedger_pm (s : State) (i : Nat) (v : Ledger) : (s.setLedger i v).pm = s.pm := rfl
@[simp] theorem setLedger_images (s : State) (i : Nat) (v : Ledger) : (s.setLedger i v).images = s.images := rfl
@[simp] theorem setLedger_tel (s : State) (i : Nat) (v : Ledger) : (s.setLedger i v).tel = s.tel := rfl
@[simp] theorem setLedger_power (s : State) (i : Nat) (v : Ledger) : (s.setLedger i v).power = s.power := rfl
@[simp] theorem setLedger_faults (s : State) (i : Nat) (v : Ledger) : (s.setLedger i v).faults = s.faults := rfl
@[simp] theorem setLedger_regs (s : State) (i : Nat) (v : Ledger) : (s.setLedger i v).regs = s.regs := rfl
@[simp] theorem setLedger_fresh (s : State) (i : Nat) (v : Ledger) : (s.setLedger i v).fresh = s.fresh := rfl
@[simp] theorem setLedger_out (s : State) (i : Nat) (v : Ledger) : (s.setLedger i v).out = s.out := rfl
@[simp] theorem setLedger_pending (s : State) (i : Nat) (v : Ledger) : (s.setLedger i v).pending = s.pending := rfl
@[simp] theorem setLedger_evRing (s : State) (i : Nat) (v : Ledger) (j : Nat) : (s.setLedger i v).evRing j = s.evRing j := rfl
@[simp] theorem setLedger_ring (s : State) (i : Nat) (v : Ledger) (h j : Nat) : (s.setLedger i v).ring h j = s.ring h j := rfl

/-! ## evRing -/

@[simp] theorem evRing_setEvRing (s : State) (i : Nat) (v : EventRing) : (s.setEvRing i v).evRing i = v := by
  simp [State.evRing, State.setEvRing]
theorem evRing_setEvRing_other (s : State) {i j : Nat} (v : EventRing) (h : j ≠ i) : (s.setEvRing i v).evRing j = s.evRing j := by
  simp [State.evRing, State.setEvRing, nget_nset_other _ _ _ h]
@[simp] theorem setEvRing_variant (s : State) (i : Nat) (v : EventRing) : (s.setEvRing i v).variant = s.variant := rfl
@[simp] theorem setEvRing_time (s : State) (i : Nat) (v : EventRing) : (s.setEvRing i v).time = s.time := rfl
@[simp] theorem setEvRing_peers (s : State) (i : Nat) (v : EventRing) : (s.setEvRing i v).peers = s.peers := rfl
@[simp] theorem setEvRing_epoch (s : State) (i : Nat) (v : EventRing) : (s.setEvRing i v).epoch = s.epoch := rfl
@[simp] theorem setEvRing_d2d (s : State) (i : Nat) (v : EventRing) : (s.setEvRing i v).d2d = s.d2d := rfl
@[simp] theorem setEvRing_line (s : State) (i : Nat) (v : EventRing) : (s.setEvRing i v).line = s.line := rfl
@[simp] theorem setEvRing_clerks (s : State) (i : Nat) (v : EventRing) : (s.setEvRing i v).clerks = s.clerks := rfl
@[simp] theorem setEvRing_lookup (s : State) (i : Nat) (v : EventRing) : (s.setEvRing i v).lookup = s.lookup := rfl
@[simp] theorem setEvRing_buffers (s : State) (i : Nat) (v : EventRing) : (s.setEvRing i v).buffers = s.buffers := rfl
@[simp] theorem setEvRing_queues (s : State) (i : Nat) (v : EventRing) : (s.setEvRing i v).queues = s.queues := rfl
@[simp] theorem setEvRing_fabric (s : State) (i : Nat) (v : EventRing) : (s.setEvRing i v).fabric = s.fabric := rfl
@[simp] theorem setEvRing_hbm (s : State) (i : Nat) (v : EventRing) : (s.setEvRing i v).hbm = s.hbm := rfl
@[simp] theorem setEvRing_mgmt (s : State) (i : Nat) (v : EventRing) : (s.setEvRing i v).mgmt = s.mgmt := rfl
@[simp] theorem setEvRing_slices (s : State) (i : Nat) (v : EventRing) : (s.setEvRing i v).slices = s.slices := rfl
@[simp] theorem setEvRing_courier (s : State) (i : Nat) (v : EventRing) : (s.setEvRing i v).courier = s.courier := rfl
@[simp] theorem setEvRing_pm (s : State) (i : Nat) (v : EventRing) : (s.setEvRing i v).pm = s.pm := rfl
@[simp] theorem setEvRing_images (s : State) (i : Nat) (v : EventRing) : (s.setEvRing i v).images = s.images := rfl
@[simp] theorem setEvRing_tel (s : State) (i : Nat) (v : EventRing) : (s.setEvRing i v).tel = s.tel := rfl
@[simp] theorem setEvRing_power (s : State) (i : Nat) (v : EventRing) : (s.setEvRing i v).power = s.power := rfl
@[simp] theorem setEvRing_faults (s : State) (i : Nat) (v : EventRing) : (s.setEvRing i v).faults = s.faults := rfl
@[simp] theorem setEvRing_regs (s : State) (i : Nat) (v : EventRing) : (s.setEvRing i v).regs = s.regs := rfl
@[simp] theorem setEvRing_fresh (s : State) (i : Nat) (v : EventRing) : (s.setEvRing i v).fresh = s.fresh := rfl
@[simp] theorem setEvRing_out (s : State) (i : Nat) (v : EventRing) : (s.setEvRing i v).out = s.out := rfl
@[simp] theorem setEvRing_pending (s : State) (i : Nat) (v : EventRing) : (s.setEvRing i v).pending = s.pending := rfl
@[simp] theorem setEvRing_ledger (s : State) (i : Nat) (v : EventRing) (j : Nat) : (s.setEvRing i v).ledger j = s.ledger j := rfl
@[simp] theorem setEvRing_ring (s : State) (i : Nat) (v : EventRing) (h j : Nat) : (s.setEvRing i v).ring h j = s.ring h j := rfl

/-! ## tsPage -/

@[simp] theorem tsPage_setTsPage (s : State) (i : Nat) (v : TsPages) : (s.setTsPage i v).tsPage i = v := by
  simp [State.tsPage, State.setTsPage]
theorem tsPage_setTsPage_other (s : State) {i j : Nat} (v : TsPages) (h : j ≠ i) : (s.setTsPage i v).tsPage j = s.tsPage j := by
  simp [State.tsPage, State.setTsPage, nget_nset_other _ _ _ h]
@[simp] theorem setTsPage_variant (s : State) (i : Nat) (v : TsPages) : (s.setTsPage i v).variant = s.variant := rfl
@[simp] theorem setTsPage_time (s : State) (i : Nat) (v : TsPages) : (s.setTsPage i v).time = s.time := rfl
@[simp] theorem setTsPage_peers (s : State) (i : Nat) (v : TsPages) : (s.setTsPage i v).peers = s.peers := rfl
@[simp] theorem setTsPage_epoch (s : State) (i : Nat) (v : TsPages) : (s.setTsPage i v).epoch = s.epoch := rfl
@[simp] theorem setTsPage_d2d (s : State) (i : Nat) (v : TsPages) : (s.setTsPage i v).d2d = s.d2d := rfl
@[simp] theorem setTsPage_clerks (s : State) (i : Nat) (v : TsPages) : (s.setTsPage i v).clerks = s.clerks := rfl
@[simp] theorem setTsPage_lookup (s : State) (i : Nat) (v : TsPages) : (s.setTsPage i v).lookup = s.lookup := rfl
@[simp] theorem setTsPage_buffers (s : State) (i : Nat) (v : TsPages) : (s.setTsPage i v).buffers = s.buffers := rfl
@[simp] theorem setTsPage_queues (s : State) (i : Nat) (v : TsPages) : (s.setTsPage i v).queues = s.queues := rfl
@[simp] theorem setTsPage_fabric (s : State) (i : Nat) (v : TsPages) : (s.setTsPage i v).fabric = s.fabric := rfl
@[simp] theorem setTsPage_hbm (s : State) (i : Nat) (v : TsPages) : (s.setTsPage i v).hbm = s.hbm := rfl
@[simp] theorem setTsPage_letters (s : State) (i : Nat) (v : TsPages) : (s.setTsPage i v).letters = s.letters := rfl
@[simp] theorem setTsPage_mgmt (s : State) (i : Nat) (v : TsPages) : (s.setTsPage i v).mgmt = s.mgmt := rfl
@[simp] theorem setTsPage_slices (s : State) (i : Nat) (v : TsPages) : (s.setTsPage i v).slices = s.slices := rfl
@[simp] theorem setTsPage_courier (s : State) (i : Nat) (v : TsPages) : (s.setTsPage i v).courier = s.courier := rfl
@[simp] theorem setTsPage_pm (s : State) (i : Nat) (v : TsPages) : (s.setTsPage i v).pm = s.pm := rfl
@[simp] theorem setTsPage_images (s : State) (i : Nat) (v : TsPages) : (s.setTsPage i v).images = s.images := rfl
@[simp] theorem setTsPage_tel (s : State) (i : Nat) (v : TsPages) : (s.setTsPage i v).tel = s.tel := rfl
@[simp] theorem setTsPage_power (s : State) (i : Nat) (v : TsPages) : (s.setTsPage i v).power = s.power := rfl
@[simp] theorem setTsPage_faults (s : State) (i : Nat) (v : TsPages) : (s.setTsPage i v).faults = s.faults := rfl
@[simp] theorem setTsPage_regs (s : State) (i : Nat) (v : TsPages) : (s.setTsPage i v).regs = s.regs := rfl
@[simp] theorem setTsPage_fresh (s : State) (i : Nat) (v : TsPages) : (s.setTsPage i v).fresh = s.fresh := rfl
@[simp] theorem setTsPage_out (s : State) (i : Nat) (v : TsPages) : (s.setTsPage i v).out = s.out := rfl
@[simp] theorem setTsPage_pending (s : State) (i : Nat) (v : TsPages) : (s.setTsPage i v).pending = s.pending := rfl
@[simp] theorem setTsPage_ohChan (s : State) (i : Nat) (v : TsPages) (j : Nat) : (s.setTsPage i v).ohChan j = s.ohChan j := rfl
@[simp] theorem setTsPage_port (s : State) (i : Nat) (v : TsPages) (j : Nat) : (s.setTsPage i v).port j = s.port j := rfl
@[simp] theorem setTsPage_flexe (s : State) (i : Nat) (v : TsPages) (h j : Nat) : (s.setTsPage i v).flexe h j = s.flexe h j := rfl
@[simp] theorem setTsPage_otu (s : State) (i : Nat) (v : TsPages) (h j : Nat) : (s.setTsPage i v).otu h j = s.otu h j := rfl
@[simp] theorem setTsPage_trib (s : State) (i : Nat) (v : TsPages) (h j : Nat) : (s.setTsPage i v).trib h j = s.trib h j := rfl

/-! ## slice -/

@[simp] theorem slice_setSlice (s : State) (i : Nat) (v : Slice) : (s.setSlice i v).slice i = v := by
  simp [State.slice, State.setSlice]
theorem slice_setSlice_other (s : State) {i j : Nat} (v : Slice) (h : j ≠ i) : (s.setSlice i v).slice j = s.slice j := by
  simp [State.slice, State.setSlice, nget_nset_other _ _ _ h]
@[simp] theorem setSlice_variant (s : State) (i : Nat) (v : Slice) : (s.setSlice i v).variant = s.variant := rfl
@[simp] theorem setSlice_time (s : State) (i : Nat) (v : Slice) : (s.setSlice i v).time = s.time := rfl
@[simp] theorem setSlice_peers (s : State) (i : Nat) (v : Slice) : (s.setSlice i v).peers = s.peers := rfl
@[simp] theorem setSlice_epoch (s : State) (i : Nat) (v : Slice) : (s.setSlice i v).epoch = s.epoch := rfl
@[simp] theorem setSlice_d2d (s : State) (i : Nat) (v : Slice) : (s.setSlice i v).d2d = s.d2d := rfl
@[simp] theorem setSlice_line (s : State) (i : Nat) (v : Slice) : (s.setSlice i v).line = s.line := rfl
@[simp] theorem setSlice_clerks (s : State) (i : Nat) (v : Slice) : (s.setSlice i v).clerks = s.clerks := rfl
@[simp] theorem setSlice_lookup (s : State) (i : Nat) (v : Slice) : (s.setSlice i v).lookup = s.lookup := rfl
@[simp] theorem setSlice_buffers (s : State) (i : Nat) (v : Slice) : (s.setSlice i v).buffers = s.buffers := rfl
@[simp] theorem setSlice_queues (s : State) (i : Nat) (v : Slice) : (s.setSlice i v).queues = s.queues := rfl
@[simp] theorem setSlice_fabric (s : State) (i : Nat) (v : Slice) : (s.setSlice i v).fabric = s.fabric := rfl
@[simp] theorem setSlice_hbm (s : State) (i : Nat) (v : Slice) : (s.setSlice i v).hbm = s.hbm := rfl
@[simp] theorem setSlice_letters (s : State) (i : Nat) (v : Slice) : (s.setSlice i v).letters = s.letters := rfl
@[simp] theorem setSlice_mgmt (s : State) (i : Nat) (v : Slice) : (s.setSlice i v).mgmt = s.mgmt := rfl
@[simp] theorem setSlice_courier (s : State) (i : Nat) (v : Slice) : (s.setSlice i v).courier = s.courier := rfl
@[simp] theorem setSlice_pm (s : State) (i : Nat) (v : Slice) : (s.setSlice i v).pm = s.pm := rfl
@[simp] theorem setSlice_images (s : State) (i : Nat) (v : Slice) : (s.setSlice i v).images = s.images := rfl
@[simp] theorem setSlice_tel (s : State) (i : Nat) (v : Slice) : (s.setSlice i v).tel = s.tel := rfl
@[simp] theorem setSlice_power (s : State) (i : Nat) (v : Slice) : (s.setSlice i v).power = s.power := rfl
@[simp] theorem setSlice_faults (s : State) (i : Nat) (v : Slice) : (s.setSlice i v).faults = s.faults := rfl
@[simp] theorem setSlice_regs (s : State) (i : Nat) (v : Slice) : (s.setSlice i v).regs = s.regs := rfl
@[simp] theorem setSlice_fresh (s : State) (i : Nat) (v : Slice) : (s.setSlice i v).fresh = s.fresh := rfl
@[simp] theorem setSlice_out (s : State) (i : Nat) (v : Slice) : (s.setSlice i v).out = s.out := rfl
@[simp] theorem setSlice_pending (s : State) (i : Nat) (v : Slice) : (s.setSlice i v).pending = s.pending := rfl

/-! ## queue -/

@[simp] theorem queue_setQueue (s : State) (i : Nat) (v : Queue) : (s.setQueue i v).queue i = v := by
  simp [State.queue, State.setQueue]
theorem queue_setQueue_other (s : State) {i j : Nat} (v : Queue) (h : j ≠ i) : (s.setQueue i v).queue j = s.queue j := by
  simp [State.queue, State.setQueue, nget_nset_other _ _ _ h]
@[simp] theorem setQueue_variant (s : State) (i : Nat) (v : Queue) : (s.setQueue i v).variant = s.variant := rfl
@[simp] theorem setQueue_time (s : State) (i : Nat) (v : Queue) : (s.setQueue i v).time = s.time := rfl
@[simp] theorem setQueue_peers (s : State) (i : Nat) (v : Queue) : (s.setQueue i v).peers = s.peers := rfl
@[simp] theorem setQueue_epoch (s : State) (i : Nat) (v : Queue) : (s.setQueue i v).epoch = s.epoch := rfl
@[simp] theorem setQueue_d2d (s : State) (i : Nat) (v : Queue) : (s.setQueue i v).d2d = s.d2d := rfl
@[simp] theorem setQueue_line (s : State) (i : Nat) (v : Queue) : (s.setQueue i v).line = s.line := rfl
@[simp] theorem setQueue_clerks (s : State) (i : Nat) (v : Queue) : (s.setQueue i v).clerks = s.clerks := rfl
@[simp] theorem setQueue_lookup (s : State) (i : Nat) (v : Queue) : (s.setQueue i v).lookup = s.lookup := rfl
@[simp] theorem setQueue_buffers (s : State) (i : Nat) (v : Queue) : (s.setQueue i v).buffers = s.buffers := rfl
@[simp] theorem setQueue_fabric (s : State) (i : Nat) (v : Queue) : (s.setQueue i v).fabric = s.fabric := rfl
@[simp] theorem setQueue_hbm (s : State) (i : Nat) (v : Queue) : (s.setQueue i v).hbm = s.hbm := rfl
@[simp] theorem setQueue_letters (s : State) (i : Nat) (v : Queue) : (s.setQueue i v).letters = s.letters := rfl
@[simp] theorem setQueue_mgmt (s : State) (i : Nat) (v : Queue) : (s.setQueue i v).mgmt = s.mgmt := rfl
@[simp] theorem setQueue_slices (s : State) (i : Nat) (v : Queue) : (s.setQueue i v).slices = s.slices := rfl
@[simp] theorem setQueue_courier (s : State) (i : Nat) (v : Queue) : (s.setQueue i v).courier = s.courier := rfl
@[simp] theorem setQueue_pm (s : State) (i : Nat) (v : Queue) : (s.setQueue i v).pm = s.pm := rfl
@[simp] theorem setQueue_images (s : State) (i : Nat) (v : Queue) : (s.setQueue i v).images = s.images := rfl
@[simp] theorem setQueue_tel (s : State) (i : Nat) (v : Queue) : (s.setQueue i v).tel = s.tel := rfl
@[simp] theorem setQueue_power (s : State) (i : Nat) (v : Queue) : (s.setQueue i v).power = s.power := rfl
@[simp] theorem setQueue_faults (s : State) (i : Nat) (v : Queue) : (s.setQueue i v).faults = s.faults := rfl
@[simp] theorem setQueue_regs (s : State) (i : Nat) (v : Queue) : (s.setQueue i v).regs = s.regs := rfl
@[simp] theorem setQueue_fresh (s : State) (i : Nat) (v : Queue) : (s.setQueue i v).fresh = s.fresh := rfl
@[simp] theorem setQueue_out (s : State) (i : Nat) (v : Queue) : (s.setQueue i v).out = s.out := rfl
@[simp] theorem setQueue_pending (s : State) (i : Nat) (v : Queue) : (s.setQueue i v).pending = s.pending := rfl
@[simp] theorem setQueue_node (s : State) (i : Nat) (v : Queue) (j : Nat) : (s.setQueue i v).node j = s.node j := rfl
@[simp] theorem setQueue_portQ (s : State) (i : Nat) (v : Queue) (j : Nat) : (s.setQueue i v).portQ j = s.portQ j := rfl

/-! ## node -/

@[simp] theorem node_setNode (s : State) (i : Nat) (v : Node) : (s.setNode i v).node i = v := by
  simp [State.node, State.setNode]
theorem node_setNode_other (s : State) {i j : Nat} (v : Node) (h : j ≠ i) : (s.setNode i v).node j = s.node j := by
  simp [State.node, State.setNode, nget_nset_other _ _ _ h]
@[simp] theorem setNode_variant (s : State) (i : Nat) (v : Node) : (s.setNode i v).variant = s.variant := rfl
@[simp] theorem setNode_time (s : State) (i : Nat) (v : Node) : (s.setNode i v).time = s.time := rfl
@[simp] theorem setNode_peers (s : State) (i : Nat) (v : Node) : (s.setNode i v).peers = s.peers := rfl
@[simp] theorem setNode_epoch (s : State) (i : Nat) (v : Node) : (s.setNode i v).epoch = s.epoch := rfl
@[simp] theorem setNode_d2d (s : State) (i : Nat) (v : Node) : (s.setNode i v).d2d = s.d2d := rfl
@[simp] theorem setNode_line (s : State) (i : Nat) (v : Node) : (s.setNode i v).line = s.line := rfl
@[simp] theorem setNode_clerks (s : State) (i : Nat) (v : Node) : (s.setNode i v).clerks = s.clerks := rfl
@[simp] theorem setNode_lookup (s : State) (i : Nat) (v : Node) : (s.setNode i v).lookup = s.lookup := rfl
@[simp] theorem setNode_buffers (s : State) (i : Nat) (v : Node) : (s.setNode i v).buffers = s.buffers := rfl
@[simp] theorem setNode_fabric (s : State) (i : Nat) (v : Node) : (s.setNode i v).fabric = s.fabric := rfl
@[simp] theorem setNode_hbm (s : State) (i : Nat) (v : Node) : (s.setNode i v).hbm = s.hbm := rfl
@[simp] theorem setNode_letters (s : State) (i : Nat) (v : Node) : (s.setNode i v).letters = s.letters := rfl
@[simp] theorem setNode_mgmt (s : State) (i : Nat) (v : Node) : (s.setNode i v).mgmt = s.mgmt := rfl
@[simp] theorem setNode_slices (s : State) (i : Nat) (v : Node) : (s.setNode i v).slices = s.slices := rfl
@[simp] theorem setNode_courier (s : State) (i : Nat) (v : Node) : (s.setNode i v).courier = s.courier := rfl
@[simp] theorem setNode_pm (s : State) (i : Nat) (v : Node) : (s.setNode i v).pm = s.pm := rfl
@[simp] theorem setNode_images (s : State) (i : Nat) (v : Node) : (s.setNode i v).images = s.images := rfl
@[simp] theorem setNode_tel (s : State) (i : Nat) (v : Node) : (s.setNode i v).tel = s.tel := rfl
@[simp] theorem setNode_power (s : State) (i : Nat) (v : Node) : (s.setNode i v).power = s.power := rfl
@[simp] theorem setNode_faults (s : State) (i : Nat) (v : Node) : (s.setNode i v).faults = s.faults := rfl
@[simp] theorem setNode_regs (s : State) (i : Nat) (v : Node) : (s.setNode i v).regs = s.regs := rfl
@[simp] theorem setNode_fresh (s : State) (i : Nat) (v : Node) : (s.setNode i v).fresh = s.fresh := rfl
@[simp] theorem setNode_out (s : State) (i : Nat) (v : Node) : (s.setNode i v).out = s.out := rfl
@[simp] theorem setNode_pending (s : State) (i : Nat) (v : Node) : (s.setNode i v).pending = s.pending := rfl
@[simp] theorem setNode_queue (s : State) (i : Nat) (v : Node) (j : Nat) : (s.setNode i v).queue j = s.queue j := rfl
@[simp] theorem setNode_portQ (s : State) (i : Nat) (v : Node) (j : Nat) : (s.setNode i v).portQ j = s.portQ j := rfl

/-! ## portQ -/

@[simp] theorem portQ_setPortQ (s : State) (i : Nat) (v : PortQ) : (s.setPortQ i v).portQ i = v := by
  simp [State.portQ, State.setPortQ]
theorem portQ_setPortQ_other (s : State) {i j : Nat} (v : PortQ) (h : j ≠ i) : (s.setPortQ i v).portQ j = s.portQ j := by
  simp [State.portQ, State.setPortQ, nget_nset_other _ _ _ h]
@[simp] theorem setPortQ_variant (s : State) (i : Nat) (v : PortQ) : (s.setPortQ i v).variant = s.variant := rfl
@[simp] theorem setPortQ_time (s : State) (i : Nat) (v : PortQ) : (s.setPortQ i v).time = s.time := rfl
@[simp] theorem setPortQ_peers (s : State) (i : Nat) (v : PortQ) : (s.setPortQ i v).peers = s.peers := rfl
@[simp] theorem setPortQ_epoch (s : State) (i : Nat) (v : PortQ) : (s.setPortQ i v).epoch = s.epoch := rfl
@[simp] theorem setPortQ_d2d (s : State) (i : Nat) (v : PortQ) : (s.setPortQ i v).d2d = s.d2d := rfl
@[simp] theorem setPortQ_line (s : State) (i : Nat) (v : PortQ) : (s.setPortQ i v).line = s.line := rfl
@[simp] theorem setPortQ_clerks (s : State) (i : Nat) (v : PortQ) : (s.setPortQ i v).clerks = s.clerks := rfl
@[simp] theorem setPortQ_lookup (s : State) (i : Nat) (v : PortQ) : (s.setPortQ i v).lookup = s.lookup := rfl
@[simp] theorem setPortQ_buffers (s : State) (i : Nat) (v : PortQ) : (s.setPortQ i v).buffers = s.buffers := rfl
@[simp] theorem setPortQ_fabric (s : State) (i : Nat) (v : PortQ) : (s.setPortQ i v).fabric = s.fabric := rfl
@[simp] theorem setPortQ_hbm (s : State) (i : Nat) (v : PortQ) : (s.setPortQ i v).hbm = s.hbm := rfl
@[simp] theorem setPortQ_letters (s : State) (i : Nat) (v : PortQ) : (s.setPortQ i v).letters = s.letters := rfl
@[simp] theorem setPortQ_mgmt (s : State) (i : Nat) (v : PortQ) : (s.setPortQ i v).mgmt = s.mgmt := rfl
@[simp] theorem setPortQ_slices (s : State) (i : Nat) (v : PortQ) : (s.setPortQ i v).slices = s.slices := rfl
@[simp] theorem setPortQ_courier (s : State) (i : Nat) (v : PortQ) : (s.setPortQ i v).courier = s.courier := rfl
@[simp] theorem setPortQ_pm (s : State) (i : Nat) (v : PortQ) : (s.setPortQ i v).pm = s.pm := rfl
@[simp] theorem setPortQ_images (s : State) (i : Nat) (v : PortQ) : (s.setPortQ i v).images = s.images := rfl
@[simp] theorem setPortQ_tel (s : State) (i : Nat) (v : PortQ) : (s.setPortQ i v).tel = s.tel := rfl
@[simp] theorem setPortQ_power (s : State) (i : Nat) (v : PortQ) : (s.setPortQ i v).power = s.power := rfl
@[simp] theorem setPortQ_faults (s : State) (i : Nat) (v : PortQ) : (s.setPortQ i v).faults = s.faults := rfl
@[simp] theorem setPortQ_regs (s : State) (i : Nat) (v : PortQ) : (s.setPortQ i v).regs = s.regs := rfl
@[simp] theorem setPortQ_fresh (s : State) (i : Nat) (v : PortQ) : (s.setPortQ i v).fresh = s.fresh := rfl
@[simp] theorem setPortQ_out (s : State) (i : Nat) (v : PortQ) : (s.setPortQ i v).out = s.out := rfl
@[simp] theorem setPortQ_pending (s : State) (i : Nat) (v : PortQ) : (s.setPortQ i v).pending = s.pending := rfl
@[simp] theorem setPortQ_queue (s : State) (i : Nat) (v : PortQ) (j : Nat) : (s.setPortQ i v).queue j = s.queue j := rfl
@[simp] theorem setPortQ_node (s : State) (i : Nat) (v : PortQ) (j : Nat) : (s.setPortQ i v).node j = s.node j := rfl

/-! ## port -/

@[simp] theorem port_setPort (s : State) (i : Nat) (v : Port) : (s.setPort i v).port i = v := by
  simp [State.port, State.setPort]
theorem port_setPort_other (s : State) {i j : Nat} (v : Port) (h : j ≠ i) : (s.setPort i v).port j = s.port j := by
  simp [State.port, State.setPort, nget_nset_other _ _ _ h]
@[simp] theorem setPort_variant (s : State) (i : Nat) (v : Port) : (s.setPort i v).variant = s.variant := rfl
@[simp] theorem setPort_time (s : State) (i : Nat) (v : Port) : (s.setPort i v).time = s.time := rfl
@[simp] theorem setPort_peers (s : State) (i : Nat) (v : Port) : (s.setPort i v).peers = s.peers := rfl
@[simp] theorem setPort_epoch (s : State) (i : Nat) (v : Port) : (s.setPort i v).epoch = s.epoch := rfl
@[simp] theorem setPort_d2d (s : State) (i : Nat) (v : Port) : (s.setPort i v).d2d = s.d2d := rfl
@[simp] theorem setPort_clerks (s : State) (i : Nat) (v : Port) : (s.setPort i v).clerks = s.clerks := rfl
@[simp] theorem setPort_lookup (s : State) (i : Nat) (v : Port) : (s.setPort i v).lookup = s.lookup := rfl
@[simp] theorem setPort_buffers (s : State) (i : Nat) (v : Port) : (s.setPort i v).buffers = s.buffers := rfl
@[simp] theorem setPort_queues (s : State) (i : Nat) (v : Port) : (s.setPort i v).queues = s.queues := rfl
@[simp] theorem setPort_fabric (s : State) (i : Nat) (v : Port) : (s.setPort i v).fabric = s.fabric := rfl
@[simp] theorem setPort_hbm (s : State) (i : Nat) (v : Port) : (s.setPort i v).hbm = s.hbm := rfl
@[simp] theorem setPort_letters (s : State) (i : Nat) (v : Port) : (s.setPort i v).letters = s.letters := rfl
@[simp] theorem setPort_mgmt (s : State) (i : Nat) (v : Port) : (s.setPort i v).mgmt = s.mgmt := rfl
@[simp] theorem setPort_slices (s : State) (i : Nat) (v : Port) : (s.setPort i v).slices = s.slices := rfl
@[simp] theorem setPort_courier (s : State) (i : Nat) (v : Port) : (s.setPort i v).courier = s.courier := rfl
@[simp] theorem setPort_pm (s : State) (i : Nat) (v : Port) : (s.setPort i v).pm = s.pm := rfl
@[simp] theorem setPort_images (s : State) (i : Nat) (v : Port) : (s.setPort i v).images = s.images := rfl
@[simp] theorem setPort_tel (s : State) (i : Nat) (v : Port) : (s.setPort i v).tel = s.tel := rfl
@[simp] theorem setPort_power (s : State) (i : Nat) (v : Port) : (s.setPort i v).power = s.power := rfl
@[simp] theorem setPort_faults (s : State) (i : Nat) (v : Port) : (s.setPort i v).faults = s.faults := rfl
@[simp] theorem setPort_regs (s : State) (i : Nat) (v : Port) : (s.setPort i v).regs = s.regs := rfl
@[simp] theorem setPort_fresh (s : State) (i : Nat) (v : Port) : (s.setPort i v).fresh = s.fresh := rfl
@[simp] theorem setPort_out (s : State) (i : Nat) (v : Port) : (s.setPort i v).out = s.out := rfl
@[simp] theorem setPort_pending (s : State) (i : Nat) (v : Port) : (s.setPort i v).pending = s.pending := rfl
@[simp] theorem setPort_ohChan (s : State) (i : Nat) (v : Port) (j : Nat) : (s.setPort i v).ohChan j = s.ohChan j := rfl
@[simp] theorem setPort_tsPage (s : State) (i : Nat) (v : Port) (j : Nat) : (s.setPort i v).tsPage j = s.tsPage j := rfl
@[simp] theorem setPort_flexe (s : State) (i : Nat) (v : Port) (h j : Nat) : (s.setPort i v).flexe h j = s.flexe h j := rfl
@[simp] theorem setPort_otu (s : State) (i : Nat) (v : Port) (h j : Nat) : (s.setPort i v).otu h j = s.otu h j := rfl
@[simp] theorem setPort_trib (s : State) (i : Nat) (v : Port) (h j : Nat) : (s.setPort i v).trib h j = s.trib h j := rfl

/-! ## mirror -/

@[simp] theorem mirror_setMirror (s : State) (i : Nat) (v : Mirror) : (s.setMirror i v).mirror i = v := by
  simp [State.mirror, State.setMirror]
theorem mirror_setMirror_other (s : State) {i j : Nat} (v : Mirror) (h : j ≠ i) : (s.setMirror i v).mirror j = s.mirror j := by
  simp [State.mirror, State.setMirror, nget_nset_other _ _ _ h]
@[simp] theorem setMirror_variant (s : State) (i : Nat) (v : Mirror) : (s.setMirror i v).variant = s.variant := rfl
@[simp] theorem setMirror_time (s : State) (i : Nat) (v : Mirror) : (s.setMirror i v).time = s.time := rfl
@[simp] theorem setMirror_peers (s : State) (i : Nat) (v : Mirror) : (s.setMirror i v).peers = s.peers := rfl
@[simp] theorem setMirror_epoch (s : State) (i : Nat) (v : Mirror) : (s.setMirror i v).epoch = s.epoch := rfl
@[simp] theorem setMirror_d2d (s : State) (i : Nat) (v : Mirror) : (s.setMirror i v).d2d = s.d2d := rfl
@[simp] theorem setMirror_line (s : State) (i : Nat) (v : Mirror) : (s.setMirror i v).line = s.line := rfl
@[simp] theorem setMirror_clerks (s : State) (i : Nat) (v : Mirror) : (s.setMirror i v).clerks = s.clerks := rfl
@[simp] theorem setMirror_lookup (s : State) (i : Nat) (v : Mirror) : (s.setMirror i v).lookup = s.lookup := rfl
@[simp] theorem setMirror_queues (s : State) (i : Nat) (v : Mirror) : (s.setMirror i v).queues = s.queues := rfl
@[simp] theorem setMirror_fabric (s : State) (i : Nat) (v : Mirror) : (s.setMirror i v).fabric = s.fabric := rfl
@[simp] theorem setMirror_hbm (s : State) (i : Nat) (v : Mirror) : (s.setMirror i v).hbm = s.hbm := rfl
@[simp] theorem setMirror_letters (s : State) (i : Nat) (v : Mirror) : (s.setMirror i v).letters = s.letters := rfl
@[simp] theorem setMirror_mgmt (s : State) (i : Nat) (v : Mirror) : (s.setMirror i v).mgmt = s.mgmt := rfl
@[simp] theorem setMirror_slices (s : State) (i : Nat) (v : Mirror) : (s.setMirror i v).slices = s.slices := rfl
@[simp] theorem setMirror_courier (s : State) (i : Nat) (v : Mirror) : (s.setMirror i v).courier = s.courier := rfl
@[simp] theorem setMirror_pm (s : State) (i : Nat) (v : Mirror) : (s.setMirror i v).pm = s.pm := rfl
@[simp] theorem setMirror_images (s : State) (i : Nat) (v : Mirror) : (s.setMirror i v).images = s.images := rfl
@[simp] theorem setMirror_tel (s : State) (i : Nat) (v : Mirror) : (s.setMirror i v).tel = s.tel := rfl
@[simp] theorem setMirror_power (s : State) (i : Nat) (v : Mirror) : (s.setMirror i v).power = s.power := rfl
@[simp] theorem setMirror_faults (s : State) (i : Nat) (v : Mirror) : (s.setMirror i v).faults = s.faults := rfl
@[simp] theorem setMirror_regs (s : State) (i : Nat) (v : Mirror) : (s.setMirror i v).regs = s.regs := rfl
@[simp] theorem setMirror_fresh (s : State) (i : Nat) (v : Mirror) : (s.setMirror i v).fresh = s.fresh := rfl
@[simp] theorem setMirror_out (s : State) (i : Nat) (v : Mirror) : (s.setMirror i v).out = s.out := rfl
@[simp] theorem setMirror_pending (s : State) (i : Nat) (v : Mirror) : (s.setMirror i v).pending = s.pending := rfl
@[simp] theorem setMirror_cut (s : State) (i : Nat) (v : Mirror) (j : Nat) : (s.setMirror i v).cut j = s.cut j := rfl

/-! ## chan -/

@[simp] theorem chan_setChan (s : State) (i : Nat) (v : Channel) : (s.setChan i v).chan i = v := by
  simp [State.chan, State.setChan]
theorem chan_setChan_other (s : State) {i j : Nat} (v : Channel) (h : j ≠ i) : (s.setChan i v).chan j = s.chan j := by
  simp [State.chan, State.setChan, nget_nset_other _ _ _ h]
@[simp] theorem setChan_variant (s : State) (i : Nat) (v : Channel) : (s.setChan i v).variant = s.variant := rfl
@[simp] theorem setChan_time (s : State) (i : Nat) (v : Channel) : (s.setChan i v).time = s.time := rfl
@[simp] theorem setChan_peers (s : State) (i : Nat) (v : Channel) : (s.setChan i v).peers = s.peers := rfl
@[simp] theorem setChan_epoch (s : State) (i : Nat) (v : Channel) : (s.setChan i v).epoch = s.epoch := rfl
@[simp] theorem setChan_d2d (s : State) (i : Nat) (v : Channel) : (s.setChan i v).d2d = s.d2d := rfl
@[simp] theorem setChan_line (s : State) (i : Nat) (v : Channel) : (s.setChan i v).line = s.line := rfl
@[simp] theorem setChan_clerks (s : State) (i : Nat) (v : Channel) : (s.setChan i v).clerks = s.clerks := rfl
@[simp] theorem setChan_lookup (s : State) (i : Nat) (v : Channel) : (s.setChan i v).lookup = s.lookup := rfl
@[simp] theorem setChan_buffers (s : State) (i : Nat) (v : Channel) : (s.setChan i v).buffers = s.buffers := rfl
@[simp] theorem setChan_queues (s : State) (i : Nat) (v : Channel) : (s.setChan i v).queues = s.queues := rfl
@[simp] theorem setChan_fabric (s : State) (i : Nat) (v : Channel) : (s.setChan i v).fabric = s.fabric := rfl
@[simp] theorem setChan_hbm (s : State) (i : Nat) (v : Channel) : (s.setChan i v).hbm = s.hbm := rfl
@[simp] theorem setChan_letters (s : State) (i : Nat) (v : Channel) : (s.setChan i v).letters = s.letters := rfl
@[simp] theorem setChan_mgmt (s : State) (i : Nat) (v : Channel) : (s.setChan i v).mgmt = s.mgmt := rfl
@[simp] theorem setChan_slices (s : State) (i : Nat) (v : Channel) : (s.setChan i v).slices = s.slices := rfl
@[simp] theorem setChan_pm (s : State) (i : Nat) (v : Channel) : (s.setChan i v).pm = s.pm := rfl
@[simp] theorem setChan_images (s : State) (i : Nat) (v : Channel) : (s.setChan i v).images = s.images := rfl
@[simp] theorem setChan_tel (s : State) (i : Nat) (v : Channel) : (s.setChan i v).tel = s.tel := rfl
@[simp] theorem setChan_power (s : State) (i : Nat) (v : Channel) : (s.setChan i v).power = s.power := rfl
@[simp] theorem setChan_faults (s : State) (i : Nat) (v : Channel) : (s.setChan i v).faults = s.faults := rfl
@[simp] theorem setChan_regs (s : State) (i : Nat) (v : Channel) : (s.setChan i v).regs = s.regs := rfl
@[simp] theorem setChan_fresh (s : State) (i : Nat) (v : Channel) : (s.setChan i v).fresh = s.fresh := rfl
@[simp] theorem setChan_out (s : State) (i : Nat) (v : Channel) : (s.setChan i v).out = s.out := rfl
@[simp] theorem setChan_pending (s : State) (i : Nat) (v : Channel) : (s.setChan i v).pending = s.pending := rfl

/-! ## ring -/

@[simp] theorem ring_setRing (s : State) (g i : Nat) (v : Ring) : (s.setRing g i v).ring g i = v := by
  simp [State.ring, State.setRing]
@[simp] theorem setRing_variant (s : State) (g i : Nat) (v : Ring) : (s.setRing g i v).variant = s.variant := rfl
@[simp] theorem setRing_time (s : State) (g i : Nat) (v : Ring) : (s.setRing g i v).time = s.time := rfl
@[simp] theorem setRing_peers (s : State) (g i : Nat) (v : Ring) : (s.setRing g i v).peers = s.peers := rfl
@[simp] theorem setRing_epoch (s : State) (g i : Nat) (v : Ring) : (s.setRing g i v).epoch = s.epoch := rfl
@[simp] theorem setRing_d2d (s : State) (g i : Nat) (v : Ring) : (s.setRing g i v).d2d = s.d2d := rfl
@[simp] theorem setRing_line (s : State) (g i : Nat) (v : Ring) : (s.setRing g i v).line = s.line := rfl
@[simp] theorem setRing_clerks (s : State) (g i : Nat) (v : Ring) : (s.setRing g i v).clerks = s.clerks := rfl
@[simp] theorem setRing_lookup (s : State) (g i : Nat) (v : Ring) : (s.setRing g i v).lookup = s.lookup := rfl
@[simp] theorem setRing_buffers (s : State) (g i : Nat) (v : Ring) : (s.setRing g i v).buffers = s.buffers := rfl
@[simp] theorem setRing_queues (s : State) (g i : Nat) (v : Ring) : (s.setRing g i v).queues = s.queues := rfl
@[simp] theorem setRing_fabric (s : State) (g i : Nat) (v : Ring) : (s.setRing g i v).fabric = s.fabric := rfl
@[simp] theorem setRing_hbm (s : State) (g i : Nat) (v : Ring) : (s.setRing g i v).hbm = s.hbm := rfl
@[simp] theorem setRing_mgmt (s : State) (g i : Nat) (v : Ring) : (s.setRing g i v).mgmt = s.mgmt := rfl
@[simp] theorem setRing_slices (s : State) (g i : Nat) (v : Ring) : (s.setRing g i v).slices = s.slices := rfl
@[simp] theorem setRing_courier (s : State) (g i : Nat) (v : Ring) : (s.setRing g i v).courier = s.courier := rfl
@[simp] theorem setRing_pm (s : State) (g i : Nat) (v : Ring) : (s.setRing g i v).pm = s.pm := rfl
@[simp] theorem setRing_images (s : State) (g i : Nat) (v : Ring) : (s.setRing g i v).images = s.images := rfl
@[simp] theorem setRing_tel (s : State) (g i : Nat) (v : Ring) : (s.setRing g i v).tel = s.tel := rfl
@[simp] theorem setRing_power (s : State) (g i : Nat) (v : Ring) : (s.setRing g i v).power = s.power := rfl
@[simp] theorem setRing_faults (s : State) (g i : Nat) (v : Ring) : (s.setRing g i v).faults = s.faults := rfl
@[simp] theorem setRing_regs (s : State) (g i : Nat) (v : Ring) : (s.setRing g i v).regs = s.regs := rfl
@[simp] theorem setRing_fresh (s : State) (g i : Nat) (v : Ring) : (s.setRing g i v).fresh = s.fresh := rfl
@[simp] theorem setRing_out (s : State) (g i : Nat) (v : Ring) : (s.setRing g i v).out = s.out := rfl
@[simp] theorem setRing_pending (s : State) (g i : Nat) (v : Ring) : (s.setRing g i v).pending = s.pending := rfl
@[simp] theorem setRing_ledger (s : State) (g i : Nat) (v : Ring) (j : Nat) : (s.setRing g i v).ledger j = s.ledger j := rfl
@[simp] theorem setRing_evRing (s : State) (g i : Nat) (v : Ring) (j : Nat) : (s.setRing g i v).evRing j = s.evRing j := rfl

/-! ## flexe -/

@[simp] theorem flexe_setFlexe (s : State) (g i : Nat) (v : Flexe) : (s.setFlexe g i v).flexe g i = v := by
  simp [State.flexe, State.setFlexe]
@[simp] theorem setFlexe_variant (s : State) (g i : Nat) (v : Flexe) : (s.setFlexe g i v).variant = s.variant := rfl
@[simp] theorem setFlexe_time (s : State) (g i : Nat) (v : Flexe) : (s.setFlexe g i v).time = s.time := rfl
@[simp] theorem setFlexe_peers (s : State) (g i : Nat) (v : Flexe) : (s.setFlexe g i v).peers = s.peers := rfl
@[simp] theorem setFlexe_epoch (s : State) (g i : Nat) (v : Flexe) : (s.setFlexe g i v).epoch = s.epoch := rfl
@[simp] theorem setFlexe_d2d (s : State) (g i : Nat) (v : Flexe) : (s.setFlexe g i v).d2d = s.d2d := rfl
@[simp] theorem setFlexe_clerks (s : State) (g i : Nat) (v : Flexe) : (s.setFlexe g i v).clerks = s.clerks := rfl
@[simp] theorem setFlexe_lookup (s : State) (g i : Nat) (v : Flexe) : (s.setFlexe g i v).lookup = s.lookup := rfl
@[simp] theorem setFlexe_buffers (s : State) (g i : Nat) (v : Flexe) : (s.setFlexe g i v).buffers = s.buffers := rfl
@[simp] theorem setFlexe_queues (s : State) (g i : Nat) (v : Flexe) : (s.setFlexe g i v).queues = s.queues := rfl
@[simp] theorem setFlexe_fabric (s : State) (g i : Nat) (v : Flexe) : (s.setFlexe g i v).fabric = s.fabric := rfl
@[simp] theorem setFlexe_hbm (s : State) (g i : Nat) (v : Flexe) : (s.setFlexe g i v).hbm = s.hbm := rfl
@[simp] theorem setFlexe_letters (s : State) (g i : Nat) (v : Flexe) : (s.setFlexe g i v).letters = s.letters := rfl
@[simp] theorem setFlexe_mgmt (s : State) (g i : Nat) (v : Flexe) : (s.setFlexe g i v).mgmt = s.mgmt := rfl
@[simp] theorem setFlexe_slices (s : State) (g i : Nat) (v : Flexe) : (s.setFlexe g i v).slices = s.slices := rfl
@[simp] theorem setFlexe_courier (s : State) (g i : Nat) (v : Flexe) : (s.setFlexe g i v).courier = s.courier := rfl
@[simp] theorem setFlexe_pm (s : State) (g i : Nat) (v : Flexe) : (s.setFlexe g i v).pm = s.pm := rfl
@[simp] theorem setFlexe_images (s : State) (g i : Nat) (v : Flexe) : (s.setFlexe g i v).images = s.images := rfl
@[simp] theorem setFlexe_tel (s : State) (g i : Nat) (v : Flexe) : (s.setFlexe g i v).tel = s.tel := rfl
@[simp] theorem setFlexe_power (s : State) (g i : Nat) (v : Flexe) : (s.setFlexe g i v).power = s.power := rfl
@[simp] theorem setFlexe_faults (s : State) (g i : Nat) (v : Flexe) : (s.setFlexe g i v).faults = s.faults := rfl
@[simp] theorem setFlexe_regs (s : State) (g i : Nat) (v : Flexe) : (s.setFlexe g i v).regs = s.regs := rfl
@[simp] theorem setFlexe_fresh (s : State) (g i : Nat) (v : Flexe) : (s.setFlexe g i v).fresh = s.fresh := rfl
@[simp] theorem setFlexe_out (s : State) (g i : Nat) (v : Flexe) : (s.setFlexe g i v).out = s.out := rfl
@[simp] theorem setFlexe_pending (s : State) (g i : Nat) (v : Flexe) : (s.setFlexe g i v).pending = s.pending := rfl
@[simp] theorem setFlexe_ohChan (s : State) (g i : Nat) (v : Flexe) (j : Nat) : (s.setFlexe g i v).ohChan j = s.ohChan j := rfl
@[simp] theorem setFlexe_tsPage (s : State) (g i : Nat) (v : Flexe) (j : Nat) : (s.setFlexe g i v).tsPage j = s.tsPage j := rfl
@[simp] theorem setFlexe_port (s : State) (g i : Nat) (v : Flexe) (j : Nat) : (s.setFlexe g i v).port j = s.port j := rfl
@[simp] theorem setFlexe_otu (s : State) (g i : Nat) (v : Flexe) (h j : Nat) : (s.setFlexe g i v).otu h j = s.otu h j := rfl
@[simp] theorem setFlexe_trib (s : State) (g i : Nat) (v : Flexe) (h j : Nat) : (s.setFlexe g i v).trib h j = s.trib h j := rfl

/-! ## otu -/

@[simp] theorem otu_setOtu (s : State) (g i : Nat) (v : Otu) : (s.setOtu g i v).otu g i = v := by
  simp [State.otu, State.setOtu]
@[simp] theorem setOtu_variant (s : State) (g i : Nat) (v : Otu) : (s.setOtu g i v).variant = s.variant := rfl
@[simp] theorem setOtu_time (s : State) (g i : Nat) (v : Otu) : (s.setOtu g i v).time = s.time := rfl
@[simp] theorem setOtu_peers (s : State) (g i : Nat) (v : Otu) : (s.setOtu g i v).peers = s.peers := rfl
@[simp] theorem setOtu_epoch (s : State) (g i : Nat) (v : Otu) : (s.setOtu g i v).epoch = s.epoch := rfl
@[simp] theorem setOtu_d2d (s : State) (g i : Nat) (v : Otu) : (s.setOtu g i v).d2d = s.d2d := rfl
@[simp] theorem setOtu_clerks (s : State) (g i : Nat) (v : Otu) : (s.setOtu g i v).clerks = s.clerks := rfl
@[simp] theorem setOtu_lookup (s : State) (g i : Nat) (v : Otu) : (s.setOtu g i v).lookup = s.lookup := rfl
@[simp] theorem setOtu_buffers (s : State) (g i : Nat) (v : Otu) : (s.setOtu g i v).buffers = s.buffers := rfl
@[simp] theorem setOtu_queues (s : State) (g i : Nat) (v : Otu) : (s.setOtu g i v).queues = s.queues := rfl
@[simp] theorem setOtu_fabric (s : State) (g i : Nat) (v : Otu) : (s.setOtu g i v).fabric = s.fabric := rfl
@[simp] theorem setOtu_hbm (s : State) (g i : Nat) (v : Otu) : (s.setOtu g i v).hbm = s.hbm := rfl
@[simp] theorem setOtu_letters (s : State) (g i : Nat) (v : Otu) : (s.setOtu g i v).letters = s.letters := rfl
@[simp] theorem setOtu_mgmt (s : State) (g i : Nat) (v : Otu) : (s.setOtu g i v).mgmt = s.mgmt := rfl
@[simp] theorem setOtu_slices (s : State) (g i : Nat) (v : Otu) : (s.setOtu g i v).slices = s.slices := rfl
@[simp] theorem setOtu_courier (s : State) (g i : Nat) (v : Otu) : (s.setOtu g i v).courier = s.courier := rfl
@[simp] theorem setOtu_pm (s : State) (g i : Nat) (v : Otu) : (s.setOtu g i v).pm = s.pm := rfl
@[simp] theorem setOtu_images (s : State) (g i : Nat) (v : Otu) : (s.setOtu g i v).images = s.images := rfl
@[simp] theorem setOtu_tel (s : State) (g i : Nat) (v : Otu) : (s.setOtu g i v).tel = s.tel := rfl
@[simp] theorem setOtu_power (s : State) (g i : Nat) (v : Otu) : (s.setOtu g i v).power = s.power := rfl
@[simp] theorem setOtu_faults (s : State) (g i : Nat) (v : Otu) : (s.setOtu g i v).faults = s.faults := rfl
@[simp] theorem setOtu_regs (s : State) (g i : Nat) (v : Otu) : (s.setOtu g i v).regs = s.regs := rfl
@[simp] theorem setOtu_fresh (s : State) (g i : Nat) (v : Otu) : (s.setOtu g i v).fresh = s.fresh := rfl
@[simp] theorem setOtu_out (s : State) (g i : Nat) (v : Otu) : (s.setOtu g i v).out = s.out := rfl
@[simp] theorem setOtu_pending (s : State) (g i : Nat) (v : Otu) : (s.setOtu g i v).pending = s.pending := rfl
@[simp] theorem setOtu_ohChan (s : State) (g i : Nat) (v : Otu) (j : Nat) : (s.setOtu g i v).ohChan j = s.ohChan j := rfl
@[simp] theorem setOtu_tsPage (s : State) (g i : Nat) (v : Otu) (j : Nat) : (s.setOtu g i v).tsPage j = s.tsPage j := rfl
@[simp] theorem setOtu_port (s : State) (g i : Nat) (v : Otu) (j : Nat) : (s.setOtu g i v).port j = s.port j := rfl
@[simp] theorem setOtu_flexe (s : State) (g i : Nat) (v : Otu) (h j : Nat) : (s.setOtu g i v).flexe h j = s.flexe h j := rfl
@[simp] theorem setOtu_trib (s : State) (g i : Nat) (v : Otu) (h j : Nat) : (s.setOtu g i v).trib h j = s.trib h j := rfl

/-! ## trib -/

@[simp] theorem trib_setTrib (s : State) (g i : Nat) (v : Trib) : (s.setTrib g i v).trib g i = v := by
  simp [State.trib, State.setTrib]
@[simp] theorem setTrib_variant (s : State) (g i : Nat) (v : Trib) : (s.setTrib g i v).variant = s.variant := rfl
@[simp] theorem setTrib_time (s : State) (g i : Nat) (v : Trib) : (s.setTrib g i v).time = s.time := rfl
@[simp] theorem setTrib_peers (s : State) (g i : Nat) (v : Trib) : (s.setTrib g i v).peers = s.peers := rfl
@[simp] theorem setTrib_epoch (s : State) (g i : Nat) (v : Trib) : (s.setTrib g i v).epoch = s.epoch := rfl
@[simp] theorem setTrib_d2d (s : State) (g i : Nat) (v : Trib) : (s.setTrib g i v).d2d = s.d2d := rfl
@[simp] theorem setTrib_clerks (s : State) (g i : Nat) (v : Trib) : (s.setTrib g i v).clerks = s.clerks := rfl
@[simp] theorem setTrib_lookup (s : State) (g i : Nat) (v : Trib) : (s.setTrib g i v).lookup = s.lookup := rfl
@[simp] theorem setTrib_buffers (s : State) (g i : Nat) (v : Trib) : (s.setTrib g i v).buffers = s.buffers := rfl
@[simp] theorem setTrib_queues (s : State) (g i : Nat) (v : Trib) : (s.setTrib g i v).queues = s.queues := rfl
@[simp] theorem setTrib_fabric (s : State) (g i : Nat) (v : Trib) : (s.setTrib g i v).fabric = s.fabric := rfl
@[simp] theorem setTrib_hbm (s : State) (g i : Nat) (v : Trib) : (s.setTrib g i v).hbm = s.hbm := rfl
@[simp] theorem setTrib_letters (s : State) (g i : Nat) (v : Trib) : (s.setTrib g i v).letters = s.letters := rfl
@[simp] theorem setTrib_mgmt (s : State) (g i : Nat) (v : Trib) : (s.setTrib g i v).mgmt = s.mgmt := rfl
@[simp] theorem setTrib_slices (s : State) (g i : Nat) (v : Trib) : (s.setTrib g i v).slices = s.slices := rfl
@[simp] theorem setTrib_courier (s : State) (g i : Nat) (v : Trib) : (s.setTrib g i v).courier = s.courier := rfl
@[simp] theorem setTrib_pm (s : State) (g i : Nat) (v : Trib) : (s.setTrib g i v).pm = s.pm := rfl
@[simp] theorem setTrib_images (s : State) (g i : Nat) (v : Trib) : (s.setTrib g i v).images = s.images := rfl
@[simp] theorem setTrib_tel (s : State) (g i : Nat) (v : Trib) : (s.setTrib g i v).tel = s.tel := rfl
@[simp] theorem setTrib_power (s : State) (g i : Nat) (v : Trib) : (s.setTrib g i v).power = s.power := rfl
@[simp] theorem setTrib_faults (s : State) (g i : Nat) (v : Trib) : (s.setTrib g i v).faults = s.faults := rfl
@[simp] theorem setTrib_regs (s : State) (g i : Nat) (v : Trib) : (s.setTrib g i v).regs = s.regs := rfl
@[simp] theorem setTrib_fresh (s : State) (g i : Nat) (v : Trib) : (s.setTrib g i v).fresh = s.fresh := rfl
@[simp] theorem setTrib_out (s : State) (g i : Nat) (v : Trib) : (s.setTrib g i v).out = s.out := rfl
@[simp] theorem setTrib_pending (s : State) (g i : Nat) (v : Trib) : (s.setTrib g i v).pending = s.pending := rfl
@[simp] theorem setTrib_ohChan (s : State) (g i : Nat) (v : Trib) (j : Nat) : (s.setTrib g i v).ohChan j = s.ohChan j := rfl
@[simp] theorem setTrib_tsPage (s : State) (g i : Nat) (v : Trib) (j : Nat) : (s.setTrib g i v).tsPage j = s.tsPage j := rfl
@[simp] theorem setTrib_port (s : State) (g i : Nat) (v : Trib) (j : Nat) : (s.setTrib g i v).port j = s.port j := rfl
@[simp] theorem setTrib_flexe (s : State) (g i : Nat) (v : Trib) (h j : Nat) : (s.setTrib g i v).flexe h j = s.flexe h j := rfl
@[simp] theorem setTrib_otu (s : State) (g i : Nat) (v : Trib) (h j : Nat) : (s.setTrib g i v).otu h j = s.otu h j := rfl

end Sys2Proof.Machine
end

