-- ==== Sys2Proof/Laws/Shared.lean ====
section
/-!
SUPPORT. Laws/Shared.lean: the operations that every family reports with (counters, events, the fault log) change the
fault log, the event rings and the counters alone; one lemma per operation and field.
-/

namespace Sys2Proof.Machine

/-- `t` is `s` but for the fault log, the event rings and the counters. -/
def ReportOnly (s t : State) : Prop :=
  t = { s with faults := t.faults, letters := { s.letters with events := t.letters.events }, tel := t.tel }

theorem ReportOnly.refl (s : State) : ReportOnly s s := rfl

theorem ReportOnly.trans {s t u : State} (h : ReportOnly s t) (k : ReportOnly t u) : ReportOnly s u := by
  unfold ReportOnly at *
  rw [k, h]

theorem reportOnly_bump (s : State) (f : Fam) (i j n v : Nat) : ReportOnly s (s.bump f i j n v) := by
  unfold State.bump; split <;> rfl

theorem reportOnly_setEvRing (s : State) (i : Nat) (v : EventRing) : ReportOnly s (s.setEvRing i v) := rfl

theorem reportOnly_event (s : State) (i : Nat) (e : Event) : ReportOnly s (s.event i e) := by
  unfold State.event
  dsimp only
  split
  · rfl
  · exact ReportOnly.trans (reportOnly_setEvRing s i _) (reportOnly_bump _ _ _ _ _ _)

theorem reportOnly_setFault (s : State) (r : FaultRec) : ReportOnly s (s.setFault r) := rfl

theorem reportOnly_sendFault (s : State) (r : FaultRec) : ReportOnly s (s.sendFault r) := by
  unfold State.sendFault
  split
  · exact .refl s
  split
  · split
    · exact .refl s
    split
    · rfl
    · refine ReportOnly.trans ?_ (reportOnly_bump _ _ _ _ _ _)
      rfl
  · dsimp only
    split
    · exact reportOnly_event _ _ _
    · exact (reportOnly_event _ _ _).trans (reportOnly_event _ _ _)

theorem reportOnly_report (s : State) (n : W32) : ReportOnly s (s.report n) := by
  unfold State.report
  split
  · exact .refl s
  · dsimp only
    split <;> split <;>
      first | exact .refl s | exact ReportOnly.trans (reportOnly_setFault s _) (reportOnly_sendFault _ _)

theorem reportOnly_holdGrace (s : State) (c o : Nat) : ReportOnly s (s.holdGrace c o) := rfl

theorem reportOnly_startGrace (s : State) : ReportOnly s s.startGrace := rfl

theorem reportOnly_raise (s : State) (c o d p w q : Nat) (v : Option Nat) : ReportOnly s (s.raise c o d p w q v) := by
  unfold State.raise
  dsimp only
  split
  · exact ((reportOnly_holdGrace s c o).trans (reportOnly_setFault _ _)).trans (reportOnly_report _ _)
  · split
    · rfl
    · refine ReportOnly.trans ?_ (reportOnly_report _ _)
      rfl

theorem reportOnly_clearRec (s : State) (r : FaultRec) : ReportOnly s (s.clearRec r) :=
  ((reportOnly_setFault _ _).trans (reportOnly_report _ _)).trans (reportOnly_startGrace _)

theorem reportOnly_clearFault (s : State) (c o : Nat) : ReportOnly s (s.clearFault c o) := by
  unfold State.clearFault
  split
  · exact reportOnly_clearRec _ _
  · exact .refl s

theorem reportOnly_condition (s : State) (c o : Nat) (b : Bool) (d w : Nat) (v : Option Nat) :
    ReportOnly s (s.condition c o b d w v) := by
  unfold State.condition
  split
  · split
    · split
      · exact .refl s
      · exact (reportOnly_setFault _ _).trans (reportOnly_report _ _)
    · exact reportOnly_raise _ _ _ _ _ _ _ _
  · exact reportOnly_clearFault _ _ _

/-- A fold of reporting steps reports only. -/
theorem reportOnly_foldl {α : Type} (f : State → α → State) (h : ∀ s a, ReportOnly s (f s a)) (l : List α) (s : State) :
    ReportOnly s (l.foldl f s) := by
  induction l generalizing s with
  | nil => exact .refl s
  | cons a l ih => exact (h s a).trans (ih _)

theorem reportOnly_soleCondition (s : State) (c o : Nat) (b : Bool) (d : Nat) :
    ReportOnly s (s.soleCondition c o b d) := by
  unfold State.soleCondition
  split
  · split
    · exact .refl s
    · exact reportOnly_raise _ _ _ _ _ _ _ _
  · exact reportOnly_foldl _ reportOnly_clearRec _ _

theorem reportOnly_pageEvent (s : State) (e r i o : Nat) : ReportOnly s (s.pageEvent e r i o) := reportOnly_event _ _ _

/-! ## One lemma per operation and field -/

section
variable (s : State)
theorem ReportOnly.variant {s t : State} (h : ReportOnly s t) : t.variant = s.variant := by rw [h]
theorem ReportOnly.time {s t : State} (h : ReportOnly s t) : t.time = s.time := by rw [h]
theorem ReportOnly.peers {s t : State} (h : ReportOnly s t) : t.peers = s.peers := by rw [h]
theorem ReportOnly.epoch {s t : State} (h : ReportOnly s t) : t.epoch = s.epoch := by rw [h]
theorem ReportOnly.d2d {s t : State} (h : ReportOnly s t) : t.d2d = s.d2d := by rw [h]
theorem ReportOnly.line {s t : State} (h : ReportOnly s t) : t.line = s.line := by rw [h]
theorem ReportOnly.clerks {s t : State} (h : ReportOnly s t) : t.clerks = s.clerks := by rw [h]
theorem ReportOnly.lookup {s t : State} (h : ReportOnly s t) : t.lookup = s.lookup := by rw [h]
theorem ReportOnly.buffers {s t : State} (h : ReportOnly s t) : t.buffers = s.buffers := by rw [h]
theorem ReportOnly.queues {s t : State} (h : ReportOnly s t) : t.queues = s.queues := by rw [h]
theorem ReportOnly.fabric {s t : State} (h : ReportOnly s t) : t.fabric = s.fabric := by rw [h]
theorem ReportOnly.hbm {s t : State} (h : ReportOnly s t) : t.hbm = s.hbm := by rw [h]
theorem ReportOnly.mgmt {s t : State} (h : ReportOnly s t) : t.mgmt = s.mgmt := by rw [h]
theorem ReportOnly.slices {s t : State} (h : ReportOnly s t) : t.slices = s.slices := by rw [h]
theorem ReportOnly.courier {s t : State} (h : ReportOnly s t) : t.courier = s.courier := by rw [h]
theorem ReportOnly.pm {s t : State} (h : ReportOnly s t) : t.pm = s.pm := by rw [h]
theorem ReportOnly.images {s t : State} (h : ReportOnly s t) : t.images = s.images := by rw [h]
theorem ReportOnly.power {s t : State} (h : ReportOnly s t) : t.power = s.power := by rw [h]
theorem ReportOnly.regs {s t : State} (h : ReportOnly s t) : t.regs = s.regs := by rw [h]
theorem ReportOnly.fresh {s t : State} (h : ReportOnly s t) : t.fresh = s.fresh := by rw [h]
theorem ReportOnly.out {s t : State} (h : ReportOnly s t) : t.out = s.out := by rw [h]
theorem ReportOnly.pending {s t : State} (h : ReportOnly s t) : t.pending = s.pending := by rw [h]
theorem ReportOnly.letters {s t : State} (h : ReportOnly s t) :
    t.letters = { s.letters with events := t.letters.events } := by rw [h]

@[simp] theorem bump_variant (f : Fam) (i j n v : Nat) : (s.bump f i j n v).variant = s.variant :=
  (reportOnly_bump _ _ _ _ _ _).variant
@[simp] theorem bump_time (f : Fam) (i j n v : Nat) : (s.bump f i j n v).time = s.time :=
  (reportOnly_bump _ _ _ _ _ _).time
@[simp] theorem bump_peers (f : Fam) (i j n v : Nat) : (s.bump f i j n v).peers = s.peers :=
  (reportOnly_bump _ _ _ _ _ _).peers
@[simp] theorem bump_epoch (f : Fam) (i j n v : Nat) : (s.bump f i j n v).epoch = s.epoch :=
  (reportOnly_bump _ _ _ _ _ _).epoch
@[simp] theorem bump_d2d (f : Fam) (i j n v : Nat) : (s.bump f i j n v).d2d = s.d2d :=
  (reportOnly_bump _ _ _ _ _ _).d2d
@[simp] theorem bump_line (f : Fam) (i j n v : Nat) : (s.bump f i j n v).line = s.line :=
  (reportOnly_bump _ _ _ _ _ _).line
@[simp] theorem bump_clerks (f : Fam) (i j n v : Nat) : (s.bump f i j n v).clerks = s.clerks :=
  (reportOnly_bump _ _ _ _ _ _).clerks
@[simp] theorem bump_lookup (f : Fam) (i j n v : Nat) : (s.bump f i j n v).lookup = s.lookup :=
  (reportOnly_bump _ _ _ _ _ _).lookup
@[simp] theorem bump_buffers (f : Fam) (i j n v : Nat) : (s.bump f i j n v).buffers = s.buffers :=
  (reportOnly_bump _ _ _ _ _ _).buffers
@[simp] theorem bump_queues (f : Fam) (i j n v : Nat) : (s.bump f i j n v).queues = s.queues :=
  (reportOnly_bump _ _ _ _ _ _).queues
@[simp] theorem bump_fabric (f : Fam) (i j n v : Nat) : (s.bump f i j n v).fabric = s.fabric :=
  (reportOnly_bump _ _ _ _ _ _).fabric
@[simp] theorem bump_hbm (f : Fam) (i j n v : Nat) : (s.bump f i j n v).hbm = s.hbm :=
  (reportOnly_bump _ _ _ _ _ _).hbm
@[simp] theorem bump_mgmt (f : Fam) (i j n v : Nat) : (s.bump f i j n v).mgmt = s.mgmt :=
  (reportOnly_bump _ _ _ _ _ _).mgmt
@[simp] theorem bump_slices (f : Fam) (i j n v : Nat) : (s.bump f i j n v).slices = s.slices :=
  (reportOnly_bump _ _ _ _ _ _).slices
@[simp] theorem bump_courier (f : Fam) (i j n v : Nat) : (s.bump f i j n v).courier = s.courier :=
  (reportOnly_bump _ _ _ _ _ _).courier
@[simp] theorem bump_pm (f : Fam) (i j n v : Nat) : (s.bump f i j n v).pm = s.pm :=
  (reportOnly_bump _ _ _ _ _ _).pm
@[simp] theorem bump_images (f : Fam) (i j n v : Nat) : (s.bump f i j n v).images = s.images :=
  (reportOnly_bump _ _ _ _ _ _).images
@[simp] theorem bump_power (f : Fam) (i j n v : Nat) : (s.bump f i j n v).power = s.power :=
  (reportOnly_bump _ _ _ _ _ _).power
@[simp] theorem bump_regs (f : Fam) (i j n v : Nat) : (s.bump f i j n v).regs = s.regs :=
  (reportOnly_bump _ _ _ _ _ _).regs
@[simp] theorem bump_fresh (f : Fam) (i j n v : Nat) : (s.bump f i j n v).fresh = s.fresh :=
  (reportOnly_bump _ _ _ _ _ _).fresh
@[simp] theorem bump_out (f : Fam) (i j n v : Nat) : (s.bump f i j n v).out = s.out :=
  (reportOnly_bump _ _ _ _ _ _).out
@[simp] theorem bump_pending (f : Fam) (i j n v : Nat) : (s.bump f i j n v).pending = s.pending :=
  (reportOnly_bump _ _ _ _ _ _).pending
@[simp] theorem bump_rings (f : Fam) (i j n v : Nat) : (s.bump f i j n v).letters.rings = s.letters.rings := by
  rw [(reportOnly_bump _ _ _ _ _ _).letters]
@[simp] theorem bump_ledgers (f : Fam) (i j n v : Nat) : (s.bump f i j n v).letters.ledgers = s.letters.ledgers := by
  rw [(reportOnly_bump _ _ _ _ _ _).letters]
@[simp] theorem bump_inband (f : Fam) (i j n v : Nat) : (s.bump f i j n v).letters.inband = s.letters.inband := by
  rw [(reportOnly_bump _ _ _ _ _ _).letters]
@[simp] theorem bump_replies (f : Fam) (i j n v : Nat) : (s.bump f i j n v).letters.replies = s.letters.replies := by
  rw [(reportOnly_bump _ _ _ _ _ _).letters]
@[simp] theorem bump_lastRing (f : Fam) (i j n v : Nat) : (s.bump f i j n v).letters.lastRing = s.letters.lastRing := by
  rw [(reportOnly_bump _ _ _ _ _ _).letters]
@[simp] theorem bump_turns (f : Fam) (i j n v : Nat) : (s.bump f i j n v).letters.turns = s.letters.turns := by
  rw [(reportOnly_bump _ _ _ _ _ _).letters]

@[simp] theorem setEvRing_rings (i : Nat) (v : EventRing) : (s.setEvRing i v).letters.rings = s.letters.rings := by
  rw [(reportOnly_setEvRing _ _ _).letters]
@[simp] theorem setEvRing_ledgers (i : Nat) (v : EventRing) : (s.setEvRing i v).letters.ledgers = s.letters.ledgers := by
  rw [(reportOnly_setEvRing _ _ _).letters]
@[simp] theorem setEvRing_inband (i : Nat) (v : EventRing) : (s.setEvRing i v).letters.inband = s.letters.inband := by
  rw [(reportOnly_setEvRing _ _ _).letters]
@[simp] theorem setEvRing_replies (i : Nat) (v : EventRing) : (s.setEvRing i v).letters.replies = s.letters.replies := by
  rw [(reportOnly_setEvRing _ _ _).letters]
@[simp] theorem setEvRing_lastRing (i : Nat) (v : EventRing) : (s.setEvRing i v).letters.lastRing = s.letters.lastRing := by
  rw [(reportOnly_setEvRing _ _ _).letters]
@[simp] theorem setEvRing_turns (i : Nat) (v : EventRing) : (s.setEvRing i v).letters.turns = s.letters.turns := by
  rw [(reportOnly_setEvRing _ _ _).letters]

@[simp] theorem event_variant (i : Nat) (e : Event) : (s.event i e).variant = s.variant :=
  (reportOnly_event _ _ _).variant
@[simp] theorem event_time (i : Nat) (e : Event) : (s.event i e).time = s.time :=
  (reportOnly_event _ _ _).time
@[simp] theorem event_peers (i : Nat) (e : Event) : (s.event i e).peers = s.peers :=
  (reportOnly_event _ _ _).peers
@[simp] theorem event_epoch (i : Nat) (e : Event) : (s.event i e).epoch = s.epoch :=
  (reportOnly_event _ _ _).epoch
@[simp] theorem event_d2d (i : Nat) (e : Event) : (s.event i e).d2d = s.d2d :=
  (reportOnly_event _ _ _).d2d
@[simp] theorem event_line (i : Nat) (e : Event) : (s.event i e).line = s.line :=
  (reportOnly_event _ _ _).line
@[simp] theorem event_clerks (i : Nat) (e : Event) : (s.event i e).clerks = s.clerks :=
  (reportOnly_event _ _ _).clerks
@[simp] theorem event_lookup (i : Nat) (e : Event) : (s.event i e).lookup = s.lookup :=
  (reportOnly_event _ _ _).lookup
@[simp] theorem event_buffers (i : Nat) (e : Event) : (s.event i e).buffers = s.buffers :=
  (reportOnly_event _ _ _).buffers
@[simp] theorem event_queues (i : Nat) (e : Event) : (s.event i e).queues = s.queues :=
  (reportOnly_event _ _ _).queues
@[simp] theorem event_fabric (i : Nat) (e : Event) : (s.event i e).fabric = s.fabric :=
  (reportOnly_event _ _ _).fabric
@[simp] theorem event_hbm (i : Nat) (e : Event) : (s.event i e).hbm = s.hbm :=
  (reportOnly_event _ _ _).hbm
@[simp] theorem event_mgmt (i : Nat) (e : Event) : (s.event i e).mgmt = s.mgmt :=
  (reportOnly_event _ _ _).mgmt
@[simp] theorem event_slices (i : Nat) (e : Event) : (s.event i e).slices = s.slices :=
  (reportOnly_event _ _ _).slices
@[simp] theorem event_courier (i : Nat) (e : Event) : (s.event i e).courier = s.courier :=
  (reportOnly_event _ _ _).courier
@[simp] theorem event_pm (i : Nat) (e : Event) : (s.event i e).pm = s.pm :=
  (reportOnly_event _ _ _).pm
@[simp] theorem event_images (i : Nat) (e : Event) : (s.event i e).images = s.images :=
  (reportOnly_event _ _ _).images
@[simp] theorem event_power (i : Nat) (e : Event) : (s.event i e).power = s.power :=
  (reportOnly_event _ _ _).power
@[simp] theorem event_regs (i : Nat) (e : Event) : (s.event i e).regs = s.regs :=
  (reportOnly_event _ _ _).regs
@[simp] theorem event_fresh (i : Nat) (e : Event) : (s.event i e).fresh = s.fresh :=
  (reportOnly_event _ _ _).fresh
@[simp] theorem event_out (i : Nat) (e : Event) : (s.event i e).out = s.out :=
  (reportOnly_event _ _ _).out
@[simp] theorem event_pending (i : Nat) (e : Event) : (s.event i e).pending = s.pending :=
  (reportOnly_event _ _ _).pending
@[simp] theorem event_rings (i : Nat) (e : Event) : (s.event i e).letters.rings = s.letters.rings := by
  rw [(reportOnly_event _ _ _).letters]
@[simp] theorem event_ledgers (i : Nat) (e : Event) : (s.event i e).letters.ledgers = s.letters.ledgers := by
  rw [(reportOnly_event _ _ _).letters]
@[simp] theorem event_inband (i : Nat) (e : Event) : (s.event i e).letters.inband = s.letters.inband := by
  rw [(reportOnly_event _ _ _).letters]
@[simp] theorem event_replies (i : Nat) (e : Event) : (s.event i e).letters.replies = s.letters.replies := by
  rw [(reportOnly_event _ _ _).letters]
@[simp] theorem event_lastRing (i : Nat) (e : Event) : (s.event i e).letters.lastRing = s.letters.lastRing := by
  rw [(reportOnly_event _ _ _).letters]
@[simp] theorem event_turns (i : Nat) (e : Event) : (s.event i e).letters.turns = s.letters.turns := by
  rw [(reportOnly_event _ _ _).letters]

@[simp] theorem report_variant (n : W32) : (s.report n).variant = s.variant :=
  (reportOnly_report _ _).variant
@[simp] theorem report_time (n : W32) : (s.report n).time = s.time :=
  (reportOnly_report _ _).time
@[simp] theorem report_peers (n : W32) : (s.report n).peers = s.peers :=
  (reportOnly_report _ _).peers
@[simp] theorem report_epoch (n : W32) : (s.report n).epoch = s.epoch :=
  (reportOnly_report _ _).epoch
@[simp] theorem report_d2d (n : W32) : (s.report n).d2d = s.d2d :=
  (reportOnly_report _ _).d2d
@[simp] theorem report_line (n : W32) : (s.report n).line = s.line :=
  (reportOnly_report _ _).line
@[simp] theorem report_clerks (n : W32) : (s.report n).clerks = s.clerks :=
  (reportOnly_report _ _).clerks
@[simp] theorem report_lookup (n : W32) : (s.report n).lookup = s.lookup :=
  (reportOnly_report _ _).lookup
@[simp] theorem report_buffers (n : W32) : (s.report n).buffers = s.buffers :=
  (reportOnly_report _ _).buffers
@[simp] theorem report_queues (n : W32) : (s.report n).queues = s.queues :=
  (reportOnly_report _ _).queues
@[simp] theorem report_fabric (n : W32) : (s.report n).fabric = s.fabric :=
  (reportOnly_report _ _).fabric
@[simp] theorem report_hbm (n : W32) : (s.report n).hbm = s.hbm :=
  (reportOnly_report _ _).hbm
@[simp] theorem report_mgmt (n : W32) : (s.report n).mgmt = s.mgmt :=
  (reportOnly_report _ _).mgmt
@[simp] theorem report_slices (n : W32) : (s.report n).slices = s.slices :=
  (reportOnly_report _ _).slices
@[simp] theorem report_courier (n : W32) : (s.report n).courier = s.courier :=
  (reportOnly_report _ _).courier
@[simp] theorem report_pm (n : W32) : (s.report n).pm = s.pm :=
  (reportOnly_report _ _).pm
@[simp] theorem report_images (n : W32) : (s.report n).images = s.images :=
  (reportOnly_report _ _).images
@[simp] theorem report_power (n : W32) : (s.report n).power = s.power :=
  (reportOnly_report _ _).power
@[simp] theorem report_regs (n : W32) : (s.report n).regs = s.regs :=
  (reportOnly_report _ _).regs
@[simp] theorem report_fresh (n : W32) : (s.report n).fresh = s.fresh :=
  (reportOnly_report _ _).fresh
@[simp] theorem report_out (n : W32) : (s.report n).out = s.out :=
  (reportOnly_report _ _).out
@[simp] theorem report_pending (n : W32) : (s.report n).pending = s.pending :=
  (reportOnly_report _ _).pending
@[simp] theorem report_rings (n : W32) : (s.report n).letters.rings = s.letters.rings := by
  rw [(reportOnly_report _ _).letters]
@[simp] theorem report_ledgers (n : W32) : (s.report n).letters.ledgers = s.letters.ledgers := by
  rw [(reportOnly_report _ _).letters]
@[simp] theorem report_inband (n : W32) : (s.report n).letters.inband = s.letters.inband := by
  rw [(reportOnly_report _ _).letters]
@[simp] theorem report_replies (n : W32) : (s.report n).letters.replies = s.letters.replies := by
  rw [(reportOnly_report _ _).letters]
@[simp] theorem report_lastRing (n : W32) : (s.report n).letters.lastRing = s.letters.lastRing := by
  rw [(reportOnly_report _ _).letters]
@[simp] theorem report_turns (n : W32) : (s.report n).letters.turns = s.letters.turns := by
  rw [(reportOnly_report _ _).letters]

@[simp] theorem raise_variant (c o d p w q : Nat) (v : Option Nat) : (s.raise c o d p w q v).variant = s.variant :=
  (reportOnly_raise _ _ _ _ _ _ _ _).variant
@[simp] theorem raise_time (c o d p w q : Nat) (v : Option Nat) : (s.raise c o d p w q v).time = s.time :=
  (reportOnly_raise _ _ _ _ _ _ _ _).time
@[simp] theorem raise_peers (c o d p w q : Nat) (v : Option Nat) : (s.raise c o d p w q v).peers = s.peers :=
  (reportOnly_raise _ _ _ _ _ _ _ _).peers
@[simp] theorem raise_epoch (c o d p w q : Nat) (v : Option Nat) : (s.raise c o d p w q v).epoch = s.epoch :=
  (reportOnly_raise _ _ _ _ _ _ _ _).epoch
@[simp] theorem raise_d2d (c o d p w q : Nat) (v : Option Nat) : (s.raise c o d p w q v).d2d = s.d2d :=
  (reportOnly_raise _ _ _ _ _ _ _ _).d2d
@[simp] theorem raise_line (c o d p w q : Nat) (v : Option Nat) : (s.raise c o d p w q v).line = s.line :=
  (reportOnly_raise _ _ _ _ _ _ _ _).line
@[simp] theorem raise_clerks (c o d p w q : Nat) (v : Option Nat) : (s.raise c o d p w q v).clerks = s.clerks :=
  (reportOnly_raise _ _ _ _ _ _ _ _).clerks
@[simp] theorem raise_lookup (c o d p w q : Nat) (v : Option Nat) : (s.raise c o d p w q v).lookup = s.lookup :=
  (reportOnly_raise _ _ _ _ _ _ _ _).lookup
@[simp] theorem raise_buffers (c o d p w q : Nat) (v : Option Nat) : (s.raise c o d p w q v).buffers = s.buffers :=
  (reportOnly_raise _ _ _ _ _ _ _ _).buffers
@[simp] theorem raise_queues (c o d p w q : Nat) (v : Option Nat) : (s.raise c o d p w q v).queues = s.queues :=
  (reportOnly_raise _ _ _ _ _ _ _ _).queues
@[simp] theorem raise_fabric (c o d p w q : Nat) (v : Option Nat) : (s.raise c o d p w q v).fabric = s.fabric :=
  (reportOnly_raise _ _ _ _ _ _ _ _).fabric
@[simp] theorem raise_hbm (c o d p w q : Nat) (v : Option Nat) : (s.raise c o d p w q v).hbm = s.hbm :=
  (reportOnly_raise _ _ _ _ _ _ _ _).hbm
@[simp] theorem raise_mgmt (c o d p w q : Nat) (v : Option Nat) : (s.raise c o d p w q v).mgmt = s.mgmt :=
  (reportOnly_raise _ _ _ _ _ _ _ _).mgmt
@[simp] theorem raise_slices (c o d p w q : Nat) (v : Option Nat) : (s.raise c o d p w q v).slices = s.slices :=
  (reportOnly_raise _ _ _ _ _ _ _ _).slices
@[simp] theorem raise_courier (c o d p w q : Nat) (v : Option Nat) : (s.raise c o d p w q v).courier = s.courier :=
  (reportOnly_raise _ _ _ _ _ _ _ _).courier
@[simp] theorem raise_pm (c o d p w q : Nat) (v : Option Nat) : (s.raise c o d p w q v).pm = s.pm :=
  (reportOnly_raise _ _ _ _ _ _ _ _).pm
@[simp] theorem raise_images (c o d p w q : Nat) (v : Option Nat) : (s.raise c o d p w q v).images = s.images :=
  (reportOnly_raise _ _ _ _ _ _ _ _).images
@[simp] theorem raise_power (c o d p w q : Nat) (v : Option Nat) : (s.raise c o d p w q v).power = s.power :=
  (reportOnly_raise _ _ _ _ _ _ _ _).power
@[simp] theorem raise_regs (c o d p w q : Nat) (v : Option Nat) : (s.raise c o d p w q v).regs = s.regs :=
  (reportOnly_raise _ _ _ _ _ _ _ _).regs
@[simp] theorem raise_fresh (c o d p w q : Nat) (v : Option Nat) : (s.raise c o d p w q v).fresh = s.fresh :=
  (reportOnly_raise _ _ _ _ _ _ _ _).fresh
@[simp] theorem raise_out (c o d p w q : Nat) (v : Option Nat) : (s.raise c o d p w q v).out = s.out :=
  (reportOnly_raise _ _ _ _ _ _ _ _).out
@[simp] theorem raise_pending (c o d p w q : Nat) (v : Option Nat) : (s.raise c o d p w q v).pending = s.pending :=
  (reportOnly_raise _ _ _ _ _ _ _ _).pending
@[simp] theorem raise_rings (c o d p w q : Nat) (v : Option Nat) : (s.raise c o d p w q v).letters.rings = s.letters.rings := by
  rw [(reportOnly_raise _ _ _ _ _ _ _ _).letters]
@[simp] theorem raise_ledgers (c o d p w q : Nat) (v : Option Nat) : (s.raise c o d p w q v).letters.ledgers = s.letters.ledgers := by
  rw [(reportOnly_raise _ _ _ _ _ _ _ _).letters]
@[simp] theorem raise_inband (c o d p w q : Nat) (v : Option Nat) : (s.raise c o d p w q v).letters.inband = s.letters.inband := by
  rw [(reportOnly_raise _ _ _ _ _ _ _ _).letters]
@[simp] theorem raise_replies (c o d p w q : Nat) (v : Option Nat) : (s.raise c o d p w q v).letters.replies = s.letters.replies := by
  rw [(reportOnly_raise _ _ _ _ _ _ _ _).letters]
@[simp] theorem raise_lastRing (c o d p w q : Nat) (v : Option Nat) : (s.raise c o d p w q v).letters.lastRing = s.letters.lastRing := by
  rw [(reportOnly_raise _ _ _ _ _ _ _ _).letters]
@[simp] theorem raise_turns (c o d p w q : Nat) (v : Option Nat) : (s.raise c o d p w q v).letters.turns = s.letters.turns := by
  rw [(reportOnly_raise _ _ _ _ _ _ _ _).letters]

@[simp] theorem clearRec_variant (r : FaultRec) : (s.clearRec r).variant = s.variant :=
  (reportOnly_clearRec _ _).variant
@[simp] theorem clearRec_time (r : FaultRec) : (s.clearRec r).time = s.time :=
  (reportOnly_clearRec _ _).time
@[simp] theorem clearRec_peers (r : FaultRec) : (s.clearRec r).peers = s.peers :=
  (reportOnly_clearRec _ _).peers
@[simp] theorem clearRec_epoch (r : FaultRec) : (s.clearRec r).epoch = s.epoch :=
  (reportOnly_clearRec _ _).epoch
@[simp] theorem clearRec_d2d (r : FaultRec) : (s.clearRec r).d2d = s.d2d :=
  (reportOnly_clearRec _ _).d2d
@[simp] theorem clearRec_line (r : FaultRec) : (s.clearRec r).line = s.line :=
  (reportOnly_clearRec _ _).line
@[simp] theorem clearRec_clerks (r : FaultRec) : (s.clearRec r).clerks = s.clerks :=
  (reportOnly_clearRec _ _).clerks
@[simp] theorem clearRec_lookup (r : FaultRec) : (s.clearRec r).lookup = s.lookup :=
  (reportOnly_clearRec _ _).lookup
@[simp] theorem clearRec_buffers (r : FaultRec) : (s.clearRec r).buffers = s.buffers :=
  (reportOnly_clearRec _ _).buffers
@[simp] theorem clearRec_queues (r : FaultRec) : (s.clearRec r).queues = s.queues :=
  (reportOnly_clearRec _ _).queues
@[simp] theorem clearRec_fabric (r : FaultRec) : (s.clearRec r).fabric = s.fabric :=
  (reportOnly_clearRec _ _).fabric
@[simp] theorem clearRec_hbm (r : FaultRec) : (s.clearRec r).hbm = s.hbm :=
  (reportOnly_clearRec _ _).hbm
@[simp] theorem clearRec_mgmt (r : FaultRec) : (s.clearRec r).mgmt = s.mgmt :=
  (reportOnly_clearRec _ _).mgmt
@[simp] theorem clearRec_slices (r : FaultRec) : (s.clearRec r).slices = s.slices :=
  (reportOnly_clearRec _ _).slices
@[simp] theorem clearRec_courier (r : FaultRec) : (s.clearRec r).courier = s.courier :=
  (reportOnly_clearRec _ _).courier
@[simp] theorem clearRec_pm (r : FaultRec) : (s.clearRec r).pm = s.pm :=
  (reportOnly_clearRec _ _).pm
@[simp] theorem clearRec_images (r : FaultRec) : (s.clearRec r).images = s.images :=
  (reportOnly_clearRec _ _).images
@[simp] theorem clearRec_power (r : FaultRec) : (s.clearRec r).power = s.power :=
  (reportOnly_clearRec _ _).power
@[simp] theorem clearRec_regs (r : FaultRec) : (s.clearRec r).regs = s.regs :=
  (reportOnly_clearRec _ _).regs
@[simp] theorem clearRec_fresh (r : FaultRec) : (s.clearRec r).fresh = s.fresh :=
  (reportOnly_clearRec _ _).fresh
@[simp] theorem clearRec_out (r : FaultRec) : (s.clearRec r).out = s.out :=
  (reportOnly_clearRec _ _).out
@[simp] theorem clearRec_pending (r : FaultRec) : (s.clearRec r).pending = s.pending :=
  (reportOnly_clearRec _ _).pending
@[simp] theorem clearRec_rings (r : FaultRec) : (s.clearRec r).letters.rings = s.letters.rings := by
  rw [(reportOnly_clearRec _ _).letters]
@[simp] theorem clearRec_ledgers (r : FaultRec) : (s.clearRec r).letters.ledgers = s.letters.ledgers := by
  rw [(reportOnly_clearRec _ _).letters]
@[simp] theorem clearRec_inband (r : FaultRec) : (s.clearRec r).letters.inband = s.letters.inband := by
  rw [(reportOnly_clearRec _ _).letters]
@[simp] theorem clearRec_replies (r : FaultRec) : (s.clearRec r).letters.replies = s.letters.replies := by
  rw [(reportOnly_clearRec _ _).letters]
@[simp] theorem clearRec_lastRing (r : FaultRec) : (s.clearRec r).letters.lastRing = s.letters.lastRing := by
  rw [(reportOnly_clearRec _ _).letters]
@[simp] theorem clearRec_turns (r : FaultRec) : (s.clearRec r).letters.turns = s.letters.turns := by
  rw [(reportOnly_clearRec _ _).letters]

@[simp] theorem clearFault_variant (c o : Nat) : (s.clearFault c o).variant = s.variant :=
  (reportOnly_clearFault _ _ _).variant
@[simp] theorem clearFault_time (c o : Nat) : (s.clearFault c o).time = s.time :=
  (reportOnly_clearFault _ _ _).time
@[simp] theorem clearFault_peers (c o : Nat) : (s.clearFault c o).peers = s.peers :=
  (reportOnly_clearFault _ _ _).peers
@[simp] theorem clearFault_epoch (c o : Nat) : (s.clearFault c o).epoch = s.epoch :=
  (reportOnly_clearFault _ _ _).epoch
@[simp] theorem clearFault_d2d (c o : Nat) : (s.clearFault c o).d2d = s.d2d :=
  (reportOnly_clearFault _ _ _).d2d
@[simp] theorem clearFault_line (c o : Nat) : (s.clearFault c o).line = s.line :=
  (reportOnly_clearFault _ _ _).line
@[simp] theorem clearFault_clerks (c o : Nat) : (s.clearFault c o).clerks = s.clerks :=
  (reportOnly_clearFault _ _ _).clerks
@[simp] theorem clearFault_lookup (c o : Nat) : (s.clearFault c o).lookup = s.lookup :=
  (reportOnly_clearFault _ _ _).lookup
@[simp] theorem clearFault_buffers (c o : Nat) : (s.clearFault c o).buffers = s.buffers :=
  (reportOnly_clearFault _ _ _).buffers
@[simp] theorem clearFault_queues (c o : Nat) : (s.clearFault c o).queues = s.queues :=
  (reportOnly_clearFault _ _ _).queues
@[simp] theorem clearFault_fabric (c o : Nat) : (s.clearFault c o).fabric = s.fabric :=
  (reportOnly_clearFault _ _ _).fabric
@[simp] theorem clearFault_hbm (c o : Nat) : (s.clearFault c o).hbm = s.hbm :=
  (reportOnly_clearFault _ _ _).hbm
@[simp] theorem clearFault_mgmt (c o : Nat) : (s.clearFault c o).mgmt = s.mgmt :=
  (reportOnly_clearFault _ _ _).mgmt
@[simp] theorem clearFault_slices (c o : Nat) : (s.clearFault c o).slices = s.slices :=
  (reportOnly_clearFault _ _ _).slices
@[simp] theorem clearFault_courier (c o : Nat) : (s.clearFault c o).courier = s.courier :=
  (reportOnly_clearFault _ _ _).courier
@[simp] theorem clearFault_pm (c o : Nat) : (s.clearFault c o).pm = s.pm :=
  (reportOnly_clearFault _ _ _).pm
@[simp] theorem clearFault_images (c o : Nat) : (s.clearFault c o).images = s.images :=
  (reportOnly_clearFault _ _ _).images
@[simp] theorem clearFault_power (c o : Nat) : (s.clearFault c o).power = s.power :=
  (reportOnly_clearFault _ _ _).power
@[simp] theorem clearFault_regs (c o : Nat) : (s.clearFault c o).regs = s.regs :=
  (reportOnly_clearFault _ _ _).regs
@[simp] theorem clearFault_fresh (c o : Nat) : (s.clearFault c o).fresh = s.fresh :=
  (reportOnly_clearFault _ _ _).fresh
@[simp] theorem clearFault_out (c o : Nat) : (s.clearFault c o).out = s.out :=
  (reportOnly_clearFault _ _ _).out
@[simp] theorem clearFault_pending (c o : Nat) : (s.clearFault c o).pending = s.pending :=
  (reportOnly_clearFault _ _ _).pending
@[simp] theorem clearFault_rings (c o : Nat) : (s.clearFault c o).letters.rings = s.letters.rings := by
  rw [(reportOnly_clearFault _ _ _).letters]
@[simp] theorem clearFault_ledgers (c o : Nat) : (s.clearFault c o).letters.ledgers = s.letters.ledgers := by
  rw [(reportOnly_clearFault _ _ _).letters]
@[simp] theorem clearFault_inband (c o : Nat) : (s.clearFault c o).letters.inband = s.letters.inband := by
  rw [(reportOnly_clearFault _ _ _).letters]
@[simp] theorem clearFault_replies (c o : Nat) : (s.clearFault c o).letters.replies = s.letters.replies := by
  rw [(reportOnly_clearFault _ _ _).letters]
@[simp] theorem clearFault_lastRing (c o : Nat) : (s.clearFault c o).letters.lastRing = s.letters.lastRing := by
  rw [(reportOnly_clearFault _ _ _).letters]
@[simp] theorem clearFault_turns (c o : Nat) : (s.clearFault c o).letters.turns = s.letters.turns := by
  rw [(reportOnly_clearFault _ _ _).letters]

@[simp] theorem condition_variant (c o : Nat) (b : Bool) (d w : Nat) (v : Option Nat) : (s.condition c o b d w v).variant = s.variant :=
  (reportOnly_condition _ _ _ _ _ _ _).variant
@[simp] theorem condition_time (c o : Nat) (b : Bool) (d w : Nat) (v : Option Nat) : (s.condition c o b d w v).time = s.time :=
  (reportOnly_condition _ _ _ _ _ _ _).time
@[simp] theorem condition_peers (c o : Nat) (b : Bool) (d w : Nat) (v : Option Nat) : (s.condition c o b d w v).peers = s.peers :=
  (reportOnly_condition _ _ _ _ _ _ _).peers
@[simp] theorem condition_epoch (c o : Nat) (b : Bool) (d w : Nat) (v : Option Nat) : (s.condition c o b d w v).epoch = s.epoch :=
  (reportOnly_condition _ _ _ _ _ _ _).epoch
@[simp] theorem condition_d2d (c o : Nat) (b : Bool) (d w : Nat) (v : Option Nat) : (s.condition c o b d w v).d2d = s.d2d :=
  (reportOnly_condition _ _ _ _ _ _ _).d2d
@[simp] theorem condition_line (c o : Nat) (b : Bool) (d w : Nat) (v : Option Nat) : (s.condition c o b d w v).line = s.line :=
  (reportOnly_condition _ _ _ _ _ _ _).line
@[simp] theorem condition_clerks (c o : Nat) (b : Bool) (d w : Nat) (v : Option Nat) : (s.condition c o b d w v).clerks = s.clerks :=
  (reportOnly_condition _ _ _ _ _ _ _).clerks
@[simp] theorem condition_lookup (c o : Nat) (b : Bool) (d w : Nat) (v : Option Nat) : (s.condition c o b d w v).lookup = s.lookup :=
  (reportOnly_condition _ _ _ _ _ _ _).lookup
@[simp] theorem condition_buffers (c o : Nat) (b : Bool) (d w : Nat) (v : Option Nat) : (s.condition c o b d w v).buffers = s.buffers :=
  (reportOnly_condition _ _ _ _ _ _ _).buffers
@[simp] theorem condition_queues (c o : Nat) (b : Bool) (d w : Nat) (v : Option Nat) : (s.condition c o b d w v).queues = s.queues :=
  (reportOnly_condition _ _ _ _ _ _ _).queues
@[simp] theorem condition_fabric (c o : Nat) (b : Bool) (d w : Nat) (v : Option Nat) : (s.condition c o b d w v).fabric = s.fabric :=
  (reportOnly_condition _ _ _ _ _ _ _).fabric
@[simp] theorem condition_hbm (c o : Nat) (b : Bool) (d w : Nat) (v : Option Nat) : (s.condition c o b d w v).hbm = s.hbm :=
  (reportOnly_condition _ _ _ _ _ _ _).hbm
@[simp] theorem condition_mgmt (c o : Nat) (b : Bool) (d w : Nat) (v : Option Nat) : (s.condition c o b d w v).mgmt = s.mgmt :=
  (reportOnly_condition _ _ _ _ _ _ _).mgmt
@[simp] theorem condition_slices (c o : Nat) (b : Bool) (d w : Nat) (v : Option Nat) : (s.condition c o b d w v).slices = s.slices :=
  (reportOnly_condition _ _ _ _ _ _ _).slices
@[simp] theorem condition_courier (c o : Nat) (b : Bool) (d w : Nat) (v : Option Nat) : (s.condition c o b d w v).courier = s.courier :=
  (reportOnly_condition _ _ _ _ _ _ _).courier
@[simp] theorem condition_pm (c o : Nat) (b : Bool) (d w : Nat) (v : Option Nat) : (s.condition c o b d w v).pm = s.pm :=
  (reportOnly_condition _ _ _ _ _ _ _).pm
@[simp] theorem condition_images (c o : Nat) (b : Bool) (d w : Nat) (v : Option Nat) : (s.condition c o b d w v).images = s.images :=
  (reportOnly_condition _ _ _ _ _ _ _).images
@[simp] theorem condition_power (c o : Nat) (b : Bool) (d w : Nat) (v : Option Nat) : (s.condition c o b d w v).power = s.power :=
  (reportOnly_condition _ _ _ _ _ _ _).power
@[simp] theorem condition_regs (c o : Nat) (b : Bool) (d w : Nat) (v : Option Nat) : (s.condition c o b d w v).regs = s.regs :=
  (reportOnly_condition _ _ _ _ _ _ _).regs
@[simp] theorem condition_fresh (c o : Nat) (b : Bool) (d w : Nat) (v : Option Nat) : (s.condition c o b d w v).fresh = s.fresh :=
  (reportOnly_condition _ _ _ _ _ _ _).fresh
@[simp] theorem condition_out (c o : Nat) (b : Bool) (d w : Nat) (v : Option Nat) : (s.condition c o b d w v).out = s.out :=
  (reportOnly_condition _ _ _ _ _ _ _).out
@[simp] theorem condition_pending (c o : Nat) (b : Bool) (d w : Nat) (v : Option Nat) : (s.condition c o b d w v).pending = s.pending :=
  (reportOnly_condition _ _ _ _ _ _ _).pending
@[simp] theorem condition_rings (c o : Nat) (b : Bool) (d w : Nat) (v : Option Nat) : (s.condition c o b d w v).letters.rings = s.letters.rings := by
  rw [(reportOnly_condition _ _ _ _ _ _ _).letters]
@[simp] theorem condition_ledgers (c o : Nat) (b : Bool) (d w : Nat) (v : Option Nat) : (s.condition c o b d w v).letters.ledgers = s.letters.ledgers := by
  rw [(reportOnly_condition _ _ _ _ _ _ _).letters]
@[simp] theorem condition_inband (c o : Nat) (b : Bool) (d w : Nat) (v : Option Nat) : (s.condition c o b d w v).letters.inband = s.letters.inband := by
  rw [(reportOnly_condition _ _ _ _ _ _ _).letters]
@[simp] theorem condition_replies (c o : Nat) (b : Bool) (d w : Nat) (v : Option Nat) : (s.condition c o b d w v).letters.replies = s.letters.replies := by
  rw [(reportOnly_condition _ _ _ _ _ _ _).letters]
@[simp] theorem condition_lastRing (c o : Nat) (b : Bool) (d w : Nat) (v : Option Nat) : (s.condition c o b d w v).letters.lastRing = s.letters.lastRing := by
  rw [(reportOnly_condition _ _ _ _ _ _ _).letters]
@[simp] theorem condition_turns (c o : Nat) (b : Bool) (d w : Nat) (v : Option Nat) : (s.condition c o b d w v).letters.turns = s.letters.turns := by
  rw [(reportOnly_condition _ _ _ _ _ _ _).letters]

@[simp] theorem soleCondition_variant (c o : Nat) (b : Bool) (d : Nat) : (s.soleCondition c o b d).variant = s.variant :=
  (reportOnly_soleCondition _ _ _ _ _).variant
@[simp] theorem soleCondition_time (c o : Nat) (b : Bool) (d : Nat) : (s.soleCondition c o b d).time = s.time :=
  (reportOnly_soleCondition _ _ _ _ _).time
@[simp] theorem soleCondition_peers (c o : Nat) (b : Bool) (d : Nat) : (s.soleCondition c o b d).peers = s.peers :=
  (reportOnly_soleCondition _ _ _ _ _).peers
@[simp] theorem soleCondition_epoch (c o : Nat) (b : Bool) (d : Nat) : (s.soleCondition c o b d).epoch = s.epoch :=
  (reportOnly_soleCondition _ _ _ _ _).epoch
@[simp] theorem soleCondition_d2d (c o : Nat) (b : Bool) (d : Nat) : (s.soleCondition c o b d).d2d = s.d2d :=
  (reportOnly_soleCondition _ _ _ _ _).d2d
@[simp] theorem soleCondition_line (c o : Nat) (b : Bool) (d : Nat) : (s.soleCondition c o b d).line = s.line :=
  (reportOnly_soleCondition _ _ _ _ _).line
@[simp] theorem soleCondition_clerks (c o : Nat) (b : Bool) (d : Nat) : (s.soleCondition c o b d).clerks = s.clerks :=
  (reportOnly_soleCondition _ _ _ _ _).clerks
@[simp] theorem soleCondition_lookup (c o : Nat) (b : Bool) (d : Nat) : (s.soleCondition c o b d).lookup = s.lookup :=
  (reportOnly_soleCondition _ _ _ _ _).lookup
@[simp] theorem soleCondition_buffers (c o : Nat) (b : Bool) (d : Nat) : (s.soleCondition c o b d).buffers = s.buffers :=
  (reportOnly_soleCondition _ _ _ _ _).buffers
@[simp] theorem soleCondition_queues (c o : Nat) (b : Bool) (d : Nat) : (s.soleCondition c o b d).queues = s.queues :=
  (reportOnly_soleCondition _ _ _ _ _).queues
@[simp] theorem soleCondition_fabric (c o : Nat) (b : Bool) (d : Nat) : (s.soleCondition c o b d).fabric = s.fabric :=
  (reportOnly_soleCondition _ _ _ _ _).fabric
@[simp] theorem soleCondition_hbm (c o : Nat) (b : Bool) (d : Nat) : (s.soleCondition c o b d).hbm = s.hbm :=
  (reportOnly_soleCondition _ _ _ _ _).hbm
@[simp] theorem soleCondition_mgmt (c o : Nat) (b : Bool) (d : Nat) : (s.soleCondition c o b d).mgmt = s.mgmt :=
  (reportOnly_soleCondition _ _ _ _ _).mgmt
@[simp] theorem soleCondition_slices (c o : Nat) (b : Bool) (d : Nat) : (s.soleCondition c o b d).slices = s.slices :=
  (reportOnly_soleCondition _ _ _ _ _).slices
@[simp] theorem soleCondition_courier (c o : Nat) (b : Bool) (d : Nat) : (s.soleCondition c o b d).courier = s.courier :=
  (reportOnly_soleCondition _ _ _ _ _).courier
@[simp] theorem soleCondition_pm (c o : Nat) (b : Bool) (d : Nat) : (s.soleCondition c o b d).pm = s.pm :=
  (reportOnly_soleCondition _ _ _ _ _).pm
@[simp] theorem soleCondition_images (c o : Nat) (b : Bool) (d : Nat) : (s.soleCondition c o b d).images = s.images :=
  (reportOnly_soleCondition _ _ _ _ _).images
@[simp] theorem soleCondition_power (c o : Nat) (b : Bool) (d : Nat) : (s.soleCondition c o b d).power = s.power :=
  (reportOnly_soleCondition _ _ _ _ _).power
@[simp] theorem soleCondition_regs (c o : Nat) (b : Bool) (d : Nat) : (s.soleCondition c o b d).regs = s.regs :=
  (reportOnly_soleCondition _ _ _ _ _).regs
@[simp] theorem soleCondition_fresh (c o : Nat) (b : Bool) (d : Nat) : (s.soleCondition c o b d).fresh = s.fresh :=
  (reportOnly_soleCondition _ _ _ _ _).fresh
@[simp] theorem soleCondition_out (c o : Nat) (b : Bool) (d : Nat) : (s.soleCondition c o b d).out = s.out :=
  (reportOnly_soleCondition _ _ _ _ _).out
@[simp] theorem soleCondition_pending (c o : Nat) (b : Bool) (d : Nat) : (s.soleCondition c o b d).pending = s.pending :=
  (reportOnly_soleCondition _ _ _ _ _).pending
@[simp] theorem soleCondition_rings (c o : Nat) (b : Bool) (d : Nat) : (s.soleCondition c o b d).letters.rings = s.letters.rings := by
  rw [(reportOnly_soleCondition _ _ _ _ _).letters]
@[simp] theorem soleCondition_ledgers (c o : Nat) (b : Bool) (d : Nat) : (s.soleCondition c o b d).letters.ledgers = s.letters.ledgers := by
  rw [(reportOnly_soleCondition _ _ _ _ _).letters]
@[simp] theorem soleCondition_inband (c o : Nat) (b : Bool) (d : Nat) : (s.soleCondition c o b d).letters.inband = s.letters.inband := by
  rw [(reportOnly_soleCondition _ _ _ _ _).letters]
@[simp] theorem soleCondition_replies (c o : Nat) (b : Bool) (d : Nat) : (s.soleCondition c o b d).letters.replies = s.letters.replies := by
  rw [(reportOnly_soleCondition _ _ _ _ _).letters]
@[simp] theorem soleCondition_lastRing (c o : Nat) (b : Bool) (d : Nat) : (s.soleCondition c o b d).letters.lastRing = s.letters.lastRing := by
  rw [(reportOnly_soleCondition _ _ _ _ _).letters]
@[simp] theorem soleCondition_turns (c o : Nat) (b : Bool) (d : Nat) : (s.soleCondition c o b d).letters.turns = s.letters.turns := by
  rw [(reportOnly_soleCondition _ _ _ _ _).letters]

@[simp] theorem pageEvent_variant (e r i o : Nat) : (s.pageEvent e r i o).variant = s.variant :=
  (reportOnly_pageEvent _ _ _ _ _).variant
@[simp] theorem pageEvent_time (e r i o : Nat) : (s.pageEvent e r i o).time = s.time :=
  (reportOnly_pageEvent _ _ _ _ _).time
@[simp] theorem pageEvent_peers (e r i o : Nat) : (s.pageEvent e r i o).peers = s.peers :=
  (reportOnly_pageEvent _ _ _ _ _).peers
@[simp] theorem pageEvent_epoch (e r i o : Nat) : (s.pageEvent e r i o).epoch = s.epoch :=
  (reportOnly_pageEvent _ _ _ _ _).epoch
@[simp] theorem pageEvent_d2d (e r i o : Nat) : (s.pageEvent e r i o).d2d = s.d2d :=
  (reportOnly_pageEvent _ _ _ _ _).d2d
@[simp] theorem pageEvent_line (e r i o : Nat) : (s.pageEvent e r i o).line = s.line :=
  (reportOnly_pageEvent _ _ _ _ _).line
@[simp] theorem pageEvent_clerks (e r i o : Nat) : (s.pageEvent e r i o).clerks = s.clerks :=
  (reportOnly_pageEvent _ _ _ _ _).clerks
@[simp] theorem pageEvent_lookup (e r i o : Nat) : (s.pageEvent e r i o).lookup = s.lookup :=
  (reportOnly_pageEvent _ _ _ _ _).lookup
@[simp] theorem pageEvent_buffers (e r i o : Nat) : (s.pageEvent e r i o).buffers = s.buffers :=
  (reportOnly_pageEvent _ _ _ _ _).buffers
@[simp] theorem pageEvent_queues (e r i o : Nat) : (s.pageEvent e r i o).queues = s.queues :=
  (reportOnly_pageEvent _ _ _ _ _).queues
@[simp] theorem pageEvent_fabric (e r i o : Nat) : (s.pageEvent e r i o).fabric = s.fabric :=
  (reportOnly_pageEvent _ _ _ _ _).fabric
@[simp] theorem pageEvent_hbm (e r i o : Nat) : (s.pageEvent e r i o).hbm = s.hbm :=
  (reportOnly_pageEvent _ _ _ _ _).hbm
@[simp] theorem pageEvent_mgmt (e r i o : Nat) : (s.pageEvent e r i o).mgmt = s.mgmt :=
  (reportOnly_pageEvent _ _ _ _ _).mgmt
@[simp] theorem pageEvent_slices (e r i o : Nat) : (s.pageEvent e r i o).slices = s.slices :=
  (reportOnly_pageEvent _ _ _ _ _).slices
@[simp] theorem pageEvent_courier (e r i o : Nat) : (s.pageEvent e r i o).courier = s.courier :=
  (reportOnly_pageEvent _ _ _ _ _).courier
@[simp] theorem pageEvent_pm (e r i o : Nat) : (s.pageEvent e r i o).pm = s.pm :=
  (reportOnly_pageEvent _ _ _ _ _).pm
@[simp] theorem pageEvent_images (e r i o : Nat) : (s.pageEvent e r i o).images = s.images :=
  (reportOnly_pageEvent _ _ _ _ _).images
@[simp] theorem pageEvent_power (e r i o : Nat) : (s.pageEvent e r i o).power = s.power :=
  (reportOnly_pageEvent _ _ _ _ _).power
@[simp] theorem pageEvent_regs (e r i o : Nat) : (s.pageEvent e r i o).regs = s.regs :=
  (reportOnly_pageEvent _ _ _ _ _).regs
@[simp] theorem pageEvent_fresh (e r i o : Nat) : (s.pageEvent e r i o).fresh = s.fresh :=
  (reportOnly_pageEvent _ _ _ _ _).fresh
@[simp] theorem pageEvent_out (e r i o : Nat) : (s.pageEvent e r i o).out = s.out :=
  (reportOnly_pageEvent _ _ _ _ _).out
@[simp] theorem pageEvent_pending (e r i o : Nat) : (s.pageEvent e r i o).pending = s.pending :=
  (reportOnly_pageEvent _ _ _ _ _).pending
@[simp] theorem pageEvent_rings (e r i o : Nat) : (s.pageEvent e r i o).letters.rings = s.letters.rings := by
  rw [(reportOnly_pageEvent _ _ _ _ _).letters]
@[simp] theorem pageEvent_ledgers (e r i o : Nat) : (s.pageEvent e r i o).letters.ledgers = s.letters.ledgers := by
  rw [(reportOnly_pageEvent _ _ _ _ _).letters]
@[simp] theorem pageEvent_inband (e r i o : Nat) : (s.pageEvent e r i o).letters.inband = s.letters.inband := by
  rw [(reportOnly_pageEvent _ _ _ _ _).letters]
@[simp] theorem pageEvent_replies (e r i o : Nat) : (s.pageEvent e r i o).letters.replies = s.letters.replies := by
  rw [(reportOnly_pageEvent _ _ _ _ _).letters]
@[simp] theorem pageEvent_lastRing (e r i o : Nat) : (s.pageEvent e r i o).letters.lastRing = s.letters.lastRing := by
  rw [(reportOnly_pageEvent _ _ _ _ _).letters]
@[simp] theorem pageEvent_turns (e r i o : Nat) : (s.pageEvent e r i o).letters.turns = s.letters.turns := by
  rw [(reportOnly_pageEvent _ _ _ _ _).letters]

end

end Sys2Proof.Machine
end

