-- ==== Sys2Proof/Laws/Staging.lean ====
section
/-!
SUPPORT. Laws/Staging.lean: staging a record changes the lookup tables and the bank power alone as far as the epoch is
concerned, and a staging letter that names the pending epoch is accepted as STAGED.
-/

namespace Sys2Proof.Machine

variable {s : State} {l : LetterId}

/-- A fold whose steps keep a part of the state keeps it. -/
theorem foldl_keeps {α β γ : Type} (p : β → γ) (f : β → α → β) (h : ∀ b a, p (f b a) = p b) (l : List α) (b : β) :
    p (l.foldl f b) = p b := by
  induction l generalizing b with
  | nil => rfl
  | cons a l ih => simp [ih, h]

theorem askDomain_epoch (s : State) (d : Nat) (on : Bool) : (s.askDomain d on).epoch = s.epoch := by
  unfold State.askDomain
  dsimp only
  split
  · rfl
  · split <;> rfl

theorem setPhys_epoch (s : State) (p : Nat) (v : PhysBank) : (s.setPhys p v).epoch = s.epoch := rfl
theorem modRows_epoch (s : State) (b i : Nat) (f : Nat → AclRow → AclRow) : (s.modRows b i f).epoch = s.epoch := by
  unfold State.modRows
  exact foldl_keeps State.epoch (fun s j => s.setRow b j (f (j - i) (s.aclRow b j))) (fun _ _ => rfl) _ _
theorem bankPower_epoch (s : State) : s.bankPower.epoch = s.epoch := by
  unfold State.bankPower
  refine foldl_keeps State.epoch _ (fun b a => ?_) _ _
  split
  · rfl
  · dsimp only
    split
    · simp [askDomain_epoch, setPhys_epoch]
    · split <;> simp [askDomain_epoch, setPhys_epoch]

theorem stageRow_epoch {s t : State} {b i : Nat} {c : Nat → AclRow} (h : s.stageRow b i c = some t) : t.epoch = s.epoch := by
  unfold State.stageRow at h
  dsimp only at h
  have put : ∀ (s : State) (q : Nat) (f : Nat → AclRow → AclRow), ((s.modRows b q f).askWrite b q).epoch = s.epoch := by
    intro s q f; exact modRows_epoch s b q f
  split at h
  · split at h
    · split at h
      · cases h
      · cases hf : s.freeEntry b with
        | none => simp [hf] at h
        | some q =>
          simp only [hf, Option.map_some, Option.some.injEq] at h
          rw [← h]
          simp only [put, modRows_epoch]
    · cases h; simp only [put]
  · split at h
    · cases h; simp only [put]
    · split at h
      · cases h
      · split at h
        · cases h
        · cases hf : s.freeEntry b with
          | none => simp [hf] at h
          | some q =>
            simp only [hf, Option.map_some, Option.some.injEq] at h
            rw [← h]
            simp only [put, modRows_epoch]

theorem stageErase_epoch (s : State) (b i : Nat) : (s.stageErase b i).epoch = s.epoch := by
  unfold State.stageErase
  dsimp only
  split
  · rfl
  · split
    · exact modRows_epoch _ _ _ _
    · exact modRows_epoch _ _ _ _

theorem stageItem_epoch {s t : State} {r : TableRecord} (h : s.stageItem r = some t) : t.epoch = s.epoch := by
  cases r <;> simp only [State.stageItem] at h
  case aclWrite =>
    obtain ⟨u, hu, rfl⟩ := Option.map_eq_some_iff.mp h
    rw [bankPower_epoch]
    exact stageRow_epoch hu
  case aclDelete => cases h; exact stageErase_epoch _ _ _
  case aclProfile => cases h; rw [bankPower_epoch]
  all_goals (cases h; try rfl)
theorem firstFail_append (a b : List (Bool × Reject)) : firstFail (a ++ b) = (firstFail a).or (firstFail b) := by
  induction a with
  | nil => rfl
  | cons c a ih =>
    obtain ⟨x, r⟩ := c
    cases x <;> simp [firstFail, ih]

/-- The entry that is claimed is the ledger's. -/
theorem entry_of_claimed {op : Nat} {ps : List Par} {e : Entry} (h : s.claimed l op ps = some e) : s.entry l = some e := by
  unfold State.claimed at h
  split at h
  · next e' he =>
    dsimp only at h
    by_cases c : e'.st = .claimed ∧ e'.opcode.toNat = op ∧ e'.body = layBody ps ∧ s.pm.active = some e'.pm ∧
        e'.term = s.pm.term
    · simp only [c] at h
      simp at h
      rw [he, h.2]
    · simp at h
      exact absurd ⟨h.1.1, h.1.2.1, h.1.2.2.1, h.1.2.2.2.1, h.1.2.2.2.2.1⟩ c
  · cases h

/-- A record that stages within an open epoch, by an item letter that names it. -/
theorem tryItem_of_stagesTo {s t : State} {sl : Nat} {r : TableRecord} (h : StagesTo s t sl r) (q : Bool) :
    s.tryItem sl q r = .ok t := by
  obtain ⟨h1, h2, h3, h4, _, h6, h7, h8⟩ := h
  simp [State.tryItem, firstFail_append, h1, h2, h3, h4, h6, h7, h8]

theorem itemRun_staged {s t : State} {r : TableRecord} (h : Claimed s l (itemLetter r).1 (itemLetter r).2)
    (hn : NamesPending s l) (hs : StagesTo s t l.slice.val r) (hc : (s.itemApplied r).2 = none) :
    Accepted s t.countLetter (itemRun l r s) l .staged (s.itemApplied r).1 := by
  obtain ⟨e, he⟩ := Option.isSome_iff_exists.mp h
  have ee := entry_of_claimed he
  obtain ⟨hn1, hn2⟩ := hn
  simp only [ee, Option.any_some, Bool.and_eq_true, decide_eq_true_eq] at hn1
  have hq : t.epoch.seq = s.epoch.seq := by rw [stageItem_epoch hs.2.2.2.2.2.1]
  have hk := tryItem_of_stagesTo hs false
  obtain ⟨h1, h2, h3, h4, h5, h6, h7, h8⟩ := hs
  have hv : itemVerdict s r ⟨l, e⟩ = .accept .staged t.countLetter (s.itemApplied r).1 none false 0 := by
    have hsl : Ctx.sl ⟨l, e⟩ = l.slice.val := rfl
    simp only [itemVerdict, checked, h1, h5, State.stagingVerdict, State.stageView, State.mustHold, hsl, firstFail_append, hn1.1,
      Bool.not_true, Bool.false_and, Bool.false_eq_true, ↓reduceIte, h2, h3]
    simp [firstFail, noObj, busy, ← hn1.2, hn2, State.stageLetter, hk, Except.map, hq, hc]
    exact fun x => Option.ne_none_iff_isSome.mpr x
  unfold itemRun runLetter
  simp only [he, hv]
  exact ⟨_, rfl, rfl, rfl, rfl, rfl, rfl⟩

theorem stageAll_epoch {rs : List TableRecord} {s t : State} (h : stageAll rs s = some t) : t.epoch = s.epoch := by
  induction rs generalizing s with
  | nil => cases h; rfl
  | cons r rs ih =>
    unfold stageAll at h
    split at h
    · next u hu =>
      split at h
      · cases h
      · rw [ih h, stageItem_epoch hu]
    · cases h

/-- A block letter that names the pending epoch and fits. -/
theorem blockRun_staged {s t : State} {op : Nat} {records : ListArg TableRecord} {crc : W32} {rs : List TableRecord}
    (h : Claimed s l op [pL records, p4 crc]) (hs : BlockStages s t l (op / 256) records rs crc) :
    Accepted s t.countLetter (blockRun l op records crc s) l .staged (layBody [n4 0]) := by
  obtain ⟨⟨hn1, hn2⟩, h1, h2, h3, h4, h5, h6, h7, h8⟩ := hs
  obtain ⟨e, he⟩ := Option.isSome_iff_exists.mp h
  have ee := entry_of_claimed he
  simp only [ee, Option.any_some, Bool.and_eq_true, decide_eq_true_eq] at hn1
  have hq : t.epoch.seq = s.epoch.seq := by rw [stageAll_epoch h8]
  have c1 : ¬ (records.count.toNat = 0 ∨ 1048576 < records.count.toNat) := by omega
  have hv : s.stagingVerdict ⟨l, e⟩ true rs (fun _ => []) (fun _ => []) = .accept .staged t.countLetter (layBody [n4 0]) none false 0 := by
    simp [State.stagingVerdict, checked, firstFail, noObj, busy, hn1.1, ← hn1.2, hn2, State.stageLetter, h7, h8, hq]
    exact fun x => Option.ne_none_iff_isSome.mpr x
  unfold blockRun runLetter
  simp only [he, malformed, c1, decide_false, checked, firstFail, h3, withList, h4, h5, h6, ne_eq, not_true_eq_false]
  simp only [Bool.false_eq_true, ↓reduceIte, hv]
  exact ⟨_, rfl, rfl, rfl, rfl, rfl, rfl⟩

/-- An item letter that names no epoch while none is pending or being released: an implicit epoch (02 R63). -/
theorem itemRun_implicit {s t : State} {r : TableRecord} (h : Claimed s l (itemLetter r).1 (itemLetter r).2)
    (h1 : (s.entry l).all (fun e => e.epoch.isNone) = true) (h2 : s.epoch.pending = none)
    (h3 : s.epoch.releasing = none) (h5 : firstFail (s.itemSix r) = none)
    (h6 : firstFail (s.itemSeven l.slice.val r) = none) (h7 : firstFail (s.itemEight r) = none)
    (hs : StagesTo (s.openEpoch (s.epoch.current + 1#16)) t l.slice.val r)
    (hc : ((s.openEpoch (s.epoch.current + 1#16)).itemApplied r).2 = none) :
    Accepted s (State.switchEpoch { t with epoch := { t.epoch with implicit := some l } } t.units) (itemRun l r s) l .done
      ((s.openEpoch (s.epoch.current + 1#16)).itemApplied r).1 true := by
  obtain ⟨e, he⟩ := Option.isSome_iff_exists.mp h
  have ee := entry_of_claimed he
  simp only [ee, Option.all_some, Option.isNone_iff_eq_none] at h1
  have hk := tryItem_of_stagesTo hs false
  have hb : itemBadList r = none := hs.2.2.2.2.1
  have hv : itemVerdict s r ⟨l, e⟩ = .accept .done
      (State.switchEpoch { t with epoch := { t.epoch with implicit := some l } } t.units)
      ((s.openEpoch (s.epoch.current + 1#16)).itemApplied r).1 none true 0 := by
    have hsl : Ctx.sl ⟨l, e⟩ = l.slice.val := rfl
    simp only [itemVerdict, checked, h5, hb, State.stagingVerdict, State.stageView, State.mustHold, hsl, firstFail_append, h1, h3,
      Option.isSome_none, Bool.and_false, Bool.false_eq_true, ↓reduceIte, h6, h7]
    simp [firstFail, noObj, busy, h2, State.stageBusy, State.applyImplicit, State.stageLetter, hk, Except.map, hc, acceptWait]
  unfold itemRun runLetter
  simp only [he, hv]
  exact ⟨_, rfl, rfl, rfl, rfl, rfl, rfl⟩

end Sys2Proof.Machine
end

