-- ==== Sys2Proof/Laws/All.lean ====
section
/-!
SUPPORT. Laws/All.lean: the lemmas of the package, for the provers' imports.
-/
end

