-- ==== Sys2Proof/Machine/Contacts.lean ====
section
/-!
DEFINITION. Contacts.lean: where each signal lies in the land-grid field and in J-PWR, which contacts a variant drives, and
the levels of the output pins that follow from the state (18 R489-R502). Lengths are in micrometres.
-/

namespace Sys2Proof.Machine

/-! ## The land-grid field (18 R489-R491) -/

/-- A contact: row index 0-71 and column 1-64. -/
structure Contact where
  row : Nat
  col : Nat
deriving DecidableEq, Repr

/-- The contact exists. -/
def Contact.inField (c : Contact) : Bool := decide (c.row < 72) && decide (1 ≤ c.col) && decide (c.col ≤ 64)

/-- Place of a contact from contact A1 (18 R489). -/
def Contact.place (c : Contact) : Nat × Nat := ((c.col - 1) * 1000 + 500 * (c.row % 2), 866 * c.row)

/-- Place of contact A1 from the carrier's pin-1 corner, along the long edge and along the short one (18 R489). -/
def contactA1 : Nat × Nat := (30750, 21760)

/-- Letters of the row names in order: none is I, O, Q or R (18 R490). -/
def rowLetters : List Char :=
  ['A', 'B', 'C', 'D', 'E', 'F', 'G', 'H', 'J', 'K', 'L', 'M', 'N', 'P', 'S', 'T', 'U', 'V', 'W', 'X', 'Y', 'Z']

/-- Name of a row: one letter, or the letter of its block of 22 and its own (18 R490). -/
def rowName (i : Nat) : List Char :=
  let own := rowLetters.getD (i % 22) 'A'
  if i < 22 then [own] else [rowLetters.getD (i / 22 - 1) 'A', own]

/-- Groups of contacts (18 R491). -/
inductive ContactGroup where
  | network | lowSpeed | fabric
deriving DecidableEq, Repr

/-- Group of a row (18 R491): rows A to AB, AC to AV, AW to CF. -/
def rowGroup (i : Nat) : ContactGroup := if i < 24 then .network else if i < 40 then .lowSpeed else .fabric

/-! ## Signals (18 R492-R495) -/

/-- The low-speed signals of the field (18 R494); the test port serves factory test only (R495). -/
inductive LowSignal where
  | refPcie | refSerdes | synceOutA | synceOutB | ref25m | ref10m | ppsIn | ppsOut | todRxd | todTxd
  | pmbusScl | pmbusSda | alertN | presentN | resetN | pwrEn | throttleN | perstN | tck | tms | tdi | tdo | trstN
deriving DecidableEq, Repr

/-- What a contact carries; `leg` is true for the complement of a pair (18 R491). -/
inductive Signal where
  | ground
  | reserved
  | net (lane : Nat) (tx leg : Bool)
  | fab (lane : Nat) (tx leg : Bool)
  | pcie (lane : Nat) (tx leg : Bool)
  | mgt (port : Nat) (tx leg : Bool)
  | low (s : LowSignal) (leg : Bool)
deriving DecidableEq, Repr

/-- Lane, direction and leg of a SerDes contact by its row in the group and its column; none is ground (18 R492). -/
def serdesAt (row col : Nat) : Option (Nat × Bool × Bool) :=
  let k := (col - 1) / 16
  let m := (col - 1) % 16 / 4
  let x := (col - 1) % 4
  if 2 ≤ x then none
  else some (8 * (4 * (row / 4) + k) + 4 * (row % 2) + m, decide (2 ≤ row % 4), decide (x = 1))

/-- Contact of a lane's leg: of a network lane, or of fabric lane n, which is lane n of octets 24 upward (18 R492). -/
def laneContact (fabric : Bool) (n : Nat) (tx leg : Bool) : Contact :=
  let o := n / 8
  let j := n % 8
  ⟨(if fabric then 40 else 0) + 4 * (o / 4) + 2 * b2n tx + j / 4, 16 * (o % 4) + 4 * (j % 4) + 1 + b2n leg⟩

/-- A pair at a column and the next. -/
def pairAt (col at_ : Nat) (s : Bool → Signal) : Option Signal :=
  if col = at_ then some (s false) else if col = at_ + 1 then some (s true) else none

/-- First signal that stands at a column, else ground. -/
def orGround (l : List (Option Signal)) : Signal := (l.findSome? id).getD .ground

/-- A single-ended signal at a column. -/
def at? (col at_ : Nat) (s : LowSignal) : Option Signal := if col = at_ then some (.low s false) else none

/-- What a contact of rows AC to AV carries (18 R494). -/
def lowAt (row col : Nat) : Signal :=
  let lane (tx : Bool) : Option Signal :=
    if 1 ≤ col ∧ col ≤ 32 then pairAt col (4 * ((col - 1) / 4) + 1) (.pcie ((col - 1) / 4) tx) else none
  match rowName row with
  | ['A', 'D'] => orGround [lane false, pairAt col 33 (.mgt 0 false), pairAt col 37 (.mgt 0 true),
      pairAt col 41 (.mgt 1 false), pairAt col 45 (.mgt 1 true)]
  | ['A', 'F'] => orGround [lane true, pairAt col 33 (.low .refPcie), pairAt col 37 (.low .refSerdes)]
  | ['A', 'H'] => orGround [pairAt col 1 (.low .synceOutA), pairAt col 5 (.low .synceOutB), at? col 9 .ref25m,
      at? col 11 .ref10m, at? col 13 .ppsIn, at? col 15 .ppsOut, at? col 17 .todRxd, at? col 19 .todTxd]
  | ['A', 'K'] => orGround [at? col 1 .pmbusScl, at? col 3 .pmbusSda, at? col 5 .alertN, at? col 7 .presentN,
      at? col 9 .resetN, at? col 11 .pwrEn, at? col 13 .throttleN, at? col 15 .perstN]
  | ['A', 'M'] => orGround [at? col 1 .tck, at? col 3 .tms, at? col 5 .tdi, at? col 7 .tdo, at? col 9 .trstN]
  | ['A', 'P'] => if col % 2 = 1 then .reserved else .ground
  | ['A', 'T'] => if col % 2 = 1 ∧ col ≤ 25 then .reserved else .ground
  | _ => .ground

/-- What a contact carries (18 R491, R492, R494). -/
def Contact.signal (c : Contact) : Signal :=
  match rowGroup c.row with
  | .network => match serdesAt c.row c.col with
    | some (n, tx, leg) => .net n tx leg
    | none => .ground
  | .lowSpeed => lowAt c.row c.col
  | .fabric => match serdesAt (c.row - 40) c.col with
    | some (n, tx, leg) => .fab n tx leg
    | none => .ground

/-- The variant has the unit behind a signal: contacts of absent lanes are not driven (18 R493; 00 R9). -/
def Variant.drives (v : Variant) : Signal → Bool
  | .net n .. => decide (n / 8 < v.octets)
  | .fab n .. => decide (n < v.links)
  | _ => true

/-! ## J-PWR and the pins (18 R496-R502) -/

/-- Contacts of J-PWR (18 R496). -/
inductive PowerContact where
  | vinA | vinB | rtnA | rtnB | vinMon | iinMon | pgOut | monRtn | chassis | mated
deriving DecidableEq, Repr

/-- The contact lies on the input side, which is isolated from the secondary (18 R496). -/
def PowerContact.inputSide : PowerContact → Bool
  | .chassis => false
  | _ => true

/-- `VIN_MON` in millivolts: the input voltage over 40 (18 R496). -/
def State.vinMon (s : State) : Nat := s.power.vin / 40
/-- `IIN_MON` in millivolts: 20 mV for each ampere (18 R496). -/
def State.iinMon (s : State) : Nat := s.power.iin.toNat * 20 / 1000
/-- `PG_OUT` is released at power good, open drain before (18 R496; 16 R455). -/
def State.pgReleased (s : State) : Bool := s.power.rails
/-- `PRESENT_N` is tied to ground, with or without power (18 R498, R499). -/
def presentN : Bool := false
/-- `ALERT_N` is driven low while it is asserted and `VDD_AON` is on; otherwise it floats (18 R498, R499; 16 R460). -/
def State.alertLow (s : State) : Bool := s.power.aon && s.alertN
/-- `PPS_OUT` stays high for 10 ms from its edge (18 R501). -/
def State.ppsOutHigh (s : State) : Bool :=
  s.powered && match s.time.ppsAt with
    | some t => decide (s.up < t + 10000000)
    | none => false

/-- Level that an unconnected input takes from its internal bias: high, low, or none (18 R498, R499, R495). -/
def LowSignal.bias : LowSignal → Option Bool
  | .resetN | .throttleN | .perstN | .tms | .tdi => some true
  | .pwrEn | .tck | .trstN => some false
  | _ => none

/-- The shortest pulse of a discrete input that takes effect, in ns (18 R502): the rows carry only such pulses. -/
def LowSignal.minPulse : LowSignal → Option Nat
  | .resetN => some 10000
  | .throttleN => some 1000
  | .pwrEn => some 1000000
  | _ => none

end Sys2Proof.Machine
end

