-- ==== Sys2Proof/WellFormed.lean ====
section
/-!
DEFINITION. WellFormed.lean: the commands whose operands have the shape the manual gives them, beyond what their
types say.
-/

namespace Sys2Proof

/-- A ring entry is 256 bytes (10 R316). -/
def TakeSource.wf : TakeSource → Bool
  | .ring _ (some e) => e.length = 256
  | _ => true

/-- A list that was read has as many items as its count says (10 R328). -/
def ListArg.wf {α : Type} (l : ListArg α) : Bool :=
  match l.items with
  | some xs => xs.length = l.count.toNat
  | none => true

/-- RS(544,514) corrects up to 15 symbols of a codeword (03 R83, R114). -/
def Codeword.wf : Codeword → Bool
  | .uncorrectable => true
  | .corrected symbols => decide ((symbols.map fun x => x.2.val).sum ≤ 15)

/-- A command whose operands have the shape the manual gives them. -/
def Instr.wf : Instr → Bool
  | .letterTake _ _ src => src.wf
  | .todMessageRx bytes => bytes.length = 16
  | .frameReceive _ _ _ _ cws => cws.all Codeword.wf
  | .cellReceive _ c _ _ | .reachReceive _ c _ | .postcardReceive _ c _ => c.length = 320
  | .requestReceive _ c _ _ | .grantReceive _ c _ _ | .lossNoticeReceive _ c _ _ => c.length = 320
  | .bootRingEnable v => v.getLsbD 0
  | .bootRingDisable v => !v.getLsbD 0
  | .queueSetPort _ a => a.classPriority.length = 8 && a.classWeight.length = 8
  | .telemetryMirrorUpdate _ rails => rails.length = 8
  | .timeSetSource _ _ l _ => l.wf
  | .envelopeWriteCalendar _ _ _ l => l.wf
  | .envelopeWriteTsPage _ _ l => l.wf
  | .storeWriteMicro _ _ _ l => l.wf
  | .storeWriteNano _ _ _ l => l.wf
  | .storeWritePatch _ _ a b c _ => a.wf && b.wf && c.wf
  | .routeBlock _ l _ | .tableBlock _ l _ | .aclBlock _ l _ => l.wf
  | .tableEcmpWrite _ _ _ l => l.wf
  | .aclSetSelect _ _ l => l.wf
  | .queueWriteGates _ _ l => l.wf
  | .fabricSetMgroup _ _ l => l.wf
  | .sliceCreate _ _ _ l _ _ _ => l.wf
  | .sliceSetShare _ _ l => l.wf
  | .imageWrite _ _ _ _ l => l.wf
  | .telemetrySnapshot _ l _ => l.wf
  | _ => true

end Sys2Proof
end

