-- ==== Sys2Proof/Tests/Slice0.lean ====
section
/-!
SUPPORT. Tests/Slice0.lean: the model's own tests: the well-formedness smoke, the manual's worked examples, and for each
statement one theorem that shows states and operands meeting the hypotheses of every clause that has any.
-/

namespace Sys2Proof.Tests
open Sys2Proof Sys2Proof.Machine
set_option linter.unusedVariables false
set_option maxRecDepth 20000
set_option Elab.async false

/-! ## Small states -/

/-- A module in service: input and rails up, every domain on, start-up READY, postmaster A active. -/
def live : State := { State.reset with
  power := { State.reset.power with
    vin := 54000, aon := true, hkUp := true, pwrEn := true, rails := true, good := some 0, domains := BitVec.allOnes 160
    lost := 0#4, stage := .ready }
  time := { State.reset.time with uptime := 1000000000000000, counter := 1000000000000000 * 2 ^ 40 }
  pm := { State.reset.pm with active := some .a } }
/-- The letter stands CLAIMED in the ledger, with its opcode and body. -/
def claimOn (s : State) (l : LetterId) (op : Nat) (ps : List Par) : State :=
  State.setEntry { s with pm := { s.pm with active := some .a } } l {
    via := .ring 7, index := 1#32, term := s.pm.term, opcode := BitVec.ofNat 16 op, body := layBody ps }
/-- The state a command leaves, or the state itself where it stops. -/
def ran (c : Instr) (s : State) : State := match exec c s with
  | .next t => t
  | _ => s
/-- A command that answers a next state leaves the state `ran` names. -/
theorem ran_next (c : Instr) (s : State) (h : (match exec c s with | .next _ => true | _ => false) = true) :
    exec c s = .next (ran c s) := by
  unfold ran
  cases hc : exec c s <;> simp_all
/-- A key none of a table's rows carries is not found. -/
theorem afind_replicate {κ α : Type} [DecidableEq κ] (k k' : κ) (v : α) (n : Nat) (h : k' ≠ k) :
    afind (List.replicate n (k', v)) k = none := by
  induction n with
  | zero => rfl
  | succ n ih => rw [List.replicate_succ, afind, if_neg h]; exact ih
/-- A module whose reordering store holds all the cells its 48 MiB takes (R270). -/
def storeFull : State := { live with fabric := { live.fabric with
  rx := [(1, { held := List.replicate 157286 (0, { multicast := false, restart := false, poisoned := false, src := 1, dst := 0, seq := 7, epoch := 0, firstOff := 511, fill := 288, payload := [] }) })] } }
theorem storeFull_held : 48 * 1048576 < (storeFull.heldCells + 1) * 320 := by
  have h : ∀ n x, State.heldCells { live with fabric := { live.fabric with rx := [(1, { held := List.replicate n x })] } } = n := by
    intro n x
    simp [State.heldCells]
  unfold storeFull
  rw [h]
  decide
/-- A letter of format 1 with no body, from slice 0 with number 0, its CRC right (R327). -/
def bareLetter : List Byte :=
  let h := [0#8, 0#8, 1#8] ++ List.replicate 25 0#8
  h ++ leBytes (crc32c 0xFFFFFFFF h) 4
/-- The state a step leaves, or the state itself where it stops. -/
def stepped (s : State) : State := match step s with
  | .next t => t
  | _ => s
/-- A step that answers a next state leaves the state `stepped` names. -/
theorem stepped_next (s : State) (h : (match step s with | .next _ => true | _ => false) = true) :
    step s = .next (stepped s) := by
  unfold stepped
  cases hc : step s <;> simp_all
/-- The address after a port's own link-local one is no address of the port in service. -/
theorem linkLocal_next : live.ownAddress 0 true (linkLocal 0 + 1#128) = false := by
  have h : ∀ x : BitVec 128, x + 1#128 ≠ x := by
    intro x h
    bv_omega
  have g : (live.mgmtPort 0).ipv6 = 0#128 := by decide +kernel
  simp [State.ownAddress, h, g]
/-- A data cell that a module sends. -/
def dataCell (c : TxCell) (src : Nat) : List Byte := c.bytes src false
/-- A reach cell with the payload given. -/
def reachCell (payload : List Byte) : List Byte := formCell (8 * 2 ^ 252 + 4 * 2 ^ 224) payload
/-- A credit cell from module 1 with the messages given. -/
def creditCell (dst : Nat) (ms : List Nat) : List Byte :=
  formCell (controlHead false 1 dst false 2 ms.length) (ms.flatMap fun m => beBytes m 16)
/-- A postcard cell from module 1 whose payload begins with a format. -/
def postcardCell (format : Byte) : List Byte :=
  formCell (controlHead false 1 0 true 1 0) ([format, 1#8] ++ List.replicate 62 0#8)
/-- A cell that leaves the hold as it was leaves the queues alone. -/
theorem heardCell_queues (s : State) (i : Nat) (cell : List Byte) (h : cellHold cell = (s.link i).hold) :
    (s.heardCell i cell).queues = s.queues := by
  simp [State.heardCell, State.takeHold, h]
/-- Arguments of PORT.CONFIGURE that are all zero. -/
def plainPort : PortArgs := {
  port := 0#32, mode := 0#32, medium := 0#32, mtu := 0#64, trainTimeout := 0#64, debounce := 0#64, holdoff :=
  0#64, fecDegrade := 0#32, pause := 0#32, pcpMap := 0#32, tcMap := 0#32, dscpMap0 := 0#32, dscpMap1 := 0#32,
  dscpMap2 := 0#32, dscpMap3 := 0#32, hashProfile := 0#32, alwaysOn := 0#32 }
/-- A packet of one cell's worth that CT_INGRESS_START may take, at the head of what came from the Sorter. -/
def cutPacket : Packet := { data := List.replicate 64 0#8, len := 2048, queue := 5, firstAlone := true }
/-- Port 0 may cut through, and queue 5 holds credit. -/
def cutReady : State :=
  let s := { live with buffers := { live.buffers with fromSorter := [cutPacket] } }
  let s := s.setCut 0 { s.cut 0 with ingress := true }
  s.setQueue 5 { s.queue 5 with present := true, balance := 2048 }
/-- The same, with an admission profile that takes nothing. -/
def cutFull : State := { cutReady with buffers := { cutReady.buffers with admissions := [(0, { max := 0 })] } }
/-- The state in which CT_INGRESS_START asks for a place. -/
def asking (s : State) : State :=
  let t := (s.tagHandoff cutPacket).2
  { t with buffers := { t.buffers with fromSorter := (s.tagHandoff cutPacket).1 :: t.buffers.fromSorter.drop 1 } }
/-- The place asked for, and the state after. -/
def asked (s : State) : Option Placed × State :=
  (asking s).admitIn 5 0 2048 (s.tagHandoff cutPacket).1.colour (ofQueue 5)
/-- VOQ 0 holds these packets, with credit, and its destination's effective bit is set. -/
def voqHolds (ps : List Packet) : State :=
  let s := live.setQueue 0 { live.queue 0 with
    present := true, maxAge := 0, balance := 1, destModule := 1, packets := ps }
  let s := { s with queues := { s.queues with credited := [0] } }
  s.setPeer 1 { s.peer 1 with effective := true }
/-- A packet of an egress queue that the scheduler has selected. -/
def picked : Selected := ⟨{}, 131072, [], []⟩
/-- It is selected, and a die-to-die link is up. -/
def pickedState : State := { live with
  queues := { live.queues with selected := [picked] }
  d2d := { live.d2d with links := [(0, { up := true })] } }
/-- It has its next window. -/
def windowOf (s : State) : Packet := { picked.packet with refTime := s.units, winNo := s.d2d.nextSorter }
/-- The window has crossed. -/
def windowSent (s : State) : Option State :=
  State.sendFlit { s with queues := { s.queues with selected := s.queues.selected.erase picked } } false
    (.window (windowOf s))
/-- A window is back, and its packet waits for it. -/
def backState : State := { live with queues := { live.queues with returned := [({}, true)], away := [picked] } }
/-- The same with a die-to-die link up. -/
def backUp : State := { backState with d2d := { live.d2d with links := [(0, { up := true })] } }
/-- The packet as it goes on, and the state after its hand-off is tagged. -/
def rejoined : Packet × State := (backUp.meet [] picked).tagHandoff (picked.rejoin {})
/-- Bench 0 runs a nanoword of ones, an illegal one. -/
def trapping : State := { live with clerks := { live.clerks with
  benches := [(0, { modeP := false })], micro := [(0x40, 0x10000#32)], nano := [(1, BitVec.allOnes 256)] } }
/-- What that nanoword sees. -/
def trapView : View := { slot := { micro := 0x40#16 }, place := 0, uimm := 0, ns := nsOf trapping.units, ecc := false }
/-- A nanoword's run ends in a trap. -/
theorem run_traps (r : Except Trap Effects) (x : Trap)
    (h : (match r with | .error t => decide (t = x) | .ok _ => false) = true) : r = .error x := by
  cases r <;> simp_all
/-- An entry with nothing in it. -/
def noEntry : Entry := {}
/-- The letter names the pending epoch, which is epoch 1. -/
def naming (s : State) (l : LetterId) : State :=
  State.setEntry { s with epoch := { s.epoch with pending := some 1#16, page := .loading } } l
    { (s.entry l).getD noEntry with epoch := some 1#16 }

/-! ## Well-formedness refuses an ill-formed operand of every kind it checks -/

/-- A list whose count is not its length. -/
def oddList {α : Type} : ListArg α := ⟨0#64, 1#32, some []⟩
theorem test_wf_ring_entry : (Instr.letterTake .a 0 (.ring 0 (some []))).wf = false := by decide
theorem test_wf_tod : (Instr.todMessageRx []).wf = false := by decide
theorem test_wf_cell : (Instr.cellReceive 0 [] true []).wf = false := by decide
theorem test_wf_codeword : (Instr.frameReceive 0 [] true true [.corrected [(0, 15), (1, 1)]]).wf = false := by decide
theorem test_wf_boot : (Instr.bootRingEnable 0).wf = false ∧ (Instr.bootRingDisable 1).wf = false := by decide
theorem test_wf_classes :
    (Instr.queueSetPort ⟨0, 1⟩ ⟨0, 100, 16384, 0, 0, [], List.replicate 8 1⟩).wf = false ∧
    (Instr.queueSetPort ⟨0, 1⟩ ⟨0, 100, 16384, 0, 0, List.replicate 8 1, []⟩).wf = false := by decide
theorem test_wf_rails : (Instr.telemetryMirrorUpdate 0 []).wf = false := by decide
theorem test_wf_lists : ∀ i ∈ [
    Instr.timeSetSource ⟨0, 1⟩ 0 oddList 0, .envelopeWriteCalendar ⟨0, 1⟩ 0 0 oddList, .envelopeWriteTsPage ⟨0, 1⟩ 0 oddList,
    .storeWriteMicro ⟨0, 1⟩ 0 0 oddList, .storeWriteNano ⟨0, 1⟩ 0 0 oddList,
    .storeWritePatch ⟨0, 1⟩ 0 oddList ⟨0, 0, some []⟩ ⟨0, 0, some []⟩ 0,
    .storeWritePatch ⟨0, 1⟩ 0 ⟨0, 0, some []⟩ oddList ⟨0, 0, some []⟩ 0,
    .storeWritePatch ⟨0, 1⟩ 0 ⟨0, 0, some []⟩ ⟨0, 0, some []⟩ oddList 0, .routeBlock ⟨0, 1⟩ oddList 0,
    .tableBlock ⟨0, 1⟩ oddList 0, .aclBlock ⟨0, 1⟩ oddList 0, .tableEcmpWrite ⟨0, 1⟩ 0 0 oddList,
    .aclSetSelect ⟨0, 1⟩ 0 oddList, .queueWriteGates ⟨0, 1⟩ 0 oddList, .fabricSetMgroup ⟨0, 1⟩ 0 oddList,
    .sliceCreate ⟨0, 1⟩ 1 0 oddList 0 0 64, .sliceSetShare ⟨0, 1⟩ 1 oddList, .imageWrite ⟨0, 1⟩ 0 0 0 oddList,
    .telemetrySnapshot ⟨0, 1⟩ oddList 0], i.wf = false := by
  intro i hi
  simp only [List.mem_cons, List.not_mem_nil, or_false] at hi
  rcases hi with h | h | h | h | h | h | h | h | h | h | h | h | h | h | h | h | h | h | h <;> (rw [h]; rfl)

/-! ## The manual's worked examples -/

/-- The rates and bursts of 10's example of three receipts (R167, R338): CBS 32 B and PBS 20 MiB are clamped. -/
def exampleRates : PolicerArgs := {
  policer := 1200, scheme := 1, aware := 0, cir := 2500000000, pir := 5000000000, cbs := 32
  ebs := 0xFFFFFFFFFFFFFFFF, pbs := 20971520, adjust := 20 }
theorem test_policer_rates : (policerOf exampleRates none).2.1 = {
    trtcm := true, aware := false, cir := 2499936256, pir := 4999872512, cbs := 64, ebs := 0, pbs := 16777216
    adjust := 20 } := by decide +kernel
theorem test_policer_clamp : (firstClamp (policerOf exampleRates none).2.2) = some 5 := by decide +kernel
/-- 10's example: T lies 240 µs ahead, or 190 µs. -/
theorem test_time_lead :
    pastTime live (BitVec.ofNat 128 (1000000 * 2 ^ 48 + 240000 * 2 ^ 16)) = false ∧
    pastTime live (BitVec.ofNat 128 (1000000 * 2 ^ 48 + 190000 * 2 ^ 16)) = true := by decide +kernel
/-- 15's example of counter indices, port 48. -/
theorem test_counter_index : Fam.rxOk.base + 48 = 1179696 ∧ Fam.txOk.base + 48 = 1179888 := by decide
/-- 09's example of a sweep that passes at steps 12-19 and 30-71. -/
theorem test_sweep : longestRun (255 * 2 ^ 12 + (2 ^ 42 - 1) * 2 ^ 30) 128 = some (30, 71) := by decide +kernel
/-- 19's example: `MOD_UNITS` of an LE-3840. -/
theorem test_units : Variant.units .le3840 = 0x058621FFFFFFFFFF#64 := by decide +kernel
/-- The registers of 19's example, before the boot ring is enabled. -/
def bootReady (pasid : Bool) : State := { live with
  courier := { live.courier with pasidOn := pasid }
  regs := { live.regs with
    bootLetters := 0x100200000#64, bootReceipts := 0x100300000#64, bootRing := 0x00A00001#32 } }
/-- 19's example: the boot ring runs, and without PASID it is refused with 3. -/
theorem test_boot_ring :
    (ran (.bootRingEnable 1) (bootReady true)).bootCtrl = 0x40000001#32 ∧
    ((ran (.bootRingEnable 1) (bootReady true)).ring 0 0).depth = 1024 ∧
    (ran (.bootRingEnable 1) (bootReady false)).regs.refuse = 3 := by decide +kernel
/-- 03's example: four 400GBASE-R PHYs on eight lanes make 320 calendar slots. -/
theorem test_calendar_slots : Flexe.slotCount { phyType := 2, phys := 0x00FF } = 320 := by decide +kernel
/-- 05's example: 9,000,000 IPv4 and 1,500,000 IPv6 entries leave 582,912 units. -/
theorem test_fib_units :
    12582912 - (9000000 * fibCost ⟨0, false, 0, 24⟩ + 1500000 * fibCost ⟨0, true, 0, 64⟩) = 582912 := by decide
/-- 12's example: slice 3's item 0x07 is 1,024 and its channels 20 and 21 have a share of 1,024 each. -/
def shared : State :=
  let s := live.setSlice 3 { st := .active, amounts := [(7, 1024), (0x19, 2)], firsts := [(0x19, 20)] }
  let s := s.setChan 20 { st := .running, share := 1024 }
  s.setChan 21 { st := .running, share := 1024 }
/-- 12's example: channels 20 and 21 weigh 512, the dead-letter delivery 2,048. -/
theorem test_courier_weights :
    shared.quantum 20 = 64 * 512 ∧ shared.quantum 21 = 64 * 512 ∧ shared.quantum 66 = 64 * 2048 := by decide +kernel
/-- 12's example: a 9,000-octet punt is a record of 9,024 bytes. -/
theorem test_host_record :
    (hostRecord { raw := BitVec.ofNat 256 (16384 * 2 ^ 160) } { data := List.replicate 8996 0#8, len := 9000 }).length = 9024 := by
  decide +kernel
/-- 03 R81: the reset lane map is the identity. -/
theorem test_lane_map : isPermutation 0xFAC688 = true ∧ isPermutation 0 = false := by decide +kernel
/-- 02 R50: neither of two epochs 32,768 apart is the newer. -/
theorem test_epoch_newer : epochNewer 1 0xFFFF = true ∧ epochNewer 0x8000 0 = false ∧ epochNewer 0 0x8000 = false := by decide

/-! ## The contacts of the module (R489-R502) -/

/-- 18's examples: lane 49 of the network side is on contacts E37 and G37, fabric lane 200 on BY17 and CA17. -/
theorem test_contact_places :
    laneContact false 49 false false = ⟨4, 37⟩ ∧ rowName 4 = ['E'] ∧ laneContact false 49 true false = ⟨6, 37⟩ ∧
    laneContact true 200 false false = ⟨64, 17⟩ ∧ rowName 64 = ['B', 'Y'] ∧ laneContact true 200 true false = ⟨66, 17⟩ ∧
    rowName 66 = ['C', 'A'] := by decide
/-- 18's counts: 2,704 ground contacts and 45 reserved ones. -/
theorem test_contact_counts :
    let all := (List.range 72).flatMap fun r => (List.range 64).map fun c => (Contact.mk r (c + 1)).signal
    all.countP (· = .ground) = 2704 ∧ all.countP (· = .reserved) = 45 := by decide +kernel

/-! ## The hypotheses of the statements are met -/

/-- The hypotheses of `Obligations.StepRunsTheFrontCommand` are met. -/
theorem witness_StepRunsTheFrontCommand :
    ∃ (s : State), s.pending = [] :=
  ⟨live, by decide +kernel⟩

/-- The hypotheses of `Obligations.EveryStepKeepsTheInvariant` are met. -/
theorem witness_EveryStepKeepsTheInvariant :
    ∃ (s : State) (t : State), s.Inv ∧ step s = .next t :=
  ⟨(live |> fun (s : State) =>
    { s with clerks := { s.clerks with localMem := [(5, 1#8)] }, pending := [.timeRead ⟨0, 1#32⟩] }), (stepped ((live
    |> fun (s : State) =>
    { s with clerks := { s.clerks with localMem := [(5, 1#8)] }, pending := [.timeRead ⟨0, 1#32⟩] }) : State)),
    by unfold State.Inv; decide +kernel, stepped_next _ (by decide +kernel)⟩

/-- The hypotheses of `Obligations.EveryCommandAnswers` are met. -/
theorem witness_EveryCommandAnswers :
    ∃ (c : Instr) (s : State), s.variant = .le3840 :=
  ⟨((.registerWrite 0#26 false 0#64) : Instr), (live |> fun (s : State) => { s with variant := .le3840 }),
    by decide +kernel⟩

/-- The hypotheses of `Obligations.CommandsKeepTheQueueAndTheVariant` are met. -/
theorem witness_CommandsKeepTheQueueAndTheVariant :
    (∃ (c : Instr) (s : State) (t : State), exec c s = .next t) ∧
    (∃ (s : State) (t : State) (c : Instr) (cs : List Instr), s.pending = c :: cs ∧ step s = .next t) :=
  ⟨⟨((.registerWrite 0#26 false 0#64) : Instr), live, _, rfl⟩,
   ⟨(live |> fun (s : State) => { s with pending := ((Instr.timeRead ⟨0, 1#32⟩) : Instr) :: ([] : List Instr) }),
     (stepped ((live |> fun (s : State) =>
     { s with pending := ((Instr.timeRead ⟨0, 1#32⟩) : Instr) :: ([] : List Instr) }) : State)), (Instr.timeRead ⟨0,
     1#32⟩), ([] : List Instr), by decide +kernel, stepped_next _ (by decide +kernel)⟩⟩

/-- The hypotheses of `Obligations.LocalMemoryHasItsWriters` are met. -/
theorem witness_LocalMemoryHasItsWriters :
    (∃ (c : Instr) (s : State) (t : State), exec c s = .next t ∧ t.clerks.localMem ≠ s.clerks.localMem) ∧
    (∃ (b : Fin 32) (c : Fin 16) (ecc : Bool) (s : State) (t : State) (a : Nat), exec (.nanowordIssue b c ecc) s =
      .next t ∧ (a < 98304 * (16 * b.val + c.val) ∨ 98304 * (16 * b.val + c.val + 1) ≤ a)) ∧
    (∃ (s : State) (t : State) (l : LetterId) (clerk : W32) (offset : W32) (size : W64) (data : BitVec 512) (a :
      Nat), exec (.storeWriteLocal l clerk offset size data) s = .next t ∧ clerk.toNat < 512 ∧ (a < 98304 *
      clerk.toNat + offset.toNat ∨ 98304 * clerk.toNat + offset.toNat + 64 ≤ a)) :=
  ⟨⟨Instr.resetNAssert, (live |> fun (s : State) =>
     { s with clerks := { s.clerks with localMem := [(5, 1#8)] }, power := { s.power with resetN := true } }), (ran
     (Instr.resetNAssert : Instr) ((live |> fun (s : State) =>
     { s with clerks := { s.clerks with localMem := [(5, 1#8)] }, power := { s.power with resetN := true } }) :
     State)), ran_next _ _ (by decide +kernel), by decide +kernel⟩,
   ⟨(0 : Fin 32), (0 : Fin 16), false, live, (ran (.nanowordIssue (0 : Fin 32) (0 : Fin 16) false) live), 98304,
     ran_next _ _ (by decide +kernel), by decide +kernel⟩,
   ⟨live, _, (⟨0, 1#32⟩ : LetterId), 511#32, 0#32, 0#64, 0#512, 0, rfl, by decide +kernel⟩⟩

/-- The hypotheses of `Obligations.UnclaimedLettersDoNothing` are met. -/
theorem witness_UnclaimedLettersDoNothing :
    ∃ (c : Instr) (s : State) (l : LetterId) (op : Nat) (ps : List Par), letterOf c = some (l, op, ps) ∧ (¬ Claimed
      s l op ps) :=
  ⟨(Instr.timeRead ⟨0, 1#32⟩), live, (⟨0, 1#32⟩ : LetterId), 0x0206, ([] : List Par),
    by unfold Claimed; decide +kernel⟩

/-- The hypotheses of `Obligations.RejectedLettersHaveNoEffect` are met. -/
theorem witness_RejectedLettersHaveNoEffect :
    ∃ (c : Instr) (s : State) (t : State) (l : LetterId) (op : Nat) (ps : List Par) (e' : Entry), letterOf c = some
      (l, op, ps) ∧ Claimed s l op ps ∧ exec c s = .next t ∧ t.entry l = some e' ∧ e'.st = .done ∧ e'.receipt.status ≠
      .done ∧ e'.receipt.status ≠ .scheduled ∧ e'.receipt.status ≠ .staged ∧ e'.receipt.status ≠ .internalFault :=
  ⟨(Instr.epochAbort ⟨0, 1#32⟩ 1#32), claimOn live ⟨0, 1#32⟩ 0x0303 [p4 1#32], (ran (.epochAbort ⟨0, 1#32⟩ 1#32)
    (claimOn live ⟨0, 1#32⟩ 0x0303 [p4 1#32])), (⟨0, 1#32⟩ : LetterId), 0x0303, ([p4 1#32] : List Par), (((ran
    (.epochAbort ⟨0, 1#32⟩ 1#32) (claimOn live ⟨0, 1#32⟩ 0x0303 [p4 1#32])).entry ⟨0, 1#32⟩).getD noEntry),
    by decide +kernel, by unfold Claimed; decide +kernel, ran_next _ _ (by decide +kernel), by decide +kernel⟩

/-- The hypotheses of `Obligations.DispatchPicksTheFreestSlot` are met. -/
theorem witness_DispatchPicksTheFreestSlot :
    (∃ (s : State) (k : Nat), s.pickSlot = some k) ∧
    (∃ (s : State), (∀ b, b < s.variant.benches → (s.bench b).live = false)) :=
  ⟨⟨(live |> fun (s : State) => s.setBench 0 { s.bench 0 with st := .live }), 0, by decide +kernel⟩,
   ⟨live, by decide +kernel⟩⟩

/-- The hypotheses of `Obligations.AluOperationsComputeTheTable` are met. -/
theorem witness_AluOperationsComputeTheTable :
    (∃ (a : BitVec 64) (b : BitVec 64) (lo : Nat) (w : Nat) (imm : BitVec 16) (p : BitVec 8), lo = (imm.extractLsb' 0
      6).toNat ∧ w = (imm.extractLsb' 6 6).toNat + 1 ∧ lo + w ≤ 64) ∧
    (∃ (a : Nat) (b : Nat) (imm : BitVec 16) (p : BitVec 8), 64 < (imm.extractLsb' 0 6).toNat + (imm.extractLsb' 6
      6).toNat + 1) ∧
    (∃ (a : BitVec 64) (b : Nat) (k : Fin 3) (imm : Nat) (p : BitVec 8), imm % 4 = k.val) ∧
    (∃ (op : Nat) (a : Nat) (b : Nat) (imm : Nat) (p : BitVec 8), (op = 0 ∨ 0x15 < op ∨ op = 0x0E ∧ imm % 4 = 3)) ∧
    (∃ (w : View) (f : Nat) (field : Nat) (a : Nat) (b : Nat) (e : Effects), w.read (bits f 33 28) (some (bits f 15
      0)) field = .ok a ∧ w.read (bits f 27 22) (some (bits f 15 0)) field = .ok b ∧ (aluValue (bits f 47 40) a (if
      aluTwo (bits f 47 40) then b else 0) (bits f 15 0) w.slot.preds = none ∨ (0x10 ≤ bits f 47 40 ∧ bits f 47 40 ≤
      0x14 ∧ 8 ≤ bits f 39 34) ∨ 56 ≤ bits f 39 34)) ∧
    (∃ (w : View) (f : Nat) (field : Nat) (a : Nat) (b : Nat) (v : Nat) (e : Effects), w.read (bits f 33 28) (some
      (bits f 15 0)) field = .ok a ∧ w.read (bits f 27 22) (some (bits f 15 0)) field = .ok b ∧ aluValue (bits f 47
      40) a (if aluTwo (bits f 47 40) then b else 0) (bits f 15 0) w.slot.preds = some v) :=
  ⟨⟨0#64, 0#64, _, _, 0#16, 0#8, rfl, rfl, by decide +kernel⟩,
   ⟨0, 0, 0x0FC1#16, 0#8, by decide +kernel⟩,
   ⟨0#64, 0, (0 : Fin 3), 0, 0#8, by decide +kernel⟩,
   ⟨0, 0, 0, 0, 0#8, by decide +kernel⟩,
   ⟨({ slot := {}, place := 0, uimm := 0, ns := 0, ecc := false } : View), (0x16 * 2 ^ 40), 0, 0, 0, ({ } :
     Effects), rfl, rfl, by decide +kernel⟩,
   ⟨({ slot := {}, place := 0, uimm := 0, ns := 0, ecc := false } : View), (0x01 * 2 ^ 40), 0, 0, 0, 0, ({ } :
     Effects), rfl, rfl, by decide +kernel⟩⟩

/-- The hypotheses of `Obligations.MicroTrapsWriteTheirFrame` are met. -/
theorem witness_MicroTrapsWriteTheirFrame :
    (∃ (s : State) (k : Nat) (v : Slot) (mw : W32) (x : Trap), v.trap = none ∧ v.st = .ready) ∧
    (∃ (s : State) (k : Nat) (v : Slot) (mw : W32) (x : Trap), v.trap.isSome = true) :=
  ⟨⟨live, 0, ({ st := .ready } : Slot), 0#32, ({ cause := 1, field := 7, detail := 0 } : Trap), by decide +kernel⟩,
   ⟨live, 0, ({ trap := some (1, 0) } : Slot), 0#32, ({ cause := 1, field := 7, detail := 0 } : Trap),
     by decide +kernel⟩⟩

/-- The hypotheses of `Obligations.EcmpPicksByTheFoldedHash` are met. -/
theorem witness_EcmpPicksByTheFoldedHash :
    (∃ (g : Ecmp) (hash : BitVec 32) (rot : Fin 32), g.resilient = false ∧ g.members ≠ [] ∧ g.members.length ≤ 65536) ∧
    (∃ (g : Ecmp) (hash : BitVec 32) (rot : Fin 32), g.resilient = true ∧ g.members ≠ []) ∧
    (∃ (s : State) (e : Nat) (d : Dispatch) (g : Ecmp) (i : Nat) (n : NextHop), bit (d.key 0) 63 = true ∧ bits (d.key
      0) 21 20 = 1 ∧ s.see e (afind s.lookup.ecmp (bits (d.key 0) 19 0 % 65536)) = some g ∧ g.pick (hvBits d.hv 20 4)
      (bits d.param.toNat 4 0) = some i ∧ s.see e (afind s.lookup.nh i) = some n) :=
  ⟨⟨({ members := [5, 6, 7] } : Ecmp), 0x12345678#32, (31 : Fin 32), by decide +kernel⟩,
   ⟨({ resilient := true, members := [5, 6, 7] } : Ecmp), 0x12345678#32, (31 : Fin 32), by decide +kernel⟩,
   ⟨(live |> fun (s : State) =>
     { s with lookup := { s.lookup with ecmp := [(7, { cur := some ({ members := [5] } : Ecmp) })], nh := [(5, { cur := some ({ port := 3 } : NextHop) })] } }),
     0, ({ keys := [0x8000000000100007#64] } : Dispatch), ({ members := [5] } : Ecmp), 5, ({ port := 3 } : NextHop),
     by decide +kernel⟩⟩

/-- The hypotheses of `Obligations.PolicerRatesAreHeldAsMantissaAndExponent` are met. -/
theorem witness_PolicerRatesAreHeldAsMantissaAndExponent :
    ∃ (r : Nat), r < 2 ^ 47 :=
  ⟨0, by decide +kernel⟩

/-- The hypotheses of `Obligations.EpochLettersAndEvents` are met. -/
theorem witness_EpochLettersAndEvents :
    (∃ (a : BitVec 16) (b : BitVec 16), (a - b).toNat = 32768) ∧
    (∃ (s : State) (l : LetterId) (n : W32), Claimed s l 0x0301 [p4 n] ∧ n.toNat ≤ 65535 ∧ s.epoch.pending = none ∧
      s.epoch.releasing = none ∧ s.epoch.seq = none ∧ 1 ≤ (BitVec.ofNat 16 n.toNat - s.epoch.current).toNat ∧
      (BitVec.ofNat 16 n.toNat - s.epoch.current).toNat ≤ 32767) ∧
    (∃ (s : State) (l : LetterId) (n : W32) (count : W32) (spacing : W64), Claimed s l 0x0302 [p4 n, p4 count, pT
      0#128, p8 spacing] ∧ s.epoch.pending.map (·.toNat) = some n.toNat ∧ n.toNat ≤ 65535 ∧ 1 ≤ count.toNat ∧
      count.toNat ≤ s.epoch.applied ∧ count.toNat ≤ 16777215 ∧ s.epoch.held = false ∧ (s.epoch.page = .loading ∨
      s.epoch.page = .loaded) ∧ s.epoch.seq = none ∧ 200000 ≤ spacing.toNat ∧ spacing.toNat ≤ 100000000) ∧
    (∃ (s : State) (l : LetterId) (n : W32) (count : W32) (at' : TimeParam) (spacing : W64), Claimed s l 0x0302 [p4
      n, p4 count, pT at', p8 spacing] ∧ s.epoch.pending.map (·.toNat) = some n.toNat ∧ n.toNat ≤ 65535 ∧
      s.epoch.applied < count.toNat ∧ count.toNat ≤ 16777215 ∧ s.epoch.held = false ∧ (s.epoch.page = .loading ∨
      s.epoch.page = .loaded) ∧ s.epoch.seq = none ∧ 200000 ≤ spacing.toNat ∧ spacing.toNat ≤ 100000000 ∧ badTime at'
      = false ∧ farTime s at' = false ∧ pastTime s at' = false) ∧
    (∃ (s : State) (l : LetterId) (n : W32), Claimed s l 0x0303 [p4 n] ∧ n.toNat ≤ 65535 ∧ s.epoch.pending.map
      (·.toNat) = some n.toNat ∧ s.epoch.seq = none) ∧
    (∃ (s : State) (l : LetterId) (n : W32), Claimed s l 0x0304 [p4 n] ∧ n.toNat ≤ 65535 ∧ s.epoch.pending.map
      (·.toNat) = some n.toNat ∧ (s.epoch.page = .armed ∨ s.epoch.page = .deferred) ∧ s.epoch.seq = none) ∧
    (∃ (s : State) (l : LetterId), Claimed s l 0x0305 [] ∧ s.epoch.commit = none ∧ s.epoch.held = false ∧
      s.epoch.page ≠ .armed ∧ s.epoch.page ≠ .deferred ∧ s.epoch.seq = none) ∧
    (∃ (s : State) (n : BitVec 16) (c : Commit), s.epoch.pending = some n ∧ s.epoch.commit = some c ∧ s.epoch.seq =
      none ∧ s.epoch.held = false ∧ s.epoch.page = .armed ∧ c.t ≠ 0 ∧ c.t ≤ s.units ∧ c.good.getD s.timeGood = true) ∧
    (∃ (s : State) (n : BitVec 16) (c : Commit), s.epoch.pending = some n ∧ s.epoch.commit = some c ∧ s.epoch.seq =
      none ∧ s.epoch.held = false ∧ s.epoch.page = .armed ∧ c.t ≠ 0 ∧ c.t ≤ s.units ∧ c.good.getD s.timeGood = false) ∧
    (∃ (s : State) (n : BitVec 16) (c : Commit), s.epoch.pending = some n ∧ s.epoch.commit = some c ∧ s.epoch.seq =
      none ∧ s.epoch.held = true ∧ c.t ≠ 0 ∧ c.t ≤ s.units) ∧
    (∃ (s : State), s.epoch.releasing.isSome = true ∧ s.epoch.switchT + unitsOf 50000 ≤ s.units ∧ s.oldPasses = false
      ∧ s.lookup.copiesLeft = 0) ∧
    (∃ (s : State) (q : SeqChange), s.epoch.seq = some q ∧ q.switched ≠ 0 ∧ q.due ≤ s.units ∧ q.staged = true ∧
      s.epoch.pending.isSome = true) ∧
    (∃ (s : State) (q : SeqChange), s.epoch.seq = some q ∧ q.switched ≠ 0 ∧ q.due ≤ s.units ∧ q.staged = false) ∧
    (∃ (s : State) (q : SeqChange) (rs : List TableRecord), s.epoch.seq = some q ∧ q.reset = false ∧ q.staged = false
      ∧ q.switched ≠ 0 ∧ s.epoch.pending.isSome = true) :=
  ⟨⟨32768#16, 0#16, by decide +kernel⟩,
   ⟨(claimOn (((live |> fun (s : State) => { s with epoch := { s.epoch with pending := none } }) |> fun (s : State)
     => { s with epoch := { s.epoch with releasing := none } }) |> fun (s : State) =>
     { s with epoch := { s.epoch with seq := none } }) (⟨0, 1#32⟩ : LetterId) 0x0301 [p4 (32767#32 : W32)]), (⟨0,
     1#32⟩ : LetterId), 32767#32, by unfold Claimed; decide +kernel⟩,
   ⟨(claimOn ((((live |> fun (s : State) => { s with epoch := { s.epoch with held := false } }) |> fun (s : State)
     => { s with epoch := { s.epoch with page := .loading } }) |> fun (s : State) =>
     { s with epoch := { s.epoch with seq := none } }) |> fun (s : State) =>
     { s with epoch := { s.epoch with pending := some 1#16, applied := 1 } }) (⟨0, 1#32⟩ : LetterId) 0x0302 [p4 (1#32
     : W32), p4 (1#32 : W32), pT 0#128, p8 (200000#64 : W64)]), (⟨0, 1#32⟩ : LetterId), 1#32, 1#32, 200000#64,
     by unfold Claimed; decide +kernel⟩,
   ⟨(claimOn ((((live |> fun (s : State) => { s with epoch := { s.epoch with held := false } }) |> fun (s : State)
     => { s with epoch := { s.epoch with page := .loading } }) |> fun (s : State) =>
     { s with epoch := { s.epoch with seq := none } }) |> fun (s : State) =>
     { s with epoch := { s.epoch with pending := some 1#16, applied := 1 } }) (⟨0, 1#32⟩ : LetterId) 0x0302 [p4 (1#32
     : W32), p4 (2#32 : W32), pT (0#128 : TimeParam), p8 (200000#64 : W64)]), (⟨0, 1#32⟩ : LetterId), 1#32, 2#32,
     0#128, 200000#64, by unfold Claimed; decide +kernel⟩,
   ⟨(claimOn ((live |> fun (s : State) => { s with epoch := { s.epoch with seq := none } }) |> fun (s : State) =>
     { s with epoch := { s.epoch with pending := some 1#16, applied := 1 } }) (⟨0, 1#32⟩ : LetterId) 0x0303 [p4 (1#32
     : W32)]), (⟨0, 1#32⟩ : LetterId), 1#32, by unfold Claimed; decide +kernel⟩,
   ⟨(claimOn (((live |> fun (s : State) => { s with epoch := { s.epoch with page := .armed } }) |> fun (s : State)
     => { s with epoch := { s.epoch with seq := none } }) |> fun (s : State) =>
     { s with epoch := { s.epoch with pending := some 1#16, applied := 1 } }) (⟨0, 1#32⟩ : LetterId) 0x0304 [p4 (1#32
     : W32)]), (⟨0, 1#32⟩ : LetterId), 1#32, by unfold Claimed; decide +kernel⟩,
   ⟨(claimOn (((live |> fun (s : State) => { s with epoch := { s.epoch with commit := none } }) |> fun (s : State)
     => { s with epoch := { s.epoch with held := false } }) |> fun (s : State) =>
     { s with epoch := { s.epoch with seq := none } }) (⟨0, 1#32⟩ : LetterId) 0x0305 []), (⟨0, 1#32⟩ : LetterId),
     by unfold Claimed; decide +kernel⟩,
   ⟨((((((live |> fun (s : State) => { s with epoch := { s.epoch with pending := some (0#16 : BitVec 16) } }) |> fun
     (s : State) =>
     { s with epoch := { s.epoch with commit := some ((({ } : Commit) |> fun x => { x with t := 1 }) : Commit) } }) |>
     fun (s : State) => { s with epoch := { s.epoch with seq := none } }) |> fun (s : State) =>
     { s with epoch := { s.epoch with held := false } }) |> fun (s : State) =>
     { s with epoch := { s.epoch with page := .armed } }) |> fun (s : State) =>
     { s with time := { s.time with state := .locked, bound := 50, boundAt := s.time.uptime } }), 0#16, (({ } :
     Commit) |> fun x => { x with t := 1 }), by decide +kernel⟩,
   ⟨(((((live |> fun (s : State) => { s with epoch := { s.epoch with pending := some (0#16 : BitVec 16) } }) |> fun
     (s : State) =>
     { s with epoch := { s.epoch with commit := some ((({ } : Commit) |> fun x => { x with t := 1 }) : Commit) } }) |>
     fun (s : State) => { s with epoch := { s.epoch with seq := none } }) |> fun (s : State) =>
     { s with epoch := { s.epoch with held := false } }) |> fun (s : State) =>
     { s with epoch := { s.epoch with page := .armed } }), 0#16, (({ } : Commit) |> fun x => { x with t := 1 }),
     by decide +kernel⟩,
   ⟨((((live |> fun (s : State) => { s with epoch := { s.epoch with pending := some (0#16 : BitVec 16) } }) |> fun
     (s : State) =>
     { s with epoch := { s.epoch with commit := some ((({ } : Commit) |> fun x => { x with t := 1 }) : Commit) } }) |>
     fun (s : State) => { s with epoch := { s.epoch with seq := none } }) |> fun (s : State) =>
     { s with epoch := { s.epoch with held := true } }), 0#16, (({ } : Commit) |> fun x => { x with t := 1 }),
     by decide +kernel⟩,
   ⟨((live |> fun (s : State) => { s with epoch := { s.epoch with releasing := some 0 } }) |> fun (s : State) =>
     { s with lookup := { s.lookup with copiesLeft := 0 } }), by decide +kernel⟩,
   ⟨((live |> fun (s : State) =>
     { s with epoch := { s.epoch with seq := some (((({ } : SeqChange) |> fun x => { x with switched := 1 }) |> fun x => { x with staged := true }) : SeqChange) } })
     |> fun (s : State) => { s with epoch := { s.epoch with pending := some 0 } }), ((({ } : SeqChange) |> fun x =>
     { x with switched := 1 }) |> fun x => { x with staged := true }), by decide +kernel⟩,
   ⟨(live |> fun (s : State) =>
     { s with epoch := { s.epoch with seq := some (((({ } : SeqChange) |> fun x => { x with switched := 1 }) |> fun x => { x with staged := false }) : SeqChange) } }),
     ((({ } : SeqChange) |> fun x => { x with switched := 1 }) |> fun x => { x with staged := false }),
     by decide +kernel⟩,
   ⟨((live |> fun (s : State) =>
     { s with epoch := { s.epoch with seq := some ((((({ } : SeqChange) |> fun x => { x with reset := false }) |> fun x => { x with staged := false }) |> fun x => { x with switched := 1 }) : SeqChange) } })
     |> fun (s : State) => { s with epoch := { s.epoch with pending := some 0 } }), (((({ } : SeqChange) |> fun x =>
     { x with reset := false }) |> fun x => { x with staged := false }) |> fun x => { x with switched := 1 }), ([] :
     List TableRecord), by decide +kernel⟩⟩

/-- The hypotheses of `Obligations.DieToDieLinks` are met. -/
theorem witness_DieToDieLinks :
    (∃ (s : State) (i : Fin 4) (f : Flit) (fs : List Flit), (s.d2dLink i).up = true ∧ (s.d2dLink i).toDepot = f :: fs
      ∧ f.fails + 1 < 16) ∧
    (∃ (s : State) (i : Fin 4) (f : Flit) (fs : List Flit), (s.d2dLink i).up = true ∧ (s.d2dLink i).toSorter = f ::
      fs ∧ f.fails + 1 < 16) ∧
    (∃ (s : State) (i : Fin 4) (f : Flit) (fs : List Flit), (s.d2dLink i).up = true ∧ (s.d2dLink i).toDepot = f :: fs
      ∧ 16 ≤ f.fails + 1) ∧
    (∃ (s : State) (i : Fin 4) (f : Flit) (fs : List Flit), (s.d2dLink i).up = true ∧ (s.d2dLink i).toSorter = f ::
      fs ∧ 16 ≤ f.fails + 1) ∧
    (∃ (s : State) (i : Fin 4) (f : Flit) (fs : List Flit), (s.d2dLink i).up = true ∧ (s.d2dLink i).toDepot = f :: fs) ∧
    (∃ (s : State) (i : Fin 4) (f : Flit) (fs : List Flit), (s.d2dLink i).up = true ∧ (s.d2dLink i).toSorter = f ::
      fs) ∧
    (∃ (s : State) (i : Fin 4) (p : Packet) (n : Nat) (k : Nat) (fs : List Flit), (s.d2dLink i).up = true ∧
      (s.d2dLink i).toDepot = ⟨n, .ingress p, k⟩ :: fs ∧ s.d2d.earlyDepot = [] ∧ s.d2d.expectDepot = n) ∧
    (∃ (s : State) (i : Fin 4) (toDepot : Bool) (crcOk : Bool), ((s.d2dLink i).up = false ∨ (if toDepot then
      (s.d2dLink i).toDepot else (s.d2dLink i).toSorter) = [])) ∧
    (∃ (s : State) (i : Fin 4), (s.d2dLink i).up = true) ∧
    (∃ (s : State) (i : Fin 4), (s.d2dLink i).up = false) ∧
    (∃ (s : State) (i : Fin 4) (locked : Bool), ((s.d2dLink i).up = true ∨ s.powered = false ∨ s.up < (s.d2dLink
      i).downAt + 10000000)) ∧
    (∃ (s : State) (i : Fin 4) (locked : Bool), (s.d2dLink i).up = false ∧ s.powered = true ∧ (s.d2dLink i).downAt +
      10000000 ≤ s.up ∧ s.domain (142 + i) = false) ∧
    (∃ (s : State) (i : Fin 4), (s.d2dLink i).up = false ∧ s.powered = true ∧ (s.d2dLink i).downAt + 10000000 ≤ s.up
      ∧ s.domain (142 + i) = true) ∧
    (∃ (s : State) (i : Fin 4), (s.d2dLink i).up = false ∧ s.powered = true ∧ (s.d2dLink i).downAt + 10000000 ≤ s.up
      ∧ s.domain (142 + i) = true ∧ s.serdesOk = true) :=
  ⟨⟨(live |> fun (s : State) => s.setD2d (0 : Fin 4)
     { s.d2dLink (0 : Fin 4) with up := true, toDepot := ({ order := 0, load := (.ingress { }) } : Flit) :: ([] : List Flit) }),
     (0 : Fin 4), ({ order := 0, load := (.ingress { }) } : Flit), ([] : List Flit), by decide +kernel⟩,
   ⟨(live |> fun (s : State) => s.setD2d (0 : Fin 4)
     { s.d2dLink (0 : Fin 4) with up := true, toSorter := ({ order := 0, load := (.ingress { }) } : Flit) :: ([] : List Flit) }),
     (0 : Fin 4), ({ order := 0, load := (.ingress { }) } : Flit), ([] : List Flit), by decide +kernel⟩,
   ⟨(live |> fun (s : State) => s.setD2d (0 : Fin 4)
     { s.d2dLink (0 : Fin 4) with up := true, toDepot := ({ order := 0, load := .ingress {}, fails := 15 } : Flit) :: ([] : List Flit) }),
     (0 : Fin 4), ({ order := 0, load := .ingress {}, fails := 15 } : Flit), ([] : List Flit), by decide +kernel⟩,
   ⟨(live |> fun (s : State) => s.setD2d (0 : Fin 4)
     { s.d2dLink (0 : Fin 4) with up := true, toSorter := ({ order := 0, load := .ingress {}, fails := 15 } : Flit) :: ([] : List Flit) }),
     (0 : Fin 4), ({ order := 0, load := .ingress {}, fails := 15 } : Flit), ([] : List Flit), by decide +kernel⟩,
   ⟨(live |> fun (s : State) => s.setD2d (0 : Fin 4)
     { s.d2dLink (0 : Fin 4) with up := true, toDepot := ({ order := 0, load := (.ingress { }) } : Flit) :: ([] : List Flit) }),
     (0 : Fin 4), ({ order := 0, load := (.ingress { }) } : Flit), ([] : List Flit), by decide +kernel⟩,
   ⟨(live |> fun (s : State) => s.setD2d (0 : Fin 4)
     { s.d2dLink (0 : Fin 4) with up := true, toSorter := ({ order := 0, load := (.ingress { }) } : Flit) :: ([] : List Flit) }),
     (0 : Fin 4), ({ order := 0, load := (.ingress { }) } : Flit), ([] : List Flit), by decide +kernel⟩,
   ⟨(((live |> fun (s : State) => { s with d2d := { s.d2d with earlyDepot := [] } }) |> fun (s : State) =>
     { s with d2d := { s.d2d with expectDepot := (0 : Nat) } }) |> fun (s : State) => s.setD2d (0 : Fin 4)
     { s.d2dLink (0 : Fin 4) with up := true, toDepot := ⟨(0 : Nat), .ingress ({ } : Packet), (0 : Nat)⟩ :: ([] : List Flit) }),
     (0 : Fin 4), ({ } : Packet), 0, 0, ([] : List Flit), by decide +kernel⟩,
   ⟨(live |> fun (s : State) => s.setD2d (0 : Fin 4) { s.d2dLink (0 : Fin 4) with up := false }), (0 : Fin 4),
     false, false, by decide +kernel⟩,
   ⟨(live |> fun (s : State) => s.setD2d (0 : Fin 4) { s.d2dLink (0 : Fin 4) with up := true }), (0 : Fin 4),
     by decide +kernel⟩,
   ⟨(live |> fun (s : State) => s.setD2d (0 : Fin 4) { s.d2dLink (0 : Fin 4) with up := false }), (0 : Fin 4),
     by decide +kernel⟩,
   ⟨(live |> fun (s : State) => s.setD2d (0 : Fin 4) { s.d2dLink (0 : Fin 4) with up := true }), (0 : Fin 4), false,
     by decide +kernel⟩,
   ⟨((live |> fun (s : State) => s.setD2d (0 : Fin 4) { s.d2dLink (0 : Fin 4) with up := false }) |> fun (s : State)
     => { s with power := { s.power with domains := 0#160 } }), (0 : Fin 4), false, by decide +kernel⟩,
   ⟨(live |> fun (s : State) => s.setD2d (0 : Fin 4) { s.d2dLink (0 : Fin 4) with up := false }), (0 : Fin 4),
     by decide +kernel⟩,
   ⟨(live |> fun (s : State) => s.setD2d (0 : Fin 4) { s.d2dLink (0 : Fin 4) with up := false }), (0 : Fin 4),
     by decide +kernel⟩⟩

/-- The hypotheses of `Obligations.TimeLetters` are met. -/
theorem witness_TimeLetters :
    (∃ (s : State) (l : LetterId) (mode : W32) (sources : ListArg SourceItem) (wtr : W64) (items : List SourceItem),
      Claimed s l 0x0201 [p4 mode, pL sources, p8 wtr] ∧ mode.toNat ≤ 1 ∧ 1 ≤ sources.count.toNat ∧
      sources.count.toNat ≤ 4 ∧ sources.items = some items ∧ items.all sourceItemOk = true ∧ items.eraseDups.length =
      items.length ∧ (items.all (fun v => !decide (v.kind = 0#32 ∧ v.port.toNat ≤ 191 ∧ s.variant.lanes ≤
      v.port.toNat)) = true) ∧ wtr.toNat ≤ 720000000000) ∧
    (∃ (s : State) (l : LetterId) (phase : W64) (freq : W32), Claimed s l 0x0202 [p8 phase, p4 freq] ∧
      s.time.external = true ∧ (s.time.state ≠ .locked ∨ (sext 64 phase.toNat).natAbs ≤ 1000) ∧ -1000000000 ≤ sext 64
      phase.toNat ∧ sext 64 phase.toNat ≤ 1000000000 ∧ phase.toNat ≠ 2 ^ 63 ∧ -500000 ≤ sext 32 freq.toNat ∧ sext 32
      freq.toNat ≤ 500000 ∧ freq ≠ 0x80000000#32) ∧
    (∃ (s : State) (x : Int), x.natAbs ≤ 1000) ∧
    (∃ (s : State) (x : Int), 1000 < x.natAbs) ∧
    (∃ (s : State) (l : LetterId) (q : W32) (error : W64), Claimed s l 0x0203 [p4 q, p8 error] ∧ q.toNat ≤ 3 ∧
      s.time.external = true ∧ (q.toNat ≠ 2 ∨ s.time.state = .locked ∨ s.power.lost.getLsbD 3 = false) ∧ error.toNat ≤
      65535) ∧
    (∃ (s : State) (l : LetterId) (rate : W32), Claimed s l 0x0204 [p4 rate] ∧ 100 ≤ rate.toNat ∧ rate.toNat ≤
      1000000) ∧
    (∃ (s : State) (l : LetterId) (port : W32) (enable : W32) (domain : W32) (steps : W32), Claimed s l 0x0205 [p4
      port, p4 enable, p4 domain, p4 steps] ∧ (port.toNat < s.variant.lanes ∨ port.toNat = 256 ∨ port.toNat = 257) ∧
      s.variant.lanes ≤ 192 ∧ enable.toNat ≤ 1 ∧ 24 ≤ domain.toNat ∧ domain.toNat ≤ 43 ∧ (steps = 1#32 ∨ steps = 2#32)) ∧
    (∃ (s : State) (l : LetterId), Claimed s l 0x0206 []) ∧
    (∃ (s : State) (offset : Int) (filtered : Nat), s.servoRuns = true ∧ s.time.state = .acquiring ∧
      s.time.sourceUsed.map (·.1) = some false ∧ offset.natAbs ≤ 1000) ∧
    (∃ (s : State) (u : State) (offset : Int) (filtered : Nat), s.servoRuns = true ∧ s.time.state = .acquiring ∧
      s.time.sourceUsed.map (·.1) = some false ∧ 1000 < offset.natAbs ∧ u = State.stepTime
      { s with fresh := s.fresh + 1, time := { s.time with bound := min 65535 filtered, boundAt := s.up, trim := s.nextTrim offset } }
      (Int.ofNat s.time.counter + offset * 2 ^ 40).toNat) ∧
    (∃ (s : State) (offset : Int) (filtered : Nat), s.servoRuns = true ∧ s.time.state = .locked ∧
      s.time.sourceUsed.map (·.1) = some false ∧ offset.natAbs ≤ 1000) ∧
    (∃ (s : State) (t : Nat), s.time.lowSince = some t ∧ s.servoRuns = true ∧ s.time.state = .acquiring ∧
      s.time.bound ≤ 100 ∧ t + 10000000000 ≤ s.up ∧ s.power.lost.getLsbD 3 = false) ∧
    (∃ (s : State) (i : Fin 4) (v : PhaseSource) (t : Nat), s.time.sources[i.val]? = some v ∧ v.goodSince = some t ∧
      t + s.time.wtr ≤ s.up) ∧
    (∃ (s : State) (i : Fin 4) (v : PhaseSource), s.time.sources[i.val]? = some v ∧ v.tod = false ∧ v.valid = true) ∧
    (∃ (s : State) (port : Fin 194) (kind : PtpKind) (received : Bool) (corr : BitVec 64), port.val < s.variant.lanes
      ∧ port.val < 192 ∧ (received = false ∨ s.ptpReady port = false ∨ s.ptpSource port = none)) ∧
    (∃ (s : State) (port : Fin 192) (pdu : List Byte), port.val < s.variant.lanes) ∧
    (∃ (s : State), s.time.tod = none) ∧
    (∃ (s : State) (m : Tod), s.time.tod = some m ∧ s.todSource = none) ∧
    (∃ (s : State) (bytes : List Byte), todOk bytes = false) ∧
    (∃ (s : State) (bytes : List Byte) (e : Nat), todOk bytes = true ∧ s.time.lastEdge = some e ∧ e + 10000000 ≤ s.up
      ∧ s.up ≤ e + 900000000) ∧
    (∃ (s : State) (i : Nat), s.time.todMissed = 3 ∧ s.todSource = some i) ∧
    (∃ (s : State), s.powered = true ∧ s.crossed 1000000000 = true ∧ s.time.ppsAt ≠ some s.up) ∧
    (∃ (s : State) (t : Nat), s.time.todOwed = true ∧ s.time.ppsAt = some t ∧ t + 100000000 ≤ s.up) :=
  ⟨⟨(claimOn live (⟨0, 1#32⟩ : LetterId) 0x0201 [p4 (1#32 : W32), pL (⟨0#64, 1#32, some ([] : List SourceItem)⟩ :
     ListArg SourceItem), p8 (720000000000#64 : W64)]), (⟨0, 1#32⟩ : LetterId), 1#32, (⟨0#64, 1#32, some ([] : List
     SourceItem)⟩ : ListArg SourceItem), 720000000000#64, ([] : List SourceItem), by unfold Claimed; decide +kernel⟩,
   ⟨(claimOn (live |> fun (s : State) => { s with time := { s.time with external := true } }) (⟨0, 1#32⟩ : LetterId)
     0x0202 [p8 (0#64 : W64), p4 (0#32 : W32)]), (⟨0, 1#32⟩ : LetterId), 0#64, 0#32,
     by unfold Claimed; decide +kernel⟩,
   ⟨live, 0, by decide +kernel⟩,
   ⟨live, 1001, by decide +kernel⟩,
   ⟨(claimOn (live |> fun (s : State) => { s with time := { s.time with external := true } }) (⟨0, 1#32⟩ : LetterId)
     0x0203 [p4 (3#32 : W32), p8 (65535#64 : W64)]), (⟨0, 1#32⟩ : LetterId), 3#32, 65535#64,
     by unfold Claimed; decide +kernel⟩,
   ⟨(claimOn live (⟨0, 1#32⟩ : LetterId) 0x0204 [p4 (100#32 : W32)]), (⟨0, 1#32⟩ : LetterId), 100#32,
     by unfold Claimed; decide +kernel⟩,
   ⟨(claimOn live (⟨0, 1#32⟩ : LetterId) 0x0205 [p4 (0#32 : W32), p4 (1#32 : W32), p4 (24#32 : W32), p4 (1#32 :
     W32)]), (⟨0, 1#32⟩ : LetterId), 0#32, 1#32, 24#32, 1#32, by unfold Claimed; decide +kernel⟩,
   ⟨(claimOn live (⟨0, 1#32⟩ : LetterId) 0x0206 []), (⟨0, 1#32⟩ : LetterId), by unfold Claimed; decide +kernel⟩,
   ⟨((live |> fun (s : State) => { s with time := { s.time with state := .acquiring } }) |> fun (s : State) =>
     { s with time := { s.time with external := false, sources := [{ valid := true }], inUse := some 0 } }), 0, 0,
     by decide +kernel⟩,
   ⟨((live |> fun (s : State) => { s with time := { s.time with state := .acquiring } }) |> fun (s : State) =>
     { s with time := { s.time with external := false, sources := [{ valid := true }], inUse := some 0 } }), _, 1001,
     0, by decide +kernel, by decide +kernel, by decide +kernel, by decide +kernel, rfl⟩,
   ⟨((live |> fun (s : State) => { s with time := { s.time with state := .locked } }) |> fun (s : State) =>
     { s with time := { s.time with external := false, sources := [{ valid := true }], inUse := some 0 } }), 0, 0,
     by decide +kernel⟩,
   ⟨((((live |> fun (s : State) => { s with time := { s.time with lowSince := some (0 : Nat) } }) |> fun (s : State)
     => { s with time := { s.time with state := .acquiring } }) |> fun (s : State) =>
     { s with time := { s.time with external := false, sources := [{ valid := true }], inUse := some 0 } }) |> fun (s
     : State) => { s with time := { s.time with bound := 100 } }), 0, by decide +kernel⟩,
   ⟨(live |> fun (s : State) =>
     { s with time := { s.time with sources := [({ goodSince := some 0 } : PhaseSource)] } }), (0 : Fin 4),
     ({ goodSince := some 0 } : PhaseSource), 0, by decide +kernel⟩,
   ⟨(live |> fun (s : State) =>
     { s with time := { s.time with sources := [(((({ } : PhaseSource) |> fun x => { x with tod := false }) |> fun x => { x with valid := true }) : PhaseSource)] } }),
     (0 : Fin 4), ((({ } : PhaseSource) |> fun x => { x with tod := false }) |> fun x => { x with valid := true }),
     by decide +kernel⟩,
   ⟨live, (191 : Fin 194), (.sync : PtpKind), false, 0#64, by decide +kernel⟩,
   ⟨live, (0 : Fin 192), ([] : List Byte), by decide +kernel⟩,
   ⟨(live |> fun (s : State) => { s with time := { s.time with tod := none } }), by decide +kernel⟩,
   ⟨(live |> fun (s : State) => { s with time := { s.time with tod := some ({ } : Tod) } }), ({ } : Tod),
     by decide +kernel⟩,
   ⟨live, ([] : List Byte), by decide +kernel⟩,
   ⟨(live |> fun (s : State) => { s with time := { s.time with lastEdge := some (999999990000000 : Nat) } }),
     ([0xA5#8, 0x5A#8, 1#8, 12#8, 0#8, 0#8, 0#8, 0#8, 0#8, 0#8, 0#8, 0#8, 0#8, 0#8, 0#8, 0xF4#8] : List Byte),
     999999990000000, by decide +kernel⟩,
   ⟨((live |> fun (s : State) => { s with time := { s.time with todMissed := 3 } }) |> fun (s : State) =>
     { s with time := { s.time with sources := [{}, { tod := true }] } }), 1, by decide +kernel⟩,
   ⟨live, by decide +kernel⟩,
   ⟨(((live |> fun (s : State) => { s with time := { s.time with todOwed := true } }) |> fun (s : State) =>
     { s with time := { s.time with ppsAt := some (0 : Nat) } }) |> fun (s : State) =>
     { s with time := { s.time with counter := (1000000000000000 + 100000000) * 2 ^ 40 } }), 0, by decide +kernel⟩⟩

/-- The hypotheses of `Obligations.PostcardsAndPeers` are met. -/
theorem witness_PostcardsAndPeers :
    (∃ (s : State), s.ready = true ∧ s.crossed 100000 = true ∧ s.fabric.pcAt ≠ some s.up) ∧
    (∃ (s : State) (u : State) (link : Fin 256) (cell : List Byte) (pc : Postcard), s.hasLink link = true ∧ (s.link
      link).st = .up ∧ GoodCell cell ∧ isControl 1 cell = true ∧ u = s.heardCell link cell ∧ (u.link link).st = .up ∧
      u.ready = true ∧ pc = readPostcard cell ∧ pc.format = 1#8 ∧ pc.rsvOk = true ∧ pc.pendingState.toNat ≤ 4) ∧
    (∃ (s : State) (u : State) (link : Fin 256) (cell : List Byte) (pc : Postcard), s.hasLink link = true ∧ (s.link
      link).st = .up ∧ GoodCell cell ∧ isControl 1 cell = true ∧ u = s.heardCell link cell ∧ (u.link link).st = .up ∧
      u.ready = true ∧ pc = readPostcard cell ∧ (pc.format ≠ 1#8 ∨ pc.rsvOk = false ∨ 4 < pc.pendingState.toNat)) ∧
    (∃ (s : State) (d : Fin 128) (t : Nat), (s.peer d).lastSeen = some t ∧ (s.peer d).present = true ∧ t + unitsOf
      300000 ≤ s.units) ∧
    (∃ (s : State) (d : Fin 128) (t : Nat), (s.peer d).mismatchSince = some t ∧ t + 1000000 < s.up ∧ s.mapsDiffer d =
      true) :=
  ⟨⟨live, by decide +kernel⟩,
   ⟨(live |> fun (s : State) => s.setLink (0 : Fin 256) { s.link (0 : Fin 256) with st := .up }), _, (0 : Fin 256),
     (postcardCell 1#8), _, by decide +kernel, by decide +kernel, by unfold GoodCell; decide +kernel,
     by decide +kernel, rfl, by decide +kernel, by decide +kernel, rfl, by decide +kernel⟩,
   ⟨(live |> fun (s : State) => s.setLink (0 : Fin 256) { s.link (0 : Fin 256) with st := .up }), _, (0 : Fin 256),
     (postcardCell 2#8), _, by decide +kernel, by decide +kernel, by unfold GoodCell; decide +kernel,
     by decide +kernel, rfl, by decide +kernel, by decide +kernel, rfl, by decide +kernel⟩,
   ⟨(live |> fun (s : State) => s.setPeer (0 : Fin 128)
     { s.peer (0 : Fin 128) with lastSeen := some (0 : Nat), present := true }), (0 : Fin 128), 0, by decide +kernel⟩,
   ⟨(((live |> fun (s : State) => s.setPeer (0 : Fin 128)
     { s.peer (0 : Fin 128) with mismatchSince := some (0 : Nat) }) |> fun (s : State) =>
     { s with d2d := { s.d2d with links := [(0, { up := true })] } }) |> fun (s : State) => s.setPeer (0 : Fin 128)
     { s.peer (0 : Fin 128) with present := true, map := 1#128 }), (0 : Fin 128), 0, by decide +kernel⟩⟩

/-- The hypotheses of `Obligations.PortFramesPausesAndLetters` are met. -/
theorem witness_PortFramesPausesAndLetters :
    (∃ (s : State) (port : Fin 192) (data : List Byte) (cws : List Codeword), s.hasPort port = true ∧ (s.port
      port).state = .up ∧ (s.port port).deaf = false ∧ 60 ≤ data.length ∧ data.length + 4 ≤ (s.port port).mtu) ∧
    (∃ (s : State) (port : Fin 192) (data : List Byte) (cws : List Codeword), s.hasPort port = true ∧ (s.port
      port).state ≠ .up ∧ (s.port port).deaf = false ∧ 60 ≤ data.length ∧ data.length + 4 ≤ (s.port port).mtu) ∧
    (∃ (s : State) (port : Fin 192) (data : List Byte) (fcsOk : Bool) (fecOk : Bool) (cws : List Codeword), s.hasPort
      port = true ∧ (s.port port).deaf = false ∧ data.length < 60) ∧
    (∃ (s : State) (port : Fin 192) (data : List Byte) (fcsOk : Bool) (fecOk : Bool) (cws : List Codeword), s.hasPort
      port = true ∧ (s.port port).deaf = false ∧ 60 ≤ data.length ∧ (s.port port).mtu < data.length + 4) ∧
    (∃ (s : State) (port : Fin 192) (data : List Byte) (fecOk : Bool) (cws : List Codeword), s.hasPort port = true ∧
      (s.port port).deaf = false ∧ 60 ≤ data.length ∧ data.length + 4 ≤ (s.port port).mtu) ∧
    (∃ (s : State) (port : Fin 192) (data : List Byte) (cws : List Codeword), s.hasPort port = true ∧ (s.port
      port).deaf = false ∧ 60 ≤ data.length ∧ data.length + 4 ≤ (s.port port).mtu) ∧
    (∃ (s : State) (port : Fin 192) (data : List Byte) (fcsOk : Bool) (fecOk : Bool) (cws : List Codeword), s.hasPort
      port = true ∧ (s.port port).deaf = true) ∧
    (∃ (s : State) (p : Nat) (lane : Fin 192) (n : Fin 16), 0 < n.val) ∧
    (∃ (s : State) (u : State) (port : Fin 192) (p : Packet) (rest : List Packet), s.hasPort port = true ∧ nget []
      s.line.tx port.val = p :: rest ∧ (s.port port).sends = .frames ∧ p.tag = none ∧ p.poisoned = false ∧ u =
      s.setPort port { s.port port with txOpen := false, idleSince := s.up }) ∧
    (∃ (s : State) (u : State) (port : Fin 192) (p : Packet) (rest : List Packet), s.hasPort port = true ∧ nget []
      s.line.tx port.val = p :: rest ∧ (s.port port).sends = .frames ∧ p.tag = none ∧ p.poisoned = true ∧ u =
      s.setPort port { s.port port with txOpen := false, idleSince := s.up }) ∧
    (∃ (s : State) (port : Fin 192), s.hasPort port = true ∧ (nget [] s.line.tx port.val = [] ∨ (s.port port).sends ≠
      .frames)) ∧
    (∃ (s : State) (port : Fin 192) (pfc : Bool) (classes : BitVec 8) (quanta : BitVec 128), s.hasPort port = true ∧
      (s.port port).deaf = false ∧ (s.port port).state ≠ .up) ∧
    (∃ (s : State) (port : Fin 192) (pfc : Bool) (classes : BitVec 8) (quanta : BitVec 128), s.hasPort port = true ∧
      (s.port port).deaf = false ∧ (s.port port).state = .up ∧ ((s.port port).kind ≠ .native ∨ (s.port port).pauseOn =
      false)) ∧
    (∃ (s : State) (port : Fin 192) (classes : BitVec 8) (quanta : BitVec 128), s.hasPort port = true ∧ (s.port
      port).deaf = false ∧ (s.port port).state = .up ∧ (s.port port).kind = .native ∧ (s.port port).pauseOn = true) ∧
    (∃ (s : State) (port : Fin 192), s.hasPort port = true ∧ (s.port port).pauseUntil ≤ s.up) ∧
    (∃ (s : State) (l : LetterId) (a : PortArgs), Claimed s l 0x0401 [p4 a.port, p4 a.mode, p4 a.medium, p8 a.mtu, p8
      a.trainTimeout, p8 a.debounce, p8 a.holdoff, p4 a.fecDegrade, p4 a.pause, p4 a.pcpMap, p4 a.tcMap, p4
      a.dscpMap0, p4 a.dscpMap1, p4 a.dscpMap2, p4 a.dscpMap3, p4 a.hashProfile, p4 a.alwaysOn] ∧ a.mode.toNat ≤ 4 ∧
      a.medium.toNat ≤ 1 ∧ a.pause.toNat ≤ 1 ∧ a.pcpMap.toNat ≤ 65535 ∧ a.tcMap.toNat ≤ 65535 ∧ a.hashProfile.toNat ≤
      7 ∧ a.alwaysOn.toNat ≤ 1 ∧ legalLanes a.mode.toNat a.port.toNat = true ∧ (portLanes a).any (fun x =>
      (s.nativeLanes a.port.toNat).contains x || (octetsOf (s.flexeLanes ++ s.otuLanes)).contains (x / 8)) = false ∧
      ((s.port a.port.toNat).kind = .unused ∨ (s.port a.port.toNat).kind = .native) ∧ s.portExists l.slice.val
      a.port.toNat = true ∧ (portLanes a ++ if (s.port a.port.toNat).kind = .native then (s.port a.port.toNat).lanes
      a.port.toNat else []).any (fun x => s.enabledLanes.contains x) = false ∧ 1518 ≤ a.mtu.toNat ∧ a.mtu.toNat ≤ 9728
      ∧ 1000000000 ≤ a.trainTimeout.toNat ∧ a.trainTimeout.toNat ≤ 30000000000 ∧ a.debounce.toNat ≤ 100000000 ∧
      a.holdoff.toNat ≤ 10000000000 ∧ 1000 ≤ a.fecDegrade.toNat ∧ a.fecDegrade.toNat ≤ 1000000) ∧
    (∃ (s : State) (l : LetterId) (port : W32), Claimed s l 0x0402 [p4 port] ∧ s.portExists l.slice.val port.toNat =
      true ∧ (s.port port.toNat).kind = .native ∧ (s.port port.toNat).state = .disabled ∧ (s.port
      port.toNat).disabling = false) ∧
    (∃ (s : State) (l : LetterId) (port : W32), Claimed s l 0x0403 [p4 port] ∧ s.portExists l.slice.val port.toNat =
      true ∧ (s.port port.toNat).state ≠ .disabled ∧ (s.port port.toNat).disabling = false) ∧
    (∃ (s : State) (l : LetterId) (port : W32), Claimed s l 0x0403 [p4 port] ∧ s.portExists l.slice.val port.toNat =
      true ∧ (s.port port.toNat).state = .disabled ∧ (s.port port.toNat).disabling = false) ∧
    (∃ (s : State) (l : LetterId) (octet : W32) (map : W32) (rxInvert : W32) (txInvert : W32), Claimed s l 0x0404 [p4
      octet, p4 map, p4 rxInvert, p4 txInvert] ∧ l.slice.val = 0 ∧ octet.toNat < s.variant.octets ∧ s.variant.octets ≤
      24 ∧ map.toNat < 2 ^ 24 ∧ isPermutation map.toNat = true ∧ rxInvert.toNat ≤ 255 ∧ txInvert.toNat ≤ 255 ∧
      (octetsOf s.enabledLanes).contains octet.toNat = false) ∧
    (∃ (s : State) (l : LetterId) (port : W32) (rx : W64) (tx : W64), Claimed s l 0x0405 [p4 port, p8 rx, p8 tx] ∧
      s.portExists l.slice.val port.toNat = true ∧ -100000 ≤ sext 64 rx.toNat ∧ sext 64 rx.toNat ≤ 100000 ∧ rx.toNat ≠
      2 ^ 63 ∧ -100000 ≤ sext 64 tx.toNat ∧ sext 64 tx.toNat ≤ 100000 ∧ tx.toNat ≠ 2 ^ 63) ∧
    (∃ (s : State) (l : LetterId) (lane : W32) (taps : TxTaps), Claimed s l 0x0406 [p4 lane, p4 taps.pre2, p4
      taps.pre1, p4 taps.main, p4 taps.post1] ∧ l.slice.val = 0 ∧ lane.toNat < s.variant.lanes ∧ s.variant.lanes ≤ 192
      ∧ (tapsOf taps (nget {} s.line.taps lane.toNat)).2.2 = [(1, false), (2, false), (3, false), (4, false)]) ∧
    (∃ (s : State) (l : LetterId) (port : W32), Claimed s l 0x0407 [p4 port] ∧ s.portExists l.slice.val port.toNat =
      true) :=
  ⟨⟨(live |> fun (s : State) => s.setPort (0 : Fin 192) { s.port (0 : Fin 192) with state := .up }), (0 : Fin 192),
     (List.replicate 60 0#8 : List Byte), ([] : List Codeword), by decide +kernel⟩,
   ⟨(live |> fun (s : State) => s.setPort (0 : Fin 192) { s.port (0 : Fin 192) with state := .down }), (0 : Fin
     192), (List.replicate 60 0#8), ([] : List Codeword), by decide +kernel⟩,
   ⟨(live |> fun (s : State) => s.setPort (0 : Fin 192) { s.port (0 : Fin 192) with state := .up }), (0 : Fin 192),
     ([] : List Byte), false, false, ([] : List Codeword), by decide +kernel⟩,
   ⟨(live |> fun (s : State) => s.setPort (0 : Fin 192) { s.port (0 : Fin 192) with state := .up, mtu := 63 }), (0 :
     Fin 192), (List.replicate 60 0#8), false, false, ([] : List Codeword), by decide +kernel⟩,
   ⟨(live |> fun (s : State) => s.setPort (0 : Fin 192) { s.port (0 : Fin 192) with state := .up }), (0 : Fin 192),
     (List.replicate 60 0#8), false, ([] : List Codeword), by decide +kernel⟩,
   ⟨(live |> fun (s : State) => s.setPort (0 : Fin 192) { s.port (0 : Fin 192) with state := .up }), (0 : Fin 192),
     (List.replicate 60 0#8), ([] : List Codeword), by decide +kernel⟩,
   ⟨live, (0 : Fin 192), ([] : List Byte), false, false, ([] : List Codeword), by decide +kernel⟩,
   ⟨live, 0, (0 : Fin 192), (15 : Fin 16), by decide +kernel⟩,
   ⟨((live |> fun (s : State) =>
     { s with line := { s.line with tx := nset [] (0 : Fin 192).val (({ data := List.replicate 64 0#8, len := 64 } : Packet) :: ([] : List Packet)) s.line.tx } })
     |> fun (s : State) => s.setPort (0 : Fin 192) { s.port (0 : Fin 192) with state := .up }), _, (0 : Fin 192),
     ({ data := List.replicate 64 0#8, len := 64 } : Packet), ([] : List Packet), by decide +kernel,
     by decide +kernel, by decide +kernel, by decide +kernel, by decide +kernel, rfl⟩,
   ⟨((live |> fun (s : State) =>
     { s with line := { s.line with tx := nset [] (0 : Fin 192).val (({ data := List.replicate 64 0#8, len := 64, poisoned := true } : Packet) :: ([] : List Packet)) s.line.tx } })
     |> fun (s : State) => s.setPort (0 : Fin 192) { s.port (0 : Fin 192) with state := .up }), _, (0 : Fin 192),
     ({ data := List.replicate 64 0#8, len := 64, poisoned := true } : Packet), ([] : List Packet), by decide +kernel,
     by decide +kernel, by decide +kernel, by decide +kernel, by decide +kernel, rfl⟩,
   ⟨live, (0 : Fin 192), by decide +kernel⟩,
   ⟨(live |> fun (s : State) => s.setPort (0 : Fin 192) { s.port (0 : Fin 192) with state := .down }), (0 : Fin
     192), false, 0#8, 0#128, by decide +kernel⟩,
   ⟨(live |> fun (s : State) => s.setPort (0 : Fin 192) { s.port (0 : Fin 192) with state := .up }), (0 : Fin 192),
     false, 0#8, 0#128, by decide +kernel⟩,
   ⟨(live |> fun (s : State) => s.setPort (0 : Fin 192)
     { s.port (0 : Fin 192) with state := .up, kind := .native, pauseOn := true }), (0 : Fin 192), 0#8, 0#128,
     by decide +kernel⟩,
   ⟨live, (0 : Fin 192), by decide +kernel⟩,
   ⟨(claimOn (live |> fun (s : State) => s.setPort (((((plainPort : PortArgs) |> fun x =>
     { x with mtu := BitVec.ofNat _ 1518 }) |> fun x => { x with trainTimeout := BitVec.ofNat _ 1000000000 }) |> fun x
     => { x with fecDegrade := BitVec.ofNat _ 1000 }) : PortArgs).port.toNat
     { s.port (((((plainPort : PortArgs) |> fun x => { x with mtu := BitVec.ofNat _ 1518 }) |> fun x => { x with trainTimeout := BitVec.ofNat _ 1000000000 }) |> fun x => { x with fecDegrade := BitVec.ofNat _ 1000 }) : PortArgs).port.toNat with kind := .unused })
     (⟨0, 1#32⟩ : LetterId) 0x0401 [p4 (((((plainPort : PortArgs) |> fun x => { x with mtu := BitVec.ofNat _ 1518 })
     |> fun x => { x with trainTimeout := BitVec.ofNat _ 1000000000 }) |> fun x =>
     { x with fecDegrade := BitVec.ofNat _ 1000 }) : PortArgs).port, p4 (((((plainPort : PortArgs) |> fun x =>
     { x with mtu := BitVec.ofNat _ 1518 }) |> fun x => { x with trainTimeout := BitVec.ofNat _ 1000000000 }) |> fun x
     => { x with fecDegrade := BitVec.ofNat _ 1000 }) : PortArgs).mode, p4 (((((plainPort : PortArgs) |> fun x =>
     { x with mtu := BitVec.ofNat _ 1518 }) |> fun x => { x with trainTimeout := BitVec.ofNat _ 1000000000 }) |> fun x
     => { x with fecDegrade := BitVec.ofNat _ 1000 }) : PortArgs).medium, p8 (((((plainPort : PortArgs) |> fun x =>
     { x with mtu := BitVec.ofNat _ 1518 }) |> fun x => { x with trainTimeout := BitVec.ofNat _ 1000000000 }) |> fun x
     => { x with fecDegrade := BitVec.ofNat _ 1000 }) : PortArgs).mtu, p8 (((((plainPort : PortArgs) |> fun x =>
     { x with mtu := BitVec.ofNat _ 1518 }) |> fun x => { x with trainTimeout := BitVec.ofNat _ 1000000000 }) |> fun x
     => { x with fecDegrade := BitVec.ofNat _ 1000 }) : PortArgs).trainTimeout, p8 (((((plainPort : PortArgs) |> fun x
     => { x with mtu := BitVec.ofNat _ 1518 }) |> fun x => { x with trainTimeout := BitVec.ofNat _ 1000000000 }) |>
     fun x => { x with fecDegrade := BitVec.ofNat _ 1000 }) : PortArgs).debounce, p8 (((((plainPort : PortArgs) |> fun
     x => { x with mtu := BitVec.ofNat _ 1518 }) |> fun x => { x with trainTimeout := BitVec.ofNat _ 1000000000 }) |>
     fun x => { x with fecDegrade := BitVec.ofNat _ 1000 }) : PortArgs).holdoff, p4 (((((plainPort : PortArgs) |> fun
     x => { x with mtu := BitVec.ofNat _ 1518 }) |> fun x => { x with trainTimeout := BitVec.ofNat _ 1000000000 }) |>
     fun x => { x with fecDegrade := BitVec.ofNat _ 1000 }) : PortArgs).fecDegrade, p4 (((((plainPort : PortArgs) |>
     fun x => { x with mtu := BitVec.ofNat _ 1518 }) |> fun x => { x with trainTimeout := BitVec.ofNat _ 1000000000 })
     |> fun x => { x with fecDegrade := BitVec.ofNat _ 1000 }) : PortArgs).pause, p4 (((((plainPort : PortArgs) |> fun
     x => { x with mtu := BitVec.ofNat _ 1518 }) |> fun x => { x with trainTimeout := BitVec.ofNat _ 1000000000 }) |>
     fun x => { x with fecDegrade := BitVec.ofNat _ 1000 }) : PortArgs).pcpMap, p4 (((((plainPort : PortArgs) |> fun x
     => { x with mtu := BitVec.ofNat _ 1518 }) |> fun x => { x with trainTimeout := BitVec.ofNat _ 1000000000 }) |>
     fun x => { x with fecDegrade := BitVec.ofNat _ 1000 }) : PortArgs).tcMap, p4 (((((plainPort : PortArgs) |> fun x
     => { x with mtu := BitVec.ofNat _ 1518 }) |> fun x => { x with trainTimeout := BitVec.ofNat _ 1000000000 }) |>
     fun x => { x with fecDegrade := BitVec.ofNat _ 1000 }) : PortArgs).dscpMap0, p4 (((((plainPort : PortArgs) |> fun
     x => { x with mtu := BitVec.ofNat _ 1518 }) |> fun x => { x with trainTimeout := BitVec.ofNat _ 1000000000 }) |>
     fun x => { x with fecDegrade := BitVec.ofNat _ 1000 }) : PortArgs).dscpMap1, p4 (((((plainPort : PortArgs) |> fun
     x => { x with mtu := BitVec.ofNat _ 1518 }) |> fun x => { x with trainTimeout := BitVec.ofNat _ 1000000000 }) |>
     fun x => { x with fecDegrade := BitVec.ofNat _ 1000 }) : PortArgs).dscpMap2, p4 (((((plainPort : PortArgs) |> fun
     x => { x with mtu := BitVec.ofNat _ 1518 }) |> fun x => { x with trainTimeout := BitVec.ofNat _ 1000000000 }) |>
     fun x => { x with fecDegrade := BitVec.ofNat _ 1000 }) : PortArgs).dscpMap3, p4 (((((plainPort : PortArgs) |> fun
     x => { x with mtu := BitVec.ofNat _ 1518 }) |> fun x => { x with trainTimeout := BitVec.ofNat _ 1000000000 }) |>
     fun x => { x with fecDegrade := BitVec.ofNat _ 1000 }) : PortArgs).hashProfile, p4 (((((plainPort : PortArgs) |>
     fun x => { x with mtu := BitVec.ofNat _ 1518 }) |> fun x => { x with trainTimeout := BitVec.ofNat _ 1000000000 })
     |> fun x => { x with fecDegrade := BitVec.ofNat _ 1000 }) : PortArgs).alwaysOn]), (⟨0, 1#32⟩ : LetterId),
     ((((plainPort : PortArgs) |> fun x => { x with mtu := BitVec.ofNat _ 1518 }) |> fun x =>
     { x with trainTimeout := BitVec.ofNat _ 1000000000 }) |> fun x => { x with fecDegrade := BitVec.ofNat _ 1000 }),
     by unfold Claimed; decide +kernel⟩,
   ⟨(claimOn (live |> fun (s : State) => s.setPort (0#32 : W32).toNat
     { s.port (0#32 : W32).toNat with kind := .native, state := .disabled, disabling := false }) (⟨0, 1#32⟩ :
     LetterId) 0x0402 [p4 (0#32 : W32)]), (⟨0, 1#32⟩ : LetterId), 0#32, by unfold Claimed; decide +kernel⟩,
   ⟨(claimOn (live |> fun (s : State) => s.setPort (0#32 : W32).toNat
     { s.port (0#32 : W32).toNat with state := .up, disabling := false }) (⟨0, 1#32⟩ : LetterId) 0x0403 [p4 (0#32 :
     W32)]), (⟨0, 1#32⟩ : LetterId), 0#32, by unfold Claimed; decide +kernel⟩,
   ⟨(claimOn (live |> fun (s : State) => s.setPort (0#32 : W32).toNat
     { s.port (0#32 : W32).toNat with state := .disabled, disabling := false }) (⟨0, 1#32⟩ : LetterId) 0x0403 [p4
     (0#32 : W32)]), (⟨0, 1#32⟩ : LetterId), 0#32, by unfold Claimed; decide +kernel⟩,
   ⟨(claimOn live (⟨0, 1#32⟩ : LetterId) 0x0404 [p4 (0#32 : W32), p4 (0xFAC688#32 : W32), p4 (255#32 : W32), p4
     (255#32 : W32)]), (⟨0, 1#32⟩ : LetterId), 0#32, 0xFAC688#32, 255#32, 255#32, by unfold Claimed; decide +kernel⟩,
   ⟨(claimOn live (⟨0, 1#32⟩ : LetterId) 0x0405 [p4 (0#32 : W32), p8 (0#64 : W64), p8 (0#64 : W64)]), (⟨0, 1#32⟩ :
     LetterId), 0#32, 0#64, 0#64, by unfold Claimed; decide +kernel⟩,
   ⟨(claimOn live (⟨0, 1#32⟩ : LetterId) 0x0406 [p4 (0#32 : W32), p4
     ({ pre2 := 0#32, pre1 := 0#32, main := 0#32, post1 := 0#32 } : TxTaps).pre2, p4
     ({ pre2 := 0#32, pre1 := 0#32, main := 0#32, post1 := 0#32 } : TxTaps).pre1, p4
     ({ pre2 := 0#32, pre1 := 0#32, main := 0#32, post1 := 0#32 } : TxTaps).main, p4
     ({ pre2 := 0#32, pre1 := 0#32, main := 0#32, post1 := 0#32 } : TxTaps).post1]), (⟨0, 1#32⟩ : LetterId), 0#32,
     ({ pre2 := 0#32, pre1 := 0#32, main := 0#32, post1 := 0#32 } : TxTaps), by unfold Claimed; decide +kernel⟩,
   ⟨(claimOn live (⟨0, 1#32⟩ : LetterId) 0x0407 [p4 (0#32 : W32)]), (⟨0, 1#32⟩ : LetterId), 0#32,
     by unfold Claimed; decide +kernel⟩⟩

/-- The hypotheses of `Obligations.PortStates` are met. -/
theorem witness_PortStates :
    (∃ (s : State) (port : Fin 192), s.hasPort port = true ∧ (s.port port).state = .training ∧ s.lanesOn port = true) ∧
    (∃ (s : State) (port : Fin 192), s.hasPort port = true ∧ (s.port port).state = .training ∧ (s.port port).since +
      (s.port port).trainTimeout ≤ s.up) ∧
    (∃ (s : State) (port : Fin 192), s.hasPort port = true ∧ (s.port port).state = .aligning ∧ s.lanesOn port = true
      ∧ (s.port port).localFault = false ∧ s.serdesOk = true) ∧
    (∃ (s : State) (port : Fin 192), s.hasPort port = true ∧ (s.port port).state = .up ∧ (s.port port).debounce ≠ 0) ∧
    (∃ (s : State) (port : Fin 192), s.hasPort port = true ∧ (s.port port).state = .up ∧ (s.port port).debounce = 0) ∧
    (∃ (s : State) (port : Fin 192), s.hasPort port = true ∧ (s.port port).state = .down ∧ (s.port port).lockLost =
      false ∧ (s.port port).localFault = false) ∧
    (∃ (s : State) (port : Fin 192), s.hasPort port = true ∧ (s.port port).state = .faulted ∧ (s.port port).since +
      (s.port port).debounce ≤ s.up) ∧
    (∃ (s : State) (port : Fin 192), s.hasPort port = true ∧ (s.port port).state = .holdOff ∧ (s.port port).since +
      (s.port port).holdoff ≤ s.up ∧ (s.port port).faulty = false) ∧
    (∃ (s : State) (port : Fin 192) (above : Bool), s.hasPort port = true ∧ (s.port port).state ≠ .disabled ∧ (s.port
      port).fecDegraded ≠ above) ∧
    (∃ (s : State) (port : Fin 192), s.hasPort port = true ∧ (s.port port).disabling = true ∧ (s.port port).idleSince
      + 1000 ≤ s.up) :=
  ⟨⟨(live |> fun (s : State) => s.setPort (0 : Fin 192) { s.port (0 : Fin 192) with state := .training }), (0 : Fin
     192), by decide +kernel⟩,
   ⟨(live |> fun (s : State) => s.setPort (0 : Fin 192) { s.port (0 : Fin 192) with state := .training }), (0 : Fin
     192), by decide +kernel⟩,
   ⟨(live |> fun (s : State) => s.setPort (0 : Fin 192)
     { s.port (0 : Fin 192) with state := .aligning, localFault := false }), (0 : Fin 192), by decide +kernel⟩,
   ⟨((live |> fun (s : State) => s.setPort (0 : Fin 192) { s.port (0 : Fin 192) with state := .up }) |> fun (s :
     State) => s.setPort (0 : Fin 192) { s.port (0 : Fin 192) with debounce := 1 }), (0 : Fin 192), by decide +kernel⟩,
   ⟨(live |> fun (s : State) => s.setPort (0 : Fin 192) { s.port (0 : Fin 192) with state := .up, debounce := 0 }),
     (0 : Fin 192), by decide +kernel⟩,
   ⟨(live |> fun (s : State) => s.setPort (0 : Fin 192)
     { s.port (0 : Fin 192) with state := .down, lockLost := false, localFault := false }), (0 : Fin 192),
     by decide +kernel⟩,
   ⟨(live |> fun (s : State) => s.setPort (0 : Fin 192) { s.port (0 : Fin 192) with state := .faulted }), (0 : Fin
     192), by decide +kernel⟩,
   ⟨(live |> fun (s : State) => s.setPort (0 : Fin 192) { s.port (0 : Fin 192) with state := .holdOff }), (0 : Fin
     192), by decide +kernel⟩,
   ⟨(live |> fun (s : State) => s.setPort (0 : Fin 192) { s.port (0 : Fin 192) with state := .up }), (0 : Fin 192),
     true, by decide +kernel⟩,
   ⟨(live |> fun (s : State) => s.setPort (0 : Fin 192) { s.port (0 : Fin 192) with disabling := true }), (0 : Fin
     192), by decide +kernel⟩⟩

/-- The hypotheses of `Obligations.FlexEGroups` are met. -/
theorem witness_FlexEGroups :
    (∃ (s : State) (g : Fin 12) (i : Fin 4), s.variant.envelope = true ∧ (s.flexe g i).present = true ∧ (s.flexe g
      i).st = .enabled ∧ s.pageDue (s.flexe g i).page = .switch ∧ ((s.flexe g i).caRequired = false ∨ (s.flexe g i).ca
      = true)) ∧
    (∃ (s : State) (g : Fin 12) (i : Fin 4), s.variant.envelope = true ∧ (s.flexe g i).present = true ∧ (s.flexe g
      i).st = .enabled ∧ s.pageDue (s.flexe g i).page = .wait) ∧
    (∃ (s : State) (g : Fin 12) (i : Fin 4), s.variant.envelope = true ∧ (s.flexe g i).present = true ∧ (s.flexe g
      i).st = .enabled ∧ s.pageDue (s.flexe g i).page = .switch ∧ (s.flexe g i).caRequired = true ∧ (s.flexe g i).ca =
      false) ∧
    (∃ (s : State) (g : Fin 12) (i : Fin 4), s.variant.envelope = true ∧ (s.flexe g i).st = .enabled ∧ (s.flexe g
      i).page.state = .armed) ∧
    (∃ (s : State) (g : Fin 12) (i : Fin 4) (ccc : Bool) (clients : List (BitVec 16)), s.variant.envelope = true ∧
      (s.flexe g i).present = true ∧ (s.flexe g i).st = .enabled) ∧
    (∃ (s : State) (g : Fin 12) (i : Fin 4), s.variant.envelope = true ∧ (s.flexe g i).st = .enabled ∧ (s.flexe g
      i).deskewFail = false) ∧
    (∃ (s : State) (g : Fin 12) (i : Fin 4), s.variant.envelope = true ∧ (s.flexe g i).deskewFail = true) ∧
    (∃ (s : State) (l : LetterId) (g : W32) (i : W32) (phyType : W32) (phys : W32) (ca : W32), Claimed s l 0x0501 [p4
      g, p4 i, p4 phyType, p4 phys, p4 ca] ∧ s.variant.envelope = true ∧ l.slice.val = 0 ∧ g.toNat ≤ 11 ∧ i.toNat ≤ 3
      ∧ phyType.toNat ≤ 3 ∧ phys.toNat ≤ 65535 ∧ legalPhys phyType.toNat phys.toNat = true ∧ ca.toNat ≤ 1 ∧ ((maskBits
      phys.toNat 16).map (· + 16 * g.toNat)).any (fun x => (octetsOf s.otuLanes).contains (x / 8) || (octetsOf
      (s.nativeLanes 256)).contains (x / 8) || s.flexeLanes.contains x) = false ∧ (s.flexe g.toNat i.toNat).present =
      false) ∧
    (∃ (s : State) (l : LetterId) (g : W32) (i : W32) (slots : ListArg (BitVec 16)) (cal : List (BitVec 16)), Claimed
      s l 0x0506 [p4 g, p4 i, pL slots] ∧ s.variant.envelope = true ∧ l.slice.val = 0 ∧ g.toNat ≤ 11 ∧ i.toNat ≤ 3 ∧
      (s.flexe g.toNat i.toNat).present = true ∧ slots.count.toNat = (s.flexe g.toNat i.toNat).slotCount ∧ slots.items
      = some cal ∧ (calPorts cal).any (fun p => decide (320 < calSlots cal p)) = false ∧ (calPorts cal).any (fun p =>
      !s.mayServe g.toNat p fun k => k = .flexe g.toNat i.toNat) = false ∧ (s.flexe g.toNat i.toNat).page.state.fixed
      = false ∧ (s.flexe g.toNat i.toNat).txB = false) ∧
    (∃ (s : State) (l : LetterId) (g : W32) (i : W32) (at' : TimeParam), Claimed s l 0x0507 [p4 g, p4 i, pT at'] ∧
      s.variant.envelope = true ∧ l.slice.val = 0 ∧ g.toNat ≤ 11 ∧ i.toNat ≤ 3 ∧ (s.flexe g.toNat i.toNat).present =
      true ∧ (s.flexe g.toNat i.toNat).page.state = .loaded ∧ badTime at' = false ∧ farTime s at' = false ∧ pastTime s
      at' = false) ∧
    (∃ (s : State) (l : LetterId) (g : W32) (i : W32), Claimed s l 0x0508 [p4 g, p4 i] ∧ s.variant.envelope = true ∧
      l.slice.val = 0 ∧ g.toNat ≤ 11 ∧ i.toNat ≤ 3 ∧ (s.flexe g.toNat i.toNat).present = true ∧ (s.flexe g.toNat
      i.toNat).page.state.fixed = true) :=
  ⟨⟨((live |> fun (s : State) => s.setFlexe (0 : Fin 12) (0 : Fin 4)
     { s.flexe (0 : Fin 12) (0 : Fin 4) with present := true, st := .enabled, caRequired := false }) |> fun (s :
     State) => s.setFlexe (0 : Fin 12) (0 : Fin 4)
     { s.flexe (0 : Fin 12) (0 : Fin 4) with page := { state := .armed } }), (0 : Fin 12), (0 : Fin 4),
     by decide +kernel⟩,
   ⟨(live |> fun (s : State) => s.setFlexe (0 : Fin 12) (0 : Fin 4)
     { s.flexe (0 : Fin 12) (0 : Fin 4) with present := true, st := .enabled }), (0 : Fin 12), (0 : Fin 4),
     by decide +kernel⟩,
   ⟨((live |> fun (s : State) => s.setFlexe (0 : Fin 12) (0 : Fin 4)
     { s.flexe (0 : Fin 12) (0 : Fin 4) with present := true, st := .enabled, caRequired := true, ca := false }) |>
     fun (s : State) => s.setFlexe (0 : Fin 12) (0 : Fin 4)
     { s.flexe (0 : Fin 12) (0 : Fin 4) with page := { state := .armed } }), (0 : Fin 12), (0 : Fin 4),
     by decide +kernel⟩,
   ⟨((live |> fun (s : State) => s.setFlexe (0 : Fin 12) (0 : Fin 4) (s.flexe (0 : Fin 12) (0 : Fin 4) |> fun x =>
     { x with st := .enabled })) |> fun (s : State) => s.setFlexe (0 : Fin 12) (0 : Fin 4) (s.flexe (0 : Fin 12) (0 :
     Fin 4) |> fun x => { x with page := { x.page with state := .armed } })), (0 : Fin 12), (0 : Fin 4),
     by decide +kernel⟩,
   ⟨(live |> fun (s : State) => s.setFlexe (0 : Fin 12) (0 : Fin 4)
     { s.flexe (0 : Fin 12) (0 : Fin 4) with present := true, st := .enabled }), (0 : Fin 12), (0 : Fin 4), false, ([]
     : List (BitVec 16)), by decide +kernel⟩,
   ⟨(live |> fun (s : State) => s.setFlexe (0 : Fin 12) (0 : Fin 4)
     { s.flexe (0 : Fin 12) (0 : Fin 4) with st := .enabled, deskewFail := false }), (0 : Fin 12), (0 : Fin 4),
     by decide +kernel⟩,
   ⟨(live |> fun (s : State) => s.setFlexe (0 : Fin 12) (0 : Fin 4)
     { s.flexe (0 : Fin 12) (0 : Fin 4) with deskewFail := true }), (0 : Fin 12), (0 : Fin 4), by decide +kernel⟩,
   ⟨(claimOn (live |> fun (s : State) => s.setFlexe (11#32 : W32).toNat (3#32 : W32).toNat
     { s.flexe (11#32 : W32).toNat (3#32 : W32).toNat with present := false }) (⟨0, 1#32⟩ : LetterId) 0x0501 [p4
     (11#32 : W32), p4 (3#32 : W32), p4 (3#32 : W32), p4 (65535#32 : W32), p4 (1#32 : W32)]), (⟨0, 1#32⟩ : LetterId),
     11#32, 3#32, 3#32, 65535#32, 1#32, by unfold Claimed; decide +kernel⟩,
   ⟨(claimOn ((live |> fun (s : State) => s.setFlexe (11#32 : W32).toNat (3#32 : W32).toNat
     { s.flexe (11#32 : W32).toNat (3#32 : W32).toNat with present := true, txB := false }) |> fun (s : State) =>
     s.setFlexe (11#32 : W32).toNat (3#32 : W32).toNat
     { s.flexe (11#32 : W32).toNat (3#32 : W32).toNat with phys := 0#16 }) (⟨0, 1#32⟩ : LetterId) 0x0506 [p4 (11#32 :
     W32), p4 (3#32 : W32), pL (⟨0#64, 0#32, some []⟩ : ListArg (BitVec 16))]), (⟨0, 1#32⟩ : LetterId), 11#32, 3#32,
     (⟨0#64, 0#32, some []⟩ : ListArg (BitVec 16)), ([] : List (BitVec 16)), by unfold Claimed; decide +kernel⟩,
   ⟨(claimOn ((live |> fun (s : State) => s.setFlexe (11#32 : W32).toNat (3#32 : W32).toNat (s.flexe (11#32 :
     W32).toNat (3#32 : W32).toNat |> fun x => { x with present := true })) |> fun (s : State) => s.setFlexe (11#32 :
     W32).toNat (3#32 : W32).toNat (s.flexe (11#32 : W32).toNat (3#32 : W32).toNat |> fun x =>
     { x with page := { x.page with state := .loaded } })) (⟨0, 1#32⟩ : LetterId) 0x0507 [p4 (11#32 : W32), p4 (3#32 :
     W32), pT (0#128 : TimeParam)]), (⟨0, 1#32⟩ : LetterId), 11#32, 3#32, 0#128, by unfold Claimed; decide +kernel⟩,
   ⟨(claimOn ((live |> fun (s : State) => s.setFlexe (11#32 : W32).toNat (3#32 : W32).toNat
     { s.flexe (11#32 : W32).toNat (3#32 : W32).toNat with present := true }) |> fun (s : State) => s.setFlexe (11#32
     : W32).toNat (3#32 : W32).toNat
     { s.flexe (11#32 : W32).toNat (3#32 : W32).toNat with page := { state := .armed } }) (⟨0, 1#32⟩ : LetterId)
     0x0508 [p4 (11#32 : W32), p4 (3#32 : W32)]), (⟨0, 1#32⟩ : LetterId), 11#32, 3#32,
     by unfold Claimed; decide +kernel⟩⟩

/-- The hypotheses of `Obligations.OtnInterfaces` are met. -/
theorem witness_OtnInterfaces :
    (∃ (s : State) (g : Fin 12) (i : Fin 2) (layer : AlignLayer) (ok : Bool) (e : OtnErrors) (a : Align),
      s.variant.envelope = true ∧ (s.otu g i).live = true ∧ (s.otu g i).hasLayer layer = true ∧ a = (nget {} (s.otu g
      i).align (layerKey layer)).check (s.otu g i).frameN (s.otu g i).frameM s.up ok) ∧
    (∃ (s : State) (g : Nat) (i : Nat) (k : Fin 16) (e : OtnErrors), e.pmBip = 0 ∧ e.pmBei = 0 ∧ 0 < e.smBip.val ∧ 0
      < e.smBei.val) ∧
    (∃ (s : State) (g : Fin 12) (i : Fin 2) (layer : AlignLayer), s.variant.envelope = true ∧ (s.otu g i).live = true
      ∧ (s.otu g i).hasLayer layer = true ∧ (nget {} (s.otu g i).align (layerKey layer)).outOfFrame = true ∧ (nget {}
      (s.otu g i).align (layerKey layer)).lof = false ∧ max (nget {} (s.otu g i).align (layerKey layer)).since (s.otu
      g i).since + 3000000 ≤ s.up) ∧
    (∃ (s : State) (g : Fin 12) (i : Fin 2) (layer : AlignLayer), s.variant.envelope = true ∧ (s.otu g i).live = true
      ∧ (nget {} (s.otu g i).align (layerKey layer)).outOfFrame = false ∧ (nget {} (s.otu g i).align (layerKey
      layer)).lof = true ∧ max (nget {} (s.otu g i).align (layerKey layer)).since (s.otu g i).since + 3000000 ≤ s.up) ∧
    (∃ (s : State) (g : Fin 12) (i : Fin 2) (d : OtnDefect), s.variant.envelope = true ∧ (s.otu g i).live = true ∧
      (s.otu g i).defects.contains d = false ∧ msiTrib d = none) ∧
    (∃ (s : State) (g : Fin 12) (i : Fin 2) (k : BitVec 16), s.variant.envelope = true ∧ (s.otu g i).live = true ∧
      (s.otu g i).defects.contains (.msi k) = false) ∧
    (∃ (s : State) (g : Fin 12) (trib : BitVec 16) (cm : BitVec 16), s.variant.envelope = true ∧ s.tribLive g
      trib.toNat = true) ∧
    (∃ (s : State) (g : Fin 12) (trib : BitVec 16) (fill : BitVec 16), s.variant.envelope = true ∧ s.tribLive g
      trib.toNat = true) ∧
    (∃ (s : State) (g : Fin 12), s.variant.envelope = true ∧ ((s.otu g 0).live = true ∨ (s.otu g 1).live = true) ∧
      s.pageDue (s.tsPage g).page = .switch) ∧
    (∃ (s : State) (l : LetterId) (a : OtuArgs), Claimed s l 0x0502 [p4 a.fgroup, p4 a.iface, p4 a.n, p4 a.firstLane,
      p4 a.lanes, p4 a.frameN, p4 a.frameM, p4 a.timAct] ∧ s.variant.envelope = true ∧ l.slice.val = 0 ∧
      a.fgroup.toNat ≤ 11 ∧ a.iface.toNat ≤ 1 ∧ 1 ≤ a.n.toNat ∧ a.n.toNat ≤ 16 ∧ a.lanes.toNat ∈ [1, 2, 4, 8] ∧
      a.n.toNat ≤ 2 * a.lanes.toNat ∧ a.firstLane.toNat / 16 = a.fgroup.toNat ∧ a.firstLane.toNat % a.lanes.toNat = 0
      ∧ ((List.range a.lanes.toNat).map (· + a.firstLane.toNat)).any (fun x => (octetsOf (s.nativeLanes 256 ++
      s.flexeLanes)).contains (x / 8) || s.otuLanes.contains x) = false ∧ 1 ≤ a.frameN.toNat ∧ a.frameN.toNat ≤ 8 ∧ 2
      ≤ a.frameM.toNat ∧ a.frameM.toNat ≤ 16 ∧ a.timAct.toNat ≤ 1 ∧ (s.otu a.fgroup.toNat a.iface.toNat).present =
      false) ∧
    (∃ (s : State) (l : LetterId) (g : W32) (entries : ListArg TsEntry) (page : List TsEntry), Claimed s l 0x0509 [p4
      g, pL entries] ∧ s.variant.envelope = true ∧ l.slice.val = 0 ∧ g.toNat ≤ 11 ∧ 1 ≤ entries.count.toNat ∧
      entries.count.toNat ≤ 640 ∧ entries.items = some page ∧ oneClient page = true ∧ page.length ≤ 20 * ((s.otu
      g.toNat 0).n + (s.otu g.toNat 1).n) ∧ (pageTribs page).any (fun t => !legalTrib page (20 * (s.otu g.toNat 0).n)
      t) = false ∧ (page.filter (·.allocated)).any (fun e => !s.mayServe g.toNat e.client.toNat (otuOf g.toNat)) =
      false ∧ (s.tsPage g.toNat).page.state.fixed = false) ∧
    (∃ (s : State) (l : LetterId) (g : W32) (at' : TimeParam), Claimed s l 0x050A [p4 g, pT at'] ∧ s.variant.envelope
      = true ∧ l.slice.val = 0 ∧ g.toNat ≤ 11 ∧ (s.tsPage g.toNat).page.state = .loaded ∧ badTime at' = false ∧
      farTime s at' = false ∧ pastTime s at' = false) ∧
    (∃ (s : State) (l : LetterId) (g : W32), Claimed s l 0x050B [p4 g] ∧ s.variant.envelope = true ∧ l.slice.val = 0
      ∧ g.toNat ≤ 11 ∧ (s.tsPage g.toNat).page.state.fixed = true) :=
  ⟨⟨(live |> fun (s : State) => s.setOtu (0 : Fin 12) (0 : Fin 2)
     { s.otu (0 : Fin 12) (0 : Fin 2) with present := true, st := .enabled, n := 1, lanes := 1 }), (0 : Fin 12), (0 :
     Fin 2), (.flexo : AlignLayer), false, ({ smBip := 0, smBei := 0, pmBip := 0, pmBei := 0 } : OtnErrors), _,
     by decide +kernel, by decide +kernel, by decide +kernel, rfl⟩,
   ⟨live, 0, 0, (0 : Fin 16), (⟨8, 8, 0, 0⟩ : OtnErrors), by decide +kernel⟩,
   ⟨(live |> fun (s : State) => s.setOtu (0 : Fin 12) (0 : Fin 2)
     { s.otu (0 : Fin 12) (0 : Fin 2) with present := true, st := .enabled, n := 1, lanes := 1 }), (0 : Fin 12), (0 :
     Fin 2), (.flexo : AlignLayer), by decide +kernel⟩,
   ⟨((live |> fun (s : State) => s.setOtu (0 : Fin 12) (0 : Fin 2)
     { s.otu (0 : Fin 12) (0 : Fin 2) with present := true, st := .enabled, n := 1, lanes := 1 }) |> fun (s : State)
     => s.setOtu (0 : Fin 12) (0 : Fin 2)
     { s.otu (0 : Fin 12) (0 : Fin 2) with align := [(0, { st := .inFrame, lof := true })] }), (0 : Fin 12), (0 : Fin
     2), .flexo, by decide +kernel⟩,
   ⟨(live |> fun (s : State) => s.setOtu (0 : Fin 12) (0 : Fin 2)
     { s.otu (0 : Fin 12) (0 : Fin 2) with present := true, st := .enabled, n := 1, lanes := 1 }), (0 : Fin 12), (0 :
     Fin 2), (.tim : OtnDefect), by decide +kernel⟩,
   ⟨(live |> fun (s : State) => s.setOtu (0 : Fin 12) (0 : Fin 2)
     { s.otu (0 : Fin 12) (0 : Fin 2) with present := true, st := .enabled, n := 1, lanes := 1 }), (0 : Fin 12), (0 :
     Fin 2), 0#16, by decide +kernel⟩,
   ⟨((live |> fun (s : State) => s.setOtu (0 : Fin 12) 0
     { s.otu (0 : Fin 12) 0 with present := true, st := .enabled, n := 1, lanes := 1 }) |> fun (s : State) =>
     { s with line := { s.line with tsPages := nset {} (0 : Fin 12).val { s.tsPage (0 : Fin 12) with active := [{ allocated := true, trib := 1, client := 0 }] } s.line.tsPages } }),
     (0 : Fin 12), 1#16, 0#16, by decide +kernel⟩,
   ⟨((live |> fun (s : State) => s.setOtu (0 : Fin 12) 0
     { s.otu (0 : Fin 12) 0 with present := true, st := .enabled, n := 1, lanes := 1 }) |> fun (s : State) =>
     { s with line := { s.line with tsPages := nset {} (0 : Fin 12).val { s.tsPage (0 : Fin 12) with active := [{ allocated := true, trib := 1, client := 0 }] } s.line.tsPages } }),
     (0 : Fin 12), 1#16, 0#16, by decide +kernel⟩,
   ⟨((live |> fun (s : State) => s.setOtu (0 : Fin 12) 0
     { s.otu (0 : Fin 12) 0 with present := true, st := .enabled, n := 1, lanes := 1 }) |> fun (s : State) =>
     s.setTsPage (0 : Fin 12) { s.tsPage (0 : Fin 12) with page := { state := .armed } }), (0 : Fin 12),
     by decide +kernel⟩,
   ⟨(claimOn (live |> fun (s : State) => s.setOtu
     ({ fgroup := 0#32, iface := 1#32, n := 16#32, firstLane := 8#32, lanes := 8#32, frameN := 8#32, frameM := 16#32, timAct := 1#32 }
     : OtuArgs).fgroup.toNat
     ({ fgroup := 0#32, iface := 1#32, n := 16#32, firstLane := 8#32, lanes := 8#32, frameN := 8#32, frameM := 16#32, timAct := 1#32 }
     : OtuArgs).iface.toNat
     { s.otu ({ fgroup := 0#32, iface := 1#32, n := 16#32, firstLane := 8#32, lanes := 8#32, frameN := 8#32, frameM := 16#32, timAct := 1#32 } : OtuArgs).fgroup.toNat ({ fgroup := 0#32, iface := 1#32, n := 16#32, firstLane := 8#32, lanes := 8#32, frameN := 8#32, frameM := 16#32, timAct := 1#32 } : OtuArgs).iface.toNat with present := false })
     (⟨0, 1#32⟩ : LetterId) 0x0502 [p4
     ({ fgroup := 0#32, iface := 1#32, n := 16#32, firstLane := 8#32, lanes := 8#32, frameN := 8#32, frameM := 16#32, timAct := 1#32 }
     : OtuArgs).fgroup, p4
     ({ fgroup := 0#32, iface := 1#32, n := 16#32, firstLane := 8#32, lanes := 8#32, frameN := 8#32, frameM := 16#32, timAct := 1#32 }
     : OtuArgs).iface, p4
     ({ fgroup := 0#32, iface := 1#32, n := 16#32, firstLane := 8#32, lanes := 8#32, frameN := 8#32, frameM := 16#32, timAct := 1#32 }
     : OtuArgs).n, p4
     ({ fgroup := 0#32, iface := 1#32, n := 16#32, firstLane := 8#32, lanes := 8#32, frameN := 8#32, frameM := 16#32, timAct := 1#32 }
     : OtuArgs).firstLane, p4
     ({ fgroup := 0#32, iface := 1#32, n := 16#32, firstLane := 8#32, lanes := 8#32, frameN := 8#32, frameM := 16#32, timAct := 1#32 }
     : OtuArgs).lanes, p4
     ({ fgroup := 0#32, iface := 1#32, n := 16#32, firstLane := 8#32, lanes := 8#32, frameN := 8#32, frameM := 16#32, timAct := 1#32 }
     : OtuArgs).frameN, p4
     ({ fgroup := 0#32, iface := 1#32, n := 16#32, firstLane := 8#32, lanes := 8#32, frameN := 8#32, frameM := 16#32, timAct := 1#32 }
     : OtuArgs).frameM, p4
     ({ fgroup := 0#32, iface := 1#32, n := 16#32, firstLane := 8#32, lanes := 8#32, frameN := 8#32, frameM := 16#32, timAct := 1#32 }
     : OtuArgs).timAct]), (⟨0, 1#32⟩ : LetterId),
     ({ fgroup := 0#32, iface := 1#32, n := 16#32, firstLane := 8#32, lanes := 8#32, frameN := 8#32, frameM := 16#32, timAct := 1#32 }
     : OtuArgs), by unfold Claimed; decide +kernel⟩,
   ⟨(claimOn live (⟨0, 1#32⟩ : LetterId) 0x0509 [p4 (11#32 : W32), pL (⟨0#64, 1#32, some ([] : List TsEntry)⟩ :
     ListArg TsEntry)]), (⟨0, 1#32⟩ : LetterId), 11#32, (⟨0#64, 1#32, some ([] : List TsEntry)⟩ : ListArg TsEntry),
     ([] : List TsEntry), by unfold Claimed; decide +kernel⟩,
   ⟨(claimOn (live |> fun (s : State) => s.setTsPage (11#32 : W32).toNat (s.tsPage (11#32 : W32).toNat |> fun x =>
     { x with page := { x.page with state := .loaded } })) (⟨0, 1#32⟩ : LetterId) 0x050A [p4 (11#32 : W32), pT (0#128
     : TimeParam)]), (⟨0, 1#32⟩ : LetterId), 11#32, 0#128, by unfold Claimed; decide +kernel⟩,
   ⟨(claimOn (live |> fun (s : State) => s.setTsPage (11#32 : W32).toNat
     { s.tsPage (11#32 : W32).toNat with page := { state := .armed } }) (⟨0, 1#32⟩ : LetterId) 0x050B [p4 (11#32 :
     W32)]), (⟨0, 1#32⟩ : LetterId), 11#32, by unfold Claimed; decide +kernel⟩⟩

/-- The hypotheses of `Obligations.EnvelopeGroupsAndChannels` are met. -/
theorem witness_EnvelopeGroupsAndChannels :
    (∃ (s : State) (l : LetterId) (g : W32) (i : W32), Claimed s l 0x0503 [p4 g, p4 0#32, p4 i] ∧ s.variant.envelope
      = true ∧ l.slice.val = 0 ∧ g.toNat ≤ 11 ∧ i.toNat ≤ 3 ∧ (s.flexe g.toNat i.toNat).present = true ∧ (s.flexe
      g.toNat i.toNat).st = .disabled) ∧
    (∃ (s : State) (l : LetterId) (g : W32) (i : W32), Claimed s l 0x0504 [p4 g, p4 0#32, p4 i] ∧ s.variant.envelope
      = true ∧ l.slice.val = 0 ∧ g.toNat ≤ 11 ∧ i.toNat ≤ 3 ∧ (s.flexe g.toNat i.toNat).present = true ∧ (s.flexe
      g.toNat i.toNat).st = .disabled) ∧
    (∃ (s : State) (l : LetterId) (g : W32) (i : W32), Claimed s l 0x0505 [p4 g, p4 0#32, p4 i] ∧ s.variant.envelope
      = true ∧ l.slice.val = 0 ∧ g.toNat ≤ 11 ∧ i.toNat ≤ 3 ∧ (s.flexe g.toNat i.toNat).present = true ∧ (s.flexe
      g.toNat i.toNat).st = .enabled) ∧
    (∃ (s : State) (g : Fin 12) (i : Fin 4), s.variant.envelope = true ∧ (s.flexe g i).st = .stopping) ∧
    (∃ (s : State) (g : Fin 12) (i : Fin 4), s.variant.envelope = true ∧ (s.otu g i).st = .stopping) ∧
    (∃ (s : State) (l : LetterId) (g : W32) (i : W32), Claimed s l 0x0504 [p4 g, p4 1#32, p4 i] ∧ s.variant.envelope
      = true ∧ l.slice.val = 0 ∧ g.toNat ≤ 11 ∧ i.toNat ≤ 1 ∧ (s.otu g.toNat i.toNat).present = true ∧ (s.otu g.toNat
      i.toNat).st = .disabled) ∧
    (∃ (s : State) (l : LetterId) (g : W32) (i : W32), Claimed s l 0x0505 [p4 g, p4 1#32, p4 i] ∧ s.variant.envelope
      = true ∧ l.slice.val = 0 ∧ g.toNat ≤ 11 ∧ i.toNat ≤ 1 ∧ (s.otu g.toNat i.toNat).present = true ∧ (s.otu g.toNat
      i.toNat).st = .enabled) ∧
    (∃ (s : State) (g : Fin 12) (i : Fin 4), s.variant.envelope = true ∧ (s.flexe g i).st = .faultSent ∧ (s.flexe g
      i).since + 1000000 ≤ s.up) ∧
    (∃ (s : State) (g : Fin 12) (i : Fin 4), s.variant.envelope = true ∧ (s.otu g i).st = .faultSent ∧ (s.otu g
      i).since + 1000000 ≤ s.up) ∧
    (∃ (s : State) (l : LetterId) (channel : W32) (rxRing : W64) (txRing : W64) (depth : W32), Claimed s l 0x050C [p4
      channel, p8 rxRing, p8 txRing, p4 depth] ∧ s.variant.envelope = true ∧ l.slice.val = 0 ∧ depth ≠ 0#32 ∧
      channel.toNat < 360) ∧
    (∃ (s : State) (c : BitVec 12) (bytes : List Byte), s.variant.envelope = true ∧ s.ohLive c.toNat = true ∧
      s.groupMoving (c.toNat / 30) = false ∧ (s.ohChan c.toNat).rx.length < 64) ∧
    (∃ (s : State) (c : BitVec 12) (bytes : List Byte), s.variant.envelope = true ∧ s.ohLive c.toNat = true ∧
      s.groupMoving (c.toNat / 30) = true) ∧
    (∃ (s : State) (c : BitVec 12) (bytes : List Byte), s.variant.envelope = true ∧ s.ohLive c.toNat = true ∧
      s.groupMoving (c.toNat / 30) = false ∧ 64 ≤ (s.ohChan c.toNat).rx.length) ∧
    (∃ (s : State) (c : BitVec 12), s.variant.envelope = true ∧ wholeFrames 2047 (s.ohChan c.toNat).rx ≠ 0 ∧
      (s.ohChan c.toNat).rxRing.isSome = true ∧ s.mayRequest (s.ohChan c.toNat).slice = true) ∧
    (∃ (s : State) (c : BitVec 12) (f : List Byte) (fs : List (List Byte)), s.variant.envelope = true ∧ s.ohLive
      c.toNat = true ∧ s.groupMoving (c.toNat / 30) = false ∧ (s.ohChan c.toNat).tx = f :: fs) ∧
    (∃ (s : State) (c : BitVec 12), s.variant.envelope = true ∧ s.ohLive c.toNat = true ∧ s.groupMoving (c.toNat /
      30) = true ∧ (s.ohChan c.toNat).tx ≠ []) ∧
    (∃ (s : State) (c : BitVec 12), s.variant.envelope = true ∧ s.ohLive c.toNat = true ∧ (s.ohChan c.toNat).tx = []) ∧
    (∃ (s : State) (c : BitVec 12) (frames : List (List Byte)), s.variant.envelope = true ∧ c.toNat < 360 ∧ (s.ohChan
      c.toNat).txRing.isSome = true ∧ s.mayRequest (s.ohChan c.toNat).slice = true) :=
  ⟨⟨(claimOn (live |> fun (s : State) => s.setFlexe (11#32 : W32).toNat (3#32 : W32).toNat
     { s.flexe (11#32 : W32).toNat (3#32 : W32).toNat with present := true, st := .disabled }) (⟨0, 1#32⟩ : LetterId)
     0x0503 [p4 (11#32 : W32), p4 0#32, p4 (3#32 : W32)]), (⟨0, 1#32⟩ : LetterId), 11#32, 3#32,
     by unfold Claimed; decide +kernel⟩,
   ⟨(claimOn (live |> fun (s : State) => s.setFlexe (11#32 : W32).toNat (3#32 : W32).toNat
     { s.flexe (11#32 : W32).toNat (3#32 : W32).toNat with present := true, st := .disabled }) (⟨0, 1#32⟩ : LetterId)
     0x0504 [p4 (11#32 : W32), p4 0#32, p4 (3#32 : W32)]), (⟨0, 1#32⟩ : LetterId), 11#32, 3#32,
     by unfold Claimed; decide +kernel⟩,
   ⟨(claimOn (live |> fun (s : State) => s.setFlexe (11#32 : W32).toNat (3#32 : W32).toNat
     { s.flexe (11#32 : W32).toNat (3#32 : W32).toNat with present := true, st := .enabled }) (⟨0, 1#32⟩ : LetterId)
     0x0505 [p4 (11#32 : W32), p4 0#32, p4 (3#32 : W32)]), (⟨0, 1#32⟩ : LetterId), 11#32, 3#32,
     by unfold Claimed; decide +kernel⟩,
   ⟨(live |> fun (s : State) => s.setFlexe (0 : Fin 12) (0 : Fin 4)
     { s.flexe (0 : Fin 12) (0 : Fin 4) with st := .stopping }), (0 : Fin 12), (0 : Fin 4), by decide +kernel⟩,
   ⟨(live |> fun (s : State) => s.setOtu (0 : Fin 12) (0 : Fin 4)
     { s.otu (0 : Fin 12) (0 : Fin 4) with st := .stopping }), (0 : Fin 12), (0 : Fin 4), by decide +kernel⟩,
   ⟨(claimOn (live |> fun (s : State) => s.setOtu (11#32 : W32).toNat (1#32 : W32).toNat
     { s.otu (11#32 : W32).toNat (1#32 : W32).toNat with present := true, st := .disabled }) (⟨0, 1#32⟩ : LetterId)
     0x0504 [p4 (11#32 : W32), p4 1#32, p4 (1#32 : W32)]), (⟨0, 1#32⟩ : LetterId), 11#32, 1#32,
     by unfold Claimed; decide +kernel⟩,
   ⟨(claimOn (live |> fun (s : State) => s.setOtu (11#32 : W32).toNat (1#32 : W32).toNat
     { s.otu (11#32 : W32).toNat (1#32 : W32).toNat with present := true, st := .enabled }) (⟨0, 1#32⟩ : LetterId)
     0x0505 [p4 (11#32 : W32), p4 1#32, p4 (1#32 : W32)]), (⟨0, 1#32⟩ : LetterId), 11#32, 1#32,
     by unfold Claimed; decide +kernel⟩,
   ⟨(live |> fun (s : State) => s.setFlexe (0 : Fin 12) (0 : Fin 4)
     { s.flexe (0 : Fin 12) (0 : Fin 4) with st := .faultSent }), (0 : Fin 12), (0 : Fin 4), by decide +kernel⟩,
   ⟨(live |> fun (s : State) => s.setOtu (0 : Fin 12) (0 : Fin 4)
     { s.otu (0 : Fin 12) (0 : Fin 4) with st := .faultSent }), (0 : Fin 12), (0 : Fin 4), by decide +kernel⟩,
   ⟨(claimOn live (⟨0, 1#32⟩ : LetterId) 0x050C [p4 (359#32 : W32), p8 (0#64 : W64), p8 (0#64 : W64), p4 (1#32 :
     W32)]), (⟨0, 1#32⟩ : LetterId), 359#32, 0#64, 0#64, 1#32, by unfold Claimed; decide +kernel⟩,
   ⟨(live |> fun (s : State) =>
     { s.setOtu 0 0 { s.otu 0 0 with present := true, st := .enabled, n := 1, lanes := 1 } with courier := { s.courier with pasidOn := true } }),
     0#12, ([] : List Byte), by decide +kernel⟩,
   ⟨((live |> fun (s : State) =>
     { s.setOtu 0 0 { s.otu 0 0 with present := true, st := .enabled, n := 1, lanes := 1 } with courier := { s.courier with pasidOn := true } })
     |> fun (s : State) =>
     { s with images := { s.images with act := { s.images.act with st := .rolling, step := 4, sub := 0 } } }), 0#12,
     ([] : List Byte), by decide +kernel⟩,
   ⟨((live |> fun (s : State) =>
     { s.setOtu 0 0 { s.otu 0 0 with present := true, st := .enabled, n := 1, lanes := 1 } with courier := { s.courier with pasidOn := true } })
     |> fun (s : State) => s.setOh 0 { s.ohChan 0 with rx := List.replicate 64 [] }), 0#12, ([] : List Byte),
     by decide +kernel⟩,
   ⟨(((live |> fun (s : State) => s.setOh (0#12 : BitVec 12).toNat
     { s.ohChan (0#12 : BitVec 12).toNat with rxRing := some 0 }) |> fun (s : State) =>
     { s with courier := { s.courier with pasidOn := true } }.setSlice 0 { s.slice 0 with st := .active }) |> fun (s :
     State) => s.setOh 0 { s.ohChan 0 with rx := [[1#8]] }), 0#12, by decide +kernel⟩,
   ⟨((live |> fun (s : State) => s.setOh (0#12 : BitVec 12).toNat
     { s.ohChan (0#12 : BitVec 12).toNat with tx := ([] : List Byte) :: ([] : List (List Byte)) }) |> fun (s : State)
     =>
     { s.setOtu 0 0 { s.otu 0 0 with present := true, st := .enabled, n := 1, lanes := 1 } with courier := { s.courier with pasidOn := true } }),
     0#12, ([] : List Byte), ([] : List (List Byte)), by decide +kernel⟩,
   ⟨(((live |> fun (s : State) =>
     { s.setOtu 0 0 { s.otu 0 0 with present := true, st := .enabled, n := 1, lanes := 1 } with courier := { s.courier with pasidOn := true } })
     |> fun (s : State) =>
     { s with images := { s.images with act := { s.images.act with st := .rolling, step := 4, sub := 0 } } }) |> fun
     (s : State) => s.setOh 0 { s.ohChan 0 with tx := [[5#8]] }), 0#12, by decide +kernel⟩,
   ⟨((live |> fun (s : State) => s.setOh (0#12 : BitVec 12).toNat
     { s.ohChan (0#12 : BitVec 12).toNat with tx := [] }) |> fun (s : State) =>
     { s.setOtu 0 0 { s.otu 0 0 with present := true, st := .enabled, n := 1, lanes := 1 } with courier := { s.courier with pasidOn := true } }),
     0#12, by decide +kernel⟩,
   ⟨((live |> fun (s : State) => s.setOh (359#12 : BitVec 12).toNat
     { s.ohChan (359#12 : BitVec 12).toNat with txRing := some 0 }) |> fun (s : State) =>
     { s with courier := { s.courier with pasidOn := true } }.setSlice 0 { s.slice 0 with st := .active }), 359#12,
     ([] : List (List Byte)), by decide +kernel⟩⟩

/-- The hypotheses of `Obligations.ClerkPasses` are met. -/
theorem witness_ClerkPasses :
    (∃ (s : State) (k : Nat) (f : TrayFrame) (fs : List TrayFrame), s.pickSlot = some k ∧ s.clerks.tray = f :: fs ∧
      (s.clerks.windows = [] ∨ s.clerks.lastEgress = true)) ∧
    (∃ (s : State) (k : Nat) (q : Packet) (qs : List Packet), s.pickSlot = some k ∧ s.clerks.windows = q :: qs ∧
      (s.clerks.tray = [] ∨ s.clerks.lastEgress = false)) ∧
    (∃ (s : State) (b : Fin 32) (c : Fin 16) (ecc : Bool) (k : Nat), b.val < s.variant.benches ∧ s.readySlot b c =
      some k) ∧
    (∃ (s : State) (b : Fin 32) (c : Fin 16) (ecc : Bool), b.val < s.variant.benches ∧ s.readySlot b c = none) ∧
    (∃ (s : State) (b : Fin 32) (c : Fin 16) (i : Fin 6) (r : Fin 8) (err : Bool) (rowBad : Bool) (waited : Bool)
      (delayed : W32) (d : Dispatch), b.val < s.variant.benches ∧ (s.slotAt (slotKey b c i)).lookups.find? (fun d =>
      d.result = r.val) = some d ∧ s.policerWaits (slotKey b c i) d = false ∧ (s.slotAt (slotKey b c i)).st =
      .retiring) ∧
    (∃ (s : State) (b : Fin 32) (c : Fin 16) (i : Fin 6) (r : Fin 8) (err : Bool) (rowBad : Bool) (waited : Bool)
      (delayed : W32) (d : Dispatch), b.val < s.variant.benches ∧ (s.slotAt (slotKey b c i)).lookups.find? (fun d =>
      d.result = r.val) = some d ∧ s.policerWaits (slotKey b c i) d = true) ∧
    (∃ (s : State) (b : Fin 32) (c : Fin 16) (i : Fin 6) (r : Fin 8) (err : Bool) (rowBad : Bool) (waited : Bool)
      (delayed : W32) (d : Dispatch), b.val < s.variant.benches ∧ (s.slotAt (slotKey b c i)).lookups.find? (fun d =>
      d.result = r.val) = some d ∧ s.policerWaits (slotKey b c i) d = false ∧ (s.slotAt (slotKey b c i)).st ≠
      .retiring) ∧
    (∃ (s : State) (d : Dispatch) (delayed : W32), d.engine ≠ 5 ∧ d.engine ≠ 6) ∧
    (∃ (s : State) (b : Fin 32) (c : Fin 16) (i : Fin 6) (d : Load) (rest : List Load), b.val < s.variant.benches ∧
      (s.slotAt (slotKey b c i)).loads = d :: rest ∧ d.cycle + 3 ≤ s.cycle ∧ (s.slotAt (slotKey b c i)).st ≠ .retiring) ∧
    (∃ (s : State) (b : Fin 32) (c : Fin 16) (i : Fin 6) (d : Load) (rest : List Load), b.val < s.variant.benches ∧
      (s.slotAt (slotKey b c i)).loads = d :: rest ∧ s.cycle < d.cycle + 3) ∧
    (∃ (w : View) (mem : Nat → Nat → Nat) (f : Nat) (base : Nat) (addr : Nat) (n : Nat) (e : Effects), bits f 47 44 ≤
      3 ∧ bits f 43 38 < 56 ∧ w.read (bits f 37 32) none 3 = .ok base ∧ bits f 14 13 = 0 ∧ addr = bits f 31 15 + base
      ∧ n = 2 ^ bits f 47 44 ∧ addr + n ≤ 0x18000 ∧ addr % n = 0 ∧ w.ecc = true) ∧
    (∃ (s : State) (k : Nat) (v : Slot) (ecc : Bool) (mw : W32) (view : View) (x : Trap), v.trap = none ∧ v.issued <
      s.clerks.budget ∧ mw = s.microAt (k / 96) v.micro.toNat ∧ bits mw.toNat 29 16 ≠ 0 ∧ view =
      { slot := v, place := k % 6 + k / 6 % 16 * 8 + k / 96 * 128, uimm := bits mw.toNat 15 0, ns := nsOf s.units, ecc := ecc }
      ∧ view.run (fun a n => Memory.readLe s.clerks.localMem (memBase k + a) n) (s.aclRegs v.epoch.toNat) (s.nanoAt (k
      / 96) (bits mw.toNat 29 16)) = .error x ∧ x.cause ≠ 8) ∧
    (∃ (s : State) (b : Fin 32) (c : Fin 16) (i : Fin 6) (rivals : List Rival) (r : Nat), b.val < s.variant.benches ∧
      (s.slotAt (slotKey b c i)).ended = some (.drop r) ∧ (s.slotAt (slotKey b c i)).st = .retiring ∧ (s.slotAt
      (slotKey b c i)).lookups = [] ∧ (s.slotAt (slotKey b c i)).loads = [] ∧ (s.slotAt (slotKey b c i)).egress =
      false) ∧
    (∃ (s : State) (b : Fin 32) (c : Fin 16) (i : Fin 6) (rivals : List Rival), b.val < s.variant.benches ∧ (s.slotAt
      (slotKey b c i)).ended = some .forward ∧ (s.slotAt (slotKey b c i)).st = .retiring ∧ (s.slotAt (slotKey b c
      i)).lookups = [] ∧ (s.slotAt (slotKey b c i)).loads = [] ∧ (s.slotAt (slotKey b c i)).egress = false) ∧
    (∃ (s : State) (t : State) (p : Fin 192) (f : Finished) (x : Crossing), s.handReady p true = some f ∧ f.load =
      some x ∧ s.sendFlit true x = some t) ∧
    (∃ (s : State) (t : State) (p : Fin 192) (f : Finished) (x : Crossing), s.handReady p false = some f ∧ f.load =
      some x ∧ (3 ≤ s.liveD2d.length ∨ s.egressReady = false) ∧ s.sendFlit true x = some t) :=
  ⟨⟨(((live |> fun (s : State) =>
     { s with clerks := { s.clerks with tray := ({ } : TrayFrame) :: ([] : List TrayFrame) } }) |> fun (s : State) =>
     { s with clerks := { s.clerks with windows := [] } }) |> fun (s : State) => s.setBench 0
     { s.bench 0 with st := .live }), 0, ({ } : TrayFrame), ([] : List TrayFrame), by decide +kernel⟩,
   ⟨(((live |> fun (s : State) =>
     { s with clerks := { s.clerks with windows := ({ } : Packet) :: ([] : List Packet) } }) |> fun (s : State) =>
     { s with clerks := { s.clerks with tray := [] } }) |> fun (s : State) => s.setBench 0
     { s.bench 0 with st := .live }), 0, ({ } : Packet), ([] : List Packet), by decide +kernel⟩,
   ⟨(live |> fun (s : State) => s.setSlot (slotKey 0 0 1) { s.slotAt 1 with st := .ready }), (0 : Fin 32), (0 : Fin
     16), false, 1, by decide +kernel⟩,
   ⟨live, (0 : Fin 32), (0 : Fin 16), false, by decide +kernel⟩,
   ⟨((live |> fun (s : State) => s.setSlot (slotKey (0 : Fin 32) (0 : Fin 16) (0 : Fin 6))
     { s.slotAt (slotKey (0 : Fin 32) (0 : Fin 16) (0 : Fin 6)) with st := .retiring }) |> fun (s : State) =>
     s.setSlot (slotKey (0 : Fin 32) (0 : Fin 16) (0 : Fin 6))
     { s.slotAt (slotKey (0 : Fin 32) (0 : Fin 16) (0 : Fin 6)) with lookups := [({ } : Dispatch)] }), (0 : Fin 32),
     (0 : Fin 16), (0 : Fin 6), (0 : Fin 8), false, false, false, 0#32, ({ } : Dispatch), by decide +kernel⟩,
   ⟨((live |> fun (s : State) => s.setSlot 0 { s.slotAt 0 with lookups := [({ engine := 7 } : Dispatch)] }) |> fun
     (s : State) => s.setSlot (slotKey (1 : Fin 32) (0 : Fin 16) (0 : Fin 6))
     { s.slotAt (slotKey (1 : Fin 32) (0 : Fin 16) (0 : Fin 6)) with lookups := [({ engine := 7 } : Dispatch)] }), (1
     : Fin 32), (0 : Fin 16), (0 : Fin 6), (0 : Fin 8), false, false, false, 0#32, ({ engine := 7 } : Dispatch),
     by decide +kernel⟩,
   ⟨(live |> fun (s : State) => s.setSlot (slotKey (0 : Fin 32) (0 : Fin 16) (0 : Fin 6))
     { s.slotAt (slotKey (0 : Fin 32) (0 : Fin 16) (0 : Fin 6)) with lookups := [({ } : Dispatch)] }), (0 : Fin 32),
     (0 : Fin 16), (0 : Fin 6), (0 : Fin 8), false, false, false, 0#32, ({ } : Dispatch), by decide +kernel⟩,
   ⟨live, ({ } : Dispatch), 0#32, by decide +kernel⟩,
   ⟨(live |> fun (s : State) => s.setSlot (slotKey (0 : Fin 32) (0 : Fin 16) (0 : Fin 6))
     { s.slotAt (slotKey (0 : Fin 32) (0 : Fin 16) (0 : Fin 6)) with loads := ({ } : Load) :: ([] : List Load) }), (0
     : Fin 32), (0 : Fin 16), (0 : Fin 6), ({ } : Load), ([] : List Load), by decide +kernel⟩,
   ⟨(live |> fun (s : State) => s.setSlot (slotKey (0 : Fin 32) (0 : Fin 16) (0 : Fin 6))
     { s.slotAt (slotKey (0 : Fin 32) (0 : Fin 16) (0 : Fin 6)) with loads := ({ cycle := 2 ^ 80 } : Load) :: ([] : List Load) }),
     (0 : Fin 32), (0 : Fin 16), (0 : Fin 6), ({ cycle := 2 ^ 80 } : Load), ([] : List Load), by decide +kernel⟩,
   ⟨({ slot := {}, place := 0, uimm := 0, ns := 0, ecc := true } : View), (fun _ _ => 0), 0, 0, _, _, ({ } :
     Effects), by decide +kernel, by decide +kernel, rfl, by decide +kernel, rfl, rfl, by decide +kernel, rfl,
     by decide +kernel⟩,
   ⟨trapping, 0, ({ micro := 0x40#16 } : Slot), false, 0x10000#32, trapView, (⟨1, 0, 0⟩), by decide +kernel,
     by decide +kernel, by decide +kernel, by decide +kernel, rfl, run_traps _ _ (by decide +kernel),
     by decide +kernel⟩,
   ⟨(live |> fun (s : State) => s.setSlot (slotKey (0 : Fin 32) (0 : Fin 16) (0 : Fin 6))
     { s.slotAt (slotKey (0 : Fin 32) (0 : Fin 16) (0 : Fin 6)) with ended := some (.drop (0 : Nat)), st := .retiring, lookups := [], loads := [], egress := false }),
     (0 : Fin 32), (0 : Fin 16), (0 : Fin 6), ([] : List Rival), 0, by decide +kernel⟩,
   ⟨(live |> fun (s : State) => s.setSlot (slotKey (0 : Fin 32) (0 : Fin 16) (0 : Fin 6))
     { s.slotAt (slotKey (0 : Fin 32) (0 : Fin 16) (0 : Fin 6)) with ended := some .forward, st := .retiring, lookups := [], loads := [], egress := false }),
     (0 : Fin 32), (0 : Fin 16), (0 : Fin 6), ([] : List Rival), by decide +kernel⟩,
   ⟨((live |> fun (s : State) => { s with d2d := { s.d2d with links := [(0, { up := true })] } }) |> fun (s : State)
     =>
     { s with clerks := { s.clerks with finished := [({ egress := true, load := some (.transmit {}) } : Finished)] } }),
     (((((live |> fun (s : State) => { s with d2d := { s.d2d with links := [(0, { up := true })] } }) |> fun (s :
     State) =>
     { s with clerks := { s.clerks with finished := [({ egress := true, load := some (.transmit {}) } : Finished)] } })
     : State).sendFlit true ((.transmit {}) : Crossing)).getD live), (0 : Fin 192),
     ({ egress := true, load := some (.transmit {}) } : Finished), (.transmit {}), by decide +kernel⟩,
   ⟨((live |> fun (s : State) => { s with d2d := { s.d2d with links := [(0, { up := true })] } }) |> fun (s : State)
     =>
     { s with clerks := { s.clerks with finished := [({ egress := false, load := some (.ingress {}) } : Finished)] } }),
     (((((live |> fun (s : State) => { s with d2d := { s.d2d with links := [(0, { up := true })] } }) |> fun (s :
     State) =>
     { s with clerks := { s.clerks with finished := [({ egress := false, load := some (.ingress {}) } : Finished)] } })
     : State).sendFlit true ((.ingress {}) : Crossing)).getD live), (0 : Fin 192),
     ({ egress := false, load := some (.ingress {}) } : Finished), (.ingress {}), by decide +kernel⟩⟩

/-- The hypotheses of `Obligations.BenchReload` are met. -/
theorem witness_BenchReload :
    (∃ (s : State) (b : Fin 32), (s.bench b).live = true ∧ (s.bench b).enabled = true ∧ (s.bench b).st ≠ .waiting ∧
      s.pageDue (s.bench b).page = .switch ∧ s.clerks.reloading = none) ∧
    (∃ (s : State) (b : Fin 32) (o : Nat), (s.bench b).live = true ∧ (s.bench b).enabled = true ∧ (s.bench b).st =
      .live ∧ s.pageDue (s.bench b).page = .switch ∧ s.clerks.reloading = some o) ∧
    (∃ (s : State) (b : Fin 32), (s.bench b).st = .draining ∧ s.busyBench b = 0 ∧ (s.bench b).drain = .load ∧
      s.clerks.reloading = some b.val) ∧
    (∃ (s : State) (b : Fin 32), (s.bench b).st = .draining ∧ s.busyBench b = 0 ∧ (s.bench b).drain = .disable) ∧
    (∃ (s : State) (b : Fin 32), (s.bench b).st = .reloading ∧ (s.bench b).drain = .load) ∧
    (∃ (s : State) (b : Fin 32) (c : Fin 16) (i : Fin 6), b.val < s.variant.benches ∧ (s.bench b).st = .live ∧
      (s.bench b).live = true ∧ (s.slotAt (slotKey b c i)).st = .free ∧ (s.bench b).lastError = none) ∧
    (∃ (s : State) (b : Fin 32) (c : Fin 16) (i : Fin 6) (t : Nat), b.val < s.variant.benches ∧ (s.bench b).st =
      .live ∧ (s.slotAt (slotKey b c i)).st = .free ∧ (s.bench b).lastError = some t ∧ s.up ≤ t + 1000000000) ∧
    (∃ (s : State) (l : LetterId) (bench : W32), Claimed s l 0x0609 [p4 bench] ∧ bench.toNat < s.variant.benches ∧
      (s.bench bench.toNat).st = .off ∧ (s.bench bench.toNat).rollout = false) ∧
    (∃ (s : State) (l : LetterId) (bench : W32), Claimed s l 0x060A [p4 bench] ∧ bench.toNat < s.variant.benches ∧
      (s.bench bench.toNat).live = true ∧ (s.bench bench.toNat).st ≠ .off ∧ (List.range s.variant.benches).any (fun i
      => i ≠ bench.toNat && (s.bench i).live) = true) :=
  ⟨⟨(((live |> fun (s : State) => { s with clerks := { s.clerks with reloading := none } }) |> fun (s : State) =>
     s.setBench (0 : Fin 32) { s.bench (0 : Fin 32) with enabled := true }) |> fun (s : State) => s.setBench (0 : Fin
     32) { s.bench (0 : Fin 32) with st := .live, page := { state := .armed } }), (0 : Fin 32), by decide +kernel⟩,
   ⟨(((live |> fun (s : State) => { s with clerks := { s.clerks with reloading := some (0 : Nat) } }) |> fun (s :
     State) => s.setBench (0 : Fin 32) { s.bench (0 : Fin 32) with enabled := true, st := .live }) |> fun (s : State)
     => s.setBench (0 : Fin 32) { s.bench (0 : Fin 32) with st := .live, page := { state := .armed } }), (0 : Fin 32),
     0, by decide +kernel⟩,
   ⟨((live |> fun (s : State) => { s with clerks := { s.clerks with reloading := some (0 : Fin 32).val } }) |> fun
     (s : State) => s.setBench (0 : Fin 32) { s.bench (0 : Fin 32) with st := .draining, drain := .load }), (0 : Fin
     32), by decide +kernel⟩,
   ⟨(live |> fun (s : State) => s.setBench (0 : Fin 32)
     { s.bench (0 : Fin 32) with st := .draining, drain := .disable }), (0 : Fin 32), by decide +kernel⟩,
   ⟨(live |> fun (s : State) => s.setBench (0 : Fin 32)
     { s.bench (0 : Fin 32) with st := .reloading, drain := .load }), (0 : Fin 32), by decide +kernel⟩,
   ⟨((live |> fun (s : State) => s.setBench (0 : Fin 32)
     { s.bench (0 : Fin 32) with st := .live, lastError := none }) |> fun (s : State) => s.setSlot (slotKey (0 : Fin
     32) (0 : Fin 16) (0 : Fin 6)) { s.slotAt (slotKey (0 : Fin 32) (0 : Fin 16) (0 : Fin 6)) with st := .free }), (0
     : Fin 32), (0 : Fin 16), (0 : Fin 6), by decide +kernel⟩,
   ⟨((live |> fun (s : State) => s.setBench (0 : Fin 32)
     { s.bench (0 : Fin 32) with st := .live, lastError := some (999999000000000 : Nat) }) |> fun (s : State) =>
     s.setSlot (slotKey (0 : Fin 32) (0 : Fin 16) (0 : Fin 6))
     { s.slotAt (slotKey (0 : Fin 32) (0 : Fin 16) (0 : Fin 6)) with st := .free }), (0 : Fin 32), (0 : Fin 16), (0 :
     Fin 6), 999999000000000, by decide +kernel⟩,
   ⟨(claimOn (live |> fun (s : State) => s.setBench (0#32 : W32).toNat
     { s.bench (0#32 : W32).toNat with st := .off, rollout := false }) (⟨0, 1#32⟩ : LetterId) 0x0609 [p4 (0#32 :
     W32)]), (⟨0, 1#32⟩ : LetterId), 0#32, by unfold Claimed; decide +kernel⟩,
   ⟨(claimOn ((live |> fun (s : State) => s.setBench 0 { s.bench 0 with st := .live }) |> fun (s : State) =>
     s.setBench 1 { s.bench 1 with st := .live }) (⟨0, 1#32⟩ : LetterId) 0x060A [p4 (0#32 : W32)]), (⟨0, 1#32⟩ :
     LetterId), 0#32, by unfold Claimed; decide +kernel⟩⟩

/-- The hypotheses of `Obligations.StoreLetters` are met. -/
theorem witness_StoreLetters :
    (∃ (s : State) (l : LetterId) (mode : W32), Claimed s l 0x0601 [p4 mode] ∧ mode.toNat ≤ 1 ∧ s.benchesMoving =
      false) ∧
    (∃ (s : State) (l : LetterId) (benches : W32) (start : W32) (words : ListArg W32) (ws : List W32), Claimed s l
      0x0602 [p4 benches, p4 start, pL words] ∧ 0x40 ≤ start.toNat ∧ start.toNat ≤ 0xFFFF ∧ 1 ≤ words.count.toNat ∧
      start.toNat + words.count.toNat ≤ 0x10000 ∧ (benchList benches).any (fun b => decide (s.variant.benches ≤ b)) =
      false ∧ (benchList benches).any (fun b => (s.bench b).page.state.fixed) = false ∧ s.clerks.modeP = false ∧
      words.items = some ws) ∧
    (∃ (s : State) (l : LetterId) (benches : W32) (start : W32) (words : ListArg (BitVec 256)) (ws : List (BitVec
      256)), Claimed s l 0x0603 [p4 benches, p4 start, pL words] ∧ 1 ≤ start.toNat ∧ start.toNat ≤ 0x3FFF ∧ 1 ≤
      words.count.toNat ∧ start.toNat + words.count.toNat ≤ 0x4000 ∧ (benchList benches).any (fun b => decide
      (s.variant.benches ≤ b)) = false ∧ (benchList benches).any (fun b => (s.bench b).page.state.fixed) = false ∧
      s.clerks.modeP = false ∧ words.items = some ws) ∧
    (∃ (s : State) (l : LetterId) (benches : W32) (micro : ListArg W32) (nano : ListArg (BitVec 256)) (regs : ListArg
      W32) (level : W32) (m : List W32) (n : List (BitVec 256)) (r : List W32), Claimed s l 0x0604 [p4 benches, pL
      micro, pL nano, pL regs, p4 level] ∧ micro.count.toNat ≤ 1024 ∧ nano.count.toNat ≤ 512 ∧ regs.count.toNat = 64 ∧
      level.toNat ≤ 255 ∧ (benchList benches).any (fun b => decide (s.variant.benches ≤ b)) = false ∧ (benchList
      benches).any (fun b => (s.bench b).page.state.fixed) = false ∧ s.clerks.modeP = true ∧ micro.items = some m ∧
      nano.items = some n ∧ regs.items = some r) ∧
    (∃ (s : State) (l : LetterId) (benches : W32) (bank : W32), Claimed s l 0x0605 [p4 benches, p4 bank] ∧ bank.toNat
      ≤ 1 ∧ (benchList benches).any (fun b => decide (s.variant.benches ≤ b)) = false ∧ s.benchesMoving = false ∧
      (benchList benches).any (fun b => (s.bench b).page.state.fixed) = false ∧ s.bankState (if s.clerks.modeP then 2
      else 1) (decide (bank = 1#32)) = .verified) ∧
    (∃ (s : State) (l : LetterId) (benches : W32) (version : W32), Claimed s l 0x0606 [p4 benches, p4 version] ∧
      (benchList benches).any (fun b => (s.bench b).stagedP && s.twoMatch b) = false ∧ (benchList benches).any (fun b
      => decide (s.variant.benches ≤ b)) = false ∧ (benchList benches).any (fun b => (s.bench b).page.state ≠ .loading
      && (s.bench b).page.state ≠ .loaded) = false) ∧
    (∃ (s : State) (l : LetterId) (benches : W32) (at' : TimeParam) (spacing : W64), Claimed s l 0x0607 [p4 benches,
      pT at', p8 spacing] ∧ badTime at' = false ∧ farTime s at' = false ∧ pastTime s at' = false ∧ (benchList
      benches).any (fun b => decide (s.variant.benches ≤ b)) = false ∧ s.benchesMoving = false ∧ (benchList
      benches).any (fun b => (s.bench b).page.state ≠ .loaded) = false ∧ (benchList benches).any (fun b =>
      !s.compatible (s.bench b).stagedVersion.toNat (s.bench b).stagedVersion.toNat) = false ∧ 200000 ≤ spacing.toNat
      ∧ spacing.toNat ≤ 100000000) ∧
    (∃ (s : State) (l : LetterId) (benches : W32), Claimed s l 0x0608 [p4 benches] ∧ (benchList benches).any (fun b
      => decide (s.variant.benches ≤ b)) = false ∧ (benchList benches).all (fun b => (s.bench b).page.state.fixed &&
      !(((s.bench b).st = .draining || (s.bench b).st = .reloading) && (s.bench b).drain = .load)) = true) ∧
    (∃ (s : State) (l : LetterId) (budget : W32), Claimed s l 0x060B [p4 budget] ∧ 256 ≤ budget.toNat ∧ budget.toNat
      ≤ 16384) ∧
    (∃ (s : State) (l : LetterId) (clerk : W32) (offset : W32) (size : W64) (data : BitVec 512), Claimed s l 0x060C
      [p4 clerk, p4 offset, p8 size, pLe data.toNat 64] ∧ clerk.toNat < 16 * s.variant.benches ∧ s.variant.benches ≤
      32 ∧ 1 ≤ size.toNat ∧ size.toNat ≤ 64 ∧ offset.toNat + size.toNat ≤ 0x18000) :=
  ⟨⟨(claimOn live (⟨0, 1#32⟩ : LetterId) 0x0601 [p4 (1#32 : W32)]), (⟨0, 1#32⟩ : LetterId), 1#32,
     by unfold Claimed; decide +kernel⟩,
   ⟨(claimOn (live |> fun (s : State) => { s with clerks := { s.clerks with modeP := false } }) (⟨0, 1#32⟩ :
     LetterId) 0x0602 [p4 (0#32 : W32), p4 (64#32 : W32), pL (⟨0#64, 1#32, some ([] : List W32)⟩ : ListArg W32)]),
     (⟨0, 1#32⟩ : LetterId), 0#32, 64#32, (⟨0#64, 1#32, some ([] : List W32)⟩ : ListArg W32), ([] : List W32),
     by unfold Claimed; decide +kernel⟩,
   ⟨(claimOn (live |> fun (s : State) => { s with clerks := { s.clerks with modeP := false } }) (⟨0, 1#32⟩ :
     LetterId) 0x0603 [p4 (0#32 : W32), p4 (1#32 : W32), pL (⟨0#64, 1#32, some ([] : List (BitVec 256))⟩ : ListArg
     (BitVec 256))]), (⟨0, 1#32⟩ : LetterId), 0#32, 1#32, (⟨0#64, 1#32, some ([] : List (BitVec 256))⟩ : ListArg
     (BitVec 256)), ([] : List (BitVec 256)), by unfold Claimed; decide +kernel⟩,
   ⟨(claimOn (live |> fun (s : State) => { s with clerks := { s.clerks with modeP := true } }) (⟨0, 1#32⟩ :
     LetterId) 0x0604 [p4 (0#32 : W32), pL (⟨0#64, 1#32, some ([] : List W32)⟩ : ListArg W32), pL (⟨0#64, 1#32, some
     ([] : List (BitVec 256))⟩ : ListArg (BitVec 256)), pL (⟨0#64, 64#32, some ([] : List W32)⟩ : ListArg W32), p4
     (255#32 : W32)]), (⟨0, 1#32⟩ : LetterId), 0#32, (⟨0#64, 1#32, some ([] : List W32)⟩ : ListArg W32), (⟨0#64, 1#32,
     some ([] : List (BitVec 256))⟩ : ListArg (BitVec 256)), (⟨0#64, 64#32, some ([] : List W32)⟩ : ListArg W32),
     255#32, ([] : List W32), ([] : List (BitVec 256)), ([] : List W32), by unfold Claimed; decide +kernel⟩,
   ⟨(claimOn ((live |> fun (s : State) => s.setBank 2 true { s.bank 2 true with st := .verified }) |> fun (s :
     State) => s.setBank 1 true { s.bank 1 true with st := .verified }) (⟨0, 1#32⟩ : LetterId) 0x0605 [p4 (0#32 :
     W32), p4 (1#32 : W32)]), (⟨0, 1#32⟩ : LetterId), 0#32, 1#32, by unfold Claimed; decide +kernel⟩,
   ⟨(claimOn live (⟨0, 1#32⟩ : LetterId) 0x0606 [p4 (0#32 : W32), p4 (0#32 : W32)]), (⟨0, 1#32⟩ : LetterId), 0#32,
     0#32, by unfold Claimed; decide +kernel⟩,
   ⟨(claimOn live (⟨0, 1#32⟩ : LetterId) 0x0607 [p4 (0#32 : W32), pT (0#128 : TimeParam), p8 (200000#64 : W64)]),
     (⟨0, 1#32⟩ : LetterId), 0#32, 0#128, 200000#64, by unfold Claimed; decide +kernel⟩,
   ⟨(claimOn live (⟨0, 1#32⟩ : LetterId) 0x0608 [p4 (0#32 : W32)]), (⟨0, 1#32⟩ : LetterId), 0#32,
     by unfold Claimed; decide +kernel⟩,
   ⟨(claimOn live (⟨0, 1#32⟩ : LetterId) 0x060B [p4 (256#32 : W32)]), (⟨0, 1#32⟩ : LetterId), 256#32,
     by unfold Claimed; decide +kernel⟩,
   ⟨(claimOn live (⟨0, 1#32⟩ : LetterId) 0x060C [p4 (0#32 : W32), p4 (0#32 : W32), p8 (1#64 : W64), pLe (0#512 :
     BitVec 512).toNat 64]), (⟨0, 1#32⟩ : LetterId), 0#32, 0#32, 1#64, 0#512, by unfold Claimed; decide +kernel⟩⟩

/-- The hypotheses of `Obligations.TableAndBlockLetters` are met. -/
theorem witness_TableAndBlockLetters :
    (∃ (s : State) (l : LetterId) (a : RouteArgs), Claimed s l 0x0701 [p4 a.vrf, p4 a.family, pBe a.pfx.toNat 16, p4
      a.plen, p4 a.kind, p4 a.target, p4 a.user] ∧ NamesPending s l ∧ StagesTo s
      { s with lookup := { s.lookup with fib := stageVer (prefixKey a.vrf a.family a.pfx a.plen) (some { kind := a.kind.toNat, target := a.target.toNat, user := a.user.toNat }) s.lookup.fib } }
      l.slice.val (.routeAdd a)) ∧
    (∃ (s : State) (l : LetterId) (vrf : W32) (family : W32) (pfx : Ip) (plen : W32), Claimed s l 0x0702 [p4 vrf, p4
      family, pBe pfx.toNat 16, p4 plen] ∧ NamesPending s l ∧ StagesTo s
      { s with lookup := { s.lookup with fib := stageVer (prefixKey vrf family pfx plen) none s.lookup.fib } }
      l.slice.val (.routeDelete vrf family pfx plen)) ∧
    (∃ (s : State) (l : LetterId) (type : W32) (key : BitVec 256) (result : W64), Claimed s l 0x0801 [p4 type, pBe
      key.toNat 32, p8 result] ∧ NamesPending s l ∧ StagesTo s
      { s with lookup := { s.lookup with exact := stageVer (type.toNat, key) (some { kind := bits result.toNat 21 20, target := bits result.toNat 19 0, user := bits result.toNat 47 32, raw := BitVec.ofNat 48 result.toNat }) s.lookup.exact } }
      l.slice.val (.exactAdd type key result)) ∧
    (∃ (s : State) (l : LetterId) (type : W32) (key : BitVec 256), Claimed s l 0x0802 [p4 type, pBe key.toNat 32] ∧
      NamesPending s l ∧ StagesTo s
      { s with lookup := { s.lookup with exact := stageVer (type.toNat, key) none s.lookup.exact } } l.slice.val
      (.exactDelete type key)) ∧
    (∃ (s : State) (l : LetterId) (nh : W32) (voq : W32) (port : W32) (module : W32) (encap : W32), Claimed s l
      0x0803 [p4 nh, p4 voq, p4 port, p4 module, p4 encap] ∧ NamesPending s l ∧ StagesTo s
      { s with lookup := { s.lookup with nh := stageVer nh.toNat (some { voqBase := voq.toNat, port := port.toNat, module := module.toNat, encap := encap }) s.lookup.nh } }
      l.slice.val (.nhWrite nh voq port module encap)) ∧
    (∃ (s : State) (l : LetterId) (nh : W32), Claimed s l 0x0804 [p4 nh] ∧ NamesPending s l ∧ StagesTo s
      { s with lookup := { s.lookup with nh := stageVer nh.toNat none s.lookup.nh } } l.slice.val (.nhDelete nh)) ∧
    (∃ (s : State) (l : LetterId) (group : W32) (mode : W32) (members : ListArg W32) (ms : List W32), Claimed s l
      0x0805 [p4 group, p4 mode, pL members] ∧ NamesPending s l ∧ members.items = some ms ∧ StagesTo s
      { s with lookup := { s.lookup with ecmp := stageVer group.toNat (some { resilient := decide (mode = 1#32), members := ms.map (·.toNat) }) s.lookup.ecmp } }
      l.slice.val (.ecmpWrite group mode members)) ∧
    (∃ (s : State) (l : LetterId) (group : W32), Claimed s l 0x0806 [p4 group] ∧ NamesPending s l ∧ StagesTo s
      { s with lookup := { s.lookup with ecmp := stageVer group.toNat none s.lookup.ecmp } } l.slice.val (.ecmpDelete
      group)) ∧
    (∃ (s : State) (t : State) (l : LetterId) (records : ListArg TableRecord) (crc : W32) (rs : List TableRecord),
      Claimed s l 0x0703 [pL records, p4 crc] ∧ BlockStages s t l 7 records rs crc) ∧
    (∃ (s : State) (t : State) (l : LetterId) (records : ListArg TableRecord) (crc : W32) (rs : List TableRecord),
      Claimed s l 0x0808 [pL records, p4 crc] ∧ BlockStages s t l 8 records rs crc) ∧
    (∃ (s : State) (t : State) (l : LetterId) (records : ListArg TableRecord) (crc : W32) (rs : List TableRecord),
      Claimed s l 0x0907 [pL records, p4 crc] ∧ BlockStages s t l 9 records rs crc) ∧
    (∃ (s : State) (t : State) (l : LetterId) (r : TableRecord), Claimed s l (itemLetter r).1 (itemLetter r).2 ∧
      (s.entry l).all (fun e => e.epoch.isNone) = true ∧ s.epoch.pending = none ∧ s.epoch.releasing = none ∧ firstFail
      (s.itemSix r) = none ∧ firstFail (s.itemSeven l.slice.val r) = none ∧ firstFail (s.itemEight r) = none ∧
      StagesTo (s.openEpoch (s.epoch.current + 1#16)) t l.slice.val r ∧ ((s.openEpoch (s.epoch.current +
      1#16)).itemApplied r).2 = none) :=
  ⟨⟨((claimOn live (⟨0, 1#32⟩ : LetterId) 0x0701 [p4
     ({ vrf := 65535#32, family := 4#32, pfx := 0xC0A80000#128, plen := 16#32, kind := 3#32, target := 0#32, user := 7#32 }
     : RouteArgs).vrf, p4
     ({ vrf := 65535#32, family := 4#32, pfx := 0xC0A80000#128, plen := 16#32, kind := 3#32, target := 0#32, user := 7#32 }
     : RouteArgs).family, pBe
     ({ vrf := 65535#32, family := 4#32, pfx := 0xC0A80000#128, plen := 16#32, kind := 3#32, target := 0#32, user := 7#32 }
     : RouteArgs).pfx.toNat 16, p4
     ({ vrf := 65535#32, family := 4#32, pfx := 0xC0A80000#128, plen := 16#32, kind := 3#32, target := 0#32, user := 7#32 }
     : RouteArgs).plen, p4
     ({ vrf := 65535#32, family := 4#32, pfx := 0xC0A80000#128, plen := 16#32, kind := 3#32, target := 0#32, user := 7#32 }
     : RouteArgs).kind, p4
     ({ vrf := 65535#32, family := 4#32, pfx := 0xC0A80000#128, plen := 16#32, kind := 3#32, target := 0#32, user := 7#32 }
     : RouteArgs).target, p4
     ({ vrf := 65535#32, family := 4#32, pfx := 0xC0A80000#128, plen := 16#32, kind := 3#32, target := 0#32, user := 7#32 }
     : RouteArgs).user]) |> fun (s : State) => naming s (⟨0, 1#32⟩ : LetterId)), (⟨0, 1#32⟩ : LetterId),
     ({ vrf := 65535#32, family := 4#32, pfx := 0xC0A80000#128, plen := 16#32, kind := 3#32, target := 0#32, user := 7#32 }
     : RouteArgs), by unfold Claimed NamesPending StagesTo; decide +kernel⟩,
   ⟨(((claimOn live (⟨0, 1#32⟩ : LetterId) 0x0702 [p4 (65535#32 : W32), p4 (4#32 : W32), pBe (0xC0A80000#128 :
     Ip).toNat 16, p4 (16#32 : W32)]) |> fun (s : State) => (s.stageItem (.routeAdd
     { vrf := 65535#32, family := 4#32, pfx := 0xC0A80000#128, plen := 16#32, kind := 3#32, target := 0#32, user := 7#32 })).getD
     s) |> fun (s : State) => naming s (⟨0, 1#32⟩ : LetterId)), (⟨0, 1#32⟩ : LetterId), 65535#32, 4#32,
     0xC0A80000#128, 16#32, by unfold Claimed NamesPending StagesTo; decide +kernel⟩,
   ⟨((claimOn live (⟨0, 1#32⟩ : LetterId) 0x0801 [p4 (5#32 : W32), pBe (1#256 : BitVec 256).toNat 32, p8
     (0xFFFFFFFFFFFF#64 : W64)]) |> fun (s : State) => naming s (⟨0, 1#32⟩ : LetterId)), (⟨0, 1#32⟩ : LetterId), 5#32,
     1#256, 0xFFFFFFFFFFFF#64, by unfold Claimed NamesPending StagesTo; decide +kernel⟩,
   ⟨(((claimOn live (⟨0, 1#32⟩ : LetterId) 0x0802 [p4 (5#32 : W32), pBe (1#256 : BitVec 256).toNat 32]) |> fun (s :
     State) => (s.stageItem (.exactAdd 5#32 1#256 1#64)).getD s) |> fun (s : State) => naming s (⟨0, 1#32⟩ :
     LetterId)), (⟨0, 1#32⟩ : LetterId), 5#32, 1#256, by unfold Claimed NamesPending StagesTo; decide +kernel⟩,
   ⟨((claimOn live (⟨0, 1#32⟩ : LetterId) 0x0803 [p4 (1048575#32 : W32), p4 (0#32 : W32), p4 (191#32 : W32), p4
     (127#32 : W32), p4 (0#32 : W32)]) |> fun (s : State) => naming s (⟨0, 1#32⟩ : LetterId)), (⟨0, 1#32⟩ : LetterId),
     1048575#32, 0#32, 191#32, 127#32, 0#32, by unfold Claimed NamesPending StagesTo; decide +kernel⟩,
   ⟨(((claimOn live (⟨0, 1#32⟩ : LetterId) 0x0804 [p4 (5#32 : W32)]) |> fun (s : State) => (s.stageItem (.nhWrite
     5#32 8#32 191#32 127#32 9#32)).getD s) |> fun (s : State) => naming s (⟨0, 1#32⟩ : LetterId)), (⟨0, 1#32⟩ :
     LetterId), 5#32, by unfold Claimed NamesPending StagesTo; decide +kernel⟩,
   ⟨(((claimOn live (⟨0, 1#32⟩ : LetterId) 0x0805 [p4 (65535#32 : W32), p4 (0#32 : W32), pL (⟨0#64, 1#32, some
     ([5#32] : List W32)⟩ : ListArg W32)]) |> fun (s : State) => (s.stageItem (.nhWrite 5#32 8#32 191#32 127#32
     9#32)).getD s) |> fun (s : State) => naming s (⟨0, 1#32⟩ : LetterId)), (⟨0, 1#32⟩ : LetterId), 65535#32, 0#32,
     (⟨0#64, 1#32, some ([5#32] : List W32)⟩ : ListArg W32), ([5#32] : List W32),
     by unfold Claimed NamesPending StagesTo; decide +kernel⟩,
   ⟨((((claimOn live (⟨0, 1#32⟩ : LetterId) 0x0806 [p4 (7#32 : W32)]) |> fun (s : State) => (s.stageItem (.nhWrite
     5#32 8#32 191#32 127#32 9#32)).getD s) |> fun (s : State) => (s.stageItem (.ecmpWrite 7#32 0#32 ⟨0#64, 1#32, some
     [5#32]⟩)).getD s) |> fun (s : State) => naming s (⟨0, 1#32⟩ : LetterId)), (⟨0, 1#32⟩ : LetterId), 7#32,
     by unfold Claimed NamesPending StagesTo; decide +kernel⟩,
   ⟨((claimOn live (⟨0, 1#32⟩ : LetterId) 0x0703 [pL (⟨0#64, 1#32, some [.routeAdd
     { vrf := 65535#32, family := 4#32, pfx := 0xC0A80000#128, plen := 16#32, kind := 3#32, target := 0#32, user := 7#32 }]⟩
     : ListArg TableRecord), p4 ((BitVec.ofNat 32 (crc32c 0xFFFFFFFF (recordBytes (.routeAdd
     { vrf := 65535#32, family := 4#32, pfx := 0xC0A80000#128, plen := 16#32, kind := 3#32, target := 0#32, user := 7#32 }))))
     : W32)]) |> fun (s : State) => naming s (⟨0, 1#32⟩ : LetterId)), ((stageAll [.routeAdd
     { vrf := 65535#32, family := 4#32, pfx := 0xC0A80000#128, plen := 16#32, kind := 3#32, target := 0#32, user := 7#32 }]
     (((claimOn live (⟨0, 1#32⟩ : LetterId) 0x0703 [pL (⟨0#64, 1#32, some [.routeAdd
     { vrf := 65535#32, family := 4#32, pfx := 0xC0A80000#128, plen := 16#32, kind := 3#32, target := 0#32, user := 7#32 }]⟩
     : ListArg TableRecord), p4 ((BitVec.ofNat 32 (crc32c 0xFFFFFFFF (recordBytes (.routeAdd
     { vrf := 65535#32, family := 4#32, pfx := 0xC0A80000#128, plen := 16#32, kind := 3#32, target := 0#32, user := 7#32 }))))
     : W32)]) |> fun (s : State) => naming s (⟨0, 1#32⟩ : LetterId)) : State)).getD live), (⟨0, 1#32⟩ : LetterId),
     (⟨0#64, 1#32, some [.routeAdd
     { vrf := 65535#32, family := 4#32, pfx := 0xC0A80000#128, plen := 16#32, kind := 3#32, target := 0#32, user := 7#32 }]⟩
     : ListArg TableRecord), (BitVec.ofNat 32 (crc32c 0xFFFFFFFF (recordBytes (.routeAdd
     { vrf := 65535#32, family := 4#32, pfx := 0xC0A80000#128, plen := 16#32, kind := 3#32, target := 0#32, user := 7#32 })))),
     ([.routeAdd
     { vrf := 65535#32, family := 4#32, pfx := 0xC0A80000#128, plen := 16#32, kind := 3#32, target := 0#32, user := 7#32 }]
     : List TableRecord), by unfold Claimed BlockStages NamesPending; decide +kernel⟩,
   ⟨((claimOn live (⟨0, 1#32⟩ : LetterId) 0x0808 [pL (⟨0#64, 1#32, some [.nhWrite 5#32 8#32 191#32 127#32 9#32]⟩ :
     ListArg TableRecord), p4 ((BitVec.ofNat 32 (crc32c 0xFFFFFFFF (recordBytes (.nhWrite 5#32 8#32 191#32 127#32
     9#32)))) : W32)]) |> fun (s : State) => naming s (⟨0, 1#32⟩ : LetterId)), ((stageAll [.nhWrite 5#32 8#32 191#32
     127#32 9#32] (((claimOn live (⟨0, 1#32⟩ : LetterId) 0x0808 [pL (⟨0#64, 1#32, some [.nhWrite 5#32 8#32 191#32
     127#32 9#32]⟩ : ListArg TableRecord), p4 ((BitVec.ofNat 32 (crc32c 0xFFFFFFFF (recordBytes (.nhWrite 5#32 8#32
     191#32 127#32 9#32)))) : W32)]) |> fun (s : State) => naming s (⟨0, 1#32⟩ : LetterId)) : State)).getD live), (⟨0,
     1#32⟩ : LetterId), (⟨0#64, 1#32, some [.nhWrite 5#32 8#32 191#32 127#32 9#32]⟩ : ListArg TableRecord),
     (BitVec.ofNat 32 (crc32c 0xFFFFFFFF (recordBytes (.nhWrite 5#32 8#32 191#32 127#32 9#32)))), ([.nhWrite 5#32 8#32
     191#32 127#32 9#32] : List TableRecord), by unfold Claimed BlockStages NamesPending; decide +kernel⟩,
   ⟨((claimOn live (⟨0, 1#32⟩ : LetterId) 0x0907 [pL (⟨0#64, 1#32, some [.aclWrite 1#32 3#32 0#640 0#640 1#64]⟩ :
     ListArg TableRecord), p4 ((BitVec.ofNat 32 (crc32c 0xFFFFFFFF (recordBytes (.aclWrite 1#32 3#32 0#640 0#640
     1#64)))) : W32)]) |> fun (s : State) => naming s (⟨0, 1#32⟩ : LetterId)), ((stageAll [.aclWrite 1#32 3#32 0#640
     0#640 1#64] (((claimOn live (⟨0, 1#32⟩ : LetterId) 0x0907 [pL (⟨0#64, 1#32, some [.aclWrite 1#32 3#32 0#640 0#640
     1#64]⟩ : ListArg TableRecord), p4 ((BitVec.ofNat 32 (crc32c 0xFFFFFFFF (recordBytes (.aclWrite 1#32 3#32 0#640
     0#640 1#64)))) : W32)]) |> fun (s : State) => naming s (⟨0, 1#32⟩ : LetterId)) : State)).getD live), (⟨0, 1#32⟩ :
     LetterId), (⟨0#64, 1#32, some [.aclWrite 1#32 3#32 0#640 0#640 1#64]⟩ : ListArg TableRecord), (BitVec.ofNat 32
     (crc32c 0xFFFFFFFF (recordBytes (.aclWrite 1#32 3#32 0#640 0#640 1#64)))), ([.aclWrite 1#32 3#32 0#640 0#640
     1#64] : List TableRecord), by unfold Claimed BlockStages NamesPending; decide +kernel⟩,
   ⟨(((live |> fun (s : State) => { s with epoch := { s.epoch with pending := none } }) |> fun (s : State) =>
     { s with epoch := { s.epoch with releasing := none } }) |> fun (s : State) => claimOn s (⟨0, 1#32⟩ : LetterId)
     (itemLetter (.nhWrite 5#32 8#32 191#32 127#32 9#32 : TableRecord)).1 (itemLetter (.nhWrite 5#32 8#32 191#32
     127#32 9#32 : TableRecord)).2), (((((((live |> fun (s : State) =>
     { s with epoch := { s.epoch with pending := none } }) |> fun (s : State) =>
     { s with epoch := { s.epoch with releasing := none } }) |> fun (s : State) => claimOn s (⟨0, 1#32⟩ : LetterId)
     (itemLetter (.nhWrite 5#32 8#32 191#32 127#32 9#32 : TableRecord)).1 (itemLetter (.nhWrite 5#32 8#32 191#32
     127#32 9#32 : TableRecord)).2) : State).openEpoch (((((live |> fun (s : State) =>
     { s with epoch := { s.epoch with pending := none } }) |> fun (s : State) =>
     { s with epoch := { s.epoch with releasing := none } }) |> fun (s : State) => claimOn s (⟨0, 1#32⟩ : LetterId)
     (itemLetter (.nhWrite 5#32 8#32 191#32 127#32 9#32 : TableRecord)).1 (itemLetter (.nhWrite 5#32 8#32 191#32
     127#32 9#32 : TableRecord)).2) : State).epoch.current + 1#16)).stageItem (.nhWrite 5#32 8#32 191#32 127#32 9#32 :
     TableRecord)).getD live), (⟨0, 1#32⟩ : LetterId), (.nhWrite 5#32 8#32 191#32 127#32 9#32 : TableRecord),
     by unfold Claimed StagesTo; decide +kernel⟩⟩

/-- The hypotheses of `Obligations.AclAndPolicerLetters` are met. -/
theorem witness_AclAndPolicerLetters :
    (∃ (s : State) (u : State) (l : LetterId) (bank : W32) (index : W32) (value : BitVec 640) (mask : BitVec 640)
      (action : W64), Claimed s l 0x0901 [p4 bank, p4 index, pBe value.toNat 80, pBe mask.toNat 80, p8 action] ∧
      NamesPending s l ∧ s.stageRow bank.toNat index.toNat (aclContent value mask action) = some u ∧ StagesTo s
      u.bankPower l.slice.val (.aclWrite bank index value mask action)) ∧
    (∃ (s : State) (l : LetterId) (bank : W32) (index : W32), Claimed s l 0x0902 [p4 bank, p4 index] ∧ NamesPending s
      l ∧ StagesTo s (s.stageErase bank.toNat index.toNat) l.slice.val (.aclDelete bank index)) ∧
    (∃ (s : State) (u : State) (l : LetterId) (a : AclProfileArgs), Claimed s l 0x0903 [p4 a.profile, p4 a.width, pLe
      a.chunks.toNat 40, p4 a.mask, p4 a.select, p4 a.enable] ∧ NamesPending s l ∧ u = State.bankPower
      { s with lookup := { s.lookup with profiles := stageVer a.profile.toNat (some { wide := decide (a.width = 640#32), chunks := a.chunks, mask := a.mask, select := if a.select = 255#32 then none else some a.select.toNat, enable := decide (a.enable = 1#32), owner := s.owner 0x0E a.profile.toNat }) s.lookup.profiles } }
      ∧ StagesTo s u l.slice.val (.aclProfile a)) ∧
    (∃ (s : State) (l : LetterId) (profile : W32) (masks : ListArg W32) (ms : List W32), Claimed s l 0x0904 [p4
      profile, pL masks] ∧ NamesPending s l ∧ masks.items = some ms ∧ StagesTo s
      { s with lookup := { s.lookup with selects := stageVer profile.toNat (some ms) s.lookup.selects } } l.slice.val
      (.aclSelect profile masks)) ∧
    (∃ (s : State) (l : LetterId) (bank : W32) (width : W32), Claimed s l 0x0905 [p4 bank, p4 width] ∧ bank.toNat <
      s.variant.logical ∧ s.variant.logical ≤ 32 ∧ (width = 320#32 ∨ width = 640#32) ∧ s.owner 0x0D bank.toNat =
      l.slice.val ∧ s.bankUsed bank.toNat = false) ∧
    (∃ (s : State) (l : LetterId) (period : W64), Claimed s l 0x0906 [p8 period] ∧ (period.toNat = 0 ∨ hourNs ≤
      period.toNat) ∧ period.toNat ≤ 168 * hourNs) ∧
    (∃ (s : State) (l : LetterId) (a : PolicerArgs) (p : Policer), Claimed s l 0x0C01 [p4 a.policer, p4 a.scheme, p4
      a.aware, p8 a.cir, p8 a.pir, p8 a.cbs, p8 a.ebs, p8 a.pbs, p4 a.adjust] ∧ NamesPending s l ∧ p = (policerOf a
      (pendView (afind s.lookup.policers a.policer.toNat))).2.1 ∧ (s.itemApplied (.policerWrite a)).2 = none ∧
      StagesTo s
      { s with lookup := { s.lookup with policers := stageVer a.policer.toNat (some p) s.lookup.policers } }
      l.slice.val (.policerWrite a)) ∧
    (∃ (s : State) (l : LetterId) (policer : W32), Claimed s l 0x0C02 [p4 policer] ∧ NamesPending s l ∧ StagesTo s
      { s with lookup := { s.lookup with policers := stageVer policer.toNat none s.lookup.policers } } l.slice.val
      (.policerDelete policer)) ∧
    (∃ (s : State) (l : LetterId) (seed : W32) (profile : W32) (fields : W32), Claimed s l 0x0807 [p4 seed, p4
      profile, p4 fields] ∧ profile.toNat ≤ 7 ∧ fields.toNat ≤ 4095) :=
  ⟨⟨((claimOn live (⟨0, 1#32⟩ : LetterId) 0x0901 [p4 (1#32 : W32), p4 (8191#32 : W32), pBe (0#640 : BitVec
     640).toNat 80, pBe (0#640 : BitVec 640).toNat 80, p8 (0#64 : W64)]) |> fun (s : State) => naming s (⟨0, 1#32⟩ :
     LetterId)), (((((claimOn live (⟨0, 1#32⟩ : LetterId) 0x0901 [p4 (1#32 : W32), p4 (8191#32 : W32), pBe (0#640 :
     BitVec 640).toNat 80, pBe (0#640 : BitVec 640).toNat 80, p8 (0#64 : W64)]) |> fun (s : State) => naming s (⟨0,
     1#32⟩ : LetterId)) : State).stageRow (1#32 : W32).toNat (8191#32 : W32).toNat (aclContent (0#640 : BitVec 640)
     (0#640 : BitVec 640) (0#64 : W64))).getD live), (⟨0, 1#32⟩ : LetterId), 1#32, 8191#32, 0#640, 0#640, 0#64,
     by unfold Claimed NamesPending StagesTo; decide +kernel⟩,
   ⟨(((claimOn live (⟨0, 1#32⟩ : LetterId) 0x0902 [p4 (1#32 : W32), p4 (3#32 : W32)]) |> fun (s : State) =>
     (s.stageItem (.aclWrite 1#32 3#32 0#640 0#640 1#64)).getD s) |> fun (s : State) => naming s (⟨0, 1#32⟩ :
     LetterId)), (⟨0, 1#32⟩ : LetterId), 1#32, 3#32, by unfold Claimed NamesPending StagesTo; decide +kernel⟩,
   ⟨((claimOn live (⟨0, 1#32⟩ : LetterId) 0x0903 [p4
     ({ profile := 63#32, width := 320#32, chunks := 0#320, mask := 3#32, select := 19#32, enable := 1#32 } :
     AclProfileArgs).profile, p4
     ({ profile := 63#32, width := 320#32, chunks := 0#320, mask := 3#32, select := 19#32, enable := 1#32 } :
     AclProfileArgs).width, pLe
     ({ profile := 63#32, width := 320#32, chunks := 0#320, mask := 3#32, select := 19#32, enable := 1#32 } :
     AclProfileArgs).chunks.toNat 40, p4
     ({ profile := 63#32, width := 320#32, chunks := 0#320, mask := 3#32, select := 19#32, enable := 1#32 } :
     AclProfileArgs).mask, p4
     ({ profile := 63#32, width := 320#32, chunks := 0#320, mask := 3#32, select := 19#32, enable := 1#32 } :
     AclProfileArgs).select, p4
     ({ profile := 63#32, width := 320#32, chunks := 0#320, mask := 3#32, select := 19#32, enable := 1#32 } :
     AclProfileArgs).enable]) |> fun (s : State) => naming s (⟨0, 1#32⟩ : LetterId)), _, (⟨0, 1#32⟩ : LetterId),
     ({ profile := 63#32, width := 320#32, chunks := 0#320, mask := 3#32, select := 19#32, enable := 1#32 } :
     AclProfileArgs), by unfold Claimed; decide +kernel, by unfold NamesPending; decide +kernel, rfl,
     by unfold StagesTo; decide +kernel⟩,
   ⟨((claimOn live (⟨0, 1#32⟩ : LetterId) 0x0904 [p4 (63#32 : W32), pL (⟨0#64, 256#32, some (List.replicate 256
     1#32)⟩ : ListArg W32)]) |> fun (s : State) => naming s (⟨0, 1#32⟩ : LetterId)), (⟨0, 1#32⟩ : LetterId), 63#32,
     (⟨0#64, 256#32, some (List.replicate 256 1#32)⟩ : ListArg W32), (List.replicate 256 1#32),
     by unfold Claimed NamesPending StagesTo; decide +kernel⟩,
   ⟨(claimOn live (⟨0, 1#32⟩ : LetterId) 0x0905 [p4 (0#32 : W32), p4 (320#32 : W32)]), (⟨0, 1#32⟩ : LetterId), 0#32,
     320#32, by unfold Claimed; decide +kernel⟩,
   ⟨(claimOn live (⟨0, 1#32⟩ : LetterId) 0x0906 [p8 (0#64 : W64)]), (⟨0, 1#32⟩ : LetterId), 0#64,
     by unfold Claimed; decide +kernel⟩,
   ⟨((claimOn live (⟨0, 1#32⟩ : LetterId) 0x0C01 [p4
     ({ policer := 262143#32, scheme := 0#32, aware := 1#32, cir := 1000#64, pir := 1600000000000#64, cbs := 64#64, ebs := 64#64, pbs := 64#64, adjust := 0#32 }
     : PolicerArgs).policer, p4
     ({ policer := 262143#32, scheme := 0#32, aware := 1#32, cir := 1000#64, pir := 1600000000000#64, cbs := 64#64, ebs := 64#64, pbs := 64#64, adjust := 0#32 }
     : PolicerArgs).scheme, p4
     ({ policer := 262143#32, scheme := 0#32, aware := 1#32, cir := 1000#64, pir := 1600000000000#64, cbs := 64#64, ebs := 64#64, pbs := 64#64, adjust := 0#32 }
     : PolicerArgs).aware, p8
     ({ policer := 262143#32, scheme := 0#32, aware := 1#32, cir := 1000#64, pir := 1600000000000#64, cbs := 64#64, ebs := 64#64, pbs := 64#64, adjust := 0#32 }
     : PolicerArgs).cir, p8
     ({ policer := 262143#32, scheme := 0#32, aware := 1#32, cir := 1000#64, pir := 1600000000000#64, cbs := 64#64, ebs := 64#64, pbs := 64#64, adjust := 0#32 }
     : PolicerArgs).pir, p8
     ({ policer := 262143#32, scheme := 0#32, aware := 1#32, cir := 1000#64, pir := 1600000000000#64, cbs := 64#64, ebs := 64#64, pbs := 64#64, adjust := 0#32 }
     : PolicerArgs).cbs, p8
     ({ policer := 262143#32, scheme := 0#32, aware := 1#32, cir := 1000#64, pir := 1600000000000#64, cbs := 64#64, ebs := 64#64, pbs := 64#64, adjust := 0#32 }
     : PolicerArgs).ebs, p8
     ({ policer := 262143#32, scheme := 0#32, aware := 1#32, cir := 1000#64, pir := 1600000000000#64, cbs := 64#64, ebs := 64#64, pbs := 64#64, adjust := 0#32 }
     : PolicerArgs).pbs, p4
     ({ policer := 262143#32, scheme := 0#32, aware := 1#32, cir := 1000#64, pir := 1600000000000#64, cbs := 64#64, ebs := 64#64, pbs := 64#64, adjust := 0#32 }
     : PolicerArgs).adjust]) |> fun (s : State) => naming s (⟨0, 1#32⟩ : LetterId)), (⟨0, 1#32⟩ : LetterId),
     ({ policer := 262143#32, scheme := 0#32, aware := 1#32, cir := 1000#64, pir := 1600000000000#64, cbs := 64#64, ebs := 64#64, pbs := 64#64, adjust := 0#32 }
     : PolicerArgs), _, by unfold Claimed; decide +kernel, by unfold NamesPending; decide +kernel, rfl,
     by unfold StagesTo; decide +kernel⟩,
   ⟨(((claimOn live (⟨0, 1#32⟩ : LetterId) 0x0C02 [p4 (5#32 : W32)]) |> fun (s : State) => (s.stageItem
     (.policerWrite
     { policer := 5#32, scheme := 0#32, aware := 1#32, cir := 1000#64, pir := 1600000000000#64, cbs := 64#64, ebs := 64#64, pbs := 64#64, adjust := 0#32 })).getD
     s) |> fun (s : State) => naming s (⟨0, 1#32⟩ : LetterId)), (⟨0, 1#32⟩ : LetterId), 5#32,
     by unfold Claimed NamesPending StagesTo; decide +kernel⟩,
   ⟨(claimOn live (⟨0, 1#32⟩ : LetterId) 0x0807 [p4 (0#32 : W32), p4 (7#32 : W32), p4 (4095#32 : W32)]), (⟨0, 1#32⟩
     : LetterId), 0#32, 7#32, 4095#32, by unfold Claimed; decide +kernel⟩⟩

/-- The hypotheses of `Obligations.AssociativeEngine` are met. -/
theorem witness_AssociativeEngine :
    (∃ (s : State) (bank : Fin 32) (i : Nat), bank.val < s.variant.logical ∧ (nget [] s.lookup.jobs bank.val).head? =
      some (.repair i)) ∧
    (∃ (s : State) (bank : Fin 32) (i : Nat), bank.val < s.variant.logical ∧ (nget [] s.lookup.jobs bank.val).head? =
      some (.write i)) ∧
    (∃ (s : State) (bank : Fin 32) (p : Nat) (q : Nat), bank.val < s.variant.logical ∧ (nget [] s.lookup.jobs
      bank.val).head? = some (.copy p q)) ∧
    (∃ (s : State) (bank : Fin 32) (m : Migration), bank.val < s.variant.logical ∧ (nget [] s.lookup.jobs
      bank.val).head? = none ∧ s.lookup.migration = some m ∧ m.logical = bank.val ∧ m.fault = false ∧ m.next < 8192) ∧
    (∃ (s : State) (d : Nat) (b : Nat) (p : Nat), s.lookup.period ≠ 0 ∧ s.soundBanks ≠ 0 ∧ s.lookup.lastStart +
      s.lookup.period / s.soundBanks ≤ s.up ∧ s.lookup.migration = none ∧ s.lookup.testing = none ∧ s.spare = some d ∧
      s.oldestTest = some (b, p) ∧ (s.phys p).st = .inService) ∧
    (∃ (s : State) (m : Migration), s.lookup.migration = some m ∧ m.fault = false ∧ 8192 ≤ m.next) ∧
    (∃ (s : State) (p : Fin 33) (t : Nat), s.lookup.testing = some (p.val, t) ∧ t + 2000000 ≤ s.up) ∧
    (∃ (s : State) (bank : Fin 32) (i : Fin 8192), bank.val < s.variant.logical ∧ (nget [] s.lookup.jobs
      bank.val).contains (.repair i) = true) ∧
    (∃ (s : State) (p : Fin 33) (d : Nat), p.val < s.variant.banks ∧ (s.phys p).st = .inService ∧ s.lookup.migration
      = none ∧ s.spare = some d) ∧
    (∃ (s : State) (p : Fin 33), p.val < s.variant.banks ∧ (s.phys p).st = .inService ∧ s.lookup.migration = none ∧
      s.spare = none) ∧
    (∃ (s : State) (m : Migration), s.lookup.migration = some m ∧ m.fault = true) :=
  ⟨⟨(live |> fun (s : State) =>
     { s with lookup := { s.lookup with jobs := nset [] (0 : Fin 32).val [.repair (5 : Nat)] s.lookup.jobs } }), (0 :
     Fin 32), 5, by decide +kernel⟩,
   ⟨(live |> fun (s : State) =>
     { s with lookup := { s.lookup with jobs := nset [] (0 : Fin 32).val [.write (5 : Nat)] s.lookup.jobs } }), (0 :
     Fin 32), 5, by decide +kernel⟩,
   ⟨(live |> fun (s : State) =>
     { s with lookup := { s.lookup with jobs := nset [] (0 : Fin 32).val [.copy (5 : Nat) (6 : Nat)] s.lookup.jobs } }),
     (0 : Fin 32), 5, 6, by decide +kernel⟩,
   ⟨(live |> fun (s : State) =>
     { s with lookup := { s.lookup with migration := some (((({ } : Migration) |> fun x => { x with logical := (0 : Fin 32).val }) |> fun x => { x with fault := false }) : Migration) } }),
     (0 : Fin 32), ((({ } : Migration) |> fun x => { x with logical := (0 : Fin 32).val }) |> fun x =>
     { x with fault := false }), by decide +kernel⟩,
   ⟨(((live |> fun (s : State) => { s with lookup := { s.lookup with migration := none } }) |> fun (s : State) =>
     { s with lookup := { s.lookup with testing := none } }) |> fun (s : State) => s.setPhys (0 : Nat)
     { s.phys (0 : Nat) with st := .inService }), 32, 0, 0, by decide +kernel⟩,
   ⟨(live |> fun (s : State) =>
     { s with lookup := { s.lookup with migration := some ({ next := 8192 } : Migration) } }), ({ next := 8192 } :
     Migration), by decide +kernel⟩,
   ⟨(live |> fun (s : State) =>
     { s with lookup := { s.lookup with testing := some ((0 : Fin 33).val, (0 : Nat)) } }), (0 : Fin 33), 0,
     by decide +kernel⟩,
   ⟨(live |> fun (s : State) =>
     { s with lookup := { s.lookup with jobs := nset [] (0 : Fin 32).val [.repair (5 : Fin 8192).val] s.lookup.jobs } }),
     (0 : Fin 32), (5 : Fin 8192), by decide +kernel⟩,
   ⟨((live |> fun (s : State) => { s with lookup := { s.lookup with migration := none } }) |> fun (s : State) =>
     s.setPhys (0 : Fin 33) { s.phys (0 : Fin 33) with st := .inService }), (0 : Fin 33), 32, by decide +kernel⟩,
   ⟨(((live |> fun (s : State) => { s with lookup := { s.lookup with migration := none } }) |> fun (s : State) =>
     s.setPhys (0 : Fin 33) { s.phys (0 : Fin 33) with st := .inService }) |> fun (s : State) => s.setPhys 32
     { s.phys 32 with st := .failed }), (0 : Fin 33), by decide +kernel⟩,
   ⟨(live |> fun (s : State) =>
     { s with lookup := { s.lookup with migration := some ((({ } : Migration) |> fun x => { x with fault := true }) : Migration) } }),
     (({ } : Migration) |> fun x => { x with fault := true }), by decide +kernel⟩⟩

/-- The hypotheses of `Obligations.BuffersAndMirrors` are met. -/
theorem witness_BuffersAndMirrors :
    (∃ (s : State) (rivals : List Rival) (readError : Bool) (p : Packet) (ps : List Packet), s.buffers.fromSorter = p
      :: ps ∧ (s.cut p.port).running = none) ∧
    (∃ (s : State) (u : State) (v : State) (rivals : List Rival) (readError : Bool) (p : Packet) (ps : List Packet),
      s.buffers.fromSorter = p :: ps ∧ (s.cut p.port).running = none ∧ rivals ≠ [] ∧ u =
      { s with buffers := { s.buffers with rivals := rivals } } ∧ v = ((u.popSorter.tagHandoff p).2.voqAdmit
      (u.popSorter.tagHandoff p).1).mirrorCopy (u.popSorter.tagHandoff p).1) ∧
    (∃ (s : State) (p : Packet) (ps : List Packet) (r : CutRun), s.buffers.fromSorter = p :: ps ∧ (s.cut
      p.port).running = some r) ∧
    (∃ (s : State) (p : Packet) (ps : List Packet) (r : CutRun), s.buffers.fromSorter = p :: ps ∧ (s.cut
      p.port).running = some r ∧ r.on = true ∧ r.sent.isSome = true) ∧
    (∃ (s : State) (tier : Nat) (k : Nat) (p : Nat) (ps : List Nat) (b : BufId), s.rivalsOf tier p k ≠ [] ∧ s.beaten
      (4 * tier + p) (s.rivalsOf tier p k) = false ∧ s.pick tier p k = some b ∧ s.isLast p k b = true ∧ raceWinner
      (nget 0 s.buffers.pointers (4 * tier + p)) (k :: s.rivalsOf tier p k) = k) ∧
    (∃ (s : State) (u : State) (tier : Nat) (k : Nat) (p : Nat) (ps : List Nat) (b : BufId), s.rivalsOf tier p k ≠ []
      ∧ s.beaten (4 * tier + p) (s.rivalsOf tier p k) = false ∧ s.pick tier p k = some b ∧ s.isLast p k b = true ∧
      raceWinner (nget 0 s.buffers.pointers (4 * tier + p)) (k :: s.rivalsOf tier p k) ≠ k ∧ u = s.bump .bufRaceLost
      (4 * tier + p)) ∧
    (∃ (s : State) (port : Fin 192) (p : Packet) (ps : List Packet) (u : State) (v : State) (r : Packet) (x :
      Placed), s.buffers.fromSorter = p :: ps ∧ p.port = port.val ∧ s.mayCutIn p = true ∧ u =
      { (s.tagHandoff p).2 with buffers := { (s.tagHandoff p).2.buffers with fromSorter := (s.tagHandoff p).1 :: (s.tagHandoff p).2.buffers.fromSorter.drop 1 } }
      ∧ r = (s.tagHandoff p).1 ∧ u.admitIn r.queue 0 r.len r.colour (ofQueue r.queue) = (some x, v) ∧ bufTier x.buf =
      0) ∧
    (∃ (s : State) (port : Fin 192) (p : Packet) (ps : List Packet) (u : State) (v : State) (r : Packet),
      s.buffers.fromSorter = p :: ps ∧ p.port = port.val ∧ s.mayCutIn p = true ∧ u =
      { (s.tagHandoff p).2 with buffers := { (s.tagHandoff p).2.buffers with fromSorter := (s.tagHandoff p).1 :: (s.tagHandoff p).2.buffers.fromSorter.drop 1 } }
      ∧ r = (s.tagHandoff p).1 ∧ u.admitIn r.queue 0 r.len r.colour (ofQueue r.queue) = (none, v)) ∧
    (∃ (s : State) (port : Fin 192) (rivals : List Rival) (p : Packet) (ps : List Packet), s.buffers.fromSorter = p
      :: ps ∧ s.mayCutIn p = false) ∧
    (∃ (s : State) (port : Fin 192) (p : Packet) (ps : List Packet) (r : CutRun), s.buffers.fromSorter = p :: ps ∧
      p.port = port.val ∧ (s.cut port).running = some r ∧ r.on = true ∧ r.first + 10000 ≤ s.up) ∧
    (∃ (s : State) (queue : BitVec 19) (k : Nat) (p : Partial) (q : Nat) (x : Placed), s.partialOf queue.toNat = some
      (k, p) ∧ p.admitted = [(q, x)] ∧ (s.cut p.packet.dstPort).egress = true ∧ p.alone = true ∧ p.packet.ct = false ∧
      p.packet.poisoned = false ∧ (s.queue queue.toNat).packets = [] ∧ bufTier x.buf = 0 ∧ (s.cut
      p.packet.dstPort).ctStart ≤ p.packet.data.length) ∧
    (∃ (s : State) (queue : BitVec 19) (cause : Fin 4) (k : Nat) (p : Partial), s.partialOf queue.toNat = some (k, p)
      ∧ p.linked = true ∧ p.back = false) ∧
    (∃ (s : State) (queue : BitVec 19) (cause : Fin 4), s.partialOf queue.toNat = none ∧ s.cutAway queue.toNat = none) ∧
    (∃ (s : State) (b : BufId) (r : OwnerRec), s.ownerOf b = some r) ∧
    (∃ (s : State) (b : BufId) (agent : Owner), s.ownerOf b = none) ∧
    (∃ (s : State) (b : BufId) (r : OwnerRec) (agent : Owner), s.ownerOf b = some r ∧ r.owner ≠ agent) ∧
    (∃ (s : State) (e : DlqEntry) (rest : List DlqEntry) (ring : W64) (depth : Nat), s.buffers.dlq = e :: rest ∧
      s.buffers.dlqRing = some (ring, depth) ∧ s.mayRequest 0 = true ∧ s.headIs e.packet = .here) ∧
    (∃ (s : State) (e : DlqEntry) (rest : List DlqEntry) (ring : W64 × Nat), s.buffers.dlq = e :: rest ∧
      s.buffers.dlqRing = some ring ∧ s.mayRequest 0 = true ∧ s.headIs e.packet = .deep) ∧
    (∃ (s : State) (e : DlqEntry) (rest : List DlqEntry) (ring : W64 × Nat), s.buffers.dlq = e :: rest ∧
      s.buffers.dlqRing = some ring ∧ s.mayRequest 0 = true ∧ s.headIs e.packet = .lost) ∧
    (∃ (s : State) (e : DlqEntry) (rest : List DlqEntry) (ring : W64 × Nat), s.buffers.dlq = e :: rest ∧
      s.buffers.dlqRing = some ring ∧ (s.headIs e.packet = .fenced ∨ s.headIs e.packet = .coming)) ∧
    (∃ (s : State) (l : LetterId) (g0 : W32) (g1 : W32) (g2 : W32) (g3 : W32), Claimed s l 0x0A01 [p4 g0, p4 g1, p4
      g2, p4 g3] ∧ 8 ≤ g0.toNat ∧ g0.toNat ≤ 264 ∧ 8 ≤ g1.toNat ∧ g1.toNat ≤ 264 ∧ 8 ≤ g2.toNat ∧ g2.toNat ≤ 264 ∧ 8 ≤
      g3.toNat ∧ g3.toNat ≤ 264 ∧ g0.toNat + g1.toNat + g2.toNat + g3.toNat = 288 ∧ s.buffers.moving = [] ∧
      (s.pickGranules fun i => [g0.toNat, g1.toNat, g2.toNat, g3.toNat].getD i 0) = []) ∧
    (∃ (s : State) (u : State) (l : LetterId) (g0 : W32) (g1 : W32) (g2 : W32) (g3 : W32), u = State.moveGranules
      { s with buffers := { s.buffers with moving := s.pickGranules fun i => [g0.toNat, g1.toNat, g2.toNat, g3.toNat].getD i 0 } }
      ∧ Claimed s l 0x0A01 [p4 g0, p4 g1, p4 g2, p4 g3] ∧ 8 ≤ g0.toNat ∧ g0.toNat ≤ 264 ∧ 8 ≤ g1.toNat ∧ g1.toNat ≤
      264 ∧ 8 ≤ g2.toNat ∧ g2.toNat ≤ 264 ∧ 8 ≤ g3.toNat ∧ g3.toNat ≤ 264 ∧ g0.toNat + g1.toNat + g2.toNat + g3.toNat
      = 288 ∧ s.buffers.moving = [] ∧ u.buffers.moving ≠ []) ∧
    (∃ (s : State) (u : State) (l : LetterId) (cls : W32) (a : W64) (b : W64) (c : W64) (d : W64), Claimed s l 0x0A02
      [p4 cls, p8 a, p8 b, p8 c, p8 d] ∧ cls.toNat ≤ 4 ∧ a.toNat ≤ 64 * 1048576 ∧ b.toNat ≤ 180 * 1048576 ∧ c.toNat ≤
      64 * 1024 * 1048576 ∧ d.toNat ≤ 284 * 1024 * 1048576 ∧ u =
      { s with buffers := { s.buffers with classes := nset (classDefault cls.toNat) cls.toNat ⟨a.toNat, b.toNat, c.toNat, d.toNat⟩ s.buffers.classes } }
      ∧ ([0, 1, 2, 3, 4].map fun j => (u.bufClass j).reserve 0).sum ≤ s.poolSpace 0 ∧ overGuaranteed s.queues.queues
      s.admission u.shallowReserve = false ∧ ([0, 1, 2, 3, 4].map fun j => (u.bufClass j).reserve 1).sum ≤ s.poolSpace
      1) ∧
    (∃ (s : State) (l : LetterId) (a : AdmissionArgs) (v : Admission), v = ⟨true, a.guaranteed.toNat, a.spillEnable =
      1#32, a.spill.toNat, sext 32 a.alphaShallow.toNat, sext 32 a.alphaDeep.toNat, a.max.toNat, a.yellow.toNat,
      a.red.toNat⟩ ∧ Claimed s l 0x0A03 [p4 a.profile, p8 a.guaranteed, p4 a.spillEnable, p8 a.spill, p4
      a.alphaShallow, p4 a.alphaDeep, p8 a.max, p4 a.yellow, p4 a.red] ∧ a.spillEnable.toNat ≤ 1 ∧ a.profile.toNat ≤
      1023 ∧ s.owner 0x15 a.profile.toNat = l.slice.val ∧ a.guaranteed.toNat ≤ 16 * 1048576 ∧ a.spill.toNat ≤ 64 *
      1048576 ∧ a.alphaShallow.toNat ≠ 2 ^ 31 ∧ a.alphaDeep.toNat ≠ 2 ^ 31 ∧ -7 ≤ sext 32 a.alphaShallow.toNat ∧ sext
      32 a.alphaShallow.toNat ≤ 3 ∧ -7 ≤ sext 32 a.alphaDeep.toNat ∧ sext 32 a.alphaDeep.toNat ≤ 3 ∧ 2048 ≤
      a.max.toNat ∧ a.max.toNat ≤ 64 * 1024 * 1048576 ∧ a.yellow.toNat ≤ 16 ∧ a.red.toNat ≤ 16 ∧ overGuaranteed
      s.queues.queues (fun j => if j = a.profile.toNat then v else s.admission j) s.shallowReserve = false) ∧
    (∃ (s : State) (l : LetterId) (a : DlqArgs), Claimed s l 0x0A04 [p4 a.mask, pLe a.reasons.toNat 64, p8 a.limit,
      p8 a.snap, p8 a.ring, p4 a.depth] ∧ a.mask &&& 0x3E#32 = a.mask ∧ a.ring ≠ 0#64 ∧ a.depth ≠ 0#32 ∧ a.limit.toNat
      ≤ 64 * 1048576 ∧ 64 ≤ a.snap.toNat ∧ a.snap.toNat ≤ 9728 ∧ s.buffers.dlqRing = none) ∧
    (∃ (s : State) (l : LetterId) (port : W32) (ingress : W32) (egress : W32) (a : W64) (b : W64), Claimed s l 0x0A05
      [p4 port, p4 ingress, p4 egress, p8 a, p8 b] ∧ ingress.toNat ≤ 1 ∧ egress.toNat ≤ 1 ∧ s.portExists l.slice.val
      port.toNat = true ∧ 512 ≤ a.toNat ∧ a.toNat ≤ 9728 ∧ 256 ≤ b.toNat ∧ b.toNat ≤ 4096) ∧
    (∃ (s : State) (l : LetterId) (session : W32) (destination : W32) (truncate : W64) (sample : W32) (enabled :
      W32), Claimed s l 0x1501 [p4 session, p4 destination, p8 truncate, p4 sample, p4 enabled] ∧ enabled.toNat ≤ 1 ∧
      session.toNat ≤ 1023 ∧ s.owner 0x17 session.toNat = l.slice.val ∧ s.mirrorTarget l.slice.val destination.toNat =
      true ∧ (truncate.toNat = 0 ∨ 64 ≤ truncate.toNat) ∧ truncate.toNat ≤ 9728 ∧ 1 ≤ sample.toNat ∧ sample.toNat ≤
      65536) ∧
    (∃ (s : State) (l : LetterId) (session : W32), Claimed s l 0x1502 [p4 session] ∧ session.toNat ≤ 1023 ∧ s.owner
      0x17 session.toNat = l.slice.val) :=
  ⟨⟨((live |> fun (s : State) =>
     { s with buffers := { s.buffers with fromSorter := ({ } : Packet) :: ([] : List Packet) } }) |> fun (s : State)
     => s.setCut ({ } : Packet).port { s.cut ({ } : Packet).port with running := none }), ([] : List Rival), false,
     ({ } : Packet), ([] : List Packet), by decide +kernel⟩,
   ⟨((live |> fun (s : State) =>
     { s with buffers := { s.buffers with fromSorter := ({ data := List.replicate 64 0#8, len := 64, queue := 5 } : Packet) :: ([] : List Packet) } })
     |> fun (s : State) => s.setCut ({ data := List.replicate 64 0#8, len := 64, queue := 5 } : Packet).port
     { s.cut ({ data := List.replicate 64 0#8, len := 64, queue := 5 } : Packet).port with running := none }), _, _,
     ([⟨0, 0, 0⟩] : List Rival), false, ({ data := List.replicate 64 0#8, len := 64, queue := 5 } : Packet), ([] :
     List Packet), by decide +kernel, by decide +kernel, by decide +kernel, rfl, rfl⟩,
   ⟨((live |> fun (s : State) =>
     { s with buffers := { s.buffers with fromSorter := ({ } : Packet) :: ([] : List Packet) } }) |> fun (s : State)
     => s.setCut ({ } : Packet).port
     { s.cut ({ } : Packet).port with running := some ({ queue := 0, first := 0 } : CutRun) }), ({ } : Packet), ([] :
     List Packet), ({ queue := 0, first := 0 } : CutRun), by decide +kernel⟩,
   ⟨((((live |> fun (s : State) =>
     { s with buffers := { s.buffers with fromSorter := ({ data := List.replicate 64 0#8, len := 64, queue := 5 } : Packet) :: ([] : List Packet) } })
     |> fun (s : State) => s.setCut ({ data := List.replicate 64 0#8, len := 64, queue := 5 } : Packet).port
     { s.cut ({ data := List.replicate 64 0#8, len := 64, queue := 5 } : Packet).port with running := some ({ queue := 5, first := 0, sent := some 0 } : CutRun) })
     |> fun (s : State) =>
     { s with buffers := { s.buffers with fromSorter := ({ data := List.replicate 64 0#8, len := 64, queue := 5 } : Packet) :: ([] : List Packet) } })
     |> fun (s : State) => s.setCut 0
     { s.cut 0 with running := some ({ queue := 5, first := 0, sent := some 0 } : CutRun) }),
     ({ data := List.replicate 64 0#8, len := 64, queue := 5 } : Packet), ([] : List Packet),
     ({ queue := 5, first := 0, sent := some 0 } : CutRun), by decide +kernel⟩,
   ⟨(live |> fun (s : State) =>
     { s with buffers := { s.buffers with granules := (List.range 288).map fun g => (g, if g = 0 then 3 else 0), owners := (List.range 63).map fun i => (BufId.shallow 0 (BitVec.ofNat 12 i), ⟨Owner.queue 5, 0, 10240⟩), rivals := [⟨0, 3, 2⟩] } }),
     0, 1, 3, ([] : List Nat), (.shallow 0 63#12 : BufId), by decide +kernel⟩,
   ⟨(live |> fun (s : State) =>
     { s with buffers := { s.buffers with granules := (List.range 288).map fun g => (g, if g = 0 then 3 else 0), owners := (List.range 63).map fun i => (BufId.shallow 0 (BitVec.ofNat 12 i), ⟨Owner.queue 5, 0, 10240⟩), rivals := [⟨0, 3, 0⟩] } }),
     _, 0, 1, 3, ([] : List Nat), (.shallow 0 63#12 : BufId), by decide +kernel, by decide +kernel, by decide +kernel,
     by decide +kernel, by decide +kernel, rfl⟩,
   ⟨cutReady, (0 : Fin 192), cutPacket, ([] : List Packet), (asking cutReady), ((asked cutReady).2),
     ((cutReady.tagHandoff cutPacket).1), ((asked cutReady).1.getD ⟨.shallow 0 0, 0, 0⟩), by decide +kernel,
     by decide +kernel, by decide +kernel, rfl, rfl, by decide +kernel⟩,
   ⟨cutFull, (0 : Fin 192), cutPacket, ([] : List Packet), (asking cutFull), ((asked cutFull).2),
     ((cutFull.tagHandoff cutPacket).1), by decide +kernel, by decide +kernel, by decide +kernel, rfl, rfl,
     by decide +kernel⟩,
   ⟨(live |> fun (s : State) =>
     { s with buffers := { s.buffers with fromSorter := ({ } : Packet) :: ([] : List Packet) } }), (0 : Fin 192), ([]
     : List Rival), ({ } : Packet), ([] : List Packet), by decide +kernel⟩,
   ⟨((live |> fun (s : State) =>
     { s with buffers := { s.buffers with fromSorter := ((({ } : Packet) |> fun x => { x with port := (0 : Fin 192).val }) : Packet) :: ([] : List Packet) } })
     |> fun (s : State) => s.setCut (0 : Fin 192)
     { s.cut (0 : Fin 192) with running := some ((({ queue := 0, first := 0 } : CutRun) |> fun x => { x with on := true }) : CutRun) }),
     (0 : Fin 192), (({ } : Packet) |> fun x => { x with port := (0 : Fin 192).val }), ([] : List Packet),
     (({ queue := 0, first := 0 } : CutRun) |> fun x => { x with on := true }), by decide +kernel⟩,
   ⟨((((live |> fun (s : State) => s.setCut
     ({ packet := { data := List.replicate 4 0#8, dstPort := 1 }, need := 0, since := 0, admitted := [(131072, ⟨.shallow 0 0, 1, 0⟩)], alone := true }
     : Partial).packet.dstPort
     { s.cut ({ packet := { data := List.replicate 4 0#8, dstPort := 1 }, need := 0, since := 0, admitted := [(131072, ⟨.shallow 0 0, 1, 0⟩)], alone := true } : Partial).packet.dstPort with egress := true })
     |> fun (s : State) => s.setQueue (131072#19 : BitVec 19).toNat
     { s.queue (131072#19 : BitVec 19).toNat with packets := [] }) |> fun (s : State) =>
     { s with fabric := { s.fabric with rx := [(3, { open_ := some ({ packet := { data := List.replicate 4 0#8, dstPort := 1 }, need := 0, since := 0, admitted := [(131072, ⟨.shallow 0 0, 1, 0⟩)], alone := true } : Partial) })] } })
     |> fun (s : State) => s.setCut 1 { s.cut 1 with egress := true, ctStart := 4 }), 131072#19, 3,
     ({ packet := { data := List.replicate 4 0#8, dstPort := 1 }, need := 0, since := 0, admitted := [(131072, ⟨.shallow 0 0, 1, 0⟩)], alone := true }
     : Partial), 131072, (⟨.shallow 0 0, 1, 0⟩), by decide +kernel⟩,
   ⟨(live |> fun (s : State) =>
     { s with fabric := { s.fabric with rx := [(3, { open_ := some ({ packet := { data := List.replicate 4 0#8, dstPort := 1, ct := true }, need := 0, since := 0, admitted := [(131072, ⟨.shallow 0 0, 1, 0⟩)], alone := true } : Partial) })] } }),
     131072#19, (0 : Fin 4), 3,
     ({ packet := { data := List.replicate 4 0#8, dstPort := 1, ct := true }, need := 0, since := 0, admitted := [(131072, ⟨.shallow 0 0, 1, 0⟩)], alone := true }
     : Partial), by decide +kernel⟩,
   ⟨live, 0#19, (0 : Fin 4), by decide +kernel⟩,
   ⟨(live |> fun (s : State) =>
     { s with buffers := { s.buffers with owners := [(((.shallow 0 0#12) : BufId), ({ owner := (.queue 0#19), cls := 0, size := 0 } : OwnerRec))] } }),
     ((.shallow 0 0#12) : BufId), ({ owner := (.queue 0#19), cls := 0, size := 0 } : OwnerRec), by decide +kernel⟩,
   ⟨live, ((.shallow 0 0#12) : BufId), ((.queue 0#19) : Owner), by decide +kernel⟩,
   ⟨(live |> fun (s : State) =>
     { s with buffers := { s.buffers with owners := [(((.shallow 0 0#12) : BufId), ({ owner := (.queue 0#19), cls := 0, size := 0 } : OwnerRec))] } }),
     ((.shallow 0 0#12) : BufId), ({ owner := (.queue 0#19), cls := 0, size := 0 } : OwnerRec), .dlq,
     by decide +kernel⟩,
   ⟨(((live |> fun (s : State) =>
     { s with buffers := { s.buffers with dlq := ({ packet := { }, cause := 0, queue := 0, annotation := [], seconds := 0#32, nanoseconds := 0#32 } : DlqEntry) :: ([] : List DlqEntry) } })
     |> fun (s : State) => { s with buffers := { s.buffers with dlqRing := some ((0#64 : W64), (0 : Nat)) } }) |> fun
     (s : State) => { s with courier := { s.courier with pasidOn := true } }.setSlice 0
     { s.slice 0 with st := .active }),
     ({ packet := { }, cause := 0, queue := 0, annotation := [], seconds := 0#32, nanoseconds := 0#32 } : DlqEntry),
     ([] : List DlqEntry), 0#64, 0, by decide +kernel⟩,
   ⟨(((live |> fun (s : State) =>
     { s with buffers := { s.buffers with dlq := ({ packet := { len := 64, placed := some ⟨.deep 0 0 0, 1, 0⟩ }, cause := 1, queue := 5, annotation := [], seconds := 0, nanoseconds := 0 } : DlqEntry) :: ([] : List DlqEntry) } })
     |> fun (s : State) => { s with buffers := { s.buffers with dlqRing := some ((0#64, 0) : W64 × Nat) } }) |> fun (s
     : State) => { s with courier := { s.courier with pasidOn := true } }.setSlice 0
     { s.slice 0 with st := .active }),
     ({ packet := { len := 64, placed := some ⟨.deep 0 0 0, 1, 0⟩ }, cause := 1, queue := 5, annotation := [], seconds := 0, nanoseconds := 0 }
     : DlqEntry), ([] : List DlqEntry), ((0#64, 0) : W64 × Nat), by decide +kernel⟩,
   ⟨(((live |> fun (s : State) =>
     { s with buffers := { s.buffers with dlq := ({ packet := { len := 64, lost := true }, cause := 1, queue := 5, annotation := [], seconds := 0, nanoseconds := 0 } : DlqEntry) :: ([] : List DlqEntry) } })
     |> fun (s : State) => { s with buffers := { s.buffers with dlqRing := some ((0#64, 0) : W64 × Nat) } }) |> fun (s
     : State) => { s with courier := { s.courier with pasidOn := true } }.setSlice 0
     { s.slice 0 with st := .active }),
     ({ packet := { len := 64, lost := true }, cause := 1, queue := 5, annotation := [], seconds := 0, nanoseconds := 0 }
     : DlqEntry), ([] : List DlqEntry), ((0#64, 0) : W64 × Nat), by decide +kernel⟩,
   ⟨((live |> fun (s : State) =>
     { s with buffers := { s.buffers with dlq := ({ packet := { len := 64, placed := some ⟨.deep 0 0 0, 1, 0⟩, fetching := true }, cause := 1, queue := 5, annotation := [], seconds := 0, nanoseconds := 0 } : DlqEntry) :: ([] : List DlqEntry) } })
     |> fun (s : State) => { s with buffers := { s.buffers with dlqRing := some ((0#64, 0) : W64 × Nat) } }),
     ({ packet := { len := 64, placed := some ⟨.deep 0 0 0, 1, 0⟩, fetching := true }, cause := 1, queue := 5, annotation := [], seconds := 0, nanoseconds := 0 }
     : DlqEntry), ([] : List DlqEntry), ((0#64, 0) : W64 × Nat), by decide +kernel⟩,
   ⟨(claimOn (live |> fun (s : State) => { s with buffers := { s.buffers with moving := [] } }) (⟨0, 1#32⟩ :
     LetterId) 0x0A01 [p4 (48#32 : W32), p4 (64#32 : W32), p4 (48#32 : W32), p4 (128#32 : W32)]), (⟨0, 1#32⟩ :
     LetterId), 48#32, 64#32, 48#32, 128#32, by unfold Claimed; decide +kernel⟩,
   ⟨(claimOn ((live |> fun (s : State) => { s with buffers := { s.buffers with moving := [] } }) |> fun (s : State)
     =>
     { s with buffers := { s.buffers with granules := (List.range 288).map fun g => (g, if g < 9 then 0 else 1 + g % 3), owners := (List.range 9).map fun g => (BufId.shallow (Fin.ofNat 288 g) 0, ⟨Owner.queue 5, 0, 1⟩) } })
     (⟨0, 1#32⟩ : LetterId) 0x0A01 [p4 (8#32 : W32), p4 (94#32 : W32), p4 (93#32 : W32), p4 (93#32 : W32)]), _, (⟨0,
     1#32⟩ : LetterId), 8#32, 94#32, 93#32, 93#32, rfl, by unfold Claimed; decide +kernel⟩,
   ⟨(claimOn live (⟨0, 1#32⟩ : LetterId) 0x0A02 [p4 (4#32 : W32), p8 (0#64 : W64), p8 (0#64 : W64), p8 (0#64 : W64),
     p8 (0#64 : W64)]), _, (⟨0, 1#32⟩ : LetterId), 4#32, 0#64, 0#64, 0#64, 0#64, by unfold Claimed; decide +kernel,
     by decide +kernel, by decide +kernel, by decide +kernel, by decide +kernel, by decide +kernel, rfl,
     by decide +kernel⟩,
   ⟨(claimOn live (⟨0, 1#32⟩ : LetterId) 0x0A03 [p4
     ((({ profile := 0#32, guaranteed := 0#64, spillEnable := 0#32, spill := 0#64, alphaShallow := 0#32, alphaDeep := 0#32, max := 0#64, yellow := 0#32, red := 0#32 }
     : AdmissionArgs) |> fun x => { x with max := BitVec.ofNat _ 2048 }) : AdmissionArgs).profile, p8
     ((({ profile := 0#32, guaranteed := 0#64, spillEnable := 0#32, spill := 0#64, alphaShallow := 0#32, alphaDeep := 0#32, max := 0#64, yellow := 0#32, red := 0#32 }
     : AdmissionArgs) |> fun x => { x with max := BitVec.ofNat _ 2048 }) : AdmissionArgs).guaranteed, p4
     ((({ profile := 0#32, guaranteed := 0#64, spillEnable := 0#32, spill := 0#64, alphaShallow := 0#32, alphaDeep := 0#32, max := 0#64, yellow := 0#32, red := 0#32 }
     : AdmissionArgs) |> fun x => { x with max := BitVec.ofNat _ 2048 }) : AdmissionArgs).spillEnable, p8
     ((({ profile := 0#32, guaranteed := 0#64, spillEnable := 0#32, spill := 0#64, alphaShallow := 0#32, alphaDeep := 0#32, max := 0#64, yellow := 0#32, red := 0#32 }
     : AdmissionArgs) |> fun x => { x with max := BitVec.ofNat _ 2048 }) : AdmissionArgs).spill, p4
     ((({ profile := 0#32, guaranteed := 0#64, spillEnable := 0#32, spill := 0#64, alphaShallow := 0#32, alphaDeep := 0#32, max := 0#64, yellow := 0#32, red := 0#32 }
     : AdmissionArgs) |> fun x => { x with max := BitVec.ofNat _ 2048 }) : AdmissionArgs).alphaShallow, p4
     ((({ profile := 0#32, guaranteed := 0#64, spillEnable := 0#32, spill := 0#64, alphaShallow := 0#32, alphaDeep := 0#32, max := 0#64, yellow := 0#32, red := 0#32 }
     : AdmissionArgs) |> fun x => { x with max := BitVec.ofNat _ 2048 }) : AdmissionArgs).alphaDeep, p8
     ((({ profile := 0#32, guaranteed := 0#64, spillEnable := 0#32, spill := 0#64, alphaShallow := 0#32, alphaDeep := 0#32, max := 0#64, yellow := 0#32, red := 0#32 }
     : AdmissionArgs) |> fun x => { x with max := BitVec.ofNat _ 2048 }) : AdmissionArgs).max, p4
     ((({ profile := 0#32, guaranteed := 0#64, spillEnable := 0#32, spill := 0#64, alphaShallow := 0#32, alphaDeep := 0#32, max := 0#64, yellow := 0#32, red := 0#32 }
     : AdmissionArgs) |> fun x => { x with max := BitVec.ofNat _ 2048 }) : AdmissionArgs).yellow, p4
     ((({ profile := 0#32, guaranteed := 0#64, spillEnable := 0#32, spill := 0#64, alphaShallow := 0#32, alphaDeep := 0#32, max := 0#64, yellow := 0#32, red := 0#32 }
     : AdmissionArgs) |> fun x => { x with max := BitVec.ofNat _ 2048 }) : AdmissionArgs).red]), (⟨0, 1#32⟩ :
     LetterId),
     (({ profile := 0#32, guaranteed := 0#64, spillEnable := 0#32, spill := 0#64, alphaShallow := 0#32, alphaDeep := 0#32, max := 0#64, yellow := 0#32, red := 0#32 }
     : AdmissionArgs) |> fun x => { x with max := BitVec.ofNat _ 2048 }), _, rfl, by unfold Claimed; decide +kernel⟩,
   ⟨(claimOn (live |> fun (s : State) => { s with buffers := { s.buffers with dlqRing := none } }) (⟨0, 1#32⟩ :
     LetterId) 0x0A04 [p4
     ({ mask := 0x3E#32, reasons := 0#512, limit := 67108864#64, snap := 9728#64, ring := 1#64, depth := 1#32 } :
     DlqArgs).mask, pLe
     ({ mask := 0x3E#32, reasons := 0#512, limit := 67108864#64, snap := 9728#64, ring := 1#64, depth := 1#32 } :
     DlqArgs).reasons.toNat 64, p8
     ({ mask := 0x3E#32, reasons := 0#512, limit := 67108864#64, snap := 9728#64, ring := 1#64, depth := 1#32 } :
     DlqArgs).limit, p8
     ({ mask := 0x3E#32, reasons := 0#512, limit := 67108864#64, snap := 9728#64, ring := 1#64, depth := 1#32 } :
     DlqArgs).snap, p8
     ({ mask := 0x3E#32, reasons := 0#512, limit := 67108864#64, snap := 9728#64, ring := 1#64, depth := 1#32 } :
     DlqArgs).ring, p4
     ({ mask := 0x3E#32, reasons := 0#512, limit := 67108864#64, snap := 9728#64, ring := 1#64, depth := 1#32 } :
     DlqArgs).depth]), (⟨0, 1#32⟩ : LetterId),
     ({ mask := 0x3E#32, reasons := 0#512, limit := 67108864#64, snap := 9728#64, ring := 1#64, depth := 1#32 } :
     DlqArgs), by unfold Claimed; decide +kernel⟩,
   ⟨(claimOn live (⟨0, 1#32⟩ : LetterId) 0x0A05 [p4 (0#32 : W32), p4 (1#32 : W32), p4 (1#32 : W32), p8 (512#64 :
     W64), p8 (256#64 : W64)]), (⟨0, 1#32⟩ : LetterId), 0#32, 1#32, 1#32, 512#64, 256#64,
     by unfold Claimed; decide +kernel⟩,
   ⟨(claimOn live (⟨0, 1#32⟩ : LetterId) 0x1501 [p4 (1023#32 : W32), p4 (0x8000003F#32 : W32), p8 (0#64 : W64), p4
     (1#32 : W32), p4 (1#32 : W32)]), (⟨0, 1#32⟩ : LetterId), 1023#32, 0x8000003F#32, 0#64, 1#32, 1#32,
     by unfold Claimed; decide +kernel⟩,
   ⟨(claimOn live (⟨0, 1#32⟩ : LetterId) 0x1502 [p4 (1023#32 : W32)]), (⟨0, 1#32⟩ : LetterId), 1023#32,
     by unfold Claimed; decide +kernel⟩⟩

/-- The hypotheses of `Obligations.SchedulerWindowsAndVirtualQueues` are met. -/
theorem witness_SchedulerWindowsAndVirtualQueues :
    (∃ (s : State) (u : State) (t : State) (port : Fin 192) (q : Nat) (path : List (Nat × Bool)), s.hasPort port =
      true ∧ u = s.readNodes port ∧ u.portOpen port = true ∧ u.servable port = true ∧ nextAfter u.queues.lastPort
      ((List.range u.variant.lanes).filter u.servable) = some port.val ∧ (u.countGuard port).walk port 5 (nodeKey 4
      port) [] = (t, some (q, path))) ∧
    (∃ (s : State) (u : State) (port : Fin 192), s.hasPort port = true ∧ u = s.readNodes port ∧ u.portOpen port =
      true ∧ u.servable port = false) ∧
    (∃ (s : State) (u : State) (port : Fin 192), s.hasPort port = true ∧ u = s.readNodes port ∧ u.portOpen port =
      false) ∧
    (∃ (s : State) (a : State) (u : State) (port : Nat) (q : Nat) (path : List (Nat × Bool)) (p : Packet) (ps : List
      Packet) (pirs : List Nat) (cirs : List Nat), a = s.ageHeads q (s.queue q).packets.length ∧ (a.queue q).packets =
      p :: ps ∧ a.debitPath port p.len path = (u, pirs, cirs) ∧ (((u.unlink q).chargePace p.len).count (qDeqIndex q) 1
      p.len).dataHere p = true) ∧
    (∃ (s : State) (t : State) (x : Selected) (p : Packet), readyWindow s.dataHere [] s.queues.selected = some x ∧
      x.packet.lost = false ∧ x.packet.poisoned = false ∧ s.windowsOut < 4096 ∧ p =
      { x.packet with refTime := s.units, winNo := s.d2d.nextSorter } ∧ State.sendFlit
      { s with queues := { s.queues with selected := s.queues.selected.erase x } } false (.window p) = some t) ∧
    (∃ (s : State) (x : Selected), readyWindow s.dataHere [] s.queues.selected = some x ∧ x.packet.lost = true) ∧
    (∃ (s : State) (x : Selected), readyWindow s.dataHere [] s.queues.selected = some x ∧ x.packet.lost = false ∧
      x.packet.poisoned = false ∧ 4096 ≤ s.windowsOut) ∧
    (∃ (s : State) (u : State) (t : State) (rivals : List Rival) (r : Packet) (rest : List (Packet × Bool)) (x :
      Selected) (p : Packet), s.queues.returned = (r, true) :: rest ∧ (s.queues.away.find? fun x => x.packet.winNo =
      r.winNo) = some x ∧ x.packet.whole = true ∧ (x.packet.poisoned = false ∨ x.packet.ct = true) ∧ (s.meet rest
      x).tagHandoff (x.rejoin r) = (p, u) ∧ u.sendFlit false (.transmit { p with placed := none }) = some t) ∧
    (∃ (s : State) (u : State) (rivals : List Rival) (r : Packet) (rest : List (Packet × Bool)) (x : Selected) (p :
      Packet), s.queues.returned = (r, true) :: rest ∧ (s.queues.away.find? fun x => x.packet.winNo = r.winNo) = some
      x ∧ x.packet.whole = true ∧ (x.packet.poisoned = false ∨ x.packet.ct = true) ∧ (s.meet rest x).tagHandoff
      (x.rejoin r) = (p, u) ∧ u.sendFlit false (.transmit { p with placed := none }) = none) ∧
    (∃ (s : State) (rivals : List Rival) (r : Packet) (forward : Bool) (rest : List (Packet × Bool)),
      s.queues.returned = (r, forward) :: rest ∧ (s.queues.away.find? fun x => x.packet.winNo = r.winNo) = none) ∧
    (∃ (s : State) (u : State) (rivals : List Rival) (r : Packet) (rest : List (Packet × Bool)) (x : Selected) (b :
      Placed), s.queues.returned = (r, false) :: rest ∧ (s.queues.away.find? fun x => x.packet.winNo = r.winNo) = some
      x ∧ x.packet.whole = true ∧ x.packet.poisoned = false ∧ u = s.meet rest x ∧ (u.chan (r.hostCode % 64)).st ≠
      .closed ∧ x.packet.placed = some b) ∧
    (∃ (s : State) (u : State) (rivals : List Rival) (r : Packet) (rest : List (Packet × Bool)) (x : Selected),
      s.queues.returned = (r, false) :: rest ∧ (s.queues.away.find? fun x => x.packet.winNo = r.winNo) = some x ∧
      x.packet.whole = true ∧ x.packet.poisoned = false ∧ u = s.meet rest x ∧ (u.chan (r.hostCode % 64)).st = .closed) ∧
    (∃ (s : State) (u : State) (voq : BitVec 17) (readError : Bool) (p : Packet) (ps : List Packet), s.voqMay
      voq.toNat = true ∧ (s.txStream (s.queue voq.toNat).stream).cut = none ∧ u = s.ageHeads voq.toNat (s.queue
      voq.toNat).packets.length ∧ (u.queue voq.toNat).packets = p :: ps ∧ p.whole = true ∧ u.headIs p = .here) ∧
    (∃ (s : State) (u : State) (voq : BitVec 17) (readError : Bool) (p : Packet) (ps : List Packet), s.voqMay
      voq.toNat = true ∧ (s.txStream (s.queue voq.toNat).stream).cut = none ∧ u = s.ageHeads voq.toNat (s.queue
      voq.toNat).packets.length ∧ (u.queue voq.toNat).packets = p :: ps ∧ p.whole = true ∧ u.headIs p = .deep) ∧
    (∃ (s : State) (u : State) (voq : BitVec 17) (readError : Bool) (p : Packet) (ps : List Packet), s.voqMay
      voq.toNat = true ∧ (s.txStream (s.queue voq.toNat).stream).cut = none ∧ u = s.ageHeads voq.toNat (s.queue
      voq.toNat).packets.length ∧ (u.queue voq.toNat).packets = p :: ps ∧ p.whole = true ∧ (u.headIs p = .fenced ∨
      u.headIs p = .coming)) ∧
    (∃ (s : State) (u : State) (voq : BitVec 17) (readError : Bool) (p : Packet) (ps : List Packet), s.voqMay
      voq.toNat = true ∧ (s.txStream (s.queue voq.toNat).stream).cut = none ∧ u = s.ageHeads voq.toNat (s.queue
      voq.toNat).packets.length ∧ (u.queue voq.toNat).packets = p :: ps ∧ p.whole = true ∧ u.headIs p = .lost) ∧
    (∃ (s : State) (u : State) (voq : BitVec 17) (readError : Bool) (p : Packet) (ps : List Packet) (r : CutRun)
      (bytes : List Byte), s.voqMay voq.toNat = true ∧ (s.txStream (s.queue voq.toNat).stream).cut = none ∧ u =
      s.ageHeads voq.toNat (s.queue voq.toNat).packets.length ∧ (u.queue voq.toNat).packets = p :: ps ∧ p.whole =
      false ∧ (u.cut p.port).running = some r ∧ r.queue = voq.toNat ∧ r.on = true ∧ r.sent = none ∧ bytes = ((u.queue
      voq.toNat).bytes p).take 528) ∧
    (∃ (s : State) (voq : BitVec 17) (readError : Bool), s.voqMay voq.toNat = false) ∧
    (∃ (s : State) (q : Nat), (s.queue q).mcast = true) ∧
    (∃ (s : State) (q : Nat), (s.queue q).mcast = false) ∧
    (∃ (s : State) (q : Nat) (n : Nat) (p : Packet) (ps : List Packet), (s.queue q).packets = p :: ps ∧ s.aged
      (s.queue q) p = false) ∧
    (∃ (s : State) (q : Nat) (n : Nat) (p : Packet) (ps : List Packet), (s.queue q).packets = p :: ps ∧ s.aged
      (s.queue q) p = true) ∧
    (∃ (s : State) (t : State) (port : Fin 192) (c : Nat), s.hasPort port = true ∧ ((s.noteStops port).portQ
      port).holdSt = .serving ∧ (s.noteStops port).nodePir (nodeKey 4 port) ≠ 0 ∧ 0 ≤ (s.noteStops port).creditNow
      port ∧ (s.noteStops port).pickClass port = (t, some c)) ∧
    (∃ (s : State) (port : Fin 192), s.hasPort port = true ∧ (s.noteStops port).creditNow port < 0) ∧
    (∃ (s : State) (port : Fin 192), s.hasPort port = true ∧ ((s.noteStops port).portQ port).holdSt ≠ .serving) :=
  ⟨⟨(((((live |> fun (s : State) => s.setPort 0 { s.port 0 with kind := .native, mode := 1, state := .up }) |> fun
     (s : State) => { s with d2d := { s.d2d with links := [(0, { up := true })] } }) |> fun (s : State) => s.setQueue
     131072 { s.queue 131072 with present := true, maxAge := 0, packets := [{ len := 64 }] }) |> fun (s : State) =>
     s.setNode (queueNode 131072) { s.node (queueNode 131072) with present := true, parent := some (4, 0) }) |> fun (s
     : State) => { s with queues := { s.queues with lastPort := 191 } }), (((((((live |> fun (s : State) => s.setPort
     0 { s.port 0 with kind := .native, mode := 1, state := .up }) |> fun (s : State) =>
     { s with d2d := { s.d2d with links := [(0, { up := true })] } }) |> fun (s : State) => s.setQueue 131072
     { s.queue 131072 with present := true, maxAge := 0, packets := [{ len := 64 }] }) |> fun (s : State) => s.setNode
     (queueNode 131072) { s.node (queueNode 131072) with present := true, parent := some (4, 0) }) |> fun (s : State)
     => { s with queues := { s.queues with lastPort := 191 } }) : State).readNodes (0 : Fin 192)), (((((((((((live |>
     fun (s : State) => s.setPort 0 { s.port 0 with kind := .native, mode := 1, state := .up }) |> fun (s : State) =>
     { s with d2d := { s.d2d with links := [(0, { up := true })] } }) |> fun (s : State) => s.setQueue 131072
     { s.queue 131072 with present := true, maxAge := 0, packets := [{ len := 64 }] }) |> fun (s : State) => s.setNode
     (queueNode 131072) { s.node (queueNode 131072) with present := true, parent := some (4, 0) }) |> fun (s : State)
     => { s with queues := { s.queues with lastPort := 191 } }) : State).readNodes (0 : Fin 192)) : State).countGuard
     (0 : Fin 192)).walk (0 : Fin 192) 5 (nodeKey 4 (0 : Fin 192)) []).1), (0 : Fin 192), 131072, ([(nodeKey 0 0,
     false)] : List (Nat × Bool)), by decide +kernel, rfl, by decide +kernel⟩,
   ⟨((live |> fun (s : State) => s.setPort 0 { s.port 0 with kind := .native, mode := 1, state := .up }) |> fun (s :
     State) => { s with d2d := { s.d2d with links := [(0, { up := true })] } }), _, (0 : Fin 192), by decide +kernel,
     rfl, by decide +kernel⟩,
   ⟨(live |> fun (s : State) => s.setPortQ (0 : Fin 192) { s.portQ (0 : Fin 192) with holdSt := .held }), _, (0 :
     Fin 192), by decide +kernel, rfl, by decide +kernel⟩,
   ⟨(live |> fun (s : State) => s.setQueue 131072
     { s.queue 131072 with present := true, maxAge := 0, packets := ({ len := 64 } : Packet) :: ([] : List Packet) }),
     _, _, 0, 131072, ([] : List (Nat × Bool)), ({ len := 64 } : Packet), ([] : List Packet), ([] : List Nat), ([] :
     List Nat), rfl, by decide +kernel, rfl, rfl⟩,
   ⟨pickedState, ((windowSent pickedState).getD live), picked, (windowOf pickedState), by decide +kernel,
     by decide +kernel, by decide +kernel, by decide +kernel, rfl, by decide +kernel⟩,
   ⟨(live |> fun (s : State) =>
     { s with queues := { s.queues with selected := [(⟨{ lost := true }, 131072, [], []⟩ : Selected)] } }),
     (⟨{ lost := true }, 131072, [], []⟩ : Selected), by decide +kernel⟩,
   ⟨((live |> fun (s : State) =>
     { s with queues := { s.queues with selected := [(⟨{}, 131072, [], []⟩ : Selected)] } }) |> fun (s : State) =>
     { s with clerks := { s.clerks with windows := List.replicate 4096 {} } }), (⟨{}, 131072, [], []⟩ : Selected),
     by decide +kernel⟩,
   ⟨backUp, rejoined.2, ((rejoined.2.sendFlit false (.transmit { rejoined.1 with placed := none })).getD live), ([]
     : List Rival), ({} : Packet), ([] : List (Packet × Bool)), picked, rejoined.1, by decide +kernel⟩,
   ⟨backState, (((backState.meet [] picked).tagHandoff (picked.rejoin {})).2), ([] : List Rival), ({} : Packet), ([]
     : List (Packet × Bool)), picked, (((backState.meet [] picked).tagHandoff (picked.rejoin {})).1),
     by decide +kernel⟩,
   ⟨(live |> fun (s : State) =>
     { s with queues := { s.queues with returned := (({ } : Packet), false) :: ([] : List (Packet × Bool)) } }), ([] :
     List Rival), ({ } : Packet), false, ([] : List (Packet × Bool)), by decide +kernel⟩,
   ⟨(((live |> fun (s : State) =>
     { s with queues := { s.queues with returned := (({ } : Packet), false) :: ([] : List (Packet × Bool)) } }) |> fun
     (s : State) =>
     { s with queues := { s.queues with away := [(⟨{ placed := some (⟨.shallow 0 0, 1, 0⟩ : Placed) }, 131072, [], []⟩ : Selected)] } })
     |> fun (s : State) => s.setChan 0 { s.chan 0 with st := .running }), _, ([] : List Rival), ({ } : Packet), ([] :
     List (Packet × Bool)), (⟨{ placed := some (⟨.shallow 0 0, 1, 0⟩ : Placed) }, 131072, [], []⟩ : Selected),
     (⟨.shallow 0 0, 1, 0⟩ : Placed), by decide +kernel, by decide +kernel, by decide +kernel, by decide +kernel, rfl,
     by decide +kernel⟩,
   ⟨((live |> fun (s : State) =>
     { s with queues := { s.queues with returned := (({ } : Packet), false) :: ([] : List (Packet × Bool)) } }) |> fun
     (s : State) => { s with queues := { s.queues with away := [(⟨{}, 131072, [], []⟩ : Selected)] } }), _, ([] : List
     Rival), ({ } : Packet), ([] : List (Packet × Bool)), (⟨{}, 131072, [], []⟩ : Selected), by decide +kernel,
     by decide +kernel, by decide +kernel, by decide +kernel, rfl, by decide +kernel⟩,
   ⟨voqHolds [({ len := 64 } : Packet)], _, 0#17, false, ({ len := 64 } : Packet), ([] : List Packet),
     by decide +kernel, by decide +kernel, rfl, by decide +kernel⟩,
   ⟨voqHolds [({ len := 64, placed := some ⟨.deep 0 0 0, 1, 0⟩ } : Packet)], _, 0#17, false,
     ({ len := 64, placed := some ⟨.deep 0 0 0, 1, 0⟩ } : Packet), ([] : List Packet), by decide +kernel,
     by decide +kernel, rfl, by decide +kernel⟩,
   ⟨voqHolds [({ len := 64, placed := some ⟨.deep 0 0 0, 1, 0⟩, fetching := true } : Packet)], _, 0#17, false,
     ({ len := 64, placed := some ⟨.deep 0 0 0, 1, 0⟩, fetching := true } : Packet), ([] : List Packet),
     by decide +kernel, by decide +kernel, rfl, by decide +kernel⟩,
   ⟨voqHolds [({ len := 64, lost := true } : Packet)], _, 0#17, false, ({ len := 64, lost := true } : Packet), ([] :
     List Packet), by decide +kernel, by decide +kernel, rfl, by decide +kernel⟩,
   ⟨((voqHolds [({ len := 64, whole := false } : Packet)]).setCut 0
     { ingress := true, running := some ({ queue := 0, first := 0 } : CutRun) }), _, 0#17, false,
     ({ len := 64, whole := false } : Packet), ([] : List Packet), ({ queue := 0, first := 0 } : CutRun), _,
     by decide +kernel, by decide +kernel, rfl, by decide +kernel, by decide +kernel, by decide +kernel,
     by decide +kernel, by decide +kernel, by decide +kernel, rfl⟩,
   ⟨live, 0#17, false, by decide +kernel⟩,
   ⟨(live |> fun (s : State) => s.setQueue (0 : Nat) { s.queue (0 : Nat) with mcast := true }), 0,
     by decide +kernel⟩,
   ⟨(live |> fun (s : State) => s.setQueue (0 : Nat) { s.queue (0 : Nat) with mcast := false }), 0,
     by decide +kernel⟩,
   ⟨((live |> fun (s : State) => s.setQueue (0 : Nat)
     { s.queue (0 : Nat) with packets := ({ len := 64 } : Packet) :: ([] : List Packet) }) |> fun (s : State) =>
     s.setQueue (0 : Nat) { s.queue (0 : Nat) with maxAge := 0 }), 0, 0, ({ len := 64 } : Packet), ([] : List Packet),
     by decide +kernel⟩,
   ⟨(live |> fun (s : State) => s.setQueue (0 : Nat)
     { s.queue (0 : Nat) with packets := ({ } : Packet) :: ([] : List Packet) }), 0, 0, ({ } : Packet), ([] : List
     Packet), by decide +kernel⟩,
   ⟨(((live |> fun (s : State) => s.setPort 0 { s.port 0 with kind := .native, mode := 1, state := .up }) |> fun (s
     : State) => s.setPortQ 0 { s.portQ 0 with creditTok := 4096 * 65536 }) |> fun (s : State) =>
     { s with queues := { s.queues with arb := [((1, 5), ⟨0, 3, 0⟩)] } }), (((((((live |> fun (s : State) => s.setPort
     0 { s.port 0 with kind := .native, mode := 1, state := .up }) |> fun (s : State) => s.setPortQ 0
     { s.portQ 0 with creditTok := 4096 * 65536 }) |> fun (s : State) =>
     { s with queues := { s.queues with arb := [((1, 5), ⟨0, 3, 0⟩)] } }) : State).noteStops (0 : Fin 192)).pickClass
     (0 : Fin 192)).1), (0 : Fin 192), 3, by decide +kernel⟩,
   ⟨(live |> fun (s : State) => s.setPortQ (0 : Fin 192)
     { s.portQ (0 : Fin 192) with creditTok := -1, creditAt := s.ns }), (0 : Fin 192), by decide +kernel⟩,
   ⟨(live |> fun (s : State) => s.setPortQ (0 : Fin 192) { s.portQ (0 : Fin 192) with holdSt := .held }), (0 : Fin
     192), by decide +kernel⟩⟩

/-- The hypotheses of `Obligations.HoldsFlushesAndGates` are met. -/
theorem witness_HoldsFlushesAndGates :
    (∃ (s : State) (port : Fin 192), s.hasPort port = true ∧ (s.portQ port).holdSt = .held ∧ (s.portQ port).heldAt +
      (s.portQ port).hold < s.up) ∧
    (∃ (s : State) (u : State) (p : Nat), u = s.event (s.owner 0x14 p) (s.mkEvent 0x0001 p) ∧ (u.portQ p).holdSt =
      .held ∧ u.up ≤ (u.portQ p).heldAt + (u.portQ p).hold) ∧
    (∃ (s : State) (port : Fin 192), s.hasPort port = true ∧ s.up ≤ (s.portQ port).heldAt + (s.portQ port).hold) ∧
    (∃ (s : State) (queue : BitVec 19) (l : LetterId), (s.queue queue.toNat).flush = some l) ∧
    (∃ (s : State) (q : Nat) (n : Nat), (s.queue q).packets = []) ∧
    (∃ (s : State) (q : Nat) (n : Nat) (p : Packet) (ps : List Packet), (s.queue q).packets = p :: ps) ∧
    (∃ (s : State) (u : State) (port : Fin 192), s.hasPort port = true ∧ (s.portQ port).flushing = true ∧ u =
      (s.portQueues port).foldl (fun s q => s.flushHeld q (s.queue q).packets.length) s) ∧
    (∃ (s : State) (port : Fin 192) (g : Gate), s.hasPort port = true ∧ (s.portQ port).gates[(s.portQ port).gateIdx]?
      = some g ∧ (s.portQ port).gateAt + g.interval * 65536 ≤ s.units) ∧
    (∃ (s : State) (port : Fin 192), s.hasPort port = true ∧ (s.portQ port).gatesT ≤ s.units ∧ (s.portQ
      port).gatesPage.state = .armed ∧ ((s.portQ port).gatesPage.t = 0 ∨ (s.portQ port).gatesPage.t ≤ s.units ∧
      (s.portQ port).gatesPage.good.getD s.timeGood = true)) ∧
    (∃ (s : State) (port : Fin 192), s.hasPort port = true ∧ (s.portQ port).gatesT ≤ s.units ∧ (s.portQ
      port).gatesPage.state = .armed ∧ (s.portQ port).gatesPage.t ≠ 0 ∧ (s.portQ port).gatesPage.t ≤ s.units ∧
      (s.portQ port).gatesPage.good.getD s.timeGood = false) ∧
    (∃ (s : State) (p : Fin 192), (s.portQ p).gatesPage.state = .deferred ∧ s.goodFor 1000000 = true ∧ s.crossed
      100000 = true) ∧
    (∃ (s : State), s.epoch.page = .deferred ∧ s.goodFor 1000000 = true ∧ s.crossed 100000 = true) ∧
    (∃ (s : State) (page : PageRef), s.goodFor 1000000 = false) :=
  ⟨⟨(live |> fun (s : State) => s.setPortQ (0 : Fin 192) { s.portQ (0 : Fin 192) with holdSt := .held }), (0 : Fin
     192), by decide +kernel⟩,
   ⟨(live |> fun (s : State) => s.setPortQ (0 : Nat) { s.portQ (0 : Nat) with holdSt := .held, heldAt := s.up }), _,
     0, rfl, by decide +kernel⟩,
   ⟨(live |> fun (s : State) => s.setPortQ (0 : Fin 192) { s.portQ (0 : Fin 192) with heldAt := s.time.uptime }), (0
     : Fin 192), by decide +kernel⟩,
   ⟨(live |> fun (s : State) => s.setQueue (0#19 : BitVec 19).toNat
     { s.queue (0#19 : BitVec 19).toNat with flush := some (⟨0, 1#32⟩ : LetterId) }), 0#19, (⟨0, 1#32⟩ : LetterId),
     by decide +kernel⟩,
   ⟨(live |> fun (s : State) => s.setQueue (0 : Nat) { s.queue (0 : Nat) with packets := [] }), 0, 0,
     by decide +kernel⟩,
   ⟨(live |> fun (s : State) => s.setQueue (0 : Nat)
     { s.queue (0 : Nat) with packets := ({ } : Packet) :: ([] : List Packet) }), 0, 0, ({ } : Packet), ([] : List
     Packet), by decide +kernel⟩,
   ⟨(live |> fun (s : State) => s.setPortQ (0 : Fin 192) { s.portQ (0 : Fin 192) with flushing := true }), _, (0 :
     Fin 192), by decide +kernel, by decide +kernel, rfl⟩,
   ⟨(live |> fun (s : State) => s.setPortQ (0 : Fin 192)
     { s.portQ (0 : Fin 192) with gates := [((⟨255, 1000⟩) : Gate)] }), (0 : Fin 192), (⟨255, 1000⟩),
     by decide +kernel⟩,
   ⟨((live |> fun (s : State) => s.setPortQ (0 : Fin 192) (s.portQ (0 : Fin 192) |> fun x =>
     { x with gatesPage := { x.gatesPage with state := .armed } })) |> fun (s : State) => s.setPortQ (0 : Fin 192)
     (s.portQ (0 : Fin 192) |> fun x => { x with gatesPage := { x.gatesPage with t := 0 } })), (0 : Fin 192),
     by decide +kernel⟩,
   ⟨((live |> fun (s : State) => s.setPortQ (0 : Fin 192) (s.portQ (0 : Fin 192) |> fun x =>
     { x with gatesPage := { x.gatesPage with state := .armed } })) |> fun (s : State) => s.setPortQ (0 : Fin 192)
     { s.portQ (0 : Fin 192) with gatesPage := { state := .armed, t := 1 } }), (0 : Fin 192), by decide +kernel⟩,
   ⟨((live |> fun (s : State) => s.setPortQ (0 : Fin 192) (s.portQ (0 : Fin 192) |> fun x =>
     { x with gatesPage := { x.gatesPage with state := .deferred } })) |> fun (s : State) =>
     { s with time := { s.time with state := .locked, bound := 100, boundAt := s.time.uptime, goodSince := some 0 } }),
     (0 : Fin 192), by decide +kernel⟩,
   ⟨((live |> fun (s : State) => { s with epoch := { s.epoch with page := .deferred } }) |> fun (s : State) =>
     { s with time := { s.time with state := .locked, bound := 100, boundAt := s.time.uptime, goodSince := some 0 } }),
     by decide +kernel⟩,
   ⟨live, (.epoch : PageRef), by decide +kernel⟩⟩

/-- The hypotheses of `Obligations.QueueLetters` are met. -/
theorem witness_QueueLetters :
    (∃ (s : State) (l : LetterId) (a : QueueArgs) (v : Queue), v =
      { s.queue a.queue.toNat with present := true, admission := a.admission.toNat, maxAge := a.maxAge.toNat, destModule := a.destModule.toNat, destPort := a.destPort.toNat, cls := a.cls.toNat, eqBase := a.eqBase.toNat, eqMask := BitVec.ofNat 16 a.eqMask.toNat }
      ∧ Claimed s l 0x0B01 [p4 a.queue, p4 a.admission, p8 a.maxAge, p4 a.destModule, p4 a.destPort, p4 a.cls, p4
      a.eqBase, p4 a.eqMask, p4 a.parentLevel, p4 a.parentNode, p4 a.priority, p4 a.weight, p4 a.gate, p4 a.pfcClass]
      ∧ a.queue.toNat < 131072 ∧ (a.maxAge.toNat = 0 ∨ 10000 ≤ a.maxAge.toNat) ∧ a.maxAge.toNat ≤ 10000000000 ∧
      a.destModule.toNat ≤ 127 ∧ a.destPort.toNat ≤ 191 ∧ a.cls.toNat ≤ 7 ∧ 131072 ≤ a.eqBase.toNat ∧ a.eqBase.toNat ≤
      524287 ∧ a.eqMask.toNat ≤ 65535 ∧ a.parentLevel = 0 ∧ a.parentNode = 0 ∧ a.priority = 0 ∧ a.weight = 0 ∧ a.gate
      = 0 ∧ a.pfcClass = 0 ∧ a.admission.toNat ≤ 1023 ∧ s.queueOwner a.queue.toNat = l.slice.val ∧ s.admissionOwned
      l.slice.val a.admission.toNat = true ∧ overGuaranteed (nput a.queue.toNat v s.queues.queues) s.admission
      s.shallowReserve = false) ∧
    (∃ (s : State) (l : LetterId) (a : QueueArgs) (v : Queue), v =
      { s.queue a.queue.toNat with present := true, admission := a.admission.toNat, maxAge := a.maxAge.toNat, gate := a.gate.toNat, pfcClass := some a.pfcClass.toNat }
      ∧ Claimed s l 0x0B01 [p4 a.queue, p4 a.admission, p8 a.maxAge, p4 a.destModule, p4 a.destPort, p4 a.cls, p4
      a.eqBase, p4 a.eqMask, p4 a.parentLevel, p4 a.parentNode, p4 a.priority, p4 a.weight, p4 a.gate, p4 a.pfcClass]
      ∧ 131072 ≤ a.queue.toNat ∧ a.queue.toNat < 524288 ∧ (a.maxAge.toNat = 0 ∨ 10000 ≤ a.maxAge.toNat) ∧
      a.maxAge.toNat ≤ 10000000000 ∧ a.destModule = 0 ∧ a.destPort = 0 ∧ a.cls = 0 ∧ a.eqBase = 0 ∧ a.eqMask = 0 ∧ 1 ≤
      a.parentLevel.toNat ∧ a.parentLevel.toNat ≤ 4 ∧ a.priority.toNat ≤ 7 ∧ 1 ≤ a.weight.toNat ∧ a.weight.toNat ≤
      4096 ∧ a.gate.toNat ≤ 7 ∧ a.pfcClass.toNat ≤ 7 ∧ a.admission.toNat ≤ 1023 ∧ s.queueOwner a.queue.toNat =
      l.slice.val ∧ s.admissionOwned l.slice.val a.admission.toNat = true ∧ s.parentExists l.slice.val
      a.parentLevel.toNat a.parentNode.toNat = true ∧ overGuaranteed (nput a.queue.toNat v s.queues.queues)
      s.admission s.shallowReserve = false) ∧
    (∃ (s : State) (l : LetterId) (a : NodeArgs) (n : Node), n = s.node (nodeKey a.level.toNat a.node.toNat) ∧
      Claimed s l 0x0B02 [p4 a.level, p4 a.node, p4 a.parentLevel, p4 a.parentNode, p4 a.priority, p4 a.weight, p8
      a.cir, p8 a.cbs, p8 a.pir, p8 a.pbs, p4 a.lengthProfile] ∧ 1 ≤ a.level.toNat ∧ a.level.toNat ≤ 3 ∧ a.level.toNat
      < a.parentLevel.toNat ∧ a.parentLevel.toNat ≤ 4 ∧ a.lengthProfile.toNat ≤ 63 ∧ s.nodeOwned l.slice.val
      a.level.toNat a.node.toNat = true ∧ s.parentExists l.slice.val a.parentLevel.toNat a.parentNode.toNat = true ∧
      s.lengthOwned l.slice.val a.lengthProfile.toNat = true ∧ a.priority.toNat ≤ 7 ∧ 1 ≤ a.weight.toNat ∧
      a.weight.toNat ≤ 4096 ∧ (a.cir.toNat = 0 ∨ 1000 ≤ a.cir.toNat) ∧ 64 ≤ a.cbs.toNat ∧ a.cbs.toNat ≤ 16777216 ∧
      1000 ≤ a.pir.toNat ∧ a.pir.toNat ≤ 1600000000000 ∧ a.cir.toNat ≤ a.pir.toNat ∧ 64 ≤ a.pbs.toNat ∧ a.pbs.toNat ≤
      16777216) ∧
    (∃ (s : State) (k : Nat) (n : Node), k / 2 ^ 20 ≠ 4) ∧
    (∃ (s : State) (l : LetterId) (profile : W32) (adjust : W32), Claimed s l 0x0B04 [p4 profile, p4 1, p4 adjust] ∧
      1 ≤ profile.toNat ∧ profile.toNat ≤ 63 ∧ s.owner 0x16 profile.toNat = l.slice.val ∧ -64 ≤ sext 32 adjust.toNat ∧
      sext 32 adjust.toNat ≤ 127) ∧
    (∃ (s : State) (l : LetterId) (a : QueuePortArgs), (∀ x ∈ a.classPriority, x.toNat ≤ 7) ∧ ((∀ x ∈ a.classWeight,
      1 ≤ x.toNat ∧ x.toNat ≤ 4096)) ∧ Claimed s l 0x0B03 ([p4 a.port, p4 a.overspeed, p8 a.grantStop, p8 a.hold, p8
      a.gateLead] ++ a.classPriority.map p4 ++ a.classWeight.map p4) ∧ s.portExists l.slice.val a.port.toNat = true ∧
      a.classPriority.length = 8 ∧ a.classWeight.length = 8 ∧ 100 ≤ a.overspeed.toNat ∧ a.overspeed.toNat ≤ 120 ∧
      16384 ≤ a.grantStop.toNat ∧ a.grantStop.toNat ≤ 16777216 ∧ a.hold.toNat ≤ 1000000000 ∧ a.gateLead.toNat ≤ 100000) ∧
    (∃ (s : State) (l : LetterId) (level : W32) (node : W32), Claimed s l 0x0B05 [p4 level, p4 node] ∧ level.toNat ≤
      3 ∧ s.nodeOwned l.slice.val level.toNat node.toNat = true ∧ (s.node (nodeKey level.toNat node.toNat)).present =
      true ∧ (s.children (nodeKey level.toNat node.toNat)).isEmpty = true ∧ 1 ≤ level.toNat) ∧
    (∃ (s : State) (l : LetterId) (node : W32), Claimed s l 0x0B05 [p4 0, p4 node] ∧ s.nodeOwned l.slice.val 0
      node.toNat = true ∧ (s.node (nodeKey 0 node.toNat)).present = true ∧ (s.children (nodeKey 0 node.toNat)).isEmpty
      = true ∧ (s.queue (node.toNat + 131072)).packets = [] ∧ (s.queue (node.toNat + 131072)).flush = none) ∧
    (∃ (s : State) (l : LetterId) (m : LetterId) (node : W32), Claimed s l 0x0B05 [p4 0, p4 node] ∧ s.nodeOwned
      l.slice.val 0 node.toNat = true ∧ (s.node (nodeKey 0 node.toNat)).present = true ∧ (s.children (nodeKey 0
      node.toNat)).isEmpty = true ∧ (s.queue (node.toNat + 131072)).packets = [] ∧ (s.queue (node.toNat +
      131072)).flush = some m) ∧
    (∃ (s : State) (l : LetterId) (queue : W32), Claimed s l 0x0B06 [p4 queue] ∧ queue.toNat < 524288 ∧ (s.queue
      queue.toNat).present = true ∧ s.queueOwner queue.toNat = l.slice.val ∧ (s.queue queue.toNat).flush = none) ∧
    (∃ (s : State) (l : LetterId) (port : W32) (entries : ListArg W64) (es : List W64), Claimed s l 0x0B07 [p4 port,
      pL entries] ∧ 1 ≤ entries.count.toNat ∧ entries.count.toNat ≤ 256 ∧ s.portExists l.slice.val port.toNat = true ∧
      (s.portQ port.toNat).gatesPage.state.fixed = false ∧ entries.items = some es ∧ es.any badGate = false ∧
      gateCycle (es.map gateOf) ≤ 1000000000) ∧
    (∃ (s : State) (l : LetterId) (port : W32) (at' : TimeParam), Claimed s l 0x0B08 [p4 port, pT at'] ∧ s.portExists
      l.slice.val port.toNat = true ∧ (s.portQ port.toNat).gatesPage.state = .loaded ∧ badTime at' = false ∧ farTime s
      at' = false ∧ pastTime s at' = false ∧ at'.toNat ≠ 0) ∧
    (∃ (s : State) (l : LetterId) (port : W32), Claimed s l 0x0B08 [p4 port, pT 0] ∧ s.portExists l.slice.val
      port.toNat = true ∧ (s.portQ port.toNat).gatesPage.state = .loaded) ∧
    (∃ (s : State) (l : LetterId) (port : W32), Claimed s l 0x0B09 [p4 port] ∧ s.portExists l.slice.val port.toNat =
      true ∧ (s.portQ port.toNat).gatesPage.state.fixed = true) :=
  ⟨⟨(claimOn live (⟨0, 1#32⟩ : LetterId) 0x0B01 [p4
     (((((((((({ queue := 0#32, admission := 0#32, maxAge := 0#64, destModule := 0#32, destPort := 0#32, cls := 0#32, eqBase := 0#32, eqMask := 0#32, parentLevel := 0#32, parentNode := 0#32, priority := 0#32, weight := 0#32, gate := 0#32, pfcClass := 0#32 }
     : QueueArgs) |> fun x => { x with maxAge := BitVec.ofNat _ (0) }) |> fun x =>
     { x with eqBase := BitVec.ofNat _ 131072 }) |> fun x => { x with parentLevel := 0 }) |> fun x =>
     { x with parentNode := 0 }) |> fun x => { x with priority := 0 }) |> fun x => { x with weight := 0 }) |> fun x =>
     { x with gate := 0 }) |> fun x => { x with pfcClass := 0 }) : QueueArgs).queue, p4
     (((((((((({ queue := 0#32, admission := 0#32, maxAge := 0#64, destModule := 0#32, destPort := 0#32, cls := 0#32, eqBase := 0#32, eqMask := 0#32, parentLevel := 0#32, parentNode := 0#32, priority := 0#32, weight := 0#32, gate := 0#32, pfcClass := 0#32 }
     : QueueArgs) |> fun x => { x with maxAge := BitVec.ofNat _ (0) }) |> fun x =>
     { x with eqBase := BitVec.ofNat _ 131072 }) |> fun x => { x with parentLevel := 0 }) |> fun x =>
     { x with parentNode := 0 }) |> fun x => { x with priority := 0 }) |> fun x => { x with weight := 0 }) |> fun x =>
     { x with gate := 0 }) |> fun x => { x with pfcClass := 0 }) : QueueArgs).admission, p8
     (((((((((({ queue := 0#32, admission := 0#32, maxAge := 0#64, destModule := 0#32, destPort := 0#32, cls := 0#32, eqBase := 0#32, eqMask := 0#32, parentLevel := 0#32, parentNode := 0#32, priority := 0#32, weight := 0#32, gate := 0#32, pfcClass := 0#32 }
     : QueueArgs) |> fun x => { x with maxAge := BitVec.ofNat _ (0) }) |> fun x =>
     { x with eqBase := BitVec.ofNat _ 131072 }) |> fun x => { x with parentLevel := 0 }) |> fun x =>
     { x with parentNode := 0 }) |> fun x => { x with priority := 0 }) |> fun x => { x with weight := 0 }) |> fun x =>
     { x with gate := 0 }) |> fun x => { x with pfcClass := 0 }) : QueueArgs).maxAge, p4
     (((((((((({ queue := 0#32, admission := 0#32, maxAge := 0#64, destModule := 0#32, destPort := 0#32, cls := 0#32, eqBase := 0#32, eqMask := 0#32, parentLevel := 0#32, parentNode := 0#32, priority := 0#32, weight := 0#32, gate := 0#32, pfcClass := 0#32 }
     : QueueArgs) |> fun x => { x with maxAge := BitVec.ofNat _ (0) }) |> fun x =>
     { x with eqBase := BitVec.ofNat _ 131072 }) |> fun x => { x with parentLevel := 0 }) |> fun x =>
     { x with parentNode := 0 }) |> fun x => { x with priority := 0 }) |> fun x => { x with weight := 0 }) |> fun x =>
     { x with gate := 0 }) |> fun x => { x with pfcClass := 0 }) : QueueArgs).destModule, p4
     (((((((((({ queue := 0#32, admission := 0#32, maxAge := 0#64, destModule := 0#32, destPort := 0#32, cls := 0#32, eqBase := 0#32, eqMask := 0#32, parentLevel := 0#32, parentNode := 0#32, priority := 0#32, weight := 0#32, gate := 0#32, pfcClass := 0#32 }
     : QueueArgs) |> fun x => { x with maxAge := BitVec.ofNat _ (0) }) |> fun x =>
     { x with eqBase := BitVec.ofNat _ 131072 }) |> fun x => { x with parentLevel := 0 }) |> fun x =>
     { x with parentNode := 0 }) |> fun x => { x with priority := 0 }) |> fun x => { x with weight := 0 }) |> fun x =>
     { x with gate := 0 }) |> fun x => { x with pfcClass := 0 }) : QueueArgs).destPort, p4
     (((((((((({ queue := 0#32, admission := 0#32, maxAge := 0#64, destModule := 0#32, destPort := 0#32, cls := 0#32, eqBase := 0#32, eqMask := 0#32, parentLevel := 0#32, parentNode := 0#32, priority := 0#32, weight := 0#32, gate := 0#32, pfcClass := 0#32 }
     : QueueArgs) |> fun x => { x with maxAge := BitVec.ofNat _ (0) }) |> fun x =>
     { x with eqBase := BitVec.ofNat _ 131072 }) |> fun x => { x with parentLevel := 0 }) |> fun x =>
     { x with parentNode := 0 }) |> fun x => { x with priority := 0 }) |> fun x => { x with weight := 0 }) |> fun x =>
     { x with gate := 0 }) |> fun x => { x with pfcClass := 0 }) : QueueArgs).cls, p4
     (((((((((({ queue := 0#32, admission := 0#32, maxAge := 0#64, destModule := 0#32, destPort := 0#32, cls := 0#32, eqBase := 0#32, eqMask := 0#32, parentLevel := 0#32, parentNode := 0#32, priority := 0#32, weight := 0#32, gate := 0#32, pfcClass := 0#32 }
     : QueueArgs) |> fun x => { x with maxAge := BitVec.ofNat _ (0) }) |> fun x =>
     { x with eqBase := BitVec.ofNat _ 131072 }) |> fun x => { x with parentLevel := 0 }) |> fun x =>
     { x with parentNode := 0 }) |> fun x => { x with priority := 0 }) |> fun x => { x with weight := 0 }) |> fun x =>
     { x with gate := 0 }) |> fun x => { x with pfcClass := 0 }) : QueueArgs).eqBase, p4
     (((((((((({ queue := 0#32, admission := 0#32, maxAge := 0#64, destModule := 0#32, destPort := 0#32, cls := 0#32, eqBase := 0#32, eqMask := 0#32, parentLevel := 0#32, parentNode := 0#32, priority := 0#32, weight := 0#32, gate := 0#32, pfcClass := 0#32 }
     : QueueArgs) |> fun x => { x with maxAge := BitVec.ofNat _ (0) }) |> fun x =>
     { x with eqBase := BitVec.ofNat _ 131072 }) |> fun x => { x with parentLevel := 0 }) |> fun x =>
     { x with parentNode := 0 }) |> fun x => { x with priority := 0 }) |> fun x => { x with weight := 0 }) |> fun x =>
     { x with gate := 0 }) |> fun x => { x with pfcClass := 0 }) : QueueArgs).eqMask, p4
     (((((((((({ queue := 0#32, admission := 0#32, maxAge := 0#64, destModule := 0#32, destPort := 0#32, cls := 0#32, eqBase := 0#32, eqMask := 0#32, parentLevel := 0#32, parentNode := 0#32, priority := 0#32, weight := 0#32, gate := 0#32, pfcClass := 0#32 }
     : QueueArgs) |> fun x => { x with maxAge := BitVec.ofNat _ (0) }) |> fun x =>
     { x with eqBase := BitVec.ofNat _ 131072 }) |> fun x => { x with parentLevel := 0 }) |> fun x =>
     { x with parentNode := 0 }) |> fun x => { x with priority := 0 }) |> fun x => { x with weight := 0 }) |> fun x =>
     { x with gate := 0 }) |> fun x => { x with pfcClass := 0 }) : QueueArgs).parentLevel, p4
     (((((((((({ queue := 0#32, admission := 0#32, maxAge := 0#64, destModule := 0#32, destPort := 0#32, cls := 0#32, eqBase := 0#32, eqMask := 0#32, parentLevel := 0#32, parentNode := 0#32, priority := 0#32, weight := 0#32, gate := 0#32, pfcClass := 0#32 }
     : QueueArgs) |> fun x => { x with maxAge := BitVec.ofNat _ (0) }) |> fun x =>
     { x with eqBase := BitVec.ofNat _ 131072 }) |> fun x => { x with parentLevel := 0 }) |> fun x =>
     { x with parentNode := 0 }) |> fun x => { x with priority := 0 }) |> fun x => { x with weight := 0 }) |> fun x =>
     { x with gate := 0 }) |> fun x => { x with pfcClass := 0 }) : QueueArgs).parentNode, p4
     (((((((((({ queue := 0#32, admission := 0#32, maxAge := 0#64, destModule := 0#32, destPort := 0#32, cls := 0#32, eqBase := 0#32, eqMask := 0#32, parentLevel := 0#32, parentNode := 0#32, priority := 0#32, weight := 0#32, gate := 0#32, pfcClass := 0#32 }
     : QueueArgs) |> fun x => { x with maxAge := BitVec.ofNat _ (0) }) |> fun x =>
     { x with eqBase := BitVec.ofNat _ 131072 }) |> fun x => { x with parentLevel := 0 }) |> fun x =>
     { x with parentNode := 0 }) |> fun x => { x with priority := 0 }) |> fun x => { x with weight := 0 }) |> fun x =>
     { x with gate := 0 }) |> fun x => { x with pfcClass := 0 }) : QueueArgs).priority, p4
     (((((((((({ queue := 0#32, admission := 0#32, maxAge := 0#64, destModule := 0#32, destPort := 0#32, cls := 0#32, eqBase := 0#32, eqMask := 0#32, parentLevel := 0#32, parentNode := 0#32, priority := 0#32, weight := 0#32, gate := 0#32, pfcClass := 0#32 }
     : QueueArgs) |> fun x => { x with maxAge := BitVec.ofNat _ (0) }) |> fun x =>
     { x with eqBase := BitVec.ofNat _ 131072 }) |> fun x => { x with parentLevel := 0 }) |> fun x =>
     { x with parentNode := 0 }) |> fun x => { x with priority := 0 }) |> fun x => { x with weight := 0 }) |> fun x =>
     { x with gate := 0 }) |> fun x => { x with pfcClass := 0 }) : QueueArgs).weight, p4
     (((((((((({ queue := 0#32, admission := 0#32, maxAge := 0#64, destModule := 0#32, destPort := 0#32, cls := 0#32, eqBase := 0#32, eqMask := 0#32, parentLevel := 0#32, parentNode := 0#32, priority := 0#32, weight := 0#32, gate := 0#32, pfcClass := 0#32 }
     : QueueArgs) |> fun x => { x with maxAge := BitVec.ofNat _ (0) }) |> fun x =>
     { x with eqBase := BitVec.ofNat _ 131072 }) |> fun x => { x with parentLevel := 0 }) |> fun x =>
     { x with parentNode := 0 }) |> fun x => { x with priority := 0 }) |> fun x => { x with weight := 0 }) |> fun x =>
     { x with gate := 0 }) |> fun x => { x with pfcClass := 0 }) : QueueArgs).gate, p4
     (((((((((({ queue := 0#32, admission := 0#32, maxAge := 0#64, destModule := 0#32, destPort := 0#32, cls := 0#32, eqBase := 0#32, eqMask := 0#32, parentLevel := 0#32, parentNode := 0#32, priority := 0#32, weight := 0#32, gate := 0#32, pfcClass := 0#32 }
     : QueueArgs) |> fun x => { x with maxAge := BitVec.ofNat _ (0) }) |> fun x =>
     { x with eqBase := BitVec.ofNat _ 131072 }) |> fun x => { x with parentLevel := 0 }) |> fun x =>
     { x with parentNode := 0 }) |> fun x => { x with priority := 0 }) |> fun x => { x with weight := 0 }) |> fun x =>
     { x with gate := 0 }) |> fun x => { x with pfcClass := 0 }) : QueueArgs).pfcClass]), (⟨0, 1#32⟩ : LetterId),
     ((((((((({ queue := 0#32, admission := 0#32, maxAge := 0#64, destModule := 0#32, destPort := 0#32, cls := 0#32, eqBase := 0#32, eqMask := 0#32, parentLevel := 0#32, parentNode := 0#32, priority := 0#32, weight := 0#32, gate := 0#32, pfcClass := 0#32 }
     : QueueArgs) |> fun x => { x with maxAge := BitVec.ofNat _ (0) }) |> fun x =>
     { x with eqBase := BitVec.ofNat _ 131072 }) |> fun x => { x with parentLevel := 0 }) |> fun x =>
     { x with parentNode := 0 }) |> fun x => { x with priority := 0 }) |> fun x => { x with weight := 0 }) |> fun x =>
     { x with gate := 0 }) |> fun x => { x with pfcClass := 0 }), _, rfl, by unfold Claimed; decide +kernel⟩,
   ⟨(claimOn live (⟨0, 1#32⟩ : LetterId) 0x0B01 [p4
     ({ queue := 524287#32, admission := 0#32, maxAge := 10000#64, destModule := 0#32, destPort := 0#32, cls := 0#32, eqBase := 0#32, eqMask := 0#32, parentLevel := 4#32, parentNode := 191#32, priority := 7#32, weight := 4096#32, gate := 7#32, pfcClass := 7#32 }
     : QueueArgs).queue, p4
     ({ queue := 524287#32, admission := 0#32, maxAge := 10000#64, destModule := 0#32, destPort := 0#32, cls := 0#32, eqBase := 0#32, eqMask := 0#32, parentLevel := 4#32, parentNode := 191#32, priority := 7#32, weight := 4096#32, gate := 7#32, pfcClass := 7#32 }
     : QueueArgs).admission, p8
     ({ queue := 524287#32, admission := 0#32, maxAge := 10000#64, destModule := 0#32, destPort := 0#32, cls := 0#32, eqBase := 0#32, eqMask := 0#32, parentLevel := 4#32, parentNode := 191#32, priority := 7#32, weight := 4096#32, gate := 7#32, pfcClass := 7#32 }
     : QueueArgs).maxAge, p4
     ({ queue := 524287#32, admission := 0#32, maxAge := 10000#64, destModule := 0#32, destPort := 0#32, cls := 0#32, eqBase := 0#32, eqMask := 0#32, parentLevel := 4#32, parentNode := 191#32, priority := 7#32, weight := 4096#32, gate := 7#32, pfcClass := 7#32 }
     : QueueArgs).destModule, p4
     ({ queue := 524287#32, admission := 0#32, maxAge := 10000#64, destModule := 0#32, destPort := 0#32, cls := 0#32, eqBase := 0#32, eqMask := 0#32, parentLevel := 4#32, parentNode := 191#32, priority := 7#32, weight := 4096#32, gate := 7#32, pfcClass := 7#32 }
     : QueueArgs).destPort, p4
     ({ queue := 524287#32, admission := 0#32, maxAge := 10000#64, destModule := 0#32, destPort := 0#32, cls := 0#32, eqBase := 0#32, eqMask := 0#32, parentLevel := 4#32, parentNode := 191#32, priority := 7#32, weight := 4096#32, gate := 7#32, pfcClass := 7#32 }
     : QueueArgs).cls, p4
     ({ queue := 524287#32, admission := 0#32, maxAge := 10000#64, destModule := 0#32, destPort := 0#32, cls := 0#32, eqBase := 0#32, eqMask := 0#32, parentLevel := 4#32, parentNode := 191#32, priority := 7#32, weight := 4096#32, gate := 7#32, pfcClass := 7#32 }
     : QueueArgs).eqBase, p4
     ({ queue := 524287#32, admission := 0#32, maxAge := 10000#64, destModule := 0#32, destPort := 0#32, cls := 0#32, eqBase := 0#32, eqMask := 0#32, parentLevel := 4#32, parentNode := 191#32, priority := 7#32, weight := 4096#32, gate := 7#32, pfcClass := 7#32 }
     : QueueArgs).eqMask, p4
     ({ queue := 524287#32, admission := 0#32, maxAge := 10000#64, destModule := 0#32, destPort := 0#32, cls := 0#32, eqBase := 0#32, eqMask := 0#32, parentLevel := 4#32, parentNode := 191#32, priority := 7#32, weight := 4096#32, gate := 7#32, pfcClass := 7#32 }
     : QueueArgs).parentLevel, p4
     ({ queue := 524287#32, admission := 0#32, maxAge := 10000#64, destModule := 0#32, destPort := 0#32, cls := 0#32, eqBase := 0#32, eqMask := 0#32, parentLevel := 4#32, parentNode := 191#32, priority := 7#32, weight := 4096#32, gate := 7#32, pfcClass := 7#32 }
     : QueueArgs).parentNode, p4
     ({ queue := 524287#32, admission := 0#32, maxAge := 10000#64, destModule := 0#32, destPort := 0#32, cls := 0#32, eqBase := 0#32, eqMask := 0#32, parentLevel := 4#32, parentNode := 191#32, priority := 7#32, weight := 4096#32, gate := 7#32, pfcClass := 7#32 }
     : QueueArgs).priority, p4
     ({ queue := 524287#32, admission := 0#32, maxAge := 10000#64, destModule := 0#32, destPort := 0#32, cls := 0#32, eqBase := 0#32, eqMask := 0#32, parentLevel := 4#32, parentNode := 191#32, priority := 7#32, weight := 4096#32, gate := 7#32, pfcClass := 7#32 }
     : QueueArgs).weight, p4
     ({ queue := 524287#32, admission := 0#32, maxAge := 10000#64, destModule := 0#32, destPort := 0#32, cls := 0#32, eqBase := 0#32, eqMask := 0#32, parentLevel := 4#32, parentNode := 191#32, priority := 7#32, weight := 4096#32, gate := 7#32, pfcClass := 7#32 }
     : QueueArgs).gate, p4
     ({ queue := 524287#32, admission := 0#32, maxAge := 10000#64, destModule := 0#32, destPort := 0#32, cls := 0#32, eqBase := 0#32, eqMask := 0#32, parentLevel := 4#32, parentNode := 191#32, priority := 7#32, weight := 4096#32, gate := 7#32, pfcClass := 7#32 }
     : QueueArgs).pfcClass]), (⟨0, 1#32⟩ : LetterId),
     ({ queue := 524287#32, admission := 0#32, maxAge := 10000#64, destModule := 0#32, destPort := 0#32, cls := 0#32, eqBase := 0#32, eqMask := 0#32, parentLevel := 4#32, parentNode := 191#32, priority := 7#32, weight := 4096#32, gate := 7#32, pfcClass := 7#32 }
     : QueueArgs), _, rfl, by unfold Claimed; decide +kernel⟩,
   ⟨(claimOn live (⟨0, 1#32⟩ : LetterId) 0x0B02 [p4
     ({ level := 3#32, node := 1#32, parentLevel := 4#32, parentNode := 191#32, priority := 7#32, weight := 4096#32, cir := 1000#64, cbs := 64#64, pir := 1000#64, pbs := 16777216#64, lengthProfile := 0#32 }
     : NodeArgs).level, p4
     ({ level := 3#32, node := 1#32, parentLevel := 4#32, parentNode := 191#32, priority := 7#32, weight := 4096#32, cir := 1000#64, cbs := 64#64, pir := 1000#64, pbs := 16777216#64, lengthProfile := 0#32 }
     : NodeArgs).node, p4
     ({ level := 3#32, node := 1#32, parentLevel := 4#32, parentNode := 191#32, priority := 7#32, weight := 4096#32, cir := 1000#64, cbs := 64#64, pir := 1000#64, pbs := 16777216#64, lengthProfile := 0#32 }
     : NodeArgs).parentLevel, p4
     ({ level := 3#32, node := 1#32, parentLevel := 4#32, parentNode := 191#32, priority := 7#32, weight := 4096#32, cir := 1000#64, cbs := 64#64, pir := 1000#64, pbs := 16777216#64, lengthProfile := 0#32 }
     : NodeArgs).parentNode, p4
     ({ level := 3#32, node := 1#32, parentLevel := 4#32, parentNode := 191#32, priority := 7#32, weight := 4096#32, cir := 1000#64, cbs := 64#64, pir := 1000#64, pbs := 16777216#64, lengthProfile := 0#32 }
     : NodeArgs).priority, p4
     ({ level := 3#32, node := 1#32, parentLevel := 4#32, parentNode := 191#32, priority := 7#32, weight := 4096#32, cir := 1000#64, cbs := 64#64, pir := 1000#64, pbs := 16777216#64, lengthProfile := 0#32 }
     : NodeArgs).weight, p8
     ({ level := 3#32, node := 1#32, parentLevel := 4#32, parentNode := 191#32, priority := 7#32, weight := 4096#32, cir := 1000#64, cbs := 64#64, pir := 1000#64, pbs := 16777216#64, lengthProfile := 0#32 }
     : NodeArgs).cir, p8
     ({ level := 3#32, node := 1#32, parentLevel := 4#32, parentNode := 191#32, priority := 7#32, weight := 4096#32, cir := 1000#64, cbs := 64#64, pir := 1000#64, pbs := 16777216#64, lengthProfile := 0#32 }
     : NodeArgs).cbs, p8
     ({ level := 3#32, node := 1#32, parentLevel := 4#32, parentNode := 191#32, priority := 7#32, weight := 4096#32, cir := 1000#64, cbs := 64#64, pir := 1000#64, pbs := 16777216#64, lengthProfile := 0#32 }
     : NodeArgs).pir, p8
     ({ level := 3#32, node := 1#32, parentLevel := 4#32, parentNode := 191#32, priority := 7#32, weight := 4096#32, cir := 1000#64, cbs := 64#64, pir := 1000#64, pbs := 16777216#64, lengthProfile := 0#32 }
     : NodeArgs).pbs, p4
     ({ level := 3#32, node := 1#32, parentLevel := 4#32, parentNode := 191#32, priority := 7#32, weight := 4096#32, cir := 1000#64, cbs := 64#64, pir := 1000#64, pbs := 16777216#64, lengthProfile := 0#32 }
     : NodeArgs).lengthProfile]), (⟨0, 1#32⟩ : LetterId),
     ({ level := 3#32, node := 1#32, parentLevel := 4#32, parentNode := 191#32, priority := 7#32, weight := 4096#32, cir := 1000#64, cbs := 64#64, pir := 1000#64, pbs := 16777216#64, lengthProfile := 0#32 }
     : NodeArgs), _, rfl, by unfold Claimed; decide +kernel⟩,
   ⟨live, 0, ({ } : Node), by decide +kernel⟩,
   ⟨(claimOn live (⟨0, 1#32⟩ : LetterId) 0x0B04 [p4 (1#32 : W32), p4 1, p4 (0#32 : W32)]), (⟨0, 1#32⟩ : LetterId),
     1#32, 0#32, by unfold Claimed; decide +kernel⟩,
   ⟨(live |> fun (s : State) => claimOn s (⟨0, 1#32⟩ : LetterId) 0x0B03 ([p4
     ({ port := 191#32, overspeed := 120#32, grantStop := 16777216#64, hold := 1000000000#64, gateLead := 100000#64, classPriority := List.replicate 8 7#32, classWeight := List.replicate 8 4096#32 }
     : QueuePortArgs).port, p4
     ({ port := 191#32, overspeed := 120#32, grantStop := 16777216#64, hold := 1000000000#64, gateLead := 100000#64, classPriority := List.replicate 8 7#32, classWeight := List.replicate 8 4096#32 }
     : QueuePortArgs).overspeed, p8
     ({ port := 191#32, overspeed := 120#32, grantStop := 16777216#64, hold := 1000000000#64, gateLead := 100000#64, classPriority := List.replicate 8 7#32, classWeight := List.replicate 8 4096#32 }
     : QueuePortArgs).grantStop, p8
     ({ port := 191#32, overspeed := 120#32, grantStop := 16777216#64, hold := 1000000000#64, gateLead := 100000#64, classPriority := List.replicate 8 7#32, classWeight := List.replicate 8 4096#32 }
     : QueuePortArgs).hold, p8
     ({ port := 191#32, overspeed := 120#32, grantStop := 16777216#64, hold := 1000000000#64, gateLead := 100000#64, classPriority := List.replicate 8 7#32, classWeight := List.replicate 8 4096#32 }
     : QueuePortArgs).gateLead] ++
     ({ port := 191#32, overspeed := 120#32, grantStop := 16777216#64, hold := 1000000000#64, gateLead := 100000#64, classPriority := List.replicate 8 7#32, classWeight := List.replicate 8 4096#32 }
     : QueuePortArgs).classPriority.map p4 ++
     ({ port := 191#32, overspeed := 120#32, grantStop := 16777216#64, hold := 1000000000#64, gateLead := 100000#64, classPriority := List.replicate 8 7#32, classWeight := List.replicate 8 4096#32 }
     : QueuePortArgs).classWeight.map p4)), (⟨0, 1#32⟩ : LetterId),
     ({ port := 191#32, overspeed := 120#32, grantStop := 16777216#64, hold := 1000000000#64, gateLead := 100000#64, classPriority := List.replicate 8 7#32, classWeight := List.replicate 8 4096#32 }
     : QueuePortArgs), fun x hx => by rw [List.eq_of_mem_replicate hx]; decide,
     fun x hx => by rw [List.eq_of_mem_replicate hx]; decide, by unfold Claimed; decide +kernel⟩,
   ⟨(claimOn (live |> fun (s : State) => s.setNode (nodeKey (1#32 : W32).toNat (0#32 : W32).toNat)
     { s.node (nodeKey (1#32 : W32).toNat (0#32 : W32).toNat) with present := true }) (⟨0, 1#32⟩ : LetterId) 0x0B05
     [p4 (1#32 : W32), p4 (0#32 : W32)]), (⟨0, 1#32⟩ : LetterId), 1#32, 0#32, by unfold Claimed; decide +kernel⟩,
   ⟨(claimOn ((live |> fun (s : State) => s.setNode (nodeKey 0 (0#32 : W32).toNat)
     { s.node (nodeKey 0 (0#32 : W32).toNat) with present := true }) |> fun (s : State) => s.setQueue ((0#32 :
     W32).toNat + 131072) { s.queue ((0#32 : W32).toNat + 131072) with packets := [], flush := none }) (⟨0, 1#32⟩ :
     LetterId) 0x0B05 [p4 0, p4 (0#32 : W32)]), (⟨0, 1#32⟩ : LetterId), 0#32, by unfold Claimed; decide +kernel⟩,
   ⟨(claimOn ((live |> fun (s : State) => s.setNode (nodeKey 0 (0#32 : W32).toNat)
     { s.node (nodeKey 0 (0#32 : W32).toNat) with present := true }) |> fun (s : State) => s.setQueue ((0#32 :
     W32).toNat + 131072)
     { s.queue ((0#32 : W32).toNat + 131072) with packets := [], flush := some (⟨0, 1#32⟩ : LetterId) }) (⟨0, 1#32⟩ :
     LetterId) 0x0B05 [p4 0, p4 (0#32 : W32)]), (⟨0, 1#32⟩ : LetterId), (⟨0, 1#32⟩ : LetterId), 0#32,
     by unfold Claimed; decide +kernel⟩,
   ⟨(claimOn (live |> fun (s : State) => s.setQueue (524287#32 : W32).toNat
     { s.queue (524287#32 : W32).toNat with present := true, flush := none }) (⟨0, 1#32⟩ : LetterId) 0x0B06 [p4
     (524287#32 : W32)]), (⟨0, 1#32⟩ : LetterId), 524287#32, by unfold Claimed; decide +kernel⟩,
   ⟨(claimOn live (⟨0, 1#32⟩ : LetterId) 0x0B07 [p4 (0#32 : W32), pL (⟨0#64, 1#32, some ([] : List W64)⟩ : ListArg
     W64)]), (⟨0, 1#32⟩ : LetterId), 0#32, (⟨0#64, 1#32, some ([] : List W64)⟩ : ListArg W64), ([] : List W64),
     by unfold Claimed; decide +kernel⟩,
   ⟨(claimOn (live |> fun (s : State) => s.setPortQ (0#32 : W32).toNat (s.portQ (0#32 : W32).toNat |> fun x =>
     { x with gatesPage := { x.gatesPage with state := .loaded } })) (⟨0, 1#32⟩ : LetterId) 0x0B08 [p4 (0#32 : W32),
     pT ((BitVec.ofNat 128 (1000000 * 2 ^ 48 + 200000 * 2 ^ 16)) : TimeParam)]), (⟨0, 1#32⟩ : LetterId), 0#32,
     (BitVec.ofNat 128 (1000000 * 2 ^ 48 + 200000 * 2 ^ 16)), by unfold Claimed; decide +kernel⟩,
   ⟨(claimOn (live |> fun (s : State) => s.setPortQ (0#32 : W32).toNat (s.portQ (0#32 : W32).toNat |> fun x =>
     { x with gatesPage := { x.gatesPage with state := .loaded } })) (⟨0, 1#32⟩ : LetterId) 0x0B08 [p4 (0#32 : W32),
     pT 0]), (⟨0, 1#32⟩ : LetterId), 0#32, by unfold Claimed; decide +kernel⟩,
   ⟨(claimOn (live |> fun (s : State) => s.setPortQ (0#32 : W32).toNat
     { s.portQ (0#32 : W32).toNat with gatesPage := { state := .armed, t := 1 } }) (⟨0, 1#32⟩ : LetterId) 0x0B09 [p4
     (0#32 : W32)]), (⟨0, 1#32⟩ : LetterId), 0#32, by unfold Claimed; decide +kernel⟩⟩

/-- The hypotheses of `Obligations.FabricLinksAndLetters` are met. -/
theorem witness_FabricLinksAndLetters :
    (∃ (s : State) (link : Fin 256), s.hasLink link = true ∧ (s.link link).st = .aligning ∧ s.domain (fabricDomain
      link) = true ∧ s.serdesOk = true) ∧
    (∃ (s : State) (link : Fin 256) (cause : LinkCause), s.hasLink link = true ∧ (s.link link).st = .up) ∧
    (∃ (s : State) (link : Fin 256) (cause : LinkCause), s.hasLink link = true ∧ (s.link link).st ≠ .up) ∧
    (∃ (s : State) (link : Fin 256), s.hasLink link = true ∧ (s.link link).st = .up ∧ (s.link link).reachAt + 50000 ≤
      s.up) ∧
    (∃ (s : State) (link : Fin 256), s.hasLink link = true ∧ (s.link link).st = .up ∧ (s.link link).hold = true ∧
      (s.link link).holdAt + s.fabric.holdMax < s.up) ∧
    (∃ (s : State) (link : Fin 256), s.hasLink link = true ∧ (s.link link).st = .down ∧ (s.link link).since +
      10000000 ≤ s.up) ∧
    (∃ (s : State) (u : State) (link : Fin 256) (cell : List Byte) (r : ReachCell), s.hasLink link = true ∧ (s.link
      link).st = .ident ∧ GoodCell cell ∧ isControl 4 cell = true ∧ r = readReach cell ∧ u = s.heardCell link cell ∧
      (u.link link).st = .ident ∧ r.plane.toNat = link.val / 16 ∧ (u.link link).agrees r = true ∧ 2 ≤ (u.link
      link).agree) ∧
    (∃ (s : State) (u : State) (link : Fin 256) (cell : List Byte) (r : ReachCell), s.hasLink link = true ∧ (s.link
      link).st = .ident ∧ GoodCell cell ∧ isControl 4 cell = true ∧ r = readReach cell ∧ u = s.heardCell link cell ∧
      (u.link link).st = .ident ∧ r.plane.toNat = link.val / 16 ∧ ((u.link link).agrees r = false ∨ (u.link
      link).agree = 0)) :=
  ⟨⟨(live |> fun (s : State) => s.setLink (0 : Fin 256) { s.link (0 : Fin 256) with st := .aligning }), (0 : Fin
     256), by decide +kernel⟩,
   ⟨(live |> fun (s : State) => s.setLink (0 : Fin 256) { s.link (0 : Fin 256) with st := .up }), (0 : Fin 256),
     (.cdrLoss : LinkCause), by decide +kernel⟩,
   ⟨live, (0 : Fin 256), (.cdrLoss : LinkCause), by decide +kernel⟩,
   ⟨(live |> fun (s : State) => s.setLink (0 : Fin 256) { s.link (0 : Fin 256) with st := .up }), (0 : Fin 256),
     by decide +kernel⟩,
   ⟨(live |> fun (s : State) => s.setLink (0 : Fin 256) { s.link (0 : Fin 256) with st := .up, hold := true }), (0 :
     Fin 256), by decide +kernel⟩,
   ⟨(live |> fun (s : State) => s.setLink (0 : Fin 256) { s.link (0 : Fin 256) with st := .down }), (0 : Fin 256),
     by decide +kernel⟩,
   ⟨((live |> fun (s : State) => s.setLink (0 : Fin 256) { s.link (0 : Fin 256) with st := .ident }) |> fun (s :
     State) => s.setLink (0 : Fin 256) { s.link (0 : Fin 256) with st := .ident, agree := 2, element := 7 }), _, (0 :
     Fin 256), (reachCell [0#8, 7#8, 0#8, 0#8]), _, by decide +kernel, by decide +kernel,
     by unfold GoodCell; decide +kernel, by decide +kernel, rfl, rfl, by decide +kernel⟩,
   ⟨(live |> fun (s : State) => s.setLink (0 : Fin 256) { s.link (0 : Fin 256) with st := .ident }), _, (0 : Fin
     256), (reachCell [0#8, 7#8, 0#8, 0#8]), _, by decide +kernel, by decide +kernel,
     by unfold GoodCell; decide +kernel, by decide +kernel, rfl, rfl, by decide +kernel⟩⟩

/-- The hypotheses of `Obligations.FabricLinksAndLetters` are met, further clauses. -/
theorem witness_FabricLinksAndLetters_2 :
    (∃ (s : State) (u : State) (link : Fin 256) (cell : List Byte) (r : ReachCell), s.hasLink link = true ∧ (s.link
      link).st = .ident ∧ GoodCell cell ∧ isControl 4 cell = true ∧ r = readReach cell ∧ u = s.heardCell link cell ∧
      (u.link link).st = .ident ∧ r.plane.toNat = link.val / 16 ∧ (u.link link).agrees r = true ∧ (u.link link).agree
      = 1) ∧
    (∃ (s : State) (u : State) (link : Fin 256) (cell : List Byte) (r : ReachCell), s.hasLink link = true ∧ (s.link
      link).st = .ident ∧ GoodCell cell ∧ isControl 4 cell = true ∧ r = readReach cell ∧ u = s.heardCell link cell ∧
      (u.link link).st = .ident ∧ r.plane.toNat ≠ link.val / 16 ∧ (u.link link).miswired = false) ∧
    (∃ (s : State) (u : State) (link : Fin 256) (cell : List Byte) (r : ReachCell), s.hasLink link = true ∧ (s.link
      link).st = .ident ∧ GoodCell cell ∧ isControl 4 cell = true ∧ r = readReach cell ∧ u = s.heardCell link cell ∧
      (u.link link).st = .ident ∧ r.plane.toNat ≠ link.val / 16 ∧ (u.link link).miswired = true) ∧
    (∃ (s : State) (u : State) (link : Fin 256) (cell : List Byte) (r : ReachCell), s.hasLink link = true ∧ (s.link
      link).st = .up ∧ GoodCell cell ∧ isControl 4 cell = true ∧ r = readReach cell ∧ u = s.heardCell link cell ∧
      (u.link link).st = .up ∧ r.plane.toNat = link.val / 16 ∧ (u.link link).agrees r = true) ∧
    (∃ (s : State) (u : State) (link : Fin 256) (cell : List Byte) (r : ReachCell), s.hasLink link = true ∧ (s.link
      link).st = .up ∧ GoodCell cell ∧ isControl 4 cell = true ∧ r = readReach cell ∧ u = s.heardCell link cell ∧
      (u.link link).st = .up ∧ (r.plane.toNat ≠ link.val / 16 ∨ (u.link link).agrees r = false)) ∧
    (∃ (s : State) (link : Fin 256), s.hasLink link = true ∧ (s.link link).disable = none ∧ ((s.link link).st =
      .ident ∧ (s.link link).identAt + 1000 ≤ s.up ∨ (s.link link).st = .up ∧ (s.link link).identAt + 10000 ≤ s.up)) ∧
    (∃ (s : State) (t : State) (u : State) (v : State) (link : Fin 256) (l : LetterId), s.hasLink link = true ∧
      (s.link link).disable = some l ∧ (s.link link).waiting = [] ∧ (s.link link).control = [] ∧ t = s.sendSlot link
      (idleCell s.fabric.holdOut) ∧ u = (if (s.link link).hold then t.bump .fabHoldNs link 0 1 (t.up - (s.link
      link).holdAt) else t).setLink link { identAt := (s.link link).identAt } ∧ v = (if ((List.range 8).map (· + 8 *
      (link.val / 8))).all fun j => (u.link j).st = .off then u.askDomain (fabricDomain link) false else u)) ∧
    (∃ (s : State) (l : LetterId) (link : W32), Claimed s l 0x0D01 [p4 link] ∧ link.toNat ≤ 255 ∧ s.hasLink
      link.toNat = true ∧ l.slice.val = 0 ∧ (s.link link.toNat).disable = none ∧ (s.link link.toNat).st = .off) :=
  ⟨⟨((live |> fun (s : State) => s.setLink (0 : Fin 256) { s.link (0 : Fin 256) with st := .ident }) |> fun (s :
     State) => s.setLink (0 : Fin 256) { s.link (0 : Fin 256) with st := .ident, agree := 1, element := 7 }), _, (0 :
     Fin 256), (reachCell [0#8, 7#8, 0#8, 0#8]), _, by decide +kernel, by decide +kernel,
     by unfold GoodCell; decide +kernel, by decide +kernel, rfl, rfl, by decide +kernel⟩,
   ⟨(live |> fun (s : State) => s.setLink (0 : Fin 256) { s.link (0 : Fin 256) with st := .ident }), _, (0 : Fin
     256), (reachCell [0#8, 7#8, 1#8, 0#8]), _, by decide +kernel, by decide +kernel,
     by unfold GoodCell; decide +kernel, by decide +kernel, rfl, rfl, by decide +kernel⟩,
   ⟨((live |> fun (s : State) => s.setLink (0 : Fin 256) { s.link (0 : Fin 256) with st := .ident }) |> fun (s :
     State) => s.setLink (0 : Fin 256) { s.link (0 : Fin 256) with st := .ident, miswired := true }), _, (0 : Fin
     256), (reachCell [0#8, 7#8, 1#8, 0#8]), _, by decide +kernel, by decide +kernel,
     by unfold GoodCell; decide +kernel, by decide +kernel, rfl, rfl, by decide +kernel⟩,
   ⟨((live |> fun (s : State) => s.setLink (0 : Fin 256) { s.link (0 : Fin 256) with st := .up }) |> fun (s : State)
     => s.setLink (0 : Fin 256) { s.link (0 : Fin 256) with st := .up, element := 7 }), _, (0 : Fin 256), (reachCell
     [0#8, 7#8, 0#8, 0#8]), _, by decide +kernel, by decide +kernel, by unfold GoodCell; decide +kernel,
     by decide +kernel, rfl, rfl, by decide +kernel⟩,
   ⟨(live |> fun (s : State) => s.setLink (0 : Fin 256) { s.link (0 : Fin 256) with st := .up }), _, (0 : Fin 256),
     (reachCell [0#8, 7#8, 0#8, 0#8]), _, by decide +kernel, by decide +kernel, by unfold GoodCell; decide +kernel,
     by decide +kernel, rfl, rfl, by decide +kernel⟩,
   ⟨(live |> fun (s : State) => s.setLink (0 : Fin 256)
     { s.link (0 : Fin 256) with disable := none, st := .ident }), (0 : Fin 256), by decide +kernel⟩,
   ⟨(live |> fun (s : State) => s.setLink (0 : Fin 256)
     { s.link (0 : Fin 256) with disable := some (⟨0, 1#32⟩ : LetterId), waiting := [], control := [] }), _, _, _, (0
     : Fin 256), (⟨0, 1#32⟩ : LetterId), by decide +kernel, by decide +kernel, by decide +kernel, by decide +kernel,
     rfl, rfl, rfl⟩,
   ⟨(claimOn (live |> fun (s : State) => s.setLink (255#32 : W32).toNat
     { s.link (255#32 : W32).toNat with disable := none, st := .off }) (⟨0, 1#32⟩ : LetterId) 0x0D01 [p4 (255#32 :
     W32)]), (⟨0, 1#32⟩ : LetterId), 255#32, by unfold Claimed; decide +kernel⟩⟩

/-- The hypotheses of `Obligations.FabricLinksAndLetters` are met, further clauses. -/
theorem witness_FabricLinksAndLetters_3 :
    (∃ (s : State) (l : LetterId) (link : W32), Claimed s l 0x0D02 [p4 link] ∧ link.toNat ≤ 255 ∧ s.hasLink
      link.toNat = true ∧ l.slice.val = 0 ∧ (s.link link.toNat).disable = none ∧ (s.link link.toNat).st ≠ .off ∧
      ((List.range s.variant.links).any fun j => decide (j ≠ link.toNat) && (s.link j).enabled && (s.link
      j).disable.isNone) = true) ∧
    (∃ (s : State) (l : LetterId) (lane : W32) (taps : TxTaps), Claimed s l 0x0D03 [p4 lane, p4 taps.pre2, p4
      taps.pre1, p4 taps.main, p4 taps.post1] ∧ lane.toNat ≤ 255 ∧ s.hasLink lane.toNat = true ∧ l.slice.val = 0 ∧
      (tapsOf taps (nget {} s.fabric.taps lane.toNat)).2.2 = [(1, false), (2, false), (3, false), (4, false)]) ∧
    (∃ (s : State) (l : LetterId) (a : W64) (b : W64) (c : W64) (d : W64) (e : W64), Claimed s l 0x0D04 [p8 a, p8 b,
      p8 c, p8 d, p8 e] ∧ 10000 ≤ a.toNat ∧ a.toNat ≤ 1000000 ∧ 500 ≤ b.toNat ∧ b.toNat ≤ 50000 ∧ 10000 ≤ c.toNat ∧
      c.toNat ≤ 10000000 ∧ 10000 ≤ d.toNat ∧ d.toNat ≤ 100000000 ∧ e.toNat ≤ 1000) ∧
    (∃ (s : State) (l : LetterId) (a : W64) (b : W64), Claimed s l 0x0D05 [p8 a, p8 b] ∧ 1024 ≤ a.toNat ∧ a.toNat ≤
      65536 ∧ a.toNat % 1024 = 0 ∧ b.toNat ≤ 46100000000000) ∧
    (∃ (s : State) (l : LetterId) (voq : W32), Claimed s l 0x0D06 [p4 voq, p4 1] ∧ isEgress voq.toNat = false ∧
      (s.queue voq.toNat).present = true ∧ s.queueOwner voq.toNat = l.slice.val ∧ (s.queue voq.toNat).mcast = false ∧
      (s.queue voq.toNat).on = false) ∧
    (∃ (s : State) (l : LetterId) (mgid : W32) (queues : ListArg W32) (qs : List W32), Claimed s l 0x0D07 [p4 mgid,
      pL queues] ∧ mgid.toNat ≤ 65535 ∧ queues.count.toNat ≤ 64 ∧ s.owner 0x18 mgid.toNat = l.slice.val ∧ queues.items
      = some qs ∧ ((∀ q ∈ qs, isEgress q.toNat = true ∧ (s.queue q.toNat).present = true ∧ s.queueOwner q.toNat =
      l.slice.val))) :=
  ⟨⟨(claimOn (((live |> fun (s : State) => s.setLink (255#32 : W32).toNat
     { s.link (255#32 : W32).toNat with disable := none }) |> fun (s : State) => s.setLink (255#32 : W32).toNat
     { s.link (255#32 : W32).toNat with st := .up, enabled := true }) |> fun (s : State) => s.setLink 1
     { s.link 1 with enabled := true }) (⟨0, 1#32⟩ : LetterId) 0x0D02 [p4 (255#32 : W32)]), (⟨0, 1#32⟩ : LetterId),
     255#32, by unfold Claimed; decide +kernel⟩,
   ⟨(claimOn live (⟨0, 1#32⟩ : LetterId) 0x0D03 [p4 (255#32 : W32), p4
     ({ pre2 := 0#32, pre1 := 0#32, main := 0#32, post1 := 0#32 } : TxTaps).pre2, p4
     ({ pre2 := 0#32, pre1 := 0#32, main := 0#32, post1 := 0#32 } : TxTaps).pre1, p4
     ({ pre2 := 0#32, pre1 := 0#32, main := 0#32, post1 := 0#32 } : TxTaps).main, p4
     ({ pre2 := 0#32, pre1 := 0#32, main := 0#32, post1 := 0#32 } : TxTaps).post1]), (⟨0, 1#32⟩ : LetterId), 255#32,
     ({ pre2 := 0#32, pre1 := 0#32, main := 0#32, post1 := 0#32 } : TxTaps), by unfold Claimed; decide +kernel⟩,
   ⟨(claimOn live (⟨0, 1#32⟩ : LetterId) 0x0D04 [p8 (10000#64 : W64), p8 (500#64 : W64), p8 (10000#64 : W64), p8
     (10000#64 : W64), p8 (1000#64 : W64)]), (⟨0, 1#32⟩ : LetterId), 10000#64, 500#64, 10000#64, 10000#64, 1000#64,
     by unfold Claimed; decide +kernel⟩,
   ⟨(claimOn live (⟨0, 1#32⟩ : LetterId) 0x0D05 [p8 (1024#64 : W64), p8 (46100000000000#64 : W64)]), (⟨0, 1#32⟩ :
     LetterId), 1024#64, 46100000000000#64, by unfold Claimed; decide +kernel⟩,
   ⟨(claimOn (live |> fun (s : State) => s.setQueue (0#32 : W32).toNat
     { s.queue (0#32 : W32).toNat with present := true, mcast := false, on := false }) (⟨0, 1#32⟩ : LetterId) 0x0D06
     [p4 (0#32 : W32), p4 1]), (⟨0, 1#32⟩ : LetterId), 0#32, by unfold Claimed; decide +kernel⟩,
   ⟨(claimOn (live |> fun (s : State) => s.setQueue 524287 { s.queue 524287 with present := true }) (⟨0, 1#32⟩ :
     LetterId) 0x0D07 [p4 (65535#32 : W32), pL (⟨0#64, 1#32, some [524287#32]⟩ : ListArg W32)]), (⟨0, 1#32⟩ :
     LetterId), 65535#32, (⟨0#64, 1#32, some [524287#32]⟩ : ListArg W32), ([524287#32] : List W32),
     by unfold Claimed; decide +kernel, by decide +kernel, by decide +kernel, by decide +kernel, by decide +kernel,
     fun q hq => by have h := List.mem_singleton.mp hq; subst h; decide +kernel⟩⟩

/-- The hypotheses of `Obligations.FabricCells` are met. -/
theorem witness_FabricCells :
    (∃ (s : State) (i : Nat) (cell : List Byte), (s.link i).slots < 4096) ∧
    (∃ (s : State) (i : Nat) (cell : List Byte), 4096 ≤ (s.link i).slots) ∧
    (∃ (s : State) (link : Fin 256) (c : ControlCell) (cs : List ControlCell), s.hasLink link = true ∧ ((s.link
      link).st = .up ∨ (s.link link).st = .ident) ∧ (s.link link).control = c :: cs) ∧
    (∃ (s : State) (link : Fin 256) (c : TxCell) (cs : List TxCell), s.hasLink link = true ∧ (s.link link).st = .up ∧
      (s.link link).control = [] ∧ (s.link link).waiting = c :: cs ∧ (s.link link).hold = false) ∧
    (∃ (s : State) (link : Fin 256), s.hasLink link = true ∧ (s.link link).st ≠ .off ∧ (s.link link).control = [] ∧
      (s.link link).hold = true) ∧
    (∃ (s : State) (link : Fin 256), s.hasLink link = true ∧ (s.link link).st ≠ .off ∧ (s.link link).control = [] ∧
      (s.link link).waiting = []) ∧
    (∃ (s : State) (link : Fin 256), s.hasLink link = true ∧ (s.link link).st = .off) ∧
    (∃ (s : State) (stream : Fin 129), (s.txStream stream).payload ≠ [] ∧ (s.txStream stream).openAt +
      s.fabric.packWait ≤ s.up) :=
  ⟨⟨live, 0, ([] : List Byte), by decide +kernel⟩,
   ⟨(live |> fun (s : State) => s.setLink (0 : Nat) { s.link (0 : Nat) with slots := 4096 }), 0, ([] : List Byte),
     by decide +kernel⟩,
   ⟨(live |> fun (s : State) => s.setLink (0 : Fin 256)
     { s.link (0 : Fin 256) with st := .up, control := ((.postcard { format := 0#8, rsvOk := false, src := 0, seq := 0#16, txSeconds := 0#32, txNs := 0#32, epochCurrent := 0#16, epochPending := 0#16, pendingState := 0#3, lag := false, sequenced := false, timeState := 0#2, timeError := 0#16, ucodeMin := 0#32, ucodeMax := 0#32, reachMap := 0#128 }) : ControlCell) :: ([] : List ControlCell) }),
     (0 : Fin 256), ((.postcard
     { format := 0#8, rsvOk := false, src := 0, seq := 0#16, txSeconds := 0#32, txNs := 0#32, epochCurrent := 0#16, epochPending := 0#16, pendingState := 0#3, lag := false, sequenced := false, timeState := 0#2, timeError := 0#16, ucodeMin := 0#32, ucodeMax := 0#32, reachMap := 0#128 })
     : ControlCell), ([] : List ControlCell), by decide +kernel⟩,
   ⟨(live |> fun (s : State) => s.setLink (0 : Fin 256)
     { s.link (0 : Fin 256) with st := .up, control := [], waiting := ({ } : TxCell) :: ([] : List TxCell), hold := false }),
     (0 : Fin 256), ({ } : TxCell), ([] : List TxCell), by decide +kernel⟩,
   ⟨((live |> fun (s : State) => s.setLink (0 : Fin 256) { s.link (0 : Fin 256) with control := [], hold := true })
     |> fun (s : State) => s.setLink (0 : Fin 256) { s.link (0 : Fin 256) with st := .up }), (0 : Fin 256),
     by decide +kernel⟩,
   ⟨((live |> fun (s : State) => s.setLink (0 : Fin 256) { s.link (0 : Fin 256) with control := [], waiting := [] })
     |> fun (s : State) => s.setLink (0 : Fin 256) { s.link (0 : Fin 256) with st := .up }), (0 : Fin 256),
     by decide +kernel⟩,
   ⟨(live |> fun (s : State) => s.setLink (0 : Fin 256) { s.link (0 : Fin 256) with st := .off }), (0 : Fin 256),
     by decide +kernel⟩,
   ⟨(live |> fun (s : State) => s.setTx (0 : Fin 129) { s.txStream (0 : Fin 129) with payload := [0#8] }), (0 : Fin
     129), by decide +kernel⟩⟩

/-- The hypotheses of `Obligations.FabricCells` are met, further clauses. -/
theorem witness_FabricCells_2 :
    (∃ (s : State) (dst : Fin 128) (msgs : List (BitVec 128)) (t : Nat), nfind s.fabric.credit dst.val = some (msgs,
      t) ∧ t + 50 ≤ s.up) ∧
    (∃ (s : State) (link : Fin 256) (cell : List Byte) (rivals : List Rival), s.hasLink link = true ∧ ((s.link
      link).st = .up ∨ (s.link link).st = .ident)) ∧
    (∃ (s : State) (link : Fin 256) (cell : List Byte) (rivals : List Rival), s.hasLink link = true ∧ ((s.link
      link).st = .up ∨ (s.link link).st = .ident) ∧ crcGood cell = false) ∧
    (∃ (s : State) (link : Fin 256) (cell : List Byte) (rivals : List Rival), s.hasLink link = true ∧ ((s.link
      link).st = .up ∨ (s.link link).st = .ident) ∧ crcGood cell = true ∧ badHead cell = true) ∧
    (∃ (s : State) (link : Fin 256) (cell : List Byte) (rivals : List Rival), s.hasLink link = true ∧ ((s.link
      link).st = .up ∨ (s.link link).st = .ident) ∧ crcGood cell = true ∧ badHead cell = false ∧ cellType cell = 0) ∧
    (∃ (s : State) (link : Fin 256) (cell : List Byte) (fecOk : Bool) (index : Fin 18), s.hasLink link = true ∧
      ((s.link link).st = .up ∨ (s.link link).st = .ident) ∧ index ≠ 0 ∧ (fecOk = false ∨ crcGood cell = false ∨
      badHead cell = true)) ∧
    (∃ (s : State) (u : State) (link : Fin 256) (cell : List Byte) (c : Cell) (rivals : List Rival), s.hasLink link =
      true ∧ (s.link link).st = .up ∧ GoodCell cell ∧ cellType cell ≤ 2 ∧ u = s.heardCell link cell ∧ (u.link link).st
      = .up ∧ c = readCell cell ∧ c.badOffset = false ∧ c.badFill = false ∧ c.multicast = false ∧ c.dst.toNat ≠ u.myId) ∧
    (∃ (s : State) (u : State) (link : Fin 256) (cell : List Byte) (c : Cell) (rivals : List Rival), s.hasLink link =
      true ∧ (s.link link).st = .up ∧ GoodCell cell ∧ cellType cell ≤ 2 ∧ u = s.heardCell link cell ∧ (u.link link).st
      = .up ∧ c = readCell cell ∧ c.badOffset = false ∧ c.badFill = false ∧ (c.multicast = true ∨ c.dst.toNat =
      u.myId) ∧ u.effective c.src = false) :=
  ⟨⟨(live |> fun (s : State) =>
     { s with fabric := { s.fabric with credit := [((0 : Fin 128).val, (([1#128] : List (BitVec 128)), (999999999999950 : Nat)))] } }),
     (0 : Fin 128), ([1#128] : List (BitVec 128)), 999999999999950, by decide +kernel⟩,
   ⟨(live |> fun (s : State) => s.setLink (0 : Fin 256) { s.link (0 : Fin 256) with st := .up }), (0 : Fin 256), ([]
     : List Byte), ([] : List Rival), by decide +kernel⟩,
   ⟨(live |> fun (s : State) => s.setLink (0 : Fin 256) { s.link (0 : Fin 256) with st := .up }), (0 : Fin 256), ([]
     : List Byte), ([] : List Rival), by decide +kernel⟩,
   ⟨(live |> fun (s : State) => s.setLink (0 : Fin 256) { s.link (0 : Fin 256) with st := .up }), (0 : Fin 256),
     (formCell (3 * 2 ^ 252) []), ([] : List Rival), by decide +kernel⟩,
   ⟨(live |> fun (s : State) => s.setLink (0 : Fin 256) { s.link (0 : Fin 256) with st := .up }), (0 : Fin 256),
     (idleCell true), ([] : List Rival), by decide +kernel⟩,
   ⟨(live |> fun (s : State) => s.setLink (0 : Fin 256) { s.link (0 : Fin 256) with st := .up }), (0 : Fin 256), ([]
     : List Byte), false, (1 : Fin 18), by decide +kernel⟩,
   ⟨(live |> fun (s : State) => s.setLink (0 : Fin 256) { s.link (0 : Fin 256) with st := .up }), _, (0 : Fin 256),
     (dataCell { stream := 1, seq := 0, restart := false, firstOff := 511, payload := List.replicate 288 0#8 } 1), _,
     ([] : List Rival), by decide +kernel, by decide +kernel, by unfold GoodCell; decide +kernel, by decide +kernel,
     rfl, by decide +kernel, rfl, by decide +kernel⟩,
   ⟨(live |> fun (s : State) => s.setLink (0 : Fin 256) { s.link (0 : Fin 256) with st := .up }), _, (0 : Fin 256),
     (dataCell { stream := 0, seq := 0, restart := false, firstOff := 511, payload := List.replicate 288 0#8 } 1), _,
     ([] : List Rival), by decide +kernel, by decide +kernel, by unfold GoodCell; decide +kernel, by decide +kernel,
     rfl, by decide +kernel, rfl, by decide +kernel⟩⟩

/-- The hypotheses of `Obligations.FabricCells` are met, further clauses. -/
theorem witness_FabricCells_3 :
    (∃ (s : State) (u : State) (link : Fin 256) (cell : List Byte) (c : Cell) (rivals : List Rival), s.hasLink link =
      true ∧ (s.link link).st = .up ∧ GoodCell cell ∧ cellType cell ≤ 2 ∧ u = s.heardCell link cell ∧ (u.link link).st
      = .up ∧ c = readCell cell ∧ c.badOffset = false ∧ c.badFill = false ∧ (c.multicast = true ∨ c.dst.toNat =
      u.myId) ∧ u.effective c.src = true) ∧
    (∃ (s : State) (u : State) (link : Fin 256) (cell : List Byte) (c : Cell) (rivals : List Rival), s.hasLink link =
      true ∧ (s.link link).st = .up ∧ GoodCell cell ∧ cellType cell ≤ 2 ∧ u = s.heardCell link cell ∧ (u.link link).st
      = .up ∧ c = readCell cell ∧ c.badOffset = true ∧ c.badFill = false) ∧
    (∃ (s : State) (u : State) (link : Fin 256) (cell : List Byte) (c : Cell) (rivals : List Rival), s.hasLink link =
      true ∧ (s.link link).st = .up ∧ GoodCell cell ∧ cellType cell ≤ 2 ∧ u = s.heardCell link cell ∧ (u.link link).st
      = .up ∧ c = readCell cell ∧ 288 < c.fill.toNat ∧ (c.multicast = true ∨ c.dst.toNat = u.myId) ∧ ((u.bump
      .fabMalformed link).lossEvent).effective c.src = true ∧ (((u.bump .fabMalformed link).lossEvent).rxStream (2 *
      c.src.val + b2n c.multicast)).open_.isSome = true) ∧
    (∃ (s : State) (u : State) (link : Fin 256) (cell : List Byte) (c : Cell) (rivals : List Rival), s.hasLink link =
      true ∧ (s.link link).st = .up ∧ GoodCell cell ∧ cellType cell ≤ 2 ∧ u = s.heardCell link cell ∧ (u.link link).st
      = .up ∧ c = readCell cell ∧ c.badFill = true ∧ (c.fill.toNat ≤ 288 ∨ (((u.bump .fabMalformed
      link).lossEvent).rxStream (2 * c.src.val + b2n c.multicast)).open_ = none)) ∧
    (∃ (s : State) (k : Nat) (c : Cell), (c.restart = false ∨ (s.rxStream k).restarted = true) ∧ offset (s.rxStream
      k).e c.seq.toNat = 0) ∧
    (∃ (s : State) (k : Nat) (c : Cell), (c.restart = false ∨ (s.rxStream k).restarted = true) ∧ 32768 ≤ offset
      (s.rxStream k).e c.seq.toNat) ∧
    (∃ (s : State) (k : Nat) (c : Cell), (c.restart = false ∨ (s.rxStream k).restarted = true) ∧ 1 ≤ offset
      (s.rxStream k).e c.seq.toNat ∧ offset (s.rxStream k).e c.seq.toNat ≤ 32767 ∧ ((s.rxStream k).held.any fun x =>
      x.2.seq = c.seq) = false ∧ (s.heldCells + 1) * 320 ≤ 48 * 1048576) ∧
    (∃ (s : State) (k : Nat) (c : Cell), (c.restart = false ∨ (s.rxStream k).restarted = true) ∧ 1 ≤ offset
      (s.rxStream k).e c.seq.toNat ∧ offset (s.rxStream k).e c.seq.toNat ≤ 32767 ∧ ((s.rxStream k).held.any fun x =>
      x.2.seq = c.seq) = true) :=
  ⟨⟨(((live |> fun (s : State) => s.setLink (0 : Fin 256) { s.link (0 : Fin 256) with st := .up }) |> fun (s :
     State) => s.setLink (0 : Fin 256) { s.link (0 : Fin 256) with st := .up }) |> fun (s : State) => s.setPeer 1
     { s.peer 1 with effective := true }), _, (0 : Fin 256), (dataCell
     { stream := 0, seq := 0, restart := false, firstOff := 511, payload := List.replicate 288 0#8 } 1), _, ([] : List
     Rival), by decide +kernel, by decide +kernel, by unfold GoodCell; decide +kernel, by decide +kernel, rfl,
     by decide +kernel, rfl, by decide +kernel⟩,
   ⟨(live |> fun (s : State) => s.setLink (0 : Fin 256) { s.link (0 : Fin 256) with st := .up }), _, (0 : Fin 256),
     (dataCell { stream := 0, seq := 0, restart := false, firstOff := 300, payload := List.replicate 288 0#8 } 1), _,
     ([] : List Rival), by decide +kernel, by decide +kernel, by unfold GoodCell; decide +kernel, by decide +kernel,
     rfl, by decide +kernel, rfl, by decide +kernel⟩,
   ⟨((((live |> fun (s : State) => s.setLink (0 : Fin 256) { s.link (0 : Fin 256) with st := .up }) |> fun (s :
     State) => s.setLink (0 : Fin 256) { s.link (0 : Fin 256) with st := .up }) |> fun (s : State) => s.setPeer 1
     { s.peer 1 with effective := true }) |> fun (s : State) =>
     { s with fabric := { s.fabric with rx := [(2, { open_ := some { packet := {}, need := 0, since := 0, admitted := [], alone := true } })] } }),
     _, (0 : Fin 256), (formCell (2 ^ 252 + 2 ^ 241 + 511 * 2 ^ 185 + 289 * 2 ^ 176) []), _, ([] : List Rival),
     by decide +kernel, by decide +kernel, by unfold GoodCell; decide +kernel, by decide +kernel, rfl,
     by decide +kernel, rfl, by decide +kernel⟩,
   ⟨(live |> fun (s : State) => s.setLink (0 : Fin 256) { s.link (0 : Fin 256) with st := .up }), _, (0 : Fin 256),
     (formCell (2 ^ 252 + 2 ^ 241 + 511 * 2 ^ 185 + 289 * 2 ^ 176) []), _, ([] : List Rival), by decide +kernel,
     by decide +kernel, by unfold GoodCell; decide +kernel, by decide +kernel, rfl, by decide +kernel, rfl,
     by decide +kernel⟩,
   ⟨live, 0,
     ({ multicast := false, restart := false, poisoned := false, src := 1, dst := 0, seq := 0, epoch := 0, firstOff := 511, fill := 288, payload := List.replicate 288 0#8 }
     : Cell), by decide +kernel⟩,
   ⟨live, 0,
     ({ multicast := false, restart := false, poisoned := false, src := 1, dst := 0, seq := 32768, epoch := 0, firstOff := 511, fill := 288, payload := List.replicate 288 0#8 }
     : Cell), by decide +kernel⟩,
   ⟨live, 0,
     ({ multicast := false, restart := false, poisoned := false, src := 1, dst := 0, seq := 32767, epoch := 0, firstOff := 511, fill := 288, payload := List.replicate 288 0#8 }
     : Cell), by decide +kernel⟩,
   ⟨(live |> fun (s : State) => s.setRx (0 : Nat)
     { s.rxStream (0 : Nat) with held := [(0, ({ multicast := false, restart := false, poisoned := false, src := 1, dst := 0, seq := 5, epoch := 0, firstOff := 511, fill := 288, payload := List.replicate 288 0#8 } : Cell))] }),
     0,
     ({ multicast := false, restart := false, poisoned := false, src := 1, dst := 0, seq := 5, epoch := 0, firstOff := 511, fill := 288, payload := List.replicate 288 0#8 }
     : Cell), by decide +kernel⟩⟩

/-- The hypotheses of `Obligations.FabricCells` are met, further clauses. -/
theorem witness_FabricCells_4 :
    (∃ (s : State) (k : Nat) (c : Cell), (c.restart = false ∨ (s.rxStream k).restarted = true) ∧ 1 ≤ offset
      (s.rxStream k).e c.seq.toNat ∧ offset (s.rxStream k).e c.seq.toNat ≤ 32767 ∧ ((s.rxStream k).held.any fun x =>
      x.2.seq = c.seq) = false ∧ 48 * 1048576 < (s.heldCells + 1) * 320) ∧
    (∃ (s : State) (src : Fin 128) (mc : Bool) (t0 : Nat) (c : Cell) (rest : List (Nat × Cell)) (k : Nat), k = 2 *
      src.val + b2n mc ∧ (s.rxStream k).held = (t0, c) :: rest ∧ ((s.rxStream k).losses ++ s.fabric.losses).any (fun t
      => decide (rest.foldl (fun t x => min t x.1) t0 ≤ t + s.fabric.skewLimit) && decide (t ≤ rest.foldl (fun t x =>
      min t x.1) t0 + s.fabric.skewLimit)) = false ∧ rest.foldl (fun t x => min t x.1) t0 + s.fabric.reasmTimeout ≤
      s.up) ∧
    (∃ (s : State) (src : Fin 128) (mc : Bool) (t0 : Nat) (c : Cell) (rest : List (Nat × Cell)) (k : Nat), k = 2 *
      src.val + b2n mc ∧ (s.rxStream k).held = (t0, c) :: rest ∧ ((s.rxStream k).losses ++ s.fabric.losses).any (fun t
      => decide (rest.foldl (fun t x => min t x.1) t0 ≤ t + s.fabric.skewLimit) && decide (t ≤ rest.foldl (fun t x =>
      min t x.1) t0 + s.fabric.skewLimit)) = true ∧ rest.foldl (fun t x => min t x.1) t0 + s.fabric.skewLimit ≤ s.up) ∧
    (∃ (s : State) (src : Fin 128) (mc : Bool) (p : Partial), (s.rxStream (2 * src.val + b2n mc)).open_ = some p ∧
      p.since + s.fabric.reasmTimeout ≤ s.up ∧ p.linked = false) :=
  ⟨⟨storeFull, 0,
     ({ multicast := false, restart := false, poisoned := false, src := 1, dst := 0, seq := 5, epoch := 0, firstOff := 511, fill := 288, payload := List.replicate 288 0#8 }
     : Cell), by decide +kernel, by decide +kernel, by decide +kernel, by decide +kernel, storeFull_held⟩,
   ⟨((live |> fun (s : State) => s.setRx (0 : Nat)
     { s.rxStream (0 : Nat) with held := ((999999999950000 : Nat), ({ multicast := false, restart := false, poisoned := false, src := 1, dst := 0, seq := 5, epoch := 0, firstOff := 511, fill := 288, payload := List.replicate 288 0#8 } : Cell)) :: ([] : List (Nat × Cell)) })
     |> fun (s : State) => s.setRx 0
     { s.rxStream 0 with held := [((999999999950000 : Nat), ({ multicast := false, restart := false, poisoned := false, src := 1, dst := 0, seq := 5, epoch := 0, firstOff := 511, fill := 288, payload := List.replicate 288 0#8 } : Cell))] }),
     (0 : Fin 128), false, 999999999950000,
     ({ multicast := false, restart := false, poisoned := false, src := 1, dst := 0, seq := 5, epoch := 0, firstOff := 511, fill := 288, payload := List.replicate 288 0#8 }
     : Cell), ([] : List (Nat × Cell)), 0, by decide +kernel⟩,
   ⟨((live |> fun (s : State) => s.setRx (0 : Nat)
     { s.rxStream (0 : Nat) with held := ((999999999997000 : Nat), ({ multicast := false, restart := false, poisoned := false, src := 1, dst := 0, seq := 5, epoch := 0, firstOff := 511, fill := 288, payload := List.replicate 288 0#8 } : Cell)) :: ([] : List (Nat × Cell)) })
     |> fun (s : State) => s.setRx 0
     { s.rxStream 0 with held := [((999999999997000 : Nat), ({ multicast := false, restart := false, poisoned := false, src := 1, dst := 0, seq := 5, epoch := 0, firstOff := 511, fill := 288, payload := List.replicate 288 0#8 } : Cell))], losses := [999999999997000] }),
     (0 : Fin 128), false, 999999999997000,
     ({ multicast := false, restart := false, poisoned := false, src := 1, dst := 0, seq := 5, epoch := 0, firstOff := 511, fill := 288, payload := List.replicate 288 0#8 }
     : Cell), ([] : List (Nat × Cell)), 0, by decide +kernel⟩,
   ⟨(live |> fun (s : State) => s.setRx (2 * (0 : Fin 128).val + b2n false)
     { s.rxStream (2 * (0 : Fin 128).val + b2n false) with open_ := some ({ packet := { }, need := 0, since := 0, admitted := [] } : Partial) }),
     (0 : Fin 128), false, ({ packet := { }, need := 0, since := 0, admitted := [] } : Partial), by decide +kernel⟩⟩

/-- The hypotheses of `Obligations.CreditConversation` are met. -/
theorem witness_CreditConversation :
    (∃ (s : State) (u : State) (link : Fin 256) (cell : List Byte) (index : Fin 18) (w : Nat) (m : RequestMsg),
      CreditFrom s u link cell index 1 w ∧ m = readRequest w ∧ m.rsvOk = true ∧ m.port.toNat < u.variant.lanes ∧ m.on
      = true ∧ afind u.queues.arb ((cellSrc cell).val, m.voq.toNat) = none ∧ u.queues.arb.length < 131072) ∧
    (∃ (s : State) (u : State) (link : Fin 256) (cell : List Byte) (index : Fin 18) (w : Nat) (m : RequestMsg),
      CreditFrom s u link cell index 1 w ∧ m = readRequest w ∧ m.rsvOk = true ∧ m.port.toNat < u.variant.lanes ∧ m.on
      = false ∧ afind u.queues.arb ((cellSrc cell).val, m.voq.toNat) = none) ∧
    (∃ (s : State) (u : State) (link : Fin 256) (cell : List Byte) (index : Fin 18) (w : Nat) (m : RequestMsg) (e :
      ArbEntry), CreditFrom s u link cell index 1 w ∧ m = readRequest w ∧ m.rsvOk = true ∧ m.port.toNat <
      u.variant.lanes ∧ afind u.queues.arb ((cellSrc cell).val, m.voq.toNat) = some e ∧ epochNewer m.reqSeq e.reqSeq =
      true) ∧
    (∃ (s : State) (u : State) (link : Fin 256) (cell : List Byte) (index : Fin 18) (w : Nat) (m : RequestMsg) (e :
      ArbEntry), CreditFrom s u link cell index 1 w ∧ m = readRequest w ∧ m.rsvOk = true ∧ m.port.toNat <
      u.variant.lanes ∧ afind u.queues.arb ((cellSrc cell).val, m.voq.toNat) = some e ∧ epochNewer m.reqSeq e.reqSeq =
      false) ∧
    (∃ (s : State) (u : State) (link : Fin 256) (cell : List Byte) (index : Fin 18) (w : Nat) (m : RequestMsg),
      CreditFrom s u link cell index 1 w ∧ m = readRequest w ∧ m.rsvOk = true ∧ m.port.toNat < u.variant.lanes ∧ m.on
      = true ∧ afind u.queues.arb ((cellSrc cell).val, m.voq.toNat) = none ∧ 131072 ≤ u.queues.arb.length) ∧
    (∃ (s : State) (u : State) (link : Fin 256) (cell : List Byte) (index : Fin 18) (w : Nat) (m : RequestMsg),
      CreditFrom s u link cell index 1 w ∧ m = readRequest w ∧ (m.rsvOk = false ∨ u.variant.lanes ≤ m.port.toNat)) ∧
    (∃ (s : State) (u : State) (link : Fin 256) (cell : List Byte) (w : Nat), s.hasLink link = true ∧ (s.link
      link).st = .up ∧ GoodCell cell ∧ u = s.heardCell link cell ∧ (u.link link).st = .up ∧ cellDst cell = u.myId ∧
      u.effective (cellSrc cell) = false) ∧
    (∃ (s : State) (u : State) (link : Fin 256) (cell : List Byte) (w : Nat), s.hasLink link = true ∧ (s.link
      link).st = .up ∧ GoodCell cell ∧ u = s.heardCell link cell ∧ (u.link link).st = .up ∧ cellDst cell ≠ u.myId) :=
  ⟨⟨((live |> fun (s : State) => s.setLink (0 : Fin 256) { s.link (0 : Fin 256) with st := .up }) |> fun (s : State)
     => s.setPeer 1 { s.peer 1 with effective := true }), ((((live |> fun (s : State) => s.setLink (0 : Fin 256)
     { s.link (0 : Fin 256) with st := .up }) |> fun (s : State) => s.setPeer 1 { s.peer 1 with effective := true }) :
     State).heardCell (0 : Fin 256) ((creditCell 0 [(1 * 2 ^ 124 + 1 * 2 ^ 123 + 191 * 2 ^ 115 + 3 * 2 ^ 112 + 5 * 2 ^
     95 + 1 * 2 ^ 79 + 0)]) : List Byte)), (0 : Fin 256), (creditCell 0 [(1 * 2 ^ 124 + 1 * 2 ^ 123 + 191 * 2 ^ 115 +
     3 * 2 ^ 112 + 5 * 2 ^ 95 + 1 * 2 ^ 79 + 0)]), (0 : Fin 18), (1 * 2 ^ 124 + 1 * 2 ^ 123 + 191 * 2 ^ 115 + 3 * 2 ^
     112 + 5 * 2 ^ 95 + 1 * 2 ^ 79 + 0), _, ⟨by decide +kernel, by decide +kernel, by unfold GoodCell; decide +kernel,
     by decide +kernel, rfl, by decide +kernel⟩, rfl, by decide +kernel⟩,
   ⟨((live |> fun (s : State) => s.setLink (0 : Fin 256) { s.link (0 : Fin 256) with st := .up }) |> fun (s : State)
     => s.setPeer 1 { s.peer 1 with effective := true }), ((((live |> fun (s : State) => s.setLink (0 : Fin 256)
     { s.link (0 : Fin 256) with st := .up }) |> fun (s : State) => s.setPeer 1 { s.peer 1 with effective := true }) :
     State).heardCell (0 : Fin 256) ((creditCell 0 [(1 * 2 ^ 124 + 0 * 2 ^ 123 + 0 * 2 ^ 115 + 3 * 2 ^ 112 + 5 * 2 ^
     95 + 1 * 2 ^ 79 + 0)]) : List Byte)), (0 : Fin 256), (creditCell 0 [(1 * 2 ^ 124 + 0 * 2 ^ 123 + 0 * 2 ^ 115 + 3
     * 2 ^ 112 + 5 * 2 ^ 95 + 1 * 2 ^ 79 + 0)]), (0 : Fin 18), (1 * 2 ^ 124 + 0 * 2 ^ 123 + 0 * 2 ^ 115 + 3 * 2 ^ 112
     + 5 * 2 ^ 95 + 1 * 2 ^ 79 + 0), _, ⟨by decide +kernel, by decide +kernel, by unfold GoodCell; decide +kernel,
     by decide +kernel, rfl, by decide +kernel⟩, rfl, by decide +kernel⟩,
   ⟨(((live |> fun (s : State) => s.setLink (0 : Fin 256) { s.link (0 : Fin 256) with st := .up }) |> fun (s :
     State) => s.setPeer 1 { s.peer 1 with effective := true }) |> fun (s : State) =>
     { s with queues := { s.queues with arb := [((1, 5), ⟨0, 3, 0⟩)] } }), (((((live |> fun (s : State) => s.setLink
     (0 : Fin 256) { s.link (0 : Fin 256) with st := .up }) |> fun (s : State) => s.setPeer 1
     { s.peer 1 with effective := true }) |> fun (s : State) =>
     { s with queues := { s.queues with arb := [((1, 5), ⟨0, 3, 0⟩)] } }) : State).heardCell (0 : Fin 256)
     ((creditCell 0 [(1 * 2 ^ 124 + 1 * 2 ^ 123 + 0 * 2 ^ 115 + 3 * 2 ^ 112 + 5 * 2 ^ 95 + 32767 * 2 ^ 79 + 0)]) :
     List Byte)), (0 : Fin 256), (creditCell 0 [(1 * 2 ^ 124 + 1 * 2 ^ 123 + 0 * 2 ^ 115 + 3 * 2 ^ 112 + 5 * 2 ^ 95 +
     32767 * 2 ^ 79 + 0)]), (0 : Fin 18), (1 * 2 ^ 124 + 1 * 2 ^ 123 + 0 * 2 ^ 115 + 3 * 2 ^ 112 + 5 * 2 ^ 95 + 32767
     * 2 ^ 79 + 0), _, (⟨0, 3, 0⟩ : ArbEntry), ⟨by decide +kernel, by decide +kernel,
     by unfold GoodCell; decide +kernel, by decide +kernel, rfl, by decide +kernel⟩, rfl, by decide +kernel⟩,
   ⟨(((live |> fun (s : State) => s.setLink (0 : Fin 256) { s.link (0 : Fin 256) with st := .up }) |> fun (s :
     State) => s.setPeer 1 { s.peer 1 with effective := true }) |> fun (s : State) =>
     { s with queues := { s.queues with arb := [((1, 5), ⟨0, 3, 0⟩)] } }), (((((live |> fun (s : State) => s.setLink
     (0 : Fin 256) { s.link (0 : Fin 256) with st := .up }) |> fun (s : State) => s.setPeer 1
     { s.peer 1 with effective := true }) |> fun (s : State) =>
     { s with queues := { s.queues with arb := [((1, 5), ⟨0, 3, 0⟩)] } }) : State).heardCell (0 : Fin 256)
     ((creditCell 0 [(1 * 2 ^ 124 + 1 * 2 ^ 123 + 0 * 2 ^ 115 + 3 * 2 ^ 112 + 5 * 2 ^ 95 + 32768 * 2 ^ 79 + 0)]) :
     List Byte)), (0 : Fin 256), (creditCell 0 [(1 * 2 ^ 124 + 1 * 2 ^ 123 + 0 * 2 ^ 115 + 3 * 2 ^ 112 + 5 * 2 ^ 95 +
     32768 * 2 ^ 79 + 0)]), (0 : Fin 18), (1 * 2 ^ 124 + 1 * 2 ^ 123 + 0 * 2 ^ 115 + 3 * 2 ^ 112 + 5 * 2 ^ 95 + 32768
     * 2 ^ 79 + 0), _, (⟨0, 3, 0⟩ : ArbEntry), ⟨by decide +kernel, by decide +kernel,
     by unfold GoodCell; decide +kernel, by decide +kernel, rfl, by decide +kernel⟩, rfl, by decide +kernel⟩,
   ⟨(((live |> fun (s : State) => s.setLink (0 : Fin 256) { s.link (0 : Fin 256) with st := .up }) |> fun (s :
     State) => s.setPeer 1 { s.peer 1 with effective := true }) |> fun (s : State) =>
     { s with queues := { s.queues with arb := List.replicate 131072 ((2, 7), ⟨0, 3, 0⟩) } }), (((((live |> fun (s :
     State) => s.setLink (0 : Fin 256) { s.link (0 : Fin 256) with st := .up }) |> fun (s : State) => s.setPeer 1
     { s.peer 1 with effective := true }) |> fun (s : State) =>
     { s with queues := { s.queues with arb := List.replicate 131072 ((2, 7), ⟨0, 3, 0⟩) } }) : State).heardCell (0 :
     Fin 256) ((creditCell 0 [(1 * 2 ^ 124 + 1 * 2 ^ 123 + 0 * 2 ^ 115 + 3 * 2 ^ 112 + 5 * 2 ^ 95 + 1 * 2 ^ 79 + 0)])
     : List Byte)), (0 : Fin 256), (creditCell 0 [(1 * 2 ^ 124 + 1 * 2 ^ 123 + 0 * 2 ^ 115 + 3 * 2 ^ 112 + 5 * 2 ^ 95
     + 1 * 2 ^ 79 + 0)]), (0 : Fin 18), (1 * 2 ^ 124 + 1 * 2 ^ 123 + 0 * 2 ^ 115 + 3 * 2 ^ 112 + 5 * 2 ^ 95 + 1 * 2 ^
     79 + 0), _, ⟨by decide +kernel, by decide +kernel, by unfold GoodCell; decide +kernel, by decide +kernel, rfl,
     by decide +kernel⟩, rfl, by decide +kernel, by decide +kernel, by decide +kernel,
     by rw [heardCell_queues _ _ _ (by decide +kernel)]; show afind (List.replicate 131072 _) _ = none; exact afind_replicate _ _ _ _ (by decide +kernel),
     by rw [heardCell_queues _ _ _ (by decide +kernel)]; show 131072 ≤ (List.replicate 131072 _).length; exact Nat.le_of_eq List.length_replicate.symm⟩,
   ⟨((live |> fun (s : State) => s.setLink (0 : Fin 256) { s.link (0 : Fin 256) with st := .up }) |> fun (s : State)
     => s.setPeer 1 { s.peer 1 with effective := true }), ((((live |> fun (s : State) => s.setLink (0 : Fin 256)
     { s.link (0 : Fin 256) with st := .up }) |> fun (s : State) => s.setPeer 1 { s.peer 1 with effective := true }) :
     State).heardCell (0 : Fin 256) ((creditCell 0 [(1 * 2 ^ 124 + 1 * 2 ^ 123 + 0 * 2 ^ 115 + 3 * 2 ^ 112 + 5 * 2 ^
     95 + 1 * 2 ^ 79 + 1)]) : List Byte)), (0 : Fin 256), (creditCell 0 [(1 * 2 ^ 124 + 1 * 2 ^ 123 + 0 * 2 ^ 115 + 3
     * 2 ^ 112 + 5 * 2 ^ 95 + 1 * 2 ^ 79 + 1)]), (0 : Fin 18), (1 * 2 ^ 124 + 1 * 2 ^ 123 + 0 * 2 ^ 115 + 3 * 2 ^ 112
     + 5 * 2 ^ 95 + 1 * 2 ^ 79 + 1), _, ⟨by decide +kernel, by decide +kernel, by unfold GoodCell; decide +kernel,
     by decide +kernel, rfl, by decide +kernel⟩, rfl, by decide +kernel⟩,
   ⟨((live |> fun (s : State) => s.setLink (0 : Fin 256) { s.link (0 : Fin 256) with st := .up }) |> fun (s : State)
     => s.setLink (0 : Fin 256) { s.link (0 : Fin 256) with st := .up }), ((((live |> fun (s : State) => s.setLink (0
     : Fin 256) { s.link (0 : Fin 256) with st := .up }) |> fun (s : State) => s.setLink (0 : Fin 256)
     { s.link (0 : Fin 256) with st := .up }) : State).heardCell (0 : Fin 256) ((creditCell 0 [(1 * 2 ^ 124 + 1 * 2 ^
     123 + 0 * 2 ^ 115 + 3 * 2 ^ 112 + 5 * 2 ^ 95 + 1 * 2 ^ 79 + 0)]) : List Byte)), (0 : Fin 256), (creditCell 0 [(1
     * 2 ^ 124 + 1 * 2 ^ 123 + 0 * 2 ^ 115 + 3 * 2 ^ 112 + 5 * 2 ^ 95 + 1 * 2 ^ 79 + 0)]), (1 * 2 ^ 124 + 1 * 2 ^ 123
     + 0 * 2 ^ 115 + 3 * 2 ^ 112 + 5 * 2 ^ 95 + 1 * 2 ^ 79 + 0), by unfold GoodCell; decide +kernel⟩,
   ⟨((live |> fun (s : State) => s.setLink (0 : Fin 256) { s.link (0 : Fin 256) with st := .up }) |> fun (s : State)
     => s.setLink (0 : Fin 256) { s.link (0 : Fin 256) with st := .up }), ((((live |> fun (s : State) => s.setLink (0
     : Fin 256) { s.link (0 : Fin 256) with st := .up }) |> fun (s : State) => s.setLink (0 : Fin 256)
     { s.link (0 : Fin 256) with st := .up }) : State).heardCell (0 : Fin 256) ((creditCell 9 [(1 * 2 ^ 124 + 1 * 2 ^
     123 + 0 * 2 ^ 115 + 3 * 2 ^ 112 + 5 * 2 ^ 95 + 1 * 2 ^ 79 + 0)]) : List Byte)), (0 : Fin 256), (creditCell 9 [(1
     * 2 ^ 124 + 1 * 2 ^ 123 + 0 * 2 ^ 115 + 3 * 2 ^ 112 + 5 * 2 ^ 95 + 1 * 2 ^ 79 + 0)]), (1 * 2 ^ 124 + 1 * 2 ^ 123
     + 0 * 2 ^ 115 + 3 * 2 ^ 112 + 5 * 2 ^ 95 + 1 * 2 ^ 79 + 0), by unfold GoodCell; decide +kernel⟩⟩

/-- The hypotheses of `Obligations.CreditConversation` are met, further clauses. -/
theorem witness_CreditConversation_2 :
    (∃ (s : State) (u : State) (link : Fin 256) (cell : List Byte) (index : Fin 18) (w : Nat) (m : GrantMsg) (q :
      Nat), CreditFrom s u link cell index 2 w ∧ m = readGrant w ∧ q = m.voq.toNat ∧ (u.queue q).present = true ∧
      (u.queue q).mcast = false ∧ (u.queue q).destModule = (cellSrc cell).val ∧ (u.queue q).destPort = m.port.toNat ∧
      (u.queue q).cls = m.cls.toNat ∧ (u.queue q).packets ≠ [] ∧ (u.queue q).balance + Int.ofNat m.bytes.toNat ≤
      Int.ofNat (2 * u.fabric.grantSize)) ∧
    (∃ (s : State) (u : State) (link : Fin 256) (cell : List Byte) (index : Fin 18) (w : Nat) (m : GrantMsg) (q :
      Nat), CreditFrom s u link cell index 2 w ∧ m = readGrant w ∧ q = m.voq.toNat ∧ ((u.queue q).present = false ∨
      (u.queue q).mcast = true ∨ (u.queue q).destModule ≠ (cellSrc cell).val ∨ (u.queue q).destPort ≠ m.port.toNat ∨
      (u.queue q).cls ≠ m.cls.toNat)) ∧
    (∃ (s : State) (u : State) (link : Fin 256) (cell : List Byte) (index : Fin 18) (w : Nat), CreditFrom s u link
      cell index 3 w) ∧
    (∃ (s : State) (u : State) (link : Fin 256) (cell : List Byte) (index : Fin 18), s.hasLink link = true ∧ ((s.link
      link).st = .up ∨ (s.link link).st = .ident) ∧ GoodCell cell ∧ u = (if index = 0 then s.heardCell link cell else
      s)) ∧
    (∃ (s : State) (voq : BitVec 17) (v : Queue), v = s.queue voq.toNat ∧ v.on = true ∧ v.mcast = false ∧ v.packets ≠
      [] ∧ v.grantAt + s.fabric.creditWd ≤ s.up ∧ s.effective v.destModule = true) :=
  ⟨⟨(((live |> fun (s : State) => s.setLink (0 : Fin 256) { s.link (0 : Fin 256) with st := .up }) |> fun (s :
     State) => s.setPeer 1 { s.peer 1 with effective := true }) |> fun (s : State) => s.setQueue 5
     { s.queue 5 with present := true, destModule := 1, cls := 3, packets := [{ len := 64 }] }), (((((live |> fun (s :
     State) => s.setLink (0 : Fin 256) { s.link (0 : Fin 256) with st := .up }) |> fun (s : State) => s.setPeer 1
     { s.peer 1 with effective := true }) |> fun (s : State) => s.setQueue 5
     { s.queue 5 with present := true, destModule := 1, cls := 3, packets := [{ len := 64 }] }) : State).heardCell (0
     : Fin 256) ((creditCell 0 [(2 * 2 ^ 124 + 0 * 2 ^ 115 + 3 * 2 ^ 112 + 5 * 2 ^ 95 + 4096 * 2 ^ 62)]) : List
     Byte)), (0 : Fin 256), (creditCell 0 [(2 * 2 ^ 124 + 0 * 2 ^ 115 + 3 * 2 ^ 112 + 5 * 2 ^ 95 + 4096 * 2 ^ 62)]),
     (0 : Fin 18), (2 * 2 ^ 124 + 0 * 2 ^ 115 + 3 * 2 ^ 112 + 5 * 2 ^ 95 + 4096 * 2 ^ 62), _, 5, ⟨by decide +kernel,
     by decide +kernel, by unfold GoodCell; decide +kernel, by decide +kernel, rfl, by decide +kernel⟩, rfl,
     by decide +kernel⟩,
   ⟨((live |> fun (s : State) => s.setLink (0 : Fin 256) { s.link (0 : Fin 256) with st := .up }) |> fun (s : State)
     => s.setPeer 1 { s.peer 1 with effective := true }), ((((live |> fun (s : State) => s.setLink (0 : Fin 256)
     { s.link (0 : Fin 256) with st := .up }) |> fun (s : State) => s.setPeer 1 { s.peer 1 with effective := true }) :
     State).heardCell (0 : Fin 256) ((creditCell 0 [(2 * 2 ^ 124 + 0 * 2 ^ 115 + 3 * 2 ^ 112 + 5 * 2 ^ 95 + 4096 * 2 ^
     62)]) : List Byte)), (0 : Fin 256), (creditCell 0 [(2 * 2 ^ 124 + 0 * 2 ^ 115 + 3 * 2 ^ 112 + 5 * 2 ^ 95 + 4096 *
     2 ^ 62)]), (0 : Fin 18), (2 * 2 ^ 124 + 0 * 2 ^ 115 + 3 * 2 ^ 112 + 5 * 2 ^ 95 + 4096 * 2 ^ 62), _, _,
     ⟨by decide +kernel, by decide +kernel, by unfold GoodCell; decide +kernel, by decide +kernel, rfl,
     by decide +kernel⟩, rfl, rfl, by decide +kernel⟩,
   ⟨((live |> fun (s : State) => s.setLink (0 : Fin 256) { s.link (0 : Fin 256) with st := .up }) |> fun (s : State)
     => s.setPeer 1 { s.peer 1 with effective := true }), ((((live |> fun (s : State) => s.setLink (0 : Fin 256)
     { s.link (0 : Fin 256) with st := .up }) |> fun (s : State) => s.setPeer 1 { s.peer 1 with effective := true }) :
     State).heardCell (0 : Fin 256) ((creditCell 0 [(3 * 2 ^ 124)]) : List Byte)), (0 : Fin 256), (creditCell 0 [(3 *
     2 ^ 124)]), (0 : Fin 18), (3 * 2 ^ 124), ⟨by decide +kernel, by decide +kernel,
     by unfold GoodCell; decide +kernel, by decide +kernel, rfl, by decide +kernel⟩⟩,
   ⟨((live |> fun (s : State) => s.setLink (0 : Fin 256) { s.link (0 : Fin 256) with st := .up }) |> fun (s : State)
     => s.setLink (0 : Fin 256) { s.link (0 : Fin 256) with st := .up }), _, (0 : Fin 256), (creditCell 0 []), (0 :
     Fin 18), by decide +kernel, by decide +kernel, by unfold GoodCell; decide +kernel, rfl⟩,
   ⟨((live |> fun (s : State) => s.setPeer 1 { s.peer 1 with effective := true }) |> fun (s : State) => s.setQueue 5
     { s.queue 5 with present := true, on := true, destModule := 1, packets := [{ len := 64 }] }), 5#17, _, rfl, rfl,
     rfl, by decide +kernel, by decide +kernel, rfl⟩⟩

/-- The hypotheses of `Obligations.DeepTierRequests` are met. -/
theorem witness_DeepTierRequests :
    (∃ (s : State) (c : Fin 512) (o : ReadOutcome) (e : Nat × Nat), c.val < 64 * s.variant.hbmStacks ∧ ((s.pch c).st
      = .open_ ∨ (s.pch c).st = .fenced ∨ (s.pch c).st = .draining) ∧ (s.stack (c / 64)).asleep = false ∧ (s.pch
      c).postponed.find? (fun e => 8 ≤ e.2) = some e) ∧
    (∃ (s : State) (c : Fin 512) (o : ReadOutcome) (r : Request), c.val < 64 * s.variant.hbmStacks ∧ ((s.pch c).st =
      .open_ ∨ (s.pch c).st = .fenced ∨ (s.pch c).st = .draining) ∧ (s.stack (c / 64)).asleep = false ∧ (s.pch
      c).postponed.find? (fun e => 8 ≤ e.2) = none ∧ (s.pch c).reads.find? (fun r => r.panic && (s.pch c).eligible r)
      = some r) ∧
    (∃ (s : State) (c : Fin 512) (o : ReadOutcome), c.val < 64 * s.variant.hbmStacks ∧ ((s.pch c).st = .open_ ∨
      (s.pch c).st = .fenced ∨ (s.pch c).st = .draining) ∧ (s.stack (c / 64)).asleep = false ∧ (s.pch
      c).postponed.find? (fun e => 8 ≤ e.2) = none ∧ (s.pch c).reads.find? (fun r => r.panic && (s.pch c).eligible r)
      = none ∧ (s.pch c).nbrForced = true) ∧
    (∃ (s : State) (c : Fin 512) (o : ReadOutcome) (r : Request), c.val < 64 * s.variant.hbmStacks ∧ ((s.pch c).st =
      .open_ ∨ (s.pch c).st = .fenced ∨ (s.pch c).st = .draining) ∧ (s.stack (c / 64)).asleep = false ∧ (s.pch
      c).postponed.find? (fun e => 8 ≤ e.2) = none ∧ (s.pch c).reads.find? (fun r => r.panic && (s.pch c).eligible r)
      = none ∧ (s.pch c).nbrForced = false ∧ s.pickFrom (s.pch c) (if (s.pch c).direction then (s.pch c).writes else
      (s.pch c).reads) = some r) ∧
    (∃ (s : State) (c : Fin 512) (o : ReadOutcome), c.val < 64 * s.variant.hbmStacks ∧ (s.pch c).st = .offline) ∧
    (∃ (s : State) (v : Pch) (l : List Request) (r : Request) (rs : List Request), l.filter v.eligible = r :: rs ∧
      r.at_ + 10000 < s.up) ∧
    (∃ (s : State) (v : Pch) (l : List Request) (r : Request) (q : Request) (rs : List Request), l.filter v.eligible
      = r :: rs ∧ s.up ≤ r.at_ + 10000 ∧ (r :: rs).find? v.hits = some q) ∧
    (∃ (s : State) (c : Fin 512), c.val < 64 * s.variant.hbmStacks ∧ ((s.pch c).reads.filter fun r => r.realTime &&
      !r.panic && decide (r.at_ + s.hbm.panicNs < s.up)).length ≠ 0) ∧
    (∃ (s : State) (c : Fin 512) (bank : Fin 64), c.val < 64 * s.variant.hbmStacks ∧ nget 0 (s.pch c).refreshAt bank
      + Config.refreshInterval (s.stackTemp (c / 64)) ≤ s.up ∧ (s.stack (c / 64)).asleep = false ∧ (s.pch
      c).queued.any (fun r => r.bank = bank.val) = false ∧ (s.pch c).st ≠ .offline) ∧
    (∃ (s : State) (c : Fin 512) (bank : Fin 64), c.val < 64 * s.variant.hbmStacks ∧ nget 0 (s.pch c).refreshAt bank
      + Config.refreshInterval (s.stackTemp (c / 64)) ≤ s.up ∧ (s.stack (c / 64)).asleep = false ∧ (s.pch c).st =
      .offline) :=
  ⟨⟨(((live |> fun (s : State) => s.setPch (0 : Fin 512) { s.pch (0 : Fin 512) with st := .open_ }) |> fun (s :
     State) => s.setStack ((0 : Fin 512) / 64) { s.stack ((0 : Fin 512) / 64) with asleep := false }) |> fun (s :
     State) => s.setPch (0 : Fin 512) { s.pch (0 : Fin 512) with postponed := [(5, 8)] }), (0 : Fin 512), (.ok :
     ReadOutcome), (5, 8), by decide +kernel⟩,
   ⟨(((live |> fun (s : State) => s.setPch (0 : Fin 512) { s.pch (0 : Fin 512) with st := .open_ }) |> fun (s :
     State) => s.setStack ((0 : Fin 512) / 64) { s.stack ((0 : Fin 512) / 64) with asleep := false }) |> fun (s :
     State) => s.setPch (0 : Fin 512)
     { s.pch (0 : Fin 512) with reads := [({ who := .tx, write := false, addr := 0, bytes := 64, at_ := 0, panic := true } : Request)] }),
     (0 : Fin 512), (.ok : ReadOutcome),
     ({ who := .tx, write := false, addr := 0, bytes := 64, at_ := 0, panic := true } : Request), by decide +kernel⟩,
   ⟨((live |> fun (s : State) => s.setPch (0 : Fin 512)
     { s.pch (0 : Fin 512) with st := .open_, nbrForced := true }) |> fun (s : State) => s.setStack ((0 : Fin 512) /
     64) { s.stack ((0 : Fin 512) / 64) with asleep := false }), (0 : Fin 512), (.ok : ReadOutcome),
     by decide +kernel⟩,
   ⟨(((live |> fun (s : State) => s.setPch (0 : Fin 512)
     { s.pch (0 : Fin 512) with st := .open_, nbrForced := false }) |> fun (s : State) => s.setStack ((0 : Fin 512) /
     64) { s.stack ((0 : Fin 512) / 64) with asleep := false }) |> fun (s : State) => s.setPch (0 : Fin 512)
     { s.pch (0 : Fin 512) with reads := [({ who := .tx, write := false, addr := 0, bytes := 64, at_ := 0 } : Request)] }),
     (0 : Fin 512), (.ok : ReadOutcome), ({ who := .tx, write := false, addr := 0, bytes := 64, at_ := 0 } : Request),
     by decide +kernel⟩,
   ⟨(live |> fun (s : State) => s.setPch (0 : Fin 512) { s.pch (0 : Fin 512) with st := .offline }), (0 : Fin 512),
     (.ok : ReadOutcome), by decide +kernel⟩,
   ⟨live, ({}), ([({ who := .tx, write := false, addr := 0, bytes := 64, at_ := 0 } : Request)] : List Request),
     ({ who := .tx, write := false, addr := 0, bytes := 64, at_ := 0 } : Request), ([] : List Request),
     by decide +kernel⟩,
   ⟨live, ({ rows := [(0, 0)] }), ([({ who := .tx, write := false, addr := 0, bytes := 64, at_ := 999999999990000 }
     : Request)] : List Request), ({ who := .tx, write := false, addr := 0, bytes := 64, at_ := 999999999990000 } :
     Request), ({ who := .tx, write := false, addr := 0, bytes := 64, at_ := 999999999990000 } : Request), ([] : List
     Request), by decide +kernel⟩,
   ⟨(live |> fun (s : State) => s.setPch (0 : Fin 512)
     { s.pch (0 : Fin 512) with reads := [({ who := .tx, write := false, addr := 0, bytes := 64, at_ := 0 } : Request)] }),
     (0 : Fin 512), by decide +kernel⟩,
   ⟨((live |> fun (s : State) => s.setStack ((0 : Fin 512) / 64)
     { s.stack ((0 : Fin 512) / 64) with asleep := false }) |> fun (s : State) =>
     { s with time := { s.time with uptime := Config.refreshInterval (s.stackTemp ((0 : Fin 512).val / 64)) } }), (0 :
     Fin 512), (0 : Fin 64), by decide +kernel, Nat.le_of_eq (Nat.zero_add _), by decide +kernel⟩,
   ⟨(((live |> fun (s : State) => s.setStack ((0 : Fin 512) / 64)
     { s.stack ((0 : Fin 512) / 64) with asleep := false }) |> fun (s : State) => s.setPch (0 : Fin 512)
     { s.pch (0 : Fin 512) with st := .offline }) |> fun (s : State) =>
     { s with time := { s.time with uptime := Config.refreshInterval (s.stackTemp ((0 : Fin 512).val / 64)) } }), (0 :
     Fin 512), (0 : Fin 64), by decide +kernel, Nat.le_of_eq (Nat.zero_add _), by decide +kernel⟩⟩

/-- The hypotheses of `Obligations.DeepTierTrainingSleepAndDrain` are met. -/
theorem witness_DeepTierTrainingSleepAndDrain :
    (∃ (s : State) (st : Fin 8) (lanes : List LaneSweep) (r : State × List (Nat × Nat)), st.val < s.variant.hbmStacks
      ∧ (s.stack st).enabled = true ∧ s.domain (89 + st.val) = true ∧ (s.stack st).active = true ∧ r = ((stackPchs
      st).filter fun c => (s.pch c).st = .training).foldl (fun (acc : State × List (Nat × Nat)) c => ((acc.1.trainPch
      c lanes).1, acc.2 ++ (acc.1.trainPch c lanes).2)) (s, []) ∧ ((r.1.recordRepairs r.2).stack st).active = true) ∧
    (∃ (s : State) (st : Fin 8) (lanes : List LaneSweep), st.val < s.variant.hbmStacks ∧ (s.stack st).enabled = false) ∧
    (∃ (s : State) (st : Fin 8) (c : Nat), st.val < s.variant.hbmStacks ∧ (s.stack st).active = true ∧ (s.stack
      st).enabled = true ∧ (s.stack st).window = none ∧ (s.stack st).nextWindow ≤ s.up + 20000 ∧ s.nextTurn st = some
      c) ∧
    (∃ (s : State) (st : Fin 8) (w : Window), st.val < s.variant.hbmStacks ∧ (s.stack st).window = some w ∧ (s.pch
      w.pch).st = .fenced ∧ w.tw ≤ s.up ∧ (s.stack st).asleep = false ∧ (s.pch w.pch).quiet = true ∧
      (s.buffers.writeBehind.all fun e => e.1 ≠ w.pch) = true) ∧
    (∃ (s : State) (st : Fin 8) (w : Window), st.val < s.variant.hbmStacks ∧ (s.stack st).window = some w ∧ (s.pch
      w.pch).st = .fenced ∧ w.tw + 20000 ≤ s.up ∧ (s.stack st).asleep = false ∧ (s.pch w.pch).quiet = false) ∧
    (∃ (s : State) (st : Fin 8) (w : Window), st.val < s.variant.hbmStacks ∧ (s.stack st).window = some w ∧ (s.pch
      w.pch).st = .fenced ∧ w.tw ≤ s.up ∧ (s.stack st).asleep = true) ∧
    (∃ (s : State) (st : Fin 8) (lanes : List LaneEdges), st.val < s.variant.hbmStacks ∧ (s.stack st).window = none) ∧
    (∃ (s : State) (u : State) (st : Fin 8) (lanes : List LaneEdges) (w : Window) (res : List (Nat × Option Lane)),
      st.val < s.variant.hbmStacks ∧ (s.stack st).window = some w ∧ (s.pch w.pch).st = .offline ∧ lanes.length = 4 ∧
      (s.pch w.pch).drainAfter = false ∧ res = ((List.range 4).zip lanes).map (fun e => (4 * w.pch + e.1, edgesResult
      e.2 (nget {} s.hbm.lanes (4 * w.pch + e.1)))) ∧ (res.all fun e => e.2.isSome) = true ∧ u = res.foldl (fun t e =>
      match e.2 with | some r => { t with hbm := { t.hbm with lanes := nset {} e.1 r t.hbm.lanes } } | none => t)
      (s.setStack st { s.stack st with window := none, idleSince := s.up })) ∧
    (∃ (s : State) (u : State) (st : Fin 8) (lanes : List LaneEdges) (w : Window) (res : List (Nat × Option Lane)),
      st.val < s.variant.hbmStacks ∧ (s.stack st).window = some w ∧ (s.pch w.pch).st = .offline ∧ lanes.length = 4 ∧
      (s.pch w.pch).drainAfter = false ∧ res = ((List.range 4).zip lanes).map (fun e => (4 * w.pch + e.1, edgesResult
      e.2 (nget {} s.hbm.lanes (4 * w.pch + e.1)))) ∧ (res.all fun e => e.2.isSome) = false ∧ u = s.setStack st
      { s.stack st with window := none, idleSince := s.up }) ∧
    (∃ (s : State) (u : State) (st : Fin 8), st.val < s.variant.hbmStacks ∧ s.hbm.srIdle ≠ 0 ∧ (s.stack st).active =
      true ∧ (s.stack st).asleep = false ∧ s.stackIdle st = true ∧ (s.stack st).idleSince + s.hbm.srIdle ≤ s.up ∧
      ((stackPchs st).any fun c => (s.pch c).st = .offline) = false ∧ u = (stackPchs st).foldl (fun s c => s.issueNbr
      c fun _ => true) s) ∧
    (∃ (s : State) (st : Fin 8), st.val < s.variant.hbmStacks ∧ s.hbm.srIdle = 0) ∧
    (∃ (s : State) (st : Fin 8) (r : Request) (rs : List Request), st.val < s.variant.hbmStacks ∧ (s.stack st).asleep
      = true ∧ ((stackPchs st).flatMap fun c => (s.pch c).queued) = r :: rs) ∧
    (∃ (s : State) (st : Fin 8), st.val < s.variant.hbmStacks ∧ ((stackPchs st).flatMap fun c => (s.pch c).queued) =
      []) ∧
    (∃ (s : State) (c : Fin 512), c.val < 64 * s.variant.hbmStacks ∧ s.pchDrained c = true) ∧
    (∃ (s : State) (c : Fin 512), c.val < 64 * s.variant.hbmStacks ∧ s.pchDrained c = false) ∧
    (∃ (s : State) (u : State) (st : Fin 8) (l : LetterId), st.val < s.variant.hbmStacks ∧ (s.stack st).draining =
      true ∧ (s.stack st).window = none ∧ ((∀ c ∈ stackPchs st, s.pchDrained c = true ∨ (s.pch c).st = .failed ∧
      s.pchInUse c = false)) ∧ (s.stack st).disable = some l ∧ u = (stackPchs st).foldl (fun s c => s.setPch c
      { lfsr := (s.pch c).lfsr, seq := (s.pch c).seq, st := .failed }) s) :=
  ⟨⟨(live |> fun (s : State) => s.setStack (0 : Fin 8)
     { s.stack (0 : Fin 8) with enabled := true, active := true }), (0 : Fin 8), ([] : List LaneSweep), _,
     by decide +kernel, by decide +kernel, by decide +kernel, by decide +kernel, rfl, by decide +kernel⟩,
   ⟨(live |> fun (s : State) => s.setStack (0 : Fin 8) { s.stack (0 : Fin 8) with enabled := false }), (0 : Fin 8),
     ([] : List LaneSweep), by decide +kernel⟩,
   ⟨((live |> fun (s : State) => s.setStack (0 : Fin 8)
     { s.stack (0 : Fin 8) with active := true, enabled := true, window := none }) |> fun (s : State) => s.setPch 5
     { s.pch 5 with st := .open_ }), (0 : Fin 8), 5, by decide +kernel⟩,
   ⟨((live |> fun (s : State) => s.setStack (0 : Fin 8)
     { s.stack (0 : Fin 8) with window := some ({ pch := 0, tw := 0 } : Window), asleep := false }) |> fun (s : State)
     => s.setPch ({ pch := 0, tw := 0 } : Window).pch
     { s.pch ({ pch := 0, tw := 0 } : Window).pch with st := .fenced }), (0 : Fin 8), ({ pch := 0, tw := 0 } :
     Window), by decide +kernel⟩,
   ⟨(((live |> fun (s : State) => s.setStack (0 : Fin 8)
     { s.stack (0 : Fin 8) with window := some ((⟨3, 0⟩) : Window), asleep := false }) |> fun (s : State) => s.setPch
     ((⟨3, 0⟩) : Window).pch { s.pch ((⟨3, 0⟩) : Window).pch with st := .fenced }) |> fun (s : State) => s.setPch 3
     { s.pch 3 with st := .fenced, reads := [({ who := .tx, write := false, addr := 0, bytes := 64, at_ := 0 } : Request)] }),
     (0 : Fin 8), (⟨3, 0⟩), by decide +kernel⟩,
   ⟨((live |> fun (s : State) => s.setStack (0 : Fin 8)
     { s.stack (0 : Fin 8) with window := some ({ pch := 0, tw := 0 } : Window), asleep := true }) |> fun (s : State)
     => s.setPch ({ pch := 0, tw := 0 } : Window).pch
     { s.pch ({ pch := 0, tw := 0 } : Window).pch with st := .fenced }), (0 : Fin 8), ({ pch := 0, tw := 0 } :
     Window), by decide +kernel⟩,
   ⟨(live |> fun (s : State) => s.setStack (0 : Fin 8) { s.stack (0 : Fin 8) with window := none }), (0 : Fin 8),
     ([] : List LaneEdges), by decide +kernel⟩,
   ⟨(((live |> fun (s : State) => s.setStack (0 : Fin 8)
     { s.stack (0 : Fin 8) with window := some ((⟨3, 0⟩) : Window) }) |> fun (s : State) => s.setPch ((⟨3, 0⟩) :
     Window).pch { s.pch ((⟨3, 0⟩) : Window).pch with st := .offline, drainAfter := false }) |> fun (s : State) =>
     { s with hbm := { s.hbm with lanes := [12, 13, 14, 15].map fun i => (i, { rdCentre := 80, wrCentre := 80 }) } }),
     _, (0 : Fin 8), (List.replicate 4 ⟨0x1FFFF, 0x1FFFF⟩ : List LaneEdges), (⟨3, 0⟩), _, by decide +kernel,
     by decide +kernel, by decide +kernel, by decide +kernel, by decide +kernel, rfl, by decide +kernel, rfl⟩,
   ⟨((live |> fun (s : State) => s.setStack (0 : Fin 8)
     { s.stack (0 : Fin 8) with window := some ((⟨3, 0⟩) : Window) }) |> fun (s : State) => s.setPch ((⟨3, 0⟩) :
     Window).pch { s.pch ((⟨3, 0⟩) : Window).pch with st := .offline, drainAfter := false }), _, (0 : Fin 8),
     (List.replicate 4 ⟨0, 0⟩ : List LaneEdges), (⟨3, 0⟩), _, by decide +kernel, by decide +kernel, by decide +kernel,
     by decide +kernel, by decide +kernel, rfl, by decide +kernel, rfl⟩,
   ⟨(live |> fun (s : State) => s.setStack (0 : Fin 8)
     { s.stack (0 : Fin 8) with active := true, asleep := false }), _, (0 : Fin 8), by decide +kernel,
     by decide +kernel, by decide +kernel, by decide +kernel, by decide +kernel, by decide +kernel, by decide +kernel,
     rfl⟩,
   ⟨(live |> fun (s : State) => { s with hbm := { s.hbm with srIdle := 0 } }), (0 : Fin 8), by decide +kernel⟩,
   ⟨((live |> fun (s : State) => s.setStack (0 : Fin 8) { s.stack (0 : Fin 8) with asleep := true }) |> fun (s :
     State) => s.setPch 3
     { s.pch 3 with reads := [({ who := .tx, write := false, addr := 0, bytes := 64, at_ := 0 } : Request)] }), (0 :
     Fin 8), ({ who := .tx, write := false, addr := 0, bytes := 64, at_ := 0 } : Request), ([] : List Request),
     by decide +kernel⟩,
   ⟨live, (0 : Fin 8), by decide +kernel⟩,
   ⟨(live |> fun (s : State) => s.setPch (0 : Fin 512) { s.pch (0 : Fin 512) with st := .draining }), (0 : Fin 512),
     by decide +kernel⟩,
   ⟨(live |> fun (s : State) =>
     { s with buffers := { s.buffers with owners := [(BufId.deep 0 0 0, ⟨Owner.queue 5, 0, 1⟩)] } }), (0 : Fin 512),
     by decide +kernel⟩,
   ⟨((live |> fun (s : State) => s.setStack (0 : Fin 8)
     { s.stack (0 : Fin 8) with draining := true, window := none, disable := some (⟨0, 1#32⟩ : LetterId) }) |> fun (s
     : State) => { s with hbm := { s.hbm with pchs := (List.range 64).map fun c => (c, { st := .failed }) } }), _, (0
     : Fin 8), (⟨0, 1#32⟩ : LetterId), by decide +kernel, by decide +kernel, by decide +kernel, by decide +kernel,
     by decide +kernel, rfl⟩⟩

/-- The hypotheses of `Obligations.DeepTierLetters` are met. -/
theorem witness_DeepTierLetters :
    (∃ (s : State) (l : LetterId) (x : W64), Claimed s l 0x0E01 [p8 x] ∧ 200 ≤ x.toNat ∧ x.toNat ≤ 5000) ∧
    (∃ (s : State) (l : LetterId) (x : W64), Claimed s l 0x0E01 [p8 x] ∧ x.toNat < 200) ∧
    (∃ (s : State) (l : LetterId) (x : W32), Claimed s l 0x0E02 [p4 x] ∧ 8 ≤ x.toNat ∧ x.toNat ≤ 16) ∧
    (∃ (s : State) (l : LetterId) (x : W64), Claimed s l 0x0E03 [p8 x] ∧ 10000000 ≤ x.toNat ∧ x.toNat ≤ 60000000000) ∧
    (∃ (s : State) (l : LetterId) (x : W64), Claimed s l 0x0E05 [p8 x] ∧ (x.toNat = 0 ∨ 500 ≤ x.toNat) ∧ x.toNat ≤
      1000000) ∧
    (∃ (s : State) (l : LetterId) (c : W32), Claimed s l 0x0E04 [p4 c] ∧ c.toNat ≤ 511 ∧ c.toNat < 64 *
      s.variant.hbmStacks ∧ (s.pch c.toNat).st = .open_) ∧
    (∃ (s : State) (l : LetterId) (c : W32), Claimed s l 0x0E04 [p4 c] ∧ c.toNat ≤ 511 ∧ c.toNat < 64 *
      s.variant.hbmStacks ∧ (s.pch c.toNat).st = .failed ∧ (s.stack (c.toNat / 64)).enabled = true) ∧
    (∃ (s : State) (l : LetterId) (c : W32), Claimed s l 0x0E04 [p4 c] ∧ c.toNat ≤ 511 ∧ c.toNat < 64 *
      s.variant.hbmStacks ∧ (s.pch c.toNat).st ≠ .open_ ∧ (s.pch c.toNat).st ≠ .failed) ∧
    (∃ (s : State) (l : LetterId) (st : W32), Claimed s l 0x0E06 [p4 st] ∧ st.toNat ≤ 7 ∧ st.toNat <
      s.variant.hbmStacks ∧ (s.stack st.toNat).draining = false ∧ (s.stack st.toNat).enabled = true) ∧
    (∃ (s : State) (l : LetterId) (st : W32), Claimed s l 0x0E07 [p4 st] ∧ st.toNat ≤ 7 ∧ st.toNat <
      s.variant.hbmStacks ∧ (s.stack st.toNat).draining = false ∧ (s.stack st.toNat).enabled = false) ∧
    (∃ (s : State) (l : LetterId) (st : W32) (result : W64), Claimed s l 0x0E08 [p4 st, p8 result] ∧ st.toNat ≤ 7 ∧
      st.toNat < s.variant.hbmStacks ∧ l.slice.val = 0) :=
  ⟨⟨(claimOn live (⟨0, 1#32⟩ : LetterId) 0x0E01 [p8 (200#64 : W64)]), (⟨0, 1#32⟩ : LetterId), 200#64,
     by unfold Claimed; decide +kernel⟩,
   ⟨(claimOn live (⟨0, 1#32⟩ : LetterId) 0x0E01 [p8 (199#64 : W64)]), (⟨0, 1#32⟩ : LetterId), 199#64,
     by unfold Claimed; decide +kernel⟩,
   ⟨(claimOn live (⟨0, 1#32⟩ : LetterId) 0x0E02 [p4 (8#32 : W32)]), (⟨0, 1#32⟩ : LetterId), 8#32,
     by unfold Claimed; decide +kernel⟩,
   ⟨(claimOn live (⟨0, 1#32⟩ : LetterId) 0x0E03 [p8 (10000000#64 : W64)]), (⟨0, 1#32⟩ : LetterId), 10000000#64,
     by unfold Claimed; decide +kernel⟩,
   ⟨(claimOn live (⟨0, 1#32⟩ : LetterId) 0x0E05 [p8 (0#64 : W64)]), (⟨0, 1#32⟩ : LetterId), 0#64,
     by unfold Claimed; decide +kernel⟩,
   ⟨(claimOn (live |> fun (s : State) => s.setPch (511#32 : W32).toNat
     { s.pch (511#32 : W32).toNat with st := .open_ }) (⟨0, 1#32⟩ : LetterId) 0x0E04 [p4 (511#32 : W32)]), (⟨0, 1#32⟩
     : LetterId), 511#32, by unfold Claimed; decide +kernel⟩,
   ⟨(claimOn ((live |> fun (s : State) => s.setPch (511#32 : W32).toNat
     { s.pch (511#32 : W32).toNat with st := .failed }) |> fun (s : State) => s.setStack ((511#32 : W32).toNat / 64)
     { s.stack ((511#32 : W32).toNat / 64) with enabled := true }) (⟨0, 1#32⟩ : LetterId) 0x0E04 [p4 (511#32 : W32)]),
     (⟨0, 1#32⟩ : LetterId), 511#32, by unfold Claimed; decide +kernel⟩,
   ⟨(claimOn live (⟨0, 1#32⟩ : LetterId) 0x0E04 [p4 (511#32 : W32)]), (⟨0, 1#32⟩ : LetterId), 511#32,
     by unfold Claimed; decide +kernel⟩,
   ⟨(claimOn (live |> fun (s : State) => s.setStack (7#32 : W32).toNat
     { s.stack (7#32 : W32).toNat with draining := false, enabled := true }) (⟨0, 1#32⟩ : LetterId) 0x0E06 [p4 (7#32 :
     W32)]), (⟨0, 1#32⟩ : LetterId), 7#32, by unfold Claimed; decide +kernel⟩,
   ⟨(claimOn (live |> fun (s : State) => s.setStack (7#32 : W32).toNat
     { s.stack (7#32 : W32).toNat with draining := false, enabled := false }) (⟨0, 1#32⟩ : LetterId) 0x0E07 [p4 (7#32
     : W32)]), (⟨0, 1#32⟩ : LetterId), 7#32, by unfold Claimed; decide +kernel⟩,
   ⟨(claimOn live (⟨0, 1#32⟩ : LetterId) 0x0E08 [p4 (7#32 : W32), p8 (0#64 : W64)]), (⟨0, 1#32⟩ : LetterId), 7#32,
     0#64, by unfold Claimed; decide +kernel⟩⟩

/-- The hypotheses of `Obligations.DoorbellsAndLettersTaken` are met. -/
theorem witness_DoorbellsAndLettersTaken :
    (∃ (s : State) (sl : Fin 64) (r : Fin 8) (count : W32), s.power.hkUp = true ∧ (s.ring sl r).isOpen = true ∧
      (count - (s.ring sl r).taken).toNat ≤ (s.ring sl r).depth) ∧
    (∃ (s : State) (sl : Fin 64) (r : Fin 8) (count : W32), s.power.hkUp = true ∧ (s.ring sl r).isOpen = true ∧
      (s.ring sl r).depth < (count - (s.ring sl r).taken).toNat) ∧
    (∃ (s : State) (sl : Fin 64) (r : Fin 8) (count : W32), s.power.hkUp = true ∧ (s.ring sl r).isOpen = true ∧
      (count - (s.ring sl r).consumed).toNat ≤ ((s.ring sl r).written - (s.ring sl r).consumed).toNat) ∧
    (∃ (s : State) (sl : Fin 64) (r : Fin 8) (count : W32), s.power.hkUp = true ∧ (s.ring sl r).isOpen = true ∧
      ((s.ring sl r).written - (s.ring sl r).consumed).toNat < (count - (s.ring sl r).consumed).toNat) ∧
    (∃ (s : State) (sl : Fin 64) (count : W32), s.power.hkUp = true ∧ (s.evRing sl).defined = true ∧ (count -
      (s.evRing sl).consumed).toNat ≤ ((s.evRing sl).written - (s.evRing sl).consumed).toNat) ∧
    (∃ (s : State) (sl : Fin 64) (count : W32), s.power.hkUp = true ∧ (s.evRing sl).defined = true ∧ ((s.evRing
      sl).written - (s.evRing sl).consumed).toNat < (count - (s.evRing sl).consumed).toNat) ∧
    (∃ (s : State) (pm : Pm) (sl : Fin 64) (r : Fin 8) (bytes : List Byte), s.pm.active = some pm ∧ s.ready = true ∧
      s.slCanTake sl = true ∧ s.allRateOk = true ∧ s.rateOk sl = true ∧ nget 0 s.roundTurns sl ≠ 0 ∧ (s.ring sl
      r).takeable = true ∧ s.nextRing sl = some r.val ∧ s.mayRequest sl = true) ∧
    (∃ (s : State) (pm : Pm) (sl : Fin 64) (r : Fin 8), s.pm.active = some pm ∧ s.ready = true ∧ s.slCanTake sl =
      true ∧ s.allRateOk = true ∧ s.rateOk sl = true ∧ nget 0 s.roundTurns sl ≠ 0 ∧ (s.ring sl r).takeable = true ∧
      s.nextRing sl = some r.val ∧ s.mayRequest sl = true) ∧
    (∃ (s : State) (pm : Pm) (sl : Fin 64) (x : InbandLetter) (xs : List InbandLetter), s.pm.active = some pm ∧
      s.ready = true ∧ s.slCanTake sl = true ∧ s.allRateOk = true ∧ s.rateOk sl = true ∧ nget 0 s.roundTurns sl ≠ 0 ∧
      s.inband sl = x :: xs ∧ s.nextRing sl = some 0) ∧
    (∃ (s : State) (pm : Pm) (sl : Fin 64) (src : TakeSource) (t : Nat), s.pm.active ≠ some pm ∧ s.pm.window = some
      (pm, t)) ∧
    (∃ (s : State) (pm : Pm) (sl : Fin 64) (src : TakeSource), s.pm.active = some pm ∧ s.ready = true ∧ s.slCanTake
      sl = true ∧ s.allRateOk = true ∧ s.rateOk sl = false ∧ (s.takeableRings sl).isEmpty = false ∧ nget false
      s.letters.waits sl = false) ∧
    (∃ (s : State) (pm : Pm) (sl : Fin 64) (src : TakeSource), s.pm.active = some pm ∧ s.rateOk sl = false ∧ nget
      false s.letters.waits sl = true) ∧
    (∃ (s : State) (pm : Pm) (sl : Fin 64) (src : TakeSource), s.pm.active = some pm ∧ s.allRateOk = false) ∧
    (∃ (s : State) (pm : Pm) (sl : Fin 64) (r : Fin 8) (index : W32) (bytes : List Byte) (h : Nat), h = leNat (bslice
      bytes 0 32) ∧ crc32c 0xFFFFFFFF (bslice bytes 0 28 ++ bslice bytes 32 (min (bits h 95 80) 224)) ≠ bits h 255 224) ∧
    (∃ (s : State) (pm : Pm) (sl : Fin 64) (port : Fin 2) (v6 : Bool) (src : Ip) (dst : Ip) (udp : Nat) (index : W32)
      (bytes : List Byte) (h : Nat), h = leNat (bslice bytes 0 32) ∧ crc32c 0xFFFFFFFF (bslice bytes 0 28 ++ bslice
      bytes 32 (min (bits h 95 80) 224)) ≠ bits h 255 224) ∧
    (∃ (s : State) (pm : Pm) (sl : Fin 64) (via : Via) (index : W32) (bytes : List Byte) (h : Nat) (o : Entry), ((∀
      hi, (s.ledger sl).high = some hi → seqNewer (BitVec.ofNat 32 (bits h 63 32)) hi = true ∨ (hi - BitVec.ofNat 32
      (bits h 63 32)).toNat ≤ 1023)) ∧ h = leNat (bslice bytes 0 32) ∧ crc32c 0xFFFFFFFF (bslice bytes 0 28 ++ bslice
      bytes 32 (min (bits h 95 80) 224)) = bits h 255 224 ∧ bits h 23 16 = 1 ∧ bits h 127 112 = 0 ∧ bits h 79 72 = 0 ∧
      bits h 31 28 = 0 ∧ bit h 24 = false ∧ bits h 95 80 ≤ 224 ∧ bits h 95 80 % 8 = 0 ∧ bits h 71 64 = sl.val ∧ nfind
      (s.ledger sl).entries ((BitVec.ofNat 32 (bits h 63 32)).toNat) = some o) ∧
    (∃ (s : State) (pm : Pm) (sl : Fin 64) (via : Via) (index : W32) (bytes : List Byte) (h : Nat) (hi : W32), h =
      leNat (bslice bytes 0 32) ∧ crc32c 0xFFFFFFFF (bslice bytes 0 28 ++ bslice bytes 32 (min (bits h 95 80) 224)) =
      bits h 255 224 ∧ bits h 23 16 = 1 ∧ bits h 127 112 = 0 ∧ bits h 79 72 = 0 ∧ bits h 31 28 = 0 ∧ bit h 24 = false
      ∧ bits h 95 80 ≤ 224 ∧ bits h 95 80 % 8 = 0 ∧ bits h 71 64 = sl.val ∧ (s.ledger sl).high = some hi ∧ seqNewer
      (BitVec.ofNat 32 (bits h 63 32)) hi = false ∧ 1023 < (hi - BitVec.ofNat 32 (bits h 63 32)).toNat) :=
  ⟨⟨((live |> fun (s : State) => { s with power := { s.power with hkUp := true } }) |> fun (s : State) => s.setRing
     (0 : Fin 64) (0 : Fin 8) { s.ring (0 : Fin 64) (0 : Fin 8) with st := .running, depth := 64 }), (0 : Fin 64), (0
     : Fin 8), 64#32, by decide +kernel⟩,
   ⟨((live |> fun (s : State) => { s with power := { s.power with hkUp := true } }) |> fun (s : State) => s.setRing
     (0 : Fin 64) (0 : Fin 8) { s.ring (0 : Fin 64) (0 : Fin 8) with st := .running, depth := 64 }), (0 : Fin 64), (0
     : Fin 8), 65#32, by decide +kernel⟩,
   ⟨((live |> fun (s : State) => { s with power := { s.power with hkUp := true } }) |> fun (s : State) => s.setRing
     (0 : Fin 64) (0 : Fin 8) { s.ring (0 : Fin 64) (0 : Fin 8) with st := .running, depth := 64, written := 3#32 }),
     (0 : Fin 64), (0 : Fin 8), 3#32, by decide +kernel⟩,
   ⟨((live |> fun (s : State) => { s with power := { s.power with hkUp := true } }) |> fun (s : State) => s.setRing
     (0 : Fin 64) (0 : Fin 8) { s.ring (0 : Fin 64) (0 : Fin 8) with st := .running, depth := 64, written := 3#32 }),
     (0 : Fin 64), (0 : Fin 8), 4#32, by decide +kernel⟩,
   ⟨((live |> fun (s : State) => { s with power := { s.power with hkUp := true } }) |> fun (s : State) =>
     s.setEvRing (0 : Fin 64) { s.evRing (0 : Fin 64) with defined := true }), (0 : Fin 64), 0#32, by decide +kernel⟩,
   ⟨((live |> fun (s : State) => { s with power := { s.power with hkUp := true } }) |> fun (s : State) =>
     s.setEvRing (0 : Fin 64) { s.evRing (0 : Fin 64) with defined := true }), (0 : Fin 64), 1#32, by decide +kernel⟩,
   ⟨(((live |> fun (s : State) => { s with pm := { s.pm with active := some (.a : Pm) } }) |> fun (s : State) =>
     { s with courier := { s.courier with pasidOn := true } }.setSlice 0 { s.slice 0 with st := .active }) |> fun (s :
     State) => s.setRing 0 0 { s.ring 0 0 with st := .running, depth := 64, placed := 1#32 }), (.a : Pm), (0 : Fin
     64), (0 : Fin 8), (bareLetter ++ List.replicate 224 0#8), by decide +kernel⟩,
   ⟨(((live |> fun (s : State) => { s with pm := { s.pm with active := some (.a : Pm) } }) |> fun (s : State) =>
     { s with courier := { s.courier with pasidOn := true } }.setSlice 0 { s.slice 0 with st := .active }) |> fun (s :
     State) => s.setRing 0 0 { s.ring 0 0 with st := .running, depth := 64, placed := 1#32 }), (.a : Pm), (0 : Fin
     64), (0 : Fin 8), by decide +kernel⟩,
   ⟨(((live |> fun (s : State) => { s with pm := { s.pm with active := some (.a : Pm) } }) |> fun (s : State) =>
     { s with courier := { s.courier with pasidOn := true } }.setSlice 0 { s.slice 0 with st := .active }) |> fun (s :
     State) => { s with letters := { s.letters with inband := [(0, [(⟨.ring 0, bareLetter⟩ : InbandLetter)])] } }),
     (.a : Pm), (0 : Fin 64), (⟨.ring 0, bareLetter⟩ : InbandLetter), ([] : List InbandLetter), by decide +kernel⟩,
   ⟨(live |> fun (s : State) => { s with pm := { s.pm with window := some ((Pm.b : Pm), (0 : Nat)) } }), Pm.b, (0 :
     Fin 64), .inband, 0, by decide +kernel⟩,
   ⟨((((live |> fun (s : State) => { s with pm := { s.pm with active := some (.a : Pm) } }) |> fun (s : State) =>
     { s with courier := { s.courier with pasidOn := true } }.setSlice 0 { s.slice 0 with st := .active }) |> fun (s :
     State) => s.setRing 0 0 { s.ring 0 0 with st := .running, depth := 64, placed := 1#32 }) |> fun (s : State) =>
     s.setSlice 0 { s.slice 0 with rate := (1000000000, s.time.uptime) }), (.a : Pm), (0 : Fin 64), .inband,
     by decide +kernel⟩,
   ⟨(((live |> fun (s : State) => { s with pm := { s.pm with active := some (.a : Pm) } }) |> fun (s : State) =>
     s.setSlice 0 { s.slice 0 with rate := (1000000000, s.time.uptime) }) |> fun (s : State) =>
     { s with letters := { s.letters with waits := [(0, true)] } }), (.a : Pm), (0 : Fin 64), ((.ring 0 none) :
     TakeSource), by decide +kernel⟩,
   ⟨((live |> fun (s : State) => { s with pm := { s.pm with active := some (.a : Pm) } }) |> fun (s : State) =>
     { s with letters := { s.letters with rate := (10 ^ 12, s.time.uptime) } }), (.a : Pm), (0 : Fin 64), ((.ring 0
     none) : TakeSource), by decide +kernel⟩,
   ⟨live, (.a : Pm), (0 : Fin 64), (0 : Fin 8), 0#32, ([] : List Byte), _, rfl, by decide +kernel⟩,
   ⟨live, (.a : Pm), (0 : Fin 64), (0 : Fin 2), false, 0#128, 0#128, 0, 0#32, ([] : List Byte), _, rfl,
     by decide +kernel⟩,
   ⟨(live |> fun (s : State) => s.setLedger 0 { s.ledger 0 with entries := [(0, ({ st := .done } : Entry))] }), (.a
     : Pm), (0 : Fin 64), ((.ring 0) : Via), 0#32, bareLetter, _, ({ st := .done } : Entry), fun hi hh => (nomatch
     (show none = some hi from hh)), rfl, by decide +kernel⟩,
   ⟨(live |> fun (s : State) => s.setLedger 0 { s.ledger 0 with high := some 1024#32 }), (.a : Pm), (0 : Fin 64),
     ((.ring 0) : Via), 0#32, bareLetter, _, 1024#32, rfl, by decide +kernel⟩⟩

/-- The hypotheses of `Obligations.EffectStepsAndReceipts` are met. -/
theorem witness_EffectStepsAndReceipts :
    (∃ (s : State) (pm : Pm) (l : LetterId) (ack : Bool) (e : Entry), s.entry l = some e ∧ e.st = .accepted ∧
      e.journaled < effectSteps e.opcode.toNat ∧ s.mayStep pm e = true ∧ (s.pm.active = some pm ∨ termChecked
      e.opcode.toNat = false) ∧ (s.standbyWatches pm = false ∨ ack = true)) ∧
    (∃ (s : State) (pm : Pm) (l : LetterId) (ack : Bool) (e : Entry), s.entry l = some e ∧ e.st = .accepted ∧
      e.journaled < effectSteps e.opcode.toNat ∧ s.mayStep pm e = true ∧ s.pm.active ≠ some pm ∧ termChecked
      e.opcode.toNat = true) ∧
    (∃ (s : State) (pm : Pm) (l : LetterId) (e : Entry), s.entry l = some e ∧ e.st = .accepted ∧ e.journaled <
      effectSteps e.opcode.toNat ∧ s.mayStep pm e = true ∧ (s.pm.active = some pm ∨ termChecked e.opcode.toNat =
      false) ∧ s.standbyWatches pm = true) ∧
    (∃ (s : State) (l : LetterId) (e : Entry), s.entry l = some e ∧ e.st = .accepted ∧ e.waits = false ∧ effectSteps
      e.opcode.toNat ≤ e.journaled) ∧
    (∃ (s : State) (l : LetterId) (e : Entry), s.entry l = some e ∧ e.waits = true) ∧
    (∃ (s : State) (u : State) (sl : Fin 64) (r : Fin 8) (rc : Receipt) (rest : List (Receipt × Bool)) (g : Ring), g
      = s.ring sl r ∧ g.ready = (rc, true) :: rest ∧ (g.st = .running ∨ g.st = .closing) ∧ s.mayRequest sl = true ∧ u
      = (((s.setRing sl r
      { g with ready := rest, reserved := g.reserved - 1, written := g.written + 1#32, owed := g.owed - 1, unconfirmed := g.unconfirmed ++ [rc.seq] }).hostWriteLast
      sl (g.receipts + BitVec.ofNat 64 (256 * (g.written.toNat % g.depth))) (rc.bytes (decide (g.written.toNat /
      g.depth % 2 = 0)))).signal (32 * sl + r))) ∧
    (∃ (s : State) (sl : Fin 64) (r : Fin 8) (rc : Receipt) (rest : List (Receipt × Bool)) (g : Ring), g = s.ring sl
      r ∧ g.ready = (rc, true) :: rest ∧ g.st = .running ∧ s.mayRequest sl = true) ∧
    (∃ (s : State) (sl : Fin 64) (r : Fin 8) (busOk : Bool), (s.ring sl r).ready = []) ∧
    (∃ (s : State) (sl : Fin 64) (e : Event) (rest : List Event) (g : EventRing), g = s.evRing sl ∧ g.queue = e ::
      rest ∧ g.defined = true ∧ g.stopped = false ∧ s.mayRequest sl = true ∧ (s.slice sl).st ≠ .resetting ∧
      s.owesReceipts sl = false) ∧
    (∃ (s : State) (sl : Fin 64) (ok : Bool), ((s.slice sl).st = .resetting ∨ s.owesReceipts sl = true)) :=
  ⟨⟨((live |> fun (s : State) => { s with pm := { s.pm with active := some (.a : Pm) } }) |> fun (s : State) =>
     s.setEntry (⟨0, 1#32⟩ : LetterId) ({ st := .accepted } : Entry)), (.a : Pm), (⟨0, 1#32⟩ : LetterId), true,
     ({ st := .accepted } : Entry), by decide +kernel, by decide +kernel,
     by show 0 < 1 + Config.extraEffectSteps _; omega, by decide +kernel⟩,
   ⟨((live |> fun (s : State) => { s with pm := { s.pm with active := some .a, window := some (.b, 0) } }) |> fun (s
     : State) => s.setEntry (⟨0, 1#32⟩ : LetterId) ({ pm := .b, st := .accepted, opcode := 0x1302#16 } : Entry)), .b,
     (⟨0, 1#32⟩ : LetterId), false, ({ pm := .b, st := .accepted, opcode := 0x1302#16 } : Entry), by decide +kernel,
     by decide +kernel, by show 0 < 1 + Config.extraEffectSteps _; omega, by decide +kernel⟩,
   ⟨(((live |> fun (s : State) => { s with pm := { s.pm with active := some (.a : Pm) } }) |> fun (s : State) =>
     s.setEntry (⟨0, 1#32⟩ : LetterId) ({ st := .accepted } : Entry)) |> fun (s : State) => s.setPost .b
     { s.post .b with role := .standby, synced := true }), (.a : Pm), (⟨0, 1#32⟩ : LetterId), ({ st := .accepted } :
     Entry), by decide +kernel, by decide +kernel, by show 0 < 1 + Config.extraEffectSteps _; omega,
     by decide +kernel⟩,
   ⟨(live |> fun (s : State) => s.setEntry (⟨0, 1#32⟩ : LetterId)
     ({ st := .accepted, journaled := 1 + Config.extraEffectSteps (0#16).toNat } : Entry)), (⟨0, 1#32⟩ : LetterId),
     ({ st := .accepted, journaled := 1 + Config.extraEffectSteps (0#16).toNat } : Entry), rfl, by decide +kernel,
     by decide +kernel, Nat.le_refl _⟩,
   ⟨(live |> fun (s : State) => s.setEntry (⟨0, 1#32⟩ : LetterId) ({ st := .accepted, waits := true } : Entry)),
     (⟨0, 1#32⟩ : LetterId), ({ st := .accepted, waits := true } : Entry), by decide +kernel⟩,
   ⟨((live |> fun (s : State) => s.setRing 0 0 ({ st := .running, ready := [(({} : Receipt), true)], depth := 64 } :
     Ring)) |> fun (s : State) => { s with courier := { s.courier with pasidOn := true } }.setSlice 0
     { s.slice 0 with st := .active }), _, (0 : Fin 64), (0 : Fin 8), ({} : Receipt), ([] : List (Receipt × Bool)),
     ({ st := .running, ready := [(({} : Receipt), true)], depth := 64 } : Ring), by decide +kernel,
     by decide +kernel, by decide +kernel, by decide +kernel, rfl⟩,
   ⟨((live |> fun (s : State) => s.setRing 0 0 ({ st := .running, ready := [(({} : Receipt), true)], depth := 64 } :
     Ring)) |> fun (s : State) => { s with courier := { s.courier with pasidOn := true } }.setSlice 0
     { s.slice 0 with st := .active }), (0 : Fin 64), (0 : Fin 8), ({} : Receipt), ([] : List (Receipt × Bool)),
     ({ st := .running, ready := [(({} : Receipt), true)], depth := 64 } : Ring), by decide +kernel⟩,
   ⟨(live |> fun (s : State) => s.setRing (0 : Fin 64) (0 : Fin 8)
     { s.ring (0 : Fin 64) (0 : Fin 8) with ready := [] }), (0 : Fin 64), (0 : Fin 8), false, by decide +kernel⟩,
   ⟨((live |> fun (s : State) => s.setEvRing 0 ({ defined := true, queue := [({} : Event)], depth := 64 } :
     EventRing)) |> fun (s : State) => { s with courier := { s.courier with pasidOn := true } }.setSlice 0
     { s.slice 0 with st := .active }), (0 : Fin 64), ({} : Event), ([] : List Event),
     ({ defined := true, queue := [({} : Event)], depth := 64 } : EventRing), by decide +kernel⟩,
   ⟨(live |> fun (s : State) => s.setSlice (0 : Fin 64) { s.slice (0 : Fin 64) with st := .resetting }), (0 : Fin
     64), false, by decide +kernel⟩⟩

/-- The hypotheses of `Obligations.ManagementPorts` are met. -/
theorem witness_ManagementPorts :
    (∃ (s : State) (port : Fin 2) (d : Datagram) (b : Nat × Ip × Nat) (letters : List (List Byte)),
      ((s.mgmt.bindings.find? fun b => b.2.1 = d.src ∧ b.2.2 = d.srcPort.toNat) = some b) ∧ splitLetters 5 d.payload =
      some letters ∧ s.pm.active ≠ none ∧ s.ready = true ∧ d.dstPort.toNat = s.mgmt.udp ∧ s.ownAddress port d.v6 d.dst
      = true ∧ d.vlan.toNat = (s.mgmtPort port).vlan ∧ letters ≠ [] ∧ (s.slice b.1).st ≠ .resetting ∧ (s.slice b.1).st
      ≠ .absent ∧ (letters.all fun x => leNat (bslice x 8 1) = b.1) = true) ∧
    (∃ (s : State) (port : Fin 2) (d : Datagram), ((s.mgmt.bindings.find? fun b => b.2.1 = d.src ∧ b.2.2 =
      d.srcPort.toNat) = none)) ∧
    (∃ (s : State) (u : State) (sl : Fin 64) (port : Fin 2) (v6 : Bool) (addr : Ip) (own : Ip) (hop : Ip) (udp : Nat)
      (r0 : Receipt) (t0 : Nat) (rest : List (Via × Receipt × Nat)) (via : Via) (n : Neighbour) (mac : Mac), via =
      .inband port v6 addr udp own ∧ nget [] s.letters.replies sl.val = (via, r0, t0) :: rest ∧ s.sliceHeld sl = false
      ∧ (u =
      { s with letters := { s.letters with replies := nset [] sl.val (rest.filter fun x => x ∉ (rest.filter fun x => x.1 = via ∧ x.2.2 ≤ t0 + 10000).take 4) s.letters.replies } })
      ∧ u.nextHop port v6 addr = some hop ∧ u.neighbour port v6 hop = some n ∧ n.mac = some mac) ∧
    (∃ (s : State) (u : State) (sl : Fin 64) (port : Fin 2) (v6 : Bool) (addr : Ip) (own : Ip) (udp : Nat) (r0 :
      Receipt) (t0 : Nat) (rest : List (Via × Receipt × Nat)) (via : Via), via = .inband port v6 addr udp own ∧ nget
      [] s.letters.replies sl.val = (via, r0, t0) :: rest ∧ s.sliceHeld sl = false ∧ (u =
      { s with letters := { s.letters with replies := nset [] sl.val (rest.filter fun x => x ∉ (rest.filter fun x => x.1 = via ∧ x.2.2 ≤ t0 + 10000).take 4) s.letters.replies } })
      ∧ u.nextHop port v6 addr = none) ∧
    (∃ (s : State) (port : Fin 2) (target : BitVec 32) (sender : BitVec 32) (mac : Mac), s.ownAddress port false
      (target.setWidth 128) = true) ∧
    (∃ (s : State) (port : Fin 2) (target : Ip) (sender : Ip) (mac : Mac), s.ownAddress port true target = true) ∧
    (∃ (s : State) (port : Fin 2) (t4 : BitVec 32) (s4 : BitVec 32) (t6 : Ip) (s6 : Ip) (mac : Mac), s.ownAddress
      port false (t4.setWidth 128) = false ∧ s.ownAddress port true t6 = false) ∧
    (∃ (s : State) (port : Fin 2) (v6 : Bool) (dst : Ip) (src : Ip) (recent : List Nat), s.ownAddress port v6 dst =
      true ∧ recent = (nget [] s.mgmt.echoes port.val).filter (fun t => s.up < t + 1000000000) ∧ recent.length < 100) ∧
    (∃ (s : State) (port : Fin 2) (v6 : Bool) (dst : Ip) (src : Ip), 100 ≤ ((nget [] s.mgmt.echoes port.val).filter
      fun t => s.up < t + 1000000000).length) ∧
    (∃ (s : State) (port : Fin 2) (v6 : Bool) (addr : Ip) (mac : Mac) (n : Neighbour), s.neighbour port v6 addr =
      some n ∧ s.mgmt.waiting = []) ∧
    (∃ (s : State) (u : State) (port : Fin 2) (v6 : Bool) (addr : Ip) (own : Ip) (udp : Nat) (mac : Mac) (n :
      Neighbour) (rs : List Receipt), s.neighbour port v6 addr = some n ∧ s.mgmt.waiting = [(addr, .inband port v6
      addr udp own, rs)] ∧ u = s.setNeighbour { n with mac := some mac, used := s.up }) ∧
    (∃ (s : State) (port : Fin 2) (v6 : Bool) (addr : Ip) (n : Neighbour), s.neighbour port v6 addr = some n ∧ n.mac
      = none ∧ n.used + 1000000000 ≤ s.up ∧ n.tries < 3) ∧
    (∃ (s : State) (port : Fin 2) (v6 : Bool) (addr : Ip) (n : Neighbour), s.neighbour port v6 addr = some n ∧ n.mac
      = none ∧ n.used + 1000000000 ≤ s.up ∧ 3 ≤ n.tries ∧ s.mgmt.waiting = []) ∧
    (∃ (s : State) (port : Fin 2) (v6 : Bool) (addr : Ip) (n : Neighbour), s.neighbour port v6 addr = some n ∧ n.mac
      ≠ none ∧ n.used + 300000000000 ≤ s.up) :=
  ⟨⟨(((live |> fun (s : State) =>
     { s with mgmt := { s.mgmt with ports := [(0, { s.mgmtPort 0 with ipv4 := 0x0A000001#32, ipv4Plen := 24, ipv4Gw := 0#32 })] } })
     |> fun (s : State) => { s with mgmt := { s.mgmt with bindings := [(0, 0x0A000002, 5000)] } }) |> fun (s : State)
     => { s with courier := { s.courier with pasidOn := true } }.setSlice 0 { s.slice 0 with st := .active }), (0 :
     Fin 2),
     ({ v6 := false, src := 0x0A000002, dst := 0x0A000001, srcPort := 5000, dstPort := 50740, vlan := 0, payload := bareLetter }
     : Datagram), (0, 0x0A000002, 5000), ([bareLetter] : List (List Byte)), by decide +kernel⟩,
   ⟨live, (0 : Fin 2),
     ({ v6 := false, src := 0#128, dst := 0#128, srcPort := 0#16, dstPort := 0#16, vlan := 0#12, payload := [] } :
     Datagram), by decide +kernel⟩,
   ⟨(((live |> fun (s : State) =>
     { s with mgmt := { s.mgmt with ports := [(0, { s.mgmtPort 0 with ipv4 := 0x0A000001#32, ipv4Plen := 24, ipv4Gw := 0#32 })] } })
     |> fun (s : State) =>
     { s with mgmt := { s.mgmt with neighbours := [({ port := 0, v6 := false, addr := 0x0A000002#128, mac := some 7, used := 0, tries := 0 } : Neighbour)] } })
     |> fun (s : State) =>
     { s with letters := { s.letters with replies := [(0, [(((Via.inband 0 false 0x0A000002 5000 0x0A000001) : Via), ({} : Receipt), (0 : Nat))])] } }),
     _, (0 : Fin 64), (0 : Fin 2), false, 0x0A000002#128, 0x0A000001#128, 0x0A000002#128, 5000, ({} : Receipt), 0, ([]
     : List (Via × Receipt × Nat)), (Via.inband 0 false 0x0A000002 5000 0x0A000001),
     ({ port := 0, v6 := false, addr := 0x0A000002#128, mac := some 7, used := 0, tries := 0 } : Neighbour), 7,
     by decide +kernel, by decide +kernel, by decide +kernel, rfl, by decide +kernel⟩,
   ⟨(live |> fun (s : State) =>
     { s with letters := { s.letters with replies := [(0, [(((Via.inband 0 false 0x0A000002 5000 0x0A000001) : Via), ({} : Receipt), (0 : Nat))])] } }),
     _, (0 : Fin 64), (0 : Fin 2), false, 0x0A000002#128, 0x0A000001#128, 5000, ({} : Receipt), 0, ([] : List (Via ×
     Receipt × Nat)), (Via.inband 0 false 0x0A000002 5000 0x0A000001), by decide +kernel, by decide +kernel,
     by decide +kernel, rfl, by decide +kernel⟩,
   ⟨(live |> fun (s : State) =>
     { s with mgmt := { s.mgmt with ports := [(0, { s.mgmtPort 0 with ipv4 := 0x0A000001#32, ipv4Plen := 24, ipv4Gw := 0#32 })] } }),
     (0 : Fin 2), 0x0A000001#32, 0#32, 0, by decide +kernel⟩,
   ⟨live, (0 : Fin 2), (linkLocal 0), 0#128, 0, by simp [State.ownAddress]⟩,
   ⟨live, (0 : Fin 2), 0#32, 0#32, (linkLocal 0 + 1#128), 0#128, 0, by decide +kernel, linkLocal_next⟩,
   ⟨(live |> fun (s : State) =>
     { s with mgmt := { s.mgmt with ports := [(0, { s.mgmtPort 0 with ipv4 := 0x0A000001#32, ipv4Plen := 24, ipv4Gw := 0#32 })] } }),
     (0 : Fin 2), false, 0x0A000001#128, 0#128, _, by decide +kernel, rfl, by decide +kernel⟩,
   ⟨(live |> fun (s : State) =>
     { s with mgmt := { s.mgmt with echoes := [(0, List.replicate 100 s.time.uptime)] } }), (0 : Fin 2), false, 0#128,
     0#128, by decide +kernel⟩,
   ⟨((live |> fun (s : State) => { s with mgmt := { s.mgmt with waiting := [] } }) |> fun (s : State) =>
     { s with mgmt := { s.mgmt with neighbours := [({ port := 0, v6 := false, addr := 0#128, mac := none, used := 0, tries := 0 } : Neighbour)] } }),
     (0 : Fin 2), false, 0#128, 0, ({ port := 0, v6 := false, addr := 0#128, mac := none, used := 0, tries := 0 } :
     Neighbour), by decide +kernel⟩,
   ⟨((live |> fun (s : State) =>
     { s with mgmt := { s.mgmt with waiting := [((0#128 : Ip), .inband (0 : Fin 2) false (0#128 : Ip) (0 : Nat) (0#128 : Ip), ([{}] : List Receipt))] } })
     |> fun (s : State) =>
     { s with mgmt := { s.mgmt with neighbours := [({ port := 0, v6 := false, addr := 0#128, mac := none, used := 0, tries := 0 } : Neighbour)] } }),
     _, (0 : Fin 2), false, 0#128, 0#128, 0, 0,
     ({ port := 0, v6 := false, addr := 0#128, mac := none, used := 0, tries := 0 } : Neighbour), ([{}] : List
     Receipt), by decide +kernel, by decide +kernel, rfl⟩,
   ⟨(live |> fun (s : State) =>
     { s with mgmt := { s.mgmt with neighbours := [({ port := 0, v6 := false, addr := 0#128, mac := none, used := 0, tries := 2 } : Neighbour)] } }),
     (0 : Fin 2), false, 0#128, ({ port := 0, v6 := false, addr := 0#128, mac := none, used := 0, tries := 2 } :
     Neighbour), by decide +kernel⟩,
   ⟨((live |> fun (s : State) => { s with mgmt := { s.mgmt with waiting := [] } }) |> fun (s : State) =>
     { s with mgmt := { s.mgmt with neighbours := [({ port := 0, v6 := false, addr := 0#128, mac := none, used := 0, tries := 3 } : Neighbour)] } }),
     (0 : Fin 2), false, 0#128, ({ port := 0, v6 := false, addr := 0#128, mac := none, used := 0, tries := 3 } :
     Neighbour), by decide +kernel⟩,
   ⟨(live |> fun (s : State) =>
     { s with mgmt := { s.mgmt with neighbours := [({ port := 0, v6 := false, addr := 0#128, mac := some 7, used := 0, tries := 0 } : Neighbour)] } }),
     (0 : Fin 2), false, 0#128, ({ port := 0, v6 := false, addr := 0#128, mac := some 7, used := 0, tries := 0 } :
     Neighbour), by decide +kernel⟩⟩

/-- The hypotheses of `Obligations.SlicesAndDirtyPages` are met. -/
theorem witness_SlicesAndDirtyPages :
    (∃ (s : State) (l : LetterId) (slice : W32) (pasid : W32) (quotas : ListArg QuotaItem) (letters : W64) (receipts
      : W64) (depth : W32) (qs : List QuotaItem), (∀ q ∈ qs, s.quotaRefused slice.toNat q = false) ∧ Claimed s l
      0x0F01 [p4 slice, p4 pasid, pL quotas, p8 letters, p8 receipts, p4 depth] ∧ 1 ≤ slice.toNat ∧ slice.toNat ≤ 63 ∧
      pasid.toNat ≤ 1048575 ∧ 1 ≤ quotas.count.toNat ∧ quotas.count.toNat ≤ 25 ∧ letters.toNat % 4096 = 0 ∧
      receipts.toNat % 4096 = 0 ∧ badDepth depth = false ∧ quotas.items = some qs ∧ qs.any badQuota = false ∧ noTwice
      (qs.map itemCode) = true ∧ qs.any s.noBank = false ∧ (s.slice slice.toNat).st = .absent ∧ (0 ::
      s.liveSlices).any (fun j => decide ((s.slice j).pasid.toNat = pasid.toNat)) = false ∧ quotaClamped qs = false ∧
      qs.any (fun q => decide (itemCode q = 8) && decide (itemAmount q = 0)) = false) ∧
    (∃ (s : State) (l : LetterId) (slice : W32) (quotas : ListArg QuotaItem) (qs : List QuotaItem), (∀ q ∈ qs,
      s.quotaRefused slice.toNat q = false) ∧ Claimed s l 0x0F02 [p4 slice, pL quotas] ∧ slice.toNat ≤ 63 ∧ 1 ≤
      quotas.count.toNat ∧ quotas.count.toNat ≤ 25 ∧ quotas.items = some qs ∧ qs.any badQuota = false ∧ noTwice
      (qs.map itemCode) = true ∧ qs.any s.noBank = false ∧ (s.slice slice.toNat).st ≠ .absent ∧ (s.slice
      slice.toNat).st ≠ .resetting ∧ quotaClamped qs = false ∧ (qs.find? fun q => itemCode q = 8) = none) ∧
    (∃ (s : State) (l : LetterId) (slice : W32) (quotas : ListArg QuotaItem) (q : QuotaItem) (qs : List QuotaItem),
      (∀ q ∈ qs, s.quotaRefused slice.toNat q = false) ∧ Claimed s l 0x0F02 [p4 slice, pL quotas] ∧ slice.toNat ≤ 63 ∧
      1 ≤ quotas.count.toNat ∧ quotas.count.toNat ≤ 25 ∧ quotas.items = some qs ∧ qs.any badQuota = false ∧ noTwice
      (qs.map itemCode) = true ∧ qs.any s.noBank = false ∧ (s.slice slice.toNat).st ≠ .absent ∧ (s.slice
      slice.toNat).st ≠ .resetting ∧ quotaClamped qs = false ∧ (qs.find? fun q => itemCode q = 8) = some q ∧
      itemAmount q = 0 ∧ (s.slice slice.toNat).held = false) ∧
    (∃ (s : State) (l : LetterId) (slice : W32), Claimed s l 0x0F04 [p4 slice] ∧ 1 ≤ slice.toNat ∧ slice.toNat ≤ 63 ∧
      (s.slice slice.toNat).st = .cleared) ∧
    (∃ (s : State) (l : LetterId) (slice : W32) (address : Ip) (port : W32), Claimed s l 0x0F05 [p4 slice, pBe
      address.toNat 16, p4 port] ∧ slice.toNat ≤ 63 ∧ (s.slice slice.toNat).st ≠ .absent ∧ 1 ≤ port.toNat ∧ port.toNat
      ≤ 65535 ∧ (s.mgmt.bindings.any (fun b => decide (b.1 ≠ slice.toNat ∧ b.2.1 = address ∧ b.2.2 = port.toNat)) =
      false)) ∧
    (∃ (s : State) (l : LetterId) (slice : W32), Claimed s l 0x0F07 [p4 slice] ∧ slice.toNat ≤ 63 ∧ (l.slice.val = 0
      ∨ l.slice.val = slice.toNat)) ∧
    (∃ (s : State) (slice : Fin 64) (l : LetterId), (s.slice slice).holdLetter = some l ∧ (s.slice slice).held = true
      ∧ s.sliceQuiet slice = true) ∧
    (∃ (s : State) (slice : Fin 64), s.sliceQuiet slice = false) ∧
    (∃ (s : State) (l : LetterId) (slice : W32), Claimed s l 0x0F03 [p4 slice] ∧ 1 ≤ slice.toNat ∧ slice.toNat ≤ 63 ∧
      s.epochFree = true ∧ s.liveSlices.any (fun j => decide ((s.slice j).st = .resetting)) = false ∧ ((s.slice
      slice.toNat).st = .active ∨ (s.slice slice.toNat).st = .held ∨ (s.slice slice.toNat).st = .cleared)) ∧
    (∃ (s : State) (l : LetterId) (slice : W32), Claimed s l 0x0F03 [p4 slice] ∧ 1 ≤ slice.toNat ∧ slice.toNat ≤ 63 ∧
      s.epochFree = false) ∧
    (∃ (s : State) (l : LetterId), Claimed s l 0x0F03 [p4 0]) ∧
    (∃ (s : State) (u : State) (w : BitVec 32) (r : BitVec 32) (i : Nat) (v : Slice), s.pm.active.isSome = true ∧
      ((s.slices.find? fun e => e.2.st = .resetting ∧ (e.2.resetStep = 2 ∨ e.2.resetStep = 3)) = some (i, v)) ∧
      v.resetStep = 2 ∧ (s.sliceQuiet i = true ∨ v.held = true ∨ v.resetAt + 2000000 ≤ s.up) ∧ u = s.squash i w.toNat
      r.toNat ∧ u.epochFree = true) ∧
    (∃ (s : State) (u : State) (w : BitVec 32) (r : BitVec 32) (i : Nat) (v : Slice), ((s.slices.find? fun e =>
      e.2.st = .resetting ∧ (e.2.resetStep = 2 ∨ e.2.resetStep = 3)) = some (i, v)) ∧ v.resetStep = 2 ∧ s.sliceQuiet i
      = false ∧ v.held = false ∧ s.up < v.resetAt + 2000000) ∧
    (∃ (s : State) (w : BitVec 32) (r : BitVec 32), s.pm.active = none) ∧
    (∃ (s : State) (u : State) (i : Nat) (v : Slice), s.pm.active.isSome = true ∧ ((s.slices.find? fun e => e.2.st =
      .resetting ∧ e.2.resetStep = 5) = some (i, v)) ∧ u = s.clearSlice i) ∧
    (∃ (s : State) (l : LetterId) (slice : W32) (bitmap : W64) (size : W64) (busOk : Bool), Claimed s l 0x0F06 [p4
      slice, p4 1, p8 bitmap, p8 size] ∧ slice.toNat ≤ 63 ∧ size.toNat % 4096 = 0 ∧ 4096 ≤ size.toNat ∧ size.toNat ≤ 2
      ^ 30 ∧ (s.slice slice.toNat).st ≠ .absent ∧ (s.slice slice.toNat).st ≠ .resetting ∧ (s.slice slice.toNat).dirty
      = none ∧ s.slices.any (fun e => e.2.dirty.any fun d => d.1 = bitmap) = false) ∧
    (∃ (s : State) (l : LetterId) (slice : W32) (bitmap : W64) (size : W64) (old : W64) (n : Nat), Claimed s l 0x0F06
      [p4 slice, p4 0, p8 bitmap, p8 size] ∧ slice.toNat ≤ 63 ∧ (s.slice slice.toNat).st ≠ .absent ∧ (s.slice
      slice.toNat).st ≠ .resetting ∧ (s.slice slice.toNat).dirty = some (old, n)) ∧
    (∃ (s : State) (sl : Nat) (addr : Nat) (len : Nat) (size : Nat) (bitmap : W64), (s.slice sl).dirty = some
      (bitmap, size) ∧ addr % 4096 + max len 1 ≤ 4096 ∧ addr / 4096 < size * 8 ∧ addr / 4096 ∉ (s.slice sl).pages) :=
  ⟨⟨(claimOn (live |> fun (s : State) => s.setSlice (63#32 : W32).toNat
     { s.slice (63#32 : W32).toNat with st := .absent }) (⟨0, 1#32⟩ : LetterId) 0x0F01 [p4 (63#32 : W32), p4
     (1048575#32 : W32), pL (⟨0#64, 1#32, some [(100 * 2 ^ 64 + 1 : BitVec 128)]⟩ : ListArg QuotaItem), p8 (0#64 :
     W64), p8 (0#64 : W64), p4 (64#32 : W32)]), (⟨0, 1#32⟩ : LetterId), 63#32, 1048575#32, (⟨0#64, 1#32, some [(100 *
     2 ^ 64 + 1 : BitVec 128)]⟩ : ListArg QuotaItem), 0#64, 0#64, 64#32, ([(100 * 2 ^ 64 + 1 : BitVec 128)] : List
     QuotaItem), fun q hq => by have h := List.mem_singleton.mp hq; subst h; decide +kernel,
     by unfold Claimed; decide +kernel⟩,
   ⟨(claimOn (live |> fun (s : State) => s.setSlice 63 { s.slice 63 with st := .active }) (⟨0, 1#32⟩ : LetterId)
     0x0F02 [p4 (63#32 : W32), pL (⟨0#64, 1#32, some [(100 * 2 ^ 64 + 1 : BitVec 128)]⟩ : ListArg QuotaItem)]), (⟨0,
     1#32⟩ : LetterId), 63#32, (⟨0#64, 1#32, some [(100 * 2 ^ 64 + 1 : BitVec 128)]⟩ : ListArg QuotaItem), ([(100 * 2
     ^ 64 + 1 : BitVec 128)] : List QuotaItem),
     fun q hq => by have h := List.mem_singleton.mp hq; subst h; decide +kernel, by unfold Claimed; decide +kernel⟩,
   ⟨(claimOn ((live |> fun (s : State) => s.setSlice (63#32 : W32).toNat
     { s.slice (63#32 : W32).toNat with held := false }) |> fun (s : State) => s.setSlice 63
     { s.slice 63 with st := .active }) (⟨0, 1#32⟩ : LetterId) 0x0F02 [p4 (63#32 : W32), pL (⟨0#64, 1#32, some
     [8#128]⟩ : ListArg QuotaItem)]), (⟨0, 1#32⟩ : LetterId), 63#32, (⟨0#64, 1#32, some [8#128]⟩ : ListArg QuotaItem),
     8#128, ([8#128] : List QuotaItem), fun q hq => by have h := List.mem_singleton.mp hq; subst h; decide +kernel,
     by unfold Claimed; decide +kernel⟩,
   ⟨(claimOn (live |> fun (s : State) => s.setSlice (1#32 : W32).toNat
     { s.slice (1#32 : W32).toNat with st := .cleared }) (⟨0, 1#32⟩ : LetterId) 0x0F04 [p4 (1#32 : W32)]), (⟨0, 1#32⟩
     : LetterId), 1#32, by unfold Claimed; decide +kernel⟩,
   ⟨(claimOn (live |> fun (s : State) => s.setSlice 1 { s.slice 1 with st := .active }) (⟨0, 1#32⟩ : LetterId)
     0x0F05 [p4 (1#32 : W32), pBe (0#128 : Ip).toNat 16, p4 (65535#32 : W32)]), (⟨0, 1#32⟩ : LetterId), 1#32, 0#128,
     65535#32, by unfold Claimed; decide +kernel⟩,
   ⟨(claimOn live (⟨0, 1#32⟩ : LetterId) 0x0F07 [p4 (63#32 : W32)]), (⟨0, 1#32⟩ : LetterId), 63#32,
     by unfold Claimed; decide +kernel⟩,
   ⟨(live |> fun (s : State) => s.setSlice (0 : Fin 64)
     { s.slice (0 : Fin 64) with holdLetter := some (⟨0, 1#32⟩ : LetterId), held := true }), (0 : Fin 64), (⟨0, 1#32⟩
     : LetterId), by decide +kernel⟩,
   ⟨(live |> fun (s : State) => s.setChan 0 { s.chan 0 with descs := [{ record := some {}, left := 1 }] }), (0 : Fin
     64), by decide +kernel⟩,
   ⟨(claimOn (live |> fun (s : State) => s.setSlice (1#32 : W32).toNat
     { s.slice (1#32 : W32).toNat with st := .active }) (⟨0, 1#32⟩ : LetterId) 0x0F03 [p4 (1#32 : W32)]), (⟨0, 1#32⟩ :
     LetterId), 1#32, by unfold Claimed; decide +kernel⟩,
   ⟨(claimOn (live |> fun (s : State) => { s with epoch := { s.epoch with pending := some 1#16 } }) (⟨0, 1#32⟩ :
     LetterId) 0x0F03 [p4 (1#32 : W32)]), (⟨0, 1#32⟩ : LetterId), 1#32, by unfold Claimed; decide +kernel⟩,
   ⟨(claimOn live (⟨0, 1#32⟩ : LetterId) 0x0F03 [p4 0]), (⟨0, 1#32⟩ : LetterId), by unfold Claimed; decide +kernel⟩,
   ⟨(live |> fun (s : State) =>
     { s with slices := [(0, { st := .active }), ((1 : Nat), ({ st := .resetting, resetStep := 2 } : Slice))] }), _,
     0#32, 0#32, 1, ({ st := .resetting, resetStep := 2 } : Slice), by decide +kernel, by decide +kernel,
     by decide +kernel, by decide +kernel, rfl, by decide +kernel⟩,
   ⟨((live |> fun (s : State) => s.setChan 0 { s.chan 0 with descs := [{ record := some {}, left := 1 }] }) |> fun
     (s : State) =>
     { s with slices := [(0, { st := .active }), ((1 : Nat), ({ st := .resetting, resetStep := 2, resetAt := 999999999999999, firsts := [(0x19, 0)], amounts := [(0x19, 4)] } : Slice))] }),
     live, 0#32, 0#32, 1,
     ({ st := .resetting, resetStep := 2, resetAt := 999999999999999, firsts := [(0x19, 0)], amounts := [(0x19, 4)] }
     : Slice), by decide +kernel⟩,
   ⟨(live |> fun (s : State) => { s with pm := { s.pm with active := none } }), 0#32, 0#32, by decide +kernel⟩,
   ⟨(live |> fun (s : State) =>
     { s with slices := [(0, { st := .active }), ((1 : Nat), ({ st := .resetting, resetStep := 5 } : Slice))] }), _,
     1, ({ st := .resetting, resetStep := 5 } : Slice), by decide +kernel, by decide +kernel, rfl⟩,
   ⟨(claimOn ((live |> fun (s : State) => s.setSlice (1#32 : W32).toNat
     { s.slice (1#32 : W32).toNat with dirty := none }) |> fun (s : State) => s.setSlice 1
     { s.slice 1 with st := .active }) (⟨0, 1#32⟩ : LetterId) 0x0F06 [p4 (1#32 : W32), p4 1, p8 (0#64 : W64), p8
     (4096#64 : W64)]), (⟨0, 1#32⟩ : LetterId), 1#32, 0#64, 4096#64, false, by unfold Claimed; decide +kernel⟩,
   ⟨(claimOn ((live |> fun (s : State) => s.setSlice (1#32 : W32).toNat
     { s.slice (1#32 : W32).toNat with dirty := some ((0#64 : W64), (0 : Nat)) }) |> fun (s : State) => s.setSlice 1
     { s.slice 1 with st := .active, dirty := some ((0#64 : W64), (0 : Nat)) }) (⟨0, 1#32⟩ : LetterId) 0x0F06 [p4
     (1#32 : W32), p4 0, p8 (0#64 : W64), p8 (0#64 : W64)]), (⟨0, 1#32⟩ : LetterId), 1#32, 0#64, 0#64, 0#64, 0,
     by unfold Claimed; decide +kernel⟩,
   ⟨((live |> fun (s : State) => s.setSlice (1 : Nat)
     { s.slice (1 : Nat) with dirty := some ((0#64 : W64), (4096 : Nat)) }) |> fun (s : State) => s.setSlice 1
     { s.slice 1 with st := .active, dirty := some ((0#64 : W64), (4096 : Nat)) }), 1, 12288, 4096, 4096, 0#64,
     by decide +kernel⟩⟩

/-- The hypotheses of `Obligations.CourierLettersAndDoorbells` are met. -/
theorem witness_CourierLettersAndDoorbells :
    (∃ (s : State) (l : LetterId) (channel : W32) (ring : W64) (depth : W32) (share : W32), Claimed s l 0x1001 [p4
      channel, p8 ring, p4 depth, p4 share] ∧ channel.toNat ≤ 63 ∧ ring.toNat % 4096 = 0 ∧ badDepth depth = false ∧
      s.chanOwner channel.toNat = l.slice.val ∧ (s.chan channel.toNat).st = .closed ∧ 1 ≤ share.toNat ∧ share.toNat ≤
      1024 ∧ s.shareSum l.slice + share.toNat ≤ s.countOf l.slice 7) ∧
    (∃ (s : State) (l : LetterId) (channel : W32) (ring : W64) (depth : W32) (share : W32), Claimed s l 0x1001 [p4
      channel, p8 ring, p4 depth, p4 share] ∧ channel.toNat ≤ 63 ∧ ring.toNat % 4096 = 0 ∧ badDepth depth = false ∧
      s.chanOwner channel.toNat = l.slice.val ∧ (s.chan channel.toNat).st ≠ .closed ∧ 1 ≤ share.toNat ∧ share.toNat ≤
      1024) ∧
    (∃ (s : State) (l : LetterId) (channel : W32), Claimed s l 0x1002 [p4 channel] ∧ channel.toNat ≤ 63 ∧ s.chanOwner
      channel.toNat = l.slice.val ∧ (s.chan channel.toNat).st = .running) ∧
    (∃ (s : State) (l : LetterId) (channel : W32), Claimed s l 0x1002 [p4 channel] ∧ channel.toNat ≤ 63 ∧ s.chanOwner
      channel.toNat = l.slice.val ∧ (s.chan channel.toNat).st = .stopped) ∧
    (∃ (s : State) (l : LetterId) (channel : W32), Claimed s l 0x1003 [p4 channel] ∧ channel.toNat ≤ 63 ∧ s.chanOwner
      channel.toNat = l.slice.val ∧ (s.chan channel.toNat).st = .stopped) ∧
    (∃ (s : State) (l : LetterId) (channel : W32) (share : W32), Claimed s l 0x1004 [p4 channel, p4 share] ∧
      channel.toNat ≤ 63 ∧ s.chanOwner channel.toNat = l.slice.val ∧ (s.chan channel.toNat).st ≠ .closed ∧ 1 ≤
      share.toNat ∧ share.toNat ≤ 1024 ∧ s.shareSum l.slice - (s.chan channel.toNat).share + share.toNat ≤ s.countOf
      l.slice 7) ∧
    (∃ (s : State) (l : LetterId) (channel : W32) (share : W32), Claimed s l 0x1004 [p4 channel, p4 share] ∧
      channel.toNat ≤ 63 ∧ s.chanOwner channel.toNat = l.slice.val ∧ (s.chan channel.toNat).st ≠ .closed ∧ (s.chan
      channel.toNat).share < share.toNat ∧ share.toNat ≤ 1024 ∧ s.countOf l.slice 7 < s.shareSum l.slice - (s.chan
      channel.toNat).share + share.toNat) ∧
    (∃ (s : State) (channel : Fin 64) (count : W32), s.power.hkUp = true ∧ (s.chan channel).st ≠ .closed ∧ (count -
      (s.chan channel).taken).toNat ≤ (s.chan channel).depth) ∧
    (∃ (s : State) (channel : Fin 64) (count : W32), s.power.hkUp = true ∧ (s.chan channel).st ≠ .closed ∧ (s.chan
      channel).depth < (count - (s.chan channel).taken).toNat) ∧
    (∃ (s : State) (channel : Fin 64) (count : W32), s.power.hkUp = true ∧ (s.chan channel).st = .closed) ∧
    (∃ (s : State) (channel : Fin 64) (count : W32) (d : Desc), s.power.hkUp = true ∧ (s.chan channel).st ≠ .closed ∧
      ((s.chan channel).descs.find? fun d => d.kind = 2) = some d ∧ (d.head - count).toNat ≤ d.room) ∧
    (∃ (s : State) (channel : Fin 64) (count : W32) (d : Desc), s.power.hkUp = true ∧ (s.chan channel).st ≠ .closed ∧
      ((s.chan channel).descs.find? fun d => d.kind = 2) = some d ∧ d.room < (d.head - count).toNat) ∧
    (∃ (s : State) (channel : Fin 64), (s.chan channel).st = .stopping ∧ (s.chan channel).reads = [] ∧ (∀ d ∈ (s.chan
      channel).descs, d.atBoundary = true) ∧ s.sliceHeld (s.chanOwner channel) = false) ∧
    (∃ (s : State) (channel : Fin 64), s.sliceHeld (s.chanOwner channel) = true) :=
  ⟨⟨(claimOn (live |> fun (s : State) => s.setChan (63#32 : W32).toNat
     { s.chan (63#32 : W32).toNat with st := .closed }) (⟨0, 1#32⟩ : LetterId) 0x1001 [p4 (63#32 : W32), p8 (0#64 :
     W64), p4 (65536#32 : W32), p4 (1024#32 : W32)]), (⟨0, 1#32⟩ : LetterId), 63#32, 0#64, 65536#32, 1024#32,
     by unfold Claimed; decide +kernel⟩,
   ⟨(claimOn (live |> fun (s : State) => s.setChan 0 { s.chan 0 with st := .running, depth := 64, share := 1 }) (⟨0,
     1#32⟩ : LetterId) 0x1001 [p4 (0#32 : W32), p8 (0#64 : W64), p4 (64#32 : W32), p4 (1#32 : W32)]), (⟨0, 1#32⟩ :
     LetterId), 0#32, 0#64, 64#32, 1#32, by unfold Claimed; decide +kernel⟩,
   ⟨(claimOn (live |> fun (s : State) => s.setChan (63#32 : W32).toNat
     { s.chan (63#32 : W32).toNat with st := .running }) (⟨0, 1#32⟩ : LetterId) 0x1002 [p4 (63#32 : W32)]), (⟨0, 1#32⟩
     : LetterId), 63#32, by unfold Claimed; decide +kernel⟩,
   ⟨(claimOn (live |> fun (s : State) => s.setChan (63#32 : W32).toNat
     { s.chan (63#32 : W32).toNat with st := .stopped }) (⟨0, 1#32⟩ : LetterId) 0x1002 [p4 (63#32 : W32)]), (⟨0, 1#32⟩
     : LetterId), 63#32, by unfold Claimed; decide +kernel⟩,
   ⟨(claimOn (live |> fun (s : State) => s.setChan (63#32 : W32).toNat
     { s.chan (63#32 : W32).toNat with st := .stopped }) (⟨0, 1#32⟩ : LetterId) 0x1003 [p4 (63#32 : W32)]), (⟨0, 1#32⟩
     : LetterId), 63#32, by unfold Claimed; decide +kernel⟩,
   ⟨(claimOn (live |> fun (s : State) => s.setChan 0 { s.chan 0 with st := .running, depth := 64, share := 1 }) (⟨0,
     1#32⟩ : LetterId) 0x1004 [p4 (0#32 : W32), p4 (1#32 : W32)]), (⟨0, 1#32⟩ : LetterId), 0#32, 1#32,
     by unfold Claimed; decide +kernel⟩,
   ⟨(claimOn ((live |> fun (s : State) => s.setSlice 1
     { s.slice 1 with st := .active, amounts := [(7, 8), (0x19, 4)], firsts := [(0x19, 0)] }) |> fun (s : State) =>
     s.setChan 0 { s.chan 0 with st := .running, depth := 64, share := 1 }) (⟨1, 1#32⟩ : LetterId) 0x1004 [p4 (0#32 :
     W32), p4 (1024#32 : W32)]), (⟨1, 1#32⟩ : LetterId), 0#32, 1024#32, by unfold Claimed; decide +kernel⟩,
   ⟨((live |> fun (s : State) => { s with power := { s.power with hkUp := true } }) |> fun (s : State) => s.setChan
     0 { s.chan 0 with st := .running, depth := 64, share := 1 }), (0 : Fin 64), 64#32, by decide +kernel⟩,
   ⟨((live |> fun (s : State) => { s with power := { s.power with hkUp := true } }) |> fun (s : State) => s.setChan
     0 { s.chan 0 with st := .running, depth := 64, share := 1 }), (0 : Fin 64), 65#32, by decide +kernel⟩,
   ⟨((live |> fun (s : State) => { s with power := { s.power with hkUp := true } }) |> fun (s : State) => s.setChan
     (0 : Fin 64) { s.chan (0 : Fin 64) with st := .closed }), (0 : Fin 64), 0#32, by decide +kernel⟩,
   ⟨((live |> fun (s : State) => { s with power := { s.power with hkUp := true } }) |> fun (s : State) => s.setChan
     0
     { s.chan 0 with st := .running, depth := 64, share := 1, descs := [({ raw := BitVec.ofNat 256 (4096 * 2 ^ 192 + 0 * 2 ^ 160 + 12 * 2 ^ 35 + 0 * 2 ^ 4 + 2 * 2) } : Desc)] }),
     (0 : Fin 64), 0#32, ({ raw := BitVec.ofNat 256 (4096 * 2 ^ 192 + 0 * 2 ^ 160 + 12 * 2 ^ 35 + 0 * 2 ^ 4 + 2 * 2) }
     : Desc), by decide +kernel⟩,
   ⟨((live |> fun (s : State) => { s with power := { s.power with hkUp := true } }) |> fun (s : State) => s.setChan
     0
     { s.chan 0 with st := .running, depth := 64, share := 1, descs := [({ raw := BitVec.ofNat 256 (4096 * 2 ^ 192 + 0 * 2 ^ 160 + 12 * 2 ^ 35 + 0 * 2 ^ 4 + 2 * 2) } : Desc)] }),
     (0 : Fin 64), 1#32, ({ raw := BitVec.ofNat 256 (4096 * 2 ^ 192 + 0 * 2 ^ 160 + 12 * 2 ^ 35 + 0 * 2 ^ 4 + 2 * 2) }
     : Desc), by decide +kernel⟩,
   ⟨(live |> fun (s : State) => s.setChan (0 : Fin 64) { s.chan (0 : Fin 64) with st := .stopping, reads := [] }),
     (0 : Fin 64), by decide +kernel⟩,
   ⟨(live |> fun (s : State) => s.setSlice 0 { s.slice 0 with held := true }), (0 : Fin 64), by decide +kernel⟩⟩

/-- The hypotheses of `Obligations.CourierDescriptorsAndBursts` are met. -/
theorem witness_CourierDescriptorsAndBursts :
    (∃ (s : State) (channel : Fin 64) (i : Nat) (rest : List ChanRead) (bs : List Byte), (s.chan channel).reads =
      .fetch i :: rest ∧ descOk (leNat (bslice bs 0 32)) = true ∧ bits (leNat (bslice bs 0 32)) 2 1 ≠ 1) ∧
    (∃ (s : State) (channel : Fin 64) (i : Nat) (rest : List ChanRead) (bs : List Byte), (s.chan channel).reads =
      .fetch i :: rest ∧ descOk (leNat (bslice bs 0 32)) = false) ∧
    (∃ (s : State) (channel : Fin 64) (i : Nat) (rest : List ChanRead), (s.chan channel).reads = .fetch i :: rest) ∧
    (∃ (s : State) (channel : Fin 64) (i : Nat) (rest : List ChanRead) (bs : List Byte) (d : Desc), (s.chan
      channel).reads = .flush i :: rest ∧ ((s.chan channel).descs.find? fun d => d.index = i) = some d) ∧
    (∃ (s : State) (channel : Fin 64) (d : Desc) (ds : List Desc), (s.chan channel).descs = d :: ds ∧ d.finished =
      true ∧ d.status ≠ 4) ∧
    (∃ (s : State) (channel : Fin 64) (d : Desc) (ds : List Desc), (s.chan channel).descs = d :: ds ∧ d.finished =
      true ∧ d.status = 4) ∧
    (∃ (s : State) (channel : Fin 64) (d : Desc) (ds : List Desc), (s.chan channel).descs = d :: ds ∧ d.finished =
      false) ∧
    (∃ (s : State) (channel : Fin 64) (d : Desc) (e : Desc) (p : Packet) (u : State), (((s.chan channel).descs.find?
      fun d => d.kind = 2 ∧ d.record.isSome ∧ d.left = 0) = some d) ∧ d.record = some p ∧ d.irq = true ∧ e =
      { d with head := d.head + BitVec.ofNat 32 d.done, done := 0, record := none, status := 0 } ∧ u = (s.setChan
      channel ((s.chan channel).setDesc e)).writeBack channel e 0 false) ∧
    (∃ (s : State) (channel : Fin 64) (rivals : List Rival) (d : Desc), (((s.chan channel).descs.find? fun d =>
      d.kind = 1 ∧ ¬ d.finished) = some d) ∧ d.done < d.length) ∧
    (∃ (s : State) (u : State) (channel : Fin 64) (d : Desc) (status : Nat), (((s.chan channel).descs.find? fun d =>
      d.kind = 1 ∧ ¬ d.finished) = some d) ∧ d.length ≤ d.done ∧ s.inject channel d = (status, u)) ∧
    (∃ (s : State) (c : Nat) (d : Desc), d.length < 16 + (bits (leNat (bslice d.data 0 16)) 91 78 - 4)) ∧
    (∃ (s : State) (u : State) (r : Requester) (bytes : BitVec 13) (ok : Bool), (∀ c, r ≠ .channel c) ∧
      s.courier.pasidOn = true ∧ bytes.toNat ≤ s.courier.maxPayload ∧ s.grantBus true (Requester.code r) bytes.toNat =
      some u) ∧
    (∃ (s : State) (c : Fin 64) (d : Desc) (room : Nat) (bytes : BitVec 13) (ok : Bool), s.hostWork c = some (d,
      room) ∧ s.grantBus true c bytes.toNat = none) ∧
    (∃ (s : State) (c : Nat) (d : Desc) (room : Nat), s.hostWork c = some (d, room)) ∧
    (∃ (s : State) (g : State) (u : State) (c : Fin 64) (d : Desc) (e : Desc) (p : Packet) (room : Nat) (bytes :
      BitVec 13), s.hostWork c = some (d, room) ∧ bytes.toNat ≠ 0 ∧ bytes.toNat ≤ room ∧ d.record = some p ∧
      s.grantBus true c bytes.toNat = some g ∧ bytes.toNat < d.left ∧ e =
      { d with left := d.left - bytes.toNat, done := d.done + bytes.toNat, finished := false, status := b2n (decide (d.captured p < p.data.length)), record := some p }
      ∧ u = ((g.startRecord c).hostWrite ((g.startRecord c).chanOwner c) (BitVec.ofNat 64 d.nextAddr) (((hostRecord d
      p).drop d.done).take bytes.toNat)).bump .curBytesToHost c 0 bytes.toNat) ∧
    (∃ (s : State) (g : State) (u : State) (c : Fin 64) (d : Desc) (e : Desc) (p : Packet) (room : Nat) (bytes :
      BitVec 13), s.hostWork c = some (d, room) ∧ bytes.toNat ≠ 0 ∧ bytes.toNat ≤ room ∧ d.record = some p ∧
      s.grantBus true c bytes.toNat = some g ∧ d.left = bytes.toNat ∧ d.kind = 0 ∧ e =
      { d with left := 0, done := d.done + bytes.toNat, finished := true, status := b2n (decide (d.captured p < p.data.length)), record := none }
      ∧ u = ((g.startRecord c).hostWrite ((g.startRecord c).chanOwner c) (BitVec.ofNat 64 d.nextAddr) (((hostRecord d
      p).drop d.done).take bytes.toNat)).bump .curBytesToHost c 0 bytes.toNat) ∧
    (∃ (s : State) (g : State) (c : Fin 64) (d : Desc) (p : Packet) (room : Nat) (bytes : BitVec 13), s.hostWork c =
      some (d, room) ∧ bytes.toNat ≠ 0 ∧ bytes.toNat ≤ room ∧ d.record = some p ∧ s.grantBus true c bytes.toNat = some
      g) ∧
    (∃ (s : State) (c : Fin 64) (d : Desc) (p : Packet) (q : List Packet) (bytes : BitVec 13) (ok : Bool), s.hostWork
      c = none ∧ (s.chan c).waiting = some d ∧ (s.chan c).queue = p :: q ∧ d.kind = 2 ∧ (s.chan c).fits d p = false ∧
      (s.chan c).waitSpace = false) ∧
    (∃ (s : State) (g : State) (c : Fin 64), s.flushWork c = none ∧ s.readWork c = none ∧ s.fetchWork c = true ∧
      s.grantBus false c 32 = some g) :=
  ⟨⟨(live |> fun (s : State) => s.setChan (0 : Fin 64)
     { s.chan (0 : Fin 64) with reads := .fetch (3 : Nat) :: ([] : List ChanRead) }), (0 : Fin 64), 3, ([] : List
     ChanRead), (leBytes (4096 * 2 ^ 192 + 64 * 2 ^ 160) 32 : List Byte), by decide +kernel⟩,
   ⟨(live |> fun (s : State) => s.setChan (0 : Fin 64)
     { s.chan (0 : Fin 64) with reads := .fetch (0 : Nat) :: ([] : List ChanRead) }), (0 : Fin 64), 0, ([] : List
     ChanRead), ([] : List Byte), by decide +kernel⟩,
   ⟨(live |> fun (s : State) => s.setChan (0 : Fin 64)
     { s.chan (0 : Fin 64) with reads := .fetch (0 : Nat) :: ([] : List ChanRead) }), (0 : Fin 64), 0, ([] : List
     ChanRead), by decide +kernel⟩,
   ⟨((live |> fun (s : State) => s.setChan (0 : Fin 64)
     { s.chan (0 : Fin 64) with reads := .flush (0 : Nat) :: ([] : List ChanRead) }) |> fun (s : State) => s.setChan 0
     { s.chan 0 with descs := [({ raw := BitVec.ofNat 256 (4096 * 2 ^ 192 + 64 * 2 ^ 160 + 0 * 2 ^ 35 + 0 * 2 ^ 4 + 0 * 2) } : Desc)] }),
     (0 : Fin 64), 0, ([] : List ChanRead), ([] : List Byte),
     ({ raw := BitVec.ofNat 256 (4096 * 2 ^ 192 + 64 * 2 ^ 160 + 0 * 2 ^ 35 + 0 * 2 ^ 4 + 0 * 2) } : Desc),
     by decide +kernel⟩,
   ⟨(live |> fun (s : State) => s.setChan (0 : Fin 64)
     { s.chan (0 : Fin 64) with descs := ((({ } : Desc) |> fun x => { x with finished := true }) : Desc) :: ([] : List Desc) }),
     (0 : Fin 64), (({ } : Desc) |> fun x => { x with finished := true }), ([] : List Desc), by decide +kernel⟩,
   ⟨(live |> fun (s : State) => s.setChan (0 : Fin 64)
     { s.chan (0 : Fin 64) with descs := (((({ } : Desc) |> fun x => { x with finished := true }) |> fun x => { x with status := 4 }) : Desc) :: ([] : List Desc) }),
     (0 : Fin 64), ((({ } : Desc) |> fun x => { x with finished := true }) |> fun x => { x with status := 4 }), ([] :
     List Desc), by decide +kernel⟩,
   ⟨(live |> fun (s : State) => s.setChan (0 : Fin 64)
     { s.chan (0 : Fin 64) with descs := ((({ } : Desc) |> fun x => { x with finished := false }) : Desc) :: ([] : List Desc) }),
     (0 : Fin 64), (({ } : Desc) |> fun x => { x with finished := false }), ([] : List Desc), by decide +kernel⟩,
   ⟨(live |> fun (s : State) => s.setChan 0
     { s.chan 0 with descs := [({ raw := BitVec.ofNat 256 (4096 * 2 ^ 192 + 0 * 2 ^ 160 + 12 * 2 ^ 35 + 1 * 2 ^ 4 + 2 * 2), record := some ({ data := List.replicate 48 1#8, len := 52 } : Packet) } : Desc)] }),
     (0 : Fin 64),
     ({ raw := BitVec.ofNat 256 (4096 * 2 ^ 192 + 0 * 2 ^ 160 + 12 * 2 ^ 35 + 1 * 2 ^ 4 + 2 * 2), record := some ({ data := List.replicate 48 1#8, len := 52 } : Packet) }
     : Desc), _, ({ data := List.replicate 48 1#8, len := 52 } : Packet), _, by decide +kernel, by decide +kernel,
     by decide +kernel, rfl, rfl⟩,
   ⟨(live |> fun (s : State) => s.setChan 0
     { s.chan 0 with descs := [({ raw := BitVec.ofNat 256 (4096 * 2 ^ 192 + 64 * 2 ^ 160 + 0 * 2 ^ 35 + 0 * 2 ^ 4 + 1 * 2) } : Desc)] }),
     (0 : Fin 64), ([] : List Rival),
     ({ raw := BitVec.ofNat 256 (4096 * 2 ^ 192 + 64 * 2 ^ 160 + 0 * 2 ^ 35 + 0 * 2 ^ 4 + 1 * 2) } : Desc),
     by decide +kernel⟩,
   ⟨(live |> fun (s : State) => s.setChan 0
     { s.chan 0 with descs := [({ raw := BitVec.ofNat 256 (4096 * 2 ^ 192 + 64 * 2 ^ 160 + 0 * 2 ^ 35 + 0 * 2 ^ 4 + 1 * 2), done := 64 } : Desc)] }),
     ((((live |> fun (s : State) => s.setChan 0
     { s.chan 0 with descs := [({ raw := BitVec.ofNat 256 (4096 * 2 ^ 192 + 64 * 2 ^ 160 + 0 * 2 ^ 35 + 0 * 2 ^ 4 + 1 * 2), done := 64 } : Desc)] })
     : State).inject (0 : Fin 64)
     ({ raw := BitVec.ofNat 256 (4096 * 2 ^ 192 + 64 * 2 ^ 160 + 0 * 2 ^ 35 + 0 * 2 ^ 4 + 1 * 2), done := 64 } :
     Desc)).2), (0 : Fin 64),
     ({ raw := BitVec.ofNat 256 (4096 * 2 ^ 192 + 64 * 2 ^ 160 + 0 * 2 ^ 35 + 0 * 2 ^ 4 + 1 * 2), done := 64 } :
     Desc), 5, by decide +kernel⟩,
   ⟨live, 0, ({ } : Desc), by decide +kernel⟩,
   ⟨(live |> fun (s : State) => { s with courier := { s.courier with pasidOn := true } }), ((((live |> fun (s :
     State) => { s with courier := { s.courier with pasidOn := true } }) : State).grantBus true (Requester.code
     (Requester.letterEngine : Requester)) (64#13 : BitVec 13).toNat).getD live), Requester.letterEngine, 64#13,
     false, nofun, by decide +kernel⟩,
   ⟨(((live |> fun (s : State) => { s with courier := { s.courier with pasidOn := true } }.setSlice 0
     { s.slice 0 with st := .active }) |> fun (s : State) => s.setChan 0
     { s.chan 0 with st := .running, depth := 64, share := 1, descs := [({ raw := BitVec.ofNat 256 (4096 * 2 ^ 192 + 64 * 2 ^ 160 + 0 * 2 ^ 35 + 0 * 2 ^ 4 + 0 * 2), record := some ({ data := List.replicate 48 1#8, len := 52 } : Packet), left := 64 } : Desc)] })
     |> fun (s : State) => s.setChan 1
     { s.chan 1 with st := .running, depth := 64, share := 1, descs := [({ raw := BitVec.ofNat 256 (4096 * 2 ^ 192 + 64 * 2 ^ 160 + 0 * 2 ^ 35 + 0 * 2 ^ 4 + 0 * 2), record := some ({ data := List.replicate 48 1#8, len := 52 } : Packet), left := 64 } : Desc)] }),
     (1 : Fin 64),
     ({ raw := BitVec.ofNat 256 (4096 * 2 ^ 192 + 64 * 2 ^ 160 + 0 * 2 ^ 35 + 0 * 2 ^ 4 + 0 * 2), record := some ({ data := List.replicate 48 1#8, len := 52 } : Packet), left := 64 }
     : Desc), 64, 64#13, false, by decide +kernel⟩,
   ⟨((live |> fun (s : State) => { s with courier := { s.courier with pasidOn := true } }.setSlice 0
     { s.slice 0 with st := .active }) |> fun (s : State) => s.setChan 0
     { s.chan 0 with st := .running, depth := 64, share := 1, descs := [({ raw := BitVec.ofNat 256 (4096 * 2 ^ 192 + 64 * 2 ^ 160 + 0 * 2 ^ 35 + 0 * 2 ^ 4 + 0 * 2), record := some ({ data := List.replicate 48 1#8, len := 52 } : Packet), left := 64 } : Desc)] }),
     0,
     ({ raw := BitVec.ofNat 256 (4096 * 2 ^ 192 + 64 * 2 ^ 160 + 0 * 2 ^ 35 + 0 * 2 ^ 4 + 0 * 2), record := some ({ data := List.replicate 48 1#8, len := 52 } : Packet), left := 64 }
     : Desc), 64, by decide +kernel⟩,
   ⟨((live |> fun (s : State) => { s with courier := { s.courier with pasidOn := true } }.setSlice 0
     { s.slice 0 with st := .active }) |> fun (s : State) => s.setChan 0
     { s.chan 0 with st := .running, depth := 64, share := 1, descs := [({ raw := BitVec.ofNat 256 (4096 * 2 ^ 192 + 64 * 2 ^ 160 + 0 * 2 ^ 35 + 0 * 2 ^ 4 + 0 * 2), record := some ({ data := List.replicate 48 1#8, len := 52 } : Packet), left := 64 } : Desc)] }),
     (((((live |> fun (s : State) => { s with courier := { s.courier with pasidOn := true } }.setSlice 0
     { s.slice 0 with st := .active }) |> fun (s : State) => s.setChan 0
     { s.chan 0 with st := .running, depth := 64, share := 1, descs := [({ raw := BitVec.ofNat 256 (4096 * 2 ^ 192 + 64 * 2 ^ 160 + 0 * 2 ^ 35 + 0 * 2 ^ 4 + 0 * 2), record := some ({ data := List.replicate 48 1#8, len := 52 } : Packet), left := 64 } : Desc)] })
     : State).grantBus true (0 : Fin 64) (32#13 : BitVec 13).toNat).getD live), _, (0 : Fin 64),
     ({ raw := BitVec.ofNat 256 (4096 * 2 ^ 192 + 64 * 2 ^ 160 + 0 * 2 ^ 35 + 0 * 2 ^ 4 + 0 * 2), record := some ({ data := List.replicate 48 1#8, len := 52 } : Packet), left := 64 }
     : Desc), _, ({ data := List.replicate 48 1#8, len := 52 } : Packet), 64, 32#13, by decide +kernel,
     by decide +kernel, by decide +kernel, by decide +kernel, by decide +kernel, by decide +kernel, rfl, rfl⟩,
   ⟨((live |> fun (s : State) => { s with courier := { s.courier with pasidOn := true } }.setSlice 0
     { s.slice 0 with st := .active }) |> fun (s : State) => s.setChan 0
     { s.chan 0 with st := .running, depth := 64, share := 1, descs := [({ raw := BitVec.ofNat 256 (4096 * 2 ^ 192 + 64 * 2 ^ 160 + 0 * 2 ^ 35 + 0 * 2 ^ 4 + 0 * 2), record := some ({ data := List.replicate 48 1#8, len := 52 } : Packet), left := 64 } : Desc)] }),
     (((((live |> fun (s : State) => { s with courier := { s.courier with pasidOn := true } }.setSlice 0
     { s.slice 0 with st := .active }) |> fun (s : State) => s.setChan 0
     { s.chan 0 with st := .running, depth := 64, share := 1, descs := [({ raw := BitVec.ofNat 256 (4096 * 2 ^ 192 + 64 * 2 ^ 160 + 0 * 2 ^ 35 + 0 * 2 ^ 4 + 0 * 2), record := some ({ data := List.replicate 48 1#8, len := 52 } : Packet), left := 64 } : Desc)] })
     : State).grantBus true (0 : Fin 64) (64#13 : BitVec 13).toNat).getD live), _, (0 : Fin 64),
     ({ raw := BitVec.ofNat 256 (4096 * 2 ^ 192 + 64 * 2 ^ 160 + 0 * 2 ^ 35 + 0 * 2 ^ 4 + 0 * 2), record := some ({ data := List.replicate 48 1#8, len := 52 } : Packet), left := 64 }
     : Desc), _, ({ data := List.replicate 48 1#8, len := 52 } : Packet), 64, 64#13, by decide +kernel,
     by decide +kernel, by decide +kernel, by decide +kernel, by decide +kernel, by decide +kernel, by decide +kernel,
     rfl, rfl⟩,
   ⟨((live |> fun (s : State) => { s with courier := { s.courier with pasidOn := true } }.setSlice 0
     { s.slice 0 with st := .active }) |> fun (s : State) => s.setChan 0
     { s.chan 0 with st := .running, depth := 64, share := 1, descs := [({ raw := BitVec.ofNat 256 (4096 * 2 ^ 192 + 64 * 2 ^ 160 + 0 * 2 ^ 35 + 0 * 2 ^ 4 + 0 * 2), record := some ({ data := List.replicate 48 1#8, len := 52 } : Packet), left := 64 } : Desc)] }),
     (((((live |> fun (s : State) => { s with courier := { s.courier with pasidOn := true } }.setSlice 0
     { s.slice 0 with st := .active }) |> fun (s : State) => s.setChan 0
     { s.chan 0 with st := .running, depth := 64, share := 1, descs := [({ raw := BitVec.ofNat 256 (4096 * 2 ^ 192 + 64 * 2 ^ 160 + 0 * 2 ^ 35 + 0 * 2 ^ 4 + 0 * 2), record := some ({ data := List.replicate 48 1#8, len := 52 } : Packet), left := 64 } : Desc)] })
     : State).grantBus true (0 : Fin 64) (64#13 : BitVec 13).toNat).getD live), (0 : Fin 64),
     ({ raw := BitVec.ofNat 256 (4096 * 2 ^ 192 + 64 * 2 ^ 160 + 0 * 2 ^ 35 + 0 * 2 ^ 4 + 0 * 2), record := some ({ data := List.replicate 48 1#8, len := 52 } : Packet), left := 64 }
     : Desc), ({ data := List.replicate 48 1#8, len := 52 } : Packet), 64, 64#13, by decide +kernel⟩,
   ⟨((live |> fun (s : State) => s.setChan (0 : Fin 64)
     { s.chan (0 : Fin 64) with queue := ({ data := List.replicate 48 1#8, len := 52 } : Packet) :: ([] : List Packet), waitSpace := false })
     |> fun (s : State) => s.setChan 0
     { s.chan 0 with descs := [({ raw := BitVec.ofNat 256 (4096 * 2 ^ 192 + 0 * 2 ^ 160 + 12 * 2 ^ 35 + 0 * 2 ^ 4 + 2 * 2), head := 4096#32 } : Desc)] }),
     (0 : Fin 64),
     ({ raw := BitVec.ofNat 256 (4096 * 2 ^ 192 + 0 * 2 ^ 160 + 12 * 2 ^ 35 + 0 * 2 ^ 4 + 2 * 2), head := 4096#32 } :
     Desc), ({ data := List.replicate 48 1#8, len := 52 } : Packet), ([] : List Packet), 0#13, false,
     by decide +kernel⟩,
   ⟨((live |> fun (s : State) => { s with courier := { s.courier with pasidOn := true } }.setSlice 0
     { s.slice 0 with st := .active }) |> fun (s : State) => s.setChan 0
     { s.chan 0 with st := .running, depth := 64, share := 1, placed := 1#32 }), (((((live |> fun (s : State) =>
     { s with courier := { s.courier with pasidOn := true } }.setSlice 0 { s.slice 0 with st := .active }) |> fun (s :
     State) => s.setChan 0 { s.chan 0 with st := .running, depth := 64, share := 1, placed := 1#32 }) :
     State).grantBus false (0 : Fin 64) 32).getD live), (0 : Fin 64), by decide +kernel⟩⟩

/-- The hypotheses of `Obligations.PostmasterRoles` are met. -/
theorem witness_PostmasterRoles :
    (∃ (s : State) (pm : Pm), s.pm.active = some pm) ∧
    (∃ (s : State) (pm : Pm), s.pm.active ≠ some pm) ∧
    (∃ (s : State), s.up < s.pm.beat + 100000) ∧
    (∃ (s : State) (u : State) (p : Pm), s.pm.active = some p ∧ s.pm.beat + 100000 ≤ s.up ∧ s.newImagePm p = false ∧
      u = (s.modPost p fun v => { v with failCode := 7#8 }).bump .pmSelftestFail (pmIdx p) 7 ∧ u.qualifies (pmOther p)
      = true) ∧
    (∃ (s : State) (u : State) (p : Pm), s.pm.active = some p ∧ s.pm.beat + 100000 ≤ s.up ∧ s.newImagePm p = false ∧
      u = (s.modPost p fun v => { v with failCode := 7#8 }).bump .pmSelftestFail (pmIdx p) 7 ∧ u.qualifies (pmOther p)
      = false) ∧
    (∃ (s : State) (pm : Pm), s.qualifies pm = true ∧ s.pm.active = none ∧ s.ready = true) ∧
    (∃ (s : State) (pm : Pm), s.qualifies pm = false) ∧
    (∃ (s : State), s.qualifies .a = true ∧ s.qualifies .b = true ∧ s.pm.active = none ∧ s.ready = false ∧
      s.power.stage = .build) ∧
    (∃ (s : State) (pm : Pm) (p : Pm), s.pm.active = some p ∧ s.pm.handedOver = false) ∧
    (∃ (s : State) (u : State) (pm : Pm) (p : Pm), s.qualifies pm = true ∧ s.pm.active = some p ∧ p ≠ pm ∧
      s.pm.handedOver = true ∧ u = { s with pm := { s.pm with planned := false, resetPhase := 0 } }) ∧
    (∃ (s : State) (pm : Pm) (at_ : Nat), s.pm.window = some (pm, at_)) ∧
    (∃ (s : State) (pm : Pm), s.pm.window = none ∧ s.pm.planned = true ∧ s.pm.active = some pm ∧ s.qualifies (pmOther
      pm) = true) ∧
    (∃ (s : State) (old : Pm) (at_ : Nat), s.pm.window = some (old, at_) ∧ at_ + 250000 ≤ s.up) ∧
    (∃ (s : State) (old : Pm) (at_ : Nat), s.pm.window = some (old, at_) ∧ s.up < at_ + 250000) :=
  ⟨⟨(live |> fun (s : State) => { s with pm := { s.pm with active := some (.a : Pm) } }), (.a : Pm),
     by decide +kernel⟩,
   ⟨live, Pm.b, by decide +kernel⟩,
   ⟨(live |> fun (s : State) => { s with pm := { s.pm with beat := s.time.uptime } }), by decide +kernel⟩,
   ⟨((live |> fun (s : State) => { s with pm := { s.pm with active := some (.a : Pm) } }) |> fun (s : State) =>
     s.setPost .b
     { s.post .b with role := .standby, synced := true, selftestOk := true, healthAt := some s.time.uptime }), _, (.a
     : Pm), by decide +kernel, by decide +kernel, by decide +kernel, rfl, by decide +kernel⟩,
   ⟨(live |> fun (s : State) => { s with pm := { s.pm with active := some (.a : Pm) } }), _, (.a : Pm),
     by decide +kernel, by decide +kernel, by decide +kernel, rfl, by decide +kernel⟩,
   ⟨((live |> fun (s : State) => { s with pm := { s.pm with active := none } }) |> fun (s : State) => s.setPost .b
     { s.post .b with role := .standby, synced := true, selftestOk := true, healthAt := some s.time.uptime }), Pm.b,
     by decide +kernel⟩,
   ⟨live, (.a : Pm), by decide +kernel⟩,
   ⟨((((live |> fun (s : State) => { s with pm := { s.pm with active := none } }) |> fun (s : State) =>
     { s with power := { s.power with stage := .build } }) |> fun (s : State) => s.setPost .a
     { s.post .a with role := .standby, synced := true, selftestOk := true, healthAt := some s.time.uptime }) |> fun
     (s : State) => s.setPost .b
     { s.post .b with role := .standby, synced := true, selftestOk := true, healthAt := some s.time.uptime }),
     by decide +kernel⟩,
   ⟨((live |> fun (s : State) => { s with pm := { s.pm with active := some (.a : Pm) } }) |> fun (s : State) =>
     { s with pm := { s.pm with handedOver := false } }), (.a : Pm), (.a : Pm), by decide +kernel⟩,
   ⟨(((live |> fun (s : State) => { s with pm := { s.pm with active := some (Pm.a : Pm) } }) |> fun (s : State) =>
     { s with pm := { s.pm with handedOver := true } }) |> fun (s : State) => s.setPost .b
     { s.post .b with role := .standby, synced := true, selftestOk := true, healthAt := some s.time.uptime }), _,
     Pm.b, Pm.a, by decide +kernel, by decide +kernel, by decide +kernel, by decide +kernel, rfl⟩,
   ⟨(live |> fun (s : State) => { s with pm := { s.pm with window := some ((.a : Pm), (0 : Nat)) } }), (.a : Pm), 0,
     by decide +kernel⟩,
   ⟨((((live |> fun (s : State) => { s with pm := { s.pm with window := none } }) |> fun (s : State) =>
     { s with pm := { s.pm with planned := true } }) |> fun (s : State) =>
     { s with pm := { s.pm with active := some (.a : Pm) } }) |> fun (s : State) => s.setPost .b
     { s.post .b with role := .standby, synced := true, selftestOk := true, healthAt := some s.time.uptime }), (.a :
     Pm), by decide +kernel⟩,
   ⟨(live |> fun (s : State) => { s with pm := { s.pm with window := some ((.a : Pm), (0 : Nat)) } }), (.a : Pm), 0,
     by decide +kernel⟩,
   ⟨(live |> fun (s : State) =>
     { s with pm := { s.pm with window := some ((.a : Pm), (1000000000000000 : Nat)) } }), (.a : Pm),
     1000000000000000, by decide +kernel⟩⟩

/-- The hypotheses of `Obligations.PostmasterRestartsSyncAndTests` are met. -/
theorem witness_PostmasterRestartsSyncAndTests :
    (∃ (s : State) (pm : Pm), s.powered = true ∧ s.pm.resetPhase ≠ 1 ∧ ((s.post pm).role = .off ∨ (s.post pm).role =
      .failed) ∧ (s.post pm).limited = false ∧ s.power.stage ≠ .reset ∧ ((s.post pm).restarts.filter fun t => s.up < t
      + 3600000000000).length < 3) ∧
    (∃ (s : State) (pm : Pm), s.powered = true ∧ s.pm.resetPhase ≠ 1 ∧ ((s.post pm).role = .off ∨ (s.post pm).role =
      .failed) ∧ (s.post pm).limited = false ∧ s.power.stage ≠ .reset ∧ 3 ≤ ((s.post pm).restarts.filter fun t => s.up
      < t + 3600000000000).length) ∧
    (∃ (s : State) (pm : Pm), s.pm.resetPhase ≠ 1 ∧ (s.post pm).limited = true) ∧
    (∃ (s : State) (u : State) (pm : Pm) (p : Pm), s.powered = true ∧ s.pm.resetPhase = 1 ∧ s.pm.active = some p ∧ p
      ≠ pm ∧ s.resetUnanswered = false ∧ s.pm.window = none ∧ u =
      (({ s with pm := { s.pm with resetPhase := 2, planned := true } } : State).modPost pm fun v =>
      { v with limited := false }).clearFault 0x0D04 (pmIdx pm)) ∧
    (∃ (s : State) (pm : Pm), (s.post pm).role = .booting ∧ s.domain (pmDomain pm) = true ∧ s.power.stage ≠ .boot ∧
      s.power.stage ≠ .settings) ∧
    (∃ (s : State) (pm : Pm), (s.post pm).role = .booting ∧ s.domain (pmDomain pm) = true ∧ s.newImagePm pm = false) ∧
    (∃ (s : State) (pm : Pm), (s.post pm).role = .syncing ∧ s.pm.active = some (pmOther pm)) ∧
    (∃ (s : State) (pm : Pm), (s.post pm).role = .syncing ∧ s.pm.active = none ∧ s.ready = true) ∧
    (∃ (s : State) (p : Pm) (at_ : Nat), s.pm.active = some p ∧ (s.post (pmOther p)).ackSince = some at_ ∧ (s.post
      (pmOther p)).role = .standby ∧ at_ + 20000 ≤ s.up) ∧
    (∃ (s : State) (u : State) (pm : Pm) (code : FailCode), (s.post pm).role = .standby ∧ code ≠ .stateCopy ∧ code ≠
      .flash ∧ u = ((s.modPost pm fun v => { v with failCode := BitVec.ofNat 8 (failNumber code) }).bump
      .pmSelftestFail (pmIdx pm) (failNumber code)).raise 0x0D03 (pmIdx pm) (failNumber code) ∧ (u.post pm).role =
      .standby) ∧
    (∃ (s : State) (u : State) (pm : Pm), (s.post pm).role = .active ∧ u = ((s.modPost pm fun v =>
      { v with failCode := 1#8 }).bump .pmSelftestFail (pmIdx pm) 1).raise 0x0D03 (pmIdx pm) 1 ∧ (u.post pm).role =
      .active ∧ u.qualifies (pmOther pm) = true ∧ u.newImagePm pm = false) ∧
    (∃ (s : State) (u : State) (pm : Pm), (s.post pm).role = .active ∧ u = ((s.modPost pm fun v =>
      { v with failCode := 2#8 }).bump .pmSelftestFail (pmIdx pm) 2).raise 0x0D03 (pmIdx pm) 2 ∧ (u.post pm).role =
      .active ∧ u.qualifies (pmOther pm) = false) ∧
    (∃ (s : State) (pm : Pm), (s.post pm).role = .standby ∧ (s.post pm).items.contains 0 = false ∧ ((s.cycleItems
      false).all ((s.post pm).items ++ [0]).contains) = false) ∧
    (∃ (s : State) (pm : Pm), (s.post pm).role = .active ∧ (s.post pm).items = [1, 2] ∧ (s.post pm).itemFailed =
      false) ∧
    (∃ (s : State) (pm : Pm) (temp : Byte), (s.post pm).role ≠ .off ∧ s.domain (pmDomain pm) = true) :=
  ⟨⟨(live |> fun (s : State) => s.setPost (.a : Pm) { s.post (.a : Pm) with role := .off, limited := false }), (.a :
     Pm), by decide +kernel⟩,
   ⟨((live |> fun (s : State) => s.setPost (.a : Pm) { s.post (.a : Pm) with role := .off, limited := false }) |>
     fun (s : State) => s.setPost (.a : Pm)
     { s.post (.a : Pm) with restarts := [999999999999999, 999999999999998, 999999999999997] }), (.a : Pm),
     by decide +kernel⟩,
   ⟨(live |> fun (s : State) => s.setPost (.a : Pm) { s.post (.a : Pm) with limited := true }), (.a : Pm),
     by decide +kernel⟩,
   ⟨(((live |> fun (s : State) => { s with pm := { s.pm with resetPhase := 1 } }) |> fun (s : State) =>
     { s with pm := { s.pm with active := some (Pm.a : Pm) } }) |> fun (s : State) =>
     { s with pm := { s.pm with window := none } }), _, Pm.b, Pm.a, by decide +kernel, by decide +kernel,
     by decide +kernel, by decide +kernel, by decide +kernel, by decide +kernel, rfl⟩,
   ⟨(live |> fun (s : State) => s.setPost (.a : Pm) { s.post (.a : Pm) with role := .booting }), (.a : Pm),
     by decide +kernel⟩,
   ⟨(live |> fun (s : State) => s.setPost (.a : Pm) { s.post (.a : Pm) with role := .booting }), (.a : Pm),
     by decide +kernel⟩,
   ⟨((live |> fun (s : State) => { s with pm := { s.pm with active := some (pmOther (.a : Pm)) } }) |> fun (s :
     State) => s.setPost (.a : Pm) { s.post (.a : Pm) with role := .syncing }), (.a : Pm), by decide +kernel⟩,
   ⟨((live |> fun (s : State) => { s with pm := { s.pm with active := none } }) |> fun (s : State) => s.setPost (.a
     : Pm) { s.post (.a : Pm) with role := .syncing }), (.a : Pm), by decide +kernel⟩,
   ⟨((live |> fun (s : State) => { s with pm := { s.pm with active := some (.a : Pm) } }) |> fun (s : State) =>
     s.setPost (pmOther (.a : Pm)) { s.post (pmOther (.a : Pm)) with ackSince := some (0 : Nat), role := .standby }),
     (.a : Pm), 0, by decide +kernel⟩,
   ⟨(live |> fun (s : State) => s.setPost (.a : Pm) { s.post (.a : Pm) with role := .standby }), _, (.a : Pm),
     (.sram : FailCode), by decide +kernel, by decide +kernel, by decide +kernel, rfl, by decide +kernel⟩,
   ⟨((live |> fun (s : State) => s.setPost (.a : Pm) { s.post (.a : Pm) with role := .active }) |> fun (s : State)
     => s.setPost .b
     { s.post .b with role := .standby, synced := true, selftestOk := true, healthAt := some s.time.uptime }), _, (.a
     : Pm), by decide +kernel, rfl, by decide +kernel⟩,
   ⟨(live |> fun (s : State) => s.setPost (.a : Pm) { s.post (.a : Pm) with role := .active }), _, (.a : Pm),
     by decide +kernel, rfl, by decide +kernel⟩,
   ⟨(live |> fun (s : State) => s.setPost (.a : Pm) { s.post (.a : Pm) with role := .standby }), (.a : Pm),
     by decide +kernel⟩,
   ⟨(live |> fun (s : State) => s.setPost (.a : Pm)
     { s.post (.a : Pm) with role := .active, items := [1, 2], itemFailed := false }), (.a : Pm), by decide +kernel⟩,
   ⟨(live |> fun (s : State) => s.setPost (.a : Pm) { s.post (.a : Pm) with role := .active }), (.a : Pm), 0#8,
     by decide +kernel⟩⟩

/-- The hypotheses of `Obligations.SettingsStoreAndImageBanks` are met. -/
theorem witness_SettingsStoreAndImageBanks :
    (∃ (s : State) (l : LetterId) (part : W32) (bank : W32) (offset : W64) (data : ListArg Byte) (d : List Byte),
      Claimed s l 0x1101 [p4 part, p4 bank, p8 offset, pL data] ∧ part.toNat ≤ 5 ∧ (bank = 0#32 ∨ bank = 1#32) ∧
      offset = 0#64 ∧ data.count.toNat % 4096 = 0 ∧ 4096 ≤ data.count.toNat ∧ data.count.toNat ≤ 16777216 ∧
      (part.toNat ≠ 3 ∨ s.variant.envelope = true) ∧ s.bankState part.toNat (bank = 1#32) ≠ .armed ∧ s.bankState
      part.toNat (bank = 1#32) ≠ .rolling ∧ s.activeBank part.toNat ≠ decide (bank = 1#32) ∧ data.items = some d ∧
      d.length ≤ leAt d 24 4) ∧
    (∃ (s : State) (l : LetterId) (part : W32) (bank : W32) (offset : W64) (data : ListArg Byte) (d : List Byte),
      Claimed s l 0x1101 [p4 part, p4 bank, p8 offset, pL data] ∧ part.toNat ≤ 5 ∧ (bank = 0#32 ∨ bank = 1#32) ∧
      offset ≠ 0#64 ∧ offset.toNat % 4096 = 0 ∧ data.count.toNat % 4096 = 0 ∧ 4096 ≤ data.count.toNat ∧
      data.count.toNat ≤ 16777216 ∧ (part.toNat ≠ 3 ∨ s.variant.envelope = true) ∧ s.bankState part.toNat (bank =
      1#32) = .writing ∧ s.activeBank part.toNat ≠ decide (bank = 1#32) ∧ offset.toNat + data.count.toNat ≤ (s.bank
      part.toNat (bank = 1#32)).length ∧ (coveredBlocks offset.toNat data.count.toNat).any (s.bank part.toNat (bank =
      1#32)).blocks.contains = false ∧ data.items = some d) ∧
    (∃ (s : State) (l : LetterId) (part : W32) (bank : W32) (offset : W64) (data : ListArg Byte), Claimed s l 0x1101
      [p4 part, p4 bank, p8 offset, pL data] ∧ part.toNat ≤ 5 ∧ (bank = 0#32 ∨ bank = 1#32) ∧ offset = 0#64 ∧
      data.count.toNat % 4096 = 0 ∧ 4096 ≤ data.count.toNat ∧ data.count.toNat ≤ 16777216 ∧ (part.toNat ≠ 3 ∨
      s.variant.envelope = true) ∧ s.bankState part.toNat (bank = 1#32) ≠ .armed ∧ s.bankState part.toNat (bank =
      1#32) ≠ .rolling ∧ s.activeBank part.toNat = decide (bank = 1#32)) ∧
    (∃ (s : State) (t : State) (l : LetterId) (part : Nat) (b : Bool), s.takeJob
      (fun j => match j with | .image .. => true | _ => false) = some (.image l part b, t) ∧ s.pm.active.isSome = true) ∧
    (∃ (s : State) (l : LetterId) (part : W32) (bank : W32), Claimed s l 0x1102 [p4 part, p4 bank] ∧ part.toNat ≤ 5 ∧
      (bank = 0#32 ∨ bank = 1#32) ∧ (part.toNat ≠ 3 ∨ s.variant.envelope = true) ∧ (s.bankState part.toNat (bank =
      1#32) = .writing ∨ s.bankState part.toNat (bank = 1#32) = .verified)) ∧
    (∃ (s : State) (t : State) (l : LetterId) (part : Fin 6) (b : Bool), s.takeJob
      (fun j => match j with | .verify _ q c => decide (q = part.val) && c == b | _ => false) = some (.verify l part
      b, t) ∧ s.pm.active.isSome = true) ∧
    (∃ (s : State) (part : Fin 6) (bankB : Bool) (ok : Bool), s.pm.active = none) ∧
    (∃ (v : Bank) (part : Nat), (List.range (v.length / 4096)).all (fun i => v.blocks.contains i) = false) ∧
    (∃ (s : State) (l : LetterId), Claimed s l 0x1105 []) ∧
    (∃ (s : State) (l : LetterId), Claimed s l 0x0107 []) ∧
    (∃ (s : State) (t : State) (l : Option LetterId) (n : Nat) (r : SettingsRecord) (m : Bool) (u : SettingsRecord),
      s.pm.active ≠ none ∧ s.takeJob (fun j => match j with | .settings .. => true | _ => false) = some (.settings l n
      r m, t) ∧ m = false ∧ u = SettingsRecord.seal { r with generation := t.nextGeneration, valid := true }) ∧
    (∃ (s : State) (ok : Bool), s.pm.active = none) ∧
    (∃ (s : State) (t : State) (l : LetterId) (n : Nat) (r : SettingsRecord) (m : Bool), s.pm.active ≠ none ∧
      s.takeJob (fun j => match j with | .settings .. => true | _ => false) = some (.settings (some l) n r m, t)) ∧
    (∃ (s : State) (a : SettingsRecord) (b : SettingsRecord) (version : BitVec 16) (low : Nat), s.validSlot 0 = some
      a ∧ s.validSlot 1 = some b ∧ a.version = b.version) ∧
    (∃ (s : State) (a : SettingsRecord) (b : SettingsRecord) (low : Nat), s.validSlot 0 = some a ∧ s.validSlot 1 =
      some b ∧ a.version ≠ b.version) ∧
    (∃ (s : State) (a : SettingsRecord) (version : BitVec 16) (low : Nat), s.validSlot 0 = some a ∧ s.validSlot 1 =
      none) ∧
    (∃ (s : State) (b : Bool) (r : SettingsRecord), newestRecord (s.validRecords.filter fun r => r.version.toNat =
      (s.settingsVersion b).toNat) = some r) :=
  ⟨⟨(claimOn live (⟨0, 1#32⟩ : LetterId) 0x1101 [p4 (5#32 : W32), p4 (1#32 : W32), p8 (0#64 : W64), pL (⟨0#64,
     4096#32, some (List.replicate 24 0#8 ++ [0#8, 0x10#8, 0#8, 0#8] ++ List.replicate 4068 0#8)⟩ : ListArg Byte)]),
     (⟨0, 1#32⟩ : LetterId), 5#32, 1#32, 0#64, (⟨0#64, 4096#32, some (List.replicate 24 0#8 ++ [0#8, 0x10#8, 0#8, 0#8]
     ++ List.replicate 4068 0#8)⟩ : ListArg Byte), (List.replicate 24 0#8 ++ [0#8, 0x10#8, 0#8, 0#8] ++ List.replicate
     4068 0#8 : List Byte), by unfold Claimed; decide +kernel⟩,
   ⟨(claimOn (live |> fun (s : State) => s.setBank 4 true
     { st := .writing, data := [(24, 0#8), (25, 0x20#8), (26, 0#8), (27, 0#8)], blocks := [0] }) (⟨0, 1#32⟩ :
     LetterId) 0x1101 [p4 (4#32 : W32), p4 (1#32 : W32), p8 (4096#64 : W64), pL (⟨0#64, 4096#32, some (List.replicate
     4096 0#8)⟩ : ListArg Byte)]), (⟨0, 1#32⟩ : LetterId), 4#32, 1#32, 4096#64, (⟨0#64, 4096#32, some (List.replicate
     4096 0#8)⟩ : ListArg Byte), (List.replicate 4096 0#8 : List Byte), by unfold Claimed; decide +kernel⟩,
   ⟨(claimOn live (⟨0, 1#32⟩ : LetterId) 0x1101 [p4 (5#32 : W32), p4 (0#32 : W32), p8 (0#64 : W64), pL (⟨0#64,
     4096#32, none⟩ : ListArg Byte)]), (⟨0, 1#32⟩ : LetterId), 5#32, 0#32, 0#64, (⟨0#64, 4096#32, none⟩ : ListArg
     Byte), by unfold Claimed; decide +kernel⟩,
   ⟨(live |> fun (s : State) =>
     { s with images := { s.images with jobs := [.image (⟨0, 1#32⟩ : LetterId) (0 : Nat) false] } }),
     ({ ((live |> fun (s : State) => { s with images := { s.images with jobs := [.image (⟨0, 1#32⟩ : LetterId) (0 : Nat) false] } }) : State) with images := { ((live |> fun (s : State) => { s with images := { s.images with jobs := [.image (⟨0, 1#32⟩ : LetterId) (0 : Nat) false] } }) : State).images with jobs := [] } }),
     (⟨0, 1#32⟩ : LetterId), 0, false, by decide +kernel⟩,
   ⟨(claimOn (live |> fun (s : State) => s.setBank 4 true { s.bank 4 true with st := .writing }) (⟨0, 1#32⟩ :
     LetterId) 0x1102 [p4 (4#32 : W32), p4 (1#32 : W32)]), (⟨0, 1#32⟩ : LetterId), 4#32, 1#32,
     by unfold Claimed; decide +kernel⟩,
   ⟨(live |> fun (s : State) =>
     { s with images := { s.images with jobs := [.verify (⟨0, 1#32⟩ : LetterId) (0 : Fin 6) false] } }),
     ({ ((live |> fun (s : State) => { s with images := { s.images with jobs := [.verify (⟨0, 1#32⟩ : LetterId) (0 : Fin 6) false] } }) : State) with images := { ((live |> fun (s : State) => { s with images := { s.images with jobs := [.verify (⟨0, 1#32⟩ : LetterId) (0 : Fin 6) false] } }) : State).images with jobs := [] } }),
     (⟨0, 1#32⟩ : LetterId), (0 : Fin 6), false, by decide +kernel⟩,
   ⟨(live |> fun (s : State) => { s with pm := { s.pm with active := none } }), (0 : Fin 6), false, false,
     by decide +kernel⟩,
   ⟨({ data := [(24, 0#8), (25, 0x20#8), (26, 0#8), (27, 0#8)], blocks := [0] } : Bank), 0, by decide +kernel⟩,
   ⟨(claimOn live (⟨0, 1#32⟩ : LetterId) 0x1105 []), (⟨0, 1#32⟩ : LetterId), by unfold Claimed; decide +kernel⟩,
   ⟨(claimOn live (⟨0, 1#32⟩ : LetterId) 0x0107 []), (⟨0, 1#32⟩ : LetterId), by unfold Claimed; decide +kernel⟩,
   ⟨(live |> fun (s : State) =>
     { s with images := { s.images with jobs := [.settings none (0 : Nat) ({ version := 7, generation := 0 } : SettingsRecord) false] } }),
     ({ ((live |> fun (s : State) => { s with images := { s.images with jobs := [.settings none (0 : Nat) ({ version := 7, generation := 0 } : SettingsRecord) false] } }) : State) with images := { ((live |> fun (s : State) => { s with images := { s.images with jobs := [.settings none (0 : Nat) ({ version := 7, generation := 0 } : SettingsRecord) false] } }) : State).images with jobs := [] } }),
     none, 0, ({ version := 7, generation := 0 } : SettingsRecord), false, _, by decide +kernel, by decide +kernel,
     by decide +kernel, rfl⟩,
   ⟨(live |> fun (s : State) => { s with pm := { s.pm with active := none } }), false, by decide +kernel⟩,
   ⟨(live |> fun (s : State) =>
     { s with images := { s.images with jobs := [.settings (some (⟨0, 1#32⟩ : LetterId)) (0 : Nat) ({ version := 7, generation := 0 } : SettingsRecord) false] } }),
     ({ ((live |> fun (s : State) => { s with images := { s.images with jobs := [.settings (some (⟨0, 1#32⟩ : LetterId)) (0 : Nat) ({ version := 7, generation := 0 } : SettingsRecord) false] } }) : State) with images := { ((live |> fun (s : State) => { s with images := { s.images with jobs := [.settings (some (⟨0, 1#32⟩ : LetterId)) (0 : Nat) ({ version := 7, generation := 0 } : SettingsRecord) false] } }) : State).images with jobs := [] } }),
     (⟨0, 1#32⟩ : LetterId), 0, ({ version := 7, generation := 0 } : SettingsRecord), false, by decide +kernel⟩,
   ⟨(live |> fun (s : State) =>
     { s with images := { s.images with slot0 := some ({ version := 7, generation := 0 } : SettingsRecord), slot1 := some ({ version := 7, generation := 1 } : SettingsRecord) } }),
     ({ version := 7, generation := 0 } : SettingsRecord), ({ version := 7, generation := 1 } : SettingsRecord), 0#16,
     0, by decide +kernel⟩,
   ⟨(live |> fun (s : State) =>
     { s with images := { s.images with slot0 := some ({ version := 7, generation := 0 } : SettingsRecord), slot1 := some ({ version := 8, generation := 0 } : SettingsRecord) } }),
     ({ version := 7, generation := 0 } : SettingsRecord), ({ version := 8, generation := 0 } : SettingsRecord), 0,
     by decide +kernel⟩,
   ⟨(live |> fun (s : State) =>
     { s with images := { s.images with slot0 := some ({ version := 7, generation := 0 } : SettingsRecord) } }),
     ({ version := 7, generation := 0 } : SettingsRecord), 0#16, 0, by decide +kernel⟩,
   ⟨(live |> fun (s : State) =>
     { s with images := { s.images with slot0 := some ({ version := 0xFFFF, generation := 0 } : SettingsRecord) } }),
     false, ({ version := 0xFFFF, generation := 0 } : SettingsRecord), by decide +kernel⟩⟩

/-- The hypotheses of `Obligations.ImageActivations` are met. -/
theorem witness_ImageActivations :
    (∃ (s : State) (l : LetterId) (parts : W32) (t : TimeParam), Claimed s l 0x1103 [p4 parts, pT t] ∧ parts.toNat ≤
      63 ∧ (bit parts.toNat 3 = false ∨ s.variant.envelope = true) ∧ badTime t = false ∧ farTime s t = false ∧
      pastTime s t = false ∧ (s.images.act.st = .none ∨ s.images.act.st = .done ∨ s.images.act.st = .rolledBack) ∧ (∀
      p ∈ maskBits parts.toNat 6, s.bankState p (!s.activeBank p) = .verified) ∧ s.activateMismatch parts.toNat =
      false ∧ ((bit parts.toNat 1 && s.clerks.modeP) || (bit parts.toNat 2 && !s.clerks.modeP) || (bit parts.toNat 1
      && bit parts.toNat 2)) = false ∧ schedT t ≠ 0) ∧
    (∃ (s : State) (l : LetterId) (parts : W32) (t : TimeParam), Claimed s l 0x1103 [p4 parts, pT t] ∧ parts.toNat ≤
      63 ∧ (bit parts.toNat 3 = false ∨ s.variant.envelope = true) ∧ badTime t = false ∧ farTime s t = false ∧
      pastTime s t = false ∧ (s.images.act.st = .none ∨ s.images.act.st = .done ∨ s.images.act.st = .rolledBack) ∧ (∀
      p ∈ maskBits parts.toNat 6, s.bankState p (!s.activeBank p) = .verified) ∧ s.activateMismatch parts.toNat =
      false ∧ ((bit parts.toNat 1 && s.clerks.modeP) || (bit parts.toNat 2 && !s.clerks.modeP) || (bit parts.toNat 1
      && bit parts.toNat 2)) = false ∧ schedT t = 0) ∧
    (∃ (s : State) (l : LetterId) (parts : W32), Claimed s l 0x1104 [p4 parts] ∧ parts.toNat ≤ 63 ∧ (bit parts.toNat
      3 = false ∨ s.variant.envelope = true) ∧ s.images.act.st = .armed ∧ s.images.act.parts &&& BitVec.ofNat 6
      parts.toNat ≠ 0#6) ∧
    (∃ (s : State) (l : LetterId) (parts : W32), Claimed s l 0x1104 [p4 parts] ∧ parts.toNat ≤ 63 ∧ (bit parts.toNat
      3 = false ∨ s.variant.envelope = true) ∧ s.images.act.st = .rolling ∧ s.images.act.parts &&& BitVec.ofNat 6
      parts.toNat ≠ 0#6) ∧
    (∃ (s : State), s.images.act.st = .armed ∧ s.images.act.t ≤ s.units ∧ s.pm.active.isSome = true) ∧
    (∃ (s : State), s.units < s.images.act.t) ∧
    (∃ (s : State), s.images.act.st = .rolling ∧ s.images.act.step ≠ 4 ∧ s.stepEnded = true ∧ s.pm.active.isSome =
      true) ∧
    (∃ (s : State), s.images.act.st = .rolling ∧ s.images.act.step = 4 ∧ s.images.act.sub < 11 ∧ s.stepEnded = true ∧
      s.pm.active.isSome = true) ∧
    (∃ (s : State), s.stepEnded = false) ∧
    (∃ (s : State), s.images.act.st = .rolling ∧ s.stepFailed = true ∧ s.pm.active.isSome = true) ∧
    (∃ (s : State), s.stepFailed = false) ∧
    (∃ (s : State), s.images.boot0.valid = true ∧ s.images.boot1.valid = true ∧ seqNewer s.images.boot1.generation
      s.images.boot0.generation = true) :=
  ⟨⟨(claimOn ((live |> fun (s : State) =>
     { s with images := { s.images with act := { s.images.act with st := .none } } }) |> fun (s : State) => s.setBank
     4 true { s.bank 4 true with st := .verified }) (⟨0, 1#32⟩ : LetterId) 0x1103 [p4 (16#32 : W32), pT ((BitVec.ofNat
     128 (1000000 * 2 ^ 48 + 200000 * 2 ^ 16)) : TimeParam)]), (⟨0, 1#32⟩ : LetterId), 16#32, (BitVec.ofNat 128
     (1000000 * 2 ^ 48 + 200000 * 2 ^ 16)), by unfold Claimed; decide +kernel⟩,
   ⟨(claimOn ((live |> fun (s : State) =>
     { s with images := { s.images with act := { s.images.act with st := .none } } }) |> fun (s : State) => s.setBank
     4 true { s.bank 4 true with st := .verified }) (⟨0, 1#32⟩ : LetterId) 0x1103 [p4 (16#32 : W32), pT (0#128 :
     TimeParam)]), (⟨0, 1#32⟩ : LetterId), 16#32, 0#128, by unfold Claimed; decide +kernel⟩,
   ⟨(claimOn ((live |> fun (s : State) =>
     { s with images := { s.images with act := { s.images.act with st := .armed } } }) |> fun (s : State) =>
     { s with images := { s.images with act := { s.images.act with parts := 1#6 } } }) (⟨0, 1#32⟩ : LetterId) 0x1104
     [p4 (1#32 : W32)]), (⟨0, 1#32⟩ : LetterId), 1#32, by unfold Claimed; decide +kernel⟩,
   ⟨(claimOn ((live |> fun (s : State) =>
     { s with images := { s.images with act := { s.images.act with st := .rolling } } }) |> fun (s : State) =>
     { s with images := { s.images with act := { s.images.act with parts := 1#6 } } }) (⟨0, 1#32⟩ : LetterId) 0x1104
     [p4 (1#32 : W32)]), (⟨0, 1#32⟩ : LetterId), 1#32, by unfold Claimed; decide +kernel⟩,
   ⟨(live |> fun (s : State) =>
     { s with images := { s.images with act := { s.images.act with st := .armed, t := s.units } } }),
     by decide +kernel⟩,
   ⟨(live |> fun (s : State) =>
     { s with images := { s.images with act := { s.images.act with t := s.units + 1 } } }), by decide +kernel⟩,
   ⟨(live |> fun (s : State) => { s with images := { s.images with act := { s.images.act with st := .rolling } } }),
     by decide +kernel⟩,
   ⟨((live |> fun (s : State) => { s with images := { s.images with act := { s.images.act with st := .rolling } } })
     |> fun (s : State) => { s with images := { s.images with act := { s.images.act with step := 4 } } }),
     by decide +kernel⟩,
   ⟨(live |> fun (s : State) => { s with pm := { s.pm with active := none } }), by decide +kernel⟩,
   ⟨(live |> fun (s : State) => { s with images := { s.images with act := { s.images.act with st := .rolling } } }),
     by decide +kernel⟩,
   ⟨(live |> fun (s : State) =>
     { s with images := { s.images with act := { s.images.act with step := 3, since := s.time.uptime } } }),
     by decide +kernel⟩,
   ⟨(((live |> fun (s : State) =>
     { s with images := { s.images with boot0 := { s.images.boot0 with valid := true } } }) |> fun (s : State) =>
     { s with images := { s.images with boot1 := { s.images.boot1 with valid := true } } }) |> fun (s : State) =>
     { s with images := { s.images with boot1 := { s.images.boot1 with generation := 1#32 } } }), by decide +kernel⟩⟩

/-- The hypotheses of `Obligations.CounterSweepAndReads` are met. -/
theorem witness_CounterSweepAndReads :
    (∃ (s : State), s.powered = true ∧ s.tel.sweep = none ∧ s.crossed 8000000 = true ∧ s.tel.sweepAt ≠ some s.up) ∧
    (∃ (s : State), s.crossed 8000000 = false) ∧
    (∃ (s : State) (i : Nat), s.tel.sweep = some i) ∧
    (∃ (s : State) (i : Nat) (t : Nat), s.tel.sweep = some i ∧ i + 1 < 1572864 ∧ s.tel.sweepAt = some t ∧ t + 5 * i ≤
      s.up) ∧
    (∃ (s : State) (i : Nat) (t : Nat), s.tel.sweep = some i ∧ s.tel.sweepAt = some t ∧ s.up < t + 5 * i) ∧
    (∃ (s : State) (t : Nat), s.tel.sweep = some 1572863 ∧ s.tel.sweepAt = some t ∧ t + 7864315 ≤ s.up) ∧
    (∃ (s : State), s.tel.sweep = none) ∧
    (∃ (a : Accum) (i : Nat) (c : Count), i ≠ Fam.writeBehindPeak.base) ∧
    (∃ (s : State) (f : Fam) (obj : Nat) (elem : Nat) (n : Nat) (v : Nat), obj < f.objs ∧ elem < f.elems) ∧
    (∃ (s : State) (l : LetterId) (first : W32) (count : W32) (result : W64), Claimed s l 0x1201 [p4 first, p4 count,
      p8 result] ∧ 1 ≤ count.toNat ∧ count.toNat ≤ 65536 ∧ first.toNat + count.toNat ≤ 1572864 ∧ (∀ k < count.toNat,
      s.mayRead l.slice (first.toNat + k) = true)) ∧
    (∃ (s : State) (l : LetterId) (first : W32) (count : W32) (result : W64), Claimed s l 0x1201 [p4 first, p4 count,
      p8 result] ∧ 1 ≤ count.toNat ∧ count.toNat ≤ 65536 ∧ first.toNat < 1572864 ∧ first.toNat < 131072 ∧ l.slice.val
      ≠ 0) ∧
    (∃ (s : State) (l : LetterId) (ranges : ListArg W64) (result : W64) (rs : List W64), Claimed s l 0x1202 [pL
      ranges, p8 result] ∧ 1 ≤ ranges.count.toNat ∧ ranges.count.toNat ≤ 64 ∧ ranges.items = some rs ∧ rs.any badRange
      = false ∧ rs.foldl (fun n r => n + rangeCount r) 0 ≤ 16384 ∧ (∀ r ∈ rs, s.noRange l.slice r = false) ∧
      s.tel.snapshot = none) ∧
    (∃ (s : State) (l : LetterId) (ranges : ListArg W64) (result : W64) (rs : List W64), Claimed s l 0x1202 [pL
      ranges, p8 result] ∧ 1 ≤ ranges.count.toNat ∧ ranges.count.toNat ≤ 64 ∧ ranges.items = some rs ∧ rs.any badRange
      = false ∧ rs.foldl (fun n r => n + rangeCount r) 0 ≤ 16384 ∧ rs.any (fun r => s.noRange l.slice r) = false ∧
      s.tel.snapshot.isSome = true) ∧
    (∃ (s : State) (u : State) (p : Snapshot) (bytes : List Byte), s.latchSnapshot = u ∧ u.tel.snapshot = some p ∧
      p.latched = some bytes ∧ u.mayRequest p.letter.slice = true) ∧
    (∃ (s : State) (t : State) (p : Snapshot), s.tel.snapshot = some p ∧ p.latched = none ∧ p.ts ≤ s.ns ∧ t =
      p.ranges.foldl (fun t r => if rangeSpace r = 0 then t.clearPeaks (rangeFirst r) (rangeCount r) else t) s) ∧
    (∃ (s : State) (p : Snapshot), s.tel.snapshot = some p ∧ p.latched.isSome = true) ∧
    (∃ (s : State) (p : Snapshot), s.tel.snapshot = some p ∧ p.latched = none ∧ s.ns < p.ts) ∧
    (∃ (s : State) (ts : Nat) (fam : Nat) (obj : Nat) (a : Accum), fam ≠ 0x0C ∧ nfind s.tel.sparse (sparseKey fam
      obj) = some a) ∧
    (∃ (s : State) (ts : Nat) (fam : Nat) (obj : Nat), fam ≠ 0x0C ∧ nfind s.tel.sparse (sparseKey fam obj) = none) :=
  ⟨⟨(live |> fun (s : State) => { s with tel := { s.tel with sweep := none } }), by decide +kernel⟩,
   ⟨(live |> fun (s : State) => { s with time := { s.time with last := s.time.counter } }), by decide +kernel⟩,
   ⟨(live |> fun (s : State) => { s with tel := { s.tel with sweep := some (0 : Nat) } }), 0, by decide +kernel⟩,
   ⟨((live |> fun (s : State) => { s with tel := { s.tel with sweep := some (0 : Nat) } }) |> fun (s : State) =>
     { s with tel := { s.tel with sweepAt := some (0 : Nat) } }), 0, 0, by decide +kernel⟩,
   ⟨((live |> fun (s : State) => { s with tel := { s.tel with sweep := some (1 : Nat) } }) |> fun (s : State) =>
     { s with tel := { s.tel with sweepAt := some (1000000000000000 : Nat) } }), 1, 1000000000000000,
     by decide +kernel⟩,
   ⟨((live |> fun (s : State) => { s with tel := { s.tel with sweep := some 1572863 } }) |> fun (s : State) =>
     { s with tel := { s.tel with sweepAt := some (0 : Nat) } }), 0, by decide +kernel⟩,
   ⟨(live |> fun (s : State) => { s with tel := { s.tel with sweep := none } }), by decide +kernel⟩,
   ⟨({ } : Accum), 0, ({ } : Count), by decide +kernel⟩,
   ⟨live, Fam.rxOk, 0, 0, 0, 0, by decide +kernel⟩,
   ⟨(claimOn live (⟨0, 1#32⟩ : LetterId) 0x1201 [p4 (0#32 : W32), p4 (1#32 : W32), p8 (0#64 : W64)]), (⟨0, 1#32⟩ :
     LetterId), 0#32, 1#32, 0#64, by unfold Claimed; decide +kernel⟩,
   ⟨(claimOn live (⟨1, 1#32⟩ : LetterId) 0x1201 [p4 (131071#32 : W32), p4 (1#32 : W32), p8 (0#64 : W64)]), (⟨1,
     1#32⟩ : LetterId), 131071#32, 1#32, 0#64, by unfold Claimed; decide +kernel⟩,
   ⟨(claimOn (live |> fun (s : State) => { s with tel := { s.tel with snapshot := none } }) (⟨0, 1#32⟩ : LetterId)
     0x1202 [pL (⟨0#64, 1#32, some [0x2000000000#64]⟩ : ListArg W64), p8 (0#64 : W64)]), (⟨0, 1#32⟩ : LetterId),
     (⟨0#64, 1#32, some [0x2000000000#64]⟩ : ListArg W64), 0#64, ([0x2000000000#64] : List W64),
     by unfold Claimed; decide +kernel, by decide +kernel, by decide +kernel, by decide +kernel, by decide +kernel,
     by decide +kernel, fun q hq => by have h := List.mem_singleton.mp hq; subst h; decide +kernel, by decide +kernel⟩,
   ⟨(claimOn (live |> fun (s : State) =>
     { s with tel := { s.tel with snapshot := some { letter := ⟨0, 1#32⟩, ts := 0, ranges := [], result := 0 } } })
     (⟨0, 1#32⟩ : LetterId) 0x1202 [pL (⟨0#64, 1#32, some [0x2000000000#64]⟩ : ListArg W64), p8 (0#64 : W64)]), (⟨0,
     1#32⟩ : LetterId), (⟨0#64, 1#32, some [0x2000000000#64]⟩ : ListArg W64), 0#64, ([0x2000000000#64] : List W64),
     by unfold Claimed; decide +kernel⟩,
   ⟨((live |> fun (s : State) => { s with courier := { s.courier with pasidOn := true } }.setSlice 0
     { s.slice 0 with st := .active }) |> fun (s : State) =>
     { s with tel := { s.tel with snapshot := some ({ letter := ⟨0, 1#32⟩, ts := 0, ranges := [0x2000000000#64], result := 0#64, latched := some [] } : Snapshot) } }),
     ((((live |> fun (s : State) => { s with courier := { s.courier with pasidOn := true } }.setSlice 0
     { s.slice 0 with st := .active }) |> fun (s : State) =>
     { s with tel := { s.tel with snapshot := some ({ letter := ⟨0, 1#32⟩, ts := 0, ranges := [0x2000000000#64], result := 0#64, latched := some [] } : Snapshot) } })
     : State)), ({ letter := ⟨0, 1#32⟩, ts := 0, ranges := [0x2000000000#64], result := 0#64, latched := some [] } :
     Snapshot), ([] : List Byte), rfl, by decide +kernel⟩,
   ⟨(live |> fun (s : State) =>
     { s with tel := { s.tel with snapshot := some ((({ letter := ⟨0, 1#32⟩, ts := 0, ranges := [], result := 0#64 } : Snapshot) |> fun x => { x with latched := none }) : Snapshot) } }),
     _, (({ letter := ⟨0, 1#32⟩, ts := 0, ranges := [], result := 0#64 } : Snapshot) |> fun x =>
     { x with latched := none }), by decide +kernel, by decide +kernel, by decide +kernel, rfl⟩,
   ⟨((live |> fun (s : State) =>
     { s with tel := { s.tel with snapshot := some ({ letter := ⟨0, 1#32⟩, ts := 0, ranges := [0x2000000000#64], result := 0#64, latched := some [] } : Snapshot) } })
     |> fun (s : State) =>
     { s with tel := { s.tel with snapshot := some ({ letter := ⟨0, 1#32⟩, ts := 0, ranges := [0x2000000000#64], result := 0#64, latched := some [] } : Snapshot) } }),
     ({ letter := ⟨0, 1#32⟩, ts := 0, ranges := [0x2000000000#64], result := 0#64, latched := some [] } : Snapshot),
     by decide +kernel⟩,
   ⟨(live |> fun (s : State) =>
     { s with tel := { s.tel with snapshot := some ({ letter := ⟨0, 1#32⟩, ts := 2 ^ 60, ranges := [0x2000000000#64], result := 0#64 } : Snapshot) } }),
     ({ letter := ⟨0, 1#32⟩, ts := 2 ^ 60, ranges := [0x2000000000#64], result := 0#64 } : Snapshot),
     by decide +kernel⟩,
   ⟨(live |> fun (s : State) =>
     { s with tel := { s.tel with sparse := [(sparseKey (0x0F : Nat) (7 : Nat), ({ count := 3 } : Accum))] } }), 0,
     0x0F, 7, ({ count := 3 } : Accum), by decide +kernel⟩,
   ⟨live, 0, 0, 0, by decide +kernel⟩⟩

/-- The hypotheses of `Obligations.TaggingAndTracing` are met. -/
theorem witness_TaggingAndTracing :
    (∃ (s : State) (l : LetterId) (ratio : W32), Claimed s l 0x1203 [p4 ratio] ∧ s.variant.ledger = false ∧ 1 ≤
      ratio.toNat ∧ ratio.toNat ≤ 65536) ∧
    (∃ (s : State) (l : LetterId) (ratio : W32), Claimed s l 0x1203 [p4 ratio] ∧ s.variant.ledger = false ∧ 65536 <
      ratio.toNat ∧ ratio.toNat ≠ 4294967295) ∧
    (∃ (s : State) (l : LetterId) (ratio : W32), Claimed s l 0x1203 [p4 ratio] ∧ s.variant.ledger = true) ∧
    (∃ (s : State) (l : LetterId) (benches : W32) (filter : W32) (mode : W32), Claimed s l 0x1204 [p4 benches, p4
      filter, p4 mode] ∧ s.variant.ledger = true ∧ bits filter.toNat 20 0 = 0 ∧ bits filter.toNat 22 21 ≠ 3 ∧
      mode.toNat ≤ 2 ∧ (bit filter.toNat 23 = false ∨ bits filter.toNat 31 24 ≤ 191)) ∧
    (∃ (s : State) (l : LetterId) (benches : W32) (filter : W32) (mode : W32), Claimed s l 0x1204 [p4 benches, p4
      filter, p4 mode] ∧ s.variant.ledger = false ∧ bits filter.toNat 20 0 = 0 ∧ bits filter.toNat 22 21 ≠ 3 ∧
      mode.toNat ≤ 2) ∧
    (∃ (s : State) (l : LetterId) (result : W64), Claimed s l 0x1205 [p8 result]) ∧
    (∃ (s : State) (n : Nat), n = s.tel.trace.length * 2 ^ 224 + s.sec % 2 ^ 32 * 2 ^ 192 + s.nsec * 2 ^ 160 +
      s.tel.skipped % 2 ^ 32 * 2 ^ 128 + b2n (!s.variant.ledger) * 2 ^ 120 ∧ s.variant.ledger = true) ∧
    (∃ (s : State) (n : Nat), n = s.tel.tags.length * 2 ^ 224 + s.sec % 2 ^ 32 * 2 ^ 192 + s.nsec * 2 ^ 160 +
      s.tel.skipped % 2 ^ 32 * 2 ^ 128 + b2n (!s.variant.ledger) * 2 ^ 120 ∧ s.variant.ledger = false) ∧
    (∃ (s : State), s.variant.ledger = true) ∧
    (∃ (s : State), s.variant.ledger = false) ∧
    (∃ (s : State) (r : BitVec 256), s.tel.recording = 1 ∧ s.tel.trace.length = 65536) ∧
    (∃ (s : State) (r : BitVec 256), s.tel.recording = 2 ∧ 65536 ≤ s.tel.trace.length) :=
  ⟨⟨(claimOn (live |> fun (s : State) => { s with variant := .le1920 }) (⟨0, 1#32⟩ : LetterId) 0x1203 [p4 (1#32 :
     W32)]), (⟨0, 1#32⟩ : LetterId), 1#32, by unfold Claimed; decide +kernel⟩,
   ⟨(claimOn (live |> fun (s : State) => { s with variant := .le1920 }) (⟨0, 1#32⟩ : LetterId) 0x1203 [p4 (65537#32
     : W32)]), (⟨0, 1#32⟩ : LetterId), 65537#32, by unfold Claimed; decide +kernel⟩,
   ⟨(claimOn live (⟨0, 1#32⟩ : LetterId) 0x1203 [p4 (0#32 : W32)]), (⟨0, 1#32⟩ : LetterId), 0#32,
     by unfold Claimed; decide +kernel⟩,
   ⟨(claimOn live (⟨0, 1#32⟩ : LetterId) 0x1204 [p4 (0#32 : W32), p4 (0#32 : W32), p4 (2#32 : W32)]), (⟨0, 1#32⟩ :
     LetterId), 0#32, 0#32, 2#32, by unfold Claimed; decide +kernel⟩,
   ⟨(claimOn (live |> fun (s : State) => { s with variant := .le1920 }) (⟨0, 1#32⟩ : LetterId) 0x1204 [p4 (0#32 :
     W32), p4 (0#32 : W32), p4 (2#32 : W32)]), (⟨0, 1#32⟩ : LetterId), 0#32, 0#32, 2#32,
     by unfold Claimed; decide +kernel⟩,
   ⟨(claimOn live (⟨0, 1#32⟩ : LetterId) 0x1205 [p8 (0#64 : W64)]), (⟨0, 1#32⟩ : LetterId), 0#64,
     by unfold Claimed; decide +kernel⟩,
   ⟨live, _, rfl, by decide +kernel⟩,
   ⟨(live |> fun (s : State) => { s with variant := .le1920 }), _, rfl, by decide +kernel⟩,
   ⟨live, by decide +kernel⟩,
   ⟨(live |> fun (s : State) => { s with variant := .le1920 }), by decide +kernel⟩,
   ⟨((live |> fun (s : State) => { s with tel := { s.tel with recording := 1 } }) |> fun (s : State) =>
     { s with tel := { s.tel with trace := List.replicate 65536 (0#256 : BitVec 256) } }), 0#256, by decide +kernel,
     by show (List.replicate 65536 _).length = 65536; exact List.length_replicate⟩,
   ⟨((live |> fun (s : State) => { s with tel := { s.tel with recording := 2 } }) |> fun (s : State) =>
     { s with tel := { s.tel with trace := List.replicate 65536 (0#256 : BitVec 256) } }), 0#256, by decide +kernel,
     by show 65536 ≤ (List.replicate 65536 _).length; exact Nat.le_of_eq List.length_replicate.symm⟩⟩

/-- The hypotheses of `Obligations.PmbusReads` are met. -/
theorem witness_PmbusReads :
    (∃ (s : State), s.hkAnswers = true) ∧
    (∃ (s : State) (offset : BitVec 13), s.hkAnswers = true) ∧
    (∃ (s : State) (code : Byte), s.hkAnswers = true ∧ s.power.pmbus.contains 6 = false) ∧
    (∃ (s : State) (code : Byte) (offset : BitVec 13), s.hkAnswers = false) :=
  ⟨⟨live, by decide +kernel⟩,
   ⟨live, 0#13, by decide +kernel⟩,
   ⟨live, 0#8, by decide +kernel⟩,
   ⟨(live |> fun (s : State) => { s with power := { s.power with hkUp := false } }), 0#8, 0#13, by decide +kernel⟩⟩

/-- The hypotheses of `Obligations.InputAndRails` are met. -/
theorem witness_InputAndRails :
    (∃ (s : State) (t : State), s.power.aon = false ∧ s.power.overVolt = false ∧ t =
      { s with power := { s.power with aon := true, riseAt := s.up, cause := 1#9, overVolt := false, overSince := none, thermalOff := false, thermalArmed := false, pmbus := [], pmbusData := none, vin := max s.power.vin 35000 } }) ∧
    (∃ (s : State), s.power.aon = true ∧ s.power.hkUp = false) ∧
    (∃ (s : State), s.power.aon = true) ∧
    (∃ (s : State) (since : Nat), s.power.overSince = some since ∧ s.power.overVolt = true ∧ since + 100000000 ≤ s.up
      ∧ 35000 ≤ s.power.vin) ∧
    (∃ (s : State) (since : Nat), s.power.overSince = some since ∧ s.up < since + 100000000) ∧
    (∃ (s : State), s.power.pwrEn = false ∧ s.power.hkUp = true ∧ s.power.aon = true ∧ s.power.rails = false ∧
      s.power.thermalOff = false) ∧
    (∃ (s : State), s.power.rails = true) ∧
    (∃ (s : State), s.power.rising = true) ∧
    (∃ (s : State), 110 ≤ s.hottest ∧ s.power.rails = true) ∧
    (∃ (s : State), s.hottest < 110) :=
  ⟨⟨((live |> fun (s : State) => { s with power := { s.power with aon := false } }) |> fun (s : State) =>
     { s with power := { s.power with overVolt := false } }), _, by decide +kernel, by decide +kernel, rfl⟩,
   ⟨((live |> fun (s : State) => { s with power := { s.power with aon := true } }) |> fun (s : State) =>
     { s with power := { s.power with hkUp := false } }), by decide +kernel⟩,
   ⟨(live |> fun (s : State) => { s with power := { s.power with aon := true } }), by decide +kernel⟩,
   ⟨((live |> fun (s : State) => { s with power := { s.power with overSince := some (0 : Nat) } }) |> fun (s :
     State) => { s with power := { s.power with overVolt := true } }), 0, by decide +kernel⟩,
   ⟨(live |> fun (s : State) => { s with power := { s.power with overSince := some (1000000000000000 : Nat) } }),
     1000000000000000, by decide +kernel⟩,
   ⟨(((((live |> fun (s : State) => { s with power := { s.power with pwrEn := false } }) |> fun (s : State) =>
     { s with power := { s.power with hkUp := true } }) |> fun (s : State) =>
     { s with power := { s.power with aon := true } }) |> fun (s : State) =>
     { s with power := { s.power with rails := false } }) |> fun (s : State) =>
     { s with power := { s.power with thermalOff := false } }), by decide +kernel⟩,
   ⟨(live |> fun (s : State) => { s with power := { s.power with rails := true } }), by decide +kernel⟩,
   ⟨(live |> fun (s : State) => { s with power := { s.power with rising := true } }), by decide +kernel⟩,
   ⟨((live |> fun (s : State) => { s with power := { s.power with rails := true } }) |> fun (s : State) =>
     { s with power := { s.power with temps := [(0, 110)] } }), by decide +kernel⟩,
   ⟨live, by decide +kernel⟩⟩

/-- The hypotheses of `Obligations.StartupDomainsAndThrottling` are met. -/
theorem witness_StartupDomainsAndThrottling :
    (∃ (s : State) (d : Nat) (on : Bool) (at_ : Nat) (rest : List (Nat × Bool × Nat)), s.power.requests = (d, on,
      at_) :: rest ∧ s.powered = true ∧ s.movingStep 3 = false ∧ s.headless = false) ∧
    (∃ (s : State), s.headless = true ∧ (∀ r ∈ s.power.requests, r.1 < 146)) ∧
    (∃ (d : Nat) (e : Nat) (t : Nat) (on : Bool) (off : Bool) (rest : List (Nat × Bool × Nat)), d < e) ∧
    (∃ (s : State) (d : Fin 148), s.variant.hasDomain d = true ∧ d.val ≠ 0 ∧ s.domain d = true) ∧
    (∃ (s : State) (d : Fin 148), s.variant.hasDomain d = false) ∧
    (∃ (s : State) (t : State) (c : BitVec 8), t = s.modPower (fun p => { p with temps := nset 0 0 c.toNat p.temps })) ∧
    (∃ (s : State) (v : BitVec 16), s.power.cap * 10 < v.toNat) ∧
    (∃ (s : State) (v : BitVec 16) (since : Nat), v.toNat ≤ s.power.cap * 10 ∧ s.power.thrCap = true ∧ v.toNat * 10 <
      s.power.cap * 95 ∧ s.power.capLow = some since ∧ since + 10000000 ≤ s.up) ∧
    (∃ (s : State) (t : State) (iin : W32) (rails : List (W32 × W32)), s.power.hkUp = true ∧ s.movingStep 2 = false ∧
      t = s.modPower (fun p => { p with iin := iin, railTel := rails })) ∧
    (∃ (s : State) (l : LetterId), Claimed s l 0x1301 []) ∧
    (∃ (s : State) (l : LetterId) (cap : W32), Claimed s l 0x1302 [p4 cap] ∧ 800 ≤ cap.toNat ∧ cap.toNat ≤ 1650) ∧
    (∃ (s : State) (l : LetterId) (cap : W32), Claimed s l 0x1302 [p4 cap] ∧ cap.toNat < 800) ∧
    (∃ (s : State) (l : LetterId) (low : W32) (high : W32) (temp : W32), Claimed s l 0x1303 [p4 low, p4 high, p4
      temp] ∧ 36000 ≤ low.toNat ∧ low.toNat ≤ 75000 ∧ 36000 ≤ high.toNat ∧ high.toNat ≤ 75000 ∧ 70 ≤ temp.toNat ∧
      temp.toNat ≤ 105) ∧
    (∃ (s : State) (u : State), s.power.stage = .reset ∧ s.power.rails = true ∧ s.power.good.isSome = true ∧
      s.power.resetN = false ∧ s.power.lost.getLsbD 0 = false ∧ s.power.lost.getLsbD 2 = false ∧ u = (List.range
      s.variant.hbmStacks).foldl (fun s i => if (s.stack i).enabled then s.askDomain (89 + i) true else s) (s.modPower
      fun p => { p with stage := .boot }).raiseD2d ∧ (s.modPower fun p => { p with stage := .boot }).raiseD2d.variant
      = s.variant) ∧
    (∃ (s : State), (s.power.lost.getLsbD 0 = true ∨ s.power.lost.getLsbD 2 = true)) ∧
    (∃ (s : State) (p : Pm), s.power.stage = .settings ∧ ([Pm.a, Pm.b].find? fun p => (s.post p).needsSettings &&
      decide ((s.post p).role = .syncing)) = some p) ∧
    (∃ (s : State), s.power.stage = .apply ∧ s.pm.active.isSome = true) ∧
    (∃ (s : State) (good : Nat), s.power.good = some good ∧ s.pm.active = none ∧ s.power.stage ≠ .ready ∧
      s.power.stage ≠ .failed ∧ good + 20000000000 ≤ s.up) ∧
    (∃ (s : State) (good : Nat), s.power.good = some good ∧ s.up < good + 20000000000) :=
  ⟨⟨(live |> fun (s : State) =>
     { s with power := { s.power with requests := ((0 : Nat), false, (0 : Nat)) :: ([] : List (Nat × Bool × Nat)) } }),
     0, false, 0, ([] : List (Nat × Bool × Nat)), by decide +kernel⟩,
   ⟨((live |> fun (s : State) => { s with power := { s.power with requests := [(3, true, 0)] } }) |> fun (s : State)
     => { s with pm := { s.pm with active := none } }), by decide +kernel, fun r hr =>
     by have h := List.mem_singleton.mp hr; subst h; decide⟩,
   ⟨1, 2, 0, false, false, ([] : List (Nat × Bool × Nat)), by decide +kernel⟩,
   ⟨live, (147 : Fin 148), by decide +kernel⟩,
   ⟨(live |> fun (s : State) => { s with variant := .le1920 }), (32 : Fin 148), by decide +kernel⟩,
   ⟨live, _, 0#8, rfl⟩,
   ⟨live, 16501#16, by decide +kernel⟩,
   ⟨((live |> fun (s : State) => { s with power := { s.power with thrCap := true } }) |> fun (s : State) =>
     { s with power := { s.power with capLow := some (0 : Nat) } }), 0#16, 0, by decide +kernel⟩,
   ⟨(live |> fun (s : State) => { s with power := { s.power with hkUp := true } }), _, 0#32, ([] : List (W32 ×
     W32)), by decide +kernel, by decide +kernel, rfl⟩,
   ⟨(claimOn live (⟨0, 1#32⟩ : LetterId) 0x1301 []), (⟨0, 1#32⟩ : LetterId), by unfold Claimed; decide +kernel⟩,
   ⟨(claimOn live (⟨0, 1#32⟩ : LetterId) 0x1302 [p4 (800#32 : W32)]), (⟨0, 1#32⟩ : LetterId), 800#32,
     by unfold Claimed; decide +kernel⟩,
   ⟨(claimOn live (⟨0, 1#32⟩ : LetterId) 0x1302 [p4 (799#32 : W32)]), (⟨0, 1#32⟩ : LetterId), 799#32,
     by unfold Claimed; decide +kernel⟩,
   ⟨(claimOn live (⟨0, 1#32⟩ : LetterId) 0x1303 [p4 (36000#32 : W32), p4 (36000#32 : W32), p4 (70#32 : W32)]), (⟨0,
     1#32⟩ : LetterId), 36000#32, 36000#32, 70#32, by unfold Claimed; decide +kernel⟩,
   ⟨((((live |> fun (s : State) => { s with power := { s.power with stage := .reset } }) |> fun (s : State) =>
     { s with power := { s.power with rails := true } }) |> fun (s : State) =>
     { s with power := { s.power with good := some 0 } }) |> fun (s : State) =>
     { s with power := { s.power with resetN := false } }), _, by decide +kernel, by decide +kernel,
     by decide +kernel, by decide +kernel, by decide +kernel, by decide +kernel, rfl, by decide +kernel⟩,
   ⟨(live |> fun (s : State) => { s with power := { s.power with lost := 1#4 } }), by decide +kernel⟩,
   ⟨((live |> fun (s : State) => { s with power := { s.power with stage := .settings } }) |> fun (s : State) =>
     s.setPost .a { s.post .a with needsSettings := true, role := .syncing }), Pm.a, by decide +kernel⟩,
   ⟨(live |> fun (s : State) => { s with power := { s.power with stage := .apply } }), by decide +kernel⟩,
   ⟨(((live |> fun (s : State) => { s with power := { s.power with good := some (999980000000000 : Nat) } }) |> fun
     (s : State) => { s with pm := { s.pm with active := none } }) |> fun (s : State) =>
     { s with power := { s.power with stage := .boot } }), 999980000000000, by decide +kernel⟩,
   ⟨(live |> fun (s : State) => { s with power := { s.power with good := some (1000000000000000 : Nat) } }),
     1000000000000000, by decide +kernel⟩⟩

/-- The hypotheses of `Obligations.ResetsAndReferences` are met. -/
theorem witness_ResetsAndReferences :
    (∃ (s : State), s.power.hkUp = true) ∧
    (∃ (s : State), s.power.resetN = true ∧ s.power.rails = true) ∧
    (∃ (s : State) (kind : PcieResetKind), s.power.hkUp = true) ∧
    (∃ (s : State) (on : Bool), s.power.hkUp = true) ∧
    (∃ (s : State) (code : BitVec 3), s.power.hkUp = true ∧ code.toNat ≤ 2) ∧
    (∃ (s : State) (input : RefInput), (input = .ref25m ∨ input = .ref10m) ∧ s.power.lost.getLsbD (refNumber input) =
      false ∧ s.power.hkUp = true) ∧
    (∃ (s : State), s.power.lost.getLsbD 0 = false ∧ s.power.hkUp = true) ∧
    (∃ (s : State), s.power.lost.getLsbD 1 = false ∧ s.power.hkUp = true) ∧
    (∃ (s : State) (input : RefInput), s.power.lost.getLsbD (refNumber input) = true) :=
  ⟨⟨(live |> fun (s : State) => { s with power := { s.power with hkUp := true } }), by decide +kernel⟩,
   ⟨((live |> fun (s : State) => { s with power := { s.power with resetN := true } }) |> fun (s : State) =>
     { s with power := { s.power with rails := true } }), by decide +kernel⟩,
   ⟨(live |> fun (s : State) => { s with power := { s.power with hkUp := true } }), (.perst : PcieResetKind),
     by decide +kernel⟩,
   ⟨(live |> fun (s : State) => { s with power := { s.power with hkUp := true } }), false, by decide +kernel⟩,
   ⟨(live |> fun (s : State) => { s with power := { s.power with hkUp := true } }), 2#3, by decide +kernel⟩,
   ⟨(live |> fun (s : State) => { s with power := { s.power with hkUp := true } }), .ref25m, by decide +kernel⟩,
   ⟨(live |> fun (s : State) => { s with power := { s.power with hkUp := true } }), by decide +kernel⟩,
   ⟨(live |> fun (s : State) => { s with power := { s.power with hkUp := true } }), by decide +kernel⟩,
   ⟨(live |> fun (s : State) => { s with power := { s.power with lost := 0xF#4 } }), (.serdes : RefInput),
     by decide +kernel⟩⟩

/-- The hypotheses of `Obligations.FaultLogAndLetters` are met. -/
theorem witness_FaultLogAndLetters :
    (∃ (s : State) (l : LetterId) (first : W32) (count : W32) (result : W64) (out : List FaultRec), Claimed s l
      0x1401 [p4 first, p4 count, p8 result] ∧ 1 ≤ count.toNat ∧ count.toNat ≤ 4096 ∧ out = ((s.readable
      l.slice).filter fun r => atOrAfter first r.record).take count.toNat ∧ out ≠ []) ∧
    (∃ (s : State) (l : LetterId) (first : W32) (count : W32) (result : W64) (ok : Bool), Claimed s l 0x1401 [p4
      first, p4 count, p8 result] ∧ 1 ≤ count.toNat ∧ count.toNat ≤ 4096 ∧ s.readable l.slice = []) ∧
    (∃ (s : State) (sl : Nat) (r : FaultRec), sl ≠ 0 ∧ r ∈ s.readable sl) ∧
    (∃ (s : State) (l : LetterId) (code : W32) (info : FaultInfo), Claimed s l 0x1402 [p4 code] ∧ faultInfo
      code.toNat = some info ∧ info.latched = true) ∧
    (∃ (s : State) (l : LetterId) (code : W32) (info : FaultInfo), Claimed s l 0x1402 [p4 code] ∧ faultInfo
      code.toNat = some info ∧ info.latched = false ∧ s.activeOf l.slice code.toNat ≠ []) ∧
    (∃ (s : State) (l : LetterId) (code : W32), Claimed s l 0x1402 [p4 code] ∧ faultInfo code.toNat = none) ∧
    (∃ (s : State) (l : LetterId) (code : W32) (paths : W32) (info : FaultInfo), Claimed s l 0x1403 [p4 code, p4
      paths] ∧ faultInfo code.toNat = some info ∧ paths.toNat ≤ 15 ∧ (BitVec.ofNat 4 paths.toNat).getLsbD 0 =
      (BitVec.ofNat 4 info.paths).getLsbD 0 ∧ (BitVec.ofNat 4 paths.toNat).getLsbD 3 = (BitVec.ofNat 4
      info.paths).getLsbD 3 ∧ (alwaysCritical code.toNat = false ∨ (BitVec.ofNat 4 paths.toNat).getLsbD 2 = true)) ∧
    (∃ (s : State) (l : LetterId) (paths : W32), Claimed s l 0x1403 [p4 0x0D05#32, p4 paths] ∧ paths.toNat ≤ 15 ∧
      (BitVec.ofNat 4 paths.toNat).getLsbD 2 = false) ∧
    (∃ (s : State) (n : W32) (r : FaultRec) (since : Nat), s.fault? n = some r ∧ r.suppressed = false ∧ r.eventAt =
      some since ∧ since + 1000000000 ≤ s.up ∧ r.reported ≠ some (r.active, r.severity)) ∧
    (∃ (s : State) (n : W32) (r : FaultRec) (since : Nat), s.fault? n = some r ∧ r.eventAt = some since ∧ s.up <
      since + 1000000000) ∧
    (∃ (s : State) (n : W32) (r : FaultRec), s.fault? n = some r ∧ r.reported = some (r.active, r.severity)) ∧
    (∃ (s : State) (n : W32) (r : FaultRec) (since : Nat), s.fault? n = some r ∧ r.graceAt = some since ∧ r.active =
      true ∧ r.suppressed = true ∧ since + 100000000 ≤ s.up) ∧
    (∃ (s : State) (n : W32) (r : FaultRec), s.fault? n = some r ∧ r.active = false) ∧
    (∃ (s : State) (n : W32) (r : FaultRec), s.fault? n = some r ∧ r.suppressed = true) ∧
    (∃ (s : State) (code : Nat) (object : Nat) (detail : Nat) (party : Nat) (owner : Nat) (seq : Nat) (sev : Option
      Nat), (s.holdGrace code object).faults.log.find? (fun r => r.code.toNat = code && r.object.toNat = object &&
      (r.active || decide ((s.holdGrace code object).up ≤ r.clearAt + 1000000000))) = none ∧ (s.holdGrace code
      object).faultRoom = none) :=
  ⟨⟨(claimOn (live |> fun (s : State) => { s with faults := { s.faults with log := [{}] } }) (⟨0, 1#32⟩ : LetterId)
     0x1401 [p4 (0#32 : W32), p4 (1#32 : W32), p8 (0#64 : W64)]), (⟨0, 1#32⟩ : LetterId), 0#32, 1#32, 0#64, _,
     by unfold Claimed; decide +kernel, by decide +kernel, by decide +kernel, rfl, by decide +kernel⟩,
   ⟨(claimOn live (⟨0, 1#32⟩ : LetterId) 0x1401 [p4 (0#32 : W32), p4 (1#32 : W32), p8 (0#64 : W64)]), (⟨0, 1#32⟩ :
     LetterId), 0#32, 1#32, 0#64, false, by unfold Claimed; decide +kernel⟩,
   ⟨(live |> fun (s : State) => { s with faults := { s.faults with log := [({ slice := 1 } : FaultRec)] } }), 1,
     ({ slice := 1 } : FaultRec), by decide +kernel⟩,
   ⟨(claimOn live (⟨0, 1#32⟩ : LetterId) 0x1402 [p4 (1#32 : W32)]), (⟨0, 1#32⟩ : LetterId), 1#32, (⟨0, true, 2⟩),
     by unfold Claimed; decide +kernel⟩,
   ⟨(claimOn (live |> fun (s : State) => { s with faults := { s.faults with log := [{ code := 0x0102#16 }] } }) (⟨0,
     1#32⟩ : LetterId) 0x1402 [p4 (0x0102#32 : W32)]), (⟨0, 1#32⟩ : LetterId), 0x0102#32, (⟨2, false, 14⟩),
     by unfold Claimed; decide +kernel⟩,
   ⟨(claimOn live (⟨0, 1#32⟩ : LetterId) 0x1402 [p4 (0#32 : W32)]), (⟨0, 1#32⟩ : LetterId), 0#32,
     by unfold Claimed; decide +kernel⟩,
   ⟨(claimOn live (⟨0, 1#32⟩ : LetterId) 0x1403 [p4 (0x0102#32 : W32), p4 (12#32 : W32)]), (⟨0, 1#32⟩ : LetterId),
     0x0102#32, 12#32, (⟨2, false, 14⟩), by unfold Claimed; decide +kernel⟩,
   ⟨(claimOn live (⟨0, 1#32⟩ : LetterId) 0x1403 [p4 0x0D05#32, p4 (3#32 : W32)]), (⟨0, 1#32⟩ : LetterId), 3#32,
     by unfold Claimed; decide +kernel⟩,
   ⟨(live |> fun (s : State) =>
     { s with faults := { s.faults with log := [({ eventAt := some 999999000000000 } : FaultRec)] } }), 0#32,
     ({ eventAt := some 999999000000000 } : FaultRec), 999999000000000, by decide +kernel⟩,
   ⟨(live |> fun (s : State) =>
     { s with faults := { s.faults with log := [({ eventAt := some 999999000000001 } : FaultRec)] } }), 0#32,
     ({ eventAt := some 999999000000001 } : FaultRec), 999999000000001, by decide +kernel⟩,
   ⟨(live |> fun (s : State) =>
     { s with faults := { s.faults with log := [({ reported := some (true, 0) } : FaultRec)] } }), 0#32,
     ({ reported := some (true, 0) } : FaultRec), by decide +kernel⟩,
   ⟨(live |> fun (s : State) =>
     { s with faults := { s.faults with log := [({ suppressed := true, graceAt := some 999999900000000 } : FaultRec)] } }),
     0#32, ({ suppressed := true, graceAt := some 999999900000000 } : FaultRec), 999999900000000, by decide +kernel⟩,
   ⟨(live |> fun (s : State) => { s with faults := { s.faults with log := [({ active := false } : FaultRec)] } }),
     0#32, ({ active := false } : FaultRec), by decide +kernel⟩,
   ⟨(live |> fun (s : State) =>
     { s with faults := { s.faults with log := [({ suppressed := true } : FaultRec)] } }), 0#32,
     ({ suppressed := true } : FaultRec), by decide +kernel⟩,
   ⟨(live |> fun (s : State) =>
     { s with faults := { s.faults with log := List.replicate 4096 { code := 0x0101#16 } } }), 0x0102, 5, 0, 0, 0, 0,
     none, by decide +kernel⟩⟩

/-- The hypotheses of `Obligations.RegisterAccesses` are met. -/
theorem witness_RegisterAccesses :
    (∃ (s : State) (m : BitVec 7), s.regs.moduleId = some m) ∧
    (∃ (s : State), s.regs.moduleId = none) ∧
    (∃ (s : State) (off : Nat), off % 4 ≠ 0) ∧
    (∃ (s : State) (off : Nat), 0x10000 ≤ off ∧ off < 0x50000 ∧ s.power.stage = .reset) ∧
    (∃ (s : State), s.power.hkUp = true ∧ s.diesUp = true) ∧
    (∃ (s : State) (which : TimeCounter), s.power.hkUp = true ∧ s.diesUp = true) ∧
    (∃ (s : State) (v : W32), s.power.hkUp = true) ∧
    (∃ (s : State) (v : W32), s.power.hkUp = true ∧ v.getLsbD 28 = true) ∧
    (∃ (s : State) (v : W32), v.getLsbD 28 = false) ∧
    (∃ (s : State) (v : W32), s.power.hkUp = true ∧ v.getLsbD 0 = true ∧ (s.ring 0 0).st ≠ .running ∧ (s.ring 0 0).st
      ≠ .closing) ∧
    (∃ (s : State) (v : W32), v.getLsbD 0 = true ∧ (s.ring 0 0).st = .running) ∧
    (∃ (s : State) (u : State) (v : W32), s.power.hkUp = true ∧ v.getLsbD 0 = false ∧ (s.ring 0 0).st = .running ∧ u
      = s.setRing 0 0 { s.ring 0 0 with st := .closing }) ∧
    (∃ (s : State), s.courier.pasidOn = false ∧ s.regs.bootLetters.toNat % 4096 = 0 ∧ s.regs.bootReceipts.toNat %
      4096 = 0 ∧ 6 ≤ bits s.regs.bootRing.toNat 24 20 ∧ bits s.regs.bootRing.toNat 24 20 ≤ 16) ∧
    (∃ (s : State) (entry : Fin 2048) (word : Fin 4) (v : W32), s.power.hkUp = true) ∧
    (∃ (s : State) (entry : Fin 2048) (v : W32), s.power.hkUp = true) ∧
    (∃ (s : State) (off : BitVec 26) (v : W64), s.power.hkUp = true ∧ off.toNat % 4 = 0) ∧
    (∃ (s : State) (off : BitVec 26) (v : W64), s.power.hkUp = true ∧ off.toNat % 8 = 0) ∧
    (∃ (s : State) (off : BitVec 26) (wide : Bool) (v : W64), off.toNat % 4 ≠ 0) ∧
    (∃ (s : State) (v : W32), (s.ring 0 0).st ≠ .running ∧ (s.ring 0 0).st ≠ .closing) ∧
    (∃ (s : State) (v : W32), (s.ring 0 0).st = .running) :=
  ⟨⟨(live |> fun (s : State) => { s with regs := { s.regs with moduleId := some (0#7 : BitVec 7) } }), 0#7,
     by decide +kernel⟩,
   ⟨(live |> fun (s : State) => { s with regs := { s.regs with moduleId := none } }), by decide +kernel⟩,
   ⟨live, 3, by decide +kernel⟩,
   ⟨(live |> fun (s : State) => { s with power := { s.power with stage := .reset } }), 0x10000, by decide +kernel⟩,
   ⟨(live |> fun (s : State) => { s with power := { s.power with hkUp := true } }), by decide +kernel⟩,
   ⟨(live |> fun (s : State) => { s with power := { s.power with hkUp := true } }), (.todBad : TimeCounter),
     by decide +kernel⟩,
   ⟨(live |> fun (s : State) => { s with power := { s.power with hkUp := true } }), 0#32, by decide +kernel⟩,
   ⟨(live |> fun (s : State) => { s with power := { s.power with hkUp := true } }), 0x10000000#32,
     by decide +kernel⟩,
   ⟨live, 0#32, by decide +kernel⟩,
   ⟨(live |> fun (s : State) => { s with power := { s.power with hkUp := true } }), 1#32, by decide +kernel⟩,
   ⟨(live |> fun (s : State) => s.setRing 0 0 { s.ring 0 0 with st := .running }), 1#32, by decide +kernel⟩,
   ⟨((live |> fun (s : State) => { s with power := { s.power with hkUp := true } }) |> fun (s : State) => s.setRing
     0 0 { s.ring 0 0 with st := .running }), _, 0#32, by decide +kernel, by decide +kernel, by decide +kernel, rfl⟩,
   ⟨((live |> fun (s : State) => { s with courier := { s.courier with pasidOn := false } }) |> fun (s : State) =>
     { s with regs := { s.regs with bootRing := 0x00600000#32 } }), by decide +kernel⟩,
   ⟨(live |> fun (s : State) => { s with power := { s.power with hkUp := true } }), (0 : Fin 2048), (0 : Fin 4),
     0#32, by decide +kernel⟩,
   ⟨(live |> fun (s : State) => { s with power := { s.power with hkUp := true } }), (0 : Fin 2048), 0#32,
     by decide +kernel⟩,
   ⟨(live |> fun (s : State) => { s with power := { s.power with hkUp := true } }), 0#26, 0#64, by decide +kernel⟩,
   ⟨(live |> fun (s : State) => { s with power := { s.power with hkUp := true } }), 0#26, 0#64, by decide +kernel⟩,
   ⟨live, 2#26, false, 0#64, by decide +kernel⟩,
   ⟨live, 0#32, by decide +kernel⟩,
   ⟨(live |> fun (s : State) => s.setRing 0 0 { s.ring 0 0 with st := .running }), 0#32, by decide +kernel⟩⟩

/-- The hypotheses of `Obligations.ModuleLetters` are met. -/
theorem witness_ModuleLetters :
    (∃ (s : State) (l : LetterId), Claimed s l 0x0101 []) ∧
    (∃ (s : State) (u : State) (l : LetterId) (m : W32), Claimed s l 0x0102 [p4 m] ∧ m.toNat ≤ 127 ∧ (∀ i <
      s.variant.links, (s.link i).st = .off) ∧ s.regs.moduleId = none ∧ s.selfIsolated = false ∧ u =
      { s with regs := { s.regs with moduleId := some (BitVec.ofNat 7 m.toNat) } }) ∧
    (∃ (s : State) (u : State) (l : LetterId) (m : W32) (old : W32) (k : BitVec 7), Claimed s l 0x0102 [p4 m] ∧
      m.toNat ≤ 127 ∧ (∀ i < s.variant.links, (s.link i).st = .off) ∧ s.regs.moduleId = some k ∧ s.selfIsolated =
      false ∧ u = { s with regs := { s.regs with moduleId := some (BitVec.ofNat 7 m.toNat) } }) ∧
    (∃ (s : State) (l : LetterId) (low : W32) (high : W32), Claimed s l 0x0103 [p4 low, p4 high] ∧ low.toNat ≤
      high.toNat) ∧
    (∃ (s : State) (l : LetterId) (low : W32) (high : W32), Claimed s l 0x0103 [p4 low, p4 high] ∧ high.toNat <
      low.toNat) ∧
    (∃ (s : State) (l : LetterId) (a : MgmtArgs) (v : MgmtPort) (ps : List Par), v =
      { vlan := a.vlan.toNat, ipv4 := a.ipv4, ipv4Plen := a.ipv4Plen.toNat, ipv4Gw := a.ipv4Gw, ipv6 := a.ipv6, ipv6Plen := a.ipv6Plen.toNat, ipv6Gw := a.ipv6Gw }
      ∧ ps = [p4 a.port, p4 a.vlan, p4be a.ipv4, p4 a.ipv4Plen, p4be a.ipv4Gw, pBe a.ipv6.toNat 16, p4 a.ipv6Plen, pBe
      a.ipv6Gw.toNat 16] ∧ Claimed s l 0x0109 ps ∧ a.port.toNat ≤ 1 ∧ a.vlan.toNat ≤ 4094 ∧ badPlen a.ipv4.toNat
      a.ipv4Plen.toNat 8 30 = false ∧ badGateway 32 a.ipv4.toNat a.ipv4Plen.toNat a.ipv4Gw.toNat = false ∧ badPlen
      a.ipv6.toNat a.ipv6Plen.toNat 48 128 = false ∧ badGateway 128 a.ipv6.toNat a.ipv6Plen.toNat a.ipv6Gw.toNat =
      false) ∧
    (∃ (s : State) (l : LetterId) (ring : W32) (letters : W64) (receipts : W64) (depth : W32), Claimed s l 0x0104 [p4
      ring, p8 letters, p8 receipts, p4 depth] ∧ 1 ≤ ring.toNat ∧ ring.toNat ≤ 7 ∧ letters.toNat % 4096 = 0 ∧
      receipts.toNat % 4096 = 0 ∧ badDepth depth = false ∧ (s.ring l.slice ring.toNat).st ≠ .running ∧ (s.ring l.slice
      ring.toNat).st ≠ .closing) ∧
    (∃ (s : State) (l : LetterId) (ring : W32) (letters : W64) (receipts : W64) (depth : W32), Claimed s l 0x0104 [p4
      ring, p8 letters, p8 receipts, p4 depth] ∧ 1 ≤ ring.toNat ∧ ring.toNat ≤ 7 ∧ letters.toNat % 4096 = 0 ∧
      receipts.toNat % 4096 = 0 ∧ badDepth depth = false ∧ (s.ring l.slice ring.toNat).st = .running) ∧
    (∃ (s : State) (l : LetterId) (ring : W32), Claimed s l 0x0105 [p4 ring] ∧ 1 ≤ ring.toNat ∧ ring.toNat ≤ 7 ∧
      (s.ring l.slice ring.toNat).st = .running ∧ (s.ring l.slice ring.toNat).close ≠ some l) ∧
    (∃ (s : State) (l : LetterId) (events : W64) (depth : W32), Claimed s l 0x0106 [p8 events, p4 depth] ∧ badDepth
      depth = false) ∧
    (∃ (s : State) (l : LetterId), Claimed s l 0x0108 [p4 0#32] ∧ s.images.act.st ≠ .rolling ∧ s.images.act.st ≠
      .rollingBack) ∧
    (∃ (s : State) (l : LetterId), Claimed s l 0x0108 [p4 0#32] ∧ s.images.act.st = .rolling) ∧
    (∃ (s : State) (l : LetterId), Claimed s l 0x0108 [p4 1#32]) :=
  ⟨⟨(claimOn live (⟨0, 1#32⟩ : LetterId) 0x0101 []), (⟨0, 1#32⟩ : LetterId), by unfold Claimed; decide +kernel⟩,
   ⟨(claimOn (live |> fun (s : State) => { s with regs := { s.regs with moduleId := none } }) (⟨0, 1#32⟩ : LetterId)
     0x0102 [p4 (127#32 : W32)]), _, (⟨0, 1#32⟩ : LetterId), 127#32, by unfold Claimed; decide +kernel,
     by decide +kernel, by decide +kernel, by decide +kernel, by decide +kernel, rfl⟩,
   ⟨(claimOn (live |> fun (s : State) => { s with regs := { s.regs with moduleId := some (0#7 : BitVec 7) } }) (⟨0,
     1#32⟩ : LetterId) 0x0102 [p4 (127#32 : W32)]), _, (⟨0, 1#32⟩ : LetterId), 127#32, 0#32, 0#7,
     by unfold Claimed; decide +kernel, by decide +kernel, by decide +kernel, by decide +kernel, by decide +kernel,
     rfl⟩,
   ⟨(claimOn live (⟨0, 1#32⟩ : LetterId) 0x0103 [p4 (0#32 : W32), p4 (0#32 : W32)]), (⟨0, 1#32⟩ : LetterId), 0#32,
     0#32, by unfold Claimed; decide +kernel⟩,
   ⟨(claimOn live (⟨0, 1#32⟩ : LetterId) 0x0103 [p4 (1#32 : W32), p4 (0#32 : W32)]), (⟨0, 1#32⟩ : LetterId), 1#32,
     0#32, by unfold Claimed; decide +kernel⟩,
   ⟨(live |> fun (s : State) => claimOn s (⟨0, 1#32⟩ : LetterId) 0x0109 [p4
     ({ port := 1, vlan := 4094, ipv4 := 0x0A000001, ipv4Plen := 30, ipv4Gw := 0x0A000002, ipv6 := 0, ipv6Plen := 0, ipv6Gw := 0 }
     : MgmtArgs).port, p4
     ({ port := 1, vlan := 4094, ipv4 := 0x0A000001, ipv4Plen := 30, ipv4Gw := 0x0A000002, ipv6 := 0, ipv6Plen := 0, ipv6Gw := 0 }
     : MgmtArgs).vlan, p4be
     ({ port := 1, vlan := 4094, ipv4 := 0x0A000001, ipv4Plen := 30, ipv4Gw := 0x0A000002, ipv6 := 0, ipv6Plen := 0, ipv6Gw := 0 }
     : MgmtArgs).ipv4, p4
     ({ port := 1, vlan := 4094, ipv4 := 0x0A000001, ipv4Plen := 30, ipv4Gw := 0x0A000002, ipv6 := 0, ipv6Plen := 0, ipv6Gw := 0 }
     : MgmtArgs).ipv4Plen, p4be
     ({ port := 1, vlan := 4094, ipv4 := 0x0A000001, ipv4Plen := 30, ipv4Gw := 0x0A000002, ipv6 := 0, ipv6Plen := 0, ipv6Gw := 0 }
     : MgmtArgs).ipv4Gw, pBe
     ({ port := 1, vlan := 4094, ipv4 := 0x0A000001, ipv4Plen := 30, ipv4Gw := 0x0A000002, ipv6 := 0, ipv6Plen := 0, ipv6Gw := 0 }
     : MgmtArgs).ipv6.toNat 16, p4
     ({ port := 1, vlan := 4094, ipv4 := 0x0A000001, ipv4Plen := 30, ipv4Gw := 0x0A000002, ipv6 := 0, ipv6Plen := 0, ipv6Gw := 0 }
     : MgmtArgs).ipv6Plen, pBe
     ({ port := 1, vlan := 4094, ipv4 := 0x0A000001, ipv4Plen := 30, ipv4Gw := 0x0A000002, ipv6 := 0, ipv6Plen := 0, ipv6Gw := 0 }
     : MgmtArgs).ipv6Gw.toNat 16]), (⟨0, 1#32⟩ : LetterId),
     ({ port := 1, vlan := 4094, ipv4 := 0x0A000001, ipv4Plen := 30, ipv4Gw := 0x0A000002, ipv6 := 0, ipv6Plen := 0, ipv6Gw := 0 }
     : MgmtArgs), _, _, rfl, rfl, by unfold Claimed; decide +kernel⟩,
   ⟨(claimOn live (⟨0, 1#32⟩ : LetterId) 0x0104 [p4 (7#32 : W32), p8 (0#64 : W64), p8 (0#64 : W64), p4 (65536#32 :
     W32)]), (⟨0, 1#32⟩ : LetterId), 7#32, 0#64, 0#64, 65536#32, by unfold Claimed; decide +kernel⟩,
   ⟨(claimOn (live |> fun (s : State) => s.setRing (⟨0, 1#32⟩ : LetterId).slice (1#32 : W32).toNat
     { s.ring (⟨0, 1#32⟩ : LetterId).slice (1#32 : W32).toNat with st := .running }) (⟨0, 1#32⟩ : LetterId) 0x0104 [p4
     (1#32 : W32), p8 (0#64 : W64), p8 (0#64 : W64), p4 (64#32 : W32)]), (⟨0, 1#32⟩ : LetterId), 1#32, 0#64, 0#64,
     64#32, by unfold Claimed; decide +kernel⟩,
   ⟨(claimOn (live |> fun (s : State) => s.setRing (⟨0, 1#32⟩ : LetterId).slice (1#32 : W32).toNat
     { s.ring (⟨0, 1#32⟩ : LetterId).slice (1#32 : W32).toNat with st := .running }) (⟨0, 1#32⟩ : LetterId) 0x0105 [p4
     (1#32 : W32)]), (⟨0, 1#32⟩ : LetterId), 1#32, by unfold Claimed; decide +kernel⟩,
   ⟨(claimOn live (⟨0, 1#32⟩ : LetterId) 0x0106 [p8 (0#64 : W64), p4 (64#32 : W32)]), (⟨0, 1#32⟩ : LetterId), 0#64,
     64#32, by unfold Claimed; decide +kernel⟩,
   ⟨(claimOn live (⟨0, 1#32⟩ : LetterId) 0x0108 [p4 0#32]), (⟨0, 1#32⟩ : LetterId),
     by unfold Claimed; decide +kernel⟩,
   ⟨(claimOn (live |> fun (s : State) =>
     { s with images := { s.images with act := { s.images.act with st := .rolling } } }) (⟨0, 1#32⟩ : LetterId) 0x0108
     [p4 0#32]), (⟨0, 1#32⟩ : LetterId), by unfold Claimed; decide +kernel⟩,
   ⟨(claimOn live (⟨0, 1#32⟩ : LetterId) 0x0108 [p4 1#32]), (⟨0, 1#32⟩ : LetterId),
     by unfold Claimed; decide +kernel⟩⟩

end Sys2Proof.Tests
end

namespace Sys2Proof.Machine

/-! # Every command answers, and keeps the queue and the variant -/

section
variable {s : State}

/-! ## Units that the variant lacks (00 R6, R7) -/

/-- A next state, or the fault of an absent unit on a variant that has not every unit. -/
def Answers (s : State) (o : Host.Outcome State Fault Refusal) : Prop :=
  (∃ t, o = .next t) ∨ (o = .fault .absentUnit ∧ s.variant ≠ .le3840)

theorem answers_next (t : State) : Answers s (.next t) := .inl ⟨t, rfl⟩

/-- A command guarded by the presence of its unit. -/
theorem answers_guarded {c : Prop} [Decidable c] {t : State} (h : s.variant = .le3840 → c) :
    Answers s (if c then .next t else .fault .absentUnit) := by
  by_cases hc : c
  · rw [if_pos hc]
    exact answers_next t
  · rw [if_neg hc]
    exact .inr ⟨rfl, fun full => hc (h full)⟩

theorem answers_onUnit {b : Bool} {t : State} (h : s.variant = .le3840 → b = true) : Answers s (onUnit b t) :=
  answers_guarded h

theorem answers_onBench (bench : Fin 32) (t : State) :
    Answers s (if bench.val < s.variant.benches then .next t else .fault .absentUnit) :=
  answers_guarded fun full => by rw [full]; exact bench.isLt

theorem answers_onPort (port : Fin 192) (f : State → State) : Answers s (onPort s port f) :=
  answers_guarded fun full => by rw [State.hasPort, full]; exact decide_eq_true port.isLt

theorem answers_onLink (link : Fin 256) (f : State → State) : Answers s (onLink s link f) :=
  answers_guarded fun full => by rw [State.hasLink, full]; exact decide_eq_true link.isLt

theorem answers_onEnvelope (f : State → State) : Answers s (onEnvelope s f) :=
  answers_guarded fun full => by rw [full]; rfl

/-! ## Every unit is present on the LE-3840 -/

theorem lane_present (port : Fin 192) (full : s.variant = .le3840) : decide (port.val < s.variant.lanes) = true := by
  rw [full]; exact decide_eq_true port.isLt

theorem ptpPort_present (p : Nat) (full : s.variant = .le3840) :
    (decide (192 ≤ p) || decide (p < s.variant.lanes)) = true := by
  rw [full, Bool.or_eq_true, decide_eq_true_eq, decide_eq_true_eq]
  exact (Nat.lt_or_ge p 192).symm

theorem logical_present (bank : Fin 32) (full : s.variant = .le3840) : decide (bank.val < s.variant.logical) = true := by
  rw [full]; exact decide_eq_true bank.isLt

theorem bank_present (phys : Fin 33) (full : s.variant = .le3840) : decide (phys.val < s.variant.banks) = true := by
  rw [full]; exact decide_eq_true phys.isLt

theorem stack_present (stack : Fin 8) (full : s.variant = .le3840) : decide (stack.val < s.variant.hbmStacks) = true := by
  rw [full]; exact decide_eq_true stack.isLt

theorem pch_present (pchan : Fin 512) (full : s.variant = .le3840) :
    decide (pchan.val < 64 * s.variant.hbmStacks) = true := by
  rw [full]; exact decide_eq_true pchan.isLt

theorem domain_present (domain : Fin 148) (full : s.variant = .le3840) : s.variant.hasDomain domain = true := by
  rw [full]
  revert domain
  decide

end

/-- Only the commands that name a unit can find it absent; every other answers its next state. -/
theorem answers_exec (c : Instr) (s : State) : Answers s (exec c s) := by
  cases c with
  | nanowordIssue => apply answers_onBench
  | lookupResult => apply answers_onBench
  | localLoadLand => apply answers_onBench
  | slotRetire => apply answers_onBench
  | controlStoreError => apply answers_onBench
  | frameReceive => apply answers_onPort
  | frameTransmit => apply answers_onPort
  | pauseReceive => apply answers_onPort
  | pauseExpiry => apply answers_onPort
  | trainingComplete => apply answers_onPort
  | trainingTimeout => apply answers_onPort
  | alignmentAchieved => apply answers_onPort
  | portFault => apply answers_onPort
  | portFaultClear => apply answers_onPort
  | downDebounceExpiry => apply answers_onPort
  | upHoldoffExpiry => apply answers_onPort
  | fecDegradeTimer => apply answers_onPort
  | portDisableComplete => apply answers_onPort
  | schedulerSelect => apply answers_onPort
  | arbiterGrant => apply answers_onPort
  | gateEntryAdvance => apply answers_onPort
  | gateListSwitch => apply answers_onPort
  | holdExpiry => apply answers_onPort
  | portFlushComplete => apply answers_onPort
  | flexeOhFrame => apply answers_onEnvelope
  | flexeCaReceive => apply answers_onEnvelope
  | calendarSwitch => apply answers_onEnvelope
  | flexeDeskewFail => apply answers_onEnvelope
  | framePatternCheck => apply answers_onEnvelope
  | lofDeclare => apply answers_onEnvelope
  | lofClear => apply answers_onEnvelope
  | otnDefect => apply answers_onEnvelope
  | gmpJcReceive => apply answers_onEnvelope
  | gmpMultiframeTx => apply answers_onEnvelope
  | tsPageSwitch => apply answers_onEnvelope
  | ohRxFrame => apply answers_onEnvelope
  | ohRecordDeliver => apply answers_onEnvelope
  | ohTxFrame => apply answers_onEnvelope
  | ohTxWrite => apply answers_onEnvelope
  | envelopeDisableBoundary => apply answers_onEnvelope
  | envelopeLanesIdle => apply answers_onEnvelope
  | flexeDeskewRecovery => apply answers_onEnvelope
  | postcardReceive => apply answers_onLink
  | cellSlotTransmit => apply answers_onLink
  | cellReceive => apply answers_onLink
  | reachReceive => apply answers_onLink
  | requestReceive => apply answers_onLink
  | grantReceive => apply answers_onLink
  | lossNoticeReceive => apply answers_onLink
  | linkAligned => apply answers_onLink
  | linkDown => apply answers_onLink
  | reachTimeout => apply answers_onLink
  | holdMaxExpiry => apply answers_onLink
  | linkRetry => apply answers_onLink
  | linkDisableComplete => apply answers_onLink
  | identSend => apply answers_onLink
  | ptpEventMessage => apply answers_onUnit (ptpPort_present _)
  | esmcPdu port => apply answers_onUnit (lane_present port)
  | aclUpdateWindow bank => apply answers_onUnit (logical_present bank)
  | aclRowRepair bank => apply answers_onUnit (logical_present bank)
  | aclBankFault phys => apply answers_onUnit (bank_present phys)
  | hbmCommandSlot pchan => apply answers_onUnit (pch_present pchan)
  | panicReadExpiry pchan => apply answers_onUnit (pch_present pchan)
  | refreshDue pchan => apply answers_onUnit (pch_present pchan)
  | hbmTraining stack => apply answers_onUnit (stack_present stack)
  | retrainFence stack => apply answers_onUnit (stack_present stack)
  | retrainWindowStart stack => apply answers_onUnit (stack_present stack)
  | retrainWindowEnd stack => apply answers_onUnit (stack_present stack)
  | selfRefreshEntry stack => apply answers_onUnit (stack_present stack)
  | selfRefreshExit stack => apply answers_onUnit (stack_present stack)
  | pchDrained pchan => apply answers_onUnit (pch_present pchan)
  | stackDrainComplete stack => apply answers_onUnit (stack_present stack)
  | domainFailure domain => apply answers_onUnit (domain_present domain)
  | _ => exact answers_next _

/-- Settles O5: the only guard that a command has is the presence of its unit, and the LE-3840 has every unit. -/
theorem everyCommandAnswers : Obligations.EveryCommandAnswers := by
  refine ⟨fun c s => ?_, fun c s full => ?_⟩
  · rcases answers_exec c s with next | ⟨absent, -⟩
    · exact .inl next
    · exact .inr absent
  · rcases answers_exec c s with next | ⟨-, lacks⟩
    · exact next
    · exact absurd full lacks

/-! ## The queue and the variant -/

/-- The next state of a command has the queue and the variant of the state before, and the invariant where that has it. -/
theorem soundOutcome_exec (c : Instr) (s : State) : SoundOutcome s (exec c s) := by
  cases c with
  | registerWrite => exact soundOutcome_of_keeps (keeps_execRegisterWrite _ _ _ s)
  | timNowLatch => exact soundOutcome_of_keeps (keeps_execTimNowLatch _ s)
  | timeCounterRead => exact soundOutcome_of_keeps (keeps_execTimeCounterRead _ s)
  | resetCauseClear => exact soundOutcome_of_keeps (keeps_execResetCauseClear _ s)
  | logFullClear => exact soundOutcome_of_keeps (keeps_execLogFullClear _ s)
  | msixTableWrite => exact soundOutcome_of_keeps (keeps_execMsixTableWrite _ _ _ s)
  | bootRingEnable => exact soundOutcome_of_keeps (keeps_execBootRingEnable _ s)
  | bootRingDisable => exact soundOutcome_of_keeps (keeps_execBootRingDisable _ s)
  | letterDoorbell => exact soundOutcome_of_keeps (keeps_execLetterDoorbell _ _ _ s)
  | receiptDoorbell => exact soundOutcome_of_keeps (keeps_execReceiptDoorbell _ _ _ s)
  | eventDoorbell => exact soundOutcome_of_keeps (keeps_execEventDoorbell _ _ s)
  | placeDoorbell => exact soundOutcome_of_keeps (keeps_execPlaceDoorbell _ _ s)
  | consumeDoorbell => exact soundOutcome_of_keeps (keeps_execConsumeDoorbell _ _ s)
  | letterTake => exact soundOutcome_of_keeps (keeps_execLetterTake _ _ _ s)
  | effectStep => exact soundOutcome_of_keeps (keeps_execEffectStep _ _ _ s)
  | receiptWrite => exact sound_execReceiptWrite _ _ _ s
  | receiptDeliveryConfirm => exact soundOutcome_of_keeps (keeps_execReceiptDeliveryConfirm _ _ s)
  | eventWrite => exact soundOutcome_of_keeps (keeps_execEventWrite _ _ s)
  | inbandDatagram => exact soundOutcome_of_keeps (keeps_execInbandDatagram _ _ s)
  | inbandReplySend => exact sound_execInbandReplySend _ s
  | arpRequest => exact soundOutcome_of_keeps (keeps_execArpRequest _ _ _ _ s)
  | neighbourSolicitation => exact soundOutcome_of_keeps (keeps_execNeighbourSolicitation _ _ _ _ s)
  | echoRequest => exact soundOutcome_of_keeps (keeps_execEchoRequest _ _ _ _ s)
  | addressResolved => exact sound_execAddressResolved _ _ _ _ s
  | mgmtFrameOther port => exact soundOutcome_of_keeps (keeps_execMgmtFrameOther port s)
  | resolutionRetry => exact soundOutcome_of_keeps (keeps_execResolutionRetry _ _ _ s)
  | neighbourExpiry => exact soundOutcome_of_keeps (keeps_execNeighbourExpiry _ _ _ s)
  | moduleIdentify => exact soundOutcome_of_keeps (keeps_execModuleIdentify _ s)
  | moduleSetId => exact soundOutcome_of_keeps (keeps_execModuleSetId _ _ s)
  | moduleSetCompat => exact soundOutcome_of_keeps (keeps_execModuleSetCompat _ _ _ s)
  | moduleOpenRing => exact soundOutcome_of_keeps (keeps_execModuleOpenRing _ _ _ _ _ s)
  | moduleCloseRing => exact soundOutcome_of_keeps (keeps_execModuleCloseRing _ _ s)
  | moduleSetEventRing => exact soundOutcome_of_keeps (keeps_execModuleSetEventRing _ _ _ s)
  | moduleSaveSettings => exact soundOutcome_of_keeps (keeps_execModuleSaveSettings _ s)
  | settingsSaveComplete => exact soundOutcome_of_keeps (keeps_execSettingsSaveComplete _ s)
  | moduleReset => exact soundOutcome_of_keeps (keeps_execModuleReset _ _ s)
  | moduleSetMgmt => exact soundOutcome_of_keeps (keeps_execModuleSetMgmt _ _ s)
  | timeSetSource => exact soundOutcome_of_keeps (keeps_execTimeSetSource _ _ _ _ s)
  | timeAdjust => exact soundOutcome_of_keeps (keeps_execTimeAdjust _ _ _ s)
  | timeSetQuality => exact soundOutcome_of_keeps (keeps_execTimeSetQuality _ _ _ s)
  | timeSetHoldover => exact soundOutcome_of_keeps (keeps_execTimeSetHoldover _ _ s)
  | timeSetPtp => exact soundOutcome_of_keeps (keeps_execTimeSetPtp _ _ _ _ _ s)
  | timeRead => exact soundOutcome_of_keeps (keeps_execTimeRead _ s)
  | epochOpen => exact soundOutcome_of_keeps (keeps_execEpochOpen _ _ s)
  | epochCommit => exact soundOutcome_of_keeps (keeps_execEpochCommit _ _ _ _ _ s)
  | epochAbort => exact soundOutcome_of_keeps (keeps_execEpochAbort _ _ s)
  | epochCancel => exact soundOutcome_of_keeps (keeps_execEpochCancel _ _ s)
  | epochStatus => exact soundOutcome_of_keeps (keeps_execEpochStatus _ s)
  | epochSwitch => exact soundOutcome_of_keeps (keeps_execEpochSwitch s)
  | deferredSwitch => exact soundOutcome_of_keeps (keeps_execDeferredSwitch _ s)
  | epochRelease => exact soundOutcome_of_keeps (keeps_execEpochRelease s)
  | subepochSwitch => exact soundOutcome_of_keeps (keeps_execSubepochSwitch s)
  | sequencedListFetch => exact soundOutcome_of_keeps (keeps_execSequencedListFetch _ s)
  | postcardSend => exact soundOutcome_of_keeps (keeps_execPostcardSend s)
  | postcardReceive => exact soundOutcome_of_keeps (keeps_execPostcardReceive _ _ _ s)
  | peerAbsent => exact soundOutcome_of_keeps (keeps_execPeerAbsent _ s)
  | reachMismatchTimer => exact soundOutcome_of_keeps (keeps_execReachMismatchTimer _ s)
  | ppsInEdge => exact soundOutcome_of_keeps (keeps_execPpsInEdge s)
  | todMessageRx => exact soundOutcome_of_keeps (keeps_execTodMessageRx _ s)
  | todMissingExpiry => exact soundOutcome_of_keeps (keeps_execTodMissingExpiry s)
  | sourceWtrExpiry => exact soundOutcome_of_keeps (keeps_execSourceWtrExpiry _ s)
  | ptpEventMessage _ _ _ correction => exact soundOutcome_of_keeps (keeps_execPtpEventMessage _ _ _ correction s)
  | servoOffsetMeasure => exact soundOutcome_of_keeps (keeps_execServoOffsetMeasure _ _ s)
  | servoLockTimer => exact soundOutcome_of_keeps (keeps_execServoLockTimer s)
  | esmcPdu => exact soundOutcome_of_keeps (keeps_execEsmcPdu _ _ s)
  | ppsOutSecond => exact soundOutcome_of_keeps (keeps_execPpsOutSecond s)
  | todTransmit => exact soundOutcome_of_keeps (keeps_execTodTransmit s)
  | flitReceive => exact soundOutcome_of_keeps (keeps_execFlitReceive _ _ _ s)
  | d2dLockLoss => exact soundOutcome_of_keeps (keeps_execD2dLockLoss _ s)
  | d2dRetrain => exact soundOutcome_of_keeps (keeps_execD2dRetrain _ _ s)
  | frameReceive => exact soundOutcome_of_keeps (keeps_execFrameReceive _ _ _ _ _ s)
  | frameTransmit => exact soundOutcome_of_keeps (keeps_execFrameTransmit _ s)
  | pauseReceive => exact soundOutcome_of_keeps (keeps_execPauseReceive _ _ _ _ s)
  | pauseExpiry => exact soundOutcome_of_keeps (keeps_execPauseExpiry _ _ s)
  | trainingComplete => exact soundOutcome_of_keeps (keeps_execTrainingComplete _ s)
  | trainingTimeout => exact soundOutcome_of_keeps (keeps_execTrainingTimeout _ s)
  | alignmentAchieved => exact soundOutcome_of_keeps (keeps_execAlignmentAchieved _ s)
  | portFault => exact soundOutcome_of_keeps (keeps_execPortFault _ _ s)
  | portFaultClear => exact soundOutcome_of_keeps (keeps_execPortFaultClear _ _ s)
  | downDebounceExpiry => exact soundOutcome_of_keeps (keeps_execDownDebounceExpiry _ s)
  | upHoldoffExpiry => exact soundOutcome_of_keeps (keeps_execUpHoldoffExpiry _ s)
  | fecDegradeTimer => exact soundOutcome_of_keeps (keeps_execFecDegradeTimer _ _ s)
  | portDisableComplete => exact soundOutcome_of_keeps (keeps_execPortDisableComplete _ s)
  | flexeOhFrame => exact soundOutcome_of_keeps (keeps_execFlexeOhFrame _ _ _ _ _ s)
  | flexeCaReceive => exact soundOutcome_of_keeps (keeps_execFlexeCaReceive _ _ s)
  | calendarSwitch => exact soundOutcome_of_keeps (keeps_execCalendarSwitch _ _ s)
  | flexeDeskewFail => exact soundOutcome_of_keeps (keeps_execFlexeDeskewFail _ _ s)
  | framePatternCheck => exact soundOutcome_of_keeps (keeps_execFramePatternCheck _ _ _ _ _ s)
  | lofDeclare => exact soundOutcome_of_keeps (keeps_execLofDeclare _ _ _ s)
  | lofClear => exact soundOutcome_of_keeps (keeps_execLofClear _ _ _ s)
  | otnDefect => exact soundOutcome_of_keeps (keeps_execOtnDefect _ _ _ _ s)
  | gmpJcReceive => exact soundOutcome_of_keeps (keeps_execGmpJcReceive _ _ _ _ s)
  | gmpMultiframeTx => exact soundOutcome_of_keeps (keeps_execGmpMultiframeTx _ _ _ s)
  | tsPageSwitch => exact soundOutcome_of_keeps (keeps_execTsPageSwitch _ s)
  | ohRxFrame => exact soundOutcome_of_keeps (keeps_execOhRxFrame _ _ s)
  | ohRecordDeliver => exact soundOutcome_of_keeps (keeps_execOhRecordDeliver _ s)
  | ohTxFrame => exact soundOutcome_of_keeps (keeps_execOhTxFrame _ s)
  | ohTxWrite => exact soundOutcome_of_keeps (keeps_execOhTxWrite _ _ s)
  | envelopeDisableBoundary => exact soundOutcome_of_keeps (keeps_execEnvelopeDisableBoundary _ _ _ s)
  | portConfigure => exact soundOutcome_of_keeps (keeps_execPortConfigure _ _ s)
  | portEnable => exact soundOutcome_of_keeps (keeps_execPortEnable _ _ s)
  | portDisable => exact soundOutcome_of_keeps (keeps_execPortDisable _ _ s)
  | portSetLaneMap => exact soundOutcome_of_keeps (keeps_execPortSetLaneMap _ _ _ _ _ s)
  | portSetDelay => exact soundOutcome_of_keeps (keeps_execPortSetDelay _ _ _ _ s)
  | portSetTxEq => exact soundOutcome_of_keeps (keeps_execPortSetTxEq _ _ _ s)
  | portStatus => exact soundOutcome_of_keeps (keeps_execPortStatus _ _ s)
  | envelopeCreateFlexe => exact soundOutcome_of_keeps (keeps_execEnvelopeCreateFlexe _ _ _ _ _ _ s)
  | envelopeCreateOtu => exact soundOutcome_of_keeps (keeps_execEnvelopeCreateOtu _ _ s)
  | envelopeDeleteGroup => exact soundOutcome_of_keeps (keeps_execEnvelopeDeleteGroup _ _ _ _ s)
  | envelopeEnableGroup => exact soundOutcome_of_keeps (keeps_execEnvelopeEnableGroup _ _ _ _ s)
  | envelopeDisableGroup => exact soundOutcome_of_keeps (keeps_execEnvelopeDisableGroup _ _ _ _ s)
  | envelopeWriteCalendar => exact soundOutcome_of_keeps (keeps_execEnvelopeWriteCalendar _ _ _ _ s)
  | envelopeScheduleCalendar => exact soundOutcome_of_keeps (keeps_execEnvelopeScheduleCalendar _ _ _ _ s)
  | envelopeCancelCalendar => exact soundOutcome_of_keeps (keeps_execEnvelopeCancelCalendar _ _ _ s)
  | envelopeWriteTsPage => exact soundOutcome_of_keeps (keeps_execEnvelopeWriteTsPage _ _ _ s)
  | envelopeScheduleTsPage => exact soundOutcome_of_keeps (keeps_execEnvelopeScheduleTsPage _ _ _ s)
  | envelopeCancelTsPage => exact soundOutcome_of_keeps (keeps_execEnvelopeCancelTsPage _ _ s)
  | envelopeOhChannel => exact soundOutcome_of_keeps (keeps_execEnvelopeOhChannel _ _ _ _ _ s)
  | headerWindowSend => exact soundOutcome_of_keeps (keeps_execHeaderWindowSend s)
  | intakeDispatch => exact soundOutcome_of_keeps (keeps_execIntakeDispatch s)
  | nanowordIssue => exact sound_execNanowordIssue _ _ _ s
  | lookupResult => exact soundOutcome_of_keeps (keeps_execLookupResult _ _ _ _ _ _ _ _ s)
  | localLoadLand => exact sound_execLocalLoadLand _ _ _ s
  | slotRetire => exact soundOutcome_of_keeps (keeps_execSlotRetire _ _ _ _ s)
  | passHandoff => exact soundOutcome_of_keeps (keeps_execPassHandoff _ _ s)
  | benchSwitch => exact soundOutcome_of_keeps (keeps_execBenchSwitch _ s)
  | benchDrainComplete => exact soundOutcome_of_keeps (keeps_execBenchDrainComplete _ s)
  | benchReloadCheck => exact soundOutcome_of_keeps (keeps_execBenchReloadCheck _ _ s)
  | controlStoreError => exact sound_execControlStoreError _ _ _ s
  | storeSetMode => exact soundOutcome_of_keeps (keeps_execStoreSetMode _ _ s)
  | storeWriteMicro => exact soundOutcome_of_keeps (keeps_execStoreWriteMicro _ _ _ _ s)
  | storeWriteNano => exact soundOutcome_of_keeps (keeps_execStoreWriteNano _ _ _ _ s)
  | storeWritePatch => exact soundOutcome_of_keeps (keeps_execStoreWritePatch _ _ _ _ _ _ s)
  | storeStageImage => exact soundOutcome_of_keeps (keeps_execStoreStageImage _ _ _ s)
  | storeSeal => exact soundOutcome_of_keeps (keeps_execStoreSeal _ _ _ s)
  | storeScheduleLoad => exact soundOutcome_of_keeps (keeps_execStoreScheduleLoad _ _ _ _ s)
  | storeCancelLoad => exact soundOutcome_of_keeps (keeps_execStoreCancelLoad _ _ s)
  | storeEnableBench => exact soundOutcome_of_keeps (keeps_execStoreEnableBench _ _ s)
  | storeDisableBench => exact soundOutcome_of_keeps (keeps_execStoreDisableBench _ _ s)
  | storeSetBudget => exact soundOutcome_of_keeps (keeps_execStoreSetBudget _ _ s)
  | storeWriteLocal => exact sound_execStoreWriteLocal _ _ _ _ _ s
  | routeAdd => exact soundOutcome_of_keeps (keeps_execRouteAdd _ _ s)
  | routeDelete => exact soundOutcome_of_keeps (keeps_execRouteDelete _ _ _ _ _ s)
  | routeBlock => exact soundOutcome_of_keeps (keeps_execRouteBlock _ _ _ s)
  | tableExactAdd => exact soundOutcome_of_keeps (keeps_execTableExactAdd _ _ _ _ s)
  | tableExactDelete => exact soundOutcome_of_keeps (keeps_execTableExactDelete _ _ _ s)
  | tableNhWrite => exact soundOutcome_of_keeps (keeps_execTableNhWrite _ _ _ _ _ _ s)
  | tableNhDelete => exact soundOutcome_of_keeps (keeps_execTableNhDelete _ _ s)
  | tableEcmpWrite => exact soundOutcome_of_keeps (keeps_execTableEcmpWrite _ _ _ _ s)
  | tableEcmpDelete => exact soundOutcome_of_keeps (keeps_execTableEcmpDelete _ _ s)
  | tableSetHash => exact soundOutcome_of_keeps (keeps_execTableSetHash _ _ _ _ s)
  | tableBlock => exact soundOutcome_of_keeps (keeps_execTableBlock _ _ _ s)
  | aclWrite => exact soundOutcome_of_keeps (keeps_execAclWrite _ _ _ _ _ _ s)
  | aclDelete => exact soundOutcome_of_keeps (keeps_execAclDelete _ _ _ s)
  | aclSetProfile => exact soundOutcome_of_keeps (keeps_execAclSetProfile _ _ s)
  | aclSetSelect => exact soundOutcome_of_keeps (keeps_execAclSetSelect _ _ _ s)
  | aclSetBankWidth => exact soundOutcome_of_keeps (keeps_execAclSetBankWidth _ _ _ s)
  | aclSetSelftest => exact soundOutcome_of_keeps (keeps_execAclSetSelftest _ _ s)
  | aclBlock => exact soundOutcome_of_keeps (keeps_execAclBlock _ _ _ s)
  | aclUpdateWindow => exact soundOutcome_of_keeps (keeps_execAclUpdateWindow _ s)
  | aclSelftestStart => exact soundOutcome_of_keeps (keeps_execAclSelftestStart s)
  | aclMigrationComplete => exact soundOutcome_of_keeps (keeps_execAclMigrationComplete s)
  | aclBankTestEnd => exact soundOutcome_of_keeps (keeps_execAclBankTestEnd _ _ s)
  | aclRowRepair => exact soundOutcome_of_keeps (keeps_execAclRowRepair _ _ s)
  | aclBankFault => exact soundOutcome_of_keeps (keeps_execAclBankFault _ s)
  | aclSpareWritten => exact soundOutcome_of_keeps (keeps_execAclSpareWritten s)
  | ingressAdmission => exact soundOutcome_of_keeps (keeps_execIngressAdmission _ _ s)
  | bufferFree => exact soundOutcome_of_keeps (keeps_execBufferFree _ _ s)
  | dlqDeliver => exact soundOutcome_of_keeps (keeps_execDlqDeliver _ _ s)
  | ctIngressStart => exact soundOutcome_of_keeps (keeps_execCtIngressStart _ _ s)
  | ctIngressTimeout => exact soundOutcome_of_keeps (keeps_execCtIngressTimeout _ s)
  | ctEgressStart => exact soundOutcome_of_keeps (keeps_execCtEgressStart _ s)
  | ctEgressAbort => exact soundOutcome_of_keeps (keeps_execCtEgressAbort _ _ s)
  | bufferSetPools => exact soundOutcome_of_keeps (keeps_execBufferSetPools _ _ _ _ _ s)
  | bufferSetClass => exact soundOutcome_of_keeps (keeps_execBufferSetClass _ _ _ _ _ _ s)
  | bufferSetAdmission => exact soundOutcome_of_keeps (keeps_execBufferSetAdmission _ _ s)
  | bufferSetDlq => exact soundOutcome_of_keeps (keeps_execBufferSetDlq _ _ s)
  | bufferSetCutThrough => exact soundOutcome_of_keeps (keeps_execBufferSetCutThrough _ _ _ _ _ _ s)
  | schedulerSelect => exact soundOutcome_of_keeps (keeps_execSchedulerSelect _ s)
  | windowReturn => exact soundOutcome_of_keeps (keeps_execWindowReturn _ s)
  | arbiterGrant => exact soundOutcome_of_keeps (keeps_execArbiterGrant _ s)
  | voqSend => exact soundOutcome_of_keeps (keeps_execVoqSend _ _ s)
  | gateEntryAdvance => exact soundOutcome_of_keeps (keeps_execGateEntryAdvance _ s)
  | gateListSwitch => exact soundOutcome_of_keeps (keeps_execGateListSwitch _ s)
  | holdExpiry => exact soundOutcome_of_keeps (keeps_execHoldExpiry _ s)
  | portFlushComplete => exact soundOutcome_of_keeps (keeps_execPortFlushComplete _ s)
  | voqAgeVisit => exact soundOutcome_of_keeps (keeps_execVoqAgeVisit _ s)
  | queueFlushComplete => exact soundOutcome_of_keeps (keeps_execQueueFlushComplete _ s)
  | queueConfigure => exact soundOutcome_of_keeps (keeps_execQueueConfigure _ _ s)
  | queueSetNode => exact soundOutcome_of_keeps (keeps_execQueueSetNode _ _ s)
  | queueSetPort => exact soundOutcome_of_keeps (keeps_execQueueSetPort _ _ s)
  | queueSetLengthProfile => exact soundOutcome_of_keeps (keeps_execQueueSetLengthProfile _ _ _ _ s)
  | queueDelete => exact soundOutcome_of_keeps (keeps_execQueueDelete _ _ _ s)
  | queueFlush => exact soundOutcome_of_keeps (keeps_execQueueFlush _ _ s)
  | queueWriteGates => exact soundOutcome_of_keeps (keeps_execQueueWriteGates _ _ _ s)
  | queueScheduleGates => exact soundOutcome_of_keeps (keeps_execQueueScheduleGates _ _ _ s)
  | queueCancelGates => exact soundOutcome_of_keeps (keeps_execQueueCancelGates _ _ s)
  | policerConfigure => exact soundOutcome_of_keeps (keeps_execPolicerConfigure _ _ s)
  | policerDelete => exact soundOutcome_of_keeps (keeps_execPolicerDelete _ _ s)
  | cellSlotTransmit => exact soundOutcome_of_keeps (keeps_execCellSlotTransmit _ s)
  | packWaitExpiry => exact soundOutcome_of_keeps (keeps_execPackWaitExpiry _ s)
  | cellReceive => exact soundOutcome_of_keeps (keeps_execCellReceive _ _ _ _ s)
  | reachReceive => exact soundOutcome_of_keeps (keeps_execReachReceive _ _ _ s)
  | requestReceive => exact soundOutcome_of_keeps (keeps_execRequestReceive _ _ _ _ s)
  | grantReceive => exact soundOutcome_of_keeps (keeps_execGrantReceive _ _ _ _ s)
  | lossNoticeReceive => exact soundOutcome_of_keeps (keeps_execLossNoticeReceive _ _ _ _ s)
  | linkAligned => exact soundOutcome_of_keeps (keeps_execLinkAligned _ s)
  | linkDown => exact soundOutcome_of_keeps (keeps_execLinkDown _ _ s)
  | reachTimeout => exact soundOutcome_of_keeps (keeps_execReachTimeout _ s)
  | holdMaxExpiry => exact soundOutcome_of_keeps (keeps_execHoldMaxExpiry _ s)
  | linkRetry => exact soundOutcome_of_keeps (keeps_execLinkRetry _ s)
  | linkDisableComplete => exact soundOutcome_of_keeps (keeps_execLinkDisableComplete _ s)
  | identSend => exact soundOutcome_of_keeps (keeps_execIdentSend _ s)
  | holeLostExpiry => exact soundOutcome_of_keeps (keeps_execHoleLostExpiry _ _ s)
  | reassemblyTimeout => exact soundOutcome_of_keeps (keeps_execReassemblyTimeout _ _ s)
  | creditWatchdog => exact soundOutcome_of_keeps (keeps_execCreditWatchdog _ s)
  | grantCellClose => exact soundOutcome_of_keeps (keeps_execGrantCellClose _ s)
  | fabricEnableLink => exact soundOutcome_of_keeps (keeps_execFabricEnableLink _ _ s)
  | fabricDisableLink => exact soundOutcome_of_keeps (keeps_execFabricDisableLink _ _ s)
  | fabricSetTxEq => exact soundOutcome_of_keeps (keeps_execFabricSetTxEq _ _ _ s)
  | fabricSetTimers => exact soundOutcome_of_keeps (keeps_execFabricSetTimers _ _ _ _ _ _ s)
  | fabricSetCredit => exact soundOutcome_of_keeps (keeps_execFabricSetCredit _ _ _ s)
  | fabricSetMcastVoq => exact soundOutcome_of_keeps (keeps_execFabricSetMcastVoq _ _ _ s)
  | fabricSetMgroup => exact soundOutcome_of_keeps (keeps_execFabricSetMgroup _ _ _ s)
  | hbmCommandSlot => exact soundOutcome_of_keeps (keeps_execHbmCommandSlot _ _ s)
  | panicReadExpiry => exact soundOutcome_of_keeps (keeps_execPanicReadExpiry _ s)
  | refreshDue => exact soundOutcome_of_keeps (keeps_execRefreshDue _ _ s)
  | hbmTraining => exact soundOutcome_of_keeps (keeps_execHbmTraining _ _ s)
  | retrainFence => exact soundOutcome_of_keeps (keeps_execRetrainFence _ s)
  | retrainWindowStart => exact soundOutcome_of_keeps (keeps_execRetrainWindowStart _ s)
  | retrainWindowEnd => exact soundOutcome_of_keeps (keeps_execRetrainWindowEnd _ _ s)
  | selfRefreshEntry => exact soundOutcome_of_keeps (keeps_execSelfRefreshEntry _ s)
  | selfRefreshExit => exact soundOutcome_of_keeps (keeps_execSelfRefreshExit _ s)
  | pchDrained => exact soundOutcome_of_keeps (keeps_execPchDrained _ s)
  | stackDrainComplete => exact soundOutcome_of_keeps (keeps_execStackDrainComplete _ s)
  | hbmSetPanic => exact soundOutcome_of_keeps (keeps_execHbmSetPanic _ _ s)
  | hbmSetNeighbour => exact soundOutcome_of_keeps (keeps_execHbmSetNeighbour _ _ s)
  | hbmSetRetrain => exact soundOutcome_of_keeps (keeps_execHbmSetRetrain _ _ s)
  | hbmRetrainNow => exact soundOutcome_of_keeps (keeps_execHbmRetrainNow _ _ s)
  | hbmSetSelfRefresh => exact soundOutcome_of_keeps (keeps_execHbmSetSelfRefresh _ _ s)
  | hbmDisableStack => exact soundOutcome_of_keeps (keeps_execHbmDisableStack _ _ s)
  | hbmEnableStack => exact soundOutcome_of_keeps (keeps_execHbmEnableStack _ _ s)
  | hbmReadEyes => exact soundOutcome_of_keeps (keeps_execHbmReadEyes _ _ _ _ s)
  | sliceCreate => exact soundOutcome_of_keeps (keeps_execSliceCreate _ _ _ _ _ _ _ s)
  | sliceSetShare => exact soundOutcome_of_keeps (keeps_execSliceSetShare _ _ _ s)
  | sliceHoldQuiesced => exact soundOutcome_of_keeps (keeps_execSliceHoldQuiesced _ s)
  | sliceReset => exact soundOutcome_of_keeps (keeps_execSliceReset _ _ s)
  | sliceQuiescence => exact soundOutcome_of_keeps (keeps_execSliceQuiescence _ _ s)
  | sliceResetClear => exact soundOutcome_of_keeps (keeps_execSliceResetClear s)
  | sliceDelete => exact soundOutcome_of_keeps (keeps_execSliceDelete _ _ s)
  | sliceBindInband => exact soundOutcome_of_keeps (keeps_execSliceBindInband _ _ _ _ s)
  | sliceDirtyLog => exact soundOutcome_of_keeps (keeps_execSliceDirtyLog _ _ _ _ _ _ s)
  | sliceStatus => exact soundOutcome_of_keeps (keeps_execSliceStatus _ _ s)
  | courierBurst => exact soundOutcome_of_keeps (keeps_execCourierBurst _ _ _ _ s)
  | courierReadReturn => exact soundOutcome_of_keeps (keeps_execCourierReadReturn _ _ s)
  | descriptorComplete => exact soundOutcome_of_keeps (keeps_execDescriptorComplete _ s)
  | injectRecord => exact soundOutcome_of_keeps (keeps_execInjectRecord _ _ s)
  | circularRecordWrite => exact soundOutcome_of_keeps (keeps_execCircularRecordWrite _ s)
  | courierStopBoundary => exact soundOutcome_of_keeps (keeps_execCourierStopBoundary _ s)
  | courierOpenChannel => exact soundOutcome_of_keeps (keeps_execCourierOpenChannel _ _ _ _ _ s)
  | courierStop => exact soundOutcome_of_keeps (keeps_execCourierStop _ _ s)
  | courierClose => exact soundOutcome_of_keeps (keeps_execCourierClose _ _ s)
  | courierSetShare => exact soundOutcome_of_keeps (keeps_execCourierSetShare _ _ _ s)
  | heartbeat => exact soundOutcome_of_keeps (keeps_execHeartbeat _ s)
  | heartbeatLapse => exact soundOutcome_of_keeps (keeps_execHeartbeatLapse s)
  | roleGrant => exact soundOutcome_of_keeps (keeps_execRoleGrant _ s)
  | stopConfirmation => exact soundOutcome_of_keeps (keeps_execStopConfirmation _ s)
  | dualActiveTimeout => exact soundOutcome_of_keeps (keeps_execDualActiveTimeout s)
  | postmasterRestart => exact soundOutcome_of_keeps (keeps_execPostmasterRestart _ s)
  | bootSelftestDone => exact soundOutcome_of_keeps (keeps_execBootSelftestDone _ _ s)
  | syncComplete => exact soundOutcome_of_keeps (keeps_execSyncComplete _ _ s)
  | standbyAckTimeout => exact soundOutcome_of_keeps (keeps_execStandbyAckTimeout s)
  | selftestItem => exact soundOutcome_of_keeps (keeps_execSelftestItem _ _ _ s)
  | postmasterFailure => exact soundOutcome_of_keeps (keeps_execPostmasterFailure _ _ s)
  | healthWrite => exact soundOutcome_of_keeps (keeps_execHealthWrite _ _ s)
  | headlessRebuild => exact soundOutcome_of_keeps (keeps_execHeadlessRebuild _ s)
  | imageWrite => exact soundOutcome_of_keeps (keeps_execImageWrite _ _ _ _ _ s)
  | flashWriteComplete => exact soundOutcome_of_keeps (keeps_execFlashWriteComplete _ s)
  | imageVerify => exact soundOutcome_of_keeps (keeps_execImageVerify _ _ _ s)
  | imageVerifyComplete => exact soundOutcome_of_keeps (keeps_execImageVerifyComplete _ _ s)
  | imageActivate => exact soundOutcome_of_keeps (keeps_execImageActivate _ _ _ s)
  | imageAbort => exact soundOutcome_of_keeps (keeps_execImageAbort _ _ s)
  | imageList => exact soundOutcome_of_keeps (keeps_execImageList _ s)
  | activationStart => exact soundOutcome_of_keeps (keeps_execActivationStart s)
  | rolloutStepEnd => exact soundOutcome_of_keeps (keeps_execRolloutStepEnd s)
  | rolloutStepTimeout => exact soundOutcome_of_keeps (keeps_execRolloutStepTimeout s)
  | sweepStart => exact soundOutcome_of_keeps (keeps_execSweepStart s)
  | sweepRead => exact soundOutcome_of_keeps (keeps_execSweepRead s)
  | snapshotLatch => exact soundOutcome_of_keeps (keeps_execSnapshotLatch s)
  | telemetryReadCounters => exact soundOutcome_of_keeps (keeps_execTelemetryReadCounters _ _ _ _ _ s)
  | telemetrySnapshot => exact soundOutcome_of_keeps (keeps_execTelemetrySnapshot _ _ _ s)
  | telemetrySetTagging => exact soundOutcome_of_keeps (keeps_execTelemetrySetTagging _ _ s)
  | telemetrySetTrace => exact soundOutcome_of_keeps (keeps_execTelemetrySetTrace _ _ _ _ s)
  | telemetryReadTrace => exact sound_execTelemetryReadTrace _ _ _ s
  | powerRead => exact soundOutcome_of_keeps (keeps_execPowerRead _ s)
  | powerSetCap => exact soundOutcome_of_keeps (keeps_execPowerSetCap _ _ s)
  | powerSetAlert => exact soundOutcome_of_keeps (keeps_execPowerSetAlert _ _ _ _ s)
  | faultRead => exact soundOutcome_of_keeps (keeps_execFaultRead _ _ _ _ _ s)
  | faultClear => exact soundOutcome_of_keeps (keeps_execFaultClear _ _ s)
  | faultSetMask => exact soundOutcome_of_keeps (keeps_execFaultSetMask _ _ _ s)
  | mirrorConfigure => exact soundOutcome_of_keeps (keeps_execMirrorConfigure _ _ _ _ _ _ s)
  | mirrorDisable => exact soundOutcome_of_keeps (keeps_execMirrorDisable _ _ s)
  | faultEventHoldoffExpiry => exact soundOutcome_of_keeps (keeps_execFaultEventHoldoffExpiry _ s)
  | suppressionGraceExpiry => exact soundOutcome_of_keeps (keeps_execSuppressionGraceExpiry _ s)
  | inputRise => exact soundOutcome_of_keeps (keeps_execInputRise s)
  | housekeepingBoot => exact soundOutcome_of_keeps (keeps_execHousekeepingBoot s)
  | inputVoltageBand => exact soundOutcome_of_keeps (keeps_execInputVoltageBand _ s)
  | undervoltageLockout => exact sound_execUndervoltageLockout s
  | overvoltageShutdown => exact sound_execOvervoltageShutdown s
  | overvoltageRecovery => exact soundOutcome_of_keeps (keeps_execOvervoltageRecovery s)
  | pwrEnAssert => exact soundOutcome_of_keeps (keeps_execPwrEnAssert s)
  | pwrEnDeassert => exact sound_execPwrEnDeassert s
  | powerGood => exact soundOutcome_of_keeps (keeps_execPowerGood s)
  | domainSwitchComplete => exact soundOutcome_of_keeps (keeps_execDomainSwitchComplete s)
  | domainFailure => exact soundOutcome_of_keeps (keeps_execDomainFailure _ s)
  | temperatureChange => exact soundOutcome_of_keeps (keeps_execTemperatureChange _ s)
  | thermalShutdown => exact sound_execThermalShutdown s
  | powerCapCheck => exact soundOutcome_of_keeps (keeps_execPowerCapCheck _ s)
  | throttleNChange => exact soundOutcome_of_keeps (keeps_execThrottleNChange _ s)
  | pmbusClearFaults => exact soundOutcome_of_keeps (keeps_execPmbusClearFaults s)
  | statusWord => exact soundOutcome_of_keeps (keeps_execStatusWord s)
  | statusInput => exact soundOutcome_of_keeps (keeps_execStatusInput s)
  | statusTemperature => exact soundOutcome_of_keeps (keeps_execStatusTemperature s)
  | readVin => exact soundOutcome_of_keeps (keeps_execReadVin s)
  | readIin => exact soundOutcome_of_keeps (keeps_execReadIin s)
  | readTemperature1 => exact soundOutcome_of_keeps (keeps_execReadTemperature1 s)
  | readTemperature2 => exact soundOutcome_of_keeps (keeps_execReadTemperature2 s)
  | readPin => exact soundOutcome_of_keeps (keeps_execReadPin s)
  | pmbusRevision => exact soundOutcome_of_keeps (keeps_execPmbusRevision s)
  | pmbusUnsupported code => exact soundOutcome_of_keeps (keeps_execPmbusUnsupported code s)
  | fruEepromRead => exact soundOutcome_of_keeps (keeps_execFruEepromRead _ s)
  | telemetryMirrorUpdate => exact soundOutcome_of_keeps (keeps_execTelemetryMirrorUpdate _ _ s)
  | referenceLost => exact soundOutcome_of_keeps (keeps_execReferenceLost _ s)
  | referenceRegained => exact soundOutcome_of_keeps (keeps_execReferenceRegained _ s)
  | resetNAssert => exact sound_execResetNAssert s
  | resetNRelease => exact soundOutcome_of_keeps (keeps_execResetNRelease s)
  | housekeepingWatchdog => exact soundOutcome_of_keeps (keeps_execHousekeepingWatchdog s)
  | pcieReset => exact soundOutcome_of_keeps (keeps_execPcieReset _ s)
  | startupResetDone => exact soundOutcome_of_keeps (keeps_execStartupResetDone s)
  | startupApplyDone => exact soundOutcome_of_keeps (keeps_execStartupApplyDone _ s)
  | startupTimeout => exact soundOutcome_of_keeps (keeps_execStartupTimeout s)
  | configurationWrite => exact soundOutcome_of_keeps (keeps_execConfigurationWrite _ s)
  | envelopeLanesIdle => exact soundOutcome_of_keeps (keeps_execEnvelopeLanesIdle _ _ _ s)
  | flexeDeskewRecovery => exact soundOutcome_of_keeps (keeps_execFlexeDeskewRecovery _ _ s)
  | ptpSourceLost => exact soundOutcome_of_keeps (keeps_execPtpSourceLost _ s)
  | startupSettingsDone => exact soundOutcome_of_keeps (keeps_execStartupSettingsDone s)

/-- Settles O6: every command's next state is sound, and a step runs the front command on the queue's rest. -/
theorem commandsKeepTheQueueAndTheVariant : Obligations.CommandsKeepTheQueueAndTheVariant := by
  have kept (c : Instr) (s t : State) (h : exec c s = .next t) : t.pending = s.pending ∧ t.variant = s.variant := by
    obtain ⟨variant, pending, -⟩ := soundOutcome_exec c s t h
    exact ⟨pending, variant⟩
  refine ⟨kept, fun s t c cs front h => ?_⟩
  rw [step, front] at h
  exact kept c { s with pending := cs } t h

end Sys2Proof.Machine

namespace Sys2Proof.Machine

/-! # The settings store and the image banks (14 R418-R430) -/

section
variable {s t : State} {l : LetterId}

/-! ## Operands and checks that pass -/

theorem firstFail_eq_none {cs : List (Bool × Reject)} (h : ∀ c ∈ cs, c.1 = false) : firstFail cs = none := by
  induction cs with
  | nil => rfl
  | cons c cs ih =>
    obtain ⟨passes, rest⟩ := List.forall_mem_cons.mp h
    simp only [firstFail, passes, Bool.false_eq_true, ↓reduceIte]
    exact ih rest

theorem decide_toNat_eq_one (bank : W32) : decide (bank.toNat = 1) = decide (bank = 1#32) :=
  decide_eq_decide.mpr (BitVec.toNat_eq (y := 1#32)).symm

theorem bank_le_one {bank : W32} (h : bank = 0#32 ∨ bank = 1#32) : bank.toNat ≤ 1 := by
  rcases h with rfl | rfl <;> decide

theorem noPart_passes {part : Nat} (h : part ≠ 3 ∨ s.variant.envelope = true) : (noPart s part).1 = false := by
  rcases h with h | h <;> simp [noPart, noObj, h]

/-! ## IMAGE.WRITE (14 R418-R420) -/

/-- The operands and the bank's state allow a write, but for the ACTIVE bank's own check (14 R418). -/
structure WriteFits (s : State) (part bank off n : Nat) : Prop where
  part_le : part ≤ 5
  bank_le : bank ≤ 1
  off_block : off % 4096 = 0
  n_block : n % 4096 = 0
  n_low : 4096 ≤ n
  n_high : n ≤ 16777216
  present : part ≠ 3 ∨ s.variant.envelope = true
  not_armed : s.bankState part (decide (bank = 1)) ≠ .armed
  not_rolling : s.bankState part (decide (bank = 1)) ≠ .rolling
  continues : off ≠ 0 → s.bankState part (decide (bank = 1)) = .writing ∧
    off + n ≤ (s.bank part (decide (bank = 1))).length ∧
    (coveredBlocks off n).any (s.bank part (decide (bank = 1))).blocks.contains = false

theorem firstFail_imageWriteChecks {part bank off n : Nat} (h : WriteFits s part bank off n) :
    firstFail (imageWriteChecks s part bank off n) =
      if s.activeBank part = decide (bank = 1) then some ⟨.notPermitted, 1, 0⟩ else none := by
  have present := noPart_passes h.present
  have n_ok : ¬ (n % 4096 ≠ 0 ∨ n < 4096 ∨ 16777216 < n) := by
    have := h.n_block; have := h.n_low; have := h.n_high; omega
  by_cases zero : off = 0
  · simp [imageWriteChecks, firstFail, malformed, busy, notPermitted, Nat.not_lt.mpr h.part_le, Nat.not_lt.mpr h.bank_le,
      n_ok, present, h.not_armed, h.not_rolling, zero]
  · obtain ⟨writing, fits, fresh⟩ := h.continues zero
    simp [imageWriteChecks, firstFail, malformed, busy, notPermitted, Nat.not_lt.mpr h.part_le, Nat.not_lt.mpr h.bank_le,
      n_ok, present, h.off_block, writing, Nat.not_lt.mpr fits, fresh]

variable {part bank : W32} {offset : W64} {data : ListArg Byte} {d : List Byte}

theorem execImageWrite_accepted (h : Claimed s l 0x1101 [p4 part, p4 bank, p8 offset, pL data])
    (early : firstFail (imageWriteChecks s part.toNat bank.toNat offset.toNat data.count.toNat) = none)
    (items : data.items = some d) (header : offset.toNat = 0 → headerRefusal s.variant part.toNat d = none)
    (fits : offset.toNat = 0 → d.length ≤ leAt d 24 4) :
    ∃ t, exec (.imageWrite l part bank offset data) s = .next t ∧
      Accepted s ((s.writeBank part.toNat (bank = 1#32) offset.toNat d).flashJob (.image l part.toNat (bank = 1#32))) t l .done
        (layBody [p4 part, p4 bank, p8 offset, pL data]) true := by
  have noRefusal : (if offset.toNat = 0 then data.items.bind fun d => headerRefusal s.variant part.toNat d else none) = none := by
    split
    · next zero => rw [items]; exact header zero
    · rfl
  have length : decide (offset.toNat = 0 ∧ leAt d 24 4 < d.length) = false :=
    decide_eq_false fun ⟨zero, short⟩ => absurd (fits zero) (Nat.not_le.mpr short)
  rw [exec_imageWrite, execImageWrite]
  simp only [noRefusal, Option.isSome_none, Bool.and_false, Bool.false_eq_true, ↓reduceIte]
  refine ⟨_, rfl, runLetter_accepted h fun c hc => ?_⟩
  subst hc
  simp only [checked, early, items, malformed, firstFail, length, Bool.false_eq_true, ↓reduceIte, acceptWait]

theorem execImageWrite_refused {r : Reject} (h : Claimed s l 0x1101 [p4 part, p4 bank, p8 offset, pL data])
    (early : firstFail (imageWriteChecks s part.toNat bank.toNat offset.toNat data.count.toNat) = none)
    (items : data.items = some d) (zero : offset.toNat = 0) (header : headerRefusal s.variant part.toNat d = some r) :
    ∃ u, exec (.imageWrite l part bank offset data) s = .next (u.bump .imgRefused part.toNat) ∧
      Rejected s u l r.status r.param := by
  have claimed : (s.claimed l 0x1101 [p4 part, p4 bank, p8 offset, pL data]).isSome = true := h
  have refusal : (if offset.toNat = 0 then data.items.bind fun d => headerRefusal s.variant part.toNat d else none) = some r := by
    rw [if_pos zero, items]
    exact header
  rw [exec_imageWrite, execImageWrite]
  simp only [refusal, early, claimed, Option.isSome_some, Option.isNone_none, Bool.and_self, ↓reduceIte]
  exact ⟨_, rfl, runLetter_rejected h fun c hc => by simp only [checked, early, items]⟩

theorem execImageWrite_rejected {r : Reject} (h : Claimed s l 0x1101 [p4 part, p4 bank, p8 offset, pL data])
    (early : firstFail (imageWriteChecks s part.toNat bank.toNat offset.toNat data.count.toNat) = some r) :
    ∃ t, exec (.imageWrite l part bank offset data) s = .next t ∧ Rejected s t l r.status r.param := by
  rw [exec_imageWrite, execImageWrite]
  simp only [early, Option.isNone_some, Bool.and_false, Bool.false_and, Bool.false_eq_true, ↓reduceIte]
  exact ⟨_, rfl, runLetter_rejected h fun c hc => by simp only [checked, early]⟩

/-! ## Flash jobs (14 R418, R421, R429) -/

/-- The write of an image. -/
def FlashJob.isImage : FlashJob → Bool
  | .image .. => true
  | _ => false

/-- The verification of a bank. -/
def FlashJob.verifies (part : Nat) (b : Bool) : FlashJob → Bool
  | .verify _ q c => decide (q = part) && c == b
  | _ => false

/-- The write of a settings record. -/
def FlashJob.isSettings : FlashJob → Bool
  | .settings .. => true
  | _ => false

theorem execFlashWriteComplete_taken {p : Nat} {b : Bool} (ok : Bool) (active : s.pm.active.isSome = true)
    (h : s.takeJob FlashJob.isImage = some (.image l p b, t)) :
    execFlashWriteComplete ok s = .next (if ok then t.release l else t.internalFault l 2 0 true) := by
  rw [execFlashWriteComplete, if_neg (by simp [Option.isSome_iff_ne_none.mp active])]
  split
  · next taken => cases taken.symm.trans h; rfl
  · next other => exact absurd h (other _ _ _ _)

theorem execImageVerifyComplete_taken {part : Fin 6} {p : Nat} {b c : Bool} (active : s.pm.active.isSome = true)
    (h : s.takeJob (FlashJob.verifies part b) = some (.verify l p c, t)) :
    execImageVerifyComplete part b s = .next (match (s.bank part b).verify part with
      | none => (if (s.bank part b).st = .writing then t.setBankState part b .verified else t).release l
      | some sub => ((t.modReceipt l fun r =>
          { r with status := .malformed, subcode := BitVec.ofNat 16 sub, applied := [] }).bump .imgVerifyFail part).release l) := by
  rw [execImageVerifyComplete, if_neg (by simp [Option.isSome_iff_ne_none.mp active])]
  split
  · next taken => cases taken.symm.trans h; rfl
  · next other => exact absurd h (other _ _ _ _)

/-- The record that a save puts into its slot. -/
def State.savedRecord (t : State) (r : SettingsRecord) (ok : Bool) : SettingsRecord :=
  SettingsRecord.seal { r with generation := t.nextGeneration, valid := ok }

/-- The slot that a save of a record writes takes it. -/
def State.storeRecord (t : State) (r : SettingsRecord) (ok : Bool) : State :=
  t.setSettingsSlot (t.saveSlot r.version (t.settingsMin t.activeImage)) (t.savedRecord r ok)

theorem execSettingsSaveComplete_taken {l : Option LetterId} {n : Nat} {r : SettingsRecord} {m : Bool}
    (active : s.pm.active ≠ none) (h : s.takeJob FlashJob.isSettings = some (.settings l n r m, t)) :
    execSettingsSaveComplete true s = .next ((if m then (t.storeRecord r true).bump .settingsMigrations
      else (t.storeRecord r true).bump .settingsSaves).release? l) := by
  rw [execSettingsSaveComplete, if_neg (by simp [active])]
  split
  · next taken => cases taken.symm.trans h; rfl
  · next other => exact absurd h (other _ _ _ _ _)

theorem execSettingsSaveComplete_failed {n : Nat} {r : SettingsRecord} {m : Bool} (active : s.pm.active ≠ none)
    (h : s.takeJob FlashJob.isSettings = some (.settings (some l) n r m, t)) :
    execSettingsSaveComplete false s = .next ((t.storeRecord r false).internalFault l 2 0 true) := by
  rw [execSettingsSaveComplete, if_neg (by simp [active])]
  split
  · next taken => cases taken.symm.trans h; rfl
  · next other => exact absurd h (other _ _ _ _ _)

/-! ## IMAGE.VERIFY (14 R421) -/

theorem execImageVerify_accepted (h : Claimed s l 0x1102 [p4 part, p4 bank]) (part_le : part.toNat ≤ 5)
    (bank_le : bank.toNat ≤ 1) (present : part.toNat ≠ 3 ∨ s.variant.envelope = true)
    (st : s.bankState part.toNat (bank = 1#32) = .writing ∨ s.bankState part.toNat (bank = 1#32) = .verified) :
    ∃ t, exec (.imageVerify l part bank) s = .next t ∧
      Accepted s (s.flashJob (.verify l part.toNat (bank = 1#32))) t l .done (layBody [p4 part, p4 bank]) true := by
  refine ⟨_, rfl, runLetter_accepted h fun c hc => ?_⟩
  subst hc
  refine (checked_ok ?_).trans rfl
  have present := noPart_passes present
  rcases st with st | st <;>
    simp [malformed, busy, Nat.not_lt.mpr part_le, Nat.not_lt.mpr bank_le, present, st]

/-! ## Records and slots (14 R428-R430) -/

theorem length_leBytes (v n : Nat) : (leBytes v n).length = n := by
  induction n generalizing v with
  | zero => rfl
  | succ n ih => rw [leBytes, List.length_cons, ih]

theorem length_head (r : SettingsRecord) : r.head.length = 16 := by
  simp [SettingsRecord.head, length_leBytes]

theorem head_seal (r : SettingsRecord) : r.seal.head = r.head := rfl

theorem take_bytes (r : SettingsRecord) : r.bytes.take 16 = r.head := by
  rw [SettingsRecord.bytes, List.append_assoc, List.append_assoc]
  exact List.take_left' (length_head r)

end

/-- Settles O49: a letter's clause by what its checks find, a completion's by the flash job that it takes, a slot's by the
rule that chooses it. The parameter that a refused header names and the end of a save that fails are the model's choice
(notes/assumptions/102.md), as is the layout of IMAGE.LIST (notes/assumptions/4.md). -/
theorem settingsStoreAndImageBanks : Obligations.SettingsStoreAndImageBanks := by
  refine ⟨?write0, ?writeOn, ?writeActive, ?flashed, ?verify, ?verified, ?headless, ?incomplete, ?list, ?save, ?saved,
    ?saveHeadless, ?recordBytes, ?saveFails, ?slotOlder, ?slotOwn, ?slotInvalid, ?takeOwn⟩
  case write0 =>
    intro s l part bank offset data d h part_le hb zero n_block n_low n_high present armed rolling inactive items fits
    rw [← decide_toNat_eq_one] at armed rolling inactive
    have zero' : offset.toNat = 0 := by rw [zero]; rfl
    have early : firstFail (imageWriteChecks s part.toNat bank.toNat offset.toNat data.count.toNat) = none := by
      rw [firstFail_imageWriteChecks ⟨part_le, bank_le_one hb, by rw [zero'], n_block, n_low, n_high, present, armed, rolling,
        fun h => absurd zero' h⟩, if_neg inactive]
    cases header : headerRefusal s.variant part.toNat d with
    | none =>
      obtain ⟨t, next, acc⟩ := execImageWrite_accepted h early items (fun _ => header) fun _ => fits
      rw [zero'] at acc
      exact ⟨t, next, fun _ => acc, fun r hr => nomatch hr⟩
    | some r =>
      obtain ⟨u, next, rej⟩ := execImageWrite_refused h early items zero' header
      refine ⟨_, next, ?_, ?_⟩
      · intro none
        cases none
      · intro r' same
        cases same
        exact ⟨u, rfl, rej⟩
  case writeOn =>
    intro s l part bank offset data d h part_le hb nonzero off_block n_block n_low n_high present writing inactive fits fresh items
    rw [← decide_toNat_eq_one] at writing inactive fits fresh
    have nonzero' : offset.toNat ≠ 0 := fun h => nonzero (BitVec.eq_of_toNat_eq h)
    refine execImageWrite_accepted h ?_ items (fun h => absurd h nonzero') fun h => absurd h nonzero'
    rw [firstFail_imageWriteChecks ⟨part_le, bank_le_one hb, off_block, n_block, n_low, n_high, present, by simp [writing],
      by simp [writing], fun _ => ⟨writing, fits, fresh⟩⟩, if_neg inactive]
  case writeActive =>
    intro s l part bank offset data h part_le hb zero n_block n_low n_high present armed rolling active
    rw [← decide_toNat_eq_one] at armed rolling active
    have zero' : offset.toNat = 0 := by rw [zero]; rfl
    refine execImageWrite_rejected (r := ⟨.notPermitted, 1, 0⟩) h ?_
    rw [firstFail_imageWriteChecks ⟨part_le, bank_le_one hb, by rw [zero'], n_block, n_low, n_high, present, armed, rolling,
      fun h => absurd zero' h⟩, if_pos active]
  case flashed =>
    intro s t l part b h active
    exact ⟨execFlashWriteComplete_taken true active h, execFlashWriteComplete_taken false active h⟩
  case verify =>
    exact fun s l part bank h part_le hb present st => execImageVerify_accepted h part_le (bank_le_one hb) present st
  case verified =>
    intro s t l part b h active
    exact execImageVerifyComplete_taken active h
  case headless =>
    intro s part bankB ok headless
    simp [execImageVerifyComplete, execRolloutStepEnd, execRolloutStepTimeout, headless]
  case incomplete =>
    intro v part missing
    simp only [Bank.verify, missing, Bool.false_eq_true, not_false_eq_true, ↓reduceIte]
  case list =>
    intro s l h
    exact ⟨_, rfl, runLetter_accepted h fun _ _ => rfl⟩
  case save =>
    intro s l h
    refine ⟨_, rfl, runLetter_accepted h fun c hc => ?_⟩
    subst hc
    rfl
  case saved =>
    intro s t l n r m u active h fresh hu
    subst fresh hu
    exact execSettingsSaveComplete_taken active h
  case saveHeadless =>
    intro s ok headless
    simp [execSettingsSaveComplete, headless]
  case recordBytes =>
    intro r
    have head := take_bytes r.seal
    rw [head, head_seal]
    exact ⟨rfl, rfl⟩
  case saveFails => exact fun s t l n r m active h => execSettingsSaveComplete_failed active h
  case slotOlder =>
    intro s a b version low ha hb same
    simp [State.saveSlot, ha, hb, same]
  case slotOwn =>
    intro s a b low ha hb differ
    simp [State.saveSlot, ha, hb, differ]
  case slotInvalid =>
    intro s a version low ha hb
    simp [State.saveSlot, ha, hb]
  case takeOwn =>
    intro s b r own
    simp [State.takeSettings, own]

end Sys2Proof.Machine

namespace Sys2Proof.Machine

/-! # Activations, their roll-out and roll-back (14 R423-R426) -/

section
variable {s : State} {l : LetterId} {parts : W32} {time : TimeParam}

/-! ## IMAGE.ACTIVATE and IMAGE.ABORT -/

theorem namedPart_passes (h : bit parts.toNat 3 = false ∨ s.variant.envelope = true) :
    (noPart s (if bit parts.toNat 3 then 3 else 0)).1 = false := by
  refine noPart_passes ?_
  rcases h with h | h
  · exact .inl (by simp [h])
  · exact .inr h

/-- The activation that an accepted IMAGE.ACTIVATE arms (14 R424). -/
def State.armParts (s : State) (parts : W32) (t : Nat) : State :=
  (s.newBanks (BitVec.ofNat 6 parts.toNat) .armed).modAct fun _ => { st := .armed, parts := BitVec.ofNat 6 parts.toNat, t := t }

theorem execImageActivate_accepted (h : Claimed s l 0x1103 [p4 parts, pT time]) (parts_le : parts.toNat ≤ 63)
    (present : bit parts.toNat 3 = false ∨ s.variant.envelope = true) (valid : badTime time = false)
    (near : farTime s time = false) (future : pastTime s time = false)
    (idle : s.images.act.st = .none ∨ s.images.act.st = .done ∨ s.images.act.st = .rolledBack)
    (verified : ∀ p ∈ maskBits parts.toNat 6, s.bankState p (!s.activeBank p) = .verified)
    (versions : s.activateMismatch parts.toNat = false)
    (modes : ((bit parts.toNat 1 && s.clerks.modeP) || (bit parts.toNat 2 && !s.clerks.modeP) ||
      (bit parts.toNat 1 && bit parts.toNat 2)) = false) :
    ∃ u, exec (.imageActivate l parts time) s = .next u ∧
      Accepted s (if schedT time = 0 then (s.armParts parts (schedT time)).startRollout else s.armParts parts (schedT time))
        u l .scheduled (layBody [p4 parts, pT time]) := by
  refine ⟨_, rfl, runLetter_accepted h fun c hc => (checked_ok ?_).trans rfl⟩
  have present := namedPart_passes present
  have banks : ((maskBits parts.toNat 6).any fun p => s.bankState p (!s.activeBank p) ≠ .verified) = false :=
    List.any_eq_false.mpr fun p hp => by simp [verified p hp]
  have free : ((decide (s.images.act.st = .armed) || decide (s.images.act.st = .rolling)) ||
      decide (s.images.act.st = .rollingBack)) = false := by
    rcases idle with h | h | h <;> simp [h]
  simp only [List.forall_mem_append, List.forall_mem_cons, List.not_mem_nil, false_implies, implies_true, and_true,
    badParts, timeChecks, malformed, busy, notPermitted]
  exact ⟨⟨⟨decide_eq_false (Nat.not_lt.mpr parts_le), valid, present, free, banks⟩, near, future⟩, versions, modes⟩

theorem execImageAbort_accepted (h : Claimed s l 0x1104 [p4 parts]) (parts_le : parts.toNat ≤ 63)
    (present : bit parts.toNat 3 = false ∨ s.variant.envelope = true) (st : s.images.act.st ≠ .rollingBack)
    (named : s.images.act.parts &&& BitVec.ofNat 6 parts.toNat ≠ 0#6) :
    ∃ t, exec (.imageAbort l parts) s = .next t ∧
      Accepted s (if s.images.act.st = .armed then s.disarm else if s.images.act.st = .rolling then s.rollBack else s) t l .done
        (layBody [p4 parts]) := by
  refine ⟨_, rfl, runLetter_accepted h fun c hc => (checked_ok ?_).trans ?_⟩
  · have present := namedPart_passes present
    simp [badParts, malformed, busy, Nat.not_lt.mpr parts_le, present, st]
  · simp only [named, ne_eq, not_false_eq_true, decide_true, not_true_eq_false, ↓reduceIte, accept]

/-! ## The roll-out's events -/

theorem execActivationStart_due (st : s.images.act.st = .armed) (due : s.images.act.t ≤ s.units)
    (active : s.pm.active.isSome = true) : execActivationStart s = .next s.startRollout := by
  rw [execActivationStart, if_pos ⟨st, due, active⟩]

theorem execActivationStart_early (early : s.units < s.images.act.t) : execActivationStart s = .next s := by
  rw [execActivationStart, if_neg fun ⟨_, due, _⟩ => absurd due (Nat.not_le.mpr early)]

/-- A step of the roll-out that has ended moves one framer group on, or begins the next step. -/
theorem execRolloutStepEnd_rolling (st : s.images.act.st = .rolling) (ended : s.stepEnded = true)
    (active : s.pm.active.isSome = true) : execRolloutStepEnd s = .next (
      if s.images.act.step = 4 ∧ s.images.act.sub < 11 then s.modAct fun a => { a with sub := a.sub + 1, since := s.up }
      else (s.leaveStep.modAct fun a => { a with moved := a.moved ||| partBit a.parts a.step }).nextStep
        (s.images.act.step + 1)) := by
  rw [execRolloutStepEnd, if_neg (by simp [st, ended, Option.isSome_iff_ne_none.mp active]), if_pos st]

theorem execRolloutStepEnd_busy (busy : s.stepEnded = false) : execRolloutStepEnd s = .next s := by
  rw [execRolloutStepEnd, if_pos (.inr (.inl (by simp [busy])))]

theorem execRolloutStepTimeout_rolling (st : s.images.act.st = .rolling) (failed : s.stepFailed = true)
    (active : s.pm.active.isSome = true) : execRolloutStepTimeout s = .next s.rollBack := by
  rw [execRolloutStepTimeout, if_neg (by simp [failed, Option.isSome_iff_ne_none.mp active]), if_pos st]

theorem execRolloutStepTimeout_inTime (inTime : s.stepFailed = false) : execRolloutStepTimeout s = .next s := by
  rw [execRolloutStepTimeout, if_pos (.inl (by simp [inTime]))]

theorem finishRollout_done (s : State) : s.finishRollout.images.act.st = .done := by
  simp only [State.finishRollout, bump_images, State.modAct]

theorem bootRecord_of_newer (valid0 : s.images.boot0.valid = true) (valid1 : s.images.boot1.valid = true)
    (newer : seqNewer s.images.boot1.generation s.images.boot0.generation = true) : s.bootRecord = s.images.boot1 := by
  simp [State.bootRecord, valid0, valid1, newer]

end

/-- Settles O50: each clause by the case of its letter's or event's equation that its conditions select. What activate,
framer and stepFails say beyond the rules is the model's choice (notes/assumptions/102.md, 153.md). -/
theorem imageActivations : Obligations.ImageActivations := by
  refine ⟨?activate, ?activateNow, ?abortArmed, ?abortRolling, ?start, ?startLater, ?stepEnd, ?framer, ?stepBusy, ?stepFails,
    ?stepInTime, ?finish, ?newestBootRecord⟩
  case activate =>
    intro s l parts t h parts_le present valid near future idle verified versions modes later
    have acc := execImageActivate_accepted h parts_le present valid near future idle verified versions modes
    rwa [if_neg later] at acc
  case activateNow =>
    intro s l parts t h parts_le present valid near future idle verified versions modes now
    have acc := execImageActivate_accepted h parts_le present valid near future idle verified versions modes
    rwa [if_pos now, now] at acc
  case abortArmed =>
    intro s l parts h parts_le present st named
    have acc := execImageAbort_accepted h parts_le present (by simp [st]) named
    rwa [if_pos st] at acc
  case abortRolling =>
    intro s l parts h parts_le present st named
    have acc := execImageAbort_accepted h parts_le present (by simp [st]) named
    rwa [if_neg (by simp [st]), if_pos st] at acc
  case start => exact fun s st due active => execActivationStart_due st due active
  case startLater => exact fun s early => execActivationStart_early early
  case stepEnd =>
    intro s st step ended active
    rw [exec_rolloutStepEnd, execRolloutStepEnd_rolling st ended active, if_neg fun h => step h.1]
  case framer =>
    intro s st step sub ended active
    rw [exec_rolloutStepEnd, execRolloutStepEnd_rolling st ended active, if_pos ⟨step, sub⟩]
  case stepBusy => exact fun s busy => execRolloutStepEnd_busy busy
  case stepFails => exact fun s st failed active => execRolloutStepTimeout_rolling st failed active
  case stepInTime => exact fun s inTime => execRolloutStepTimeout_inTime inTime
  case finish => exact finishRollout_done
  case newestBootRecord => exact fun s valid0 valid1 newer => bootRecord_of_newer valid0 valid1 newer

end Sys2Proof.Machine

namespace Sys2Proof.Machine

/-! # Register reads and writes (19 R510-R516) -/

section
variable {s : State} {v : W32}

/-! ## What the identity, role and reserved words read as -/

theorem b2n_le_one (b : Bool) : b2n b ≤ 1 := by cases b <;> decide

theorem pmIdx_le_one (p : Pm) : pmIdx p ≤ 1 := by cases p <;> decide

theorem ident_toNat {m : BitVec 7} (h : s.regs.moduleId = some m) : s.ident.toNat = 0x4CB00180 + m.toNat := by
  have small := m.isLt
  simp only [State.ident, h, BitVec.toNat_ofNat]
  omega

/-- The number of the active postmaster in `PM_ROLE`; 2 where none is active (13 R408). -/
def State.roleCode (s : State) : Nat :=
  match s.pm.active with
  | some p => pmIdx p
  | none => 2

theorem roleCode_le_two (s : State) : s.roleCode ≤ 2 := by
  unfold State.roleCode
  split
  · exact Nat.le_succ_of_le (pmIdx_le_one _)
  · exact Nat.le_refl 2

/-- The fields of `PM_ROLE` do not overlap. -/
theorem pmRole_toNat (s : State) : s.pmRole.toNat = s.roleCode * 2 ^ 30 + b2n s.pm.window.isSome * 2 ^ 29 +
    b2n s.pm.planned * 2 ^ 28 + s.pm.term.toNat := by
  have role := roleCode_le_two s
  have window := b2n_le_one s.pm.window.isSome
  have planned := b2n_le_one s.pm.planned
  have term := s.pm.term.isLt
  have word : s.pmRole = BitVec.ofNat 32 (s.roleCode * 2 ^ 30 + b2n s.pm.window.isSome * 2 ^ 29 +
    b2n s.pm.planned * 2 ^ 28 + s.pm.term.toNat) := rfl
  rw [word, BitVec.toNat_ofNat]
  exact Nat.mod_eq_of_lt (by omega)

theorem pmRole_fields (s : State) : bits s.pmRole.toNat 31 30 = s.roleCode ∧
    bits s.pmRole.toNat 29 29 = b2n s.pm.window.isSome ∧ bits s.pmRole.toNat 28 28 = b2n s.pm.planned ∧
    bits s.pmRole.toNat 27 24 = 0 ∧ bits s.pmRole.toNat 23 0 = s.pm.term.toNat := by
  have role := roleCode_le_two s
  have window := b2n_le_one s.pm.window.isSome
  have planned := b2n_le_one s.pm.planned
  have term := s.pm.term.isLt
  rw [pmRole_toNat]
  simp only [bits]
  omega

theorem ident_fields {m : BitVec 7} (h : s.regs.moduleId = some m) : bits s.ident.toNat 31 24 = 0x4C ∧
    bits s.ident.toNat 23 16 = 0xB0 ∧ bits s.ident.toNat 15 8 = 1 ∧ bits s.ident.toNat 7 7 = 1 ∧
    bits s.ident.toNat 6 0 = m.toNat := by
  have small := m.isLt
  rw [ident_toNat h]
  simp only [bits]
  omega

theorem units_fields : Variant.le3840.units = 0x058621FFFFFFFFFF#64 ∧ bits (Variant.units .le2560).toNat 55 51 = 11 ∧
    bits (Variant.units .le2560).toNat 39 32 = 0x3F ∧ bits (Variant.units .le1920).toNat 31 0 = 0xFFFF := by
  decide

theorem regWord_of_die {off : Nat} (low : 0x10000 ≤ off) (high : off < 0x50000) (down : s.diesUp = false) :
    s.regWord off = 0#32 := by
  have outside : ¬ off < 0x10000 := by omega
  simp [State.regWord, outside, high, down]

theorem diesUp_of_reset (h : s.power.stage = .reset) : s.diesUp = false := by
  simp [State.diesUp, h]

/-! ## Reads that act -/

theorem execTimNowLatch_up (wide : Bool) (hk : s.power.hkUp = true) (up : s.diesUp = true) :
    execTimNowLatch wide s = .next { s with
      time := { s.time with latch := BitVec.ofNat 96 (time96 s.units) }
      regs := { s.regs with readData := BitVec.ofNat 64 (if wide then time96 s.units else time96 s.units % 2 ^ 32) } } := by
  simp [execTimNowLatch, hk, up, State.readAs]

/-- A counter of the station time. -/
def TimeUnit.count (u : TimeUnit) : TimeCounter → W32
  | .todBad => u.todBad
  | .pcBad => u.pcBad
  | .epochFar => u.epochFar
  | .subepochSlip => u.subepochSlip

/-- The station time with a counter cleared. -/
def TimeUnit.clear (u : TimeUnit) : TimeCounter → TimeUnit
  | .todBad => { u with todBad := 0#32 }
  | .pcBad => { u with pcBad := 0#32 }
  | .epochFar => { u with epochFar := 0#32 }
  | .subepochSlip => { u with subepochSlip := 0#32 }

theorem execTimeCounterRead_up (which : TimeCounter) (hk : s.power.hkUp = true) (up : s.diesUp = true) :
    execTimeCounterRead which s = .next { s with
      time := s.time.clear which, regs := { s.regs with readData := (s.time.count which).setWidth 64 } } := by
  cases which <;> simp [execTimeCounterRead, hk, up, State.readAs, TimeUnit.count, TimeUnit.clear]

/-! ## The boot ring's control -/

theorem bootLocked_of_running (run : (s.ring 0 0).st = .running) : s.bootLocked = true := by
  simp [State.bootLocked, run]

theorem bootLocked_of_idle (h : (s.ring 0 0).st ≠ .running) (h' : (s.ring 0 0).st ≠ .closing) :
    s.bootLocked = false := by
  simp [State.bootLocked, h, h']

theorem writeBootCtrl_enable (hk : s.power.hkUp = true) (on : v.getLsbD 0 = true) (h : (s.ring 0 0).st ≠ .running)
    (h' : (s.ring 0 0).st ≠ .closing) : s.writeBootCtrl v = s.startBoot := by
  simp only [State.writeBootCtrl, hk, on, h, h', not_true_eq_false, or_self, ↓reduceIte]

theorem writeBootCtrl_enable_running (on : v.getLsbD 0 = true) (run : (s.ring 0 0).st = .running) :
    s.writeBootCtrl v = s := by
  simp only [State.writeBootCtrl, on, run, true_or, ↓reduceIte, ite_self]

theorem writeBootCtrl_disable {u : State} (hk : s.power.hkUp = true) (off : v.getLsbD 0 = false)
    (run : (s.ring 0 0).st = .running) (h : u = s.setRing 0 0 { s.ring 0 0 with st := .closing }) :
    s.writeBootCtrl v = ({ u with regs := { u.regs with enable := false } } : State).ringDrained 0 0 := by
  subst h
  simp only [State.writeBootCtrl, hk, off, run, not_true_eq_false, Bool.false_eq_true, ↓reduceIte]

/-- Registers that are in order do not start the ring while no slice can have a PASID (19 R515). -/
theorem bootRefusal_of_noPasid (pasid : s.courier.pasidOn = false) (letters : s.regs.bootLetters.toNat % 4096 = 0)
    (receipts : s.regs.bootReceipts.toNat % 4096 = 0) (low : 6 ≤ bits s.regs.bootRing.toNat 24 20)
    (high : bits s.regs.bootRing.toNat 24 20 ≤ 16) : s.bootRefusal = 3 := by
  simp [State.bootRefusal, pasid, letters, receipts, Nat.not_lt.mpr low, Nat.not_lt.mpr high]

theorem startBoot_refused (h : s.bootRefusal ≠ 0) : s.startBoot =
    { s.setRing 0 0 { s.ring 0 0 with st := .refused } with regs := { s.regs with enable := false, refuse := s.bootRefusal } } := by
  simp only [State.startBoot, h, ↓reduceIte]

/-! ## Writes of words -/

theorem writeMsix_data (entry : Nat) : s.writeMsix entry 2 v =
    { s with regs := { s.regs with msix := nset 0#32 (4 * entry + 2) v s.regs.msix } } := by
  simp [State.writeMsix]

theorem execRegisterWrite_narrow {off : BitVec 26} (w : W64) (hk : s.power.hkUp = true) (aligned : off.toNat % 4 = 0) :
    execRegisterWrite off false w s = .next (s.writeWord off.toNat (half w 0)) := by
  simp [execRegisterWrite, hk, aligned]

theorem execRegisterWrite_wide {off : BitVec 26} (w : W64) (hk : s.power.hkUp = true) (aligned : off.toNat % 8 = 0) :
    execRegisterWrite off true w s =
      .next ((s.writeWord off.toNat (half w 0)).writeWord (off.toNat + 4) (half w 1)) := by
  have word : off.toNat % 4 = 0 := by omega
  simp [execRegisterWrite, hk, aligned, word]

theorem execRegisterWrite_misaligned {off : BitVec 26} (wide : Bool) (w : W64) (h : off.toNat % 4 ≠ 0) :
    execRegisterWrite off wide w s = .next s := by
  simp [execRegisterWrite, h]

/-- The boot ring's registers. -/
def bootOffsets : List Nat := [0x20, 0x24, 0x28, 0x2C, 0x30]

theorem writeWord_locked {off : Nat} (locked : s.bootLocked = true) (h : off ∈ bootOffsets) : s.writeWord off v = s := by
  simp only [bootOffsets, List.mem_cons, List.not_mem_nil, or_false] at h
  rcases h with rfl | rfl | rfl | rfl | rfl <;> simp [State.writeWord, locked]

theorem writeWord_bootRing (free : s.bootLocked = false) :
    s.writeWord 0x30 v = { s with regs := { s.regs with bootRing := v &&& 0x1FFFFFF#32 } } := by
  simp [State.writeWord, free]

/-- Outside the writable registers and the MSI-X table a write is ignored. -/
theorem writeWord_readOnly {off : Nat} (h : off ∉ bootOffsets ++ [0x34, 0x1000, 0x2000])
    (table : ¬ (0x1000000 ≤ off ∧ off < 0x1008000)) : s.writeWord off v = s := by
  simp only [bootOffsets, List.mem_append, List.mem_cons, List.not_mem_nil, or_false, not_or] at h
  simp [State.writeWord, h, table]

end

/-- Settles O58: each clause is the equation of its register or of its access. -/
theorem registerAccesses : Obligations.RegisterAccesses := by
  refine ⟨units_fields, ?ident, ?noId, ?reserved, ?dieReset, ?role, ?latch, ?latchNarrow,
    ?counter, ?counters, ?cause, ?logFull, ?logFullZero, ?enable, ?enableAgain, ?disable, ?refused, ?msix, ?msixData,
    ?write, ?writeWide, ?writeBad, ?writeBootRing, ?writeLocked, ?writeReadOnly⟩
  case ident => exact fun s m h => ident_fields h
  case noId =>
    intro s h
    simp [State.ident, h]
  case reserved =>
    intro s off h
    simp [State.regWord, h]
  case dieReset =>
    intro s off low high h
    exact regWord_of_die low high (diesUp_of_reset h)
  case role => exact fun s => pmRole_fields s
  case latch =>
    intro s hk up
    rw [exec_timNowLatch, execTimNowLatch_up true hk up, if_pos rfl]
  case latchNarrow =>
    intro s hk up
    rw [exec_timNowLatch, execTimNowLatch_up false hk up, if_neg Bool.false_ne_true]
  case counter => exact fun s hk up => execTimeCounterRead_up .todBad hk up
  case counters =>
    intro s which hk up
    refine ⟨_, _, execTimeCounterRead_up which hk up, ?_⟩
    cases which <;> exact ⟨rfl, rfl⟩
  case cause =>
    intro s v hk
    rw [exec_resetCauseClear, execResetCauseClear, if_pos hk]
    rfl
  case logFull =>
    intro s v hk bit28
    rw [exec_logFullClear, execLogFullClear, if_pos ⟨hk, bit28⟩]
  case logFullZero =>
    intro s v bit28
    rw [exec_logFullClear, execLogFullClear, if_neg (by simp only [bit28, Bool.false_eq_true, and_false, not_false_eq_true])]
  case enable =>
    intro s v hk on h h'
    rw [exec_bootRingEnable, execBootRingEnable, writeBootCtrl_enable hk on h h']
  case enableAgain =>
    intro s v on run
    rw [exec_bootRingEnable, execBootRingEnable, writeBootCtrl_enable_running on run]
  case disable =>
    intro s u v hk off run h
    rw [exec_bootRingDisable, execBootRingDisable, writeBootCtrl_disable hk off run h]
  case refused =>
    intro s pasid letters receipts low high
    have three := bootRefusal_of_noPasid pasid letters receipts low high
    rw [startBoot_refused (by rw [three]; decide), three]
    exact ⟨congrArg Ring.st (ring_setRing s 0 0 { s.ring 0 0 with st := .refused }), rfl, rfl⟩
  case msix =>
    intro s entry word v hk
    rw [exec_msixTableWrite, execMsixTableWrite, if_pos hk]
  case msixData =>
    intro s entry v hk
    rw [exec_msixTableWrite, execMsixTableWrite, if_pos hk]
    exact congrArg _ (writeMsix_data entry.val)
  case write => exact fun s off v hk aligned => execRegisterWrite_narrow v hk aligned
  case writeWide => exact fun s off v hk aligned => execRegisterWrite_wide v hk aligned
  case writeBad => exact fun s off wide v h => execRegisterWrite_misaligned wide v h
  case writeBootRing => exact fun s v h h' => writeWord_bootRing (bootLocked_of_idle h h')
  case writeLocked =>
    intro s v run
    have locked := bootLocked_of_running run
    exact ⟨writeWord_locked locked (by decide), writeWord_locked locked (by decide), writeWord_locked locked (by decide),
      writeWord_locked locked (by decide), writeWord_locked locked (by decide)⟩
  case writeReadOnly =>
    intro s v
    refine ⟨?_, ?_, ?_, ?_, ?_, ?_, ?_⟩
    all_goals exact writeWord_readOnly (by decide) (by decide)

end Sys2Proof.Machine

namespace Sys2Proof.Machine

/-! # Die-to-die links (01 R23-R26) -/

section
variable {s : State} {i : Fin 4} {f : Flit} {fs : List Flit}

/-! ## FLIT_RECEIVE -/

theorem execFlitReceive_toDepot (crcOk : Bool) (up : (s.d2dLink i).up = true) (flits : (s.d2dLink i).toDepot = f :: fs) :
    execFlitReceive i true crcOk s = .next (if crcOk then
        (({ s with d2d := { s.d2d with
          links := nset {} i.val { s.d2dLink i with toDepot := fs } s.d2d.links
          earlyDepot := insertFlit f s.d2d.earlyDepot } } : State).drainDepot (insertFlit f s.d2d.earlyDepot).length)
      else if f.spent then (s.setD2d i { s.d2dLink i with toDepot := f.failed :: fs }).d2dDown i
      else s.setD2d i { s.d2dLink i with toDepot := f.failed :: fs }) := by
  simp only [execFlitReceive, up, flits, not_true_eq_false, ↓reduceIte]
  cases crcOk <;> rfl

theorem execFlitReceive_toSorter (crcOk : Bool) (up : (s.d2dLink i).up = true) (flits : (s.d2dLink i).toSorter = f :: fs) :
    execFlitReceive i false crcOk s = .next (if crcOk then
        (({ s with d2d := { s.d2d with
          links := nset {} i.val { s.d2dLink i with toSorter := fs } s.d2d.links
          earlySorter := insertFlit f s.d2d.earlySorter } } : State).drainSorter (insertFlit f s.d2d.earlySorter).length)
      else if f.spent then (s.setD2d i { s.d2dLink i with toSorter := f.failed :: fs }).d2dDown i
      else s.setD2d i { s.d2dLink i with toSorter := f.failed :: fs }) := by
  simp only [execFlitReceive, up, flits, not_true_eq_false, Bool.false_eq_true, ↓reduceIte]
  cases crcOk <;> rfl

theorem execFlitReceive_down (toDepot crcOk : Bool) (down : (s.d2dLink i).up = false) :
    execFlitReceive i toDepot crcOk s = .next s := by
  simp [execFlitReceive, down]

theorem execFlitReceive_empty (toDepot crcOk : Bool)
    (empty : (if toDepot then (s.d2dLink i).toDepot else (s.d2dLink i).toSorter) = []) :
    execFlitReceive i toDepot crcOk s = .next s := by
  cases toDepot with
  | true =>
    have empty : (s.d2dLink i).toDepot = [] := empty
    simp [execFlitReceive, empty]
  | false =>
    have empty : (s.d2dLink i).toSorter = [] := empty
    simp [execFlitReceive, empty]

theorem spent_of_le (h : 16 ≤ f.fails + 1) : f.spent = true := decide_eq_true h

theorem spent_of_lt (h : f.fails + 1 < 16) : f.spent = false := decide_eq_false (Nat.not_le.mpr h)

/-- The only early flit of the Depot is handed on when its turn has come. -/
theorem drainDepot_single (early : s.d2d.earlyDepot = [f]) (turn : f.order = s.d2d.expectDepot) :
    s.drainDepot 1 =
      ({ s with d2d := { s.d2d with earlyDepot := [], expectDepot := f.order + 1 } } : State).arrive f.load := by
  rw [State.drainDepot]
  simp only [early, turn, ↓reduceIte, State.drainDepot]

/-! ## D2D_LOCK_LOSS and D2D_RETRAIN -/

theorem execD2dLockLoss_up (up : (s.d2dLink i).up = true) : execD2dLockLoss i s = .next (s.d2dDown i) := by
  rw [execD2dLockLoss, if_pos up]

theorem execD2dLockLoss_down (down : (s.d2dLink i).up = false) : execD2dLockLoss i s = .next s := by
  rw [execD2dLockLoss, if_neg (by simp [down])]

theorem askDomain_up (s : State) (d : Nat) (on : Bool) : (s.askDomain d on).up = s.up := by
  rw [State.askDomain]
  split
  · rfl
  · split
    · rfl
    · rfl

theorem askDomain_serdesOk (s : State) (d : Nat) (on : Bool) : (s.askDomain d on).serdesOk = s.serdesOk := by
  rw [State.askDomain]
  split
  · rfl
  · split
    · rfl
    · rfl

theorem execD2dRetrain_early (locked : Bool)
    (h : (s.d2dLink i).up = true ∨ s.powered = false ∨ s.up < (s.d2dLink i).downAt + 10000000) :
    execD2dRetrain i locked s = .next s := by
  rw [execD2dRetrain, if_pos (by simpa using h)]

/-- A try that is due asks for the link's power domain, and trains the link once the domain is on. -/
theorem execD2dRetrain_due (locked : Bool) (down : (s.d2dLink i).up = false) (powered : s.powered = true)
    (due : (s.d2dLink i).downAt + 10000000 ≤ s.up) :
    execD2dRetrain i locked s = .next (
      if s.domain (142 + i) = false then s.askDomain (142 + i) true
      else if locked = true ∧ s.serdesOk = true then (((s.askDomain (142 + i) true).setD2d i { s.d2dLink i with
        up := true }).clearFault 0x0101 i).d2dChanged
      else (s.askDomain (142 + i) true).setD2d i { s.d2dLink i with downAt := s.up }) := by
  simp only [execD2dRetrain, down, powered, Nat.not_lt.mpr due, d2dDomain, askDomain_up, askDomain_serdesOk,
    Bool.false_eq_true, not_true_eq_false, or_self, Bool.not_eq_true, ↓reduceIte]
  cases locked <;> cases s.serdesOk <;> rfl

end

/-- Settles O17: a flit by its direction's equation, a link by whether it is up and whether a try is due. In
retrainTry and retrainPower, that the domain stays on between tries and that a failed domain is tried like any other is the
model's choice (notes/assumptions/117.md), and how the domain is asked for is deduced (notes/assumptions/118.md). -/
theorem dieToDieLinks : Obligations.DieToDieLinks := by
  refine ⟨?badCrc, ?badCrcSorter, ?sixteenth, ?sixteenthSorter, ?goodCrc, ?goodCrcSorter, ?delivers, ?nothing, ?lockLoss,
    ?lockLossDown, ?retrainEarly, ?retrainPower, ?retrainTry, ?retrained⟩
  case badCrc =>
    intro s i f fs up flits few
    rw [exec_flitReceive, execFlitReceive_toDepot false up flits, spent_of_lt few]
    rfl
  case badCrcSorter =>
    intro s i f fs up flits few
    rw [exec_flitReceive, execFlitReceive_toSorter false up flits, spent_of_lt few]
    rfl
  case sixteenth =>
    intro s i f fs up flits many
    rw [exec_flitReceive, execFlitReceive_toDepot false up flits, spent_of_le many]
    rfl
  case sixteenthSorter =>
    intro s i f fs up flits many
    rw [exec_flitReceive, execFlitReceive_toSorter false up flits, spent_of_le many]
    rfl
  case goodCrc => exact fun s i f fs up flits => execFlitReceive_toDepot true up flits
  case goodCrcSorter => exact fun s i f fs up flits => execFlitReceive_toSorter true up flits
  case delivers =>
    intro s i p n k fs up flits early turn
    refine ⟨_, execFlitReceive_toDepot true up flits, ?_⟩
    have alone : insertFlit ⟨n, .ingress p, k⟩ s.d2d.earlyDepot = [⟨n, .ingress p, k⟩] := by rw [early]; rfl
    rw [if_pos rfl, alone, List.length_singleton, drainDepot_single rfl turn.symm]
    exact ⟨rfl, rfl, rfl, rfl, rfl, rfl⟩
  case nothing =>
    intro s i toDepot crcOk h
    rcases h with down | empty
    · exact execFlitReceive_down toDepot crcOk down
    · exact execFlitReceive_empty toDepot crcOk empty
  case lockLoss => exact fun s i up => execD2dLockLoss_up up
  case lockLossDown => exact fun s i down => execD2dLockLoss_down down
  case retrainEarly => exact fun s i locked h => execD2dRetrain_early locked h
  case retrainPower =>
    intro s i locked down powered due off
    rw [exec_d2dRetrain, execD2dRetrain_due locked down powered due, if_pos off]
  case retrainTry =>
    intro s i down powered due on
    rw [exec_d2dRetrain, execD2dRetrain_due false down powered due, if_neg (by simp [on]), if_neg (by simp)]
  case retrained =>
    intro s i down powered due on serdes
    rw [exec_d2dRetrain, execD2dRetrain_due true down powered due, if_neg (by simp [on]), if_pos ⟨rfl, serdes⟩]

end Sys2Proof.Machine

namespace Sys2Proof.Machine

/-! # Passes through the clerks (04 R119-R142) -/

section
variable {s : State} {b : Fin 32} {c : Fin 16} {i : Fin 6}

/-! ## Dispatch and issue (04 R119, R120, R126, R140) -/

theorem execIntakeDispatch_ingress {k : Nat} {f : TrayFrame} {fs : List TrayFrame} (slot : s.pickSlot = some k)
    (tray : s.clerks.tray = f :: fs) (turn : s.clerks.windows = [] ∨ s.clerks.lastEgress = true) :
    execIntakeDispatch s = .next (s.startIngress k f) := by
  cases windows : s.clerks.windows with
  | nil => simp only [execIntakeDispatch, slot, tray, windows]
  | cons q qs =>
    have last : s.clerks.lastEgress = true := turn.resolve_left (by simp [windows])
    simp only [execIntakeDispatch, slot, tray, windows, last, ↓reduceIte]

theorem execIntakeDispatch_egress {k : Nat} {q : Packet} {qs : List Packet} (slot : s.pickSlot = some k)
    (windows : s.clerks.windows = q :: qs) (turn : s.clerks.tray = [] ∨ s.clerks.lastEgress = false) :
    execIntakeDispatch s = .next (s.startEgress k q) := by
  cases tray : s.clerks.tray with
  | nil => simp only [execIntakeDispatch, slot, tray, windows]
  | cons f fs =>
    have last : s.clerks.lastEgress = false := turn.resolve_left (by simp [tray])
    simp only [execIntakeDispatch, slot, tray, windows, last, Bool.false_eq_true, ↓reduceIte]

theorem execNanowordIssue_some {k : Nat} (ecc : Bool) (present : b.val < s.variant.benches)
    (ready : s.readySlot b c = some k) : execNanowordIssue b c ecc s = .next (s.issueSlot k (s.slotAt k) ecc) := by
  simp only [execNanowordIssue, present, ready, ↓reduceIte]

theorem execNanowordIssue_none (ecc : Bool) (present : b.val < s.variant.benches) (ready : s.readySlot b c = none) :
    execNanowordIssue b c ecc s = .next s := by
  simp only [execNanowordIssue, present, ready, ↓reduceIte]

/-- A load that meets an uncorrectable error in local memory is LOCAL_ECC at its address (04 R140). -/
theorem mem_load_ecc {w : View} {mem : Nat → Nat → Nat} {f base addr n : Nat} {e : Effects} (kind : bits f 47 44 ≤ 3)
    (dst : bits f 43 38 < 56) (read : w.read (bits f 37 32) none 3 = .ok base) (scale : bits f 14 13 = 0)
    (haddr : addr = bits f 31 15 + base) (hn : n = 2 ^ bits f 47 44) (inside : addr + n ≤ 0x18000)
    (aligned : addr % n = 0) (ecc : w.ecc = true) : w.mem mem f e = .error ⟨9, 3, addr⟩ := by
  have not_add : bits f 47 44 ≠ 8 := by omega
  have not_store : ¬ 4 ≤ bits f 47 44 := by omega
  have size : n = 2 ^ (bits f 47 44 % 4) := by rw [hn, Nat.mod_eq_of_lt (by omega)]
  have in_range : ¬ (0x17FFF < addr + n - 1 ∨ (4 ≤ bits f 47 44 ∧ frameBase < addr + n)) := by omega
  have legal : illegalIf (decide (56 ≤ bits f 43 38)) 3 = .ok () := by
    rw [illegalIf, if_neg (by simpa using dst)]
  simp only [View.mem, read, scale, not_add, kind, legal, bind, Except.bind, ↓reduceIte, Nat.mul_one, ← haddr, ← size,
    if_neg in_range, aligned, ecc, ne_eq, not_true_eq_false, true_or, and_self]

/-! What the nanoword sees is unchanged when it is counted. -/

theorem bump_units (f : Fam) (o : Nat) : (s.bump f o).units = s.units := by
  simp only [State.units, bump_time]

theorem bump_nanoAt (f : Fam) (o bench a : Nat) : (s.bump f o).nanoAt bench a = s.nanoAt bench a := by
  rw [State.nanoAt, State.bench, bump_clerks]
  rfl

theorem bump_aclRegs (f : Fam) (o e : Nat) : (s.bump f o).aclRegs e = s.aclRegs e := by
  funext profile
  simp only [State.aclRegs, State.see, State.isPending, State.isReplaced, bump_epoch, bump_lookup]

/-- A nanoword that traps within the budget, in a pass that handles no trap, is counted and takes its trap; a LOOKUP_FAULT
would note its lookup as well (04 R140). -/
theorem issueSlot_traps {k : Nat} {v : Slot} {mw : W32} {view : View} {x : Trap} (ecc : Bool) (idle : v.trap = none)
    (budget : v.issued < s.clerks.budget) (hmw : mw = s.microAt (k / 96) v.micro.toNat)
    (nano : bits mw.toNat 29 16 ≠ 0) (hview : view =
      { slot := v, place := k % 6 + k / 6 % 16 * 8 + k / 96 * 128, uimm := bits mw.toNat 15 0, ns := nsOf s.units, ecc := ecc })
    (traps : view.run (fun a n => Memory.readLe s.clerks.localMem (memBase k + a) n) (s.aclRegs v.epoch.toNat)
      (s.nanoAt (k / 96) (bits mw.toNat 29 16)) = .error x) (cause : x.cause ≠ 8) :
    s.issueSlot k v ecc = (s.bump .benchNanowords (k / 96)).trapSlot k { v with issued := v.issued + 1 } mw x := by
  subst hmw hview
  simp only [State.issueSlot, idle, Nat.not_le.mpr budget, nano, bump_units, bump_clerks, bump_aclRegs,
    bump_nanoAt, traps, cause, Option.map_none, reduceCtorEq, decide_false, Bool.false_and, Bool.not_false, Bool.and_false,
    Bool.or_false, Bool.false_eq_true, ↓reduceIte]

/-! ## Results land (04 R126, R137) -/

theorem wake_retiring {k : Nat} {v : Slot} (h : v.st = .retiring) : s.wake k v = s.setSlot k v := by
  rw [State.wake, if_pos (.inl h)]

section
variable {r : Fin 8} {d : Dispatch} (err rowBad waited : Bool) (delayed : W32)

theorem execLookupResult_waits (present : b.val < s.variant.benches)
    (found : (s.slotAt (slotKey b c i)).lookups.find? (fun d => d.result = r.val) = some d)
    (waits : s.policerWaits (slotKey b c i) d = true) : execLookupResult b c i r err rowBad waited delayed s = .next s := by
  simp only [execLookupResult, present, found, waits, ↓reduceIte]

/-- What completes wakes its slot, and lands in it unless it retires. -/
theorem execLookupResult_completes {v : Slot} {x : List W64 × State} (present : b.val < s.variant.benches)
    (hv : v = s.slotAt (slotKey b c i)) (found : v.lookups.find? (fun d => d.result = r.val) = some d)
    (free : s.policerWaits (slotKey b c i) d = false)
    (hx : x = (s.countWaits d waited delayed).engineResult v.epoch.toNat d err rowBad) :
    execLookupResult b c i r err rowBad waited delayed s = .next (x.2.wake (slotKey b c i)
      (if v.st = .retiring then { v with lookups := v.lookups.erase d }
        else Slot.landResult { v with lookups := v.lookups.erase d } d x.1)) := by
  subst hv hx
  simp only [execLookupResult, present, found, free, Bool.false_eq_true, ↓reduceIte]

end

theorem countWaits_rate {d : Dispatch} (delayed : W32) (acl : d.engine ≠ 5) (assoc : d.engine ≠ 6) :
    s.countWaits d true delayed = s.bump .lkpQueued (d.engine - 1) := by
  rw [State.countWaits, if_neg (by simp [acl, assoc]), if_pos rfl]

theorem execLocalLoadLand_lands {d : Load} {rest : List Load} (present : b.val < s.variant.benches)
    (loads : (s.slotAt (slotKey b c i)).loads = d :: rest) (due : d.cycle + 3 ≤ s.cycle)
    (running : (s.slotAt (slotKey b c i)).st ≠ .retiring) : execLocalLoadLand b c i s = .next (s.wake (slotKey b c i)
      (Slot.setReg { s.slotAt (slotKey b c i) with loads := rest } d.dst d.value.toNat)) := by
  simp only [execLocalLoadLand, present, loads, Nat.not_lt.mpr due, running, ↓reduceIte]

theorem execLocalLoadLand_early {d : Load} {rest : List Load} (present : b.val < s.variant.benches)
    (loads : (s.slotAt (slotKey b c i)).loads = d :: rest) (early : s.cycle < d.cycle + 3) :
    execLocalLoadLand b c i s = .next s := by
  simp only [execLocalLoadLand, present, loads, early, ↓reduceIte]

/-! ## The end of an ingress pass (04 R121, R125) -/

/-- The ingress pass of a slot has ended and nothing of it is in flight: the slot may retire. -/
structure MayRetire (s : State) (b : Fin 32) (v : Slot) (e : PassEnd) : Prop where
  present : b.val < s.variant.benches
  ended : v.ended = some e
  retiring : v.st = .retiring
  no_lookups : v.lookups = []
  no_loads : v.loads = []
  ingress : v.egress = false

theorem crossing_forward {v : Slot} (ingress : v.egress = false) :
    s.crossing v .forward = some (.ingress (s.forwarded v)) := by
  simp only [State.crossing, ingress, Bool.false_eq_true, ↓reduceIte]

/-- A pass that hands nothing on gives its blocks back and its hand-off position is passed over. -/
theorem execSlotRetire_ends {v : Slot} {e : PassEnd} {u : State} (rivals : List Rival)
    (hv : v = s.slotAt (slotKey b c i)) (h : MayRetire s b v e) (nothing : (s.bump .benchPassesIn b).crossing v e = none)
    (hu : u = ((((s.bump .benchPassesIn b).contest rivals fun s => s.takeResult v e).freeBlocks v.port v.blocks).abandon v)) :
    execSlotRetire b c i rivals s = .next (((u.pushFinished
      { port := v.port, egress := false, seqNo := v.seqNo, load := none, blocks := {} }).setSlot (slotKey b c i) {}).skipSeq
      v.port false (u.clerks.finished.length + 1)) := by
  obtain ⟨present, ended, retiring, no_lookups, no_loads, ingress⟩ := h
  subst hv hu
  simp only [execSlotRetire, present, ended, retiring, no_lookups, no_loads, ingress, nothing, ne_eq, not_true_eq_false,
    or_self, Bool.false_eq_true, ↓reduceIte]

/-- A pass that hands its packet on keeps its blocks until the hand-off. -/
theorem execSlotRetire_crosses {v : Slot} {e : PassEnd} {x : Crossing} {u : State} (rivals : List Rival)
    (hv : v = s.slotAt (slotKey b c i)) (h : MayRetire s b v e) (crosses : (s.bump .benchPassesIn b).crossing v e = some x)
    (hu : u = (s.bump .benchPassesIn b).contest rivals fun s => s.takeResult v e) :
    execSlotRetire b c i rivals s = .next (((u.pushFinished
      { port := v.port, egress := false, seqNo := v.seqNo, load := some x, blocks := v.blocks }).setSlot (slotKey b c i)
      {}).skipSeq v.port false (u.clerks.finished.length + 1)) := by
  obtain ⟨present, ended, retiring, no_lookups, no_loads, ingress⟩ := h
  subst hv hu
  simp only [execSlotRetire, present, ended, retiring, no_lookups, no_loads, ingress, crosses, ne_eq, not_true_eq_false,
    or_self, Bool.false_eq_true, reduceCtorEq, ↓reduceIte]

/-- A finished pass crosses unless ingress waits behind rewritten windows on two links or fewer (01 R28). -/
theorem execPassHandoff_crosses {t : State} {p : Fin 192} {egress : Bool} {f : Finished} {x : Crossing}
    (ready : s.handReady p egress = some f) (load : f.load = some x) (sent : s.sendFlit true x = some t)
    (turn : egress = true ∨ 3 ≤ s.liveD2d.length ∨ s.egressReady = false) :
    execPassHandoff p egress s = .next (t.handed f) := by
  have first : ¬ (¬ egress = true ∧ s.liveD2d.length ≤ 2 ∧ s.egressReady = true) := by
    rintro ⟨ingress, few, windows⟩
    rcases turn with h | h | h
    · exact ingress h
    · omega
    · exact Bool.false_ne_true (h.symm.trans windows)
  simp only [execPassHandoff, ready, load, sent, if_neg first]

end

/-- Settles O25: each clause by the equation of its command that its conditions select. In
lookupWaits and loadEcc, that a policer dispatch waits for one of a lower slot in its cycle and that a load meets an error of
its memory at issue is the model's deduction, not a rule's words (notes/assumptions/162.md). -/
theorem clerkPasses : Obligations.ClerkPasses := by
  refine ⟨?dispatchIngress, ?dispatchEgress, ?issue, ?issueNone, ?lookup, ?lookupWaits, ?lookupLands, ?waits, ?load,
    ?loadEarly, ?loadEcc, ?issueTraps, ?retireDrop, ?retireForward, ?handoff, ?handoffIn⟩
  case dispatchIngress => exact fun s k f fs slot tray turn => execIntakeDispatch_ingress slot tray turn
  case dispatchEgress => exact fun s k q qs slot windows turn => execIntakeDispatch_egress slot windows turn
  case issue => exact fun s b c ecc k present ready => execNanowordIssue_some ecc present ready
  case issueNone => exact fun s b c ecc present ready => execNanowordIssue_none ecc present ready
  case lookup =>
    intro s b c i r err rowBad waited delayed d present found free retiring
    rw [exec_lookupResult, execLookupResult_completes err rowBad waited delayed present rfl found free rfl, if_pos retiring]
    exact congrArg Host.Outcome.next (wake_retiring retiring)
  case lookupWaits =>
    exact fun s b c i r err rowBad waited delayed d present found waits =>
      execLookupResult_waits err rowBad waited delayed present found waits
  case lookupLands =>
    intro s b c i r err rowBad waited delayed d present found free running
    rw [exec_lookupResult, execLookupResult_completes err rowBad waited delayed present rfl found free rfl, if_neg running]
  case waits => exact fun s d delayed acl assoc => countWaits_rate delayed acl assoc
  case load => exact fun s b c i d rest present loads due running => execLocalLoadLand_lands present loads due running
  case loadEarly => exact fun s b c i d rest present loads early => execLocalLoadLand_early present loads early
  case loadEcc =>
    exact fun w mem f base addr n e kind dst read scale haddr hn inside aligned ecc =>
      mem_load_ecc kind dst read scale haddr hn inside aligned ecc
  case issueTraps =>
    exact fun s k v ecc mw view x idle budget hmw nano hview traps cause =>
      issueSlot_traps ecc idle budget hmw nano hview traps cause
  case retireDrop =>
    exact fun s b c i rivals r present ended retiring no_lookups no_loads ingress =>
      execSlotRetire_ends rivals rfl ⟨present, ended, retiring, no_lookups, no_loads, ingress⟩ rfl rfl
  case retireForward =>
    exact fun s b c i rivals present ended retiring no_lookups no_loads ingress =>
      execSlotRetire_crosses rivals rfl ⟨present, ended, retiring, no_lookups, no_loads, ingress⟩
        (crossing_forward ingress) rfl
  case handoff => exact fun s t p f x ready load sent => execPassHandoff_crosses ready load sent (.inl rfl)
  case handoffIn => exact fun s t p f x ready load turn sent => execPassHandoff_crosses ready load sent (.inr turn)

end Sys2Proof.Machine

namespace Sys2Proof.Machine

/-! # The states of a port (03 R87-R93; 16 R466) -/

section
variable {s : State} {port : Fin 192}

theorem onPort_present {p : Nat} {f : State → State} (present : s.hasPort p = true) : onPort s p f = .next (f s) :=
  if_pos present

/-! ## Training, alignment and faults (03 R87, R89, R90) -/

theorem execTrainingComplete_trained (present : s.hasPort port = true) (training : (s.port port).state = .training)
    (on : s.lanesOn port = true) : execTrainingComplete port s = .next (s.enter port .aligning) := by
  rw [execTrainingComplete, onPort_present present, if_pos ⟨training, on⟩]

theorem execTrainingTimeout_due (present : s.hasPort port = true) (training : (s.port port).state = .training)
    (due : (s.port port).since + (s.port port).trainTimeout ≤ s.up) :
    execTrainingTimeout port s = .next (s.enter port .training) := by
  rw [execTrainingTimeout, onPort_present present]
  exact congrArg _ (if_pos ⟨training, due⟩)

theorem execAlignmentAchieved_aligned (present : s.hasPort port = true) (aligning : (s.port port).state = .aligning)
    (on : s.lanesOn port = true) (sound : (s.port port).localFault = false) (clock : s.serdesOk = true) :
    execAlignmentAchieved port s = .next (s.setPort port { s.port port with
      state := .holdOff, since := s.up, lockLost := false, lock := (s.port port).fullLock }) := by
  rw [execAlignmentAchieved, onPort_present present]
  exact congrArg _ (if_pos ⟨aligning, on, by simp [sound], clock⟩)

/-- A remote or local fault in UP is flagged and acts at once. -/
theorem portFault_up {p : Nat} {cause : PortFaultCause} (up : (s.port p).state = .up) (kept : cause ≠ .lockLoss) :
    s.portFault p cause = (s.setPort p ((s.port p).flag cause true)).faultPort p := by
  cases cause with
  | lockLoss => exact absurd rfl kept
  | localFault => simp [State.portFault, Port.flag, up]
  | remoteFault => simp [State.portFault, Port.flag, up]

theorem faultPort_debounced {p : Nat} (wait : (s.port p).debounce ≠ 0) : s.faultPort p = s.enter p .faulted :=
  if_neg wait

theorem faultPort_at_once {p : Nat} (no_wait : (s.port p).debounce = 0) :
    s.faultPort p = (s.enter p .down).portDown p :=
  if_pos no_wait

/-- In DOWN, when the last cause goes, the port aligns again. -/
theorem portFaultClear_down {p : Nat} (down : (s.port p).state = .down) (locked : (s.port p).lockLost = false)
    (sound : (s.port p).localFault = false) : s.portFaultClear p .remoteFault =
      (s.setPort p { s.port p with remoteFault := false }).enter p .aligning := by
  simp [State.portFaultClear, Port.flag, Port.faulty, down, locked, sound]

/-! ## Debounce, hold-off, degrade and the end of a disable (03 R91-R94) -/

theorem execDownDebounceExpiry_due (present : s.hasPort port = true) (faulted : (s.port port).state = .faulted)
    (due : (s.port port).since + (s.port port).debounce ≤ s.up) :
    execDownDebounceExpiry port s = .next ((s.enter port .down).portDown port) := by
  rw [execDownDebounceExpiry, onPort_present present]
  exact congrArg _ (if_pos ⟨faulted, due⟩)

theorem execUpHoldoffExpiry_due (present : s.hasPort port = true) (held : (s.port port).state = .holdOff)
    (due : (s.port port).since + (s.port port).holdoff ≤ s.up) (sound : (s.port port).faulty = false) :
    execUpHoldoffExpiry port s = .next ((s.enter port .up).portUp port) := by
  rw [execUpHoldoffExpiry, onPort_present present]
  simp only [held, due, sound, and_self, Bool.false_eq_true, ↓reduceIte]

theorem execFecDegradeTimer_changed {above : Bool} (present : s.hasPort port = true)
    (enabled : (s.port port).state ≠ .disabled) (changed : (s.port port).fecDegraded ≠ above) :
    execFecDegradeTimer port above s = .next (let u := s.setPort port { s.port port with fecDegraded := above }
      u.event (u.owner 0x14 port) (u.mkEvent 0x0003 port (b2n above))) := by
  rw [execFecDegradeTimer, onPort_present present]
  exact congrArg _ (if_neg fun h => h.elim enabled changed)

theorem execPortDisableComplete_due (present : s.hasPort port = true) (disabling : (s.port port).disabling = true)
    (due : (s.port port).idleSince + 1000 ≤ s.up) :
    execPortDisableComplete port s = .next ((s.stopPort port PortSt.carried).octetsOff
      (if (s.port port).kind = .native then (s.port port).lanes port else [])) := by
  rw [execPortDisableComplete, onPort_present present]
  exact congrArg _ (if_neg (by simp [disabling, due]))

end

/-- Settles O21: a timer or a completion by its command's equation, a fault by what the port's state and its debounce make
of it. -/
theorem portStates : Obligations.PortStates := by
  refine ⟨?trained, ?trainTimeout, ?aligned, ?fault, ?faultDown, ?faultClear, ?debounced, ?up, ?fecDegraded, ?disabled,
    ?sends⟩
  case trained => exact fun s port present training on => execTrainingComplete_trained present training on
  case trainTimeout => exact fun s port present training due => execTrainingTimeout_due present training due
  case aligned =>
    exact fun s port present aligning on sound clock => execAlignmentAchieved_aligned present aligning on sound clock
  case fault =>
    intro s port present up wait
    rw [exec_portFault, execPortFault, onPort_present present, portFault_up up (by decide),
      faultPort_debounced (by rw [port_setPort]; exact wait)]
    rfl
  case faultDown =>
    intro s port present up no_wait
    rw [exec_portFault, execPortFault, onPort_present present, portFault_up up (by decide),
      faultPort_at_once (by rw [port_setPort]; exact no_wait)]
    rfl
  case faultClear =>
    intro s port present down locked sound
    rw [exec_portFaultClear, execPortFaultClear, onPort_present present, portFaultClear_down down locked sound]
  case debounced => exact fun s port present faulted due => execDownDebounceExpiry_due present faulted due
  case up => exact fun s port present held due sound => execUpHoldoffExpiry_due present held due sound
  case fecDegraded =>
    exact fun s port above present enabled changed => execFecDegradeTimer_changed present enabled changed
  case disabled => exact fun s port present disabling due => execPortDisableComplete_due present disabling due
  case sends =>
    intro v
    refine ⟨?_, ?_, ?_, ?_, ?_, ?_⟩
    · intro off; simp only [Port.sends, off]
    · intro training; simp only [Port.sends, training]
    · intro aligning; simp only [Port.sends, aligning]
    · intro held; simp only [Port.sends, held]
    · intro up remote; simp [Port.sends, up, remote]
    · intro up remote running; simp [Port.sends, up, remote, running]

end Sys2Proof.Machine

namespace Sys2Proof.Machine

/-! # Ports: frames, pauses and the PORT letters (03 R79-R94; 07 R241) -/

section
variable {s : State} {port : Fin 192} {l : LetterId}

@[simp] theorem bump_port (f : Fam) (i j n v p : Nat) : (s.bump f i j n v).port p = s.port p := by
  rw [State.port, bump_line, State.port]

/-- A port that hears is not DISABLED. -/
theorem enabled_of_hearing {v : Port} (hearing : v.deaf = false) : v.state ≠ .disabled := by
  intro off
  simp [Port.deaf, off] at hearing

/-! ## FRAME_RECEIVE (03 R84, R93, R114) -/

/-- The counter of the first cause, in order, that discards a frame of some octets at the receive MAC (03 R84). -/
def discardCause (v : Port) (len : Nat) (fcsOk fecOk : Bool) : Option Fam :=
  if len < 64 then some .rxRunt
  else if v.mtu < len then some .rxOversize
  else if ¬ fcsOk then some .rxFcs
  else if ¬ fecOk then some .rxFecDiscard
  else if v.state ≠ .up then some .rxNotUp
  else none

/-- The receive MAC has counted a frame's codewords and seen its end. -/
def State.heardFrame (s : State) (port : Fin 192) (codewords : List Codeword) : State :=
  (codewords.foldl (State.countCodeword port) s).setPort port { s.port port with rxOpen := false }

/-- A frame that was heard is counted as discarded by a cause, or counted as good and taken to the tray. -/
def State.settleFrame (s : State) (port : Fin 192) (data : List Byte) : Option Fam → State
  | some cause => s.bump cause port 0 1 (data.length + 4)
  | none => (s.bump .rxOk port 0 1 (data.length + 4)).toTray port data none

theorem execFrameReceive_hearing {data : List Byte} {fcsOk fecOk : Bool} {codewords : List Codeword}
    (present : s.hasPort port = true) (hearing : (s.port port).deaf = false) :
    execFrameReceive port data fcsOk fecOk codewords s = .next
      ((s.heardFrame port codewords).settleFrame port data (discardCause (s.port port) (data.length + 4) fcsOk fecOk)) := by
  rw [execFrameReceive, onPort_present present, discardCause]
  simp only [enabled_of_hearing hearing, hearing, Bool.false_eq_true, ↓reduceIte,
    apply_ite (State.settleFrame (s.heardFrame port codewords) port data)]
  rfl

theorem execFrameReceive_deaf {data : List Byte} {fcsOk fecOk : Bool} {codewords : List Codeword}
    (present : s.hasPort port = true) (deaf : (s.port port).deaf = true) :
    execFrameReceive port data fcsOk fecOk codewords s = .next
      (if (s.port port).state = .disabled then s else codewords.foldl (State.countCodeword port) s) := by
  rw [execFrameReceive, onPort_present present]
  simp only [deaf, ↓reduceIte]

section
variable {v : Port} {n : Nat} {fcsOk fecOk : Bool}

theorem discardCause_runt (short : n < 60) : discardCause v (n + 4) fcsOk fecOk = some .rxRunt :=
  if_pos (by omega)

theorem discardCause_oversize (long : 60 ≤ n) (exceeds : v.mtu < n + 4) :
    discardCause v (n + 4) fcsOk fecOk = some .rxOversize := by
  rw [discardCause, if_neg (by omega), if_pos exceeds]

/-- A frame of a length that the port takes is discarded for its FCS, then for its codewords, then for the port's state. -/
theorem discardCause_fits (long : 60 ≤ n) (fits : n + 4 ≤ v.mtu) : discardCause v (n + 4) fcsOk fecOk =
    if ¬ fcsOk then some .rxFcs else if ¬ fecOk then some .rxFecDiscard
    else if v.state ≠ .up then some .rxNotUp else none := by
  rw [discardCause, if_neg (by omega), if_neg (Nat.not_lt.mpr fits)]

end

/-! ## Codewords (03 R114) -/

/-- A codeword with corrected symbols on one lane: the lane's symbols, the codeword and its bin of the histogram. -/
theorem countCodeword_one_lane (p : Nat) (lane : Fin 192) {n : Fin 16} (some_symbols : 0 < n.val) :
    State.countCodeword p s (.corrected [(lane, n)]) =
      ((s.bump .fecSymbols lane 0 n).bump .fecCorrected p).bump .fecHistogram p n := by
  have bin : min 15 n.val = n.val := Nat.min_eq_right (Nat.le_of_lt_succ n.isLt)
  have once : min 1 n.val = 1 := Nat.min_eq_left some_symbols
  simp only [State.countCodeword, List.map_cons, List.map_nil, List.sum_cons, List.sum_nil, Nat.add_zero, List.foldl_cons,
    List.foldl_nil, State.bumpBy, Nat.ne_of_gt some_symbols, once, bin, Nat.one_ne_zero, ↓reduceIte]

/-! ## FRAME_TRANSMIT (03 R85, R87) -/

/-- The octets of a packet up to its FCS, padded. -/
def Packet.frameBody (p : Packet) : List Byte := p.data ++ List.replicate (60 - p.data.length) 0#8

/-- The packet at the MAC leaves the queue and is counted. -/
def State.startedFrame (s : State) (port : Fin 192) (p : Packet) (rest : List Packet) : State :=
  let u := s.setPort port { s.port port with txOpen := false, idleSince := s.up }
  State.bump { u with line := { u.line with tx := nset [] port.val rest u.line.tx } } .txOk port 0 1
    (p.frameBody.length + 4)

section
variable {p : Packet} {rest : List Packet}

theorem execFrameTransmit_good (present : s.hasPort port = true) (front : nget [] s.line.tx port.val = p :: rest)
    (frames : (s.port port).sends = .frames) (untagged : p.tag = none) (good : p.poisoned = false) :
    execFrameTransmit port s = .next
      ((s.startedFrame port p rest).emit (.frame port (p.frameBody ++ fcs p.frameBody) false)) := by
  rw [execFrameTransmit, onPort_present present]
  simp only [front, frames, State.tagQueue, State.tagStage, untagged, good, ne_eq, not_true_eq_false, Bool.false_eq_true,
    ↓reduceIte]
  rfl

theorem execFrameTransmit_bad (present : s.hasPort port = true) (front : nget [] s.line.tx port.val = p :: rest)
    (frames : (s.port port).sends = .frames) (untagged : p.tag = none) (bad : p.poisoned = true) :
    execFrameTransmit port s = .next
      (((s.startedFrame port p rest).emit (.frame port (p.frameBody ++ (fcs p.frameBody).map (~~~ ·)) true)).bump
        .txFcsInverted port 0 1 (p.frameBody.length + 4)) := by
  rw [execFrameTransmit, onPort_present present]
  simp only [front, frames, State.tagQueue, State.tagStage, untagged, bad, ne_eq, not_true_eq_false, ↓reduceIte]
  rfl

theorem execFrameTransmit_empty (present : s.hasPort port = true) (empty : nget [] s.line.tx port.val = []) :
    execFrameTransmit port s = .next s := by
  rw [execFrameTransmit, onPort_present present]
  simp only [empty]

theorem execFrameTransmit_silent (present : s.hasPort port = true) (silent : (s.port port).sends ≠ .frames) :
    execFrameTransmit port s = .next s := by
  rw [execFrameTransmit, onPort_present present]
  cases front : nget [] s.line.tx port.val with
  | nil => rfl
  | cons p rest => simp only [silent, ne_eq, not_false_eq_true, ↓reduceIte]

end

/-! ## Pauses (03 R86, R90; 07 R241) -/

section
variable {pfc : Bool} {classes : BitVec 8} {quanta : BitVec 128}

theorem execPauseReceive_notUp (present : s.hasPort port = true) (hearing : (s.port port).deaf = false)
    (away : (s.port port).state ≠ .up) : execPauseReceive port pfc classes quanta s =
      .next ((s.setPort port { s.port port with rxOpen := false }).bump .rxNotUp port 0 1 64) := by
  rw [execPauseReceive, onPort_present present]
  simp only [hearing, port_setPort, away, ne_eq, not_false_eq_true, Bool.false_eq_true, ↓reduceIte]

theorem execPauseReceive_ignored (present : s.hasPort port = true) (hearing : (s.port port).deaf = false)
    (up : (s.port port).state = .up) (ignored : (s.port port).kind ≠ .native ∨ (s.port port).pauseOn = false) :
    execPauseReceive port pfc classes quanta s =
      .next ((s.setPort port { s.port port with rxOpen := false }).bump .rxPause port 0 1 64) := by
  rw [← Bool.not_eq_true] at ignored
  rw [execPauseReceive, onPort_present present]
  simp only [hearing, port_setPort, bump_port, up, ne_eq, not_true_eq_false, ignored, Bool.false_eq_true, ↓reduceIte]

theorem execPauseReceive_acts (present : s.hasPort port = true) (hearing : (s.port port).deaf = false)
    (up : (s.port port).state = .up) (native : (s.port port).kind = .native) (on : (s.port port).pauseOn = true) :
    execPauseReceive port false classes quanta s =
      .next (let u := (s.setPort port { s.port port with rxOpen := false }).bump .rxPause port 0 1 64
        (u.setPort port { u.port port with pauseUntil := u.pauseEnd port (bits quanta.toNat 15 0) }).settlePause port) := by
  rw [execPauseReceive, onPort_present present]
  simp only [hearing, port_setPort, bump_port, up, native, on, ne_eq, not_true_eq_false, or_self, Bool.false_eq_true,
    ↓reduceIte]

end

theorem execPauseExpiry_port (present : s.hasPort port = true) (due : (s.port port).pauseUntil ≤ s.up) :
    execPauseExpiry port none s = .next ((s.setPort port { s.port port with pauseUntil := 0 }).settlePause port) := by
  rw [execPauseExpiry, onPort_present present]
  simp only [due, ↓reduceIte]

/-! ## PORT.CONFIGURE (03 R79, R80, R82, R94) -/

/-- The parameters other than the port's lanes that are MALFORMED outside their range are within it. -/
structure LegalPortArgs (a : PortArgs) : Prop where
  mode : a.mode.toNat ≤ 4
  medium : a.medium.toNat ≤ 1
  pause : a.pause.toNat ≤ 1
  pcpMap : a.pcpMap.toNat ≤ 65535
  tcMap : a.tcMap.toNat ≤ 65535
  hashProfile : a.hashProfile.toNat ≤ 7
  alwaysOn : a.alwaysOn.toNat ≤ 1

/-- The quantities are within the ranges to which others are clamped. -/
structure UnclampedPortArgs (a : PortArgs) : Prop where
  mtu_low : 1518 ≤ a.mtu.toNat
  mtu_high : a.mtu.toNat ≤ 9728
  train_low : 1000000000 ≤ a.trainTimeout.toNat
  train_high : a.trainTimeout.toNat ≤ 30000000000
  debounce_high : a.debounce.toNat ≤ 100000000
  holdoff_high : a.holdoff.toNat ≤ 10000000000
  fec_low : 1000 ≤ a.fecDegrade.toNat
  fec_high : a.fecDegrade.toNat ≤ 1000000

/-- The port's number and lanes are the slice's to configure: no other user has them, and no user of the lanes that it
takes or gives up is enabled (03 R79, R80, R82). -/
structure FreePortLanes (s : State) (sl : Nat) (a : PortArgs) : Prop where
  legal : legalLanes a.mode.toNat a.port.toNat = true
  apart : (portLanes a).any (fun x =>
    (s.nativeLanes a.port.toNat).contains x || (octetsOf (s.flexeLanes ++ s.otuLanes)).contains (x / 8)) = false
  kind : (s.port a.port.toNat).kind = .unused ∨ (s.port a.port.toNat).kind = .native
  mine : s.portExists sl a.port.toNat = true
  idle : (portLanes a ++ if (s.port a.port.toNat).kind = .native then (s.port a.port.toNat).lanes a.port.toNat else []).any
    (fun x => s.enabledLanes.contains x) = false

/-- The parameters as a letter carries them. -/
def portPars (a : PortArgs) : List Par :=
  [p4 a.port, p4 a.mode, p4 a.medium, p8 a.mtu, p8 a.trainTimeout, p8 a.debounce, p8 a.holdoff, p4 a.fecDegrade, p4 a.pause,
    p4 a.pcpMap, p4 a.tcMap, p4 a.dscpMap0, p4 a.dscpMap1, p4 a.dscpMap2, p4 a.dscpMap3, p4 a.hashProfile, p4 a.alwaysOn]

/-- A port with the settings of a letter. -/
def Port.configured (v : Port) (a : PortArgs) (byZero : Bool) : Port := { v with
  kind := .native, mode := a.mode.toNat, optics := decide (a.medium = 1#32), mtu := a.mtu.toNat
  trainTimeout := a.trainTimeout.toNat, debounce := a.debounce.toNat, holdoff := a.holdoff.toNat
  fecDegrade := a.fecDegrade.toNat, pauseOn := decide (a.pause = 1#32), pcpMap := a.pcpMap, tcMap := a.tcMap
  dscpMap := a.dscpMap3 ++ a.dscpMap2 ++ a.dscpMap1 ++ a.dscpMap0, hashProfile := a.hashProfile.toNat
  alwaysOn := decide (a.alwaysOn = 1#32), byZero := byZero }

/-- A port takes its settings; when that takes its always-on mark back, its octet may go off (03 R94;
notes/assumptions/127.md). -/
def State.configurePort (s : State) (a : PortArgs) (byZero : Bool) : State :=
  let u := s.setPort a.port.toNat ((s.port a.port.toNat).configured a byZero)
  if (s.port a.port.toNat).alwaysOn && !decide (a.alwaysOn = 1#32) then u.octetsOff [a.port.toNat] else u

/-- Lanes that no other user has do not overlap, whether or not one of them is in use. -/
theorem overlaps_eq_false {xs native octets : List Nat} {held : Bool}
    (apart : xs.any (fun x => native.contains x || octets.contains (x / 8)) = false) :
    xs.any (fun x => native.contains x || (!held && octets.contains (x / 8))) = false := by
  rw [List.any_eq_false] at apart ⊢
  intro x hx
  obtain ⟨not_native, not_octet⟩ : ¬ native.contains x = true ∧ ¬ octets.contains (x / 8) = true := by
    simpa only [Bool.or_eq_true, not_or] using apart x hx
  simp only [not_native, not_octet, Bool.and_false, Bool.or_self, Bool.false_eq_true, not_false_eq_true]

theorem execPortConfigure_accepted {a : PortArgs} (h : Claimed s l 0x0401 (portPars a)) (args : LegalPortArgs a)
    (fits : UnclampedPortArgs a) (lanes : FreePortLanes s l.slice.val a) : ∃ t, exec (.portConfigure l a) s = .next t ∧
      Accepted s (s.configurePort a (decide (l.slice.val = 0))) t l .done (layBody (portPars a)) := by
  obtain ⟨mode, medium, pause, pcpMap, tcMap, hashProfile, alwaysOn⟩ := args
  obtain ⟨mtu_low, mtu_high, train_low, train_high, debounce_high, holdoff_high, fec_low, fec_high⟩ := fits
  obtain ⟨legal, apart, kind, mine, idle⟩ := lanes
  refine ⟨_, rfl, runLetter_accepted h fun c hc => ?_⟩
  subst hc
  simp only [clampU_mem (w := 64) (by omega) mtu_low mtu_high, clampU_mem (w := 64) (by omega) train_low train_high,
    clampU_mem (w := 64) (by omega) (Nat.zero_le _) debounce_high,
    clampU_mem (w := 64) (by omega) (Nat.zero_le _) holdoff_high, clampU_mem (w := 32) (by omega) fec_low fec_high]
  refine (checked_ok ?_).trans rfl
  have other : (decide ((s.port a.port.toNat).kind ≠ .unused) && decide ((s.port a.port.toNat).kind ≠ .native)) = false := by
    rcases kind with kind | kind <;> simp [kind]
  have taken : (!legalLanes a.mode.toNat a.port.toNat) = false := by rw [legal]; rfl
  have here : (!s.portExists c.sl a.port.toNat) = false := by rw [Ctx.sl, mine]; rfl
  simp only [List.forall_mem_cons, List.not_mem_nil, false_implies, implies_true, and_true, malformed, noObj, busy,
    Bool.or_eq_false_iff, decide_eq_false_iff_not, Nat.not_lt]
  exact ⟨mode, medium, pause, pcpMap, tcMap, hashProfile, alwaysOn, ⟨⟨taken, overlaps_eq_false apart⟩, other⟩, here, idle⟩

/-! ## PORT.ENABLE and PORT.DISABLE (03 R90, R93, R94) -/

section
variable {p : W32}

theorem execPortEnable_accepted (h : Claimed s l 0x0402 [p4 p]) (mine : s.portExists l.slice.val p.toNat = true)
    (native : (s.port p.toNat).kind = .native) (off : (s.port p.toNat).state = .disabled)
    (stays : (s.port p.toNat).disabling = false) : ∃ t, exec (.portEnable l p) s = .next t ∧
      Accepted s ((s.enter p.toNat (if (s.port p.toNat).optics then .aligning else .training)).octetsOn
        ((s.port p.toNat).lanes p.toNat)) t l .done (layBody [p4 p]) := by
  refine ⟨_, rfl, runLetter_accepted h fun c hc => ?_⟩
  subst hc
  refine (checked_ok ?_).trans ?_
  · have live : s.clientLive p.toNat = true := by simp [State.clientLive, native]
    simp [noObj, busy, Ctx.sl, mine, stays, live]
  · cases optics : (s.port p.toNat).optics <;> simp [accept, State.startPort, off, native, optics]

theorem execPortDisable_accepted (h : Claimed s l 0x0403 [p4 p]) (mine : s.portExists l.slice.val p.toNat = true)
    (on : (s.port p.toNat).state ≠ .disabled) (stays : (s.port p.toNat).disabling = false) :
    ∃ t, exec (.portDisable l p) s = .next t ∧ Accepted s (s.setPort p.toNat { s.port p.toNat with
      disabling := true, disableLetter := some l, rxOpen := true, txOpen := decide ((s.port p.toNat).state = .up),
      idleSince := s.up }) t l .done (layBody [p4 p]) true := by
  refine ⟨_, rfl, runLetter_accepted h fun c hc => ?_⟩
  subst hc
  refine (checked_ok ?_).trans (if_neg on)
  simp [noObj, busy, Ctx.sl, mine, stays]


theorem execPortDisable_idle (h : Claimed s l 0x0403 [p4 p]) (mine : s.portExists l.slice.val p.toNat = true)
    (off : (s.port p.toNat).state = .disabled) (stays : (s.port p.toNat).disabling = false) :
    ∃ t, exec (.portDisable l p) s = .next t ∧ Accepted s s t l .done (layBody [p4 p]) := by
  refine ⟨_, rfl, runLetter_accepted h fun c hc => ?_⟩
  subst hc
  refine (checked_ok ?_).trans (if_pos off)
  simp [noObj, busy, Ctx.sl, mine, stays]

end

/-! ## PORT.SET_LANE_MAP, PORT.SET_DELAY, PORT.SET_TX_EQ and PORT.STATUS (03 R81, R82, R88, R89) -/

theorem execPortSetLaneMap_accepted {octet map rxInvert txInvert : W32}
    (h : Claimed s l 0x0404 [p4 octet, p4 map, p4 rxInvert, p4 txInvert]) (zero : l.slice.val = 0)
    (here : octet.toNat < s.variant.octets) (octets : s.variant.octets ≤ 24) (map_lt : map.toNat < 2 ^ 24)
    (permutes : isPermutation map.toNat = true) (rx : rxInvert.toNat ≤ 255) (tx : txInvert.toNat ≤ 255)
    (idle : (octetsOf s.enabledLanes).contains octet.toNat = false) :
    ∃ t, exec (.portSetLaneMap l octet map rxInvert txInvert) s = .next t ∧ Accepted s { s with line := { s.line with
      octets := nset {} octet.toNat ⟨BitVec.ofNat 24 map.toNat, BitVec.ofNat 8 rxInvert.toNat,
        BitVec.ofNat 8 txInvert.toNat⟩ s.line.octets } } t l .done
      (layBody [p4 octet, p4 map, p4 rxInvert, p4 txInvert]) := by
  refine ⟨_, rfl, runLetter_accepted h fun c hc => ?_⟩
  subst hc
  refine (checked_ok ?_).trans rfl
  have octet_le : octet.toNat ≤ 23 := by omega
  have zero : c.sl = 0 := zero
  simp only [List.forall_mem_cons, List.not_mem_nil, false_implies, implies_true, and_true, malformed, noObj, busy,
    Bool.or_eq_false_iff, decide_eq_false_iff_not, Nat.not_lt, Nat.not_le, Bool.not_eq_false', ne_eq, Decidable.not_not]
  exact ⟨octet_le, ⟨map_lt, permutes⟩, rx, tx, ⟨here, zero⟩, idle⟩

theorem execPortSetDelay_accepted {p : W32} {rx tx : W64} (h : Claimed s l 0x0405 [p4 p, p8 rx, p8 tx])
    (mine : s.portExists l.slice.val p.toNat = true) (rx_low : -100000 ≤ sext 64 rx.toNat)
    (rx_high : sext 64 rx.toNat ≤ 100000) (rx_new : rx.toNat ≠ 2 ^ 63) (tx_low : -100000 ≤ sext 64 tx.toNat)
    (tx_high : sext 64 tx.toNat ≤ 100000) (tx_new : tx.toNat ≠ 2 ^ 63) :
    ∃ t, exec (.portSetDelay l p rx tx) s = .next t ∧ Accepted s (s.setPort p.toNat { s.port p.toNat with
      rxDelay := sext 64 rx.toNat, txDelay := sext 64 tx.toNat }) t l .done
      (layBody [p4 p, p8s (sext 64 rx.toNat), p8s (sext 64 tx.toNat)]) := by
  refine ⟨_, rfl, runLetter_accepted h fun c hc => ?_⟩
  subst hc
  simp only [clampS_mem (w := 64) rx_new rx_low rx_high, clampS_mem (w := 64) tx_new tx_low tx_high]
  refine (checked_ok ?_).trans rfl
  simp [noObj, Ctx.sl, mine]

theorem execPortSetTxEq_accepted {lane : W32} {taps : TxTaps}
    (h : Claimed s l 0x0406 [p4 lane, p4 taps.pre2, p4 taps.pre1, p4 taps.main, p4 taps.post1]) (zero : l.slice.val = 0)
    (here : lane.toNat < s.variant.lanes) (lanes : s.variant.lanes ≤ 192)
    (fits : (tapsOf taps (nget {} s.line.taps lane.toNat)).2.2 = [(1, false), (2, false), (3, false), (4, false)]) :
    ∃ t, exec (.portSetTxEq l lane taps) s = .next t ∧ Accepted s { s with line := { s.line with
      taps := nset {} lane.toNat (tapsOf taps (nget {} s.line.taps lane.toNat)).1 s.line.taps } } t l .done
      (layBody (p4 lane :: (tapsOf taps (nget {} s.line.taps lane.toNat)).2.1)) := by
  refine ⟨_, rfl, runLetter_accepted h fun c hc => ?_⟩
  subst hc
  refine (checked_ok ?_).trans ?_
  · have lane_le : lane.toNat ≤ 191 := by omega
    have zero : c.sl = 0 := zero
    simp [malformed, noObj, lane_le, here, zero]
  · rw [fits]
    rfl

theorem execPortStatus_accepted {p : W32} (h : Claimed s l 0x0407 [p4 p])
    (mine : s.portExists l.slice.val p.toNat = true) :
    ∃ t, exec (.portStatus l p) s = .next t ∧ Accepted s s t l .done (layBody [n4 (s.port p.toNat).state.code,
      n4 (b2n (s.port p.toNat).fecDegraded), n4 (s.port p.toNat).lock.toNat, n4 0]) := by
  refine ⟨_, rfl, runLetter_accepted h fun c hc => ?_⟩
  subst hc
  refine (checked_ok ?_).trans rfl
  simp [noObj, Ctx.sl, mine]

end

/-- Settles O20: a frame by the first cause that discards it, a pause by the port's state and settings, a letter by its
checks, which all pass. That an octet counts as always on while any of its ports is so marked is the model's choice
(notes/assumptions/127.md); which error a lane in use gives and what a lane's number counts are deduced
(notes/assumptions/42.md, 46.md). -/
theorem portFramesPausesAndLetters : Obligations.PortFramesPausesAndLetters := by
  refine ⟨?rxGood, ?rxNotUp, ?rxRunt, ?rxOversize, ?rxFcs, ?rxFec, ?rxDeaf, ?codewordBad, ?codewordGood, ?tx, ?txBad,
    ?txNone, ?pauseNotUp, ?pauseOff, ?pauseOn, ?pauseExpiry, ?configure, ?enable, ?disable, ?disableIdle, ?setLaneMap,
    ?setDelay, ?setTxEq, ?status⟩
  case rxGood =>
    intro s port data cws present up hearing long fits
    rw [exec_frameReceive, execFrameReceive_hearing present hearing, discardCause_fits long fits, if_neg (by simp),
      if_neg (by simp), if_neg (by simp [up])]
    rfl
  case rxNotUp =>
    intro s port data cws present away hearing long fits
    rw [exec_frameReceive, execFrameReceive_hearing present hearing, discardCause_fits long fits, if_neg (by simp),
      if_neg (by simp), if_pos away]
    rfl
  case rxRunt =>
    intro s port data fcsOk fecOk cws present hearing short
    rw [exec_frameReceive, execFrameReceive_hearing present hearing, discardCause_runt short]
    rfl
  case rxOversize =>
    intro s port data fcsOk fecOk cws present hearing long exceeds
    rw [exec_frameReceive, execFrameReceive_hearing present hearing, discardCause_oversize long exceeds]
    rfl
  case rxFcs =>
    intro s port data fecOk cws present hearing long fits
    rw [exec_frameReceive, execFrameReceive_hearing present hearing, discardCause_fits long fits, if_pos (by simp)]
    rfl
  case rxFec =>
    intro s port data cws present hearing long fits
    rw [exec_frameReceive, execFrameReceive_hearing present hearing, discardCause_fits long fits, if_neg (by simp),
      if_pos (by simp)]
    rfl
  case rxDeaf => exact fun s port data fcsOk fecOk cws present deaf => execFrameReceive_deaf present deaf
  case codewordBad => exact fun s p => rfl
  case codewordGood => exact fun s p lane n some_symbols => countCodeword_one_lane p lane some_symbols
  case tx =>
    intro s u port p rest present front frames untagged good hu
    subst hu
    exact execFrameTransmit_good present front frames untagged good
  case txBad =>
    intro s u port p rest present front frames untagged bad hu
    subst hu
    exact execFrameTransmit_bad present front frames untagged bad
  case txNone =>
    intro s port present idle
    rcases idle with empty | silent
    · exact execFrameTransmit_empty present empty
    · exact execFrameTransmit_silent present silent
  case pauseNotUp => exact fun s port pfc classes quanta present hearing away => execPauseReceive_notUp present hearing away
  case pauseOff =>
    exact fun s port pfc classes quanta present hearing up ignored => execPauseReceive_ignored present hearing up ignored
  case pauseOn =>
    exact fun s port classes quanta present hearing up native on => execPauseReceive_acts present hearing up native on
  case pauseExpiry => exact fun s port present due => execPauseExpiry_port present due
  case configure =>
    intro s l a h mode medium pause pcpMap tcMap hashProfile alwaysOn legal apart kind mine idle mtu_low mtu_high train_low
      train_high debounce_high holdoff_high fec_low fec_high
    exact execPortConfigure_accepted h ⟨mode, medium, pause, pcpMap, tcMap, hashProfile, alwaysOn⟩
      ⟨mtu_low, mtu_high, train_low, train_high, debounce_high, holdoff_high, fec_low, fec_high⟩
      ⟨legal, apart, kind, mine, idle⟩
  case enable => exact fun s l p h mine native off stays => execPortEnable_accepted h mine native off stays
  case disable => exact fun s l p h mine on stays => execPortDisable_accepted h mine on stays
  case disableIdle => exact fun s l p h mine off stays => execPortDisable_idle h mine off stays
  case setLaneMap =>
    exact fun s l octet map rxInvert txInvert h zero here octets map_lt permutes rx tx idle =>
      execPortSetLaneMap_accepted h zero here octets map_lt permutes rx tx idle
  case setDelay =>
    exact fun s l p rx tx h mine rx_low rx_high rx_new tx_low tx_high tx_new =>
      execPortSetDelay_accepted h mine rx_low rx_high rx_new tx_low tx_high tx_new
  case setTxEq => exact fun s l lane taps h zero here lanes fits => execPortSetTxEq_accepted h zero here lanes fits
  case status => exact fun s l p h mine => execPortStatus_accepted h mine

end Sys2Proof.Machine

namespace Sys2Proof.Machine

/-! # Envelope groups and overhead channels (03 R94, R110-R113) -/

section
variable {s : State} {l : LetterId} {g i : W32}

/-! ## The Envelope unit and the checks of a group letter -/

theorem onEnvelope_present {f : State → State} (unit : s.variant.envelope = true) : onEnvelope s f = .next (f s) :=
  if_pos unit

theorem noEnvelope_passes {c : Ctx} (unit : s.variant.envelope = true) (zero : c.l.slice.val = 0) :
    (noEnvelope s c).1 = false := by
  simp [noEnvelope, noObj, Ctx.sl, unit, zero]

/-- Slice 0 names a FlexE group that exists. -/
structure NamesFlexe (s : State) (sl : Nat) (g i : W32) : Prop where
  unit : s.variant.envelope = true
  zero : sl = 0
  group_le : g.toNat ≤ 11
  index_le : i.toNat ≤ 3
  present : (s.flexe g.toNat i.toNat).present = true

/-- Slice 0 names an OTUCn interface that exists. -/
structure NamesOtu (s : State) (sl : Nat) (g i : W32) : Prop where
  unit : s.variant.envelope = true
  zero : sl = 0
  group_le : g.toNat ≤ 11
  index_le : i.toNat ≤ 1
  present : (s.otu g.toNat i.toNat).present = true

theorem groupChecks_flexe_pass {c : Ctx} (h : NamesFlexe s c.l.slice.val g i) :
    ∀ x ∈ groupChecks s c g.toNat (0#32).toNat i.toNat, x.1 = false := by
  obtain ⟨unit, zero, group_le, index_le, present⟩ := h
  simp [groupChecks, noEnvelope_passes unit zero, malformed, noObj, group_le, index_le, present]

theorem groupChecks_otu_pass {c : Ctx} (h : NamesOtu s c.l.slice.val g i) :
    ∀ x ∈ groupChecks s c g.toNat (1#32).toNat i.toNat, x.1 = false := by
  obtain ⟨unit, zero, group_le, index_le, present⟩ := h
  have index_le_three : i.toNat ≤ 3 := by omega
  simp [groupChecks, noEnvelope_passes unit zero, malformed, noObj, group_le, index_le, index_le_three, present]

/-- The checks of a group letter pass when those on its operands do and the group's state allows it. -/
theorem checked_group {checks : List (Bool × Reject)} {barred : Bool} {ok : Unit → Verdict}
    (names : ∀ x ∈ checks, x.1 = false) (allowed : barred = false) : checked (checks ++ [busy barred 2]) ok = ok () := by
  refine checked_ok (List.forall_mem_append.mpr ⟨names, ?_⟩)
  simp [busy, allowed]

/-! ## ENVELOPE.DELETE_GROUP, ENABLE_GROUP and DISABLE_GROUP (03 R94, R113) -/

theorem execEnvelopeDeleteGroup_flexe (h : Claimed s l 0x0503 [p4 g, p4 0#32, p4 i]) (names : NamesFlexe s l.slice.val g i)
    (off : (s.flexe g.toNat i.toNat).st = .disabled) :
    ∃ t, exec (.envelopeDeleteGroup l g 0#32 i) s = .next t ∧ Accepted s
      (((s.flexeClients g.toNat i.toNat).foldl State.freeClient s).setFlexe g.toNat i.toNat {}) t l .done
      (layBody [p4 g, p4 0#32, p4 i]) := by
  refine ⟨_, rfl, runLetter_accepted h fun c hc => ?_⟩
  subst hc
  refine (checked_group (groupChecks_flexe_pass names) ?_).trans rfl
  simp [State.groupSt, off]

theorem execEnvelopeEnableGroup_flexe (h : Claimed s l 0x0504 [p4 g, p4 0#32, p4 i]) (names : NamesFlexe s l.slice.val g i)
    (off : (s.flexe g.toNat i.toNat).st = .disabled) :
    ∃ t, exec (.envelopeEnableGroup l g 0#32 i) s = .next t ∧ Accepted s
      (let u := ((s.setFlexe g.toNat i.toNat { s.flexe g.toNat i.toNat with st := .enabled }).askDomain
          (framerDomain g.toNat) true).octetsOn ((s.flexe g.toNat i.toNat).lanes g.toNat)
       ((u.flexeClients g.toNat i.toNat).filter fun p => (u.port p).slots ≠ 0).foldl State.startClient u) t l .done
      (layBody [p4 g, p4 0#32, p4 i]) := by
  have st : s.groupSt g.toNat (0#32).toNat i.toNat = .disabled := off
  refine ⟨_, rfl, runLetter_accepted h fun c hc => ?_⟩
  subst hc
  simp only [st]
  exact checked_group (groupChecks_flexe_pass names) rfl

theorem execEnvelopeEnableGroup_otu (h : Claimed s l 0x0504 [p4 g, p4 1#32, p4 i]) (names : NamesOtu s l.slice.val g i)
    (off : (s.otu g.toNat i.toNat).st = .disabled) :
    ∃ t, exec (.envelopeEnableGroup l g 1#32 i) s = .next t ∧ Accepted s
      (let u := ((s.setOtu g.toNat i.toNat { s.otu g.toNat i.toNat with
          st := .enabled, align := [], since := s.up }).askDomain (framerDomain g.toNat) true).octetsOn
          (s.otu g.toNat i.toNat).laneList
       (u.otuClients g.toNat i.toNat).foldl State.startClient u) t l .done (layBody [p4 g, p4 1#32, p4 i]) := by
  have st : s.groupSt g.toNat (1#32).toNat i.toNat = .disabled := off
  refine ⟨_, rfl, runLetter_accepted h fun c hc => ?_⟩
  subst hc
  simp only [st]
  exact checked_group (groupChecks_otu_pass names) rfl

theorem execEnvelopeDisableGroup_flexe (h : Claimed s l 0x0505 [p4 g, p4 0#32, p4 i])
    (names : NamesFlexe s l.slice.val g i) (on : (s.flexe g.toNat i.toNat).st = .enabled) :
    ∃ t, exec (.envelopeDisableGroup l g 0#32 i) s = .next t ∧ Accepted s
      (s.setFlexe g.toNat i.toNat { s.flexe g.toNat i.toNat with st := .stopping, letter := some l }) t l .done
      (layBody [p4 g, p4 0#32, p4 i]) true := by
  have st : s.groupSt g.toNat (0#32).toNat i.toNat = .enabled := on
  refine ⟨_, rfl, runLetter_accepted h fun c hc => ?_⟩
  subst hc
  simp only [st]
  exact checked_group (groupChecks_flexe_pass names) rfl

theorem execEnvelopeDisableGroup_otu (h : Claimed s l 0x0505 [p4 g, p4 1#32, p4 i]) (names : NamesOtu s l.slice.val g i)
    (on : (s.otu g.toNat i.toNat).st = .enabled) :
    ∃ t, exec (.envelopeDisableGroup l g 1#32 i) s = .next t ∧ Accepted s
      (s.setOtu g.toNat i.toNat { s.otu g.toNat i.toNat with st := .stopping, letter := some l }) t l .done
      (layBody [p4 g, p4 1#32, p4 i]) true := by
  have st : s.groupSt g.toNat (1#32).toNat i.toNat = .enabled := on
  refine ⟨_, rfl, runLetter_accepted h fun c hc => ?_⟩
  subst hc
  simp only [st]
  exact checked_group (groupChecks_otu_pass names) rfl

/-! ## A group stops (03 R113) -/

section
variable {g : Fin 12} {i : Fin 4}

theorem execEnvelopeDisableBoundary_flexe (unit : s.variant.envelope = true) (stopping : (s.flexe g i).st = .stopping) :
    execEnvelopeDisableBoundary g false i s = .next (
      let u := ((s.flexeClients g i).foldl State.stopClient s).emit (.groupFault g false i)
      ((u.setFlexe g i { s.flexe g i with
          st := .faultSent, since := u.up, page := (s.flexe g i).page.cancel, deskewFail := false, mismatch := []
          ca := false }).condition 0x0302 (flexeNo g i) false).clearFault 0x0203 (pageObject 1 (flexeNo g i))) := by
  rw [execEnvelopeDisableBoundary, onEnvelope_present unit]
  simp only [stopping, ne_eq, not_true_eq_false, Bool.false_eq_true, ↓reduceIte]

theorem execEnvelopeDisableBoundary_otu (unit : s.variant.envelope = true) (stopping : (s.otu g i).st = .stopping) :
    execEnvelopeDisableBoundary g true i s = .next (
      let u := ((s.otuClients g i).foldl State.stopClient s).emit (.groupFault g true i)
      let v := (u.setOtu g i { s.otu g i with
        st := .faultSent, since := u.up, defects := [], align := [], bdiSm := false, bdiPm := false }).condition 0x0303
        (2 * g + i) false
      (v.setTsPage g { v.tsPage g with page := (v.tsPage g).page.cancel }).clearFault 0x0203 (pageObject 2 g)) := by
  rw [execEnvelopeDisableBoundary, onEnvelope_present unit]
  simp only [stopping, ne_eq, not_true_eq_false, ↓reduceIte]

theorem execEnvelopeLanesIdle_flexe (unit : s.variant.envelope = true) (sent : (s.flexe g i).st = .faultSent)
    (due : (s.flexe g i).since + 1000000 ≤ s.up) : execEnvelopeLanesIdle g false i s = .next
      ((((s.setFlexe g i { s.flexe g i with st := .disabled, letter := none }).octetsOff
        ((s.flexe g i).lanes g)).framerOff g).release? (s.flexe g i).letter) := by
  rw [execEnvelopeLanesIdle, onEnvelope_present unit]
  simp only [sent, Nat.not_lt.mpr due, ne_eq, not_true_eq_false, or_self, Bool.false_eq_true, ↓reduceIte]

theorem execEnvelopeLanesIdle_otu (unit : s.variant.envelope = true) (sent : (s.otu g i).st = .faultSent)
    (due : (s.otu g i).since + 1000000 ≤ s.up) : execEnvelopeLanesIdle g true i s = .next
      ((((s.setOtu g i { s.otu g i with st := .disabled, letter := none }).octetsOff
        (s.otu g i).laneList).framerOff g).release? (s.otu g i).letter) := by
  rw [execEnvelopeLanesIdle, onEnvelope_present unit]
  simp only [sent, Nat.not_lt.mpr due, ne_eq, not_true_eq_false, or_self, ↓reduceIte]

end

/-! ## ENVELOPE.OH_CHANNEL (03 R111; 12 R389) -/

theorem execEnvelopeOhChannel_accepted {channel : W32} {rxRing txRing : W64} {depth : W32}
    (h : Claimed s l 0x050C [p4 channel, p8 rxRing, p8 txRing, p4 depth]) (unit : s.variant.envelope = true)
    (zero : l.slice.val = 0) (deep : depth ≠ 0#32) (numbered : channel.toNat < 360) :
    ∃ t, exec (.envelopeOhChannel l channel rxRing txRing depth) s = .next t ∧ Accepted s
      (s.setOh channel.toNat { s.ohChan channel.toNat with
        slice := 0, rxRing := some rxRing, txRing := some txRing, depth := depth.toNat, produced := 0 }) t l .done
      (layBody [p4 channel, p8 rxRing, p8 txRing, p4 depth]) := by
  refine ⟨_, rfl, runLetter_accepted h fun c hc => ?_⟩
  subst hc
  refine (checked_ok ?_).trans ?_
  · simp [noEnvelope_passes unit zero, malformed, noObj, deep, numbered]
  · rw [Ctx.sl, zero]
    rfl

/-! ## Overhead records to and from the host (03 R110-R112; 14 R424) -/

section
variable {c : BitVec 12}

/-- What a live channel receives is discarded with its buffer while its group moves, else kept, in the place of the
oldest frame when the buffer is full. -/
theorem execOhRxFrame_live {bytes : List Byte} (unit : s.variant.envelope = true) (live : s.ohLive c.toNat = true) :
    execOhRxFrame c bytes s = .next (let v := s.ohChan c.toNat
      if s.groupMoving (c.toNat / 30) = true then
        (s.setOh c.toNat { v with
          rx := [], rxFrame := v.rxFrame + BitVec.ofNat 32 (v.rx.length + 1), slip := true }).bump .ohRxSlip c.toNat 0
          (v.rx.length + 1)
      else if v.rx.length < 64 then s.setOh c.toNat { v with rx := v.rx ++ [bytes] }
      else (s.setOh c.toNat { v with rx := v.rx.drop 1 ++ [bytes], rxFrame := v.rxFrame + 1#32, slip := true }).bump
        .ohRxSlip c.toNat) := by
  rw [execOhRxFrame, onEnvelope_present unit]
  exact congrArg _ (if_neg (not_not_intro live))

theorem execOhRecordDeliver_whole (unit : s.variant.envelope = true) (whole : wholeFrames 2047 (s.ohChan c.toNat).rx ≠ 0)
    (ring : (s.ohChan c.toNat).rxRing.isSome = true) (may : s.mayRequest (s.ohChan c.toNat).slice = true) :
    execOhRecordDeliver c s = .next (let v := s.ohChan c.toNat; let n := wholeFrames 2047 v.rx
      (s.setOh c.toNat { v with
        rx := v.rx.drop n, rxFrame := v.rxFrame + BitVec.ofNat 32 n, slip := false, produced := v.produced + 1 }).emit
        (.record 67 (v.rxRing.getD 0#64) (v.produced % v.depth)
          (ohHeader c.toNat v.rxFrame v.slip (v.rx.take n).flatten.length ++ (v.rx.take n).flatten))) := by
  rw [execOhRecordDeliver, onEnvelope_present unit]
  refine congrArg _ (if_neg ?_)
  simp [whole, Option.isNone_eq_false_iff.mpr ring, may]

/-- A channel that has sent a frame, its own or its fill, remembers the frame's bytes. -/
def State.sentOverhead (s : State) (c : Nat) (frame : List Byte) (rest : List (List Byte)) : State :=
  (s.setOh c { s.ohChan c with tx := rest, tti := ttiPush (s.ohChan c).tti frame }).emit (.overhead c frame)

theorem execOhTxFrame_sends {f : List Byte} {fs : List (List Byte)} (unit : s.variant.envelope = true)
    (live : s.ohLive c.toNat = true) (steady : s.groupMoving (c.toNat / 30) = false)
    (front : (s.ohChan c.toNat).tx = f :: fs) : execOhTxFrame c s = .next (s.sentOverhead c.toNat f fs) := by
  rw [execOhTxFrame, onEnvelope_present unit]
  simp only [live, steady, front, not_true_eq_false, Bool.false_eq_true, false_and, ↓reduceIte]
  rfl

theorem execOhTxFrame_moving (unit : s.variant.envelope = true) (live : s.ohLive c.toNat = true)
    (moving : s.groupMoving (c.toNat / 30) = true) (waits : (s.ohChan c.toNat).tx ≠ []) :
    execOhTxFrame c s =
      .next (s.sentOverhead c.toNat (ohFill c.toNat (s.ohChan c.toNat).tti) (s.ohChan c.toNat).tx) := by
  rw [execOhTxFrame, onEnvelope_present unit]
  simp only [live, moving, waits, ne_eq, not_false_eq_true, not_true_eq_false, and_self, ↓reduceIte]
  rfl

theorem execOhTxFrame_empty (unit : s.variant.envelope = true) (live : s.ohLive c.toNat = true)
    (empty : (s.ohChan c.toNat).tx = []) : execOhTxFrame c s =
      .next ((s.sentOverhead c.toNat (ohFill c.toNat (s.ohChan c.toNat).tti) (s.ohChan c.toNat).tx).bump
        .ohTxUnderrun c.toNat) := by
  rw [execOhTxFrame, onEnvelope_present unit]
  simp only [live, empty, ne_eq, not_true_eq_false, and_false, ↓reduceIte]
  rfl

theorem execOhTxWrite_writes {frames : List (List Byte)} (unit : s.variant.envelope = true) (numbered : c.toNat < 360)
    (ring : (s.ohChan c.toNat).txRing.isSome = true) (may : s.mayRequest (s.ohChan c.toNat).slice = true) :
    execOhTxWrite c frames s = .next (if (s.ohChan c.toNat).tx.length + frames.length ≤ 64 then
      s.setOh c.toNat { s.ohChan c.toNat with tx := (s.ohChan c.toNat).tx ++ frames }
      else s.bump .ohTxOverflow c.toNat 0 frames.length) := by
  rw [execOhTxWrite, onEnvelope_present unit]
  refine congrArg _ (if_neg ?_)
  simp [numbered, Option.isNone_eq_false_iff.mpr ring, may]

end

end

/-- Settles O24: a letter by its checks, which all pass, a group's end by its kind and state, a channel by what waits in it
and whether its group moves. The numbers of the overhead channels are the model's choice (notes/assumptions/47.md); that a
record which does not fit is the newest one, discarded whole, and what the channels of a moving group do is deduced
(notes/assumptions/132.md, 153.md). -/
theorem envelopeGroupsAndChannels : Obligations.EnvelopeGroupsAndChannels := by
  refine ⟨?delete, ?enable, ?disable, ?boundary, ?boundaryOtu, ?enableOtu, ?disableOtu, ?idle, ?idleOtu, ?channel, ?rx,
    ?rxMoving, ?rxFull, ?deliver, ?tx, ?txMoving, ?txEmpty, ?txWrite⟩
  case delete =>
    exact fun s l g i h unit zero group_le index_le present off =>
      execEnvelopeDeleteGroup_flexe h ⟨unit, zero, group_le, index_le, present⟩ off
  case enable =>
    exact fun s l g i h unit zero group_le index_le present off =>
      execEnvelopeEnableGroup_flexe h ⟨unit, zero, group_le, index_le, present⟩ off
  case disable =>
    exact fun s l g i h unit zero group_le index_le present on =>
      execEnvelopeDisableGroup_flexe h ⟨unit, zero, group_le, index_le, present⟩ on
  case boundary => exact fun s g i unit stopping => execEnvelopeDisableBoundary_flexe unit stopping
  case boundaryOtu => exact fun s g i unit stopping => execEnvelopeDisableBoundary_otu unit stopping
  case enableOtu =>
    exact fun s l g i h unit zero group_le index_le present off =>
      execEnvelopeEnableGroup_otu h ⟨unit, zero, group_le, index_le, present⟩ off
  case disableOtu =>
    exact fun s l g i h unit zero group_le index_le present on =>
      execEnvelopeDisableGroup_otu h ⟨unit, zero, group_le, index_le, present⟩ on
  case idle => exact fun s g i unit sent due => execEnvelopeLanesIdle_flexe unit sent due
  case idleOtu => exact fun s g i unit sent due => execEnvelopeLanesIdle_otu unit sent due
  case channel =>
    exact fun s l channel rxRing txRing depth h unit zero deep numbered =>
      execEnvelopeOhChannel_accepted h unit zero deep numbered
  case rx =>
    intro s c bytes unit live steady room
    rw [exec_ohRxFrame, execOhRxFrame_live unit live, steady]
    exact congrArg _ (if_pos room)
  case rxMoving =>
    intro s c bytes unit live moving
    rw [exec_ohRxFrame, execOhRxFrame_live unit live]
    exact congrArg _ (if_pos moving)
  case rxFull =>
    intro s c bytes unit live steady full
    rw [exec_ohRxFrame, execOhRxFrame_live unit live, steady]
    exact congrArg _ (if_neg (Nat.not_lt.mpr full))
  case deliver => exact fun s c unit whole ring may => execOhRecordDeliver_whole unit whole ring may
  case tx => exact fun s c f fs unit live steady front => execOhTxFrame_sends unit live steady front
  case txMoving => exact fun s c unit live moving waits => execOhTxFrame_moving unit live moving waits
  case txEmpty => exact fun s c unit live empty => execOhTxFrame_empty unit live empty
  case txWrite => exact fun s c frames unit numbered ring may => execOhTxWrite_writes unit numbered ring may

end Sys2Proof.Machine

namespace Sys2Proof.Machine

/-! # Where intake steers a pass (04 R119, R120) -/

section
variable {α : Type}

/-- Of two elements in front the later one stays only where it is better. -/
theorem bestBy_cons_cons (f : α → Int) (x z : α) (zs : List α) :
    bestBy f (x :: z :: zs) = bestBy f ((if f x < f z then z else x) :: zs) := rfl

theorem mem_of_bestBy {f : α → Int} {l : List α} {b : α} (h : bestBy f l = some b) : b ∈ l := by
  cases l with
  | nil => simp [bestBy] at h
  | cons x xs =>
    obtain rfl := Option.some.inj h
    refine List.foldlRecOn xs _ (motive := (· ∈ x :: xs)) (List.mem_cons_self ..) fun b mem y hy => ?_
    split
    · exact List.mem_cons_of_mem x hy
    · exact mem

/-- Of a rising list the element with the greatest measure is chosen, the lower number on a tie. -/
theorem bestBy_greatest {f : Nat → Int} {l : List Nat} {b : Nat} (sorted : l.Pairwise (· < ·))
    (h : bestBy f l = some b) : ∀ y ∈ l, f y < f b ∨ f y = f b ∧ b ≤ y := by
  cases l with
  | nil => simp
  | cons x xs =>
    induction xs generalizing x with
    | nil =>
      obtain rfl := Option.some.inj h
      simp
    | cons z zs ih =>
      obtain ⟨below, rest⟩ := List.pairwise_cons.mp sorted
      have first : x < z := below z (List.mem_cons_self ..)
      rw [bestBy_cons_cons] at h
      by_cases better : f x < f z
      · rw [if_pos better] at h
        have best := ih z rest h
        refine List.forall_mem_cons.mpr ⟨?_, best⟩
        have := best z (List.mem_cons_self ..)
        omega
      · rw [if_neg better] at h
        have best := ih x (sorted.sublist ((List.sublist_cons_self z zs).cons_cons x)) h
        obtain ⟨front, behind⟩ := List.forall_mem_cons.mp best
        refine List.forall_mem_cons.mpr ⟨front, List.forall_mem_cons.mpr ⟨?_, behind⟩⟩
        omega

/-- Of a rising list the element with the fewest of a count is chosen, the lower number on a tie. -/
theorem bestBy_fewest {f : Nat → Nat} {l : List Nat} {b : Nat} (sorted : l.Pairwise (· < ·))
    (h : bestBy (fun x => - Int.ofNat (f x)) l = some b) : ∀ y ∈ l, f b < f y ∨ f b = f y ∧ b ≤ y := by
  intro y hy
  have := bestBy_greatest sorted h y hy
  simp only [Int.ofNat_eq_natCast] at this
  omega

end

section
variable {s : State}

/-- A slot that is picked came of the three choices: bench, clerk, slot. -/
theorem pickSlot_eq_some {k : Nat} : s.pickSlot = some k ↔ ∃ b c i,
    bestBy (fun b => - Int.ofNat (s.busyBench b)) ((List.range s.variant.benches).filter fun b => (s.bench b).live) = some b ∧
    bestBy (fun c => - Int.ofNat (s.busyClerk b c)) (List.range 16) = some c ∧
    (List.range 6).find? (fun i => (s.slotAt (slotKey b c i)).st = .free) = some i ∧ slotKey b c i = k := by
  simp [State.pickSlot, Option.bind_eq_some_iff]

theorem pickSlot_eq_none (h : ∀ b, b < s.variant.benches → (s.bench b).live = false) : s.pickSlot = none := by
  have none_live : (List.range s.variant.benches).filter (fun b => (s.bench b).live) = [] := by
    simpa [List.filter_eq_nil_iff] using h
  rw [State.pickSlot, none_live]
  rfl

end

/-- Settles O11: each of the three choices takes the first best of a rising list. -/
theorem dispatchPicksTheFreestSlot : Obligations.DispatchPicksTheFreestSlot := by
  refine ⟨fun s k h => ?pick, fun s => pickSlot_eq_none⟩
  obtain ⟨b, c, i, bench, clerk, slot, rfl⟩ := pickSlot_eq_some.mp h
  obtain ⟨present, live⟩ := List.mem_filter.mp (mem_of_bestBy bench)
  obtain ⟨slot_free, slot_mem, slot_first⟩ := List.find?_range_eq_some.mp slot
  refine ⟨b, c, i, rfl, List.mem_range.mp present, List.mem_range.mp (mem_of_bestBy clerk), List.mem_range.mp slot_mem,
    live, of_decide_eq_true slot_free, ?freestBench, ?freestClerk, ?lowestSlot⟩
  case freestBench =>
    exact fun b' present' live' => bestBy_fewest (List.pairwise_lt_range.filter _) bench b'
      (List.mem_filter.mpr ⟨List.mem_range.mpr present', live'⟩)
  case freestClerk => exact fun c' inside => bestBy_fewest List.pairwise_lt_range clerk c' (List.mem_range.mpr inside)
  case lowestSlot => exact fun i' before => by simpa using slot_first i' before

end Sys2Proof.Machine

namespace Sys2Proof.Machine

/-! # Clerk local memory: what a pass and a letter write (04 R135, R136, R140-R142) -/

/-! ## Bytes written are read back, and no other byte changes -/

section
variable {m m' : List Host.Cell} {lo hi : Nat}

/-- Every byte outside the addresses from `lo` and below `hi` is the same in both memories. -/
def SameOutside (lo hi : Nat) (m m' : List Host.Cell) : Prop :=
  ∀ a, a < lo ∨ hi ≤ a → Memory.read m' a = Memory.read m a

theorem SameOutside.refl (lo hi : Nat) (m : List Host.Cell) : SameOutside lo hi m m := fun _ _ => rfl

theorem SameOutside.mono {lo' hi' : Nat} (h : SameOutside lo hi m m') (low : lo' ≤ lo) (high : hi ≤ hi') :
    SameOutside lo' hi' m m' :=
  fun a outside => h a (by omega)

theorem sameOutside_writeLe (m : List Host.Cell) (a v n : Nat) : SameOutside a (a + n) m (Memory.writeLe a v n m) :=
  fun _ outside => Memory.read_writeLe_outside n m v outside

theorem sameOutside_writeBytes (m : List Host.Cell) (a : Nat) (bs : List Byte) :
    SameOutside a (a + bs.length) m (Memory.writeBytes a bs m) := by
  induction bs generalizing a m with
  | nil => exact .refl _ _ m
  | cons b bs ih =>
    intro i outside
    rw [List.length_cons] at outside
    rw [Memory.writeBytes, ih _ _ i (by omega), Memory.read_write_other _ _ (by omega)]

theorem read_writeBytes_inside (m : List Host.Cell) (a : Nat) {bs : List Byte} {i : Nat} (h : i < bs.length) :
    Memory.read (Memory.writeBytes a bs m) (a + i) = bs[i] := by
  induction bs generalizing a m i with
  | nil => simp at h
  | cons b bs ih =>
    rw [Memory.writeBytes]
    cases i with
    | zero => rw [sameOutside_writeBytes _ _ _ _ (by omega), Nat.add_zero, Memory.read_write_self]; rfl
    | succ i => rw [← Nat.add_assoc, Nat.add_right_comm, ih, List.getElem_cons_succ]

end

/-! ## What the operations of a pass leave of local memory -/

section
variable {s t : State} {k : Nat} {v : Slot}

theorem localMem_of_kept (h : kept t = kept s) : t.clerks.localMem = s.clerks.localMem := by
  simp only [kept, Prod.mk.injEq] at h
  obtain ⟨-, -, localMem, -⟩ := h
  exact localMem

@[simp] theorem addTrace_clerks (r : BitVec 256) : (s.addTrace r).clerks = s.clerks := by
  simp only [State.addTrace, apply_ite State.clerks, ite_self]

@[simp] theorem traceSlot_clerks (nano kind cause value : Nat) :
    (s.traceSlot k v nano kind cause value).clerks = s.clerks := by
  simp only [State.traceSlot, apply_ite State.clerks, addTrace_clerks, ite_self]

@[simp] theorem tagEnd_clerks (e : PassEnd) : (s.tagEnd k v e).clerks = s.clerks := by
  simp only [State.tagEnd, State.addTag, apply_ite State.clerks, ite_self]

@[simp] theorem setSlot_localMem : (s.setSlot k v).clerks.localMem = s.clerks.localMem := rfl

@[simp] theorem wake_localMem : (s.wake k v).clerks.localMem = s.clerks.localMem := localMem_of_kept (kept_wake ..)

@[simp] theorem doubleTrap_localMem (frame : List Byte) (cause : Nat) :
    (s.doubleTrap k v frame cause).clerks.localMem = s.clerks.localMem := by
  simp only [State.doubleTrap, setSlot_localMem, raise_clerks, bump_clerks, tagEnd_clerks]

/-- A trap writes its frame, whether it is handled or ends the pass. -/
theorem trapSlot_localMem (mw : W32) (x : Trap) : (s.trapSlot k v mw x).clerks.localMem =
    Memory.writeBytes (memBase k + frameBase + 64 * (k % 6)) (trapFrame k v mw x) s.clerks.localMem := by
  simp only [State.trapSlot, apply_ite State.clerks, apply_ite ClerkUnit.localMem, doubleTrap_localMem, wake_localMem,
    bump_clerks, traceSlot_clerks, ite_self]

end

/-! ## The trap frame and its slot (04 R140-R142) -/

section
variable {s : State} {k : Nat} {v : Slot} {mw : W32} {x : Trap}

theorem length_flatMap_leBytes (l : List (BitVec 16)) (n : Nat) :
    (l.flatMap fun a => leBytes a.toNat n).length = n * l.length := by
  induction l with
  | nil => rfl
  | cons a l ih =>
    rw [List.flatMap_cons, List.length_append, length_leBytes, ih, List.length_cons, Nat.mul_succ, Nat.add_comm]

theorem length_trapFrame (k : Nat) (v : Slot) (mw : W32) (x : Trap) : (trapFrame k v mw x).length = 64 := by
  simp only [trapFrame, List.length_append, length_leBytes, length_flatMap_leBytes, List.length_take,
    List.length_replicate]
  omega

/-- A READY slot that wakes stays READY or waits, and nothing else of it changes. -/
theorem slotAt_wake_ready (ready : v.st = .ready) :
    ∃ st, (st = .ready ∨ st = .waiting) ∧ (s.wake k v).slotAt k = { v with st := st } := by
  rw [State.wake, if_neg (by simp [ready]), if_pos ready]
  split
  · exact ⟨.waiting, .inr rfl, slotAt_setSlot ..⟩
  · exact ⟨.ready, .inl rfl, by rw [slotAt_setSlot, ← ready]⟩

theorem goTo_congr {t : State} {b : Nat} (a : BitVec 16) (benches : t.bench b = s.bench b)
    (regs : t.clerks.matchRegs = s.clerks.matchRegs) : t.goTo b a = s.goTo b a := by
  simp only [State.goTo, benches, regs]

/-- The slot of a trap that is handled, but for its state and the time of its last issue. -/
def Slot.trapped (s : State) (k : Nat) (v : Slot) (x : Trap) : Slot :=
  { v with
    trap := some (x.cause, if x.cause = 8 ∨ x.cause = 9 then v.micro else v.micro + 1#16)
    micro := s.goTo (k / 96) (BitVec.ofNat 16 (0x40 + x.cause)) }

/-- A trap outside a handler wakes its slot at the vector. -/
theorem trapSlot_handled (idle : v.trap = none) : ∃ u last,
    s.trapSlot k v mw x = State.wake u k { Slot.trapped s k v x with lastIssue := last } := by
  simp only [State.trapSlot, idle, Option.isSome_none, Bool.false_eq_true, ↓reduceIte]
  rw [goTo_congr (s := s) _ (by simp [State.bench]) (by simp)]
  exact ⟨_, _, rfl⟩

/-- A trap in a handler ends the pass with its frame. -/
theorem slotAt_trapSlot_double (handling : v.trap.isSome = true) : ∃ last, (s.trapSlot k v mw x).slotAt k =
    { v with lastIssue := last, st := .retiring, ended := some (.doubleTrap (trapFrame k v mw x)) } := by
  simp only [State.trapSlot, handling, ↓reduceIte, State.doubleTrap, slotAt_setSlot]
  exact ⟨_, rfl⟩

end

/-- Settles O13: the frame is one write of 64 bytes; the slot is what the trap writes under its key. -/
theorem microTrapsWriteTheirFrame : Obligations.MicroTrapsWriteTheirFrame := by
  refine ⟨fun s k v mw x => ?frame, fun s k v mw x idle ready => ?vector, fun s k v mw x handling => ?double⟩
  case frame =>
    rw [trapSlot_localMem]
    refine ⟨fun i inside => ?_, fun a outside => ?_⟩
    · have within : i < (trapFrame k v mw x).length := by rwa [length_trapFrame]
      rw [List.getD_eq_getElem?_getD, List.getElem?_eq_getElem within, Option.getD_some]
      exact read_writeBytes_inside _ _ within
    · exact sameOutside_writeBytes _ _ _ a (by rwa [length_trapFrame])
  case vector =>
    obtain ⟨u, last, wakes⟩ := trapSlot_handled (s := s) (k := k) (mw := mw) (x := x) idle
    obtain ⟨st, runs, slot⟩ :=
      slotAt_wake_ready (s := u) (k := k) (v := { Slot.trapped s k v x with lastIssue := last }) ready
    rw [wakes]
    exact ⟨_, slot, rfl, rfl, runs, rfl, rfl, rfl, rfl, rfl, rfl⟩
  case double =>
    obtain ⟨last, slot⟩ := slotAt_trapSlot_double (s := s) (k := k) (mw := mw) (x := x) handling
    exact ⟨_, slot, rfl, rfl⟩

end Sys2Proof.Machine

namespace Sys2Proof.Machine

/-! # Which commands change local memory, and where they write (04 R135, R136, R141) -/

/-! ## Where a nanoword's store goes (04 R135) -/

/-- `P` holds of the value that is answered, if it is no trap. -/
def OkSat {ε α : Type} (P : α → Prop) (r : Except ε α) : Prop := ∀ a, r = .ok a → P a

section
variable {ε α β : Type} {P : α → Prop} {Q : β → Prop}

theorem okSat_pure {a : α} (h : P a) : OkSat P (pure a : Except ε α) := by
  rintro _ ⟨⟩
  exact h

theorem okSat_error (x : ε) : OkSat P (.error x) := nofun

theorem okSat_bind {r : Except ε α} {f : α → Except ε β} (first : OkSat P r) (second : ∀ a, P a → OkSat Q (f a)) :
    OkSat Q (r >>= f) := by
  cases r with
  | error x => exact okSat_error x
  | ok a => exact second a (first a rfl)

/-- As `okSat_bind`, where nothing of the first value is needed. -/
theorem okSat_then {r : Except ε α} {f : α → Except ε β} (second : ∀ a, OkSat Q (f a)) : OkSat Q (r >>= f) :=
  okSat_bind (P := fun _ => True) (fun _ _ => trivial) fun a _ => second a

/-- As `okSat_bind`, where the first value is computed under a condition alone and else given. -/
theorem okSat_optional {c : Prop} [Decidable c] {r : Except ε α} {a : α} {f : α → Except ε β} (computed : OkSat P r)
    (given : P a) (second : ∀ a, P a → OkSat Q (f a)) : OkSat Q (if c then r >>= f else pure a >>= f) := by
  split
  · exact okSat_bind computed second
  · exact okSat_bind (okSat_pure given) second

theorem okSat_ite {c : Prop} [Decidable c] {a b : Except ε α} (yes : c → OkSat P a) (no : ¬ c → OkSat P b) :
    OkSat P (if c then a else b) := by
  split
  · exact yes ‹_›
  · exact no ‹_›

end

/-- A store lies below the trap frames of its clerk. -/
def Effects.StoreFits (e : Effects) : Prop := ∀ a n x, e.store = some (a, n, x) → a + n ≤ frameBase

section
variable {w : View} {f : Nat} {e : Effects}

theorem alu_storeFits {field : Nat} (h : e.StoreFits) : OkSat Effects.StoreFits (w.alu f field e) := by
  unfold View.alu
  refine okSat_then fun a => okSat_optional (P := fun _ => True) (fun _ _ => trivial) trivial fun b _ => ?_
  dsimp -zeta only
  split
  · exact okSat_error _
  · extract_lets traced
    have fits : traced.StoreFits := by
      unfold traced
      split <;> exact h
    exact okSat_ite (fun _ => okSat_then fun _ => okSat_pure fits) fun _ => okSat_then fun _ => okSat_pure fits

theorem move_storeFits (h : e.StoreFits) : OkSat Effects.StoreFits (w.move f e) := by
  unfold View.move
  extract_lets reg off size win range
  split
  · exact okSat_then fun _ => okSat_then fun _ => okSat_pure h
  · exact okSat_then fun _ => okSat_ite (fun _ => okSat_error _) fun _ => okSat_pure h
  · exact okSat_then fun _ => okSat_then fun _ => okSat_ite (fun _ => okSat_error _) fun _ => okSat_pure h
  · exact okSat_ite (fun _ => okSat_error _) fun _ => okSat_pure h

/-- A store passes the check only below the trap frames. -/
theorem mem_storeFits (mem : Nat → Nat → Nat) (h : e.StoreFits) : OkSat Effects.StoreFits (w.mem mem f e) := by
  unfold View.mem
  extract_lets kind data scale n
  refine okSat_then fun base => ?_
  extract_lets addr check old
  have below : OkSat (fun _ => 4 ≤ kind → addr + n ≤ frameBase) check :=
    okSat_ite (fun _ => okSat_error _) fun inside => okSat_ite (fun _ => okSat_error _) fun _ =>
      okSat_ite (fun _ => okSat_error _) fun _ => okSat_pure fun store => by omega
  have stored {x : Nat} {e' : Effects} (fits : addr + n ≤ frameBase) (he' : e'.store = some (addr, n, x)) :
      e'.StoreFits := by
    rintro a m y hy
    cases he'.symm.trans hy
    exact fits
  refine okSat_ite (fun _ => ?load) fun notLoad => okSat_ite (fun _ => ?store) fun _ => okSat_ite (fun add => ?add) fun _ =>
    okSat_ite (fun _ => ?count) fun _ => okSat_error _
  case load => exact okSat_then fun _ => okSat_then fun _ => okSat_pure h
  case store => exact okSat_then fun v => okSat_bind below fun _ fits => okSat_pure (stored (fits (by omega)) rfl)
  case add =>
    have size : n = 8 := if_pos add
    exact okSat_then fun _ => okSat_then fun v => okSat_bind below fun _ fits =>
      okSat_pure (stored (fits (by omega)) (by rw [size]))
  case count => exact okSat_ite (fun _ => okSat_error _) fun _ => okSat_pure h

theorem lkp_storeFits (regs : Nat → Nat) (h : e.StoreFits) : OkSat Effects.StoreFits (w.lkp regs f e) := by
  unfold View.lkp
  extract_lets engine result key profile param n
  refine okSat_then fun _ => okSat_then fun _ => okSat_then fun _ => okSat_then fun _ => okSat_then fun _ =>
    okSat_then fun keys => okSat_then fun _ => okSat_then fun _ => ?_
  exact okSat_optional (P := fun _ => True) (fun _ _ => trivial) trivial fun _ _ => okSat_pure h

theorem br_storeFits (h : e.StoreFits) : OkSat Effects.StoreFits (w.br f e) := by
  unfold View.br
  extract_lets kind index arg flag
  clear_value kind
  split
  case h_4 | h_5 => exact okSat_then fun _ => okSat_pure h
  case h_11 | h_12 => exact okSat_error _
  all_goals exact okSat_pure h

/-- Every field keeps a store below the trap frames, so the nanoword's store lies there. -/
theorem run_storeFits (mem : Nat → Nat → Nat) (regs : Nat → Nat) (nw : BitVec 256) :
    OkSat Effects.StoreFits (w.run mem regs nw) := by
  have none : Effects.StoreFits {} := nofun
  unfold View.run
  exact okSat_optional (alu_storeFits none) none fun _ h => okSat_optional (alu_storeFits h) h fun _ h =>
    okSat_optional (move_storeFits h) h fun _ h => okSat_optional (mem_storeFits mem h) h fun _ h =>
    okSat_optional (lkp_storeFits regs h) h fun _ h => okSat_optional (br_storeFits h) h fun _ h =>
    okSat_ite (fun _ => okSat_error _) fun _ => okSat_pure h

end

/-! ## A nanoword changes its own clerk's memory alone (04 R135, R141) -/

section
variable {s : State} {k : Nat} {v : Slot}

theorem sendLookup_clerks (d : Dispatch) : (s.sendLookup v d).2.clerks = s.clerks := bump_clerks ..

/-- A nanoword's operations write local memory where their store is, if they have one. -/
theorem applyNano_sameOutside {e : Effects} (again : Option Dispatch) (fits : e.StoreFits) :
    SameOutside (memBase k) (memBase k + 98304) s.clerks.localMem (s.applyNano k v e again).clerks.localMem := by
  unfold State.applyNano
  extract_lets counted v1 p v2 v3 cu stored v4
  have count : counted.clerks.localMem = s.clerks.localMem := localMem_of_kept (by simp only [counted]; split <;> simp)
  have store : SameOutside (memBase k) (memBase k + 98304) s.clerks.localMem stored.clerks.localMem := by
    simp only [stored, ← count]
    split
    · rename_i a n x h
      have := fits a n x h
      exact (sameOutside_writeLe _ (memBase k + a) x n).mono (by omega) (by unfold frameBase at this; omega)
    · exact .refl _ _ _
  generalize e.lookup = lookup
  rcases lookup with _ | d <;> rcases again with _ | d' <;> dsimp only <;> split
  all_goals simpa only [setSlot_localMem, wake_localMem, tagEnd_clerks, sendLookup_clerks] using store

theorem applyNano_traced_sameOutside {w : Slot} {nano kind cause value : Nat} {e : Effects} (again : Option Dispatch)
    (fits : e.StoreFits) : SameOutside (memBase k) (memBase k + 98304) s.clerks.localMem
      ((s.traceSlot k v nano kind cause value).applyNano k w e again).clerks.localMem := by
  have applied := applyNano_sameOutside (s := s.traceSlot k v nano kind cause value) (k := k) (v := w) again fits
  rwa [traceSlot_clerks] at applied

theorem trapSlot_sameOutside (mw : W32) (x : Trap) :
    SameOutside (memBase k) (memBase k + 98304) s.clerks.localMem (s.trapSlot k v mw x).clerks.localMem := by
  rw [trapSlot_localMem]
  refine (sameOutside_writeBytes _ _ _).mono (by omega) ?_
  rw [length_trapFrame, frameBase]
  omega

theorem issueSlot_sameOutside (ecc : Bool) :
    SameOutside (memBase k) (memBase k + 98304) s.clerks.localMem (s.issueSlot k v ecc).clerks.localMem := by
  unfold State.issueSlot
  extract_lets b mw nano own counted w nw view run
  have count : counted.clerks = s.clerks := bump_clerks ..
  have ran : OkSat Effects.StoreFits run := run_storeFits _ _ _
  split
  · exact trapSlot_sameOutside mw _
  rw [← count]
  split
  · exact trapSlot_sameOutside mw _
  cases h : run with
  | error x => exact trapSlot_sameOutside mw _
  | ok e =>
    dsimp only
    split
    · exact applyNano_traced_sameOutside (s := counted.free.2) none (ran e h)
    · split
      · exact trapSlot_sameOutside mw _
      · exact applyNano_traced_sameOutside _ (ran e h)

end

/-! ## The clerk that issues -/

section
variable {s t : State} {b c : Nat}

theorem memBase_slotKey {i : Nat} (h : i < 6) : memBase (slotKey b c i) = 98304 * (16 * b + c) := by
  unfold memBase slotKey
  omega

/-- The slot that issues is one of its clerk's. -/
theorem memBase_readySlot {k : Nat} (h : s.readySlot b c = some k) : memBase k = 98304 * (16 * b + c) := by
  obtain ⟨slot, -⟩ := List.mem_filter.mp (mem_of_bestBy h)
  obtain ⟨i, inside, rfl⟩ := List.mem_map.mp slot
  exact memBase_slotKey (List.mem_range.mp inside)

theorem execNanowordIssue_sameOutside {b : Fin 32} {c : Fin 16} {ecc : Bool} (h : execNanowordIssue b c ecc s = .next t) :
    SameOutside (98304 * (16 * b + c)) (98304 * (16 * b + c + 1)) s.clerks.localMem t.clerks.localMem := by
  unfold execNanowordIssue at h
  split at h
  · cases h
    split
    · rename_i k ready
      rw [Nat.mul_succ, ← memBase_readySlot ready]
      exact issueSlot_sameOutside ecc
    · exact .refl _ _ _
  · cases h

end

/-! ## What a letter's row makes of local memory -/

/-- The next state of a verdict, if it has one, has a local memory of which `P` holds. -/
def Verdict.LocalMem (P : List Host.Cell → Prop) (v : Verdict) : Prop :=
  match v with
  | .accept _ n _ _ _ _ | .partFault _ _ _ n => P n.clerks.localMem
  | _ => True

section
variable {P : List Host.Cell → Prop} {s t : State} {l : LetterId}

theorem localMem_checked {cs : List (Bool × Reject)} {ok : Unit → Verdict} (h : (ok ()).LocalMem P) :
    (checked cs ok).LocalMem P := by
  unfold checked
  split
  · trivial
  · exact h

/-- A letter's row leaves local memory as it was or takes its verdict's: receipt, ledger and faults lie elsewhere. -/
theorem localMem_runLetter {op : Nat} {ps : List Par} {act : Ctx → Verdict} (same : P s.clerks.localMem)
    (h : ∀ c : Ctx, (act c).LocalMem P) : P (runLetter l op ps act s).clerks.localMem := by
  unfold runLetter
  split
  · exact same
  · rename_i e claimed
    have verdict := h ⟨l, e⟩
    split
    · rwa [localMem_of_kept (kept_finish ..)]
    · rwa [localMem_of_kept (kept_internalFault ..), setEntry_clerks]
    · rename_i hv
      rw [hv] at verdict
      rwa [localMem_of_kept (kept_internalFault ..), setEntry_clerks, byLetter_clerks]
    · rename_i hv
      rw [hv] at verdict
      rwa [setEntry_clerks, byLetter_clerks]

end

section
variable {s t : State} {l : LetterId}

theorem clampU_v_le {w v lo hi : Nat} (h : lo ≤ hi) : (clampU w v lo hi none).v ≤ hi := by
  unfold clampU
  split
  · exact Nat.zero_le hi
  · exact Nat.max_le.mpr ⟨h, Nat.min_le_left hi v⟩

/-- STORE.WRITE_LOCAL to one clerk writes at most the 64 bytes from its offset in that clerk's memory. -/
theorem execStoreWriteLocal_sameOutside {clerk offset : W32} {size : W64} {data : BitVec 512}
    (h : execStoreWriteLocal l clerk offset size data s = .next t) (one : clerk.toNat < 512) :
    SameOutside (98304 * clerk.toNat + offset.toNat) (98304 * clerk.toNat + offset.toNat + 64)
      s.clerks.localMem t.clerks.localMem := by
  cases h
  refine localMem_runLetter (.refl _ _ _) fun c => localMem_checked ?_
  rw [if_neg (Nat.ne_of_lt one)]
  refine (sameOutside_writeBytes _ _ _).mono (Nat.le_refl _) (Nat.add_le_add_left ?_ _)
  rw [length_leBytes]
  exact clampU_v_le (by decide)

theorem emptyTrace_localMem (s : State) : s.emptyTrace.clerks.localMem = s.clerks.localMem := rfl

/-- TELEMETRY.READ_TRACE empties a ledger alone. -/
theorem execTelemetryReadTrace_localMem {result : W64} {busOk : Bool}
    (h : execTelemetryReadTrace l result busOk s = .next t) : t.clerks.localMem = s.clerks.localMem := by
  cases h
  refine localMem_runLetter (P := (· = s.clerks.localMem)) rfl fun c => ?_
  unfold withResult
  split
  · exact (emptyTrace_localMem _).trans (localMem_of_kept (kept_hostWrite ..))
  · rfl

theorem localMem_ite {c : Prop} [Decidable c] {a b : State} {m : List Host.Cell} (yes : a.clerks.localMem = m)
    (no : b.clerks.localMem = m) : (if c then a else b).clerks.localMem = m := by
  split
  · exact yes
  · exact no

/-- A double trap by a control-store error writes no frame to local memory. -/
theorem execControlStoreError_localMem {b : Fin 32} {c : Fin 16} {i : Fin 6}
    (h : execControlStoreError b c i s = .next t) : t.clerks.localMem = s.clerks.localMem := by
  by_cases present : b.val < s.variant.benches
  · rw [execControlStoreError, if_pos present] at h
    obtain rfl := Host.Outcome.next.inj h
    refine localMem_ite rfl ?_
    extract_lets trapped again erred noted
    have trap : trapped.clerks.localMem = s.clerks.localMem :=
      localMem_ite ((doubleTrap_localMem ..).trans (localMem_of_kept (kept_free s))) rfl
    have err : erred.clerks.localMem = s.clerks.localMem := trap
    have note : noted.clerks.localMem = s.clerks.localMem :=
      localMem_ite ((localMem_of_kept (kept_condition ..)).trans err) err
    refine localMem_ite ?_ (localMem_ite ?_ note)
    · exact (localMem_of_kept ((kept_drainBench ..).trans (kept_endReload ..))).trans note
    · exact (localMem_of_kept (kept_startLoad ..)).trans note
  · rw [execControlStoreError, if_neg present] at h
    cases h

end

/-! ## The commands that write local memory -/

/-- The commands that may write local memory: those of a pass, of the letter that writes it, and those that can reset
the dies. -/
def WritesLocalMem : Instr → Prop
  | .nanowordIssue .. | .localLoadLand .. | .storeWriteLocal .. | .receiptWrite .. | .inbandReplySend .. | .addressResolved ..
  | .undervoltageLockout | .overvoltageShutdown | .pwrEnDeassert | .thermalShutdown | .resetNAssert => True
  | _ => False

section
variable {s t : State}

theorem localMem_of_keeps {o : Host.Outcome State Fault Refusal} (keeps : Keeps s o) (h : o = .next t) :
    t.clerks.localMem = s.clerks.localMem :=
  localMem_of_kept (keeps t h)

/-- Every other command leaves local memory as it was. -/
theorem exec_localMem {c : Instr} (h : exec c s = .next t) (other : ¬ WritesLocalMem c) :
    t.clerks.localMem = s.clerks.localMem := by
  cases c with
  | nanowordIssue | localLoadLand | storeWriteLocal | receiptWrite | inbandReplySend | addressResolved
  | undervoltageLockout | overvoltageShutdown | pwrEnDeassert | thermalShutdown | resetNAssert => exact absurd trivial other
  | controlStoreError => exact execControlStoreError_localMem h
  | telemetryReadTrace => exact execTelemetryReadTrace_localMem h
  | registerWrite => exact localMem_of_keeps (keeps_execRegisterWrite _ _ _ s) h
  | timNowLatch => exact localMem_of_keeps (keeps_execTimNowLatch _ s) h
  | timeCounterRead => exact localMem_of_keeps (keeps_execTimeCounterRead _ s) h
  | resetCauseClear => exact localMem_of_keeps (keeps_execResetCauseClear _ s) h
  | logFullClear => exact localMem_of_keeps (keeps_execLogFullClear _ s) h
  | msixTableWrite => exact localMem_of_keeps (keeps_execMsixTableWrite _ _ _ s) h
  | bootRingEnable => exact localMem_of_keeps (keeps_execBootRingEnable _ s) h
  | bootRingDisable => exact localMem_of_keeps (keeps_execBootRingDisable _ s) h
  | letterDoorbell => exact localMem_of_keeps (keeps_execLetterDoorbell _ _ _ s) h
  | receiptDoorbell => exact localMem_of_keeps (keeps_execReceiptDoorbell _ _ _ s) h
  | eventDoorbell => exact localMem_of_keeps (keeps_execEventDoorbell _ _ s) h
  | placeDoorbell => exact localMem_of_keeps (keeps_execPlaceDoorbell _ _ s) h
  | consumeDoorbell => exact localMem_of_keeps (keeps_execConsumeDoorbell _ _ s) h
  | letterTake => exact localMem_of_keeps (keeps_execLetterTake _ _ _ s) h
  | effectStep => exact localMem_of_keeps (keeps_execEffectStep _ _ _ s) h
  | receiptDeliveryConfirm => exact localMem_of_keeps (keeps_execReceiptDeliveryConfirm _ _ s) h
  | eventWrite => exact localMem_of_keeps (keeps_execEventWrite _ _ s) h
  | inbandDatagram => exact localMem_of_keeps (keeps_execInbandDatagram _ _ s) h
  | arpRequest => exact localMem_of_keeps (keeps_execArpRequest _ _ _ _ s) h
  | neighbourSolicitation => exact localMem_of_keeps (keeps_execNeighbourSolicitation _ _ _ _ s) h
  | echoRequest => exact localMem_of_keeps (keeps_execEchoRequest _ _ _ _ s) h
  | mgmtFrameOther port => exact localMem_of_keeps (keeps_execMgmtFrameOther port s) h
  | resolutionRetry => exact localMem_of_keeps (keeps_execResolutionRetry _ _ _ s) h
  | neighbourExpiry => exact localMem_of_keeps (keeps_execNeighbourExpiry _ _ _ s) h
  | moduleIdentify => exact localMem_of_keeps (keeps_execModuleIdentify _ s) h
  | moduleSetId => exact localMem_of_keeps (keeps_execModuleSetId _ _ s) h
  | moduleSetCompat => exact localMem_of_keeps (keeps_execModuleSetCompat _ _ _ s) h
  | moduleOpenRing => exact localMem_of_keeps (keeps_execModuleOpenRing _ _ _ _ _ s) h
  | moduleCloseRing => exact localMem_of_keeps (keeps_execModuleCloseRing _ _ s) h
  | moduleSetEventRing => exact localMem_of_keeps (keeps_execModuleSetEventRing _ _ _ s) h
  | moduleSaveSettings => exact localMem_of_keeps (keeps_execModuleSaveSettings _ s) h
  | settingsSaveComplete => exact localMem_of_keeps (keeps_execSettingsSaveComplete _ s) h
  | moduleReset => exact localMem_of_keeps (keeps_execModuleReset _ _ s) h
  | moduleSetMgmt => exact localMem_of_keeps (keeps_execModuleSetMgmt _ _ s) h
  | timeSetSource => exact localMem_of_keeps (keeps_execTimeSetSource _ _ _ _ s) h
  | timeAdjust => exact localMem_of_keeps (keeps_execTimeAdjust _ _ _ s) h
  | timeSetQuality => exact localMem_of_keeps (keeps_execTimeSetQuality _ _ _ s) h
  | timeSetHoldover => exact localMem_of_keeps (keeps_execTimeSetHoldover _ _ s) h
  | timeSetPtp => exact localMem_of_keeps (keeps_execTimeSetPtp _ _ _ _ _ s) h
  | timeRead => exact localMem_of_keeps (keeps_execTimeRead _ s) h
  | epochOpen => exact localMem_of_keeps (keeps_execEpochOpen _ _ s) h
  | epochCommit => exact localMem_of_keeps (keeps_execEpochCommit _ _ _ _ _ s) h
  | epochAbort => exact localMem_of_keeps (keeps_execEpochAbort _ _ s) h
  | epochCancel => exact localMem_of_keeps (keeps_execEpochCancel _ _ s) h
  | epochStatus => exact localMem_of_keeps (keeps_execEpochStatus _ s) h
  | epochSwitch => exact localMem_of_keeps (keeps_execEpochSwitch s) h
  | deferredSwitch => exact localMem_of_keeps (keeps_execDeferredSwitch _ s) h
  | epochRelease => exact localMem_of_keeps (keeps_execEpochRelease s) h
  | subepochSwitch => exact localMem_of_keeps (keeps_execSubepochSwitch s) h
  | sequencedListFetch => exact localMem_of_keeps (keeps_execSequencedListFetch _ s) h
  | postcardSend => exact localMem_of_keeps (keeps_execPostcardSend s) h
  | postcardReceive => exact localMem_of_keeps (keeps_execPostcardReceive _ _ _ s) h
  | peerAbsent => exact localMem_of_keeps (keeps_execPeerAbsent _ s) h
  | reachMismatchTimer => exact localMem_of_keeps (keeps_execReachMismatchTimer _ s) h
  | ppsInEdge => exact localMem_of_keeps (keeps_execPpsInEdge s) h
  | todMessageRx => exact localMem_of_keeps (keeps_execTodMessageRx _ s) h
  | todMissingExpiry => exact localMem_of_keeps (keeps_execTodMissingExpiry s) h
  | sourceWtrExpiry => exact localMem_of_keeps (keeps_execSourceWtrExpiry _ s) h
  | ptpEventMessage _ _ _ correction => exact localMem_of_keeps (keeps_execPtpEventMessage _ _ _ correction s) h
  | servoOffsetMeasure => exact localMem_of_keeps (keeps_execServoOffsetMeasure _ _ s) h
  | servoLockTimer => exact localMem_of_keeps (keeps_execServoLockTimer s) h
  | esmcPdu => exact localMem_of_keeps (keeps_execEsmcPdu _ _ s) h
  | ppsOutSecond => exact localMem_of_keeps (keeps_execPpsOutSecond s) h
  | todTransmit => exact localMem_of_keeps (keeps_execTodTransmit s) h
  | flitReceive => exact localMem_of_keeps (keeps_execFlitReceive _ _ _ s) h
  | d2dLockLoss => exact localMem_of_keeps (keeps_execD2dLockLoss _ s) h
  | d2dRetrain => exact localMem_of_keeps (keeps_execD2dRetrain _ _ s) h
  | frameReceive => exact localMem_of_keeps (keeps_execFrameReceive _ _ _ _ _ s) h
  | frameTransmit => exact localMem_of_keeps (keeps_execFrameTransmit _ s) h
  | pauseReceive => exact localMem_of_keeps (keeps_execPauseReceive _ _ _ _ s) h
  | pauseExpiry => exact localMem_of_keeps (keeps_execPauseExpiry _ _ s) h
  | trainingComplete => exact localMem_of_keeps (keeps_execTrainingComplete _ s) h
  | trainingTimeout => exact localMem_of_keeps (keeps_execTrainingTimeout _ s) h
  | alignmentAchieved => exact localMem_of_keeps (keeps_execAlignmentAchieved _ s) h
  | portFault => exact localMem_of_keeps (keeps_execPortFault _ _ s) h
  | portFaultClear => exact localMem_of_keeps (keeps_execPortFaultClear _ _ s) h
  | downDebounceExpiry => exact localMem_of_keeps (keeps_execDownDebounceExpiry _ s) h
  | upHoldoffExpiry => exact localMem_of_keeps (keeps_execUpHoldoffExpiry _ s) h
  | fecDegradeTimer => exact localMem_of_keeps (keeps_execFecDegradeTimer _ _ s) h
  | portDisableComplete => exact localMem_of_keeps (keeps_execPortDisableComplete _ s) h
  | flexeOhFrame => exact localMem_of_keeps (keeps_execFlexeOhFrame _ _ _ _ _ s) h
  | flexeCaReceive => exact localMem_of_keeps (keeps_execFlexeCaReceive _ _ s) h
  | calendarSwitch => exact localMem_of_keeps (keeps_execCalendarSwitch _ _ s) h
  | flexeDeskewFail => exact localMem_of_keeps (keeps_execFlexeDeskewFail _ _ s) h
  | framePatternCheck => exact localMem_of_keeps (keeps_execFramePatternCheck _ _ _ _ _ s) h
  | lofDeclare => exact localMem_of_keeps (keeps_execLofDeclare _ _ _ s) h
  | lofClear => exact localMem_of_keeps (keeps_execLofClear _ _ _ s) h
  | otnDefect => exact localMem_of_keeps (keeps_execOtnDefect _ _ _ _ s) h
  | gmpJcReceive => exact localMem_of_keeps (keeps_execGmpJcReceive _ _ _ _ s) h
  | gmpMultiframeTx => exact localMem_of_keeps (keeps_execGmpMultiframeTx _ _ _ s) h
  | tsPageSwitch => exact localMem_of_keeps (keeps_execTsPageSwitch _ s) h
  | ohRxFrame => exact localMem_of_keeps (keeps_execOhRxFrame _ _ s) h
  | ohRecordDeliver => exact localMem_of_keeps (keeps_execOhRecordDeliver _ s) h
  | ohTxFrame => exact localMem_of_keeps (keeps_execOhTxFrame _ s) h
  | ohTxWrite => exact localMem_of_keeps (keeps_execOhTxWrite _ _ s) h
  | envelopeDisableBoundary => exact localMem_of_keeps (keeps_execEnvelopeDisableBoundary _ _ _ s) h
  | portConfigure => exact localMem_of_keeps (keeps_execPortConfigure _ _ s) h
  | portEnable => exact localMem_of_keeps (keeps_execPortEnable _ _ s) h
  | portDisable => exact localMem_of_keeps (keeps_execPortDisable _ _ s) h
  | portSetLaneMap => exact localMem_of_keeps (keeps_execPortSetLaneMap _ _ _ _ _ s) h
  | portSetDelay => exact localMem_of_keeps (keeps_execPortSetDelay _ _ _ _ s) h
  | portSetTxEq => exact localMem_of_keeps (keeps_execPortSetTxEq _ _ _ s) h
  | portStatus => exact localMem_of_keeps (keeps_execPortStatus _ _ s) h
  | envelopeCreateFlexe => exact localMem_of_keeps (keeps_execEnvelopeCreateFlexe _ _ _ _ _ _ s) h
  | envelopeCreateOtu => exact localMem_of_keeps (keeps_execEnvelopeCreateOtu _ _ s) h
  | envelopeDeleteGroup => exact localMem_of_keeps (keeps_execEnvelopeDeleteGroup _ _ _ _ s) h
  | envelopeEnableGroup => exact localMem_of_keeps (keeps_execEnvelopeEnableGroup _ _ _ _ s) h
  | envelopeDisableGroup => exact localMem_of_keeps (keeps_execEnvelopeDisableGroup _ _ _ _ s) h
  | envelopeWriteCalendar => exact localMem_of_keeps (keeps_execEnvelopeWriteCalendar _ _ _ _ s) h
  | envelopeScheduleCalendar => exact localMem_of_keeps (keeps_execEnvelopeScheduleCalendar _ _ _ _ s) h
  | envelopeCancelCalendar => exact localMem_of_keeps (keeps_execEnvelopeCancelCalendar _ _ _ s) h
  | envelopeWriteTsPage => exact localMem_of_keeps (keeps_execEnvelopeWriteTsPage _ _ _ s) h
  | envelopeScheduleTsPage => exact localMem_of_keeps (keeps_execEnvelopeScheduleTsPage _ _ _ s) h
  | envelopeCancelTsPage => exact localMem_of_keeps (keeps_execEnvelopeCancelTsPage _ _ s) h
  | envelopeOhChannel => exact localMem_of_keeps (keeps_execEnvelopeOhChannel _ _ _ _ _ s) h
  | headerWindowSend => exact localMem_of_keeps (keeps_execHeaderWindowSend s) h
  | intakeDispatch => exact localMem_of_keeps (keeps_execIntakeDispatch s) h
  | lookupResult => exact localMem_of_keeps (keeps_execLookupResult _ _ _ _ _ _ _ _ s) h
  | slotRetire => exact localMem_of_keeps (keeps_execSlotRetire _ _ _ _ s) h
  | passHandoff => exact localMem_of_keeps (keeps_execPassHandoff _ _ s) h
  | benchSwitch => exact localMem_of_keeps (keeps_execBenchSwitch _ s) h
  | benchDrainComplete => exact localMem_of_keeps (keeps_execBenchDrainComplete _ s) h
  | benchReloadCheck => exact localMem_of_keeps (keeps_execBenchReloadCheck _ _ s) h
  | storeSetMode => exact localMem_of_keeps (keeps_execStoreSetMode _ _ s) h
  | storeWriteMicro => exact localMem_of_keeps (keeps_execStoreWriteMicro _ _ _ _ s) h
  | storeWriteNano => exact localMem_of_keeps (keeps_execStoreWriteNano _ _ _ _ s) h
  | storeWritePatch => exact localMem_of_keeps (keeps_execStoreWritePatch _ _ _ _ _ _ s) h
  | storeStageImage => exact localMem_of_keeps (keeps_execStoreStageImage _ _ _ s) h
  | storeSeal => exact localMem_of_keeps (keeps_execStoreSeal _ _ _ s) h
  | storeScheduleLoad => exact localMem_of_keeps (keeps_execStoreScheduleLoad _ _ _ _ s) h
  | storeCancelLoad => exact localMem_of_keeps (keeps_execStoreCancelLoad _ _ s) h
  | storeEnableBench => exact localMem_of_keeps (keeps_execStoreEnableBench _ _ s) h
  | storeDisableBench => exact localMem_of_keeps (keeps_execStoreDisableBench _ _ s) h
  | storeSetBudget => exact localMem_of_keeps (keeps_execStoreSetBudget _ _ s) h
  | routeAdd => exact localMem_of_keeps (keeps_execRouteAdd _ _ s) h
  | routeDelete => exact localMem_of_keeps (keeps_execRouteDelete _ _ _ _ _ s) h
  | routeBlock => exact localMem_of_keeps (keeps_execRouteBlock _ _ _ s) h
  | tableExactAdd => exact localMem_of_keeps (keeps_execTableExactAdd _ _ _ _ s) h
  | tableExactDelete => exact localMem_of_keeps (keeps_execTableExactDelete _ _ _ s) h
  | tableNhWrite => exact localMem_of_keeps (keeps_execTableNhWrite _ _ _ _ _ _ s) h
  | tableNhDelete => exact localMem_of_keeps (keeps_execTableNhDelete _ _ s) h
  | tableEcmpWrite => exact localMem_of_keeps (keeps_execTableEcmpWrite _ _ _ _ s) h
  | tableEcmpDelete => exact localMem_of_keeps (keeps_execTableEcmpDelete _ _ s) h
  | tableSetHash => exact localMem_of_keeps (keeps_execTableSetHash _ _ _ _ s) h
  | tableBlock => exact localMem_of_keeps (keeps_execTableBlock _ _ _ s) h
  | aclWrite => exact localMem_of_keeps (keeps_execAclWrite _ _ _ _ _ _ s) h
  | aclDelete => exact localMem_of_keeps (keeps_execAclDelete _ _ _ s) h
  | aclSetProfile => exact localMem_of_keeps (keeps_execAclSetProfile _ _ s) h
  | aclSetSelect => exact localMem_of_keeps (keeps_execAclSetSelect _ _ _ s) h
  | aclSetBankWidth => exact localMem_of_keeps (keeps_execAclSetBankWidth _ _ _ s) h
  | aclSetSelftest => exact localMem_of_keeps (keeps_execAclSetSelftest _ _ s) h
  | aclBlock => exact localMem_of_keeps (keeps_execAclBlock _ _ _ s) h
  | aclUpdateWindow => exact localMem_of_keeps (keeps_execAclUpdateWindow _ s) h
  | aclSelftestStart => exact localMem_of_keeps (keeps_execAclSelftestStart s) h
  | aclMigrationComplete => exact localMem_of_keeps (keeps_execAclMigrationComplete s) h
  | aclBankTestEnd => exact localMem_of_keeps (keeps_execAclBankTestEnd _ _ s) h
  | aclRowRepair => exact localMem_of_keeps (keeps_execAclRowRepair _ _ s) h
  | aclBankFault => exact localMem_of_keeps (keeps_execAclBankFault _ s) h
  | aclSpareWritten => exact localMem_of_keeps (keeps_execAclSpareWritten s) h
  | ingressAdmission => exact localMem_of_keeps (keeps_execIngressAdmission _ _ s) h
  | bufferFree => exact localMem_of_keeps (keeps_execBufferFree _ _ s) h
  | dlqDeliver => exact localMem_of_keeps (keeps_execDlqDeliver _ _ s) h
  | ctIngressStart => exact localMem_of_keeps (keeps_execCtIngressStart _ _ s) h
  | ctIngressTimeout => exact localMem_of_keeps (keeps_execCtIngressTimeout _ s) h
  | ctEgressStart => exact localMem_of_keeps (keeps_execCtEgressStart _ s) h
  | ctEgressAbort => exact localMem_of_keeps (keeps_execCtEgressAbort _ _ s) h
  | bufferSetPools => exact localMem_of_keeps (keeps_execBufferSetPools _ _ _ _ _ s) h
  | bufferSetClass => exact localMem_of_keeps (keeps_execBufferSetClass _ _ _ _ _ _ s) h
  | bufferSetAdmission => exact localMem_of_keeps (keeps_execBufferSetAdmission _ _ s) h
  | bufferSetDlq => exact localMem_of_keeps (keeps_execBufferSetDlq _ _ s) h
  | bufferSetCutThrough => exact localMem_of_keeps (keeps_execBufferSetCutThrough _ _ _ _ _ _ s) h
  | schedulerSelect => exact localMem_of_keeps (keeps_execSchedulerSelect _ s) h
  | windowReturn => exact localMem_of_keeps (keeps_execWindowReturn _ s) h
  | arbiterGrant => exact localMem_of_keeps (keeps_execArbiterGrant _ s) h
  | voqSend => exact localMem_of_keeps (keeps_execVoqSend _ _ s) h
  | gateEntryAdvance => exact localMem_of_keeps (keeps_execGateEntryAdvance _ s) h
  | gateListSwitch => exact localMem_of_keeps (keeps_execGateListSwitch _ s) h
  | holdExpiry => exact localMem_of_keeps (keeps_execHoldExpiry _ s) h
  | portFlushComplete => exact localMem_of_keeps (keeps_execPortFlushComplete _ s) h
  | voqAgeVisit => exact localMem_of_keeps (keeps_execVoqAgeVisit _ s) h
  | queueFlushComplete => exact localMem_of_keeps (keeps_execQueueFlushComplete _ s) h
  | queueConfigure => exact localMem_of_keeps (keeps_execQueueConfigure _ _ s) h
  | queueSetNode => exact localMem_of_keeps (keeps_execQueueSetNode _ _ s) h
  | queueSetPort => exact localMem_of_keeps (keeps_execQueueSetPort _ _ s) h
  | queueSetLengthProfile => exact localMem_of_keeps (keeps_execQueueSetLengthProfile _ _ _ _ s) h
  | queueDelete => exact localMem_of_keeps (keeps_execQueueDelete _ _ _ s) h
  | queueFlush => exact localMem_of_keeps (keeps_execQueueFlush _ _ s) h
  | queueWriteGates => exact localMem_of_keeps (keeps_execQueueWriteGates _ _ _ s) h
  | queueScheduleGates => exact localMem_of_keeps (keeps_execQueueScheduleGates _ _ _ s) h
  | queueCancelGates => exact localMem_of_keeps (keeps_execQueueCancelGates _ _ s) h
  | policerConfigure => exact localMem_of_keeps (keeps_execPolicerConfigure _ _ s) h
  | policerDelete => exact localMem_of_keeps (keeps_execPolicerDelete _ _ s) h
  | cellSlotTransmit => exact localMem_of_keeps (keeps_execCellSlotTransmit _ s) h
  | packWaitExpiry => exact localMem_of_keeps (keeps_execPackWaitExpiry _ s) h
  | cellReceive => exact localMem_of_keeps (keeps_execCellReceive _ _ _ _ s) h
  | reachReceive => exact localMem_of_keeps (keeps_execReachReceive _ _ _ s) h
  | requestReceive => exact localMem_of_keeps (keeps_execRequestReceive _ _ _ _ s) h
  | grantReceive => exact localMem_of_keeps (keeps_execGrantReceive _ _ _ _ s) h
  | lossNoticeReceive => exact localMem_of_keeps (keeps_execLossNoticeReceive _ _ _ _ s) h
  | linkAligned => exact localMem_of_keeps (keeps_execLinkAligned _ s) h
  | linkDown => exact localMem_of_keeps (keeps_execLinkDown _ _ s) h
  | reachTimeout => exact localMem_of_keeps (keeps_execReachTimeout _ s) h
  | holdMaxExpiry => exact localMem_of_keeps (keeps_execHoldMaxExpiry _ s) h
  | linkRetry => exact localMem_of_keeps (keeps_execLinkRetry _ s) h
  | linkDisableComplete => exact localMem_of_keeps (keeps_execLinkDisableComplete _ s) h
  | identSend => exact localMem_of_keeps (keeps_execIdentSend _ s) h
  | holeLostExpiry => exact localMem_of_keeps (keeps_execHoleLostExpiry _ _ s) h
  | reassemblyTimeout => exact localMem_of_keeps (keeps_execReassemblyTimeout _ _ s) h
  | creditWatchdog => exact localMem_of_keeps (keeps_execCreditWatchdog _ s) h
  | grantCellClose => exact localMem_of_keeps (keeps_execGrantCellClose _ s) h
  | fabricEnableLink => exact localMem_of_keeps (keeps_execFabricEnableLink _ _ s) h
  | fabricDisableLink => exact localMem_of_keeps (keeps_execFabricDisableLink _ _ s) h
  | fabricSetTxEq => exact localMem_of_keeps (keeps_execFabricSetTxEq _ _ _ s) h
  | fabricSetTimers => exact localMem_of_keeps (keeps_execFabricSetTimers _ _ _ _ _ _ s) h
  | fabricSetCredit => exact localMem_of_keeps (keeps_execFabricSetCredit _ _ _ s) h
  | fabricSetMcastVoq => exact localMem_of_keeps (keeps_execFabricSetMcastVoq _ _ _ s) h
  | fabricSetMgroup => exact localMem_of_keeps (keeps_execFabricSetMgroup _ _ _ s) h
  | hbmCommandSlot => exact localMem_of_keeps (keeps_execHbmCommandSlot _ _ s) h
  | panicReadExpiry => exact localMem_of_keeps (keeps_execPanicReadExpiry _ s) h
  | refreshDue => exact localMem_of_keeps (keeps_execRefreshDue _ _ s) h
  | hbmTraining => exact localMem_of_keeps (keeps_execHbmTraining _ _ s) h
  | retrainFence => exact localMem_of_keeps (keeps_execRetrainFence _ s) h
  | retrainWindowStart => exact localMem_of_keeps (keeps_execRetrainWindowStart _ s) h
  | retrainWindowEnd => exact localMem_of_keeps (keeps_execRetrainWindowEnd _ _ s) h
  | selfRefreshEntry => exact localMem_of_keeps (keeps_execSelfRefreshEntry _ s) h
  | selfRefreshExit => exact localMem_of_keeps (keeps_execSelfRefreshExit _ s) h
  | pchDrained => exact localMem_of_keeps (keeps_execPchDrained _ s) h
  | stackDrainComplete => exact localMem_of_keeps (keeps_execStackDrainComplete _ s) h
  | hbmSetPanic => exact localMem_of_keeps (keeps_execHbmSetPanic _ _ s) h
  | hbmSetNeighbour => exact localMem_of_keeps (keeps_execHbmSetNeighbour _ _ s) h
  | hbmSetRetrain => exact localMem_of_keeps (keeps_execHbmSetRetrain _ _ s) h
  | hbmRetrainNow => exact localMem_of_keeps (keeps_execHbmRetrainNow _ _ s) h
  | hbmSetSelfRefresh => exact localMem_of_keeps (keeps_execHbmSetSelfRefresh _ _ s) h
  | hbmDisableStack => exact localMem_of_keeps (keeps_execHbmDisableStack _ _ s) h
  | hbmEnableStack => exact localMem_of_keeps (keeps_execHbmEnableStack _ _ s) h
  | hbmReadEyes => exact localMem_of_keeps (keeps_execHbmReadEyes _ _ _ _ s) h
  | sliceCreate => exact localMem_of_keeps (keeps_execSliceCreate _ _ _ _ _ _ _ s) h
  | sliceSetShare => exact localMem_of_keeps (keeps_execSliceSetShare _ _ _ s) h
  | sliceHoldQuiesced => exact localMem_of_keeps (keeps_execSliceHoldQuiesced _ s) h
  | sliceReset => exact localMem_of_keeps (keeps_execSliceReset _ _ s) h
  | sliceQuiescence => exact localMem_of_keeps (keeps_execSliceQuiescence _ _ s) h
  | sliceResetClear => exact localMem_of_keeps (keeps_execSliceResetClear s) h
  | sliceDelete => exact localMem_of_keeps (keeps_execSliceDelete _ _ s) h
  | sliceBindInband => exact localMem_of_keeps (keeps_execSliceBindInband _ _ _ _ s) h
  | sliceDirtyLog => exact localMem_of_keeps (keeps_execSliceDirtyLog _ _ _ _ _ _ s) h
  | sliceStatus => exact localMem_of_keeps (keeps_execSliceStatus _ _ s) h
  | courierBurst => exact localMem_of_keeps (keeps_execCourierBurst _ _ _ _ s) h
  | courierReadReturn => exact localMem_of_keeps (keeps_execCourierReadReturn _ _ s) h
  | descriptorComplete => exact localMem_of_keeps (keeps_execDescriptorComplete _ s) h
  | injectRecord => exact localMem_of_keeps (keeps_execInjectRecord _ _ s) h
  | circularRecordWrite => exact localMem_of_keeps (keeps_execCircularRecordWrite _ s) h
  | courierStopBoundary => exact localMem_of_keeps (keeps_execCourierStopBoundary _ s) h
  | courierOpenChannel => exact localMem_of_keeps (keeps_execCourierOpenChannel _ _ _ _ _ s) h
  | courierStop => exact localMem_of_keeps (keeps_execCourierStop _ _ s) h
  | courierClose => exact localMem_of_keeps (keeps_execCourierClose _ _ s) h
  | courierSetShare => exact localMem_of_keeps (keeps_execCourierSetShare _ _ _ s) h
  | heartbeat => exact localMem_of_keeps (keeps_execHeartbeat _ s) h
  | heartbeatLapse => exact localMem_of_keeps (keeps_execHeartbeatLapse s) h
  | roleGrant => exact localMem_of_keeps (keeps_execRoleGrant _ s) h
  | stopConfirmation => exact localMem_of_keeps (keeps_execStopConfirmation _ s) h
  | dualActiveTimeout => exact localMem_of_keeps (keeps_execDualActiveTimeout s) h
  | postmasterRestart => exact localMem_of_keeps (keeps_execPostmasterRestart _ s) h
  | bootSelftestDone => exact localMem_of_keeps (keeps_execBootSelftestDone _ _ s) h
  | syncComplete => exact localMem_of_keeps (keeps_execSyncComplete _ _ s) h
  | standbyAckTimeout => exact localMem_of_keeps (keeps_execStandbyAckTimeout s) h
  | selftestItem => exact localMem_of_keeps (keeps_execSelftestItem _ _ _ s) h
  | postmasterFailure => exact localMem_of_keeps (keeps_execPostmasterFailure _ _ s) h
  | healthWrite => exact localMem_of_keeps (keeps_execHealthWrite _ _ s) h
  | headlessRebuild => exact localMem_of_keeps (keeps_execHeadlessRebuild _ s) h
  | imageWrite => exact localMem_of_keeps (keeps_execImageWrite _ _ _ _ _ s) h
  | flashWriteComplete => exact localMem_of_keeps (keeps_execFlashWriteComplete _ s) h
  | imageVerify => exact localMem_of_keeps (keeps_execImageVerify _ _ _ s) h
  | imageVerifyComplete => exact localMem_of_keeps (keeps_execImageVerifyComplete _ _ s) h
  | imageActivate => exact localMem_of_keeps (keeps_execImageActivate _ _ _ s) h
  | imageAbort => exact localMem_of_keeps (keeps_execImageAbort _ _ s) h
  | imageList => exact localMem_of_keeps (keeps_execImageList _ s) h
  | activationStart => exact localMem_of_keeps (keeps_execActivationStart s) h
  | rolloutStepEnd => exact localMem_of_keeps (keeps_execRolloutStepEnd s) h
  | rolloutStepTimeout => exact localMem_of_keeps (keeps_execRolloutStepTimeout s) h
  | sweepStart => exact localMem_of_keeps (keeps_execSweepStart s) h
  | sweepRead => exact localMem_of_keeps (keeps_execSweepRead s) h
  | snapshotLatch => exact localMem_of_keeps (keeps_execSnapshotLatch s) h
  | telemetryReadCounters => exact localMem_of_keeps (keeps_execTelemetryReadCounters _ _ _ _ _ s) h
  | telemetrySnapshot => exact localMem_of_keeps (keeps_execTelemetrySnapshot _ _ _ s) h
  | telemetrySetTagging => exact localMem_of_keeps (keeps_execTelemetrySetTagging _ _ s) h
  | telemetrySetTrace => exact localMem_of_keeps (keeps_execTelemetrySetTrace _ _ _ _ s) h
  | powerRead => exact localMem_of_keeps (keeps_execPowerRead _ s) h
  | powerSetCap => exact localMem_of_keeps (keeps_execPowerSetCap _ _ s) h
  | powerSetAlert => exact localMem_of_keeps (keeps_execPowerSetAlert _ _ _ _ s) h
  | faultRead => exact localMem_of_keeps (keeps_execFaultRead _ _ _ _ _ s) h
  | faultClear => exact localMem_of_keeps (keeps_execFaultClear _ _ s) h
  | faultSetMask => exact localMem_of_keeps (keeps_execFaultSetMask _ _ _ s) h
  | mirrorConfigure => exact localMem_of_keeps (keeps_execMirrorConfigure _ _ _ _ _ _ s) h
  | mirrorDisable => exact localMem_of_keeps (keeps_execMirrorDisable _ _ s) h
  | faultEventHoldoffExpiry => exact localMem_of_keeps (keeps_execFaultEventHoldoffExpiry _ s) h
  | suppressionGraceExpiry => exact localMem_of_keeps (keeps_execSuppressionGraceExpiry _ s) h
  | inputRise => exact localMem_of_keeps (keeps_execInputRise s) h
  | housekeepingBoot => exact localMem_of_keeps (keeps_execHousekeepingBoot s) h
  | inputVoltageBand => exact localMem_of_keeps (keeps_execInputVoltageBand _ s) h
  | overvoltageRecovery => exact localMem_of_keeps (keeps_execOvervoltageRecovery s) h
  | pwrEnAssert => exact localMem_of_keeps (keeps_execPwrEnAssert s) h
  | powerGood => exact localMem_of_keeps (keeps_execPowerGood s) h
  | domainSwitchComplete => exact localMem_of_keeps (keeps_execDomainSwitchComplete s) h
  | domainFailure => exact localMem_of_keeps (keeps_execDomainFailure _ s) h
  | temperatureChange => exact localMem_of_keeps (keeps_execTemperatureChange _ s) h
  | powerCapCheck => exact localMem_of_keeps (keeps_execPowerCapCheck _ s) h
  | throttleNChange => exact localMem_of_keeps (keeps_execThrottleNChange _ s) h
  | pmbusClearFaults => exact localMem_of_keeps (keeps_execPmbusClearFaults s) h
  | statusWord => exact localMem_of_keeps (keeps_execStatusWord s) h
  | statusInput => exact localMem_of_keeps (keeps_execStatusInput s) h
  | statusTemperature => exact localMem_of_keeps (keeps_execStatusTemperature s) h
  | readVin => exact localMem_of_keeps (keeps_execReadVin s) h
  | readIin => exact localMem_of_keeps (keeps_execReadIin s) h
  | readTemperature1 => exact localMem_of_keeps (keeps_execReadTemperature1 s) h
  | readTemperature2 => exact localMem_of_keeps (keeps_execReadTemperature2 s) h
  | readPin => exact localMem_of_keeps (keeps_execReadPin s) h
  | pmbusRevision => exact localMem_of_keeps (keeps_execPmbusRevision s) h
  | pmbusUnsupported code => exact localMem_of_keeps (keeps_execPmbusUnsupported code s) h
  | fruEepromRead => exact localMem_of_keeps (keeps_execFruEepromRead _ s) h
  | telemetryMirrorUpdate => exact localMem_of_keeps (keeps_execTelemetryMirrorUpdate _ _ s) h
  | referenceLost => exact localMem_of_keeps (keeps_execReferenceLost _ s) h
  | referenceRegained => exact localMem_of_keeps (keeps_execReferenceRegained _ s) h
  | resetNRelease => exact localMem_of_keeps (keeps_execResetNRelease s) h
  | housekeepingWatchdog => exact localMem_of_keeps (keeps_execHousekeepingWatchdog s) h
  | pcieReset => exact localMem_of_keeps (keeps_execPcieReset _ s) h
  | startupResetDone => exact localMem_of_keeps (keeps_execStartupResetDone s) h
  | startupApplyDone => exact localMem_of_keeps (keeps_execStartupApplyDone _ s) h
  | startupTimeout => exact localMem_of_keeps (keeps_execStartupTimeout s) h
  | configurationWrite => exact localMem_of_keeps (keeps_execConfigurationWrite _ s) h
  | envelopeLanesIdle => exact localMem_of_keeps (keeps_execEnvelopeLanesIdle _ _ _ s) h
  | flexeDeskewRecovery => exact localMem_of_keeps (keeps_execFlexeDeskewRecovery _ _ s) h
  | ptpSourceLost => exact localMem_of_keeps (keeps_execPtpSourceLost _ s) h
  | startupSettingsDone => exact localMem_of_keeps (keeps_execStartupSettingsDone s) h

end

/-- Settles O7: the writers by what every other command keeps, the places by the address of the store, of the trap frame
or of the letter's bytes. -/
theorem localMemoryHasItsWriters : Obligations.LocalMemoryHasItsWriters := by
  refine ⟨?writers, ?issue, ?write⟩
  case writers =>
    intro c s t h changed
    have writer : WritesLocalMem c := Classical.byContradiction fun other => changed (exec_localMem h other)
    exact writer
  case issue => exact fun b c ecc s t a h outside => execNanowordIssue_sameOutside h a outside
  case write => exact fun s t l clerk offset size data a h one outside => execStoreWriteLocal_sameOutside h one a outside

end Sys2Proof.Machine

namespace Sys2Proof.Machine

/-! # The member that a flow hash picks and the rate that a policer holds (05 R161-R167) -/

/-! ## The flow hash, rotated and folded (05 R164) -/

/-- Rotated right, the low bits stand above the bits that stay, so that their union is a sum. -/
theorem toNat_rotateRight_eq_add (hash : BitVec 32) (rot : Fin 32) : (hash.rotateRight rot.val).toNat =
    (hash.toNat / 2 ^ rot.val + hash.toNat * 2 ^ (32 - rot.val)) % 2 ^ 32 := by
  have word : 2 ^ 32 = 2 ^ rot.val * 2 ^ (32 - rot.val) := by
    rw [← Nat.pow_add, Nat.add_sub_cancel' (Nat.le_of_lt rot.isLt)]
  have high : hash.toNat / 2 ^ rot.val < 2 ^ (32 - rot.val) := Nat.div_lt_of_lt_mul (by rw [← word]; exact hash.isLt)
  have low : hash.toNat % 2 ^ rot.val < 2 ^ rot.val := Nat.mod_lt _ (Nat.two_pow_pos _)
  have shifted : hash.toNat * 2 ^ (32 - rot.val) % 2 ^ 32 = hash.toNat % 2 ^ rot.val * 2 ^ (32 - rot.val) := by
    rw [word, Nat.mul_mod_mul_right]
  have fits : hash.toNat % 2 ^ rot.val * 2 ^ (32 - rot.val) + hash.toNat / 2 ^ rot.val < 2 ^ 32 :=
    calc _ < hash.toNat % 2 ^ rot.val * 2 ^ (32 - rot.val) + 2 ^ (32 - rot.val) :=
          Nat.add_lt_add_left high _
      _ = (hash.toNat % 2 ^ rot.val + 1) * 2 ^ (32 - rot.val) := (Nat.succ_mul ..).symm
      _ ≤ 2 ^ rot.val * 2 ^ (32 - rot.val) := Nat.mul_le_mul_right _ low
      _ = 2 ^ 32 := word.symm
  calc (hash.rotateRight rot.val).toNat
      = hash.toNat / 2 ^ rot.val ||| hash.toNat % 2 ^ rot.val * 2 ^ (32 - rot.val) := by
        rw [BitVec.toNat_rotateRight, Nat.mod_eq_of_lt rot.isLt, Nat.shiftLeft_eq, shifted, Nat.shiftRight_eq_div_pow]
    _ = hash.toNat % 2 ^ rot.val * 2 ^ (32 - rot.val) + hash.toNat / 2 ^ rot.val := by
        rw [Nat.or_comm, ← Nat.shiftLeft_eq, Nat.shiftLeft_add_eq_or_of_lt high]
    _ = (hash.toNat / 2 ^ rot.val + hash.toNat * 2 ^ (32 - rot.val)) % 2 ^ 32 := by
        rw [← Nat.add_mod_mod, shifted, Nat.add_comm (_ / _), Nat.mod_eq_of_lt fits]

/-- A rotated flow hash folded to 16 bits. -/
def foldHash (rotated : BitVec 32) : BitVec 16 := rotated.extractLsb' 16 16 ^^^ rotated.extractLsb' 0 16

theorem toNat_foldHash (rotated : BitVec 32) :
    (foldHash rotated).toNat = rotated.toNat / 65536 ^^^ rotated.toNat % 65536 := by
  have high : rotated.toNat / 65536 < 65536 := by omega
  simp only [foldHash, BitVec.toNat_xor, BitVec.extractLsb'_toNat, Nat.shiftRight_eq_div_pow, Nat.reducePow, Nat.div_one,
    Nat.mod_eq_of_lt high]

/-- The member picked, in a group that has one. -/
theorem pick_eq {g : Ecmp} (hash : BitVec 32) (rot : Fin 32) (filled : g.members ≠ []) :
    g.pick hash.toNat rot.val = if g.resilient then
      g.members[(foldHash (hash.rotateRight rot.val)).toNat % g.members.length]?
    else g.members[(foldHash (hash.rotateRight rot.val)).toNat * g.members.length / 65536]? := by
  rw [toNat_foldHash, toNat_rotateRight_eq_add]
  exact if_neg (Nat.ne_of_gt (List.length_pos_iff.mpr filled))

/-- A result of kind 1 resolves to the next hop of the member that its group picks (05 R161). -/
theorem nhResolve_group {s : State} {e i : Nat} {d : Dispatch} {g : Ecmp} {n : NextHop} (valid : bit (d.key 0) 63 = true)
    (kind : bits (d.key 0) 21 20 = 1) (group : s.see e (afind s.lookup.ecmp (bits (d.key 0) 19 0 % 65536)) = some g)
    (picked : g.pick (hvBits d.hv 20 4) (bits d.param.toNat 4 0) = some i)
    (hop : s.see e (afind s.lookup.nh i) = some n) : s.nhResolve e d =
      (2 ^ 63 + n.voqBase * 2 ^ 20 + i, n.encap.toNat * 2 ^ 16 + n.port * 2 ^ 7 + n.module) := by
  simp [State.nhResolve, valid, kind, group, picked, hop]

/-- Settles O14: the model's sum is the rotation, its quotient and remainder are the halves that are folded. -/
theorem ecmpPicksByTheFoldedHash : Obligations.EcmpPicksByTheFoldedHash := by
  refine ⟨?direct, ?resilient, ?resolve⟩
  case direct =>
    intro g hash rot direct filled _
    refine ⟨foldHash (hash.rotateRight rot.val), rfl, _, rfl, ?_, ?_⟩
    · rw [Nat.div_lt_iff_lt_mul (by decide), Nat.mul_comm]
      exact Nat.mul_lt_mul_of_pos_left (BitVec.isLt _) (List.length_pos_iff.mpr filled)
    · rw [pick_eq hash rot filled, direct, if_neg Bool.false_ne_true]
  case resilient =>
    intro g hash rot resilient filled
    refine ⟨foldHash (hash.rotateRight rot.val), rfl, _, rfl, Nat.mod_lt _ (List.length_pos_iff.mpr filled), ?_⟩
    rw [pick_eq hash rot filled, resilient, if_pos rfl]
  case resolve => exact fun s e d g i n valid kind group picked hop => nhResolve_group valid kind group picked hop

/-! ## Rates as mantissa and exponent (05 R167) -/

/-- The exponent with which a rate is held: its bits beyond the first 16. -/
def rateExponent (r : Nat) : Nat := Nat.log2 r - 15

/-- The mantissa with which a rate is held. -/
def rateMantissa (r : Nat) : Nat := r / 2 ^ rateExponent r

theorem rateExponent_of_lt {r : Nat} (small : r < 65536) : rateExponent r = 0 := by
  by_cases zero : r = 0
  · rw [zero]; rfl
  · have : Nat.log2 r < 16 := (Nat.log2_lt zero).mpr small
    rw [rateExponent]
    omega

theorem heldRate_eq (r : Nat) : heldRate r = rateMantissa r * 2 ^ rateExponent r := by
  by_cases small : r < 65536
  · simp only [heldRate, rateMantissa, rateExponent_of_lt small, if_pos small, Nat.pow_zero, Nat.div_one, Nat.mul_one]
  · exact if_neg small

theorem heldRate_le (r : Nat) : heldRate r ≤ r := heldRate_eq r ▸ Nat.div_mul_le_self r _

theorem rateMantissa_lt (r : Nat) : rateMantissa r < 65536 :=
  Nat.div_lt_of_lt_mul <| calc
    r < 2 ^ (Nat.log2 r + 1) := Nat.lt_log2_self
    _ ≤ 2 ^ (rateExponent r + 16) := Nat.pow_le_pow_right (by decide) (by rw [rateExponent]; omega)
    _ = 2 ^ rateExponent r * 65536 := Nat.pow_add ..

/-- A rate of more than 16 bits fills its mantissa. -/
theorem pow_rateExponent_le {r : Nat} (large : 65536 ≤ r) : 32768 * 2 ^ rateExponent r ≤ r := by
  have nonzero : r ≠ 0 := by omega
  have bits : 16 ≤ Nat.log2 r := (Nat.le_log2 nonzero).mpr large
  calc 32768 * 2 ^ rateExponent r = 2 ^ (15 + rateExponent r) := (Nat.pow_add 2 15 _).symm
    _ = 2 ^ Nat.log2 r := by rw [rateExponent, Nat.add_sub_cancel' (Nat.le_of_succ_le bits)]
    _ ≤ r := Nat.log2_self_le nonzero

theorem le_rateMantissa {r : Nat} (large : 65536 ≤ r) : 32768 ≤ rateMantissa r :=
  (Nat.le_div_iff_mul_le (Nat.two_pow_pos _)).mpr (pow_rateExponent_le large)

/-- No value with a mantissa of 16 bits lies between the held rate and the rate: with a larger exponent it is a multiple
of the held rate's power of two, with a smaller one it is below the held rate's smallest mantissa. -/
theorem le_heldRate {r m e : Nat} (m_lt : m < 65536) (le : m * 2 ^ e ≤ r) : m * 2 ^ e ≤ heldRate r := by
  rw [heldRate_eq]
  rcases Nat.lt_or_ge e (rateExponent r) with lower | higher
  · have large : 65536 ≤ r := Nat.le_of_not_lt fun small =>
      Nat.not_lt_zero e (rateExponent_of_lt small ▸ lower)
    calc m * 2 ^ e ≤ 65536 * 2 ^ e := Nat.mul_le_mul_right _ (Nat.le_of_lt m_lt)
      _ = 32768 * 2 ^ (e + 1) := by rw [Nat.pow_succ]; omega
      _ ≤ 32768 * 2 ^ rateExponent r := Nat.mul_le_mul_left _ (Nat.pow_le_pow_right (by decide) lower)
      _ ≤ rateMantissa r * 2 ^ rateExponent r := Nat.mul_le_mul_right _ (le_rateMantissa large)
  · have shift : m * 2 ^ e = m * 2 ^ (e - rateExponent r) * 2 ^ rateExponent r := by
      rw [Nat.mul_assoc, ← Nat.pow_add, Nat.sub_add_cancel higher]
    rw [shift] at le ⊢
    exact Nat.mul_le_mul_right _ ((Nat.le_div_iff_mul_le (Nat.two_pow_pos _)).mpr le)

/-- What a rate of more than 16 bits loses is less than the last bit of its mantissa. -/
theorem sub_heldRate_le {r : Nat} (large : 65536 ≤ r) : 32768 * (r - heldRate r) ≤ r := by
  have loss : r - heldRate r = r % 2 ^ rateExponent r := by
    rw [heldRate_eq, rateMantissa, Nat.mul_comm, Nat.mod_def]
  calc 32768 * (r - heldRate r) ≤ 32768 * 2 ^ rateExponent r := by
        rw [loss]; exact Nat.mul_le_mul_left _ (Nat.le_of_lt (Nat.mod_lt _ (Nat.two_pow_pos _)))
    _ ≤ r := pow_rateExponent_le large

/-- Settles O15: the exponent leaves the rate's first 16 bits as its mantissa, and 47 bits need an exponent of at most
31. -/
theorem policerRatesAreHeldAsMantissaAndExponent : Obligations.PolicerRatesAreHeldAsMantissaAndExponent := by
  intro r bounded
  have exponent : rateExponent r ≤ 31 := by
    by_cases zero : r = 0
    · rw [zero]; decide
    · have : Nat.log2 r < 47 := (Nat.log2_lt zero).mpr bounded
      rw [rateExponent]
      omega
  exact ⟨rateMantissa r, rateExponent r, heldRate_eq r, rateMantissa_lt r, exponent, heldRate_le r,
    fun _ _ m_lt _ le => le_heldRate m_lt le, fun large => ⟨le_rateMantissa large, sub_heldRate_le large⟩⟩

end Sys2Proof.Machine

namespace Sys2Proof.Machine

/-! # The letters of the lookup tables and of the associative engine (05 R158-R186; 10 R343, R344) -/

/-- Settles O28: a letter that stages one record by what every record's row does, a block by what every block's row does,
an implicit epoch by what a row does without a pending epoch. The object in a record's header and the CRC of a block's
list are deduced (notes/assumptions/49.md). -/
theorem tableAndBlockLetters : Obligations.TableAndBlockLetters := by
  refine ⟨?routeAdd, ?routeDelete, ?exactAdd, ?exactDelete, ?nhWrite, ?nhDelete, ?ecmpWrite, ?ecmpDelete, ?routeBlock,
    ?tableBlock, ?aclBlock, ?implicit⟩
  case routeAdd => exact fun s l a h names stages => ⟨_, rfl, itemRun_staged h names stages rfl⟩
  case routeDelete => exact fun s l vrf family pfx plen h names stages => ⟨_, rfl, itemRun_staged h names stages rfl⟩
  case exactAdd => exact fun s l type key result h names stages => ⟨_, rfl, itemRun_staged h names stages rfl⟩
  case exactDelete => exact fun s l type key h names stages => ⟨_, rfl, itemRun_staged h names stages rfl⟩
  case nhWrite => exact fun s l nh voq port module encap h names stages => ⟨_, rfl, itemRun_staged h names stages rfl⟩
  case nhDelete => exact fun s l nh h names stages => ⟨_, rfl, itemRun_staged h names stages rfl⟩
  case ecmpWrite => exact fun s l group mode members ms h names _ stages => ⟨_, rfl, itemRun_staged h names stages rfl⟩
  case ecmpDelete => exact fun s l group h names stages => ⟨_, rfl, itemRun_staged h names stages rfl⟩
  case routeBlock => exact fun s t l records crc rs h stages => ⟨_, rfl, blockRun_staged h stages⟩
  case tableBlock => exact fun s t l records crc rs h stages => ⟨_, rfl, blockRun_staged h stages⟩
  case aclBlock => exact fun s t l records crc rs h stages => ⟨_, rfl, blockRun_staged h stages⟩
  case implicit =>
    exact fun s t l r h unnamed idle released six seven eight stages unclamped =>
      itemRun_implicit h unnamed idle released six seven eight stages unclamped

/-! ## ACL.SET_BANK_WIDTH, ACL.SET_SELFTEST and TABLE.SET_HASH (05 R163, R172, R186) -/

section
variable {s : State} {l : LetterId}

theorem execAclSetBankWidth_accepted {bank width : W32} (h : Claimed s l 0x0905 [p4 bank, p4 width])
    (here : bank.toNat < s.variant.logical) (banks : s.variant.logical ≤ 32) (widths : width = 320#32 ∨ width = 640#32)
    (mine : s.owner 0x0D bank.toNat = l.slice.val) (empty : s.bankUsed bank.toNat = false) :
    ∃ t, exec (.aclSetBankWidth l bank width) s = .next t ∧ Accepted s { s with lookup := { s.lookup with
      wide := nset false bank.toNat (decide (width = 640#32)) s.lookup.wide } } t l .done
      (layBody [p4 bank, p4 width]) := by
  refine ⟨_, rfl, runLetter_accepted h fun c hc => ?_⟩
  subst hc
  refine (checked_ok ?_).trans rfl
  have bank_le : bank.toNat ≤ 31 := by omega
  have width_ok : ¬ (width ≠ 320#32 ∧ width ≠ 640#32) := fun other => widths.elim other.1 other.2
  simp [malformed, noObj, notPermitted, Ctx.sl, bank_le, here, mine, empty, width_ok]

theorem execAclSetSelftest_accepted {period : W64} (h : Claimed s l 0x0906 [p8 period])
    (low : period.toNat = 0 ∨ hourNs ≤ period.toNat) (high : period.toNat ≤ 168 * hourNs) :
    ∃ t, exec (.aclSetSelftest l period) s = .next t ∧
      Accepted s { s with lookup := { s.lookup with period := period.toNat } } t l .done (layBody [p8 period]) := by
  have given : period.toNat ≠ 2 ^ 64 - 1 := by
    rw [hourNs] at high
    omega
  refine ⟨_, rfl, runLetter_accepted h fun _ _ => ?_⟩
  simp only [clampU0_mem given low high]
  rfl

theorem execTableSetHash_accepted {seed profile fields : W32} (h : Claimed s l 0x0807 [p4 seed, p4 profile, p4 fields])
    (profile_le : profile.toNat ≤ 7) (fields_le : fields.toNat ≤ 4095) :
    ∃ t, exec (.tableSetHash l seed profile fields) s = .next t ∧ Accepted s { s with lookup := { s.lookup with
      seed := seed, hash := nset hashDefault profile.toNat (BitVec.ofNat 12 fields.toNat) s.lookup.hash } } t l .done
      (layBody [p4 seed, p4 profile, p4 fields]) := by
  refine ⟨_, rfl, runLetter_accepted h fun _ _ => (checked_ok ?_).trans rfl⟩
  simp [malformed, profile_le, fields_le]

end

/-- Settles O29: a letter that stages a record by what every record's row does, the others by their checks, which all
pass. What POLICER.CONFIGURE answers holds the rates as the policer keeps them. -/
theorem aclAndPolicerLetters : Obligations.AclAndPolicerLetters := by
  refine ⟨?write, ?delete, ?profile, ?select, ?width, ?selftest, ?configure, ?deletePolicer, ?hash⟩
  case write => exact fun s u l bank index value mask action h names _ stages => ⟨_, rfl, itemRun_staged h names stages rfl⟩
  case delete => exact fun s l bank index h names stages => ⟨_, rfl, itemRun_staged h names stages rfl⟩
  case profile => exact fun s u l a h names _ stages => ⟨_, rfl, itemRun_staged h names stages rfl⟩
  case select => exact fun s l profile masks ms h names _ stages => ⟨_, rfl, itemRun_staged h names stages rfl⟩
  case width =>
    exact fun s l bank width h here banks widths mine empty =>
      execAclSetBankWidth_accepted h here banks widths mine empty
  case selftest => exact fun s l period h low high => execAclSetSelftest_accepted h low high
  case configure =>
    intro s l a p h names hp unclamped stages
    subst hp
    exact ⟨_, rfl, itemRun_staged h names stages unclamped⟩
  case deletePolicer => exact fun s l policer h names stages => ⟨_, rfl, itemRun_staged h names stages rfl⟩
  case hash => exact fun s l seed profile fields h profile_le fields_le => execTableSetHash_accepted h profile_le fields_le

end Sys2Proof.Machine

namespace Sys2Proof.Machine

/-! # The events of the associative engine's banks (05 R182-R190) -/

section
variable {s : State}

theorem onUnit_present {here : Bool} {t : State} (present : here = true) : onUnit here t = .next t := if_pos present

/-! ## ACL_UPDATE_WINDOW and ACL_ROW_REPAIR: a bank's waiting work (05 R182, R189) -/

/-- A bank's oldest job, taken from its queue and done in one stolen cycle. -/
def State.windowJob (s : State) (bank : Nat) : BankJob → State
  | .repair i => ((s.dropJob bank).repairRow bank i).bump .aclSteals bank
  | .copy p q => (((s.dropJob bank).copyRow bank p q).bump .aclSteals bank).countCopy
  | .write _ => (s.dropJob bank).bump .aclSteals bank

section
variable {bank : Fin 32} (here : bank.val < s.variant.logical)
include here

/-- A bank that has work does its oldest job in the window. -/
theorem execAclUpdateWindow_job {j : BankJob} (oldest : (nget [] s.lookup.jobs bank.val).head? = some j) :
    execAclUpdateWindow bank s = .next (s.windowJob bank j) := by
  rw [execAclUpdateWindow, onUnit_present (decide_eq_true here)]
  cases j <;> simp only [oldest, State.windowJob]

theorem execAclUpdateWindow_migrate {m : Migration} (idle : (nget [] s.lookup.jobs bank.val).head? = none)
    (moving : s.lookup.migration = some m) (mine : m.logical = bank.val) (sound : m.fault = false) (more : m.next < 8192) :
    execAclUpdateWindow bank s = .next (State.bump { s with lookup := { s.lookup with
      migration := some { m with next := m.next + 1 } } } .aclSteals bank) := by
  rw [execAclUpdateWindow, onUnit_present (decide_eq_true here)]
  simp only [idle, moving]
  exact congrArg _ (if_pos ⟨mine, by simp [sound], more⟩)

theorem execAclRowRepair_waiting {i : Fin 8192} (waits : (nget [] s.lookup.jobs bank.val).contains (.repair i) = true) :
    execAclRowRepair bank i s = .next ((State.repairRow { s with lookup := { s.lookup with
      jobs := nset [] bank.val ((nget [] s.lookup.jobs bank.val).erase (.repair i)) s.lookup.jobs } } bank i).bump
      .aclSteals bank) := by
  rw [execAclRowRepair, onUnit_present (decide_eq_true here)]
  exact congrArg _ (if_pos waits)

end

/-! ## Self-tests (05 R186, R188) -/

theorem execAclSelftestStart_due {d b p : Nat} (on : s.lookup.period ≠ 0) (banks : s.soundBanks ≠ 0)
    (due : s.lookup.lastStart + s.lookup.period / s.soundBanks ≤ s.up) (still : s.lookup.migration = none)
    (untested : s.lookup.testing = none) (spare : s.spare = some d) (oldest : s.oldestTest = some (b, p))
    (serves : (s.phys p).st = .inService) :
    execAclSelftestStart s = .next (let u := s.setPhys p { s.phys p with st := .source };
      { u with lookup := { u.lookup with migration := some { logical := b, src := p, dst := d }, lastStart := u.up } }) := by
  have starts : ¬ (s.lookup.period = 0 ∨ s.soundBanks = 0 ∨ s.up < s.lookup.lastStart + s.lookup.period / s.soundBanks ∨
      s.lookup.migration.isSome = true ∨ s.lookup.testing.isSome = true) := by
    simp [on, banks, Nat.not_lt.mpr due, still, untested]
  rw [execAclSelftestStart]
  simp only [if_neg starts, spare, oldest, serves, reduceCtorEq, ↓reduceIte]

theorem execAclMigrationComplete_copied {m : Migration} (moving : s.lookup.migration = some m) (sound : m.fault = false)
    (copied : 8192 ≤ m.next) : execAclMigrationComplete s = .next (let u := s.moveMap m .testing;
      State.bankPower { u with lookup := { u.lookup with testing := some (m.src, u.up) } }) := by
  rw [execAclMigrationComplete, moving]
  exact congrArg _ (if_neg (by simp [sound, copied]))

/-- A test of at least 2 ms ends with the bank as the spare, or FAILED and off. -/
theorem execAclBankTestEnd_due {p : Fin 33} {t : Nat} {passed : Bool} (testing : s.lookup.testing = some (p.val, t))
    (due : t + 2000000 ≤ s.up) : execAclBankTestEnd p passed s = .next (
      let u : State := { s with lookup := { s.lookup with testing := none } }
      if passed then (u.setPhys p { u.phys p with tested := some u.up, st := .spare }).bump .aclSelftestPass
      else ((((u.setPhys p { u.phys p with tested := some u.up, st := .failed }).bump .aclSelftestFail).askDomain
        (bankDomain p) false).raise 0x0501 p 255)) := by
  rw [execAclBankTestEnd, testing]
  exact congrArg _ (if_neg (by simp [due]))

/-! ## A bank's fault (05 R190) -/

section
variable {p : Fin 33} (here : p.val < s.variant.banks) (serves : (s.phys p).st = .inService)
  (still : s.lookup.migration = none)
include here serves still

theorem execAclBankFault_spare {d : Nat} (spare : s.spare = some d) : execAclBankFault p s =
    .next { s with lookup := { s.lookup with
      migration := some { logical := (s.phys p).logical, src := p, dst := d, fault := true } } } := by
  rw [execAclBankFault, onUnit_present (decide_eq_true here)]
  simp only [serves, still, spare, ne_eq, not_true_eq_false, false_and, ↓reduceIte]

theorem execAclBankFault_noSpare (none_left : s.spare = none) : execAclBankFault p s =
    .next ((((s.setPhys p { s.phys p with st := .failed }).askDomain (bankDomain p) false)).raise 0x0501 p
      (s.phys p).logical (sev := some 2)) := by
  rw [execAclBankFault, onUnit_present (decide_eq_true here)]
  simp only [serves, still, none_left, ne_eq, not_true_eq_false, false_and, Option.map_none, reduceCtorEq, ↓reduceIte]

end

theorem execAclSpareWritten_fault {m : Migration} (moving : s.lookup.migration = some m) (fault : m.fault = true) :
    execAclSpareWritten s =
      .next ((((s.moveMap m .failed).askDomain (bankDomain m.src) false).raise 0x0501 m.src m.logical).bankPower) := by
  rw [execAclSpareWritten, moving]
  exact congrArg _ (if_neg (not_not_intro fault))

end

/-- Settles O30: a window by the bank's oldest job, an event by the guards that its clause meets. That a window takes the
oldest job first is deduced (notes/assumptions/84.md). -/
theorem associativeEngine : Obligations.AssociativeEngine := by
  refine ⟨?repair, ?write, ?copy, ?migrate, ?start, ?migrated, ?testPass, ?testFail, ?rowRepair, ?fault, ?faultNoSpare,
    ?spare⟩
  case repair => exact fun s bank i here oldest => execAclUpdateWindow_job here oldest
  case write => exact fun s bank i here oldest => execAclUpdateWindow_job here oldest
  case copy => exact fun s bank p q here oldest => execAclUpdateWindow_job here oldest
  case migrate =>
    exact fun s bank m here idle moving mine sound more => execAclUpdateWindow_migrate here idle moving mine sound more
  case start =>
    exact fun s d b p on banks due still untested spare oldest serves =>
      execAclSelftestStart_due on banks due still untested spare oldest serves
  case migrated => exact fun s m moving sound copied => execAclMigrationComplete_copied moving sound copied
  case testPass => exact fun s p t testing due => execAclBankTestEnd_due testing due
  case testFail => exact fun s p t testing due => execAclBankTestEnd_due testing due
  case rowRepair => exact fun s bank i here waits => execAclRowRepair_waiting here waits
  case fault => exact fun s p d here serves still spare => execAclBankFault_spare here serves still spare
  case faultNoSpare => exact fun s p here serves still none_left => execAclBankFault_noSpare here serves still none_left
  case spare => exact fun s m moving fault => execAclSpareWritten_fault moving fault

end Sys2Proof.Machine

namespace Sys2Proof.Machine

/-! # The Depot's buffers and the mirror sessions (06 R192-R224) -/

section
variable {s : State} {p : Packet} {ps : List Packet}

/-! ## Packets from the Sorter (06 R199, R209, R215, R216) -/

theorem contest_nil (f : State → State) : s.contest [] f = f s := if_pos rfl

/-- The classes that contend in the same Depot cycle are set. -/
def State.withRivals (s : State) (rivals : List Rival) : State :=
  { s with buffers := { s.buffers with rivals := rivals } }

theorem contest_rivals {rivals : List Rival} (contend : rivals ≠ []) (f : State → State) :
    s.contest rivals f = (f (s.withRivals rivals)).withRivals [] := if_neg contend

/-- A packet that came whole crosses to its VOQ, and its copy request is served. -/
def State.admitWhole (s : State) (p : Packet) : State :=
  ((s.popSorter.tagHandoff p).2.voqAdmit (s.popSorter.tagHandoff p).1).mirrorCopy (s.popSorter.tagHandoff p).1

/-- What admission does with the Sorter's front packet, when it has crossed whole or cuts through. -/
def State.serveFront (s : State) (p : Packet) (readError : Bool) : State :=
  match (s.cut p.port).running with
  | some r => (s.lastOctet p r readError).mirrorCopy p
  | none => s.admitWhole p

theorem serveFront_whole {readError : Bool} (idle : (s.cut p.port).running = none) :
    s.serveFront p readError = s.admitWhole p := by
  simp only [State.serveFront, idle]

theorem serveFront_cut {readError : Bool} {r : CutRun} (runs : (s.cut p.port).running = some r) :
    s.serveFront p readError = (s.lastOctet p r readError).mirrorCopy p := by
  simp only [State.serveFront, runs]

theorem execIngressAdmission_front {rivals : List Rival} {readError : Bool} (front : s.buffers.fromSorter = p :: ps) :
    execIngressAdmission rivals readError s = .next (s.contest rivals fun u => u.serveFront p readError) := by
  rw [execIngressAdmission]
  simp only [front]
  rfl

theorem lastOctet_read (r : CutRun) : s.lastOctet p r false = s.endIngressCut p r p.data false :=
  if_neg fun h => Bool.false_ne_true h.1

theorem lastOctet_poisoned {r : CutRun} (on : r.on = true) (sent : r.sent.isSome = true) : s.lastOctet p r true =
    ((s.brokenData p 512).2.endIngressCut p r (s.brokenData p 512).1 true).bump .ctInPoisoned p.port :=
  if_pos ⟨rfl, on, sent⟩

/-! ## Races for a pool's last buffer (06 R199; 09 R311) -/

/-- A request that rivals contend with for the last free buffer of a pool wins it by the priority pointer, or loses it
and is placed anew or goes on to the next larger pool. -/
theorem settleRaces_last {tier k pool : Nat} {pools : List Nat} {b : BufId} (contended : s.rivalsOf tier pool k ≠ [])
    (level : s.beaten (4 * tier + pool) (s.rivalsOf tier pool k) = false) (picked : s.pick tier pool k = some b)
    (last : s.isLast pool k b = true) : State.settleRaces tier k (pool :: pools) s =
      if raceWinner (nget 0 s.buffers.pointers (4 * tier + pool)) (k :: s.rivalsOf tier pool k) = k then
        (s.winRace (4 * tier + pool) k, [])
      else
        let u := s.bump .bufRaceLost (4 * tier + pool)
        if tier = 1 ∧ (u.place pool [(pool, bufPch b)]).isSome then (u, [(pool, bufPch b)])
        else ((State.settleRaces tier k pools u).1, (pool, bufPch b) :: (State.settleRaces tier k pools u).2) := by
  rw [State.settleRaces]
  simp only [level, picked, last, List.isEmpty_eq_false_iff.mpr contended, Bool.false_and, Bool.false_eq_true,
    Bool.not_true, Bool.or_self, ↓reduceIte]

/-! ## Cut-through (06 R221, R222) -/

/-- The front packet with its tag, back at the front of the Sorter's packets. -/
def State.taggedFront (s : State) (p : Packet) : State :=
  let u := (s.tagHandoff p).2
  { u with buffers := { u.buffers with fromSorter := (s.tagHandoff p).1 :: u.buffers.fromSorter.drop 1 } }

section
variable {v : State} {r : Packet} {port : Nat} (tagged : r = (s.tagHandoff p).1)
include tagged

theorem cutIn_shallow {x : Placed}
    (admitted : (s.taggedFront p).admitIn r.queue 0 r.len r.colour (ofQueue r.queue) = (some x, v))
    (shallow : bufTier x.buf = 0) : s.cutIn p port = (
      let w := v.enqueue r.queue { r with placed := some x, ct := true, whole := false, arrival := v.arrivalNow }
      (w.setCut port { w.cut port with running := some { queue := r.queue, first := r.firstAt } }).bump .ctInStarted
        port) := by
  subst tagged
  rw [State.taggedFront] at admitted
  simp only [State.cutIn, admitted, shallow, Nat.zero_ne_one, ↓reduceIte]

theorem cutIn_dropped
    (dropped : (s.taggedFront p).admitIn r.queue 0 r.len r.colour (ofQueue r.queue) = (none, v)) :
    s.cutIn p port = v.popSorter.mirrorCopy r := by
  subst tagged
  rw [State.taggedFront] at dropped
  simp only [State.cutIn, dropped]

end

section
variable {port : Fin 192} (front : s.buffers.fromSorter = p :: ps)
include front

theorem execCtIngressStart_may (mine : p.port = port.val) (may : s.mayCutIn p = true) :
    execCtIngressStart port [] s = .next (s.cutIn p port) := by
  rw [execCtIngressStart]
  simp only [front, mine, may, contest_nil, ne_eq, not_true_eq_false, or_self, ↓reduceIte]

theorem execCtIngressStart_mayNot {rivals : List Rival} (mayNot : s.mayCutIn p = false) :
    execCtIngressStart port rivals s = .next s := by
  rw [execCtIngressStart]
  simp only [front, mayNot, Bool.false_eq_true, not_false_eq_true, or_true, ↓reduceIte]

theorem execCtIngressTimeout_due {r : CutRun} (mine : p.port = port.val) (runs : (s.cut port).running = some r)
    (on : r.on = true) (due : r.first + 10000 ≤ s.up) : execCtIngressTimeout port s =
      .next ((((s.brokenData p 512).2.endIngressCut p r (s.brokenData p 512).1 true).bump .ctInPoisoned port).mirrorCopy
        { p with data := (s.brokenData p 512).1 }) := by
  rw [execCtIngressTimeout]
  simp only [front, runs]
  exact congrArg _ (if_neg (by simp [mine, on, due]))

end

section
variable {queue : BitVec 19} {k : Nat} {a : Partial}

theorem execCtEgressStart_starts {q : Nat} {x : Placed} (arriving : s.partialOf queue.toNat = some (k, a))
    (admitted : a.admitted = [(q, x)]) (egress : (s.cut a.packet.dstPort).egress = true) (alone : a.alone = true)
    (uncut : a.packet.ct = false) (good : a.packet.poisoned = false) (empty : (s.queue queue.toNat).packets = [])
    (shallow : bufTier x.buf = 0) (enough : (s.cut a.packet.dstPort).ctStart ≤ a.packet.data.length) :
    execCtEgressStart queue s = .next (
      let r := { a.packet with ct := true }
      let u := s.setPartial k { a with packet := r }
      (u.enqueue queue.toNat { r with
        placed := some x, whole := false, queue := queue.toNat, port := u.portOf queue.toNat r }).bump .ctEgStarted
          a.packet.dstPort) := by
  rw [execCtEgressStart]
  simp only [arriving, admitted]
  exact congrArg _ (if_neg (by simp [egress, alone, uncut, good, empty, shallow, enough]))

theorem execCtEgressAbort_linked {cause : Fin 4} (arriving : s.partialOf queue.toNat = some (k, a))
    (linked : a.linked = true) (stays : a.back = false) :
    execCtEgressAbort queue cause s = .next ((s.abortCt a cause).setPartial k a.bad) := by
  rw [execCtEgressAbort]
  simp only [arriving]
  exact congrArg _ (if_pos ⟨linked, by simp [stays]⟩)

theorem execCtEgressAbort_none {cause : Fin 4} (arrived : s.partialOf queue.toNat = none)
    (left : s.cutAway queue.toNat = none) : execCtEgressAbort queue cause s = .next s := by
  rw [execCtEgressAbort]
  simp only [arrived, left]

end

/-! ## Frees (06 R202, R203) -/

section
variable {b : BufId} {agent : Owner}

theorem freeAs_of_owned {r : OwnerRec} (owned : s.ownerOf b = some r) :
    s.freeAs b agent = if r.owner = agent then s.freeBuf b else s.foreignFree b r agent := by
  rw [State.freeAs]
  simp only [owned]

theorem freeAs_of_free (free : s.ownerOf b = none) : s.freeAs b agent = s.doubleFree b agent := by
  rw [State.freeAs]
  simp only [free]

end

/-! ## Dead-letter delivery (06 R211, R220; 09 R302) -/

/-- What a delivery does to the oldest entry of the dead-letter queue, by where its data is. -/
def State.deliverDead (s : State) (e : DlqEntry) (rest : List DlqEntry) (ring : W64) (depth : Nat) : HeadIs → State
  | .here =>
    let u : State := { s with buffers := { s.buffers with dlqProduced := s.buffers.dlqProduced + 1 } }
    ((u.emit (.record 66 ring (s.buffers.dlqProduced % depth) (dlqRecord e s.buffers.dlqSnap))).dlqLeave e.packet).bump
      .dlqDelivered
  | .deep => State.readDeep { s with buffers := { s.buffers with
      dlq := { e with packet := { e.packet with fetching := true } } :: rest } } .tx { e.packet with fetching := true }
  | .lost => s.dlqLeave e.packet
  | .fenced | .coming => s

section
variable {e : DlqEntry} {rest : List DlqEntry} {ring : W64 × Nat} (front : s.buffers.dlq = e :: rest)
  (opened : s.buffers.dlqRing = some ring)
include front opened

theorem execDlqDeliver_served (may : s.mayRequest 0 = true) : execDlqDeliver true true s =
    .next (s.deliverDead e rest ring.1 ring.2 (s.headIs e.packet)) := by
  rw [execDlqDeliver]
  simp only [front, opened, may, not_true_eq_false, or_self, ↓reduceIte]
  cases s.headIs e.packet <;> simp only [State.deliverDead, front, opened]

theorem execDlqDeliver_waits (waits : s.headIs e.packet = .fenced ∨ s.headIs e.packet = .coming) :
    execDlqDeliver true true s = .next s := by
  cases may : s.mayRequest 0 with
  | true =>
    rw [execDlqDeliver_served front opened may]
    rcases waits with fenced | coming
    · rw [fenced]; rfl
    · rw [coming]; rfl
  | false =>
    rw [execDlqDeliver]
    simp only [front, opened, may, Bool.false_eq_true, not_false_eq_true, or_true, ↓reduceIte]

end

theorem execDlqDeliver_noRoom {busOk : Bool} : execDlqDeliver false busOk s = .next s := by
  rw [execDlqDeliver]
  cases s.buffers.dlq <;> cases s.buffers.dlqRing <;>
    simp only [Bool.false_eq_true, not_false_eq_true, true_or, ↓reduceIte]

/-! ## BUFFER.SET_POOLS (06 R194) -/

section
variable {l : LetterId}

/-- A split of the granules that the letter may ask for. -/
structure LegalSplit (g0 g1 g2 g3 : W32) : Prop where
  low0 : 8 ≤ g0.toNat
  high0 : g0.toNat ≤ 264
  low1 : 8 ≤ g1.toNat
  high1 : g1.toNat ≤ 264
  low2 : 8 ≤ g2.toNat
  high2 : g2.toNat ≤ 264
  low3 : 8 ≤ g3.toNat
  high3 : g3.toNat ≤ 264
  sum : g0.toNat + g1.toNat + g2.toNat + g3.toNat = 288

/-- The granules that a new split moves are picked, and those that are empty move at once. -/
def State.startSplit (s : State) (g0 g1 g2 g3 : W32) : State :=
  State.moveGranules { s with buffers := { s.buffers with
    moving := s.pickGranules fun i => [g0.toNat, g1.toNat, g2.toNat, g3.toNat].getD i 0 } }

/-- The letter waits while a granule is on the move. -/
def State.awaitGranules (s : State) (l : LetterId) : State :=
  if s.buffers.moving = [] then s else { s with buffers := { s.buffers with poolsLetter := some l } }

/-- With no granule on the move none moves. -/
theorem moveGranules_idle (idle : s.buffers.moving = []) : s.moveGranules = s := by
  rw [State.moveGranules]
  simp only [idle, List.filter_nil, ↓reduceIte]

theorem execBufferSetPools_accepted {g0 g1 g2 g3 : W32} (h : Claimed s l 0x0A01 [p4 g0, p4 g1, p4 g2, p4 g3])
    (split : LegalSplit g0 g1 g2 g3) (idle : s.buffers.moving = []) :
    ∃ t, exec (.bufferSetPools l g0 g1 g2 g3) s = .next t ∧ Accepted s
      ((s.startSplit g0 g1 g2 g3).awaitGranules l) t l .done (layBody [p4 g0, p4 g1, p4 g2, p4 g3])
      (decide ((s.startSplit g0 g1 g2 g3).buffers.moving ≠ [])) := by
  refine ⟨_, rfl, runLetter_accepted h fun _ _ => (checked_ok ?_).trans ?_⟩
  · obtain ⟨low0, high0, low1, high1, low2, high2, low3, high3, sum⟩ := split
    have total : [g0.toNat, g1.toNat, g2.toNat, g3.toNat].sum = 288 := by simpa [Nat.add_assoc] using sum
    simp [malformed, busy, total, idle, low0, high0, low1, high1, low2, high2, low3, high3]
  · by_cases moved : (s.startSplit g0 g1 g2 g3).buffers.moving = []
    · rw [State.awaitGranules, if_pos moved, decide_eq_false (not_not_intro moved)]
      exact if_pos moved
    · rw [State.awaitGranules, if_neg moved, decide_eq_true moved]
      exact if_neg moved

/-! ## BUFFER.SET_CLASS and BUFFER.SET_ADMISSION (06 R196, R208) -/

/-- The reserves and limits are within the ranges to which others are clamped. -/
structure UnclampedClass (shallowReserve shallowLimit deepReserve deepLimit : W64) : Prop where
  shallowReserve : shallowReserve.toNat ≤ 64 * 1048576
  shallowLimit : shallowLimit.toNat ≤ 180 * 1048576
  deepReserve : deepReserve.toNat ≤ 64 * 1024 * 1048576
  deepLimit : deepLimit.toNat ≤ 284 * 1024 * 1048576

/-- The classes' reserves fit the tiers and hold what the queues are guaranteed. -/
structure ReservesFit (s u : State) : Prop where
  shallow : ([0, 1, 2, 3, 4].map fun j => (u.bufClass j).reserve 0).sum ≤ s.poolSpace 0
  guaranteed : overGuaranteed s.queues.queues s.admission u.shallowReserve = false
  deep : ([0, 1, 2, 3, 4].map fun j => (u.bufClass j).reserve 1).sum ≤ s.poolSpace 1

theorem execBufferSetClass_accepted {u : State} {cls : W32} {a b c d : W64}
    (h : Claimed s l 0x0A02 [p4 cls, p8 a, p8 b, p8 c, p8 d]) (numbered : cls.toNat ≤ 4) (fits : UnclampedClass a b c d)
    (sets : u = { s with buffers := { s.buffers with
      classes := nset (classDefault cls.toNat) cls.toNat ⟨a.toNat, b.toNat, c.toNat, d.toNat⟩ s.buffers.classes } })
    (reserves : ReservesFit s u) : ∃ t, exec (.bufferSetClass l cls a b c d) s = .next t ∧
      Accepted s u t l .done (layBody [p4 cls, p8 a, p8 b, p8 c, p8 d]) := by
  obtain ⟨a_le, b_le, c_le, d_le⟩ := fits
  subst sets
  obtain ⟨shallow, guaranteed, deep⟩ := reserves
  refine ⟨_, rfl, runLetter_accepted h fun _ _ => ?_⟩
  simp only [clampU_mem (w := 64) (by omega) (Nat.zero_le _) a_le, clampU_mem (w := 64) (by omega) (Nat.zero_le _) b_le,
    clampU_mem (w := 64) (by omega) (Nat.zero_le _) c_le, clampU_mem (w := 64) (by omega) (Nat.zero_le _) d_le]
  refine (checked_ok ?_).trans rfl
  simp only [List.forall_mem_cons, List.not_mem_nil, false_implies, implies_true, and_true, malformed, notPermitted,
    Bool.or_eq_false_iff, decide_eq_false_iff_not, Nat.not_lt]
  exact ⟨numbered, ⟨shallow, guaranteed⟩, deep⟩

/-- The quantities are within the ranges to which others are clamped, and given. -/
structure UnclampedAdmission (a : AdmissionArgs) : Prop where
  guaranteed : a.guaranteed.toNat ≤ 16 * 1048576
  spill : a.spill.toNat ≤ 64 * 1048576
  shallow_given : a.alphaShallow.toNat ≠ 2 ^ 31
  deep_given : a.alphaDeep.toNat ≠ 2 ^ 31
  shallow_low : -7 ≤ sext 32 a.alphaShallow.toNat
  shallow_high : sext 32 a.alphaShallow.toNat ≤ 3
  deep_low : -7 ≤ sext 32 a.alphaDeep.toNat
  deep_high : sext 32 a.alphaDeep.toNat ≤ 3
  max_low : 2048 ≤ a.max.toNat
  max_high : a.max.toNat ≤ 64 * 1024 * 1048576
  yellow : a.yellow.toNat ≤ 16
  red : a.red.toNat ≤ 16

/-- The admission profile that a letter gives. -/
def givenAdmission (a : AdmissionArgs) : Admission :=
  ⟨true, a.guaranteed.toNat, a.spillEnable = 1#32, a.spill.toNat, sext 32 a.alphaShallow.toNat,
    sext 32 a.alphaDeep.toNat, a.max.toNat, a.yellow.toNat, a.red.toNat⟩

theorem execBufferSetAdmission_accepted {a : AdmissionArgs}
    (h : Claimed s l 0x0A03 [p4 a.profile, p8 a.guaranteed, p4 a.spillEnable, p8 a.spill, p4 a.alphaShallow,
      p4 a.alphaDeep, p8 a.max, p4 a.yellow, p4 a.red]) (flag : a.spillEnable.toNat ≤ 1)
    (numbered : a.profile.toNat ≤ 1023) (mine : s.owner 0x15 a.profile.toNat = l.slice.val)
    (fits : UnclampedAdmission a) (within : overGuaranteed s.queues.queues
      (fun j => if j = a.profile.toNat then givenAdmission a else s.admission j) s.shallowReserve = false) :
    ∃ t, exec (.bufferSetAdmission l a) s = .next t ∧ Accepted s { s with buffers := { s.buffers with
      admissions := nset {} a.profile.toNat (givenAdmission a) s.buffers.admissions } } t l .done
      (layBody [p4 a.profile, p8 a.guaranteed, p4 a.spillEnable, p8 a.spill, p4s (givenAdmission a).alphaShallow,
        p4s (givenAdmission a).alphaDeep, p8 a.max, p4 a.yellow, p4 a.red]) := by
  obtain ⟨guaranteed, spill, shallow_given, deep_given, shallow_low, shallow_high, deep_low, deep_high, max_low,
    max_high, yellow, red⟩ := fits
  refine ⟨_, rfl, runLetter_accepted h fun c hc => ?_⟩
  subst hc
  simp only [clampU_mem (w := 64) (by omega) (Nat.zero_le _) guaranteed,
    clampU_mem (w := 64) (by omega) (Nat.zero_le _) spill, clampS_mem (w := 32) shallow_given shallow_low shallow_high,
    clampS_mem (w := 32) deep_given deep_low deep_high, clampU_mem (w := 64) (by omega) max_low max_high,
    clampU_mem (w := 32) (by omega) (Nat.zero_le _) yellow, clampU_mem (w := 32) (by omega) (Nat.zero_le _) red]
  refine (checked_ok ?_).trans rfl
  simp only [List.forall_mem_cons, List.not_mem_nil, false_implies, implies_true, and_true, malformed, noObj,
    notPermitted, decide_eq_false_iff_not, Nat.not_lt, ne_eq, Decidable.not_not]
  exact ⟨flag, numbered, mine, within⟩

/-! ## BUFFER.SET_DLQ and BUFFER.SET_CUT_THROUGH (06 R218-R223) -/

/-- The dead-letter queue's settings are legal, name a ring, and are within the ranges to which others are clamped. -/
structure LegalDlqArgs (a : DlqArgs) : Prop where
  mask : a.mask &&& 0x3E#32 = a.mask
  ring : a.ring ≠ 0#64
  depth : a.depth ≠ 0#32
  limit : a.limit.toNat ≤ 64 * 1048576
  snap_low : 64 ≤ a.snap.toNat
  snap_high : a.snap.toNat ≤ 9728

theorem execBufferSetDlq_accepted {a : DlqArgs} (h : Claimed s l 0x0A04 [p4 a.mask, pLe a.reasons.toNat 64, p8 a.limit,
    p8 a.snap, p8 a.ring, p4 a.depth]) (args : LegalDlqArgs a) (closed : s.buffers.dlqRing = none) :
    ∃ t, exec (.bufferSetDlq l a) s = .next t ∧ Accepted s { s with buffers := { s.buffers with
      dlqMask := a.mask, dlqReasons := a.reasons, dlqLimit := a.limit.toNat, dlqSnap := a.snap.toNat,
      dlqRing := some (a.ring, a.depth.toNat), dlqProduced := 0 } } t l .done
      (layBody [p4 a.mask, pLe a.reasons.toNat 64, p8 a.limit, p8 a.snap, p8 a.ring, p4 a.depth]) := by
  obtain ⟨mask, ring, depth, limit, snap_low, snap_high⟩ := args
  refine ⟨_, rfl, runLetter_accepted h fun _ _ => ?_⟩
  simp only [clampU_mem (w := 64) (by omega) (Nat.zero_le _) limit, clampU_mem (w := 64) (by omega) snap_low snap_high]
  refine (checked_ok ?_).trans ?_
  · simp [malformed, mask, depth]
  · simp only [ring, closed, Option.isSome_none, Bool.false_eq_true, false_and, reduceCtorEq, ↓reduceIte]
    rfl

theorem execBufferSetCutThrough_accepted {port ingress egress : W32} {a b : W64}
    (h : Claimed s l 0x0A05 [p4 port, p4 ingress, p4 egress, p8 a, p8 b]) (ingress_le : ingress.toNat ≤ 1)
    (egress_le : egress.toNat ≤ 1) (mine : s.portExists l.slice.val port.toNat = true) (min_low : 512 ≤ a.toNat)
    (min_high : a.toNat ≤ 9728) (start_low : 256 ≤ b.toNat) (start_high : b.toNat ≤ 4096) :
    ∃ t, exec (.bufferSetCutThrough l port ingress egress a b) s = .next t ∧ Accepted s (
      let u := s.setCut port.toNat { s.cut port.toNat with
        ingress := ingress = 1#32, egress := egress = 1#32, ctMin := a.toNat, ctStart := b.toNat }
      let v := if ingress = 1#32 then u else u.turnBackIn port.toNat
      if egress = 1#32 then v else v.turnBackOut port.toNat) t l .done
      (layBody [p4 port, p4 ingress, p4 egress, p8 a, p8 b]) := by
  refine ⟨_, rfl, runLetter_accepted h fun c hc => ?_⟩
  subst hc
  simp only [clampU_mem (w := 64) (by omega) min_low min_high, clampU_mem (w := 64) (by omega) start_low start_high]
  refine (checked_ok ?_).trans rfl
  simp [malformed, noObj, Ctx.sl, ingress_le, egress_le, mine]

/-! ## MIRROR.CONFIGURE and MIRROR.DISABLE (06 R214, R217) -/

theorem execMirrorConfigure_accepted {session destination sample enabled : W32} {truncate : W64}
    (h : Claimed s l 0x1501 [p4 session, p4 destination, p8 truncate, p4 sample, p4 enabled]) (flag : enabled.toNat ≤ 1)
    (numbered : session.toNat ≤ 1023) (mine : s.owner 0x17 session.toNat = l.slice.val)
    (target : s.mirrorTarget l.slice.val destination.toNat = true) (cut_low : truncate.toNat = 0 ∨ 64 ≤ truncate.toNat)
    (cut_high : truncate.toNat ≤ 9728) (sample_low : 1 ≤ sample.toNat) (sample_high : sample.toNat ≤ 65536) :
    ∃ t, exec (.mirrorConfigure l session destination truncate sample enabled) s = .next t ∧
      Accepted s (s.setMirror session.toNat { s.mirror session.toNat with
        configured := true, destination := destination.toNat, truncate := truncate.toNat, sample := sample.toNat,
        enabled := enabled = 1#32 }) t l .done
        (layBody [p4 session, p4 destination, p8 truncate, p4 sample, p4 enabled]) := by
  refine ⟨_, rfl, runLetter_accepted h fun c hc => ?_⟩
  subst hc
  simp only [clampU0_mem (w := 64) (by omega) cut_low cut_high, clampU_mem (w := 32) (by omega) sample_low sample_high]
  refine (checked_ok ?_).trans rfl
  simp [malformed, noObj, Ctx.sl, flag, numbered, mine, target]

theorem execMirrorDisable_accepted {session : W32} (h : Claimed s l 0x1502 [p4 session])
    (numbered : session.toNat ≤ 1023) (mine : s.owner 0x17 session.toNat = l.slice.val) :
    ∃ t, exec (.mirrorDisable l session) s = .next t ∧ Accepted s (s.setMirror session.toNat
      { s.mirror session.toNat with enabled := false }) t l .done (layBody [p4 session]) := by
  refine ⟨_, rfl, runLetter_accepted h fun c hc => ?_⟩
  subst hc
  refine (checked_ok ?_).trans rfl
  simp [malformed, noObj, Ctx.sl, numbered, mine]

end

end

/-- Settles O31: a packet by how it stands with its port's cut-through, a race by its pointer, a delivery by where the
entry's data is, a letter by its checks, which all pass. What a mirror session may name, the dead-letter ring and the
delivery of an entry in the deep tier, and the parameters of a double free's fault rest on the model's reading
(notes/assumptions/24.md, 53.md, 55.md, 142.md). -/
theorem buffersAndMirrors : Obligations.BuffersAndMirrors := by
  refine ⟨?whole, ?contested, ?cut, ?cutError, ?raceWon, ?raceLost, ?cutIn, ?cutInDrop, ?cutNotIn, ?cutTimeout,
    ?cutBroken, ?cutOut, ?cutAbort, ?cutAbortNone, ?free, ?freeDouble, ?freeForeign, ?dlq, ?dlqDeep, ?dlqLost,
    ?dlqFenced, ?dlqNoRoom, ?setPools, ?setPoolsWait, ?setClass, ?setAdmission, ?setDlq, ?setCut, ?mirror, ?mirrorOff⟩
  case whole =>
    intro s _ readError p ps front idle
    rw [exec_ingressAdmission, execIngressAdmission_front front, contest_nil, serveFront_whole idle]
    rfl
  case contested =>
    intro s u v rivals readError p ps front idle contend hu hv
    subst hu hv
    rw [exec_ingressAdmission, execIngressAdmission_front front, contest_rivals contend,
      serveFront_whole (s := s.withRivals rivals) idle]
    rfl
  case cut =>
    intro s p ps r front runs
    rw [exec_ingressAdmission, execIngressAdmission_front front, contest_nil, serveFront_cut runs, lastOctet_read]
  case cutError =>
    intro s p ps r front runs on sent
    rw [exec_ingressAdmission, execIngressAdmission_front front, contest_nil, serveFront_cut runs,
      lastOctet_poisoned on sent]
  case raceWon =>
    intro s tier k p ps b contended level picked last wins
    rw [settleRaces_last contended level picked last, if_pos wins]
  case raceLost =>
    intro s u tier k p ps b contended level picked last loses hu
    rw [settleRaces_last contended level picked last, if_neg loses, hu]
  case cutIn =>
    intro s port p ps u v r x front mine may hu hr admitted shallow
    subst hu
    rw [exec_ctIngressStart, execCtIngressStart_may front mine may, cutIn_shallow hr admitted shallow]
  case cutInDrop =>
    intro s port p ps u v r front mine may hu hr dropped
    subst hu
    rw [exec_ctIngressStart, execCtIngressStart_may front mine may, cutIn_dropped hr dropped]
  case cutNotIn => exact fun s port rivals p ps front mayNot => execCtIngressStart_mayNot front mayNot
  case cutTimeout => exact fun s port p ps r front mine runs on due => execCtIngressTimeout_due front mine runs on due
  case cutBroken => exact fun s p m => rfl
  case cutOut =>
    exact fun s queue k p q x arriving admitted egress alone uncut good empty shallow enough =>
      execCtEgressStart_starts arriving admitted egress alone uncut good empty shallow enough
  case cutAbort => exact fun s queue cause k p arriving linked stays => execCtEgressAbort_linked arriving linked stays
  case cutAbortNone => exact fun s queue cause arrived left => execCtEgressAbort_none arrived left
  case free => exact fun s b r owned => congrArg _ ((freeAs_of_owned owned).trans (if_pos rfl))
  case freeDouble => exact fun s b agent free => congrArg _ (freeAs_of_free free)
  case freeForeign => exact fun s b r agent owned foreign => congrArg _ ((freeAs_of_owned owned).trans (if_neg foreign))
  case dlq =>
    intro s e rest ring depth front opened may here
    rw [exec_dlqDeliver, execDlqDeliver_served front opened may, here]
    rfl
  case dlqDeep =>
    intro s e rest ring front opened may deep
    rw [exec_dlqDeliver, execDlqDeliver_served front opened may, deep]
    rfl
  case dlqLost =>
    intro s e rest ring front opened may lost
    rw [exec_dlqDeliver, execDlqDeliver_served front opened may, lost]
    rfl
  case dlqFenced => exact fun s e rest ring front opened waits => execDlqDeliver_waits front opened waits
  case dlqNoRoom => exact fun s busOk => execDlqDeliver_noRoom
  case setPools =>
    intro s l g0 g1 g2 g3 h low0 high0 low1 high1 low2 high2 low3 high3 sum idle none_picked
    have still : (s.startSplit g0 g1 g2 g3).buffers.moving = [] := by
      rw [State.startSplit, none_picked, moveGranules_idle rfl]
    have accepted := execBufferSetPools_accepted h ⟨low0, high0, low1, high1, low2, high2, low3, high3, sum⟩ idle
    rw [decide_eq_false (not_not_intro still), State.awaitGranules, if_pos still, State.startSplit,
      none_picked] at accepted
    exact accepted
  case setPoolsWait =>
    intro s u l g0 g1 g2 g3 hu h low0 high0 low1 high1 low2 high2 low3 high3 sum idle waits
    obtain rfl : u = s.startSplit g0 g1 g2 g3 := hu
    have accepted := execBufferSetPools_accepted h ⟨low0, high0, low1, high1, low2, high2, low3, high3, sum⟩ idle
    rw [decide_eq_true waits, State.awaitGranules, if_neg waits] at accepted
    exact accepted
  case setClass =>
    exact fun s u l cls a b c d h numbered a_le b_le c_le d_le sets shallow guaranteed deep =>
      execBufferSetClass_accepted h numbered ⟨a_le, b_le, c_le, d_le⟩ sets ⟨shallow, guaranteed, deep⟩
  case setAdmission =>
    intro s l a v hv h flag numbered mine guaranteed spill shallow_given deep_given shallow_low shallow_high deep_low
      deep_high max_low max_high yellow red within
    subst hv
    exact execBufferSetAdmission_accepted h flag numbered mine ⟨guaranteed, spill, shallow_given, deep_given,
      shallow_low, shallow_high, deep_low, deep_high, max_low, max_high, yellow, red⟩ within
  case setDlq =>
    exact fun s l a h mask ring depth limit snap_low snap_high closed =>
      execBufferSetDlq_accepted h ⟨mask, ring, depth, limit, snap_low, snap_high⟩ closed
  case setCut =>
    exact fun s l port ingress egress a b h ingress_le egress_le mine min_low min_high start_low start_high =>
      execBufferSetCutThrough_accepted h ingress_le egress_le mine min_low min_high start_low start_high
  case mirror =>
    exact fun s l session destination truncate sample enabled h flag numbered mine target cut_low cut_high sample_low
      sample_high => execMirrorConfigure_accepted h flag numbered mine target cut_low cut_high sample_low sample_high
  case mirrorOff => exact fun s l session h numbered mine => execMirrorDisable_accepted h numbered mine

end Sys2Proof.Machine

namespace Sys2Proof.Machine

/-! # The QUEUE letters (06 R208; 07 R225-R248) -/

section
variable {s : State} {l : LetterId}

/-! ## QUEUE.CONFIGURE (07 R225, R226, R232; 06 R208) -/

section
variable {a : QueueArgs}

/-- The parameters as a letter carries them. -/
def queuePars (a : QueueArgs) : List Par :=
  [p4 a.queue, p4 a.admission, p8 a.maxAge, p4 a.destModule, p4 a.destPort, p4 a.cls, p4 a.eqBase, p4 a.eqMask,
    p4 a.parentLevel, p4 a.parentNode, p4 a.priority, p4 a.weight, p4 a.gate, p4 a.pfcClass]

/-- A queue is the slice's to bind to an admission profile, its own too, whose guarantee the reserves still hold. -/
structure MayBind (s : State) (sl : Nat) (a : QueueArgs) (v : Queue) : Prop where
  numbered : a.admission.toNat ≤ 1023
  mine : s.queueOwner a.queue.toNat = sl
  profile : s.admissionOwned sl a.admission.toNat = true
  within : overGuaranteed (nput a.queue.toNat v s.queues.queues) s.admission s.shallowReserve = false

/-- The parameters of a VOQ: its own are legal, an egress queue's are zero. -/
structure LegalVoqArgs (a : QueueArgs) : Prop where
  queue : a.queue.toNat < 131072
  age_low : a.maxAge.toNat = 0 ∨ 10000 ≤ a.maxAge.toNat
  age_high : a.maxAge.toNat ≤ 10000000000
  destModule : a.destModule.toNat ≤ 127
  destPort : a.destPort.toNat ≤ 191
  cls : a.cls.toNat ≤ 7
  base_low : 131072 ≤ a.eqBase.toNat
  base_high : a.eqBase.toNat ≤ 524287
  eqMask : a.eqMask.toNat ≤ 65535
  parentLevel : a.parentLevel = 0
  parentNode : a.parentNode = 0
  priority : a.priority = 0
  weight : a.weight = 0
  gate : a.gate = 0
  pfcClass : a.pfcClass = 0

theorem voqChecks_pass (args : LegalVoqArgs a) : ∀ c ∈ foreignFields a ++ queueShape a, c.1 = false := by
  obtain ⟨queue, -, -, destModule, destPort, cls, base_low, base_high, eqMask, parentLevel, parentNode, priority,
    weight, gate, pfcClass⟩ := args
  have voq : ¬ isEgress a.queue.toNat = true := fun egress => Nat.not_le.mpr queue (of_decide_eq_true egress)
  have base : (!isEgress a.eqBase.toNat) = false := by rw [isEgress, decide_eq_true base_low, Bool.not_true]
  rw [foreignFields, queueShape, if_neg voq, if_neg voq]
  simp only [List.map_cons, List.map_nil, List.cons_append, List.nil_append, List.forall_mem_cons, List.not_mem_nil,
    false_implies, implies_true, and_true, malformed, Bool.or_eq_false_iff, decide_eq_false_iff_not, Nat.not_lt, ne_eq,
    Decidable.not_not]
  exact ⟨parentLevel, parentNode, priority, weight, gate, pfcClass, destModule, destPort, cls, ⟨base, base_high⟩, eqMask⟩

theorem execQueueConfigure_voq {v : Queue} (h : Claimed s l 0x0B01 (queuePars a)) (args : LegalVoqArgs a)
    (configured : v = { s.queue a.queue.toNat with
      present := true, admission := a.admission.toNat, maxAge := a.maxAge.toNat, destModule := a.destModule.toNat,
      destPort := a.destPort.toNat, cls := a.cls.toNat, eqBase := a.eqBase.toNat,
      eqMask := BitVec.ofNat 16 a.eqMask.toNat }) (may : MayBind s l.slice.val a v) :
    ∃ t, exec (.queueConfigure l a) s = .next t ∧
      Accepted s (s.setQueue a.queue.toNat v) t l .done (layBody (queuePars a)) := by
  have checks := voqChecks_pass args
  obtain ⟨queue, age_low, age_high, -, -, -, -, -, -, -, -, priority, weight, -, -⟩ := args
  obtain ⟨numbered, mine, profile, within⟩ := may
  have voq : isEgress a.queue.toNat = false := decide_eq_false (Nat.not_le.mpr queue)
  subst configured
  refine ⟨_, rfl, runLetter_accepted h fun c hc => ?_⟩
  subst hc
  simp only [clampU0_mem (w := 64) (by omega) age_low age_high, voq, Bool.false_and, Bool.false_eq_true, ↓reduceIte]
  refine (checked_ok (List.forall_mem_append.mpr ⟨checks, ?_⟩)).trans ?_
  · simp only [List.forall_mem_cons, List.not_mem_nil, false_implies, implies_true, and_true, malformed, noObj,
      notPermitted, Bool.or_eq_false_iff, decide_eq_false_iff_not, Nat.not_lt, Nat.not_le, Bool.not_eq_false', ne_eq,
      Decidable.not_not]
    exact ⟨numbered, ⟨by omega, mine⟩, profile, trivial, within⟩
  · rw [queuePars, priority, weight]
    rfl

/-- The parameters of an egress queue: its own are legal, a VOQ's are zero. -/
structure LegalEgressArgs (a : QueueArgs) : Prop where
  queue_low : 131072 ≤ a.queue.toNat
  queue_high : a.queue.toNat < 524288
  age_low : a.maxAge.toNat = 0 ∨ 10000 ≤ a.maxAge.toNat
  age_high : a.maxAge.toNat ≤ 10000000000
  destModule : a.destModule = 0
  destPort : a.destPort = 0
  cls : a.cls = 0
  eqBase : a.eqBase = 0
  eqMask : a.eqMask = 0
  level_low : 1 ≤ a.parentLevel.toNat
  level_high : a.parentLevel.toNat ≤ 4
  priority : a.priority.toNat ≤ 7
  weight_low : 1 ≤ a.weight.toNat
  weight_high : a.weight.toNat ≤ 4096
  gate : a.gate.toNat ≤ 7
  pfcClass : a.pfcClass.toNat ≤ 7

/-- A class is not the value that stands for no class. -/
theorem ne_keep_of_le {x : W32} (le : x.toNat ≤ 7) : x ≠ 0xFFFFFFFF#32 := by
  rintro rfl
  exact absurd le (by decide)

theorem egressChecks_pass (args : LegalEgressArgs a) : ∀ c ∈ foreignFields a ++ queueShape a, c.1 = false := by
  obtain ⟨queue_low, -, -, -, destModule, destPort, cls, eqBase, eqMask, level_low, level_high, -, -, -, gate,
    pfcClass⟩ := args
  have egress : isEgress a.queue.toNat = true := decide_eq_true queue_low
  have known : (decide (7 < a.pfcClass.toNat) && decide (a.pfcClass ≠ 0xFFFFFFFF#32)) = false := by
    rw [decide_eq_false (Nat.not_lt.mpr pfcClass), Bool.false_and]
  rw [foreignFields, queueShape, if_pos egress, if_pos egress]
  simp only [List.map_cons, List.map_nil, List.cons_append, List.nil_append, List.forall_mem_cons, List.not_mem_nil,
    false_implies, implies_true, and_true, malformed, Bool.or_eq_false_iff, decide_eq_false_iff_not, Nat.not_lt, ne_eq,
    Decidable.not_not, known]
  exact ⟨destModule, destPort, cls, eqBase, eqMask, ⟨level_low, level_high⟩, gate⟩

theorem execQueueConfigure_egress {v : Queue} (h : Claimed s l 0x0B01 (queuePars a)) (args : LegalEgressArgs a)
    (configured : v = { s.queue a.queue.toNat with
      present := true, admission := a.admission.toNat, maxAge := a.maxAge.toNat, gate := a.gate.toNat,
      pfcClass := some a.pfcClass.toNat }) (may : MayBind s l.slice.val a v)
    (parent : s.parentExists l.slice.val a.parentLevel.toNat a.parentNode.toNat = true) :
    ∃ t, exec (.queueConfigure l a) s = .next t ∧
      Accepted s ((s.setQueue a.queue.toNat v).setNode (queueNode a.queue.toNat)
        { (s.node (queueNode a.queue.toNat)).under (some (a.parentLevel.toNat, a.parentNode.toNat)) with
          priority := a.priority.toNat, weight := a.weight.toNat }) t l .done (layBody (queuePars a)) := by
  have checks := egressChecks_pass args
  obtain ⟨queue_low, queue_high, age_low, age_high, -, -, -, -, -, -, -, priority, weight_low, weight_high, -,
    pfcClass⟩ := args
  obtain ⟨numbered, mine, profile, within⟩ := may
  have egress : isEgress a.queue.toNat = true := decide_eq_true queue_low
  subst configured
  refine ⟨_, rfl, runLetter_accepted h fun c hc => ?_⟩
  subst hc
  simp only [clampU0_mem (w := 64) (by omega) age_low age_high,
    clampU_mem (w := 32) (by omega) (Nat.zero_le _) priority, clampU_mem (w := 32) (by omega) weight_low weight_high,
    egress, ne_keep_of_le pfcClass, Bool.true_and, ↓reduceIte]
  refine (checked_ok (List.forall_mem_append.mpr ⟨checks, ?_⟩)).trans rfl
  simp only [List.forall_mem_cons, List.not_mem_nil, false_implies, implies_true, and_true, malformed, noObj,
    notPermitted, Bool.or_eq_false_iff, decide_eq_false_iff_not, Nat.not_lt, Nat.not_le, Bool.not_eq_false', ne_eq,
    Decidable.not_not]
  exact ⟨numbered, ⟨queue_high, mine⟩, profile, parent, within⟩

end

/-! ## QUEUE.SET_NODE (07 R232-R235, R242) -/

section
variable {a : NodeArgs}

@[simp] theorem qty_v_some (v : Nat) (clamped : Bool) : Qty.v (some (v, clamped)) = v := rfl

@[simp] theorem qty_c_some (v : Nat) (clamped : Bool) : Qty.c (some (v, clamped)) = clamped := rfl

/-- The parameters of a node below the ports, within the ranges to which others are clamped. -/
structure LegalNodeArgs (a : NodeArgs) : Prop where
  level_low : 1 ≤ a.level.toNat
  level_high : a.level.toNat ≤ 3
  parent_low : a.level.toNat < a.parentLevel.toNat
  parent_high : a.parentLevel.toNat ≤ 4
  profile : a.lengthProfile.toNat ≤ 63
  priority : a.priority.toNat ≤ 7
  weight_low : 1 ≤ a.weight.toNat
  weight_high : a.weight.toNat ≤ 4096
  cir_low : a.cir.toNat = 0 ∨ 1000 ≤ a.cir.toNat
  cbs_low : 64 ≤ a.cbs.toNat
  cbs_high : a.cbs.toNat ≤ 16777216
  pir_low : 1000 ≤ a.pir.toNat
  pir_high : a.pir.toNat ≤ 1600000000000
  cir_pir : a.cir.toNat ≤ a.pir.toNat
  pbs_low : 64 ≤ a.pbs.toNat
  pbs_high : a.pbs.toNat ≤ 16777216

theorem execQueueSetNode_accepted (h : Claimed s l 0x0B02 [p4 a.level, p4 a.node, p4 a.parentLevel, p4 a.parentNode,
      p4 a.priority, p4 a.weight, p8 a.cir, p8 a.cbs, p8 a.pir, p8 a.pbs, p4 a.lengthProfile]) (args : LegalNodeArgs a)
    (mine : s.nodeOwned l.slice.val a.level.toNat a.node.toNat = true)
    (parent : s.parentExists l.slice.val a.parentLevel.toNat a.parentNode.toNat = true)
    (length : s.lengthOwned l.slice.val a.lengthProfile.toNat = true) :
    ∃ t, exec (.queueSetNode l a) s = .next t ∧ Accepted s (s.putNode (nodeKey a.level.toNat a.node.toNat)
      { (s.node (nodeKey a.level.toNat a.node.toNat)).under (some (a.parentLevel.toNat, a.parentNode.toNat)) with
        priority := a.priority.toNat, weight := a.weight.toNat, present := true, cir := heldRate a.cir.toNat,
        cbs := a.cbs.toNat, pir := heldRate a.pir.toNat, pbs := a.pbs.toNat, lengthProfile := a.lengthProfile.toNat })
      t l .done (layBody [p4 a.level, p4 a.node, p4 a.parentLevel, p4 a.parentNode, p4 a.priority, p4 a.weight,
        n8 (heldRate a.cir.toNat), p8 a.cbs, n8 (heldRate a.pir.toNat), p8 a.pbs, p4 a.lengthProfile]) := by
  obtain ⟨level_low, level_high, parent_low, parent_high, profile, priority, weight_low, weight_high, cir_low, cbs_low,
    cbs_high, pir_low, pir_high, cir_pir, pbs_low, pbs_high⟩ := args
  have inner : decide (a.level.toNat = 4) = false := decide_eq_false (by omega)
  have shaped : a.pir.toNat ≠ 0 := by omega
  refine ⟨_, rfl, runLetter_accepted h fun c hc => ?_⟩
  subst hc
  simp only [inner, clampU_mem (w := 32) (by omega) (Nat.zero_le _) priority,
    clampU_mem (w := 32) (by omega) weight_low weight_high,
    clampU0_mem (w := 64) (by omega) cir_low (Nat.le_trans cir_pir pir_high),
    clampU_mem (w := 64) (by omega) cbs_low cbs_high, clampU0_mem (w := 64) (by omega) (.inr pir_low) pir_high,
    clampU_mem (w := 64) (by omega) pbs_low pbs_high, qty_v_some, qty_c_some, shaped, Nat.min_eq_left cir_pir,
    decide_eq_false (Nat.not_lt.mpr cir_pir), Bool.false_eq_true, false_and, Bool.or_self, Bool.not_false,
    Bool.true_and, ↓reduceIte]
  refine (checked_ok ?_).trans rfl
  simp only [List.forall_mem_cons, List.not_mem_nil, false_implies, implies_true, and_true, malformed, noObj,
    Bool.or_eq_false_iff, decide_eq_false_iff_not, Nat.not_lt, Nat.not_le, Bool.not_eq_false']
  exact ⟨⟨level_low, by omega⟩, ⟨parent_low, parent_high⟩, profile, mine, parent, length⟩

theorem nodePir_of_inner {k : Nat} (inner : k / 2 ^ 20 ≠ 4) : s.nodePir k = (s.node k).pir := if_neg inner

/-- A node below the ports takes its parameters, with full buckets where its shapers leave rate 0. -/
theorem node_putNode_inner {k : Nat} (n : Node) (inner : k / 2 ^ 20 ≠ 4) : (s.putNode k n).node k = { n with
    ctok := startTok (s.node k).cir n.cir n.cbs (s.node k).ctok,
    clast := startAt (s.node k).cir n.cir s.ns (s.node k).clast,
    ptok := startTok (s.node k).pir n.pir n.pbs (s.node k).ptok,
    plast := startAt (s.node k).pir n.pir s.ns (s.node k).plast } := by
  rw [State.putNode, node_setNode, nodePir_of_inner inner, nodePir_of_inner inner, node_setNode]

end

/-! ## QUEUE.SET_LENGTH_PROFILE (07 R236) -/

theorem execQueueSetLengthProfile_adjusts {profile adjust : W32} (h : Claimed s l 0x0B04 [p4 profile, p4 1, p4 adjust])
    (numbered_low : 1 ≤ profile.toNat) (numbered_high : profile.toNat ≤ 63)
    (mine : s.owner 0x16 profile.toNat = l.slice.val) (low : -64 ≤ sext 32 adjust.toNat)
    (high : sext 32 adjust.toNat ≤ 127) :
    ∃ t, exec (.queueSetLengthProfile l profile 1 adjust) s = .next t ∧ Accepted s { s with queues := { s.queues with
        lengths := nset {} profile.toNat { adjusted := true, adjust := sext 32 adjust.toNat, configured := true }
          s.queues.lengths } }
      t l .done (layBody [p4 profile, p4 1, p4s (sext 32 adjust.toNat)]) := by
  have given : adjust.toNat ≠ 2 ^ 31 := fun keep => absurd (keep ▸ low) (by decide)
  refine ⟨_, rfl, runLetter_accepted h fun c hc => ?_⟩
  subst hc
  simp only [clampS_mem (w := 32) given low high]
  refine (checked_ok ?_).trans rfl
  have numbered : profile.toNat ≠ 0 := Nat.ne_of_gt numbered_low
  simp only [List.forall_mem_cons, List.not_mem_nil, false_implies, implies_true, and_true, malformed, noObj,
    notPermitted, decide_eq_false_iff_not, Nat.not_lt, ne_eq, Decidable.not_not]
  exact ⟨by decide, numbered_high, numbered, mine⟩

/-! ## QUEUE.SET_PORT (07 R228, R229, R247, R248) -/

/-- Quantities that were applied as they are. -/
def unclamped (xs : List W32) : List Qty := xs.map fun x => some (x.toNat, false)

/-- Eight values within their range are applied as they are. -/
theorem clampClasses_given {xs : List W32} {lo hi : Nat} {cur : Nat → Option Nat} (eight : xs.length = 8)
    (unkept : hi < 2 ^ 32 - 1) (fits : ∀ x ∈ xs, lo ≤ x.toNat ∧ x.toNat ≤ hi) :
    (List.range 8).map (fun i => clampU 32 (xs.getD i 0#32).toNat lo hi (cur i)) = unclamped xs := by
  refine List.ext_getElem (by simp [unclamped, eight]) fun i _ bound => ?_
  rw [unclamped, List.length_map] at bound
  obtain ⟨low, high⟩ := fits xs[i] (List.getElem_mem bound)
  have given : xs.getD i 0#32 = xs[i] := by
    rw [List.getD_eq_getElem?_getD, List.getElem?_eq_getElem bound, Option.getD_some]
  simp only [unclamped, List.getElem_map, List.getElem_range, given]
  exact clampU_mem (by omega) low high

theorem unclamped_v (xs : List W32) (i : Nat) : Qty.v ((unclamped xs).getD i none) = (xs.getD i 0#32).toNat := by
  rw [unclamped, List.getD_eq_getElem?_getD, List.getD_eq_getElem?_getD, List.getElem?_map]
  cases xs[i]? <;> rfl

theorem unclamped_c (xs : List W32) (i : Nat) : Qty.c ((unclamped xs).getD i none) = false := by
  rw [unclamped, List.getD_eq_getElem?_getD, List.getElem?_map]
  cases xs[i]? <;> rfl

theorem unclamped_pars (xs : List W32) : (unclamped xs).map (fun q => n4 (Qty.v q)) = xs.map p4 := by
  rw [unclamped, List.map_map]
  rfl

section
variable {a : QueuePortArgs}

/-- The parameters as a letter carries them. -/
def queuePortPars (a : QueuePortArgs) : List Par :=
  [p4 a.port, p4 a.overspeed, p8 a.grantStop, p8 a.hold, p8 a.gateLead] ++ a.classPriority.map p4 ++
    a.classWeight.map p4

/-- The parameters are within the ranges to which others are clamped, with a priority and a weight for each class. -/
structure UnclampedQueuePort (a : QueuePortArgs) : Prop where
  priorities : a.classPriority.length = 8
  priority : ∀ x ∈ a.classPriority, x.toNat ≤ 7
  weights : a.classWeight.length = 8
  weight : ∀ x ∈ a.classWeight, 1 ≤ x.toNat ∧ x.toNat ≤ 4096
  overspeed_low : 100 ≤ a.overspeed.toNat
  overspeed_high : a.overspeed.toNat ≤ 120
  stop_low : 16384 ≤ a.grantStop.toNat
  stop_high : a.grantStop.toNat ≤ 16777216
  hold : a.hold.toNat ≤ 1000000000
  gateLead : a.gateLead.toNat ≤ 100000

/-- A port with the settings of a letter. -/
def PortQ.configured (v : PortQ) (a : QueuePortArgs) : PortQ := { v with
  overspeed := a.overspeed.toNat, grantStop := a.grantStop.toNat, hold := a.hold.toNat, gateLead := a.gateLead.toNat
  classPriority := (List.range 8).foldl (fun m i => nset 0 i (a.classPriority.getD i 0).toNat m) v.classPriority
  classWeight := (List.range 8).foldl (fun m i => nset 1 i (a.classWeight.getD i 0).toNat m) v.classWeight }

theorem execQueueSetPort_accepted (h : Claimed s l 0x0B03 (queuePortPars a)) (args : UnclampedQueuePort a)
    (mine : s.portExists l.slice.val a.port.toNat = true) : ∃ t, exec (.queueSetPort l a) s = .next t ∧
      Accepted s (s.setPortQ a.port.toNat ((s.portQ a.port.toNat).configured a)) t l .done
        (layBody (queuePortPars a)) := by
  obtain ⟨priorities, priority, weights, weight, overspeed_low, overspeed_high, stop_low, stop_high, hold,
    gateLead⟩ := args
  refine ⟨_, rfl, runLetter_accepted h fun c hc => ?_⟩
  subst hc
  simp only [clampU_mem (w := 32) (by omega) overspeed_low overspeed_high,
    clampU_mem (w := 64) (by omega) stop_low stop_high, clampU_mem (w := 64) (by omega) (Nat.zero_le _) hold,
    clampU_mem (w := 64) (by omega) (Nat.zero_le _) gateLead,
    clampClasses_given priorities (by decide) fun x hx => ⟨Nat.zero_le _, priority x hx⟩,
    clampClasses_given weights (by decide) weight, unclamped_v, unclamped_c, unclamped_pars]
  refine (checked_ok ?_).trans rfl
  simp [noObj, Ctx.sl, mine]

end

/-! ## QUEUE.DELETE and QUEUE.FLUSH (07 R243, R253; 15 R436) -/

section
variable {level node : W32}

/-- A node is the slice's to delete: it exists and has no children. -/
structure MayDelete (s : State) (sl level node : Nat) : Prop where
  mine : s.nodeOwned sl level node = true
  present : (s.node (nodeKey level node)).present = true
  childless : (s.children (nodeKey level node)).isEmpty = true

/-- The node is gone. -/
def State.dropNode (s : State) (k : Nat) : State :=
  { s with queues := { s.queues with nodes := nerase k s.queues.nodes } }

/-- The queue is gone, its sparse counters free. -/
def State.dropQueue (s : State) (q : Nat) : State :=
  State.sparseFree { s with queues := { s.queues with queues := nerase q s.queues.queues } } queueFamilies q

theorem execQueueDelete_node (h : Claimed s l 0x0B05 [p4 level, p4 node]) (level_low : 1 ≤ level.toNat)
    (level_high : level.toNat ≤ 3) (may : MayDelete s l.slice.val level.toNat node.toNat) :
    ∃ t, exec (.queueDelete l level node) s = .next t ∧
      Accepted s (s.dropNode (nodeKey level.toNat node.toNat)) t l .done (layBody [p4 level, p4 node]) := by
  obtain ⟨mine, present, childless⟩ := may
  have inner : level.toNat ≠ 0 := Nat.ne_of_gt level_low
  refine ⟨_, rfl, runLetter_accepted h fun c hc => ?_⟩
  subst hc
  refine (checked_ok ?_).trans ?_
  · have low : level.toNat ≤ 4 := by omega
    have not_port : level.toNat ≠ 4 := by omega
    simp [malformed, noObj, busy, notPermitted, Ctx.sl, mine, present, childless, inner, low, not_port]
  · simp only [inner, ↓reduceIte]
    rfl

/-- An empty queue goes with its node, and a flush of it that is in progress is done. -/
theorem execQueueDelete_queue (h : Claimed s l 0x0B05 [p4 0, p4 node]) (may : MayDelete s l.slice.val 0 node.toNat)
    (empty : (s.queue (node.toNat + 131072)).packets = []) :
    ∃ t, exec (.queueDelete l 0 node) s = .next t ∧
      Accepted s (((s.dropNode (nodeKey 0 node.toNat)).dropQueue (node.toNat + 131072)).release?
        (s.queue (node.toNat + 131072)).flush) t l .done (layBody [p4 0, p4 node]) := by
  obtain ⟨mine, present, childless⟩ := may
  refine ⟨_, rfl, runLetter_accepted h fun c hc => ?_⟩
  subst hc
  refine (checked_ok ?_).trans rfl
  simp [malformed, noObj, busy, notPermitted, Ctx.sl, mine, present, childless, empty]

end

theorem execQueueFlush_accepted {queue : W32} (h : Claimed s l 0x0B06 [p4 queue]) (numbered : queue.toNat < 524288)
    (present : (s.queue queue.toNat).present = true) (mine : s.queueOwner queue.toNat = l.slice.val)
    (idle : (s.queue queue.toNat).flush = none) : ∃ t, exec (.queueFlush l queue) s = .next t ∧
      Accepted s (s.setQueue queue.toNat { s.queue queue.toNat with flush := some l }) t l .done (layBody [p4 queue])
        true := by
  refine ⟨_, rfl, runLetter_accepted h fun c hc => ?_⟩
  subst hc
  refine (checked_ok ?_).trans rfl
  simp [noObj, busy, Ctx.sl, numbered, present, mine, idle]

/-! ## Gate lists (07 R245, R246; 02 R53-R55) -/

section
variable {port : W32}

theorem execQueueWriteGates_accepted {entries : ListArg W64} {es : List W64}
    (h : Claimed s l 0x0B07 [p4 port, pL entries]) (count_low : 1 ≤ entries.count.toNat)
    (count_high : entries.count.toNat ≤ 256) (mine : s.portExists l.slice.val port.toNat = true)
    (free : (s.portQ port.toNat).gatesPage.state.fixed = false) (read : entries.items = some es)
    (good : es.any badGate = false) (cycle : gateCycle (es.map gateOf) ≤ 1000000000) :
    ∃ t, exec (.queueWriteGates l port entries) s = .next t ∧ Accepted s (s.setPortQ port.toNat
      { s.portQ port.toNat with gatesIn := es.map gateOf, gatesPage := { state := .loaded } }) t l .done
      (layBody [p4 port, pL entries]) := by
  refine ⟨_, rfl, runLetter_accepted h fun c hc => ?_⟩
  subst hc
  refine (checked_ok ?_).trans ?_
  · have counted : entries.count.toNat ≠ 0 := Nat.ne_of_gt count_low
    simp [malformed, counted, count_high]
  · rw [withList, read]
    refine (checked_ok ?_).trans rfl
    have sound : (es.any badGate || decide (1000000000 < gateCycle (es.map gateOf))) = false := by
      rw [good, Bool.false_or]
      exact decide_eq_false (Nat.not_lt.mpr cycle)
    have here : (!s.portExists c.sl port.toNat) = false := by rw [Ctx.sl, mine]; rfl
    simp only [List.forall_mem_cons, List.not_mem_nil, false_implies, implies_true, and_true, malformed, noObj, busy]
    exact ⟨sound, here, free⟩

/-- A gate list is armed for a time that is legal and neither past nor too far. -/
theorem execQueueScheduleGates_armed {at' : TimeParam} (h : Claimed s l 0x0B08 [p4 port, pT at'])
    (mine : s.portExists l.slice.val port.toNat = true) (loaded : (s.portQ port.toNat).gatesPage.state = .loaded)
    (legal : badTime at' = false) (near : farTime s at' = false) (ahead : pastTime s at' = false) :
    ∃ t, exec (.queueScheduleGates l port at') s = .next t ∧ Accepted s (s.setPortQ port.toNat { s.portQ port.toNat with
      gatesPage := { state := .armed, t := schedT at' }
      gatesT := if at'.toNat = 0 then (s.ns / 1000 + 1) * 1000 * 65536 else schedT at' }) t l .scheduled
      (layBody [p4 port, pT at']) := by
  refine ⟨_, rfl, runLetter_accepted h fun c hc => ?_⟩
  subst hc
  refine (checked_ok ?_).trans rfl
  simp [malformed, noObj, busy, scheduleChecks, timeChecks, Ctx.sl, mine, loaded, legal, near, ahead]

theorem cancel_of_fixed {v : Page} (fixed : v.state.fixed = true) : v.cancel = { state := .loaded } := if_pos fixed

theorem execQueueCancelGates_accepted (h : Claimed s l 0x0B09 [p4 port])
    (mine : s.portExists l.slice.val port.toNat = true)
    (fixed : (s.portQ port.toNat).gatesPage.state.fixed = true) : ∃ t, exec (.queueCancelGates l port) s = .next t ∧
      Accepted s ((s.setPortQ port.toNat { s.portQ port.toNat with
        gatesPage := { state := .loaded }, gatesT := 0 }).clearFault 0x0203 (pageObject 3 port.toNat)) t l .done
        (layBody [p4 port]) := by
  refine ⟨_, rfl, runLetter_accepted h fun c hc => ?_⟩
  subst hc
  simp only [cancel_of_fixed fixed]
  refine (checked_ok ?_).trans rfl
  simp [noObj, busy, Ctx.sl, mine, fixed]

end

end

/-- Settles O34: a letter by its checks, which all pass, and by what it names: a VOQ or an egress queue, a node or a
queue, a time or at once. That QUEUE.WRITE_GATES ends DONE, and that a shaper which leaves rate 0 starts with a full
bucket, is deduced (notes/assumptions/81.md, 163.md). -/
theorem queueLetters : Obligations.QueueLetters := by
  refine ⟨?voq, ?egress, ?setNode, ?putNode, ?setLength, ?setPort, ?delete, ?deleteQueue, ?deleteFlushing, ?flush,
    ?writeGates, ?schedule, ?scheduleNow, ?cancel⟩
  case voq =>
    intro s l a v configured h queue age_low age_high destModule destPort cls base_low base_high eqMask parentLevel
      parentNode priority weight gate pfcClass numbered mine profile within
    have accepted := execQueueConfigure_voq h ⟨queue, age_low, age_high, destModule, destPort, cls, base_low, base_high,
      eqMask, parentLevel, parentNode, priority, weight, gate, pfcClass⟩ configured ⟨numbered, mine, profile, within⟩
    rwa [queuePars, parentLevel, parentNode, priority, weight, gate, pfcClass] at accepted
  case egress =>
    intro s l a v configured h queue_low queue_high age_low age_high destModule destPort cls eqBase eqMask level_low
      level_high priority weight_low weight_high gate pfcClass numbered mine profile parent within
    have accepted := execQueueConfigure_egress h ⟨queue_low, queue_high, age_low, age_high, destModule, destPort, cls,
      eqBase, eqMask, level_low, level_high, priority, weight_low, weight_high, gate, pfcClass⟩ configured
      ⟨numbered, mine, profile, within⟩ parent
    rwa [queuePars, destModule, destPort, cls, eqBase, eqMask] at accepted
  case setNode =>
    intro s l a n hn h level_low level_high parent_low parent_high lengths mine parent length priority weight_low
      weight_high cir_low cbs_low cbs_high pir_low pir_high cir_pir pbs_low pbs_high
    subst hn
    exact execQueueSetNode_accepted h ⟨level_low, level_high, parent_low, parent_high, lengths, priority, weight_low,
      weight_high, cir_low, cbs_low, cbs_high, pir_low, pir_high, cir_pir, pbs_low, pbs_high⟩ mine parent length
  case putNode => exact fun s k n inner => node_putNode_inner n inner
  case setLength =>
    exact fun s l profile adjust h numbered_low numbered_high mine low high =>
      execQueueSetLengthProfile_adjusts h numbered_low numbered_high mine low high
  case setPort =>
    intro s l a priority weight h mine priorities weights overspeed_low overspeed_high stop_low stop_high hold gateLead
    exact execQueueSetPort_accepted h ⟨priorities, priority, weights, weight, overspeed_low, overspeed_high, stop_low,
      stop_high, hold, gateLead⟩ mine
  case delete =>
    exact fun s l level node h level_high mine present childless level_low =>
      execQueueDelete_node h level_low level_high ⟨mine, present, childless⟩
  case deleteQueue =>
    intro s l node h mine present childless empty idle
    have accepted := execQueueDelete_queue h ⟨mine, present, childless⟩ empty
    rwa [idle] at accepted
  case deleteFlushing =>
    intro s l m node h mine present childless empty flushing
    have accepted := execQueueDelete_queue h ⟨mine, present, childless⟩ empty
    rwa [flushing] at accepted
  case flush =>
    exact fun s l queue h numbered present mine idle => execQueueFlush_accepted h numbered present mine idle
  case writeGates =>
    exact fun s l port entries es h count_low count_high mine free read good cycle =>
      execQueueWriteGates_accepted h count_low count_high mine free read good cycle
  case schedule =>
    intro s l port at' h mine loaded legal near ahead later
    have accepted := execQueueScheduleGates_armed h mine loaded legal near ahead
    rwa [if_neg later] at accepted
  case scheduleNow =>
    exact fun s l port h mine loaded => execQueueScheduleGates_armed h mine loaded rfl rfl rfl
  case cancel => exact fun s l port h mine fixed => execQueueCancelGates_accepted h mine fixed

end Sys2Proof.Machine

namespace Sys2Proof.Machine

/-! # Courier descriptors, records and bursts (12 R375-R387) -/

section
variable {s : State} {channel : Fin 64}

/-! ## COURIER_READ_RETURN (12 R378, R380, R382, R386) -/

/-- The descriptor that a fetch of a ring's place brings. -/
def fetchedDesc (i : Nat) (bs : List Byte) : Desc :=
  let d : Desc := { index := i, raw := BitVec.ofNat 256 (leNat (bslice bs 0 32)) }
  if descOk (leNat (bslice bs 0 32)) then (if d.kind = 1 then { d with left := d.length } else d)
  else { d with status := 4, finished := true }

theorem kind_ofNat {d : Desc} {n : Nat} (raw : d.raw = BitVec.ofNat 256 n) : d.kind = bits n 2 1 := by
  rw [Desc.kind, raw, BitVec.toNat_ofNat, bits, bits]
  omega

theorem fetchedDesc_toHost {i : Nat} {bs : List Byte} (ok : descOk (leNat (bslice bs 0 32)) = true)
    (kind : bits (leNat (bslice bs 0 32)) 2 1 ≠ 1) :
    fetchedDesc i bs = { index := i, raw := BitVec.ofNat 256 (leNat (bslice bs 0 32)) } := by
  rw [fetchedDesc, if_pos ok, kind_ofNat rfl, if_neg kind]

theorem fetchedDesc_malformed {i : Nat} {bs : List Byte} (bad : descOk (leNat (bslice bs 0 32)) = false) :
    fetchedDesc i bs =
      { index := i, raw := BitVec.ofNat 256 (leNat (bslice bs 0 32)), status := 4, finished := true } := by
  rw [fetchedDesc, if_neg (Bool.not_eq_true _ ▸ bad)]

section
variable {i : Nat} {rest : List ChanRead}

theorem execCourierReadReturn_fetched {bs : List Byte} (oldest : (s.chan channel).reads = .fetch i :: rest) :
    execCourierReadReturn channel (some bs) s = .next ((s.setChan channel { s.chan channel with reads := rest }).setChan
      channel { s.chan channel with reads := rest, descs := (s.chan channel).descs ++ [fetchedDesc i bs] }) := by
  rw [execCourierReadReturn]
  simp only [oldest]
  rfl

theorem execCourierReadReturn_failed (oldest : (s.chan channel).reads = .fetch i :: rest) :
    execCourierReadReturn channel none s = .next ((s.setChan channel { s.chan channel with reads := rest }).chanFault
      channel i ((s.chan channel).ring.toNat + 32 * i)) := by
  rw [execCourierReadReturn]
  simp only [oldest]

theorem execCourierReadReturn_flushed {bs : List Byte} {d : Desc} (oldest : (s.chan channel).reads = .flush i :: rest)
    (found : ((s.chan channel).descs.find? fun d => d.index = i) = some d) : execCourierReadReturn channel (some bs) s =
      .next ((s.setChan channel { s.chan channel with reads := rest }).setChan channel
        (Channel.setDesc { s.chan channel with reads := rest } { d with flushed := true })) := by
  rw [execCourierReadReturn]
  simp only [oldest, found]

end

/-! ## DESCRIPTOR_COMPLETE (12 R378-R380, R385) -/

section
variable {d : Desc} {ds : List Desc} (oldest : (s.chan channel).descs = d :: ds)
include oldest

theorem execDescriptorComplete_finished (finished : d.finished = true) : execDescriptorComplete channel s = .next
    (let u := s.closeDesc channel d d.status
      if d.status = 4 then u.stopChan channel else u) := by
  rw [execDescriptorComplete]
  simp only [oldest]
  exact congrArg _ (if_neg (not_not_intro finished))

theorem execDescriptorComplete_unfinished (unfinished : d.finished = false) :
    execDescriptorComplete channel s = .next s := by
  rw [execDescriptorComplete]
  simp only [oldest, unfinished, Bool.false_eq_true, not_false_eq_true, ↓reduceIte]

end

/-! ## CIRCULAR_RECORD_WRITE (12 R384, R385) -/

/-- A circular descriptor whose record is written, its head moved on. -/
def Desc.advanced (d : Desc) : Desc :=
  { d with head := d.head + BitVec.ofNat 32 d.done, done := 0, record := none, status := 0 }

theorem execCircularRecordWrite_signals {d : Desc} {p : Packet}
    (found : ((s.chan channel).descs.find? fun d => d.kind = 2 ∧ d.record.isSome ∧ d.left = 0) = some d)
    (record : d.record = some p) (irq : d.irq = true) : execCircularRecordWrite channel s = .next (
      let u := (s.setChan channel ((s.chan channel).setDesc d.advanced)).writeBack channel d.advanced 0 false
      ((u.signal (u.chanVector channel)).freeHost channel p).noteSpace channel) := by
  rw [execCircularRecordWrite]
  simp only [found, record, irq, ↓reduceIte]
  rfl

/-! ## INJECT_RECORD (12 R382) -/

section
variable {d : Desc} (found : ((s.chan channel).descs.find? fun d => d.kind = 1 ∧ ¬ d.finished) = some d)
include found

theorem execInjectRecord_waits {rivals : List Rival} (unread : d.done < d.length) :
    execInjectRecord channel rivals s = .next s := by
  rw [execInjectRecord]
  simp only [found, unread, ↓reduceIte]

theorem execInjectRecord_read (read : d.length ≤ d.done) : execInjectRecord channel [] s = .next (
    let x := s.inject channel d
    x.2.setChan channel ((x.2.chan channel).setDesc { d with finished := true, status := x.1, data := [] })) := by
  rw [execInjectRecord]
  simp only [found, Nat.not_lt.mpr read, contest_nil, ↓reduceIte]

end

theorem inject_short {c : Nat} {d : Desc}
    (short : d.length < 16 + (bits (leNat (bslice d.data 0 16)) 91 78 - 4)) : s.inject c d = (4, s) := by
  rw [State.inject]
  exact if_pos short

/-! ## COURIER_BURST (12 R375, R387) -/

/-- An internal requester's burst to the host takes its share of the bus and is counted. -/
theorem execCourierBurst_internal {u : State} {r : Requester} {bytes : BitVec 13} {ok : Bool}
    (internal : ∀ c, r ≠ .channel c) (on : s.courier.pasidOn = true) (fits : bytes.toNat ≤ s.courier.maxPayload)
    (granted : s.grantBus true (Requester.code r) bytes.toNat = some u) : execCourierBurst true r bytes ok s =
      .next (u.bump .curBytesToHost (Requester.code r) 0 bytes.toNat) := by
  rw [execCourierBurst]
  · simp only [on, Nat.not_lt.mpr fits, granted, not_true_eq_false, or_self, ↓reduceIte]
  · exact internal

/-- A channel's work is a burst within the longest write that crosses no page. -/
theorem hostWork_room {c room : Nat} {d : Desc} (work : s.hostWork c = some (d, room)) :
    room = burstRoom d.nextAddr d.left s.courier.maxPayload := by
  rw [State.hostWork] at work
  split at work
  · cases work
  · obtain ⟨e, _, same⟩ := Option.map_eq_some_iff.mp work
    obtain ⟨rfl, rfl⟩ := Prod.mk.inj same
    rfl

theorem burstRoom_le (addr left limit : Nat) : burstRoom addr left limit ≤ limit :=
  Nat.le_trans (Nat.min_le_left ..) (Nat.min_le_right ..)

theorem burstRoom_page (addr left limit : Nat) : addr % 4096 + burstRoom addr left limit ≤ 4096 := by
  have page : burstRoom addr left limit ≤ 4096 - addr % 4096 := Nat.min_le_right ..
  omega

section
variable {c n room : Nat} {d : Desc}

theorem writeBurst_notPicked {ok : Bool} (work : s.hostWork c = some (d, room)) (refused : s.grantBus true c n = none) :
    s.writeBurst c n ok = s := by
  rw [State.writeBurst]
  simp only [work, refused, ite_self]

/-- A burst of a record's bytes is in host memory and counted. -/
def State.burstWritten (s : State) (c : Nat) (d : Desc) (p : Packet) (n : Nat) : State :=
  ((s.startRecord c).hostWrite ((s.startRecord c).chanOwner c) (BitVec.ofNat 64 d.nextAddr)
    (((hostRecord d p).drop d.done).take n)).bump .curBytesToHost c 0 n

/-- A descriptor after a burst of its record, which ends it or not. -/
def Desc.afterBurst (d : Desc) (p : Packet) (n : Nat) (ends : Bool) : Desc := { d with
  left := d.left - n, done := d.done + n, finished := ends, status := b2n (decide (d.captured p < p.data.length))
  record := if ends then none else some p }

/-- The channel keeps the burst's last address and the descriptor's progress. -/
def State.noteBurst (s : State) (c : Nat) (d : Desc) (p : Packet) (n : Nat) (ends : Bool) : State :=
  s.setChan c (Channel.setDesc { s.chan c with lastWrite := BitVec.ofNat 64 (d.nextAddr + n - 1) }
    (d.afterBurst p n ends))

section
variable {g : State} {p : Packet} (work : s.hostWork c = some (d, room)) (some_bytes : n ≠ 0) (fits : n ≤ room)
  (record : d.record = some p) (granted : s.grantBus true c n = some g)
include work some_bytes fits record granted

theorem writeBurst_more (more : n < d.left) :
    s.writeBurst c n true = (g.burstWritten c d p n).noteBurst c d p n false := by
  have goes_on : (decide (d.left - n = 0) && decide (d.kind = 0)) = false := by
    rw [decide_eq_false (by omega), Bool.false_and]
  rw [State.writeBurst]
  simp only [work, some_bytes, Nat.not_lt.mpr fits, granted, record, goes_on, or_self, not_true_eq_false,
    Bool.false_eq_true, ↓reduceIte]
  rfl

/-- The last burst of a record finishes a descriptor that takes one record, and frees the packet's buffer. -/
theorem writeBurst_last (last : d.left = n) (one : d.kind = 0) :
    s.writeBurst c n true = ((g.burstWritten c d p n).noteBurst c d p n true).freeHost c p := by
  have ends : (decide (d.left - n = 0) && decide (d.kind = 0)) = true := by
    rw [decide_eq_true (by omega), decide_eq_true one, Bool.true_and]
  rw [State.writeBurst]
  simp only [work, some_bytes, Nat.not_lt.mpr fits, granted, record, ends, or_self, not_true_eq_false,
    ↓reduceIte]
  rfl

theorem writeBurst_failed : s.writeBurst c n false = (g.startRecord c).chanFault c d.index d.nextAddr := by
  rw [State.writeBurst]
  simp only [work, some_bytes, Nat.not_lt.mpr fits, granted, record, or_self, not_false_eq_true, Bool.false_eq_true,
    ↓reduceIte]

end

theorem writeBurst_idle {ok : Bool} (idle : s.hostWork c = none) :
    s.writeBurst c n ok = (s.noteSpace c).fetchHead c := by
  rw [State.writeBurst]
  simp only [idle]

/-- A record that does not fit its circular buffer is noted. -/
theorem noteSpace_full {p : Packet} {q : List Packet} (waiting : (s.chan c).waiting = some d)
    (next : (s.chan c).queue = p :: q) (circular : d.kind = 2) (full : (s.chan c).fits d p = false)
    (unnoted : (s.chan c).waitSpace = false) :
    s.noteSpace c = (s.setChan c { s.chan c with waitSpace := true }).bump .curWaitSpace c := by
  rw [State.noteSpace]
  simp only [waiting, next]
  exact if_pos ⟨circular, by simp [full], by simp [unnoted]⟩

end

/-- A fetch of the next descriptor is asked for when a channel has nothing else to read. -/
theorem readBurst_fetch {g : State} {c : Nat} (flushed : s.flushWork c = none) (read : s.readWork c = none)
    (fetches : s.fetchWork c = true) (granted : s.grantBus false c 32 = some g) : s.readBurst c 32 true =
      (g.setChan c { s.chan c with
        taken := (s.chan c).taken + 1#32
        reads := (s.chan c).reads ++ [.fetch ((s.chan c).slot (s.chan c).taken)] }).bump .curBytesFromHost c 0 32 := by
  rw [State.readBurst]
  simp only [flushed, read, fetches, granted, ne_eq, not_true_eq_false, or_self, ↓reduceIte]

end

/-- Settles O46: a read by what it brings, a descriptor by whether it is finished, a burst by the work, the grant and
what the record has left. That internal requesters work in rows of their own, that a malformed descriptor stops its
channel as it completes, how circular channels start, how an injected record is refused, and the order of a write-back are
deduced (notes/assumptions/68.md, 70.md, 71.md, 72.md, 152.md). -/
theorem courierDescriptorsAndBursts : Obligations.CourierDescriptorsAndBursts := by
  refine ⟨?fetched, ?malformed, ?readError, ?flushed, ?complete, ?completeMalformed, ?notComplete, ?circular,
    ?injectWaits, ?inject, ?injectShort, ?internal, ?notPicked, ?burstRoom, ?burst, ?burstLast, ?writeError, ?noSpace,
    ?fetch, ?quantum⟩
  case fetched =>
    intro s channel i rest bs oldest ok kind
    rw [exec_courierReadReturn, execCourierReadReturn_fetched oldest, fetchedDesc_toHost ok kind]
  case malformed =>
    intro s channel i rest bs oldest bad
    rw [exec_courierReadReturn, execCourierReadReturn_fetched oldest, fetchedDesc_malformed bad]
  case readError => exact fun s channel i rest oldest => execCourierReadReturn_failed oldest
  case flushed => exact fun s channel i rest bs d oldest found => execCourierReadReturn_flushed oldest found
  case complete =>
    intro s channel d ds oldest finished sound
    rw [exec_descriptorComplete, execDescriptorComplete_finished oldest finished]
    exact congrArg _ (if_neg sound)
  case completeMalformed =>
    intro s channel d ds oldest finished bad
    rw [exec_descriptorComplete, execDescriptorComplete_finished oldest finished, bad]
    rfl
  case notComplete => exact fun s channel d ds oldest unfinished => execDescriptorComplete_unfinished oldest unfinished
  case circular =>
    intro s channel d e p u found record irq he hu
    subst he hu
    exact execCircularRecordWrite_signals found record irq
  case injectWaits => exact fun s channel rivals d found unread => execInjectRecord_waits found unread
  case inject =>
    intro s u channel d status found read injected
    rw [exec_injectRecord, execInjectRecord_read found read, injected]
  case injectShort => exact fun s c d short => inject_short short
  case internal =>
    exact fun s u r bytes ok internal on fits granted => execCourierBurst_internal internal on fits granted
  case notPicked => exact fun s c d room bytes ok work refused => congrArg _ (writeBurst_notPicked work refused)
  case burstRoom =>
    intro s c d room work
    rw [hostWork_room work]
    exact ⟨burstRoom_le .., burstRoom_page ..⟩
  case burst =>
    intro s g u c d e p room bytes work some_bytes fits record granted more he hu
    subst he hu
    exact congrArg _ (writeBurst_more work some_bytes fits record granted more)
  case burstLast =>
    intro s g u c d e p room bytes work some_bytes fits record granted last one he hu
    have ended : e = d.afterBurst p bytes.toNat true := by
      rw [he, Desc.afterBurst, last, Nat.sub_self]
      rfl
    subst hu
    rw [ended]
    exact congrArg _ (writeBurst_last work some_bytes fits record granted last one)
  case writeError =>
    exact fun s g c d p room bytes work some_bytes fits record granted =>
      congrArg _ (writeBurst_failed work some_bytes fits record granted)
  case noSpace =>
    intro s c d p q bytes ok idle waiting next circular full unnoted
    refine congrArg _ ((writeBurst_idle idle).trans ?_)
    rw [noteSpace_full waiting next circular full unnoted]
  case fetch =>
    exact fun s g c flushed read fetches granted => congrArg _ (readBurst_fetch flushed read fetches granted)
  case quantum => exact fun s => ⟨rfl, rfl, rfl, rfl, rfl⟩

end Sys2Proof.Machine

namespace Sys2Proof.Machine

/-! # Fabric links and the FABRIC letters (08 R258-R262, R265, R271, R286, R287, R289; 16 R457, R466) -/

section
variable {s : State} {link : Fin 256} {l : LetterId}

theorem onLink_present {i : Nat} {f : State → State} (present : s.hasLink i = true) : onLink s i f = .next (f s) :=
  if_pos present

/-! ## A link's timers and losses (08 R259, R261, R265; 16 R466) -/

theorem execLinkAligned_aligned (present : s.hasLink link = true) (aligning : (s.link link).st = .aligning)
    (on : s.domain (fabricDomain link) = true) (clock : s.serdesOk = true) : execLinkAligned link s =
      .next (s.setLink link { s.link link with st := .ident, since := s.up, agree := 0, identAt := s.up }) := by
  rw [execLinkAligned, onLink_present present]
  exact congrArg _ (if_pos ⟨aligning, on, clock⟩)

theorem execLinkDown_present {cause : LinkCause} (present : s.hasLink link = true) : execLinkDown link cause s =
    .next (if (s.link link).st = .up then s.linkDown link (linkCauseCode cause) else s) :=
  onLink_present present

theorem execReachTimeout_due (present : s.hasLink link = true) (up : (s.link link).st = .up)
    (due : (s.link link).reachAt + 50000 ≤ s.up) : execReachTimeout link s = .next (s.linkDown link 3) := by
  rw [execReachTimeout, onLink_present present]
  exact congrArg _ (if_pos ⟨up, due⟩)

theorem execHoldMaxExpiry_due (present : s.hasLink link = true) (up : (s.link link).st = .up)
    (held : (s.link link).hold = true) (due : (s.link link).holdAt + s.fabric.holdMax < s.up) :
    execHoldMaxExpiry link s = .next ((s.bump .fabHoldStuck link).linkDown link 5) := by
  rw [execHoldMaxExpiry, onLink_present present]
  exact congrArg _ (if_pos ⟨up, held, due⟩)

theorem execLinkRetry_due (present : s.hasLink link = true) (down : (s.link link).st = .down)
    (due : (s.link link).since + 10000000 ≤ s.up) :
    execLinkRetry link s = .next (s.setLink link { s.link link with st := .aligning, since := s.up }) := by
  rw [execLinkRetry, onLink_present present]
  exact congrArg _ (if_pos ⟨down, due⟩)

theorem execIdentSend_due (present : s.hasLink link = true) (kept : (s.link link).disable = none)
    (due : (s.link link).st = .ident ∧ (s.link link).identAt + 1000 ≤ s.up ∨
      (s.link link).st = .up ∧ (s.link link).identAt + 10000 ≤ s.up) :
    execIdentSend link s = .next ((s.setLink link { s.link link with identAt := s.up }).queueControl link
      (.ident s.myId (link.val / 16) (link.val % 16))) := by
  rw [execIdentSend, onLink_present present]
  exact congrArg _ (if_pos ⟨by simpa using due, by rw [kept]; rfl⟩)

/-! ## Reach cells (08 R260, R261, R271) -/

/-- A link hears cells in IDENT and in UP. -/
def State.hears (s : State) (i : Nat) : Prop := (s.link i).st = .up ∨ (s.link i).st = .ident

theorem execReachReceive_reach {cell : List Byte} (present : s.hasLink link = true) (hears : s.hears link)
    (good : GoodCell cell) (reach : isControl 4 cell = true) : execReachReceive link cell true s =
      .next ((s.heardCell link cell).takeReach link (readReach cell)) := by
  rw [execReachReceive, onLink_present present, hear_good hears good, if_pos reach]

section
variable {i : Nat} {r : ReachCell}

/-- Reach cells in a row that agree, with one more. -/
def Link.agreeing (v : Link) (r : ReachCell) : Nat := if v.agrees r ∧ v.agree ≠ 0 then v.agree + 1 else 1

theorem agreeing_next {v : Link} (agrees : v.agrees r = true) (again : v.agree ≠ 0) : v.agreeing r = v.agree + 1 :=
  if_pos ⟨agrees, again⟩

theorem agreeing_first {v : Link} (first : v.agrees r = false ∨ v.agree = 0) : v.agreeing r = 1 :=
  if_neg fun ⟨agrees, again⟩ => first.elim (fun other => Bool.false_ne_true (other.symm.trans agrees)) again

/-- Fewer than three agreeing cells leave the link in IDENT. -/
theorem takeReach_counts (ident : (s.link i).st = .ident) (here : r.plane.toNat = i / 16)
    (few : (s.link i).agreeing r < 3) : s.takeReach i r = s.setLink i { s.link i with
      agree := (s.link i).agreeing r, element := r.element, eport := r.port, map := r.map, reachAt := s.up } := by
  simp only [State.takeReach, ident, here, decide_true, not_true_eq_false, ↓reduceIte]
  exact if_pos few

/-- The third agreeing cell brings the link UP. -/
theorem takeReach_third (ident : (s.link i).st = .ident) (here : r.plane.toNat = i / 16)
    (third : 3 ≤ (s.link i).agreeing r) : s.takeReach i r = ((((s.setLink i { s.link i with
      agree := 0, element := r.element, eport := r.port, map := r.map, reachAt := s.up, st := .up, since := s.up,
      miswired := false }).clearFault 0x0801 i).clearFault 0x0804 i).linksChanged i).placeCells := by
  simp only [State.takeReach, ident, here, decide_true, not_true_eq_false, ↓reduceIte]
  exact if_neg (Nat.not_lt.mpr third)

/-- A link wired to another plane is counted at each cell, and reported once. -/
theorem takeReach_miswired (ident : (s.link i).st = .ident) (away : r.plane.toNat ≠ i / 16) : s.takeReach i r =
    (let t := (s.setLink i { s.link i with agree := 0, miswired := true }).bump .fabMiswired i
    if (s.link i).miswired then t else t.condition 0x0804 i true r.plane.toNat) := by
  simp only [State.takeReach, ident, away, decide_false, Bool.false_eq_true, not_false_eq_true, ↓reduceIte]

theorem takeReach_renews (up : (s.link i).st = .up) (here : r.plane.toNat = i / 16)
    (agrees : (s.link i).agrees r = true) :
    s.takeReach i r = ((s.setLink i { s.link i with map := r.map, reachAt := s.up }).updateMap).placeCells := by
  simp only [State.takeReach, up, here, agrees, decide_true, not_true_eq_false, or_self, ↓reduceIte]

theorem takeReach_changed (up : (s.link i).st = .up)
    (changed : r.plane.toNat ≠ i / 16 ∨ (s.link i).agrees r = false) : s.takeReach i r = s.linkDown i 4 := by
  simp only [State.takeReach, up]
  exact if_pos (by simpa using changed)

end

/-! ## The end of a disable (08 R262; 16 R457) -/

theorem execLinkDisableComplete_sent (present : s.hasLink link = true) (disabling : (s.link link).disable = some l)
    (placed : (s.link link).waiting = []) (sent : (s.link link).control = []) : execLinkDisableComplete link s =
      .next (let t := s.sendSlot link (idleCell s.fabric.holdOut)
        let u := (if (s.link link).hold then t.bump .fabHoldNs link 0 1 (t.up - (s.link link).holdAt) else t).setLink
          link { identAt := (s.link link).identAt }
        let v := if ((List.range 8).map (· + 8 * (link.val / 8))).all fun j => (u.link j).st = .off then
          u.askDomain (fabricDomain link) false else u
        (((v.clearFault 0x0801 link).clearFault 0x0804 link).linksChanged link).release l) := by
  rw [execLinkDisableComplete, onLink_present present]
  simp only [disabling, placed, sent, ne_eq, not_true_eq_false, or_self, ↓reduceIte]

/-! ## The FABRIC letters (08 R258, R259, R262, R286, R287, R289) -/

section
variable {n : W32}

/-- A letter of slice 0 that names a link of the variant passes the checks of links. -/
theorem linkChecks_pass {i : Nat} {c : Ctx} (numbered : i ≤ 255) (present : s.hasLink i = true) (zero : c.sl = 0) :
    ∀ x ∈ linkChecks s c i, x.1 = false := by
  simp [linkChecks, malformed, noObj, numbered, present, zero]

theorem execFabricEnableLink_off (h : Claimed s l 0x0D01 [p4 n]) (numbered : n.toNat ≤ 255)
    (present : s.hasLink n.toNat = true) (zero : l.slice.val = 0) (idle : (s.link n.toNat).disable = none)
    (off : (s.link n.toNat).st = .off) : ∃ t, exec (.fabricEnableLink l n) s = .next t ∧
      Accepted s ((s.setLink n.toNat { s.link n.toNat with enabled := true, st := .aligning, since := s.up }).askDomain
        (fabricDomain n.toNat) true) t l .done (layBody [p4 n]) := by
  refine ⟨_, rfl, runLetter_accepted h fun c hc => ?_⟩
  subst hc
  refine (checked_ok (List.forall_mem_append.mpr ⟨linkChecks_pass numbered present zero, ?_⟩)).trans ?_
  · simp [busy, idle]
  · simp only [off, ↓reduceIte]
    rfl

theorem execFabricDisableLink_on (h : Claimed s l 0x0D02 [p4 n]) (numbered : n.toNat ≤ 255)
    (present : s.hasLink n.toNat = true) (zero : l.slice.val = 0) (idle : (s.link n.toNat).disable = none)
    (on : (s.link n.toNat).st ≠ .off) (others : ((List.range s.variant.links).any fun j =>
      decide (j ≠ n.toNat) && (s.link j).enabled && (s.link j).disable.isNone) = true) :
    ∃ t, exec (.fabricDisableLink l n) s = .next t ∧ Accepted s (s.setLink n.toNat { s.link n.toNat with
      disable := some l, enabled := false }) t l .done (layBody [p4 n]) true := by
  refine ⟨_, rfl, runLetter_accepted h fun c hc => ?_⟩
  subst hc
  refine (checked_ok (List.forall_mem_append.mpr ⟨linkChecks_pass numbered present zero, ?_⟩)).trans ?_
  · simp only [others]
    simp [busy, notPermitted, idle]
  · simp only [on, ↓reduceIte]
    rfl

theorem execFabricSetTxEq_accepted {taps : TxTaps}
    (h : Claimed s l 0x0D03 [p4 n, p4 taps.pre2, p4 taps.pre1, p4 taps.main, p4 taps.post1]) (numbered : n.toNat ≤ 255)
    (present : s.hasLink n.toNat = true) (zero : l.slice.val = 0)
    (fits : (tapsOf taps (nget {} s.fabric.taps n.toNat)).2.2 = [(1, false), (2, false), (3, false), (4, false)]) :
    ∃ t, exec (.fabricSetTxEq l n taps) s = .next t ∧ Accepted s { s with fabric := { s.fabric with
      taps := nset {} n.toNat (tapsOf taps (nget {} s.fabric.taps n.toNat)).1 s.fabric.taps } } t l .done
      (layBody (p4 n :: (tapsOf taps (nget {} s.fabric.taps n.toNat)).2.1)) := by
  refine ⟨_, rfl, runLetter_accepted h fun c hc => ?_⟩
  subst hc
  refine (checked_ok (linkChecks_pass numbered present zero)).trans ?_
  rw [fits]
  rfl

end

/-- The timers are within the ranges to which others are clamped. -/
structure UnclampedTimers (reasmTimeout skewLimit creditWd holdMax packWait : W64) : Prop where
  reasm_low : 10000 ≤ reasmTimeout.toNat
  reasm_high : reasmTimeout.toNat ≤ 1000000
  skew_low : 500 ≤ skewLimit.toNat
  skew_high : skewLimit.toNat ≤ 50000
  credit_low : 10000 ≤ creditWd.toNat
  credit_high : creditWd.toNat ≤ 10000000
  hold_low : 10000 ≤ holdMax.toNat
  hold_high : holdMax.toNat ≤ 100000000
  pack_high : packWait.toNat ≤ 1000

theorem execFabricSetTimers_accepted {a b c d e : W64} (h : Claimed s l 0x0D04 [p8 a, p8 b, p8 c, p8 d, p8 e])
    (fits : UnclampedTimers a b c d e) : ∃ t, exec (.fabricSetTimers l a b c d e) s = .next t ∧
      Accepted s { s with fabric := { s.fabric with
        reasmTimeout := a.toNat, skewLimit := b.toNat, creditWd := c.toNat, holdMax := d.toNat, packWait := e.toNat } }
        t l .done (layBody [p8 a, p8 b, p8 c, p8 d, p8 e]) := by
  obtain ⟨reasm_low, reasm_high, skew_low, skew_high, credit_low, credit_high, hold_low, hold_high, pack_high⟩ := fits
  refine ⟨_, rfl, runLetter_accepted h fun _ _ => ?_⟩
  simp only [clampU_mem (w := 64) (by omega) reasm_low reasm_high, clampU_mem (w := 64) (by omega) skew_low skew_high,
    clampU_mem (w := 64) (by omega) credit_low credit_high, clampU_mem (w := 64) (by omega) hold_low hold_high,
    clampU_mem (w := 64) (by omega) (Nat.zero_le _) pack_high]
  rfl

theorem nearStep_mul {step v : Nat} (whole : v % step = 0) : nearStep step v = v := by
  obtain ⟨k, rfl⟩ := Nat.dvd_of_mod_eq_zero whole
  rcases Nat.eq_zero_or_pos step with rfl | pos
  · simp [nearStep]
  · rw [nearStep, Nat.mul_add_div pos, Nat.div_eq_of_lt (Nat.div_lt_self pos (by decide)), Nat.add_zero, Nat.mul_comm]

theorem execFabricSetCredit_accepted {a b : W64} (h : Claimed s l 0x0D05 [p8 a, p8 b]) (size_low : 1024 ≤ a.toNat)
    (size_high : a.toNat ≤ 65536) (whole : a.toNat % 1024 = 0) (rate_high : b.toNat ≤ 46100000000000) :
    ∃ t, exec (.fabricSetCredit l a b) s = .next t ∧ Accepted s { s with fabric := { s.fabric with
      grantSize := a.toNat, mcRate := b.toNat, mcTok := s.mcNow, mcAt := s.up } } t l .done (layBody [p8 a, p8 b]) := by
  refine ⟨_, rfl, runLetter_accepted h fun _ _ => ?_⟩
  simp only [clampU_mem (w := 64) (by omega) size_low size_high,
    clampU_mem (w := 64) (by omega) (Nat.zero_le _) rate_high, qty_v_some, qty_c_some, nearStep_mul whole, ne_eq,
    not_true_eq_false, decide_false, Bool.or_self]
  rfl

theorem execFabricSetMcastVoq_joins {voq : W32} (h : Claimed s l 0x0D06 [p4 voq, p4 1])
    (ingress : isEgress voq.toNat = false) (present : (s.queue voq.toNat).present = true)
    (mine : s.queueOwner voq.toNat = l.slice.val) (unicast : (s.queue voq.toNat).mcast = false)
    (silent : (s.queue voq.toNat).on = false) : ∃ t, exec (.fabricSetMcastVoq l voq 1) s = .next t ∧
      Accepted s (s.setQueue voq.toNat { s.queue voq.toNat with mcast := true }) t l .done
        (layBody [p4 voq, p4 1]) := by
  refine ⟨_, rfl, runLetter_accepted h fun c hc => ?_⟩
  subst hc
  refine (checked_ok ?_).trans ?_
  · simp [malformed, noObj, Ctx.sl, ingress, present, mine]
  · simp only [unicast, silent, show (1 : W32) = 1#32 from rfl, decide_true, Bool.true_eq_false, Bool.false_eq_true,
      ↓reduceIte]
    rfl

theorem execFabricSetMgroup_accepted {mgid : W32} {queues : ListArg W32} {qs : List W32}
    (h : Claimed s l 0x0D07 [p4 mgid, pL queues]) (numbered : mgid.toNat ≤ 65535) (few : queues.count.toNat ≤ 64)
    (mine : s.owner 0x18 mgid.toNat = l.slice.val) (read : queues.items = some qs)
    (members : ∀ q ∈ qs, isEgress q.toNat = true ∧ (s.queue q.toNat).present = true ∧
      s.queueOwner q.toNat = l.slice.val) :
    ∃ t, exec (.fabricSetMgroup l mgid queues) s = .next t ∧ Accepted s { s with fabric := { s.fabric with
      mgroups := nset [] mgid.toNat (qs.map (·.toNat)) s.fabric.mgroups } } t l .done
      (layBody [p4 mgid, pL queues]) := by
  refine ⟨_, rfl, runLetter_accepted h fun c hc => ?_⟩
  subst hc
  refine (checked_ok ?_).trans ?_
  · simp [malformed, noObj, Ctx.sl, numbered, few, mine]
  · rw [withList, read]
    refine (checked_ok ?_).trans rfl
    have sound : ∀ q ∈ qs, isEgress q.toNat = true ∧ (s.queue q.toNat).present = true ∧ s.queueOwner q.toNat = c.sl :=
      members
    simpa [noObj, and_assoc] using sound

end

/-- Settles O35: a timer or a loss by its command's equation, a reach cell by how many in a row have then agreed, a
letter by its checks, which all pass. -/
theorem fabricLinksAndLetters : Obligations.FabricLinksAndLetters := by
  refine ⟨?aligned, ?down, ?downOther, ?reachTimeout, ?holdMax, ?retry, ?reachUp, ?reachFirst, ?reachSecond, ?miswired,
    ?miswiredAgain, ?reachRenew, ?reachChanged, ?ident, ?disabled, ?enable, ?disable, ?setTxEq, ?setTimers, ?setCredit,
    ?setMcast, ?setMgroup⟩
  case aligned => exact fun s link present aligning on clock => execLinkAligned_aligned present aligning on clock
  case down =>
    intro s link cause present up
    rw [exec_linkDown, execLinkDown_present present, if_pos up]
  case downOther =>
    intro s link cause present other
    rw [exec_linkDown, execLinkDown_present present, if_neg other]
  case reachTimeout => exact fun s link present up due => execReachTimeout_due present up due
  case holdMax => exact fun s link present up held due => execHoldMaxExpiry_due present up held due
  case retry => exact fun s link present down due => execLinkRetry_due present down due
  case reachUp =>
    intro s u link cell r present hears good reach hr hu ident here agrees enough
    subst hr hu
    have third := agreeing_next agrees (Nat.ne_of_gt (Nat.lt_of_lt_of_le Nat.zero_lt_two enough))
    rw [exec_reachReceive, execReachReceive_reach present (.inr hears) good reach,
      takeReach_third ident here (third ▸ Nat.succ_le_succ enough)]
  case reachFirst =>
    intro s u link cell r present hears good reach hr hu ident here first
    subst hr hu
    have one := agreeing_first first
    rw [exec_reachReceive, execReachReceive_reach present (.inr hears) good reach,
      takeReach_counts ident here (by rw [one]; decide), one]
  case reachSecond =>
    intro s u link cell r present hears good reach hr hu ident here agrees once
    subst hr hu
    have two := agreeing_next agrees (once ▸ Nat.one_ne_zero)
    rw [once] at two
    rw [exec_reachReceive, execReachReceive_reach present (.inr hears) good reach,
      takeReach_counts ident here (by rw [two]; decide), two]
  case miswired =>
    intro s u link cell r present hears good reach hr hu ident away unreported
    subst hr hu
    rw [exec_reachReceive, execReachReceive_reach present (.inr hears) good reach, takeReach_miswired ident away,
      unreported]
    rfl
  case miswiredAgain =>
    intro s u link cell r present hears good reach hr hu ident away reported
    subst hr hu
    rw [exec_reachReceive, execReachReceive_reach present (.inr hears) good reach, takeReach_miswired ident away,
      reported]
    rfl
  case reachRenew =>
    intro s u link cell r present hears good reach hr hu up here agrees
    subst hr hu
    rw [exec_reachReceive, execReachReceive_reach present (.inl hears) good reach, takeReach_renews up here agrees]
  case reachChanged =>
    intro s u link cell r present hears good reach hr hu up changed
    subst hr hu
    rw [exec_reachReceive, execReachReceive_reach present (.inl hears) good reach, takeReach_changed up changed]
  case ident => exact fun s link present kept due => execIdentSend_due present kept due
  case disabled =>
    intro s t u v link l present disabling placed sent ht hu hv
    subst ht hu hv
    exact execLinkDisableComplete_sent present disabling placed sent
  case enable =>
    exact fun s l n h numbered present zero idle off => execFabricEnableLink_off h numbered present zero idle off
  case disable =>
    exact fun s l n h numbered present zero idle on others =>
      execFabricDisableLink_on h numbered present zero idle on others
  case setTxEq =>
    exact fun s l n taps h numbered present zero fits => execFabricSetTxEq_accepted h numbered present zero fits
  case setTimers =>
    intro s l a b c d e h reasm_low reasm_high skew_low skew_high credit_low credit_high hold_low hold_high pack_high
    exact execFabricSetTimers_accepted h
      ⟨reasm_low, reasm_high, skew_low, skew_high, credit_low, credit_high, hold_low, hold_high, pack_high⟩
  case setCredit =>
    exact fun s l a b h size_low size_high whole rate_high =>
      execFabricSetCredit_accepted h size_low size_high whole rate_high
  case setMcast =>
    exact fun s l voq h ingress present mine unicast silent =>
      execFabricSetMcastVoq_joins h ingress present mine unicast silent
  case setMgroup =>
    exact fun s l mgid queues qs h numbered few mine read members =>
      execFabricSetMgroup_accepted h numbered few mine read members

end Sys2Proof.Machine

namespace Sys2Proof.Machine

/-! # Fabric cells: sent, received, resequenced, reassembled (08 R256-R290) -/

section
variable {s : State} {link : Fin 256} {cell : List Byte} {fecOk : Bool}

/-! ## Cell slots (08 R256, R257, R270, R281) -/

section
variable {i : Nat}

theorem sendSlot_within (few : (s.link i).slots < 4096) : s.sendSlot i cell = (s.setLink i { s.link i with
      slots := (s.link i).slots + 1, scrambler := (dataBlocks (s.link i).scrambler 10 cell).1 }).emit
      (.cell i cell (dataBlocks (s.link i).scrambler 10 cell).2) := by
  simp only [State.sendSlot, decide_eq_false (Nat.not_le.mpr few), Bool.false_eq_true, ↓reduceIte]

/-- After 4,096 slots the marker codeword goes first. -/
theorem sendSlot_marker (due : 4096 ≤ (s.link i).slots) : s.sendSlot i cell =
      ((s.emit (.marker i (markerBlocks i))).setLink i { s.link i with
        slots := 1, scrambler := (dataBlocks (s.link i).scrambler 10 cell).1 }).emit
        (.cell i cell (dataBlocks (s.link i).scrambler 10 cell).2) := by
  simp only [State.sendSlot, decide_eq_true due, ↓reduceIte]

end

theorem execCellSlotTransmit_control {c : ControlCell} {cs : List ControlCell} (present : s.hasLink link = true)
    (hears : s.hears link) (front : (s.link link).control = c :: cs) : execCellSlotTransmit link s =
      .next (((s.setLink link { s.link link with control := cs }).bump .fabCellsTx link).sendSlot
        link (c.bytes s.myId s.fabric.holdOut)) := by
  have on : (s.link link).st ≠ .off := by rcases hears with up | ident <;> simp [*]
  rw [execCellSlotTransmit, onLink_present present]
  simp only [on, front, ↓reduceIte]
  exact congrArg _ (if_pos hears)

theorem execCellSlotTransmit_data {c : TxCell} {cs : List TxCell} (present : s.hasLink link = true)
    (up : (s.link link).st = .up) (no_control : (s.link link).control = []) (front : (s.link link).waiting = c :: cs)
    (free : (s.link link).hold = false) : execCellSlotTransmit link s =
      .next ((((s.setLink link { s.link link with waiting := cs }).bump .fabCellsTx link).sendSlot
        link (c.bytes s.myId s.fabric.holdOut)).placeCells) := by
  rw [execCellSlotTransmit, onLink_present present]
  simp only [up, no_control, front, free, reduceCtorEq, Bool.false_eq_true, not_false_eq_true, and_self, ↓reduceIte]

/-- With no control cell, a link that is held or has no data cell sends an idle cell. -/
theorem execCellSlotTransmit_idle (present : s.hasLink link = true) (on : (s.link link).st ≠ .off)
    (no_control : (s.link link).control = []) (no_data : (s.link link).hold = true ∨ (s.link link).waiting = []) :
    execCellSlotTransmit link s = .next (s.sendSlot link (idleCell s.fabric.holdOut)) := by
  rw [execCellSlotTransmit, onLink_present present]
  simp only [on, no_control, ↓reduceIte]
  cases waits : (s.link link).waiting with
  | nil => rfl
  | cons c cs =>
    have held : (s.link link).hold = true := no_data.resolve_right (by simp [waits])
    exact congrArg _ (if_neg (by simp [held]))

theorem execCellSlotTransmit_off (present : s.hasLink link = true) (off : (s.link link).st = .off) :
    execCellSlotTransmit link s = .next s := by
  rw [execCellSlotTransmit, onLink_present present]
  exact congrArg _ (if_pos off)

/-! ## Packing (08 R268, R284) -/

theorem execPackWaitExpiry_due {stream : Fin 129} (open_ : (s.txStream stream).payload ≠ [])
    (due : (s.txStream stream).openAt + s.fabric.packWait ≤ s.up) :
    execPackWaitExpiry stream s = .next (s.closeCell stream) :=
  congrArg _ (if_pos ⟨open_, due⟩)

theorem execGrantCellClose_due {dst : Fin 128} {msgs : List (BitVec 128)} {t : Nat}
    (found : nfind s.fabric.credit dst.val = some (msgs, t)) (due : t + 50 ≤ s.up) : execGrantCellClose dst s =
      .next (State.sendControl { s with fabric := { s.fabric with credit := nerase dst.val s.fabric.credit } }
        (.credit dst msgs)) := by
  simp only [execGrantCellClose, State.closeCredit, found, due, ↓reduceIte]

/-! ## What a link makes of a cell, whatever the command that takes it (08 R263, R281, R288, R290) -/

theorem execRequestReceive_present {index : Fin 18} (present : s.hasLink link = true) :
    execRequestReceive link cell fecOk index s = .next
      (s.takeCredit link cell fecOk 1 index fun m s => s.takeRequest (cellSrc cell) (readRequest m)) :=
  onLink_present present

theorem execGrantReceive_present {index : Fin 18} (present : s.hasLink link = true) :
    execGrantReceive link cell fecOk index s = .next
      (s.takeCredit link cell fecOk 2 index fun m s => s.takeGrant (cellSrc cell) (readGrant m)) :=
  onLink_present present

/-- A loss event of the stream that a loss notice names. -/
def State.takeLoss (s : State) (src m : Nat) : State :=
  let k := 2 * src + b2n (bit m 61)
  let r := s.rxStream k
  s.setRx k { r with losses := s.up :: r.losses.filter fun t => s.up ≤ t + 2000000 }

theorem execLossNoticeReceive_present {index : Fin 18} (present : s.hasLink link = true) :
    execLossNoticeReceive link cell fecOk index s = .next
      (s.takeCredit link cell fecOk 3 index fun m s => s.takeLoss (cellSrc cell) m) :=
  onLink_present present

/-- What a message of a good credit cell does: one of the type that the command names, on an UP link, to this module,
from a source whose effective bit is set, is acted on. -/
def State.actOnCredit (s : State) (link : Nat) (cell : List Byte) (mtype index : Nat) (act : Nat → State → State) :
    State :=
  match creditOf mtype cell index with
  | none => s
  | some m =>
    if (s.link link).st ≠ .up then s
    else if cellDst cell ≠ s.myId then s.bump .fabMisrouted (cellSrc cell)
    else if s.effective (cellSrc cell) then act m s else s.bump .fabCtrlIneffective (cellSrc cell)

theorem takeCredit_hear {i mtype index : Nat} {act : Nat → State → State} :
    s.takeCredit i cell fecOk mtype index act =
      s.hear i cell fecOk (decide (index = 0)) fun s => s.actOnCredit i cell mtype index act :=
  rfl

/-- What the link does with a cell before the cell is acted on, it does for every command that takes a cell's first
message or the cell itself. -/
theorem receptions_of_hear {t : State} (rivals : List Rival) (present : s.hasLink link = true)
    (heard : ∀ act, s.hear link cell fecOk true act = t) :
    exec (.cellReceive link cell fecOk rivals) s = .next t ∧ exec (.reachReceive link cell fecOk) s = .next t ∧
      exec (.postcardReceive link cell fecOk) s = .next t ∧ exec (.requestReceive link cell fecOk 0) s = .next t ∧
      exec (.grantReceive link cell fecOk 0) s = .next t ∧ exec (.lossNoticeReceive link cell fecOk 0) s = .next t := by
  have taken : ∀ act, onLink s link (fun s => s.hear link cell fecOk true act) = .next t := fun act =>
    (onLink_present present).trans (congrArg _ (heard act))
  have credit : ∀ mtype act, s.takeCredit link cell fecOk mtype (0 : Fin 18) act = t := fun _ _ =>
    takeCredit_hear.trans (heard _)
  rw [exec_requestReceive, execRequestReceive_present present, exec_grantReceive, execGrantReceive_present present,
    exec_lossNoticeReceive, execLossNoticeReceive_present present]
  exact ⟨taken _, taken _, taken _, congrArg _ (credit 1 _), congrArg _ (credit 2 _), congrArg _ (credit 3 _)⟩

/-- A message behind the first of a bad cell does nothing: the first has done what the cell does. -/
theorem takeCredit_bad_later {index : Fin 18} {mtype : Nat} {act : Nat → State → State} (hears : s.hears link)
    (later : index ≠ 0) (bad : fecOk = false ∨ crcGood cell = false ∨ badHead cell = true) :
    s.takeCredit link cell fecOk mtype index act = s := by
  have not_once : decide (index.val = 0) = false := decide_eq_false fun zero => later (Fin.ext zero)
  rw [takeCredit_hear, hear_bad hears fecOk _ bad, if_pos not_once]

/-! ## Data cells (08 R273, R279, R290) -/

theorem execCellReceive_idle {rivals : List Rival} (present : s.hasLink link = true) (hears : s.hears link)
    (crc : crcGood cell = true) (head : badHead cell = false) (idle : cellType cell = 0) :
    execCellReceive link cell true rivals s = .next (s.takeHold link (cellHold cell)) := by
  rw [execCellReceive, onLink_present present, hear_idle hears crc head idle]

theorem execCellReceive_data {rivals : List Rival} (present : s.hasLink link = true) (up : (s.link link).st = .up)
    (good : GoodCell cell) (data : cellType cell ≤ 2) (still : ((s.heardCell link cell).link link).st = .up) :
    execCellReceive link cell true rivals s = .next ((s.heardCell link cell).takeData link (readCell cell) rivals) := by
  rw [execCellReceive, onLink_present present, hear_good (.inl up) good]
  exact congrArg _ (if_pos ⟨data, still⟩)

/-- A data cell is to the module: to all, or to it alone. -/
def Cell.isFor (c : Cell) (me : Nat) : Bool := c.multicast || decide (c.dst.toNat = me)

theorem isFor_iff {c : Cell} {me : Nat} : c.isFor me = true ↔ c.multicast = true ∨ c.dst.toNat = me := by
  rw [Cell.isFor, Bool.or_eq_true, decide_eq_true_eq]

/-- The stream of a data cell. -/
def Cell.key (c : Cell) : Nat := 2 * c.src.val + b2n c.multicast

section
variable {i : Nat} {c : Cell} {rivals : List Rival}

theorem takeData_misrouted (offset : c.badOffset = false) (fill : c.badFill = false) (other : c.isFor s.myId = false) :
    s.takeData i c rivals = s.bump .fabMisrouted c.src := by
  rw [Cell.isFor] at other
  simp only [State.takeData, offset, fill, other, Bool.false_eq_true, or_self, not_false_eq_true, ↓reduceIte]

theorem takeData_sound (offset : c.badOffset = false) (fill : c.badFill = false) (mine : c.isFor s.myId = true) :
    s.takeData i c rivals = if ¬ s.effective c.src then s.bump .fabSrcIneffective c.src
      else s.contest rivals fun s => s.resequence c.key c := by
  rw [Cell.isFor] at mine
  simp only [State.takeData, offset, fill, mine, Bool.false_eq_true, or_self, not_true_eq_false, ↓reduceIte, Cell.key]

/-- A field out of range is a loss event; a `fill` above 288 breaks the open packet of a stream that is taken. -/
theorem takeData_malformed (bad : c.badOffset = true ∨ c.badFill = true) : s.takeData i c rivals =
    (let t := (s.bump .fabMalformed i).lossEvent
    if 288 < c.fill.toNat ∧ c.isFor s.myId ∧ t.effective c.src ∧ (t.rxStream c.key).open_.isSome then t.badPacket c.key
    else t) := by
  exact if_pos bad

theorem badFill_of_above (above : 288 < c.fill.toNat) : c.badFill = true := by
  rw [Cell.badFill, decide_eq_true above, Bool.or_true]

theorem fill_le_of_not_badFill (fill : c.badFill = false) : c.fill.toNat ≤ 288 :=
  Nat.not_lt.mp fun above => Bool.false_ne_true (fill.symm.trans (badFill_of_above above))

end

/-! ## Resequencing (08 R273-R275, R282) -/

section
variable {k : Nat} {c : Cell}

/-- What a cell does to its stream once the stream has restarted if it had to. -/
theorem resequence_running (running : c.restart = false ∨ (s.rxStream k).restarted = true) : s.resequence k c =
    if offset (s.rxStream k).e c.seq.toNat = 0 then
      (((s.advance k ((s.rxStream k).e + 1)).takeCell k c).takeHeld k (s.rxStream k).held.length).updateHold
    else if 32768 ≤ offset (s.rxStream k).e c.seq.toNat then s.bump .fabWindow (k / 2)
    else if (s.rxStream k).held.any fun x => x.2.seq = c.seq then s.bump .fabDup (k / 2)
    else if 48 * 1048576 < (s.heldCells + 1) * 320 then (s.bump .fabStoreFull).lossEvent
    else (s.setRx k { s.rxStream k with
      held := insertHeld (s.rxStream k).e (s.up, c) (s.rxStream k).held }).updateHold := by
  have runs : ¬ (c.restart = true ∧ ¬ (s.rxStream k).restarted = true) := by
    rcases running with fresh | restarted <;> simp [*]
  simp only [State.resequence, if_neg runs]

/-- A cell ahead of the expected one is a copy, finds the store full, or is held. -/
theorem resequence_ahead (running : c.restart = false ∨ (s.rxStream k).restarted = true)
    (low : 1 ≤ offset (s.rxStream k).e c.seq.toNat) (high : offset (s.rxStream k).e c.seq.toNat ≤ 32767) :
    s.resequence k c =
      if (s.rxStream k).held.any fun x => x.2.seq = c.seq then s.bump .fabDup (k / 2)
      else if 48 * 1048576 < (s.heldCells + 1) * 320 then (s.bump .fabStoreFull).lossEvent
      else (s.setRx k { s.rxStream k with
        held := insertHeld (s.rxStream k).e (s.up, c) (s.rxStream k).held }).updateHold := by
  rw [resequence_running running, if_neg (by omega), if_neg (by omega)]

end

/-! ## Holes and packets that are not finished (08 R275, R278) -/

section
variable {src : Fin 128} {mc : Bool} {k : Nat}

/-- The arrival of the oldest of some held cells. -/
def oldestHeld (t0 : Nat) (rest : List (Nat × Cell)) : Nat := rest.foldl (fun t x => min t x.1) t0

/-- A loss event that can have made a stream's hole: within the skew limit of an arrival. -/
def State.lossNear (s : State) (k at_ : Nat) : Bool :=
  ((s.rxStream k).losses ++ s.fabric.losses).any fun t =>
    decide (at_ ≤ t + s.fabric.skewLimit) && decide (t ≤ at_ + s.fabric.skewLimit)

/-- The hole of a stream is passed with the packet it broke, and the cells behind it are taken. -/
def State.passHole (s : State) (k : Nat) (c : Cell) (behind : Nat) : State :=
  (((s.dropOpen k).advance k c.seq.toNat).takeHeld k (behind + 1)).updateHold

theorem execHoleLostExpiry_due {t0 : Nat} {c : Cell} {rest : List (Nat × Cell)} (hk : k = 2 * src.val + b2n mc)
    (held : (s.rxStream k).held = (t0, c) :: rest)
    (due : oldestHeld t0 rest + (if s.lossNear k (oldestHeld t0 rest) then s.fabric.skewLimit
      else s.fabric.reasmTimeout) ≤ s.up) : execHoleLostExpiry src mc s =
      .next ((s.bump (if s.lossNear k (oldestHeld t0 rest) then .fabHoleSkew else .fabHoleTimeout) src).passHole k c
        rest.length) := by
  subst hk
  simp only [execHoleLostExpiry, held]
  exact congrArg _ (if_pos due)

theorem execReassemblyTimeout_due {p : Partial} (found : (s.rxStream (2 * src.val + b2n mc)).open_ = some p)
    (due : p.since + s.fabric.reasmTimeout ≤ s.up) (unlinked : p.linked = false) : execReassemblyTimeout src mc s =
      .next ((s.bump .fabReasmTimeout src).dropOpen (2 * src.val + b2n mc)) := by
  simp only [execReassemblyTimeout, found, unlinked, Nat.not_lt.mpr due, Bool.false_eq_true, ↓reduceIte]

end

end

/-- Settles O36: a slot by what waits on its link, a cell by what its link makes of it and then by its stream, a hole or
an open packet by its age. That a credit cell does what the cell does with its first message alone is deduced
(notes/assumptions/161.md), and so is what a `fill` above 288 breaks (notes/assumptions/80.md). -/
theorem fabricCells : Obligations.FabricCells := by
  refine ⟨?slot, ?marker, ?control, ?data, ?held, ?idle, ?off, ?packWait, ?grantClose, ?rxFec, ?rxCrc, ?rxBad, ?rxIdle,
    ?rxMore, ?rxMisrouted, ?rxClear, ?rxTaken, ?rxOffset, ?rxFill, ?rxFillOther, ?reseqNext, ?reseqWindow, ?reseqHold,
    ?reseqDup, ?reseqFull, ?hole, ?holeSkew, ?reasmTimeout⟩
  case slot => exact fun s i cell few => sendSlot_within few
  case marker => exact fun s i cell due => sendSlot_marker due
  case control => exact fun s link c cs present hears front => execCellSlotTransmit_control present hears front
  case data =>
    exact fun s link c cs present up no_control front free => execCellSlotTransmit_data present up no_control front free
  case held =>
    exact fun s link present on no_control held => execCellSlotTransmit_idle present on no_control (.inl held)
  case idle =>
    exact fun s link present on no_control empty => execCellSlotTransmit_idle present on no_control (.inr empty)
  case off => exact fun s link present off => execCellSlotTransmit_off present off
  case packWait => exact fun s stream open_ due => execPackWaitExpiry_due open_ due
  case grantClose => exact fun s dst msgs t found due => execGrantCellClose_due found due
  case rxFec =>
    exact fun s link cell rivals present hears =>
      receptions_of_hear rivals present fun act => hear_bad hears false true (.inl rfl)
  case rxCrc =>
    intro s link cell rivals present hears crc
    refine receptions_of_hear rivals present fun act => ?_
    rw [hear_bad hears true true (.inr (.inl crc)), if_neg (by decide), if_neg (by decide), if_pos crc]
  case rxBad =>
    intro s link cell rivals present hears crc head
    refine receptions_of_hear rivals present fun act => ?_
    rw [hear_bad hears true true (.inr (.inr head)), if_neg (by decide), if_neg (by decide), if_neg (by simp [crc])]
  case rxIdle =>
    exact fun s link cell rivals present hears crc head idle => execCellReceive_idle present hears crc head idle
  case rxMore =>
    intro s link cell fecOk index present hears later bad
    rw [exec_requestReceive, execRequestReceive_present present, exec_grantReceive, execGrantReceive_present present,
      exec_lossNoticeReceive, execLossNoticeReceive_present present]
    simp only [takeCredit_bad_later hears later bad, and_self]
  case rxMisrouted =>
    intro s u link cell c rivals present up good data hu still hc offset fill unicast other
    subst hu hc
    rw [exec_cellReceive, execCellReceive_data present up good data still,
      takeData_misrouted offset fill (by simp [Cell.isFor, unicast, other])]
  case rxClear =>
    intro s u link cell c rivals present up good data hu still hc offset fill mine clear
    subst hu hc
    rw [exec_cellReceive, execCellReceive_data present up good data still,
      takeData_sound offset fill (isFor_iff.mpr mine), if_pos (by simp [clear])]
  case rxTaken =>
    intro s u link cell c rivals present up good data hu still hc offset fill mine set
    subst hu hc
    rw [exec_cellReceive, execCellReceive_data present up good data still,
      takeData_sound offset fill (isFor_iff.mpr mine), if_neg (by simp [set])]
    rfl
  case rxOffset =>
    intro s u link cell c rivals present up good data hu still hc offset fill
    subst hu hc
    rw [exec_cellReceive, execCellReceive_data present up good data still, takeData_malformed (.inl offset)]
    exact congrArg _ (if_neg fun ⟨above, _⟩ => Nat.not_lt.mpr (fill_le_of_not_badFill fill) above)
  case rxFill =>
    intro s u link cell c rivals present up good data hu still hc above mine set broken
    subst hu hc
    rw [exec_cellReceive, execCellReceive_data present up good data still,
      takeData_malformed (.inr (badFill_of_above above))]
    exact congrArg _ (if_pos ⟨above, isFor_iff.mpr mine, set, broken⟩)
  case rxFillOther =>
    intro s u link cell c rivals present up good data hu still hc fill unbroken
    subst hu hc
    rw [exec_cellReceive, execCellReceive_data present up good data still, takeData_malformed (.inr fill)]
    refine congrArg _ (if_neg fun ⟨above, _, _, broken⟩ => ?_)
    rcases unbroken with low | closed
    · exact Nat.not_lt.mpr low above
    · rw [Cell.key, closed] at broken
      exact Bool.false_ne_true broken
  case reseqNext =>
    intro s k c running next
    rw [resequence_running running, if_pos next]
  case reseqWindow =>
    intro s k c running behind
    rw [resequence_running running, if_neg (by omega), if_pos behind]
  case reseqHold =>
    intro s k c running low high new room
    rw [resequence_ahead running low high, new, if_neg Bool.false_ne_true, if_neg (Nat.not_lt.mpr room)]
  case reseqDup =>
    intro s k c running low high copy
    rw [resequence_ahead running low high, if_pos copy]
  case reseqFull =>
    intro s k c running low high new full
    rw [resequence_ahead running low high, new, if_neg Bool.false_ne_true, if_pos full]
  case hole =>
    intro s src mc t0 c rest k hk held lossless due
    have far : s.lossNear k (oldestHeld t0 rest) = false := lossless
    rw [exec_holeLostExpiry, execHoleLostExpiry_due hk held (by rw [far]; exact due), far]
    rfl
  case holeSkew =>
    intro s src mc t0 c rest k hk held lossy due
    have near : s.lossNear k (oldestHeld t0 rest) = true := lossy
    rw [exec_holeLostExpiry, execHoleLostExpiry_due hk held (by rw [near]; exact due), near]
    rfl
  case reasmTimeout => exact fun s src mc p found due unlinked => execReassemblyTimeout_due found due unlinked

end Sys2Proof.Machine

namespace Sys2Proof.Machine

/-! # Requests, grants, loss notices and the credit watchdog (08 R275, R283-R285, R288, R290) -/

section
variable {s u : State} {link : Fin 256} {cell : List Byte}

/-! ## A credit message on a link (08 R266, R288) -/

section
variable {i mtype index w : Nat} {act : Nat → State → State}

theorem actOnCredit_none (absent : creditOf mtype cell index = none) : s.actOnCredit i cell mtype index act = s := by
  simp only [State.actOnCredit, absent]

theorem actOnCredit_misrouted (message : creditOf mtype cell index = some w) (up : (s.link i).st = .up)
    (away : cellDst cell ≠ s.myId) : s.actOnCredit i cell mtype index act = s.bump .fabMisrouted (cellSrc cell) := by
  simp only [State.actOnCredit, message, up, ne_eq, not_true_eq_false, away, not_false_eq_true, ↓reduceIte]

theorem actOnCredit_ineffective (message : creditOf mtype cell index = some w) (up : (s.link i).st = .up)
    (here : cellDst cell = s.myId) (clear : s.effective (cellSrc cell) = false) :
    s.actOnCredit i cell mtype index act = s.bump .fabCtrlIneffective (cellSrc cell) := by
  simp only [State.actOnCredit, message, up, here, clear, ne_eq, not_true_eq_false, Bool.false_eq_true, ↓reduceIte]

end

/-- The first message of a good cell does what the cell does, and is then acted on as the others are. -/
theorem takeCredit_good {index : Fin 18} {mtype : Nat} {act : Nat → State → State} (hears : s.hears link)
    (good : GoodCell cell) : s.takeCredit link cell true mtype index act =
      (if index = 0 then s.heardCell link cell else s).actOnCredit link cell mtype index act := by
  rw [takeCredit_hear]
  by_cases first : index = 0
  · subst first
    exact hear_good hears good
  · have not_once : decide (index.val = 0) = false := decide_eq_false fun zero => first (Fin.ext zero)
    rw [not_once, hear_more hears good, if_neg first]

/-- A message that ends alike whatever it would do otherwise, ends so by each of the three commands. -/
theorem credits_of_actOnCredit {t : State} {index : Fin 18} (mtype : Nat → Prop) (present : s.hasLink link = true)
    (hears : s.hears link) (good : GoodCell cell) (settled : ∀ n act, mtype n →
      (if index = 0 then s.heardCell link cell else s).actOnCredit link cell n index act = t) :
    (mtype 1 → exec (.requestReceive link cell true index) s = .next t) ∧
      (mtype 2 → exec (.grantReceive link cell true index) s = .next t) ∧
      (mtype 3 → exec (.lossNoticeReceive link cell true index) s = .next t) := by
  rw [exec_requestReceive, execRequestReceive_present present, exec_grantReceive, execGrantReceive_present present,
    exec_lossNoticeReceive, execLossNoticeReceive_present present]
  simp only [takeCredit_good hears good]
  exact ⟨fun one => congrArg _ (settled 1 _ one), fun two => congrArg _ (settled 2 _ two),
    fun three => congrArg _ (settled 3 _ three)⟩

section
variable {index : Fin 18} {w : Nat}

theorem hasLink_of_creditFrom {mtype : Nat} (credit : CreditFrom s u link cell index mtype w) :
    s.hasLink link = true :=
  credit.1

theorem execRequestReceive_acts (credit : CreditFrom s u link cell index 1 w) :
    exec (.requestReceive link cell true index) s = .next (u.takeRequest (cellSrc cell) (readRequest w)) :=
  (execRequestReceive_present (hasLink_of_creditFrom credit)).trans (congrArg _ (takeCredit_of credit))

theorem execGrantReceive_acts (credit : CreditFrom s u link cell index 2 w) :
    exec (.grantReceive link cell true index) s = .next (u.takeGrant (cellSrc cell) (readGrant w)) :=
  (execGrantReceive_present (hasLink_of_creditFrom credit)).trans (congrArg _ (takeCredit_of credit))

theorem execLossNoticeReceive_acts (credit : CreditFrom s u link cell index 3 w) :
    exec (.lossNoticeReceive link cell true index) s = .next (u.takeLoss (cellSrc cell) w) :=
  (execLossNoticeReceive_present (hasLink_of_creditFrom credit)).trans (congrArg _ (takeCredit_of credit))

end

/-! ## Requests (08 R283, R290) -/

section
variable {src : Nat} {m : RequestMsg}

/-- The arbiter's entry that a request asks for. -/
def State.putRequest (s : State) (src : Nat) (m : RequestMsg) : State :=
  { s with queues := { s.queues with
    arb := aput (src, m.voq.toNat) ⟨m.port.toNat, m.cls.toNat, m.reqSeq⟩ s.queues.arb } }

/-- A request is valid: its RSV bits are zero and the variant has its port. -/
def State.validRequest (s : State) (m : RequestMsg) : Prop := m.rsvOk = true ∧ m.port.toNat < s.variant.lanes

theorem takeRequest_invalid (bad : m.rsvOk = false ∨ s.variant.lanes ≤ m.port.toNat) :
    s.takeRequest src m = s.bump .arbReqInvalid m.port.toNat :=
  if_pos (by simpa using bad)

/-- A request for a VOQ that has an entry acts when it is newer: it renews the entry or takes it away. -/
theorem takeRequest_known {e : ArbEntry} (valid : s.validRequest m)
    (known : afind s.queues.arb (src, m.voq.toNat) = some e) : s.takeRequest src m =
      if ¬ epochNewer m.reqSeq e.reqSeq then s.bump .arbReqStale m.port.toNat
      else if m.on then s.putRequest src m
      else { s with queues := { s.queues with arb := aerase (src, m.voq.toNat) s.queues.arb } } := by
  obtain ⟨rsv, port⟩ := valid
  simp only [State.takeRequest, rsv, Nat.not_le.mpr port, known, not_true_eq_false, or_self, ↓reduceIte]
  rfl

/-- A request ON for a VOQ without an entry takes one, if the arbiter has room. -/
theorem takeRequest_new (valid : s.validRequest m) (new : afind s.queues.arb (src, m.voq.toNat) = none) :
    s.takeRequest src m = if ¬ m.on then s
      else if 131072 ≤ s.queues.arb.length then s.bump .arbTableFull m.port.toNat else s.putRequest src m := by
  obtain ⟨rsv, port⟩ := valid
  simp only [State.takeRequest, rsv, Nat.not_le.mpr port, new, not_true_eq_false, or_self, ↓reduceIte]
  rfl

end

/-! ## Grants (08 R284, R290) -/

section
variable {src : Nat} {m : GrantMsg}

/-- A VOQ is the one that a grant of a module names. -/
structure Queue.Grants (v : Queue) (src : Nat) (m : GrantMsg) : Prop where
  present : v.present = true
  unicast : v.mcast = false
  destModule : v.destModule = src
  destPort : v.destPort = m.port.toNat
  cls : v.cls = m.cls.toNat

/-- The VOQ has the credit that its balance then shows, and may send when it is above 0. -/
def State.credit (s : State) (q : Nat) (balance : Int) : State :=
  let t := s.setQueue q { s.queue q with balance := balance, grantAt := s.up }
  if 0 < balance ∧ q ∉ t.queues.credited then
    { t with queues := { t.queues with credited := t.queues.credited ++ [q] } } else t

theorem takeGrant_credits (named : (s.queue m.voq.toNat).Grants src m) (waits : (s.queue m.voq.toNat).packets ≠ [])
    (below_cap : (s.queue m.voq.toNat).balance + Int.ofNat m.bytes.toNat ≤ Int.ofNat (2 * s.fabric.grantSize)) :
    s.takeGrant src m = s.credit m.voq.toNat ((s.queue m.voq.toNat).balance + Int.ofNat m.bytes.toNat) := by
  obtain ⟨present, unicast, destModule, destPort, cls⟩ := named
  refine (if_neg (by simp [present, unicast, destModule, destPort, cls])).trans ?_
  simp only [Int.min_eq_right below_cap]
  exact if_pos ⟨waits, trivial⟩

theorem takeGrant_invalid (other : (s.queue m.voq.toNat).present = false ∨ (s.queue m.voq.toNat).mcast = true ∨
    (s.queue m.voq.toNat).destModule ≠ src ∨ (s.queue m.voq.toNat).destPort ≠ m.port.toNat ∨
    (s.queue m.voq.toNat).cls ≠ m.cls.toNat) : s.takeGrant src m =
      ((s.sparse 0x0F m.voq.toNat).badGrant src).offAgain m.voq.toNat src m.port.toNat m.cls.toNat :=
  if_pos (by simpa using other)

end

/-! ## The credit watchdog (08 R285) -/

theorem execCreditWatchdog_due {voq : BitVec 17} (on : (s.queue voq.toNat).on = true)
    (unicast : (s.queue voq.toNat).mcast = false) (waits : (s.queue voq.toNat).packets ≠ [])
    (due : (s.queue voq.toNat).grantAt + s.fabric.creditWd ≤ s.up)
    (reachable : s.effective (s.queue voq.toNat).destModule = true) :
    execCreditWatchdog voq s = .next ((s.sparse 0x0D voq.toNat).voqRequest voq.toNat true) :=
  congrArg _ (if_pos ⟨on, by simp [unicast], waits, due, reachable⟩)

end

/-- Settles O37: a message by what it finds: the arbiter's entry of its VOQ, the VOQ that it grants, or a link, a module
or a source that ends it. That each message of a credit cell is a command, of which the first does what the cell does,
and what a grant does at the cap and to another VOQ, are deduced (notes/assumptions/161.md, 78.md). -/
theorem creditConversation : Obligations.CreditConversation := by
  refine ⟨?request, ?requestNone, ?requestNewer, ?requestStale, ?requestFull, ?requestBad, ?clear, ?misrouted, ?grant,
    ?grantInvalid, ?loss, ?none, ?watchdog⟩
  case request =>
    intro s u link cell index w m credit hm rsv port on new room
    subst hm
    rw [execRequestReceive_acts credit, takeRequest_new ⟨rsv, port⟩ new, if_neg (by simp [on]),
      if_neg (Nat.not_le.mpr room)]
    rfl
  case requestNone =>
    intro s u link cell index w m credit hm rsv port off new
    subst hm
    rw [execRequestReceive_acts credit, takeRequest_new ⟨rsv, port⟩ new, if_pos (by simp [off])]
  case requestNewer =>
    intro s u link cell index w m e credit hm rsv port known newer
    subst hm
    rw [execRequestReceive_acts credit, takeRequest_known ⟨rsv, port⟩ known, if_neg (by simp [newer])]
    cases (readRequest w).on <;> rfl
  case requestStale =>
    intro s u link cell index w m e credit hm rsv port known stale
    subst hm
    rw [execRequestReceive_acts credit, takeRequest_known ⟨rsv, port⟩ known, if_pos (by simp [stale])]
  case requestFull =>
    intro s u link cell index w m credit hm rsv port on new full
    subst hm
    rw [execRequestReceive_acts credit, takeRequest_new ⟨rsv, port⟩ new, if_neg (by simp [on]), if_pos full]
  case requestBad =>
    intro s u link cell index w m credit hm bad
    subst hm
    rw [execRequestReceive_acts credit, takeRequest_invalid bad]
  case clear =>
    intro s u link cell w present up good hu still here clear
    subst hu
    exact credits_of_actOnCredit (creditOf · cell 0 = some w) (index := 0) present (.inl up) good
      fun n act message => actOnCredit_ineffective message still here clear
  case misrouted =>
    intro s u link cell w present up good hu still away
    subst hu
    exact credits_of_actOnCredit (creditOf · cell 0 = some w) (index := 0) present (.inl up) good
      fun n act message => actOnCredit_misrouted message still away
  case grant =>
    intro s u link cell index w m q credit hm hq present unicast destModule destPort cls waits below_cap
    subst hm hq
    rw [execGrantReceive_acts credit,
      takeGrant_credits ⟨present, unicast, destModule, destPort, cls⟩ waits below_cap]
    rfl
  case grantInvalid =>
    intro s u link cell index w m q credit hm hq other
    subst hm hq
    rw [execGrantReceive_acts credit, takeGrant_invalid other]
  case loss => exact fun s u link cell index w credit => execLossNoticeReceive_acts credit
  case none =>
    intro s u link cell index present hears good hu
    subst hu
    exact credits_of_actOnCredit (creditOf · cell index = none) present hears good
      fun n act absent => actOnCredit_none absent
  case watchdog =>
    intro s voq v hv on unicast waits due reachable
    subst hv
    exact execCreditWatchdog_due on unicast waits due reachable

end Sys2Proof.Machine

namespace Sys2Proof.Machine

/-! # The deep tier's command slots, panic reads and refresh (09 R297-R300, R309, R311) -/

section
variable {s : State}

/-! ## The request that a direction serves, and the direction (09 R297, R298) -/

section
variable {v : Pch} {l rs : List Request} {r q : Request}

theorem pickFrom_aged (oldest : l.filter v.eligible = r :: rs) (aged : r.at_ + 10000 < s.up) :
    s.pickFrom v l = some r := by
  rw [State.pickFrom, oldest]
  exact if_pos aged

theorem pickFrom_hit (oldest : l.filter v.eligible = r :: rs) (young : s.up ≤ r.at_ + 10000)
    (hit : (r :: rs).find? v.hits = some q) : s.pickFrom v l = some q := by
  simp only [State.pickFrom, oldest, List.head?_cons, if_neg (Nat.not_lt.mpr young), hit, Option.getD_some]

/-- In read mode 24 queued writes turn the direction. -/
theorem direction_many_writes (reading : v.writeMode = false) (many : 24 ≤ v.writes.length) : v.direction = true := by
  simp [Pch.direction, reading, many]

/-- In write mode a read turns the direction once 8 writes are left. -/
theorem direction_few_writes (writing : v.writeMode = true) (few : v.writes.length ≤ 8) (waits : v.reads ≠ []) :
    v.direction = false := by
  simp [Pch.direction, writing, few, waits]

theorem direction_keeps_writing (writing : v.writeMode = true) (more : 8 < v.writes.length) : v.direction = true := by
  have some_writes : v.writes ≠ [] := List.ne_nil_of_length_pos (Nat.zero_lt_of_lt more)
  simp [Pch.direction, writing, Nat.not_le.mpr more, some_writes]

end

/-! ## A command slot (09 R297-R301, R309, R311) -/

section
variable {c : Fin 512} {o : ReadOutcome}

/-- A pseudo-channel that serves, of a stack that is awake, issues something in its slots. -/
theorem slot_issues (serves : (s.pch c).st = .open_ ∨ (s.pch c).st = .fenced ∨ (s.pch c).st = .draining)
    (awake : (s.stack (c / 64)).asleep = false) : ¬ ((s.pch c).st = .offline ∨ (s.pch c).st = .training ∨
      (s.pch c).st = .failed ∨ (s.stack (c / 64)).asleep = true) := by
  rcases serves with st | st | st <;> simp [st, awake]

section
variable (here : c.val < 64 * s.variant.hbmStacks)
include here

theorem execHbmCommandSlot_offline (off : (s.pch c).st = .offline) : execHbmCommandSlot c o s = .next s := by
  rw [execHbmCommandSlot, onUnit_present (decide_eq_true here)]
  exact congrArg _ (if_pos (.inl off))

section
variable (serves : (s.pch c).st = .open_ ∨ (s.pch c).st = .fenced ∨ (s.pch c).st = .draining)
  (awake : (s.stack (c / 64)).asleep = false)
include serves awake

/-- A refresh that was postponed 8 times goes before all else. -/
theorem execHbmCommandSlot_forced {e : Nat × Nat} (overdue : (s.pch c).postponed.find? (fun e => 8 ≤ e.2) = some e) :
    execHbmCommandSlot c o s = .next (((s.setPch c { s.pch c with
      postponed := nset 0 e.1 (e.2 - 1) (s.pch c).postponed, rows := nerase e.1 (s.pch c).rows }).bump
      .hbmRefreshForced (c / 64)).afterSlot c) := by
  rw [execHbmCommandSlot, onUnit_present (decide_eq_true here)]
  refine congrArg _ ((if_neg (slot_issues serves awake)).trans ?_)
  simp only [overdue]

section
variable (none_overdue : (s.pch c).postponed.find? (fun e => 8 ≤ e.2) = none)
include none_overdue

theorem execHbmCommandSlot_panic {r : Request}
    (panics : (s.pch c).reads.find? (fun r => r.panic && (s.pch c).eligible r) = some r) :
    execHbmCommandSlot c o s = .next ((s.serve c r o).afterSlot c) := by
  rw [execHbmCommandSlot, onUnit_present (decide_eq_true here)]
  refine congrArg _ ((if_neg (slot_issues serves awake)).trans ?_)
  simp only [none_overdue, panics]

section
variable (calm : (s.pch c).reads.find? (fun r => r.panic && (s.pch c).eligible r) = none)
include calm

theorem execHbmCommandSlot_neighbour (nbr : (s.pch c).nbrForced = true) : execHbmCommandSlot c o s =
    .next ((s.issueNbr c fun x => decide ((s.pch c).nbr.head? = some x)).afterSlot c) := by
  rw [execHbmCommandSlot, onUnit_present (decide_eq_true here)]
  refine congrArg _ ((if_neg (slot_issues serves awake)).trans ?_)
  simp only [none_overdue, calm, nbr, ↓reduceIte]

theorem execHbmCommandSlot_serve {r : Request} (no_nbr : (s.pch c).nbrForced = false)
    (first : s.pickFrom (s.pch c) (if (s.pch c).direction then (s.pch c).writes else (s.pch c).reads) = some r) :
    execHbmCommandSlot c o s = .next ((s.serve c r o).afterSlot c) := by
  rw [execHbmCommandSlot, onUnit_present (decide_eq_true here)]
  refine congrArg _ ((if_neg (slot_issues serves awake)).trans ?_)
  simp only [none_overdue, calm, no_nbr, Bool.false_eq_true, first, Option.some_or, ↓reduceIte]

end
end
end
end
end

/-! ## Panic reads and refresh (09 R299, R300, R309, R311) -/

section
variable {c : Fin 512} (here : c.val < 64 * s.variant.hbmStacks)

include here in
theorem execPanicReadExpiry_late (late : ((s.pch c).reads.filter fun r =>
      r.realTime && !r.panic && decide (r.at_ + s.hbm.panicNs < s.up)).length ≠ 0) :
    execPanicReadExpiry c s = .next ((s.setPch c { s.pch c with
      reads := (s.pch c).reads.map fun r => if r.realTime && !r.panic && decide (r.at_ + s.hbm.panicNs < s.up) then
        { r with panic := true } else r }).bump .hbmPanic (c / 64) 0
      ((s.pch c).reads.filter fun r => r.realTime && !r.panic && decide (r.at_ + s.hbm.panicNs < s.up)).length) := by
  rw [execPanicReadExpiry, onUnit_present (decide_eq_true here)]
  exact congrArg _ (if_neg late)

section
variable {bank : Fin 64}
  (due : nget 0 (s.pch c).refreshAt bank + Config.refreshInterval (s.stackTemp (c / 64)) ≤ s.up)
  (awake : (s.stack (c / 64)).asleep = false)
include due awake

/-- A refresh is due in a stack that is awake. -/
theorem refresh_due : ¬ (s.up < nget 0 (s.pch c).refreshAt bank + Config.refreshInterval (s.stackTemp (c / 64)) ∨
    (s.stack (c / 64)).asleep = true) := by
  simp [Nat.not_lt.mpr due, awake]

include here

theorem execRefreshDue_idle (idle : (s.pch c).bankBusy bank = false) (on : (s.pch c).st ≠ .offline) :
    execRefreshDue c bank s = .next (s.setPch c { s.pch c with
      refreshAt := nput bank.val s.up (s.pch c).refreshAt, rows := nerase bank.val (s.pch c).rows }) := by
  rw [execRefreshDue, onUnit_present (decide_eq_true here)]
  refine congrArg _ ((if_neg (refresh_due due awake)).trans (if_neg ?_))
  rintro (busy | off)
  · exact Bool.false_ne_true (idle.symm.trans busy)
  · exact on off

theorem execRefreshDue_offline (off : (s.pch c).st = .offline) : execRefreshDue c bank s = .next (s.setPch c { s.pch c with
    refreshAt := nput bank.val s.up (s.pch c).refreshAt,
    postponed := nput bank.val (min 8 (nget 0 (s.pch c).postponed bank + 1)) (s.pch c).postponed }) := by
  rw [execRefreshDue, onUnit_present (decide_eq_true here)]
  exact congrArg _ ((if_neg (refresh_due due awake)).trans (if_pos (.inr off)))

end
end
end

/-- Settles O38: a slot by what is first in its order, a read and a refresh by whether it is due. The order of requests,
and that a due refresh of a pseudo-channel off line is postponed and counted up to 8, are deduced
(notes/assumptions/64.md, 146.md). -/
theorem deepTierRequests : Obligations.DeepTierRequests := by
  refine ⟨?forced, ?panic, ?neighbour, ?serve, ?offline, ?pickAged, ?pickHit, ?direction, ?panicExpiry, ?refresh,
    ?refreshPostponed⟩
  case forced =>
    exact fun s c o e here serves awake overdue => execHbmCommandSlot_forced here serves awake overdue
  case panic =>
    exact fun s c o r here serves awake none_overdue panics =>
      execHbmCommandSlot_panic here serves awake none_overdue panics
  case neighbour =>
    exact fun s c o here serves awake none_overdue calm nbr =>
      execHbmCommandSlot_neighbour here serves awake none_overdue calm nbr
  case serve =>
    exact fun s c o r here serves awake none_overdue calm no_nbr first =>
      execHbmCommandSlot_serve here serves awake none_overdue calm no_nbr first
  case offline => exact fun s c o here off => execHbmCommandSlot_offline here off
  case pickAged => exact fun s v l r rs oldest aged => pickFrom_aged oldest aged
  case pickHit => exact fun s v l r q rs oldest young hit => pickFrom_hit oldest young hit
  case direction =>
    exact fun v => ⟨direction_many_writes, direction_few_writes, direction_keeps_writing⟩
  case panicExpiry => exact fun s c here late => execPanicReadExpiry_late here late
  case refresh => exact fun s c bank here due awake idle on => execRefreshDue_idle here due awake idle on
  case refreshPostponed => exact fun s c bank here due awake off => execRefreshDue_offline here due awake off

end Sys2Proof.Machine

namespace Sys2Proof.Machine

/-! # Training, retraining under traffic, self-refresh and draining of the deep tier (09 R303-R312) -/

/-! ## What training and a window make of lanes and pseudo-channels (09 R303, R304, R307, R308) -/

/-- The pseudo-channels of a stack that are in training end it in turn; the repairs that they made come with them. -/
def State.trainStack (s : State) (i : Nat) (lanes : List LaneSweep) : State × List (Nat × Nat) :=
  ((stackPchs i).filter fun c => (s.pch c).st = .training).foldl (fun acc c =>
    ((acc.1.trainPch c lanes).1, acc.2 ++ (acc.1.trainPch c lanes).2)) (s, [])

/-- What the four lanes of a pseudo-channel make of the positions that passed: their new centres, if they have any. -/
def State.windowResults (s : State) (c : Nat) (lanes : List LaneEdges) : List (Nat × Option Lane) :=
  ((List.range 4).zip lanes).map fun e => (4 * c + e.1, edgesResult e.2 (nget {} s.hbm.lanes (4 * c + e.1)))

/-- The lanes that have new centres take them. -/
def State.putLanes (s : State) (res : List (Nat × Option Lane)) : State :=
  res.foldl (fun t e => match e.2 with
    | some r => { t with hbm := { t.hbm with lanes := nset {} e.1 r t.hbm.lanes } }
    | none => t) s

/-- The stack's window is over. -/
def State.freeWindow (s : State) (i : Nat) : State := s.setStack i { s.stack i with window := none, idleSince := s.up }

/-- A pseudo-channel whose window ends now. -/
def State.windowed (s : State) (i c : Nat) (st : PchSt) : Pch :=
  { s.pch c with windowAt := s.up, windowTemp := (s.freeWindow i).stackTemp i, first := false, st := st }

section
variable {s : State} {st : Fin 8} (here : st.val < s.variant.hbmStacks)
include here

/-! ## Training (09 R303, R304) -/

/-- A stack that is active keeps its turn. -/
theorem execHbmTraining_active {lanes : List LaneSweep} (enabled : (s.stack st).enabled = true)
    (powered : s.domain (89 + st.val) = true)
    (active : (((s.trainStack st lanes).1.recordRepairs (s.trainStack st lanes).2).stack st).active = true) :
    execHbmTraining st lanes s = .next ((s.trainStack st lanes).1.recordRepairs (s.trainStack st lanes).2) := by
  rw [execHbmTraining, onUnit_present (decide_eq_true here)]
  exact congrArg _ ((if_neg (by simp [enabled, powered])).trans (if_pos (.inl active)))

theorem execHbmTraining_disabled {lanes : List LaneSweep} (disabled : (s.stack st).enabled = false) :
    execHbmTraining st lanes s = .next s := by
  rw [execHbmTraining, onUnit_present (decide_eq_true here)]
  exact congrArg _ (if_pos (.inl (by simp [disabled])))

/-! ## The retraining window (09 R306-R308, R311, R312) -/

theorem execRetrainFence_turn {c : Nat} (active : (s.stack st).active = true) (enabled : (s.stack st).enabled = true)
    (idle : (s.stack st).window = none) (due : (s.stack st).nextWindow ≤ s.up + 20000) (turn : s.nextTurn st = some c) :
    execRetrainFence st s = .next ((s.setPch c { s.pch c with st := .fenced }).setStack st { s.stack st with
      window := some ⟨c, s.up + 20000⟩, nextWindow := s.up + 20000 + s.hbm.retrainPeriod / 64 }) := by
  rw [execRetrainFence, onUnit_present (decide_eq_true here)]
  refine congrArg _ ((if_neg (by simp [active, enabled, idle, due])).trans ?_)
  simp only [turn]

section
variable {w : Window} (window : (s.stack st).window = some w)
include window

/-- A fence whose time has come ends: the stack is asleep, the pseudo-channel goes off line, or the window slips. -/
theorem execRetrainWindowStart_due (fenced : (s.pch w.pch).st = .fenced) (due : w.tw ≤ s.up) :
    execRetrainWindowStart st s = .next (
    if (s.stack st).asleep then (s.slipWindow w.pch true).startDrain st
    else if (s.pch w.pch).quiet ∧ s.buffers.writeBehind.all fun e => e.1 ≠ w.pch then
      s.setPch w.pch { s.pch w.pch with st := .offline, rows := [] }
    else if w.tw + 20000 ≤ s.up then (s.slipWindow w.pch false).startDrain st
    else s) := by
  rw [execRetrainWindowStart, onUnit_present (decide_eq_true here)]
  simp only [window]
  exact congrArg _ (if_neg (by simp [fenced, due]))

section
variable {lanes : List LaneEdges}

variable (off : (s.pch w.pch).st = .offline) (four : lanes.length = 4) (stays : (s.pch w.pch).drainAfter = false)
include off four stays

/-- A window ends: the pseudo-channel serves again with its new centres, or drains when a lane has none. -/
theorem execRetrainWindowEnd_ends : execRetrainWindowEnd st lanes s = .next (
    (if (s.windowResults w.pch lanes).all fun e => e.2.isSome then
      (((s.freeWindow st).putLanes (s.windowResults w.pch lanes)).setPch w.pch (s.windowed st w.pch .open_)).bump
        .hbmRetrain w.pch
    else ((s.freeWindow st).setPch w.pch (s.windowed st w.pch .draining)).condition 0x0903 w.pch true).startDrain
      st) := by
  rw [execRetrainWindowEnd, onUnit_present (decide_eq_true here)]
  simp only [window]
  exact congrArg _ ((if_neg (by simp [off, four])).trans (congrArg (State.startDrain · st) (if_neg (by simp [stays]))))

end
end

theorem execRetrainWindowEnd_none {lanes : List LaneEdges} (none_open : (s.stack st).window = none) :
    execRetrainWindowEnd st lanes s = .next s := by
  rw [execRetrainWindowEnd, onUnit_present (decide_eq_true here)]
  simp only [none_open]

/-! ## Self-refresh (09 R309, R310) -/

theorem execSelfRefreshEntry_idle {u : State} (on : s.hbm.srIdle ≠ 0) (active : (s.stack st).active = true)
    (awake : (s.stack st).asleep = false) (idle : s.stackIdle st = true)
    (due : (s.stack st).idleSince + s.hbm.srIdle ≤ s.up)
    (online : ((stackPchs st).any fun c => (s.pch c).st = .offline) = false)
    (hu : u = (stackPchs st).foldl (fun s c => s.issueNbr c fun _ => true) s) : execSelfRefreshEntry st s =
      .next ((u.setStack st { s.stack st with asleep := true, asleepAt := u.up }).bump .hbmSrEntries st) := by
  rw [execSelfRefreshEntry, onUnit_present (decide_eq_true here), hu]
  refine congrArg _ (if_neg ?_)
  rw [online]
  simp [on, active, awake, idle, due]

theorem execSelfRefreshEntry_off (off : s.hbm.srIdle = 0) : execSelfRefreshEntry st s = .next s := by
  rw [execSelfRefreshEntry, onUnit_present (decide_eq_true here)]
  exact congrArg _ (if_pos (.inl off))

theorem execSelfRefreshExit_request {r : Request} {rs : List Request} (asleep : (s.stack st).asleep = true)
    (waits : ((stackPchs st).flatMap fun c => (s.pch c).queued) = r :: rs) : execSelfRefreshExit st s =
      .next (((s.setStack st { s.stack st with asleep := false, idleSince := s.up }).bump .hbmSrNs st 0 1
        (s.up - (s.stack st).asleepAt)).bump .hbmSrExitNs st 0 1 (s.up - rs.foldl (fun n q => min n q.at_) r.at_)) := by
  rw [execSelfRefreshExit, onUnit_present (decide_eq_true here)]
  simp only [waits]
  exact congrArg _ (if_neg (not_not_intro asleep))

theorem execSelfRefreshExit_quiet (quiet : ((stackPchs st).flatMap fun c => (s.pch c).queued) = []) :
    execSelfRefreshExit st s = .next s := by
  rw [execSelfRefreshExit, onUnit_present (decide_eq_true here)]
  simp only [quiet]

/-! ## Draining (09 R305, R312) -/

theorem execStackDrainComplete_drained {l : LetterId} (draining : (s.stack st).draining = true)
    (idle : (s.stack st).window = none)
    (drained : ∀ c ∈ stackPchs st, s.pchDrained c = true ∨ (s.pch c).st = .failed ∧ s.pchInUse c = false)
    (waits : (s.stack st).disable = some l) : execStackDrainComplete st s =
      .next (((((stackPchs st).foldl (fun s c => s.setPch c (s.pch c).off) s).setStack st { s.stack st with
        active := false, asleep := false, draining := false, disable := none }).askDomain (89 + st.val) false).release
        l) := by
  have all_done : ((stackPchs st).all fun c =>
      s.pchDrained c || (decide ((s.pch c).st = .failed) && !s.pchInUse c)) = true := by
    simpa using drained
  rw [execStackDrainComplete, onUnit_present (decide_eq_true here)]
  simp only [all_done, draining, idle, waits, ne_eq, not_true_eq_false, or_self, ↓reduceIte]
  rfl

end

theorem execPchDrained_present {s : State} {c : Fin 512} (here : c.val < 64 * s.variant.hbmStacks) :
    execPchDrained c s =
      .next (if s.pchDrained c then s.setPch c { s.pch c with st := .failed, rows := [] } else s) := by
  rw [execPchDrained, onUnit_present (decide_eq_true here)]

theorem pchDrained_iff {s : State} {i : Nat} : s.pchDrained i = true ↔ (s.pch i).st = .draining ∧
    s.pchInUse i = false ∧ (s.pch i).quiet = true ∧ ∀ e ∈ s.buffers.writeBehind, e.1 ≠ i := by
  simp [State.pchDrained, and_assoc]

/-- Settles O39: each clause by the equation of its command that its conditions select. What training records of a
repair, that a command ends its training or window and fails a lane whose new centre is out of range, how a pseudo-channel
drains, and that a queued request alone wakes a stack, is deduced or the model's choice (notes/assumptions/63.md, 66.md,
67.md, 56.md). -/
theorem deepTierTrainingSleepAndDrain : Obligations.DeepTierTrainingSleepAndDrain := by
  refine ⟨?training, ?trainOff, ?fence, ?windowStart, ?windowSlip, ?windowAsleep, ?windowEndNone, ?windowEnd,
    ?windowFails, ?srEntry, ?srOff, ?srExit, ?srNoRequest, ?pchDrained, ?pchDrainedMeans, ?pchInUse, ?stackDrained⟩
  case training =>
    intro s st lanes r here enabled powered _ hr active
    subst hr
    exact execHbmTraining_active here enabled powered active
  case trainOff => exact fun s st lanes here disabled => execHbmTraining_disabled here disabled
  case fence =>
    exact fun s st c here active enabled idle due turn => execRetrainFence_turn here active enabled idle due turn
  case windowStart =>
    intro s st w here window fenced due awake quiet written
    rw [exec_retrainWindowStart, execRetrainWindowStart_due here window fenced due, awake, if_neg Bool.false_ne_true,
      if_pos ⟨quiet, written⟩]
  case windowSlip =>
    intro s st w here window fenced late awake busy
    rw [exec_retrainWindowStart, execRetrainWindowStart_due here window fenced (by omega), awake,
      if_neg Bool.false_ne_true, if_neg (by simp [busy]), if_pos late]
  case windowAsleep =>
    intro s st w here window fenced due asleep
    rw [exec_retrainWindowStart, execRetrainWindowStart_due here window fenced due, if_pos asleep]
  case windowEndNone => exact fun s st lanes here none_open => execRetrainWindowEnd_none here none_open
  case windowEnd =>
    intro s u st lanes w res here window off four stays hres passed hu
    obtain rfl : res = s.windowResults w.pch lanes := hres
    subst hu
    rw [exec_retrainWindowEnd, execRetrainWindowEnd_ends here window off four stays, if_pos passed]
    rfl
  case windowFails =>
    intro s u st lanes w res here window off four stays hres failed hu
    obtain rfl : res = s.windowResults w.pch lanes := hres
    subst hu
    rw [exec_retrainWindowEnd, execRetrainWindowEnd_ends here window off four stays, if_neg (by simp only [failed,
      Bool.false_eq_true, not_false_eq_true])]
    rfl
  case srEntry =>
    exact fun s u st here on active awake idle due online hu =>
      execSelfRefreshEntry_idle here on active awake idle due online hu
  case srOff => exact fun s st here off => execSelfRefreshEntry_off here off
  case srExit => exact fun s st r rs here asleep waits => execSelfRefreshExit_request here asleep waits
  case srNoRequest => exact fun s st here quiet => execSelfRefreshExit_quiet here quiet
  case pchDrained =>
    intro s c here drained
    rw [exec_pchDrained, execPchDrained_present here, if_pos drained]
  case pchDrainedMeans => exact fun s c => pchDrained_iff
  case pchInUse =>
    intro s c here undrained
    rw [exec_pchDrained, execPchDrained_present here, if_neg (by simp [undrained])]
  case stackDrained =>
    intro s u st l here draining idle drained waits hu
    subst hu
    exact execStackDrainComplete_drained here draining idle drained waits

end Sys2Proof.Machine

namespace Sys2Proof.Machine

/-! # The HBM letters (09 R299, R301, R305, R306, R309, R312, R314; 16 R458) -/

section
variable {s : State} {l : LetterId}

/-! ## The settings of the deep tier (09 R299, R301, R306, R309) -/

theorem clampU_low {w v lo hi : Nat} {cur : Option Nat} (given : v ≠ 2 ^ w - 1) (low : v < lo) :
    clampU w v lo hi cur = some (lo, true) := by
  have bounded : max lo (min hi v) = lo := Nat.max_eq_left (Nat.le_trans (Nat.min_le_right hi v) (Nat.le_of_lt low))
  simp only [clampU, given, ↓reduceIte, Option.map_some, bounded, decide_eq_true (Nat.ne_of_gt low)]

section
variable {x : W64}

theorem execHbmSetPanic_accepted (h : Claimed s l 0x0E01 [p8 x]) (low : 200 ≤ x.toNat) (high : x.toNat ≤ 5000) :
    ∃ t, exec (.hbmSetPanic l x) s = .next t ∧
      Accepted s { s with hbm := { s.hbm with panicNs := x.toNat } } t l .done (layBody [p8 x]) := by
  refine ⟨_, rfl, runLetter_accepted h fun _ _ => ?_⟩
  simp only [clampU_mem (w := 64) (by omega) low high]
  rfl

theorem execHbmSetPanic_low (h : Claimed s l 0x0E01 [p8 x]) (low : x.toNat < 200) :
    ∃ t, exec (.hbmSetPanic l x) s = .next t ∧
      AcceptedClamped s { s with hbm := { s.hbm with panicNs := 200 } } t l .done (layBody [n8 200]) 0 := by
  refine ⟨_, rfl, runLetter_clamped h fun _ _ => ?_⟩
  simp only [clampU_low (w := 64) (by omega) low]
  rfl

theorem execHbmSetNeighbour_accepted {n : W32} (h : Claimed s l 0x0E02 [p4 n]) (low : 8 ≤ n.toNat)
    (high : n.toNat ≤ 16) : ∃ t, exec (.hbmSetNeighbour l n) s = .next t ∧
      Accepted s { s with hbm := { s.hbm with nbrN := n.toNat } } t l .done (layBody [p4 n]) := by
  refine ⟨_, rfl, runLetter_accepted h fun _ _ => ?_⟩
  simp only [clampU_mem (w := 32) (by omega) low high]
  rfl

theorem execHbmSetRetrain_accepted (h : Claimed s l 0x0E03 [p8 x]) (low : 10000000 ≤ x.toNat)
    (high : x.toNat ≤ 60000000000) : ∃ t, exec (.hbmSetRetrain l x) s = .next t ∧
      Accepted s { s with hbm := { s.hbm with retrainPeriod := x.toNat } } t l .done (layBody [p8 x]) := by
  refine ⟨_, rfl, runLetter_accepted h fun _ _ => ?_⟩
  simp only [clampU_mem (w := 64) (by omega) low high]
  rfl

/-- A self-refresh delay of 0 turns self-refresh off and is no value below the range. -/
theorem execHbmSetSelfRefresh_accepted (h : Claimed s l 0x0E05 [p8 x]) (low : x.toNat = 0 ∨ 500 ≤ x.toNat)
    (high : x.toNat ≤ 1000000) : ∃ t, exec (.hbmSetSelfRefresh l x) s = .next t ∧
      Accepted s { s with hbm := { s.hbm with srIdle := x.toNat } } t l .done (layBody [p8 x]) := by
  refine ⟨_, rfl, runLetter_accepted h fun _ _ => ?_⟩
  simp only [clampU0_mem (w := 64) (by omega) low high]
  rfl

end

/-- The first check that fails rejects the letter. -/
theorem checked_rejected {cs rest : List (Bool × Reject)} {r : Reject} {ok : Unit → Verdict}
    (passes : ∀ c ∈ cs, c.1 = false) : checked (cs ++ (true, r) :: rest) ok = .reject r := by
  simp [checked, firstFail_append, firstFail_eq_none passes, firstFail]

/-! ## HBM.RETRAIN_NOW (09 R305, R306, R311) -/

section
variable {c : W32} (h : Claimed s l 0x0E04 [p4 c]) (numbered : c.toNat ≤ 511)
  (here : c.toNat < 64 * s.variant.hbmStacks)
include h numbered here

theorem execHbmRetrainNow_open (serves : (s.pch c.toNat).st = .open_) : ∃ t, exec (.hbmRetrainNow l c) s = .next t ∧
    Accepted s (s.setPch c.toNat { s.pch c.toNat with first := true }) t l .done (layBody [p4 c]) := by
  refine ⟨_, rfl, runLetter_accepted h fun _ _ => (checked_ok ?_).trans ?_⟩
  · simp [malformed, noObj, busy, numbered, here, serves]
  · simp only [serves, ↓reduceIte]
    rfl

theorem execHbmRetrainNow_failed (failed : (s.pch c.toNat).st = .failed)
    (enabled : (s.stack (c.toNat / 64)).enabled = true) : ∃ t, exec (.hbmRetrainNow l c) s = .next t ∧
      Accepted s ((s.setPch c.toNat { s.pch c.toNat with st := .training, retrainNow := true }).clearFault 0x0903
        c.toNat) t l .done (layBody [p4 c]) := by
  refine ⟨_, rfl, runLetter_accepted h fun _ _ => (checked_ok ?_).trans ?_⟩
  · simp [malformed, noObj, busy, numbered, here, failed, enabled]
  · simp only [failed, reduceCtorEq, ↓reduceIte]
    rfl

theorem execHbmRetrainNow_busy (closed : (s.pch c.toNat).st ≠ .open_) (whole : (s.pch c.toNat).st ≠ .failed) :
    ∃ t, exec (.hbmRetrainNow l c) s = .next t ∧ Rejected s t l .busy 0 := by
  refine ⟨_, rfl, runLetter_rejected h (r := ⟨.busy, 0, 0⟩) fun _ _ => ?_⟩
  simp only [closed, whole, decide_false, Bool.false_and, Bool.or_self, Bool.not_false]
  exact checked_rejected (cs := [malformed _ 0, noObj _ 0]) (by simp [malformed, noObj, numbered, here])

end

/-! ## HBM.DISABLE_STACK and HBM.ENABLE_STACK (09 R312; 16 R458) -/

section
variable {i : W32} (numbered : i.toNat ≤ 7) (here : i.toNat < s.variant.hbmStacks)
include numbered here

/-- A letter that names a stack of the variant passes the checks of its number. -/
theorem stackChecks_pass (other : Bool × Reject) (passes : other.1 = false) :
    ∀ x ∈ [malformed (decide (7 < i.toNat)) 0, noObj (decide (s.variant.hbmStacks ≤ i.toNat)) 0, other],
      x.1 = false := by
  simp [malformed, noObj, numbered, here, passes]

theorem execHbmDisableStack_enabled (h : Claimed s l 0x0E06 [p4 i]) (steady : (s.stack i.toNat).draining = false)
    (enabled : (s.stack i.toNat).enabled = true) : ∃ t, exec (.hbmDisableStack l i) s = .next t ∧
      Accepted s ((s.syncDeep.setStack i.toNat { s.stack i.toNat with
        enabled := false, draining := true, disable := some l }).startDrain i.toNat) t l .done (layBody [p4 i]) true := by
  refine ⟨_, rfl, runLetter_accepted h fun _ _ => (checked_ok (stackChecks_pass numbered here _ steady)).trans ?_⟩
  exact if_neg (not_not_intro enabled)

theorem execHbmEnableStack_disabled (h : Claimed s l 0x0E07 [p4 i]) (steady : (s.stack i.toNat).draining = false)
    (disabled : (s.stack i.toNat).enabled = false) : ∃ t, exec (.hbmEnableStack l i) s = .next t ∧
      Accepted s (((stackPchs i.toNat).foldl (fun t c =>
        (t.setPch c { t.pch c with st := .training }).clearFault 0x0903 c) (s.syncDeep.setStack i.toNat
        { s.stack i.toNat with enabled := true })).askDomain (89 + i.toNat) true) t l .done (layBody [p4 i]) := by
  refine ⟨_, rfl, runLetter_accepted h fun _ _ => (checked_ok (stackChecks_pass numbered here _ steady)).trans ?_⟩
  simp only [disabled, Bool.false_eq_true, false_and, ↓reduceIte]
  rfl

/-! ## HBM.READ_EYES (09 R314) -/

theorem execHbmReadEyes_accepted {result : W64} (h : Claimed s l 0x0E08 [p4 i, p8 result]) (zero : l.slice.val = 0) :
    ∃ t, exec (.hbmReadEyes l i result true) s = .next t ∧ Accepted s (s.hostWrite 0 result
      ((List.range 256).flatMap fun j => leBytes (nget {} s.hbm.lanes (256 * i.toNat + j)).eye 8)) t l .done [] := by
  refine ⟨_, rfl, runLetter_accepted h fun c hc => ?_⟩
  have sl : c.sl = 0 := by rw [Ctx.sl, hc, zero]
  refine (checked_ok ?_).trans ?_
  · simp [malformed, noObj, numbered, here, sl]
  · rw [withResult, if_pos rfl, sl]
    rfl

end
end

/-- Settles O40: a letter by its checks, which all pass but where a pseudo-channel is busy, and by the state of the
pseudo-channel or the stack that it names. That HBM.DISABLE_STACK drains the stack's pseudo-channels without a fault, and
that the receipt of HBM.ENABLE_STACK goes at acceptance, is deduced (notes/assumptions/67.md). -/
theorem deepTierLetters : Obligations.DeepTierLetters := by
  refine ⟨?setPanic, ?setPanicLow, ?setNeighbour, ?setRetrain, ?setSelfRefresh, ?retrainNow, ?retrainFailed, ?retrainBusy,
    ?disable, ?enable, ?readEyes⟩
  case setPanic => exact fun s l x h low high => execHbmSetPanic_accepted h low high
  case setPanicLow => exact fun s l x h low => execHbmSetPanic_low h low
  case setNeighbour => exact fun s l x h low high => execHbmSetNeighbour_accepted h low high
  case setRetrain => exact fun s l x h low high => execHbmSetRetrain_accepted h low high
  case setSelfRefresh => exact fun s l x h low high => execHbmSetSelfRefresh_accepted h low high
  case retrainNow => exact fun s l c h numbered here serves => execHbmRetrainNow_open h numbered here serves
  case retrainFailed =>
    exact fun s l c h numbered here failed enabled => execHbmRetrainNow_failed h numbered here failed enabled
  case retrainBusy =>
    exact fun s l c h numbered here closed whole => execHbmRetrainNow_busy h numbered here closed whole
  case disable =>
    exact fun s l st h numbered here steady enabled => execHbmDisableStack_enabled numbered here h steady enabled
  case enable =>
    exact fun s l st h numbered here steady disabled => execHbmEnableStack_disabled numbered here h steady disabled
  case readEyes => exact fun s l st result h numbered here zero => execHbmReadEyes_accepted numbered here h zero

end Sys2Proof.Machine

namespace Sys2Proof.Machine

/-! # Letters that may not act, and letters that are rejected (10 R333, R334, R339; 13 R399) -/

section
variable {s t : State} {l : LetterId} {op : Nat} {ps : List Par} {act : Ctx → Verdict} {e e' : Entry}

/-! ## The command of a letter runs the letter's row -/

/-- The three letters whose command does more than run their row: it ends the close of a drained ring, has the receipt
of a reset of slice 0 written on ring 0, or counts a refused image. -/
def DoesMore : Instr → Prop
  | .moduleCloseRing .. | .sliceReset .. | .imageWrite .. => True
  | _ => False

/-- The command of every other letter is the letter's row. -/
theorem exec_letter {c : Instr} (h : letterOf c = some (l, op, ps)) (row : ¬ DoesMore c) :
    ∃ act, exec c s = .next (runLetter l op ps act s) := by
  cases c with
  | moduleCloseRing | sliceReset | imageWrite => exact absurd trivial row
  | _ => cases h <;> exact ⟨_, rfl⟩

/-! ## Letters that may not act (10 R333, R334; 13 R399) -/

theorem claimed_eq_none (h : ¬ Claimed s l op ps) : s.claimed l op ps = none := by
  simpa only [Claimed, Option.not_isSome_iff_eq_none] using h

theorem execModuleCloseRing_unclaimed {ring : W32} (h : ¬ Claimed s l 0x0105 [p4 ring]) :
    execModuleCloseRing l ring s = .next s := by
  simp only [execModuleCloseRing, runLetter_unclaimed h, not_and_self, ↓reduceIte, ne_eq]

theorem execSliceReset_unclaimed {slice : W32} (h : ¬ Claimed s l 0x0F03 [p4 slice]) :
    execSliceReset l slice s = .next s := by
  simp only [execSliceReset, runLetter_unclaimed h, claimed_eq_none h, Option.isSome_none, Bool.false_eq_true, ↓reduceIte]

theorem execImageWrite_unclaimed {part bank : W32} {offset : W64} {data : ListArg Byte}
    (h : ¬ Claimed s l 0x1101 [p4 part, p4 bank, p8 offset, pL data]) :
    execImageWrite l part bank offset data s = .next s := by
  simp only [execImageWrite, runLetter_unclaimed h, claimed_eq_none h, Option.isSome_none, Bool.false_and,
    Bool.false_eq_true, ↓reduceIte]

theorem exec_unclaimed {c : Instr} (h : letterOf c = some (l, op, ps)) (unclaimed : ¬ Claimed s l op ps) :
    exec c s = .next s := by
  by_cases more : DoesMore c
  · cases c with
    | moduleCloseRing => cases h; exact execModuleCloseRing_unclaimed unclaimed
    | sliceReset => cases h; exact execSliceReset_unclaimed unclaimed
    | imageWrite => cases h; exact execImageWrite_unclaimed unclaimed
    | _ => exact absurd more id
  · obtain ⟨act, row⟩ := exec_letter (s := s) h more
    rw [row, runLetter_unclaimed unclaimed]

/-! ## What closing a letter makes of the ledger (13 R399) -/

theorem entry_of_ledgers (h : t.letters.ledgers = s.letters.ledgers) : t.entry l = s.entry l := by
  simp only [State.entry, State.ledger, h]

@[simp] theorem pushReceipt_ledgers (i : Nat) (via : Via) (r : Receipt) (reserved : Bool) :
    (s.pushReceipt i via r reserved).letters.ledgers = s.letters.ledgers := by
  cases via <;> rfl

theorem entry_finish (r : Receipt) : (s.finish l e r).entry l = some { e with st := .done, receipt := r } :=
  (entry_of_ledgers (pushReceipt_ledgers _ _ _ _)).trans (entry_setEntry _ _ _)

/-- Settling a letter keeps its receipt, whether it is done then or still waits. -/
theorem entry_settle (h : s.entry l = some e) : ∃ e', (s.settle l).entry l = some e' ∧ e'.receipt = e.receipt := by
  simp only [State.settle, h]
  split
  · exact ⟨_, entry_finish e.receipt, rfl⟩
  · exact ⟨e, h, rfl⟩

theorem entry_release (h : s.entry l = some e) : ∃ e', (s.release l).entry l = some e' ∧ e'.receipt = e.receipt := by
  simp only [State.release, h]
  obtain ⟨e', found, kept⟩ := entry_settle (entry_setEntry s l { e with waits := false })
  exact ⟨e', found, kept⟩

/-- A letter that ends in a fault says so in its receipt. -/
theorem entry_internalFault (h : s.entry l = some e) (cause party : Nat) (part : Bool) :
    ∃ e', (s.internalFault l cause party part).entry l = some e' ∧ e'.receipt.status = .internalFault := by
  simp only [State.internalFault, h]
  obtain ⟨e', found, kept⟩ := entry_settle (entry_setEntry s l { e with
    receipt := { e.receipt with
      status := .internalFault, param := 0xFF#8, subcode := 0x0A03#16, clamped := false
      applied := [BitVec.ofNat 8 (b2n part)] }
    waits := false })
  exact ⟨e', (entry_of_ledgers (raise_ledgers ..)).trans found, congrArg Receipt.status kept⟩

/-! ## Letters that are rejected (10 R336, R339) -/

theorem runLetter_reject {r : Reject} (claimed : s.claimed l op ps = some e) (verdict : act ⟨l, e⟩ = .reject r) :
    runLetter l op ps act s = s.finish l e (s.mkReceipt l e r.status r.param r.subcode) := by
  simp only [runLetter, claimed, verdict]

/-- A claimed letter that its row leaves DONE without a fault was rejected: it is closed by its receipt and nothing else
has changed. An accepted letter is not DONE yet. -/
theorem runLetter_done (claimed : s.claimed l op ps = some e) (found : (runLetter l op ps act s).entry l = some e')
    (done : e'.st = .done) (sound : e'.receipt.status ≠ .internalFault) :
    ∃ r, runLetter l op ps act s = s.finish l e r := by
  cases verdict : act ⟨l, e⟩ with
  | reject r => exact ⟨_, runLetter_reject claimed verdict⟩
  | listError addr =>
    simp only [runLetter, claimed, verdict] at found
    obtain ⟨f, faulted, status⟩ := entry_internalFault (entry_setEntry s l _) 4 _ false
    cases faulted.symm.trans found
    exact absurd status sound
  | partFault cause addr part n =>
    simp only [runLetter, claimed, verdict] at found
    obtain ⟨f, faulted, status⟩ := entry_internalFault (entry_setEntry _ l _) cause _ part
    cases faulted.symm.trans found
    exact absurd status sound
  | accept st n block clamp w sub =>
    simp only [runLetter, claimed, verdict] at found
    cases (entry_setEntry _ l _).symm.trans found
    cases done

theorem checked_cases (cs : List (Bool × Reject)) (ok : Unit → Verdict) :
    (∃ r, checked cs ok = .reject r) ∨ checked cs ok = ok () := by
  unfold checked
  split
  · exact .inl ⟨_, rfl⟩
  · exact .inr rfl

theorem entry_runLetter_accept {st : Status} {n : State} {block : List Byte} {clamp : Option Nat} {w : Bool} {sub : Nat}
    (claimed : s.claimed l op ps = some e) (verdict : act ⟨l, e⟩ = .accept st n block clamp w sub) :
    ∃ e', (runLetter l op ps act s).entry l = some e' ∧ e'.receipt.status = st := by
  simp only [runLetter, claimed, verdict]
  exact ⟨_, entry_setEntry _ _ _, rfl⟩

/-- A receipt that is made ready leaves the letter that waits for a ring's close as it was. -/
theorem ring_pushReceipt_close (k i j : Nat) (via : Via) (r : Receipt) (reserved : Bool) :
    ((s.pushReceipt k via r reserved).ring i j).close = (s.ring i j).close := by
  cases via with
  | inband => rfl
  | ring n =>
    by_cases same : 8 * i + j = 8 * k + n
    · simp only [State.pushReceipt, State.setRing, State.ring, same, nget_nset_self]
    · simp only [State.pushReceipt, State.setRing, State.ring, nget_nset_other _ _ _ same]

theorem ring_finish_close (r : Receipt) (i j : Nat) : ((s.finish l e r).ring i j).close = (s.ring i j).close :=
  ring_pushReceipt_close ..

/-- A ring that has drained releases the letter that closes it, whose receipt stays what it was. -/
theorem entry_ringDrained {i j : Nat} (h : t.entry l = some e) (closes : (t.ring i j).close = some l) :
    ∃ e', (t.ringDrained i j).entry l = some e' ∧ e'.receipt = e.receipt := by
  unfold State.ringDrained
  extract_lets g own
  have close : g.close = some l := closes
  rw [close]
  split
  · split
    · exact ⟨e, h, rfl⟩
    · split
      · exact entry_release (s := t.setRing i j { g with close := none }) h
      · exact entry_release (s := t.setRing i j { g with st := .closed, close := none }) h
  · exact ⟨e, h, rfl⟩

/-- MODULE.CLOSE_RING rejects its letter or accepts it as DONE; a ring that has drained already is closed at once. -/
theorem execModuleCloseRing_row (l : LetterId) (ring : W32) (s : State) : ∃ act : Ctx → Verdict,
    (∀ c, (∃ r, act c = .reject r) ∨ ∃ n block w, act c = .accept .done n block none w 0) ∧
    execModuleCloseRing l ring s = .next (
      if (s.ring l.slice ring.toNat).close ≠ some l ∧
          ((runLetter l 0x0105 [p4 ring] act s).ring l.slice ring.toNat).close = some l then
        (runLetter l 0x0105 [p4 ring] act s).ringDrained l.slice ring.toNat
      else runLetter l 0x0105 [p4 ring] act s) := by
  refine ⟨_, fun c => (checked_cases _ _).imp_right fun accepted => ?_, rfl⟩
  rw [accepted]
  split
  · exact ⟨_, _, _, rfl⟩
  · exact ⟨_, _, _, rfl⟩

theorem execModuleCloseRing_done {ring : W32} (claimed : s.claimed l 0x0105 [p4 ring] = some e)
    (next : execModuleCloseRing l ring s = .next t) (found : t.entry l = some e') (done : e'.st = .done)
    (refused : e'.receipt.status ≠ .done) (sound : e'.receipt.status ≠ .internalFault) : ∃ r, t = s.finish l e r := by
  obtain ⟨act, verdict, row⟩ := execModuleCloseRing_row l ring s
  obtain rfl := Host.Outcome.next.inj (row.symm.trans next)
  split at found
  case isFalse still =>
    rw [if_neg still]
    exact runLetter_done claimed found done sound
  case isTrue drained =>
    obtain ⟨opened, closes⟩ := drained
    rcases verdict ⟨l, e⟩ with ⟨r, rejected⟩ | ⟨n, block, w, accepted⟩
    · rw [runLetter_reject claimed rejected, ring_finish_close] at closes
      exact absurd closes opened
    · obtain ⟨e₀, entry, status⟩ := entry_runLetter_accept claimed accepted
      obtain ⟨e₁, found₁, kept⟩ := entry_ringDrained entry closes
      cases found₁.symm.trans found
      exact absurd ((congrArg Receipt.status kept).trans status) refused

/-- Having the receipt of a reset of slice 0 written on ring 0 changes an ACCEPTED letter alone. -/
theorem zeroReceipt_cases (t : State) (slice : W32) :
    t.zeroReceipt l slice = t ∨ ∃ e, e.st = .accepted ∧ t.zeroReceipt l slice = t.setEntry l e := by
  unfold State.zeroReceipt
  split
  · exact .inl rfl
  split
  · split
    · split
      · next accepted =>
        refine .inr ⟨_, ?_, rfl⟩
        exact accepted.1
      · exact .inl rfl
    · exact .inl rfl
  · exact .inl rfl

theorem execSliceReset_done {slice : W32} (claimed : s.claimed l 0x0F03 [p4 slice] = some e)
    (next : execSliceReset l slice s = .next t) (found : t.entry l = some e') (done : e'.st = .done)
    (sound : e'.receipt.status ≠ .internalFault) : ∃ r, t = s.finish l e r := by
  simp only [execSliceReset, claimed, Option.isSome_some, ↓reduceIte, Host.Outcome.next.injEq] at next
  subst next
  rcases zeroReceipt_cases (l := l) (runLetter l 0x0F03 [p4 slice] _ s) slice with same | ⟨e₀, accepted, moved⟩
  · rw [same] at found ⊢
    exact runLetter_done claimed found done sound
  · rw [moved, entry_setEntry] at found
    cases found
    cases accepted.symm.trans done

theorem execImageWrite_row (l : LetterId) (part bank : W32) (offset : W64) (data : ListArg Byte) (s : State) :
    ∃ (act : Ctx → Verdict) (refused : Bool), execImageWrite l part bank offset data s = .next (
      if refused then (runLetter l 0x1101 [p4 part, p4 bank, p8 offset, pL data] act s).bump .imgRefused part.toNat
      else runLetter l 0x1101 [p4 part, p4 bank, p8 offset, pL data] act s) :=
  ⟨_, _, rfl⟩

/-- A refused image is counted besides. -/
theorem execImageWrite_done {part bank : W32} {offset : W64} {data : ListArg Byte}
    (claimed : s.claimed l 0x1101 [p4 part, p4 bank, p8 offset, pL data] = some e)
    (next : execImageWrite l part bank offset data s = .next t) (found : t.entry l = some e') (done : e'.st = .done)
    (sound : e'.receipt.status ≠ .internalFault) :
    ∃ r, t = s.finish l e r ∨ ∃ p, t = (s.finish l e r).bump .imgRefused p := by
  obtain ⟨act, refused, row⟩ := execImageWrite_row l part bank offset data s
  obtain rfl := Host.Outcome.next.inj (row.symm.trans next)
  split at found
  case isFalse unrefused =>
    obtain ⟨r, closed⟩ := runLetter_done claimed found done sound
    exact ⟨r, .inl ((if_neg unrefused).trans closed)⟩
  case isTrue counted =>
    obtain ⟨r, closed⟩ := runLetter_done claimed ((entry_of_ledgers (bump_ledgers ..)).symm.trans found) done sound
    exact ⟨r, .inr ⟨part.toNat, (if_pos counted).trans (congrArg (State.bump · .imgRefused part.toNat) closed)⟩⟩

end

/-- Settles O8: the command of a letter runs its row, which does nothing unless the ledger holds the letter claimed for
it, and what three of them do besides the row needs the claim too. -/
theorem unclaimedLettersDoNothing : Obligations.UnclaimedLettersDoNothing :=
  fun _ _ _ _ _ h unclaimed => exec_unclaimed h unclaimed

/-- Settles O9: an accepted letter is not DONE after its row, so a letter that is DONE then ended in a fault or was
closed by its rejection. -/
theorem rejectedLettersHaveNoEffect : Obligations.RejectedLettersHaveNoEffect := by
  intro c s t l op ps e' h claims next found done notDone _ _ sound
  obtain ⟨e, claimed⟩ := Option.isSome_iff_exists.mp claims
  have held := entry_of_claimed claimed
  by_cases more : DoesMore c
  · cases c with
    | moduleCloseRing =>
      cases h
      obtain ⟨r, closed⟩ := execModuleCloseRing_done claimed next found done notDone sound
      exact ⟨e, r, held, .inl closed⟩
    | sliceReset =>
      cases h
      obtain ⟨r, closed⟩ := execSliceReset_done claimed next found done sound
      exact ⟨e, r, held, .inl closed⟩
    | imageWrite =>
      cases h
      obtain ⟨r, closed⟩ := execImageWrite_done claimed next found done sound
      exact ⟨e, r, held, closed⟩
    | _ => exact absurd more id
  · obtain ⟨act, row⟩ := exec_letter (s := s) h more
    obtain rfl := Host.Outcome.next.inj (row.symm.trans next)
    obtain ⟨r, closed⟩ := runLetter_done claimed found done sound
    exact ⟨e, r, held, .inl closed⟩

end Sys2Proof.Machine

namespace Sys2Proof.Machine

/-! # Doorbells, and letters taken from their rings (10 R317, R320, R333, R336; 13 R399; 19 R518) -/

section
variable {s : State} {sl : Fin 64} {r : Fin 8} {count : W32}

/-! ## Doorbells (10 R317; 19 R518) -/

section
variable (up : s.power.hkUp = true)
include up

theorem execLetterDoorbell_open (opened : (s.ring sl r).isOpen = true) : execLetterDoorbell sl r count s = .next (
    if (count - (s.ring sl r).taken).toNat ≤ (s.ring sl r).depth then s.setRing sl r { s.ring sl r with placed := count }
    else s.badDoorbell sl r count) := by
  rw [execLetterDoorbell, if_neg (not_not_intro up), if_neg (not_not_intro opened)]

theorem execReceiptDoorbell_open (opened : (s.ring sl r).isOpen = true) : execReceiptDoorbell sl r count s = .next (
    if (count - (s.ring sl r).consumed).toNat ≤ ((s.ring sl r).written - (s.ring sl r).consumed).toNat then
      s.setRing sl r { s.ring sl r with consumed := count }
    else s.badDoorbell sl r count) := by
  rw [execReceiptDoorbell, if_neg (not_not_intro up), if_neg (not_not_intro opened)]

theorem execEventDoorbell_defined (defined : (s.evRing sl).defined = true) : execEventDoorbell sl count s = .next (
    if (count - (s.evRing sl).consumed).toNat ≤ ((s.evRing sl).written - (s.evRing sl).consumed).toNat then
      s.setEvRing sl { s.evRing sl with consumed := count }
    else s.badDoorbell sl 8 count) := by
  rw [execEventDoorbell, if_neg (not_not_intro up), if_neg (not_not_intro defined)]

end

/-! ## LETTER_TAKE: whose turn it is (10 R320; 11 R358; 13 R399) -/

section
variable {pm : Pm} {src : TakeSource}

theorem execLetterTake_stale {t : Nat} (inactive : s.pm.active ≠ some pm) (window : s.pm.window = some (pm, t)) :
    execLetterTake pm sl src s = .next (s.bump .pmStaleClaims (pmIdx pm)) := by
  unfold execLetterTake
  rw [if_pos inactive, window]
  exact congrArg _ (if_pos rfl)

section
variable (active : s.pm.active = some pm)
include active

theorem execLetterTake_allRate (busy : s.allRateOk = false) : execLetterTake pm sl src s = .next s := by
  unfold execLetterTake
  rw [if_neg (not_not_intro active), if_pos (.inr (.inr (by simp [busy])))]

theorem execLetterTake_counted (busy : s.rateOk sl = false) (counted : nget false s.letters.waits sl = true) :
    execLetterTake pm sl src s = .next s := by
  unfold execLetterTake
  rw [if_neg (not_not_intro active)]
  refine congrArg _ ?_
  split
  · rfl
  · rw [if_pos (by simp [busy]), if_pos (.inr counted)]

variable (ready : s.ready = true) (takes : s.slCanTake sl = true) (allRate : s.allRateOk = true)
include ready takes allRate

theorem execLetterTake_waits (busy : s.rateOk sl = false) (waiting : (s.takeableRings sl).isEmpty = false)
    (uncounted : nget false s.letters.waits sl = false) : execLetterTake pm sl src s =
      .next (State.bump { s with letters := { s.letters with
        waits := nset false sl true s.letters.waits } } .sliceRateWait sl) := by
  simp only [execLetterTake, active, ready, takes, allRate, busy, waiting, uncounted, ne_eq, not_true_eq_false,
    Bool.false_eq_true, not_false_eq_true, or_self, ↓reduceIte]

variable (rate : s.rateOk sl = true) (turn : nget 0 s.roundTurns sl ≠ 0)
include rate turn

/-- A ring's letter, when the slice may give one now. -/
theorem execLetterTake_ring (takeable : (s.ring sl r).takeable = true) (next : s.nextRing sl = some r.val)
    (requests : s.mayRequest sl = true) (entry : Option (List Byte)) :
    execLetterTake pm sl (.ring r entry) s = .next (entry.elim (s.ringFault sl r ((s.ring sl r).letters +
      BitVec.ofNat 64 (256 * ((s.ring sl r).nextIndex.toNat % (s.ring sl r).depth)))) fun bytes =>
      (((s.setRing sl r (s.ring sl r).afterTake).noteTaken sl r).checkLetter pm sl (.ring r) (s.ring sl r).nextIndex
        bytes)) := by
  simp only [execLetterTake, active, ready, takes, allRate, rate, turn, takeable, next, requests, ne_eq,
    not_true_eq_false, or_self, ↓reduceIte]
  cases entry <;> rfl

theorem execLetterTake_inband {x : InbandLetter} {xs : List InbandLetter} (first : s.inband sl = x :: xs)
    (next : s.nextRing sl = some 0) : execLetterTake pm sl .inband s = .next ((State.noteTaken { s with
      letters := { s.letters with inband := nset [] sl.val xs s.letters.inband } } sl 0).checkLetter pm sl x.via 0#32
        x.bytes) := by
  simp only [execLetterTake, active, ready, takes, allRate, rate, turn, first, next, ne_eq, not_true_eq_false, or_self,
    ↓reduceIte]

end
end

/-! ## The checks of a letter's header and its place in the ledger (10 R332, R333, R336) -/

section
variable {pm : Pm} {via : Via} {index : W32} {bytes : List Byte} {h : Nat}

/-- A letter whose CRC is wrong is MALFORMED on a ring and dropped in-band. -/
theorem checkLetter_badCrc (head : h = leNat (bslice bytes 0 32))
    (bad : crc32c 0xFFFFFFFF (bslice bytes 0 28 ++ bslice bytes 32 (min (bits h 95 80) 224)) ≠ bits h 255 224) :
    (∀ i, via = .ring i → ∃ rc, s.checkLetter pm sl via index bytes = s.pushReceipt sl via rc true ∧
      rc.status = .malformed ∧ rc.param = 0xFE#8 ∧ rc.applied = []) ∧
    ((∀ i, via ≠ .ring i) → s.checkLetter pm sl via index bytes = s.bump .letterBadCheck) := by
  subst head
  constructor
  · rintro i rfl
    exact ⟨_, if_pos bad, rfl, rfl, rfl⟩
  · intro inband
    cases via with
    | ring i => exact absurd rfl (inband i)
    | inband => exact if_pos bad

/-- The checks of a letter's CRC and of its header pass (10 R336 steps 1-3). -/
structure HeaderPasses (sl : Fin 64) (bytes : List Byte) (h : Nat) : Prop where
  head : h = leNat (bslice bytes 0 32)
  crc : crc32c 0xFFFFFFFF (bslice bytes 0 28 ++ bslice bytes 32 (min (bits h 95 80) 224)) = bits h 255 224
  version : bits h 23 16 = 1
  high_zero : bits h 127 112 = 0
  param_zero : bits h 79 72 = 0
  flags_zero : bits h 31 28 = 0
  phase_zero : bit h 24 = false
  length_le : bits h 95 80 ≤ 224
  length_octets : bits h 95 80 % 8 = 0
  slice : bits h 71 64 = sl.val

/-- A repeat of a letter that is still in the ledger. -/
theorem checkLetter_repeat {o : Entry} (passes : HeaderPasses sl bytes h)
    (recent : ∀ hi, (s.ledger sl).high = some hi → seqNewer (BitVec.ofNat 32 (bits h 63 32)) hi = true ∨
      (hi - BitVec.ofNat 32 (bits h 63 32)).toNat ≤ 1023)
    (found : nfind (s.ledger sl).entries ((BitVec.ofNat 32 (bits h 63 32)).toNat) = some o) :
    s.checkLetter pm sl via index bytes =
      if o.st = .done then s.pushReceipt sl via { o.receipt with dup := true, applied := [] } true
      else (s.unreserve sl via).bump .letterDupPending sl := by
  obtain ⟨rfl, crc, version, high_zero, param_zero, flags_zero, phase_zero, length_le, length_octets, slice⟩ := passes
  simp only [State.checkLetter, crc, version, high_zero, param_zero, flags_zero, phase_zero, Nat.not_lt.mpr length_le,
    length_octets, slice, found, ne_eq, not_true_eq_false, Bool.false_eq_true, or_self, ↓reduceIte]
  refine if_neg ?_
  rintro ⟨old, outside⟩
  cases high : (s.ledger sl).high with
  | none => simp [high] at old
  | some hi =>
    simp only [high, decide_eq_true_eq] at old outside
    exact (recent hi high).elim old outside

/-- A number below the ledger's window is stale. -/
theorem checkLetter_stale {hi : W32} (passes : HeaderPasses sl bytes h) (high : (s.ledger sl).high = some hi)
    (old : seqNewer (BitVec.ofNat 32 (bits h 63 32)) hi = false)
    (outside : 1023 < (hi - BitVec.ofNat 32 (bits h 63 32)).toNat) :
    ∃ rc, s.checkLetter pm sl via index bytes = s.pushReceipt sl via rc true ∧ rc.status = .staleSequence ∧
      rc.applied = [] := by
  obtain ⟨rfl, crc, version, high_zero, param_zero, flags_zero, phase_zero, length_le, length_octets, slice⟩ := passes
  simp only [State.checkLetter, crc, version, high_zero, param_zero, flags_zero, phase_zero, Nat.not_lt.mpr length_le,
    length_octets, slice, high, old, Nat.not_le.mpr outside, ne_eq, not_true_eq_false, Bool.false_eq_true, or_self,
    ↓reduceIte, not_false_eq_true, decide_false, and_self]
  exact ⟨_, rfl, rfl, rfl⟩

end

end

/-- Settles O41: a doorbell by whether the ring is open and its count fits, a letter by what stops its slice or else by the
ring that is next, a header by the first of its checks that decides. -/
theorem doorbellsAndLettersTaken : Obligations.DoorbellsAndLettersTaken := by
  refine ⟨?letter, ?letterBad, ?receipt, ?receiptBad, ?event, ?eventBad, ?ring, ?fault, ?inband, ?stale, ?rate,
    ?rateCounted, ?rateAll, ?crc, ?crcInband, ?repeated, ?checkStale⟩
  case letter =>
    intro s sl r count up opened fits
    rw [exec_letterDoorbell, execLetterDoorbell_open up opened, if_pos fits]
  case letterBad =>
    intro s sl r count up opened beyond
    rw [exec_letterDoorbell, execLetterDoorbell_open up opened, if_neg (Nat.not_le.mpr beyond)]
    rfl
  case receipt =>
    intro s sl r count up opened fits
    rw [exec_receiptDoorbell, execReceiptDoorbell_open up opened, if_pos fits]
  case receiptBad =>
    intro s sl r count up opened beyond
    rw [exec_receiptDoorbell, execReceiptDoorbell_open up opened, if_neg (Nat.not_le.mpr beyond)]
    rfl
  case event =>
    intro s sl count up defined fits
    rw [exec_eventDoorbell, execEventDoorbell_defined up defined, if_pos fits]
  case eventBad =>
    intro s sl count up defined beyond
    rw [exec_eventDoorbell, execEventDoorbell_defined up defined, if_neg (Nat.not_le.mpr beyond)]
    rfl
  case ring =>
    intro s pm sl r bytes active ready takes allRate rate turn takeable next requests
    exact execLetterTake_ring active ready takes allRate rate turn takeable next requests (some bytes)
  case fault =>
    intro s pm sl r active ready takes allRate rate turn takeable next requests
    exact execLetterTake_ring active ready takes allRate rate turn takeable next requests none
  case inband =>
    intro s pm sl x xs active ready takes allRate rate turn first next
    exact execLetterTake_inband active ready takes allRate rate turn first next
  case stale => exact fun s pm sl src t inactive window => execLetterTake_stale inactive window
  case rate =>
    intro s pm sl src active ready takes allRate busy waiting uncounted
    exact execLetterTake_waits active ready takes allRate busy waiting uncounted
  case rateCounted => exact fun s pm sl src active busy counted => execLetterTake_counted active busy counted
  case rateAll => exact fun s pm sl src active busy => execLetterTake_allRate active busy
  case crc => exact fun s pm sl r index bytes h head bad => (checkLetter_badCrc head bad).1 r rfl
  case crcInband =>
    exact fun s pm sl port v6 src dst udp index bytes h head bad => (checkLetter_badCrc head bad).2 nofun
  case repeated =>
    intro s pm sl via index bytes h o recent head crc version high param flags phase length octets slice found
    exact checkLetter_repeat ⟨head, crc, version, high, param, flags, phase, length, octets, slice⟩ recent found
  case checkStale =>
    intro s pm sl via index bytes h hi head crc version zero param flags phase length octets slice high old outside
    exact checkLetter_stale ⟨head, crc, version, zero, param, flags, phase, length, octets, slice⟩ high old outside

end Sys2Proof.Machine

namespace Sys2Proof.Machine

/-! # Effect steps journaled, receipts and events written (10 R318, R319, R334, R341, R342; 13 R398, R400-R402) -/

section
variable {s : State} {l : LetterId} {e : Entry}

/-! ## EFFECT_STEP (13 R398, R400, R402) -/

section
variable {pm : Pm} {ack : Bool} (found : s.entry l = some e) (accepted : e.st = .accepted)
  (left : e.journaled < effectSteps e.opcode.toNat) (may : s.mayStep pm e = true)
include found accepted left may

/-- A step that the postmaster may carry out, on a unit that its term does not guard against it. -/
theorem execEffectStep_inTerm (term : s.pm.active = some pm ∨ termChecked e.opcode.toNat = false) :
    execEffectStep pm l ack s = .next (if s.standbyWatches pm ∧ ¬ ack then
        s.setPost (pmOther pm) { s.post (pmOther pm) with ackSince := some ((s.post (pmOther pm)).ackSince.getD s.up) }
      else ((s.setPost (pmOther pm) { s.post (pmOther pm) with ackSince := none }).setEntry l
        { e with pm := pm, journaled := e.journaled + 1 }).settle l) := by
  have inTerm : ¬ (s.pm.active ≠ some pm ∧ termChecked e.opcode.toNat = true) := by
    rintro ⟨inactive, guarded⟩
    exact term.elim inactive (ne_true_of_eq_false · guarded)
  simp only [execEffectStep, found, accepted, left, may, inTerm, and_self, ↓reduceIte]

theorem execEffectStep_stale (inactive : s.pm.active ≠ some pm) (guarded : termChecked e.opcode.toNat = true) :
    execEffectStep pm l ack s = .next (s.bump .pmStaleWrites (pmIdx pm)) := by
  simp only [execEffectStep, found, accepted, left, may, inactive, guarded, ne_eq, not_false_eq_true, and_self, ↓reduceIte]

end

theorem settle_done (found : s.entry l = some e) (accepted : e.st = .accepted) (free : e.waits = false)
    (journaled : effectSteps e.opcode.toNat ≤ e.journaled) : s.settle l = s.finish l e e.receipt := by
  simp only [State.settle, found, accepted, free, journaled, Bool.false_eq_true, not_false_eq_true, and_self, ↓reduceIte]

theorem settle_waits (found : s.entry l = some e) (waits : e.waits = true) : s.settle l = s := by
  simp only [State.settle, found, waits, not_true_eq_false, false_and, and_false, ↓reduceIte]

end

section
variable {s : State} {sl : Fin 64} {r : Fin 8}

/-! ## RECEIPT_WRITE (10 R318, R319, R334) -/

theorem execReceiptWrite_idle (busOk : Bool) (idle : (s.ring sl r).ready = []) :
    execReceiptWrite sl r busOk s = .next s := by
  simp only [execReceiptWrite, idle]

section
variable {rc : Receipt} {rest : List (Receipt × Bool)} {g : Ring} (ring : g = s.ring sl r)
  (ready : g.ready = (rc, true) :: rest) (serves : g.st = .running ∨ g.st = .closing)
  (requests : s.mayRequest sl = true)
include ring ready serves requests

/-- A receipt whose slot was reserved finds room. -/
theorem execReceiptWrite_reserved (busOk : Bool) : execReceiptWrite sl r busOk s = .next (
    if ¬ busOk then (s.setRing sl r { g with ready := rest, reserved := g.reserved - 1 }).ringFault sl r
      (g.receipts + BitVec.ofNat 64 (256 * (g.written.toNat % g.depth)))
    else (((((s.setRing sl r { g with
      ready := rest, reserved := g.reserved - 1, written := g.written + 1#32, owed := g.owed - 1,
      unconfirmed := g.unconfirmed ++ [rc.seq] }).hostWriteLast sl
        (g.receipts + BitVec.ofNat 64 (256 * (g.written.toNat % g.depth)))
        (rc.bytes (decide (g.written.toNat / g.depth % 2 = 0)))).signal (32 * sl + r)).ringDrained sl r).afterReceipt sl
        rc)) := by
  subst ring
  simp only [execReceiptWrite, ready, serves, requests, not_true_eq_false, Bool.true_or, or_self, ↓reduceIte]
  rfl

end

/-! ## EVENT_WRITE (10 R341, R342; 11 R363) -/

theorem execEventWrite_owed (busOk : Bool) (owed : (s.slice sl).st = .resetting ∨ s.owesReceipts sl = true) :
    execEventWrite sl busOk s = .next s := by
  unfold execEventWrite
  dsimp only
  split
  · rfl
  · rw [if_pos (.inr (.inr (.inr owed)))]

theorem execEventWrite_first {ev : Event} {rest : List Event} {g : EventRing} (busOk : Bool) (ring : g = s.evRing sl)
    (first : g.queue = ev :: rest) (defined : g.defined = true) (runs : g.stopped = false)
    (requests : s.mayRequest sl = true) (steady : (s.slice sl).st ≠ .resetting) (paid : s.owesReceipts sl = false) :
    execEventWrite sl busOk s = .next (
      if ¬ busOk then ((s.setEvRing sl { g with stopped := true, lost := true, queue := [] }).bump .eventLost sl 0
        g.queue.length).raise 0x0A02 (sl.val * 256 + 8) (g.addr + BitVec.ofNat 64 (32 * (g.written.toNat % g.depth))).toNat
        0 sl
      else ((s.setEvRing sl { g with
        queue := rest, written := g.written + 1#32, lost := false, owed := g.owed - 1 }).hostWriteLast sl
        (g.addr + BitVec.ofNat 64 (32 * (g.written.toNat % g.depth)))
        (ev.bytes sl (decide (g.written.toNat / g.depth % 2 = 0)) g.lost)).signal (32 * sl + 8)) := by
  subst ring
  simp only [execEventWrite, first, defined, runs, requests, steady, paid, not_true_eq_false, Bool.false_eq_true, or_self,
    ↓reduceIte]

end

/-- Settles O42: a step by whether its term guards it and the standby watches, a receipt and an event by whether the bus
takes them. How many steps a letter has, and so what journal and settle say, is deduced (notes/assumptions/32.md), as are
the stale writes that are counted (notes/assumptions/100.md) and the order in which events wait for owed receipts
(notes/assumptions/147.md). -/
theorem effectStepsAndReceipts : Obligations.EffectStepsAndReceipts := by
  refine ⟨?journal, ?stale, ?unacked, ?settle, ?waits, ?write, ?fault, ?none, ?confirm, ?event, ?eventOwed, ?eventFault⟩
  case journal =>
    intro s pm l ack e found accepted left may term acked
    rw [exec_effectStep, execEffectStep_inTerm found accepted left may term, if_neg]
    rintro ⟨watches, silent⟩
    exact acked.elim (ne_true_of_eq_false · watches) silent
  case stale =>
    intro s pm l ack e found accepted left may inactive guarded
    exact execEffectStep_stale found accepted left may inactive guarded
  case unacked =>
    intro s pm l e found accepted left may term watches
    rw [exec_effectStep, execEffectStep_inTerm found accepted left may term, if_pos ⟨watches, Bool.false_ne_true⟩]
  case settle => exact fun s l e found accepted free journaled => settle_done found accepted free journaled
  case waits => exact fun s l e found waits => settle_waits found waits
  case write =>
    rintro s _ sl r rc rest g ring ready serves requests rfl
    exact execReceiptWrite_reserved ring ready serves requests true
  case fault =>
    exact fun s sl r rc rest g ring ready runs requests => execReceiptWrite_reserved ring ready (.inl runs) requests false
  case none => exact fun s sl r busOk idle => execReceiptWrite_idle busOk idle
  case confirm => exact fun s sl r => rfl
  case event =>
    intro s sl e rest g ring first defined runs requests steady paid
    exact execEventWrite_first true ring first defined runs requests steady paid
  case eventOwed => exact fun s sl ok owed => execEventWrite_owed ok owed
  case eventFault =>
    intro s sl e rest g ring first defined runs requests steady paid
    exact execEventWrite_first false ring first defined runs requests steady paid

end Sys2Proof.Machine

namespace Sys2Proof.Machine

/-! # The management ports: in-band letters, address resolution and echo (10 R323, R325) -/

section
variable {s : State} {port : Fin 2}

/-! ## In-band datagrams (10 R323) -/

/-- A datagram from a peer's binding holds letters that its slice takes: it is addressed to the port, on its VLAN, and
every letter in it is of the slice. -/
structure DatagramFits (s : State) (port : Fin 2) (d : Datagram) (slice : Nat) (letters : List (List Byte)) : Prop where
  active : s.pm.active ≠ none
  ready : s.ready = true
  udp : d.dstPort.toNat = s.mgmt.udp
  own : s.ownAddress port d.v6 d.dst = true
  vlan : d.vlan.toNat = (s.mgmtPort port).vlan
  some_letter : letters ≠ []
  steady : (s.slice slice).st ≠ .resetting
  present : (s.slice slice).st ≠ .absent
  mine : (letters.all fun x => leNat (bslice x 8 1) = slice) = true

theorem execInbandDatagram_fits {d : Datagram} {b : Nat × Ip × Nat} {letters : List (List Byte)}
    (bound : (s.mgmt.bindings.find? fun b => b.2.1 = d.src ∧ b.2.2 = d.srcPort.toNat) = some b)
    (whole : splitLetters 5 d.payload = some letters) (fits : DatagramFits s port d b.1 letters) :
    execInbandDatagram port d s = .next { s with letters := { s.letters with
      inband := nset [] b.1 (s.inband b.1 ++ letters.map fun x => ⟨Via.inband port d.v6 d.src d.srcPort.toNat d.dst, x⟩)
        s.letters.inband } } := by
  obtain ⟨active, ready, udp, own, vlan, some_letter, steady, present, mine⟩ := fits
  simp only [execInbandDatagram, bound, whole, active, ready, udp, own, vlan, some_letter, steady, present, mine, ne_eq,
    not_true_eq_false, or_self, ↓reduceIte]

theorem execInbandDatagram_unbound {d : Datagram}
    (unbound : (s.mgmt.bindings.find? fun b => b.2.1 = d.src ∧ b.2.2 = d.srcPort.toNat) = none) :
    execInbandDatagram port d s = .next (s.bump .letterInbandDrop) := by
  simp only [execInbandDatagram, unbound]

/-! ## Reply datagrams (10 R323, R325) -/

/-- The receipts that leave in one datagram with a slice's oldest: up to four more for its peer that became ready within
10 us. -/
def repliesWith (via : Via) (t0 : Nat) (rest : List (Via × Receipt × Nat)) : List (Via × Receipt × Nat) :=
  (rest.filter fun x => x.1 = via ∧ x.2.2 ≤ t0 + 10000).take 4

section
variable {sl : Fin 64} {v6 : Bool} {addr own : Ip} {udp : Nat} {r0 : Receipt} {t0 : Nat}
  {rest : List (Via × Receipt × Nat)} {via : Via} {u : State} (inband : via = .inband port v6 addr udp own)
  (first : nget [] s.letters.replies sl.val = (via, r0, t0) :: rest) (free : s.sliceHeld sl = false)
  (taken : u = { s with letters := { s.letters with
    replies := nset [] sl.val (rest.filter fun x => x ∉ repliesWith via t0 rest) s.letters.replies } })
include inband first free taken

theorem execInbandReplySend_resolved {hop : Ip} {n : Neighbour} {mac : Mac} (route : u.nextHop port v6 addr = some hop)
    (known : u.neighbour port v6 hop = some n) (resolved : n.mac = some mac) :
    execInbandReplySend sl s = .next ((u.setNeighbour { n with used := u.up }).sendReply sl via
      (r0 :: (repliesWith via t0 rest).map fun x => x.2.1) mac) := by
  subst inband taken
  unfold repliesWith at *
  simp only [execInbandReplySend, first, free, route, known, resolved, Bool.false_eq_true, ↓reduceIte]

theorem execInbandReplySend_noRoute (route : u.nextHop port v6 addr = none) :
    execInbandReplySend sl s = .next (u.bump .letterInbandDrop) := by
  subst inband taken
  unfold repliesWith at *
  simp only [execInbandReplySend, first, free, route, Bool.false_eq_true, ↓reduceIte]

end

/-! ## Requests that the port answers (10 R325) -/

theorem execArpRequest_own {target sender : BitVec 32} {mac : Mac}
    (own : s.ownAddress port false (target.setWidth 128) = true) : execArpRequest port target sender mac s =
      .next (s.emit (.mgmt port 0 false (sender.setWidth 128) (some mac))) := by
  rw [execArpRequest, if_pos own]

theorem execArpRequest_other {target sender : BitVec 32} {mac : Mac}
    (other : s.ownAddress port false (target.setWidth 128) = false) :
    execArpRequest port target sender mac s = .next s := by
  rw [execArpRequest, if_neg (ne_true_of_eq_false other)]

section
variable {target sender : Ip} {mac : Mac}

theorem execNeighbourSolicitation_own (own : s.ownAddress port true target = true) :
    execNeighbourSolicitation port target sender mac s = .next (s.emit (.mgmt port 0 true sender (some mac))) := by
  rw [execNeighbourSolicitation, if_pos own]

theorem execNeighbourSolicitation_other (other : s.ownAddress port true target = false) :
    execNeighbourSolicitation port target sender mac s = .next s := by
  rw [execNeighbourSolicitation, if_neg (ne_true_of_eq_false other)]

end

section
variable {v6 : Bool} {dst src : Ip}

theorem execEchoRequest_answered {recent : List Nat} (own : s.ownAddress port v6 dst = true)
    (counted : recent = (nget [] s.mgmt.echoes port.val).filter (fun t => s.up < t + 1000000000))
    (below : recent.length < 100) : execEchoRequest port v6 dst src s = .next (State.emit { s with
      mgmt := { s.mgmt with echoes := nset [] port.val (recent ++ [s.up]) s.mgmt.echoes } }
      (.mgmt port 2 v6 src none)) := by
  subst counted
  rw [execEchoRequest, if_pos ⟨own, below⟩]

theorem execEchoRequest_limit
    (reached : 100 ≤ ((nget [] s.mgmt.echoes port.val).filter fun t => s.up < t + 1000000000).length) :
    execEchoRequest port v6 dst src s = .next s := by
  rw [execEchoRequest, if_neg fun answers => absurd answers.2 (Nat.not_lt.mpr reached)]

end

/-! ## The neighbour cache (10 R325) -/

section
variable {v6 : Bool} {addr : Ip} {n : Neighbour} (known : s.neighbour port v6 addr = some n)
include known

theorem execAddressResolved_idle {mac : Mac} (idle : s.mgmt.waiting = []) :
    execAddressResolved port v6 addr mac s = .next (s.setNeighbour { n with mac := some mac, used := s.up }) := by
  simp only [execAddressResolved, known, State.setNeighbour, idle, List.filter_nil, List.foldl_nil]

/-- The one reply that waits for the address leaves. -/
theorem execAddressResolved_waiting {mac : Mac} {own : Ip} {udp : Nat} {rs : List Receipt} {u : State}
    (waits : s.mgmt.waiting = [(addr, .inband port v6 addr udp own, rs)])
    (resolved : u = s.setNeighbour { n with mac := some mac, used := s.up }) :
    execAddressResolved port v6 addr mac s = .next (State.sendReply { u with mgmt := { u.mgmt with waiting := [] } }
      (replySlice rs) (.inband port v6 addr udp own) rs mac) := by
  subst resolved
  simp only [execAddressResolved, known, State.setNeighbour, waits, List.filter_cons, List.filter_nil, beq_self_eq_true,
    decide_true, Bool.and_self, Bool.not_true, Bool.false_eq_true, ↓reduceIte, List.foldl_cons, List.foldl_nil]

section
variable (unresolved : n.mac = none) (due : n.used + 1000000000 ≤ s.up)
include unresolved due

theorem execResolutionRetry_again (tries : n.tries < 3) : execResolutionRetry port v6 addr s =
    .next ((s.setNeighbour { n with used := s.up, tries := n.tries + 1 }).emit (.mgmt port 1 v6 addr none)) := by
  simp only [execResolutionRetry, known, unresolved, due, tries, and_self, ↓reduceIte]

theorem execResolutionRetry_last (tries : 3 ≤ n.tries) (idle : s.mgmt.waiting = []) :
    execResolutionRetry port v6 addr s = .next (State.bump { s with mgmt := { s.mgmt with
      waiting := [], neighbours := s.mgmt.neighbours.filter fun o => o ≠ n } } .letterInbandDrop 0 0 0) := by
  simp only [execResolutionRetry, known, unresolved, due, Nat.not_lt.mpr tries, idle, and_self, ↓reduceIte,
    List.filter_nil, List.length_nil]

end

theorem execNeighbourExpiry_unused (resolved : n.mac ≠ none) (unused : n.used + 300000000000 ≤ s.up) :
    execNeighbourExpiry port v6 addr s =
      .next { s with mgmt := { s.mgmt with neighbours := s.mgmt.neighbours.filter fun o => o ≠ n } } := by
  simp only [execNeighbourExpiry, known, resolved, unused, ne_eq, not_false_eq_true, and_self, ↓reduceIte]

end
end

/-- Settles O43: a datagram by its binding, a reply by its route, a request by whether the port has the address, a cache
entry by its resolution and its age. That an answer leaves the cache as it was is deduced (notes/assumptions/77.md). -/
theorem managementPorts : Obligations.ManagementPorts := by
  refine ⟨?datagram, ?unbound, ?reply, ?noRoute, ?arp, ?solicit, ?notMine, ?echo, ?echoLimit, ?resolved, ?waiting, ?other,
    ?retry, ?retryEnd, ?expiry⟩
  case datagram =>
    intro s port d b letters bound whole active ready udp own vlan some_letter steady present mine
    exact execInbandDatagram_fits bound whole ⟨active, ready, udp, own, vlan, some_letter, steady, present, mine⟩
  case unbound => exact fun s port d unbound => execInbandDatagram_unbound unbound
  case reply =>
    intro s u sl port v6 addr own hop udp r0 t0 rest via n mac inband first free taken route known resolved
    exact execInbandReplySend_resolved inband first free taken route known resolved
  case noRoute =>
    intro s u sl port v6 addr own udp r0 t0 rest via inband first free taken route
    exact execInbandReplySend_noRoute inband first free taken route
  case arp => exact fun s port target sender mac own => execArpRequest_own own
  case solicit => exact fun s port target sender mac own => execNeighbourSolicitation_own own
  case notMine =>
    intro s port t4 s4 t6 s6 mac other4 other6
    exact ⟨execArpRequest_other other4, execNeighbourSolicitation_other other6⟩
  case echo => exact fun s port v6 dst src recent own counted below => execEchoRequest_answered own counted below
  case echoLimit => exact fun s port v6 dst src reached => execEchoRequest_limit reached
  case resolved => exact fun s port v6 addr mac n known idle => execAddressResolved_idle known idle
  case waiting =>
    exact fun s u port v6 addr own udp mac n rs known waits resolved => execAddressResolved_waiting known waits resolved
  case other => exact fun s port => rfl
  case retry => exact fun s port v6 addr n known unresolved due tries => execResolutionRetry_again known unresolved due tries
  case retryEnd =>
    exact fun s port v6 addr n known unresolved due tries idle => execResolutionRetry_last known unresolved due tries idle
  case expiry => exact fun s port v6 addr n known resolved unused => execNeighbourExpiry_unused known resolved unused

end Sys2Proof.Machine

namespace Sys2Proof.Machine

/-! # Slices: quotas, holds, resets and dirty-page logs (11 R346-R373; 10 R323) -/

section
variable {s : State} {l : LetterId} {slice : W32}

theorem inRange_passes {n lo hi : Nat} (low : lo ≤ n) (high : n ≤ hi) :
    (decide (n < lo) || decide (hi < n)) = false := by
  rw [decide_eq_false (Nat.not_lt.mpr low), decide_eq_false (Nat.not_lt.mpr high), Bool.or_false]

/-! ## Quota lists (11 R350-R355, R360) -/

/-- A quota list that a slice may be granted as it is: its items are legal and within their ranges, no code stands twice,
its banks exist and no item is refused. -/
structure QuotasGranted (s : State) (i : Nat) (quotas : ListArg QuotaItem) (qs : List QuotaItem) : Prop where
  count_low : 1 ≤ quotas.count.toNat
  count_high : quotas.count.toNat ≤ 25
  items : quotas.items = some qs
  legal : qs.any badQuota = false
  once : noTwice (qs.map itemCode) = true
  banks : qs.any s.noBank = false
  granted : ∀ q ∈ qs, s.quotaRefused i q = false
  unclamped : quotaClamped qs = false

section
variable {quotas : ListArg QuotaItem} {qs : List QuotaItem}

/-- Each of the three lists of checks passes. -/
theorem QuotasGranted.checks_pass {i : Nat} (h : QuotasGranted s i quotas qs) (param : Nat) :
    (∀ c ∈ (s.quotaChecks i qs param).1, c.1 = false) ∧ (∀ c ∈ (s.quotaChecks i qs param).2.1, c.1 = false) ∧
      ∀ c ∈ (s.quotaChecks i qs param).2.2, c.1 = false := by
  obtain ⟨-, -, -, legal, once, banks, granted, -⟩ := h
  refine ⟨?_, ?_, ?_⟩
  · simp [State.quotaChecks, malformed, legal, once]
  · simp [State.quotaChecks, noObj, banks]
  · simp only [State.quotaChecks, List.forall_mem_map]
    exact granted

/-! ## SLICE.CREATE (11 R346, R350-R355; 10 R316) -/

theorem execSliceCreate_accepted {pasid depth : W32} {letters receipts : W64}
    (h : Claimed s l 0x0F01 [p4 slice, p4 pasid, pL quotas, p8 letters, p8 receipts, p4 depth])
    (quota : QuotasGranted s slice.toNat quotas qs) (low : 1 ≤ slice.toNat) (high : slice.toNat ≤ 63)
    (pasid_le : pasid.toNat ≤ 1048575) (letters_page : letters.toNat % 4096 = 0)
    (receipts_page : receipts.toNat % 4096 = 0) (depth_ok : badDepth depth = false)
    (absent : (s.slice slice.toNat).st = .absent)
    (own : (0 :: s.liveSlices).any (fun j => decide ((s.slice j).pasid.toNat = pasid.toNat)) = false)
    (unheld : qs.any (fun q => decide (itemCode q = 8) && decide (itemAmount q = 0)) = false) :
    ∃ t, exec (.sliceCreate l slice pasid quotas letters receipts depth) s = .next t ∧ Accepted s
      ((s.setSlice slice.toNat (Slice.grant
        { st := .active, pasid := BitVec.ofNat 20 pasid.toNat, held := false, heldAt := s.up } qs)).setRing slice.toNat 0
        { st := .running, letters := letters, receipts := receipts, depth := depth.toNat }) t l .done
      (quotaApplied qs) := by
  obtain ⟨six, seven, eleven⟩ := quota.checks_pass 2
  refine ⟨_, rfl, runLetter_accepted h fun c hc => (checked_ok ?_).trans ?_⟩
  · simp only [List.forall_mem_cons, List.not_mem_nil, false_implies, implies_true, and_true, malformed]
    exact ⟨inRange_passes low high, decide_eq_false (Nat.not_lt.mpr pasid_le),
      inRange_passes quota.count_low quota.count_high, decide_eq_false (not_not_intro letters_page),
      decide_eq_false (not_not_intro receipts_page), depth_ok⟩
  · simp only [withList, quota.items]
    refine (checked_ok ?_).trans ?_
    · simp only [List.forall_mem_append, List.forall_mem_cons, List.not_mem_nil, false_implies, implies_true, and_true,
        busy, notPermitted, absent, own]
      exact ⟨⟨⟨six, seven⟩, by simp⟩, eleven⟩
    · simp only [unheld, quota.unclamped, Bool.false_eq_true, ↓reduceIte]
      rfl

/-! ## SLICE.SET_SHARE (11 R350-R355, R358-R362, R371) -/

section
variable (quota : QuotasGranted s slice.toNat quotas qs)
include quota

theorem setShareShape_passes (high : slice.toNat ≤ 63) : ∀ c ∈ [malformed (decide (63 < slice.toNat)) 0,
    malformed (decide (quotas.count.toNat < 1) || decide (25 < quotas.count.toNat)) 1], c.1 = false := by
  simp only [List.forall_mem_cons, List.not_mem_nil, false_implies, implies_true, and_true, malformed]
  exact ⟨decide_eq_false (Nat.not_lt.mpr high), inRange_passes quota.count_low quota.count_high⟩

variable (present : (s.slice slice.toNat).st ≠ .absent) (steady : (s.slice slice.toNat).st ≠ .resetting)
include present steady

theorem setShareChecks_pass : ∀ c ∈ (s.quotaChecks slice.toNat qs 1).1 ++
    [noObj (decide ((s.slice slice.toNat).st = .absent)) 0] ++ (s.quotaChecks slice.toNat qs 1).2.1 ++
    [busy (decide ((s.slice slice.toNat).st = .resetting)) 0] ++ (s.quotaChecks slice.toNat qs 1).2.2, c.1 = false := by
  obtain ⟨six, seven, eleven⟩ := quota.checks_pass 1
  simp only [List.forall_mem_append, List.forall_mem_cons, List.not_mem_nil, false_implies, implies_true, and_true,
    busy, noObj, decide_eq_false_iff_not]
  exact ⟨⟨⟨⟨six, present⟩, seven⟩, steady⟩, eleven⟩

variable (high : slice.toNat ≤ 63) (h : Claimed s l 0x0F02 [p4 slice, pL quotas])
include high h

theorem execSliceSetShare_shares (unasked : (qs.find? fun q => itemCode q = 8) = none) :
    ∃ t, exec (.sliceSetShare l slice quotas) s = .next t ∧
      Accepted s (s.setSlice slice.toNat ((s.slice slice.toNat).grant qs)) t l .done (quotaApplied qs) := by
  refine ⟨_, rfl, runLetter_accepted h fun c hc => (checked_ok (setShareShape_passes quota high)).trans ?_⟩
  simp only [withList, quota.items]
  refine (checked_ok (setShareChecks_pass quota present steady)).trans ?_
  simp only [unasked, quota.unclamped]
  rfl

/-- A hold that a letter asks for begins at once, and the letter waits for it. -/
theorem execSliceSetShare_holds {q : QuotaItem} (asks : (qs.find? fun q => itemCode q = 8) = some q)
    (none : itemAmount q = 0) (free : (s.slice slice.toNat).held = false) :
    ∃ t, exec (.sliceSetShare l slice quotas) s = .next t ∧
      Accepted s ((s.setSlice slice.toNat ((s.slice slice.toNat).grant qs)).holdSlice slice.toNat l) t l .done
        (quotaApplied qs) true := by
  refine ⟨_, rfl, runLetter_accepted h fun c hc => (checked_ok (setShareShape_passes quota high)).trans ?_⟩
  simp only [withList, quota.items]
  refine (checked_ok (setShareChecks_pass quota present steady)).trans ?_
  simp only [asks, Option.map_some, none, free, quota.unclamped, Bool.false_eq_true, ↓reduceIte]
  rfl

end
end

/-! ## The other letters of a slice (11 R349, R373; 10 R323) -/

theorem execSliceDelete_cleared (h : Claimed s l 0x0F04 [p4 slice]) (low : 1 ≤ slice.toNat) (high : slice.toNat ≤ 63)
    (cleared : (s.slice slice.toNat).st = .cleared) :
    ∃ t u, exec (.sliceDelete l slice) s = .next t ∧ u = (((((if (s.slice slice.toNat).held then
        s.bump .sliceHeldNs slice.toNat 0 1 (s.up - (s.slice slice.toNat).heldAt) else s).setSlice slice.toNat
        (Slice.initial slice.toNat)).setRing slice.toNat 0 {}).setLedger slice.toNat {}).setEvRing slice.toNat
        {}).endRingFaults slice.toNat ∧
      Accepted s { u with mgmt := { u.mgmt with bindings := u.mgmt.bindings.filter fun b => b.1 ≠ slice.toNat } } t l
        .done (layBody [p4 slice]) := by
  refine ⟨_, _, rfl, rfl, runLetter_accepted h fun c hc => (checked_ok ?_).trans rfl⟩
  simp only [List.forall_mem_cons, List.not_mem_nil, false_implies, implies_true, and_true, malformed, busy]
  exact ⟨inRange_passes low high, decide_eq_false (not_not_intro cleared)⟩

theorem execSliceBindInband_accepted {address : Ip} {port : W32}
    (h : Claimed s l 0x0F05 [p4 slice, pBe address.toNat 16, p4 port]) (high : slice.toNat ≤ 63)
    (present : (s.slice slice.toNat).st ≠ .absent) (port_low : 1 ≤ port.toNat) (port_high : port.toNat ≤ 65535)
    (unbound : s.mgmt.bindings.any
      (fun b => decide (b.1 ≠ slice.toNat ∧ b.2.1 = address ∧ b.2.2 = port.toNat)) = false) :
    ∃ t, exec (.sliceBindInband l slice address port) s = .next t ∧ Accepted s { s with mgmt := { s.mgmt with
      bindings := (s.mgmt.bindings.filter fun b => b.1 ≠ slice.toNat) ++ [(slice.toNat, address, port.toNat)] } } t l
      .done (layBody [p4 slice, pBe address.toNat 16, p4 port]) := by
  refine ⟨_, rfl, runLetter_accepted h fun c hc => ?_⟩
  simp only [clampU_mem (w := 32) (by omega) port_low port_high, qty_v_some]
  refine (checked_ok ?_).trans rfl
  simp only [List.forall_mem_cons, List.not_mem_nil, false_implies, implies_true, and_true, malformed, noKeep, noObj,
    notPermitted, Option.isNone_some, true_and]
  exact ⟨decide_eq_false (Nat.not_lt.mpr high), decide_eq_false present, unbound⟩

theorem execSliceStatus_accepted (h : Claimed s l 0x0F07 [p4 slice]) (high : slice.toNat ≤ 63)
    (may : l.slice.val = 0 ∨ l.slice.val = slice.toNat) :
    ∃ t, exec (.sliceStatus l slice) s = .next t ∧ Accepted s s t l .done (leBytes (s.slice slice.toNat).st.code 1 ++
      leBytes (b2n (s.slice slice.toNat).dirty.isSome + 2 * b2n (s.slice slice.toNat).dirtyStopped) 1 ++ leBytes 0 2 ++
      leBytes (s.slice slice.toNat).pasid.toNat 4 ++ (List.range 25).flatMap fun k =>
        leBytes (s.quotaUse slice.toNat (k + 1)) 8) := by
  refine ⟨_, rfl, runLetter_accepted h fun c hc => (checked_ok ?_).trans rfl⟩
  subst hc
  simp only [List.forall_mem_cons, List.not_mem_nil, false_implies, implies_true, and_true, malformed, noObj, Ctx.sl]
  exact ⟨decide_eq_false (Nat.not_lt.mpr high), decide_eq_false fun ⟨other, foreign⟩ => may.elim other foreign⟩

/-! ## SLICE_HOLD_QUIESCED (11 R361) -/

theorem execSliceHoldQuiesced_quiet {i : Fin 64} (waits : (s.slice i).holdLetter = some l)
    (held : (s.slice i).held = true) (quiet : s.sliceQuiet i = true) : execSliceHoldQuiesced i s =
      .next ((s.setSlice i { s.slice i with holdLetter := none }).release l) := by
  simp only [execSliceHoldQuiesced, waits, held, quiet, and_self, ↓reduceIte]

theorem execSliceHoldQuiesced_busy {i : Fin 64} (busy : s.sliceQuiet i = false) :
    execSliceHoldQuiesced i s = .next s := by
  unfold execSliceHoldQuiesced
  dsimp only
  split
  · rw [if_neg (by simp [busy])]
  · rfl

/-! ## SLICE.RESET (11 R363, R366) -/

theorem zeroReceipt_other (t : State) (other : slice ≠ 0#32) : t.zeroReceipt l slice = t := if_pos other

theorem execSliceReset_claimed (h : Claimed s l 0x0F03 [p4 slice]) : execSliceReset l slice s =
    .next ((runLetter l 0x0F03 [p4 slice] (fun _ => s.resetVerdict l slice.toNat (layBody [p4 slice])) s).zeroReceipt l
      slice) := by
  have claimed : (s.claimed l 0x0F03 [p4 slice]).isSome = true := h
  simp only [execSliceReset, claimed, ↓reduceIte]

theorem ne_zero_of_low (low : 1 ≤ slice.toNat) : slice ≠ 0#32 := by
  rintro rfl
  exact absurd low (by decide)

section
variable (h : Claimed s l 0x0F03 [p4 slice]) (low : 1 ≤ slice.toNat) (high : slice.toNat ≤ 63)
include h low high

theorem execSliceReset_starts (free : s.epochFree = true)
    (alone : s.liveSlices.any (fun j => decide ((s.slice j).st = .resetting)) = false)
    (st : (s.slice slice.toNat).st = .active ∨ (s.slice slice.toNat).st = .held ∨
      (s.slice slice.toNat).st = .cleared) :
    ∃ t, exec (.sliceReset l slice) s = .next t ∧
      Accepted s (s.startReset slice.toNat l) t l .done (layBody [p4 slice]) true := by
  have nonzero := Nat.pos_iff_ne_zero.mp low
  have resets : (decide ((s.slice slice.toNat).st = .active) || decide ((s.slice slice.toNat).st = .held) ||
      decide ((s.slice slice.toNat).st = .cleared)) = true := by
    simpa [or_assoc] using st
  refine ⟨_, (execSliceReset_claimed h).trans (congrArg _ (zeroReceipt_other _ (ne_zero_of_low low))),
    runLetter_accepted h fun c hc => ?_⟩
  unfold State.resetVerdict
  refine (checked_ok ?_).trans (if_neg nonzero)
  simp only [List.forall_mem_cons, List.not_mem_nil, false_implies, implies_true, and_true, malformed, busy, free, alone,
    resets, Bool.not_true, Bool.or_false, Bool.and_false]
  exact decide_eq_false (Nat.not_lt.mpr high)

theorem execSliceReset_busy (taken : s.epochFree = false) :
    ∃ t, exec (.sliceReset l slice) s = .next t ∧ Rejected s t l .busy 0 := by
  refine ⟨_, (execSliceReset_claimed h).trans (congrArg _ (zeroReceipt_other _ (ne_zero_of_low low))),
    runLetter_rejected (r := ⟨.busy, 0, 0⟩) h fun c hc => ?_⟩
  unfold State.resetVerdict
  simp only [taken, Bool.not_false, Bool.true_or, Bool.and_true, decide_eq_true (Nat.pos_iff_ne_zero.mp low)]
  exact checked_rejected (cs := [malformed _ 0]) (by simp [malformed, high])

end

/-- The receipt of a reset of slice 0 is written on ring 0. -/
theorem execSliceReset_zero (h : Claimed s l 0x0F03 [p4 0]) :
    ∃ t u, exec (.sliceReset l 0) s = .next (t.zeroReceipt l 0) ∧ u = s.resetZero l ∧ Accepted s u t l .done (layBody [p4 0]) :=
  ⟨_, _, execSliceReset_claimed h, rfl, runLetter_accepted h fun _ _ => rfl⟩

/-! ## The steps of a reset (11 R363-R365; 13 R400) -/

theorem execSliceQuiescence_headless (w r : BitVec 32) (headless : s.pm.active = none) :
    execSliceQuiescence w r s = .next s := by
  rw [execSliceQuiescence, if_pos (by rw [headless]; rfl)]

theorem execSliceResetClear_headless (headless : s.pm.active = none) : execSliceResetClear s = .next s := by
  rw [execSliceResetClear, if_pos (by rw [headless]; rfl)]

section
variable {w r : BitVec 32} {i : Nat} {v : Slice}

section
variable (first : (s.slices.find? fun e => e.2.st = .resetting ∧ (e.2.resetStep = 2 ∨ e.2.resetStep = 3)) = some (i, v))
  (squashes : v.resetStep = 2)
include first squashes

theorem execSliceQuiescence_squashes (active : s.pm.active.isSome = true)
    (quiet : s.sliceQuiet i = true ∨ v.held = true ∨ v.resetAt + 2000000 ≤ s.up)
    (free : (s.squash i w.toNat r.toNat).epochFree = true) :
    execSliceQuiescence w r s = .next ((s.squash i w.toNat r.toNat).startDeletions i) := by
  have goes : ¬ (¬ s.sliceQuiet i = true ∧ ¬ v.held = true ∧ s.up < v.resetAt + 2000000) := by
    rintro ⟨moving, unheld, early⟩
    exact quiet.elim moving fun h => h.elim unheld (Nat.not_le.mpr early)
  simp only [execSliceQuiescence, Option.isNone_eq_false_iff.mpr active, first, squashes, goes, free,
    Bool.false_eq_true, true_and, ↓reduceIte]

theorem execSliceQuiescence_waits (moving : s.sliceQuiet i = false) (unheld : v.held = false)
    (early : s.up < v.resetAt + 2000000) : execSliceQuiescence w r s = .next s := by
  simp only [execSliceQuiescence, first, squashes, moving, unheld, early, Bool.false_eq_true, not_false_eq_true,
    and_self, ↓reduceIte, ite_self]

end

theorem execSliceResetClear_clears (active : s.pm.active.isSome = true)
    (first : (s.slices.find? fun e => e.2.st = .resetting ∧ e.2.resetStep = 5) = some (i, v)) :
    execSliceResetClear s = .next (((s.clearSlice i).modSlice i fun v => { v with
      st := .cleared, resetStep := 0, resetLetter := none }).release? v.resetLetter) := by
  simp only [execSliceResetClear, Option.isNone_eq_false_iff.mpr active, first, Bool.false_eq_true, ↓reduceIte]

end

/-! ## SLICE.DIRTY_LOG (11 R367-R371) -/

section
variable {bitmap size : W64} (high : slice.toNat ≤ 63) (present : (s.slice slice.toNat).st ≠ .absent)
  (steady : (s.slice slice.toNat).st ≠ .resetting)
include high present steady

theorem execSliceDirtyLog_starts {busOk : Bool} (h : Claimed s l 0x0F06 [p4 slice, p4 1, p8 bitmap, p8 size])
    (pages : size.toNat % 4096 = 0) (size_low : 4096 ≤ size.toNat) (size_high : size.toNat ≤ 2 ^ 30)
    (off : (s.slice slice.toNat).dirty = none)
    (unused : s.slices.any (fun e => e.2.dirty.any fun d => d.1 = bitmap) = false) :
    ∃ t, exec (.sliceDirtyLog l slice 1 bitmap size busOk) s = .next t ∧
      Accepted s (s.modSlice slice.toNat fun v => { v with
        dirty := some (bitmap, size.toNat), dirtyStopped := false, pages := [], beyond := 0 }) t l .done
        (layBody [p4 slice, p4 1, p8 bitmap, p8 size, n8 (s.slice slice.toNat).beyond]) := by
  refine ⟨_, rfl, runLetter_accepted h fun c hc => (checked_ok ?_).trans ?_⟩
  · have sized : (decide (size.toNat % 4096 ≠ 0) || decide (size.toNat < 4096) ||
        decide (2 ^ 30 < size.toNat)) = false := by
      rw [decide_eq_false (not_not_intro pages), Bool.false_or]
      exact inRange_passes size_low size_high
    simp only [List.forall_mem_cons, List.not_mem_nil, false_implies, implies_true, and_true, malformed, noObj, busy,
      sized, unused, Bool.and_false, true_and]
    exact ⟨decide_eq_false (Nat.not_lt.mpr high), by decide, decide_eq_false present, decide_eq_false steady⟩
  · simp only [State.endBitmap, off]
    rfl

/-- A log that ends writes its bitmap a last time. -/
theorem execSliceDirtyLog_ends {old : W64} {n : Nat} (h : Claimed s l 0x0F06 [p4 slice, p4 0, p8 bitmap, p8 size])
    (on : (s.slice slice.toNat).dirty = some (old, n)) :
    ∃ t, exec (.sliceDirtyLog l slice 0 bitmap size true) s = .next t ∧
      Accepted s ((s.setSlice slice.toNat { s.slice slice.toNat with dirty := none, pages := [], beyond := 0 }).writeBitmap
        old (s.slice slice.toNat).pages) t l .done
        (layBody [p4 slice, p4 0, p8 bitmap, p8 size, n8 (s.slice slice.toNat).beyond]) := by
  refine ⟨_, rfl, runLetter_accepted h fun c hc => (checked_ok ?_).trans ?_⟩
  · have unlogged : decide ((0 : W32) = 1#32) = false := by decide
    simp only [List.forall_mem_cons, List.not_mem_nil, false_implies, implies_true, and_true, malformed, noObj, busy,
      unlogged, Bool.false_and, true_and]
    exact ⟨decide_eq_false (Nat.not_lt.mpr high), by decide, decide_eq_false present, decide_eq_false steady⟩
  · simp only [State.endBitmap, on]
    rfl

end

/-- A write within one page that the log covers marks that page. -/
theorem dirtyMark_page {sl addr len size : Nat} {bitmap : W64} (on : (s.slice sl).dirty = some (bitmap, size))
    (within : addr % 4096 + max len 1 ≤ 4096) (covered : addr / 4096 < size * 8)
    (unmarked : addr / 4096 ∉ (s.slice sl).pages) : s.dirtyMark sl addr len =
      s.setSlice sl { s.slice sl with pages := (s.slice sl).pages ++ [addr / 4096] } := by
  have one : (addr + max len 1 - 1) / 4096 + 1 - addr / 4096 = 1 := by omega
  have pages : (List.range ((addr + max len 1 - 1) / 4096 + 1 - addr / 4096)).map (· + addr / 4096) = [addr / 4096] := by
    simp [one]
  simp [State.dirtyMark, on, pages, covered, unmarked]

end

/-- Settles O44: a letter by its checks, which all pass but where an epoch stands in the way, a hold and a reset by the
quiescence of the slice, a log by whether it runs already. That the applied block of a quota list is cut at 224 bytes is
the model's choice (notes/assumptions/61.md); what resetBusy and bind say beyond the rules (notes/assumptions/75.md), where
the receipt of resetZero goes, the applied block of a dirty log (notes/assumptions/76.md) and when a bitmap is in use
(notes/assumptions/151.md) are deduced. -/
theorem slicesAndDirtyPages : Obligations.SlicesAndDirtyPages := by
  refine ⟨?create, ?setShare, ?hold, ?delete, ?bind, ?status, ?quiesced, ?notQuiet, ?reset, ?resetBusy, ?resetZero,
    ?quiescence, ?quiescenceWaits, ?headless, ?cleared, ?dirtyStart, ?dirtyEnd, ?dirtyMark⟩
  case create =>
    intro s l slice pasid quotas letters receipts depth qs granted h low high pasid_le count_low count_high letters_page
      receipts_page depth_ok items legal once banks absent own unclamped unheld
    exact execSliceCreate_accepted h ⟨count_low, count_high, items, legal, once, banks, granted, unclamped⟩ low high
      pasid_le letters_page receipts_page depth_ok absent own unheld
  case setShare =>
    intro s l slice quotas qs granted h high count_low count_high items legal once banks present steady unclamped unasked
    exact execSliceSetShare_shares ⟨count_low, count_high, items, legal, once, banks, granted, unclamped⟩ present steady
      high h unasked
  case hold =>
    intro s l slice quotas q qs granted h high count_low count_high items legal once banks present steady unclamped asks
      none free
    exact execSliceSetShare_holds ⟨count_low, count_high, items, legal, once, banks, granted, unclamped⟩ present steady
      high h asks none free
  case delete => exact fun s l slice h low high cleared => execSliceDelete_cleared h low high cleared
  case bind =>
    intro s l slice address port h high present port_low port_high unbound
    exact execSliceBindInband_accepted h high present port_low port_high unbound
  case status => exact fun s l slice h high may => execSliceStatus_accepted h high may
  case quiesced => exact fun s slice l waits held quiet => execSliceHoldQuiesced_quiet waits held quiet
  case notQuiet => exact fun s slice busy => execSliceHoldQuiesced_busy busy
  case reset => exact fun s l slice h low high free alone st => execSliceReset_starts h low high free alone st
  case resetBusy => exact fun s l slice h low high taken => execSliceReset_busy h low high taken
  case resetZero => exact fun s l h => execSliceReset_zero h
  case quiescence =>
    rintro s _ w r i v active first squashes quiet rfl free
    exact execSliceQuiescence_squashes first squashes active quiet free
  case quiescenceWaits =>
    exact fun s u w r i v first squashes moving unheld early => execSliceQuiescence_waits first squashes moving unheld early
  case headless =>
    exact fun s w r headless => ⟨execSliceQuiescence_headless w r headless, execSliceResetClear_headless headless⟩
  case cleared =>
    intro s u i v active first cleared
    rw [cleared]
    exact execSliceResetClear_clears active first
  case dirtyStart =>
    intro s l slice bitmap size busOk h high pages size_low size_high present steady off unused
    exact execSliceDirtyLog_starts high present steady h pages size_low size_high off unused
  case dirtyEnd =>
    exact fun s l slice bitmap size old n h high present steady on => execSliceDirtyLog_ends high present steady h on
  case dirtyMark =>
    exact fun s sl addr len size bitmap on within covered unmarked => dirtyMark_page on within covered unmarked

end Sys2Proof.Machine

namespace Sys2Proof.Machine

/-! # Courier channels: letters, doorbells and boundaries (11 R358, R359; 12 R376-R378, R384, R387, R388, R391) -/

section
variable {s : State} {l : LetterId}

/-! ## What a channel letter checks (11 R356, R358, R359) -/

/-- The channel that a letter names exists for its sender. -/
structure NamesChan (s : State) (l : LetterId) (channel : W32) : Prop where
  numbered : channel.toNat ≤ 63
  own : s.chanOwner channel.toNat = l.slice.val

section
variable {channel : W32}

theorem NamesChan.number_passes (h : NamesChan s l channel) : (malformed (decide (63 < channel.toNat)) 0).1 = false :=
  decide_eq_false (Nat.not_lt.mpr h.numbered)

theorem NamesChan.noChan_passes {c : Ctx} (h : NamesChan s c.l channel) : (noChan s c channel).1 = false :=
  decide_eq_false (not_not_intro h.own)

/-- A letter with the channel as its one parameter passes when the channel's state allows it. -/
theorem NamesChan.checks_pass {c : Ctx} {barred : Bool} (h : NamesChan s c.l channel) (allowed : barred = false) :
    ∀ x ∈ [malformed (decide (63 < channel.toNat)) 0, noChan s c channel, busy barred 0], x.1 = false := by
  simp only [List.forall_mem_cons, List.not_mem_nil, false_implies, implies_true, and_true]
  exact ⟨h.number_passes, h.noChan_passes, allowed⟩

/-- A share is judged beside the shares of the slice's other channels: a CLOSED channel counts for none. -/
theorem shareOver_closed {c : Ctx} {share param : Nat} (closed : (s.chan channel.toNat).st = .closed)
    (within : s.shareSum c.sl + share ≤ s.countOf c.sl 7) : (shareOver s c channel share param).1 = false := by
  simp only [shareOver, notPermitted, closed, ↓reduceIte, Nat.sub_zero, decide_eq_false (Nat.not_lt.mpr within),
    Bool.and_false]

theorem shareOver_opened {share param : Nat} (c : Ctx) (opened : (s.chan channel.toNat).st ≠ .closed) :
    shareOver s c channel share param = notPermitted (decide ((s.chan channel.toNat).share < share) &&
      decide (s.countOf c.sl 7 < s.shareSum c.sl - (s.chan channel.toNat).share + share)) param := by
  simp only [shareOver, opened, ↓reduceIte]

/-! ## COURIER.OPEN_CHANNEL (12 R376-R378; 11 R358) -/

section
variable {ring : W64} {depth share : W32} (h : Claimed s l 0x1001 [p4 channel, p8 ring, p4 depth, p4 share])
  (names : NamesChan s l channel) (page : ring.toNat % 4096 = 0) (depth_ok : badDepth depth = false)
  (share_low : 1 ≤ share.toNat) (share_high : share.toNat ≤ 1024)
include h names page depth_ok share_low share_high

theorem execCourierOpenChannel_opens (closed : (s.chan channel.toNat).st = .closed)
    (within : s.shareSum l.slice + share.toNat ≤ s.countOf l.slice 7) :
    ∃ t, exec (.courierOpenChannel l channel ring depth share) s = .next t ∧
      Accepted s (s.setChan channel.toNat { st := .running, ring := ring, depth := depth.toNat, share := share.toNat }) t
        l .done (layBody [p4 channel, p8 ring, p4 depth, n4 share.toNat]) := by
  refine ⟨_, rfl, runLetter_accepted h fun c hc => ?_⟩
  subst hc
  simp only [clampU_mem (w := 32) (by omega) share_low share_high, qty_v_some]
  refine (checked_ok ?_).trans rfl
  simp only [List.forall_mem_cons, List.not_mem_nil, false_implies, implies_true, and_true]
  exact ⟨names.number_passes, decide_eq_false (not_not_intro page), depth_ok, rfl, names.noChan_passes,
    decide_eq_false (not_not_intro closed), shareOver_closed closed within⟩

theorem execCourierOpenChannel_busy (opened : (s.chan channel.toNat).st ≠ .closed) :
    ∃ t, exec (.courierOpenChannel l channel ring depth share) s = .next t ∧ Rejected s t l .busy 0 := by
  refine ⟨_, rfl, runLetter_rejected (r := ⟨.busy, 0, 0⟩) h fun c hc => ?_⟩
  subst hc
  simp only [clampU_mem (w := 32) (by omega) share_low share_high, qty_v_some, decide_eq_true opened]
  refine checked_rejected (cs := [malformed _ 0, malformed _ 1, malformed _ 2, noKeep _ 3, noChan s c channel]) ?_
  simp only [List.forall_mem_cons, List.not_mem_nil, false_implies, implies_true, and_true]
  exact ⟨names.number_passes, decide_eq_false (not_not_intro page), depth_ok, rfl, names.noChan_passes⟩

end

/-! ## COURIER.STOP and COURIER.CLOSE (12 R377, R388, R391) -/

section
variable (names : NamesChan s l channel)
include names

/-- A channel that runs stops at its boundary, and the letter waits for it. -/
theorem execCourierStop_running (h : Claimed s l 0x1002 [p4 channel]) (running : (s.chan channel.toNat).st = .running) :
    ∃ t, exec (.courierStop l channel) s = .next t ∧
      Accepted s (s.setChan channel.toNat { s.chan channel.toNat with st := .stopping, stopLetter := some l }) t l .done
        (layBody [p4 channel]) true := by
  refine ⟨_, rfl, runLetter_accepted h fun c hc => ?_⟩
  subst hc
  simp only [running]
  exact (checked_ok (names.checks_pass rfl)).trans rfl

theorem execCourierStop_stopped (h : Claimed s l 0x1002 [p4 channel]) (stopped : (s.chan channel.toNat).st = .stopped) :
    ∃ t, exec (.courierStop l channel) s = .next t ∧ Accepted s s t l .done (layBody [p4 channel]) := by
  refine ⟨_, rfl, runLetter_accepted h fun c hc => ?_⟩
  subst hc
  simp only [stopped]
  exact (checked_ok (names.checks_pass rfl)).trans rfl

theorem execCourierClose_stopped (h : Claimed s l 0x1003 [p4 channel]) (stopped : (s.chan channel.toNat).st = .stopped) :
    ∃ t, exec (.courierClose l channel) s = .next t ∧
      Accepted s (s.closeChan channel.toNat) t l .done (layBody [p4 channel]) := by
  refine ⟨_, rfl, runLetter_accepted h fun c hc => ?_⟩
  subst hc
  exact (checked_ok (names.checks_pass (decide_eq_false (not_not_intro stopped)))).trans rfl

end

/-! ## COURIER.SET_SHARE (12 R387; 11 R358, R359) -/

section
variable {share : W32} (h : Claimed s l 0x1004 [p4 channel, p4 share]) (names : NamesChan s l channel)
  (opened : (s.chan channel.toNat).st ≠ .closed) (share_high : share.toNat ≤ 1024)
include h names opened share_high

theorem execCourierSetShare_sets (share_low : 1 ≤ share.toNat)
    (within : s.shareSum l.slice - (s.chan channel.toNat).share + share.toNat ≤ s.countOf l.slice 7) :
    ∃ t, exec (.courierSetShare l channel share) s = .next t ∧
      Accepted s (s.setChan channel.toNat { s.chan channel.toNat with share := share.toNat }) t l .done
        (layBody [p4 channel, n4 share.toNat]) := by
  refine ⟨_, rfl, runLetter_accepted h fun c hc => ?_⟩
  subst hc
  simp only [clampU_mem (w := 32) (by omega) share_low share_high, qty_v_some, shareOver_opened c opened]
  refine (checked_ok ?_).trans rfl
  simp only [List.forall_mem_cons, List.not_mem_nil, false_implies, implies_true, and_true]
  refine ⟨names.number_passes, rfl, names.noChan_passes, decide_eq_false opened, ?_⟩
  exact Bool.and_eq_false_imp.mpr fun _ => decide_eq_false (Nat.not_lt.mpr within)

/-- A share that grows beyond what the slice was granted is refused. -/
theorem execCourierSetShare_beyond (grows : (s.chan channel.toNat).share < share.toNat)
    (beyond : s.countOf l.slice 7 < s.shareSum l.slice - (s.chan channel.toNat).share + share.toNat) :
    ∃ t, exec (.courierSetShare l channel share) s = .next t ∧ Rejected s t l .notPermitted 1 := by
  refine ⟨_, rfl, runLetter_rejected (r := ⟨.notPermitted, 1, 0⟩) h fun c hc => ?_⟩
  subst hc
  have refused : shareOver s c channel share.toNat 1 = (true, ⟨.notPermitted, 1, 0⟩) := by
    rw [shareOver_opened c opened, decide_eq_true grows, Bool.true_and]
    exact congrArg (notPermitted · 1) (decide_eq_true beyond)
  simp only [clampU_mem (w := 32) (by omega) (Nat.one_le_of_lt grows) share_high, qty_v_some, refused]
  refine checked_rejected (cs := [malformed _ 0, noKeep _ 1, noChan s c channel, busy _ 0]) ?_
  simp only [List.forall_mem_cons, List.not_mem_nil, false_implies, implies_true, and_true]
  exact ⟨names.number_passes, rfl, names.noChan_passes, decide_eq_false opened⟩

end
end

/-! ## PLACE_DOORBELL and CONSUME_DOORBELL (12 R378, R384, R391) -/

section
variable {channel : Fin 64} {count : W32} (up : s.power.hkUp = true)
include up

theorem execPlaceDoorbell_closed (closed : (s.chan channel).st = .closed) :
    execPlaceDoorbell channel count s = .next (s.bump .curDoorbellBad channel) := by
  rw [execPlaceDoorbell, if_neg (not_not_intro up), if_pos closed]

variable (opened : (s.chan channel).st ≠ .closed)
include opened

theorem execPlaceDoorbell_opened : execPlaceDoorbell channel count s =
    .next (if (count - (s.chan channel).taken).toNat ≤ (s.chan channel).depth then
      s.setChan channel { s.chan channel with placed := count } else s.badChanDoorbell channel count) := by
  rw [execPlaceDoorbell, if_neg (not_not_intro up), if_neg opened]

theorem execConsumeDoorbell_circular {d : Desc} (found : ((s.chan channel).descs.find? fun d => d.kind = 2) = some d) :
    execConsumeDoorbell channel count s = .next (if (d.head - count).toNat ≤ d.room then
      s.setChan channel { s.chan channel with consumed := count } else s.badChanDoorbell channel count) := by
  simp only [execConsumeDoorbell, up, opened, found, not_true_eq_false, ↓reduceIte]

end

/-! ## COURIER_STOP_BOUNDARY (12 R388, R391) -/

section
variable {channel : Fin 64}

theorem Channel.quiet_iff {v : Channel} : v.quiet = true ↔ v.reads = [] ∧ ∀ d ∈ v.descs, d.atBoundary = true := by
  simp only [Channel.quiet, Bool.and_eq_true, List.isEmpty_iff, List.all_eq_true]

theorem execCourierStopBoundary_stops (stopping : (s.chan channel).st = .stopping) (quiet : (s.chan channel).quiet = true)
    (free : s.sliceHeld (s.chanOwner channel) = false) :
    execCourierStopBoundary channel s = .next (s.boundary channel) := by
  simp only [execCourierStopBoundary, stopping, quiet, free, ne_eq, not_true_eq_false, Bool.false_eq_true, or_self,
    ↓reduceIte]

theorem execCourierStopBoundary_held (held : s.sliceHeld (s.chanOwner channel) = true) :
    execCourierStopBoundary channel s = .next s :=
  congrArg _ (if_pos (.inr (.inr held)))

end
end

/-- Settles O45: a letter by its checks, which all pass but where the channel is open already or its share grows beyond
the grant, a doorbell by whether the channel is open and its count fits, a boundary by what the channel has in flight and
whether its slice is held. -/
theorem courierLettersAndDoorbells : Obligations.CourierLettersAndDoorbells := by
  refine ⟨?opens, ?openBusy, ?stop, ?stopAgain, ?close, ?setShare, ?shareOver, ?place, ?placeBad, ?placeClosed, ?consume,
    ?consumeBad, ?boundary, ?boundaryHeld⟩
  case opens =>
    intro s l channel ring depth share h numbered page depth_ok own closed share_low share_high within
    exact execCourierOpenChannel_opens h ⟨numbered, own⟩ page depth_ok share_low share_high closed within
  case openBusy =>
    intro s l channel ring depth share h numbered page depth_ok own opened share_low share_high
    exact execCourierOpenChannel_busy h ⟨numbered, own⟩ page depth_ok share_low share_high opened
  case stop => exact fun s l channel h numbered own running => execCourierStop_running ⟨numbered, own⟩ h running
  case stopAgain => exact fun s l channel h numbered own stopped => execCourierStop_stopped ⟨numbered, own⟩ h stopped
  case close => exact fun s l channel h numbered own stopped => execCourierClose_stopped ⟨numbered, own⟩ h stopped
  case setShare =>
    intro s l channel share h numbered own opened share_low share_high within
    exact execCourierSetShare_sets h ⟨numbered, own⟩ opened share_high share_low within
  case shareOver =>
    intro s l channel share h numbered own opened grows share_high beyond
    exact execCourierSetShare_beyond h ⟨numbered, own⟩ opened share_high grows beyond
  case place =>
    intro s channel count up opened fits
    rw [exec_placeDoorbell, execPlaceDoorbell_opened up opened, if_pos fits]
  case placeBad =>
    intro s channel count up opened beyond
    rw [exec_placeDoorbell, execPlaceDoorbell_opened up opened, if_neg (Nat.not_le.mpr beyond)]
    rfl
  case placeClosed => exact fun s channel count up closed => execPlaceDoorbell_closed up closed
  case consume =>
    intro s channel count d up opened found fits
    rw [exec_consumeDoorbell, execConsumeDoorbell_circular up opened found, if_pos fits]
  case consumeBad =>
    intro s channel count d up opened found beyond
    rw [exec_consumeDoorbell, execConsumeDoorbell_circular up opened found, if_neg (Nat.not_le.mpr beyond)]
    rfl
  case boundary =>
    intro s channel stopping unread atBoundary free
    exact execCourierStopBoundary_stops stopping (Channel.quiet_iff.mpr ⟨unread, atBoundary⟩) free
  case boundaryHeld => exact fun s channel held => execCourierStopBoundary_held held

end Sys2Proof.Machine

namespace Sys2Proof.Machine

/-! # The invariant of every step (04 R135; 15 R444, R446) -/

section
variable {s t : State}

/-- The queue is no part of the invariant. -/
theorem inv_pending (cs : List Instr) : ({ s with pending := cs } : State).Inv ↔ s.Inv := Iff.rfl

/-- A command keeps the invariant. -/
theorem inv_exec {c : Instr} (inv : s.Inv) (h : exec c s = .next t) : t.Inv := by
  obtain ⟨-, -, keeps⟩ := soundOutcome_exec c s t h
  exact keeps inv

/-- The passing of a tick keeps the invariant: it moves station time and the pages alone. -/
theorem inv_tick (inv : s.Inv) : s.tick.Inv := by
  obtain ⟨-, -, keeps⟩ := sound_of_kept (kept_tick s)
  exact keeps inv

/-- A step keeps the invariant, with a command at the front of the queue and on the empty queue. -/
theorem inv_step (inv : s.Inv) (h : step s = .next t) : t.Inv := by
  cases queue : s.pending with
  | nil =>
    rw [step, queue] at h
    cases h
    exact inv_tick inv
  | cons c cs =>
    rw [step, queue] at h
    exact inv_exec ((inv_pending cs).mpr inv) h

end

/-- Settles O2: every command and every tick keeps the invariant. -/
theorem everyStepKeepsTheInvariant : Obligations.EveryStepKeepsTheInvariant :=
  fun _ _ inv h => inv_step inv h

/-- Settles O3: after reset local memory lists no byte, and both ledgers are empty. -/
theorem resetMeetsTheInvariant : Obligations.ResetMeetsTheInvariant :=
  ⟨rfl, Nat.zero_le _, Nat.zero_le _⟩

end Sys2Proof.Machine

namespace Sys2Proof.Machine

/-! # The postmasters' roles (13 R394-R397, R410; 14 R427) -/

section
variable {s : State} {p pm : Pm} {since : Nat}

/-! ## Heartbeats and their lapse -/

theorem execHeartbeatLapse_early (early : s.up < s.pm.beat + 100000) : execHeartbeatLapse s = .next s := by
  rw [execHeartbeatLapse]
  cases s.pm.active with
  | none => rfl
  | some p => simp only [if_pos early]

/-- The lapse of a postmaster is its failure 7, counted (13 R405). -/
def State.noteLapse (s : State) (p : Pm) : State :=
  (s.modPost p fun v => { v with failCode := 7#8 }).bump .pmSelftestFail (pmIdx p) 7

/-- The lapsed postmaster gives way to the other where that one qualifies, and is fenced otherwise. -/
theorem execHeartbeatLapse_lapsed (active : s.pm.active = some p) (lapsed : s.pm.beat + 100000 ≤ s.up)
    (old : s.newImagePm p = false) : execHeartbeatLapse s = .next (
      if (s.noteLapse p).qualifies (pmOther p) then (s.noteLapse p).takeOver p
      else ((s.noteLapse p).fencePm p .off).goHeadless) := by
  simp only [execHeartbeatLapse, active, if_neg (Nat.not_lt.mpr lapsed), old, Bool.false_eq_true, ↓reduceIte]
  rfl

/-! ## Grants -/

theorem execRoleGrant_unqualified (unfit : s.qualifies pm = false) : execRoleGrant pm s = .next s := by
  rw [execRoleGrant, if_pos (by simp [unfit])]

theorem execRoleGrant_idle (fit : s.qualifies pm = true) (idle : s.pm.active = none) : execRoleGrant pm s = .next (
    if s.ready then s.grant pm none
    else if s.power.stage = .build ∧ ¬ (pm = .b ∧ s.qualifies .a) then s.grant pm none else s) := by
  rw [execRoleGrant, if_neg (not_not_intro fit), idle]

/-- Without a stop confirmation the active role is not taken from its holder. -/
theorem execRoleGrant_held (active : s.pm.active = some p) (held : s.pm.handedOver = false) :
    execRoleGrant pm s = .next s := by
  cases fit : s.qualifies pm with
  | false => exact execRoleGrant_unqualified fit
  | true =>
    rw [execRoleGrant, if_neg (not_not_intro fit), active]
    simp only [held, Bool.false_eq_true, not_false_eq_true, or_true, ↓reduceIte]

/-- The role as it passes in a planned handover, with the former active still running. -/
def State.handOver (s : State) (pm : Pm) : State :=
  ((s.grant pm none).checkDefaults (s.post pm).bankB).bump .pmHandovers

theorem execRoleGrant_handover (fit : s.qualifies pm = true) (active : s.pm.active = some p) (other : p ≠ pm)
    (stopped : s.pm.handedOver = true) : execRoleGrant pm s = .next (
      (({ s with pm := { s.pm with planned := false, resetPhase := 0 } } : State).handOver pm).restartPm p
        (({ s with pm := { s.pm with planned := false, resetPhase := 0 } } : State).handOver pm).bootBank) := by
  rw [execRoleGrant, if_neg (not_not_intro fit), active]
  simp only [other, stopped, not_true_eq_false, or_self, ↓reduceIte]
  rfl

/-! ## The dual-active window and the stop -/

theorem execStopConfirmation_window (window : s.pm.window = some (pm, since)) :
    execStopConfirmation pm s = .next (s.closeWindow pm true) := by
  simp only [execStopConfirmation, window, ↓reduceIte]

theorem execStopConfirmation_planned (window : s.pm.window = none) (planned : s.pm.planned = true)
    (active : s.pm.active = some pm) (fit : s.qualifies (pmOther pm) = true) :
    execStopConfirmation pm s = .next { s with pm := { s.pm with handedOver := true } } := by
  simp only [execStopConfirmation, window, if_pos (And.intro planned (And.intro active fit))]

theorem execDualActiveTimeout_window (window : s.pm.window = some (p, since)) : execDualActiveTimeout s =
    .next (if since + 250000 ≤ s.up then s.closeWindow p false else s) := by
  simp only [execDualActiveTimeout, window]

end

/-- Settles O47: a lapse by whether the other postmaster qualifies, a grant by who holds the role, a window by its age. That
a tie at start-up goes to A, and what a handover does with the settings, is deduced (notes/assumptions/100.md, 101.md). -/
theorem postmasterRoles : Obligations.PostmasterRoles := by
  refine ⟨?heartbeat, ?heartbeatStale, ?noLapse, ?lapse, ?lapseHeadless, ?grant, ?noGrant, ?grantStartup, ?noPreemption,
    ?handover, ?stopWindow, ?stopPlanned, ?window, ?windowOpen⟩
  case heartbeat =>
    intro s pm active
    rw [exec_heartbeat, execHeartbeat, if_pos active]
  case heartbeatStale =>
    intro s pm other
    rw [exec_heartbeat, execHeartbeat, if_neg other]
  case noLapse => exact fun s early => execHeartbeatLapse_early early
  case lapse =>
    rintro s u p active lapsed old rfl fit
    exact (execHeartbeatLapse_lapsed active lapsed old).trans (congrArg _ (if_pos fit))
  case lapseHeadless =>
    rintro s u p active lapsed old rfl unfit
    exact (execHeartbeatLapse_lapsed active lapsed old).trans (congrArg _ (if_neg (Bool.eq_false_iff.mp unfit)))
  case grant =>
    intro s pm fit idle ready
    rw [exec_roleGrant, execRoleGrant_idle fit idle, if_pos ready]
  case noGrant => exact fun s pm unfit => execRoleGrant_unqualified unfit
  case grantStartup =>
    intro s fitA fitB idle starting build
    rw [exec_roleGrant, exec_roleGrant, execRoleGrant_idle fitA idle, execRoleGrant_idle fitB idle]
    simp [starting, build, fitA]
  case noPreemption => exact fun s pm p active held => execRoleGrant_held active held
  case handover =>
    rintro s u pm p fit active other stopped rfl
    exact execRoleGrant_handover fit active other stopped
  case stopWindow => exact fun s pm since window => execStopConfirmation_window window
  case stopPlanned => exact fun s pm window planned active fit => execStopConfirmation_planned window planned active fit
  case window =>
    intro s old since window elapsed
    rw [exec_dualActiveTimeout, execDualActiveTimeout_window window, if_pos elapsed]
  case windowOpen =>
    intro s old since window early
    rw [exec_dualActiveTimeout, execDualActiveTimeout_window window, if_neg (Nat.not_le.mpr early)]

end Sys2Proof.Machine

namespace Sys2Proof.Machine

/-! # The postmasters' restarts, synchronisation and self-tests (13 R393, R396, R402-R407, R410; 14 R427) -/

section
variable {s u : State} {p pm : Pm}

/-! ## A postmaster's record -/

@[simp] theorem bootBank_setPost (v : Postmaster) : (s.setPost p v).bootBank = s.bootBank := by cases p <;> rfl

/-! ## Restarts -/

/-- The automatic restarts of the last hour (13 R406). -/
def State.hourRestarts (s : State) (pm : Pm) : List Nat :=
  (s.post pm).restarts.filter fun t => s.up < t + 3600000000000

/-- A FAILED or fenced postmaster, outside a module reset, restarts up to three times an hour. -/
theorem execPostmasterRestart_automatic (powered : s.powered = true) (phase : s.pm.resetPhase ≠ 1)
    (down : (s.post pm).role = .off ∨ (s.post pm).role = .failed) (free : (s.post pm).limited = false)
    (stage : s.power.stage ≠ .reset) : execPostmasterRestart pm s = .next (
      if 3 ≤ (s.hourRestarts pm).length then
        (s.setPost pm { s.post pm with role := .failed, limited := true, restarts := s.hourRestarts pm }).condition 0x0D04
          (pmIdx pm) true
      else (s.setPost pm { s.post pm with restarts := s.hourRestarts pm ++ [s.up] }).restartPm pm s.bootBank) := by
  have stopped : ¬ ((s.post pm).role ≠ .off ∧ (s.post pm).role ≠ .failed) := by
    rcases down with down | down <;> simp [down]
  rw [execPostmasterRestart, if_neg (not_not_intro powered), if_neg fun ⟨reset, _⟩ => phase reset,
    if_neg (by simp [stopped, free, stage])]
  rfl

theorem execPostmasterRestart_limited (phase : s.pm.resetPhase ≠ 1) (limited : (s.post pm).limited = true) :
    execPostmasterRestart pm s = .next s := by
  simp only [execPostmasterRestart, phase, false_and, limited, true_or, or_true, ↓reduceIte, ite_self]

/-- MODULE.RESET of kind 0 restarts the postmaster that is not active and does not count it. -/
theorem execPostmasterRestart_reset (powered : s.powered = true) (phase : s.pm.resetPhase = 1)
    (active : s.pm.active = some p) (other : p ≠ pm) (answered : s.resetUnanswered = false) (window : s.pm.window = none)
    (hu : u = { s with pm := { s.pm with resetPhase := 2, planned := true } }) :
    execPostmasterRestart pm s = .next
      (((u.modPost pm fun v => { v with limited := false }).clearFault 0x0D04 (pmIdx pm)).restartPm pm u.bootBank) := by
  subst hu
  rw [execPostmasterRestart, if_neg (not_not_intro powered), if_pos ⟨phase, by simp [active], by simp [active, other]⟩,
    if_neg (by simp [answered, window])]

/-! ## The boot self-test -/

theorem execBootSelftestDone_running {passed : Bool} (booting : (s.post pm).role = .booting)
    (on : s.domain (pmDomain pm) = true) : execBootSelftestDone pm passed s = .next (
      if passed then
        if s.power.stage = .boot ∨ s.power.stage = .settings then
          let t := s.setPost pm { s.post pm with role := .syncing, selftestOk := true, needsSettings := true }
          { t with power := { t.power with stage := .settings } }
        else s.setPost pm { s.post pm with role := .syncing, selftestOk := true }
      else if s.newImagePm pm then (s.setPost pm { s.post pm with role := .failed }).rollBack
      else s.setPost pm { s.post pm with role := .failed }) := by
  rw [execBootSelftestDone, if_neg (by simp [booting, on])]
  cases passed <;> rfl

/-! ## The standby -/

theorem execSyncComplete_syncing (syncing : (s.post pm).role = .syncing) (active : s.pm.active = some (pmOther pm)) :
    execSyncComplete pm true s = .next (s.becomeStandby pm) := by
  rw [execSyncComplete, if_pos ⟨syncing, active, rfl⟩]

theorem execStandbyAckTimeout_due {since : Nat} (active : s.pm.active = some p)
    (owed : (s.post (pmOther p)).ackSince = some since) (standby : (s.post (pmOther p)).role = .standby)
    (due : since + 20000 ≤ s.up) :
    execStandbyAckTimeout s = .next ((s.unsync (pmOther p)).condition 0x0D02 (pmIdx (pmOther p)) true) := by
  simp only [execStandbyAckTimeout, active, owed, if_pos (And.intro standby due)]

/-! ## Failures -/

/-- A failure as it is noted, counted and raised by its number, before what it brings (13 R405). -/
def State.noteFailure (s : State) (pm : Pm) (n : Nat) : State :=
  ((s.modPost pm fun v => { v with failCode := BitVec.ofNat 8 n }).bump .pmSelftestFail (pmIdx pm) n).raise 0x0D03
    (pmIdx pm) n

/-- Any failure but that of the state copy or of the flash ends a standby. -/
theorem pmFail_standby {code : FailCode} (standby : ((s.noteFailure pm (failNumber code)).post pm).role = .standby)
    (copy : code ≠ .stateCopy) (flash : code ≠ .flash) :
    s.pmFail pm code = (s.noteFailure pm (failNumber code)).modPost pm fun v =>
      { v with role := .failed, synced := false, ackSince := none } := by
  unfold State.noteFailure at standby ⊢
  unfold State.pmFail
  simp only [standby]

/-- A fault of its memory or its cores makes the active give up. -/
theorem pmFail_active {code : FailCode} (active : ((s.noteFailure pm (failNumber code)).post pm).role = .active)
    (h : code = .sram ∨ code = .core) : s.pmFail pm code = (s.noteFailure pm (failNumber code)).giveUp pm fun t =>
      (t.modPost pm fun v => { v with role := .failed }).goHeadless := by
  unfold State.noteFailure at active ⊢
  unfold State.pmFail
  simp only [active]
  rcases h with rfl | rfl <;> rfl

theorem giveUp_other {otherwise : State → State} (fit : s.qualifies (pmOther pm) = true)
    (old : s.newImagePm pm = false) : s.giveUp pm otherwise = s.takeOver pm := by
  simp only [State.giveUp, fit, old, Bool.false_eq_true, ↓reduceIte]

theorem giveUp_alone {otherwise : State → State} (unfit : s.qualifies (pmOther pm) = false) :
    s.giveUp pm otherwise = otherwise s := by
  simp only [State.giveUp, unfit, Bool.false_eq_true, ↓reduceIte]

theorem execPostmasterFailure_running {code : FailCode}
    (running : (s.post pm).role = .active ∨ (s.post pm).role = .standby ∨ (s.post pm).role = .syncing) :
    execPostmasterFailure pm code s = .next (s.pmFail pm code) := by
  rw [execPostmasterFailure, if_pos running]

/-! ## Self-test items -/

theorem execSelftestItem_passed {item : SelftestItem}
    (running : (s.post pm).role = .active ∨ (s.post pm).role = .standby)
    (mine : (s.cycleItems (decide ((s.post pm).role = .active))).contains (itemIndex item) = true)
    (fresh : (s.post pm).items.contains (itemIndex item) = false) (noBus : item ≠ .controlBus) :
    execSelftestItem pm item true s = .next (
      if (s.cycleItems (decide ((s.post pm).role = .active))).all ((s.post pm).items ++ [itemIndex item]).contains then
        s.setPost pm { s.post pm with
          items := [], itemFailed := false, cycles := (s.post pm).cycles + 1#32, selftestOk := !(s.post pm).itemFailed }
      else s.setPost pm { s.post pm with items := (s.post pm).items ++ [itemIndex item] }) := by
  have runs : ¬ ((s.post pm).role ≠ .active ∧ (s.post pm).role ≠ .standby) := by
    rcases running with running | running <;> simp [running]
  simp only [execSelftestItem, runs, mine, fresh, noBus, not_true_eq_false, or_self, Bool.not_true, Bool.false_and,
    Bool.or_false, false_and, Bool.false_eq_true, ↓reduceIte]

theorem zero_mem_standbyItems : (s.cycleItems false).contains 0 = true := by
  simp [State.cycleItems]

/-! ## Health -/

theorem execHealthWrite_running {temp : Byte} (running : (s.post pm).role ≠ .off) (on : s.domain (pmDomain pm) = true) :
    execHealthWrite pm temp s = .next (s.modPost pm fun v =>
      { v with health := s.healthWord pm temp, healthAt := some s.up, temp := temp }) := by
  rw [execHealthWrite, if_neg (by simp [running, on])]

theorem roleCode_le_five (r : Role) : r.code ≤ 5 := by cases r <;> decide

/-- The fields of `PM_HEALTH` do not overlap. -/
theorem healthWord_toNat (temp : Byte) : (s.healthWord pm temp).toNat = (s.post pm).cycles.toNat * 2 ^ 32 +
    (s.post pm).role.code * 2 ^ 29 + b2n (s.post pm).synced * 2 ^ 28 + b2n (s.post pm).selftestOk * 2 ^ 27 +
    (s.post pm).failCode.toNat * 2 ^ 16 + min 3 (s.hourRestarts pm).length * 2 ^ 8 + temp.toNat := by
  have role := roleCode_le_five (s.post pm).role
  have synced := b2n_le_one (s.post pm).synced
  have passed := b2n_le_one (s.post pm).selftestOk
  have cycles := (s.post pm).cycles.isLt
  have fail := (s.post pm).failCode.isLt
  have restarts := Nat.min_le_left 3 (s.hourRestarts pm).length
  have temp_lt := temp.isLt
  refine (BitVec.toNat_ofNat _ 64).trans (Nat.mod_eq_of_lt ?_)
  unfold State.hourRestarts at restarts
  omega

theorem healthWord_fields (temp : Byte) :
    bits (s.healthWord pm temp).toNat 63 32 = (s.post pm).cycles.toNat ∧
    bits (s.healthWord pm temp).toNat 31 29 = (s.post pm).role.code ∧
    bits (s.healthWord pm temp).toNat 28 28 = b2n (s.post pm).synced ∧
    bits (s.healthWord pm temp).toNat 27 27 = b2n (s.post pm).selftestOk ∧
    bits (s.healthWord pm temp).toNat 26 24 = 0 ∧
    bits (s.healthWord pm temp).toNat 23 16 = (s.post pm).failCode.toNat ∧
    bits (s.healthWord pm temp).toNat 7 0 = temp.toNat := by
  have role := roleCode_le_five (s.post pm).role
  have synced := b2n_le_one (s.post pm).synced
  have passed := b2n_le_one (s.post pm).selftestOk
  have cycles := (s.post pm).cycles.isLt
  have fail := (s.post pm).failCode.isLt
  have restarts := Nat.min_le_left 3 (s.hourRestarts pm).length
  have temp_lt := temp.isLt
  rw [healthWord_toNat]
  generalize min 3 (s.hourRestarts pm).length = r at restarts ⊢
  simp only [bits]
  omega

end

/-- Settles O48: a restart by what the postmaster's record counts, a failure by the postmaster's role, an item by whether
it ends its cycle. That a postmaster is held at its restart limit is deduced (notes/assumptions/100.md). -/
theorem postmasterRestartsSyncAndTests : Obligations.PostmasterRestartsSyncAndTests := by
  refine ⟨?restart, ?restartLimit, ?restartStays, ?restartKind0, ?bootPassed, ?bootFailed, ?synced, ?notSynced, ?rebuild,
    ?ackTimeout, ?failStandby, ?failActive, ?failHeadless, ?itemPassed, ?cycle, ?health, ?healthFields⟩
  case restart =>
    intro s pm powered phase down free stage few
    refine ⟨_, rfl, ?_⟩
    rw [exec_postmasterRestart, execPostmasterRestart_automatic powered phase down free stage, State.hourRestarts,
      if_neg (Nat.not_le.mpr few), bootBank_setPost]
  case restartLimit =>
    intro s pm powered phase down free stage many
    rw [exec_postmasterRestart, execPostmasterRestart_automatic powered phase down free stage, State.hourRestarts,
      if_pos many]
  case restartStays => exact fun s pm phase limited => execPostmasterRestart_limited phase limited
  case restartKind0 =>
    rintro s u pm p powered phase active other answered window rfl
    exact execPostmasterRestart_reset powered phase active other answered window rfl
  case bootPassed =>
    intro s pm booting on boot settings
    rw [exec_bootSelftestDone, execBootSelftestDone_running booting on, if_pos rfl, if_neg (by simp [boot, settings])]
  case bootFailed =>
    intro s pm booting on old
    rw [exec_bootSelftestDone, execBootSelftestDone_running booting on, if_neg Bool.false_ne_true,
      if_neg (Bool.eq_false_iff.mp old)]
  case synced => exact fun s pm syncing active => execSyncComplete_syncing syncing active
  case notSynced =>
    intro s pm
    rw [exec_syncComplete, execSyncComplete, if_neg fun ⟨_, _, agrees⟩ => Bool.false_ne_true agrees]
  case rebuild =>
    intro s pm syncing headless ready
    rw [exec_headlessRebuild, execHeadlessRebuild, if_pos ⟨syncing, headless, .inl ready⟩]
    rfl
  case ackTimeout =>
    exact fun s p since active owed standby due => execStandbyAckTimeout_due active owed standby due
  case failStandby =>
    intro s u pm code standby copy flash hu still
    replace hu : u = s.noteFailure pm (failNumber code) := hu
    subst hu
    rw [exec_postmasterFailure, execPostmasterFailure_running (.inr (.inl standby)), pmFail_standby still copy flash]
  case failActive =>
    intro s u pm active hu still fit old
    replace hu : u = s.noteFailure pm (failNumber .sram) := hu
    subst hu
    rw [exec_postmasterFailure, execPostmasterFailure_running (.inl active),
      pmFail_active still (.inl rfl), giveUp_other fit old]
  case failHeadless =>
    intro s u pm active hu still unfit
    replace hu : u = s.noteFailure pm (failNumber .core) := hu
    subst hu
    rw [exec_postmasterFailure, execPostmasterFailure_running (.inl active),
      pmFail_active still (.inr rfl), giveUp_alone unfit]
  case itemPassed =>
    intro s pm standby fresh more
    have notActive : decide ((s.post pm).role = .active) = false := by simp [standby]
    have passed := execSelftestItem_passed (s := s) (item := .sram) (.inr standby) (by
      rw [notActive]; exact zero_mem_standbyItems) fresh (by decide)
    rw [notActive] at passed
    exact passed.trans (congrArg _ (if_neg (Bool.eq_false_iff.mp more)))
  case cycle =>
    intro s pm active items passed
    have isActive : decide ((s.post pm).role = .active) = true := by simp [active]
    have last := execSelftestItem_passed (s := s) (pm := pm) (item := .arbiterPath) (.inl active)
      (by rw [isActive]; rfl) (by rw [items]; rfl) (by decide)
    rw [isActive, items, passed] at last
    exact last
  case health => exact fun s pm temp running on => execHealthWrite_running running on
  case healthFields => exact fun s pm temp => healthWord_fields temp

end Sys2Proof.Machine

namespace Sys2Proof.Machine

/-! # Power domains, temperatures and throttling (16 R456-R461, R464; 13 R409) -/

section
variable {s : State} {l : LetterId}

/-! ## Requests for power domains -/

/-- Outside the headless state the oldest request is served. -/
theorem execDomainSwitchComplete_oldest {r : Nat × Bool × Nat} {rest : List (Nat × Bool × Nat)}
    (requests : s.power.requests = r :: rest) (powered : s.powered = true) (steady : s.movingStep 3 = false)
    (led : s.headless = false) : execDomainSwitchComplete s =
      .next ((s.modPower fun p => { p with requests := rest }).setDomain r.1 r.2.1) := by
  have next : s.nextRequest = some r := by simp [State.nextRequest, led, requests]
  have erased : s.power.requests.erase r = rest := by rw [requests, List.erase_cons_head]
  simp only [execDomainSwitchComplete, next, powered, steady, not_true_eq_false, Bool.false_eq_true, or_self, ↓reduceIte,
    State.modPower, erased]

/-- In the headless state the requests for other domains than a postmaster's wait. -/
theorem execDomainSwitchComplete_headless (headless : s.headless = true) (units : ∀ r ∈ s.power.requests, r.1 < 146) :
    execDomainSwitchComplete s = .next s := by
  have next : s.nextRequest = none := by
    rw [State.nextRequest, if_pos headless, List.find?_eq_none]
    exact fun r mem => by simpa using units r mem
  rw [execDomainSwitchComplete, next]

theorem insertRequest_sameInstant {d e t : Nat} (on off : Bool) (rest : List (Nat × Bool × Nat)) (below : d < e) :
    insertRequest (d, on, t) ((e, off, t) :: rest) = (d, on, t) :: (e, off, t) :: rest := by
  rw [insertRequest, if_pos ⟨rfl, below⟩]

theorem insertRequest_otherInstant {d e t u : Nat} (on off : Bool) (rest : List (Nat × Bool × Nat)) (other : u ≠ t) :
    insertRequest (d, on, t) ((e, off, u) :: rest) = (e, off, u) :: insertRequest (d, on, t) rest := by
  rw [insertRequest, if_neg fun ⟨same, _⟩ => other same]

theorem execDomainFailure_on {d : Fin 148} (here : s.variant.hasDomain d = true) (switched : d.val ≠ 0)
    (on : s.domain d = true) : execDomainFailure d s = .next ((((s.modPower fun p =>
      { p with requests := p.requests.filter fun r => r.1 ≠ d.val }).setDomain d false).raise 0x1003 d).unitFails d) := by
  rw [execDomainFailure, onUnit_present here, if_neg (by simp [switched, on])]

theorem execDomainFailure_absent {d : Fin 148} (absent : s.variant.hasDomain d = false) :
    execDomainFailure d s = .fault .absentUnit := by
  rw [execDomainFailure, onUnit, if_neg (Bool.eq_false_iff.mp absent)]

theorem execDomainFailure_zero : execDomainFailure 0 s = .next s := by
  rw [execDomainFailure, onUnit_present (by simp [Variant.hasDomain]), if_pos (.inl rfl)]

/-! ## The power cap -/

theorem execPowerCapCheck_over {v : BitVec 16} (exceeds : s.power.cap * 10 < v.toNat) :
    execPowerCapCheck v s = .next (State.throttleFault { s with
      power := { s.power with pin := v.toNat, thrCap := true, capLow := none } }).latchStatus := by
  simp only [execPowerCapCheck, if_pos exceeds]

/-- The cap's throttling ends once the power has been below 95 per cent of the cap for 10 ms. -/
theorem execPowerCapCheck_ends {v : BitVec 16} {since : Nat} (within : v.toNat ≤ s.power.cap * 10)
    (throttled : s.power.thrCap = true) (low : v.toNat * 10 < s.power.cap * 95) (marked : s.power.capLow = some since)
    (long : since + 10000000 ≤ s.up) : execPowerCapCheck v s = .next (State.throttleFault { s with
      power := { s.power with pin := v.toNat, thrCap := false, capLow := none } }).latchStatus := by
  simp only [execPowerCapCheck, if_neg (Nat.not_lt.mpr within), throttled, low, marked, decide_true, not_true_eq_false,
    or_self, Option.getD_some, if_pos long, ↓reduceIte]

/-! ## The mirror and the POWER letters -/

/-- The currents and rails as the housekeeping controller has read them. -/
def State.takeReadings (s : State) (iin : W32) (rails : List (W32 × W32)) : State :=
  s.modPower fun p => { p with iin := iin, railTel := rails }

theorem execTelemetryMirrorUpdate_running {iin : W32} {rails : List (W32 × W32)} (hk : s.power.hkUp = true)
    (steady : s.movingStep 2 = false) : execTelemetryMirrorUpdate iin rails s = .next
      ((s.takeReadings iin rails).modPower fun p =>
        { p with mirror := BitVec.ofNat 192 (leNat ((s.takeReadings iin rails).powerRead.take 24)) }) := by
  rw [execTelemetryMirrorUpdate, if_neg (by simp [hk, steady])]
  rfl

theorem execPowerSetCap_accepted {cap : W32} (h : Claimed s l 0x1302 [p4 cap]) (low : 800 ≤ cap.toNat)
    (high : cap.toNat ≤ 1650) : ∃ t, exec (.powerSetCap l cap) s = .next t ∧
      Accepted s { s with power := { s.power with cap := cap.toNat } } t l .done (layBody [n4 cap.toNat]) := by
  refine ⟨_, rfl, runLetter_accepted h fun _ _ => ?_⟩
  simp only [clampU_mem (w := 32) (by omega) low high]
  rfl

theorem execPowerSetCap_low {cap : W32} (h : Claimed s l 0x1302 [p4 cap]) (low : cap.toNat < 800) :
    ∃ t, exec (.powerSetCap l cap) s = .next t ∧
      AcceptedClamped s { s with power := { s.power with cap := 800 } } t l .done (layBody [n4 800]) 0 := by
  refine ⟨_, rfl, runLetter_clamped h fun _ _ => ?_⟩
  simp only [clampU_low (w := 32) (by omega) low]
  rfl

theorem execPowerSetAlert_accepted {low high temp : W32} (h : Claimed s l 0x1303 [p4 low, p4 high, p4 temp])
    (low_low : 36000 ≤ low.toNat) (low_high : low.toNat ≤ 75000) (high_low : 36000 ≤ high.toNat)
    (high_high : high.toNat ≤ 75000) (temp_low : 70 ≤ temp.toNat) (temp_high : temp.toNat ≤ 105) :
    ∃ t, exec (.powerSetAlert l low high temp) s = .next t ∧ Accepted s (State.latchStatus { s with power := { s.power with
      inputLow := low.toNat, inputHigh := high.toNat, tempAlert := temp.toNat } }) t l .done
        (layBody [n4 low.toNat, n4 high.toNat, n4 temp.toNat]) := by
  refine ⟨_, rfl, runLetter_accepted h fun _ _ => ?_⟩
  simp only [clampU_mem (w := 32) (by omega) low_low low_high, clampU_mem (w := 32) (by omega) high_low high_high,
    clampU_mem (w := 32) (by omega) temp_low temp_high]
  rfl

/-! ## Start-up's stages (16 R466, R471, R473; 14 R430) -/

/-- The enabled stacks are powered on as the module boots. -/
def State.bootStacks (s : State) : State :=
  (List.range s.variant.hbmStacks).foldl (fun s i => if (s.stack i).enabled then s.askDomain (89 + i) true else s) s

theorem execStartupResetDone_done (stage : s.power.stage = .reset) (rails : s.power.rails = true)
    (good : s.power.good.isSome = true) (released : s.power.resetN = false) (serdes : s.power.lost.getLsbD 0 = false)
    (ref25 : s.power.lost.getLsbD 2 = false) : execStartupResetDone s = .next
      (let u := (s.modPower fun p => { p with stage := .boot }).raiseD2d.bootStacks
       (u.restartPm .a (u.activeBank 0)).restartPm .b (u.activeBank 0)) := by
  rw [execStartupResetDone, if_neg]
  · rfl
  · simp only [stage, rails, Option.isNone_eq_false_iff.mpr good, released, serdes, ref25, ne_eq, not_true_eq_false,
      Bool.false_eq_true, or_self, not_false_eq_true]

theorem execStartupResetDone_noReference (lost : s.power.lost.getLsbD 0 = true ∨ s.power.lost.getLsbD 2 = true) :
    execStartupResetDone s = .next s := by
  rw [execStartupResetDone, if_pos (by rcases lost with lost | lost <;> simp [lost])]

/-- A postmaster that is past its boot test takes its settings now. -/
def State.takesSettings (s : State) (p : Pm) : Bool :=
  (s.post p).needsSettings && decide ((s.post p).role = .syncing)

theorem execStartupSettingsDone_taken {p : Pm} (stage : s.power.stage = .settings)
    (first : [Pm.a, Pm.b].find? s.takesSettings = some p) : execStartupSettingsDone s = .next
      (((s.checkDefaults (s.post p).bankB).modPower fun q => { q with stage := .build }).modPost p fun v =>
        { v with needsSettings := false }) := by
  have found : ([Pm.a, Pm.b].find? fun p => (s.post p).needsSettings && decide ((s.post p).role = .syncing)) = some p :=
    first
  simp only [execStartupSettingsDone, stage, found, ne_eq, not_true_eq_false, ↓reduceIte]

theorem execStartupApplyDone_active {failed : Bool} (stage : s.power.stage = .apply)
    (active : s.pm.active.isSome = true) : execStartupApplyDone failed s = .next (
      if failed then s.failStart 5
      else s.applySettings.modPower fun p => { p with stage := .ready, elapsed := some s.applySettings.elapsedNow }) := by
  rw [execStartupApplyDone, if_neg (by simp [stage, Option.isSome_iff_ne_none.mp active])]

theorem execStartupTimeout_expired {good : Nat} (up : s.power.good = some good) (idle : s.pm.active = none)
    (ready : s.power.stage ≠ .ready) (failed : s.power.stage ≠ .failed) (late : good + 20000000000 ≤ s.up) :
    execStartupTimeout s = .next (s.failStart s.power.stage.cause) := by
  simp only [execStartupTimeout, up, idle, ready, failed, Nat.not_lt.mpr late, Option.isSome_none, Bool.false_eq_true,
    or_self, ↓reduceIte]

theorem execStartupTimeout_early {good : Nat} (up : s.power.good = some good) (early : s.up < good + 20000000000) :
    execStartupTimeout s = .next s := by
  simp only [execStartupTimeout, up, early, or_true, ↓reduceIte]

end

/-- Settles O55: a domain by the oldest request or by its failure, a letter by its clamps, a stage by what it waits for.
The order of requests made together and the headless hold are deduced (notes/assumptions/159.md), as is that the links
between the dies are switched on directly at start-up (notes/assumptions/105.md). -/
theorem startupDomainsAndThrottling : Obligations.StartupDomainsAndThrottling := by
  refine ⟨?switch, ?switchHeadless, ?requestOrder, ?domainFails, ?domainAbsent, ?domainZero, ?temperature, ?overCap,
    ?capEnds, ?throttlePin, ?mirror, ?read, ?cap, ?capClamped, ?alert, ?resetDone, ?resetWaits, ?settings, ?apply,
    ?applyFails, ?timeout, ?timeoutEarly⟩
  case switch =>
    exact fun s d on since rest requests powered steady led =>
      execDomainSwitchComplete_oldest requests powered steady led
  case switchHeadless => exact fun s headless units => execDomainSwitchComplete_headless headless units
  case requestOrder =>
    exact fun d e t on off rest below =>
      ⟨insertRequest_sameInstant on off rest below, fun u other => insertRequest_otherInstant on off rest other⟩
  case domainFails => exact fun s d here switched on => execDomainFailure_on here switched on
  case domainAbsent => exact fun s d absent => execDomainFailure_absent absent
  case domainZero => exact fun s => execDomainFailure_zero
  case temperature =>
    rintro s t c rfl
    rw [exec_temperatureChange, execTemperatureChange]
  case overCap => exact fun s v exceeds => execPowerCapCheck_over exceeds
  case capEnds =>
    exact fun s v since within throttled low marked long => execPowerCapCheck_ends within throttled low marked long
  case throttlePin => exact fun s b => rfl
  case mirror =>
    rintro s t iin rails hk steady rfl
    exact execTelemetryMirrorUpdate_running hk steady
  case read => exact fun s l h => ⟨_, rfl, runLetter_accepted h fun _ _ => rfl⟩
  case cap => exact fun s l cap h low high => execPowerSetCap_accepted h low high
  case capClamped => exact fun s l cap h low => execPowerSetCap_low h low
  case alert =>
    exact fun s l low high temp h low_low low_high high_low high_high temp_low temp_high =>
      execPowerSetAlert_accepted h low_low low_high high_low high_high temp_low temp_high
  case resetDone =>
    intro s u stage rails good released serdes ref25 hu same
    rw [← same] at hu
    subst hu
    exact execStartupResetDone_done stage rails good released serdes ref25
  case resetWaits => exact fun s lost => execStartupResetDone_noReference lost
  case settings => exact fun s p stage first => execStartupSettingsDone_taken stage first
  case apply =>
    intro s stage active
    rw [exec_startupApplyDone, execStartupApplyDone_active stage active, if_neg Bool.false_ne_true]
  case applyFails =>
    intro s stage active
    rw [exec_startupApplyDone, execStartupApplyDone_active stage active, if_pos rfl]
    rfl
  case timeout => exact fun s good up idle ready failed late => execStartupTimeout_expired up idle ready failed late
  case timeoutEarly => exact fun s good up early => execStartupTimeout_early up early

end Sys2Proof.Machine

namespace Sys2Proof.Machine

/-! # The PMBus reads (16 R463; 14 R424) -/

section
variable {s : State}

theorem answer_given (answers : s.hkAnswers = true) (v : Option (BitVec 16)) :
    s.answer v = { s with power := { s.power with pmbusData := v } } := by
  simp only [State.answer, State.modPower, if_pos answers]

/-- A housekeeping controller that does not answer gives a NACK to every read. -/
theorem answer_nack (silent : s.hkAnswers = false) (v : Option (BitVec 16)) :
    s.answer v = { s with power := { s.power with pmbusData := none } } := by
  simp only [State.answer, State.modPower, if_neg (Bool.eq_false_iff.mp silent)]

/-- Whether the controller answers does not depend on the status bits. -/
theorem hkAnswers_status (bits : List Nat) :
    (s.modPower fun p => { p with pmbus := bits }).hkAnswers = s.hkAnswers := rfl

theorem execPmbusUnsupported_first (code : Byte) (answers : s.hkAnswers = true)
    (fresh : s.power.pmbus.contains 6 = false) : execPmbusUnsupported code s =
      .next { s with power := { s.power with pmbus := 6 :: s.power.pmbus, pmbusData := none } } := by
  have unlisted : s.hkAnswers = true ∧ ¬ s.power.pmbus.contains 6 = true := ⟨answers, Bool.eq_false_iff.mp fresh⟩
  have noted : s.modPower (fun p => { p with
      pmbus := if s.hkAnswers ∧ ¬ p.pmbus.contains 6 then 6 :: p.pmbus else p.pmbus }) =
      s.modPower fun p => { p with pmbus := 6 :: s.power.pmbus } := by
    simp only [State.modPower, if_pos unlisted]
  rw [execPmbusUnsupported, noted, answer_given ((hkAnswers_status _).trans answers)]
  rfl

theorem execPmbusClearFaults_answered (answers : s.hkAnswers = true) : execPmbusClearFaults s =
    .next { s with power := { s.power with pmbus := s.power.pmbus.filter s.pmbusCond } } := by
  have ended : s.modPower (fun p => { p with pmbus := if s.hkAnswers then p.pmbus.filter s.pmbusCond else p.pmbus }) =
      s.modPower fun p => { p with pmbus := s.power.pmbus.filter s.pmbusCond } := by
    simp only [State.modPower, if_pos answers]
  rw [execPmbusClearFaults, ended, answer_given ((hkAnswers_status _).trans answers), if_pos answers]
  rfl

end

/-- Settles O53: every read is one answer of the housekeeping controller, or its NACK. The LINEAR11 form and the places of
the status bits are presumed in the model (notes/assumptions/106.md). -/
theorem pmbusReads : Obligations.PmbusReads := by
  have read {s : State} (answers : s.hkAnswers = true) (v : BitVec 16) :
      (.next (s.answer (some v)) : Host.Outcome State Fault Refusal) =
        .next { s with power := { s.power with pmbusData := some v } } := congrArg _ (answer_given answers _)
  refine ⟨fun s h => read h _, fun s h => read h _, fun s h => read h _, fun s h => read h _, fun s h => read h _,
    fun s h => read h _, fun s h => ⟨_, rfl, read h _⟩, fun s h => ⟨_, rfl, read h _⟩, fun s h => ⟨_, rfl, read h _⟩,
    fun s offset h => read h _, ?unsupported, ?clear, ?nack⟩
  case unsupported => exact fun s code answers fresh => execPmbusUnsupported_first code answers fresh
  case clear => exact fun s answers => execPmbusClearFaults_answered answers
  case nack =>
    intro s code offset silent
    have refused (v : BitVec 16) : (.next (s.answer (some v)) : Host.Outcome State Fault Refusal) =
        .next { s with power := { s.power with pmbusData := none } } := congrArg _ (answer_nack silent _)
    exact ⟨_, rfl, refused _, refused _, refused _, refused _, refused _, refused _, refused _, refused _, refused _,
      refused _⟩

end Sys2Proof.Machine

namespace Sys2Proof.Machine

/-! # The input, the rails and the protections (16 R450, R455, R460, R462, R470, R471) -/

section
variable {s : State}

/-! ## The input -/

theorem execInputRise_off (off : s.power.aon = false) (sound : s.power.overVolt = false) : execInputRise s =
    .next (s.powerOn.modPower fun p => { p with vin := max p.vin 35000 }).inputFaults := by
  rw [execInputRise, if_neg (by simp [off, sound])]

theorem execHousekeepingBoot_starts (on : s.power.aon = true) (down : s.power.hkUp = false) : execHousekeepingBoot s =
    .next ((s.setDomain 0 true).modPower fun p => { p with hkUp := true, hkAt := p.riseAt }).startRails := by
  rw [execHousekeepingBoot, if_neg (by simp [on, down])]

/-- The loss of the input takes everything but the flash (notes/assumptions/33.md). -/
theorem inputOff_undervoltage (s : State) : (s.inputOff 1).power.aon = false ∧ (s.inputOff 1).power.rails = false ∧
    (s.inputOff 1).power.domains = 0#160 ∧ (s.inputOff 1).power.hkUp = false ∧
    (s.inputOff 1).power.cause = s.power.cause ||| 2#9 ∧ (s.inputOff 1).images.boot0 = s.images.boot0 ∧
    (s.inputOff 1).images.slot0 = s.images.slot0 ∧ (s.inputOff 1).letters = {} :=
  ⟨rfl, rfl, rfl, rfl, rfl, rfl, rfl, rfl⟩

theorem execOvervoltageRecovery_due {since : Nat} (low : s.power.overSince = some since)
    (shut : s.power.overVolt = true) (due : since + 100000000 ≤ s.up) (enough : 35000 ≤ s.power.vin) :
    execOvervoltageRecovery s = .next s.powerOn.inputFaults := by
  simp only [execOvervoltageRecovery, low, if_pos (And.intro shut (And.intro due enough))]

theorem execOvervoltageRecovery_early {since : Nat} (low : s.power.overSince = some since)
    (early : s.up < since + 100000000) : execOvervoltageRecovery s = .next s := by
  simp only [execOvervoltageRecovery, low]
  rw [if_neg fun ⟨_, due, _⟩ => absurd due (Nat.not_le.mpr early)]

/-! ## The rails -/

theorem execPwrEnAssert_starts (off : s.power.pwrEn = false) (hk : s.power.hkUp = true) (on : s.power.aon = true)
    (down : s.power.rails = false) (cool : s.power.thermalOff = false) : execPwrEnAssert s = .next { s with
      power := { s.power with pwrEn := true, thermalOff := false, thermalArmed := false, rising := true } } := by
  simp [execPwrEnAssert, State.startRails, State.modPower, off, hk, on, down, cool]

theorem execPwrEnDeassert_rails (up : s.power.rails = true) : execPwrEnDeassert s =
    .next ((s.railsOff 4).modPower fun p => { p with pwrEn := false, thermalArmed := p.thermalOff }) := by
  rw [execPwrEnDeassert, if_pos (.inl up)]

theorem railsOff_power (s : State) (k : Nat) : (s.railsOff k).power.rails = false ∧
    (s.railsOff k).power.domains = s.power.domains &&& 1#160 ∧
    (s.railsOff k).power.cause = s.power.cause ||| BitVec.ofNat 9 (2 ^ k) ∧ (s.railsOff k).power.aon = s.power.aon :=
  ⟨rfl, rfl, rfl, rfl⟩

end

/-- Settles O54: each clause by the branch of its command that its conditions select. What the input's voltage and bands
do beyond the rules, and what a lockout leaves, is deduced (notes/assumptions/105.md, 33.md). -/
theorem inputAndRails : Obligations.InputAndRails := by
  refine ⟨?rise, ?hkBoot, ?band, ?lockout, inputOff_undervoltage, ?overvoltage, ?overRecovery, ?overTooEarly, ?enable,
    ?disable, ?good, ?thermal, ?cool, railsOff_power⟩
  case rise =>
    rintro s t off sound rfl
    exact execInputRise_off off sound
  case hkBoot => exact fun s on down => execHousekeepingBoot_starts on down
  case band =>
    intro s mv
    rw [exec_inputVoltageBand, execInputVoltageBand]
  case lockout =>
    intro s on
    rw [exec_undervoltageLockout, execUndervoltageLockout, if_pos on]
  case overvoltage =>
    intro s on
    rw [exec_overvoltageShutdown, execOvervoltageShutdown, if_pos on]
  case overRecovery => exact fun s since low shut due enough => execOvervoltageRecovery_due low shut due enough
  case overTooEarly => exact fun s since low early => execOvervoltageRecovery_early low early
  case enable => exact fun s off hk on down cool => execPwrEnAssert_starts off hk on down cool
  case disable => exact fun s up => execPwrEnDeassert_rails up
  case good =>
    intro s rising
    rw [exec_powerGood, execPowerGood, if_pos rising]
    rfl
  case thermal =>
    intro s hot up
    rw [exec_thermalShutdown, execThermalShutdown, if_pos ⟨hot, .inl up⟩]
  case cool =>
    intro s cool
    rw [exec_thermalShutdown, execThermalShutdown, if_neg fun ⟨hot, _⟩ => absurd hot (Nat.not_le.mpr cool)]

end Sys2Proof.Machine

namespace Sys2Proof.Machine

/-! # The counter sweep, counter reads and snapshots (15 R433, R438-R443) -/

section
variable {s : State} {l : LetterId} {i start : Nat}

/-! ## The sweep -/

theorem execSweepStart_due (powered : s.powered = true) (idle : s.tel.sweep = none) (due : s.crossed 8000000 = true)
    (once : s.tel.sweepAt ≠ some s.up) :
    execSweepStart s = .next { s with tel := { s.tel with sweep := some 0, sweepAt := some s.up } } := by
  rw [execSweepStart, if_neg (by simp [powered, idle, due, once])]

/-- The accumulator of a counter once the sweep has read it. -/
def State.swept (s : State) (i : Nat) : Accum := { (s.accum i).with i (s.bankCount i) with stamp := some s.ns }

/-- The counter's place in the sweep has come: it is read and cleared, and the last one ends the sweep. -/
theorem execSweepRead_turn (sweeping : s.tel.sweep = some i) (started : s.tel.sweepAt = some start)
    (turn : start + 5 * i ≤ s.up) : execSweepRead s = .next (
      if counterSpan ≤ i + 1 then State.bump { s with tel := { s.tel with
        bank := nset {} i {} s.tel.bank, acc := nset {} i (s.swept i) s.tel.acc, sweep := none } } .telSweeps
      else { s with tel := { s.tel with
        bank := nset {} i {} s.tel.bank, acc := nset {} i (s.swept i) s.tel.acc, sweep := some (i + 1) } }) := by
  have late : ¬ s.up < s.tel.sweepAt.getD 0 + 5 * i := by rw [started, Option.getD_some]; omega
  simp only [execSweepRead, sweeping, if_neg late, decide_eq_true_eq]
  by_cases last : counterSpan ≤ i + 1
  · simp only [if_pos last]
    rfl
  · simp only [if_neg last]
    rfl

theorem execSweepRead_early (sweeping : s.tel.sweep = some i) (started : s.tel.sweepAt = some start)
    (early : s.up < start + 5 * i) : execSweepRead s = .next s := by
  have early : s.up < s.tel.sweepAt.getD 0 + 5 * i := by rw [started, Option.getD_some]; exact early
  simp only [execSweepRead, sweeping, if_pos early]

/-! ## What counters hold -/

/-- Every counter but the peak adds what the bank holds (15 R432, R433). -/
theorem with_adding (a : Accum) (c : Count) (adds : i ≠ Fam.writeBehindPeak.base) :
    (a.with i c).count = (a.count + c.count) % 2 ^ 56 ∧ (a.with i c).sum = (a.sum + c.sum) % 2 ^ 72 := by
  rw [Accum.with, if_neg (by simp [isPeak, adds])]
  exact ⟨rfl, rfl⟩

theorem bankCount_bump {f : Fam} {obj elem : Nat} (n v : Nat) (obj_lt : obj < f.objs) (elem_lt : elem < f.elems) :
    (s.bump f obj elem n v).bankCount (f.base + obj * f.elems + elem) =
      (s.bankCount (f.base + obj * f.elems + elem)).add n v := by
  simp only [State.bump, Fam.index, if_pos (And.intro obj_lt elem_lt), State.bankCount, State.count, nmod, nget_nset_self]

/-! ## TELEMETRY.READ_COUNTERS -/

/-- A result that the bus takes is written for the letter's slice. -/
theorem withResult_written {c : Ctx} {result : W64} {bytes : List Byte} {ok : State → Verdict} (hc : c.l = l) :
    withResult c result bytes true s ok = ok (s.hostWrite l.slice result bytes) := by
  rw [withResult, if_pos rfl, Ctx.sl, hc]

/-- The entries of a run of counters as the last sweep left them (15 R440). -/
def State.counterEntries (s : State) (first count : Nat) : List Byte :=
  (List.range count).flatMap fun k => counterEntry (s.accum (first + k)).count (s.accum (first + k)).sum
    (s.accum (first + k)).stamp (first + k)

section
variable {first count : W32} {result : W64} (h : Claimed s l 0x1201 [p4 first, p4 count, p8 result])
  (low : 1 ≤ count.toNat) (high : count.toNat ≤ 65536)
include h low high

theorem execTelemetryReadCounters_accepted (within : first.toNat + count.toNat ≤ 1572864)
    (mine : ∀ k < count.toNat, s.mayRead l.slice (first.toNat + k) = true) :
    ∃ t, exec (.telemetryReadCounters l first count result true) s = .next t ∧
      Accepted s ((s.hostWrite l.slice result (s.counterEntries first.toNat count.toNat)).clearPeaks first.toNat
        count.toNat) t l .done [] := by
  refine ⟨_, rfl, runLetter_accepted h fun c hc => (checked_ok ?_).trans ((withResult_written hc).trans rfl)⟩
  have foreign : ((List.range count.toNat).any fun k => !s.mayRead c.sl (first.toNat + k)) = false :=
    List.any_eq_false.mpr fun k hk => by rw [Ctx.sl, hc, mine k (List.mem_range.mp hk)]; decide
  simp only [List.forall_mem_cons, List.not_mem_nil, false_implies, implies_true, and_true, malformed, noObj, foreign,
    Bool.or_false, decide_eq_false_iff_not]
  unfold counterSpan
  omega

/-- A slice other than slice 0 reads no counter below the queues' (15 R441). -/
theorem execTelemetryReadCounters_foreign {busOk : Bool} (shared : first.toNat < 131072) (slice : l.slice.val ≠ 0) :
    ∃ t, exec (.telemetryReadCounters l first count result busOk) s = .next t ∧ Rejected s t l .noSuchObject 0 := by
  refine ⟨_, rfl, runLetter_rejected h (r := ⟨.noSuchObject, 0, 0⟩) fun c hc => ?_⟩
  have foreign : ((List.range count.toNat).any fun k => !s.mayRead c.sl (first.toNat + k)) = true := by
    refine List.any_eq_true.mpr ⟨0, List.mem_range.mpr low, ?_⟩
    simp [State.mayRead, Ctx.sl, hc, slice, Nat.not_le.mpr shared]
  simp only [foreign, Bool.or_true]
  refine checked_rejected (cs := [malformed _ 0, malformed _ 1]) ?_
  simp only [List.forall_mem_cons, List.not_mem_nil, false_implies, implies_true, and_true, malformed,
    decide_eq_false_iff_not]
  unfold counterSpan
  omega

end

/-! ## TELEMETRY.SNAPSHOT and its latch -/

/-- The ranges of a snapshot keep their layout and their number (15 R442). -/
structure LegalRanges (ranges : ListArg W64) (rs : List W64) : Prop where
  low : 1 ≤ ranges.count.toNat
  high : ranges.count.toNat ≤ 64
  items : ranges.items = some rs
  shape : rs.any badRange = false
  total : rs.foldl (fun n r => n + rangeCount r) 0 ≤ 16384

theorem LegalRanges.count_passes {ranges : ListArg W64} {rs : List W64} (legal : LegalRanges ranges rs) :
    ∀ c ∈ [malformed (decide (ranges.count.toNat = 0 ∨ 64 < ranges.count.toNat)) 0], c.1 = false := by
  have := legal.low
  have := legal.high
  simp only [List.forall_mem_cons, List.not_mem_nil, false_implies, implies_true, and_true, malformed,
    decide_eq_false_iff_not]
  omega

section
variable {ranges : ListArg W64} {result : W64} {rs : List W64} (h : Claimed s l 0x1202 [pL ranges, p8 result])
  (legal : LegalRanges ranges rs) (mine : rs.any (fun r => s.noRange l.slice r) = false)
include h legal mine

theorem execTelemetrySnapshot_accepted (free : s.tel.snapshot = none) :
    ∃ t, exec (.telemetrySnapshot l ranges result) s = .next t ∧ Accepted s { s with tel := { s.tel with
      snapshot := some { letter := l, ts := s.snapshotTime, ranges := rs, result := result } } } t l .done
        (leBytes (time96 (s.snapshotTime * 65536)) 16) true := by
  refine ⟨_, rfl, runLetter_accepted h fun c hc => (checked_ok legal.count_passes).trans ?_⟩
  subst hc
  rw [withList, legal.items]
  refine (checked_ok ?_).trans rfl
  simp [malformed, noObj, busy, legal.shape, Nat.not_lt.mpr legal.total, Ctx.sl, mine, free]

theorem execTelemetrySnapshot_busy (taken : s.tel.snapshot.isSome = true) :
    ∃ t, exec (.telemetrySnapshot l ranges result) s = .next t ∧ Rejected s t l .busy 255 := by
  refine ⟨_, rfl, runLetter_rejected h (r := ⟨.busy, 255, 0⟩) fun c hc => (checked_ok legal.count_passes).trans ?_⟩
  subst hc
  rw [withList, legal.items, taken]
  refine checked_rejected (cs := [malformed _ 0, noObj _ 0]) ?_
  simp [malformed, noObj, legal.shape, Nat.not_lt.mpr legal.total, Ctx.sl, mine]

end

theorem snapshotTime_bounds (s : State) : s.snapshotTime % 10000 = 0 ∧
    s.units + 10000 * 65536 ≤ s.snapshotTime * 65536 ∧ s.snapshotTime * 65536 < s.units + 20000 * 65536 := by
  rw [State.snapshotTime]
  omega

theorem execSnapshotLatch_latched {p : Snapshot} {bytes : List Byte} (waits : s.latchSnapshot.tel.snapshot = some p)
    (latched : p.latched = some bytes) (may : s.latchSnapshot.mayRequest p.letter.slice = true) :
    execSnapshotLatch s = .next (((State.hostWrite { s.latchSnapshot with
      tel := { s.latchSnapshot.tel with snapshot := none } } p.letter.slice p.result bytes).bump .telSnapshots).release
        p.letter) := by
  simp only [execSnapshotLatch, waits, latched, may, not_true_eq_false, ↓reduceIte]

section
variable {p : Snapshot} (waits : s.tel.snapshot = some p)
include waits

theorem latchSnapshot_due (unlatched : p.latched = none) (due : p.ts ≤ s.ns) : s.latchSnapshot =
    let t := p.ranges.foldl (fun t r => if rangeSpace r = 0 then t.clearPeaks (rangeFirst r) (rangeCount r) else t) s
    { t with tel := { t.tel with snapshot := some { p with
      latched := some (p.ranges.flatMap fun r => s.latchRange p.ts r) } } } := by
  simp only [State.latchSnapshot, waits]
  rw [if_neg (by simp [unlatched, Nat.not_lt.mpr due])]

theorem latchSnapshot_waits (early : p.latched.isSome = true ∨ s.ns < p.ts) : s.latchSnapshot = s := by
  simp only [State.latchSnapshot, waits, if_pos early]

end

/-! ## Sparse counters (15 R436, R440) -/

theorem sparseValue_listed {ts fam obj : Nat} {a : Accum} (other : fam ≠ 0x0C)
    (listed : nfind s.tel.sparse (sparseKey fam obj) = some a) : s.sparseValue ts fam obj = (a.count, a.sum, a.stamp) := by
  simp only [State.sparseValue, if_neg other, listed]

theorem sparseValue_unlisted {ts fam obj : Nat} (other : fam ≠ 0x0C)
    (unlisted : nfind s.tel.sparse (sparseKey fam obj) = none) : s.sparseValue ts fam obj = (0, 0, none) := by
  simp only [State.sparseValue, if_neg other, unlisted]

/-- What a queue node sent beyond its minimum is what left the queue less what the minimum took. -/
theorem sparseValue_excess (ts obj : Nat) : (s.sparseValue ts 0x0C obj).1 =
    (((s.accum (qDeqIndex obj)).with (qDeqIndex obj) (s.bankCount (qDeqIndex obj))).count + 2 ^ 56 -
      (s.sparseValue ts 0x0B obj).1) % 2 ^ 56 := by
  have other : ¬ (0x0B : Nat) = 0x0C := by decide
  simp only [State.sparseValue, ↓reduceIte, if_neg other]

end

/-- Settles O51: the sweep by the place of its next counter, a letter by its checks, a latch by its instant. The snapshot's
block, who may read which counter, the latch and the pace of the sweep are deduced (notes/assumptions/104.md, 154.md). -/
theorem counterSweepAndReads : Obligations.CounterSweepAndReads := by
  refine ⟨?sweepStart, ?sweepNotYet, ?sweeping, ?sweepRead, ?sweepPaced, ?sweepLast, ?noSweep, ?accumulate, ?bump, ?read,
    ?readForeign, ?snapshot, ?snapshotBusy, snapshotTime_bounds, ?latch, ?latchTs, ?latchOnce, ?latchEarly, ?sparseExcess,
    ?sparseEntry, ?sparseNone⟩
  case sweepStart => exact fun s powered idle due once => execSweepStart_due powered idle due once
  case sweepNotYet =>
    intro s early
    rw [exec_sweepStart, execSweepStart, if_pos (by simp [early])]
  case sweeping =>
    intro s i sweeping
    rw [exec_sweepStart, execSweepStart, if_pos (by simp [sweeping])]
  case sweepRead =>
    intro s i start sweeping more started turn
    rw [exec_sweepRead, execSweepRead_turn sweeping started turn,
      if_neg (show ¬ counterSpan ≤ i + 1 from Nat.not_le.mpr more)]
    rfl
  case sweepPaced => exact fun s i start sweeping started early => execSweepRead_early sweeping started early
  case sweepLast =>
    intro s start sweeping started turn
    rw [exec_sweepRead, execSweepRead_turn sweeping started turn, if_pos (by decide)]
    rfl
  case noSweep =>
    intro s idle
    rw [exec_sweepRead, execSweepRead, idle]
  case accumulate => exact fun a i c adds => with_adding a c adds
  case bump => exact fun s f obj elem n v obj_lt elem_lt => bankCount_bump n v obj_lt elem_lt
  case read =>
    exact fun s l first count result h low high within mine => execTelemetryReadCounters_accepted h low high within mine
  case readForeign =>
    exact fun s l first count result h low high _ shared slice =>
      execTelemetryReadCounters_foreign h low high shared slice
  case snapshot =>
    intro s l ranges result rs h low high items shape total mine free
    refine execTelemetrySnapshot_accepted h ⟨low, high, items, shape, total⟩ ?_ free
    exact List.any_eq_false.mpr fun r hr => by rw [mine r hr]; decide
  case snapshotBusy =>
    exact fun s l ranges result rs h low high items shape total mine taken =>
      execTelemetrySnapshot_busy h ⟨low, high, items, shape, total⟩ mine taken
  case latch =>
    rintro s u p bytes rfl waits latched may
    exact execSnapshotLatch_latched waits latched may
  case latchTs =>
    rintro s t p waits unlatched due rfl
    exact latchSnapshot_due waits unlatched due
  case latchOnce => exact fun s p waits latched => latchSnapshot_waits waits (.inl latched)
  case latchEarly =>
    intro s p waits unlatched early
    simp only [exec_snapshotLatch, execSnapshotLatch, latchSnapshot_waits waits (.inr early), waits, unlatched]
  case sparseExcess => exact fun s ts obj => sparseValue_excess ts obj
  case sparseEntry => exact fun s ts fam obj a other listed => sparseValue_listed other listed
  case sparseNone => exact fun s ts fam obj other unlisted => sparseValue_unlisted other unlisted

end Sys2Proof.Machine

namespace Sys2Proof.Machine

/-! # Tagging and tracing (15 R444-R447) -/

section
variable {s : State} {l : LetterId}

/-! ## TELEMETRY.SET_TAGGING -/

theorem clampU_high {w v lo hi : Nat} {cur : Option Nat} (given : v ≠ 2 ^ w - 1) (high : hi < v) (range : lo ≤ hi) :
    clampU w v lo hi cur = some (hi, true) := by
  have bounded : max lo (min hi v) = hi := by rw [Nat.min_eq_left (Nat.le_of_lt high), Nat.max_eq_right range]
  simp only [clampU, given, ↓reduceIte, Option.map_some, bounded, decide_eq_true (Nat.ne_of_lt high)]

section
variable {ratio : W32} (h : Claimed s l 0x1203 [p4 ratio])
include h

theorem execTelemetrySetTagging_accepted (tags : s.variant.ledger = false) (low : 1 ≤ ratio.toNat)
    (high : ratio.toNat ≤ 65536) : ∃ t, exec (.telemetrySetTagging l ratio) s = .next t ∧
      Accepted s { s with tel := { s.tel with ratio := ratio.toNat } } t l .done (layBody [n4 ratio.toNat]) := by
  refine ⟨_, rfl, runLetter_accepted h fun _ _ => ?_⟩
  simp only [clampU_mem (w := 32) (by omega) low high]
  exact (checked_ok (by simp [noObj, tags])).trans rfl

theorem execTelemetrySetTagging_high (tags : s.variant.ledger = false) (high : 65536 < ratio.toNat)
    (given : ratio.toNat ≠ 4294967295) : ∃ t, exec (.telemetrySetTagging l ratio) s = .next t ∧
      AcceptedClamped s { s with tel := { s.tel with ratio := 65536 } } t l .done (layBody [n4 65536]) 0 := by
  refine ⟨_, rfl, runLetter_clamped h fun _ _ => ?_⟩
  simp only [clampU_high (w := 32) (lo := 1) given high (by omega)]
  exact (checked_ok (by simp [noObj, tags])).trans rfl

/-- A variant with a trace ledger has no random tagging (00 R6). -/
theorem execTelemetrySetTagging_absent (ledger : s.variant.ledger = true) :
    ∃ t, exec (.telemetrySetTagging l ratio) s = .next t ∧ Rejected s t l .noSuchObject 0 := by
  refine ⟨_, rfl, runLetter_rejected h (r := ⟨.noSuchObject, 0, 0⟩) fun _ _ => ?_⟩
  simp only [ledger]
  exact checked_rejected (cs := []) (by simp)

end

/-! ## TELEMETRY.SET_TRACE -/

section
variable {benches filter mode : W32} (h : Claimed s l 0x1204 [p4 benches, p4 filter, p4 mode])
  (zero : bits filter.toNat 20 0 = 0) (direction : bits filter.toNat 22 21 ≠ 3) (mode_le : mode.toNat ≤ 2)
include h zero direction mode_le

theorem execTelemetrySetTrace_accepted (ledger : s.variant.ledger = true)
    (port : bit filter.toNat 23 = false ∨ bits filter.toNat 31 24 ≤ 191) :
    ∃ t, exec (.telemetrySetTrace l benches filter mode) s = .next t ∧ Accepted s { s with tel := { s.tel with
      benches := benches, filter := filter, mode := mode.toNat
      recording := if mode = 0#32 then s.tel.recording else mode.toNat } } t l .done
        (layBody [p4 benches, p4 filter, p4 mode]) := by
  refine ⟨_, rfl, runLetter_accepted h fun _ _ => (checked_ok ?_).trans rfl⟩
  have here : (bit filter.toNat 23 && decide (191 < bits filter.toNat 31 24)) = false := by
    rcases port with unset | port_le
    · rw [unset, Bool.false_and]
    · rw [decide_eq_false (Nat.not_lt.mpr port_le), Bool.and_false]
  simp [malformed, noObj, zero, direction, mode_le, ledger, here]

/-- A variant without a trace ledger traces nothing (00 R6). -/
theorem execTelemetrySetTrace_absent (tags : s.variant.ledger = false) :
    ∃ t, exec (.telemetrySetTrace l benches filter mode) s = .next t ∧ Rejected s t l .noSuchObject 0 := by
  refine ⟨_, rfl, runLetter_rejected h (r := ⟨.noSuchObject, 0, 0⟩) fun _ _ => ?_⟩
  simp only [tags, Bool.not_false]
  exact checked_rejected (cs := [malformed _ 1, malformed _ 2]) (by simp [malformed, zero, direction, mode_le])

end

/-! ## The trace ledger and the tag buffer -/

/-- The header that precedes the entries of the ledger or of the tag buffer (15 R447). -/
def State.traceHeader (s : State) (entries : List (BitVec 256)) : Nat :=
  entries.length * 2 ^ 224 + s.sec % 2 ^ 32 * 2 ^ 192 + s.nsec * 2 ^ 160 + s.tel.skipped % 2 ^ 32 * 2 ^ 128 +
    b2n (!s.variant.ledger) * 2 ^ 120

theorem traceBytes_ledger (ledger : s.variant.ledger = true) :
    s.traceBytes = leBytes (s.traceHeader s.tel.trace) 32 ++ s.tel.trace.flatMap fun e => leBytes e.toNat 32 := by
  simp only [State.traceBytes, if_pos ledger, State.traceHeader]

theorem traceBytes_tags (tags : s.variant.ledger = false) :
    s.traceBytes = leBytes (s.traceHeader s.tel.tags) 32 ++ s.tel.tags.flatMap fun e => leBytes e.toNat 32 := by
  simp only [State.traceBytes, if_neg (Bool.eq_false_iff.mp tags), State.traceHeader]

theorem emptyTrace_ledger (ledger : s.variant.ledger = true) :
    s.emptyTrace = { s with tel := { s.tel with trace := [], skipped := 0 } } := by
  rw [State.emptyTrace, if_pos ledger]

theorem emptyTrace_tags (tags : s.variant.ledger = false) :
    s.emptyTrace = { s with tel := { s.tel with tags := [], skipped := 0 } } := by
  rw [State.emptyTrace, if_neg (Bool.eq_false_iff.mp tags)]

/-- A full ledger that records in a circle gives up its oldest entry (15 R446). -/
theorem addTrace_circular (r : BitVec 256) (circular : s.tel.recording = 1) (full : s.tel.trace.length = 65536) :
    (s.addTrace r).tel.trace = s.tel.trace.drop 1 ++ [r] := by
  simp only [State.addTrace, full, circular, Nat.lt_irrefl, OfNat.one_ne_ofNat, ↓reduceIte]

/-- A full ledger that stops takes no more (15 R446). -/
theorem addTrace_full (r : BitVec 256) (stops : s.tel.recording = 2) (full : 65536 ≤ s.tel.trace.length) :
    s.addTrace r = s := by
  simp only [State.addTrace, if_neg (Nat.not_lt.mpr full), if_pos stops]

end

/-- Settles O52: a letter by its checks and its clamp, the ledger and the tag buffer by the variant. What SET_TRACE leaves
of a recording, the ports above 191 and the answer of READ_TRACE are deduced (notes/assumptions/156.md,
104.md). -/
theorem taggingAndTracing : Obligations.TaggingAndTracing := by
  refine ⟨?tagging, ?taggingClamped, ?taggingAbsent, ?trace, ?traceAbsent, ?readTrace, ?traceBytes, ?tagBytes, ?emptied,
    ?tagsEmptied, ?circular, ?stopsFull⟩
  case tagging => exact fun s l ratio h tags low high => execTelemetrySetTagging_accepted h tags low high
  case taggingClamped => exact fun s l ratio h tags high given => execTelemetrySetTagging_high h tags high given
  case taggingAbsent => exact fun s l ratio h ledger => execTelemetrySetTagging_absent h ledger
  case trace =>
    exact fun s l benches filter mode h ledger zero direction mode_le port =>
      execTelemetrySetTrace_accepted h zero direction mode_le ledger port
  case traceAbsent =>
    exact fun s l benches filter mode h tags zero direction mode_le =>
      execTelemetrySetTrace_absent h zero direction mode_le tags
  case readTrace =>
    exact fun s l result h => ⟨_, rfl, runLetter_accepted h fun c hc => (withResult_written hc).trans rfl⟩
  case traceBytes =>
    rintro s n rfl ledger
    exact traceBytes_ledger ledger
  case tagBytes =>
    rintro s n rfl tags
    exact traceBytes_tags tags
  case emptied => exact fun s ledger => emptyTrace_ledger ledger
  case tagsEmptied => exact fun s tags => emptyTrace_tags tags
  case circular => exact fun s r circular full => addTrace_circular r circular full
  case stopsFull => exact fun s r stops full => addTrace_full r stops full

end Sys2Proof.Machine

namespace Sys2Proof.Machine

/-! # The fault log, suppression and the FAULT letters (17 R478-R484; 10 R521) -/

section
variable {s : State} {l : LetterId}

/-! ## FAULT.READ -/

/-- The records that a FAULT.READ from a number answers. -/
def State.readRecords (s : State) (sl : Nat) (first : W32) (count : Nat) : List FaultRec :=
  ((s.readable sl).filter fun r => atOrAfter first r.record).take count

/-- The applied block of FAULT.READ: how many records it answers and the oldest and newest number held (10 R344). -/
def State.readBlock (s : State) (sl : Nat) (out : List FaultRec) : List Byte :=
  n4 out.length ++ n4 (((s.readable sl).head?.map fun r => r.record.toNat).getD 0) ++
    n4 (((s.readable sl).getLast?.map fun r => r.record.toNat).getD 0) ++ n4 0

section
variable {first count : W32} {result : W64} (h : Claimed s l 0x1401 [p4 first, p4 count, p8 result])
  (low : 1 ≤ count.toNat) (high : count.toNat ≤ 4096)
include h low high

theorem execFaultRead_some (found : s.readRecords l.slice first count.toNat ≠ []) :
    ∃ t, exec (.faultRead l first count result true) s = .next t ∧
      Accepted s (s.hostWrite l.slice result ((s.readRecords l.slice first count.toNat).flatMap fun r => leBytes r.word 64))
        t l .done (s.readBlock l.slice (s.readRecords l.slice first count.toNat)) := by
  refine ⟨_, rfl, runLetter_accepted h fun c hc => (checked_ok ?_).trans ?_⟩
  · simp [malformed, Nat.not_lt.mpr high, Nat.pos_iff_ne_zero.mp low]
  · subst hc
    have filled : ¬ (s.readRecords c.l.slice first count.toNat).isEmpty = true := by simpa using found
    exact (if_neg filled).trans ((withResult_written rfl).trans rfl)

theorem execFaultRead_none {busOk : Bool} (none_held : s.readable l.slice = []) :
    ∃ t, exec (.faultRead l first count result busOk) s = .next t ∧
      Accepted s s t l .done (n4 0 ++ n4 0 ++ n4 0 ++ n4 0) := by
  refine ⟨_, rfl, runLetter_accepted h fun c hc => (checked_ok ?_).trans ?_⟩
  · simp [malformed, Nat.not_lt.mpr high, Nat.pos_iff_ne_zero.mp low]
  · subst hc
    simp only [Ctx.sl, none_held, List.filter_nil, List.take_nil]
    rfl

end

theorem slice_of_readable {sl : Nat} {r : FaultRec} (other : sl ≠ 0) (mem : r ∈ s.readable sl) : r.slice = sl := by
  obtain ⟨-, mine⟩ := List.mem_filter.mp mem
  exact (of_decide_eq_true mine).resolve_left other

/-! ## FAULT.CLEAR -/

section
variable {code : W32} {info : FaultInfo} (h : Claimed s l 0x1402 [p4 code])
include h

theorem execFaultClear_latched (listed : faultInfo code.toNat = some info) (latched : info.latched = true) :
    ∃ t, exec (.faultClear l code) s = .next t ∧
      Accepted s ((s.activeOf l.slice code.toNat).foldl State.clearRec s) t l .done (layBody [p4 code]) := by
  refine ⟨_, rfl, runLetter_accepted h fun c hc => (checked_ok ?_).trans ?_⟩
  · simp [malformed, busy, reservedCode, listed, latched]
  · subst hc
    rfl

/-- A condition that persists is not cleared by a letter. -/
theorem execFaultClear_persists (listed : faultInfo code.toNat = some info) (condition : info.latched = false)
    (persists : s.activeOf l.slice code.toNat ≠ []) :
    ∃ t, exec (.faultClear l code) s = .next t ∧ Rejected s t l .busy 0 := by
  refine ⟨_, rfl, runLetter_rejected h (r := ⟨.busy, 0, 0⟩) fun c hc => ?_⟩
  subst hc
  have held : (s.activeOf c.sl code.toNat).isEmpty = false := List.isEmpty_eq_false_iff.mpr persists
  simp only [listed, Option.map_some, Option.getD_some, condition, held, Bool.not_false, Bool.and_self]
  exact checked_rejected (cs := [malformed _ 0]) (by simp [malformed, reservedCode, listed])

theorem execFaultClear_reserved (reserved : faultInfo code.toNat = none) :
    ∃ t, exec (.faultClear l code) s = .next t ∧ Rejected s t l .malformed 0 := by
  refine ⟨_, rfl, runLetter_rejected h (r := ⟨.malformed, 0, 0⟩) fun _ _ => ?_⟩
  simp only [reservedCode, reserved, Option.isNone_none]
  exact checked_rejected (cs := []) (by simp)

end

/-! ## FAULT.SET_MASK -/

section
variable {code paths : W32} {info : FaultInfo} (h : Claimed s l 0x1403 [p4 code, p4 paths])
  (listed : faultInfo code.toNat = some info) (paths_le : paths.toNat ≤ 15)
include h listed paths_le

theorem execFaultSetMask_accepted
    (receipt : (BitVec.ofNat 4 paths.toNat).getLsbD 0 = (BitVec.ofNat 4 info.paths).getLsbD 0)
    (postcard : (BitVec.ofNat 4 paths.toNat).getLsbD 3 = (BitVec.ofNat 4 info.paths).getLsbD 3)
    (alert : alwaysCritical code.toNat = false ∨ (BitVec.ofNat 4 paths.toNat).getLsbD 2 = true) :
    ∃ t, exec (.faultSetMask l code paths) s = .next t ∧ Accepted s { s with faults := { s.faults with
      masks := nset (BitVec.ofNat 4 info.paths) code.toNat (BitVec.ofNat 4 paths.toNat) s.faults.masks } } t l .done
        (layBody [p4 code, p4 paths]) := by
  refine ⟨_, rfl, runLetter_accepted h fun _ _ => ?_⟩
  simp only [listed, Option.map_some, Option.getD_some]
  refine (checked_ok ?_).trans rfl
  have kept_alert : (alwaysCritical code.toNat && !(BitVec.ofNat 4 paths.toNat).getLsbD 2) = false := by
    rcases alert with uncritical | alert
    · rw [uncritical, Bool.false_and]
    · rw [alert, Bool.not_true, Bool.and_false]
  simp only [List.forall_mem_cons, List.not_mem_nil, false_implies, implies_true, and_true, malformed, notPermitted,
    reservedCode, listed, receipt, postcard, kept_alert, Option.isNone_some, Nat.not_lt.mpr paths_le, ne_eq,
    not_true_eq_false, decide_false, Bool.or_self]

/-- A code that is always CRITICAL keeps `ALERT_N` (17 R482). -/
theorem execFaultSetMask_critical (critical : alwaysCritical code.toNat = true)
    (silent : (BitVec.ofNat 4 paths.toNat).getLsbD 2 = false) :
    ∃ t, exec (.faultSetMask l code paths) s = .next t ∧ Rejected s t l .notPermitted 1 := by
  refine ⟨_, rfl, runLetter_rejected h (r := ⟨.notPermitted, 1, 0⟩) fun _ _ => ?_⟩
  simp only [critical, silent, Bool.not_false, Bool.and_self, Bool.or_true]
  refine checked_rejected (cs := [malformed _ 0, malformed _ 1]) ?_
  simp [malformed, reservedCode, listed, Nat.not_lt.mpr paths_le]

end

/-! ## The log's timers -/

section
variable {n : W32} {r : FaultRec} {since : Nat} (held : s.fault? n = some r)
include held

theorem report_due (shown : r.suppressed = false) (last : r.eventAt = some since) (due : since + 1000000000 ≤ s.up)
    (changed : r.reported ≠ some (r.active, r.severity)) : s.report n =
      (s.setFault { r with eventAt := some s.up, reported := some (r.active, r.severity) }).sendFault r := by
  simp only [State.report, held, shown, last, due, changed, decide_true, decide_false, Bool.not_true, Bool.or_self,
    Bool.false_eq_true, ↓reduceIte]

theorem report_early (last : r.eventAt = some since) (early : s.up < since + 1000000000) : s.report n = s := by
  simp only [State.report, held, last, decide_eq_false (Nat.not_le.mpr early), Bool.not_false, Bool.or_true,
    Bool.true_or, ↓reduceIte]

theorem report_unchanged (same : r.reported = some (r.active, r.severity)) : s.report n = s := by
  simp only [State.report, held, same, decide_true, Bool.or_true, ↓reduceIte]

theorem report_suppressed (hidden : r.suppressed = true) : s.report n = s := by
  simp only [State.report, held, hidden, Bool.true_or, ↓reduceIte]

theorem execSuppressionGraceExpiry_due (grace : r.graceAt = some since) (active : r.active = true)
    (hidden : r.suppressed = true) (due : since + 100000000 ≤ s.up) : execSuppressionGraceExpiry n s = .next ((s.setFault
      { r with suppressed := false, graceAt := none, paths := s.pathsTaken r.code.toNat r.severity false }).report n) := by
  simp only [execSuppressionGraceExpiry, held, grace, if_pos (And.intro active (And.intro hidden due))]

theorem execSuppressionGraceExpiry_cleared (cleared : r.active = false) :
    execSuppressionGraceExpiry n s = .next s := by
  simp only [execSuppressionGraceExpiry, held, cleared, Bool.false_eq_true, false_and, ↓reduceIte]
  cases r.graceAt <;> rfl

end

/-! ## The log and its records -/

/-- A fault that finds neither its record nor room sets `log_full` (17 R479, R488). -/
theorem raise_logFull {code object : Nat} (detail party owner seq : Nat) (sev : Option Nat)
    (unlisted : (s.holdGrace code object).faults.log.find? (fun r => r.code.toNat = code && r.object.toNat = object &&
      (r.active || decide ((s.holdGrace code object).up ≤ r.clearAt + 1000000000))) = none)
    (full : (s.holdGrace code object).faultRoom = none) :
    (s.raise code object detail party owner seq sev).faults.logFull = true := by
  simp only [State.raise, unlisted, full]

theorem recTime_lt (units : Nat) : recTime units < 2 ^ 64 := by
  unfold recTime
  omega

theorem clearTime_lt (r : FaultRec) : (r.clear.map recTime).getD 0 < 2 ^ 64 := by
  cases r.clear with
  | none => decide
  | some units => exact recTime_lt units

/-- The fields of a record do not overlap (17 R478). -/
theorem word_fields (r : FaultRec) : r.word < 2 ^ 512 ∧ bits r.word 511 480 = r.record.toNat ∧
    bits r.word 479 464 = r.code.toNat ∧ bits r.word 463 462 = r.severity % 4 ∧ bits r.word 461 461 = b2n r.active ∧
    bits r.word 439 408 = r.object.toNat ∧ bits r.word 375 344 = r.occurrences.toNat ∧
    bits r.word 319 256 = r.detail.toNat := by
  have record := r.record.isLt
  have code := r.code.isLt
  have active := b2n_le_one r.active
  have suppressed := b2n_le_one r.suppressed
  have headless := b2n_le_one r.headless
  have paths := r.paths.isLt
  have object := r.object.isLt
  have seq := r.seq.isLt
  have occurrences := r.occurrences.isLt
  have detail := r.detail.isLt
  have party := r.party.isLt
  have first := recTime_lt r.first
  have last := recTime_lt r.last
  have clear := clearTime_lt r
  simp only [bits, FaultRec.word]
  omega

end

/-- Settles O57: a letter by its checks, a record's report and its grace by what the record holds. The order of
FAULT.READ's records, its answer without any, and the paths of a record after its grace are deduced
(notes/assumptions/108.md, 157.md). -/
theorem faultLogAndLetters : Obligations.FaultLogAndLetters := by
  refine ⟨?read, ?readNone, ?readable, ?clear, ?clearBusy, ?clearReserved, ?mask, ?maskCritical, ?holdoff, ?holdoffEarly,
    ?holdoffSame, ?grace, ?graceCleared, ?suppressedSilent, ?logFull, word_fields⟩
  case read =>
    rintro s l first count result out h low high rfl found
    exact execFaultRead_some h low high found
  case readNone => exact fun s l first count result ok h low high held => execFaultRead_none h low high held
  case readable => exact fun s sl r other mem => slice_of_readable other mem
  case clear => exact fun s l code info h listed latched => execFaultClear_latched h listed latched
  case clearBusy =>
    exact fun s l code info h listed condition persists => execFaultClear_persists h listed condition persists
  case clearReserved => exact fun s l code h reserved => execFaultClear_reserved h reserved
  case mask =>
    exact fun s l code paths info h listed paths_le receipt postcard alert =>
      execFaultSetMask_accepted h listed paths_le receipt postcard alert
  case maskCritical =>
    exact fun s l paths h paths_le silent => execFaultSetMask_critical h (info := ⟨3, false, 6⟩) rfl paths_le rfl silent
  case holdoff =>
    intro s n r since held shown last due changed
    rw [exec_faultEventHoldoffExpiry, execFaultEventHoldoffExpiry, report_due held shown last due changed]
  case holdoffEarly =>
    intro s n r since held last early
    rw [exec_faultEventHoldoffExpiry, execFaultEventHoldoffExpiry, report_early held last early]
  case holdoffSame =>
    intro s n r held same
    rw [exec_faultEventHoldoffExpiry, execFaultEventHoldoffExpiry, report_unchanged held same]
  case grace =>
    exact fun s n r since held grace active hidden due => execSuppressionGraceExpiry_due held grace active hidden due
  case graceCleared => exact fun s n r held cleared => execSuppressionGraceExpiry_cleared held cleared
  case suppressedSilent => exact fun s n r held hidden => report_suppressed held hidden
  case logFull =>
    exact fun s code object detail party owner seq sev unlisted full =>
      raise_logFull detail party owner seq sev unlisted full

end Sys2Proof.Machine
namespace Sys2Proof.Machine

/-! # A step, the state after reset and time quality (02 R37, R47, R49; 03 R90-R92; 04 R127, R139) -/

section
variable {s : State}

theorem step_of_front (c : Instr) : step { s with pending := c :: s.pending } = exec c s := rfl

theorem step_of_idle (idle : s.pending = []) : step s = .next s.tick := by
  simp only [step, idle]

/-- No object is listed after reset: each reads as its default. -/
theorem port_reset (p : Nat) : State.reset.port p = {} := rfl

theorem timeGood_reset : State.reset.timeGood = false := rfl

theorem timeGood_eq_true : s.timeGood = true ↔ (s.time.state = .locked ∨ s.time.state = .holdover) ∧ s.boundNow ≤ 100 := by
  simp only [State.timeGood, Bool.and_eq_true, Bool.or_eq_true, decide_eq_true_eq]

end

/-- Settles O1: the front command runs on the queue's rest; that the empty queue passes a tick is the model's choice
(notes/assumptions/8.md). -/
theorem stepRunsTheFrontCommand : Obligations.StepRunsTheFrontCommand :=
  ⟨fun _ c => step_of_front c, fun _ idle => step_of_idle idle⟩

/-- Settles O4: each part of the state after reset holds its default. The values of time, of the clerks and of what is
empty are the model's choice (notes/assumptions/1.md, 6.md, 7.md). -/
theorem resetState : Obligations.ResetState := by
  refine ⟨?time, ?epoch, ?ports, ?clerks, ?empty⟩
  case time => exact ⟨rfl, rfl, rfl, rfl, rfl, timeGood_reset, rfl⟩
  case epoch => exact ⟨rfl, rfl, rfl, rfl, rfl⟩
  case ports =>
    intro p
    rw [port_reset]
    exact ⟨rfl, rfl, rfl, rfl, rfl⟩
  case clerks => exact ⟨rfl, rfl, rfl⟩
  case empty => exact ⟨rfl, rfl, rfl, rfl, rfl⟩

/-- Settles O10 by the definition of time quality. -/
theorem timeQualityIsGood : Obligations.TimeQualityIsGood := fun _ => timeGood_eq_true

end Sys2Proof.Machine

namespace Sys2Proof.Machine

/-! # Postcards and peers (02 R72-R75; 08 R265, R270, R288) -/

section
variable {s : State}

/-! ## Postcards (02 R72, R73) -/

theorem execPostcardSend_due (ready : s.ready = true) (crossed : s.crossed 100000 = true)
    (unsent : s.fabric.pcAt ≠ some s.up) : execPostcardSend s = .next (
      let u := (List.range s.variant.planes).foldl (State.pcOnPlane s.postcard) s
      { u with fabric := { u.fabric with pcSeq := u.fabric.pcSeq + 1#16, pcAt := some u.up } }) := by
  rw [execPostcardSend, if_neg (by simp [ready, crossed, unsent])]

/-- A postcard in a good cell on an UP link is heard in the state in which its cell is. -/
theorem execPostcardReceive_heard {link : Fin 256} {cell : List Byte} (present : s.hasLink link = true)
    (up : (s.link link).st = .up) (good : GoodCell cell) (control : isControl 1 cell = true)
    (still_up : ((s.heardCell link cell).link link).st = .up) (ready : (s.heardCell link cell).ready = true) :
    execPostcardReceive link cell true s = .next ((s.heardCell link cell).hearPostcard (readPostcard cell)) := by
  rw [execPostcardReceive, onLink_present present, hear_good (.inl up) good, if_pos ⟨control, still_up, ready⟩]

variable {pc : Postcard}

theorem hearPostcard_sound (format : pc.format = 1#8) (reserved : pc.rsvOk = true) (pending : pc.pendingState.toNat ≤ 4) :
    s.hearPostcard pc = s.takePostcard pc := by
  rw [State.hearPostcard, if_neg (by simp [format, reserved, pending])]

theorem hearPostcard_bad (bad : pc.format ≠ 1#8 ∨ pc.rsvOk = false ∨ 4 < pc.pendingState.toNat) :
    s.hearPostcard pc = { s with time := { s.time with pcBad := satInc s.time.pcBad } } := by
  rw [State.hearPostcard, if_pos (by simpa using bad)]

/-! ## A silent peer and a lasting difference (02 R73, R75) -/

variable {d : Fin 128} {t : Nat}

theorem execPeerAbsent_silent (seen : (s.peer d).lastSeen = some t) (present : (s.peer d).present = true)
    (silent : t + unitsOf 300000 ≤ s.units) : execPeerAbsent d s =
      .next ((s.setPeer d { s.peer d with present := false, lastStep := none }).updatePeer d) := by
  simp only [execPeerAbsent, seen, present, silent, decide_true, Bool.and_self, ↓reduceIte]

theorem execReachMismatchTimer_due (since : (s.peer d).mismatchSince = some t) (due : t + 1000000 < s.up)
    (differ : s.mapsDiffer d = true) : execReachMismatchTimer d s = .next (s.condition 0x0205 d true) := by
  simp only [execReachMismatchTimer, since, due, differ, and_self, ↓reduceIte]

end

/-- Settles O19: a postcard by whether it is sound, a peer's timers by whether they are due. -/
theorem postcardsAndPeers : Obligations.PostcardsAndPeers := by
  refine ⟨?send, ?receive, ?receiveBad, ?absent, ?mismatch⟩
  case send => exact fun s ready crossed unsent => execPostcardSend_due ready crossed unsent
  case receive =>
    rintro s u link cell pc present up good control rfl still_up ready rfl format reserved pending
    rw [exec_postcardReceive, execPostcardReceive_heard present up good control still_up ready,
      hearPostcard_sound format reserved pending]
  case receiveBad =>
    rintro s u link cell pc present up good control rfl still_up ready rfl bad
    rw [exec_postcardReceive, execPostcardReceive_heard present up good control still_up ready, hearPostcard_bad bad]
  case absent => exact fun s d t seen present silent => execPeerAbsent_silent seen present silent
  case mismatch => exact fun s d t since due differ => execReachMismatchTimer_due since due differ

end Sys2Proof.Machine

namespace Sys2Proof.Machine

/-! # Station time: its letters, the servo, the sources, PPS and ToD (02 R40-R48; 10 R344, R521) -/

section
variable {s : State} {l : LetterId}

/-! ## The TIME letters (02 R41, R42, R47; 10 R344, R521) -/

theorem execTimeSetSource_accepted {mode : W32} {sources : ListArg SourceItem} {wtr : W64} {items : List SourceItem}
    (h : Claimed s l 0x0201 [p4 mode, pL sources, p8 wtr]) (mode_le : mode.toNat ≤ 1) (count_low : 1 ≤ sources.count.toNat)
    (count_high : sources.count.toNat ≤ 4) (read : sources.items = some items) (known : items.all sourceItemOk = true)
    (distinct : items.eraseDups.length = items.length)
    (present : items.all (fun v => !decide (v.kind = 0#32 ∧ v.port.toNat ≤ 191 ∧ s.variant.lanes ≤ v.port.toNat)) = true)
    (wtr_high : wtr.toNat ≤ 720000000000) : ∃ t, exec (.timeSetSource l mode sources wtr) s = .next t ∧
      Accepted s (let u := s.setServoMode (decide (mode = 1#32))
        State.reselect { u with time := { u.time with sources := items.map s.sourceOf, wtr := wtr.toNat } } s.time.sourceUsed)
        t l .done (layBody [p4 mode, pL sources, p8 wtr]) := by
  have all_known : (items.any fun v => !sourceItemOk v) = false := by
    rw [← List.not_all_eq_any_not, known]
    rfl
  have all_present : (items.any fun v =>
      decide (v.kind = 0#32 ∧ v.port.toNat ≤ 191 ∧ s.variant.lanes ≤ v.port.toNat)) = false :=
    List.any_eq_false.mpr fun v hv => by
      simpa only [Bool.not_eq_true', Bool.not_eq_true] using List.all_eq_true.mp present v hv
  refine ⟨_, rfl, runLetter_accepted h fun _ _ => (checked_ok ?_).trans ?_⟩
  · simp only [malformed, List.forall_mem_cons, List.not_mem_nil, false_implies, implies_true, and_true]
    exact ⟨decide_eq_false (by omega), decide_eq_false (by omega)⟩
  · simp only [withList, read, clampU_mem (w := 64) (by omega) (Nat.zero_le _) wtr_high]
    refine (checked_ok ?_).trans rfl
    simp only [malformed, noObj, all_known, distinct, all_present, List.forall_mem_cons, List.not_mem_nil, false_implies,
      implies_true, and_true, ne_eq, not_true_eq_false, decide_false, Bool.or_self]

theorem execTimeAdjust_accepted {phase : W64} {freq : W32} (h : Claimed s l 0x0202 [p8 phase, p4 freq])
    (external : s.time.external = true) (small : s.time.state ≠ .locked ∨ (sext 64 phase.toNat).natAbs ≤ 1000)
    (phase_low : -1000000000 ≤ sext 64 phase.toNat) (phase_high : sext 64 phase.toNat ≤ 1000000000)
    (phase_given : phase.toNat ≠ 2 ^ 63) (freq_low : -500000 ≤ sext 32 freq.toNat) (freq_high : sext 32 freq.toNat ≤ 500000)
    (freq_given : freq ≠ 0x80000000#32) : ∃ t, exec (.timeAdjust l phase freq) s = .next t ∧
      Accepted s (let u := s.adjustPhase (sext 64 phase.toNat)
        { u with time := { u.time with trim := trimOf (sext 32 freq.toNat) } })
      t l .done (layBody [p8s (sext 64 phase.toNat), p4s (sext 32 freq.toNat)]) := by
  have freq_value : freq.toNat ≠ 2 ^ (32 - 1) := fun same => freq_given (BitVec.eq_of_toNat_eq same)
  refine ⟨_, rfl, runLetter_accepted h fun _ _ => ?_⟩
  simp only [clampS_mem (w := 64) phase_given phase_low phase_high, clampS_mem (w := 32) freq_value freq_low freq_high,
    freq_given, ↓reduceIte]
  refine (checked_ok ?_).trans rfl
  rcases small with unlocked | small
  · simp [notPermitted, external, unlocked]
  · simp [notPermitted, external, sv, Nat.not_lt.mpr small]

theorem execTimeSetQuality_accepted {q : W32} {error : W64} (h : Claimed s l 0x0203 [p4 q, p8 error]) (q_le : q.toNat ≤ 3)
    (external : s.time.external = true)
    (reaches : q.toNat ≠ 2 ∨ s.time.state = .locked ∨ s.power.lost.getLsbD 3 = false) (error_le : error.toNat ≤ 65535) :
    ∃ t, exec (.timeSetQuality l q error) s = .next t ∧
      Accepted s (let u := s.setTimeState (timeQ q.toNat)
        State.updateQuality { u with time := { u.time with
          bound := if timeQ q.toNat = .freerun then 65535 else error.toNat, boundAt := u.up } })
        t l .done (layBody [p4 q, p8 error]) := by
  refine ⟨_, rfl, runLetter_accepted h fun _ _ => ?_⟩
  simp only [clampU_mem (w := 64) (by omega) (Nat.zero_le _) error_le]
  refine (checked_ok ?_).trans rfl
  have known : ¬ 3 < q.toNat := by omega
  rcases reaches with other | locked | tenMhz
  · simp [malformed, notPermitted, known, external, other]
  · simp [malformed, notPermitted, known, external, locked]
  · have tenMhz : s.power.lost[3] = false := tenMhz
    simp [malformed, notPermitted, known, external, tenMhz]

theorem execTimeSetHoldover_accepted {rate : W32} (h : Claimed s l 0x0204 [p4 rate]) (low : 100 ≤ rate.toNat)
    (high : rate.toNat ≤ 1000000) : ∃ t, exec (.timeSetHoldover l rate) s = .next t ∧ Accepted s { s with time := {
      s.time with bound := s.boundNow, boundAt := s.up, holdoverRate := rate.toNat } } t l .done (layBody [p4 rate]) := by
  refine ⟨_, rfl, runLetter_accepted h fun _ _ => ?_⟩
  simp only [clampU_mem (w := 32) (by omega) low high]
  rfl

theorem execTimeSetPtp_accepted {port enable domain steps : W32} (h : Claimed s l 0x0205 [p4 port, p4 enable, p4 domain, p4 steps])
    (there : port.toNat < s.variant.lanes ∨ port.toNat = 256 ∨ port.toNat = 257) (lanes_le : s.variant.lanes ≤ 192)
    (enable_le : enable.toNat ≤ 1) (domain_low : 24 ≤ domain.toNat) (domain_high : domain.toNat ≤ 43)
    (step_kind : steps = 1#32 ∨ steps = 2#32) : ∃ t, exec (.timeSetPtp l port enable domain steps) s = .next t ∧
      Accepted s (let u := { s with time := { s.time with ptp := nset {} port.toNat { enabled := decide (enable = 1#32), domain := domain.toNat, twoStep := decide (steps = 2#32) } s.time.ptp } }
        if enable = 1#32 then u else u.ptpDown port.toNat)
        t l .done (layBody [p4 port, p4 enable, p4 domain, p4 steps]) := by
  refine ⟨_, rfl, runLetter_accepted h fun _ _ => (checked_ok ?_).trans ?_⟩
  · have port_known : (decide (191 < port.toNat) && decide (port.toNat ≠ 256 ∧ port.toNat ≠ 257)) = false := by
      rw [← Bool.decide_and]
      exact decide_eq_false (by omega)
    simp only [malformed, noObj, List.forall_mem_cons, List.not_mem_nil, false_implies, implies_true, and_true]
    refine ⟨port_known, decide_eq_false (by omega), decide_eq_false (by omega), decide_eq_false ?_, decide_eq_false (by omega)⟩
    rcases step_kind with rfl | rfl <;> decide
  · simp only [decide_eq_true_eq]
    rfl

theorem execTimeRead_accepted (h : Claimed s l 0x0206 []) : ∃ t, exec (.timeRead l) s = .next t ∧
    Accepted s s t l .done (layBody [leBytes (time96 s.units) 16, n4 s.time.state.code, n4 s.boundNow,
      n4 (b2n s.time.external), n4 (s.time.inUse.getD 0xFFFFFFFF)]) :=
  ⟨_, rfl, runLetter_accepted h fun _ _ => rfl⟩

/-! ## The phase of a TIME.ADJUST (02 R38, R48) -/

variable {x : Int}

theorem judgePages_time (s : State) : s.judgePages.time = s.time := rfl

theorem adjustPhase_forward (small : x.natAbs ≤ 1000) (forward : 0 ≤ x) : s.adjustPhase x = s.addPhase (x.natAbs * 2 ^ 40) := by
  rw [State.adjustPhase, if_neg (Nat.not_lt.mpr small), if_neg (Int.not_lt.mpr forward)]

theorem adjustPhase_back (small : x.natAbs ≤ 1000) (back : x < 0) :
    s.adjustPhase x = { s with time := { s.time with owed := s.time.owed + x.natAbs * 2 ^ 40 } } := by
  rw [State.adjustPhase, if_neg (Nat.not_lt.mpr small), if_pos back]

theorem adjustPhase_step (large : 1000 < x.natAbs) :
    s.adjustPhase x = s.stepTime (Int.ofNat s.time.counter + x * 2 ^ 40).toNat := by
  rw [State.adjustPhase, if_pos large]

theorem addPhase_counter (s : State) (n : Nat) : (s.addPhase n).time.counter = s.time.counter + n := by
  rw [State.addPhase, judgePages_time]

theorem stepTime_counter_owed (s : State) (c : Nat) : (s.stepTime c).time.counter = c ∧ (s.stepTime c).time.owed = 0 := by
  simp only [State.stepTime, judgePages_time, and_self]

/-! ## The servo (02 R47, R48) -/

section
variable {offset : Int} {filtered : Nat} (runs : s.servoRuns = true) (ptp : s.time.sourceUsed.map (·.1) = some false)
include runs ptp

/-- A measurement of a source that is no 1PPS takes the filtered offset as the bound. -/
theorem execServoOffsetMeasure_acquiring (acquiring : s.time.state = .acquiring) : execServoOffsetMeasure offset filtered s =
    .next (
      let v := { s with fresh := s.fresh + 1, time := { s.time with
        bound := min 65535 filtered, boundAt := s.up, trim := s.nextTrim offset } }
      let u := if 1000 < offset.natAbs then v.stepTime (Int.ofNat s.time.counter + offset * 2 ^ 40).toNat else v
      State.updateQuality { u with time := { u.time with
        lowSince := if min 65535 filtered ≤ 100 then some (s.time.lowSince.getD s.up) else none } }) := by
  rw [execServoOffsetMeasure, if_neg (by simp [runs, acquiring])]
  simp only [acquiring, ptp, ↓reduceIte, Option.some.injEq, Bool.false_eq_true, Nat.add_zero, decide_eq_true_eq]

theorem execServoOffsetMeasure_locked (locked : s.time.state = .locked) (near : offset.natAbs ≤ 1000) :
    execServoOffsetMeasure offset filtered s = .next (State.updateQuality { s with fresh := s.fresh + 1, time := { s.time with
      bound := min 65535 filtered, boundAt := s.up, trim := s.nextTrim offset, slewing := false } }) := by
  rw [execServoOffsetMeasure, if_neg (by simp [runs, locked])]
  simp only [locked, ptp, reduceCtorEq, ↓reduceIte, Option.some.injEq, Bool.false_eq_true, Nat.add_zero,
    decide_eq_true_eq, Nat.not_lt.mpr near]

end

variable {t : Nat}

theorem execServoLockTimer_due (low : s.time.lowSince = some t) (runs : s.servoRuns = true)
    (acquiring : s.time.state = .acquiring) (bound : s.time.bound ≤ 100) (due : t + 10000000000 ≤ s.up)
    (tenMhz : s.power.lost.getLsbD 3 = false) : execServoLockTimer s = .next (s.setTimeState .locked) := by
  simp only [execServoLockTimer, low]
  rw [if_pos ⟨runs, acquiring, bound, due, Bool.eq_false_iff.mp tenMhz⟩]

variable {i : Fin 4} {v : PhaseSource}

theorem execSourceWtrExpiry_due (source : s.time.sources[i.val]? = some v) (good : v.goodSince = some t)
    (due : t + s.time.wtr ≤ s.up) : execSourceWtrExpiry i s = .next (s.setSource i { v with
      valid := true, failed := false, goodSince := none }).selectSource := by
  simp only [execSourceWtrExpiry, source, good, due, ↓reduceIte]

theorem execPtpSourceLost_valid (source : s.time.sources[i.val]? = some v) (ptp : v.tod = false) (valid : v.valid = true) :
    execPtpSourceLost i s = .next (s.setSource i { v with valid := false, failed := true, goodSince := none }).selectSource := by
  simp only [execPtpSourceLost, State.sourceFails, source, ptp, valid, true_or, Bool.false_eq_true, ↓reduceIte]

/-! ## PTP and ESMC messages (02 R40, R41) -/

theorem execPtpEventMessage_idle {port : Fin 194} {kind : PtpKind} {received : Bool} (corr : BitVec 64)
    (present : port.val < s.variant.lanes) (lane : port.val < 192)
    (idle : received = false ∨ s.ptpReady port = false ∨ s.ptpSource port = none) :
    execPtpEventMessage port kind received corr s =
      .next (s.emit (.ptp port kind (s.ptpStamp port received) s.time.external)) := by
  have number : ptpNumber port.val = port.val := if_pos lane
  have ready : ∀ o, (s.emit o).ptpReady port = s.ptpReady port := fun _ => rfl
  have listed : ∀ o, (s.emit o).ptpSource port = s.ptpSource port := fun _ => rfl
  simp only [execPtpEventMessage, number, lane, present, decide_true, Bool.or_true, onUnit_present, ↓reduceIte, ready, listed]
  rcases idle with sent | down | unlisted
  · simp [sent]
  · simp [down]
  · simp [unlisted]

theorem execEsmcPdu_present {port : Fin 192} {pdu : List Byte} (present : port.val < s.variant.lanes) :
    execEsmcPdu port pdu s = .next (s.emit (.esmc port pdu)) := onUnit_present (decide_eq_true present)

/-! ## 1PPS and ToD (02 R44-R46) -/

theorem execPpsInEdge_noMessage (silent : s.time.tod = none) : execPpsInEdge s = .next { s with time := { s.time with
    lastEdge := some s.up, edgeStamp := s.units, todMissed := min 3 (s.time.todMissed + 1) } } := by
  simp only [execPpsInEdge, silent]

theorem execPpsInEdge_message {m : Tod} (waits : s.time.tod = some m) (unlisted : s.todSource = none) :
    execPpsInEdge s = .next { s with time := { s.time with
      lastEdge := some s.up, edgeStamp := s.units, todApplied := some m, tod := none, todMissed := 0 } } := by
  have unlisted' : s.time.sources.findIdx? (·.tod) = none := unlisted
  simp only [execPpsInEdge, waits, State.todSource, unlisted']

variable {bytes : List Byte}

theorem execTodMessageRx_bad (bad : todOk bytes = false) :
    execTodMessageRx bytes s = .next { s with time := { s.time with todBad := satInc s.time.todBad } } := by
  rw [execTodMessageRx, if_neg (by simp [bad])]

/-- The message that a sound ToD string carries (02 R44). -/
def todOf (bytes : List Byte) : Tod := {
  seconds := BitVec.ofNat 48 (leNat (bslice bytes 4 6)), quality := BitVec.ofNat 2 (leNat (bslice bytes 10 1))
  flags := BitVec.ofNat 8 (leNat (bslice bytes 11 1)), utcOffset := BitVec.ofNat 16 (leNat (bslice bytes 12 2))
  error := BitVec.ofNat 8 (leNat (bslice bytes 14 1)) }

theorem execTodMessageRx_good (ok : todOk bytes = true) (edge : s.time.lastEdge = some t) (after : t + 10000000 ≤ s.up)
    (before : s.up ≤ t + 900000000) :
    execTodMessageRx bytes s = .next { s with time := { s.time with tod := some (todOf bytes) } } := by
  simp only [execTodMessageRx, edge, after, before, ok, and_self, decide_true, Bool.and_self, ↓reduceIte]
  rfl

theorem execTodMissingExpiry_third {i : Nat} (missed : s.time.todMissed = 3) (source : s.todSource = some i) :
    execTodMissingExpiry s = .next (s.sourceFails i) := by
  simp only [execTodMissingExpiry, missed, Nat.lt_irrefl, ↓reduceIte, source]

theorem execPpsOutSecond_due (powered : s.powered = true) (crossed : s.crossed 1000000000 = true)
    (unsent : s.time.ppsAt ≠ some s.up) : execPpsOutSecond s = .next { s.emit (.pps s.sec) with time := { s.time with
      ppsOut := some s.sec, ppsAt := some s.up, todOwed := true } } := by
  rw [execPpsOutSecond, if_pos (by simp [powered, crossed, unsent])]

theorem execTodTransmit_due (owed : s.time.todOwed = true) (edge : s.time.ppsAt = some t) (due : t + 100000000 ≤ s.up) :
    execTodTransmit s = .next { s.emit (.tod s.todBytes) with time := { s.time with todOwed := false } } := by
  have due : (s.time.ppsAt.any fun t => decide (t + 100000000 ≤ s.up)) = true := by
    rw [edge, Option.any_some]
    exact decide_eq_true due
  rw [execTodTransmit, due, owed]
  exact congrArg Host.Outcome.next (if_pos rfl)

end

/-- Settles O18: a letter by its checks, an event by whether it is due. How a phase is applied (adjust, phase, step) is
the model's choice (notes/assumptions/85.md), as are the refusal of setQuality without the 10 MHz reference
(notes/assumptions/120.md) and what the transmitted ToD message holds (notes/assumptions/51.md). -/
theorem timeLetters : Obligations.TimeLetters := by
  refine ⟨?setSource, ?adjust, ?phase, ?step, ?setQuality, ?setHoldover, ?setPtp, ?read, ?acquiring, ?acquiringFar, ?locked,
    ?lock, ?wtr, ?ptpLost, ?event, ?esmc, ?inNoMessage, ?inMessage, ?rxBad, ?rxGood, ?missing, ?out, ?transmit⟩
  case setSource =>
    exact fun s l mode sources wtr items h mode_le count_low count_high read known distinct present wtr_high =>
      execTimeSetSource_accepted h mode_le count_low count_high read known distinct present wtr_high
  case adjust =>
    exact fun s l phase freq h external small phase_low phase_high phase_given freq_low freq_high freq_given =>
      execTimeAdjust_accepted h external small phase_low phase_high phase_given freq_low freq_high freq_given
  case phase =>
    intro s x small
    refine ⟨fun forward => ?_, adjustPhase_back small⟩
    rw [adjustPhase_forward small forward, addPhase_counter]
  case step =>
    intro s x large
    rw [adjustPhase_step large]
    exact stepTime_counter_owed s _
  case setQuality =>
    exact fun s l q error h q_le external reaches error_le => execTimeSetQuality_accepted h q_le external reaches error_le
  case setHoldover => exact fun s l rate h low high => execTimeSetHoldover_accepted h low high
  case setPtp =>
    exact fun s l port enable domain steps h there lanes_le enable_le domain_low domain_high step_kind =>
      execTimeSetPtp_accepted h there lanes_le enable_le domain_low domain_high step_kind
  case read => exact fun s l h => execTimeRead_accepted h
  case acquiring =>
    intro s offset filtered runs acquiring ptp near
    rw [exec_servoOffsetMeasure, execServoOffsetMeasure_acquiring runs ptp acquiring]
    simp only [Nat.not_lt.mpr near, ↓reduceIte]
  case acquiringFar =>
    rintro s u offset filtered runs acquiring ptp far rfl
    rw [exec_servoOffsetMeasure, execServoOffsetMeasure_acquiring runs ptp acquiring]
    simp only [far, ↓reduceIte]
  case locked => exact fun s offset filtered runs locked ptp near => execServoOffsetMeasure_locked runs ptp locked near
  case lock => exact fun s t low runs acquiring bound due tenMhz => execServoLockTimer_due low runs acquiring bound due tenMhz
  case wtr => exact fun s i v t source good due => execSourceWtrExpiry_due source good due
  case ptpLost => exact fun s i v source ptp valid => execPtpSourceLost_valid source ptp valid
  case event => exact fun s port kind received corr present lane idle => execPtpEventMessage_idle corr present lane idle
  case esmc => exact fun s port pdu present => execEsmcPdu_present present
  case inNoMessage => exact fun s silent => execPpsInEdge_noMessage silent
  case inMessage => exact fun s m waits unlisted => execPpsInEdge_message waits unlisted
  case rxBad => exact fun s bytes bad => execTodMessageRx_bad bad
  case rxGood => exact fun s bytes e ok edge after before => execTodMessageRx_good ok edge after before
  case missing => exact fun s i missed source => execTodMissingExpiry_third missed source
  case out => exact fun s powered crossed unsent => execPpsOutSecond_due powered crossed unsent
  case transmit => exact fun s t owed edge due => execTodTransmit_due owed edge due

end Sys2Proof.Machine

namespace Sys2Proof.Machine

/-! # Epochs: the letters, the switch, the release and the sub-epochs (02 R53-R71; 10 R344, R521) -/

section
variable {s : State} {l : LetterId} {n : W32}

/-! ## The order of epoch numbers (02 R59) -/

theorem epochNewer_iff (a b : BitVec 16) : epochNewer a b = true ↔ 1 ≤ (a - b).toNat ∧ (a - b).toNat ≤ 32767 :=
  decide_eq_true_iff

/-- Of two numbers half the circle apart neither is newer. -/
theorem epochNewer_far {a b : BitVec 16} (far : (a - b).toNat = 32768) : epochNewer a b = false ∧ epochNewer b a = false := by
  have back : (b - a).toNat = 32768 := by bv_omega
  exact ⟨decide_eq_false (by omega), decide_eq_false (by omega)⟩

/-! ## The EPOCH letters (02 R53, R54, R62, R65; 10 R521) -/

theorem badEpoch_passes (n_le : n.toNat ≤ 65535) : (badEpoch n).1 = false := decide_eq_false (by omega)

theorem notPending_passes (pending : s.epoch.pending.map (·.toNat) = some n.toNat) : (notPending s n).1 = false :=
  decide_eq_false (not_not_intro pending)

theorem execEpochOpen_accepted (h : Claimed s l 0x0301 [p4 n]) (n_le : n.toNat ≤ 65535) (none_pending : s.epoch.pending = none)
    (released : s.epoch.releasing = none) (alone : s.epoch.seq = none)
    (newer : epochNewer (BitVec.ofNat 16 n.toNat) s.epoch.current = true) : ∃ t, exec (.epochOpen l n) s = .next t ∧
      Accepted s (s.openEpoch (BitVec.ofNat 16 n.toNat)) t l .done (layBody [p4 n]) := by
  refine ⟨_, rfl, runLetter_accepted h fun _ _ => (checked_ok ?_).trans rfl⟩
  simp only [List.forall_mem_cons, List.not_mem_nil, false_implies, implies_true, badEpoch_passes n_le, busy,
    none_pending, released, alone, newer, Option.isSome_none, Bool.or_self, Bool.not_true, and_self]

/-- The commit of an epoch that a letter asks for (02 R54, R62). -/
def State.commitEpoch (s : State) (count t spacing : Nat) : State :=
  { s with epoch := { s.epoch with
    commit := some { t := t, count := count, spacing := spacing }
    held := decide (s.epoch.applied < count), page := if count ≤ s.epoch.applied then .armed else .loading } }

theorem execEpochCommit_accepted {count : W32} {at' : TimeParam} {spacing : W64}
    (h : Claimed s l 0x0302 [p4 n, p4 count, pT at', p8 spacing]) (pending : s.epoch.pending.map (·.toNat) = some n.toNat)
    (n_le : n.toNat ≤ 65535) (count_low : 1 ≤ count.toNat) (count_high : count.toNat ≤ 16777215)
    (unheld : s.epoch.held = false) (page : s.epoch.page = .loading ∨ s.epoch.page = .loaded) (alone : s.epoch.seq = none)
    (spacing_low : 200000 ≤ spacing.toNat) (spacing_high : spacing.toNat ≤ 100000000) (legal : badTime at' = false)
    (near : farTime s at' = false) (ahead : pastTime s at' = false) :
    ∃ t, exec (.epochCommit l n count at' spacing) s = .next t ∧
      Accepted s (s.commitEpoch count.toNat (schedT at') spacing.toNat) t l .scheduled
        (layBody [p4 n, p4 count, pT at', p8 spacing]) := by
  have free : s.epoch.page.fixed = false := by rcases page with page | page <;> rw [page] <;> rfl
  have count_ok : ¬ (count.toNat = 0 ∨ 16777215 < count.toNat) := by omega
  refine ⟨_, rfl, runLetter_accepted h fun _ _ => ?_⟩
  simp only [clampU_mem (w := 64) (by omega) spacing_low spacing_high]
  refine (checked_ok ?_).trans ?_
  · simp [timeChecks, malformed, busy, badEpoch_passes n_le, notPending_passes pending, count_ok, legal, near, ahead, unheld,
      free, alone]
  · simp only [decide_eq_true_eq, ← decide_not, Nat.not_le]
    rfl

theorem execEpochAbort_accepted (h : Claimed s l 0x0303 [p4 n]) (n_le : n.toNat ≤ 65535)
    (pending : s.epoch.pending.map (·.toNat) = some n.toNat) (alone : s.epoch.seq = none) :
    ∃ t, exec (.epochAbort l n) s = .next t ∧ Accepted s s.abortEpoch t l .done (layBody [p4 n]) := by
  refine ⟨_, rfl, runLetter_accepted h fun _ _ => (checked_ok ?_).trans rfl⟩
  simp [badEpoch_passes n_le, noObj, alone, pending]

theorem execEpochCancel_accepted (h : Claimed s l 0x0304 [p4 n]) (n_le : n.toNat ≤ 65535)
    (pending : s.epoch.pending.map (·.toNat) = some n.toNat) (fixed : s.epoch.page.fixed = true) (alone : s.epoch.seq = none) :
    ∃ t, exec (.epochCancel l n) s = .next t ∧
      Accepted s (State.clearFault { s with epoch := { s.epoch with page := .loaded, held := false, commit := none } } 0x0203 0)
        t l .done (layBody [p4 n]) := by
  refine ⟨_, rfl, runLetter_accepted h fun _ _ => (checked_ok ?_).trans ?_⟩
  · simp [badEpoch_passes n_le, notPending_passes pending, busy, fixed, alone]
  · simp only [fixed, ↓reduceIte]
    rfl

theorem execEpochStatus_uncommitted (h : Claimed s l 0x0305 []) (uncommitted : s.epoch.commit = none)
    (unheld : s.epoch.held = false) (unarmed : s.epoch.page ≠ .armed) (undeferred : s.epoch.page ≠ .deferred)
    (alone : s.epoch.seq = none) : ∃ t, exec (.epochStatus l) s = .next t ∧ Accepted s s t l .done (layBody
      [n4 s.epoch.current.toNat, n4 (s.epoch.pending.getD s.epoch.current).toNat, n4 s.epoch.pendingCode,
      n4 (4 * b2n s.lagging + 8 * b2n s.epoch.releasing.isSome), n4 s.epoch.applied, n4 0, leBytes 0 16, n4 0, n4 0]) := by
  refine ⟨_, rfl, runLetter_accepted h fun _ _ => ?_⟩
  simp [accept, uncommitted, unheld, unarmed, undeferred, alone, b2n]

/-! ## EPOCH_SWITCH at T (02 R54, R56, R57, R62) -/

/-- Without sub-epochs the switch makes the pending epoch current. -/
theorem switchEpoch_current {e : BitVec 16} (pending : s.epoch.pending = some e) (alone : s.epoch.seq = none) (t : Nat) :
    (s.switchEpoch t).epoch.current = e ∧ (s.switchEpoch t).epoch.pending = none := by
  simp only [State.switchEpoch, pending, State.seqSwitched, State.pageSwitched, pageEvent_epoch, clearFault_epoch, alone,
    and_self]

section
variable {e : BitVec 16} {c : Commit} (pending : s.epoch.pending = some e) (commit : s.epoch.commit = some c)
  (alone : s.epoch.seq = none) (timed : c.t ≠ 0) (due : c.t ≤ s.units)
include pending commit alone timed due

theorem execEpochSwitch_due (unheld : s.epoch.held = false) (armed : s.epoch.page = .armed) : execEpochSwitch s = .next (
    if c.good.getD s.timeGood then s.switchEpoch c.t
    else State.pageDeferred { s with epoch := { s.epoch with page := .deferred } } 0 0 0) := by
  have page : s.pageDue { state := s.epoch.page, t := c.t, good := c.good } =
      if c.good.getD s.timeGood then .switch else .defer := by
    simp only [State.pageDue, armed, ne_eq, not_true_eq_false, ↓reduceIte, timed, Nat.not_lt.mpr due]
  simp only [execEpochSwitch, pending, commit, alone, Option.any_none, Bool.false_eq_true, ↓reduceIte, unheld, page]
  cases c.good.getD s.timeGood
  · rfl
  · simp only [↓reduceIte, timed]

theorem execEpochSwitch_held (held : s.epoch.held = true) : execEpochSwitch s = .next
    ((State.condition { s with epoch := { s.epoch with held := false } } 0x0202 e.toNat true).pageEvent 0x0012 0 0 0) := by
  have past : s.commitPast c = true := by simp [State.commitPast, timed, due]
  simp only [execEpochSwitch, pending, commit, alone, Option.any_none, Bool.false_eq_true, ↓reduceIte, held, past, State.lapse,
    Option.getD_some]

end

/-! ## The release and the sub-epochs (02 R64, R68, R69) -/

theorem execEpochRelease_due (releasing : s.epoch.releasing.isSome = true) (due : s.epoch.switchT + unitsOf 50000 ≤ s.units)
    (left : s.oldPasses = false) (copied : s.lookup.copiesLeft = 0) : execEpochRelease s = .next s.startRelease := by
  have unreleased : s.epoch.releasing ≠ none := Option.isSome_iff_ne_none.mp releasing
  rw [execEpochRelease]
  exact congrArg _ (if_neg (by simp [unreleased, Nat.not_lt.mpr due, left, copied]))

section
variable {q : SeqChange} (seq : s.epoch.seq = some q) (started : q.switched ≠ 0)
include seq started

theorem execSubepochSwitch_due (due : q.due ≤ s.units) : execSubepochSwitch s = .next (
    if q.staged && s.epoch.pending.isSome then s.switchEpoch q.due else s.slip q) := by
  simp only [execSubepochSwitch, seq, started, Nat.not_lt.mpr due, or_self, ↓reduceIte]

theorem execSequencedListFetch_some (rs : List TableRecord) (own : q.reset = false) (unstaged : q.staged = false)
    (pending : s.epoch.pending.isSome = true) : execSequencedListFetch (some rs) s = .next (s.stageNext q) := by
  have is_pending : s.epoch.pending ≠ none := Option.isSome_iff_ne_none.mp pending
  simp only [execSequencedListFetch, seq]
  exact congrArg _ (if_neg (by simp [own, unstaged, started, is_pending]))

end

end

/-- Settles O16: a letter by its checks, an event by whether it is due. What EPOCH.STATUS holds (status) and that the
sub-epochs after the first switch whatever the time quality (subSwitch) are the model's choice (notes/assumptions/87.md,
121.md). -/
theorem epochLettersAndEvents : Obligations.EpochLettersAndEvents := by
  refine ⟨epochNewer_iff, fun a b far => epochNewer_far far, ?opens, ?commitMet, ?commitHeld, ?abort, ?cancel, ?status,
    ?switch, ?defer, ?lag, ?release, ?subSwitch, ?subSlip, ?fetch⟩
  case opens =>
    exact fun s l n h n_le none_pending released alone low high =>
      execEpochOpen_accepted h n_le none_pending released alone ((epochNewer_iff _ _).mpr ⟨low, high⟩)
  case commitMet =>
    intro s l n count spacing h pending n_le low met high unheld page alone spacing_low spacing_high
    have acc := execEpochCommit_accepted h pending n_le low high unheld page alone spacing_low spacing_high rfl rfl rfl
    rwa [State.commitEpoch, if_pos met, decide_eq_false (Nat.not_lt.mpr met)] at acc
  case commitHeld =>
    intro s l n count at' spacing h pending n_le unmet high unheld page alone spacing_low spacing_high legal near ahead
    have acc := execEpochCommit_accepted h pending n_le (by omega) high unheld page alone spacing_low spacing_high legal near
      ahead
    rwa [State.commitEpoch, if_neg (Nat.not_le.mpr unmet), decide_eq_true unmet] at acc
  case abort => exact fun s l n h n_le pending alone => execEpochAbort_accepted h n_le pending alone
  case cancel =>
    intro s l n h n_le pending page alone
    refine execEpochCancel_accepted h n_le pending ?_ alone
    rcases page with page | page <;> rw [page] <;> rfl
  case status =>
    exact fun s l h uncommitted unheld unarmed undeferred alone =>
      execEpochStatus_uncommitted h uncommitted unheld unarmed undeferred alone
  case switch =>
    intro s n c pending commit alone unheld armed timed due good
    refine ⟨?_, switchEpoch_current pending alone c.t⟩
    rw [exec_epochSwitch, execEpochSwitch_due pending commit alone timed due unheld armed, if_pos good]
  case defer =>
    intro s n c pending commit alone unheld armed timed due poor
    rw [exec_epochSwitch, execEpochSwitch_due pending commit alone timed due unheld armed, if_neg (by simp [poor])]
  case lag =>
    exact fun s n c pending commit alone held timed due => execEpochSwitch_held pending commit alone timed due held
  case release => exact fun s releasing due left copied => execEpochRelease_due releasing due left copied
  case subSwitch =>
    intro s q seq started due staged pending
    rw [exec_subepochSwitch, execSubepochSwitch_due seq started due, staged, pending]
    rfl
  case subSlip =>
    intro s q seq started due unstaged
    rw [exec_subepochSwitch, execSubepochSwitch_due seq started due, unstaged]
    rfl
  case fetch =>
    exact fun s q rs seq own unstaged started pending => execSequencedListFetch_some seq started rs own unstaged pending

end Sys2Proof.Machine

namespace Sys2Proof.Machine

/-! # FlexE groups: overhead, calendars and deskew (03 R95-R100) -/

/-- A page that is LOADED may be scheduled for a legal time (02 R54, R55). -/
theorem scheduleChecks_pass {s : State} {p : Page} {at' : TimeParam} (loaded : p.state = .loaded)
    (near : farTime s at' = false) (ahead : pastTime s at' = false) (k : Nat) : ∀ c ∈ scheduleChecks s p at' k, c.1 = false := by
  simp [scheduleChecks, timeChecks, malformed, busy, loaded, near, ahead]

theorem sendFlexeOh_emits (s : State) (g i : Nat) : s.sendFlexeOh g i = s.emit (.flexeOh g i (s.flexe g i).txB
    (decide ((s.flexe g i).page.state = .armed) && (s.flexe g i).caRequired)
    (if (s.flexe g i).page.state = .armed then some (s.flexe g i).txIn else none)) := by
  simp only [State.sendFlexeOh, decide_eq_true_eq]

section
variable {s : State} {g : Fin 12} {i : Fin 4} (unit : s.variant.envelope = true)
include unit

/-! ## A multiframe boundary passes (03 R99) -/

section
variable (present : (s.flexe g i).present = true) (on : (s.flexe g i).st = .enabled)
include present on

theorem execCalendarSwitch_waits (wait : s.pageDue (s.flexe g i).page = .wait) :
    execCalendarSwitch g i s = .next (s.sendFlexeOh g i) := by
  rw [execCalendarSwitch, onEnvelope_present unit]
  simp only [present, on, wait, not_true_eq_false, ne_eq, or_self, ↓reduceIte]

/-- An armed calendar that is due switches, unless the group asks for a CA that has not come. -/
theorem execCalendarSwitch_due (due : s.pageDue (s.flexe g i).page = .switch) : execCalendarSwitch g i s = .next (
    (if (s.flexe g i).caRequired ∧ ¬ (s.flexe g i).ca then
      (s.setFlexe g i { s.flexe g i with page := { state := .loaded } }).raise 0x0301 (flexeNo g i)
    else s.switchCalendar g i).sendFlexeOh g i) := by
  rw [execCalendarSwitch, onEnvelope_present unit]
  simp only [present, on, due, not_true_eq_false, ne_eq, or_self, ↓reduceIte]

/-! ## Overhead frames and acknowledgements (03 R99, R100) -/

theorem execFlexeOhFrame_bad (ccc : Bool) (clients : List (BitVec 16)) :
    execFlexeOhFrame g i false ccc clients s = .next (s.bump .flexeOhCrc (flexeNo g i)) := by
  rw [execFlexeOhFrame, onEnvelope_present unit]
  simp only [present, on, not_true_eq_false, ne_eq, or_self, Bool.false_eq_true, not_false_eq_true, ↓reduceIte]

theorem execFlexeOhFrame_good (ccc : Bool) (clients : List (BitVec 16)) :
    execFlexeOhFrame g i true ccc clients s = .next (
      let bad := mismatched g clients (if ccc then (s.flexe g i).rxCalB else (s.flexe g i).rxCalA)
      ((s.setFlexe g i { s.flexe g i with rxB := ccc, mismatch := bad }).updateClients s g).condition 0x0302 (flexeNo g i)
        (!bad.isEmpty) (bad.foldl (fun n p => n + 2 ^ (p % 16)) 0)) := by
  rw [execFlexeOhFrame, onEnvelope_present unit]
  simp only [present, on, not_true_eq_false, ne_eq, or_self, ↓reduceIte]

end

theorem execFlexeCaReceive_armed (on : (s.flexe g i).st = .enabled) (armed : (s.flexe g i).page.state = .armed) :
    execFlexeCaReceive g i s = .next (s.setFlexe g i { s.flexe g i with ca := true }) := by
  rw [execFlexeCaReceive, onEnvelope_present unit, if_pos ⟨on, by rw [armed]; rfl⟩]

/-! ## Deskew (03 R97) -/

theorem execFlexeDeskewFail_first (on : (s.flexe g i).st = .enabled) (sound : (s.flexe g i).deskewFail = false) :
    execFlexeDeskewFail g i s = .next (((s.setFlexe g i { s.flexe g i with deskewFail := true }).updateClients s g).bump
      .flexeDeskewFail (flexeNo g i)) := by
  rw [execFlexeDeskewFail, onEnvelope_present unit]
  simp only [on, sound, ne_eq, not_true_eq_false, Bool.false_eq_true, or_self, ↓reduceIte]

theorem execFlexeDeskewRecovery_failed (failed : (s.flexe g i).deskewFail = true) :
    execFlexeDeskewRecovery g i s = .next ((s.setFlexe g i { s.flexe g i with deskewFail := false }).updateClients s g) := by
  rw [execFlexeDeskewRecovery, onEnvelope_present unit]
  simp only [failed, not_true_eq_false, ↓reduceIte]

end

/-! ## The ENVELOPE letters of a FlexE group (03 R95, R96, R98, R99; 02 R53) -/

section
variable {s : State} {l : LetterId} {g i : W32}

theorem execEnvelopeCreateFlexe_accepted {phyType phys ca : W32}
    (h : Claimed s l 0x0501 [p4 g, p4 i, p4 phyType, p4 phys, p4 ca]) (unit : s.variant.envelope = true)
    (zero : l.slice.val = 0) (group_le : g.toNat ≤ 11) (index_le : i.toNat ≤ 3) (type_le : phyType.toNat ≤ 3)
    (phys_le : phys.toNat ≤ 65535) (legal : legalPhys phyType.toNat phys.toNat = true) (ca_le : ca.toNat ≤ 1)
    (free : ((maskBits phys.toNat 16).map (· + 16 * g.toNat)).any (fun x => (octetsOf s.otuLanes).contains (x / 8) ||
      (octetsOf (s.nativeLanes 256)).contains (x / 8) || s.flexeLanes.contains x) = false)
    (absent : (s.flexe g.toNat i.toNat).present = false) :
    ∃ t, exec (.envelopeCreateFlexe l g i phyType phys ca) s = .next t ∧ Accepted s (s.setFlexe g.toNat i.toNat {
      present := true, phyType := phyType.toNat, phys := BitVec.ofNat 16 phys.toNat, caRequired := decide (ca = 1#32) }) t l .done
      (layBody [p4 g, p4 i, p4 phyType, p4 phys, p4 ca]) := by
  refine ⟨_, rfl, runLetter_accepted h fun c hc => (checked_ok ?_).trans rfl⟩
  subst hc
  simp only [List.forall_mem_cons, List.not_mem_nil, false_implies, implies_true, and_true, noEnvelope_passes unit zero,
    malformed, busy, legal, free, absent, Bool.not_true, Bool.or_false, true_and]
  exact ⟨decide_eq_false (by omega), decide_eq_false (by omega), decide_eq_false (by omega), decide_eq_false (by omega),
    decide_eq_false (by omega)⟩

theorem execEnvelopeWriteCalendar_staged {slots : ListArg (BitVec 16)} {cal : List (BitVec 16)}
    (h : Claimed s l 0x0506 [p4 g, p4 i, pL slots]) (names : NamesFlexe s l.slice.val g i)
    (counted : slots.count.toNat = (s.flexe g.toNat i.toNat).slotCount) (read : slots.items = some cal)
    (few : (calPorts cal).any (fun p => decide (320 < calSlots cal p)) = false)
    (serve : (calPorts cal).any (fun p => !s.mayServe g.toNat p fun k => k = .flexe g.toNat i.toNat) = false)
    (free : (s.flexe g.toNat i.toNat).page.state.fixed = false) (a_runs : (s.flexe g.toNat i.toNat).txB = false) :
    ∃ t, exec (.envelopeWriteCalendar l g i slots) s = .next t ∧ Accepted s
      ((calPorts cal).foldl (fun s p => s.setPort p { s.port p with kind := .flexe g.toNat i.toNat })
        (s.setFlexe g.toNat i.toNat { s.flexe g.toNat i.toNat with txCalB := cal, rxCalB := cal, page := { state := .loaded } }))
      t l .staged (layBody [p4 g, p4 i, pL slots]) := by
  obtain ⟨unit, zero, group_le, index_le, present⟩ := names
  refine ⟨_, rfl, runLetter_accepted h fun c hc => (checked_ok ?_).trans ?_⟩
  · subst hc
    simp [noEnvelope_passes unit zero, malformed, group_le, index_le, counted]
  · simp only [withList, read]
    refine (checked_ok ?_).trans ?_
    · simp only [List.forall_mem_cons, List.not_mem_nil, false_implies, implies_true, malformed, noObj, busy, few,
        present, serve, free, Bool.not_true, and_self]
    · simp only [a_runs, Bool.false_eq_true, ↓reduceIte]
      rfl

theorem execEnvelopeScheduleCalendar_armed {at' : TimeParam} (h : Claimed s l 0x0507 [p4 g, p4 i, pT at'])
    (names : NamesFlexe s l.slice.val g i) (loaded : (s.flexe g.toNat i.toNat).page.state = .loaded)
    (legal : badTime at' = false) (near : farTime s at' = false) (ahead : pastTime s at' = false) :
    ∃ t, exec (.envelopeScheduleCalendar l g i at') s = .next t ∧ Accepted s (s.setFlexe g.toNat i.toNat {
      s.flexe g.toNat i.toNat with page := { state := .armed, t := schedT at' }, ca := false }) t l .scheduled
      (layBody [p4 g, p4 i, pT at']) := by
  obtain ⟨unit, zero, group_le, index_le, present⟩ := names
  refine ⟨_, rfl, runLetter_accepted h fun c hc =>
    (checked_ok (List.forall_mem_append.mpr ⟨?_, scheduleChecks_pass loaded near ahead 2⟩)).trans rfl⟩
  subst hc
  simp [noEnvelope_passes unit zero, malformed, noObj, group_le, index_le, legal, present]

theorem execEnvelopeCancelCalendar_accepted (h : Claimed s l 0x0508 [p4 g, p4 i]) (names : NamesFlexe s l.slice.val g i)
    (fixed : (s.flexe g.toNat i.toNat).page.state.fixed = true) :
    ∃ t, exec (.envelopeCancelCalendar l g i) s = .next t ∧ Accepted s
      ((s.setFlexe g.toNat i.toNat { s.flexe g.toNat i.toNat with page := { state := .loaded } }).clearFault 0x0203
        (pageObject 1 (flexeNo g.toNat i.toNat))) t l .done (layBody [p4 g, p4 i]) := by
  obtain ⟨unit, zero, group_le, index_le, present⟩ := names
  refine ⟨_, rfl, runLetter_accepted h fun c hc => ?_⟩
  subst hc
  simp only [cancel_of_fixed fixed]
  refine (checked_ok ?_).trans rfl
  simp [noEnvelope_passes unit zero, malformed, noObj, busy, group_le, index_le, present, fixed]

end

/-- Settles O22: a boundary by whether the calendar's page is due and CA has come, an overhead frame by its CRC, a letter
by its checks. -/
theorem flexEGroups : Obligations.FlexEGroups := by
  refine ⟨?switch, sendFlexeOh_emits, ?switchWaits, ?caMissing, ?ca, ?ohBad, ?oh, ?deskewFail, ?deskewOk, ?create, ?calendar,
    ?schedule, ?cancel⟩
  case switch =>
    intro s g i unit present on due may
    rw [exec_calendarSwitch, execCalendarSwitch_due unit present on due, if_neg ?_]
    rintro ⟨required, missing⟩
    rcases may with free | come
    · exact absurd required (by simp [free])
    · exact missing come
  case switchWaits => exact fun s g i unit present on wait => execCalendarSwitch_waits unit present on wait
  case caMissing =>
    intro s g i unit present on due required missing
    rw [exec_calendarSwitch, execCalendarSwitch_due unit present on due, if_pos ⟨required, by simp [missing]⟩]
  case ca => exact fun s g i unit on armed => execFlexeCaReceive_armed unit on armed
  case ohBad => exact fun s g i ccc clients unit present on => execFlexeOhFrame_bad unit present on ccc clients
  case oh => exact fun s g i ccc clients unit present on => execFlexeOhFrame_good unit present on ccc clients
  case deskewFail => exact fun s g i unit on sound => execFlexeDeskewFail_first unit on sound
  case deskewOk => exact fun s g i unit failed => execFlexeDeskewRecovery_failed unit failed
  case create =>
    exact fun s l g i phyType phys ca h unit zero group_le index_le type_le phys_le legal ca_le free absent =>
      execEnvelopeCreateFlexe_accepted h unit zero group_le index_le type_le phys_le legal ca_le free absent
  case calendar =>
    exact fun s l g i slots cal h unit zero group_le index_le present counted read few serve free a_runs =>
      execEnvelopeWriteCalendar_staged h ⟨unit, zero, group_le, index_le, present⟩ counted read few serve free a_runs
  case schedule =>
    exact fun s l g i at' h unit zero group_le index_le present loaded legal near ahead =>
      execEnvelopeScheduleCalendar_armed h ⟨unit, zero, group_le, index_le, present⟩ loaded legal near ahead
  case cancel =>
    exact fun s l g i h unit zero group_le index_le present fixed =>
      execEnvelopeCancelCalendar_accepted h ⟨unit, zero, group_le, index_le, present⟩ fixed

end Sys2Proof.Machine

namespace Sys2Proof.Machine

/-! # OTN interfaces: frame alignment, defects, GMP and tributary-slot pages (03 R95, R103-R109) -/

section
variable {s : State}

theorem bumpBy_zero (f : Fam) (obj elem : Nat) : s.bumpBy f obj elem 0 = s := rfl

theorem bumpBy_pos {n : Nat} (f : Fam) (obj elem : Nat) (pos : 0 < n) : s.bumpBy f obj elem n = s.bump f obj elem n :=
  if_neg (Nat.ne_of_gt pos)

/-- Errors of the section alone count for the interface alone. -/
theorem otnErrors_section (g i : Nat) (k : Fin 16) {e : OtnErrors} (pmBip : e.pmBip = 0) (pmBei : e.pmBei = 0)
    (smBip : 0 < e.smBip.val) (smBei : 0 < e.smBei.val) : s.otnErrors g i (.otuc k) e =
      (s.bump .otuBip8 (32 * g + 16 * i + k) 0 e.smBip).bump .otuBei (32 * g + 16 * i + k) 0 e.smBei := by
  simp only [State.otnErrors, pmBip, pmBei, Fin.val_zero, bumpBy_zero, bumpBy_pos _ _ _ smBip, bumpBy_pos _ _ _ smBei]

end

section
variable {s : State} {g : Fin 12} (unit : s.variant.envelope = true)
include unit

/-! ## Alignment and loss of frame (03 R104, R105) -/

section
variable {i : Fin 2} {layer : AlignLayer} (live : (s.otu g i).live = true)
include live

theorem execFramePatternCheck_live (layered : (s.otu g i).hasLayer layer = true) (ok : Bool) (e : OtnErrors) :
    execFramePatternCheck g i layer ok e s = .next (
      let a := (nget {} (s.otu g i).align (layerKey layer)).check (s.otu g i).frameN (s.otu g i).frameM s.up ok
      let t := s.setOtu g i { s.otu g i with align := nset {} (layerKey layer) a (s.otu g i).align }
      if a.outOfFrame then t else t.otnErrors g i layer e) := by
  rw [execFramePatternCheck, onEnvelope_present unit]
  simp only [live, layered, not_true_eq_false, or_self, ↓reduceIte]

theorem execLofDeclare_due (layered : (s.otu g i).hasLayer layer = true)
    (out : (nget {} (s.otu g i).align (layerKey layer)).outOfFrame = true)
    (undeclared : (nget {} (s.otu g i).align (layerKey layer)).lof = false)
    (due : max (nget {} (s.otu g i).align (layerKey layer)).since (s.otu g i).since + 3000000 ≤ s.up) :
    execLofDeclare g i layer s = .next (s.setLof g i layer true) := by
  rw [execLofDeclare, onEnvelope_present unit]
  exact congrArg _ (if_pos ⟨live, layered, out, Bool.eq_false_iff.mp undeclared, due⟩)

theorem execLofClear_due (framed : (nget {} (s.otu g i).align (layerKey layer)).outOfFrame = false)
    (declared : (nget {} (s.otu g i).align (layerKey layer)).lof = true)
    (due : max (nget {} (s.otu g i).align (layerKey layer)).since (s.otu g i).since + 3000000 ≤ s.up) :
    execLofClear g i layer s = .next (s.setLof g i layer false) := by
  rw [execLofClear, onEnvelope_present unit]
  exact congrArg _ (if_pos ⟨live, Bool.eq_false_iff.mp framed, declared, due⟩)

/-! ## Defects (03 R106) -/

/-- A defect that appears is listed and acted on; an MSI mismatch raises its tributary's fault. -/
theorem execOtnDefect_appears {d : OtnDefect} (unlisted : (s.otu g i).defects.contains d = false) :
    execOtnDefect g i d true s = .next (
      let t := ((s.setOtu g i { s.otu g i with
        defects := (s.otu g i).defects ++ [d]
        timCount := if d = .tim then (s.otu g i).timCount + 1 else (s.otu g i).timCount }).updateClients s g).otuActions g i
      (msiTrib d).elim t fun k => t.condition 0x0304 (tribObject g k) true) := by
  rw [execOtnDefect, onEnvelope_present unit]
  simp only [live, unlisted, not_true_eq_false, Bool.false_eq_true, or_self, ↓reduceIte, Bool.true_and, decide_eq_true_eq]
  cases msiTrib d <;> rfl

end

/-! ## GMP (03 R108) -/

section
variable {trib : BitVec 16} (live : s.tribLive g trib.toNat = true)
include live

theorem execGmpJcReceive_live (crcOk : Bool) (cm : BitVec 16) : execGmpJcReceive g trib crcOk cm s = .next (
    if crcOk then (s.setTrib g trib.toNat { s.trib g trib.toNat with cm := cm, badJc := 0 }).updateClients s g
    else ((s.setTrib g trib.toNat { s.trib g trib.toNat with
      badJc := (s.trib g trib.toNat).badJc + 1 }).updateClients s g).bump .gmpJcCrc
        ((clientOf (s.tsPage g).active trib.toNat).getD 0)) := by
  rw [execGmpJcReceive, onEnvelope_present unit, if_neg (not_not_intro live)]

theorem execGmpMultiframeTx_live (fill : BitVec 16) : execGmpMultiframeTx g trib fill s = .next
    ((s.setTrib g trib.toNat { s.trib g trib.toNat with
      txCm := Config.gmpCm fill.toNat, txCnd := Config.gmpCnd fill.toNat }).emit
      (.gmp g trib.toNat (Config.gmpCm fill.toNat) (Config.gmpCnd fill.toNat))) := by
  rw [execGmpMultiframeTx, onEnvelope_present unit, if_neg (not_not_intro live)]

end

/-! ## A frame boundary passes (03 R109) -/

theorem execTsPageSwitch_due (live : (s.otu g 0).live = true ∨ (s.otu g 1).live = true)
    (due : s.pageDue (s.tsPage g).page = .switch) : execTsPageSwitch g s = .next (s.switchTsPage g) := by
  rw [execTsPageSwitch, onEnvelope_present unit]
  refine congrArg _ ((if_neg ?_).trans ?_)
  · rintro ⟨first, second⟩
    exact live.elim first second
  · simp only [due]

end

/-! ## The ENVELOPE letters of an OTUCn interface (03 R95, R103, R104, R107, R109; 02 R53) -/

section
variable {s : State} {l : LetterId}

/-- The parameters of ENVELOPE.CREATE_OTU in the order of the catalogue. -/
def otuPars (a : OtuArgs) : List Par :=
  [p4 a.fgroup, p4 a.iface, p4 a.n, p4 a.firstLane, p4 a.lanes, p4 a.frameN, p4 a.frameM, p4 a.timAct]

/-- The interface that legal parameters describe. -/
def createdOtu (a : OtuArgs) : Otu := {
  present := true, n := a.n.toNat, firstLane := a.firstLane.toNat, lanes := a.lanes.toNat, frameN := a.frameN.toNat
  frameM := a.frameM.toNat, timAct := decide (a.timAct = 1#32) }

/-- Parameters of an interface within their ranges, on legal lanes (03 R103, R104). -/
structure LegalOtu (a : OtuArgs) : Prop where
  group_le : a.fgroup.toNat ≤ 11
  iface_le : a.iface.toNat ≤ 1
  n_low : 1 ≤ a.n.toNat
  n_high : a.n.toNat ≤ 16
  width : a.lanes.toNat ∈ [1, 2, 4, 8]
  carries : a.n.toNat ≤ 2 * a.lanes.toNat
  grouped : a.firstLane.toNat / 16 = a.fgroup.toNat
  aligned : a.firstLane.toNat % a.lanes.toNat = 0
  frameN_low : 1 ≤ a.frameN.toNat
  frameN_high : a.frameN.toNat ≤ 8
  frameM_low : 2 ≤ a.frameM.toNat
  frameM_high : a.frameM.toNat ≤ 16
  timAct_le : a.timAct.toNat ≤ 1

theorem execEnvelopeCreateOtu_accepted {a : OtuArgs} (h : Claimed s l 0x0502 (otuPars a)) (unit : s.variant.envelope = true)
    (zero : l.slice.val = 0) (legal : LegalOtu a)
    (free : ((List.range a.lanes.toNat).map (· + a.firstLane.toNat)).any (fun x =>
      (octetsOf (s.nativeLanes 256 ++ s.flexeLanes)).contains (x / 8) || s.otuLanes.contains x) = false)
    (absent : (s.otu a.fgroup.toNat a.iface.toNat).present = false) :
    ∃ t, exec (.envelopeCreateOtu l a) s = .next t ∧
      Accepted s (s.setOtu a.fgroup.toNat a.iface.toNat (createdOtu a)) t l .done (layBody (otuPars a)) := by
  have group_ok : ¬ 11 < a.fgroup.toNat := Nat.not_lt.mpr legal.group_le
  have iface_ok : ¬ 1 < a.iface.toNat := Nat.not_lt.mpr legal.iface_le
  have n_pos : ¬ a.n.toNat < 1 := Nat.not_lt.mpr legal.n_low
  have n_le : ¬ 16 < a.n.toNat := Nat.not_lt.mpr legal.n_high
  have carries : ¬ 2 * a.lanes.toNat < a.n.toNat := Nat.not_lt.mpr legal.carries
  have timAct_ok : ¬ 1 < a.timAct.toNat := Nat.not_lt.mpr legal.timAct_le
  refine ⟨_, rfl, runLetter_accepted h fun c hc => ?_⟩
  subst hc
  have frameN := legal.frameN_high
  have frameM := legal.frameM_high
  simp only [clampU_mem (w := 32) (by omega) legal.frameN_low legal.frameN_high,
    clampU_mem (w := 32) (by omega) legal.frameM_low legal.frameM_high]
  refine (checked_ok ?_).trans rfl
  simp only [List.forall_mem_cons, List.not_mem_nil, false_implies, implies_true, noEnvelope_passes unit zero, malformed,
    busy, free, absent, group_ok, iface_ok, n_pos, n_le, carries, timAct_ok, legal.width, legal.grouped, legal.aligned,
    ne_eq, not_true_eq_false, decide_true, decide_false, Bool.not_true, Bool.or_self, and_self]

variable {g : W32}

theorem execEnvelopeWriteTsPage_staged {entries : ListArg TsEntry} {page : List TsEntry}
    (h : Claimed s l 0x0509 [p4 g, pL entries]) (unit : s.variant.envelope = true) (zero : l.slice.val = 0)
    (group_le : g.toNat ≤ 11) (count_low : 1 ≤ entries.count.toNat) (count_high : entries.count.toNat ≤ 640)
    (read : entries.items = some page) (one : oneClient page = true)
    (fits : page.length ≤ 20 * ((s.otu g.toNat 0).n + (s.otu g.toNat 1).n))
    (legal : (pageTribs page).any (fun t => !legalTrib page (20 * (s.otu g.toNat 0).n) t) = false)
    (serve : (page.filter (·.allocated)).any (fun e => !s.mayServe g.toNat e.client.toNat (otuOf g.toNat)) = false)
    (free : (s.tsPage g.toNat).page.state.fixed = false) :
    ∃ t, exec (.envelopeWriteTsPage l g entries) s = .next t ∧ Accepted s
      ((page.filter (·.allocated)).foldl (fun s e => if (s.port e.client.toNat).kind = .unused then
          s.setPort e.client.toNat { s.port e.client.toNat with kind := .otu g.toNat e.trib.toNat } else s)
        (s.setTsPage g.toNat { s.tsPage g.toNat with inactive := page, page := { state := .loaded } })) t l .staged
      (layBody [p4 g, pL entries]) := by
  have count_pos : ¬ entries.count.toNat < 1 := Nat.not_lt.mpr count_low
  have count_le : ¬ 640 < entries.count.toNat := Nat.not_lt.mpr count_high
  refine ⟨_, rfl, runLetter_accepted h fun c hc => (checked_ok ?_).trans ?_⟩
  · subst hc
    simp [noEnvelope_passes unit zero, malformed, group_le, count_pos, count_le]
  · simp only [withList, read]
    refine (checked_ok ?_).trans rfl
    simp only [List.forall_mem_cons, List.not_mem_nil, false_implies, implies_true, malformed, noObj, busy, one,
      Nat.not_lt.mpr fits, legal, serve, free, Bool.not_true, decide_false, Bool.or_self, and_self]

theorem execEnvelopeScheduleTsPage_armed {at' : TimeParam} (h : Claimed s l 0x050A [p4 g, pT at'])
    (unit : s.variant.envelope = true) (zero : l.slice.val = 0) (group_le : g.toNat ≤ 11)
    (loaded : (s.tsPage g.toNat).page.state = .loaded) (legal : badTime at' = false) (near : farTime s at' = false)
    (ahead : pastTime s at' = false) : ∃ t, exec (.envelopeScheduleTsPage l g at') s = .next t ∧
      Accepted s (s.setTsPage g.toNat { s.tsPage g.toNat with page := { state := .armed, t := schedT at' } }) t l .scheduled
        (layBody [p4 g, pT at']) := by
  refine ⟨_, rfl, runLetter_accepted h fun c hc =>
    (checked_ok (List.forall_mem_append.mpr ⟨?_, scheduleChecks_pass loaded near ahead 1⟩)).trans rfl⟩
  subst hc
  simp [noEnvelope_passes unit zero, malformed, group_le, legal]

theorem execEnvelopeCancelTsPage_accepted (h : Claimed s l 0x050B [p4 g]) (unit : s.variant.envelope = true)
    (zero : l.slice.val = 0) (group_le : g.toNat ≤ 11) (fixed : (s.tsPage g.toNat).page.state.fixed = true) :
    ∃ t, exec (.envelopeCancelTsPage l g) s = .next t ∧ Accepted s
      ((s.setTsPage g.toNat { s.tsPage g.toNat with page := { state := .loaded } }).clearFault 0x0203 (pageObject 2 g.toNat))
        t l .done (layBody [p4 g]) := by
  refine ⟨_, rfl, runLetter_accepted h fun c hc => ?_⟩
  subst hc
  simp only [cancel_of_fixed fixed]
  refine (checked_ok ?_).trans rfl
  simp [noEnvelope_passes unit zero, malformed, busy, group_le, fixed]

end

/-- Settles O23: a frame's check by the layer's machine, a defect by what it concerns, a letter by its checks. The object
of a tributary's fault (msi), the counting of bad justification (jcBad), the errors and the 3 ms of loss of frame, and
the slots that a page may hold (tsWrite) are the model's choice (notes/assumptions/130.md, 131.md, 112.md, 128.md). -/
theorem otnInterfaces : Obligations.OtnInterfaces := by
  refine ⟨?check, ?errors, ?lofDeclare, ?lofClear, ?defect, ?msi, ?jc, ?jcBad, ?gmpTx, ?tsSwitch, ?create, ?tsWrite,
    ?tsSchedule, ?tsCancel⟩
  case check =>
    rintro s g i layer ok e a unit live layered rfl
    exact execFramePatternCheck_live unit live layered ok e
  case errors => exact fun s g i k e pmBip pmBei smBip smBei => otnErrors_section g i k pmBip pmBei smBip smBei
  case lofDeclare =>
    exact fun s g i layer unit live layered out undeclared due => execLofDeclare_due unit live layered out undeclared due
  case lofClear => exact fun s g i layer unit live framed declared due => execLofClear_due unit live framed declared due
  case defect =>
    intro s g i d unit live unlisted plain
    rw [exec_otnDefect, execOtnDefect_appears unit live unlisted, plain]
    rfl
  case msi => exact fun s g i k unit live unlisted => execOtnDefect_appears unit live unlisted
  case jc => exact fun s g trib cm unit live => execGmpJcReceive_live unit live true cm
  case jcBad => exact fun s g trib cm unit live => execGmpJcReceive_live unit live false cm
  case gmpTx => exact fun s g trib fill unit live => execGmpMultiframeTx_live unit live fill
  case tsSwitch => exact fun s g unit live due => execTsPageSwitch_due unit live due
  case create =>
    intro s l a h unit zero group_le iface_le n_low n_high width carries grouped aligned free frameN_low frameN_high
      frameM_low frameM_high timAct_le absent
    exact execEnvelopeCreateOtu_accepted h unit zero ⟨group_le, iface_le, n_low, n_high, width, carries, grouped, aligned,
      frameN_low, frameN_high, frameM_low, frameM_high, timAct_le⟩ free absent
  case tsWrite =>
    exact fun s l g entries page h unit zero group_le count_low count_high read one fits legal serve free =>
      execEnvelopeWriteTsPage_staged h unit zero group_le count_low count_high read one fits legal serve free
  case tsSchedule =>
    exact fun s l g at' h unit zero group_le loaded legal near ahead =>
      execEnvelopeScheduleTsPage_armed h unit zero group_le loaded legal near ahead
  case tsCancel =>
    exact fun s l g h unit zero group_le fixed => execEnvelopeCancelTsPage_accepted h unit zero group_le fixed

end Sys2Proof.Machine

namespace Sys2Proof.Machine

/-! # Benches drain, reload and go off (04 R142, R148-R151; 02 R56, R57) -/

section
variable {s : State} {b : Fin 32}

/-! ## The switch and the drain (04 R148, R149) -/

theorem execBenchSwitch_due (live : (s.bench b).live = true) (on : (s.bench b).enabled = true)
    (idle : (s.bench b).st ≠ .waiting) (due : s.pageDue (s.bench b).page = .switch) :
    execBenchSwitch b s = .next (s.startLoad b .load) := by
  simp only [execBenchSwitch, live, on, idle, due, not_true_eq_false, or_self, ↓reduceIte]

theorem startLoad_first {i : Nat} {why : DrainFor} (none_reloads : s.clerks.reloading = none) :
    s.startLoad i why = State.drainBench { s with clerks := { s.clerks with reloading := some i } } i why := by
  simp only [State.startLoad, none_reloads]

theorem startLoad_waits {i o : Nat} {why : DrainFor} (other : s.clerks.reloading = some o) (live : (s.bench i).st = .live) :
    s.startLoad i why = (s.setBench i { s.bench i with st := .waiting, drain := why }).bump .benchReloadWait := by
  simp only [State.startLoad, other, live, ↓reduceIte]

section
variable (draining : (s.bench b).st = .draining) (empty : s.busyBench b = 0)
include draining empty

theorem execBenchDrainComplete_load (why : (s.bench b).drain = .load) (turn : s.clerks.reloading = some b.val) :
    execBenchDrainComplete b s = .next (State.setBench { s with clerks := { s.clerks with reloading := some b.val } } b
      { s.bench b with st := .reloading }) := by
  simp only [execBenchDrainComplete, draining, empty, why, turn, ne_eq, not_true_eq_false, or_self, or_true, ↓reduceIte]

theorem execBenchDrainComplete_disable (why : (s.bench b).drain = .disable) : execBenchDrainComplete b s = .next
    ((((s.setBench b { s.bench b with st := .off, letter := none }).askDomain (benchDomain b) false).release?
      (s.bench b).letter).updateMap) := by
  simp only [execBenchDrainComplete, draining, empty, why, ne_eq, not_true_eq_false, or_self, ↓reduceIte]

end

/-! ## The read-back of a reload (04 R149) -/

/-- A bench after a load whose read-back agrees: its staged content is active, the content replaced is kept. -/
def Bench.loaded (v : Bench) : Bench := { v with
  st := .live, modeP := v.stagedP, version := v.stagedVersion, level := v.stagedLevel, page := {}
  oldP := v.modeP, oldVersion := v.version, oldLevel := v.level, fromImage := false
  stagedVersion := 0#32, stagedLevel := 0#8, stagedP := true, rollout := false }

theorem execBenchReloadCheck_load (reloading : (s.bench b).st = .reloading) (why : (s.bench b).drain = .load) (ok : Bool) :
    execBenchReloadCheck b ok s = .next (
      if ok then (((((s.endReload b).swapBench b).setBench b (s.bench b).loaded).pageSwitched 4 b 0)).updateMap
      else (((s.endReload b).setBench b { s.bench b with st := .live, page := { state := .loaded } }).raise 0x0402 b).updateMap) := by
  simp only [execBenchReloadCheck, reloading, why, Bench.loaded, reduceCtorEq, ne_eq, not_true_eq_false, ↓reduceIte]

/-! ## A control-store error at a free slot (04 R142, R151) -/

section
variable {c : Fin 16} {i : Fin 6} (here : b.val < s.variant.benches) (on : (s.bench b).st = .live)
  (free : (s.slotAt (slotKey b c i)).st = .free)
include here on free

theorem execControlStoreError_first (live : (s.bench b).live = true) (first : (s.bench b).lastError = none) :
    execControlStoreError b c i s = .next ((s.setBench b { s.bench b with lastError := some s.up }).startLoad b .recover) := by
  rw [execControlStoreError, if_pos here]
  simp only [on, free, live, first, reduceCtorEq, or_self, Bool.not_false, Bool.and_true, Bool.false_eq_true, ↓reduceIte]

theorem execControlStoreError_again {t : Nat} (last : (s.bench b).lastError = some t) (soon : s.up ≤ t + 1000000000) :
    execControlStoreError b c i s = .next (((((s.setBench b { s.bench b with lastError := some s.up, enabled := false }).condition
      0x0403 b true).endReload b)).drainBench b .disable) := by
  rw [execControlStoreError, if_pos here]
  simp only [on, free, last, soon, reduceCtorEq, or_self, decide_true, Bool.not_true, Bool.and_false, ↓reduceIte]

end

/-! ## STORE.ENABLE_BENCH and STORE.DISABLE_BENCH (04 R150) -/

variable {l : LetterId} {bench : W32}

theorem execStoreEnableBench_off (h : Claimed s l 0x0609 [p4 bench]) (here : bench.toNat < s.variant.benches)
    (off : (s.bench bench.toNat).st = .off) (settled : (s.bench bench.toNat).rollout = false) :
    ∃ t, exec (.storeEnableBench l bench) s = .next t ∧ Accepted s ((s.setBench bench.toNat { s.bench bench.toNat with
      enabled := true, st := .checking, drain := .powerUp }).askDomain (benchDomain bench.toNat) true) t l .done (layBody [p4 bench]) := by
  refine ⟨_, rfl, runLetter_accepted h fun _ _ => (checked_ok ?_).trans ?_⟩
  · simp [noObj, busy, here, off]
  · simp only [off, settled, ne_eq, not_true_eq_false, decide_false, Bool.and_false, Bool.false_eq_true, ↓reduceIte]
    rfl

theorem execStoreDisableBench_on (h : Claimed s l 0x060A [p4 bench]) (here : bench.toNat < s.variant.benches)
    (live : (s.bench bench.toNat).live = true) (on : (s.bench bench.toNat).st ≠ .off)
    (others : (List.range s.variant.benches).any (fun i => i ≠ bench.toNat && (s.bench i).live) = true) :
    ∃ t, exec (.storeDisableBench l bench) s = .next t ∧ Accepted s (State.drainBench (s.setBench bench.toNat
      { s.bench bench.toNat with enabled := false, letter := some l }) bench.toNat .disable) t l .done (layBody [p4 bench]) true := by
  refine ⟨_, rfl, runLetter_accepted h fun c hc => (checked_ok ?_).trans ?_⟩
  · simp only [List.forall_mem_cons, List.not_mem_nil, false_implies, implies_true, noObj, busy, notPermitted, live, others,
      Nat.not_le.mpr here, decide_false, Bool.not_true, Bool.false_and, Bool.and_false, and_self]
  · subst hc
    simp only [on, ↓reduceIte]
    rfl

end

/-- Settles O26: a switch by whether another bench reloads, a drain by what it is for, a read-back by whether it agrees, an
error by whether one came within 1 s before. -/
theorem benchReload : Obligations.BenchReload := by
  refine ⟨?switch, ?switchWaits, ?drained, ?drainedOff, ?reloaded, ?reloadFailed, ?storeError, ?storeErrorTwice, ?enable,
    ?disable⟩
  case switch =>
    intro s b live on idle due none_reloads
    rw [exec_benchSwitch, execBenchSwitch_due live on idle due, startLoad_first none_reloads]
  case switchWaits =>
    intro s b o live on st due other
    rw [exec_benchSwitch, execBenchSwitch_due live on (by simp [st]) due, startLoad_waits other st]
  case drained => exact fun s b draining empty why turn => execBenchDrainComplete_load draining empty why turn
  case drainedOff => exact fun s b draining empty why => execBenchDrainComplete_disable draining empty why
  case reloaded => exact fun s b reloading why => execBenchReloadCheck_load reloading why true
  case reloadFailed => exact fun s b reloading why => execBenchReloadCheck_load reloading why false
  case storeError => exact fun s b c i here on live free first => execControlStoreError_first here on free live first
  case storeErrorTwice => exact fun s b c i t here on free last soon => execControlStoreError_again here on free last soon
  case enable => exact fun s l bench h here off settled => execStoreEnableBench_off h here off settled
  case disable => exact fun s l bench h here live on others => execStoreDisableBench_on h here live on others

end Sys2Proof.Machine

namespace Sys2Proof.Machine

/-! # The letters that stage and schedule the control store and write local memory (04 R127-R148; 14 R416, R427) -/

section
variable {s : State} {l : LetterId} {benches : W32}

/-! ## The benches that a letter names -/

theorem noBench_passes (here : (benchList benches).any (fun b => decide (s.variant.benches ≤ b)) = false) (k : Nat) :
    (noBench s benches k).1 = false := here

theorem pageFixed_passes (free : (benchList benches).any (fun b => (s.bench b).page.state.fixed) = false) :
    (pageFixed s benches).1 = false := free

/-! ## Staging (04 R127, R129, R143; 14 R416, R427) -/

/-- A write whose words could be read opens the pages of its benches and stages the words there. -/
theorem storeWrite_read {α : Type} {words : ListArg α} {ws : List α} (read : words.items = some ws) (body : List Byte)
    (write : State → Nat → List α → State) : storeWrite s benches words body write =
      acceptStaged ((benchList benches).foldl (fun s b => write (s.openPage b s.clerks.modeP) b ws) s) body := by
  simp only [storeWrite, read]

section
variable (here : (benchList benches).any (fun b => decide (s.variant.benches ≤ b)) = false)
  (free : (benchList benches).any (fun b => (s.bench b).page.state.fixed) = false)
include here free

theorem execStoreWriteMicro_staged {start : W32} {words : ListArg W32} {ws : List W32}
    (h : Claimed s l 0x0602 [p4 benches, p4 start, pL words]) (start_low : 0x40 ≤ start.toNat) (start_high : start.toNat ≤ 0xFFFF)
    (count_low : 1 ≤ words.count.toNat) (fits : start.toNat + words.count.toNat ≤ 0x10000) (mode : s.clerks.modeP = false)
    (read : words.items = some ws) : ∃ t, exec (.storeWriteMicro l benches start words) s = .next t ∧ Accepted s
      ((benchList benches).foldl (fun s b => (s.openPage b s.clerks.modeP).stageMicro b start.toNat ws) s) t l .staged
      (layBody [p4 benches, p4 start, pL words]) := by
  have start_ok : ¬ (start.toNat < 0x40 ∨ 0xFFFF < start.toNat) := by omega
  have count_ok : ¬ (words.count.toNat = 0 ∨ 0x10000 < start.toNat + words.count.toNat) := by omega
  refine ⟨_, rfl, runLetter_accepted h fun _ _ => (checked_ok ?_).trans (storeWrite_read read _ _)⟩
  simp [malformed, notPermitted, start_ok, count_ok, noBench_passes here, pageFixed_passes free, mode]

theorem execStoreWriteNano_staged {start : W32} {words : ListArg (BitVec 256)} {ws : List (BitVec 256)}
    (h : Claimed s l 0x0603 [p4 benches, p4 start, pL words]) (start_low : 1 ≤ start.toNat) (start_high : start.toNat ≤ 0x3FFF)
    (count_low : 1 ≤ words.count.toNat) (fits : start.toNat + words.count.toNat ≤ 0x4000) (mode : s.clerks.modeP = false)
    (read : words.items = some ws) : ∃ t, exec (.storeWriteNano l benches start words) s = .next t ∧ Accepted s
      ((benchList benches).foldl (fun s b => (s.openPage b s.clerks.modeP).stageNano b start.toNat ws) s) t l .staged
      (layBody [p4 benches, p4 start, pL words]) := by
  have start_ok : ¬ (start.toNat = 0 ∨ 0x3FFF < start.toNat) := by omega
  have count_ok : ¬ (words.count.toNat = 0 ∨ 0x4000 < start.toNat + words.count.toNat) := by omega
  refine ⟨_, rfl, runLetter_accepted h fun _ _ => (checked_ok ?_).trans (storeWrite_read read _ _)⟩
  simp only [List.forall_mem_cons, List.not_mem_nil, false_implies, implies_true, malformed, notPermitted, start_ok, count_ok,
    noBench_passes here, pageFixed_passes free, mode, decide_false, and_self]

theorem execStoreWritePatch_staged {micro regs : ListArg W32} {nano : ListArg (BitVec 256)} {level : W32} {m r : List W32}
    {n : List (BitVec 256)} (h : Claimed s l 0x0604 [p4 benches, pL micro, pL nano, pL regs, p4 level])
    (micro_le : micro.count.toNat ≤ 1024) (nano_le : nano.count.toNat ≤ 512) (regs_count : regs.count.toNat = 64)
    (level_le : level.toNat ≤ 255) (mode : s.clerks.modeP = true) (micro_read : micro.items = some m)
    (nano_read : nano.items = some n) (regs_read : regs.items = some r) :
    ∃ t, exec (.storeWritePatch l benches micro nano regs level) s = .next t ∧ Accepted s
      ((benchList benches).foldl (fun s b => s.stagePatch b m n r level.toNat) s) t l .staged
      (layBody [p4 benches, pL micro, pL nano, pL regs, p4 level]) := by
  refine ⟨_, rfl, runLetter_accepted h fun _ _ => (checked_ok ?_).trans ?_⟩
  · simp [malformed, notPermitted, micro_le, nano_le, regs_count, level_le, noBench_passes here, pageFixed_passes free, mode]
  · simp only [withList, micro_read, nano_read, regs_read]
    rfl

theorem execStoreStageImage_staged {bank : W32} (h : Claimed s l 0x0605 [p4 benches, p4 bank]) (bank_le : bank.toNat ≤ 1)
    (still : s.benchesMoving = false)
    (verified : s.bankState (if s.clerks.modeP then 2 else 1) (decide (bank = 1#32)) = .verified) :
    ∃ t, exec (.storeStageImage l benches bank) s = .next t ∧ Accepted s
      ((benchList benches).foldl (fun s i => s.stageImage i s.clerks.modeP (decide (bank = 1#32))) s) t l .staged
      (layBody [p4 benches, p4 bank]) := by
  refine ⟨_, rfl, runLetter_accepted h fun _ _ => (checked_ok ?_).trans rfl⟩
  simp only [List.forall_mem_cons, List.not_mem_nil, false_implies, implies_true, malformed, busy, Nat.not_lt.mpr bank_le,
    noBench_passes here, pageFixed_passes free, still, verified, reduceCtorEq, decide_false, Bool.or_self, and_self]

end

/-! ## Mode, seal, schedule and cancel (04 R144, R145, R147, R148; 02 R53-R55) -/

theorem execStoreSetMode_accepted {mode : W32} (h : Claimed s l 0x0601 [p4 mode]) (mode_le : mode.toNat ≤ 1)
    (still : s.benchesMoving = false) : ∃ t, exec (.storeSetMode l mode) s = .next t ∧
      Accepted s { s with clerks := { s.clerks with modeP := decide (mode = 1#32) } } t l .done (layBody [p4 mode]) := by
  refine ⟨_, rfl, runLetter_accepted h fun _ _ => (checked_ok ?_).trans rfl⟩
  simp [malformed, busy, mode_le, still]

section
variable (here : (benchList benches).any (fun b => decide (s.variant.benches ≤ b)) = false)
include here

theorem execStoreSeal_accepted {version : W32} (h : Claimed s l 0x0606 [p4 benches, p4 version])
    (single : (benchList benches).any (fun b => (s.bench b).stagedP && s.twoMatch b) = false)
    (written : (benchList benches).any (fun b =>
      (s.bench b).page.state ≠ .loading && (s.bench b).page.state ≠ .loaded) = false) :
    ∃ t, exec (.storeSeal l benches version) s = .next t ∧ Accepted s
      ((benchList benches).foldl (fun s b => s.sealPage b version) s) t l .done (layBody [p4 benches, p4 version]) := by
  refine ⟨_, rfl, runLetter_accepted h fun _ _ => (checked_ok ?_).trans rfl⟩
  simp only [List.forall_mem_cons, List.not_mem_nil, false_implies, implies_true, malformed, busy, noBench_passes here,
    single, written, and_self]

theorem execStoreScheduleLoad_armed {at' : TimeParam} {spacing : W64}
    (h : Claimed s l 0x0607 [p4 benches, pT at', p8 spacing]) (legal : badTime at' = false) (near : farTime s at' = false)
    (ahead : pastTime s at' = false) (still : s.benchesMoving = false)
    (loaded : (benchList benches).any (fun b => (s.bench b).page.state ≠ .loaded) = false)
    (compatible : (benchList benches).any (fun b =>
      !s.compatible (s.bench b).stagedVersion.toNat (s.bench b).stagedVersion.toNat) = false)
    (spacing_low : 200000 ≤ spacing.toNat) (spacing_high : spacing.toNat ≤ 100000000) :
    ∃ t, exec (.storeScheduleLoad l benches at' spacing) s = .next t ∧
      Accepted s (s.armBenches (benchList benches) (schedT at') spacing.toNat) t l .scheduled
        (layBody [p4 benches, pT at', p8 spacing]) := by
  refine ⟨_, rfl, runLetter_accepted h fun _ _ => ?_⟩
  simp only [clampU_mem (w := 64) (by omega) spacing_low spacing_high]
  refine (checked_ok ?_).trans rfl
  simp only [List.forall_mem_append, List.forall_mem_cons, List.not_mem_nil, false_implies, implies_true, timeChecks,
    malformed, busy, legal, near, ahead, noBench_passes here, still, loaded, compatible, and_self]

/-- A bench whose page is armed or deferred and that does not yet drain for its load may be cancelled. -/
theorem execStoreCancelLoad_accepted (h : Claimed s l 0x0608 [p4 benches])
    (may : (benchList benches).all (fun b => (s.bench b).page.state.fixed && !(((s.bench b).st = .draining ||
      (s.bench b).st = .reloading) && (s.bench b).drain = .load)) = true) :
    ∃ t, exec (.storeCancelLoad l benches) s = .next t ∧ Accepted s
      ((benchList benches).foldl (fun s b => (s.setBench b { s.bench b with
        page := (s.bench b).page.cancel
        st := if (s.bench b).st = .waiting ∧ (s.bench b).drain = .load then .live else (s.bench b).st }).clearFault
        0x0203 (pageObject 4 b)) s) t l .done (layBody [p4 benches]) := by
  have past : (benchList benches).any (fun b => !(s.bench b).page.state.fixed || (((s.bench b).st = .draining ||
      (s.bench b).st = .reloading) && (s.bench b).drain = .load)) = false := by
    refine List.any_eq_false.mpr fun b hb => ?_
    have may := List.all_eq_true.mp may b hb
    rw [Bool.and_eq_true, Bool.not_eq_true'] at may
    rw [may.1, may.2]
    decide
  refine ⟨_, rfl, runLetter_accepted h fun _ _ => (checked_ok ?_).trans rfl⟩
  simp only [List.forall_mem_cons, List.not_mem_nil, false_implies, implies_true, busy, noBench_passes here, past, and_self]

end

/-! ## The budget and local memory (04 R135, R136, R139) -/

theorem execStoreSetBudget_accepted {budget : W32} (h : Claimed s l 0x060B [p4 budget]) (low : 256 ≤ budget.toNat)
    (high : budget.toNat ≤ 16384) : ∃ t, exec (.storeSetBudget l budget) s = .next t ∧
      Accepted s { s with clerks := { s.clerks with budget := budget.toNat } } t l .done (layBody [p4 budget]) := by
  refine ⟨_, rfl, runLetter_accepted h fun _ _ => ?_⟩
  simp only [clampU_mem (w := 32) (by omega) low high]
  rfl

theorem execStoreWriteLocal_one {clerk offset : W32} {size : W64} {data : BitVec 512}
    (h : Claimed s l 0x060C [p4 clerk, p4 offset, p8 size, pLe data.toNat 64]) (there : clerk.toNat < 16 * s.variant.benches)
    (benches_le : s.variant.benches ≤ 32) (size_low : 1 ≤ size.toNat) (size_high : size.toNat ≤ 64)
    (fits : offset.toNat + size.toNat ≤ 0x18000) : ∃ t, exec (.storeWriteLocal l clerk offset size data) s = .next t ∧
      Accepted s { s with clerks := { s.clerks with
        localMem := Memory.writeBytes (98304 * clerk.toNat + offset.toNat) (leBytes data.toNat size.toNat)
          s.clerks.localMem } } t l .done
      (layBody [p4 clerk, p4 offset, p8 size, pLe data.toNat 64]) := by
  have one : clerk.toNat ≠ 512 := by omega
  have numbered : ¬ 512 < clerk.toNat := by omega
  have offset_ok : ¬ 0x18000 ≤ offset.toNat := by omega
  refine ⟨_, rfl, runLetter_accepted h fun _ _ => ?_⟩
  simp only [clampU_mem (w := 64) (by omega) size_low size_high]
  refine (checked_ok ?_).trans ?_
  · simp only [List.forall_mem_cons, List.not_mem_nil, false_implies, implies_true, malformed, noObj, noKeep, numbered,
      offset_ok, qty_v_some, Nat.not_lt.mpr fits, Nat.not_le.mpr there, Option.isNone_some, false_and, decide_false, and_self]
  · simp only [one, ↓reduceIte]
    rfl

end

/-- Settles O27: a letter by its checks. That a write of local memory puts the first bytes of its data in order
(writeLocal) and that a schedule arms all its benches or none (schedule) are the model's choice
(notes/assumptions/98.md, 94.md). -/
theorem storeLetters : Obligations.StoreLetters := by
  refine ⟨?setMode, ?writeMicro, ?writeNano, ?writePatch, ?stageImage, ?sealed, ?schedule, ?cancel, ?budget, ?writeLocal⟩
  case setMode => exact fun s l mode h mode_le still => execStoreSetMode_accepted h mode_le still
  case writeMicro =>
    exact fun s l benches start words ws h start_low start_high count_low fits here free mode read =>
      execStoreWriteMicro_staged here free h start_low start_high count_low fits mode read
  case writeNano =>
    exact fun s l benches start words ws h start_low start_high count_low fits here free mode read =>
      execStoreWriteNano_staged here free h start_low start_high count_low fits mode read
  case writePatch =>
    exact fun s l benches micro nano regs level m n r h micro_le nano_le regs_count level_le here free mode micro_read
        nano_read regs_read =>
      execStoreWritePatch_staged here free h micro_le nano_le regs_count level_le mode micro_read nano_read regs_read
  case stageImage =>
    exact fun s l benches bank h bank_le here still free verified =>
      execStoreStageImage_staged here free h bank_le still verified
  case sealed => exact fun s l benches version h single here written => execStoreSeal_accepted here h single written
  case schedule =>
    exact fun s l benches at' spacing h legal near ahead here still loaded compatible spacing_low spacing_high =>
      execStoreScheduleLoad_armed here h legal near ahead still loaded compatible spacing_low spacing_high
  case cancel => exact fun s l benches h here may => execStoreCancelLoad_accepted here h may
  case budget => exact fun s l budget h low high => execStoreSetBudget_accepted h low high
  case writeLocal =>
    exact fun s l clerk offset size data h there benches_le size_low size_high fits =>
      execStoreWriteLocal_one h there benches_le size_low size_high fits

end Sys2Proof.Machine

namespace Sys2Proof.Machine

/-! # The scheduler, header windows, virtual output queues and the arbiter (07 R223-R252; 06 R221; 09 R302) -/

section
variable {s u t : State}

/-! ## The scheduler (07 R234, R239, R240, R244) -/

section
variable {port : Fin 192} (present : s.hasPort port = true)
include present

theorem execSchedulerSelect_closed (closed : (s.readNodes port).portOpen port = false) :
    execSchedulerSelect port s = .next (s.readNodes port) := by
  rw [execSchedulerSelect, onPort_present present]
  simp only [closed, Bool.false_eq_true, not_false_eq_true, ↓reduceIte]

theorem execSchedulerSelect_guarded (opened : (s.readNodes port).portOpen port = true)
    (barred : (s.readNodes port).servable port = false) :
    execSchedulerSelect port s = .next ((s.readNodes port).countGuard port) := by
  rw [execSchedulerSelect, onPort_present present]
  simp only [opened, barred, not_true_eq_false, Bool.false_eq_true, not_false_eq_true, ↓reduceIte]

theorem execSchedulerSelect_turn (opened : (s.readNodes port).portOpen port = true)
    (servable : (s.readNodes port).servable port = true)
    (turn : nextAfter (s.readNodes port).queues.lastPort ((List.range (s.readNodes port).variant.lanes).filter
      (s.readNodes port).servable) = some port.val) :
    execSchedulerSelect port s = .next (((s.readNodes port).countGuard port).selectPort port) := by
  rw [execSchedulerSelect, onPort_present present]
  simp only [opened, servable, turn, not_true_eq_false, ne_eq, ↓reduceIte]

end

theorem selectPort_reaches {port q : Nat} {path : List (Nat × Bool)}
    (reaches : s.walk port 5 (nodeKey 4 port) [] = (t, some (q, path))) :
    s.selectPort port = State.takeHead { t with queues := { t.queues with lastPort := port } } port q path := by
  simp only [State.selectPort, reaches]

/-- A head whose data is here is dequeued, debited on its path and charged to the pacing. -/
theorem takeHead_here {port q : Nat} {path : List (Nat × Bool)} {p : Packet} {ps : List Packet} {pirs cirs : List Nat}
    (head : ((s.ageHeads q (s.queue q).packets.length).queue q).packets = p :: ps)
    (debited : (s.ageHeads q (s.queue q).packets.length).debitPath port p.len path = (u, pirs, cirs))
    (here : (((u.unlink q).chargePace p.len).count (qDeqIndex q) 1 p.len).dataHere p = true) :
    s.takeHead port q path = (let v : State := ((u.unlink q).chargePace p.len).count (qDeqIndex q) 1 p.len
      { v with queues := { v.queues with
        selected := v.queues.selected ++ [⟨{ p with port := port, fetching := false }, q, pirs, cirs⟩] } }) := by
  simp only [State.takeHead, head, debited, here, ↓reduceIte, Bool.not_true]

/-! ## Header windows (04 R118; 06 R221; 09 R302) -/

section
variable {x : Selected} (ready : readyWindow s.dataHere [] s.queues.selected = some x)
include ready

theorem execHeaderWindowSend_lost (lost : x.packet.lost = true) : execHeaderWindowSend s = .next (State.freePacket {
    s with queues := { s.queues with selected := s.queues.selected.erase x } } x.packet (ofQueue x.queue)) := by
  simp only [execHeaderWindowSend, ready, lost, true_or, ↓reduceIte]

variable (kept : x.packet.lost = false) (sound : x.packet.poisoned = false)
include kept sound

theorem execHeaderWindowSend_full (full : 4096 ≤ s.windowsOut) : execHeaderWindowSend s = .next s := by
  simp only [execHeaderWindowSend, ready, kept, sound, full, Bool.false_eq_true, or_self, ↓reduceIte]

theorem execHeaderWindowSend_sent (room : s.windowsOut < 4096)
    (sent : State.sendFlit { s with queues := { s.queues with selected := s.queues.selected.erase x } } false
      (.window { x.packet with refTime := s.units, winNo := s.d2d.nextSorter }) = some t) :
    execHeaderWindowSend s = .next { t with queues := { t.queues with
      away := t.queues.away ++ [{ x with packet := { x.packet with refTime := s.units, winNo := s.d2d.nextSorter } }] } } := by
  simp only [execHeaderWindowSend, ready]
  refine congrArg _ ((if_neg (by simp [kept, sound])).trans ((if_neg (Nat.not_le.mpr room)).trans ?_))
  split
  · next refused => cases sent.symm.trans refused
  · next taken =>
    cases sent.symm.trans taken
    rfl

end

/-! ## Returned windows (07 R237; 06 R201, R223; 12 R383) -/

section
variable {rivals : List Rival} {r : Packet} {rest : List (Packet × Bool)} {x : Selected} {forward : Bool}
  (front : s.queues.returned = (r, forward) :: rest)
include front

theorem execWindowReturn_alone (alone : (s.queues.away.find? fun x => x.packet.winNo = r.winNo) = none) :
    execWindowReturn rivals s = .next { s with queues := { s.queues with returned := rest } } := by
  simp only [execWindowReturn, front, alone]

variable (met : (s.queues.away.find? fun x => x.packet.winNo = r.winNo) = some x) (whole : x.packet.whole = true)
include met whole

theorem execWindowReturn_punted (punted : forward = false) :
    execWindowReturn rivals s = .next ((s.meet rest x).puntQueued x r) := by
  subst punted
  simp only [execWindowReturn, front, met, whole, not_true_eq_false, Bool.false_eq_true, not_false_eq_true, ↓reduceIte]

/-- A rejoined packet goes to the transmit MAC when a link takes it, and else waits. -/
theorem execWindowReturn_forwarded {p : Packet} (forwarded : forward = true)
    (sound : x.packet.poisoned = false ∨ x.packet.ct = true) (tagged : (s.meet rest x).tagHandoff (x.rejoin r) = (p, u)) :
    execWindowReturn rivals s = .next ((u.sendFlit false (.transmit { p with placed := none })).elim s fun t =>
      ((t.adjust x r.delta).contest rivals fun t => t.egressMirror p).freePacket x.packet (ofQueue x.queue)) := by
  have kept : ¬ (x.packet.poisoned = true ∧ ¬ x.packet.ct = true) := by
    rintro ⟨poisoned, stored⟩
    rcases sound with sound | cut
    · exact absurd poisoned (by simp [sound])
    · exact stored cut
  subst forwarded
  simp only [execWindowReturn, front, met, whole, not_true_eq_false, ↓reduceIte, kept, tagged]
  cases u.sendFlit false (.transmit { p with placed := none }) <;> rfl

end

section
variable {x : Selected} {r : Packet} (sound : x.packet.poisoned = false)
include sound

theorem puntQueued_closed (closed : (s.chan (r.hostCode % 64)).st = .closed) : s.puntQueued x r =
    (s.bump .curPuntClosed (r.hostCode % 64)).freePacket x.packet (ofQueue x.queue) := by
  simp only [State.puntQueued, sound, closed, Bool.false_eq_true, ↓reduceIte]

theorem puntQueued_placed {b : Placed} (opened : (s.chan (r.hostCode % 64)).st ≠ .closed) (placed : x.packet.placed = some b) :
    s.puntQueued x r = (s.moveOwner b.buf (.courier (Fin.ofNat 64 (r.hostCode % 64)))).toHost (r.hostCode % 64)
      { r with data := (x.rejoin r).data, len := (x.rejoin r).len, placed := some b, fetched := x.packet.fetched,
               arrival := x.packet.arrival } := by
  simp only [State.puntQueued, sound, opened, placed, Bool.false_eq_true, ↓reduceIte]

end

/-! ## Virtual output queues (07 R230, R252; 08 R284, R286; 06 R221) -/

theorem voqMay_multicast {q : Nat} (mcast : (s.queue q).mcast = true) :
    s.voqMay q = (decide (0 ≤ s.mcNow) && s.anyEffective) := if_pos mcast

theorem voqMay_unicast {q : Nat} (unicast : (s.queue q).mcast = false) : s.voqMay q =
    (decide (0 < (s.queue q).balance) && s.effective (s.queue q).destModule && s.voqTurn q) :=
  if_neg (Bool.eq_false_iff.mp unicast)

/-- What a virtual output queue does with a whole head, by where the head's data lies. -/
def State.serveHead (s : State) (q : Nat) (p : Packet) (rest : List Packet) (readError : Bool) : HeadIs → State
  | .fenced | .coming => s
  | .lost => (s.unlink q).freePacket p (ofQueue q)
  | .here => s.voqSend q p readError
  | .deep => (s.setQueue q { s.queue q with packets := { p with fetching := true } :: rest }).readDeep .fab p

section
variable {voq : BitVec 17} {readError : Bool}

theorem execVoqSend_barred (barred : s.voqMay voq.toNat = false) : execVoqSend voq readError s = .next s := by
  rw [execVoqSend]
  exact congrArg _ (if_pos (.inl (by simp [barred])))

variable {p : Packet} {ps : List Packet} (may : s.voqMay voq.toNat = true)
  (free : (s.txStream (s.queue voq.toNat).stream).cut = none)
  (aged : u = s.ageHeads voq.toNat (s.queue voq.toNat).packets.length) (head : (u.queue voq.toNat).packets = p :: ps)
include may free aged head

theorem execVoqSend_whole (whole : p.whole = true) :
    execVoqSend voq readError s = .next (u.serveHead voq.toNat p ps readError (u.headIs p)) := by
  subst aged
  rw [execVoqSend]
  refine congrArg _ ((if_neg (by simp [may, free])).trans ?_)
  simp only [head]
  refine (if_neg (not_not_intro whole)).trans ?_
  cases (s.ageHeads voq.toNat (s.queue voq.toNat).packets.length).headIs p <;> rfl

theorem execVoqSend_cut (arriving : p.whole = false) : execVoqSend voq readError s = .next (u.sendFirst voq.toNat p) := by
  subst aged
  rw [execVoqSend]
  refine congrArg _ ((if_neg (by simp [may, free])).trans ?_)
  simp only [head]
  exact if_pos (Bool.eq_false_iff.mp arriving)

end

theorem sendFirst_running {q : Nat} {p : Packet} {r : CutRun} (running : (s.cut p.port).running = some r) (mine : r.queue = q)
    (on : r.on = true) (first : r.sent = none) : s.sendFirst q p =
      (s.packFirst (s.queue q).stream q p (((s.queue q).bytes p).take 528)).setCut p.port { s.cut p.port with
        running := some { r with sent := some (((s.queue q).bytes p).take 528).length } } := by
  simp only [State.sendFirst, running, mine, on, first, ne_eq, not_true_eq_false, Option.isSome_none, Bool.false_eq_true,
    or_self, ↓reduceIte]

section
variable {q : Nat} {p : Packet} {ps : List Packet} (head : (s.queue q).packets = p :: ps)
include head

theorem ageHeads_young (young : s.aged (s.queue q) p = false) (n : Nat) : s.ageHeads q n = s := by
  cases n with
  | zero => rfl
  | succ n => simp only [State.ageHeads, head, young, Bool.false_eq_true, ↓reduceIte]

theorem ageHeads_old (old : s.aged (s.queue q) p = true) (n : Nat) :
    s.ageHeads q (n + 1) = (s.discardAged q p).ageHeads q n := by
  simp only [State.ageHeads, head, old, ↓reduceIte]

end

/-! ## The arbiter (07 R228, R229) -/

section
variable {port : Fin 192} (present : s.hasPort port = true)
include present

theorem execArbiterGrant_barred (barred : ((s.noteStops port).portQ port).holdSt ≠ .serving ∨
    (s.noteStops port).nodePir (nodeKey 4 port) = 0 ∨ (s.noteStops port).creditNow port < 0) :
    execArbiterGrant port s = .next (s.noteStops port) := by
  rw [execArbiterGrant, onPort_present present]
  exact congrArg _ (if_pos barred)

theorem execArbiterGrant_grants {c : Nat} (serving : ((s.noteStops port).portQ port).holdSt = .serving)
    (shaped : (s.noteStops port).nodePir (nodeKey 4 port) ≠ 0) (credit : 0 ≤ (s.noteStops port).creditNow port)
    (picked : (s.noteStops port).pickClass port = (t, some c)) : execArbiterGrant port s = .next (t.grantClass port c) := by
  rw [execArbiterGrant, onPort_present present]
  simp only [serving, shaped, Int.not_lt.mpr credit, ne_eq, not_true_eq_false, or_self, ↓reduceIte, picked]

end

end

/-- Settles O32: a selection by whether its port is open, servable and in turn, a window by what it meets, a VOQ by where
its head lies, a grant by what bars it. That a multicast VOQ needs one effective bit alone (multicast), the buffer of a
punted packet (returnPunted) and the pacing charged to a head (take) are the model's choice (notes/assumptions/125.md,
122.md, 124.md). -/
theorem schedulerWindowsAndVirtualQueues : Obligations.SchedulerWindowsAndVirtualQueues := by
  refine ⟨?select, fun _ _ => rfl, ?selectGuarded, ?selectClosed, ?take, ?window, ?windowLost, ?windowFull, ?meets,
    ?returnWaits, ?returnAlone, ?returnPunted, ?returnPuntClosed, fun _ _ => ⟨rfl, rfl⟩, ?send, ?read, ?waits, ?lost,
    ?cutFirst, ?noCredit, ?multicast, ?unicast, fun _ _ => rfl, ?ageStop, ?ageDrop, ?grant, ?noCreditArb, ?held⟩
  case select =>
    rintro s u t port q path present rfl opened servable turn reaches
    rw [exec_schedulerSelect, execSchedulerSelect_turn present opened servable turn, selectPort_reaches reaches]
  case selectGuarded =>
    rintro s u port present rfl opened barred
    exact execSchedulerSelect_guarded present opened barred
  case selectClosed =>
    rintro s u port present rfl closed
    exact execSchedulerSelect_closed present closed
  case take =>
    rintro s a u port q path p ps pirs cirs rfl head debited here
    exact takeHead_here head debited here
  case window =>
    rintro s t x p ready kept sound room rfl sent
    exact execHeaderWindowSend_sent ready kept sound room sent
  case windowLost => exact fun s x ready lost => execHeaderWindowSend_lost ready lost
  case windowFull => exact fun s x ready kept sound full => execHeaderWindowSend_full ready kept sound full
  case meets =>
    intro s u t rivals r rest x p front met whole sound tagged sent
    rw [exec_windowReturn, execWindowReturn_forwarded front met whole rfl sound tagged, sent]
    rfl
  case returnWaits =>
    intro s u rivals r rest x p front met whole sound tagged refused
    rw [exec_windowReturn, execWindowReturn_forwarded front met whole rfl sound tagged, refused]
    rfl
  case returnAlone => exact fun s rivals r forward rest front alone => execWindowReturn_alone front alone
  case returnPunted =>
    rintro s u rivals r rest x b front met whole sound rfl opened placed
    rw [exec_windowReturn, execWindowReturn_punted front met whole rfl, puntQueued_placed sound opened placed]
  case returnPuntClosed =>
    rintro s u rivals r rest x front met whole sound rfl closed
    rw [exec_windowReturn, execWindowReturn_punted front met whole rfl, puntQueued_closed sound closed]
  case send =>
    intro s u voq readError p ps may free aged head whole place
    rw [exec_voqSend, execVoqSend_whole may free aged head whole, place]
    rfl
  case read =>
    intro s u voq readError p ps may free aged head whole place
    rw [exec_voqSend, execVoqSend_whole may free aged head whole, place]
    rfl
  case waits =>
    intro s u voq readError p ps may free aged head whole place
    rw [exec_voqSend, execVoqSend_whole may free aged head whole]
    rcases place with place | place <;> rw [place] <;> rfl
  case lost =>
    intro s u voq readError p ps may free aged head whole place
    rw [exec_voqSend, execVoqSend_whole may free aged head whole, place]
    rfl
  case cutFirst =>
    rintro s u voq readError p ps r bytes may free aged head arriving running mine on first rfl
    rw [exec_voqSend, execVoqSend_cut may free aged head arriving, sendFirst_running running mine on first]
  case noCredit => exact fun s voq readError barred => execVoqSend_barred barred
  case multicast => exact fun s q mcast => voqMay_multicast mcast
  case unicast => exact fun s q unicast => voqMay_unicast unicast
  case ageStop => exact fun s q n p ps head young => ageHeads_young head young n
  case ageDrop => exact fun s q n p ps head old => ageHeads_old head old n
  case grant =>
    exact fun s t port c present serving shaped credit picked => execArbiterGrant_grants present serving shaped credit picked
  case noCreditArb => exact fun s port present owed => execArbiterGrant_barred present (.inr (.inr owed))
  case held => exact fun s port present held => execArbiterGrant_barred present (.inl held)

end Sys2Proof.Machine

namespace Sys2Proof.Machine

/-! # Hold timers, flushes, gate lists and deferred switches (07 R243-R251; 02 R56, R57) -/

section
variable {s : State}

/-! ## An armed page at its T, and a deferred one (02 R56, R57) -/

theorem pageDue_switch {p : Page} (armed : p.state = .armed) (due : p.t = 0 ∨ p.t ≤ s.units ∧ p.good.getD s.timeGood = true) :
    s.pageDue p = .switch := by
  rcases due with now | ⟨past, good⟩
  · simp only [State.pageDue, armed, now, ne_eq, not_true_eq_false, ↓reduceIte]
  · simp only [State.pageDue, armed, good, Nat.not_lt.mpr past, ne_eq, not_true_eq_false, ↓reduceIte, ite_self]

theorem pageDue_defer {p : Page} (armed : p.state = .armed) (timed : p.t ≠ 0) (past : p.t ≤ s.units)
    (poor : p.good.getD s.timeGood = false) : s.pageDue p = .defer := by
  simp only [State.pageDue, armed, timed, poor, Nat.not_lt.mpr past, ne_eq, not_true_eq_false, Bool.false_eq_true, ↓reduceIte]

theorem deferredDue_of_good {p : PageState} (deferred : p = .deferred) (good : s.goodFor 1000000 = true)
    (crossed : s.crossed 100000 = true) : s.deferredDue p = true := by
  simp [State.deferredDue, deferred, good, crossed]

theorem deferredDue_of_poor (p : PageState) (poor : s.goodFor 1000000 = false) : s.deferredDue p = false := by
  simp [State.deferredDue, poor]

/-- No deferred page switches before quality has been good for 1 ms. -/
theorem execDeferredSwitch_poor (page : PageRef) (poor : s.goodFor 1000000 = false) : execDeferredSwitch page s = .next s := by
  cases page <;> simp only [execDeferredSwitch, deferredDue_of_poor _ poor, Bool.false_eq_true, ↓reduceIte]

/-! ## The end of a hold (07 R249, R251) -/

section
variable {port : Fin 192} (present : s.hasPort port = true)
include present

theorem execHoldExpiry_due (held : (s.portQ port).holdSt = .held) (due : (s.portQ port).heldAt + (s.portQ port).hold < s.up) :
    execHoldExpiry port s = .next (s.holdExpire port) := by
  rw [execHoldExpiry, onPort_present present]
  exact congrArg _ (if_pos ⟨held, due⟩)

theorem execHoldExpiry_running (running : s.up ≤ (s.portQ port).heldAt + (s.portQ port).hold) :
    execHoldExpiry port s = .next s := by
  rw [execHoldExpiry, onPort_present present]
  exact congrArg _ (if_neg fun ⟨_, due⟩ => Nat.not_lt.mpr running due)

end

/-- A port that comes up at the very expiry of its hold time, or before, serves again. -/
theorem portUp_inTime {u : State} {p : Nat} (told : u = s.event (s.owner 0x14 p) (s.mkEvent 0x0001 p))
    (held : (u.portQ p).holdSt = .held) (inTime : u.up ≤ (u.portQ p).heldAt + (u.portQ p).hold) :
    s.portUp p = u.setPortQ p { u.portQ p with holdSt := .serving } := by
  subst told
  simp only [State.portUp, held, Nat.not_lt.mpr inTime, and_false, ↓reduceIte]

/-! ## Flushes (07 R243, R251) -/

section
variable {q : Nat}

theorem flush_of_empty (empty : (s.queue q).packets = []) (n : Nat) : s.flushQueue q n = s ∧ s.flushHeld q n = s := by
  cases n with
  | zero => exact ⟨rfl, rfl⟩
  | succ n => simp only [State.flushQueue, State.flushHeld, empty, and_self]

variable {p : Packet} {ps : List Packet} (head : (s.queue q).packets = p :: ps)
include head

theorem flushQueue_head (n : Nat) :
    s.flushQueue q (n + 1) = (((s.unlink q).freePacket p (ofQueue q)).sparse 9 q).flushQueue q n := by
  simp only [State.flushQueue, head]

/-- The head goes to the dead-letter queue when that takes cause 1, and is freed and counted otherwise. -/
theorem flushHeld_head (n : Nat) : s.flushHeld q (n + 1) = (
    if (s.unlink q).dlqTakes 1 then (s.unlink q).dlqEnter 1 q [] p (ofQueue q)
    else ((s.unlink q).freePacket p (ofQueue q)).sparse 9 q).flushHeld q n := by
  simp only [State.flushHeld, head]

end

theorem execQueueFlushComplete_named {queue : BitVec 19} {l : LetterId} (named : (s.queue queue.toNat).flush = some l) :
    execQueueFlushComplete queue s = .next (((s.setQueue queue.toNat { s.queue queue.toNat with flush := none }).flushQueue
      queue.toNat (s.queue queue.toNat).packets.length).release l) := by
  simp only [execQueueFlushComplete, named]

section
variable {port : Fin 192} (present : s.hasPort port = true)
include present

theorem execPortFlushComplete_flushing {u : State} (flushing : (s.portQ port).flushing = true)
    (flushed : u = (s.portQueues port).foldl (fun s q => s.flushHeld q (s.queue q).packets.length) s) :
    execPortFlushComplete port s = .next (u.setPortQ port { u.portQ port with
      flushing := false, upPending := false
      holdSt := if (u.portQ port).upPending then .serving else (u.portQ port).holdSt }) := by
  subst flushed
  rw [execPortFlushComplete, onPort_present present]
  exact congrArg _ (if_neg (not_not_intro flushing))

/-! ## Gate lists (07 R245, R246) -/

theorem execGateEntryAdvance_due {g : Gate} (entry : (s.portQ port).gates[(s.portQ port).gateIdx]? = some g)
    (due : (s.portQ port).gateAt + g.interval * 65536 ≤ s.units) : execGateEntryAdvance port s = .next (s.setPortQ port {
      s.portQ port with
      gateIdx := ((s.portQ port).gateIdx + 1) % (s.portQ port).gates.length
      gateAt := (s.portQ port).gateAt + g.interval * 65536 }) := by
  rw [execGateEntryAdvance, onPort_present present]
  simp only [entry, Nat.not_lt.mpr due, ↓reduceIte]

variable (started : (s.portQ port).gatesT ≤ s.units)
include started

theorem execGateListSwitch_due (due : s.pageDue (s.portQ port).gatesPage = .switch) :
    execGateListSwitch port s = .next (s.switchGates port (s.portQ port).gatesT) := by
  rw [execGateListSwitch, onPort_present present]
  simp only [Nat.not_lt.mpr started, due, ↓reduceIte]

theorem execGateListSwitch_deferred (due : s.pageDue (s.portQ port).gatesPage = .defer) :
    execGateListSwitch port s = .next ((s.setPortQ port { s.portQ port with
      gatesPage := { (s.portQ port).gatesPage with state := .deferred } }).pageDeferred 3 port (s.owner 0x14 port)) := by
  rw [execGateListSwitch, onPort_present present]
  simp only [Nat.not_lt.mpr started, due, ↓reduceIte]

end

end

/-- Settles O33: a hold by whether its time has run, a flush by what its queue holds, a gate list and a deferred page by
whether it is due. -/
theorem holdsFlushesAndGates : Obligations.HoldsFlushesAndGates := by
  refine ⟨?expiry, ?upWins, ?running, ?flushQueue, ?flushEmpty, ?flushNext, ?flushPort, ?advance, ?switch, ?defer,
    ?deferredGates, ?deferredEpoch, ?notDue⟩
  case expiry => exact fun s port present held due => execHoldExpiry_due present held due
  case upWins => exact fun s u p told held inTime => portUp_inTime told held inTime
  case running => exact fun s port present running => execHoldExpiry_running present running
  case flushQueue => exact fun s queue l named => execQueueFlushComplete_named named
  case flushEmpty => exact fun s q n empty => flush_of_empty empty n
  case flushNext =>
    intro s q n p ps head
    refine ⟨flushQueue_head head n, fun refused => ?_, fun takes => ?_⟩
    · rw [flushHeld_head head, if_neg (Bool.eq_false_iff.mp refused)]
    · rw [flushHeld_head head, if_pos takes]
  case flushPort => exact fun s u port present flushing flushed => execPortFlushComplete_flushing present flushing flushed
  case advance => exact fun s port g present entry due => execGateEntryAdvance_due present entry due
  case switch =>
    exact fun s port present started armed due => execGateListSwitch_due present started (pageDue_switch armed due)
  case defer =>
    exact fun s port present started armed timed past poor =>
      execGateListSwitch_deferred present started (pageDue_defer armed timed past poor)
  case deferredGates =>
    exact fun s p deferred good crossed => congrArg _ (if_pos (deferredDue_of_good deferred good crossed))
  case deferredEpoch =>
    exact fun s deferred good crossed => congrArg _ (if_pos (deferredDue_of_good deferred good crossed))
  case notDue => exact fun s page poor => execDeferredSwitch_poor page poor

end Sys2Proof.Machine

namespace Sys2Proof.Machine

/-! # Resets, the PCI Express function and the reference clocks (16 R463-R468, R475; 11 R345; 12 R375, R385) -/

section
variable {s : State}

/-! ## Resets (16 R463, R467, R475; the state that a whole-module reset leaves is the model's choice,
notes/assumptions/33.md) -/

/-- What a whole-module reset keeps and what it starts anew. -/
theorem wholeReset_leaves (s : State) (k : Nat) : (s.wholeReset k).power.rails = s.power.rails ∧
    (s.wholeReset k).power.stage = .reset ∧ (s.wholeReset k).power.domains = s.power.domains &&& 1#160 ∧
    (s.wholeReset k).power.cause = s.power.cause ||| BitVec.ofNat 9 (2 ^ k) ∧ (s.wholeReset k).pm = {} ∧
    (s.wholeReset k).letters = {} ∧ (s.wholeReset k).time.state = .freerun :=
  ⟨rfl, rfl, rfl, rfl, rfl, rfl, rfl⟩

theorem execResetNRelease_powered (held : s.power.resetN = true) (rails : s.power.rails = true) :
    exec .resetNRelease s = .next { s with power := { s.power with resetN := false, good := some s.up } } := by
  have release : exec .resetNRelease s = .next (s.modPower fun p => { p with
      resetN := false, good := if p.rails then some s.up else p.good }) := congrArg _ (if_neg (not_not_intro held))
  simp only [release, State.modPower, rails, ↓reduceIte]

section
variable (up : s.power.hkUp = true)
include up

theorem execResetNAssert_resets :
    exec .resetNAssert s = .next ((s.modPower fun p => { p with resetN := true }).wholeReset 5) :=
  congrArg _ (if_pos up)

theorem execHousekeepingWatchdog_restarts : exec .housekeepingWatchdog s = .next { s with power := { s.power with
    hkAt := s.up, cause := s.power.cause ||| BitVec.ofNat 9 (2 ^ 7) } } :=
  congrArg _ (if_pos up)

/-! ## The PCI Express function (16 R468; 12 R375, R385; notes/assumptions/107.md, 105.md) -/

theorem execPcieReset_resets (kind : PcieResetKind) : exec (.pcieReset kind) s = .next (s.pcieReset (pcieKind kind)) :=
  congrArg _ (if_pos up)

theorem execConfigurationWrite_pasid (on : Bool) : exec (.configurationWrite (.pasidEnable on)) s =
    .next { s with courier := { s.courier with pasidOn := on } } :=
  congrArg _ (if_neg (not_not_intro up))

/-- A size that the function supports is taken as it is written. -/
theorem execConfigurationWrite_maxPayload {code : BitVec 3} (supported : code.toNat ≤ 2) :
    exec (.configurationWrite (.maxPayload code)) s =
      .next { s with courier := { s.courier with maxPayload := 128 * 2 ^ code.toNat } } := by
  have write : exec (.configurationWrite (.maxPayload code)) s = .next { s with courier := { s.courier with
      maxPayload := 128 * 2 ^ min 2 code.toNat } } := congrArg _ (if_neg (not_not_intro up))
  rw [write, Nat.min_eq_right supported]

/-! ## The reference clocks (16 R466; 02 R43) -/

/-- The parts that a reference clocks go with it: the SerDes PLLs, or the PCI Express link. -/
def State.loseClocked (s : State) : RefInput → State
  | .serdes => s.loseSerdes
  | .pcie => s.pcieReset 2
  | .ref25m | .ref10m => s

/-- A reference that was there is noted as lost, its fault stands, and the parts that it clocks follow. -/
theorem execReferenceLost_first {input : RefInput} (there : s.power.lost.getLsbD (refNumber input) = false) :
    exec (.referenceLost input) s =
      .next (((s.modPower fun p => { p with lost := p.lost ||| BitVec.ofNat 4 (2 ^ refNumber input) }).condition 0x1005
        (refNumber input) true 0 0 (some (if refNumber input = 0 then 3 else 2))).loseClocked input) := by
  have acts : ¬ (s.power.lost.getLsbD (refNumber input) = true ∨ ¬ s.power.hkUp = true) :=
    not_or_intro (Bool.eq_false_iff.mp there) (not_not_intro up)
  cases input <;> exact congrArg _ (if_neg acts)

theorem execReferenceLost_clock {input : RefInput} (clock : input = .ref25m ∨ input = .ref10m)
    (there : s.power.lost.getLsbD (refNumber input) = false) : exec (.referenceLost input) s =
      .next ((s.modPower fun p => { p with lost := p.lost ||| BitVec.ofNat 4 (2 ^ refNumber input) }).condition 0x1005
        (refNumber input) true 0 0 (some 2)) := by
  rw [execReferenceLost_first up there]
  obtain rfl | rfl := clock <;> rfl

end

/-- A reference that was lost is back: its fault clears. -/
theorem execReferenceRegained_clears {input : RefInput} (lost : s.power.lost.getLsbD (refNumber input) = true) :
    exec (.referenceRegained input) s = .next ((s.modPower fun p => { p with
      lost := p.lost &&& ~~~BitVec.ofNat 4 (2 ^ refNumber input) }).clearFault 0x1005 (refNumber input)) :=
  congrArg _ (if_neg (not_not_intro lost))

end

/-- Settles O56: the housekeeping controller acts on each event that finds it up, and a reference's loss or return counts
once. What a whole-module reset leaves is the model's choice (notes/assumptions/33.md), as are the PCI Express function's
reset and PASID (107.md), the maximum payload (105.md), and that a loss leaves a LOCKED state as it is (120.md). -/
theorem resetsAndReferences : Obligations.ResetsAndReferences := by
  refine ⟨?resetN, wholeReset_leaves, ?release, ?watchdog, ?pcie, ?pasid, ?payload, ?lostRef, ?lostSerdes, ?lostPcie, ?regained⟩
  case resetN => exact fun s up => execResetNAssert_resets up
  case release => exact fun s held rails => execResetNRelease_powered held rails
  case watchdog => exact fun s up => execHousekeepingWatchdog_restarts up
  case pcie => exact fun s kind up => execPcieReset_resets up kind
  case pasid => exact fun s on up => execConfigurationWrite_pasid up on
  case payload => exact fun s code up supported => execConfigurationWrite_maxPayload up supported
  case lostRef => exact fun s input clock there up => execReferenceLost_clock up clock there
  case lostSerdes => exact fun s there up => execReferenceLost_first up (input := .serdes) there
  case lostPcie => exact fun s there up => execReferenceLost_first up (input := .pcie) there
  case regained => exact fun s input lost => execReferenceRegained_clears lost

end Sys2Proof.Machine

namespace Sys2Proof.Machine

/-! # The MODULE letters (10 R316, R321, R324, R341, R342, R344, R521; 02 R75, R77; 16 R467, R472) -/

section
variable {s : State} {l : LetterId}

/-! ## Identity and the compatibility window (10 R521; 16 R472; 02 R75, R77) -/

theorem execModuleIdentify_accepted (h : Claimed s l 0x0101 []) : ∃ t, exec (.moduleIdentify l) s = .next t ∧
    Accepted s s t l .done (p4 s.ident ++ n4 0 ++ p8 s.variant.units ++ leBytes Config.serial.toNat 12 ++ n4 0 ++
      (List.range 6).flatMap fun p => n4 (if p = 3 ∧ ¬ s.variant.envelope then 0 else (s.bank p (s.activeBank p)).version)) :=
  ⟨_, rfl, runLetter_accepted h fun _ _ => rfl⟩

section
variable {m : W32} (h : Claimed s l 0x0102 [p4 m]) (id_high : m.toNat ≤ 127)
  (off : ∀ i < s.variant.links, (s.link i).st = .off) (apart : s.selfIsolated = false)
include h id_high off apart

/-- A module that is not isolated takes a number while all its links are off; only the first enables them. -/
theorem execModuleSetId_accepted : ∃ t, exec (.moduleSetId l m) s = .next t ∧ Accepted s
    (State.updateMap (if s.regs.moduleId.isNone then
        (State.clearFault { s with regs := { s.regs with moduleId := some (BitVec.ofNat 7 m.toNat) } } 0x0002 noObject).enableLinks
      else { s with regs := { s.regs with moduleId := some (BitVec.ofNat 7 m.toNat) } })) t l .done (layBody [p4 m]) := by
  have id_ok : ¬ 127 < m.toNat := by omega
  refine ⟨_, rfl, runLetter_accepted h fun _ _ => (checked_ok ?_).trans ?_⟩
  · simp +contextual [malformed, busy, id_ok, off]
  · rw [apart]; rfl

theorem execModuleSetId_first (first : s.regs.moduleId = none) : ∃ t, exec (.moduleSetId l m) s = .next t ∧ Accepted s
    (State.clearFault { s with regs := { s.regs with moduleId := some (BitVec.ofNat 7 m.toNat) } } 0x0002
      noObject).enableLinks.updateMap t l .done (layBody [p4 m]) := by
  simpa only [first, Option.isNone_none, ↓reduceIte] using execModuleSetId_accepted h id_high off apart

theorem execModuleSetId_again {k : BitVec 7} (again : s.regs.moduleId = some k) : ∃ t,
    exec (.moduleSetId l m) s = .next t ∧ Accepted s
      (State.updateMap { s with regs := { s.regs with moduleId := some (BitVec.ofNat 7 m.toNat) } }) t l .done
      (layBody [p4 m]) := by
  simpa only [again, Option.isNone_some, Bool.false_eq_true, ↓reduceIte] using execModuleSetId_accepted h id_high off apart

end

section
variable {low high : W32} (h : Claimed s l 0x0103 [p4 low, p4 high])
include h

theorem execModuleSetCompat_accepted (ordered : low.toNat ≤ high.toNat) : ∃ t,
    exec (.moduleSetCompat l low high) s = .next t ∧ Accepted s (State.updateMap { s with
      epoch := { s.epoch with compatLow := low, compatHigh := high, compatSet := true } }) t l .done
      (layBody [p4 low, p4 high]) := by
  refine ⟨_, rfl, runLetter_accepted h fun _ _ => (checked_ok ?_).trans rfl⟩
  simpa [malformed] using ordered

/-- The second bound is the parameter that is named (notes/assumptions/109.md). -/
theorem execModuleSetCompat_reversed (reversed : high.toNat < low.toNat) : ∃ t,
    exec (.moduleSetCompat l low high) s = .next t ∧ Rejected s t l .malformed 1 := by
  refine ⟨_, rfl, runLetter_rejected h (r := ⟨.malformed, 1, 0⟩) fun _ _ => ?_⟩
  simp only [malformed, reversed, decide_true]
  exact checked_rejected (cs := []) (by simp)

end

/-! ## The management ports (10 R324) -/

theorem execModuleSetMgmt_accepted {a : MgmtArgs} {v : MgmtPort} {ps : List Par} (port : v = {
      vlan := a.vlan.toNat, ipv4 := a.ipv4, ipv4Plen := a.ipv4Plen.toNat, ipv4Gw := a.ipv4Gw, ipv6 := a.ipv6,
      ipv6Plen := a.ipv6Plen.toNat, ipv6Gw := a.ipv6Gw })
    (params : ps = [p4 a.port, p4 a.vlan, p4be a.ipv4, p4 a.ipv4Plen, p4be a.ipv4Gw, pBe a.ipv6.toNat 16, p4 a.ipv6Plen,
      pBe a.ipv6Gw.toNat 16])
    (h : Claimed s l 0x0109 ps) (port_le : a.port.toNat ≤ 1) (vlan_le : a.vlan.toNat ≤ 4094)
    (plen4 : badPlen a.ipv4.toNat a.ipv4Plen.toNat 8 30 = false)
    (gateway4 : badGateway 32 a.ipv4.toNat a.ipv4Plen.toNat a.ipv4Gw.toNat = false)
    (plen6 : badPlen a.ipv6.toNat a.ipv6Plen.toNat 48 128 = false)
    (gateway6 : badGateway 128 a.ipv6.toNat a.ipv6Plen.toNat a.ipv6Gw.toNat = false) :
    ∃ t, exec (.moduleSetMgmt l a) s = .next t ∧
      Accepted s { s with mgmt := { s.mgmt with ports := nset {} a.port.toNat v s.mgmt.ports } } t l .done (layBody ps) := by
  subst port params
  have port_ok : ¬ 1 < a.port.toNat := by omega
  have vlan_ok : ¬ 4094 < a.vlan.toNat := by omega
  refine ⟨_, rfl, runLetter_accepted h fun _ _ => (checked_ok ?_).trans rfl⟩
  simp only [List.forall_mem_cons, List.not_mem_nil, false_implies, implies_true, malformed, port_ok, vlan_ok, plen4, gateway4,
    plen6, gateway6, decide_false, and_self]

/-! ## Rings (10 R316, R321, R341, R342, R344) -/

/-- An accepted letter leaves the rings as its effect left them. -/
theorem Accepted.ring {base t : State} {st : Status} {block : List Byte} {waits : Bool}
    (accepted : Accepted s base t l st block waits) (i j : Nat) : t.ring i j = base.ring i j := by
  obtain ⟨e, rfl, -⟩ := accepted
  rfl

/-- Rings 1 to 7 may be opened and closed. -/
theorem ringNumber_passes {ring : W32} (low : 1 ≤ ring.toNat) (high : ring.toNat ≤ 7) : (ringNumber ring).1 = false := by
  have low_ok : ¬ ring.toNat < 1 := by omega
  have high_ok : ¬ 7 < ring.toNat := by omega
  simp only [ringNumber, malformed, low_ok, high_ok, decide_false, Bool.or_false]

section
variable {ring : W32} (low : 1 ≤ ring.toNat) (high : ring.toNat ≤ 7)
include low high

section
variable {letters receipts : W64} {depth : W32} (h : Claimed s l 0x0104 [p4 ring, p8 letters, p8 receipts, p4 depth])
  (letters_aligned : letters.toNat % 4096 = 0) (receipts_aligned : receipts.toNat % 4096 = 0)
  (depth_ok : badDepth depth = false)
include h letters_aligned receipts_aligned depth_ok

theorem execModuleOpenRing_accepted (stopped : (s.ring l.slice ring.toNat).st ≠ .running)
    (drained : (s.ring l.slice ring.toNat).st ≠ .closing) : ∃ t,
    exec (.moduleOpenRing l ring letters receipts depth) s = .next t ∧ Accepted s ((s.setRing l.slice ring.toNat {
      st := .running, letters := letters, receipts := receipts, depth := depth.toNat
      ready := (s.ring l.slice ring.toNat).ready
      reserved := (s.ring l.slice ring.toNat).reserved - (s.ring l.slice ring.toNat).retake.length }).clearFault 0x0A02
        (256 * l.slice.val + ring.toNat)) t l .done (layBody [p4 ring, p8 letters, p8 receipts, p4 depth]) := by
  refine ⟨_, rfl, runLetter_accepted h fun c hc => ?_⟩
  subst hc
  refine (checked_ok ?_).trans rfl
  simp [malformed, busy, ringNumber_passes low high, letters_aligned, receipts_aligned, depth_ok, Ctx.sl, stopped, drained]

theorem execModuleOpenRing_busy (runs : (s.ring l.slice ring.toNat).st = .running) : ∃ t,
    exec (.moduleOpenRing l ring letters receipts depth) s = .next t ∧ Rejected s t l .busy 0 := by
  refine ⟨_, rfl, runLetter_rejected h (r := ⟨.busy, 0, 0⟩) fun c hc => ?_⟩
  subst hc
  simp only [Ctx.sl, runs, busy, decide_true, Bool.true_or]
  refine checked_rejected (cs := [ringNumber ring, malformed (decide (letters.toNat % 4096 ≠ 0)) 1,
    malformed (decide (receipts.toNat % 4096 ≠ 0)) 2, malformed (badDepth depth) 3]) ?_
  simp [malformed, ringNumber_passes low high, letters_aligned, receipts_aligned, depth_ok]

end

/-- The ring stands as the letter found it, but CLOSING on the letter's behalf. -/
def State.closeRing (s : State) (l : LetterId) (r : Nat) : State :=
  s.setRing l.slice r { s.ring l.slice r with st := .closing, close := some l }

/-- A ring that runs starts to close, and is closed at once when it is this letter's to drain. -/
theorem execModuleCloseRing_accepted (h : Claimed s l 0x0105 [p4 ring]) (runs : (s.ring l.slice ring.toNat).st = .running) :
    ∃ t, Accepted s (s.closeRing l ring.toNat) t l .done (layBody [p4 ring]) true ∧ exec (.moduleCloseRing l ring) s =
      .next (if (s.ring l.slice ring.toNat).close ≠ some l ∧ (t.ring l.slice ring.toNat).close = some l then
        t.ringDrained l.slice ring.toNat else t) := by
  refine ⟨_, ?_, rfl⟩
  refine runLetter_accepted h fun c hc => ?_
  subst hc
  refine (checked_ok ?_).trans (if_pos runs)
  simp [noObj, busy, ringNumber_passes low high, Ctx.sl, runs]

/-- A ring that did not close for this letter yet closes for it, once it is drained. -/
theorem execModuleCloseRing_drains (h : Claimed s l 0x0105 [p4 ring]) (runs : (s.ring l.slice ring.toNat).st = .running)
    (other : (s.ring l.slice ring.toNat).close ≠ some l) : ∃ t,
    Accepted s (s.closeRing l ring.toNat) t l .done (layBody [p4 ring]) true ∧
    exec (.moduleCloseRing l ring) s = .next (t.ringDrained l.slice ring.toNat) := by
  obtain ⟨t, accepted, next⟩ := execModuleCloseRing_accepted low high h runs
  have closing : (t.ring l.slice ring.toNat).close = some l := by rw [accepted.ring, State.closeRing, ring_setRing]
  exact ⟨t, accepted, next.trans (congrArg _ (if_pos ⟨other, closing⟩))⟩

end

theorem execModuleSetEventRing_accepted {events : W64} {depth : W32} (h : Claimed s l 0x0106 [p8 events, p4 depth])
    (depth_ok : badDepth depth = false) : ∃ t, exec (.moduleSetEventRing l events depth) s = .next t ∧
    Accepted s ((s.setEvRing l.slice {
      defined := true, addr := events, depth := depth.toNat, queue := (s.evRing l.slice).queue
      lost := (s.evRing l.slice).lost || !(s.evRing l.slice).defined || (s.evRing l.slice).stopped }).clearFault 0x0A02
        (256 * l.slice.val + 8)) t l .done (layBody [p8 events, p4 depth]) := by
  refine ⟨_, rfl, runLetter_accepted h fun c hc => ?_⟩
  subst hc
  refine (checked_ok ?_).trans rfl
  simp [malformed, depth_ok]

/-! ## Reset (13 R396; 14 R427; 16 R467) -/

/-- The postmasters restart in turn, unless an image is being activated. -/
theorem execModuleReset_postmasters (h : Claimed s l 0x0108 [p4 0#32]) (rolls : s.images.act.st ≠ .rolling)
    (back : s.images.act.st ≠ .rollingBack) : ∃ t, exec (.moduleReset l 0#32) s = .next t ∧
      Accepted s { s with pm := { s.pm with resetPhase := 1 } } t l .done (layBody [p4 0#32]) := by
  refine ⟨_, rfl, runLetter_accepted h fun _ _ => (checked_ok ?_).trans rfl⟩
  simp [malformed, busy, rolls, back]

theorem execModuleReset_rolling (h : Claimed s l 0x0108 [p4 0#32]) (rolls : s.images.act.st = .rolling) : ∃ t,
    exec (.moduleReset l 0#32) s = .next t ∧ Rejected s t l .busy 0 := by
  refine ⟨_, rfl, runLetter_rejected h (r := ⟨.busy, 0, 0⟩) fun _ _ => ?_⟩
  simp only [busy, rolls, decide_true, Bool.true_or, Bool.and_self]
  exact checked_rejected (cs := [malformed (decide (1 < (0#32).toNat)) 0]) (by simp [malformed])

/-- The reset of the whole module waits for the letter's receipt. -/
theorem execModuleReset_module (h : Claimed s l 0x0108 [p4 1#32]) : ∃ t, exec (.moduleReset l 1#32) s = .next t ∧
    Accepted s { s with power := { s.power with resetAfter := some l } } t l .done (layBody [p4 1#32]) := by
  refine ⟨_, rfl, runLetter_accepted h fun _ _ => (checked_ok ?_).trans rfl⟩
  simp [malformed, busy]

end

/-- Settles O59: each letter by its checks, and CLOSE_RING by the ring that its acceptance leaves. The parameter that a
compatibility range in reverse names, OPEN_RING on a ring that was open before, and what SET_EVENT_RING keeps are the
model's choice (notes/assumptions/109.md). -/
theorem moduleLetters : Obligations.ModuleLetters := by
  refine ⟨?identify, ?setId, ?setIdAgain, ?setCompat, ?compatRange, ?mgmt, ?openRing, ?openBusy, ?closeOpen, ?eventRing,
    ?reset0, ?reset0Busy, ?reset1⟩
  case identify => exact fun s l h => execModuleIdentify_accepted h
  case setId => rintro s _ l m h id_high off first apart rfl; exact execModuleSetId_first h id_high off apart first
  case setIdAgain => rintro s _ l m _ k h id_high off again apart rfl; exact execModuleSetId_again h id_high off apart again
  case setCompat => exact fun s l low high h ordered => execModuleSetCompat_accepted h ordered
  case compatRange => exact fun s l low high h reversed => execModuleSetCompat_reversed h reversed
  case mgmt =>
    exact fun s l a v ps port params h port_le vlan_le plen4 gateway4 plen6 gateway6 =>
      execModuleSetMgmt_accepted port params h port_le vlan_le plen4 gateway4 plen6 gateway6
  case openRing =>
    exact fun s l ring letters receipts depth h low high letters_aligned receipts_aligned depth_ok stopped drained =>
      execModuleOpenRing_accepted low high h letters_aligned receipts_aligned depth_ok stopped drained
  case openBusy =>
    exact fun s l ring letters receipts depth h low high letters_aligned receipts_aligned depth_ok runs =>
      execModuleOpenRing_busy low high h letters_aligned receipts_aligned depth_ok runs
  case closeOpen => exact fun s l ring h low high runs other => execModuleCloseRing_drains low high h runs other
  case eventRing => exact fun s l events depth h depth_ok => execModuleSetEventRing_accepted h depth_ok
  case reset0 => exact fun s l h rolls back => execModuleReset_postmasters h rolls back
  case reset0Busy => exact fun s l h rolls => execModuleReset_rolling h rolls
  case reset1 => exact fun s l h => execModuleReset_module h

end Sys2Proof.Machine
